-- ==== Sys2Proof/Word.lean ====
section
/-! DEFINITION. The words of the block: 64-bit registers and sentence times, and bytes (R5, R6, R9). -/

namespace Sys2Proof

/-- A 64-bit word: a register of up to 64 bits, or a sentence time. -/
abbrev Word := BitVec 64

/-- A byte of a frame, a stored format or the flash. -/
abbrev Byte := BitVec 8

end Sys2Proof
end

