-- ==== Sys2Proof/Syntax.lean ====
section
/-! DEFINITION. The commands of the block: one constructor of `Instr` for each row of spec/opcode_table.json, with the
operands the row's rule gives it. A row that is a register command carries the tenant that writes and the word
written; a row that is a message carries its bytes; a row that is a physical event carries what was measured. -/

namespace Sys2Proof

/-- The producers of queue items, in the order of the table of R226 (used by R227 for one window). -/
inductive Producer where
  | signet | replay | relay | clasp | spill | geyser | supervisor | time | notifier | locket | internal
  deriving DecidableEq, Repr

/-- What an item of a link queue is: a sealed frame, an IST control message, a management message, or a layer-2
message of the time system; anything else is a unit's own. -/
inductive ItemKind where
  | sealed | control | mgmt | ptp | esmc | other
  deriving DecidableEq, Repr

/-- A network address a management message came from or goes to. -/
structure NetAddr where
  mac : Nat
  v4 : Bool
  ip : Nat
  port : Nat
  deriving DecidableEq, Repr

/-- What the store learns from a readout: its frame with the trigger record, or with the window end record (R291). -/
structure WinMark where
  close : Bool
  /-- T, origin device and sequence, START and END of the window. -/
  time : Nat
  device : Nat
  seq : Nat
  start : Nat
  stop : Nat
  deriving DecidableEq, Repr

/-- An item of a queue unit: its bytes, and what its producer and consumer know of it. -/
structure Item where
  /-- Content, from byte 0. -/
  data : List Byte
  kind : ItemKind := .other
  /-- Stream of a sealed frame; 8192 when the item is no frame of a stream. -/
  stream : Nat := 8192
  /-- FRAME_SEQ of a sealed frame. -/
  seq : Nat := 0
  /-- Endpoint of the link or ring port it is bound for; 256 for none. -/
  endpoint : Nat := 256
  /-- Launch time L of a scheduled item (R340). -/
  launch : Option Nat := none
  /-- OFLAGS and ATTEMPT of the prefix (R323). -/
  oflags : Nat := 0
  /-- Where a management message goes. -/
  addr : Option NetAddr := none
  /-- First four bytes of the CHAIN_NONCE of a sealed frame's chain (R342). -/
  chain : Nat := 0
  attempt : Nat := 0
  /-- An uncorrectable memory error lies in one of its cells (R521). -/
  faulty : Bool := false
  /-- Its launch has been counted as late (R340, R356). -/
  late : Bool := false
  /-- It heads or ends a readout. -/
  win : Option WinMark := none
  /-- A replayed spill frame to be released when it is acknowledged, or once it is committed: spill object and the
  frame's number (R315). -/
  spilled : Option (Nat × Nat) := none
  freed : Option (Nat × Nat) := none
  deriving DecidableEq, Repr

/-- A memory word of R521, by its storage. -/
inductive MemSite where
  /-- A cell of a stratum of a stream in the hot pool: the copy at a place in it. -/
  | hotStratum (stream index copy : Nat)
  /-- A cell of a queue item: its place counted from the oldest committed item. -/
  | queueItem (queue item : Nat)
  /-- A record of the near buffer, by its place counted from the oldest. -/
  | nearBuffer (record : Nat)
  /-- A word of a rule of the active or shadow bank. -/
  | rule (active : Bool) (rule : Nat)
  /-- A frame in the retention memory of a port: its place in the port's list. -/
  | retention (ring : Bool) (port frame : Nat)
  /-- An entry of the key store. -/
  | key (entry : Nat)
  /-- A word of the flash. -/
  | flash (address : Nat)
  /-- A triplicated register or unit bit: voted at every read. -/
  | register (address : Nat)
  deriving DecidableEq, Repr

/-- Why a reset or an event restarts the device: how long the start sequence took to reach local ready (R57, R59). -/
structure StartRun where
  micros : Nat
  deriving DecidableEq, Repr

/-- How loaded the fabric is when a frame's sentences pass (R192, R216, R219): what no command can compute from the
block's state, because it depends on bandwidth. -/
structure Load where
  /-- Bytes free in the lane's ingress buffer. -/
  room : Nat := 32768
  /-- Cells of copies that Caldera's admission can take in the window; `none`: all that come. -/
  cells : Option Nat := none
  /-- The near-buffer region's write share is spent. -/
  regionBusy : Bool := false
  deriving DecidableEq, Repr

/-- An uplink frame of a lane as received: its bytes from the header to the CRC, and the RS codewords it overlapped
that were corrected or uncorrectable (R113). -/
structure LaneRx where
  bytes : List Byte
  corrected : Nat := 0
  uncorrectable : Nat := 0
  deriving DecidableEq, Repr
/-- A record of the store: the header fields of R289 and the frame it holds. -/
structure StoredRec where
  rkind : Nat
  prio : Nat
  gap : Bool := false
  object : Nat := 0
  item : Item
  deriving DecidableEq, Repr

/-- What a drive holds in one data chunk (R284): records, or the parity of a stripe's data chunks. -/
inductive StoredChunk where
  | data (recs : List StoredRec)
  | parity (chunks : List (List StoredRec))
  deriving DecidableEq, Repr

/-- A journal record (R295); `intact`: its own CRC holds (R302). -/
structure JournalRec where
  jseq : Nat := 0
  kind : Nat
  chunks : Nat := 0
  map : Nat := 0
  stripe : Nat := 0
  subject : Nat := 0
  aux : Nat := 0
  count : Nat := 0
  a : Nat := 0
  b : Nat := 0
  c : Nat := 0
  d : Nat := 0
  intact : Bool := true
  deriving DecidableEq, Repr

/-- A journal block (R294); one without records is no valid block. -/
structure JournalBlock where
  number : Nat := 0
  first : Nat := 0
  setId : Nat := 0
  recs : List JournalRec := []
  deriving DecidableEq, Repr

/-- A snapshot (R299). -/
structure Snapshot where
  generation : Nat
  point : Nat
  next : Nat
  setId : Nat
  recs : List JournalRec
  deriving DecidableEq, Repr

/-- A drive label (R283). -/
structure DriveLabel where
  guarded : Bool
  member : Nat
  setId : Nat
  mask : Nat
  keyIndex : Nat
  rows : Nat
  windows : Nat
  spills : Nat
  keyCheck : List Byte
  created : Nat
  device : Nat
  deriving DecidableEq, Repr

/-- A store drive (R278 to R283): what it reports, and what is on it, read under the key its content was written
with. -/
structure StoreDrive where
  lbas : Nat
  /-- It passes R281 but for its size: a 4,096-byte format in use, Identify, and CSTS.RDY in time. -/
  good : Bool := true
  /-- SPEED and WIDTH of LKT_PORT_STATUS. -/
  speed : Nat := 6
  width : Nat := 4
  label : Option DriveLabel := none
  /-- Journal blocks by block number modulo 1,048,576, snapshot slots A and B, and data chunks by row. -/
  journal : List (Nat × JournalBlock) := []
  slotA : Option Snapshot := none
  slotB : Option Snapshot := none
  chunks : List (Nat × Option StoredChunk) := []
  /-- LBAs of label, journal and snapshots whose bytes fail their CRC. -/
  corrupt : List Nat := []
  deriving DecidableEq, Repr

/-- How a drive failed (R305). -/
inductive DriveFailure where
  | timeout | repeatedError | fatalStatus | readOnly
  deriving DecidableEq, Repr


/-- What a link's receiver found beneath the frame (R334, R353). -/
structure RxStatus where
  fcsOk : Bool := true
  fecOk : Bool := true
  /-- Codewords of the frame that FEC corrected. -/
  corrected : Nat := 0
  /-- Reassembled from preempted fragments: `some false` when the reassembly failed (R334). -/
  reassembled : Option Bool := none
  /-- Ingress timestamp as D0 time in 2^-8 ticks (R396). -/
  stamp : Nat := 0
  /-- The run of the start sequence that a frame with a remote reset word leads to (R531). -/
  run : StartRun := { micros := 0 }
  deriving DecidableEq, Repr
/-- What an environment conversion found (R443, R446, R447): the converter's result and the flags its circuits raise. -/
structure Conversion where
  raw : Int
  isOpen : Bool := false
  short : Bool := false
  overRange : Bool := false
  noise : Bool := false
  deriving DecidableEq, Repr

/-- Why an output's readback differs from its driven level for 20 µs (R451, R455). -/
inductive TripCause where
  | mismatch
  /-- With another output of the device driven to the opposite state, which also mismatches. -/
  | contention (other : Nat)
  | thermal
  deriving DecidableEq, Repr

/-- A CAN frame: its identifier in 29 bits (a base one in bits 28 to 18), its flags and its data. -/
structure CanFrame where
  ident : Nat
  ide : Bool := false
  fdf : Bool := false
  brs : Bool := false
  esi : Bool := false
  rtr : Bool := false
  dlc : Nat := 0
  data : List Byte := []
  deriving DecidableEq, Repr

/-- The kinds of bus error of ISO 11898-1 (R476). -/
inductive CanErrorKind where
  | bit | stuff | form | crc | ack
  deriving DecidableEq, Repr

/-- A bus error. `heavy`: a receiver saw a dominant bit right after its error flag, so that REC rises by 8; `spared`:
one of the cases of ISO 11898-1 in which the sender's TEC does not move. -/
structure CanError where
  kind : CanErrorKind
  heavy : Bool := false
  spared : Bool := false
  deriving DecidableEq, Repr

/-- How an attempt to send ended (R472). -/
inductive CanOutcome where
  /-- Sent, with the stamp of R469. -/
  | sent (stamp : Nat)
  | lost
  | failed (e : CanError)
  deriving DecidableEq, Repr

/-- What automatic bit-rate detection found (R478), as the codes of FBUS_ABD. -/
inductive AbdFound where
  | noFrame
  | noCandidate
  | rate (nominal data : Nat)
  deriving DecidableEq, Repr

/-- Where a management datagram came from: the link (0 to 255 listener link, 256 + r ring port r, 512 the service
port), the sender's address, and the IP address of this device that it used. -/
structure Origin where
  link : Nat
  addr : NetAddr
  localIp : Nat := 0
  deriving DecidableEq, Repr


/-- The commands: one constructor for each row of spec/opcode_table.json, in the table's order. -/
inductive Instr where
  /-- COLD_RESET (R60): VAON rises through its valid threshold. -/
  | coldReset
  /-- VAON_LOSS (R79). -/
  | vaonLoss
  /-- START (R57): the last main supply becomes valid. -/
  | start (run : StartRun)
  /-- START_TIMEOUT (R59): with the run of the repeated start. -/
  | startTimeout (run : StartRun)
  /-- BROWNOUT (R78): main supply `rail` (bit order of RAIL_OK) falls invalid. -/
  | brownout (rail : Nat)
  /-- SUPPLY_EXCURSION (R53): a valid supply leaves its operating range, above or below. -/
  | supplyExcursion (rail : Nat) (overVoltage : Bool)
  /-- VFLD_LOSS (R56). -/
  | vfldLoss
  /-- PIN_RESET (R61): RST_N held low for `nanos`. -/
  | pinReset (nanos : Nat)
  /-- RST_N_RELEASE (R61). -/
  | rstRelease (run : StartRun)
  /-- DEVICE_RESET (R60): a write of PWR_RESET with KIND 0x1. -/
  | deviceReset (writer : Nat) (value : Word) (run : StartRun)
  /-- FULL_RESET (R60): a write of PWR_RESET with KIND 0x2. -/
  | fullReset (writer : Nat) (value : Word) (run : StartRun)
  /-- WATCHDOG_RESET (R63). -/
  | watchdogReset (run : StartRun)
  /-- DORMANCY_REQUEST (R66): a write of PWR_CTRL. -/
  | dormancyRequest (writer : Nat) (value : Word)
  /-- MAIN_RAILS_OFF (R66). -/
  | mainRailsOff
  /-- RAIL_STUCK (R67). -/
  | railStuck
  /-- WAKE_FRAME (R71): a pulse train on the WAKE pin, as high widths and following low gaps in ns. -/
  | wakeFrame (train : List (Nat × Nat))
  /-- SVC_WAKE_FRAME (R74): a service-port frame with its FCS outcome. -/
  | svcWakeFrame (frame : List Byte) (fcsOk : Bool)
  /-- WAKE_RAIL_WAIT_EXPIRY (R68). -/
  | wakeRailWaitExpiry
  /-- SLOT_COMMIT (R73): a write of EMB_CTRL. -/
  | slotCommit (writer : Nat) (value : Word)
  /-- SLOT_COMMIT_APPLY (R73). -/
  | slotCommitApply
  /-- EMBER_HEARTBEAT (R524). -/
  | emberHeartbeat
  /-- IMG_ERASE (R108): a write of IMG_WRITE_CMD. -/
  | imgErase (writer : Nat) (value : Word)
  /-- IMG_MARK (R108): a write of IMG_WRITE_CMD. -/
  | imgMark (writer : Nat) (value : Word)
  /-- IMG_RETIRE (R108): a write of IMG_WRITE_CMD. -/
  | imgRetire (writer : Nat) (value : Word)
  /-- IMG_PAGE_WRITE (R108): a burst to IMG_WRITE_DATA at a byte offset of the window. -/
  | imgPageWrite (writer : Nat) (offset : Nat) (data : List Byte)
  /-- IMG_OPERATION_DONE (R108): the flash operation ends, with or without a flash error. -/
  | imgOperationDone (flashOk : Bool)
  /-- IMG_CONFIRM (R101): a write of IMG_CTRL. -/
  | imgConfirm (writer : Nat) (value : Word)
  /-- CONFIRM_WINDOW_EXPIRY (R101). -/
  | confirmWindowExpiry (run : StartRun)
  /-- UPLINK_DATA_FRAME (R120). -/
  | uplinkDataFrame (lane : Nat) (rx : LaneRx) (load : Load)
  /-- HEARTBEAT_FRAME (R129). -/
  | heartbeatFrame (lane : Nat) (rx : LaneRx)
  /-- ROSTER_FRAME (R144). -/
  | rosterFrame (lane : Nat) (rx : LaneRx)
  /-- REPLY_FRAME (R135). -/
  | replyFrame (lane : Nat) (rx : LaneRx)
  /-- ECHO_RECEIVED (R140): of marker `mark`, timestamped at D0 time `stamp`. -/
  | echoReceived (lane mark stamp : Nat)
  /-- ECHO_REPORT (R142). -/
  | echoReport (lane : Nat) (rx : LaneRx)
  /-- HANDOVER_FRAME (R153). -/
  | handoverFrame (lane : Nat) (rx : LaneRx)
  /-- ACK_SEND (R122). -/
  | ackSend (lane : Nat)
  /-- MARKER_SEND (R138). -/
  | markerSend (lane : Nat)
  /-- ECHO_REPORT_TIMEOUT (R140). -/
  | echoReportTimeout (lane : Nat)
  /-- COMMAND_TIMEOUT (R135): of the host's command, else of the device's own. -/
  | commandTimeout (lane : Nat) (host : Bool)
  /-- DISCOVERY_RETRY (R619). -/
  | discoveryRetry (lane : Nat)
  /-- TLK_CFG_WRITE (R147): a write of TLK_CFG. -/
  | tlkCfgWrite (lane writer : Nat) (value : Word)
  /-- TLK_TIMERS_WRITE (R124): a write of TLK_TIMERS. -/
  | tlkTimersWrite (lane writer : Nat) (value : Word)
  /-- UPLINK_SIGNAL_DETECT (R147). -/
  | uplinkSignalDetect (lane : Nat)
  /-- LANE_LOCK_HELD (R147). -/
  | laneLockHeld (lane : Nat)
  /-- LOSS_OF_SIGNAL (R148). -/
  | lossOfSignal (lane : Nat)
  /-- LOSS_OF_LOCK (R148). -/
  | lossOfLock (lane : Nat)
  /-- LINK_TIMEOUT (R148). -/
  | linkTimeout (lane : Nat)
  /-- RESTART (R148): a write of TLK_CTRL. -/
  | restart (lane writer : Nat) (value : Word)
  /-- REMEASURE (R148): a write of TLK_CTRL. -/
  | remeasure (lane writer : Nat) (value : Word)
  /-- REDISCOVER (R148): a write of TLK_CTRL. -/
  | rediscover (lane writer : Nat) (value : Word)
  /-- WM_TIMEOUT (R131). -/
  | wmTimeout (lane talker : Nat)
  /-- TALKER_COMMAND (R134): a write of TLK_CMD_CTRL. -/
  | talkerCommand (lane writer : Nat) (value : Word)
  /-- TALKER_PULSE (R136): a write of TLK_CMD_CTRL. -/
  | talkerPulse (lane writer : Nat) (value : Word)
  /-- SWAP (R183): a write of FLT_COMMIT. -/
  | swap (writer : Nat) (value : Word)
  /-- SWAP_VALIDATION_DONE (R183). -/
  | swapValidationDone
  /-- T_SWAP_REACHED (R183). -/
  | tSwapReached
  /-- BANK_RETIRE (R183). -/
  | bankRetire
  /-- COPY (R187): a write of FLT_COMMIT. -/
  | copy (writer : Nat) (value : Word)
  /-- COPY_DONE (R187). -/
  | copyDone
  /-- STR_COMMIT (R190): a write of STR_CTRL. -/
  | strCommit (stream writer : Nat) (value : Word)
  /-- STREAM_CONFIG_APPLY (R197). -/
  | streamConfigApply (stream : Nat)
  /-- CONTRIBUTOR_GRACE_EXPIRY (R198): a lane has been out of ACTIVE for 1 s. -/
  | contributorGraceExpiry (lane : Nat)
  /-- STRATUM_CLOSE_BY_WATERMARK (R202). -/
  | stratumCloseByWatermark (stream : Nat)
  /-- STRATUM_CLOSE_BY_HORIZON (R202). -/
  | stratumCloseByHorizon (stream : Nat)
  /-- STRATUM_EMIT (R207): a closed stratum of the tenant that is served (R220, R221). -/
  | stratumEmit (tenant : Nat)
  /-- STRATUM_EVICTION (R214): `denied`: the region's write share is spent. -/
  | stratumEviction (stream : Nat) (denied : Bool)
  /-- QUEUE_CELL (R233): a producer writes one cell; `start` marks the first of an item. -/
  | queueCell (queue : Nat) (producer : Producer) (start : Bool) (cell : List Byte)
  /-- QUEUE_END_OF_ITEM (R233): the producer ends its item, good or bad. -/
  | queueEndOfItem (queue : Nat) (producer : Producer) (good : Bool)
  /-- QUEUE_POP (R237): `atHead` says whether the oldest committed item has reached stage 0 (R231). -/
  | queuePop (queue : Nat) (atHead : Bool)
  /-- HELD_POP_COMPLETE (R231). -/
  | heldPopComplete (queue : Nat)
  /-- FLUSH (R240): a write of Q_CTRL. -/
  | flush (queue : Nat) (writer : Nat) (value : Word)
  /-- QUEUE_DISABLE (R240): a write of Q_CFG. -/
  | queueDisable (queue : Nat) (writer : Nat) (value : Word)
  /-- POINTER_MISMATCH (R241). -/
  | pointerMismatch (queue : Nat)
  /-- NOTIFY_READ (R243): a read of `len` bytes of Q_NOTIFY_DATA from `offset`. -/
  | notifyRead (reader queue offset len : Nat)
  /-- INTERVAL_CLOSE_BY_WATERMARK (R253). -/
  | intervalCloseByWatermark
  /-- INTERVAL_CLOSE_BY_HORIZON (R253). -/
  | intervalCloseByHorizon
  /-- PROGRAM_EVALUATE (R259): the program that is next evaluates its interval. -/
  | programEvaluate
  /-- TOKEN_REFILL (R259). -/
  | tokenRefill (program : Nat)
  /-- PROG_COMMIT (R258): a write of GEY_PROG_CTRL. -/
  | progCommit (program writer : Nat) (value : Word)
  /-- PROGRAM_APPLY (R258). -/
  | programApply (program : Nat)
  /-- SOFT_INPUT (R263): a write of GEY_PROG_CTRL. -/
  | softInput (program writer : Nat) (value : Word)
  /-- BROADCAST_RECEIVED (R266): the 64 bytes of a broadcast on ring port `port`. -/
  | broadcastReceived (port : Nat) (msg : List Byte)
  /-- FREEZE_LAUNCH (R269). -/
  | freezeLaunch
  /-- FREEZE_COMPLETE (R271): of the freeze in a slot. -/
  | freezeComplete (slot : Nat)
  /-- READOUT_START (R273): of a readout stream. -/
  | readoutStart (stream : Nat)
  /-- READOUT_END (R273). -/
  | readoutEnd (stream : Nat)
  /-- STORE_RECOVERY (R301): the steps take `millis` from local ready. -/
  | storeRecovery (millis : Nat)
  /-- DRIVE_PRESENCE_CHANGE (R279): of a store port. -/
  | drivePresenceChange (port : Nat)
  /-- DRIVE_INSERTED (R279): the drive now in the bay; `none`: the one that was there. -/
  | driveInserted (port : Nat) (drive : Option StoreDrive)
  /-- STORE_LINK_DOWN (R279). -/
  | storeLinkDown (port : Nat)
  /-- DRIVE_FAILED (R305). -/
  | driveFailed (port : Nat) (how : DriveFailure)
  /-- STORE_FRAME_WRITE (R289): of the oldest frame waiting for the store; `overload`: it exceeds the write rate. -/
  | storeFrameWrite (overload : Bool)
  /-- STRIPE_COMMIT_EXPIRY (R290). -/
  | stripeCommitExpiry (stream : Nat)
  /-- JOURNAL_BLOCK_WRITE (R297). -/
  | journalBlockWrite
  /-- JOURNAL_BLOCK_DURABLE (R297): of the oldest block in flight. -/
  | journalBlockDurable
  /-- LKT_COMPACT (R298): a write of LKT_CTRL. -/
  | lktCompact (writer : Nat) (value : Word)
  /-- COMPACTION_DONE (R298). -/
  | compactionDone
  /-- FORMAT (R312): a write of LKT_CTRL. -/
  | format (writer : Nat) (value : Word)
  /-- FORMAT_DONE (R312). -/
  | formatDone
  /-- ADOPT (R308): a write of LKT_PORT_CTRL. -/
  | adopt (port writer : Nat) (value : Word)
  /-- REBUILD_STRIPE (R309): the next stripe of a port's rebuild. -/
  | rebuildStripe (port : Nat)
  /-- REPLAY_START (R314): a write of LKT_REPLAY_CTRL. -/
  | replayStart (engine writer : Nat) (value : Word)
  /-- REPLAY_FRAME (R314). -/
  | replayFrame (engine : Nat)
  /-- REPLAY_ABORT (R314): a write of LKT_REPLAY_CTRL. -/
  | replayAbort (engine writer : Nat) (value : Word)
  /-- WINDOW_RELEASE (R291): a write of LKT_WINDOW_CTRL. -/
  | windowRelease (window writer : Nat) (value : Word)
  /-- PORT_ENABLE (R321): a write of LSN_PORT_CFG. -/
  | portEnable (port writer : Nat) (value : Word)
  /-- FRAME_TRANSMIT (R331): link id 0 to 255 is a listener link, 256 + r ring port r; `cuts`: the frame interrupts a
  preemptable one. -/
  | frameTransmit (link : Nat) (cuts : Bool)
  /-- FRAME_RECEIVED (R354). -/
  | frameReceived (link : Nat) (frame : List Byte) (status : RxStatus)
  /-- PFC_RECEIVED (R335): pause time in quanta of each priority the frame enables. -/
  | pfcReceived (link : Nat) (times : List (Nat × Nat))
  /-- PAUSE_EXPIRY (R335). -/
  | pauseExpiry (link prio : Nat)
  /-- PAUSE_WATCHDOG_EXPIRY (R336). -/
  | pauseWatchdogExpiry (link prio : Nat)
  /-- STORM_CLEAR_EXPIRY (R336). -/
  | stormClearExpiry (link prio : Nat)
  /-- PFC_SEND (R337): the receive buffer of a ring port's priority holds `bytes`. -/
  | pfcSend (port prio bytes : Nat)
  /-- PREEMPT_VERIFY (R332): one attempt, with the partner's answer. -/
  | preemptVerify (link : Nat) (answered : Bool)
  /-- ENDPOINT_COMMIT (R338): port 0 to 31 is a listener port, 32 + r ring port r. -/
  | endpointCommit (port endpoint writer : Nat) (value : Word)
  /-- ENDPOINT_COMMIT_APPLY (R338). -/
  | endpointCommitApply (port endpoint : Nat)
  /-- ACK_RECEIVED (R344): from an address, the 56 bytes after the prefix. -/
  | ackReceived (link : Nat) (src : NetAddr) (msg : List Byte)
  /-- RETRANSMIT_TIMEOUT (R346): of the oldest due frame retained for the endpoint. -/
  | retransmitTimeout (port endpoint : Nat)
  /-- RETENTION_EXPIRY (R347). -/
  | retentionExpiry (port endpoint : Nat)
  /-- LINK_DOWN (R348): `midFrame`: a frame was in transmission. -/
  | linkDown (link : Nat) (midFrame : Bool)
  /-- LINK_HOLD_EXPIRY (R348). -/
  | linkHoldExpiry (link : Nat)
  /-- LINK_UP (R556). -/
  | linkUp (link : Nat)
  /-- SPILL_NOTICE_SEND (R350). -/
  | spillNoticeSend (port endpoint : Nat)
  /-- LAUNCH_TIME_REACHED (R340). -/
  | launchTimeReached (link prio : Nat)
  /-- PROGRESS_IDLE_EXPIRY (R327). -/
  | progressIdleExpiry (stream : Nat)
  /-- CHECKPOINT_TIMER (R373): a periodic checkpoint of a stream falls due. -/
  | checkpointTimer (stream : Nat)
  /-- ROUND_CLOSE (R375). -/
  | roundClose
  /-- CHECKPOINT_SEAL (R376): the next checkpoint frame of a signed round. -/
  | checkpointSeal (stream : Nat)
  /-- KEY_FAULT (R365). -/
  | keyFault (entry : Nat)
  /-- ENTROPY_FAULT (R368). -/
  | entropyFault
  /-- OWNER_PACKAGE (R364): a write of SIG_OWNER_CMD; `viaService`: the package came through the service port. -/
  | ownerPackage (writer : Nat) (value : Word) (viaService : Bool)
  /-- OWNER_RECORD_WRITTEN (R362): the flash write of the owner record ends. -/
  | ownerRecordWritten (flashOk : Bool)
  /-- PTP_SYNC_RX (R397): a message from the header on, received on a ring port and stamped at D0 time `stamp` in
  2^-8 ticks. -/
  | ptpSyncRx (port : Nat) (msg : List Byte) (stamp : Nat)
  /-- PTP_FOLLOW_UP_RX (R397). -/
  | ptpFollowUpRx (port : Nat) (msg : List Byte) (stamp : Nat)
  /-- PTP_DELAY_REQ_RX (R393). -/
  | ptpDelayReqRx (port : Nat) (msg : List Byte) (stamp : Nat)
  /-- PTP_DELAY_RESP_RX (R397). -/
  | ptpDelayRespRx (port : Nat) (msg : List Byte) (stamp : Nat)
  /-- PTP_ANNOUNCE_RX (R393). -/
  | ptpAnnounceRx (port : Nat) (msg : List Byte) (stamp : Nat)
  /-- PTP_SIGNALING_RX (R393). -/
  | ptpSignalingRx (port : Nat) (msg : List Byte) (stamp : Nat)
  /-- SYNC_SEND (R395): on a ring port for domain 0 or 1; `stamp`: the departure measured, as D0 time in 2^-8 ticks. -/
  | syncSend (port domain stamp : Nat)
  /-- DELAY_REQ_SEND (R393): with its measured departure. -/
  | delayReqSend (port domain stamp : Nat)
  /-- ANNOUNCE_SEND (R393). -/
  | announceSend (port domain : Nat)
  /-- ESMC_SEND (R392). -/
  | esmcSend (port : Nat)
  /-- ESMC_RECEIVED (R392): the PDU after the Ethertype. -/
  | esmcReceived (port : Nat) (msg : List Byte)
  /-- SERVO_ACQUISITION_STEP (R404, R417). -/
  | servoAcquisitionStep
  /-- ROOT_ACQUISITION_STEP (R408, R417). -/
  | rootAcquisitionStep
  /-- D0_SOURCE_LOSS (R411, R412). -/
  | d0SourceLoss
  /-- D1_SOURCE_LOSS (R410). -/
  | d1SourceLoss
  /-- HOLDOVER_TIMER (R409, R415). -/
  | holdoverTimer
  /-- REF10M_LOSS (R407). -/
  | ref10mLoss
  /-- PPS_IN_EDGE (R407): at a D0 sentence time. -/
  | ppsInEdge (stamp : Nat)
  /-- PPS_IN_LOSS (R407). -/
  | ppsInLoss
  /-- REFERENCE_RESTORED (R407): PPS_IN or else REF10M, after 10 s of validity, or at its first validity. -/
  | referenceRestored (pps : Bool)
  /-- WARM_UP_END (R391). -/
  | warmUpEnd
  /-- SEGMENT_PUBLISH (R418): for the next D0 second boundary. -/
  | segmentPublish
  /-- TIM_SET_COMMIT (R421): a write of TIM_SET_CTRL. -/
  | timSetCommit (domain writer : Nat) (value : Word)
  /-- TIM_SET_APPLY (R421). -/
  | timSetApply (domain : Nat)
  /-- REACQUIRE (R405): a write of TIM_CTRL. -/
  | reacquire (writer : Nat) (value : Word)
  /-- FORCE_D1 (R412): a write of TIM_CTRL. -/
  | forceD1 (writer : Nat) (value : Word)
  /-- CALIBRATION_START (R402): a write of TIM_CAL_CTRL. -/
  | calibrationStart (writer : Nat) (value : Word)
  /-- CALIBRATION_SAMPLE (R402): the interval of a pulse, in 2^-8 ticks. -/
  | calibrationSample (interval : Nat)
  /-- CALIBRATION_DONE (R402). -/
  | calibrationDone
  /-- PULSE_ARM (R424): a write of TIM_PULSE_CTRL. -/
  | pulseArm (pulse writer : Nat) (value : Word)
  /-- PULSE_FIRE (R424). -/
  | pulseFire (pulse : Nat)
  /-- PULSE_CANCEL (R424): a write of TIM_PULSE_CTRL. -/
  | pulseCancel (pulse writer : Nat) (value : Word)
  /-- PPS_OUTPUT (R423): of a domain. -/
  | ppsOutput (domain : Nat)
  /-- FOUT_COMMIT (R425): a write of TIM_FOUT_CTRL. -/
  | foutCommit (output writer : Nat) (value : Word)
  /-- FOUT_APPLY (R425). -/
  | foutApply (output : Nat)
  /-- REVERT (R414). -/
  | revert
  /-- TEMP_STALE (R400): of a ring port. -/
  | tempStale (port : Nat)
  /-- EDGE_START (R434): a selected start edge of a port's unit, at a D0 time in 2^-8 ticks. -/
  | edgeStart (port stamp : Nat)
  /-- EDGE_STOP (R434). -/
  | edgeStop (port stamp : Nat)
  /-- MEASUREMENT_RESULT (R434). -/
  | measurementResult (port : Nat)
  /-- INTERVAL_OVERFLOW (R435). -/
  | intervalOverflow (port : Nat)
  /-- EDG_ARM (R434): a write of EDG_CTRL. -/
  | edgArm (port writer : Nat) (value : Word)
  /-- EDG_DISARM (R434, R438): a write of EDG_CTRL. -/
  | edgDisarm (port writer : Nat) (value : Word)
  /-- OUT_ARM (R438): a write of EDG_CTRL. -/
  | outArm (port writer : Nat) (value : Word)
  /-- EDGE_OUTPUT_LAUNCH (R438). -/
  | edgeOutputLaunch (port : Nat)
  /-- RING_CALIBRATION (R432): of time-interval unit 0 to 20. -/
  | ringCalibration (unit : Nat)
  /-- EDG_CFG_WRITE (R437): a write of EDG_CFG. -/
  | edgCfgWrite (port writer : Nat) (value : Word)
  /-- ENV_SCAN_START (R444). -/
  | envScanStart
  /-- ENV_CONVERSION_DONE (R444 to R448): with the stop edge of the conversion pulse in D0 time. -/
  | envConversionDone (channel : Nat) (found : Conversion) (stamp : Nat)
  /-- ILK_TRIP (R451). -/
  | ilkTrip (output : Nat) (cause : TripCause)
  /-- ILK_RETRY (R452). -/
  | ilkRetry (output : Nat)
  /-- ILK_CLEAR (R452): a write of ILK_CTRL. -/
  | ilkClear (output writer : Nat) (value : Word)
  /-- ILK_CFG_WRITE (R450): a write of ILK_CFG. -/
  | ilkCfgWrite (output writer : Nat) (value : Word)
  /-- UTL_FUNCTION_CHANGE (R454): a write of UTL_CFG. -/
  | utlFunctionChange (pin writer : Nat) (value : Word)
  /-- UTL_GUARD_END (R454). -/
  | utlGuardEnd (pin : Nat)
  /-- UTL_TRIP (R455). -/
  | utlTrip (pin : Nat) (cause : TripCause)
  /-- UTL_CLEAR (R455): a write of UTL_CTRL. -/
  | utlClear (pin writer : Nat) (value : Word)
  /-- EXTERNAL_TRIGGER_EDGE (R456): a rising edge accepted by the sampler, stamped in D0 sentence time. -/
  | externalTriggerEdge (pin stamp : Nat)
  /-- FBUS_ENABLE (R464, R465): a write of FBUS_CFG. -/
  | fbusEnable (channel writer : Nat) (value : Word)
  /-- FBUS_INTEGRATED (R464). -/
  | fbusIntegrated (channel : Nat)
  /-- FBUS_FRAME_RECEIVED (R466 to R469): with its stamp in D0 sentence time. -/
  | fbusFrameReceived (channel : Nat) (frame : CanFrame) (stamp : Nat)
  /-- FBUS_REQUEST (R471): a write of FBUS_OBJ_CTRL. -/
  | fbusRequest (channel object writer : Nat) (value : Word)
  /-- FBUS_ABORT (R473): a write of FBUS_OBJ_CTRL. -/
  | fbusAbort (channel object writer : Nat) (value : Word)
  /-- FBUS_ATTEMPT_END (R472): of the attempt under way. -/
  | fbusAttemptEnd (channel : Nat) (outcome : CanOutcome)
  /-- FBUS_BUS_ERROR (R476): `sending`: of the frame the device sends, else of one it receives. -/
  | fbusBusError (channel : Nat) (sending : Bool) (error : CanError)
  /-- FBUS_RECOVER (R475): a write of FBUS_CTRL. -/
  | fbusRecover (channel writer : Nat) (value : Word)
  /-- FBUS_RECOVERY_DONE (R475). -/
  | fbusRecoveryDone (channel : Nat)
  /-- FBUS_MODE_CHANGE (R465): the bus is idle. -/
  | fbusModeChange (channel : Nat)
  /-- ABD_START (R478): a write of FBUS_CTRL. -/
  | abdStart (channel writer : Nat) (value : Word)
  /-- ABD_DONE (R478). -/
  | abdDone (channel : Nat) (found : AbdFound)
  /-- MGMT_HELLO (R484): a datagram's payload. -/
  | mgmtHello (origin : Origin) (msg : List Byte)
  /-- MGMT_READ (R489). -/
  | mgmtRead (origin : Origin) (msg : List Byte)
  /-- MGMT_WRITE (R489): `run`: the start that a reset it asks for leads to. -/
  | mgmtWrite (origin : Origin) (msg : List Byte) (run : StartRun)
  /-- MGMT_WRITE_POSTED (R498). -/
  | mgmtWritePosted (origin : Origin) (msg : List Byte) (run : StartRun)
  /-- MGMT_LOCK_READ (R500). -/
  | mgmtLockRead (origin : Origin) (msg : List Byte)
  /-- MGMT_WRITE_UNLOCK (R500). -/
  | mgmtWriteUnlock (origin : Origin) (msg : List Byte) (run : StartRun)
  /-- MGMT_UNLOCK (R500). -/
  | mgmtUnlock (origin : Origin) (msg : List Byte)
  /-- MGMT_TUNNEL_TX (R504). -/
  | mgmtTunnelTx (origin : Origin) (msg : List Byte)
  /-- BRIDGE_REQUEST (R496): on a ring port. -/
  | bridgeRequest (origin : Origin) (msg : List Byte) (run : StartRun)
  /-- BRIDGE_RESPONSE (R496): on a ring port. -/
  | bridgeResponse (origin : Origin) (msg : List Byte) (run : StartRun)
  /-- END_TO_END_MESSAGE (R497). -/
  | endToEndMessage (origin : Origin) (msg : List Byte) (run : StartRun)
  /-- FAR_TIMEOUT (R496): of a token. -/
  | farTimeout (token : Nat)
  /-- TOKEN_EXPIRY (R495): of a token. -/
  | tokenExpiry (token : Nat)
  /-- LOCK_EXPIRY (R501). -/
  | lockExpiry
  /-- WATCH_POLL (R505): of a watch. -/
  | watchPoll (watch : Nat)
  /-- SVC_FRAME_RECEIVED (R508): a frame with its FCS, and whether that is good. -/
  | svcFrameReceived (frame : List Byte) (fcsOk : Bool) (run : StartRun)
  /-- SVC_COLLISION (R507): while the device sends, or receives; `late`: after the first 64 octets. -/
  | svcCollision (sending late : Bool)
  /-- SVC_BACKOFF_EXPIRY (R507). -/
  | svcBackoffExpiry
  /-- TENANT_RESET (R513): a write of TEN_CTRL. -/
  | tenantReset (tenant writer : Nat) (value : Word)
  /-- TENANT_RESET_DRAINED (R513). -/
  | tenantResetDrained (tenant : Nat)
  /-- SENTINEL_STALL (R518): handshake ring `ring` of reset domain DOMAIN, INDEX made no progress for 2 µs. -/
  | sentinelStall (domain index ring : Nat) (run : StartRun)
  /-- DUPLICATE_TOKEN (R518). -/
  | duplicateToken (domain index ring : Nat) (run : StartRun)
  /-- ISOLATION_RELEASE (R520): a write of SUP_ISOLATION entry. -/
  | isolationRelease (entry writer : Nat) (value : Word)
  /-- ECC_UNCORRECTABLE (R521). -/
  | eccUncorrectable (site : MemSite)
  /-- SUPERVISOR_MISMATCH (R522): copy `copy` is outvoted. -/
  | supervisorMismatch (copy : Nat)
  /-- SUPERVISOR_RESYNC (R522). -/
  | supervisorResync
  /-- VOTE_FAILURE (R523). -/
  | voteFailure
  /-- HEARTBEAT_SEND (R526). -/
  | heartbeatSend
  /-- HEARTBEAT_RECEIVED (R527): on ring port `port`. -/
  | heartbeatReceived (port : Nat) (msg : List Byte)
  /-- SUSPECT_TIMEOUT (R528): of SUP_WATCH entry. -/
  | suspectTimeout (entry : Nat)
  /-- RESET_WORD_RECEIVED (R531). -/
  | resetWordReceived (port : Nat) (msg : List Byte) (run : StartRun)
  /-- DEAD_TIMEOUT (R532): of SUP_WATCH entry. -/
  | deadTimeout (entry : Nat)
  /-- FENCE_NOTICE_RECEIVED (R534). -/
  | fenceNoticeReceived (port : Nat) (msg : List Byte)
  /-- READMIT (R539): a write of SUP_FENCE_CTRL. -/
  | readmit (writer : Nat) (value : Word) (run : StartRun)
  /-- CHRONICLE_COALESCE_EXPIRY (R543). -/
  | chronicleCoalesceExpiry
  /-- EXCHANGE_OFFER (R556). -/
  | exchangeOffer (port : Nat) (msg : List Byte)
  /-- EXCHANGE_ACCEPT (R557). -/
  | exchangeAccept (port : Nat) (msg : List Byte)
  /-- EXCHANGE_ASSIGN (R565). -/
  | exchangeAssign (port : Nat) (msg : List Byte)
  /-- OFFER_REPEAT (R556). -/
  | offerRepeat (port : Nat)
  /-- EXCHANGE_RETRY (R556). -/
  | exchangeRetry (port : Nat)
  /-- SPARE_DORMANCY_TIMER (R563). -/
  | spareDormancyTimer
  /-- WAKE_FRAME_REPEAT (R564): of SUP_WATCH and SUP_SPARE entry. -/
  | wakeFrameRepeat (entry : Nat)
  /-- WAKE_SEND (R564): a write of SUP_WAKE_CTRL. -/
  | wakeSend (writer : Nat) (value : Word)
  /-- PACE_MEASUREMENT (R585): the pace of each region 0 to 15, in units of 2^-12, rounded down. -/
  | paceMeasurement (paces : List Nat)
  /-- PACE_LOW_CLEAR (R585): a write of DEV_CTRL. -/
  | paceLowClear (writer : Nat) (value : Word)
  /-- SNAP_READ (R576): a read of the SNAP register at `address`. -/
  | snapRead (reader address : Nat)
  /-- REGISTER_WRITE (R569): `size` bytes at `address`; `run`: the start that a reset it asks for leads to. -/
  | registerWrite (writer address size : Nat) (value : Word) (run : StartRun)
  /-- VFLD_RETURN (R56). -/
  | vfldReturn
  /-- WAKE_FRAME_ABANDONMENT (R70). -/
  | wakeFrameAbandonment
  /-- THERMAL_RETRY_THRESHOLD (R452): the switch of an interlock output cools below 150 °C. -/
  | thermalRetryThreshold (output : Nat)
  /-- CORRECTED_MEMORY_ERROR (R521). -/
  | correctedMemoryError (site : MemSite)
  /-- SVC_TRANSMIT_OPPORTUNITY (R507). -/
  | svcTransmitOpportunity
  /-- SUPPRESSED_ENTRY_WRITE (R543). -/
  | suppressedEntryWrite
  deriving DecidableEq, Repr

end Sys2Proof
end

