-- ==== Sys2Proof/Decode.lean ====
section
/-! DEFINITION. Words that spell commands: none. The rows of spec/opcode_table.json give their commands no bits, since a
host reaches the block by management messages, which the commands carry as bytes. -/

namespace Sys2Proof

/-- The command that a word of the table's bits spells: no row gives bits. -/
def decodeTableWord (_nbits _w : Nat) : Option Instr := none

end Sys2Proof
end

