-- ==== Sys2Proof/Machine/Bytes.lean ====
section
/-! DEFINITION. Byte order, bit fields, modular differences and the CRC-32C of the manual (R5 to R8). -/

namespace Sys2Proof.Machine

/-- `n` bytes holding `v`, big-endian (R6). -/
def be (n v : Nat) : List Byte :=
  (List.range n).map (fun i => BitVec.ofNat 8 (v >>> (8 * (n - 1 - i))))

/-- The number a big-endian byte string holds (R6). -/
def ofBe (l : List Byte) : Nat := l.foldl (fun a b => a * 256 + b.toNat) 0

/-- Bytes `off` to `off + n - 1` of a format, byte 0 first. -/
def slice (l : List Byte) (off n : Nat) : List Byte := (l.drop off).take n

/-- The big-endian number in bytes `off` to `off + n - 1`. -/
def num (l : List Byte) (off n : Nat) : Nat := ofBe (slice l off n)

/-- Bits `msb` down to `lsb` of a number, both included (R5). -/
def bits (v msb lsb : Nat) : Nat := (v >>> lsb) % 2 ^ (msb + 1 - lsb)

/-- One bit of a number, as a truth value. -/
def bit (v i : Nat) : Bool := v.testBit i

/-- `n` zero bytes. -/
def zeros (n : Nat) : List Byte := List.replicate n 0

/-- Pads with zero bytes to at least `n` bytes, and cuts to `n`. -/
def fit (n : Nat) (l : List Byte) : List Byte := (l ++ zeros (n - l.length)).take n

/-- The signed number that the `w` low bits of `v` hold in two's complement. -/
def sgn (w v : Nat) : Int :=
  let x := v % 2 ^ w
  if x < 2 ^ (w - 1) then (x : Int) else (x : Int) - (2 ^ w : Nat)

/-- The `w`-bit two's complement encoding of a signed number. -/
def enc (w : Nat) (i : Int) : Nat := (i % ((2 ^ w : Nat) : Int)).toNat

/-- Adds a signed number to a 64-bit time, modulo 2^64. -/
def addT (t : Nat) (i : Int) : Nat := enc 64 ((t : Int) + i)

/-- The signed difference of two 64-bit times (pseudocode convention of the Scope chapter). -/
def dif (a b : Nat) : Int := sgn 64 (enc 64 ((a : Int) - (b : Int)))

/-- 1 for true, 0 for false. -/
def b2n (b : Bool) : Nat := if b then 1 else 0

/-- One step of the reflected CRC-32C division (polynomial 0x82F6_3B78, R7). -/
def crcBit (c : Nat) : Nat := if c % 2 = 1 then (c / 2) ^^^ 0x82F63B78 else c / 2

/-- The CRC-32C register after one more byte. -/
def crcByte (c : Nat) (b : Byte) : Nat :=
  crcBit (crcBit (crcBit (crcBit (crcBit (crcBit (crcBit (crcBit (c ^^^ b.toNat))))))))

/-- CRC-32C of a byte string (R7). -/
def crc32c (l : List Byte) : Nat := (l.foldl crcByte 0xFFFFFFFF) ^^^ 0xFFFFFFFF

/-- Ticks of 2^-10 ns in a nanosecond, a microsecond, a millisecond and a second. -/
def tickNs : Nat := 1024
def tickUs : Nat := 1024000
def tickMs : Nat := 1024000000
def tickS : Nat := 1024000000000

end Sys2Proof.Machine
end

