-- ==== Sys2Proof/Machine/Crypto.lean ====
section
/-! DEFINITION. The symmetric functions the manual names by their standards: AES-256 (FIPS 197), AES-256-GCM
(SP 800-38D), AES-256-XTS (IEEE 1619), the CBC-MAC of R384 and SHA-384 (FIPS 180-4). Their definitions are not in the
manual and are written from the standards (PRESUMED, log entry 2). -/

namespace Sys2Proof.Machine

/-! ## AES-256 -/

/-- The substitution table, 16 bytes a row. -/
def sboxRows : List Nat :=
  [0x637C777BF26B6FC53001672BFED7AB76, 0xCA82C97DFA5947F0ADD4A2AF9CA472C0,
   0xB7FD9326363FF7CC34A5E5F171D83115, 0x04C723C31896059A071280E2EB27B275] ++
  [0x09832C1A1B6E5AA0523BD6B329E32F84, 0x53D100ED20FCB15B6ACBBE394A4C58CF,
   0xD0EFAAFB434D338545F9027F503C9FA8, 0x51A3408F929D38F5BCB6DA2110FFF3D2] ++
  [0xCD0C13EC5F974417C4A77E3D645D1973, 0x60814FDC222A908846EEB814DE5E0BDB,
   0xE0323A0A4906245CC2D3AC629195E479, 0xE7C8376D8DD54EA96C56F4EA657AAE08] ++
  [0xBA78252E1CA6B4C6E8DD741F4BBD8B8A, 0x703EB5664803F60E613557B986C11D9E,
   0xE1F8981169D98E949B1E87E9CE5528DF, 0x8CA1890DBFE6426841992D0FB054BB16]

/-- The substitution of one byte. -/
def sbox (x : Nat) : Nat := (sboxRows.getD (x / 16) 0 >>> (8 * (15 - x % 16))) % 256

/-- Doubling in the field of AES. -/
def xtime (x : Nat) : Nat := if x < 128 then 2 * x else (2 * x) ^^^ 0x11B

/-- The substitution of each byte of a word. -/
def subWord (w : Nat) : Nat :=
  sbox (w / 2 ^ 24 % 256) * 2 ^ 24 + sbox (w / 2 ^ 16 % 256) * 2 ^ 16 + sbox (w / 2 ^ 8 % 256) * 2 ^ 8 + sbox (w % 256)

/-- The next eight words of the key schedule. -/
def nextKeys (rc : Nat) : List Nat → List Nat
  | [a, b, c, d, e, f, g, h] =>
    let a' := a ^^^ subWord (h % 2 ^ 24 * 256 + h / 2 ^ 24) ^^^ rc * 2 ^ 24
    let b' := b ^^^ a'
    let c' := c ^^^ b'
    let d' := d ^^^ c'
    let e' := e ^^^ subWord d'
    let f' := f ^^^ e'
    let g' := g ^^^ f'
    [a', b', c', d', e', f', g', h ^^^ g']
  | _ => []

/-- The key schedule, eight words a turn. -/
def keySchedule : Nat → Nat → List Nat → List Nat
  | 0, _, _ => []
  | n + 1, rc, w => w ++ keySchedule n (xtime rc) (nextKeys rc w)

/-- The 15 round keys, as 16 bytes each. -/
def roundKeys (key : List Byte) : List (List Nat) :=
  let words := keySchedule 8 1 ((List.range 8).map (fun i => num (fit 32 key) (4 * i) 4))
  (List.range 15).map (fun r => (words.drop (4 * r)).take 4 |>.flatMap (fun w =>
    [w / 2 ^ 24, w / 2 ^ 16 % 256, w / 2 ^ 8 % 256, w % 256]))

/-- Substitution and row shift; the state's 16 bytes stand column by column. -/
def subShift (s : List Nat) : List Nat := (List.range 16).map (fun i => sbox (s.getD ((i + 4 * (i % 4)) % 16) 0))

/-- The column mix. -/
def mixColumns (s : List Nat) : List Nat := (List.range 16).map (fun i =>
  let a := fun k => s.getD (i / 4 * 4 + (i + k) % 4) 0
  xtime (a 0) ^^^ xtime (a 1) ^^^ a 1 ^^^ a 2 ^^^ a 3)

/-- The rounds, one for each round key given; the last mixes no columns. -/
def aesRounds : List (List Nat) → List Nat → List Nat
  | [], s => s
  | [k], s => (subShift s).zipWith (· ^^^ ·) k
  | k :: rest, s => aesRounds rest ((mixColumns (subShift s)).zipWith (· ^^^ ·) k)

/-- One 16-byte block under the round keys. -/
def aesBlock (keys : List (List Nat)) (data : List Byte) : BitVec 128 :=
  let s := ((fit 16 data).map (·.toNat)).zipWith (· ^^^ ·) (keys.headD [])
  BitVec.ofNat 128 ((aesRounds (keys.drop 1) s).foldl (fun a b => a * 256 + b) 0)

/-- AES-256 of one 16-byte block under a 32-byte key. -/
@[irreducible] def aes256 (key data : List Byte) : BitVec 128 := aesBlock (roundKeys key) data

/-- A 16-byte block. -/
def block (b : BitVec 128) : List Byte := be 16 b.toNat

/-- Byte-by-byte exclusive or, as long as the first. -/
def xorBytes (a b : List Byte) : List Byte := a.zipWith (· ^^^ ·) (fit a.length b)

/-- The CBC-MAC of a message of whole blocks (R384). -/
def cbcMac (key msg : List Byte) : List Byte :=
  (List.range (msg.length / 16)).foldl
    (fun x i => block (aes256 key (xorBytes x (slice msg (16 * i) 16)))) (zeros 16)

/-! ## AES-256-GCM -/

/-- The GCTR function from counter `n` after a 12-byte IV (R370, R363). -/
def gctr (key iv : List Byte) (n : Nat) (data : List Byte) : List Byte :=
  let keys := roundKeys key
  xorBytes data ((List.range ((data.length + 15) / 16)).flatMap (fun i => block (aesBlock keys (fit 12 iv ++ be 4 (n + i)))))

/-- The product in the field of GHASH, `n` bits of `x` to go. -/
def gfMul : Nat → Nat → Nat → Nat → Nat
  | 0, _, _, z => z
  | n + 1, x, v, z =>
    gfMul n x (if v % 2 = 1 then (v / 2) ^^^ 0xE1 * 2 ^ 120 else v / 2) (if x.testBit n then z ^^^ v else z)

/-- Bytes padded with zeros to whole blocks. -/
def padBlocks (l : List Byte) : List Byte := fit ((l.length + 15) / 16 * 16) l

/-- GHASH of whole blocks. -/
def ghash (h : Nat) (l : List Byte) : Nat :=
  (List.range (l.length / 16)).foldl (fun y i => gfMul 128 (y ^^^ num l (16 * i) 16) h 0) 0

/-- The AES-256-GCM tag with a 12-byte IV: key, IV, associated data, plaintext. -/
@[irreducible] def gcmTag (key iv aad plain : List Byte) : BitVec 128 :=
  let h := (aes256 key (zeros 16)).toNat
  let s := ghash h (padBlocks aad ++ padBlocks (gctr key iv 2 plain) ++ be 8 (8 * aad.length) ++ be 8 (8 * plain.length))
  BitVec.ofNat 128 (s ^^^ (aes256 key (fit 12 iv ++ be 4 1)).toNat)

/-! ## AES-256-XTS -/

/-- The blocks of a data unit from tweak `t` on, `n` of them. -/
def xtsBlocks (keys : List (List Nat)) : Nat → Nat → List Byte → List Byte
  | 0, _, _ => []
  | n + 1, t, data =>
    let tweak := (be 16 t).reverse
    xorBytes (block (aesBlock keys (xorBytes (data.take 16) tweak))) tweak
      ++ xtsBlocks keys n (if t < 2 ^ 127 then 2 * t else (2 * t) % 2 ^ 128 ^^^ 0x87) (data.drop 16)

/-- AES-256-XTS of a data unit of whole blocks under a 64-byte key: key, unit number, plaintext. -/
@[irreducible] def xts (key : List Byte) (unit : Nat) (plain : List Byte) : List Byte :=
  xtsBlocks (roundKeys (key.take 32)) (plain.length / 16)
    (ofBe (block (aes256 (key.drop 32) (be 16 unit).reverse)).reverse) plain

/-! ## SHA-384 -/

/-- The round constants. -/
def shaConstants : List Nat :=
  [0x428A2F98D728AE22, 0x7137449123EF65CD, 0xB5C0FBCFEC4D3B2F, 0xE9B5DBA58189DBBC, 0x3956C25BF348B538] ++
  [0x59F111F1B605D019, 0x923F82A4AF194F9B, 0xAB1C5ED5DA6D8118, 0xD807AA98A3030242, 0x12835B0145706FBE] ++
  [0x243185BE4EE4B28C, 0x550C7DC3D5FFB4E2, 0x72BE5D74F27B896F, 0x80DEB1FE3B1696B1, 0x9BDC06A725C71235] ++
  [0xC19BF174CF692694, 0xE49B69C19EF14AD2, 0xEFBE4786384F25E3, 0x0FC19DC68B8CD5B5, 0x240CA1CC77AC9C65] ++
  [0x2DE92C6F592B0275, 0x4A7484AA6EA6E483, 0x5CB0A9DCBD41FBD4, 0x76F988DA831153B5, 0x983E5152EE66DFAB] ++
  [0xA831C66D2DB43210, 0xB00327C898FB213F, 0xBF597FC7BEEF0EE4, 0xC6E00BF33DA88FC2, 0xD5A79147930AA725] ++
  [0x06CA6351E003826F, 0x142929670A0E6E70, 0x27B70A8546D22FFC, 0x2E1B21385C26C926, 0x4D2C6DFC5AC42AED] ++
  [0x53380D139D95B3DF, 0x650A73548BAF63DE, 0x766A0ABB3C77B2A8, 0x81C2C92E47EDAEE6, 0x92722C851482353B] ++
  [0xA2BFE8A14CF10364, 0xA81A664BBC423001, 0xC24B8B70D0F89791, 0xC76C51A30654BE30, 0xD192E819D6EF5218] ++
  [0xD69906245565A910, 0xF40E35855771202A, 0x106AA07032BBD1B8, 0x19A4C116B8D2D0C8, 0x1E376C085141AB53] ++
  [0x2748774CDF8EEB99, 0x34B0BCB5E19B48A8, 0x391C0CB3C5C95A63, 0x4ED8AA4AE3418ACB, 0x5B9CCA4F7763E373] ++
  [0x682E6FF3D6B2B8A3, 0x748F82EE5DEFB2FC, 0x78A5636F43172F60, 0x84C87814A1F0AB72, 0x8CC702081A6439EC] ++
  [0x90BEFFFA23631E28, 0xA4506CEBDE82BDE9, 0xBEF9A3F7B2C67915, 0xC67178F2E372532B, 0xCA273ECEEA26619C] ++
  [0xD186B8C721C0C207, 0xEADA7DD6CDE0EB1E, 0xF57D4F7FEE6ED178, 0x06F067AA72176FBA, 0x0A637DC5A2C898A6] ++
  [0x113F9804BEF90DAE, 0x1B710B35131C471B, 0x28DB77F523047D84, 0x32CAAB7B40C72493, 0x3C9EBE0A15C9BEBC] ++
  [0x431D67C49C100D4C, 0x4CC5D4BECB3E42B6, 0x597F299CFC657E2A, 0x5FCB6FAB3AD6FAEC, 0x6C44198C4A475817]

/-- Rotation of a 64-bit word to the right. -/
def rotr (x n : Nat) : Nat := (x >>> n ||| x <<< (64 - n)) % 2 ^ 64

/-- The message schedule, newest word first, extended by `n` words. -/
def shaSchedule : Nat → List Nat → List Nat
  | 0, w => w
  | n + 1, w =>
    let x := w.getD 1 0
    let y := w.getD 14 0
    shaSchedule n (((rotr x 19 ^^^ rotr x 61 ^^^ x >>> 6) + w.getD 6 0 + (rotr y 1 ^^^ rotr y 8 ^^^ y >>> 7) + w.getD 15 0) % 2 ^ 64 :: w)

/-- The rounds of one block, by pairs of a constant and a schedule word. -/
def shaRounds : List (Nat × Nat) → Nat → Nat → Nat → Nat → Nat → Nat → Nat → Nat → List Nat
  | [], a, b, c, d, e, f, g, h => [a, b, c, d, e, f, g, h]
  | (k, w) :: rest, a, b, c, d, e, f, g, h =>
    let t := h + (rotr e 14 ^^^ rotr e 18 ^^^ rotr e 41) + ((e &&& f) ^^^ ((2 ^ 64 - 1 - e) &&& g)) + k + w
    let u := (rotr a 28 ^^^ rotr a 34 ^^^ rotr a 39) + ((a &&& b) ^^^ (a &&& c) ^^^ (b &&& c))
    shaRounds rest ((t + u) % 2 ^ 64) a b c ((d + t) % 2 ^ 64) e f g

/-- The hash value after one 128-byte block. -/
def shaBlock (hash : List Nat) (data : List Byte) : List Nat :=
  let w := (shaSchedule 64 ((List.range 16).map (fun i => num data (8 * (15 - i)) 8))).reverse
  match hash with
  | [a, b, c, d, e, f, g, h] => (shaRounds (shaConstants.zip w) a b c d e f g h).zipWith (fun x y => (x + y) % 2 ^ 64) hash
  | _ => []

/-- The padded message. -/
def shaPad (l : List Byte) : List Byte := l ++ be 1 0x80 ++ zeros ((239 - l.length % 128) % 128) ++ be 16 (8 * l.length)

/-- The blocks of a padded message, `n` of them. -/
def shaBlocks : Nat → List Byte → List Nat → List Nat
  | 0, _, hash => hash
  | n + 1, l, hash => shaBlocks n (l.drop 128) (shaBlock hash (l.take 128))

/-- SHA-384 of a message. -/
@[irreducible] def sha384 (l : List Byte) : BitVec 384 :=
  let p := shaPad l
  let hash := shaBlocks (p.length / 128) p [0xCBBB9D5DC1059ED8, 0x629A292A367CD507, 0x9159015A3070DD17, 0x152FECD8F70E5939,
    0x67332667FFC00B31, 0x8EB44A8768581511, 0xDB0C2E0D64F98FA7, 0x47B5481DBEFA4FA4]
  BitVec.ofNat 384 ((hash.take 6).foldl (fun a b => a * 2 ^ 64 + b) 0)

/-- SHA-384 as 48 bytes. -/
def sha (m : List Byte) : List Byte := be 48 (sha384 m).toNat

end Sys2Proof.Machine
end

