-- ==== Sys2Proof/Config.lean ====
section
/-! DEFINITION. What one part fixes and what the manual leaves open: values fixed at manufacture, the signature and
key-encapsulation functions of the standards the manual names (they rest on private keys, or on public keys of which the
manual gives the machine the hash alone), and the free values. None has a body, so no proof can rest on a value the
manual does not give (log entries 1 to 3). -/

namespace Sys2Proof.Config

/-- Serial number of the part (DEV_SERIAL, R359). -/
opaque serial : Word
/-- DEV_BEHAVIOUR_LEVEL.LEVEL, fixed at manufacture (R584). -/
opaque behaviourLevel : BitVec 16
/-- Byte `i` of the device's public keys (R359): X and Y of the ECDSA point, the ML-DSA key, the ML-KEM key. -/
opaque ecdsaPublicByte : Nat → Byte
opaque mldsaPublicByte : Nat → Byte
opaque mlkemPublicByte : Nat → Byte
/-- Byte `i` of Noraeley's certificate over the identity record (R360). -/
opaque certificateByte : Nat → Byte
/-- SHA-384 of Noraeley's delivery key record (R90). -/
opaque deliveryKeyHash : BitVec 384
/-- The enrolment key of a part that is not yet enrolled (log entry 4). -/
opaque deliveryEnrolKey : BitVec 256

/-- ECDSA P-384 verification under the key record of a given hash: hash, message, signature (FIPS 186-5). -/
opaque ecdsaVerify : BitVec 384 → List Byte → List Byte → Bool
/-- ML-DSA-65 verification: key record hash, context string, message, signature (FIPS 204). -/
opaque mldsaVerify : BitVec 384 → List Byte → List Byte → List Byte → Bool
/-- The device's deterministic ECDSA signature, as a 96-byte number (R361). -/
opaque ecdsaSign : List Byte → BitVec 768
/-- Byte `i` of the device's deterministic ML-DSA-65 signature: context, message (R361). -/
opaque mldsaSignByte : List Byte → List Byte → Nat → Byte
/-- ML-KEM-1024 decapsulation with the identity key: `none` when it fails (FIPS 203). -/
opaque kemDecap : List Byte → Option (BitVec 256)

/-- secParamIndicator of the AUTHENTICATION TLV of IEEE 1588-2019 Annex P for the choices of R382. -/
opaque ptpSecParam : BitVec 8
/-- clockAccuracy, offsetScaledLogVariance and timeSource an Announce carries, which the manual does not give. -/
opaque ptpQuality : BitVec 24
opaque ptpTimeSource : BitVec 8

/-- The Kind that INFO of a chronicle entry of KIND 0x03 gives for each kind of reset, by its row of R60 counted from
0, and the KIND of the entry that records a role conflict: the manual gives no codes (log entry 5). -/
opaque resetKindCode : Nat → BitVec 8
opaque conflictKind : BitVec 8

/-- The level that the board holds on utility pin `p` at elapsed time `t` while the device does not drive it (log entry
112). -/
opaque boardLevel : (t p : Nat) → Bool

/-- The free value of draw `n`, 64 bits wide: whatever the entropy source, an open result or an undefined value
gives. Nothing constrains it (log entry 3). -/
opaque freeValue : Nat → BitVec 64

end Sys2Proof.Config
end

