-- ==== Sys2Proof/Machine/RegMap.lean ====
section
/-! DEFINITION. The register map (R9, R569, R583, R586): every register heading of the spec's chapters with its base
address, its strides, its width and its field table (bits, access code, reset value, clamping range), and one
name for every field and counter. Reserved bits have no row: they read zero and ignore writes (R570). -/

namespace Sys2Proof.Machine

/-- Access codes (R569). -/
inductive Access where
  | ro | rw | rw1c | rw1s | wo | cnt | snap | stg | hwo
  deriving DecidableEq, Repr

/-- One row of a field table; `lo` and `hi` give the range a written value is clamped to, both zero for none. -/
structure FieldRow where
  msb : Nat
  lsb : Nat
  acc : Access
  reset : Nat
  lo : Nat
  hi : Nat
  deriving DecidableEq, Repr

/-- One index of an instantiated register: its stride and the number of instances. -/
structure Axis where
  stride : Nat
  count : Nat
  deriving DecidableEq, Repr

/-- One register heading: base address, indices, width in bytes (R9), fields. -/
structure RegRow where
  base : Nat
  axes : List Axis
  bytes : Nat
  fields : List FieldRow
  deriving DecidableEq, Repr

/-- A field of one register instance: the byte address of its register and its bit range (R5). -/
structure Field where
  addr : Nat
  msb : Nat
  lsb : Nat
  deriving DecidableEq, Repr

/-- The register headings of the manual; a register of several words with different layouts is one name a word. -/
inductive Reg where
  | PWR_STATUS | PWR_EVENTS | PWR_CTRL | PWR_CMD_STATUS | PWR_RESET | PWR_START_TIME | EMB_WAKE_CAUSE | EMB_CTRL
  | EMB_STATUS | EMB_WAKE_FRAMES | EMB_WAKE_ERRORS | EMB_BROWNOUT_CNT | EMB_SLOT_WINDOW | EMB_SLOT_CHECK
  | EMB_SLOT_CTRL | IMG_STATUS | IMG_GENERATION | IMG_SECURITY | IMG_CTRL | IMG_CONFIRM_LEFT | IMG_SLOT_STATE
  | IMG_SLOT_GENERATION | IMG_WRITE_CMD | IMG_WRITE_STATUS | IMG_WRITE_OFFSET | IMG_APPLY_SKIPPED
  | IMG_VOLATILE_WRITES | TLK_CFG | TLK_TIMERS | TLK_CTRL | TLK_HOME | TLK_STATUS | TLK_EVENTS | TLK_SEQ
  | TLK_DELAY | TLK_ECHO_LAST | TLK_STAMP_OFFSET | TLK_ROSTER_EXPECT | TLK_CMD_WORD | TLK_CMD_CTRL | TLK_CMD_STATUS
  | TLK_CMD_REPLY | TLK_COUNTER | TLK_TALKER_ID | TLK_TALKER_STATE | FLT_CTRL | FLT_COMMIT | FLT_BANK_STATUS
  | FLT_SWAP_TIME | FLT_DEVICE_COUNTER | FLT_TENANT_RULES | FLT_TENANT_SCOPE | FLT_SOURCE_DEFAULT
  | FLT_SOURCE_COUNTER | FLT_RULE | FLT_RULE_ACTIVE | FLT_RULE_HITS | STR_CFG | STR_CTRL | STR_STATUS | STR_DEST
  | STR_COUNTER | CAL_CTRL | CAL_NB_REGION | CAL_STATUS | CAL_DEVICE_WM | CAL_DEVICE_COUNTER | CAL_TENANT_CFG
  | CAL_TENANT_QUOTA | CAL_TENANT_STATUS | CAL_TENANT_COUNTER | CAL_STREAM_CFG | CAL_STREAM_VENT
  | CAL_STREAM_STATUS | CAL_STREAM_HOLDER | CAL_STREAM_OLDEST | CAL_STREAM_HOLD | CAL_STREAM_APPLY
  | CAL_STREAM_LATE_MAX | CAL_STREAM_LANES | CAL_STREAM_COUNTER | Q_CFG | Q_QUOTA | Q_THRESHOLD | Q_CTRL | Q_STATUS
  | Q_DEPTH | Q_POINTERS | Q_SEGMENT | Q_COUNTER | Q_POOL_STATUS | GEY_CTRL | GEY_STATUS | GEY_OPEN
  | GEY_DEVICE_COUNTER | GEY_CHANNEL_MAP | GEY_GROUP_COUNT | GEY_PROG | GEY_PROG_CTRL | GEY_PROG_STATUS
  | GEY_PROG_OWNER | GEY_PROG_SOFT_TIME | GEY_PROG_LAST | GEY_PROG_APPLY | GEY_PROG_COUNTER | NBF_CTRL | NBF_STATUS
  | NBF_OLDEST | NBF_COUNTER | NBF_FREEZE_W0 | NBF_FREEZE_W1 | NBF_FREEZE_W2 | NBF_FREEZE_W3 | NBF_FREEZE_W4
  | NBF_FREEZE_W5 | NBF_FREEZE_W6 | LKT_CTRL | LKT_CFG | LKT_KEY | LKT_STATUS | LKT_POOL | LKT_GEOMETRY
  | LKT_SET_ID | LKT_JOURNAL | LKT_RECOVERY | LKT_DEVICE_COUNTER | LKT_PORT_STATUS | LKT_PORT_CTRL
  | LKT_PORT_REBUILD | LKT_PORT_CAPACITY | LKT_PORT_COUNTER | LKT_REPLAY_CFG | LKT_REPLAY_FROM | LKT_REPLAY_TO
  | LKT_REPLAY_CTRL | LKT_REPLAY_STATUS | LKT_REPLAY_PROGRESS | LKT_STREAM_CFG | LKT_STREAM_SPAN | LKT_STREAM_HELD
  | LKT_WINDOW_W0 | LKT_WINDOW_W1 | LKT_WINDOW_W2 | LKT_WINDOW_W3 | LKT_WINDOW_W4 | LKT_WINDOW_W5 | LKT_WINDOW_CTRL
  | LKT_STREAM_COUNTER | LSN_PORT_CFG | LSN_PORT_STATUS | LSN_PORT_RETAIN | LSN_LINK_CFG | LSN_LINK_STATUS
  | LSN_LINK_TIMERS | LSN_LINK_MAC | LSN_LINK_IP4 | LSN_LINK_UDP | LSN_LINK_IP6 | LSN_LINK_COUNTER
  | LSN_LINK_PRIO_COUNTER | LSN_ENDPOINT_W0 | LSN_ENDPOINT_W1 | LSN_ENDPOINT_W2 | LSN_ENDPOINT_W3 | LSN_ENDPOINT_W4
  | LSN_ENDPOINT_W5 | LSN_ENDPOINT_CTRL | LSN_ENDPOINT_STATUS | LSN_STREAM_SEG | LSN_STREAM_FRAME_SEQ | RNG_CFG
  | RNG_PFC | RNG_RELAY | SIG_CTRL | SIG_STATUS | SIG_OWNER_EPOCH | SIG_ROUND | SIG_IDENTITY_HASH | SIG_OWNER_HASH
  | SIG_OWNER_CMD | SIG_OWNER_STATUS | SIG_DEVICE_COUNTER | SIG_KEY_INFO | SIG_STREAM_CFG | SIG_STREAM_STATUS
  | SIG_STREAM_COVERED | SIG_STREAM_COUNTER | TIM_CTRL | TIM_STATUS | TIM_PTP_CFG | TIM_SERVO_CFG | TIM_HOLDOVER
  | TIM_OUTLIER | TIM_PARENT | TIM_OFFSET | TIM_RATE | TIM_DELTA | TIM_COUNTER | TIM_TIME_SEC | TIM_TIME_FRAC
  | TIM_TIME_TICKS | TIM_SET_SEC | TIM_SET_FRAC | TIM_SET_CTRL | TIM_SET_STATUS | TIM_DOMAIN_RATE | TIM_SEGMENT
  | TIM_REF_CFG | TIM_REF_STATUS | TIM_REF_PPS_LAST | TIM_CAL_CFG | TIM_CAL_CTRL | TIM_CAL_STATUS | TIM_CAL_RESULT
  | TIM_PULSE_TARGET | TIM_PULSE_SHAPE | TIM_PULSE_CTRL | TIM_PULSE_STATUS | TIM_PPS_CFG | TIM_FOUT_CFG
  | TIM_FOUT_CTRL | TIM_FOUT_STATUS | TIM_PORT_CFG | TIM_PORT_ASYM | TIM_PORT_STATUS | TIM_PORT_DELAY
  | TIM_PORT_APPLIED | TIM_PORT_COUNTER | TIM_LANE_ASYM | TIM_LANE_CFG | TIM_LANE_APPLIED | EDG_CFG | EDG_CTRL
  | EDG_STATUS | EDG_OUT_TIME | EDG_OUT_SHAPE | EDG_START | EDG_INTERVAL | EDG_COUNTER | ENV_CFG | ENV_COEF
  | ENV_READING | ENV_READING_TIME | ENV_COUNTER | ENV_SCAN | ILK_CFG | ILK_CTRL | ILK_FAULT | ILK_COUNTER
  | UTL_CFG | UTL_PARAM | UTL_CTRL | UTL_STATUS | UTL_COUNTER | FBUS_CFG | FBUS_NBT | FBUS_DBT | FBUS_STATUS
  | FBUS_CTRL | FBUS_ABD | FBUS_TUNNEL | FBUS_TUNNEL_STATUS | FBUS_COUNTER | FBUS_OBJ_CFG | FBUS_OBJ_MASK
  | FBUS_OBJ_TX | FBUS_OBJ_CTRL | FBUS_OBJ_STATUS | FBUS_OBJ_RX_ID | FBUS_OBJ_TIME | FBUS_OBJ_DATA | CLP_STATUS
  | CLP_CFG | CLP_DEVICE_COUNTER | CLP_TENANT_CFG | CLP_TENANT_ERR | CLP_TENANT_COUNTER | CLP_ROUTE | CLP_WATCH_CFG
  | CLP_WATCH_ADDRESS | CLP_WATCH_MASK | CLP_WATCH_LAST | SVC_CFG | SVC_PLCA | SVC_MAC | SVC_UDP | SVC_STATUS
  | SVC_COUNTER | SUP_STATUS | SUP_CFG | SUP_TIMERS | SUP_FENCE_CTRL | SUP_BOOT_ID | SUP_COUNTER | SUP_WATCH_W0
  | SUP_WATCH_W1 | SUP_SPARE | SUP_ISOLATION | SUP_CHRONICLE_NEWEST | SUP_CHRONICLE_SELECT | SUP_INCARNATION
  | TEN_STATUS | TEN_CTRL | TEN_RESET_TIME | TEN_LOG_HEAD | TEN_COUNTER | TEN_LOG | SUP_ROLE_STATUS | SUP_ROLE
  | SUP_PEER_W0 | SUP_PEER_W1 | SUP_PEER_W2 | SUP_WAKE_FRAME | SUP_WAKE_CTRL | SUP_WAKE_STATUS | SUP_SPARE_PEER
  | DEV_ID | DEV_SERIAL | DEV_CAPS | DEV_BEHAVIOUR_LEVEL | DEV_ROLE | DEV_ROLE_ID | DEV_PACE | DEV_PACE_LOW
  | DEV_STATUS | DEV_CTRL | RNG_STATUS | RNG_TIMERS | RNG_COUNTER | RNG_PRIO_COUNTER | RNG_ENDPOINT_W0
  | RNG_ENDPOINT_W1 | RNG_ENDPOINT_W2 | RNG_ENDPOINT_W3 | RNG_ENDPOINT_W4 | RNG_ENDPOINT_W5 | RNG_ENDPOINT_CTRL
  | RNG_ENDPOINT_STATUS
  deriving DecidableEq, Repr

/-- The field table of each register heading. -/
def Reg.row : Reg → RegRow
  | .PWR_STATUS => ⟨0x00010000, [], 4,
    [⟨15, 15, .ro, 0x0, 0, 0⟩, ⟨14, 12, .ro, 0x0, 0, 0⟩, ⟨6, 0, .ro, 0x0, 0, 0⟩]⟩
  | .PWR_EVENTS => ⟨0x00010004, [], 4,
    [⟨14, 8, .rw1c, 0x0, 0, 0⟩, ⟨6, 0, .rw1c, 0x0, 0, 0⟩]⟩
  | .PWR_CTRL => ⟨0x00010008, [], 4,
    [⟨31, 16, .wo, 0x0, 0, 0⟩, ⟨4, 4, .rw, 0x0, 0, 0⟩, ⟨0, 0, .rw1s, 0x0, 0, 0⟩]⟩
  | .PWR_CMD_STATUS => ⟨0x0001000C, [], 4,
    [⟨1, 0, .hwo, 0x0, 0, 0⟩]⟩
  | .PWR_RESET => ⟨0x00010010, [], 4,
    [⟨31, 16, .wo, 0x0, 0, 0⟩, ⟨1, 0, .wo, 0x0, 0, 0⟩]⟩
  | .PWR_START_TIME => ⟨0x00010020, [], 4,
    [⟨31, 0, .hwo, 0x0, 0, 0⟩]⟩
  | .EMB_WAKE_CAUSE => ⟨0x00010100, [], 4,
    [⟨15, 12, .rw1c, 0x0, 0, 0⟩, ⟨11, 8, .rw1c, 0x0, 0, 0⟩, ⟨5, 5, .rw1c, 0x0, 0, 0⟩, ⟨4, 4, .rw1c, 0x0, 0, 0⟩, ⟨3, 3, .rw1c, 0x0, 0, 0⟩, ⟨2, 2, .rw1c, 0x0, 0, 0⟩, ⟨1, 1, .rw1c, 0x0, 0, 0⟩, ⟨0, 0, .rw1c, 0x1, 0, 0⟩]⟩
  | .EMB_CTRL => ⟨0x00010104, [], 4,
    [⟨0, 0, .rw1s, 0x0, 0, 0⟩]⟩
  | .EMB_STATUS => ⟨0x00010108, [], 4,
    [⟨31, 28, .hwo, 0x0, 0, 0⟩, ⟨27, 24, .hwo, 0x0, 0, 0⟩, ⟨8, 8, .hwo, 0x0, 0, 0⟩, ⟨2, 0, .hwo, 0x0, 0, 0⟩]⟩
  | .EMB_WAKE_FRAMES => ⟨0x00010110, [], 8,
    [⟨47, 0, .cnt, 0x0, 0, 0⟩]⟩
  | .EMB_WAKE_ERRORS => ⟨0x00010118, [], 8,
    [⟨47, 0, .cnt, 0x0, 0, 0⟩]⟩
  | .EMB_BROWNOUT_CNT => ⟨0x00010120, [], 8,
    [⟨47, 0, .cnt, 0x0, 0, 0⟩]⟩
  | .EMB_SLOT_WINDOW => ⟨0x00010200, [⟨0x40, 4⟩, ⟨0x8, 4⟩], 8,
    [⟨63, 0, .stg, 0x0, 0, 0⟩]⟩
  | .EMB_SLOT_CHECK => ⟨0x00010220, [⟨0x40, 4⟩], 8,
    [⟨63, 32, .stg, 0x0, 0, 0⟩, ⟨31, 0, .stg, 0x0, 0, 0⟩]⟩
  | .EMB_SLOT_CTRL => ⟨0x00010228, [⟨0x40, 4⟩], 4,
    [⟨1, 1, .stg, 0x0, 0, 0⟩, ⟨0, 0, .stg, 0x0, 0, 0⟩]⟩
  | .IMG_STATUS => ⟨0x00020000, [], 4,
    [⟨31, 24, .hwo, 0x0, 0, 0⟩, ⟨23, 16, .hwo, 0x0, 0, 0⟩, ⟨5, 5, .hwo, 0x0, 0, 0⟩, ⟨4, 4, .hwo, 0x0, 0, 0⟩, ⟨2, 0, .hwo, 0x0, 0, 0⟩]⟩
  | .IMG_GENERATION => ⟨0x00020008, [], 8,
    [⟨63, 0, .hwo, 0x0, 0, 0⟩]⟩
  | .IMG_SECURITY => ⟨0x00020010, [], 8,
    [⟨38, 32, .hwo, 0x0, 0, 0⟩, ⟨31, 16, .hwo, 0x0, 0, 0⟩, ⟨15, 0, .hwo, 0x0, 0, 0⟩]⟩
  | .IMG_CTRL => ⟨0x00020018, [], 4,
    [⟨31, 16, .wo, 0x0, 0, 0⟩, ⟨0, 0, .rw1s, 0x0, 0, 0⟩]⟩
  | .IMG_CONFIRM_LEFT => ⟨0x0002001C, [], 4,
    [⟨16, 0, .hwo, 0x0, 0, 0⟩]⟩
  | .IMG_SLOT_STATE => ⟨0x00020020, [⟨0x10, 2⟩], 4,
    [⟨3, 3, .hwo, 0x0, 0, 0⟩, ⟨2, 2, .hwo, 0x0, 0, 0⟩, ⟨1, 1, .hwo, 0x0, 0, 0⟩, ⟨0, 0, .hwo, 0x0, 0, 0⟩]⟩
  | .IMG_SLOT_GENERATION => ⟨0x00020028, [⟨0x10, 2⟩], 8,
    [⟨63, 0, .hwo, 0x0, 0, 0⟩]⟩
  | .IMG_WRITE_CMD => ⟨0x00020040, [], 4,
    [⟨31, 16, .wo, 0x0, 0, 0⟩, ⟨8, 8, .rw, 0x0, 0, 0⟩, ⟨3, 1, .rw, 0x0, 0, 0⟩, ⟨0, 0, .rw1s, 0x0, 0, 0⟩]⟩
  | .IMG_WRITE_STATUS => ⟨0x00020044, [], 4,
    [⟨31, 31, .rw1c, 0x0, 0, 0⟩, ⟨30, 30, .hwo, 0x0, 0, 0⟩, ⟨7, 0, .hwo, 0x0, 0, 0⟩]⟩
  | .IMG_WRITE_OFFSET => ⟨0x00020048, [], 4,
    [⟨25, 8, .rw, 0x0, 0, 0⟩]⟩
  | .IMG_APPLY_SKIPPED => ⟨0x00020050, [], 8,
    [⟨47, 0, .cnt, 0x0, 0, 0⟩]⟩
  | .IMG_VOLATILE_WRITES => ⟨0x00020058, [], 8,
    [⟨47, 0, .cnt, 0x0, 0, 0⟩]⟩
  | .TLK_CFG => ⟨0x01000000, [⟨0x1000, 1024⟩], 4,
    [⟨2, 2, .rw, 0x1, 0, 0⟩, ⟨1, 0, .rw, 0x0, 0, 0⟩]⟩
  | .TLK_TIMERS => ⟨0x01000004, [⟨0x1000, 1024⟩], 4,
    [⟨31, 25, .rw, 0x8, 2, 64⟩, ⟨24, 15, .rw, 0x14, 5, 1000⟩, ⟨14, 5, .rw, 0xA, 2, 1000⟩, ⟨4, 0, .rw, 0xA, 7, 20⟩]⟩
  | .TLK_CTRL => ⟨0x01000008, [⟨0x1000, 1024⟩], 4,
    [⟨2, 2, .rw1s, 0x0, 0, 0⟩, ⟨1, 1, .rw1s, 0x0, 0, 0⟩, ⟨0, 0, .rw1s, 0x0, 0, 0⟩]⟩
  | .TLK_HOME => ⟨0x0100000C, [⟨0x1000, 1024⟩], 4,
    [⟨29, 16, .rw, 0x0, 0, 0⟩, ⟨9, 0, .rw, 0x0, 0, 0⟩]⟩
  | .TLK_STATUS => ⟨0x01000010, [⟨0x1000, 1024⟩], 4,
    [⟨31, 28, .hwo, 0x0, 0, 0⟩, ⟨27, 27, .hwo, 0x0, 0, 0⟩, ⟨26, 26, .hwo, 0x0, 0, 0⟩, ⟨25, 25, .hwo, 0x0, 0, 0⟩, ⟨24, 24, .hwo, 0x0, 0, 0⟩, ⟨23, 16, .hwo, 0x0, 0, 0⟩, ⟨15, 0, .hwo, 0x0, 0, 0⟩]⟩
  | .TLK_EVENTS => ⟨0x01000014, [⟨0x1000, 1024⟩], 4,
    [⟨31, 31, .rw1c, 0x0, 0, 0⟩, ⟨11, 11, .rw1c, 0x0, 0, 0⟩, ⟨10, 10, .rw1c, 0x0, 0, 0⟩, ⟨9, 9, .hwo, 0x0, 0, 0⟩, ⟨8, 8, .rw1c, 0x0, 0, 0⟩, ⟨7, 7, .rw1c, 0x0, 0, 0⟩, ⟨6, 6, .rw1c, 0x0, 0, 0⟩, ⟨5, 5, .rw1c, 0x0, 0, 0⟩, ⟨4, 4, .rw1c, 0x0, 0, 0⟩, ⟨3, 3, .rw1c, 0x0, 0, 0⟩, ⟨2, 2, .rw1c, 0x0, 0, 0⟩, ⟨1, 1, .rw1c, 0x0, 0, 0⟩, ⟨0, 0, .rw1c, 0x0, 0, 0⟩]⟩
  | .TLK_SEQ => ⟨0x01000018, [⟨0x1000, 1024⟩], 4,
    [⟨31, 16, .hwo, 0xFFFF, 0, 0⟩, ⟨2, 0, .hwo, 0x0, 0, 0⟩]⟩
  | .TLK_DELAY => ⟨0x01000020, [⟨0x1000, 1024⟩], 8,
    [⟨63, 48, .hwo, 0x0, 0, 0⟩, ⟨39, 0, .hwo, 0x0, 0, 0⟩]⟩
  | .TLK_ECHO_LAST => ⟨0x01000028, [⟨0x1000, 1024⟩], 8,
    [⟨63, 32, .hwo, 0x0, 0, 0⟩, ⟨31, 0, .hwo, 0x0, 0, 0⟩]⟩
  | .TLK_STAMP_OFFSET => ⟨0x01000090, [⟨0x1000, 1024⟩], 8,
    [⟨63, 63, .hwo, 0x0, 0, 0⟩, ⟨62, 48, .hwo, 0x0, 0, 0⟩, ⟨39, 0, .hwo, 0x0, 0, 0⟩]⟩
  | .TLK_ROSTER_EXPECT => ⟨0x01000030, [⟨0x1000, 1024⟩, ⟨0x8, 2⟩], 8,
    [⟨63, 0, .rw, 0x0, 0, 0⟩]⟩
  | .TLK_CMD_WORD => ⟨0x01000040, [⟨0x1000, 1024⟩, ⟨0x8, 4⟩], 8,
    [⟨63, 0, .rw, 0x0, 0, 0⟩]⟩
  | .TLK_CMD_CTRL => ⟨0x01000060, [⟨0x1000, 1024⟩], 4,
    [⟨0, 0, .rw1s, 0x0, 0, 0⟩]⟩
  | .TLK_CMD_STATUS => ⟨0x01000064, [⟨0x1000, 1024⟩], 4,
    [⟨31, 31, .rw1c, 0x0, 0, 0⟩, ⟨30, 30, .hwo, 0x0, 0, 0⟩, ⟨15, 8, .hwo, 0x0, 0, 0⟩, ⟨7, 0, .hwo, 0x0, 0, 0⟩]⟩
  | .TLK_CMD_REPLY => ⟨0x01000068, [⟨0x1000, 1024⟩, ⟨0x8, 4⟩], 8,
    [⟨63, 0, .hwo, 0x0, 0, 0⟩]⟩
  | .TLK_COUNTER => ⟨0x01000100, [⟨0x1000, 1024⟩, ⟨0x8, 17⟩], 8,
    [⟨47, 0, .cnt, 0x0, 0, 0⟩]⟩
  | .TLK_TALKER_ID => ⟨0x01000800, [⟨0x1000, 1024⟩, ⟨0x10, 128⟩], 8,
    [⟨63, 0, .hwo, 0x0, 0, 0⟩]⟩
  | .TLK_TALKER_STATE => ⟨0x01000808, [⟨0x1000, 1024⟩, ⟨0x10, 128⟩], 8,
    [⟨63, 63, .hwo, 0x0, 0, 0⟩, ⟨62, 62, .hwo, 0x0, 0, 0⟩, ⟨61, 61, .rw, 0x0, 0, 0⟩, ⟨55, 32, .rw, 0x0, 0, 0⟩, ⟨23, 0, .hwo, 0x0, 0, 0⟩]⟩
  | .FLT_CTRL => ⟨0x02000000, [], 4,
    [⟨20, 16, .rw, 0x14, 16, 30⟩, ⟨15, 0, .rw, 0x3E8, 0, 0⟩]⟩
  | .FLT_COMMIT => ⟨0x02000004, [], 4,
    [⟨31, 16, .wo, 0x0, 0, 0⟩, ⟨1, 1, .rw1s, 0x0, 0, 0⟩, ⟨0, 0, .rw1s, 0x0, 0, 0⟩]⟩
  | .FLT_BANK_STATUS => ⟨0x02000008, [], 4,
    [⟨31, 31, .rw1c, 0x0, 0, 0⟩, ⟨30, 30, .rw1c, 0x0, 0, 0⟩, ⟨29, 29, .rw1c, 0x0, 0, 0⟩, ⟨28, 28, .hwo, 0x0, 0, 0⟩, ⟨27, 26, .hwo, 0x0, 0, 0⟩, ⟨25, 25, .hwo, 0x0, 0, 0⟩, ⟨19, 8, .hwo, 0x0, 0, 0⟩, ⟨7, 0, .hwo, 0x0, 0, 0⟩]⟩
  | .FLT_SWAP_TIME => ⟨0x02000010, [], 8,
    [⟨63, 0, .hwo, 0x0, 0, 0⟩]⟩
  | .FLT_DEVICE_COUNTER => ⟨0x02000100, [⟨0x8, 5⟩], 8,
    [⟨47, 0, .cnt, 0x0, 0, 0⟩]⟩
  | .FLT_TENANT_RULES => ⟨0x02001000, [⟨0x20, 32⟩], 4,
    [⟨31, 29, .stg, 0x6, 0, 0⟩, ⟨28, 16, .stg, 0x0, 0, 0⟩, ⟨11, 0, .stg, 0x0, 0, 0⟩]⟩
  | .FLT_TENANT_SCOPE => ⟨0x02001008, [⟨0x20, 32⟩], 8,
    [⟨63, 32, .stg, 0x0, 0, 0⟩, ⟨31, 0, .stg, 0x0, 0, 0⟩]⟩
  | .FLT_SOURCE_DEFAULT => ⟨0x02010000, [⟨0x8, 2048⟩], 8,
    [⟨33, 32, .stg, 0x0, 0, 1⟩, ⟨31, 30, .stg, 0x2, 0, 0⟩, ⟨29, 27, .stg, 0x0, 0, 0⟩, ⟨24, 12, .stg, 0x0, 0, 0⟩, ⟨11, 0, .stg, 0x0, 0, 0⟩]⟩
  | .FLT_SOURCE_COUNTER => ⟨0x02020000, [⟨0x40, 2048⟩, ⟨0x8, 8⟩], 8,
    [⟨47, 0, .cnt, 0x0, 0, 0⟩]⟩
  | .FLT_RULE => ⟨0x02100000, [⟨0x100, 4096⟩, ⟨0x8, 32⟩], 8,
    [⟨63, 0, .rw, 0x0, 0, 0⟩]⟩
  | .FLT_RULE_ACTIVE => ⟨0x02200000, [⟨0x100, 4096⟩, ⟨0x8, 32⟩], 8,
    [⟨63, 0, .ro, 0x0, 0, 0⟩]⟩
  | .FLT_RULE_HITS => ⟨0x02300000, [⟨0x8, 4096⟩], 8,
    [⟨47, 0, .cnt, 0x0, 0, 0⟩]⟩
  | .STR_CFG => ⟨0x02800000, [⟨0x80, 8192⟩], 4,
    [⟨31, 31, .stg, 0x0, 0, 0⟩, ⟨29, 28, .stg, 0x0, 0, 0⟩, ⟨26, 24, .stg, 0x0, 0, 0⟩, ⟨21, 20, .stg, 0x0, 0, 0⟩, ⟨4, 0, .stg, 0x0, 0, 0⟩]⟩
  | .STR_CTRL => ⟨0x02800004, [⟨0x80, 8192⟩], 4,
    [⟨0, 0, .rw1s, 0x0, 0, 0⟩]⟩
  | .STR_STATUS => ⟨0x02800008, [⟨0x80, 8192⟩], 4,
    [⟨31, 31, .hwo, 0x0, 0, 0⟩, ⟨30, 30, .rw1c, 0x0, 0, 0⟩, ⟨7, 0, .hwo, 0x0, 0, 0⟩]⟩
  | .STR_DEST => ⟨0x02800040, [⟨0x80, 8192⟩, ⟨0x4, 16⟩], 4,
    [⟨31, 28, .stg, 0x0, 0, 0⟩, ⟨27, 20, .stg, 0x0, 0, 0⟩, ⟨19, 8, .stg, 0x0, 0, 0⟩]⟩
  | .STR_COUNTER => ⟨0x02900000, [⟨0x40, 8192⟩, ⟨0x8, 5⟩], 8,
    [⟨47, 0, .cnt, 0x0, 0, 0⟩]⟩
  | .CAL_CTRL => ⟨0x03000000, [], 4,
    [⟨31, 16, .rw, 0x40, 0, 0⟩, ⟨15, 8, .rw, 0x28, 8, 255⟩, ⟨7, 0, .rw, 0x4, 1, 255⟩]⟩
  | .CAL_NB_REGION => ⟨0x03000004, [], 4,
    [⟨5, 0, .stg, 0x0, 0, 0⟩]⟩
  | .CAL_STATUS => ⟨0x03000008, [], 4,
    [⟨31, 31, .rw1c, 0x0, 0, 0⟩, ⟨30, 30, .rw1c, 0x0, 0, 0⟩, ⟨22, 0, .hwo, 0x500000, 0, 0⟩]⟩
  | .CAL_DEVICE_WM => ⟨0x03000010, [], 8,
    [⟨63, 0, .hwo, 0x0, 0, 0⟩]⟩
  | .CAL_DEVICE_COUNTER => ⟨0x03000100, [⟨0x8, 2⟩], 8,
    [⟨47, 0, .cnt, 0x0, 0, 0⟩]⟩
  | .CAL_TENANT_CFG => ⟨0x03001000, [⟨0x20, 32⟩], 4,
    [⟨31, 16, .rw, 0x1, 1, 65535⟩]⟩
  | .CAL_TENANT_QUOTA => ⟨0x03001004, [⟨0x20, 32⟩], 4,
    [⟨31, 0, .rw, 0x0, 0, 0⟩]⟩
  | .CAL_TENANT_STATUS => ⟨0x03001008, [⟨0x20, 32⟩], 8,
    [⟨63, 32, .hwo, 0x0, 0, 0⟩, ⟨31, 0, .hwo, 0x0, 0, 0⟩]⟩
  | .CAL_TENANT_COUNTER => ⟨0x03001010, [⟨0x20, 32⟩, ⟨0x8, 2⟩], 8,
    [⟨47, 0, .cnt, 0x0, 0, 0⟩]⟩
  | .CAL_STREAM_CFG => ⟨0x03010000, [⟨0x40, 8192⟩], 4,
    [⟨31, 31, .stg, 0x0, 0, 0⟩, ⟨30, 30, .stg, 0x0, 0, 0⟩, ⟨29, 29, .stg, 0x1, 0, 0⟩, ⟨28, 28, .stg, 0x0, 0, 0⟩, ⟨24, 20, .stg, 0x14, 16, 30⟩, ⟨17, 0, .stg, 0x4, 0, 0⟩]⟩
  | .CAL_STREAM_VENT => ⟨0x03010004, [⟨0x40, 8192⟩], 4,
    [⟨12, 0, .stg, 0x0, 0, 0⟩]⟩
  | .CAL_STREAM_STATUS => ⟨0x03010008, [⟨0x40, 8192⟩], 4,
    [⟨31, 31, .hwo, 0x0, 0, 0⟩, ⟨30, 30, .rw1c, 0x0, 0, 0⟩, ⟨7, 0, .hwo, 0x0, 0, 0⟩]⟩
  | .CAL_STREAM_HOLDER => ⟨0x0301000C, [⟨0x40, 8192⟩], 4,
    [⟨31, 0, .hwo, 0xFFFFFFFF, 0, 0⟩]⟩
  | .CAL_STREAM_OLDEST => ⟨0x03010010, [⟨0x40, 8192⟩], 8,
    [⟨63, 0, .hwo, 0x0, 0, 0⟩]⟩
  | .CAL_STREAM_HOLD => ⟨0x03010018, [⟨0x40, 8192⟩], 8,
    [⟨63, 0, .hwo, 0x0, 0, 0⟩]⟩
  | .CAL_STREAM_APPLY => ⟨0x03010020, [⟨0x40, 8192⟩], 8,
    [⟨63, 0, .hwo, 0x0, 0, 0⟩]⟩
  | .CAL_STREAM_LATE_MAX => ⟨0x03010028, [⟨0x40, 8192⟩], 8,
    [⟨63, 0, .hwo, 0x0, 0, 0⟩]⟩
  | .CAL_STREAM_LANES => ⟨0x03100000, [⟨0x80, 8192⟩, ⟨0x8, 16⟩], 8,
    [⟨63, 0, .stg, 0xFFFFFFFFFFFFFFFF, 0, 0⟩]⟩
  | .CAL_STREAM_COUNTER => ⟨0x03200000, [⟨0x40, 8192⟩, ⟨0x8, 8⟩], 8,
    [⟨47, 0, .cnt, 0x0, 0, 0⟩]⟩
  | .Q_CFG => ⟨0x08000000, [⟨0x100, 4096⟩], 4,
    [⟨31, 31, .rw, 0x0, 0, 0⟩, ⟨24, 16, .rw, 0x90, 1, 256⟩, ⟨15, 0, .rw, 0x400, 1, 65535⟩]⟩
  | .Q_QUOTA => ⟨0x08000004, [⟨0x100, 4096⟩], 4,
    [⟨19, 0, .rw, 0x0, 0, 0⟩]⟩
  | .Q_THRESHOLD => ⟨0x08000008, [⟨0x100, 4096⟩], 4,
    [⟨31, 16, .rw, 0x0, 0, 0⟩, ⟨15, 0, .rw, 0x0, 0, 0⟩]⟩
  | .Q_CTRL => ⟨0x0800000C, [⟨0x100, 4096⟩], 4,
    [⟨0, 0, .rw1s, 0x0, 0, 0⟩]⟩
  | .Q_STATUS => ⟨0x08000010, [⟨0x100, 4096⟩], 4,
    [⟨31, 31, .rw1c, 0x0, 0, 0⟩, ⟨30, 30, .rw1c, 0x0, 0, 0⟩, ⟨29, 29, .rw1c, 0x0, 0, 0⟩, ⟨28, 28, .rw1c, 0x0, 0, 0⟩, ⟨27, 27, .rw1c, 0x0, 0, 0⟩, ⟨26, 26, .rw1c, 0x0, 0, 0⟩, ⟨25, 21, .hwo, 0x0, 0, 0⟩, ⟨20, 20, .hwo, 0x1, 0, 0⟩, ⟨19, 19, .hwo, 0x0, 0, 0⟩, ⟨18, 18, .hwo, 0x0, 0, 0⟩, ⟨17, 17, .hwo, 0x0, 0, 0⟩, ⟨16, 16, .hwo, 0x0, 0, 0⟩, ⟨15, 15, .hwo, 0x1, 0, 0⟩]⟩
  | .Q_DEPTH => ⟨0x08000018, [⟨0x100, 4096⟩], 8,
    [⟨51, 32, .hwo, 0x0, 0, 0⟩, ⟨15, 0, .hwo, 0x0, 0, 0⟩]⟩
  | .Q_POINTERS => ⟨0x08000020, [⟨0x100, 4096⟩], 8,
    [⟨51, 32, .hwo, 0x0, 0, 0⟩, ⟨19, 0, .hwo, 0x0, 0, 0⟩]⟩
  | .Q_SEGMENT => ⟨0x08000028, [⟨0x100, 4096⟩], 4,
    [⟨19, 0, .hwo, 0x0, 0, 0⟩]⟩
  | .Q_COUNTER => ⟨0x08000080, [⟨0x100, 4096⟩, ⟨0x8, 9⟩], 8,
    [⟨47, 0, .cnt, 0x0, 0, 0⟩]⟩
  | .Q_POOL_STATUS => ⟨0x08100000, [], 8,
    [⟨51, 32, .hwo, 0x0, 0, 0⟩, ⟨19, 0, .hwo, 0x80000, 0, 0⟩]⟩
  | .GEY_CTRL => ⟨0x04000000, [], 4,
    [⟨28, 24, .rw, 0x14, 16, 30⟩, ⟨21, 16, .rw, 0x4, 1, 32⟩, ⟨13, 8, .rw, 0x10, 1, 63⟩]⟩
  | .GEY_STATUS => ⟨0x04000004, [], 4,
    [⟨31, 31, .rw1c, 0x0, 0, 0⟩, ⟨30, 30, .hwo, 0x0, 0, 0⟩]⟩
  | .GEY_OPEN => ⟨0x04000008, [], 8,
    [⟨63, 0, .hwo, 0x0, 0, 0⟩]⟩
  | .GEY_DEVICE_COUNTER => ⟨0x04000100, [⟨0x8, 12⟩], 8,
    [⟨47, 0, .cnt, 0x0, 0, 0⟩]⟩
  | .GEY_CHANNEL_MAP => ⟨0x04001000, [⟨0x4, 256⟩], 4,
    [⟨31, 31, .rw, 0x0, 0, 0⟩, ⟨11, 8, .rw, 0x0, 0, 0⟩, ⟨5, 0, .rw, 0x0, 0, 0⟩]⟩
  | .GEY_GROUP_COUNT => ⟨0x04010000, [⟨0x40, 4096⟩, ⟨0x4, 16⟩], 4,
    [⟨31, 0, .ro, 0x0, 0, 0⟩]⟩
  | .GEY_PROG => ⟨0x04080000, [⟨0x100, 64⟩, ⟨0x8, 32⟩], 8,
    [⟨63, 0, .stg, 0x0, 0, 0⟩]⟩
  | .GEY_PROG_CTRL => ⟨0x04084000, [⟨0x40, 64⟩], 4,
    [⟨1, 1, .rw1s, 0x0, 0, 0⟩, ⟨0, 0, .rw1s, 0x0, 0, 0⟩]⟩
  | .GEY_PROG_STATUS => ⟨0x04084004, [⟨0x40, 64⟩], 4,
    [⟨31, 31, .rw1c, 0x0, 0, 0⟩, ⟨30, 30, .rw1c, 0x0, 0, 0⟩, ⟨29, 29, .hwo, 0x0, 0, 0⟩, ⟨28, 28, .hwo, 0x0, 0, 0⟩, ⟨15, 8, .hwo, 0x0, 0, 0⟩, ⟨7, 0, .hwo, 0x0, 0, 0⟩]⟩
  | .GEY_PROG_OWNER => ⟨0x04084008, [⟨0x40, 64⟩], 4,
    [⟨4, 0, .rw, 0x0, 0, 0⟩]⟩
  | .GEY_PROG_SOFT_TIME => ⟨0x04084010, [⟨0x40, 64⟩], 8,
    [⟨63, 0, .rw, 0x0, 0, 0⟩]⟩
  | .GEY_PROG_LAST => ⟨0x04084018, [⟨0x40, 64⟩], 8,
    [⟨63, 0, .hwo, 0x0, 0, 0⟩]⟩
  | .GEY_PROG_APPLY => ⟨0x04084020, [⟨0x40, 64⟩], 8,
    [⟨63, 0, .hwo, 0x0, 0, 0⟩]⟩
  | .GEY_PROG_COUNTER => ⟨0x04088000, [⟨0x40, 64⟩, ⟨0x8, 4⟩], 8,
    [⟨47, 0, .cnt, 0x0, 0, 0⟩]⟩
  | .NBF_CTRL => ⟨0x04200000, [], 4,
    [⟨31, 24, .rw, 0x30, 0, 0⟩, ⟨15, 0, .rw, 0x14, 1, 16000⟩]⟩
  | .NBF_STATUS => ⟨0x04200004, [], 4,
    [⟨31, 31, .rw1c, 0x0, 0, 0⟩, ⟨30, 30, .rw1c, 0x0, 0, 0⟩, ⟨23, 16, .hwo, 0x0, 0, 0⟩, ⟨7, 0, .hwo, 0x0, 0, 0⟩]⟩
  | .NBF_OLDEST => ⟨0x04200008, [], 8,
    [⟨63, 0, .hwo, 0x0, 0, 0⟩]⟩
  | .NBF_COUNTER => ⟨0x04200100, [⟨0x8, 8⟩], 8,
    [⟨47, 0, .cnt, 0x0, 0, 0⟩]⟩
  | .NBF_FREEZE_W0 => ⟨0x04210000, [⟨0x40, 1024⟩], 8,
    [⟨63, 60, .hwo, 0x0, 0, 0⟩, ⟨59, 54, .hwo, 0x0, 0, 0⟩, ⟨53, 46, .hwo, 0x0, 0, 0⟩, ⟨45, 30, .hwo, 0x0, 0, 0⟩, ⟨29, 16, .hwo, 0x0, 0, 0⟩, ⟨15, 0, .hwo, 0x0, 0, 0⟩]⟩
  | .NBF_FREEZE_W1 => ⟨0x04210008, [⟨0x40, 1024⟩], 8,
    [⟨63, 0, .hwo, 0x0, 0, 0⟩]⟩
  | .NBF_FREEZE_W2 => ⟨0x04210010, [⟨0x40, 1024⟩], 8,
    [⟨63, 0, .hwo, 0x0, 0, 0⟩]⟩
  | .NBF_FREEZE_W3 => ⟨0x04210018, [⟨0x40, 1024⟩], 8,
    [⟨63, 0, .hwo, 0x0, 0, 0⟩]⟩
  | .NBF_FREEZE_W4 => ⟨0x04210020, [⟨0x40, 1024⟩], 8,
    [⟨63, 0, .hwo, 0x0, 0, 0⟩]⟩
  | .NBF_FREEZE_W5 => ⟨0x04210028, [⟨0x40, 1024⟩], 8,
    [⟨63, 0, .hwo, 0x0, 0, 0⟩]⟩
  | .NBF_FREEZE_W6 => ⟨0x04210030, [⟨0x40, 1024⟩], 8,
    [⟨63, 0, .hwo, 0x0, 0, 0⟩]⟩
  | .LKT_CTRL => ⟨0x05000000, [], 4,
    [⟨31, 16, .wo, 0x0, 0, 0⟩, ⟨1, 1, .rw1s, 0x0, 0, 0⟩, ⟨0, 0, .rw1s, 0x0, 0, 0⟩]⟩
  | .LKT_CFG => ⟨0x05000004, [], 4,
    [⟨31, 31, .rw, 0x0, 0, 0⟩, ⟨23, 16, .rw, 0x4, 1, 28⟩, ⟨15, 0, .rw, 0x1F4, 10, 4000⟩]⟩
  | .LKT_KEY => ⟨0x05000008, [], 4,
    [⟨15, 0, .rw, 0x0, 0, 0⟩]⟩
  | .LKT_STATUS => ⟨0x0500000C, [], 4,
    [⟨31, 31, .rw1c, 0x0, 0, 0⟩, ⟨30, 30, .rw1c, 0x0, 0, 0⟩, ⟨23, 16, .hwo, 0x0, 0, 0⟩, ⟨3, 0, .hwo, 0x0, 0, 0⟩]⟩
  | .LKT_POOL => ⟨0x05000010, [], 8,
    [⟨63, 32, .rw, 0x0, 0, 0⟩, ⟨31, 0, .rw, 0x0, 0, 0⟩]⟩
  | .LKT_GEOMETRY => ⟨0x05000018, [], 8,
    [⟨63, 48, .hwo, 0x0, 0, 0⟩, ⟨31, 0, .hwo, 0x0, 0, 0⟩]⟩
  | .LKT_SET_ID => ⟨0x05000020, [], 8,
    [⟨63, 0, .hwo, 0x0, 0, 0⟩]⟩
  | .LKT_JOURNAL => ⟨0x05000028, [], 8,
    [⟨63, 43, .hwo, 0x0, 0, 0⟩, ⟨0, 0, .hwo, 0x0, 0, 0⟩]⟩
  | .LKT_RECOVERY => ⟨0x05000030, [], 4,
    [⟨31, 0, .hwo, 0x0, 0, 0⟩]⟩
  | .LKT_DEVICE_COUNTER => ⟨0x05000100, [⟨0x8, 11⟩], 8,
    [⟨47, 0, .cnt, 0x0, 0, 0⟩]⟩
  | .LKT_PORT_STATUS => ⟨0x05001000, [⟨0x100, 16⟩], 4,
    [⟨31, 28, .hwo, 0x0, 0, 0⟩, ⟨27, 24, .hwo, 0x0, 0, 0⟩, ⟨23, 20, .hwo, 0x0, 0, 0⟩, ⟨19, 19, .hwo, 0x0, 0, 0⟩, ⟨18, 18, .rw1c, 0x0, 0, 0⟩]⟩
  | .LKT_PORT_CTRL => ⟨0x05001004, [⟨0x100, 16⟩], 4,
    [⟨31, 16, .wo, 0x0, 0, 0⟩, ⟨0, 0, .rw1s, 0x0, 0, 0⟩]⟩
  | .LKT_PORT_REBUILD => ⟨0x05001008, [⟨0x100, 16⟩], 8,
    [⟨63, 32, .hwo, 0x0, 0, 0⟩, ⟨31, 0, .hwo, 0x0, 0, 0⟩]⟩
  | .LKT_PORT_CAPACITY => ⟨0x05001010, [⟨0x100, 16⟩], 8,
    [⟨63, 0, .hwo, 0x0, 0, 0⟩]⟩
  | .LKT_PORT_COUNTER => ⟨0x05001040, [⟨0x100, 16⟩, ⟨0x8, 6⟩], 8,
    [⟨47, 0, .cnt, 0x0, 0, 0⟩]⟩
  | .LKT_REPLAY_CFG => ⟨0x05002000, [⟨0x40, 8⟩], 8,
    [⟨63, 62, .rw, 0x0, 0, 0⟩, ⟨60, 48, .rw, 0x0, 0, 0⟩, ⟨47, 40, .rw, 0x0, 0, 0⟩, ⟨39, 28, .rw, 0x0, 0, 0⟩, ⟨26, 24, .rw, 0x0, 0, 0⟩, ⟨23, 16, .rw, 0x0, 0, 200⟩, ⟨1, 1, .rw, 0x0, 0, 0⟩, ⟨0, 0, .rw, 0x0, 0, 0⟩]⟩
  | .LKT_REPLAY_FROM => ⟨0x05002008, [⟨0x40, 8⟩], 8,
    [⟨63, 0, .rw, 0x0, 0, 0⟩]⟩
  | .LKT_REPLAY_TO => ⟨0x05002010, [⟨0x40, 8⟩], 8,
    [⟨63, 0, .rw, 0x0, 0, 0⟩]⟩
  | .LKT_REPLAY_CTRL => ⟨0x05002018, [⟨0x40, 8⟩], 4,
    [⟨1, 1, .rw1s, 0x0, 0, 0⟩, ⟨0, 0, .rw1s, 0x0, 0, 0⟩]⟩
  | .LKT_REPLAY_STATUS => ⟨0x0500201C, [⟨0x40, 8⟩], 4,
    [⟨31, 31, .rw1c, 0x0, 0, 0⟩, ⟨30, 30, .hwo, 0x0, 0, 0⟩, ⟨20, 16, .hwo, 0x0, 0, 0⟩, ⟨7, 0, .hwo, 0x0, 0, 0⟩]⟩
  | .LKT_REPLAY_PROGRESS => ⟨0x05002020, [⟨0x40, 8⟩], 8,
    [⟨63, 48, .hwo, 0x0, 0, 0⟩, ⟨47, 0, .hwo, 0x0, 0, 0⟩]⟩
  | .LKT_STREAM_CFG => ⟨0x05010000, [⟨0x20, 8192⟩], 8,
    [⟨39, 16, .rw, 0x0, 0, 0⟩, ⟨9, 0, .rw, 0xA, 0, 1000⟩]⟩
  | .LKT_STREAM_SPAN => ⟨0x05010008, [⟨0x20, 8192⟩, ⟨0x8, 2⟩], 8,
    [⟨63, 0, .hwo, 0x0, 0, 0⟩]⟩
  | .LKT_STREAM_HELD => ⟨0x05010018, [⟨0x20, 8192⟩], 4,
    [⟨23, 0, .hwo, 0x0, 0, 0⟩]⟩
  | .LKT_WINDOW_W0 => ⟨0x05060000, [⟨0x40, 4096⟩], 8,
    [⟨63, 62, .hwo, 0x0, 0, 0⟩, ⟨61, 61, .rw, 0x0, 0, 0⟩, ⟨60, 60, .hwo, 0x0, 0, 0⟩, ⟨59, 47, .hwo, 0x0, 0, 0⟩, ⟨29, 16, .hwo, 0x0, 0, 0⟩, ⟨15, 0, .hwo, 0x0, 0, 0⟩]⟩
  | .LKT_WINDOW_W1 => ⟨0x05060008, [⟨0x40, 4096⟩], 8,
    [⟨63, 0, .hwo, 0x0, 0, 0⟩]⟩
  | .LKT_WINDOW_W2 => ⟨0x05060010, [⟨0x40, 4096⟩], 8,
    [⟨63, 0, .hwo, 0x0, 0, 0⟩]⟩
  | .LKT_WINDOW_W3 => ⟨0x05060018, [⟨0x40, 4096⟩], 8,
    [⟨63, 0, .hwo, 0x0, 0, 0⟩]⟩
  | .LKT_WINDOW_W4 => ⟨0x05060020, [⟨0x40, 4096⟩], 8,
    [⟨63, 0, .hwo, 0x0, 0, 0⟩]⟩
  | .LKT_WINDOW_W5 => ⟨0x05060028, [⟨0x40, 4096⟩], 8,
    [⟨63, 0, .hwo, 0x0, 0, 0⟩]⟩
  | .LKT_WINDOW_CTRL => ⟨0x05060030, [⟨0x40, 4096⟩], 4,
    [⟨0, 0, .rw1s, 0x0, 0, 0⟩]⟩
  | .LKT_STREAM_COUNTER => ⟨0x050C0000, [⟨0x20, 8192⟩, ⟨0x8, 4⟩], 8,
    [⟨47, 0, .cnt, 0x0, 0, 0⟩]⟩
  | .LSN_PORT_CFG => ⟨0x06000000, [⟨0x10000, 32⟩], 4,
    [⟨3, 3, .rw, 0x0, 0, 0⟩, ⟨2, 2, .rw, 0x0, 0, 0⟩, ⟨1, 0, .rw, 0x0, 0, 0⟩]⟩
  | .LSN_PORT_STATUS => ⟨0x06000004, [⟨0x10000, 32⟩], 4,
    [⟨31, 31, .rw1c, 0x0, 0, 0⟩, ⟨7, 0, .hwo, 0x0, 0, 0⟩]⟩
  | .LSN_PORT_RETAIN => ⟨0x06000008, [⟨0x10000, 32⟩], 8,
    [⟨63, 32, .hwo, 0x0, 0, 0⟩, ⟨31, 0, .hwo, 0x0, 0, 0⟩]⟩
  | .LSN_LINK_CFG => ⟨0x06001000, [⟨0x10000, 32⟩, ⟨0x800, 8⟩], 4,
    [⟨31, 31, .rw, 0x0, 0, 0⟩, ⟨30, 30, .rw, 0x0, 0, 0⟩, ⟨29, 28, .rw, 0x0, 0, 0⟩, ⟨27, 20, .rw, 0x0, 0, 0⟩, ⟨19, 12, .rw, 0x40, 1, 255⟩]⟩
  | .LSN_LINK_STATUS => ⟨0x06001004, [⟨0x10000, 32⟩, ⟨0x800, 8⟩], 4,
    [⟨31, 31, .rw1c, 0x0, 0, 0⟩, ⟨30, 30, .rw1c, 0x0, 0, 0⟩, ⟨29, 29, .hwo, 0x0, 0, 0⟩, ⟨28, 21, .hwo, 0x0, 0, 0⟩, ⟨20, 13, .hwo, 0x0, 0, 0⟩, ⟨12, 11, .hwo, 0x0, 0, 0⟩]⟩
  | .LSN_LINK_TIMERS => ⟨0x06001008, [⟨0x10000, 32⟩, ⟨0x800, 8⟩], 8,
    [⟨63, 48, .rw, 0x3E8, 0, 0⟩, ⟨47, 32, .rw, 0x7D0, 100, 65535⟩, ⟨31, 16, .rw, 0x3E8, 10, 65535⟩]⟩
  | .LSN_LINK_MAC => ⟨0x06001010, [⟨0x10000, 32⟩, ⟨0x800, 8⟩], 8,
    [⟨47, 0, .rw, 0x0, 0, 0⟩]⟩
  | .LSN_LINK_IP4 => ⟨0x06001018, [⟨0x10000, 32⟩, ⟨0x800, 8⟩], 4,
    [⟨31, 0, .rw, 0x0, 0, 0⟩]⟩
  | .LSN_LINK_UDP => ⟨0x0600101C, [⟨0x10000, 32⟩, ⟨0x800, 8⟩], 4,
    [⟨31, 16, .rw, 0xB2F2, 0, 0⟩, ⟨15, 0, .rw, 0xB2F3, 0, 0⟩]⟩
  | .LSN_LINK_IP6 => ⟨0x06001020, [⟨0x10000, 32⟩, ⟨0x800, 8⟩, ⟨0x8, 2⟩], 8,
    [⟨63, 0, .rw, 0x0, 0, 0⟩]⟩
  | .LSN_LINK_COUNTER => ⟨0x06001100, [⟨0x10000, 32⟩, ⟨0x800, 8⟩, ⟨0x8, 30⟩], 8,
    [⟨47, 0, .cnt, 0x0, 0, 0⟩]⟩
  | .LSN_LINK_PRIO_COUNTER => ⟨0x06001400, [⟨0x10000, 32⟩, ⟨0x800, 8⟩, ⟨0x40, 8⟩, ⟨0x8, 6⟩], 8,
    [⟨47, 0, .cnt, 0x0, 0, 0⟩]⟩
  | .LSN_ENDPOINT_W0 => ⟨0x06008000, [⟨0x10000, 32⟩, ⟨0x40, 256⟩], 8,
    [⟨63, 63, .stg, 0x0, 0, 0⟩, ⟨62, 62, .stg, 0x0, 0, 0⟩, ⟨61, 61, .stg, 0x0, 0, 0⟩, ⟨60, 60, .stg, 0x0, 0, 0⟩, ⟨59, 59, .stg, 0x0, 0, 0⟩, ⟨52, 48, .stg, 0x0, 0, 0⟩, ⟨47, 0, .stg, 0x0, 0, 0⟩]⟩
  | .LSN_ENDPOINT_W1 => ⟨0x06008008, [⟨0x10000, 32⟩, ⟨0x40, 256⟩], 8,
    [⟨59, 48, .stg, 0x0, 0, 0⟩, ⟨31, 16, .stg, 0xB2F2, 0, 0⟩, ⟨15, 0, .stg, 0xB2F2, 0, 0⟩]⟩
  | .LSN_ENDPOINT_W2 => ⟨0x06008010, [⟨0x10000, 32⟩, ⟨0x40, 256⟩], 8,
    [⟨63, 0, .stg, 0x0, 0, 0⟩]⟩
  | .LSN_ENDPOINT_W3 => ⟨0x06008018, [⟨0x10000, 32⟩, ⟨0x40, 256⟩], 8,
    [⟨63, 0, .stg, 0x0, 0, 0⟩]⟩
  | .LSN_ENDPOINT_W4 => ⟨0x06008020, [⟨0x10000, 32⟩, ⟨0x40, 256⟩], 8,
    [⟨63, 44, .stg, 0x3E8, 10, 1000000⟩, ⟨43, 32, .stg, 0x32, 2, 4095⟩, ⟨31, 16, .stg, 0x0, 0, 0⟩, ⟨15, 12, .stg, 0x3, 0, 0⟩]⟩
  | .LSN_ENDPOINT_W5 => ⟨0x06008028, [⟨0x10000, 32⟩, ⟨0x40, 256⟩], 8,
    [⟨31, 0, .stg, 0x0, 0, 0⟩]⟩
  | .LSN_ENDPOINT_CTRL => ⟨0x06008030, [⟨0x10000, 32⟩, ⟨0x40, 256⟩], 4,
    [⟨0, 0, .rw1s, 0x0, 0, 0⟩]⟩
  | .LSN_ENDPOINT_STATUS => ⟨0x06008038, [⟨0x10000, 32⟩, ⟨0x40, 256⟩], 8,
    [⟨63, 62, .hwo, 0x0, 0, 0⟩, ⟨61, 61, .rw1c, 0x0, 0, 0⟩, ⟨55, 48, .hwo, 0x0, 0, 0⟩, ⟨31, 0, .hwo, 0x0, 0, 0⟩]⟩
  | .LSN_STREAM_SEG => ⟨0x06800000, [⟨0x10, 8192⟩], 4,
    [⟨31, 16, .rw, 0x64, 1, 65535⟩, ⟨10, 0, .rw, 0x478, 3, 1144⟩]⟩
  | .LSN_STREAM_FRAME_SEQ => ⟨0x06800008, [⟨0x10, 8192⟩], 8,
    [⟨63, 0, .hwo, 0x0, 0, 0⟩]⟩
  | .RNG_CFG => ⟨0x07000000, [⟨0x10000, 8⟩], 4,
    [⟨31, 31, .rw, 0x0, 0, 0⟩, ⟨30, 24, .rw, 0x0, 0, 0⟩, ⟨23, 16, .rw, 0x1, 1, 255⟩]⟩
  | .RNG_PFC => ⟨0x07000010, [⟨0x10000, 8⟩], 4,
    [⟨31, 16, .rw, 0x300, 2, 1024⟩, ⟨15, 0, .rw, 0x200, 0, 0⟩]⟩
  | .RNG_RELAY => ⟨0x0700C000, [⟨0x10000, 8⟩, ⟨0x8, 256⟩], 8,
    [⟨63, 63, .rw, 0x0, 0, 0⟩, ⟨62, 62, .rw, 0x0, 0, 0⟩, ⟨61, 48, .rw, 0x0, 0, 0⟩, ⟨44, 32, .rw, 0x0, 0, 0⟩, ⟨31, 24, .rw, 0x0, 0, 0⟩, ⟨23, 16, .rw, 0x0, 0, 0⟩]⟩
  | .SIG_CTRL => ⟨0x09000000, [], 4,
    [⟨31, 31, .rw, 0x0, 0, 0⟩, ⟨23, 16, .rw, 0x0, 0, 0⟩, ⟨15, 0, .rw, 0x3E8, 100, 10000⟩]⟩
  | .SIG_STATUS => ⟨0x09000004, [], 4,
    [⟨31, 31, .rw1c, 0x0, 0, 0⟩, ⟨30, 30, .rw1c, 0x0, 0, 0⟩, ⟨29, 29, .rw1c, 0x0, 0, 0⟩, ⟨25, 24, .hwo, 0x0, 0, 0⟩, ⟨13, 0, .hwo, 0x0, 0, 0⟩]⟩
  | .SIG_OWNER_EPOCH => ⟨0x09000008, [], 8,
    [⟨63, 0, .hwo, 0x0, 0, 0⟩]⟩
  | .SIG_ROUND => ⟨0x09000010, [], 8,
    [⟨63, 0, .hwo, 0x0, 0, 0⟩]⟩
  | .SIG_IDENTITY_HASH => ⟨0x09000040, [⟨0x8, 6⟩], 8,
    [⟨63, 0, .hwo, 0x0, 0, 0⟩]⟩
  | .SIG_OWNER_HASH => ⟨0x09000070, [⟨0x8, 6⟩], 8,
    [⟨63, 0, .hwo, 0x0, 0, 0⟩]⟩
  | .SIG_OWNER_CMD => ⟨0x090000A0, [], 4,
    [⟨31, 16, .wo, 0x0, 0, 0⟩, ⟨0, 0, .rw1s, 0x0, 0, 0⟩]⟩
  | .SIG_OWNER_STATUS => ⟨0x090000A4, [], 4,
    [⟨31, 31, .rw1c, 0x0, 0, 0⟩, ⟨30, 30, .hwo, 0x0, 0, 0⟩, ⟨7, 0, .hwo, 0x0, 0, 0⟩]⟩
  | .SIG_DEVICE_COUNTER => ⟨0x09000100, [⟨0x8, 6⟩], 8,
    [⟨47, 0, .cnt, 0x0, 0, 0⟩]⟩
  | .SIG_KEY_INFO => ⟨0x09001000, [⟨0x8, 256⟩], 8,
    [⟨63, 63, .hwo, 0x0, 0, 0⟩, ⟨62, 62, .hwo, 0x0, 0, 0⟩, ⟨36, 32, .hwo, 0x0, 0, 0⟩, ⟨31, 24, .hwo, 0x0, 0, 0⟩, ⟨15, 0, .hwo, 0x0, 0, 0⟩]⟩
  | .SIG_STREAM_CFG => ⟨0x09100000, [⟨0x20, 8192⟩], 8,
    [⟨63, 63, .stg, 0x0, 0, 0⟩, ⟨62, 62, .stg, 0x0, 0, 0⟩, ⟨61, 61, .stg, 0x1, 0, 0⟩, ⟨55, 32, .stg, 0x3E8, 0, 0⟩, ⟨31, 16, .stg, 0x0, 0, 0⟩, ⟨15, 0, .stg, 0x0, 0, 0⟩]⟩
  | .SIG_STREAM_STATUS => ⟨0x09100008, [⟨0x20, 8192⟩], 4,
    [⟨31, 31, .hwo, 0x0, 0, 0⟩, ⟨30, 30, .rw1c, 0x0, 0, 0⟩, ⟨7, 0, .hwo, 0x0, 0, 0⟩]⟩
  | .SIG_STREAM_COVERED => ⟨0x09100010, [⟨0x20, 8192⟩], 8,
    [⟨63, 0, .hwo, 0x0, 0, 0⟩]⟩
  | .SIG_STREAM_COUNTER => ⟨0x09180000, [⟨0x20, 8192⟩, ⟨0x8, 4⟩], 8,
    [⟨47, 0, .cnt, 0x0, 0, 0⟩]⟩
  | .TIM_CTRL => ⟨0x00040000, [], 4,
    [⟨31, 16, .wo, 0x0, 0, 0⟩, ⟨12, 8, .rw, 0x0, 0, 0⟩, ⟨2, 2, .rw, 0x0, 0, 0⟩, ⟨1, 1, .rw1s, 0x0, 0, 0⟩, ⟨0, 0, .rw1s, 0x0, 0, 0⟩]⟩
  | .TIM_STATUS => ⟨0x00040004, [], 4,
    [⟨31, 31, .rw1c, 0x0, 0, 0⟩, ⟨30, 30, .rw1c, 0x0, 0, 0⟩, ⟨29, 29, .rw1c, 0x0, 0, 0⟩, ⟨28, 28, .rw1c, 0x0, 0, 0⟩, ⟨27, 27, .rw1c, 0x0, 0, 0⟩, ⟨26, 26, .rw1c, 0x0, 0, 0⟩, ⟨22, 22, .hwo, 0x0, 0, 0⟩, ⟨21, 21, .hwo, 0x0, 0, 0⟩, ⟨20, 20, .hwo, 0x0, 0, 0⟩, ⟨19, 19, .hwo, 0x0, 0, 0⟩, ⟨15, 12, .hwo, 0x0, 0, 0⟩, ⟨7, 6, .hwo, 0x0, 0, 0⟩, ⟨5, 4, .hwo, 0x0, 0, 0⟩, ⟨3, 2, .hwo, 0x0, 0, 0⟩, ⟨1, 0, .hwo, 0x0, 0, 0⟩]⟩
  | .TIM_PTP_CFG => ⟨0x00040008, [], 4,
    [⟨31, 24, .rw, 0x0, 0, 0⟩, ⟨23, 16, .rw, 0x1, 0, 0⟩, ⟨15, 8, .rw, 0xFB, 0, 0⟩, ⟨7, 0, .rw, 0x0, 0, 0⟩]⟩
  | .TIM_SERVO_CFG => ⟨0x0004000C, [], 4,
    [⟨31, 24, .rw, 0x5, 1, 100⟩, ⟨23, 16, .rw, 0x3, 2, 16⟩, ⟨15, 0, .rw, 0x64, 1, 1000⟩]⟩
  | .TIM_HOLDOVER => ⟨0x00040010, [], 4,
    [⟨31, 16, .rw, 0x3C, 0, 3600⟩, ⟨15, 0, .rw, 0xE10, 1, 65535⟩]⟩
  | .TIM_OUTLIER => ⟨0x00040014, [], 4,
    [⟨31, 0, .rw, 0x3E8, 10, 1000000⟩]⟩
  | .TIM_PARENT => ⟨0x00040018, [], 4,
    [⟨31, 24, .hwo, 0xFF, 0, 0⟩, ⟨23, 16, .hwo, 0xFF, 0, 0⟩, ⟨15, 8, .rw, 0xFF, 0, 0⟩]⟩
  | .TIM_OFFSET => ⟨0x00040020, [], 8,
    [⟨63, 0, .hwo, 0x0, 0, 0⟩]⟩
  | .TIM_RATE => ⟨0x00040028, [], 8,
    [⟨47, 0, .hwo, 0x0, 0, 0⟩]⟩
  | .TIM_DELTA => ⟨0x00040030, [], 8,
    [⟨63, 0, .hwo, 0x0, 0, 0⟩]⟩
  | .TIM_COUNTER => ⟨0x00040040, [⟨0x8, 8⟩], 8,
    [⟨47, 0, .cnt, 0x0, 0, 0⟩]⟩
  | .TIM_TIME_SEC => ⟨0x00040100, [⟨0x40, 4⟩], 8,
    [⟨47, 0, .snap, 0x0, 0, 0⟩]⟩
  | .TIM_TIME_FRAC => ⟨0x00040108, [⟨0x40, 4⟩], 8,
    [⟨63, 32, .ro, 0x0, 0, 0⟩, ⟨31, 16, .ro, 0x0, 0, 0⟩]⟩
  | .TIM_TIME_TICKS => ⟨0x00040110, [⟨0x40, 4⟩], 8,
    [⟨63, 0, .ro, 0x0, 0, 0⟩]⟩
  | .TIM_SET_SEC => ⟨0x00040118, [⟨0x40, 4⟩], 8,
    [⟨47, 0, .stg, 0x0, 0, 0⟩]⟩
  | .TIM_SET_FRAC => ⟨0x00040120, [⟨0x40, 4⟩], 8,
    [⟨63, 32, .stg, 0x0, 0, 0⟩, ⟨31, 16, .stg, 0x0, 0, 0⟩]⟩
  | .TIM_SET_CTRL => ⟨0x00040128, [⟨0x40, 4⟩], 4,
    [⟨31, 16, .wo, 0x0, 0, 0⟩, ⟨1, 1, .rw, 0x0, 0, 0⟩, ⟨0, 0, .rw1s, 0x0, 0, 0⟩]⟩
  | .TIM_SET_STATUS => ⟨0x0004012C, [⟨0x40, 4⟩], 4,
    [⟨31, 31, .rw1c, 0x0, 0, 0⟩, ⟨30, 30, .hwo, 0x0, 0, 0⟩, ⟨7, 0, .hwo, 0x0, 0, 0⟩]⟩
  | .TIM_DOMAIN_RATE => ⟨0x00040130, [⟨0x40, 4⟩], 4,
    [⟨31, 0, .rw, 0x0, 0, 0⟩]⟩
  | .TIM_SEGMENT => ⟨0x00040200, [⟨0x20, 4⟩, ⟨0x8, 4⟩], 8,
    [⟨63, 0, .hwo, 0x0, 0, 0⟩]⟩
  | .TIM_REF_CFG => ⟨0x00040300, [], 8,
    [⟨63, 32, .rw, 0x0, 0, 0⟩, ⟨7, 0, .rw, 0x8, 1, 64⟩]⟩
  | .TIM_REF_STATUS => ⟨0x00040308, [], 4,
    [⟨31, 31, .hwo, 0x0, 0, 0⟩, ⟨30, 30, .hwo, 0x0, 0, 0⟩]⟩
  | .TIM_REF_PPS_LAST => ⟨0x00040310, [], 8,
    [⟨63, 0, .hwo, 0x0, 0, 0⟩]⟩
  | .TIM_CAL_CFG => ⟨0x00040400, [], 8,
    [⟨63, 32, .rw, 0x0, 0, 0⟩, ⟨27, 24, .rw, 0x0, 0, 0⟩, ⟨23, 16, .rw, 0x40, 1, 255⟩, ⟨15, 14, .rw, 0x0, 0, 0⟩, ⟨9, 0, .rw, 0x0, 0, 0⟩]⟩
  | .TIM_CAL_CTRL => ⟨0x00040408, [], 4,
    [⟨31, 16, .wo, 0x0, 0, 0⟩, ⟨1, 1, .rw, 0x0, 0, 0⟩, ⟨0, 0, .rw1s, 0x0, 0, 0⟩]⟩
  | .TIM_CAL_STATUS => ⟨0x0004040C, [], 4,
    [⟨31, 31, .rw1c, 0x0, 0, 0⟩, ⟨30, 30, .hwo, 0x0, 0, 0⟩, ⟨7, 0, .hwo, 0x0, 0, 0⟩]⟩
  | .TIM_CAL_RESULT => ⟨0x00040410, [], 8,
    [⟨63, 32, .hwo, 0x0, 0, 0⟩, ⟨31, 0, .hwo, 0x0, 0, 0⟩]⟩
  | .TIM_PULSE_TARGET => ⟨0x00040500, [⟨0x20, 4⟩], 8,
    [⟨63, 0, .rw, 0x0, 0, 0⟩]⟩
  | .TIM_PULSE_SHAPE => ⟨0x00040508, [⟨0x20, 4⟩], 8,
    [⟨63, 32, .rw, 0x0, 0, 0⟩, ⟨31, 0, .rw, 0x3E8, 0, 0⟩]⟩
  | .TIM_PULSE_CTRL => ⟨0x00040510, [⟨0x20, 4⟩], 4,
    [⟨1, 1, .rw1s, 0x0, 0, 0⟩, ⟨0, 0, .rw1s, 0x0, 0, 0⟩]⟩
  | .TIM_PULSE_STATUS => ⟨0x00040514, [⟨0x20, 4⟩], 4,
    [⟨31, 31, .rw1c, 0x0, 0, 0⟩, ⟨30, 30, .rw1c, 0x0, 0, 0⟩, ⟨29, 29, .hwo, 0x0, 0, 0⟩]⟩
  | .TIM_PPS_CFG => ⟨0x00040600, [], 8,
    [⟨47, 32, .rw, 0x0, 0, 0⟩, ⟨19, 0, .rw, 0x186A0, 1, 999999⟩]⟩
  | .TIM_FOUT_CFG => ⟨0x00040700, [⟨0x20, 4⟩], 8,
    [⟨63, 63, .stg, 0x0, 0, 0⟩, ⟨62, 62, .stg, 0x0, 0, 0⟩, ⟨61, 61, .stg, 0x1, 0, 0⟩, ⟨45, 0, .stg, 0x0, 0, 0⟩]⟩
  | .TIM_FOUT_CTRL => ⟨0x00040708, [⟨0x20, 4⟩], 4,
    [⟨0, 0, .rw1s, 0x0, 0, 0⟩]⟩
  | .TIM_FOUT_STATUS => ⟨0x0004070C, [⟨0x20, 4⟩], 4,
    [⟨31, 31, .hwo, 0x0, 0, 0⟩, ⟨30, 30, .hwo, 0x0, 0, 0⟩, ⟨7, 0, .hwo, 0x0, 0, 0⟩]⟩
  | .TIM_PORT_CFG => ⟨0x00041000, [⟨0x100, 8⟩], 4,
    [⟨31, 31, .rw, 0x0, 0, 0⟩, ⟨23, 16, .rw, 0xFF, 0, 0⟩, ⟨15, 0, .rw, 0x0, 0, 0⟩]⟩
  | .TIM_PORT_ASYM => ⟨0x00041008, [⟨0x100, 8⟩], 8,
    [⟨63, 32, .rw, 0x0, 0, 0⟩, ⟨31, 0, .rw, 0x0, 0, 0⟩]⟩
  | .TIM_PORT_STATUS => ⟨0x00041010, [⟨0x100, 8⟩], 4,
    [⟨31, 28, .hwo, 0x3, 0, 0⟩, ⟨27, 24, .hwo, 0x3, 0, 0⟩, ⟨23, 23, .hwo, 0x0, 0, 0⟩, ⟨22, 22, .hwo, 0x0, 0, 0⟩, ⟨21, 21, .rw1c, 0x0, 0, 0⟩, ⟨15, 14, .hwo, 0x0, 0, 0⟩, ⟨13, 12, .hwo, 0x0, 0, 0⟩, ⟨3, 0, .hwo, 0x0, 0, 0⟩]⟩
  | .TIM_PORT_DELAY => ⟨0x00041018, [⟨0x100, 8⟩], 8,
    [⟨63, 0, .hwo, 0x0, 0, 0⟩]⟩
  | .TIM_PORT_APPLIED => ⟨0x00041020, [⟨0x100, 8⟩], 8,
    [⟨63, 0, .hwo, 0x0, 0, 0⟩]⟩
  | .TIM_PORT_COUNTER => ⟨0x00041040, [⟨0x100, 8⟩, ⟨0x8, 9⟩], 8,
    [⟨47, 0, .cnt, 0x0, 0, 0⟩]⟩
  | .TIM_LANE_ASYM => ⟨0x00048000, [⟨0x10, 1024⟩], 8,
    [⟨63, 32, .rw, 0x0, 0, 0⟩, ⟨31, 0, .rw, 0x0, 0, 0⟩]⟩
  | .TIM_LANE_CFG => ⟨0x00048008, [⟨0x10, 1024⟩], 4,
    [⟨31, 31, .rw, 0x0, 0, 0⟩, ⟨23, 16, .rw, 0xFF, 0, 0⟩, ⟨15, 0, .rw, 0x0, 0, 0⟩]⟩
  | .TIM_LANE_APPLIED => ⟨0x0004800C, [⟨0x10, 1024⟩], 4,
    [⟨31, 0, .hwo, 0x0, 0, 0⟩]⟩
  | .EDG_CFG => ⟨0x00080000, [⟨0x100, 16⟩], 4,
    [⟨31, 30, .rw, 0x0, 0, 0⟩, ⟨29, 29, .rw, 0x0, 0, 0⟩, ⟨28, 28, .rw, 0x0, 0, 0⟩, ⟨27, 27, .rw, 0x0, 0, 0⟩, ⟨23, 16, .rw, 0x0, 0, 0⟩, ⟨15, 8, .rw, 0xFF, 0, 0⟩]⟩
  | .EDG_CTRL => ⟨0x00080004, [⟨0x100, 16⟩], 4,
    [⟨2, 2, .rw1s, 0x0, 0, 0⟩, ⟨1, 1, .rw1s, 0x0, 0, 0⟩, ⟨0, 0, .rw1s, 0x0, 0, 0⟩]⟩
  | .EDG_STATUS => ⟨0x00080008, [⟨0x100, 16⟩], 4,
    [⟨31, 31, .rw1c, 0x0, 0, 0⟩, ⟨30, 30, .rw1c, 0x0, 0, 0⟩, ⟨29, 29, .rw1c, 0x0, 0, 0⟩, ⟨28, 28, .rw1c, 0x0, 0, 0⟩, ⟨27, 27, .rw1c, 0x0, 0, 0⟩, ⟨26, 26, .hwo, 0x0, 0, 0⟩, ⟨25, 25, .hwo, 0x0, 0, 0⟩, ⟨24, 24, .hwo, 0x0, 0, 0⟩, ⟨23, 23, .hwo, 0x0, 0, 0⟩]⟩
  | .EDG_OUT_TIME => ⟨0x00080010, [⟨0x100, 16⟩], 8,
    [⟨63, 0, .rw, 0x0, 0, 0⟩]⟩
  | .EDG_OUT_SHAPE => ⟨0x00080018, [⟨0x100, 16⟩], 8,
    [⟨63, 32, .rw, 0x0, 0, 0⟩, ⟨31, 0, .rw, 0x3E8, 0, 0⟩]⟩
  | .EDG_START => ⟨0x00080020, [⟨0x100, 16⟩], 8,
    [⟨63, 0, .snap, 0x0, 0, 0⟩]⟩
  | .EDG_INTERVAL => ⟨0x00080028, [⟨0x100, 16⟩], 8,
    [⟨63, 0, .ro, 0x0, 0, 0⟩]⟩
  | .EDG_COUNTER => ⟨0x00080040, [⟨0x100, 16⟩, ⟨0x8, 4⟩], 8,
    [⟨47, 0, .cnt, 0x0, 0, 0⟩]⟩
  | .ENV_CFG => ⟨0x00082000, [⟨0x100, 16⟩], 4,
    [⟨31, 31, .stg, 0x0, 0, 0⟩, ⟨30, 28, .stg, 0x0, 0, 0⟩, ⟨27, 26, .stg, 0x1, 0, 0⟩, ⟨25, 23, .stg, 0x3, 0, 0⟩, ⟨22, 21, .stg, 0x0, 0, 0⟩, ⟨20, 20, .rw1c, 0x0, 0, 0⟩, ⟨15, 0, .stg, 0x64, 10, 10000⟩]⟩
  | .ENV_COEF => ⟨0x00082008, [⟨0x100, 16⟩], 8,
    [⟨63, 32, .stg, 0x0, 0, 0⟩, ⟨31, 0, .stg, 0x0, 0, 0⟩]⟩
  | .ENV_READING => ⟨0x00082010, [⟨0x100, 16⟩], 8,
    [⟨63, 32, .hwo, 0x0, 0, 0⟩, ⟨31, 16, .hwo, 0x0, 0, 0⟩, ⟨15, 8, .hwo, 0x0, 0, 0⟩]⟩
  | .ENV_READING_TIME => ⟨0x00082018, [⟨0x100, 16⟩], 8,
    [⟨63, 0, .hwo, 0x0, 0, 0⟩]⟩
  | .ENV_COUNTER => ⟨0x00082040, [⟨0x100, 16⟩, ⟨0x8, 3⟩], 8,
    [⟨47, 0, .cnt, 0x0, 0, 0⟩]⟩
  | .ENV_SCAN => ⟨0x00083000, [], 4,
    [⟨31, 31, .rw1c, 0x0, 0, 0⟩, ⟨30, 30, .rw1c, 0x0, 0, 0⟩, ⟨11, 0, .stg, 0x1, 1, 3600⟩]⟩
  | .ILK_CFG => ⟨0x00084000, [⟨0x40, 8⟩], 4,
    [⟨31, 28, .rw, 0x3, 0, 0⟩, ⟨27, 26, .rw, 0x0, 0, 0⟩, ⟨1, 0, .rw, 0x0, 0, 0⟩]⟩
  | .ILK_CTRL => ⟨0x00084004, [⟨0x40, 8⟩], 4,
    [⟨0, 0, .rw1s, 0x0, 0, 0⟩]⟩
  | .ILK_FAULT => ⟨0x00084008, [⟨0x40, 8⟩], 4,
    [⟨31, 31, .rw1c, 0x0, 0, 0⟩, ⟨30, 30, .hwo, 0x0, 0, 0⟩, ⟨29, 29, .hwo, 0x0, 0, 0⟩, ⟨28, 28, .hwo, 0x0, 0, 0⟩, ⟨27, 24, .hwo, 0x0, 0, 0⟩, ⟨4, 4, .hwo, 0x0, 0, 0⟩, ⟨3, 0, .hwo, 0x0, 0, 0⟩]⟩
  | .ILK_COUNTER => ⟨0x00084010, [⟨0x40, 8⟩, ⟨0x8, 3⟩], 8,
    [⟨47, 0, .cnt, 0x0, 0, 0⟩]⟩
  | .UTL_CFG => ⟨0x00085000, [⟨0x20, 32⟩], 4,
    [⟨31, 28, .rw, 0x0, 0, 0⟩, ⟨27, 27, .rw, 0x0, 0, 0⟩, ⟨26, 26, .rw, 0x0, 0, 0⟩, ⟨25, 22, .rw, 0x3, 0, 0⟩]⟩
  | .UTL_PARAM => ⟨0x00085004, [⟨0x20, 32⟩], 4,
    [⟨31, 0, .rw, 0x0, 0, 0⟩]⟩
  | .UTL_CTRL => ⟨0x00085008, [⟨0x20, 32⟩], 4,
    [⟨1, 1, .rw1s, 0x0, 0, 0⟩, ⟨0, 0, .rw, 0x0, 0, 0⟩]⟩
  | .UTL_STATUS => ⟨0x0008500C, [⟨0x20, 32⟩], 4,
    [⟨31, 31, .rw1c, 0x0, 0, 0⟩, ⟨30, 30, .rw1c, 0x0, 0, 0⟩, ⟨29, 29, .hwo, 0x0, 0, 0⟩, ⟨28, 28, .hwo, 0x0, 0, 0⟩, ⟨27, 27, .hwo, 0x0, 0, 0⟩, ⟨26, 26, .hwo, 0x0, 0, 0⟩, ⟨25, 22, .hwo, 0x0, 0, 0⟩, ⟨21, 18, .hwo, 0x0, 0, 0⟩]⟩
  | .UTL_COUNTER => ⟨0x00085010, [⟨0x20, 32⟩, ⟨0x8, 2⟩], 8,
    [⟨47, 0, .cnt, 0x0, 0, 0⟩]⟩
  | .FBUS_CFG => ⟨0x000C0000, [⟨0x10000, 2⟩], 4,
    [⟨31, 31, .rw, 0x0, 0, 0⟩, ⟨30, 29, .rw, 0x0, 0, 0⟩, ⟨28, 28, .rw, 0x1, 0, 0⟩, ⟨27, 27, .rw, 0x0, 0, 0⟩, ⟨26, 26, .rw, 0x1, 0, 0⟩, ⟨25, 25, .rw, 0x0, 0, 0⟩, ⟨24, 24, .rw, 0x0, 0, 0⟩, ⟨23, 20, .rw, 0xF, 0, 0⟩]⟩
  | .FBUS_NBT => ⟨0x000C0004, [⟨0x10000, 2⟩], 4,
    [⟨31, 24, .rw, 0x0, 0, 0⟩, ⟨23, 16, .rw, 0x7E, 1, 255⟩, ⟨14, 8, .rw, 0x1F, 1, 127⟩, ⟨6, 0, .rw, 0x1F, 0, 0⟩]⟩
  | .FBUS_DBT => ⟨0x000C0008, [⟨0x10000, 2⟩], 4,
    [⟨31, 31, .rw, 0x1, 0, 0⟩, ⟨30, 24, .rw, 0x1E, 0, 0⟩, ⟨20, 16, .rw, 0x0, 0, 0⟩, ⟨12, 8, .rw, 0x1C, 0, 0⟩, ⟨7, 4, .rw, 0x9, 0, 0⟩, ⟨3, 0, .rw, 0x9, 0, 0⟩]⟩
  | .FBUS_STATUS => ⟨0x000C000C, [⟨0x10000, 2⟩], 4,
    [⟨31, 31, .rw1c, 0x0, 0, 0⟩, ⟨30, 30, .rw1c, 0x0, 0, 0⟩, ⟨29, 29, .rw1c, 0x0, 0, 0⟩, ⟨26, 24, .hwo, 0x0, 0, 0⟩, ⟨16, 8, .hwo, 0x0, 0, 0⟩, ⟨7, 0, .hwo, 0x0, 0, 0⟩]⟩
  | .FBUS_CTRL => ⟨0x000C0010, [⟨0x10000, 2⟩], 4,
    [⟨2, 2, .rw, 0x0, 0, 0⟩, ⟨1, 1, .rw1s, 0x0, 0, 0⟩, ⟨0, 0, .rw1s, 0x0, 0, 0⟩]⟩
  | .FBUS_ABD => ⟨0x000C0014, [⟨0x10000, 2⟩], 4,
    [⟨31, 31, .rw1c, 0x0, 0, 0⟩, ⟨30, 30, .hwo, 0x0, 0, 0⟩, ⟨23, 16, .hwo, 0x0, 0, 0⟩, ⟨15, 8, .hwo, 0x0, 0, 0⟩, ⟨7, 0, .hwo, 0x0, 0, 0⟩]⟩
  | .FBUS_TUNNEL => ⟨0x000C0018, [⟨0x10000, 2⟩], 4,
    [⟨31, 0, .rw, 0x0, 0, 0⟩]⟩
  | .FBUS_TUNNEL_STATUS => ⟨0x000C001C, [⟨0x10000, 2⟩], 4,
    [⟨5, 0, .hwo, 0x0, 0, 0⟩]⟩
  | .FBUS_COUNTER => ⟨0x000C0100, [⟨0x10000, 2⟩, ⟨0x8, 17⟩], 8,
    [⟨47, 0, .cnt, 0x0, 0, 0⟩]⟩
  | .FBUS_OBJ_CFG => ⟨0x000C8000, [⟨0x10000, 2⟩, ⟨0x80, 128⟩], 4,
    [⟨31, 31, .rw, 0x0, 0, 0⟩, ⟨30, 30, .rw, 0x0, 0, 0⟩, ⟨29, 29, .rw, 0x0, 0, 0⟩, ⟨28, 0, .rw, 0x0, 0, 0⟩]⟩
  | .FBUS_OBJ_MASK => ⟨0x000C8004, [⟨0x10000, 2⟩, ⟨0x80, 128⟩], 4,
    [⟨31, 31, .rw, 0x1, 0, 0⟩, ⟨28, 0, .rw, 0x1FFFFFFF, 0, 0⟩]⟩
  | .FBUS_OBJ_TX => ⟨0x000C8008, [⟨0x10000, 2⟩, ⟨0x80, 128⟩], 4,
    [⟨7, 7, .rw, 0x0, 0, 0⟩, ⟨6, 6, .rw, 0x0, 0, 0⟩, ⟨3, 0, .rw, 0x0, 0, 0⟩]⟩
  | .FBUS_OBJ_CTRL => ⟨0x000C800C, [⟨0x10000, 2⟩, ⟨0x80, 128⟩], 4,
    [⟨1, 1, .rw1s, 0x0, 0, 0⟩, ⟨0, 0, .rw1s, 0x0, 0, 0⟩]⟩
  | .FBUS_OBJ_STATUS => ⟨0x000C8010, [⟨0x10000, 2⟩, ⟨0x80, 128⟩], 4,
    [⟨31, 31, .rw1c, 0x0, 0, 0⟩, ⟨30, 30, .rw1c, 0x0, 0, 0⟩, ⟨29, 29, .rw1c, 0x0, 0, 0⟩, ⟨28, 28, .rw1c, 0x0, 0, 0⟩, ⟨27, 27, .hwo, 0x0, 0, 0⟩, ⟨26, 26, .hwo, 0x0, 0, 0⟩, ⟨25, 25, .hwo, 0x0, 0, 0⟩, ⟨24, 24, .hwo, 0x0, 0, 0⟩, ⟨23, 16, .hwo, 0x0, 0, 0⟩, ⟨15, 8, .hwo, 0x0, 0, 0⟩, ⟨6, 0, .hwo, 0x0, 0, 0⟩]⟩
  | .FBUS_OBJ_RX_ID => ⟨0x000C8014, [⟨0x10000, 2⟩, ⟨0x80, 128⟩], 4,
    [⟨31, 31, .hwo, 0x0, 0, 0⟩, ⟨30, 30, .hwo, 0x0, 0, 0⟩, ⟨29, 29, .hwo, 0x0, 0, 0⟩, ⟨28, 0, .hwo, 0x0, 0, 0⟩]⟩
  | .FBUS_OBJ_TIME => ⟨0x000C8018, [⟨0x10000, 2⟩, ⟨0x80, 128⟩], 8,
    [⟨63, 0, .hwo, 0x0, 0, 0⟩]⟩
  | .FBUS_OBJ_DATA => ⟨0x000C8040, [⟨0x10000, 2⟩, ⟨0x80, 128⟩, ⟨0x8, 8⟩], 8,
    [⟨63, 0, .rw, 0x0, 0, 0⟩]⟩
  | .CLP_STATUS => ⟨0x00100000, [], 4,
    [⟨31, 31, .rw1c, 0x0, 0, 0⟩, ⟨17, 16, .hwo, 0x0, 0, 0⟩, ⟨8, 0, .hwo, 0x0, 0, 0⟩]⟩
  | .CLP_CFG => ⟨0x00100004, [], 4,
    [⟨15, 0, .rw, 0x3E8, 10, 65535⟩]⟩
  | .CLP_DEVICE_COUNTER => ⟨0x00100100, [⟨0x8, 11⟩], 8,
    [⟨47, 0, .cnt, 0x0, 0, 0⟩]⟩
  | .CLP_TENANT_CFG => ⟨0x00101000, [⟨0x40, 32⟩], 4,
    [⟨0, 0, .rw, 0x0, 0, 0⟩]⟩
  | .CLP_TENANT_ERR => ⟨0x00101008, [⟨0x40, 32⟩], 8,
    [⟨63, 32, .hwo, 0x0, 0, 0⟩, ⟨29, 16, .hwo, 0x0, 0, 0⟩, ⟨7, 0, .hwo, 0x0, 0, 0⟩]⟩
  | .CLP_TENANT_COUNTER => ⟨0x00101010, [⟨0x40, 32⟩, ⟨0x8, 4⟩], 8,
    [⟨47, 0, .cnt, 0x0, 0, 0⟩]⟩
  | .CLP_ROUTE => ⟨0x00104000, [⟨0x8, 1024⟩], 8,
    [⟨63, 0, .rw, 0x0, 0, 0⟩]⟩
  | .CLP_WATCH_CFG => ⟨0x00108000, [⟨0x20, 64⟩], 8,
    [⟨63, 63, .rw, 0x0, 0, 0⟩, ⟨62, 62, .rw, 0x0, 0, 0⟩, ⟨61, 61, .rw1c, 0x0, 0, 0⟩, ⟨60, 56, .rw, 0x0, 0, 0⟩, ⟨49, 36, .rw, 0x0, 0, 0⟩, ⟨19, 0, .rw, 0x3E8, 10, 1000000⟩]⟩
  | .CLP_WATCH_ADDRESS => ⟨0x00108008, [⟨0x20, 64⟩], 4,
    [⟨31, 0, .rw, 0x0, 0, 0⟩]⟩
  | .CLP_WATCH_MASK => ⟨0x00108010, [⟨0x20, 64⟩], 8,
    [⟨63, 0, .rw, 0xFFFFFFFFFFFFFFFF, 0, 0⟩]⟩
  | .CLP_WATCH_LAST => ⟨0x00108018, [⟨0x20, 64⟩], 8,
    [⟨63, 0, .hwo, 0x0, 0, 0⟩]⟩
  | .SVC_CFG => ⟨0x00110000, [], 4,
    [⟨31, 31, .rw, 0x1, 0, 0⟩, ⟨30, 30, .rw, 0x0, 0, 0⟩]⟩
  | .SVC_PLCA => ⟨0x00110004, [], 4,
    [⟨31, 24, .rw, 0xFF, 0, 0⟩, ⟨23, 16, .rw, 0x8, 1, 255⟩, ⟨15, 8, .rw, 0x20, 1, 255⟩, ⟨7, 4, .rw, 0x0, 0, 0⟩, ⟨3, 0, .rw, 0x8, 1, 15⟩]⟩
  | .SVC_MAC => ⟨0x00110008, [], 8,
    [⟨47, 0, .rw, 0x0, 0, 0⟩]⟩
  | .SVC_UDP => ⟨0x00110010, [], 4,
    [⟨15, 0, .rw, 0xB2F3, 0, 0⟩]⟩
  | .SVC_STATUS => ⟨0x00110014, [], 4,
    [⟨31, 31, .rw1c, 0x0, 0, 0⟩, ⟨30, 30, .hwo, 0x0, 0, 0⟩, ⟨4, 0, .hwo, 0x0, 0, 0⟩]⟩
  | .SVC_COUNTER => ⟨0x00110100, [⟨0x8, 9⟩], 8,
    [⟨47, 0, .cnt, 0x0, 0, 0⟩]⟩
  | .SUP_STATUS => ⟨0x00200000, [], 4,
    [⟨31, 31, .rw1c, 0x0, 0, 0⟩, ⟨30, 30, .rw1c, 0x0, 0, 0⟩, ⟨29, 29, .rw1c, 0x0, 0, 0⟩, ⟨28, 28, .rw1c, 0x0, 0, 0⟩, ⟨27, 27, .hwo, 0x0, 0, 0⟩, ⟨26, 24, .hwo, 0x7, 0, 0⟩]⟩
  | .SUP_CFG => ⟨0x00200004, [], 4,
    [⟨31, 20, .rw, 0x3E8, 100, 4000⟩, ⟨19, 16, .rw, 0x2, 1, 8⟩, ⟨15, 15, .rw, 0x1, 0, 0⟩]⟩
  | .SUP_TIMERS => ⟨0x00200008, [], 4,
    [⟨31, 16, .rw, 0x3E8, 50, 10000⟩, ⟨15, 0, .rw, 0x14, 2, 1000⟩]⟩
  | .SUP_FENCE_CTRL => ⟨0x0020000C, [], 4,
    [⟨31, 16, .wo, 0x0, 0, 0⟩, ⟨0, 0, .rw1s, 0x0, 0, 0⟩]⟩
  | .SUP_BOOT_ID => ⟨0x00200010, [], 8,
    [⟨63, 0, .hwo, 0x0, 0, 0⟩]⟩
  | .SUP_COUNTER => ⟨0x00200100, [⟨0x8, 22⟩], 8,
    [⟨47, 0, .cnt, 0x0, 0, 0⟩]⟩
  | .SUP_WATCH_W0 => ⟨0x00201000, [⟨0x10, 16⟩], 8,
    [⟨63, 63, .rw, 0x0, 0, 0⟩, ⟨62, 62, .hwo, 0x0, 0, 0⟩, ⟨61, 61, .hwo, 0x0, 0, 0⟩, ⟨45, 32, .rw, 0x0, 0, 0⟩, ⟨31, 0, .hwo, 0x0, 0, 0⟩]⟩
  | .SUP_WATCH_W1 => ⟨0x00201008, [⟨0x10, 16⟩], 8,
    [⟨63, 0, .hwo, 0x0, 0, 0⟩]⟩
  | .SUP_SPARE => ⟨0x00201100, [⟨0x8, 16⟩], 8,
    [⟨63, 63, .rw, 0x0, 0, 0⟩, ⟨7, 0, .rw, 0x0, 0, 0⟩]⟩
  | .SUP_ISOLATION => ⟨0x00202000, [⟨0x8, 64⟩], 8,
    [⟨63, 63, .hwo, 0x0, 0, 0⟩, ⟨62, 62, .rw1s, 0x0, 0, 0⟩, ⟨55, 48, .hwo, 0x0, 0, 0⟩, ⟨43, 32, .hwo, 0x0, 0, 0⟩]⟩
  | .SUP_CHRONICLE_NEWEST => ⟨0x00203000, [], 8,
    [⟨63, 0, .hwo, 0x0, 0, 0⟩]⟩
  | .SUP_CHRONICLE_SELECT => ⟨0x00203008, [], 8,
    [⟨63, 0, .rw, 0x0, 0, 0⟩]⟩
  | .SUP_INCARNATION => ⟨0x00208000, [⟨0x4, 16384⟩], 4,
    [⟨31, 0, .hwo, 0x0, 0, 0⟩]⟩
  | .TEN_STATUS => ⟨0x0A000000, [⟨0x10000, 32⟩], 4,
    [⟨31, 31, .rw1c, 0x0, 0, 0⟩, ⟨30, 30, .rw1c, 0x0, 0, 0⟩, ⟨29, 29, .rw1c, 0x0, 0, 0⟩, ⟨28, 26, .hwo, 0x0, 0, 0⟩, ⟨6, 0, .hwo, 0x0, 0, 0⟩]⟩
  | .TEN_CTRL => ⟨0x0A000004, [⟨0x10000, 32⟩], 4,
    [⟨31, 16, .wo, 0x0, 0, 0⟩, ⟨0, 0, .rw1s, 0x0, 0, 0⟩]⟩
  | .TEN_RESET_TIME => ⟨0x0A000008, [⟨0x10000, 32⟩], 4,
    [⟨31, 0, .hwo, 0x0, 0, 0⟩]⟩
  | .TEN_LOG_HEAD => ⟨0x0A00000C, [⟨0x10000, 32⟩], 4,
    [⟨5, 0, .hwo, 0x0, 0, 0⟩]⟩
  | .TEN_COUNTER => ⟨0x0A000100, [⟨0x10000, 32⟩, ⟨0x8, 4⟩], 8,
    [⟨47, 0, .cnt, 0x0, 0, 0⟩]⟩
  | .TEN_LOG => ⟨0x0A001000, [⟨0x10000, 32⟩, ⟨0x10, 64⟩, ⟨0x8, 2⟩], 8,
    [⟨63, 0, .hwo, 0x0, 0, 0⟩]⟩
  | .SUP_ROLE_STATUS => ⟨0x00204000, [], 4,
    [⟨31, 31, .rw1c, 0x0, 0, 0⟩, ⟨30, 30, .rw1c, 0x0, 0, 0⟩, ⟨29, 29, .hwo, 0x0, 0, 0⟩, ⟨28, 26, .hwo, 0x0, 0, 0⟩, ⟨13, 0, .hwo, 0x0, 0, 0⟩]⟩
  | .SUP_ROLE => ⟨0x00204008, [], 8,
    [⟨63, 32, .hwo, 0x0, 0, 0⟩, ⟨31, 0, .hwo, 0x0, 0, 0⟩]⟩
  | .SUP_PEER_W0 => ⟨0x00204100, [⟨0x20, 8⟩], 8,
    [⟨63, 63, .hwo, 0x0, 0, 0⟩, ⟨62, 62, .hwo, 0x0, 0, 0⟩, ⟨61, 61, .rw1c, 0x0, 0, 0⟩, ⟨55, 53, .hwo, 0x0, 0, 0⟩, ⟨45, 32, .hwo, 0x0, 0, 0⟩, ⟨31, 0, .hwo, 0x0, 0, 0⟩]⟩
  | .SUP_PEER_W1 => ⟨0x00204108, [⟨0x20, 8⟩], 8,
    [⟨63, 32, .hwo, 0x0, 0, 0⟩, ⟨13, 0, .hwo, 0x0, 0, 0⟩]⟩
  | .SUP_PEER_W2 => ⟨0x00204110, [⟨0x20, 8⟩], 8,
    [⟨63, 0, .hwo, 0x0, 0, 0⟩]⟩
  | .SUP_WAKE_FRAME => ⟨0x00204200, [⟨0x20, 4⟩, ⟨0x8, 4⟩], 8,
    [⟨63, 0, .rw, 0x0, 0, 0⟩]⟩
  | .SUP_WAKE_CTRL => ⟨0x00204280, [], 4,
    [⟨31, 16, .wo, 0x0, 0, 0⟩, ⟨11, 8, .rw, 0x0, 0, 0⟩, ⟨0, 0, .rw1s, 0x0, 0, 0⟩]⟩
  | .SUP_WAKE_STATUS => ⟨0x00204284, [], 4,
    [⟨31, 31, .rw1c, 0x0, 0, 0⟩, ⟨30, 30, .hwo, 0x0, 0, 0⟩, ⟨7, 0, .hwo, 0x0, 0, 0⟩]⟩
  | .SUP_SPARE_PEER => ⟨0x00204300, [⟨0x4, 16⟩], 4,
    [⟨13, 0, .rw, 0x0, 0, 0⟩]⟩
  | .DEV_ID => ⟨0x00000000, [], 4,
    [⟨31, 16, .ro, 0x0, 0, 0⟩, ⟨15, 12, .ro, 0x0, 0, 0⟩]⟩
  | .DEV_SERIAL => ⟨0x00000008, [], 8,
    [⟨63, 0, .ro, 0x0, 0, 0⟩]⟩
  | .DEV_CAPS => ⟨0x00000010, [], 8,
    [⟨63, 53, .ro, 0x0, 0, 0⟩, ⟨52, 47, .ro, 0x0, 0, 0⟩, ⟨46, 42, .ro, 0x0, 0, 0⟩, ⟨41, 38, .ro, 0x0, 0, 0⟩, ⟨37, 34, .ro, 0x0, 0, 0⟩, ⟨14, 14, .ro, 0x0, 0, 0⟩, ⟨13, 13, .ro, 0x0, 0, 0⟩, ⟨12, 12, .ro, 0x0, 0, 0⟩, ⟨11, 11, .ro, 0x0, 0, 0⟩, ⟨10, 10, .ro, 0x0, 0, 0⟩, ⟨9, 9, .ro, 0x0, 0, 0⟩, ⟨8, 8, .ro, 0x0, 0, 0⟩, ⟨7, 7, .ro, 0x0, 0, 0⟩, ⟨6, 6, .ro, 0x0, 0, 0⟩, ⟨5, 5, .ro, 0x0, 0, 0⟩, ⟨4, 4, .ro, 0x0, 0, 0⟩, ⟨3, 3, .ro, 0x0, 0, 0⟩, ⟨2, 2, .ro, 0x0, 0, 0⟩, ⟨1, 1, .ro, 0x0, 0, 0⟩, ⟨0, 0, .ro, 0x0, 0, 0⟩]⟩
  | .DEV_BEHAVIOUR_LEVEL => ⟨0x00000018, [], 4,
    [⟨15, 0, .ro, 0x0, 0, 0⟩]⟩
  | .DEV_ROLE => ⟨0x00000020, [], 8,
    [⟨63, 32, .hwo, 0x0, 0, 0⟩, ⟨31, 29, .hwo, 0x0, 0, 0⟩, ⟨13, 0, .hwo, 0x0, 0, 0⟩]⟩
  | .DEV_ROLE_ID => ⟨0x00000028, [], 4,
    [⟨31, 0, .hwo, 0x0, 0, 0⟩]⟩
  | .DEV_PACE => ⟨0x00000030, [], 4,
    [⟨31, 28, .hwo, 0x0, 0, 0⟩, ⟨15, 0, .hwo, 0x0, 0, 0⟩]⟩
  | .DEV_PACE_LOW => ⟨0x00000034, [], 4,
    [⟨31, 28, .hwo, 0x0, 0, 0⟩, ⟨15, 0, .hwo, 0xFFFF, 0, 0⟩]⟩
  | .DEV_STATUS => ⟨0x00000038, [], 4,
    [⟨31, 31, .rw1c, 0x0, 0, 0⟩, ⟨30, 30, .rw1c, 0x0, 0, 0⟩, ⟨29, 29, .rw1c, 0x0, 0, 0⟩]⟩
  | .DEV_CTRL => ⟨0x0000003C, [], 4,
    [⟨0, 0, .rw1s, 0x0, 0, 0⟩]⟩
  | .RNG_STATUS => ⟨0x07000004, [⟨0x10000, 8⟩], 4,
    [⟨31, 31, .rw1c, 0x0, 0, 0⟩, ⟨30, 30, .rw1c, 0x0, 0, 0⟩, ⟨29, 29, .hwo, 0x0, 0, 0⟩, ⟨28, 21, .hwo, 0x0, 0, 0⟩, ⟨20, 13, .hwo, 0x0, 0, 0⟩, ⟨12, 11, .hwo, 0x0, 0, 0⟩]⟩
  | .RNG_TIMERS => ⟨0x07000008, [⟨0x10000, 8⟩], 8,
    [⟨63, 48, .rw, 0x3E8, 0, 0⟩, ⟨47, 32, .rw, 0x7D0, 100, 65535⟩, ⟨31, 16, .rw, 0x3E8, 10, 65535⟩]⟩
  | .RNG_COUNTER => ⟨0x07000100, [⟨0x10000, 8⟩, ⟨0x8, 33⟩], 8,
    [⟨47, 0, .cnt, 0x0, 0, 0⟩]⟩
  | .RNG_PRIO_COUNTER => ⟨0x07000400, [⟨0x10000, 8⟩, ⟨0x40, 8⟩, ⟨0x8, 6⟩], 8,
    [⟨47, 0, .cnt, 0x0, 0, 0⟩]⟩
  | .RNG_ENDPOINT_W0 => ⟨0x07008000, [⟨0x10000, 8⟩, ⟨0x40, 256⟩], 8,
    [⟨63, 63, .stg, 0x0, 0, 0⟩, ⟨62, 62, .stg, 0x0, 0, 0⟩, ⟨61, 61, .stg, 0x0, 0, 0⟩, ⟨60, 60, .stg, 0x0, 0, 0⟩, ⟨59, 59, .stg, 0x0, 0, 0⟩, ⟨52, 48, .stg, 0x0, 0, 0⟩, ⟨47, 0, .stg, 0x0, 0, 0⟩]⟩
  | .RNG_ENDPOINT_W1 => ⟨0x07008008, [⟨0x10000, 8⟩, ⟨0x40, 256⟩], 8,
    [⟨59, 48, .stg, 0x0, 0, 0⟩, ⟨31, 16, .stg, 0xB2F2, 0, 0⟩, ⟨15, 0, .stg, 0xB2F2, 0, 0⟩]⟩
  | .RNG_ENDPOINT_W2 => ⟨0x07008010, [⟨0x10000, 8⟩, ⟨0x40, 256⟩], 8,
    [⟨63, 0, .stg, 0x0, 0, 0⟩]⟩
  | .RNG_ENDPOINT_W3 => ⟨0x07008018, [⟨0x10000, 8⟩, ⟨0x40, 256⟩], 8,
    [⟨63, 0, .stg, 0x0, 0, 0⟩]⟩
  | .RNG_ENDPOINT_W4 => ⟨0x07008020, [⟨0x10000, 8⟩, ⟨0x40, 256⟩], 8,
    [⟨63, 44, .stg, 0x3E8, 10, 1000000⟩, ⟨43, 32, .stg, 0x32, 2, 4095⟩, ⟨31, 16, .stg, 0x0, 0, 0⟩, ⟨15, 12, .stg, 0x3, 0, 0⟩]⟩
  | .RNG_ENDPOINT_W5 => ⟨0x07008028, [⟨0x10000, 8⟩, ⟨0x40, 256⟩], 8,
    [⟨31, 0, .stg, 0x0, 0, 0⟩]⟩
  | .RNG_ENDPOINT_CTRL => ⟨0x07008030, [⟨0x10000, 8⟩, ⟨0x40, 256⟩], 4,
    [⟨0, 0, .rw1s, 0x0, 0, 0⟩]⟩
  | .RNG_ENDPOINT_STATUS => ⟨0x07008038, [⟨0x10000, 8⟩, ⟨0x40, 256⟩], 8,
    [⟨63, 62, .hwo, 0x0, 0, 0⟩, ⟨61, 61, .rw1c, 0x0, 0, 0⟩, ⟨55, 48, .hwo, 0x0, 0, 0⟩, ⟨31, 0, .hwo, 0x0, 0, 0⟩]⟩

/-- The registers of each region n of the address map (R586). -/
def Reg.ofRegion : Nat → List Reg
  | 0 => [.DEV_ID, .DEV_SERIAL, .DEV_CAPS, .DEV_BEHAVIOUR_LEVEL, .DEV_ROLE, .DEV_ROLE_ID, .DEV_PACE, .DEV_PACE_LOW,
      .DEV_STATUS, .DEV_CTRL]
  | 1 => [.PWR_STATUS, .PWR_EVENTS, .PWR_CTRL, .PWR_CMD_STATUS, .PWR_RESET, .PWR_START_TIME, .EMB_WAKE_CAUSE,
      .EMB_CTRL, .EMB_STATUS, .EMB_WAKE_FRAMES, .EMB_WAKE_ERRORS, .EMB_BROWNOUT_CNT, .EMB_SLOT_WINDOW,
      .EMB_SLOT_CHECK, .EMB_SLOT_CTRL]
  | 2 => [.IMG_STATUS, .IMG_GENERATION, .IMG_SECURITY, .IMG_CTRL, .IMG_CONFIRM_LEFT, .IMG_SLOT_STATE,
      .IMG_SLOT_GENERATION, .IMG_WRITE_CMD, .IMG_WRITE_STATUS, .IMG_WRITE_OFFSET, .IMG_APPLY_SKIPPED,
      .IMG_VOLATILE_WRITES]
  | 3 => [.TIM_CTRL, .TIM_STATUS, .TIM_PTP_CFG, .TIM_SERVO_CFG, .TIM_HOLDOVER, .TIM_OUTLIER, .TIM_PARENT,
      .TIM_OFFSET, .TIM_RATE, .TIM_DELTA, .TIM_COUNTER, .TIM_TIME_SEC, .TIM_TIME_FRAC, .TIM_TIME_TICKS,
      .TIM_SET_SEC, .TIM_SET_FRAC, .TIM_SET_CTRL, .TIM_SET_STATUS, .TIM_DOMAIN_RATE, .TIM_SEGMENT, .TIM_REF_CFG,
      .TIM_REF_STATUS, .TIM_REF_PPS_LAST, .TIM_CAL_CFG, .TIM_CAL_CTRL, .TIM_CAL_STATUS, .TIM_CAL_RESULT,
      .TIM_PULSE_TARGET, .TIM_PULSE_SHAPE, .TIM_PULSE_CTRL, .TIM_PULSE_STATUS, .TIM_PPS_CFG, .TIM_FOUT_CFG,
      .TIM_FOUT_CTRL, .TIM_FOUT_STATUS, .TIM_PORT_CFG, .TIM_PORT_ASYM, .TIM_PORT_STATUS, .TIM_PORT_DELAY,
      .TIM_PORT_APPLIED, .TIM_PORT_COUNTER, .TIM_LANE_ASYM, .TIM_LANE_CFG, .TIM_LANE_APPLIED]
  | 4 => [.EDG_CFG, .EDG_CTRL, .EDG_STATUS, .EDG_OUT_TIME, .EDG_OUT_SHAPE, .EDG_START, .EDG_INTERVAL, .EDG_COUNTER,
      .ENV_CFG, .ENV_COEF, .ENV_READING, .ENV_READING_TIME, .ENV_COUNTER, .ENV_SCAN, .ILK_CFG, .ILK_CTRL,
      .ILK_FAULT, .ILK_COUNTER, .UTL_CFG, .UTL_PARAM, .UTL_CTRL, .UTL_STATUS, .UTL_COUNTER]
  | 5 => [.FBUS_CFG, .FBUS_NBT, .FBUS_DBT, .FBUS_STATUS, .FBUS_CTRL, .FBUS_ABD, .FBUS_TUNNEL, .FBUS_TUNNEL_STATUS,
      .FBUS_COUNTER, .FBUS_OBJ_CFG, .FBUS_OBJ_MASK, .FBUS_OBJ_TX, .FBUS_OBJ_CTRL, .FBUS_OBJ_STATUS,
      .FBUS_OBJ_RX_ID, .FBUS_OBJ_TIME, .FBUS_OBJ_DATA]
  | 6 => [.CLP_STATUS, .CLP_CFG, .CLP_DEVICE_COUNTER, .CLP_TENANT_CFG, .CLP_TENANT_ERR, .CLP_TENANT_COUNTER,
      .CLP_ROUTE, .CLP_WATCH_CFG, .CLP_WATCH_ADDRESS, .CLP_WATCH_MASK, .CLP_WATCH_LAST, .SVC_CFG, .SVC_PLCA,
      .SVC_MAC, .SVC_UDP, .SVC_STATUS, .SVC_COUNTER]
  | 7 => [.SUP_STATUS, .SUP_CFG, .SUP_TIMERS, .SUP_FENCE_CTRL, .SUP_BOOT_ID, .SUP_COUNTER, .SUP_WATCH_W0,
      .SUP_WATCH_W1, .SUP_SPARE, .SUP_ISOLATION, .SUP_CHRONICLE_NEWEST, .SUP_CHRONICLE_SELECT, .SUP_INCARNATION,
      .SUP_ROLE_STATUS, .SUP_ROLE, .SUP_PEER_W0, .SUP_PEER_W1, .SUP_PEER_W2, .SUP_WAKE_FRAME, .SUP_WAKE_CTRL,
      .SUP_WAKE_STATUS, .SUP_SPARE_PEER]
  | 8 => [.TLK_CFG, .TLK_TIMERS, .TLK_CTRL, .TLK_HOME, .TLK_STATUS, .TLK_EVENTS, .TLK_SEQ, .TLK_DELAY,
      .TLK_ECHO_LAST, .TLK_STAMP_OFFSET, .TLK_ROSTER_EXPECT, .TLK_CMD_WORD, .TLK_CMD_CTRL, .TLK_CMD_STATUS,
      .TLK_CMD_REPLY, .TLK_COUNTER, .TLK_TALKER_ID, .TLK_TALKER_STATE]
  | 9 => [.FLT_CTRL, .FLT_COMMIT, .FLT_BANK_STATUS, .FLT_SWAP_TIME, .FLT_DEVICE_COUNTER, .FLT_TENANT_RULES,
      .FLT_TENANT_SCOPE, .FLT_SOURCE_DEFAULT, .FLT_SOURCE_COUNTER, .FLT_RULE, .FLT_RULE_ACTIVE, .FLT_RULE_HITS,
      .STR_CFG, .STR_CTRL, .STR_STATUS, .STR_DEST, .STR_COUNTER]
  | 10 => [.CAL_CTRL, .CAL_NB_REGION, .CAL_STATUS, .CAL_DEVICE_WM, .CAL_DEVICE_COUNTER, .CAL_TENANT_CFG,
      .CAL_TENANT_QUOTA, .CAL_TENANT_STATUS, .CAL_TENANT_COUNTER, .CAL_STREAM_CFG, .CAL_STREAM_VENT,
      .CAL_STREAM_STATUS, .CAL_STREAM_HOLDER, .CAL_STREAM_OLDEST, .CAL_STREAM_HOLD, .CAL_STREAM_APPLY,
      .CAL_STREAM_LATE_MAX, .CAL_STREAM_LANES, .CAL_STREAM_COUNTER]
  | 11 => [.GEY_CTRL, .GEY_STATUS, .GEY_OPEN, .GEY_DEVICE_COUNTER, .GEY_CHANNEL_MAP, .GEY_GROUP_COUNT, .GEY_PROG,
      .GEY_PROG_CTRL, .GEY_PROG_STATUS, .GEY_PROG_OWNER, .GEY_PROG_SOFT_TIME, .GEY_PROG_LAST, .GEY_PROG_APPLY,
      .GEY_PROG_COUNTER, .NBF_CTRL, .NBF_STATUS, .NBF_OLDEST, .NBF_COUNTER, .NBF_FREEZE_W0, .NBF_FREEZE_W1,
      .NBF_FREEZE_W2, .NBF_FREEZE_W3, .NBF_FREEZE_W4, .NBF_FREEZE_W5, .NBF_FREEZE_W6]
  | 12 => [.LKT_CTRL, .LKT_CFG, .LKT_KEY, .LKT_STATUS, .LKT_POOL, .LKT_GEOMETRY, .LKT_SET_ID, .LKT_JOURNAL,
      .LKT_RECOVERY, .LKT_DEVICE_COUNTER, .LKT_PORT_STATUS, .LKT_PORT_CTRL, .LKT_PORT_REBUILD, .LKT_PORT_CAPACITY,
      .LKT_PORT_COUNTER, .LKT_REPLAY_CFG, .LKT_REPLAY_FROM, .LKT_REPLAY_TO, .LKT_REPLAY_CTRL, .LKT_REPLAY_STATUS,
      .LKT_REPLAY_PROGRESS, .LKT_STREAM_CFG, .LKT_STREAM_SPAN, .LKT_STREAM_HELD, .LKT_WINDOW_W0, .LKT_WINDOW_W1,
      .LKT_WINDOW_W2, .LKT_WINDOW_W3, .LKT_WINDOW_W4, .LKT_WINDOW_W5, .LKT_WINDOW_CTRL, .LKT_STREAM_COUNTER]
  | 13 => [.LSN_PORT_CFG, .LSN_PORT_STATUS, .LSN_PORT_RETAIN, .LSN_LINK_CFG, .LSN_LINK_STATUS, .LSN_LINK_TIMERS,
      .LSN_LINK_MAC, .LSN_LINK_IP4, .LSN_LINK_UDP, .LSN_LINK_IP6, .LSN_LINK_COUNTER, .LSN_LINK_PRIO_COUNTER,
      .LSN_ENDPOINT_W0, .LSN_ENDPOINT_W1, .LSN_ENDPOINT_W2, .LSN_ENDPOINT_W3, .LSN_ENDPOINT_W4, .LSN_ENDPOINT_W5,
      .LSN_ENDPOINT_CTRL, .LSN_ENDPOINT_STATUS, .LSN_STREAM_SEG, .LSN_STREAM_FRAME_SEQ]
  | 14 => [.RNG_CFG, .RNG_PFC, .RNG_RELAY, .RNG_STATUS, .RNG_TIMERS, .RNG_COUNTER, .RNG_PRIO_COUNTER,
      .RNG_ENDPOINT_W0, .RNG_ENDPOINT_W1, .RNG_ENDPOINT_W2, .RNG_ENDPOINT_W3, .RNG_ENDPOINT_W4, .RNG_ENDPOINT_W5,
      .RNG_ENDPOINT_CTRL, .RNG_ENDPOINT_STATUS]
  | 15 => [.Q_CFG, .Q_QUOTA, .Q_THRESHOLD, .Q_CTRL, .Q_STATUS, .Q_DEPTH, .Q_POINTERS, .Q_SEGMENT, .Q_COUNTER,
      .Q_POOL_STATUS]
  | 16 => [.SIG_CTRL, .SIG_STATUS, .SIG_OWNER_EPOCH, .SIG_ROUND, .SIG_IDENTITY_HASH, .SIG_OWNER_HASH,
      .SIG_OWNER_CMD, .SIG_OWNER_STATUS, .SIG_DEVICE_COUNTER, .SIG_KEY_INFO, .SIG_STREAM_CFG, .SIG_STREAM_STATUS,
      .SIG_STREAM_COVERED, .SIG_STREAM_COUNTER]
  | 17 => [.TEN_STATUS, .TEN_CTRL, .TEN_RESET_TIME, .TEN_LOG_HEAD, .TEN_COUNTER, .TEN_LOG]
  | _ => []

end Sys2Proof.Machine

/-! Field names: `F.REGISTER_FIELD` of an instance. -/
namespace Sys2Proof.Machine.F

def PWR_STATUS_LOCAL_READY : Field := ⟨0x00010000, 15, 15⟩
def PWR_STATUS_STATE : Field := ⟨0x00010000, 14, 12⟩
def PWR_STATUS_RAIL_OK : Field := ⟨0x00010000, 6, 0⟩
def PWR_EVENTS_OVER : Field := ⟨0x00010004, 14, 8⟩
def PWR_EVENTS_UNDER : Field := ⟨0x00010004, 6, 0⟩
def PWR_CTRL_KEY : Field := ⟨0x00010008, 31, 16⟩
def PWR_CTRL_MODE : Field := ⟨0x00010008, 4, 4⟩
def PWR_CTRL_START : Field := ⟨0x00010008, 0, 0⟩
def PWR_CMD_STATUS_RESULT : Field := ⟨0x0001000C, 1, 0⟩
def PWR_RESET_KEY : Field := ⟨0x00010010, 31, 16⟩
def PWR_RESET_KIND : Field := ⟨0x00010010, 1, 0⟩
def PWR_START_TIME_MICROSECONDS : Field := ⟨0x00010020, 31, 0⟩
def EMB_WAKE_CAUSE_SVC_SLOT : Field := ⟨0x00010100, 15, 12⟩
def EMB_WAKE_CAUSE_PIN_SLOT : Field := ⟨0x00010100, 11, 8⟩
def EMB_WAKE_CAUSE_RAIL_STUCK : Field := ⟨0x00010100, 5, 5⟩
def EMB_WAKE_CAUSE_PIN_RESET : Field := ⟨0x00010100, 4, 4⟩
def EMB_WAKE_CAUSE_START_FAIL : Field := ⟨0x00010100, 3, 3⟩
def EMB_WAKE_CAUSE_WATCHDOG : Field := ⟨0x00010100, 2, 2⟩
def EMB_WAKE_CAUSE_BROWNOUT : Field := ⟨0x00010100, 1, 1⟩
def EMB_WAKE_CAUSE_COLD : Field := ⟨0x00010100, 0, 0⟩
def EMB_CTRL_SLOT_COMMIT : Field := ⟨0x00010104, 0, 0⟩
def EMB_STATUS_SLOT_CHECK_FAULT : Field := ⟨0x00010108, 31, 28⟩
def EMB_STATUS_SLOT_ACTIVE : Field := ⟨0x00010108, 27, 24⟩
def EMB_STATUS_COMMIT_PENDING : Field := ⟨0x00010108, 8, 8⟩
def EMB_STATUS_STATE : Field := ⟨0x00010108, 2, 0⟩
def EMB_WAKE_FRAMES_COUNT : Field := ⟨0x00010110, 47, 0⟩
def EMB_WAKE_ERRORS_COUNT : Field := ⟨0x00010118, 47, 0⟩
def EMB_BROWNOUT_CNT_COUNT : Field := ⟨0x00010120, 47, 0⟩
def EMB_SLOT_WINDOW_BYTES (slot : Nat) (word : Nat) : Field := ⟨0x00010200 + 0x40 * slot + 0x8 * word, 63, 0⟩
def EMB_SLOT_CHECK_MASK (slot : Nat) : Field := ⟨0x00010220 + 0x40 * slot, 63, 32⟩
def EMB_SLOT_CHECK_CHECK (slot : Nat) : Field := ⟨0x00010220 + 0x40 * slot, 31, 0⟩
def EMB_SLOT_CTRL_SVC_EN (slot : Nat) : Field := ⟨0x00010228 + 0x40 * slot, 1, 1⟩
def EMB_SLOT_CTRL_PIN_EN (slot : Nat) : Field := ⟨0x00010228 + 0x40 * slot, 0, 0⟩
def IMG_STATUS_REASON_SECOND : Field := ⟨0x00020000, 31, 24⟩
def IMG_STATUS_REASON_FIRST : Field := ⟨0x00020000, 23, 16⟩
def IMG_STATUS_FALLBACK : Field := ⟨0x00020000, 5, 5⟩
def IMG_STATUS_RUNNING_SLOT : Field := ⟨0x00020000, 4, 4⟩
def IMG_STATUS_STATE : Field := ⟨0x00020000, 2, 0⟩
def IMG_GENERATION_GENERATION : Field := ⟨0x00020008, 63, 0⟩
def IMG_SECURITY_RAISES_USED : Field := ⟨0x00020010, 38, 32⟩
def IMG_SECURITY_VERSION : Field := ⟨0x00020010, 31, 16⟩
def IMG_SECURITY_FLOOR : Field := ⟨0x00020010, 15, 0⟩
def IMG_CTRL_KEY : Field := ⟨0x00020018, 31, 16⟩
def IMG_CTRL_CONFIRM : Field := ⟨0x00020018, 0, 0⟩
def IMG_CONFIRM_LEFT_SECONDS : Field := ⟨0x0002001C, 16, 0⟩
def IMG_SLOT_STATE_RETIRED (slot : Nat) : Field := ⟨0x00020020 + 0x10 * slot, 3, 3⟩
def IMG_SLOT_STATE_CONFIRMED (slot : Nat) : Field := ⟨0x00020020 + 0x10 * slot, 2, 2⟩
def IMG_SLOT_STATE_TRIED (slot : Nat) : Field := ⟨0x00020020 + 0x10 * slot, 1, 1⟩
def IMG_SLOT_STATE_WRITTEN (slot : Nat) : Field := ⟨0x00020020 + 0x10 * slot, 0, 0⟩
def IMG_SLOT_GENERATION_GENERATION (slot : Nat) : Field := ⟨0x00020028 + 0x10 * slot, 63, 0⟩
def IMG_WRITE_CMD_KEY : Field := ⟨0x00020040, 31, 16⟩
def IMG_WRITE_CMD_SLOT : Field := ⟨0x00020040, 8, 8⟩
def IMG_WRITE_CMD_CMD : Field := ⟨0x00020040, 3, 1⟩
def IMG_WRITE_CMD_START : Field := ⟨0x00020040, 0, 0⟩
def IMG_WRITE_STATUS_DONE : Field := ⟨0x00020044, 31, 31⟩
def IMG_WRITE_STATUS_BUSY : Field := ⟨0x00020044, 30, 30⟩
def IMG_WRITE_STATUS_RESULT : Field := ⟨0x00020044, 7, 0⟩
def IMG_WRITE_OFFSET_PAGE : Field := ⟨0x00020048, 25, 8⟩
def IMG_APPLY_SKIPPED_COUNT : Field := ⟨0x00020050, 47, 0⟩
def IMG_VOLATILE_WRITES_COUNT : Field := ⟨0x00020058, 47, 0⟩
def TLK_CFG_DATA_EN (lane : Nat) : Field := ⟨0x01000000 + 0x1000 * lane, 2, 2⟩
def TLK_CFG_MODE (lane : Nat) : Field := ⟨0x01000000 + 0x1000 * lane, 1, 0⟩
def TLK_TIMERS_RTO_US (lane : Nat) : Field := ⟨0x01000004 + 0x1000 * lane, 31, 25⟩
def TLK_TIMERS_LINK_TIMEOUT_US (lane : Nat) : Field := ⟨0x01000004 + 0x1000 * lane, 24, 15⟩
def TLK_TIMERS_WM_TIMEOUT_US (lane : Nat) : Field := ⟨0x01000004 + 0x1000 * lane, 14, 5⟩
def TLK_TIMERS_MARKER_EXP (lane : Nat) : Field := ⟨0x01000004 + 0x1000 * lane, 4, 0⟩
def TLK_CTRL_REDISCOVER (lane : Nat) : Field := ⟨0x01000008 + 0x1000 * lane, 2, 2⟩
def TLK_CTRL_REMEASURE (lane : Nat) : Field := ⟨0x01000008 + 0x1000 * lane, 1, 1⟩
def TLK_CTRL_RESTART (lane : Nat) : Field := ⟨0x01000008 + 0x1000 * lane, 0, 0⟩
def TLK_HOME_HOME_DEVICE (lane : Nat) : Field := ⟨0x0100000C + 0x1000 * lane, 29, 16⟩
def TLK_HOME_HOME_LANE (lane : Nat) : Field := ⟨0x0100000C + 0x1000 * lane, 9, 0⟩
def TLK_STATUS_STATE (lane : Nat) : Field := ⟨0x01000010 + 0x1000 * lane, 31, 28⟩
def TLK_STATUS_FENCED (lane : Nat) : Field := ⟨0x01000010 + 0x1000 * lane, 27, 27⟩
def TLK_STATUS_RTO_SHORT (lane : Nat) : Field := ⟨0x01000010 + 0x1000 * lane, 26, 26⟩
def TLK_STATUS_TIME_VALID (lane : Nat) : Field := ⟨0x01000010 + 0x1000 * lane, 25, 25⟩
def TLK_STATUS_PATH (lane : Nat) : Field := ⟨0x01000010 + 0x1000 * lane, 24, 24⟩
def TLK_STATUS_TALKERS (lane : Nat) : Field := ⟨0x01000010 + 0x1000 * lane, 23, 16⟩
def TLK_STATUS_SESSION (lane : Nat) : Field := ⟨0x01000010 + 0x1000 * lane, 15, 0⟩
def TLK_EVENTS_WRITE_LOST (lane : Nat) : Field := ⟨0x01000014 + 0x1000 * lane, 31, 31⟩
def TLK_EVENTS_NO_ANSWER (lane : Nat) : Field := ⟨0x01000014 + 0x1000 * lane, 11, 11⟩
def TLK_EVENTS_ENABLE_REFUSED (lane : Nat) : Field := ⟨0x01000014 + 0x1000 * lane, 10, 10⟩
def TLK_EVENTS_ISOLATED (lane : Nat) : Field := ⟨0x01000014 + 0x1000 * lane, 9, 9⟩
def TLK_EVENTS_HB_OVERFLOW (lane : Nat) : Field := ⟨0x01000014 + 0x1000 * lane, 8, 8⟩
def TLK_EVENTS_FLAP_FAULT (lane : Nat) : Field := ⟨0x01000014 + 0x1000 * lane, 7, 7⟩
def TLK_EVENTS_DELAY_JUMP (lane : Nat) : Field := ⟨0x01000014 + 0x1000 * lane, 6, 6⟩
def TLK_EVENTS_DEMOTED (lane : Nat) : Field := ⟨0x01000014 + 0x1000 * lane, 5, 5⟩
def TLK_EVENTS_PROMOTED (lane : Nat) : Field := ⟨0x01000014 + 0x1000 * lane, 4, 4⟩
def TLK_EVENTS_ROSTER_MISMATCH (lane : Nat) : Field := ⟨0x01000014 + 0x1000 * lane, 3, 3⟩
def TLK_EVENTS_SESSION_CHANGE (lane : Nat) : Field := ⟨0x01000014 + 0x1000 * lane, 2, 2⟩
def TLK_EVENTS_LINK_DOWN (lane : Nat) : Field := ⟨0x01000014 + 0x1000 * lane, 1, 1⟩
def TLK_EVENTS_LINK_UP (lane : Nat) : Field := ⟨0x01000014 + 0x1000 * lane, 0, 0⟩
def TLK_SEQ_CUM (lane : Nat) : Field := ⟨0x01000018 + 0x1000 * lane, 31, 16⟩
def TLK_SEQ_PENDING_HB (lane : Nat) : Field := ⟨0x01000018 + 0x1000 * lane, 2, 0⟩
def TLK_DELAY_ECHOES (lane : Nat) : Field := ⟨0x01000020 + 0x1000 * lane, 63, 48⟩
def TLK_DELAY_CABLE_DELAY (lane : Nat) : Field := ⟨0x01000020 + 0x1000 * lane, 39, 0⟩
def TLK_ECHO_LAST_TURNAROUND (lane : Nat) : Field := ⟨0x01000028 + 0x1000 * lane, 63, 32⟩
def TLK_ECHO_LAST_ROUND_TRIP (lane : Nat) : Field := ⟨0x01000028 + 0x1000 * lane, 31, 0⟩
def TLK_STAMP_OFFSET_VALID (lane : Nat) : Field := ⟨0x01000090 + 0x1000 * lane, 63, 63⟩
def TLK_STAMP_OFFSET_SAMPLES (lane : Nat) : Field := ⟨0x01000090 + 0x1000 * lane, 62, 48⟩
def TLK_STAMP_OFFSET_OFFSET (lane : Nat) : Field := ⟨0x01000090 + 0x1000 * lane, 39, 0⟩
def TLK_ROSTER_EXPECT_EXPECT (lane : Nat) (half : Nat) : Field := ⟨0x01000030 + 0x1000 * lane + 0x8 * half, 63, 0⟩
def TLK_CMD_WORD_WORD (lane : Nat) (word : Nat) : Field := ⟨0x01000040 + 0x1000 * lane + 0x8 * word, 63, 0⟩
def TLK_CMD_CTRL_START (lane : Nat) : Field := ⟨0x01000060 + 0x1000 * lane, 0, 0⟩
def TLK_CMD_STATUS_DONE (lane : Nat) : Field := ⟨0x01000064 + 0x1000 * lane, 31, 31⟩
def TLK_CMD_STATUS_BUSY (lane : Nat) : Field := ⟨0x01000064 + 0x1000 * lane, 30, 30⟩
def TLK_CMD_STATUS_TALKER_STATUS (lane : Nat) : Field := ⟨0x01000064 + 0x1000 * lane, 15, 8⟩
def TLK_CMD_STATUS_RESULT (lane : Nat) : Field := ⟨0x01000064 + 0x1000 * lane, 7, 0⟩
def TLK_CMD_REPLY_DATA (lane : Nat) (word : Nat) : Field := ⟨0x01000068 + 0x1000 * lane + 0x8 * word, 63, 0⟩
/-- Counter 0 of TLK_COUNTER. -/
def TLK_FRAMES_ACCEPTED_C (lane : Nat) : Field := ⟨0x01000100 + 0x1000 * lane, 47, 0⟩
/-- Counter 1 of TLK_COUNTER. -/
def TLK_OCTETS_ACCEPTED_C (lane : Nat) : Field := ⟨0x01000108 + 0x1000 * lane, 63, 0⟩
/-- Counter 2 of TLK_COUNTER. -/
def TLK_SENTENCES_C (lane : Nat) : Field := ⟨0x01000110 + 0x1000 * lane, 47, 0⟩
/-- Counter 3 of TLK_COUNTER. -/
def TLK_DUPLICATES_C (lane : Nat) : Field := ⟨0x01000118 + 0x1000 * lane, 47, 0⟩
/-- Counter 4 of TLK_COUNTER. -/
def TLK_CRC_ERRORS_C (lane : Nat) : Field := ⟨0x01000120 + 0x1000 * lane, 47, 0⟩
/-- Counter 5 of TLK_COUNTER. -/
def TLK_FORMAT_ERRORS_C (lane : Nat) : Field := ⟨0x01000128 + 0x1000 * lane, 47, 0⟩
/-- Counter 6 of TLK_COUNTER. -/
def TLK_OUT_OF_WINDOW_C (lane : Nat) : Field := ⟨0x01000130 + 0x1000 * lane, 47, 0⟩
/-- Counter 7 of TLK_COUNTER. -/
def TLK_UNKNOWN_TALKER_C (lane : Nat) : Field := ⟨0x01000138 + 0x1000 * lane, 47, 0⟩
/-- Counter 8 of TLK_COUNTER. -/
def TLK_WM_REGRESS_C (lane : Nat) : Field := ⟨0x01000140 + 0x1000 * lane, 47, 0⟩
/-- Counter 9 of TLK_COUNTER. -/
def TLK_HB_DISCARDED_C (lane : Nat) : Field := ⟨0x01000148 + 0x1000 * lane, 47, 0⟩
/-- Counter 10 of TLK_COUNTER. -/
def TLK_FEC_CORRECTED_C (lane : Nat) : Field := ⟨0x01000150 + 0x1000 * lane, 47, 0⟩
/-- Counter 11 of TLK_COUNTER. -/
def TLK_FEC_UNCORRECTABLE_C (lane : Nat) : Field := ⟨0x01000158 + 0x1000 * lane, 47, 0⟩
/-- Counter 12 of TLK_COUNTER. -/
def TLK_ACKS_SENT_C (lane : Nat) : Field := ⟨0x01000160 + 0x1000 * lane, 47, 0⟩
/-- Counter 13 of TLK_COUNTER. -/
def TLK_STANDBY_FRAMES_C (lane : Nat) : Field := ⟨0x01000168 + 0x1000 * lane, 47, 0⟩
/-- Counter 14 of TLK_COUNTER. -/
def TLK_DATA_DISCARDED_C (lane : Nat) : Field := ⟨0x01000170 + 0x1000 * lane, 47, 0⟩
/-- Counter 15 of TLK_COUNTER. -/
def TLK_HANDOVERS_C (lane : Nat) : Field := ⟨0x01000178 + 0x1000 * lane, 47, 0⟩
/-- Counter 16 of TLK_COUNTER. -/
def TLK_NO_STAMP_OFFSET_C (lane : Nat) : Field := ⟨0x01000180 + 0x1000 * lane, 47, 0⟩
def TLK_TALKER_ID_TALKER_ID (lane : Nat) (talker : Nat) : Field := ⟨0x01000800 + 0x1000 * lane + 0x10 * talker, 63, 0⟩
def TLK_TALKER_STATE_PRESENT (lane : Nat) (talker : Nat) : Field := ⟨0x01000808 + 0x1000 * lane + 0x10 * talker, 63, 63⟩
def TLK_TALKER_STATE_STALLED (lane : Nat) (talker : Nat) : Field := ⟨0x01000808 + 0x1000 * lane + 0x10 * talker, 62, 62⟩
def TLK_TALKER_STATE_USE_OVERRIDE (lane : Nat) (talker : Nat) : Field := ⟨0x01000808 + 0x1000 * lane + 0x10 * talker, 61, 61⟩
def TLK_TALKER_STATE_OVERRIDE_LATENCY (lane : Nat) (talker : Nat) : Field := ⟨0x01000808 + 0x1000 * lane + 0x10 * talker, 55, 32⟩
def TLK_TALKER_STATE_REPORTED_LATENCY (lane : Nat) (talker : Nat) : Field := ⟨0x01000808 + 0x1000 * lane + 0x10 * talker, 23, 0⟩
def FLT_CTRL_SWAP_K : Field := ⟨0x02000000, 20, 16⟩
def FLT_CTRL_FUTURE_LIMIT_NS : Field := ⟨0x02000000, 15, 0⟩
def FLT_COMMIT_KEY : Field := ⟨0x02000004, 31, 16⟩
def FLT_COMMIT_COPY : Field := ⟨0x02000004, 1, 1⟩
def FLT_COMMIT_SWAP : Field := ⟨0x02000004, 0, 0⟩
def FLT_BANK_STATUS_DONE : Field := ⟨0x02000008, 31, 31⟩
def FLT_BANK_STATUS_REFUSED : Field := ⟨0x02000008, 30, 30⟩
def FLT_BANK_STATUS_WRITE_LOST : Field := ⟨0x02000008, 29, 29⟩
def FLT_BANK_STATUS_ACTIVE_BANK : Field := ⟨0x02000008, 28, 28⟩
def FLT_BANK_STATUS_STATE : Field := ⟨0x02000008, 27, 26⟩
def FLT_BANK_STATUS_COPYING : Field := ⟨0x02000008, 25, 25⟩
def FLT_BANK_STATUS_BAD_RULE : Field := ⟨0x02000008, 19, 8⟩
def FLT_BANK_STATUS_RESULT : Field := ⟨0x02000008, 7, 0⟩
def FLT_SWAP_TIME_T_SWAP : Field := ⟨0x02000010, 63, 0⟩
/-- Counter 0 of FLT_DEVICE_COUNTER. -/
def FLT_DEVICE_STALE_BANK_C : Field := ⟨0x02000100, 47, 0⟩
/-- Counter 1 of FLT_DEVICE_COUNTER. -/
def FLT_DEVICE_COPY_OVERFLOW_C : Field := ⟨0x02000108, 47, 0⟩
/-- Counter 2 of FLT_DEVICE_COUNTER. -/
def FLT_DEVICE_GROUP_OVERFLOW_C : Field := ⟨0x02000110, 47, 0⟩
/-- Counter 3 of FLT_DEVICE_COUNTER. -/
def FLT_DEVICE_MARK_SUPPRESSED_C : Field := ⟨0x02000118, 47, 0⟩
/-- Counter 4 of FLT_DEVICE_COUNTER. -/
def FLT_DEVICE_OLD_SEGMENT_C : Field := ⟨0x02000120, 47, 0⟩
def FLT_TENANT_RULES_MAX_CLASS (tenant : Nat) : Field := ⟨0x02001000 + 0x20 * tenant, 31, 29⟩
def FLT_TENANT_RULES_RULE_COUNT (tenant : Nat) : Field := ⟨0x02001000 + 0x20 * tenant, 28, 16⟩
def FLT_TENANT_RULES_FIRST_RULE (tenant : Nat) : Field := ⟨0x02001000 + 0x20 * tenant, 11, 0⟩
def FLT_TENANT_SCOPE_SCOPE_VALUE (tenant : Nat) : Field := ⟨0x02001008 + 0x20 * tenant, 63, 32⟩
def FLT_TENANT_SCOPE_SCOPE_MASK (tenant : Nat) : Field := ⟨0x02001008 + 0x20 * tenant, 31, 0⟩
def FLT_SOURCE_DEFAULT_NB_POINT (source : Nat) : Field := ⟨0x02010000 + 0x8 * source, 33, 32⟩
def FLT_SOURCE_DEFAULT_DISPOSITION (source : Nat) : Field := ⟨0x02010000 + 0x8 * source, 31, 30⟩
def FLT_SOURCE_DEFAULT_CLASS (source : Nat) : Field := ⟨0x02010000 + 0x8 * source, 29, 27⟩
def FLT_SOURCE_DEFAULT_DEFAULT_STREAM (source : Nat) : Field := ⟨0x02010000 + 0x8 * source, 24, 12⟩
def FLT_SOURCE_DEFAULT_GROUP (source : Nat) : Field := ⟨0x02010000 + 0x8 * source, 11, 0⟩
/-- Counter 0 of FLT_SOURCE_COUNTER. -/
def FLT_SOURCE_KEPT_C (source : Nat) : Field := ⟨0x02020000 + 0x40 * source, 47, 0⟩
/-- Counter 1 of FLT_SOURCE_COUNTER. -/
def FLT_SOURCE_DROPPED_RULE_C (source : Nat) : Field := ⟨0x02020008 + 0x40 * source, 47, 0⟩
/-- Counter 2 of FLT_SOURCE_COUNTER. -/
def FLT_SOURCE_DROPPED_DEFAULT_C (source : Nat) : Field := ⟨0x02020010 + 0x40 * source, 47, 0⟩
/-- Counter 3 of FLT_SOURCE_COUNTER. -/
def FLT_SOURCE_INGRESS_DROPPED_C (source : Nat) : Field := ⟨0x02020018 + 0x40 * source, 47, 0⟩
/-- Counter 4 of FLT_SOURCE_COUNTER. -/
def FLT_SOURCE_FUTURE_TIME_C (source : Nat) : Field := ⟨0x02020020 + 0x40 * source, 47, 0⟩
/-- Counter 5 of FLT_SOURCE_COUNTER. -/
def FLT_SOURCE_COPIES_DROPPED_C (source : Nat) : Field := ⟨0x02020028 + 0x40 * source, 47, 0⟩
/-- Counter 6 of FLT_SOURCE_COUNTER. -/
def FLT_SOURCE_COPIES_SPILLED_C (source : Nat) : Field := ⟨0x02020030 + 0x40 * source, 47, 0⟩
/-- Counter 7 of FLT_SOURCE_COUNTER. -/
def FLT_SOURCE_TRUNCATED_C (source : Nat) : Field := ⟨0x02020038 + 0x40 * source, 47, 0⟩
def FLT_RULE_WORD (rule : Nat) (word : Nat) : Field := ⟨0x02100000 + 0x100 * rule + 0x8 * word, 63, 0⟩
def FLT_RULE_ACTIVE_WORD (rule : Nat) (word : Nat) : Field := ⟨0x02200000 + 0x100 * rule + 0x8 * word, 63, 0⟩
def FLT_RULE_HITS_COUNT (rule : Nat) : Field := ⟨0x02300000 + 0x8 * rule, 47, 0⟩
def STR_CFG_ENABLED (stream : Nat) : Field := ⟨0x02800000 + 0x80 * stream, 31, 31⟩
def STR_CFG_DOMAIN (stream : Nat) : Field := ⟨0x02800000 + 0x80 * stream, 29, 28⟩
def STR_CFG_DEFAULT_CLASS (stream : Nat) : Field := ⟨0x02800000 + 0x80 * stream, 26, 24⟩
def STR_CFG_OVERLOAD (stream : Nat) : Field := ⟨0x02800000 + 0x80 * stream, 21, 20⟩
def STR_CFG_DEST_COUNT (stream : Nat) : Field := ⟨0x02800000 + 0x80 * stream, 4, 0⟩
def STR_CTRL_COMMIT (stream : Nat) : Field := ⟨0x02800004 + 0x80 * stream, 0, 0⟩
def STR_STATUS_PENDING (stream : Nat) : Field := ⟨0x02800008 + 0x80 * stream, 31, 31⟩
def STR_STATUS_WRITE_LOST (stream : Nat) : Field := ⟨0x02800008 + 0x80 * stream, 30, 30⟩
def STR_STATUS_RESULT (stream : Nat) : Field := ⟨0x02800008 + 0x80 * stream, 7, 0⟩
def STR_DEST_KIND (stream : Nat) (d : Nat) : Field := ⟨0x02800040 + 0x80 * stream + 0x4 * d, 31, 28⟩
def STR_DEST_PORT (stream : Nat) (d : Nat) : Field := ⟨0x02800040 + 0x80 * stream + 0x4 * d, 27, 20⟩
def STR_DEST_ENDPOINT (stream : Nat) (d : Nat) : Field := ⟨0x02800040 + 0x80 * stream + 0x4 * d, 19, 8⟩
/-- Counter 0 of STR_COUNTER. -/
def STR_COPIES_ADMITTED_C (stream : Nat) : Field := ⟨0x02900000 + 0x40 * stream, 47, 0⟩
/-- Counter 1 of STR_COUNTER. -/
def STR_OCTETS_ADMITTED_C (stream : Nat) : Field := ⟨0x02900008 + 0x40 * stream, 63, 0⟩
/-- Counter 2 of STR_COUNTER. -/
def STR_OVERLOAD_DROPPED_C (stream : Nat) : Field := ⟨0x02900010 + 0x40 * stream, 47, 0⟩
/-- Counter 3 of STR_COUNTER. -/
def STR_SPILLED_C (stream : Nat) : Field := ⟨0x02900018 + 0x40 * stream, 47, 0⟩
/-- Counter 4 of STR_COUNTER. -/
def STR_DISABLED_DROPPED_C (stream : Nat) : Field := ⟨0x02900020 + 0x40 * stream, 47, 0⟩
def CAL_CTRL_WM_GUARD : Field := ⟨0x03000000, 31, 16⟩
def CAL_CTRL_HOT_AGE_US : Field := ⟨0x03000000, 15, 8⟩
def CAL_CTRL_ORIGIN_ALLOW_US : Field := ⟨0x03000000, 7, 0⟩
def CAL_NB_REGION_GIB : Field := ⟨0x03000004, 5, 0⟩
def CAL_STATUS_WRITE_LOST : Field := ⟨0x03000008, 31, 31⟩
def CAL_STATUS_NB_REGION_FULL : Field := ⟨0x03000008, 30, 30⟩
def CAL_STATUS_STRATA_CELLS : Field := ⟨0x03000008, 22, 0⟩
def CAL_DEVICE_WM_WATERMARK : Field := ⟨0x03000010, 63, 0⟩
/-- Counter 0 of CAL_DEVICE_COUNTER. -/
def CAL_DEVICE_EVICT_DENIED_C : Field := ⟨0x03000100, 47, 0⟩
/-- Counter 1 of CAL_DEVICE_COUNTER. -/
def CAL_DEVICE_NB_SPILL_DROPPED_C : Field := ⟨0x03000108, 47, 0⟩
def CAL_TENANT_CFG_WEIGHT (tenant : Nat) : Field := ⟨0x03001000 + 0x20 * tenant, 31, 16⟩
def CAL_TENANT_QUOTA_CELLS (tenant : Nat) : Field := ⟨0x03001004 + 0x20 * tenant, 31, 0⟩
def CAL_TENANT_STATUS_CELLS_IN_USE (tenant : Nat) : Field := ⟨0x03001008 + 0x20 * tenant, 63, 32⟩
def CAL_TENANT_STATUS_BACKLOG_CELLS (tenant : Nat) : Field := ⟨0x03001008 + 0x20 * tenant, 31, 0⟩
/-- Counter 0 of CAL_TENANT_COUNTER. -/
def CAL_TENANT_REFUSED_QUOTA_C (tenant : Nat) : Field := ⟨0x03001010 + 0x20 * tenant, 47, 0⟩
/-- Counter 1 of CAL_TENANT_COUNTER. -/
def CAL_TENANT_REFUSED_SHARE_C (tenant : Nat) : Field := ⟨0x03001018 + 0x20 * tenant, 47, 0⟩
def CAL_STREAM_CFG_IS_VENT (stream : Nat) : Field := ⟨0x03010000 + 0x40 * stream, 31, 31⟩
def CAL_STREAM_CFG_EXCLUDE_STALLED (stream : Nat) : Field := ⟨0x03010000 + 0x40 * stream, 30, 30⟩
def CAL_STREAM_CFG_WM_ORIGIN (stream : Nat) : Field := ⟨0x03010000 + 0x40 * stream, 29, 29⟩
def CAL_STREAM_CFG_LATE_MODE (stream : Nat) : Field := ⟨0x03010000 + 0x40 * stream, 28, 28⟩
def CAL_STREAM_CFG_STRATUM_K (stream : Nat) : Field := ⟨0x03010000 + 0x40 * stream, 24, 20⟩
def CAL_STREAM_CFG_HORIZON_STRATA (stream : Nat) : Field := ⟨0x03010000 + 0x40 * stream, 17, 0⟩
def CAL_STREAM_VENT_VENT_STREAM (stream : Nat) : Field := ⟨0x03010004 + 0x40 * stream, 12, 0⟩
def CAL_STREAM_STATUS_LAST_BY_HORIZON (stream : Nat) : Field := ⟨0x03010008 + 0x40 * stream, 31, 31⟩
def CAL_STREAM_STATUS_WRITE_LOST (stream : Nat) : Field := ⟨0x03010008 + 0x40 * stream, 30, 30⟩
def CAL_STREAM_STATUS_RESULT (stream : Nat) : Field := ⟨0x03010008 + 0x40 * stream, 7, 0⟩
def CAL_STREAM_HOLDER_SOURCE (stream : Nat) : Field := ⟨0x0301000C + 0x40 * stream, 31, 0⟩
def CAL_STREAM_OLDEST_START (stream : Nat) : Field := ⟨0x03010010 + 0x40 * stream, 63, 0⟩
def CAL_STREAM_HOLD_WATERMARK (stream : Nat) : Field := ⟨0x03010018 + 0x40 * stream, 63, 0⟩
def CAL_STREAM_APPLY_T_APPLY (stream : Nat) : Field := ⟨0x03010020 + 0x40 * stream, 63, 0⟩
def CAL_STREAM_LATE_MAX_TICKS (stream : Nat) : Field := ⟨0x03010028 + 0x40 * stream, 63, 0⟩
def CAL_STREAM_LANES_LANES (stream : Nat) (word : Nat) : Field := ⟨0x03100000 + 0x80 * stream + 0x8 * word, 63, 0⟩
/-- Counter 0 of CAL_STREAM_COUNTER. -/
def CAL_STREAM_CLOSED_WM_C (stream : Nat) : Field := ⟨0x03200000 + 0x40 * stream, 47, 0⟩
/-- Counter 1 of CAL_STREAM_COUNTER. -/
def CAL_STREAM_CLOSED_HORIZON_C (stream : Nat) : Field := ⟨0x03200008 + 0x40 * stream, 47, 0⟩
/-- Counter 2 of CAL_STREAM_COUNTER. -/
def CAL_STREAM_LATE_VENTED_C (stream : Nat) : Field := ⟨0x03200010 + 0x40 * stream, 47, 0⟩
/-- Counter 3 of CAL_STREAM_COUNTER. -/
def CAL_STREAM_LATE_INLINE_C (stream : Nat) : Field := ⟨0x03200018 + 0x40 * stream, 47, 0⟩
/-- Counter 4 of CAL_STREAM_COUNTER. -/
def CAL_STREAM_EVICTIONS_C (stream : Nat) : Field := ⟨0x03200020 + 0x40 * stream, 47, 0⟩
/-- Counter 5 of CAL_STREAM_COUNTER. -/
def CAL_STREAM_SENTENCES_EMITTED_C (stream : Nat) : Field := ⟨0x03200028 + 0x40 * stream, 47, 0⟩
/-- Counter 6 of CAL_STREAM_COUNTER. -/
def CAL_STREAM_OCTETS_EMITTED_C (stream : Nat) : Field := ⟨0x03200030 + 0x40 * stream, 63, 0⟩
/-- Counter 7 of CAL_STREAM_COUNTER. -/
def CAL_STREAM_MISROUTED_C (stream : Nat) : Field := ⟨0x03200038 + 0x40 * stream, 47, 0⟩
def Q_CFG_ENABLE (queue : Nat) : Field := ⟨0x08000000 + 0x100 * queue, 31, 31⟩
def Q_CFG_MAX_ITEM_CELLS (queue : Nat) : Field := ⟨0x08000000 + 0x100 * queue, 24, 16⟩
def Q_CFG_ITEM_LIMIT (queue : Nat) : Field := ⟨0x08000000 + 0x100 * queue, 15, 0⟩
def Q_QUOTA_CELL_QUOTA (queue : Nat) : Field := ⟨0x08000004 + 0x100 * queue, 19, 0⟩
def Q_THRESHOLD_REARM (queue : Nat) : Field := ⟨0x08000008 + 0x100 * queue, 31, 16⟩
def Q_THRESHOLD_LEVEL (queue : Nat) : Field := ⟨0x08000008 + 0x100 * queue, 15, 0⟩
def Q_CTRL_FLUSH (queue : Nat) : Field := ⟨0x0800000C + 0x100 * queue, 0, 0⟩
def Q_STATUS_WRITE_LOST (queue : Nat) : Field := ⟨0x08000010 + 0x100 * queue, 31, 31⟩
def Q_STATUS_FLUSH_DONE (queue : Nat) : Field := ⟨0x08000010 + 0x100 * queue, 30, 30⟩
def Q_STATUS_THRESH_EVENT (queue : Nat) : Field := ⟨0x08000010 + 0x100 * queue, 29, 29⟩
def Q_STATUS_POINTER_MISMATCH (queue : Nat) : Field := ⟨0x08000010 + 0x100 * queue, 28, 28⟩
def Q_STATUS_OVERRUN (queue : Nat) : Field := ⟨0x08000010 + 0x100 * queue, 27, 27⟩
def Q_STATUS_UNDERRUN (queue : Nat) : Field := ⟨0x08000010 + 0x100 * queue, 26, 26⟩
def Q_STATUS_HEAD_FILL (queue : Nat) : Field := ⟨0x08000010 + 0x100 * queue, 25, 21⟩
def Q_STATUS_THRESH_ARMED (queue : Nat) : Field := ⟨0x08000010 + 0x100 * queue, 20, 20⟩
def Q_STATUS_DISCARDING (queue : Nat) : Field := ⟨0x08000010 + 0x100 * queue, 19, 19⟩
def Q_STATUS_FLUSHING (queue : Nat) : Field := ⟨0x08000010 + 0x100 * queue, 18, 18⟩
def Q_STATUS_PARTIAL (queue : Nat) : Field := ⟨0x08000010 + 0x100 * queue, 17, 17⟩
def Q_STATUS_FULL (queue : Nat) : Field := ⟨0x08000010 + 0x100 * queue, 16, 16⟩
def Q_STATUS_EMPTY (queue : Nat) : Field := ⟨0x08000010 + 0x100 * queue, 15, 15⟩
def Q_DEPTH_CELLS (queue : Nat) : Field := ⟨0x08000018 + 0x100 * queue, 51, 32⟩
def Q_DEPTH_ITEMS (queue : Nat) : Field := ⟨0x08000018 + 0x100 * queue, 15, 0⟩
def Q_POINTERS_HEAD (queue : Nat) : Field := ⟨0x08000020 + 0x100 * queue, 51, 32⟩
def Q_POINTERS_TAIL (queue : Nat) : Field := ⟨0x08000020 + 0x100 * queue, 19, 0⟩
def Q_SEGMENT_BASE (queue : Nat) : Field := ⟨0x08000028 + 0x100 * queue, 19, 0⟩
/-- Counter 0 of Q_COUNTER. -/
def Q_ITEMS_PUSHED_C (queue : Nat) : Field := ⟨0x08000080 + 0x100 * queue, 47, 0⟩
/-- Counter 1 of Q_COUNTER. -/
def Q_ITEMS_POPPED_C (queue : Nat) : Field := ⟨0x08000088 + 0x100 * queue, 47, 0⟩
/-- Counter 2 of Q_COUNTER. -/
def Q_OCTETS_PUSHED_C (queue : Nat) : Field := ⟨0x08000090 + 0x100 * queue, 63, 0⟩
/-- Counter 3 of Q_COUNTER. -/
def Q_BAD_ITEMS_C (queue : Nat) : Field := ⟨0x08000098 + 0x100 * queue, 47, 0⟩
/-- Counter 4 of Q_COUNTER. -/
def Q_OVERRUNS_C (queue : Nat) : Field := ⟨0x080000A0 + 0x100 * queue, 47, 0⟩
/-- Counter 5 of Q_COUNTER. -/
def Q_UNDERRUNS_C (queue : Nat) : Field := ⟨0x080000A8 + 0x100 * queue, 47, 0⟩
/-- Counter 6 of Q_COUNTER. -/
def Q_FLUSHED_ITEMS_C (queue : Nat) : Field := ⟨0x080000B0 + 0x100 * queue, 47, 0⟩
/-- Counter 7 of Q_COUNTER. -/
def Q_DISCARDED_CELLS_C (queue : Nat) : Field := ⟨0x080000B8 + 0x100 * queue, 47, 0⟩
/-- Counter 8 of Q_COUNTER. -/
def Q_MISMATCH_RESETS_C (queue : Nat) : Field := ⟨0x080000C0 + 0x100 * queue, 47, 0⟩
def Q_POOL_STATUS_QUOTA_SUM : Field := ⟨0x08100000, 51, 32⟩
def Q_POOL_STATUS_POOL_CELLS : Field := ⟨0x08100000, 19, 0⟩
def GEY_CTRL_INTERVAL_K : Field := ⟨0x04000000, 28, 24⟩
def GEY_CTRL_HORIZON_INTERVALS : Field := ⟨0x04000000, 21, 16⟩
def GEY_CTRL_BCAST_HOPS : Field := ⟨0x04000000, 13, 8⟩
def GEY_STATUS_WRITE_LOST : Field := ⟨0x04000004, 31, 31⟩
def GEY_STATUS_LAST_BY_HORIZON : Field := ⟨0x04000004, 30, 30⟩
def GEY_OPEN_START : Field := ⟨0x04000008, 63, 0⟩
/-- Counter 0 of GEY_DEVICE_COUNTER. -/
def GEY_DEVICE_LATE_COUNTED_C : Field := ⟨0x04000100, 47, 0⟩
/-- Counter 1 of GEY_DEVICE_COUNTER. -/
def GEY_DEVICE_FAR_AHEAD_C : Field := ⟨0x04000108, 47, 0⟩
/-- Counter 2 of GEY_DEVICE_COUNTER. -/
def GEY_DEVICE_PEER_LATE_C : Field := ⟨0x04000110, 47, 0⟩
/-- Counter 3 of GEY_DEVICE_COUNTER. -/
def GEY_DEVICE_EXT_LATE_C : Field := ⟨0x04000118, 47, 0⟩
/-- Counter 4 of GEY_DEVICE_COUNTER. -/
def GEY_DEVICE_BCAST_SENT_C : Field := ⟨0x04000120, 47, 0⟩
/-- Counter 5 of GEY_DEVICE_COUNTER. -/
def GEY_DEVICE_BCAST_RECEIVED_C : Field := ⟨0x04000128, 47, 0⟩
/-- Counter 6 of GEY_DEVICE_COUNTER. -/
def GEY_DEVICE_BCAST_DUPLICATE_C : Field := ⟨0x04000130, 47, 0⟩
/-- Counter 7 of GEY_DEVICE_COUNTER. -/
def GEY_DEVICE_BCAST_AUTH_FAIL_C : Field := ⟨0x04000138, 47, 0⟩
/-- Counter 8 of GEY_DEVICE_COUNTER. -/
def GEY_DEVICE_BCAST_FENCED_C : Field := ⟨0x04000140, 47, 0⟩
/-- Counter 9 of GEY_DEVICE_COUNTER. -/
def GEY_DEVICE_BCAST_UNMAPPED_C : Field := ⟨0x04000148, 47, 0⟩
/-- Counter 10 of GEY_DEVICE_COUNTER. -/
def GEY_DEVICE_LATE_LAUNCH_C : Field := ⟨0x04000150, 47, 0⟩
/-- Counter 11 of GEY_DEVICE_COUNTER. -/
def GEY_DEVICE_CLOSED_HORIZON_C : Field := ⟨0x04000158, 47, 0⟩
def GEY_CHANNEL_MAP_ENABLE (channel : Nat) : Field := ⟨0x04001000 + 0x4 * channel, 31, 31⟩
def GEY_CHANNEL_MAP_OUT_MASK (channel : Nat) : Field := ⟨0x04001000 + 0x4 * channel, 11, 8⟩
def GEY_CHANNEL_MAP_PROGRAM (channel : Nat) : Field := ⟨0x04001000 + 0x4 * channel, 5, 0⟩
def GEY_GROUP_COUNT_COUNT (group : Nat) (age : Nat) : Field := ⟨0x04010000 + 0x40 * group + 0x4 * age, 31, 0⟩
def GEY_PROG_WORD (program : Nat) (word : Nat) : Field := ⟨0x04080000 + 0x100 * program + 0x8 * word, 63, 0⟩
def GEY_PROG_CTRL_SOFT (program : Nat) : Field := ⟨0x04084000 + 0x40 * program, 1, 1⟩
def GEY_PROG_CTRL_COMMIT (program : Nat) : Field := ⟨0x04084000 + 0x40 * program, 0, 0⟩
def GEY_PROG_STATUS_FIRED (program : Nat) : Field := ⟨0x04084004 + 0x40 * program, 31, 31⟩
def GEY_PROG_STATUS_WRITE_LOST (program : Nat) : Field := ⟨0x04084004 + 0x40 * program, 30, 30⟩
def GEY_PROG_STATUS_PENDING (program : Nat) : Field := ⟨0x04084004 + 0x40 * program, 29, 29⟩
def GEY_PROG_STATUS_HOLDING_OFF (program : Nat) : Field := ⟨0x04084004 + 0x40 * program, 28, 28⟩
def GEY_PROG_STATUS_TOKENS (program : Nat) : Field := ⟨0x04084004 + 0x40 * program, 15, 8⟩
def GEY_PROG_STATUS_RESULT (program : Nat) : Field := ⟨0x04084004 + 0x40 * program, 7, 0⟩
def GEY_PROG_OWNER_TENANT (program : Nat) : Field := ⟨0x04084008 + 0x40 * program, 4, 0⟩
def GEY_PROG_SOFT_TIME_TIME (program : Nat) : Field := ⟨0x04084010 + 0x40 * program, 63, 0⟩
def GEY_PROG_LAST_T (program : Nat) : Field := ⟨0x04084018 + 0x40 * program, 63, 0⟩
def GEY_PROG_APPLY_BOUNDARY (program : Nat) : Field := ⟨0x04084020 + 0x40 * program, 63, 0⟩
/-- Counter 0 of GEY_PROG_COUNTER. -/
def GEY_PROG_FIRED_C (program : Nat) : Field := ⟨0x04088000 + 0x40 * program, 47, 0⟩
/-- Counter 1 of GEY_PROG_COUNTER. -/
def GEY_PROG_HOLDOFF_SUPPRESSED_C (program : Nat) : Field := ⟨0x04088008 + 0x40 * program, 47, 0⟩
/-- Counter 2 of GEY_PROG_COUNTER. -/
def GEY_PROG_RATE_SUPPRESSED_C (program : Nat) : Field := ⟨0x04088010 + 0x40 * program, 47, 0⟩
/-- Counter 3 of GEY_PROG_COUNTER. -/
def GEY_PROG_SOFT_INPUTS_C (program : Nat) : Field := ⟨0x04088018 + 0x40 * program, 47, 0⟩
def NBF_CTRL_PIN_LIMIT_GIB : Field := ⟨0x04200000, 31, 24⟩
def NBF_CTRL_WINDOW_WAIT_US : Field := ⟨0x04200000, 15, 0⟩
def NBF_STATUS_WRITE_LOST : Field := ⟨0x04200004, 31, 31⟩
def NBF_STATUS_PIN_FULL : Field := ⟨0x04200004, 30, 30⟩
def NBF_STATUS_RING_GIB : Field := ⟨0x04200004, 23, 16⟩
def NBF_STATUS_HELD_GIB : Field := ⟨0x04200004, 7, 0⟩
def NBF_OLDEST_ARRIVAL : Field := ⟨0x04200008, 63, 0⟩
/-- Counter 0 of NBF_COUNTER. -/
def NBF_RECORDS_C : Field := ⟨0x04200100, 47, 0⟩
/-- Counter 1 of NBF_COUNTER. -/
def NBF_OCTETS_RECORDED_C : Field := ⟨0x04200108, 63, 0⟩
/-- Counter 2 of NBF_COUNTER. -/
def NBF_RECORD_DROPPED_C : Field := ⟨0x04200110, 47, 0⟩
/-- Counter 3 of NBF_COUNTER. -/
def NBF_WINDOWS_READ_C : Field := ⟨0x04200118, 47, 0⟩
/-- Counter 4 of NBF_COUNTER. -/
def NBF_OCTETS_READ_C : Field := ⟨0x04200120, 63, 0⟩
/-- Counter 5 of NBF_COUNTER. -/
def NBF_WINDOW_MISSED_C : Field := ⟨0x04200128, 47, 0⟩
/-- Counter 6 of NBF_COUNTER. -/
def NBF_FREEZE_REFUSED_SLOT_C : Field := ⟨0x04200130, 47, 0⟩
/-- Counter 7 of NBF_COUNTER. -/
def NBF_FREEZE_REFUSED_PIN_C : Field := ⟨0x04200138, 47, 0⟩
def NBF_FREEZE_W0_STATE (slot : Nat) : Field := ⟨0x04210000 + 0x40 * slot, 63, 60⟩
def NBF_FREEZE_W0_PROGRAM (slot : Nat) : Field := ⟨0x04210000 + 0x40 * slot, 59, 54⟩
def NBF_FREEZE_W0_CHANNEL (slot : Nat) : Field := ⟨0x04210000 + 0x40 * slot, 53, 46⟩
def NBF_FREEZE_W0_RFLAGS (slot : Nat) : Field := ⟨0x04210000 + 0x40 * slot, 45, 30⟩
def NBF_FREEZE_W0_ORIGIN_DEVICE (slot : Nat) : Field := ⟨0x04210000 + 0x40 * slot, 29, 16⟩
def NBF_FREEZE_W0_ORIGIN_SEQ (slot : Nat) : Field := ⟨0x04210000 + 0x40 * slot, 15, 0⟩
def NBF_FREEZE_W1_VALUE (slot : Nat) : Field := ⟨0x04210008 + 0x40 * slot, 63, 0⟩
def NBF_FREEZE_W2_VALUE (slot : Nat) : Field := ⟨0x04210010 + 0x40 * slot, 63, 0⟩
def NBF_FREEZE_W3_VALUE (slot : Nat) : Field := ⟨0x04210018 + 0x40 * slot, 63, 0⟩
def NBF_FREEZE_W4_VALUE (slot : Nat) : Field := ⟨0x04210020 + 0x40 * slot, 63, 0⟩
def NBF_FREEZE_W5_VALUE (slot : Nat) : Field := ⟨0x04210028 + 0x40 * slot, 63, 0⟩
def NBF_FREEZE_W6_VALUE (slot : Nat) : Field := ⟨0x04210030 + 0x40 * slot, 63, 0⟩
def LKT_CTRL_KEY : Field := ⟨0x05000000, 31, 16⟩
def LKT_CTRL_COMPACT : Field := ⟨0x05000000, 1, 1⟩
def LKT_CTRL_FORMAT : Field := ⟨0x05000000, 0, 0⟩
def LKT_CFG_LAYOUT : Field := ⟨0x05000004, 31, 31⟩
def LKT_CFG_REBUILD_GBPS : Field := ⟨0x05000004, 23, 16⟩
def LKT_CFG_TIMEOUT_MS : Field := ⟨0x05000004, 15, 0⟩
def LKT_KEY_KEY_INDEX : Field := ⟨0x05000008, 15, 0⟩
def LKT_STATUS_DONE : Field := ⟨0x0500000C, 31, 31⟩
def LKT_STATUS_WRITE_LOST : Field := ⟨0x0500000C, 30, 30⟩
def LKT_STATUS_RESULT : Field := ⟨0x0500000C, 23, 16⟩
def LKT_STATUS_STATE : Field := ⟨0x0500000C, 3, 0⟩
def LKT_POOL_WINDOW_STRIPES : Field := ⟨0x05000010, 63, 32⟩
def LKT_POOL_SPILL_STRIPES : Field := ⟨0x05000010, 31, 0⟩
def LKT_GEOMETRY_MEMBER_MASK : Field := ⟨0x05000018, 63, 48⟩
def LKT_GEOMETRY_ROWS : Field := ⟨0x05000018, 31, 0⟩
def LKT_SET_ID_SET_ID : Field := ⟨0x05000020, 63, 0⟩
def LKT_JOURNAL_LIVE_BLOCKS : Field := ⟨0x05000028, 63, 43⟩
def LKT_JOURNAL_SLOT : Field := ⟨0x05000028, 0, 0⟩
def LKT_RECOVERY_MILLISECONDS : Field := ⟨0x05000030, 31, 0⟩
/-- Counter 0 of LKT_DEVICE_COUNTER. -/
def LKT_DEVICE_NOT_READY_C : Field := ⟨0x05000100, 47, 0⟩
/-- Counter 1 of LKT_DEVICE_COUNTER. -/
def LKT_DEVICE_OVERLOAD_DROPPED_C : Field := ⟨0x05000108, 47, 0⟩
/-- Counter 2 of LKT_DEVICE_COUNTER. -/
def LKT_DEVICE_WINDOW_DROPPED_C : Field := ⟨0x05000110, 47, 0⟩
/-- Counter 3 of LKT_DEVICE_COUNTER. -/
def LKT_DEVICE_SPILL_DROPPED_C : Field := ⟨0x05000118, 47, 0⟩
/-- Counter 4 of LKT_DEVICE_COUNTER. -/
def LKT_DEVICE_NO_RING_C : Field := ⟨0x05000120, 47, 0⟩
/-- Counter 5 of LKT_DEVICE_COUNTER. -/
def LKT_DEVICE_LOST_CHUNKS_C : Field := ⟨0x05000128, 47, 0⟩
/-- Counter 6 of LKT_DEVICE_COUNTER. -/
def LKT_DEVICE_READ_LOST_C : Field := ⟨0x05000130, 47, 0⟩
/-- Counter 7 of LKT_DEVICE_COUNTER. -/
def LKT_DEVICE_CHUNKS_RECONSTRUCTED_C : Field := ⟨0x05000138, 47, 0⟩
/-- Counter 8 of LKT_DEVICE_COUNTER. -/
def LKT_DEVICE_COMPACTIONS_C : Field := ⟨0x05000140, 47, 0⟩
/-- Counter 9 of LKT_DEVICE_COUNTER. -/
def LKT_DEVICE_PAD_BYTES_C : Field := ⟨0x05000148, 63, 0⟩
/-- Counter 10 of LKT_DEVICE_COUNTER. -/
def LKT_DEVICE_BYTES_WRITTEN_C : Field := ⟨0x05000150, 63, 0⟩
def LKT_PORT_STATUS_STATE (port : Nat) : Field := ⟨0x05001000 + 0x100 * port, 31, 28⟩
def LKT_PORT_STATUS_SPEED (port : Nat) : Field := ⟨0x05001000 + 0x100 * port, 27, 24⟩
def LKT_PORT_STATUS_WIDTH (port : Nat) : Field := ⟨0x05001000 + 0x100 * port, 23, 20⟩
def LKT_PORT_STATUS_PRESENT (port : Nat) : Field := ⟨0x05001000 + 0x100 * port, 19, 19⟩
def LKT_PORT_STATUS_WRITE_LOST (port : Nat) : Field := ⟨0x05001000 + 0x100 * port, 18, 18⟩
def LKT_PORT_CTRL_KEY (port : Nat) : Field := ⟨0x05001004 + 0x100 * port, 31, 16⟩
def LKT_PORT_CTRL_ADOPT (port : Nat) : Field := ⟨0x05001004 + 0x100 * port, 0, 0⟩
def LKT_PORT_REBUILD_STRIPES_LEFT (port : Nat) : Field := ⟨0x05001008 + 0x100 * port, 63, 32⟩
def LKT_PORT_REBUILD_STRIPES_DONE (port : Nat) : Field := ⟨0x05001008 + 0x100 * port, 31, 0⟩
def LKT_PORT_CAPACITY_LBAS (port : Nat) : Field := ⟨0x05001010 + 0x100 * port, 63, 0⟩
/-- Counter 0 of LKT_PORT_COUNTER. -/
def LKT_PORT_COMMANDS_C (port : Nat) : Field := ⟨0x05001040 + 0x100 * port, 47, 0⟩
/-- Counter 1 of LKT_PORT_COUNTER. -/
def LKT_PORT_BYTES_WRITTEN_C (port : Nat) : Field := ⟨0x05001048 + 0x100 * port, 63, 0⟩
/-- Counter 2 of LKT_PORT_COUNTER. -/
def LKT_PORT_BYTES_READ_C (port : Nat) : Field := ⟨0x05001050 + 0x100 * port, 63, 0⟩
/-- Counter 3 of LKT_PORT_COUNTER. -/
def LKT_PORT_CMD_ERRORS_C (port : Nat) : Field := ⟨0x05001058 + 0x100 * port, 47, 0⟩
/-- Counter 4 of LKT_PORT_COUNTER. -/
def LKT_PORT_TIMEOUTS_C (port : Nat) : Field := ⟨0x05001060 + 0x100 * port, 47, 0⟩
/-- Counter 5 of LKT_PORT_COUNTER. -/
def LKT_PORT_REMOVALS_C (port : Nat) : Field := ⟨0x05001068 + 0x100 * port, 47, 0⟩
def LKT_REPLAY_CFG_SOURCE (engine : Nat) : Field := ⟨0x05002000 + 0x40 * engine, 63, 62⟩
def LKT_REPLAY_CFG_SUBJECT (engine : Nat) : Field := ⟨0x05002000 + 0x40 * engine, 60, 48⟩
def LKT_REPLAY_CFG_LINK (engine : Nat) : Field := ⟨0x05002000 + 0x40 * engine, 47, 40⟩
def LKT_REPLAY_CFG_ENDPOINT (engine : Nat) : Field := ⟨0x05002000 + 0x40 * engine, 39, 28⟩
def LKT_REPLAY_CFG_PRIORITY (engine : Nat) : Field := ⟨0x05002000 + 0x40 * engine, 26, 24⟩
def LKT_REPLAY_CFG_RATE_GBPS (engine : Nat) : Field := ⟨0x05002000 + 0x40 * engine, 23, 16⟩
def LKT_REPLAY_CFG_RELEASE (engine : Nat) : Field := ⟨0x05002000 + 0x40 * engine, 1, 1⟩
def LKT_REPLAY_CFG_FOLLOW (engine : Nat) : Field := ⟨0x05002000 + 0x40 * engine, 0, 0⟩
def LKT_REPLAY_FROM_TIME (engine : Nat) : Field := ⟨0x05002008 + 0x40 * engine, 63, 0⟩
def LKT_REPLAY_TO_TIME (engine : Nat) : Field := ⟨0x05002010 + 0x40 * engine, 63, 0⟩
def LKT_REPLAY_CTRL_ABORT (engine : Nat) : Field := ⟨0x05002018 + 0x40 * engine, 1, 1⟩
def LKT_REPLAY_CTRL_START (engine : Nat) : Field := ⟨0x05002018 + 0x40 * engine, 0, 0⟩
def LKT_REPLAY_STATUS_DONE (engine : Nat) : Field := ⟨0x0500201C + 0x40 * engine, 31, 31⟩
def LKT_REPLAY_STATUS_BUSY (engine : Nat) : Field := ⟨0x0500201C + 0x40 * engine, 30, 30⟩
def LKT_REPLAY_STATUS_OWNER (engine : Nat) : Field := ⟨0x0500201C + 0x40 * engine, 20, 16⟩
def LKT_REPLAY_STATUS_RESULT (engine : Nat) : Field := ⟨0x0500201C + 0x40 * engine, 7, 0⟩
def LKT_REPLAY_PROGRESS_SKIPPED_STRIPES (engine : Nat) : Field := ⟨0x05002020 + 0x40 * engine, 63, 48⟩
def LKT_REPLAY_PROGRESS_FRAMES (engine : Nat) : Field := ⟨0x05002020 + 0x40 * engine, 47, 0⟩
def LKT_STREAM_CFG_RING_STRIPES (stream : Nat) : Field := ⟨0x05010000 + 0x20 * stream, 39, 16⟩
def LKT_STREAM_CFG_COMMIT_MS (stream : Nat) : Field := ⟨0x05010000 + 0x20 * stream, 9, 0⟩
def LKT_STREAM_SPAN_TIME (stream : Nat) (word : Nat) : Field := ⟨0x05010008 + 0x20 * stream + 0x8 * word, 63, 0⟩
def LKT_STREAM_HELD_STRIPES (stream : Nat) : Field := ⟨0x05010018 + 0x20 * stream, 23, 0⟩
def LKT_WINDOW_W0_STATE (window : Nat) : Field := ⟨0x05060000 + 0x40 * window, 63, 62⟩
def LKT_WINDOW_W0_LOCK (window : Nat) : Field := ⟨0x05060000 + 0x40 * window, 61, 61⟩
def LKT_WINDOW_W0_INCOMPLETE (window : Nat) : Field := ⟨0x05060000 + 0x40 * window, 60, 60⟩
def LKT_WINDOW_W0_STREAM (window : Nat) : Field := ⟨0x05060000 + 0x40 * window, 59, 47⟩
def LKT_WINDOW_W0_ORIGIN_DEVICE (window : Nat) : Field := ⟨0x05060000 + 0x40 * window, 29, 16⟩
def LKT_WINDOW_W0_ORIGIN_SEQ (window : Nat) : Field := ⟨0x05060000 + 0x40 * window, 15, 0⟩
def LKT_WINDOW_W1_VALUE (window : Nat) : Field := ⟨0x05060008 + 0x40 * window, 63, 0⟩
def LKT_WINDOW_W2_VALUE (window : Nat) : Field := ⟨0x05060010 + 0x40 * window, 63, 0⟩
def LKT_WINDOW_W3_VALUE (window : Nat) : Field := ⟨0x05060018 + 0x40 * window, 63, 0⟩
def LKT_WINDOW_W4_VALUE (window : Nat) : Field := ⟨0x05060020 + 0x40 * window, 63, 0⟩
def LKT_WINDOW_W5_VALUE (window : Nat) : Field := ⟨0x05060028 + 0x40 * window, 63, 0⟩
def LKT_WINDOW_CTRL_RELEASE (window : Nat) : Field := ⟨0x05060030 + 0x40 * window, 0, 0⟩
/-- Counter 0 of LKT_STREAM_COUNTER. -/
def LKT_STREAM_FRAMES_STORED_C (stream : Nat) : Field := ⟨0x050C0000 + 0x20 * stream, 47, 0⟩
/-- Counter 1 of LKT_STREAM_COUNTER. -/
def LKT_STREAM_OCTETS_STORED_C (stream : Nat) : Field := ⟨0x050C0008 + 0x20 * stream, 63, 0⟩
/-- Counter 2 of LKT_STREAM_COUNTER. -/
def LKT_STREAM_FRAMES_DROPPED_C (stream : Nat) : Field := ⟨0x050C0010 + 0x20 * stream, 47, 0⟩
/-- Counter 3 of LKT_STREAM_COUNTER. -/
def LKT_STREAM_STRIPES_RELEASED_C (stream : Nat) : Field := ⟨0x050C0018 + 0x20 * stream, 47, 0⟩
def LSN_PORT_CFG_REACH (port : Nat) : Field := ⟨0x06000000 + 0x10000 * port, 3, 3⟩
def LSN_PORT_CFG_ENABLE (port : Nat) : Field := ⟨0x06000000 + 0x10000 * port, 2, 2⟩
def LSN_PORT_CFG_SPLIT (port : Nat) : Field := ⟨0x06000000 + 0x10000 * port, 1, 0⟩
def LSN_PORT_STATUS_WRITE_LOST (port : Nat) : Field := ⟨0x06000004 + 0x10000 * port, 31, 31⟩
def LSN_PORT_STATUS_LINK_UP (port : Nat) : Field := ⟨0x06000004 + 0x10000 * port, 7, 0⟩
def LSN_PORT_RETAIN_BYTES (port : Nat) : Field := ⟨0x06000008 + 0x10000 * port, 63, 32⟩
def LSN_PORT_RETAIN_FRAMES (port : Nat) : Field := ⟨0x06000008 + 0x10000 * port, 31, 0⟩
def LSN_LINK_CFG_ENABLE (port : Nat) (j : Nat) : Field := ⟨0x06001000 + 0x10000 * port + 0x800 * j, 31, 31⟩
def LSN_LINK_CFG_PREEMPT_EN (port : Nat) (j : Nat) : Field := ⟨0x06001000 + 0x10000 * port + 0x800 * j, 30, 30⟩
def LSN_LINK_CFG_ADD_FRAG_SIZE (port : Nat) (j : Nat) : Field := ⟨0x06001000 + 0x10000 * port + 0x800 * j, 29, 28⟩
def LSN_LINK_CFG_PFC_EN (port : Nat) (j : Nat) : Field := ⟨0x06001000 + 0x10000 * port + 0x800 * j, 27, 20⟩
def LSN_LINK_CFG_HOP_LIMIT (port : Nat) (j : Nat) : Field := ⟨0x06001000 + 0x10000 * port + 0x800 * j, 19, 12⟩
def LSN_LINK_STATUS_WRITE_LOST (port : Nat) (j : Nat) : Field := ⟨0x06001004 + 0x10000 * port + 0x800 * j, 31, 31⟩
def LSN_LINK_STATUS_LINK_DOWN_EVENT (port : Nat) (j : Nat) : Field := ⟨0x06001004 + 0x10000 * port + 0x800 * j, 30, 30⟩
def LSN_LINK_STATUS_PREEMPT_ACTIVE (port : Nat) (j : Nat) : Field := ⟨0x06001004 + 0x10000 * port + 0x800 * j, 29, 29⟩
def LSN_LINK_STATUS_PAUSED (port : Nat) (j : Nat) : Field := ⟨0x06001004 + 0x10000 * port + 0x800 * j, 28, 21⟩
def LSN_LINK_STATUS_STORM (port : Nat) (j : Nat) : Field := ⟨0x06001004 + 0x10000 * port + 0x800 * j, 20, 13⟩
def LSN_LINK_STATUS_STATE (port : Nat) (j : Nat) : Field := ⟨0x06001004 + 0x10000 * port + 0x800 * j, 12, 11⟩
def LSN_LINK_TIMERS_LINK_HOLD_US (port : Nat) (j : Nat) : Field := ⟨0x06001008 + 0x10000 * port + 0x800 * j, 63, 48⟩
def LSN_LINK_TIMERS_PAUSE_WD_US (port : Nat) (j : Nat) : Field := ⟨0x06001008 + 0x10000 * port + 0x800 * j, 47, 32⟩
def LSN_LINK_TIMERS_STORM_CLEAR_US (port : Nat) (j : Nat) : Field := ⟨0x06001008 + 0x10000 * port + 0x800 * j, 31, 16⟩
def LSN_LINK_MAC_MAC (port : Nat) (j : Nat) : Field := ⟨0x06001010 + 0x10000 * port + 0x800 * j, 47, 0⟩
def LSN_LINK_IP4_ADDRESS (port : Nat) (j : Nat) : Field := ⟨0x06001018 + 0x10000 * port + 0x800 * j, 31, 0⟩
def LSN_LINK_UDP_IST_PORT (port : Nat) (j : Nat) : Field := ⟨0x0600101C + 0x10000 * port + 0x800 * j, 31, 16⟩
def LSN_LINK_UDP_MGMT_PORT (port : Nat) (j : Nat) : Field := ⟨0x0600101C + 0x10000 * port + 0x800 * j, 15, 0⟩
def LSN_LINK_IP6_ADDRESS (port : Nat) (j : Nat) (word : Nat) : Field := ⟨0x06001020 + 0x10000 * port + 0x800 * j + 0x8 * word, 63, 0⟩
/-- Counter 0 of LSN_LINK_COUNTER. -/
def LSN_LINK_TX_FRAMES_C (port : Nat) (j : Nat) : Field := ⟨0x06001100 + 0x10000 * port + 0x800 * j, 47, 0⟩
/-- Counter 1 of LSN_LINK_COUNTER. -/
def LSN_LINK_TX_OCTETS_C (port : Nat) (j : Nat) : Field := ⟨0x06001108 + 0x10000 * port + 0x800 * j, 63, 0⟩
/-- Counter 2 of LSN_LINK_COUNTER. -/
def LSN_LINK_RX_FRAMES_C (port : Nat) (j : Nat) : Field := ⟨0x06001110 + 0x10000 * port + 0x800 * j, 47, 0⟩
/-- Counter 3 of LSN_LINK_COUNTER. -/
def LSN_LINK_RX_OCTETS_C (port : Nat) (j : Nat) : Field := ⟨0x06001118 + 0x10000 * port + 0x800 * j, 63, 0⟩
/-- Counter 4 of LSN_LINK_COUNTER. -/
def LSN_LINK_RX_RUNTS_C (port : Nat) (j : Nat) : Field := ⟨0x06001120 + 0x10000 * port + 0x800 * j, 47, 0⟩
/-- Counter 5 of LSN_LINK_COUNTER. -/
def LSN_LINK_RX_FCS_ERRORS_C (port : Nat) (j : Nat) : Field := ⟨0x06001128 + 0x10000 * port + 0x800 * j, 47, 0⟩
/-- Counter 6 of LSN_LINK_COUNTER. -/
def LSN_LINK_RX_OVERSIZE_C (port : Nat) (j : Nat) : Field := ⟨0x06001130 + 0x10000 * port + 0x800 * j, 47, 0⟩
/-- Counter 7 of LSN_LINK_COUNTER. -/
def LSN_LINK_RX_NOT_ADDRESSED_C (port : Nat) (j : Nat) : Field := ⟨0x06001138 + 0x10000 * port + 0x800 * j, 47, 0⟩
/-- Counter 8 of LSN_LINK_COUNTER. -/
def LSN_LINK_RX_UNKNOWN_C (port : Nat) (j : Nat) : Field := ⟨0x06001140 + 0x10000 * port + 0x800 * j, 47, 0⟩
/-- Counter 9 of LSN_LINK_COUNTER. -/
def LSN_LINK_RX_ACKS_C (port : Nat) (j : Nat) : Field := ⟨0x06001148 + 0x10000 * port + 0x800 * j, 47, 0⟩
/-- Counter 10 of LSN_LINK_COUNTER. -/
def LSN_LINK_RX_ACK_AUTH_FAIL_C (port : Nat) (j : Nat) : Field := ⟨0x06001150 + 0x10000 * port + 0x800 * j, 47, 0⟩
/-- Counter 11 of LSN_LINK_COUNTER. -/
def LSN_LINK_RX_MGMT_C (port : Nat) (j : Nat) : Field := ⟨0x06001158 + 0x10000 * port + 0x800 * j, 47, 0⟩
/-- Counter 12 of LSN_LINK_COUNTER. -/
def LSN_LINK_TX_PREEMPTIONS_C (port : Nat) (j : Nat) : Field := ⟨0x06001160 + 0x10000 * port + 0x800 * j, 47, 0⟩
/-- Counter 13 of LSN_LINK_COUNTER. -/
def LSN_LINK_RX_REASSEMBLED_C (port : Nat) (j : Nat) : Field := ⟨0x06001168 + 0x10000 * port + 0x800 * j, 47, 0⟩
/-- Counter 14 of LSN_LINK_COUNTER. -/
def LSN_LINK_RX_REASSEMBLY_ERRORS_C (port : Nat) (j : Nat) : Field := ⟨0x06001170 + 0x10000 * port + 0x800 * j, 47, 0⟩
/-- Counter 15 of LSN_LINK_COUNTER. -/
def LSN_LINK_DIVERTED_QUEUE_FULL_C (port : Nat) (j : Nat) : Field := ⟨0x06001178 + 0x10000 * port + 0x800 * j, 47, 0⟩
/-- Counter 16 of LSN_LINK_COUNTER. -/
def LSN_LINK_DIVERTED_LINK_DOWN_C (port : Nat) (j : Nat) : Field := ⟨0x06001180 + 0x10000 * port + 0x800 * j, 47, 0⟩
/-- Counter 17 of LSN_LINK_COUNTER. -/
def LSN_LINK_DIVERTED_STORM_C (port : Nat) (j : Nat) : Field := ⟨0x06001188 + 0x10000 * port + 0x800 * j, 47, 0⟩
/-- Counter 18 of LSN_LINK_COUNTER. -/
def LSN_LINK_DIVERTED_SILENT_C (port : Nat) (j : Nat) : Field := ⟨0x06001190 + 0x10000 * port + 0x800 * j, 47, 0⟩
/-- Counter 19 of LSN_LINK_COUNTER. -/
def LSN_LINK_DIVERTED_RETRIES_C (port : Nat) (j : Nat) : Field := ⟨0x06001198 + 0x10000 * port + 0x800 * j, 47, 0⟩
/-- Counter 20 of LSN_LINK_COUNTER. -/
def LSN_LINK_DIVERTED_RETENTION_C (port : Nat) (j : Nat) : Field := ⟨0x060011A0 + 0x10000 * port + 0x800 * j, 47, 0⟩
/-- Counter 21 of LSN_LINK_COUNTER. -/
def LSN_LINK_SPILLED_C (port : Nat) (j : Nat) : Field := ⟨0x060011A8 + 0x10000 * port + 0x800 * j, 47, 0⟩
/-- Counter 22 of LSN_LINK_COUNTER. -/
def LSN_LINK_DROPPED_C (port : Nat) (j : Nat) : Field := ⟨0x060011B0 + 0x10000 * port + 0x800 * j, 47, 0⟩
/-- Counter 23 of LSN_LINK_COUNTER. -/
def LSN_LINK_RETRANSMITS_C (port : Nat) (j : Nat) : Field := ⟨0x060011B8 + 0x10000 * port + 0x800 * j, 47, 0⟩
/-- Counter 24 of LSN_LINK_COUNTER. -/
def LSN_LINK_LAUNCH_LATE_C (port : Nat) (j : Nat) : Field := ⟨0x060011C0 + 0x10000 * port + 0x800 * j, 47, 0⟩
/-- Counter 25 of LSN_LINK_COUNTER. -/
def LSN_LINK_LAUNCH_IGNORED_C (port : Nat) (j : Nat) : Field := ⟨0x060011C8 + 0x10000 * port + 0x800 * j, 47, 0⟩
/-- Counter 26 of LSN_LINK_COUNTER. -/
def LSN_LINK_TX_ABORTED_C (port : Nat) (j : Nat) : Field := ⟨0x060011D0 + 0x10000 * port + 0x800 * j, 47, 0⟩
/-- Counter 27 of LSN_LINK_COUNTER. -/
def LSN_LINK_FEC_CORRECTED_C (port : Nat) (j : Nat) : Field := ⟨0x060011D8 + 0x10000 * port + 0x800 * j, 47, 0⟩
/-- Counter 28 of LSN_LINK_COUNTER. -/
def LSN_LINK_FEC_UNCORRECTABLE_C (port : Nat) (j : Nat) : Field := ⟨0x060011E0 + 0x10000 * port + 0x800 * j, 47, 0⟩
/-- Counter 29 of LSN_LINK_COUNTER. -/
def LSN_LINK_SPILL_NOTICES_C (port : Nat) (j : Nat) : Field := ⟨0x060011E8 + 0x10000 * port + 0x800 * j, 47, 0⟩
/-- Counter 0 of LSN_LINK_PRIO_COUNTER. -/
def LSN_LINK_PRIO_TX_FRAMES_C (port : Nat) (j : Nat) (p : Nat) : Field := ⟨0x06001400 + 0x10000 * port + 0x800 * j + 0x40 * p, 47, 0⟩
/-- Counter 1 of LSN_LINK_PRIO_COUNTER. -/
def LSN_LINK_PRIO_TX_OCTETS_C (port : Nat) (j : Nat) (p : Nat) : Field := ⟨0x06001408 + 0x10000 * port + 0x800 * j + 0x40 * p, 63, 0⟩
/-- Counter 2 of LSN_LINK_PRIO_COUNTER. -/
def LSN_LINK_PRIO_PAUSE_RX_C (port : Nat) (j : Nat) (p : Nat) : Field := ⟨0x06001410 + 0x10000 * port + 0x800 * j + 0x40 * p, 47, 0⟩
/-- Counter 3 of LSN_LINK_PRIO_COUNTER. -/
def LSN_LINK_PRIO_PAUSED_US_C (port : Nat) (j : Nat) (p : Nat) : Field := ⟨0x06001418 + 0x10000 * port + 0x800 * j + 0x40 * p, 47, 0⟩
/-- Counter 4 of LSN_LINK_PRIO_COUNTER. -/
def LSN_LINK_PRIO_STORMS_C (port : Nat) (j : Nat) (p : Nat) : Field := ⟨0x06001420 + 0x10000 * port + 0x800 * j + 0x40 * p, 47, 0⟩
/-- Counter 5 of LSN_LINK_PRIO_COUNTER. -/
def LSN_LINK_PRIO_DIVERTED_C (port : Nat) (j : Nat) (p : Nat) : Field := ⟨0x06001428 + 0x10000 * port + 0x800 * j + 0x40 * p, 47, 0⟩
def LSN_ENDPOINT_W0_VALID (port : Nat) (endpoint : Nat) : Field := ⟨0x06008000 + 0x10000 * port + 0x40 * endpoint, 63, 63⟩
def LSN_ENDPOINT_W0_IPV4 (port : Nat) (endpoint : Nat) : Field := ⟨0x06008000 + 0x10000 * port + 0x40 * endpoint, 62, 62⟩
def LSN_ENDPOINT_W0_RELIABLE (port : Nat) (endpoint : Nat) : Field := ⟨0x06008000 + 0x10000 * port + 0x40 * endpoint, 61, 61⟩
def LSN_ENDPOINT_W0_SPILL_EN (port : Nat) (endpoint : Nat) : Field := ⟨0x06008000 + 0x10000 * port + 0x40 * endpoint, 60, 60⟩
def LSN_ENDPOINT_W0_VLAN_EN (port : Nat) (endpoint : Nat) : Field := ⟨0x06008000 + 0x10000 * port + 0x40 * endpoint, 59, 59⟩
def LSN_ENDPOINT_W0_OWNER (port : Nat) (endpoint : Nat) : Field := ⟨0x06008000 + 0x10000 * port + 0x40 * endpoint, 52, 48⟩
def LSN_ENDPOINT_W0_DEST_MAC (port : Nat) (endpoint : Nat) : Field := ⟨0x06008000 + 0x10000 * port + 0x40 * endpoint, 47, 0⟩
def LSN_ENDPOINT_W1_VID (port : Nat) (endpoint : Nat) : Field := ⟨0x06008008 + 0x10000 * port + 0x40 * endpoint, 59, 48⟩
def LSN_ENDPOINT_W1_UDP_DST (port : Nat) (endpoint : Nat) : Field := ⟨0x06008008 + 0x10000 * port + 0x40 * endpoint, 31, 16⟩
def LSN_ENDPOINT_W1_UDP_SRC (port : Nat) (endpoint : Nat) : Field := ⟨0x06008008 + 0x10000 * port + 0x40 * endpoint, 15, 0⟩
def LSN_ENDPOINT_W2_DEST_IP (port : Nat) (endpoint : Nat) : Field := ⟨0x06008010 + 0x10000 * port + 0x40 * endpoint, 63, 0⟩
def LSN_ENDPOINT_W3_DEST_IP (port : Nat) (endpoint : Nat) : Field := ⟨0x06008018 + 0x10000 * port + 0x40 * endpoint, 63, 0⟩
def LSN_ENDPOINT_W4_RETENTION_US (port : Nat) (endpoint : Nat) : Field := ⟨0x06008020 + 0x10000 * port + 0x40 * endpoint, 63, 44⟩
def LSN_ENDPOINT_W4_RTO_US (port : Nat) (endpoint : Nat) : Field := ⟨0x06008020 + 0x10000 * port + 0x40 * endpoint, 43, 32⟩
def LSN_ENDPOINT_W4_ACK_KEY (port : Nat) (endpoint : Nat) : Field := ⟨0x06008020 + 0x10000 * port + 0x40 * endpoint, 31, 16⟩
def LSN_ENDPOINT_W4_RETRIES (port : Nat) (endpoint : Nat) : Field := ⟨0x06008020 + 0x10000 * port + 0x40 * endpoint, 15, 12⟩
def LSN_ENDPOINT_W5_LAUNCH_OFFSET_NS (port : Nat) (endpoint : Nat) : Field := ⟨0x06008028 + 0x10000 * port + 0x40 * endpoint, 31, 0⟩
def LSN_ENDPOINT_CTRL_COMMIT (port : Nat) (endpoint : Nat) : Field := ⟨0x06008030 + 0x10000 * port + 0x40 * endpoint, 0, 0⟩
def LSN_ENDPOINT_STATUS_STATE (port : Nat) (endpoint : Nat) : Field := ⟨0x06008038 + 0x10000 * port + 0x40 * endpoint, 63, 62⟩
def LSN_ENDPOINT_STATUS_WRITE_LOST (port : Nat) (endpoint : Nat) : Field := ⟨0x06008038 + 0x10000 * port + 0x40 * endpoint, 61, 61⟩
def LSN_ENDPOINT_STATUS_RESULT (port : Nat) (endpoint : Nat) : Field := ⟨0x06008038 + 0x10000 * port + 0x40 * endpoint, 55, 48⟩
def LSN_ENDPOINT_STATUS_UNACKED (port : Nat) (endpoint : Nat) : Field := ⟨0x06008038 + 0x10000 * port + 0x40 * endpoint, 31, 0⟩
def LSN_STREAM_SEG_PROGRESS_IDLE_US (stream : Nat) : Field := ⟨0x06800000 + 0x10 * stream, 31, 16⟩
def LSN_STREAM_SEG_MAX_BODY_UNITS (stream : Nat) : Field := ⟨0x06800000 + 0x10 * stream, 10, 0⟩
def LSN_STREAM_FRAME_SEQ_NEXT (stream : Nat) : Field := ⟨0x06800008 + 0x10 * stream, 63, 0⟩
def RNG_CFG_ENABLE (r : Nat) : Field := ⟨0x07000000 + 0x10000 * r, 31, 31⟩
def RNG_CFG_PFC_EN (r : Nat) : Field := ⟨0x07000000 + 0x10000 * r, 30, 24⟩
def RNG_CFG_HOP_LIMIT (r : Nat) : Field := ⟨0x07000000 + 0x10000 * r, 23, 16⟩
def RNG_PFC_XOFF_KIB (r : Nat) : Field := ⟨0x07000010 + 0x10000 * r, 31, 16⟩
def RNG_PFC_XON_KIB (r : Nat) : Field := ⟨0x07000010 + 0x10000 * r, 15, 0⟩
def RNG_RELAY_VALID (r : Nat) (entry : Nat) : Field := ⟨0x0700C000 + 0x10000 * r + 0x8 * entry, 63, 63⟩
def RNG_RELAY_TO_RING (r : Nat) (entry : Nat) : Field := ⟨0x0700C000 + 0x10000 * r + 0x8 * entry, 62, 62⟩
def RNG_RELAY_ORIGIN_DEVICE (r : Nat) (entry : Nat) : Field := ⟨0x0700C000 + 0x10000 * r + 0x8 * entry, 61, 48⟩
def RNG_RELAY_STREAM (r : Nat) (entry : Nat) : Field := ⟨0x0700C000 + 0x10000 * r + 0x8 * entry, 44, 32⟩
def RNG_RELAY_TARGET (r : Nat) (entry : Nat) : Field := ⟨0x0700C000 + 0x10000 * r + 0x8 * entry, 31, 24⟩
def RNG_RELAY_ENDPOINT (r : Nat) (entry : Nat) : Field := ⟨0x0700C000 + 0x10000 * r + 0x8 * entry, 23, 16⟩
def SIG_CTRL_PTP_AUTH : Field := ⟨0x09000000, 31, 31⟩
def SIG_CTRL_SPP : Field := ⟨0x09000000, 23, 16⟩
def SIG_CTRL_ROUND_US : Field := ⟨0x09000000, 15, 0⟩
def SIG_STATUS_WRITE_LOST : Field := ⟨0x09000004, 31, 31⟩
def SIG_STATUS_ENTROPY_FAULT : Field := ⟨0x09000004, 30, 30⟩
def SIG_STATUS_KEY_FAULT : Field := ⟨0x09000004, 29, 29⟩
def SIG_STATUS_OWNERSHIP : Field := ⟨0x09000004, 25, 24⟩
def SIG_STATUS_PENDING : Field := ⟨0x09000004, 13, 0⟩
def SIG_OWNER_EPOCH_EPOCH : Field := ⟨0x09000008, 63, 0⟩
def SIG_ROUND_ROUND : Field := ⟨0x09000010, 63, 0⟩
def SIG_IDENTITY_HASH_HASH (word : Nat) : Field := ⟨0x09000040 + 0x8 * word, 63, 0⟩
def SIG_OWNER_HASH_HASH (word : Nat) : Field := ⟨0x09000070 + 0x8 * word, 63, 0⟩
def SIG_OWNER_CMD_KEY : Field := ⟨0x090000A0, 31, 16⟩
def SIG_OWNER_CMD_START : Field := ⟨0x090000A0, 0, 0⟩
def SIG_OWNER_STATUS_DONE : Field := ⟨0x090000A4, 31, 31⟩
def SIG_OWNER_STATUS_BUSY : Field := ⟨0x090000A4, 30, 30⟩
def SIG_OWNER_STATUS_RESULT : Field := ⟨0x090000A4, 7, 0⟩
/-- Counter 0 of SIG_DEVICE_COUNTER. -/
def SIG_DEVICE_ROUNDS_C : Field := ⟨0x09000100, 47, 0⟩
/-- Counter 1 of SIG_DEVICE_COUNTER. -/
def SIG_DEVICE_CHECKPOINTS_C : Field := ⟨0x09000108, 47, 0⟩
/-- Counter 2 of SIG_DEVICE_COUNTER. -/
def SIG_DEVICE_COALESCED_C : Field := ⟨0x09000110, 47, 0⟩
/-- Counter 3 of SIG_DEVICE_COUNTER. -/
def SIG_DEVICE_PTP_AUTH_FAIL_C : Field := ⟨0x09000118, 47, 0⟩
/-- Counter 4 of SIG_DEVICE_COUNTER. -/
def SIG_DEVICE_PTP_REPLAY_C : Field := ⟨0x09000120, 47, 0⟩
/-- Counter 5 of SIG_DEVICE_COUNTER. -/
def SIG_DEVICE_RING_TAG_FAIL_C : Field := ⟨0x09000128, 47, 0⟩
def SIG_KEY_INFO_VALID (entry : Nat) : Field := ⟨0x09001000 + 0x8 * entry, 63, 63⟩
def SIG_KEY_INFO_FAULT (entry : Nat) : Field := ⟨0x09001000 + 0x8 * entry, 62, 62⟩
def SIG_KEY_INFO_TENANT (entry : Nat) : Field := ⟨0x09001000 + 0x8 * entry, 36, 32⟩
def SIG_KEY_INFO_USAGE (entry : Nat) : Field := ⟨0x09001000 + 0x8 * entry, 31, 24⟩
def SIG_KEY_INFO_KEY_INDEX (entry : Nat) : Field := ⟨0x09001000 + 0x8 * entry, 15, 0⟩
def SIG_STREAM_CFG_ENCRYPT (stream : Nat) : Field := ⟨0x09100000 + 0x20 * stream, 63, 63⟩
def SIG_STREAM_CFG_CP_FRAMES (stream : Nat) : Field := ⟨0x09100000 + 0x20 * stream, 62, 62⟩
def SIG_STREAM_CFG_GAP_CP (stream : Nat) : Field := ⟨0x09100000 + 0x20 * stream, 61, 61⟩
def SIG_STREAM_CFG_CP_INTERVAL (stream : Nat) : Field := ⟨0x09100000 + 0x20 * stream, 55, 32⟩
def SIG_STREAM_CFG_ENC_KEY (stream : Nat) : Field := ⟨0x09100000 + 0x20 * stream, 31, 16⟩
def SIG_STREAM_CFG_SEAL_KEY (stream : Nat) : Field := ⟨0x09100000 + 0x20 * stream, 15, 0⟩
def SIG_STREAM_STATUS_CHAIN_OPEN (stream : Nat) : Field := ⟨0x09100008 + 0x20 * stream, 31, 31⟩
def SIG_STREAM_STATUS_WRITE_LOST (stream : Nat) : Field := ⟨0x09100008 + 0x20 * stream, 30, 30⟩
def SIG_STREAM_STATUS_RESULT (stream : Nat) : Field := ⟨0x09100008 + 0x20 * stream, 7, 0⟩
def SIG_STREAM_COVERED_COVERED_SEQ (stream : Nat) : Field := ⟨0x09100010 + 0x20 * stream, 63, 0⟩
/-- Counter 0 of SIG_STREAM_COUNTER. -/
def SIG_STREAM_FRAMES_SEALED_C (stream : Nat) : Field := ⟨0x09180000 + 0x20 * stream, 47, 0⟩
/-- Counter 1 of SIG_STREAM_COUNTER. -/
def SIG_STREAM_CHECKPOINTS_C (stream : Nat) : Field := ⟨0x09180008 + 0x20 * stream, 47, 0⟩
/-- Counter 2 of SIG_STREAM_COUNTER. -/
def SIG_STREAM_UNSEALED_DROPPED_C (stream : Nat) : Field := ⟨0x09180010 + 0x20 * stream, 47, 0⟩
/-- Counter 3 of SIG_STREAM_COUNTER. -/
def SIG_STREAM_GAP_CHECKPOINTS_C (stream : Nat) : Field := ⟨0x09180018 + 0x20 * stream, 47, 0⟩
def TIM_CTRL_KEY : Field := ⟨0x00040000, 31, 16⟩
def TIM_CTRL_D3_OWNER : Field := ⟨0x00040000, 12, 8⟩
def TIM_CTRL_REVERT : Field := ⟨0x00040000, 2, 2⟩
def TIM_CTRL_FORCE_D1 : Field := ⟨0x00040000, 1, 1⟩
def TIM_CTRL_REACQUIRE : Field := ⟨0x00040000, 0, 0⟩
def TIM_STATUS_WRITE_LOST : Field := ⟨0x00040004, 31, 31⟩
def TIM_STATUS_STEPPED : Field := ⟨0x00040004, 30, 30⟩
def TIM_STATUS_SWITCHED : Field := ⟨0x00040004, 29, 29⟩
def TIM_STATUS_HOLDOVER_ENTERED : Field := ⟨0x00040004, 28, 28⟩
def TIM_STATUS_REF_LOST : Field := ⟨0x00040004, 27, 27⟩
def TIM_STATUS_OUTLIER_RUN : Field := ⟨0x00040004, 26, 26⟩
def TIM_STATUS_SECONDS_SET : Field := ⟨0x00040004, 22, 22⟩
def TIM_STATUS_WARM : Field := ⟨0x00040004, 21, 21⟩
def TIM_STATUS_D0_FROM_D1 : Field := ⟨0x00040004, 20, 20⟩
def TIM_STATUS_NO_REDUNDANCY : Field := ⟨0x00040004, 19, 19⟩
def TIM_STATUS_SERVO_STATE : Field := ⟨0x00040004, 15, 12⟩
def TIM_STATUS_TQ_D3 : Field := ⟨0x00040004, 7, 6⟩
def TIM_STATUS_TQ_D2 : Field := ⟨0x00040004, 5, 4⟩
def TIM_STATUS_TQ_D1 : Field := ⟨0x00040004, 3, 2⟩
def TIM_STATUS_TQ_D0 : Field := ⟨0x00040004, 1, 0⟩
def TIM_PTP_CFG_DOMAIN_NUMBER_D0 : Field := ⟨0x00040008, 31, 24⟩
def TIM_PTP_CFG_DOMAIN_NUMBER_D1 : Field := ⟨0x00040008, 23, 16⟩
def TIM_PTP_CFG_LOG_SYNC_INTERVAL : Field := ⟨0x00040008, 15, 8⟩
def TIM_PTP_CFG_LOG_ANNOUNCE_INTERVAL : Field := ⟨0x00040008, 7, 0⟩
def TIM_SERVO_CFG_TRACK_BW : Field := ⟨0x0004000C, 31, 24⟩
def TIM_SERVO_CFG_LOSS_INTERVALS : Field := ⟨0x0004000C, 23, 16⟩
def TIM_SERVO_CFG_SLEW_LIMIT_PPB : Field := ⟨0x0004000C, 15, 0⟩
def TIM_HOLDOVER_HOLDOVER_TQ2_S : Field := ⟨0x00040010, 31, 16⟩
def TIM_HOLDOVER_HOLDOVER_LIMIT_S : Field := ⟨0x00040010, 15, 0⟩
def TIM_OUTLIER_OUTLIER_PS : Field := ⟨0x00040014, 31, 0⟩
def TIM_PARENT_SOURCE_D0 : Field := ⟨0x00040018, 31, 24⟩
def TIM_PARENT_SOURCE_D1 : Field := ⟨0x00040018, 23, 16⟩
def TIM_PARENT_ALT_D1 : Field := ⟨0x00040018, 15, 8⟩
def TIM_OFFSET_OFFSET : Field := ⟨0x00040020, 63, 0⟩
def TIM_RATE_RATE : Field := ⟨0x00040028, 47, 0⟩
def TIM_DELTA_DELTA : Field := ⟨0x00040030, 63, 0⟩
/-- Counter 0 of TIM_COUNTER. -/
def TIM_STEPS_C : Field := ⟨0x00040040, 47, 0⟩
/-- Counter 1 of TIM_COUNTER. -/
def TIM_SWITCHES_C : Field := ⟨0x00040048, 47, 0⟩
/-- Counter 2 of TIM_COUNTER. -/
def TIM_HOLDOVERS_C : Field := ⟨0x00040050, 47, 0⟩
/-- Counter 3 of TIM_COUNTER. -/
def TIM_REF_LOSSES_C : Field := ⟨0x00040058, 47, 0⟩
/-- Counter 4 of TIM_COUNTER. -/
def TIM_PPS_REJECTED_C : Field := ⟨0x00040060, 47, 0⟩
/-- Counter 5 of TIM_COUNTER. -/
def TIM_MSG_DISCARDED_C : Field := ⟨0x00040068, 47, 0⟩
/-- Counter 6 of TIM_COUNTER. -/
def TIM_OUTLIERS_C : Field := ⟨0x00040070, 47, 0⟩
/-- Counter 7 of TIM_COUNTER. -/
def TIM_SEGMENTS_SATURATED_C : Field := ⟨0x00040078, 47, 0⟩
def TIM_TIME_SEC_SECONDS (domain : Nat) : Field := ⟨0x00040100 + 0x40 * domain, 47, 0⟩
def TIM_TIME_FRAC_NANOSECONDS (domain : Nat) : Field := ⟨0x00040108 + 0x40 * domain, 63, 32⟩
def TIM_TIME_FRAC_SUBNS (domain : Nat) : Field := ⟨0x00040108 + 0x40 * domain, 31, 16⟩
def TIM_TIME_TICKS_TICKS (domain : Nat) : Field := ⟨0x00040110 + 0x40 * domain, 63, 0⟩
def TIM_SET_SEC_SECONDS (domain : Nat) : Field := ⟨0x00040118 + 0x40 * domain, 47, 0⟩
def TIM_SET_FRAC_NANOSECONDS (domain : Nat) : Field := ⟨0x00040120 + 0x40 * domain, 63, 32⟩
def TIM_SET_FRAC_SUBNS (domain : Nat) : Field := ⟨0x00040120 + 0x40 * domain, 31, 16⟩
def TIM_SET_CTRL_KEY (domain : Nat) : Field := ⟨0x00040128 + 0x40 * domain, 31, 16⟩
def TIM_SET_CTRL_AT_SECOND (domain : Nat) : Field := ⟨0x00040128 + 0x40 * domain, 1, 1⟩
def TIM_SET_CTRL_COMMIT (domain : Nat) : Field := ⟨0x00040128 + 0x40 * domain, 0, 0⟩
def TIM_SET_STATUS_DONE (domain : Nat) : Field := ⟨0x0004012C + 0x40 * domain, 31, 31⟩
def TIM_SET_STATUS_PENDING (domain : Nat) : Field := ⟨0x0004012C + 0x40 * domain, 30, 30⟩
def TIM_SET_STATUS_RESULT (domain : Nat) : Field := ⟨0x0004012C + 0x40 * domain, 7, 0⟩
def TIM_DOMAIN_RATE_RATE (domain : Nat) : Field := ⟨0x00040130 + 0x40 * domain, 31, 0⟩
def TIM_SEGMENT_VALUE (domain : Nat) (word : Nat) : Field := ⟨0x00040200 + 0x20 * domain + 0x8 * word, 63, 0⟩
def TIM_REF_CFG_PPS_CABLE_DELAY : Field := ⟨0x00040300, 63, 32⟩
def TIM_REF_CFG_PPS_AVG_S : Field := ⟨0x00040300, 7, 0⟩
def TIM_REF_STATUS_REF10M_VALID : Field := ⟨0x00040308, 31, 31⟩
def TIM_REF_STATUS_PPS_VALID : Field := ⟨0x00040308, 30, 30⟩
def TIM_REF_PPS_LAST_TIME : Field := ⟨0x00040310, 63, 0⟩
def TIM_CAL_CFG_CABLE_DELAY_PS : Field := ⟨0x00040400, 63, 32⟩
def TIM_CAL_CFG_EDGE_STOP : Field := ⟨0x00040400, 27, 24⟩
def TIM_CAL_CFG_SAMPLES : Field := ⟨0x00040400, 23, 16⟩
def TIM_CAL_CFG_TARGET : Field := ⟨0x00040400, 15, 14⟩
def TIM_CAL_CFG_INDEX : Field := ⟨0x00040400, 9, 0⟩
def TIM_CAL_CTRL_KEY : Field := ⟨0x00040408, 31, 16⟩
def TIM_CAL_CTRL_APPLY : Field := ⟨0x00040408, 1, 1⟩
def TIM_CAL_CTRL_START : Field := ⟨0x00040408, 0, 0⟩
def TIM_CAL_STATUS_DONE : Field := ⟨0x0004040C, 31, 31⟩
def TIM_CAL_STATUS_BUSY : Field := ⟨0x0004040C, 30, 30⟩
def TIM_CAL_STATUS_RESULT : Field := ⟨0x0004040C, 7, 0⟩
def TIM_CAL_RESULT_THETA : Field := ⟨0x00040410, 63, 32⟩
def TIM_CAL_RESULT_SPREAD : Field := ⟨0x00040410, 31, 0⟩
def TIM_PULSE_TARGET_TARGET (k : Nat) : Field := ⟨0x00040500 + 0x20 * k, 63, 0⟩
def TIM_PULSE_SHAPE_PERIOD_NS (k : Nat) : Field := ⟨0x00040508 + 0x20 * k, 63, 32⟩
def TIM_PULSE_SHAPE_WIDTH_NS (k : Nat) : Field := ⟨0x00040508 + 0x20 * k, 31, 0⟩
def TIM_PULSE_CTRL_CANCEL (k : Nat) : Field := ⟨0x00040510 + 0x20 * k, 1, 1⟩
def TIM_PULSE_CTRL_ARM (k : Nat) : Field := ⟨0x00040510 + 0x20 * k, 0, 0⟩
def TIM_PULSE_STATUS_FIRED (k : Nat) : Field := ⟨0x00040514 + 0x20 * k, 31, 31⟩
def TIM_PULSE_STATUS_LATE (k : Nat) : Field := ⟨0x00040514 + 0x20 * k, 30, 30⟩
def TIM_PULSE_STATUS_ARMED (k : Nat) : Field := ⟨0x00040514 + 0x20 * k, 29, 29⟩
def TIM_PPS_CFG_TRIM : Field := ⟨0x00040600, 47, 32⟩
def TIM_PPS_CFG_WIDTH_US : Field := ⟨0x00040600, 19, 0⟩
def TIM_FOUT_CFG_ENABLE (k : Nat) : Field := ⟨0x00040700 + 0x20 * k, 63, 63⟩
def TIM_FOUT_CFG_SOURCE (k : Nat) : Field := ⟨0x00040700 + 0x20 * k, 62, 62⟩
def TIM_FOUT_CFG_ALIGN (k : Nat) : Field := ⟨0x00040700 + 0x20 * k, 61, 61⟩
def TIM_FOUT_CFG_FREQ (k : Nat) : Field := ⟨0x00040700 + 0x20 * k, 45, 0⟩
def TIM_FOUT_CTRL_COMMIT (k : Nat) : Field := ⟨0x00040708 + 0x20 * k, 0, 0⟩
def TIM_FOUT_STATUS_ACTIVE (k : Nat) : Field := ⟨0x0004070C + 0x20 * k, 31, 31⟩
def TIM_FOUT_STATUS_PENDING (k : Nat) : Field := ⟨0x0004070C + 0x20 * k, 30, 30⟩
def TIM_FOUT_STATUS_RESULT (k : Nat) : Field := ⟨0x0004070C + 0x20 * k, 7, 0⟩
def TIM_PORT_CFG_CALIBRATED (r : Nat) : Field := ⟨0x00041000 + 0x100 * r, 31, 31⟩
def TIM_PORT_CFG_ENV_CHANNEL (r : Nat) : Field := ⟨0x00041000 + 0x100 * r, 23, 16⟩
def TIM_PORT_CFG_T_CAL (r : Nat) : Field := ⟨0x00041000 + 0x100 * r, 15, 0⟩
def TIM_PORT_ASYM_ASYM_BASE (r : Nat) : Field := ⟨0x00041008 + 0x100 * r, 63, 32⟩
def TIM_PORT_ASYM_ASYM_TEMPCO (r : Nat) : Field := ⟨0x00041008 + 0x100 * r, 31, 0⟩
def TIM_PORT_STATUS_STATE_D0 (r : Nat) : Field := ⟨0x00041010 + 0x100 * r, 31, 28⟩
def TIM_PORT_STATUS_STATE_D1 (r : Nat) : Field := ⟨0x00041010 + 0x100 * r, 27, 24⟩
def TIM_PORT_STATUS_SYNCE_LOCK (r : Nat) : Field := ⟨0x00041010 + 0x100 * r, 23, 23⟩
def TIM_PORT_STATUS_TEMP_STALE (r : Nat) : Field := ⟨0x00041010 + 0x100 * r, 22, 22⟩
def TIM_PORT_STATUS_WRITE_LOST (r : Nat) : Field := ⟨0x00041010 + 0x100 * r, 21, 21⟩
def TIM_PORT_STATUS_PEER_TQ_D0 (r : Nat) : Field := ⟨0x00041010 + 0x100 * r, 15, 14⟩
def TIM_PORT_STATUS_PEER_TQ_D1 (r : Nat) : Field := ⟨0x00041010 + 0x100 * r, 13, 12⟩
def TIM_PORT_STATUS_PEER_QL (r : Nat) : Field := ⟨0x00041010 + 0x100 * r, 3, 0⟩
def TIM_PORT_DELAY_MEAN (r : Nat) : Field := ⟨0x00041018 + 0x100 * r, 63, 0⟩
def TIM_PORT_APPLIED_ASYM (r : Nat) : Field := ⟨0x00041020 + 0x100 * r, 63, 0⟩
/-- Counter 0 of TIM_PORT_COUNTER. -/
def TIM_PORT_SYNC_TX_C (r : Nat) : Field := ⟨0x00041040 + 0x100 * r, 47, 0⟩
/-- Counter 1 of TIM_PORT_COUNTER. -/
def TIM_PORT_SYNC_RX_C (r : Nat) : Field := ⟨0x00041048 + 0x100 * r, 47, 0⟩
/-- Counter 2 of TIM_PORT_COUNTER. -/
def TIM_PORT_DELAY_REQ_TX_C (r : Nat) : Field := ⟨0x00041050 + 0x100 * r, 47, 0⟩
/-- Counter 3 of TIM_PORT_COUNTER. -/
def TIM_PORT_DELAY_RESP_RX_C (r : Nat) : Field := ⟨0x00041058 + 0x100 * r, 47, 0⟩
/-- Counter 4 of TIM_PORT_COUNTER. -/
def TIM_PORT_DELAY_REQ_RX_C (r : Nat) : Field := ⟨0x00041060 + 0x100 * r, 47, 0⟩
/-- Counter 5 of TIM_PORT_COUNTER. -/
def TIM_PORT_ANNOUNCE_RX_C (r : Nat) : Field := ⟨0x00041068 + 0x100 * r, 47, 0⟩
/-- Counter 6 of TIM_PORT_COUNTER. -/
def TIM_PORT_DISCARDED_C (r : Nat) : Field := ⟨0x00041070 + 0x100 * r, 47, 0⟩
/-- Counter 7 of TIM_PORT_COUNTER. -/
def TIM_PORT_UNSUPPORTED_C (r : Nat) : Field := ⟨0x00041078 + 0x100 * r, 47, 0⟩
/-- Counter 8 of TIM_PORT_COUNTER. -/
def TIM_PORT_ESMC_RX_C (r : Nat) : Field := ⟨0x00041080 + 0x100 * r, 47, 0⟩
def TIM_LANE_ASYM_ASYM_BASE (lane : Nat) : Field := ⟨0x00048000 + 0x10 * lane, 63, 32⟩
def TIM_LANE_ASYM_ASYM_TEMPCO (lane : Nat) : Field := ⟨0x00048000 + 0x10 * lane, 31, 0⟩
def TIM_LANE_CFG_CALIBRATED (lane : Nat) : Field := ⟨0x00048008 + 0x10 * lane, 31, 31⟩
def TIM_LANE_CFG_ENV_CHANNEL (lane : Nat) : Field := ⟨0x00048008 + 0x10 * lane, 23, 16⟩
def TIM_LANE_CFG_T_CAL (lane : Nat) : Field := ⟨0x00048008 + 0x10 * lane, 15, 0⟩
def TIM_LANE_APPLIED_ASYM (lane : Nat) : Field := ⟨0x0004800C + 0x10 * lane, 31, 0⟩
def EDG_CFG_IO (port : Nat) : Field := ⟨0x00080000 + 0x100 * port, 31, 30⟩
def EDG_CFG_INVERT (port : Nat) : Field := ⟨0x00080000 + 0x100 * port, 29, 29⟩
def EDG_CFG_CONTINUOUS (port : Nat) : Field := ⟨0x00080000 + 0x100 * port, 28, 28⟩
def EDG_CFG_EVENT_EN (port : Nat) : Field := ⟨0x00080000 + 0x100 * port, 27, 27⟩
def EDG_CFG_START_SEL (port : Nat) : Field := ⟨0x00080000 + 0x100 * port, 23, 16⟩
def EDG_CFG_STOP_SEL (port : Nat) : Field := ⟨0x00080000 + 0x100 * port, 15, 8⟩
def EDG_CTRL_OUT_ARM (port : Nat) : Field := ⟨0x00080004 + 0x100 * port, 2, 2⟩
def EDG_CTRL_DISARM (port : Nat) : Field := ⟨0x00080004 + 0x100 * port, 1, 1⟩
def EDG_CTRL_ARM (port : Nat) : Field := ⟨0x00080004 + 0x100 * port, 0, 0⟩
def EDG_STATUS_WRITE_LOST (port : Nat) : Field := ⟨0x00080008 + 0x100 * port, 31, 31⟩
def EDG_STATUS_CFG_REFUSED (port : Nat) : Field := ⟨0x00080008 + 0x100 * port, 30, 30⟩
def EDG_STATUS_OVERFLOW (port : Nat) : Field := ⟨0x00080008 + 0x100 * port, 29, 29⟩
def EDG_STATUS_RESULT_NEW (port : Nat) : Field := ⟨0x00080008 + 0x100 * port, 28, 28⟩
def EDG_STATUS_OUT_LATE (port : Nat) : Field := ⟨0x00080008 + 0x100 * port, 27, 27⟩
def EDG_STATUS_ARMED (port : Nat) : Field := ⟨0x00080008 + 0x100 * port, 26, 26⟩
def EDG_STATUS_STARTED (port : Nat) : Field := ⟨0x00080008 + 0x100 * port, 25, 25⟩
def EDG_STATUS_OUT_ARMED (port : Nat) : Field := ⟨0x00080008 + 0x100 * port, 24, 24⟩
def EDG_STATUS_CAL_BUSY (port : Nat) : Field := ⟨0x00080008 + 0x100 * port, 23, 23⟩
def EDG_OUT_TIME_TIME (port : Nat) : Field := ⟨0x00080010 + 0x100 * port, 63, 0⟩
def EDG_OUT_SHAPE_PERIOD_NS (port : Nat) : Field := ⟨0x00080018 + 0x100 * port, 63, 32⟩
def EDG_OUT_SHAPE_WIDTH_NS (port : Nat) : Field := ⟨0x00080018 + 0x100 * port, 31, 0⟩
def EDG_START_STAMP (port : Nat) : Field := ⟨0x00080020 + 0x100 * port, 63, 0⟩
def EDG_INTERVAL_INTERVAL (port : Nat) : Field := ⟨0x00080028 + 0x100 * port, 63, 0⟩
/-- Counter 0 of EDG_COUNTER. -/
def EDG_RESULTS_C (port : Nat) : Field := ⟨0x00080040 + 0x100 * port, 47, 0⟩
/-- Counter 1 of EDG_COUNTER. -/
def EDG_MISSED_C (port : Nat) : Field := ⟨0x00080048 + 0x100 * port, 47, 0⟩
/-- Counter 2 of EDG_COUNTER. -/
def EDG_OVERFLOWS_C (port : Nat) : Field := ⟨0x00080050 + 0x100 * port, 47, 0⟩
/-- Counter 3 of EDG_COUNTER. -/
def EDG_EVENTS_RAISED_C (port : Nat) : Field := ⟨0x00080058 + 0x100 * port, 47, 0⟩
def ENV_CFG_ENABLE (channel : Nat) : Field := ⟨0x00082000 + 0x100 * channel, 31, 31⟩
def ENV_CFG_KIND (channel : Nat) : Field := ⟨0x00082000 + 0x100 * channel, 30, 28⟩
def ENV_CFG_EXC (channel : Nat) : Field := ⟨0x00082000 + 0x100 * channel, 27, 26⟩
def ENV_CFG_T_INT (channel : Nat) : Field := ⟨0x00082000 + 0x100 * channel, 25, 23⟩
def ENV_CFG_SENSOR (channel : Nat) : Field := ⟨0x00082000 + 0x100 * channel, 22, 21⟩
def ENV_CFG_CFG_REFUSED (channel : Nat) : Field := ⟨0x00082000 + 0x100 * channel, 20, 20⟩
def ENV_CFG_SETTLE_US (channel : Nat) : Field := ⟨0x00082000 + 0x100 * channel, 15, 0⟩
def ENV_COEF_COEF_A (channel : Nat) : Field := ⟨0x00082008 + 0x100 * channel, 63, 32⟩
def ENV_COEF_COEF_B (channel : Nat) : Field := ⟨0x00082008 + 0x100 * channel, 31, 0⟩
def ENV_READING_RAW (channel : Nat) : Field := ⟨0x00082010 + 0x100 * channel, 63, 32⟩
def ENV_READING_VALUE (channel : Nat) : Field := ⟨0x00082010 + 0x100 * channel, 31, 16⟩
def ENV_READING_EFLAGS (channel : Nat) : Field := ⟨0x00082010 + 0x100 * channel, 15, 8⟩
def ENV_READING_TIME_TIME (channel : Nat) : Field := ⟨0x00082018 + 0x100 * channel, 63, 0⟩
/-- Counter 0 of ENV_COUNTER. -/
def ENV_READINGS_C (channel : Nat) : Field := ⟨0x00082040 + 0x100 * channel, 47, 0⟩
/-- Counter 1 of ENV_COUNTER. -/
def ENV_NOISE_READINGS_C (channel : Nat) : Field := ⟨0x00082048 + 0x100 * channel, 47, 0⟩
/-- Counter 2 of ENV_COUNTER. -/
def ENV_FAULTS_C (channel : Nat) : Field := ⟨0x00082050 + 0x100 * channel, 47, 0⟩
def ENV_SCAN_WRITE_LOST : Field := ⟨0x00083000, 31, 31⟩
def ENV_SCAN_SCAN_OVERRUN : Field := ⟨0x00083000, 30, 30⟩
def ENV_SCAN_SCAN_S : Field := ⟨0x00083000, 11, 0⟩
def ILK_CFG_RETRY_LIMIT (output : Nat) : Field := ⟨0x00084000 + 0x40 * output, 31, 28⟩
def ILK_CFG_SOURCE (output : Nat) : Field := ⟨0x00084000 + 0x40 * output, 27, 26⟩
def ILK_CFG_STATE (output : Nat) : Field := ⟨0x00084000 + 0x40 * output, 1, 0⟩
def ILK_CTRL_CLEAR (output : Nat) : Field := ⟨0x00084004 + 0x40 * output, 0, 0⟩
def ILK_FAULT_WRITE_LOST (output : Nat) : Field := ⟨0x00084008 + 0x40 * output, 31, 31⟩
def ILK_FAULT_LATCHED (output : Nat) : Field := ⟨0x00084008 + 0x40 * output, 30, 30⟩
def ILK_FAULT_TRIPPED (output : Nat) : Field := ⟨0x00084008 + 0x40 * output, 29, 29⟩
def ILK_FAULT_VFLD_OFF (output : Nat) : Field := ⟨0x00084008 + 0x40 * output, 28, 28⟩
def ILK_FAULT_RETRIES (output : Nat) : Field := ⟨0x00084008 + 0x40 * output, 27, 24⟩
def ILK_FAULT_PIN_HIGH (output : Nat) : Field := ⟨0x00084008 + 0x40 * output, 4, 4⟩
def ILK_FAULT_TYPE (output : Nat) : Field := ⟨0x00084008 + 0x40 * output, 3, 0⟩
/-- Counter 0 of ILK_COUNTER. -/
def ILK_TRIPS_C (output : Nat) : Field := ⟨0x00084010 + 0x40 * output, 47, 0⟩
/-- Counter 1 of ILK_COUNTER. -/
def ILK_RETRIES_C (output : Nat) : Field := ⟨0x00084018 + 0x40 * output, 47, 0⟩
/-- Counter 2 of ILK_COUNTER. -/
def ILK_THERMAL_C (output : Nat) : Field := ⟨0x00084020 + 0x40 * output, 47, 0⟩
def UTL_CFG_FUNCTION (pin : Nat) : Field := ⟨0x00085000 + 0x20 * pin, 31, 28⟩
def UTL_CFG_OPEN_DRAIN (pin : Nat) : Field := ⟨0x00085000 + 0x20 * pin, 27, 27⟩
def UTL_CFG_INVERT (pin : Nat) : Field := ⟨0x00085000 + 0x20 * pin, 26, 26⟩
def UTL_CFG_RETRY_LIMIT (pin : Nat) : Field := ⟨0x00085000 + 0x20 * pin, 25, 22⟩
def UTL_PARAM_PARAM (pin : Nat) : Field := ⟨0x00085004 + 0x20 * pin, 31, 0⟩
def UTL_CTRL_CLEAR (pin : Nat) : Field := ⟨0x00085008 + 0x20 * pin, 1, 1⟩
def UTL_CTRL_OUT (pin : Nat) : Field := ⟨0x00085008 + 0x20 * pin, 0, 0⟩
def UTL_STATUS_WRITE_LOST (pin : Nat) : Field := ⟨0x0008500C + 0x20 * pin, 31, 31⟩
def UTL_STATUS_FUNC_REFUSED (pin : Nat) : Field := ⟨0x0008500C + 0x20 * pin, 30, 30⟩
def UTL_STATUS_LATCHED (pin : Nat) : Field := ⟨0x0008500C + 0x20 * pin, 29, 29⟩
def UTL_STATUS_TRIPPED (pin : Nat) : Field := ⟨0x0008500C + 0x20 * pin, 28, 28⟩
def UTL_STATUS_GUARD (pin : Nat) : Field := ⟨0x0008500C + 0x20 * pin, 27, 27⟩
def UTL_STATUS_LEVEL (pin : Nat) : Field := ⟨0x0008500C + 0x20 * pin, 26, 26⟩
def UTL_STATUS_RETRIES (pin : Nat) : Field := ⟨0x0008500C + 0x20 * pin, 25, 22⟩
def UTL_STATUS_TYPE (pin : Nat) : Field := ⟨0x0008500C + 0x20 * pin, 21, 18⟩
/-- Counter 0 of UTL_COUNTER. -/
def UTL_TRIPS_C (pin : Nat) : Field := ⟨0x00085010 + 0x20 * pin, 47, 0⟩
/-- Counter 1 of UTL_COUNTER. -/
def UTL_DISCARDED_C (pin : Nat) : Field := ⟨0x00085018 + 0x20 * pin, 47, 0⟩
def FBUS_CFG_ENABLE (channel : Nat) : Field := ⟨0x000C0000 + 0x10000 * channel, 31, 31⟩
def FBUS_CFG_MODE (channel : Nat) : Field := ⟨0x000C0000 + 0x10000 * channel, 30, 29⟩
def FBUS_CFG_FD_EN (channel : Nat) : Field := ⟨0x000C0000 + 0x10000 * channel, 28, 28⟩
def FBUS_CFG_SIC_EN (channel : Nat) : Field := ⟨0x000C0000 + 0x10000 * channel, 27, 27⟩
def FBUS_CFG_AUTO_RECOVER (channel : Nat) : Field := ⟨0x000C0000 + 0x10000 * channel, 26, 26⟩
def FBUS_CFG_TX_ECHO (channel : Nat) : Field := ⟨0x000C0000 + 0x10000 * channel, 25, 25⟩
def FBUS_CFG_TUNNEL_TX_EN (channel : Nat) : Field := ⟨0x000C0000 + 0x10000 * channel, 24, 24⟩
def FBUS_CFG_RETRY_LIMIT (channel : Nat) : Field := ⟨0x000C0000 + 0x10000 * channel, 23, 20⟩
def FBUS_NBT_NBRP (channel : Nat) : Field := ⟨0x000C0004 + 0x10000 * channel, 31, 24⟩
def FBUS_NBT_NTSEG1 (channel : Nat) : Field := ⟨0x000C0004 + 0x10000 * channel, 23, 16⟩
def FBUS_NBT_NTSEG2 (channel : Nat) : Field := ⟨0x000C0004 + 0x10000 * channel, 14, 8⟩
def FBUS_NBT_NSJW (channel : Nat) : Field := ⟨0x000C0004 + 0x10000 * channel, 6, 0⟩
def FBUS_DBT_TDC_EN (channel : Nat) : Field := ⟨0x000C0008 + 0x10000 * channel, 31, 31⟩
def FBUS_DBT_TDCO (channel : Nat) : Field := ⟨0x000C0008 + 0x10000 * channel, 30, 24⟩
def FBUS_DBT_DBRP (channel : Nat) : Field := ⟨0x000C0008 + 0x10000 * channel, 20, 16⟩
def FBUS_DBT_DTSEG1 (channel : Nat) : Field := ⟨0x000C0008 + 0x10000 * channel, 12, 8⟩
def FBUS_DBT_DTSEG2 (channel : Nat) : Field := ⟨0x000C0008 + 0x10000 * channel, 7, 4⟩
def FBUS_DBT_DSJW (channel : Nat) : Field := ⟨0x000C0008 + 0x10000 * channel, 3, 0⟩
def FBUS_STATUS_WRITE_LOST (channel : Nat) : Field := ⟨0x000C000C + 0x10000 * channel, 31, 31⟩
def FBUS_STATUS_STATE_CHANGE (channel : Nat) : Field := ⟨0x000C000C + 0x10000 * channel, 30, 30⟩
def FBUS_STATUS_PROTOCOL_EXCEPTION (channel : Nat) : Field := ⟨0x000C000C + 0x10000 * channel, 29, 29⟩
def FBUS_STATUS_STATE (channel : Nat) : Field := ⟨0x000C000C + 0x10000 * channel, 26, 24⟩
def FBUS_STATUS_TEC (channel : Nat) : Field := ⟨0x000C000C + 0x10000 * channel, 16, 8⟩
def FBUS_STATUS_REC (channel : Nat) : Field := ⟨0x000C000C + 0x10000 * channel, 7, 0⟩
def FBUS_CTRL_ABD_ADOPT (channel : Nat) : Field := ⟨0x000C0010 + 0x10000 * channel, 2, 2⟩
def FBUS_CTRL_ABD_START (channel : Nat) : Field := ⟨0x000C0010 + 0x10000 * channel, 1, 1⟩
def FBUS_CTRL_RECOVER (channel : Nat) : Field := ⟨0x000C0010 + 0x10000 * channel, 0, 0⟩
def FBUS_ABD_DONE (channel : Nat) : Field := ⟨0x000C0014 + 0x10000 * channel, 31, 31⟩
def FBUS_ABD_BUSY (channel : Nat) : Field := ⟨0x000C0014 + 0x10000 * channel, 30, 30⟩
def FBUS_ABD_RESULT (channel : Nat) : Field := ⟨0x000C0014 + 0x10000 * channel, 23, 16⟩
def FBUS_ABD_DATA_RATE (channel : Nat) : Field := ⟨0x000C0014 + 0x10000 * channel, 15, 8⟩
def FBUS_ABD_NOMINAL_RATE (channel : Nat) : Field := ⟨0x000C0014 + 0x10000 * channel, 7, 0⟩
def FBUS_TUNNEL_TENANTS (channel : Nat) : Field := ⟨0x000C0018 + 0x10000 * channel, 31, 0⟩
def FBUS_TUNNEL_STATUS_TXQ_DEPTH (channel : Nat) : Field := ⟨0x000C001C + 0x10000 * channel, 5, 0⟩
/-- Counter 0 of FBUS_COUNTER. -/
def FBUS_RX_FRAMES_C (channel : Nat) : Field := ⟨0x000C0100 + 0x10000 * channel, 47, 0⟩
/-- Counter 1 of FBUS_COUNTER. -/
def FBUS_TX_FRAMES_C (channel : Nat) : Field := ⟨0x000C0108 + 0x10000 * channel, 47, 0⟩
/-- Counter 2 of FBUS_COUNTER. -/
def FBUS_RX_UNMATCHED_C (channel : Nat) : Field := ⟨0x000C0110 + 0x10000 * channel, 47, 0⟩
/-- Counter 3 of FBUS_COUNTER. -/
def FBUS_MSG_LOST_C (channel : Nat) : Field := ⟨0x000C0118 + 0x10000 * channel, 47, 0⟩
/-- Counter 4 of FBUS_COUNTER. -/
def FBUS_BIT_ERRORS_C (channel : Nat) : Field := ⟨0x000C0120 + 0x10000 * channel, 47, 0⟩
/-- Counter 5 of FBUS_COUNTER. -/
def FBUS_STUFF_ERRORS_C (channel : Nat) : Field := ⟨0x000C0128 + 0x10000 * channel, 47, 0⟩
/-- Counter 6 of FBUS_COUNTER. -/
def FBUS_FORM_ERRORS_C (channel : Nat) : Field := ⟨0x000C0130 + 0x10000 * channel, 47, 0⟩
/-- Counter 7 of FBUS_COUNTER. -/
def FBUS_CRC_ERRORS_C (channel : Nat) : Field := ⟨0x000C0138 + 0x10000 * channel, 47, 0⟩
/-- Counter 8 of FBUS_COUNTER. -/
def FBUS_ACK_ERRORS_C (channel : Nat) : Field := ⟨0x000C0140 + 0x10000 * channel, 47, 0⟩
/-- Counter 9 of FBUS_COUNTER. -/
def FBUS_ARB_LOST_C (channel : Nat) : Field := ⟨0x000C0148 + 0x10000 * channel, 47, 0⟩
/-- Counter 10 of FBUS_COUNTER. -/
def FBUS_RETRIES_C (channel : Nat) : Field := ⟨0x000C0150 + 0x10000 * channel, 47, 0⟩
/-- Counter 11 of FBUS_COUNTER. -/
def FBUS_RETRY_EXHAUSTED_C (channel : Nat) : Field := ⟨0x000C0158 + 0x10000 * channel, 47, 0⟩
/-- Counter 12 of FBUS_COUNTER. -/
def FBUS_BUS_OFF_C (channel : Nat) : Field := ⟨0x000C0160 + 0x10000 * channel, 47, 0⟩
/-- Counter 13 of FBUS_COUNTER. -/
def FBUS_ERROR_PASSIVE_C (channel : Nat) : Field := ⟨0x000C0168 + 0x10000 * channel, 47, 0⟩
/-- Counter 14 of FBUS_COUNTER. -/
def FBUS_PROTOCOL_EXCEPTIONS_C (channel : Nat) : Field := ⟨0x000C0170 + 0x10000 * channel, 47, 0⟩
/-- Counter 15 of FBUS_COUNTER. -/
def FBUS_TUNNEL_RX_DROPPED_C (channel : Nat) : Field := ⟨0x000C0178 + 0x10000 * channel, 47, 0⟩
/-- Counter 16 of FBUS_COUNTER. -/
def FBUS_TUNNEL_TX_C (channel : Nat) : Field := ⟨0x000C0180 + 0x10000 * channel, 47, 0⟩
def FBUS_OBJ_CFG_ENABLE (channel : Nat) (object : Nat) : Field := ⟨0x000C8000 + 0x10000 * channel + 0x80 * object, 31, 31⟩
def FBUS_OBJ_CFG_DIR (channel : Nat) (object : Nat) : Field := ⟨0x000C8000 + 0x10000 * channel + 0x80 * object, 30, 30⟩
def FBUS_OBJ_CFG_IDE (channel : Nat) (object : Nat) : Field := ⟨0x000C8000 + 0x10000 * channel + 0x80 * object, 29, 29⟩
def FBUS_OBJ_CFG_ID (channel : Nat) (object : Nat) : Field := ⟨0x000C8000 + 0x10000 * channel + 0x80 * object, 28, 0⟩
def FBUS_OBJ_MASK_IDE_MATCH (channel : Nat) (object : Nat) : Field := ⟨0x000C8004 + 0x10000 * channel + 0x80 * object, 31, 31⟩
def FBUS_OBJ_MASK_MASK (channel : Nat) (object : Nat) : Field := ⟨0x000C8004 + 0x10000 * channel + 0x80 * object, 28, 0⟩
def FBUS_OBJ_TX_FDF (channel : Nat) (object : Nat) : Field := ⟨0x000C8008 + 0x10000 * channel + 0x80 * object, 7, 7⟩
def FBUS_OBJ_TX_BRS (channel : Nat) (object : Nat) : Field := ⟨0x000C8008 + 0x10000 * channel + 0x80 * object, 6, 6⟩
def FBUS_OBJ_TX_DLC (channel : Nat) (object : Nat) : Field := ⟨0x000C8008 + 0x10000 * channel + 0x80 * object, 3, 0⟩
def FBUS_OBJ_CTRL_ABORT (channel : Nat) (object : Nat) : Field := ⟨0x000C800C + 0x10000 * channel + 0x80 * object, 1, 1⟩
def FBUS_OBJ_CTRL_REQUEST (channel : Nat) (object : Nat) : Field := ⟨0x000C800C + 0x10000 * channel + 0x80 * object, 0, 0⟩
def FBUS_OBJ_STATUS_NEW_DATA (channel : Nat) (object : Nat) : Field := ⟨0x000C8010 + 0x10000 * channel + 0x80 * object, 31, 31⟩
def FBUS_OBJ_STATUS_MSG_LOST (channel : Nat) (object : Nat) : Field := ⟨0x000C8010 + 0x10000 * channel + 0x80 * object, 30, 30⟩
def FBUS_OBJ_STATUS_DONE (channel : Nat) (object : Nat) : Field := ⟨0x000C8010 + 0x10000 * channel + 0x80 * object, 29, 29⟩
def FBUS_OBJ_STATUS_WRITE_LOST (channel : Nat) (object : Nat) : Field := ⟨0x000C8010 + 0x10000 * channel + 0x80 * object, 28, 28⟩
def FBUS_OBJ_STATUS_PENDING (channel : Nat) (object : Nat) : Field := ⟨0x000C8010 + 0x10000 * channel + 0x80 * object, 27, 27⟩
def FBUS_OBJ_STATUS_TRANSMITTING (channel : Nat) (object : Nat) : Field := ⟨0x000C8010 + 0x10000 * channel + 0x80 * object, 26, 26⟩
def FBUS_OBJ_STATUS_ESI (channel : Nat) (object : Nat) : Field := ⟨0x000C8010 + 0x10000 * channel + 0x80 * object, 25, 25⟩
def FBUS_OBJ_STATUS_RTR (channel : Nat) (object : Nat) : Field := ⟨0x000C8010 + 0x10000 * channel + 0x80 * object, 24, 24⟩
def FBUS_OBJ_STATUS_RESULT (channel : Nat) (object : Nat) : Field := ⟨0x000C8010 + 0x10000 * channel + 0x80 * object, 23, 16⟩
def FBUS_OBJ_STATUS_ATTEMPTS (channel : Nat) (object : Nat) : Field := ⟨0x000C8010 + 0x10000 * channel + 0x80 * object, 15, 8⟩
def FBUS_OBJ_STATUS_LENGTH (channel : Nat) (object : Nat) : Field := ⟨0x000C8010 + 0x10000 * channel + 0x80 * object, 6, 0⟩
def FBUS_OBJ_RX_ID_IDE (channel : Nat) (object : Nat) : Field := ⟨0x000C8014 + 0x10000 * channel + 0x80 * object, 31, 31⟩
def FBUS_OBJ_RX_ID_FDF (channel : Nat) (object : Nat) : Field := ⟨0x000C8014 + 0x10000 * channel + 0x80 * object, 30, 30⟩
def FBUS_OBJ_RX_ID_BRS (channel : Nat) (object : Nat) : Field := ⟨0x000C8014 + 0x10000 * channel + 0x80 * object, 29, 29⟩
def FBUS_OBJ_RX_ID_ID (channel : Nat) (object : Nat) : Field := ⟨0x000C8014 + 0x10000 * channel + 0x80 * object, 28, 0⟩
def FBUS_OBJ_TIME_TIME (channel : Nat) (object : Nat) : Field := ⟨0x000C8018 + 0x10000 * channel + 0x80 * object, 63, 0⟩
def FBUS_OBJ_DATA_BYTES (channel : Nat) (object : Nat) (word : Nat) : Field := ⟨0x000C8040 + 0x10000 * channel + 0x80 * object + 0x8 * word, 63, 0⟩
def CLP_STATUS_WRITE_LOST : Field := ⟨0x00100000, 31, 31⟩
def CLP_STATUS_LOCKS_HELD : Field := ⟨0x00100000, 17, 16⟩
def CLP_STATUS_TOKENS : Field := ⟨0x00100000, 8, 0⟩
def CLP_CFG_FAR_TIMEOUT_US : Field := ⟨0x00100004, 15, 0⟩
/-- Counter 0 of CLP_DEVICE_COUNTER. -/
def CLP_DEVICE_TRANSACTIONS_C : Field := ⟨0x00100100, 47, 0⟩
/-- Counter 1 of CLP_DEVICE_COUNTER. -/
def CLP_DEVICE_AUTH_FAIL_C : Field := ⟨0x00100108, 47, 0⟩
/-- Counter 2 of CLP_DEVICE_COUNTER. -/
def CLP_DEVICE_REPLAY_C : Field := ⟨0x00100110, 47, 0⟩
/-- Counter 3 of CLP_DEVICE_COUNTER. -/
def CLP_DEVICE_RETRIES_ISSUED_C : Field := ⟨0x00100118, 47, 0⟩
/-- Counter 4 of CLP_DEVICE_COUNTER. -/
def CLP_DEVICE_FAR_ERRORS_C : Field := ⟨0x00100120, 47, 0⟩
/-- Counter 5 of CLP_DEVICE_COUNTER. -/
def CLP_DEVICE_LOCK_EXPIRED_C : Field := ⟨0x00100128, 47, 0⟩
/-- Counter 6 of CLP_DEVICE_COUNTER. -/
def CLP_DEVICE_BACKOFFS_C : Field := ⟨0x00100130, 47, 0⟩
/-- Counter 7 of CLP_DEVICE_COUNTER. -/
def CLP_DEVICE_RELAYED_C : Field := ⟨0x00100138, 47, 0⟩
/-- Counter 8 of CLP_DEVICE_COUNTER. -/
def CLP_DEVICE_ROUTE_MISS_C : Field := ⟨0x00100140, 47, 0⟩
/-- Counter 9 of CLP_DEVICE_COUNTER. -/
def CLP_DEVICE_TOKEN_UNKNOWN_C : Field := ⟨0x00100148, 47, 0⟩
/-- Counter 10 of CLP_DEVICE_COUNTER. -/
def CLP_DEVICE_TUNNEL_RX_SENT_C : Field := ⟨0x00100150, 47, 0⟩
def CLP_TENANT_CFG_ERR_MODE (tenant : Nat) : Field := ⟨0x00101000 + 0x40 * tenant, 0, 0⟩
def CLP_TENANT_ERR_ADDRESS (tenant : Nat) : Field := ⟨0x00101008 + 0x40 * tenant, 63, 32⟩
def CLP_TENANT_ERR_TARGET_DEVICE (tenant : Nat) : Field := ⟨0x00101008 + 0x40 * tenant, 29, 16⟩
def CLP_TENANT_ERR_STATUS (tenant : Nat) : Field := ⟨0x00101008 + 0x40 * tenant, 7, 0⟩
/-- Counter 0 of CLP_TENANT_COUNTER. -/
def CLP_TENANT_TRANSACTIONS_C (tenant : Nat) : Field := ⟨0x00101010 + 0x40 * tenant, 47, 0⟩
/-- Counter 1 of CLP_TENANT_COUNTER. -/
def CLP_TENANT_DENIED_C (tenant : Nat) : Field := ⟨0x00101018 + 0x40 * tenant, 47, 0⟩
/-- Counter 2 of CLP_TENANT_COUNTER. -/
def CLP_TENANT_POSTED_ERRORS_C (tenant : Nat) : Field := ⟨0x00101020 + 0x40 * tenant, 47, 0⟩
/-- Counter 3 of CLP_TENANT_COUNTER. -/
def CLP_TENANT_TUNNEL_RX_DROPPED_C (tenant : Nat) : Field := ⟨0x00101028 + 0x40 * tenant, 47, 0⟩
def CLP_ROUTE_ENTRIES (k : Nat) : Field := ⟨0x00104000 + 0x8 * k, 63, 0⟩
def CLP_WATCH_CFG_ENABLE (watch : Nat) : Field := ⟨0x00108000 + 0x20 * watch, 63, 63⟩
def CLP_WATCH_CFG_WIDTH64 (watch : Nat) : Field := ⟨0x00108000 + 0x20 * watch, 62, 62⟩
def CLP_WATCH_CFG_WATCH_FAULT (watch : Nat) : Field := ⟨0x00108000 + 0x20 * watch, 61, 61⟩
def CLP_WATCH_CFG_TENANT (watch : Nat) : Field := ⟨0x00108000 + 0x20 * watch, 60, 56⟩
def CLP_WATCH_CFG_TARGET_DEVICE (watch : Nat) : Field := ⟨0x00108000 + 0x20 * watch, 49, 36⟩
def CLP_WATCH_CFG_PERIOD_US (watch : Nat) : Field := ⟨0x00108000 + 0x20 * watch, 19, 0⟩
def CLP_WATCH_ADDRESS_ADDRESS (watch : Nat) : Field := ⟨0x00108008 + 0x20 * watch, 31, 0⟩
def CLP_WATCH_MASK_MASK (watch : Nat) : Field := ⟨0x00108010 + 0x20 * watch, 63, 0⟩
def CLP_WATCH_LAST_VALUE (watch : Nat) : Field := ⟨0x00108018 + 0x20 * watch, 63, 0⟩
def SVC_CFG_ENABLE : Field := ⟨0x00110000, 31, 31⟩
def SVC_CFG_PLCA_EN : Field := ⟨0x00110000, 30, 30⟩
def SVC_PLCA_NODE_ID : Field := ⟨0x00110004, 31, 24⟩
def SVC_PLCA_NODE_COUNT : Field := ⟨0x00110004, 23, 16⟩
def SVC_PLCA_TO_TIMER : Field := ⟨0x00110004, 15, 8⟩
def SVC_PLCA_BURST_COUNT : Field := ⟨0x00110004, 7, 4⟩
def SVC_PLCA_BURST_TIMER : Field := ⟨0x00110004, 3, 0⟩
def SVC_MAC_MAC : Field := ⟨0x00110008, 47, 0⟩
def SVC_UDP_MGMT_PORT : Field := ⟨0x00110010, 15, 0⟩
def SVC_STATUS_WRITE_LOST : Field := ⟨0x00110014, 31, 31⟩
def SVC_STATUS_PLCA_STATUS : Field := ⟨0x00110014, 30, 30⟩
def SVC_STATUS_TXQ_DEPTH : Field := ⟨0x00110014, 4, 0⟩
/-- Counter 0 of SVC_COUNTER. -/
def SVC_TX_FRAMES_C : Field := ⟨0x00110100, 47, 0⟩
/-- Counter 1 of SVC_COUNTER. -/
def SVC_RX_FRAMES_C : Field := ⟨0x00110108, 47, 0⟩
/-- Counter 2 of SVC_COUNTER. -/
def SVC_RX_FCS_ERRORS_C : Field := ⟨0x00110110, 47, 0⟩
/-- Counter 3 of SVC_COUNTER. -/
def SVC_RX_RUNTS_C : Field := ⟨0x00110118, 47, 0⟩
/-- Counter 4 of SVC_COUNTER. -/
def SVC_COLLISIONS_C : Field := ⟨0x00110120, 47, 0⟩
/-- Counter 5 of SVC_COUNTER. -/
def SVC_EXCESS_COLLISIONS_C : Field := ⟨0x00110128, 47, 0⟩
/-- Counter 6 of SVC_COUNTER. -/
def SVC_LATE_COLLISIONS_C : Field := ⟨0x00110130, 47, 0⟩
/-- Counter 7 of SVC_COUNTER. -/
def SVC_RX_NOT_ADDRESSED_C : Field := ⟨0x00110138, 47, 0⟩
/-- Counter 8 of SVC_COUNTER. -/
def SVC_TX_DROPPED_C : Field := ⟨0x00110140, 47, 0⟩
def SUP_STATUS_WRITE_LOST : Field := ⟨0x00200000, 31, 31⟩
def SUP_STATUS_OUTVOTED : Field := ⟨0x00200000, 30, 30⟩
def SUP_STATUS_COPY_FAILED : Field := ⟨0x00200000, 29, 29⟩
def SUP_STATUS_ISOLATED : Field := ⟨0x00200000, 28, 28⟩
def SUP_STATUS_FENCED : Field := ⟨0x00200000, 27, 27⟩
def SUP_STATUS_COPIES : Field := ⟨0x00200000, 26, 24⟩
def SUP_CFG_HB_PERIOD_US : Field := ⟨0x00200004, 31, 20⟩
def SUP_CFG_HB_HOPS : Field := ⟨0x00200004, 19, 16⟩
def SUP_CFG_RESET_EN : Field := ⟨0x00200004, 15, 15⟩
def SUP_TIMERS_DEAD_MS : Field := ⟨0x00200008, 31, 16⟩
def SUP_TIMERS_SUSPECT_MS : Field := ⟨0x00200008, 15, 0⟩
def SUP_FENCE_CTRL_KEY : Field := ⟨0x0020000C, 31, 16⟩
def SUP_FENCE_CTRL_READMIT : Field := ⟨0x0020000C, 0, 0⟩
def SUP_BOOT_ID_BOOT_ID : Field := ⟨0x00200010, 63, 0⟩
/-- Counter 0 of SUP_COUNTER. -/
def SUP_SENTINEL_EVENTS_C : Field := ⟨0x00200100, 47, 0⟩
/-- Counter 1 of SUP_COUNTER. -/
def SUP_UNIT_RESETS_C : Field := ⟨0x00200108, 47, 0⟩
/-- Counter 2 of SUP_COUNTER. -/
def SUP_ISOLATIONS_C : Field := ⟨0x00200110, 47, 0⟩
/-- Counter 3 of SUP_COUNTER. -/
def SUP_OUTVOTES_C : Field := ⟨0x00200118, 47, 0⟩
/-- Counter 4 of SUP_COUNTER. -/
def SUP_ECC_CORRECTED_C : Field := ⟨0x00200120, 47, 0⟩
/-- Counter 5 of SUP_COUNTER. -/
def SUP_ECC_UNCORRECTABLE_C : Field := ⟨0x00200128, 47, 0⟩
/-- Counter 6 of SUP_COUNTER. -/
def SUP_HB_SENT_C : Field := ⟨0x00200130, 47, 0⟩
/-- Counter 7 of SUP_COUNTER. -/
def SUP_HB_RECEIVED_C : Field := ⟨0x00200138, 47, 0⟩
/-- Counter 8 of SUP_COUNTER. -/
def SUP_HB_AUTH_FAIL_C : Field := ⟨0x00200140, 47, 0⟩
/-- Counter 9 of SUP_COUNTER. -/
def SUP_HB_DUPLICATE_C : Field := ⟨0x00200148, 47, 0⟩
/-- Counter 10 of SUP_COUNTER. -/
def SUP_DECLARATIONS_ISSUED_C : Field := ⟨0x00200150, 47, 0⟩
/-- Counter 11 of SUP_COUNTER. -/
def SUP_DECLARATIONS_ACCEPTED_C : Field := ⟨0x00200158, 47, 0⟩
/-- Counter 12 of SUP_COUNTER. -/
def SUP_FENCE_RESENT_C : Field := ⟨0x00200160, 47, 0⟩
/-- Counter 13 of SUP_COUNTER. -/
def SUP_RESET_WORDS_SENT_C : Field := ⟨0x00200168, 47, 0⟩
/-- Counter 14 of SUP_COUNTER. -/
def SUP_RESET_WORDS_REFUSED_C : Field := ⟨0x00200170, 47, 0⟩
/-- Counter 15 of SUP_COUNTER. -/
def SUP_CHRONICLE_SUPPRESSED_C : Field := ⟨0x00200178, 47, 0⟩
/-- Counter 16 of SUP_COUNTER. -/
def SUP_SCRUB_PASSES_C : Field := ⟨0x00200180, 47, 0⟩
/-- Counter 17 of SUP_COUNTER. -/
def SUP_EXCHANGES_C : Field := ⟨0x00200188, 47, 0⟩
/-- Counter 18 of SUP_COUNTER. -/
def SUP_EXCHANGE_FAILS_C : Field := ⟨0x00200190, 47, 0⟩
/-- Counter 19 of SUP_COUNTER. -/
def SUP_WAKES_SENT_C : Field := ⟨0x00200198, 47, 0⟩
/-- Counter 20 of SUP_COUNTER. -/
def SUP_ASSIGNS_SENT_C : Field := ⟨0x002001A0, 47, 0⟩
/-- Counter 21 of SUP_COUNTER. -/
def SUP_ROLE_CONFLICTS_C : Field := ⟨0x002001A8, 47, 0⟩
def SUP_WATCH_W0_VALID (entry : Nat) : Field := ⟨0x00201000 + 0x10 * entry, 63, 63⟩
def SUP_WATCH_W0_SUSPECT (entry : Nat) : Field := ⟨0x00201000 + 0x10 * entry, 62, 62⟩
def SUP_WATCH_W0_DECLARED (entry : Nat) : Field := ⟨0x00201000 + 0x10 * entry, 61, 61⟩
def SUP_WATCH_W0_DEVICE (entry : Nat) : Field := ⟨0x00201000 + 0x10 * entry, 45, 32⟩
def SUP_WATCH_W0_INCARNATION (entry : Nat) : Field := ⟨0x00201000 + 0x10 * entry, 31, 0⟩
def SUP_WATCH_W1_LAST_SEEN (entry : Nat) : Field := ⟨0x00201008 + 0x10 * entry, 63, 0⟩
def SUP_SPARE_VALID (entry : Nat) : Field := ⟨0x00201100 + 0x8 * entry, 63, 63⟩
def SUP_SPARE_WAKE_SELECT (entry : Nat) : Field := ⟨0x00201100 + 0x8 * entry, 7, 0⟩
def SUP_ISOLATION_VALID (entry : Nat) : Field := ⟨0x00202000 + 0x8 * entry, 63, 63⟩
def SUP_ISOLATION_RELEASE (entry : Nat) : Field := ⟨0x00202000 + 0x8 * entry, 62, 62⟩
def SUP_ISOLATION_DOMAIN (entry : Nat) : Field := ⟨0x00202000 + 0x8 * entry, 55, 48⟩
def SUP_ISOLATION_INDEX (entry : Nat) : Field := ⟨0x00202000 + 0x8 * entry, 43, 32⟩
def SUP_CHRONICLE_NEWEST_SEQ : Field := ⟨0x00203000, 63, 0⟩
def SUP_CHRONICLE_SELECT_SEQ : Field := ⟨0x00203008, 63, 0⟩
def SUP_INCARNATION_INCARNATION (device : Nat) : Field := ⟨0x00208000 + 0x4 * device, 31, 0⟩
def TEN_STATUS_WRITE_LOST (tenant : Nat) : Field := ⟨0x0A000000 + 0x10000 * tenant, 31, 31⟩
def TEN_STATUS_RESET_DONE (tenant : Nat) : Field := ⟨0x0A000000 + 0x10000 * tenant, 30, 30⟩
def TEN_STATUS_FAULT_NEW (tenant : Nat) : Field := ⟨0x0A000000 + 0x10000 * tenant, 29, 29⟩
def TEN_STATUS_STATE (tenant : Nat) : Field := ⟨0x0A000000 + 0x10000 * tenant, 28, 26⟩
def TEN_STATUS_LOG_COUNT (tenant : Nat) : Field := ⟨0x0A000000 + 0x10000 * tenant, 6, 0⟩
def TEN_CTRL_KEY (tenant : Nat) : Field := ⟨0x0A000004 + 0x10000 * tenant, 31, 16⟩
def TEN_CTRL_RESET (tenant : Nat) : Field := ⟨0x0A000004 + 0x10000 * tenant, 0, 0⟩
def TEN_RESET_TIME_MICROSECONDS (tenant : Nat) : Field := ⟨0x0A000008 + 0x10000 * tenant, 31, 0⟩
def TEN_LOG_HEAD_NEWEST (tenant : Nat) : Field := ⟨0x0A00000C + 0x10000 * tenant, 5, 0⟩
/-- Counter 0 of TEN_COUNTER. -/
def TEN_FAULTS_C (tenant : Nat) : Field := ⟨0x0A000100 + 0x10000 * tenant, 47, 0⟩
/-- Counter 1 of TEN_COUNTER. -/
def TEN_RESETS_C (tenant : Nat) : Field := ⟨0x0A000108 + 0x10000 * tenant, 47, 0⟩
/-- Counter 2 of TEN_COUNTER. -/
def TEN_ECC_DROPPED_C (tenant : Nat) : Field := ⟨0x0A000110 + 0x10000 * tenant, 47, 0⟩
/-- Counter 3 of TEN_COUNTER. -/
def TEN_LOG_OVERWRITTEN_C (tenant : Nat) : Field := ⟨0x0A000118 + 0x10000 * tenant, 47, 0⟩
def TEN_LOG_VALUE (tenant : Nat) (entry : Nat) (word : Nat) : Field := ⟨0x0A001000 + 0x10000 * tenant + 0x10 * entry + 0x8 * word, 63, 0⟩
def SUP_ROLE_STATUS_WRITE_LOST : Field := ⟨0x00204000, 31, 31⟩
def SUP_ROLE_STATUS_ROLE_TAKEN : Field := ⟨0x00204000, 30, 30⟩
def SUP_ROLE_STATUS_ASSIGN_WAIT : Field := ⟨0x00204000, 29, 29⟩
def SUP_ROLE_STATUS_KIND : Field := ⟨0x00204000, 28, 26⟩
def SUP_ROLE_STATUS_DEVICE_NUMBER : Field := ⟨0x00204000, 13, 0⟩
def SUP_ROLE_ROLE_ID : Field := ⟨0x00204008, 63, 32⟩
def SUP_ROLE_INCARNATION : Field := ⟨0x00204008, 31, 0⟩
def SUP_PEER_W0_EXCHANGED (port : Nat) : Field := ⟨0x00204100 + 0x20 * port, 63, 63⟩
def SUP_PEER_W0_MISWIRED (port : Nat) : Field := ⟨0x00204100 + 0x20 * port, 62, 62⟩
def SUP_PEER_W0_CONFLICT (port : Nat) : Field := ⟨0x00204100 + 0x20 * port, 61, 61⟩
def SUP_PEER_W0_HSTATE (port : Nat) : Field := ⟨0x00204100 + 0x20 * port, 55, 53⟩
def SUP_PEER_W0_DEVICE (port : Nat) : Field := ⟨0x00204100 + 0x20 * port, 45, 32⟩
def SUP_PEER_W0_INCARNATION (port : Nat) : Field := ⟨0x00204100 + 0x20 * port, 31, 0⟩
def SUP_PEER_W1_ROLE_ID (port : Nat) : Field := ⟨0x00204108 + 0x20 * port, 63, 32⟩
def SUP_PEER_W1_IMAGE_DEVICE (port : Nat) : Field := ⟨0x00204108 + 0x20 * port, 13, 0⟩
def SUP_PEER_W2_BOOT_ID (port : Nat) : Field := ⟨0x00204110 + 0x20 * port, 63, 0⟩
def SUP_WAKE_FRAME_BYTES (frame : Nat) (word : Nat) : Field := ⟨0x00204200 + 0x20 * frame + 0x8 * word, 63, 0⟩
def SUP_WAKE_CTRL_KEY : Field := ⟨0x00204280, 31, 16⟩
def SUP_WAKE_CTRL_ENTRY : Field := ⟨0x00204280, 11, 8⟩
def SUP_WAKE_CTRL_SEND : Field := ⟨0x00204280, 0, 0⟩
def SUP_WAKE_STATUS_DONE : Field := ⟨0x00204284, 31, 31⟩
def SUP_WAKE_STATUS_BUSY : Field := ⟨0x00204284, 30, 30⟩
def SUP_WAKE_STATUS_RESULT : Field := ⟨0x00204284, 7, 0⟩
def SUP_SPARE_PEER_DEVICE (entry : Nat) : Field := ⟨0x00204300 + 0x4 * entry, 13, 0⟩
def DEV_ID_PART : Field := ⟨0x00000000, 31, 16⟩
def DEV_ID_STEPPING : Field := ⟨0x00000000, 15, 12⟩
def DEV_SERIAL_SERIAL : Field := ⟨0x00000008, 63, 0⟩
def DEV_CAPS_LANES : Field := ⟨0x00000010, 63, 53⟩
def DEV_CAPS_LISTENER_PORTS : Field := ⟨0x00000010, 52, 47⟩
def DEV_CAPS_STORE_PORTS : Field := ⟨0x00000010, 46, 42⟩
def DEV_CAPS_RING_PORTS : Field := ⟨0x00000010, 41, 38⟩
def DEV_CAPS_NBF_STACKS : Field := ⟨0x00000010, 37, 34⟩
def DEV_CAPS_GUARDED_LAYOUT : Field := ⟨0x00000010, 14, 14⟩
def DEV_CAPS_RELAY_TO_LISTENER : Field := ⟨0x00000010, 13, 13⟩
def DEV_CAPS_SERVICE_PORT : Field := ⟨0x00000010, 12, 12⟩
def DEV_CAPS_FIELD_BUS : Field := ⟨0x00000010, 11, 11⟩
def DEV_CAPS_EDGE_ENV : Field := ⟨0x00000010, 10, 10⟩
def DEV_CAPS_TIME : Field := ⟨0x00000010, 9, 9⟩
def DEV_CAPS_TALKER_DATA : Field := ⟨0x00000010, 8, 8⟩
def DEV_CAPS_LISTENER : Field := ⟨0x00000010, 7, 7⟩
def DEV_CAPS_SIGNET_STREAMS : Field := ⟨0x00000010, 6, 6⟩
def DEV_CAPS_LOCKET : Field := ⟨0x00000010, 5, 5⟩
def DEV_CAPS_NEAR_BUFFER : Field := ⟨0x00000010, 4, 4⟩
def DEV_CAPS_BROADCAST : Field := ⟨0x00000010, 3, 3⟩
def DEV_CAPS_GEYSER : Field := ⟨0x00000010, 2, 2⟩
def DEV_CAPS_CALDERA : Field := ⟨0x00000010, 1, 1⟩
def DEV_CAPS_SENTENCE : Field := ⟨0x00000010, 0, 0⟩
def DEV_BEHAVIOUR_LEVEL_LEVEL : Field := ⟨0x00000018, 15, 0⟩
def DEV_ROLE_INCARNATION : Field := ⟨0x00000020, 63, 32⟩
def DEV_ROLE_KIND : Field := ⟨0x00000020, 31, 29⟩
def DEV_ROLE_DEVICE_NUMBER : Field := ⟨0x00000020, 13, 0⟩
def DEV_ROLE_ID_ROLE_ID : Field := ⟨0x00000028, 31, 0⟩
def DEV_PACE_REGION : Field := ⟨0x00000030, 31, 28⟩
def DEV_PACE_PACE : Field := ⟨0x00000030, 15, 0⟩
def DEV_PACE_LOW_REGION : Field := ⟨0x00000034, 31, 28⟩
def DEV_PACE_LOW_PACE : Field := ⟨0x00000034, 15, 0⟩
def DEV_STATUS_WRITE_LOST : Field := ⟨0x00000038, 31, 31⟩
def DEV_STATUS_PACE_BELOW : Field := ⟨0x00000038, 30, 30⟩
def DEV_STATUS_PACE_OVERLOAD : Field := ⟨0x00000038, 29, 29⟩
def DEV_CTRL_PACE_LOW_CLEAR : Field := ⟨0x0000003C, 0, 0⟩
def RNG_STATUS_WRITE_LOST (r : Nat) : Field := ⟨0x07000004 + 0x10000 * r, 31, 31⟩
def RNG_STATUS_LINK_DOWN_EVENT (r : Nat) : Field := ⟨0x07000004 + 0x10000 * r, 30, 30⟩
def RNG_STATUS_PREEMPT_ACTIVE (r : Nat) : Field := ⟨0x07000004 + 0x10000 * r, 29, 29⟩
def RNG_STATUS_PAUSED (r : Nat) : Field := ⟨0x07000004 + 0x10000 * r, 28, 21⟩
def RNG_STATUS_STORM (r : Nat) : Field := ⟨0x07000004 + 0x10000 * r, 20, 13⟩
def RNG_STATUS_STATE (r : Nat) : Field := ⟨0x07000004 + 0x10000 * r, 12, 11⟩
def RNG_TIMERS_LINK_HOLD_US (r : Nat) : Field := ⟨0x07000008 + 0x10000 * r, 63, 48⟩
def RNG_TIMERS_PAUSE_WD_US (r : Nat) : Field := ⟨0x07000008 + 0x10000 * r, 47, 32⟩
def RNG_TIMERS_STORM_CLEAR_US (r : Nat) : Field := ⟨0x07000008 + 0x10000 * r, 31, 16⟩
/-- Counter 0 of RNG_COUNTER. -/
def RNG_TX_FRAMES_C (r : Nat) : Field := ⟨0x07000100 + 0x10000 * r, 47, 0⟩
/-- Counter 1 of RNG_COUNTER. -/
def RNG_TX_OCTETS_C (r : Nat) : Field := ⟨0x07000108 + 0x10000 * r, 63, 0⟩
/-- Counter 2 of RNG_COUNTER. -/
def RNG_RX_FRAMES_C (r : Nat) : Field := ⟨0x07000110 + 0x10000 * r, 47, 0⟩
/-- Counter 3 of RNG_COUNTER. -/
def RNG_RX_OCTETS_C (r : Nat) : Field := ⟨0x07000118 + 0x10000 * r, 63, 0⟩
/-- Counter 4 of RNG_COUNTER. -/
def RNG_RX_RUNTS_C (r : Nat) : Field := ⟨0x07000120 + 0x10000 * r, 47, 0⟩
/-- Counter 5 of RNG_COUNTER. -/
def RNG_RX_FCS_ERRORS_C (r : Nat) : Field := ⟨0x07000128 + 0x10000 * r, 47, 0⟩
/-- Counter 6 of RNG_COUNTER. -/
def RNG_RX_OVERSIZE_C (r : Nat) : Field := ⟨0x07000130 + 0x10000 * r, 47, 0⟩
/-- Counter 7 of RNG_COUNTER. -/
def RNG_RX_NOT_ADDRESSED_C (r : Nat) : Field := ⟨0x07000138 + 0x10000 * r, 47, 0⟩
/-- Counter 8 of RNG_COUNTER. -/
def RNG_RX_UNKNOWN_C (r : Nat) : Field := ⟨0x07000140 + 0x10000 * r, 47, 0⟩
/-- Counter 9 of RNG_COUNTER. -/
def RNG_RX_ACKS_C (r : Nat) : Field := ⟨0x07000148 + 0x10000 * r, 47, 0⟩
/-- Counter 10 of RNG_COUNTER. -/
def RNG_RX_ACK_AUTH_FAIL_C (r : Nat) : Field := ⟨0x07000150 + 0x10000 * r, 47, 0⟩
/-- Counter 11 of RNG_COUNTER. -/
def RNG_RX_MGMT_C (r : Nat) : Field := ⟨0x07000158 + 0x10000 * r, 47, 0⟩
/-- Counter 12 of RNG_COUNTER. -/
def RNG_TX_PREEMPTIONS_C (r : Nat) : Field := ⟨0x07000160 + 0x10000 * r, 47, 0⟩
/-- Counter 13 of RNG_COUNTER. -/
def RNG_RX_REASSEMBLED_C (r : Nat) : Field := ⟨0x07000168 + 0x10000 * r, 47, 0⟩
/-- Counter 14 of RNG_COUNTER. -/
def RNG_RX_REASSEMBLY_ERRORS_C (r : Nat) : Field := ⟨0x07000170 + 0x10000 * r, 47, 0⟩
/-- Counter 15 of RNG_COUNTER. -/
def RNG_DIVERTED_QUEUE_FULL_C (r : Nat) : Field := ⟨0x07000178 + 0x10000 * r, 47, 0⟩
/-- Counter 16 of RNG_COUNTER. -/
def RNG_DIVERTED_LINK_DOWN_C (r : Nat) : Field := ⟨0x07000180 + 0x10000 * r, 47, 0⟩
/-- Counter 17 of RNG_COUNTER. -/
def RNG_DIVERTED_STORM_C (r : Nat) : Field := ⟨0x07000188 + 0x10000 * r, 47, 0⟩
/-- Counter 18 of RNG_COUNTER. -/
def RNG_DIVERTED_SILENT_C (r : Nat) : Field := ⟨0x07000190 + 0x10000 * r, 47, 0⟩
/-- Counter 19 of RNG_COUNTER. -/
def RNG_DIVERTED_RETRIES_C (r : Nat) : Field := ⟨0x07000198 + 0x10000 * r, 47, 0⟩
/-- Counter 20 of RNG_COUNTER. -/
def RNG_DIVERTED_RETENTION_C (r : Nat) : Field := ⟨0x070001A0 + 0x10000 * r, 47, 0⟩
/-- Counter 21 of RNG_COUNTER. -/
def RNG_SPILLED_C (r : Nat) : Field := ⟨0x070001A8 + 0x10000 * r, 47, 0⟩
/-- Counter 22 of RNG_COUNTER. -/
def RNG_DROPPED_C (r : Nat) : Field := ⟨0x070001B0 + 0x10000 * r, 47, 0⟩
/-- Counter 23 of RNG_COUNTER. -/
def RNG_RETRANSMITS_C (r : Nat) : Field := ⟨0x070001B8 + 0x10000 * r, 47, 0⟩
/-- Counter 24 of RNG_COUNTER. -/
def RNG_LAUNCH_LATE_C (r : Nat) : Field := ⟨0x070001C0 + 0x10000 * r, 47, 0⟩
/-- Counter 25 of RNG_COUNTER. -/
def RNG_LAUNCH_IGNORED_C (r : Nat) : Field := ⟨0x070001C8 + 0x10000 * r, 47, 0⟩
/-- Counter 26 of RNG_COUNTER. -/
def RNG_TX_ABORTED_C (r : Nat) : Field := ⟨0x070001D0 + 0x10000 * r, 47, 0⟩
/-- Counter 27 of RNG_COUNTER. -/
def RNG_FEC_CORRECTED_C (r : Nat) : Field := ⟨0x070001D8 + 0x10000 * r, 47, 0⟩
/-- Counter 28 of RNG_COUNTER. -/
def RNG_FEC_UNCORRECTABLE_C (r : Nat) : Field := ⟨0x070001E0 + 0x10000 * r, 47, 0⟩
/-- Counter 29 of RNG_COUNTER. -/
def RNG_SPILL_NOTICES_C (r : Nat) : Field := ⟨0x070001E8 + 0x10000 * r, 47, 0⟩
/-- Counter 30 of RNG_COUNTER. -/
def RNG_RELAY_MISS_C (r : Nat) : Field := ⟨0x070001F0 + 0x10000 * r, 47, 0⟩
/-- Counter 31 of RNG_COUNTER. -/
def RNG_RX_RING_CONTROL_C (r : Nat) : Field := ⟨0x070001F8 + 0x10000 * r, 47, 0⟩
/-- Counter 32 of RNG_COUNTER. -/
def RNG_TX_PAUSE_C (r : Nat) : Field := ⟨0x07000200 + 0x10000 * r, 47, 0⟩
/-- Counter 0 of RNG_PRIO_COUNTER. -/
def RNG_PRIO_TX_FRAMES_C (r : Nat) (p : Nat) : Field := ⟨0x07000400 + 0x10000 * r + 0x40 * p, 47, 0⟩
/-- Counter 1 of RNG_PRIO_COUNTER. -/
def RNG_PRIO_TX_OCTETS_C (r : Nat) (p : Nat) : Field := ⟨0x07000408 + 0x10000 * r + 0x40 * p, 63, 0⟩
/-- Counter 2 of RNG_PRIO_COUNTER. -/
def RNG_PRIO_PAUSE_RX_C (r : Nat) (p : Nat) : Field := ⟨0x07000410 + 0x10000 * r + 0x40 * p, 47, 0⟩
/-- Counter 3 of RNG_PRIO_COUNTER. -/
def RNG_PRIO_PAUSED_US_C (r : Nat) (p : Nat) : Field := ⟨0x07000418 + 0x10000 * r + 0x40 * p, 47, 0⟩
/-- Counter 4 of RNG_PRIO_COUNTER. -/
def RNG_PRIO_STORMS_C (r : Nat) (p : Nat) : Field := ⟨0x07000420 + 0x10000 * r + 0x40 * p, 47, 0⟩
/-- Counter 5 of RNG_PRIO_COUNTER. -/
def RNG_PRIO_DIVERTED_C (r : Nat) (p : Nat) : Field := ⟨0x07000428 + 0x10000 * r + 0x40 * p, 47, 0⟩
def RNG_ENDPOINT_W0_VALID (r : Nat) (endpoint : Nat) : Field := ⟨0x07008000 + 0x10000 * r + 0x40 * endpoint, 63, 63⟩
def RNG_ENDPOINT_W0_IPV4 (r : Nat) (endpoint : Nat) : Field := ⟨0x07008000 + 0x10000 * r + 0x40 * endpoint, 62, 62⟩
def RNG_ENDPOINT_W0_RELIABLE (r : Nat) (endpoint : Nat) : Field := ⟨0x07008000 + 0x10000 * r + 0x40 * endpoint, 61, 61⟩
def RNG_ENDPOINT_W0_SPILL_EN (r : Nat) (endpoint : Nat) : Field := ⟨0x07008000 + 0x10000 * r + 0x40 * endpoint, 60, 60⟩
def RNG_ENDPOINT_W0_VLAN_EN (r : Nat) (endpoint : Nat) : Field := ⟨0x07008000 + 0x10000 * r + 0x40 * endpoint, 59, 59⟩
def RNG_ENDPOINT_W0_OWNER (r : Nat) (endpoint : Nat) : Field := ⟨0x07008000 + 0x10000 * r + 0x40 * endpoint, 52, 48⟩
def RNG_ENDPOINT_W0_DEST_MAC (r : Nat) (endpoint : Nat) : Field := ⟨0x07008000 + 0x10000 * r + 0x40 * endpoint, 47, 0⟩
def RNG_ENDPOINT_W1_VID (r : Nat) (endpoint : Nat) : Field := ⟨0x07008008 + 0x10000 * r + 0x40 * endpoint, 59, 48⟩
def RNG_ENDPOINT_W1_UDP_DST (r : Nat) (endpoint : Nat) : Field := ⟨0x07008008 + 0x10000 * r + 0x40 * endpoint, 31, 16⟩
def RNG_ENDPOINT_W1_UDP_SRC (r : Nat) (endpoint : Nat) : Field := ⟨0x07008008 + 0x10000 * r + 0x40 * endpoint, 15, 0⟩
def RNG_ENDPOINT_W2_DEST_IP (r : Nat) (endpoint : Nat) : Field := ⟨0x07008010 + 0x10000 * r + 0x40 * endpoint, 63, 0⟩
def RNG_ENDPOINT_W3_DEST_IP (r : Nat) (endpoint : Nat) : Field := ⟨0x07008018 + 0x10000 * r + 0x40 * endpoint, 63, 0⟩
def RNG_ENDPOINT_W4_RETENTION_US (r : Nat) (endpoint : Nat) : Field := ⟨0x07008020 + 0x10000 * r + 0x40 * endpoint, 63, 44⟩
def RNG_ENDPOINT_W4_RTO_US (r : Nat) (endpoint : Nat) : Field := ⟨0x07008020 + 0x10000 * r + 0x40 * endpoint, 43, 32⟩
def RNG_ENDPOINT_W4_ACK_KEY (r : Nat) (endpoint : Nat) : Field := ⟨0x07008020 + 0x10000 * r + 0x40 * endpoint, 31, 16⟩
def RNG_ENDPOINT_W4_RETRIES (r : Nat) (endpoint : Nat) : Field := ⟨0x07008020 + 0x10000 * r + 0x40 * endpoint, 15, 12⟩
def RNG_ENDPOINT_W5_LAUNCH_OFFSET_NS (r : Nat) (endpoint : Nat) : Field := ⟨0x07008028 + 0x10000 * r + 0x40 * endpoint, 31, 0⟩
def RNG_ENDPOINT_CTRL_COMMIT (r : Nat) (endpoint : Nat) : Field := ⟨0x07008030 + 0x10000 * r + 0x40 * endpoint, 0, 0⟩
def RNG_ENDPOINT_STATUS_STATE (r : Nat) (endpoint : Nat) : Field := ⟨0x07008038 + 0x10000 * r + 0x40 * endpoint, 63, 62⟩
def RNG_ENDPOINT_STATUS_WRITE_LOST (r : Nat) (endpoint : Nat) : Field := ⟨0x07008038 + 0x10000 * r + 0x40 * endpoint, 61, 61⟩
def RNG_ENDPOINT_STATUS_RESULT (r : Nat) (endpoint : Nat) : Field := ⟨0x07008038 + 0x10000 * r + 0x40 * endpoint, 55, 48⟩
def RNG_ENDPOINT_STATUS_UNACKED (r : Nat) (endpoint : Nat) : Field := ⟨0x07008038 + 0x10000 * r + 0x40 * endpoint, 31, 0⟩

end Sys2Proof.Machine.F
end

