-- ==== Sys2Proof/Machine/Sparse.lean ====
section
/-! DEFINITION. Sparse stores: a list of (index, content) pairs in one canonical form. Every register file, flash
array and per-instance table of the block is one, so the laws of reading and writing are proved once. -/

namespace Sys2Proof.Machine

/-- A table by index: the listed entries, in strictly rising index order, none equal to the unlisted content. -/
abbrev Sparse (α : Type) := List (Nat × α)

/-- The content at index `k`; an unlisted index reads as `d k`. -/
def Sparse.get {α : Type} (d : Nat → α) : Sparse α → Nat → α
  | [], k => d k
  | (i, x) :: m, k => if i = k then x else Sparse.get d m k

/-- Removes index `k`. -/
def Sparse.drop {α : Type} : Sparse α → Nat → Sparse α
  | [], _ => []
  | (i, x) :: m, k => if i = k then Sparse.drop m k else (i, x) :: Sparse.drop m k

/-- Inserts index `k` before the first greater index. -/
def Sparse.insert {α : Type} : Sparse α → Nat → α → Sparse α
  | [], k, v => [(k, v)]
  | (i, x) :: m, k, v => if k < i then (k, v) :: (i, x) :: m else (i, x) :: Sparse.insert m k v

/-- Writes `v` at index `k`, keeping the canonical form: an entry equal to the unlisted content is not listed. -/
def Sparse.set {α : Type} [DecidableEq α] (d : Nat → α) (m : Sparse α) (k : Nat) (v : α) : Sparse α :=
  if v = d k then m.drop k else (m.drop k).insert k v

/-- The canonical form: indices strictly rise and no entry equals the unlisted content. -/
def Sparse.wf {α : Type} [DecidableEq α] (d : Nat → α) : Sparse α → Bool
  | [] => true
  | [(i, x)] => decide (x ≠ d i)
  | (i, x) :: (j, y) :: m => decide (i < j) && decide (x ≠ d i) && Sparse.wf d ((j, y) :: m)

/-- The listed indices that satisfy `p`, rising. -/
def Sparse.keys {α : Type} (m : Sparse α) (p : Nat → α → Bool) : List Nat :=
  (m.filter (fun e => p e.1 e.2)).map (·.1)

end Sys2Proof.Machine
end

