-- ==== Sys2Proof/Machine/State.lean ====
section
/-! DEFINITION. The state of the block: every register, store, queue, counter and pin the manual gives it, as plain
data, and the state after reset. A core reset (R60) puts `units` and the register file back to their reset values
and leaves `keep` and the flash. -/

namespace Sys2Proof.Machine

/-- Why the machine stops: no command of this block stops it (every row has an effect the manual gives). -/
inductive Fault where
  deriving DecidableEq, Repr

/-- Why a command has no meaning in this model. -/
inductive Refusal where
  /-- The row has no meaning yet; raised by the dispatch arm itself. Safe: nothing is said of the row. -/
  | notModelled (mnemonic : String)
  deriving DecidableEq, Repr

/-- Part numbers (DEV_ID.PART, R583). -/
inductive Part where
  | iav4810 | iav4610 | iav4410 | iav4010
  deriving DecidableEq, Repr

/-- Level of an output pin or of PWR_ON: driven, or high impedance. -/
inductive Drive where
  | high | low | hiZ
  deriving DecidableEq, Repr

/-- A frame on the air, a message, a pin event: what the block puts out, in order. -/
inductive Emission where
  /-- A message on the downlink of a lane (R132). -/
  | downlink (lane : Nat) (msg : List Byte)
  /-- A frame on listener link l at a priority. -/
  | linkFrame (link prio : Nat) (bytes : List Byte)
  /-- A frame on ring port r at a priority. -/
  | ringFrame (port prio : Nat) (bytes : List Byte)
  /-- A received frame passed on: link, destination by its row of R354 counted from 0, and the bytes passed. -/
  | passed (link dest : Nat) (bytes : List Byte)
  /-- A PFC frame on ring port r: priority and pause quanta (R337). -/
  | pfc (port prio quanta : Nat)
  /-- An 802.3 verify or respond fragment of preemption (R332). -/
  | verify (port : Nat)
  /-- A frame on the service port. -/
  | svcFrame (bytes : List Byte)
  /-- A collision jam on the service port (R507). -/
  | svcJam
  /-- A CAN frame sent on field-bus channel c: identifier word, flags, data. -/
  | canFrame (channel ident flags : Nat) (data : List Byte)
  /-- An error or overload frame on field-bus channel c. -/
  | canError (channel : Nat)
  /-- An item that left queue q at a pop, for its consumer (R231). -/
  | popped (queue : Nat) (item : Item)
  /-- Bytes returned to a register reader. -/
  | readData (reader : Nat) (bytes : List Byte)
  /-- An edge on a named output: kind 0 = edge port, 1 = utility pin, 2 = interlock, 3 = frequency output. -/
  | pin (kind index : Nat) (level : Drive) (width : Nat)
  /-- A wake frame on a pin path: edge port or utility pin, and its 32 bytes (R564). -/
  | wakePulse (utility : Bool) (index : Nat) (bytes : List Byte)
  /-- A write to the drive of a store port, from an LBA on, as it goes to the drive (R310). -/
  | drive (port lba : Nat) (bytes : List Byte)
  /-- The NVMe shutdown notification to the drive of a store port (R66). -/
  | driveShutdown (port : Nat)
  deriving DecidableEq, Repr

/-- What happened in the present arbitration window (R20), for the outcomes R579 and R237 to R239 fix. -/
structure Win where
  /-- Status bits that hardware set, by register address. -/
  sets : List (Nat × Nat) := []
  /-- Increments of counters, by register address. -/
  counts : List (Nat × Nat) := []
  /-- Queues that took a push. -/
  pushes : List Nat := []
  /-- Queues whose depth, input or flush is judged at the window's end (R237, R239). -/
  touched : List Nat := []
  /-- Queues whose pointers mismatched. -/
  mismatches : List Nat := []
  /-- Downlink messages ready in the window: lane, rank of R133, words. They leave in that order at its end. -/
  down : List (Nat × Nat × List Byte) := []
  /-- Events of units that some rule compares within one window, by a unit's own code. -/
  marks : List (Nat × Nat) := []
  /-- Words that software replaced, by register address (R480). -/
  old : List (Nat × Nat) := []
  /-- Management transactions executed ahead of later ones of the window (R492). -/
  early : List (List Byte) := []
  /-- The registers as the window found them (R580). -/
  base : Option (Sparse Word) := none
  /-- Ember has answered a wake match in this window (R75). -/
  woke : Bool := false
  /-- Streams whose closed strata and vent frames are settled at the window's end (R203, R325). -/
  settle : List Nat := []
  /-- Streams whose oldest stratum is due to close by horizon, once for each close (R203). -/
  horizons : List Nat := []
  /-- What Caldera can take in the window, and the cells offered and admitted so far by tenant (R219, R220). -/
  load : Load := {}
  admitted : List (Nat × Nat) := []
  /-- CUM and B of lanes as the window found them, where it accepted frames (R122). -/
  acked : List (Nat × Nat × Nat) := []
  /-- Replay engines that start to read a stripe at the window's end (R316). -/
  replays : List Nat := []
  /-- Freezes launched at the window's end, in the order of R272. -/
  launches : Nat := 0
  /-- Stop edges that came ahead of their start in the window: edge port and stamp (R459). -/
  stops : List (Nat × Nat) := []
  /-- A round closes at the window's end (R379). -/
  round : Bool := false
  /-- Scheduled items that reach L, judged at the window's end: link and priority (R356). -/
  starts : List (Nat × Nat) := []
  deriving DecidableEq, Repr

/-- A tenant's record (R94). -/
structure Tenant where
  enabled : Bool := false
  weight : Nat := 0
  quota : Nat := 0
  firstStream : Nat := 0
  streamCount : Nat := 0
  rights : Nat := 0
  mgmtKey : Nat := 0
  links : Nat := 0
  deriving DecidableEq, Repr

/-- The topology section of the running image (R93). -/
structure Topology where
  device : Nat := 0
  kind : Nat := 0
  parentD0 : Nat := 255
  parentD1 : Nat := 255
  rootRef : Nat := 0
  roleId : Nat := 0
  ringPeer : List Nat := []
  quorum : List Nat := []
  deriving DecidableEq, Repr

/-- An image command or page in progress (R108). -/
inductive ImgOp where
  | erase (slot : Nat)
  | mark (slot : Nat)
  | retire (slot : Nat)
  | page (slot offset : Nat) (data : List Byte)
  deriving DecidableEq, Repr

/-- Ember's state outside its registers (R59, R63 to R68), and the pins it drives and reads. -/
structure Ember where
  /-- VAON is valid. -/
  vaon : Bool := true
  pwrOn : Drive := .high
  /-- RST_N is held low. -/
  rstLow : Bool := false
  /-- The core is held in reset until VAON is lost or a pin reset (R59). -/
  held : Bool := false
  /-- Start failures in a row. -/
  fails : Nat := 0
  /-- A start is under way and has not reached local ready (R59). -/
  starting : Bool := false
  /-- Elapsed time of the last supervisor heartbeat while the watchdog is armed. -/
  watchdog : Option Nat := none
  /-- PWR_CTRL.MODE as it stood at the dormancy request. -/
  listening : Bool := false
  /-- RAIL_STUCK was set in this dormancy entry (R67). -/
  stuck : Bool := false
  /-- Kind of the last reset of R60, by its row there counted from 0, and a remote reset's SENDER. -/
  resetKind : Nat := 0
  resetSender : Nat := 0
  /-- A match came before every main rail was invalid (R68): PWR_ON follows once they have been off 10 ms. -/
  wakeWait : Bool := false
  /-- Elapsed time at which PWR_ON went low, and at which the main rails went off. -/
  lowAt : Nat := 0
  offAt : Nat := 0
  deriving DecidableEq, Repr

/-- One copy of the owner record (R362). -/
structure OwnerCopy where
  epoch : Nat
  keyHash : BitVec 384
  enrolKey : BitVec 256
  deriving DecidableEq, Repr

/-- A chronicle entry (R541), less its CRC, which the flash copy carries. -/
structure ChronEntry where
  seq : Nat
  time : List Byte
  tq : Nat
  kind : Nat
  tenant : Option Nat
  fclass : Nat
  incarnation : Nat
  rep : Nat
  info : List Byte
  deriving DecidableEq, Repr

/-- A talker of a lane, beside its registers (R130, R131, R198, R200). -/
structure TalkerUnit where
  /-- Corrected D0 watermark applied last, since it became PRESENT in this SESSION. -/
  wm : Option Nat := none
  /-- Elapsed time of the last applied entry, or of becoming PRESENT. -/
  heardAt : Nat := 0
  leaving : Bool := false
  /-- An entry has been applied in this SESSION, so a lower one is a regress (R130). -/
  heard : Bool := false
  deriving DecidableEq, Repr

/-- A heartbeat that waits for its data frames (R129). -/
structure PendingHb where
  cover : Nat
  /-- STAMP_FOLLOWS of its frame. -/
  follows : Bool
  body : List Byte
  deriving DecidableEq, Repr

/-- A command outstanding on a lane (R135). -/
structure LaneCmd where
  words : List Nat
  tag : Nat
  sentAt : Nat
  repeats : Nat := 0
  deriving DecidableEq, Repr

/-- An echo received and not yet reported (R140): MARK_ID, departure of its marker, RT, elapsed arrival. -/
structure LaneEcho where
  mark : Nat
  departure : Nat
  trip : Int
  at_ : Nat
  deriving DecidableEq, Repr

/-- A lane, beside its registers (R120 to R156). -/
structure LaneUnit where
  /-- Bitmap B of frames accepted beyond CUM. -/
  bitmap : Nat := 0
  pending : List PendingHb := []
  /-- The device's own command and the host's, outstanding. -/
  own : Option LaneCmd := none
  host : Option LaneCmd := none
  /-- Last TAG given, and MARK_ID of the next marker. -/
  tag : Nat := 0
  mark : Nat := 0
  /-- Elapsed time of the last marker (R138). -/
  markedAt : Option Nat := none
  /-- Markers sent and not yet echoed, with their departure times. -/
  markers : List (Nat × Nat) := []
  echoes : List LaneEcho := []
  /-- (RT − TA) ÷ 2 of the last valid echoes, doubled, newest first, and the stamp-offset samples (R140, R142). -/
  delays : List Int := []
  samples : List Int := []
  /-- Valid echoes of this pass through MEASURING. -/
  valid : Nat := 0
  /-- Elapsed time at which this pass set the cable delay. -/
  measuredAt : Option Nat := none
  /-- Elapsed times of entries into ALIGNING and DARK (R148). -/
  flaps : List Nat := []
  /-- The state the lane returns to after MEASURING, and the elapsed time it left it (R148, R149); its SESSION is another
  since. -/
  resume : Option (Nat × Nat) := none
  renewed : Bool := false
  /-- Elapsed time it left ACTIVE without entering STANDBY, DISABLED or FAULT (R198). -/
  leftActive : Option Nat := none
  /-- Lock held for 100 µs (R147). -/
  locked : Bool := false
  /-- Elapsed time of the last valid frame. -/
  frameAt : Nat := 0
  /-- A roster has arrived in this pass through DISCOVERING, and when the next own command is due (R619). -/
  roster : Bool := false
  retryAt : Option Nat := none
  /-- The last measured round trip (R126): RT less TA of the last valid echo, in ticks. -/
  trip : Nat := 0
  /-- The lane delivers under its home address since a handover (R153). -/
  promoted : Bool := false
  deriving DecidableEq, Repr

/-- A copy of a sentence for one stream: an output sentence less its CRC (R161). -/
structure Copy where
  time : Nat
  source : Nat
  channel : Nat
  cls : Nat
  /-- FLAGS, bits 8 to 0 (R162). -/
  flags : Nat
  typ : Nat
  payload : List Byte
  group : Nat
  domain : Nat
  /-- A readout copy older than the oldest conversion segment kept (R167). -/
  old : Bool := false
  deriving DecidableEq, Repr

/-- A conversion segment of a domain (R167). -/
structure ConvSeg where
  ref : Nat
  offset : Int
  rate : Int
  deriving DecidableEq, Repr

/-- A sentence on its way to the filter (R161 to R170). -/
structure Sentence where
  /-- Corrected D0 time. -/
  time : Nat
  source : Nat
  /-- Index of its source default and counters: lane, or 1,024 + kind. -/
  src : Nat
  channel : Nat
  tflags : Nat := 0
  typ : Nat
  payload : List Byte
  /-- The lowest of the first two terms of R168, of its third and fourth, and its last. -/
  q12 : Nat
  q34 : Nat := 3
  q7 : Nat := 3
  corrected : Bool := false
  /-- TRIGGERED is set in every copy (R274). -/
  triggered : Bool := false
  deriving DecidableEq, Repr

/-- A stratum of a stream that holds a copy, or a closed one that still owes a progress mark (R195, R204, R214). -/
structure Stratum where
  start : Nat
  k : Nat
  hot : List Copy := []
  /-- Its part in the near-buffer stratum region (R214, R217). -/
  near : List Copy := []
  evicted : Bool := false
  /-- Closed, and whether by horizon; the elapsed time of the close; how the stratum that ends at `start` closed. -/
  closed : Option Bool := none
  closedAt : Nat := 0
  prior : Bool := false
  deriving DecidableEq, Repr

/-- One enabled span of a stream, from the T_APPLY that enabled it to the one that disables it, emitted in one chain
(R197, R621). -/
structure Life where
  /-- T_APPLY and the domain it is a time of. -/
  start : Nat
  domain : Nat
  /-- Its T_APPLY has been reached: its chain opens as soon as no earlier life is left. -/
  began : Bool := false
  /-- T_APPLY of the disable that ends it. -/
  stop : Option Nat := none
  /-- Its last stratum has closed. -/
  isOver : Bool := false
  /-- End of the stratum closed last, and whether by horizon; at first the start of the life. -/
  edge : Nat × Bool
  /-- Strata that hold copies or owe a mark, in increasing order. -/
  strata : List Stratum := []
  deriving DecidableEq, Repr

/-- A stream in Caldera, beside its registers (R195 to R212). -/
structure CalStream where
  /-- Its lives, oldest first: the first is emitted, and the first that is not over closes its strata. -/
  lives : List Life := []
  /-- Late copies waiting inline (R210). -/
  late : List Copy := []
  /-- Earlier configurations, newest first: each served times before its boundary (R197). -/
  epochs : List (Nat × List (Nat × Word)) := []
  /-- The pending commit has no T_APPLY yet: it waits for the end of the stream's chain (R190). -/
  deferred : Bool := false
  /-- The pending disable is a tenant reset's: it changes ENABLED in force alone (R513). -/
  byReset : Bool := false
  deriving DecidableEq, Repr

/-- Weighted deficit round robin of Caldera's emission (R220): the tenant whose turn it is, and the cells each tenant
may still send of its quanta. -/
structure Shares where
  turn : Nat := 0
  credit : Sparse Nat := []
  deriving DecidableEq, Repr

/-- An item its producer is still writing, at the input of a queue (R227, R233, R234). -/
structure PartialItem where
  producer : Producer
  item : Item
  cells : Nat := 0
  /-- Cells of it that passed through the body. -/
  bodyCells : Nat := 0
  /-- MAX_ITEM_CELLS and ITEM_LIMIT in force at its start-of-item (R578). -/
  maxCells : Nat
  limit : Nat
  /-- The item was rewound and its remaining words are discarded. -/
  discarding : Bool := false
  deriving DecidableEq, Repr

/-- An item that waits for the input (R227): the first of a producer stands in the producer's own staging, and what the
producer has behind it comes to its start-of-item when that one has gone. -/
structure Waiting where
  producer : Producer
  item : Item
  /-- Elapsed time of arrival. -/
  since : Nat
  /-- Its end-of-item has come, with this status. -/
  ended : Option Bool := none
  deriving DecidableEq, Repr

/-- A queue unit, beside its registers. -/
structure QueueUnit where
  /-- Committed items not yet popped, oldest first, with the cells of each that passed through the body. -/
  items : List (Item × Nat) := []
  /-- The producer's item. -/
  partial_ : Option PartialItem := none
  waiting : List Waiting := []
  /-- Ended items that found the queue full while commands of the window were still to come, with the cells of each that
  passed through the body and its ITEM_LIMIT: a pop of the window lets one in (R237). -/
  late : List (Item × Nat × Nat) := []
  /-- A held pop waits for stage 0 (R231). -/
  heldPop : Bool := false
  /-- A flush waits for the end of its window (R239). -/
  flushDue : Bool := false
  /-- Content of the item most recently popped (R238). -/
  last : List Byte := []
  /-- Content of the item most recently popped by a register read (R243). -/
  lastRead : List Byte := []
  /-- Next SEQ of a notification queue (R242). -/
  seq : Nat := 0
  deriving DecidableEq, Repr

/-- A record of the near buffer (R248): a segment keeps bits 47 to 0 of its time. -/
structure Record where
  time : Nat
  tq : Nat
  typ : Nat
  source : Nat
  channel : Nat
  tflags : Nat
  payload : List Byte
  /-- Elapsed time at which it was written: a freeze reads what had come by its completion (R271, R276). -/
  cameAt : Nat := 0
  /-- An uncorrectable error lies in it (R521). -/
  faulty : Bool := false
  deriving DecidableEq, Repr

/-- A segment of the recording ring with its summary and holds (R250, R270). -/
structure Segment where
  records : List Record := []
  arrMin : Nat := 0
  arrMax : Nat := 0
  timeMin : Nat := 0
  timeMax : Nat := 0
  /-- Freezes that hold it, by their number; elapsed time at which the last hold on it was released (R276). -/
  holds : List Nat := []
  freedAt : Option Nat := none
  /-- Latest ARR_MAX of the segments overwritten between it and the next older one (R270). -/
  lost : Option Nat := none
  deriving DecidableEq, Repr

/-- A freeze, with or without a slot (R268 to R274). -/
structure Freeze where
  /-- The model's number of the freeze. -/
  id : Nat
  slot : Option Nat
  /-- STATE of NBF_FREEZE. -/
  state : Nat
  program : Nat
  channel : Nat
  rflags : Nat
  origin : Nat
  seq : Nat
  incarnation : Nat
  t : Nat
  launch : Nat
  preNs : Nat
  postNs : Nat
  start : Nat
  stop : Nat
  terms : Nat
  /-- READOUT, READ_SCOPE, REPORT_GROUP, OUT_MASK and owner as they apply to it. -/
  stream : Nat
  scopeValue : Nat
  scopeMask : Nat
  group : Nat
  outMask : Nat
  owner : Nat
  /-- It holds no further segments (R270). -/
  truncated : Bool := false
  /-- Elapsed time of completion. -/
  doneAt : Option Nat := none
  /-- Records read out so far. -/
  records : Nat := 0
  missed : Nat := 0
  /-- The freeze it joined, when merged, and the place of its launch among all launches (R272). -/
  joined : Option Nat := none
  order : Nat := 0
  /-- Payload of its trigger record, and the TQ that record had (R273, R274). -/
  head : List Byte := []
  headTq : Nat := 0
  deriving DecidableEq, Repr

/-- A trigger program, beside its registers (R259). -/
structure ProgUnit where
  /-- Next interval to evaluate, by its start. -/
  next : Nat := 0
  /-- The last 16 intervals evaluated, newest first: start, true terms, condition, fired. -/
  history : List (Nat × Nat × Bool × Bool) := []
  /-- Start of the first interval after hold-off. -/
  holdUntil : Option Nat := none
  /-- Earlier programs, newest first: each served the intervals before its boundary (R276). -/
  prev : List (Nat × List Byte) := []
  /-- Elapsed time of the last token. -/
  tokenAt : Nat := 0
  deriving DecidableEq, Repr

/-- An external input (R262): selector, program of a soft input, time. -/
structure ExtInput where
  sel : Nat
  program : Nat := 64
  time : Nat
  deriving DecidableEq, Repr
/-- A stripe of the index (R286, R296). -/
structure LiveStripe where
  stripe : Nat
  /-- 0 = ring, 1 = window pool, 2 = spill pool; and the stream of a ring. -/
  pool : Nat
  subject : Nat
  chunks : Nat
  map : Nat
  count : Nat
  a : Nat
  b : Nat
  octets : Nat
  deriving DecidableEq, Repr

/-- A stripe being filled, or full and waiting until its release record is durable (R290, R293). -/
structure OpenStripe where
  stripe : Nat
  pool : Nat
  subject : Nat
  /-- Ports of its data chunks in order. -/
  ports : List Nat
  /-- Records of the data chunks used so far. -/
  chunks : List (List StoredRec)
  /-- Elapsed time of its first record. -/
  since : Nat
  /-- Journal records that refer to it, to be placed after its own. -/
  extra : List JournalRec := []
  deriving DecidableEq, Repr

/-- A window of the store, beside its registers (R291). -/
structure StoreWindow where
  /-- Stripe and offset of the trigger record, and of the end of the last record. -/
  first : Nat × Nat
  last : Nat × Nat
  /-- Stripes that hold a record of it. -/
  stripes : List Nat
  /-- No stripe was free: its further frames are dropped. -/
  dropping : Bool := false
  /-- Order among the windows opened. -/
  order : Nat
  deriving DecidableEq, Repr

/-- Consecutive frames of a spill object in one stripe: how many, first and end byte offset (R296, 0x08). -/
structure SpillRange where
  stripe : Nat
  count : Nat
  a : Nat
  b : Nat
  deriving DecidableEq, Repr

/-- A spill object (R292, R315): frames are numbered from 0 in stored order. -/
structure SpillObject where
  /-- Stripes with records of it, oldest first. -/
  ranges : List SpillRange := []
  /-- Number of the first frame of the first range, and of the first frame not released. -/
  base : Nat := 0
  gone : Nat := 0
  /-- Frames to be released once those before them are. -/
  marked : List Nat := []
  gap : Bool := false
  deriving DecidableEq, Repr

/-- A replay engine at work (R314). -/
structure Engine where
  source : Nat
  subject : Nat
  queue : Nat
  endpoint : Nat
  release : Bool
  follow : Bool
  reliable : Bool
  from_ : Nat
  to_ : Nat
  /-- Place of a window's first record and of its end. -/
  first : Nat × Nat := (0, 0)
  last : Nat × Nat := (0, 0)
  /-- Stripes still to read, as the index had them; frames of the stripe being read, with the port of their chunk. -/
  todo : List (Nat × Option LiveStripe) := []
  frames : List (Nat × Item) := []
  /-- Next spill frame, the first one not to be sent, and the number after the range being read. -/
  next : Nat := 0
  limit : Nat := 0
  rangeEnd : Nat := 0
  deriving DecidableEq, Repr

/-- A format under way (R312): what it was asked for, and the ports whose drives it takes. -/
structure FormatRun where
  guarded : Bool
  keyIndex : Nat
  windows : Nat
  spills : Nat
  ports : List Nat
  deriving DecidableEq, Repr

/-- Locket, beside its registers (R287 to R316). -/
structure Store where
  guarded : Bool := false
  windowPool : Nat := 0
  spillPool : Nat := 0
  /-- At-rest key in use. -/
  key : List Byte := []
  label : Option DriveLabel := none
  /-- Stripes with their records, oldest first; being filled; full and waiting. -/
  live : List LiveStripe := []
  opens : List OpenStripe := []
  closing : List OpenStripe := []
  windows : Sparse (Option StoreWindow) := []
  windowCount : Nat := 0
  spill : Sparse SpillObject := []
  /-- Newest JSEQ, next block number, records not yet in a block, and the elapsed time of the first of them. -/
  jseq : Nat := 0
  nextBlock : Nat := 0
  records : List JournalRec := []
  recordsSince : Nat := 0
  /-- Blocks being written, oldest first. -/
  flight : List JournalBlock := []
  /-- Frames stored once a record is durable: JSEQ, stream, frames, octets. -/
  awaiting : List (Nat × Nat × Nat × Nat) := []
  /-- First block after the last snapshot point, and GENERATION of the newest snapshot. -/
  snapNext : Nat := 0
  generation : Nat := 0
  /-- Snapshot being written, and whether LKT_CTRL.COMPACT asked for it. -/
  compaction : Option (Snapshot × Bool) := none
  /-- A format under way. -/
  formatting : Option FormatRun := none
  engines : Sparse (Option Engine) := []
  /-- Frames of spill objects whose release is due at the end of the window: object and number (R315). -/
  done : List (Nat × Nat) := []
  /-- Store ports with STq_PERST_N high; STq_REFCLK runs on every port. -/
  perstHigh : List Nat := []
  refclk : Bool := false
  deriving DecidableEq, Repr

/-- A store bay: the drive last in it, and whether STq_PRSNT_N is low. -/
structure Bay where
  drive : Option StoreDrive := none
  present : Bool := false
  deriving DecidableEq, Repr


/-- A frame retained for a reliable endpoint (R341). -/
structure Retained where
  item : Item
  prio : Nat
  link : Nat
  /-- Elapsed time of its first and of its last send, order of the last, and sends so far. -/
  firstAt : Nat
  sentAt : Nat
  order : Nat
  sends : Nat := 1
  /-- Elapsed time at which it fell due to be sent again (R346). -/
  due : Option Nat := none
  deriving DecidableEq, Repr

/-- A run of diverted frames (R350). -/
structure SpillRun where
  /-- Link of the frames. -/
  link : Nat
  stream : Nat
  chain : Nat
  first : Nat
  count : Nat
  /-- Frames named by the last notice, and the elapsed time of it. -/
  noticed : Nat := 0
  noticedAt : Option Nat := none
  deriving DecidableEq, Repr

/-- A chain that an endpoint is held to (R345): origin device, stream, CHAIN. -/
structure HeldChain where
  origin : Nat
  stream : Nat
  chain : Nat
  deriving DecidableEq, Repr

/-- A frame that an acknowledgement has released: stream, CHAIN, priority, FRAME_SEQ and order of its last send. -/
structure CoveredFrame where
  stream : Nat
  chain : Nat
  prio : Nat
  seq : Nat
  order : Nat
  deriving DecidableEq, Repr

/-- An endpoint of a port, beside its registers (R341 to R350). -/
structure EndpointUnit where
  retained : List Retained := []
  /-- Last CUM accepted, by stream and chain (R343). -/
  cums : List (Nat × Nat × Nat) := []
  /-- Chains held, newest first: of each stream of each origin device the current and the one before it (R345); and the
  chains of replayed frames. -/
  chains : List HeldChain := []
  replayed : List HeldChain := []
  /-- Frames released by an acknowledgement that were sent after a frame still retained (R346). -/
  covered : List CoveredFrame := []
  lastAck : Nat := 0
  /-- Send order of the next frame. -/
  nextOrder : Nat := 0
  runs : List SpillRun := []
  /-- The words in force before the last commit, for a frame that starts in its window (R356). -/
  old : List (Nat × Word) := []
  deriving DecidableEq, Repr

/-- The pause state of one priority of a link (R335, R336). -/
structure Pause where
  /-- Elapsed time the present pause began, and when it expires. -/
  since : Nat := 0
  until_ : Nat := 0
  /-- Elapsed time the last pause ended. -/
  freeSince : Nat := 0
  deriving DecidableEq, Repr

/-- A link, beside its registers. -/
structure LinkUnit where
  /-- Elapsed time it went down. -/
  downSince : Nat := 0
  /-- Priorities for which this ring port has sent a pause, with the elapsed time of the last one (R337). -/
  xoff : List (Nat × Nat) := []
  /-- Elapsed time of a ring port's last preemption verify (R332). -/
  verifiedAt : Option Nat := none
  deriving DecidableEq, Repr

/-- A peer stream relayed from a ring port, for its acknowledgements (R343, R355): CHAIN of its chain, CUM and BITMAP. -/
structure RelayUnit where
  chain : Option Nat := none
  cum : Option Nat := none
  bitmap : Nat := 0
  deriving DecidableEq, Repr

/-- A frame on its way into Locket (R289, R349): a store copy of a stream, or a diverted frame of a link. -/
structure StoreFrame where
  /-- `none`: the stream's own ring or window; `some (link, tenant)`: a spill object. -/
  spill : Option (Nat × Nat)
  item : Item
  prio : Nat := 0
  /-- Endpoint it was bound for, when diverted. -/
  endpoint : Nat := 256
  deriving DecidableEq, Repr

/-- Segmentation of a stream (R325 to R328). -/
structure SegUnit where
  /-- Copies in the open frame, oldest first. -/
  copies : List Copy := []
  /-- A progress mark has come since the last frame; the elapsed time that was sealed. -/
  due : Bool := false
  sentAt : Nat := 0
  /-- Time whose configuration gives the destinations of the stream's next frame without sentences (R197). -/
  ref : Nat := 0
  deriving DecidableEq, Repr

/-- A statement waiting for its round, or a checkpoint frame waiting to be sealed (R373 to R377). -/
structure Checkpoint where
  stream : Nat
  kind : Nat
  covered : Nat
  /-- The 128-byte statement of R374. -/
  statement : List Byte
  /-- Once its round is signed: the body from byte 128 of R377. -/
  proof : List Byte := []
  signed : Bool := false
  deriving DecidableEq, Repr

/-- The chain of a stream (R368 to R371). -/
structure Chain where
  isOpen : Bool := false
  nonce : List Byte := []
  keyF : List Byte := []
  keyE : List Byte := []
  encrypt : Bool := false
  /-- Next FRAME_SEQ. -/
  seq : Nat := 0
  tag : List Byte := []
  digest : List Byte := []
  /-- D0 device time value at the last seal, and PROGRESS of the last frame. -/
  sealTime : List Byte := []
  progress : Nat := 0
  /-- Frames sealed that count for CP_INTERVAL (R373). -/
  counted : Nat := 0
  /-- D0 time of the last periodic checkpoint falling due, or of the opening. -/
  lastCp : Nat := 0
  /-- SIG_STREAM_CFG as it took effect at the opening (R385). -/
  cfg : Nat := 0
  /-- A checkpoint due and not yet placed in a round: the frame it covers and its statement (R373, R374). -/
  due : Option (Nat × List Byte) := none
  /-- The last stratum has been emitted after a disable: the final checkpoint and the end-of-stream frame are to
  come (R378). -/
  ending : Bool := false
  /-- Priority and TIME_FIRST of the last frame (R330, R324). -/
  prio : Option Nat := none
  timeFirst : Nat := 0
  deriving DecidableEq, Repr
/-- A slave instance of PTP (R393 to R398). Times and offsets are in 2^-8 ticks. -/
structure PtpInst where
  /-- The Sync that waits for its Follow_Up: sequenceId, t2, its correction, and the elapsed time it came. -/
  sync : Option (Nat × Int × Int × Nat) := none
  /-- t1 and t2 of the last complete Sync, and the Delay_Req that waits for its answer: sequenceId and t3. -/
  pair : Option (Int × Int) := none
  req : Option (Nat × Int) := none
  /-- Valid offsets since the present acquisition step began, at most 8, and the last 64; newest first. -/
  fresh : List Int := []
  offsets : List Int := []
  /-- Of D1: the last 64 exchanges, newest first, as their elapsed time and D0 − D1. -/
  diffs : List (Nat × Int) := []
  /-- Elapsed times of the last valid Sync and of the last valid sample. -/
  syncAt : Nat := 0
  sampleAt : Nat := 0
  /-- Outliers in a row. -/
  outliers : Nat := 0
  /-- Of D1: 0 no source, 1 acquiring, 2 stepped, 3 tracking. -/
  phase : Nat := 0
  /-- Grandmaster identity and steps removed, from the parent's Announce. -/
  master : Option (Nat × Nat) := none
  deriving DecidableEq, Repr

/-- A domain against D0 (R389, R418): its time less D0's at D0 time `ref`, and its rate in 2^-48. -/
structure Line where
  off : Int := 0
  ref : Nat := 0
  rate : Int := 0
  deriving DecidableEq, Repr

/-- A commit of R421 that waits: the value, in ticks, that the domain has at the instant `at_` of its own time, or,
when `edge` is set, at the next PPS_IN edge accepted after elapsed time `since`: less its cable's delay, `met` of D0 time. -/
structure TimeSet where
  value : Nat
  at_ : Int
  edge : Bool := false
  since : Nat := 0
  met : Option Int := none
  deriving DecidableEq, Repr

/-- A calibration under way (R402): elapsed time of its start, TIM_CAL_CFG as it stood then, θ of each sample newest first,
and the second of the last pulse. -/
structure Calibration where
  since : Nat
  cfg : Word := 0
  samples : List Int := []
  last : Option Nat := none
  deriving DecidableEq, Repr

/-- The time system, beside its registers (R386 to R429). -/
structure TimeUnit where
  /-- domainNumber of D0 and of D1 as taken at local ready (R429). -/
  number0 : Nat := 0
  number1 : Nat := 1
  inst0 : PtpInst := {}
  inst1 : PtpInst := {}
  /-- D1 in 2^-8 ticks, D2 and D3 in ticks. -/
  line1 : Line := {}
  line2 : Line := {}
  line3 : Line := {}
  /-- Elapsed time of entry into the servo's state, and whether D0 has stepped in this acquisition (R405). -/
  since : Nat := 0
  stepped : Bool := false
  /-- Elapsed times at which REF10M and PPS_IN were lost, of the last accepted edge, and of the first one since the
  loss; edges rejected in a row. -/
  refLostAt : Option Nat := none
  ppsLostAt : Option Nat := none
  ppsAt : Option Nat := none
  ppsSince : Option Nat := none
  rejects : Nat := 0
  /-- D0 boundary last published for, and the D0 seconds, among the present and the next, for which D2's segment
  saturated (R418). -/
  published : Option Nat := none
  saturated : List Nat := []
  sets : Sparse (Option TimeSet) := []
  calibration : Option Calibration := none
  /-- D0 sentence time of the next edge of each scheduled pulse. -/
  pulses : Sparse Nat := []
  /-- D0 second at which each frequency output's commit applies. -/
  foutDue : Sparse Nat := []
  /-- Last second, counted from 1, at whose boundary each domain's PPS pin was served (R423). -/
  ppsOut : Sparse Nat := []
  /-- By 8 × domain + port: sync interval last served, counted from 1, and elapsed time of the last Delay_Req and
  Announce. -/
  syncSent : Sparse Nat := []
  reqAt : Sparse (Option Nat) := []
  announceAt : Sparse (Option Nat) := []
  /-- Next sequenceId, by 64 × kind + 8 × domain + port: 0 Sync, 1 Delay_Req, 2 Announce, 3 Signaling. -/
  seqs : Sparse Nat := []
  /-- QL last sent on a port and the elapsed time. -/
  esmc : Sparse (Option (Nat × Nat)) := []
  /-- Last sequenceNo accepted from each sourcePortIdentity (R383). -/
  heard : List (Nat × Nat) := []
  /-- Elapsed time since which the topology's D0 parent has shown TQ 0x3, and of its last message that did (R414). -/
  tq3Since : Option (Nat × Nat) := none
  deriving DecidableEq, Repr

/-- A time-interval unit of an edge port, beside its registers (R430 to R441). -/
structure EdgeUnit where
  /-- Start and stop edges in D0 time, 2^-8 ticks, and the elapsed times of the start and of the result. -/
  start : Nat := 0
  stop : Nat := 0
  startedAt : Nat := 0
  resultAt : Option Nat := none
  /-- Results so far, and the last result as a snapshot read takes it: stamp and interval. -/
  results : Nat := 0
  lastStart : Nat := 0
  lastInterval : Nat := 0
  /-- Elapsed time of the last measurement of the ring periods (R432). -/
  calAt : Nat := 0
  /-- D0 time of the next output pulse. -/
  nextOut : Nat := 0
  deriving DecidableEq, Repr

/-- The environment converters (R442 to R449). -/
structure EnvUnit where
  /-- Channels still to convert in this scan: each of 0 to 3, and the matrix channels in order. -/
  todo : List Nat := []
  /-- The channel of each converter whose repeat is under way. -/
  repeats : List Nat := []
  /-- D0 second of the last scan boundary taken, and a scan that waits for the present one. -/
  lastScan : Option Nat := none
  waiting : Bool := false
  /-- Elapsed time and VALUE of the last valid reading, by channel. -/
  valid : Sparse (Option (Nat × Int)) := []
  deriving DecidableEq, Repr

/-- A driven pin that can trip: an interlock output or a utility pin (R451 to R455). -/
structure TripUnit where
  /-- Elapsed time of the trip, and whether its switch has cooled since a thermal one. -/
  trippedAt : Nat := 0
  cooled : Bool := true
  /-- Elapsed end of the guard of a utility pin. -/
  guardEnd : Nat := 0
  /-- D0 time of the last accepted external trigger edge. -/
  lastEdge : Option Nat := none
  deriving DecidableEq, Repr

/-- A send under way, or waiting for another attempt (R471, R472): its object, 128 for the tunnel queue. -/
structure CanSend where
  object : Nat
  frame : CanFrame
  retries : Nat := 0
  /-- An ABORT came during the attempt (R473). -/
  aborted : Bool := false
  deriving DecidableEq, Repr

/-- A field-bus channel, beside its registers (R461 to R480). -/
structure FbusUnit where
  /-- MODE in force. -/
  mode : Nat := 0
  /-- The attempt under way, and the sends of pending objects whose content is latched. -/
  sending : Option CanSend := none
  latched : List CanSend := []
  /-- Objects requested again in the window in which their request ends (R480). -/
  again : List Nat := []
  /-- Transmit records waiting, oldest first. -/
  tunnel : List CanFrame := []
  tunnelRetries : Nat := 0
  /-- FSEQ: the count of received frames, modulo 65,536 (R469). -/
  fseq : Nat := 0
  /-- Elapsed time at which a detection was started. -/
  abdAt : Nat := 0
  deriving DecidableEq, Repr

/-- A token (R495): its request, where its answer goes, and the answer once it has come. -/
structure Token where
  id : Nat
  tenant : Nat
  host : Nat
  /-- Header and plaintext data of the host's request. -/
  request : List Byte
  /-- MSEQ of the bridge transaction that carries it, target, and the elapsed time it was sent; `none`: of this
  device. -/
  bridge : Option (Nat × Nat × Nat) := none
  /-- The answer: STATUS, TOKEN bits, data, and the elapsed time it came. -/
  answer : Option (Nat × Nat × List Byte × Nat) := none
  /-- No host collects it: a posted write in notify mode (R498), or the reading of a watch (R505). -/
  posted : Bool := false
  watch : Option Nat := none
  deriving DecidableEq, Repr

/-- A lock of this device (R500): its holder (source device, tenant, host), range, and the elapsed time granted. -/
structure MgmtLock where
  source : Nat
  tenant : Nat
  host : Nat
  address : Nat
  size : Nat
  since : Nat
  deriving DecidableEq, Repr

/-- A watch, beside its registers (R505). -/
structure WatchUnit where
  /-- A reading has been taken since it was enabled, and the elapsed time of the last one. -/
  primed : Bool := false
  at_ : Option Nat := none
  failed : Bool := false
  deriving DecidableEq, Repr

/-- Clasp, beside its registers (R482 to R505). -/
structure Clasp where
  nonce : List Byte := []
  /-- Greatest sequence accepted and the bitmap of the 64 below it, by tenant × 16 + host; and of bridge requests, by
  source device × 32 + tenant. -/
  seen : Sparse (Option (Nat × Nat)) := []
  bridgeSeen : Sparse (Option (Nat × Nat)) := []
  /-- Session nonces held: of the devices this one sends to, by number; and, by 16,384 + number, those under which
  other devices' requests are checked. -/
  nonces : Sparse (List Byte) := []
  /-- Bridge requests that wait for a HELLO's answer, by source device (R496). -/
  doubted : Sparse (List (Origin × List Byte)) := []
  /-- Bridge transactions that wait for their target's nonce: target, token. -/
  unsent : List (Nat × Nat) := []
  bridgeSeq : Nat := 0
  tokens : List Token := []
  nextToken : Nat := 1
  lock : Option MgmtLock := none
  /-- Far locks held for hosts (R501): tenant, host, device, elapsed time granted. -/
  farLocks : List (Nat × Nat × Nat × Nat) := []
  /-- Most recent authenticated request of each tenant, for TUNNEL_RX (R504), and the sequence of those. -/
  homes : Sparse (Option Origin) := []
  tunnelSeq : Sparse Nat := []
  /-- Hosts of END_TO_END messages: their MSEQ, where they are, and the elapsed time (R497). -/
  endToEnd : List (Nat × Origin × Nat) := []
  watches : Sparse WatchUnit := []
  /-- A host's transaction is being executed; a core reset that it causes leaves it unanswered. -/
  busy : Bool := false
  deriving DecidableEq, Repr

/-- The service port, beside its registers (R506 to R509): frames waiting, oldest first; of the first, its collisions,
the elapsed time before which it must wait after one, and that at which its transmission began. -/
structure SvcPort where
  frames : List (List Byte) := []
  attempts : Nat := 0
  waitTo : Option Nat := none
  sentAt : Option Nat := none
  deriving DecidableEq, Repr


/-- What the device holds of another device from its heartbeats (R527, R528). -/
structure HbPeer where
  /-- By BOOT_ID: the cumulative HB_SEQ and the bitmap of the 64 values beyond it (R527). -/
  boots : List (Nat × Nat × Nat) := []
  /-- Of the last heartbeat accepted: its BOOT_ID, HSTATE, ROLE_ID, INCARNATION and QUORUM. -/
  bootId : Nat := 0
  hstate : Nat := 0
  roleId : Nat := 0
  incarnation : Nat := 0
  quorum : List Nat := []
  /-- Elapsed time and D0 time of it; `heard` says there was one. -/
  at_ : Nat := 0
  stamp : Nat := 0
  heard : Bool := false
  deriving DecidableEq, Repr

/-- An accepted heartbeat that names suspects, kept as a co-vote (R532). -/
structure CoVote where
  voter : Nat
  subject : Nat
  incarnation : Nat
  at_ : Nat
  msg : List Byte
  deriving DecidableEq, Repr

/-- An accepted fence notice (R534). -/
structure Notice where
  subject : Nat
  incarnation : Nat
  msg : List Byte
  /-- Elapsed time of the last re-send (R538). -/
  resentAt : Option Nat := none
  deriving DecidableEq, Repr

/-- A chronicle entry held for repeats (R543). -/
structure HeldEntry where
  entry : ChronEntry
  since : Nat
  deriving DecidableEq, Repr

/-- Sentinel events, unit resets and isolations counted toward R519, and the supervisor's copies (R522). -/
structure Supervisor where
  /-- (domain, index, ring, elapsed time) of recent sentinel events. -/
  events : List (Nat × Nat × Nat × Nat) := []
  /-- (domain, index, elapsed time) of recent unit resets. -/
  resets : List (Nat × Nat × Nat) := []
  /-- Copies outvoted and awaiting the resynchronisation point. -/
  outvoted : List Nat := []
  /-- (copy, elapsed time) of reloads. -/
  reloads : List (Nat × Nat) := []
  voteFailed : Bool := false
  hbSeq : Nat := 0
  /-- Elapsed time of the last heartbeat sent. -/
  hbAt : Option Nat := none
  /-- Which pair of suspects the next heartbeat names (R526). -/
  turn : Nat := 0
  coVotes : List CoVote := []
  notices : List Notice := []
  /-- Pairs of subject and incarnation whose notice is accepted (R534). -/
  accepted : List (Nat × Nat) := []
  /-- (device, BOOT_ID) of reset words sent (R530). -/
  wordsSent : List (Nat × Nat) := []
  /-- Wake duties under way (R564): SUP_WATCH entry, elapsed time of the first frame and of the last. -/
  waking : List (Nat × Nat × Nat) := []
  chronHeld : List HeldEntry := []
  /-- Tenant resets in progress: (tenant, elapsed time of step 1). -/
  tenantResets : List (Nat × Nat) := []
  /-- Elapsed time of local ready, and EMB_WAKE_CAUSE at the start. -/
  readyAt : Nat := 0
  wakeCause : Nat := 0
  deriving DecidableEq, Repr

/-- The exchange on a ring port (R556). -/
structure Exchange where
  /-- NONCE of the present attempt. -/
  nonce : List Byte := []
  acceptOk : Bool := false
  /-- The peer's last valid offer, accepted in this attempt. -/
  offer : Option (List Byte) := none
  /-- Elapsed time at which the attempt began, and at which the last offer was sent. -/
  since : Nat := 0
  sentAt : Nat := 0
  /-- An attempt is under way and not complete. -/
  active : Bool := false
  /-- The peer's identity record, and its PTP_SEQ_HI (R383). -/
  identity : List Byte := []
  ptpHi : Option Nat := none
  deriving DecidableEq, Repr

/-- What a core reset clears (R60), beside the register file. -/
structure Units where
  /-- D0 time in ticks since its epoch, not reduced; sentence time is its low 64 bits. -/
  d0 : Nat := 0
  tenants : Sparse Tenant := []
  topo : Option Topology := none
  /-- Slot and confirmation deadline (elapsed) of the running image. -/
  imgDeadline : Option Nat := none
  imgRaise : Option Nat := none
  imgOp : Option ImgOp := none
  /-- Register values applied at local ready, for tenant resets (R513). -/
  ready : Sparse Word := []
  /-- Captures of the snapshot registers, by reader × 2^32 + address (R576). -/
  snaps : Sparse Word := []
  /-- Outputs are stopped by a dormancy request (R66). -/
  silent : Bool := false
  queues : Sparse QueueUnit := []
  /-- Secret bytes of each key-store entry (R95). -/
  keys : Sparse (List Byte) := []
  chains : Sparse Chain := []
  /-- D0 time of the last close of a round, at first 0 (R375). -/
  roundAt : Nat := 0
  /-- Statements placed in the open round, and checkpoints of signed rounds not yet sealed. -/
  checkpoints : List Checkpoint := []
  entropyBad : Bool := false
  ownerData : Sparse Byte := []
  /-- Bytes of it that came by another way than the service port. -/
  ownerFar : List Nat := []
  ownerPending : Option OwnerCopy := none
  /-- sequenceNo of each ring port's time messages (R382): upper half and counter. -/
  ptpSeq : Sparse (Nat × Nat) := []
  hb : Sparse HbPeer := []
  sup : Supervisor := {}
  exch : Sparse Exchange := []
  lanes : Sparse LaneUnit := []
  /-- Talkers by lane × 128 + address. -/
  talkers : Sparse TalkerUnit := []
  /-- Conversion segments of D1 to D3, newest first (R167). -/
  segs : Sparse (List ConvSeg) := []
  /-- Elapsed time of each rule's last mark (R179). -/
  marks : Sparse (Option Nat) := []
  /-- Rules of the active (true) or shadow bank with an uncorrectable word (R521). -/
  badRules : List (Bool × Nat) := []
  /-- Changes of D0 quality, newest first: sentence time and the quality before (R168). -/
  tqLog : List (Nat × Nat) := []
  cal : Sparse CalStream := []
  shares : Shares := {}
  /-- Segments of the recording ring, newest first. -/
  ring : List Segment := []
  freezes : List Freeze := []
  /-- Launches so far. -/
  launches : Nat := 0
  /-- Windows read out, by stream, start and end (R272). -/
  windowsRead : List (Nat × Nat × Nat) := []
  /-- Freezes numbered so far. -/
  freezeCount : Nat := 0
  programs : Sparse ProgUnit := []
  ext : List ExtInput := []
  /-- Counts by group, for each interval by its number (R254). -/
  counts : Sparse (Sparse Nat) := []
  /-- ORIGIN_SEQ of the next broadcast; and per origin the cumulative sequence and bitmap of R266. -/
  bcastSeq : Nat := 0
  bcastSeen : Sparse (Nat × Nat) := []
  /-- BLOCK_SEQ of each readout stream's next block (R326). -/
  blockSeq : Sparse Nat := []
  store : Store := {}
  /-- Endpoints by port × 256 + endpoint, ports 0 to 31 listener and 32 to 39 ring. -/
  endpoints : Sparse EndpointUnit := []
  /-- Pauses by link × 8 + priority, and links by id, 256 + r for ring port r. -/
  pauses : Sparse Pause := []
  links : Sparse LinkUnit := []
  /-- Peer streams that ring ports relay, by (port × 16384 + origin device) × 8192 + stream (R355). -/
  relays : Sparse RelayUnit := []
  /-- Frames waiting for Locket, oldest first. -/
  storeIn : List StoreFrame := []
  seg : Sparse SegUnit := []
  time : TimeUnit := {}
  edges : Sparse EdgeUnit := []
  env : EnvUnit := {}
  /-- Interlock outputs and utility pins. -/
  ilk : Sparse TripUnit := []
  utl : Sparse TripUnit := []
  /-- Level last put out on each utility pin between pulses. -/
  driven : Sparse Drive := []
  fbus : Sparse FbusUnit := []
  clasp : Clasp := {}
  svc : SvcPort := {}
  deriving DecidableEq, Repr

/-- What no core reset touches: Ember's state and pins, one-time arrays, the structured parts of the flash
(chronicle, owner record), the drives, and the model's own clock. -/
structure Keep where
  /-- Ticks since the model's beginning; the model's own clock for every interval the manual bounds. -/
  elapsed : Nat := 0
  ember : Ember := {}
  /-- The newest 4,096 chronicle entries, newest first (R542), and the SEQ of the newest. -/
  chron : List ChronEntry := []
  chronSeq : Nat := 0
  /-- Ticks of credit of the chronicle's rate limit, its last update, and entries suppressed (R543). -/
  chronCredit : Nat := 32768000000000
  chronAt : Nat := 0
  chronLost : Nat := 0
  owner0 : Option OwnerCopy := none
  owner1 : Option OwnerCopy := none
  /-- One-time array: security floor and raises spent (R103). -/
  floor : Nat := 0
  raises : Nat := 0
  /-- Flash addresses that read uncorrectable (R97). -/
  flashBad : List Nat := []
  bays : Sparse Bay := []
  /-- IVs used with acknowledgement keys (R351). -/
  ivs : Nat := 0
  deriving DecidableEq, Repr

/-- The machine. -/
structure State where
  /-- Commands waiting, first in, first out. -/
  pending : List Instr := []
  part : Part := .iav4810
  /-- DEV_ID.STEPPING is B rather than A. -/
  stepB : Bool := true
  /-- Current value of every register by address: for a staged field, the staged value (R577). -/
  regs : Sparse Word := []
  /-- Value in force of staged fields (R577). -/
  force : Sparse Word := []
  /-- The flash by address (R82). -/
  flash : Sparse Byte := []
  win : Win := {}
  /-- Everything put out so far, oldest first. -/
  out : List Emission := []
  /-- Free values drawn so far; the model's own field (log entry 3). -/
  free : Nat := 0
  keep : Keep := {}
  units : Units := {}
  deriving DecidableEq, Repr

/-- The machine right after a cold reset (R60): Ember at its cold values, PWR_ON high, no main supply valid yet. -/
def State.reset : State := {}

end Sys2Proof.Machine
end

