-- ==== Sys2Proof/Machine/Ops.lean ====
section
/-! DEFINITION. The named operations every meaning is made of: reading and writing register fields, staging, counters
and status bits with their same-window outcomes (R569, R573 to R580), free values, outputs, and the program form
`Act` in which a meaning says what it does. -/

namespace Sys2Proof.Machine

/-! ## Addresses -/

/-- The region of an address (R586); 18 when it lies in none. -/
def regionOf (a : Nat) : Nat :=
  if a ≥ 0x0B000000 then 18
  else if a ≥ 0x01000000 then a / 0x01000000 + 7
  else if a < 0x10000 then 0
  else if a < 0x20000 then 1
  else if a < 0x40000 then 2
  else if a < 0x80000 then 3
  else if a < 0xC0000 then 4
  else if a < 0x100000 then 5
  else if a < 0x200000 then 6
  else 7

/-- Splits an offset by the strides of a register heading; `none` when an index is out of range. -/
def indices : List Axis → Nat → Option (List Nat × Nat)
  | [], off => some ([], off)
  | x :: xs, off =>
    let i := off / x.stride
    if i < x.count then (indices xs (off % x.stride)).map (fun r => (i :: r.1, r.2)) else none

/-- The instance of a heading that holds byte address `a`, and the byte's offset in it. -/
def RegRow.find (row : RegRow) (a : Nat) : Option (List Nat × Nat) :=
  if a < row.base then none
  else match indices row.axes (a - row.base) with
    | some (is, o) => if o < row.bytes then some (is, o) else none
    | none => none

/-- The first register of a list that holds byte address `a`. -/
def findIn : List Reg → Nat → Option (Reg × List Nat × Nat)
  | [], _ => none
  | r :: rs, a => match r.row.find a with
    | some (is, o) => some (r, is, o)
    | none => findIn rs a

/-- The register, its indices and the byte offset at byte address `a` (R586). -/
def locate (a : Nat) : Option (Reg × List Nat × Nat) := findIn (Reg.ofRegion (regionOf a)) a

/-! ## Register words -/

/-- The mask of bits `msb` down to `lsb`. -/
def fieldMask (msb lsb : Nat) : Word := BitVec.ofNat 64 ((2 ^ (msb + 1 - lsb) - 1) <<< lsb)

/-- Replaces bits `msb` down to `lsb` of a word. -/
def putBits (w : Word) (msb lsb v : Nat) : Word :=
  (w &&& ~~~ fieldMask msb lsb) ||| (BitVec.ofNat 64 (v <<< lsb) &&& fieldMask msb lsb)

/-- Bits `msb` down to `lsb` of a word. -/
def getBits (w : Word) (msb lsb : Nat) : Nat := bits w.toNat msb lsb

/-- The reset value a field table gives. -/
def RegRow.resetValue (row : RegRow) : Word := row.fields.foldl (fun w f => putBits w f.msb f.lsb f.reset) 0

/-- The value a register address holds after a core reset (R60 and the tables of each chapter). Notification queues
have their own (R246), and SVC_MAC takes the serial number (R510). -/
def resetWord (a : Nat) : Word :=
  match locate a with
  | none => 0
  | some (r, is, o) =>
    if o ≠ 0 then 0
    else match r, is with
      | .Q_CFG, [q] => if 2112 ≤ q ∧ q < 2144 then 0x80010400 else r.row.resetValue
      | .FLT_TENANT_RULES, [0] => putBits r.row.resetValue (F.FLT_TENANT_RULES_MAX_CLASS 0).msb (F.FLT_TENANT_RULES_MAX_CLASS 0).lsb 7
      | .Q_QUOTA, [q] => if 2112 ≤ q ∧ q < 2144 then 0x400 else r.row.resetValue
      | .SVC_MAC, _ => 0x024942000000 ||| (Config.serial &&& 0xFFFFFF)
      | _, _ => r.row.resetValue

/-- The current value of the register at an address: the staged value of a staged field. -/
def State.rd (s : State) (a : Nat) : Word := Sparse.get resetWord s.regs a

/-- The value in force of the register at an address (R577). -/
def State.rdForce (s : State) (a : Nat) : Word := Sparse.get resetWord s.force a

/-- The current value of a field. -/
def State.get (s : State) (f : Field) : Nat := getBits (s.rd f.addr) f.msb f.lsb

/-- The value in force of a staged field. -/
def State.live (s : State) (f : Field) : Nat := getBits (s.rdForce f.addr) f.msb f.lsb

/-- A one-bit field is 1. -/
def State.is (s : State) (f : Field) : Bool := s.get f ≠ 0

/-- A one-bit staged field is 1 in force. -/
def State.liveIs (s : State) (f : Field) : Bool := s.live f ≠ 0

/-- Width of a field. -/
def Field.width (f : Field) : Nat := f.msb + 1 - f.lsb

/-- A byte of the flash; an erased byte reads 0xFF (R82). -/
def State.flashByte (s : State) (a : Nat) : Byte := Sparse.get (fun _ => 0xFF) s.flash a

/-- `n` bytes of the flash. -/
def State.flashBytes (s : State) (a n : Nat) : List Byte := (List.range n).map (fun i => s.flashByte (a + i))

/-! ## Programs -/

/-- What a command does to the machine: primitive writes in sequence, with looks at the state between them. -/
inductive Act where
  | skip
  | seq (a b : Act)
  /-- Decides on the state as it stands. -/
  | look (k : State → Act)
  /-- The current value of the register at an address. -/
  | reg (a : Nat) (v : Word)
  /-- The value in force of the register at an address. -/
  | inForce (a : Nat) (v : Word)
  /-- One byte of the flash. -/
  | flash (a : Nat) (b : Byte)
  /-- One more output. -/
  | emit (m : Emission)
  /-- Unit state. -/
  | units (f : Units → Units)
  /-- State that outlives a core reset. -/
  | keep (f : Keep → Keep)
  | win (f : Win → Win)
  /-- Draws a free value. -/
  | draw (k : Word → Act)
  /-- The register part of a core reset (R60, R62, R80): every register but Ember's and RAIL_OK. -/
  | resetRegs
  /-- Every register back to its reset value, Ember's too (R60, cold and full). -/
  | resetAll

/-- Ember's registers, which only a cold or full reset clears (R80). -/
def emberAddr (a : Nat) : Bool := 0x00010100 ≤ a && a < 0x00010300

/-- The effect of a program. -/
def Act.run : Act → State → State
  | .skip, s => s
  | .seq a b, s => b.run (a.run s)
  | .look k, s => (k s).run s
  | .reg a v, s => { s with regs := Sparse.set resetWord s.regs a v }
  | .inForce a v, s => { s with force := Sparse.set resetWord s.force a v }
  | .flash a b, s => { s with flash := Sparse.set (fun _ => 0xFF) s.flash a b }
  | .emit m, s => { s with out := s.out ++ [m] }
  | .units f, s => { s with units := f s.units }
  | .keep f, s => { s with keep := f s.keep }
  | .win f, s => { s with win := f s.win }
  | .draw k, s => (k (Config.freeValue s.free)).run { s with free := s.free + 1 }
  | .resetRegs, s =>
    { s with regs := s.regs.filter (fun e => emberAddr e.1), force := s.force.filter (fun e => emberAddr e.1) }
  | .resetAll, s => { s with regs := [], force := [] }

/-- A list of programs in order. -/
def Act.all : List Act → Act
  | [] => .skip
  | a :: as => .seq a (Act.all as)

/-- One program for each element of a list, in order. -/
def Act.each {α : Type} (l : List α) (f : α → Act) : Act := Act.all (l.map f)

/-- A program under a condition. -/
def Act.when (c : Bool) (a : Act) : Act := if c then a else .skip

/-! ## Register fields -/

/-- Writes a field, leaving the rest of its register. -/
def put (f : Field) (v : Nat) : Act := .look fun s => .reg f.addr (putBits (s.rd f.addr) f.msb f.lsb v)

/-- Writes the value in force of a field. -/
def putForce (f : Field) (v : Nat) : Act :=
  .look fun s => .inForce f.addr (putBits (s.rdForce f.addr) f.msb f.lsb v)

/-- Copies the staged word of a register to the value in force (R577). -/
def commitWord (a : Nat) : Act := .look fun s => .inForce a (s.rd a)

/-- Hardware sets a status bit on its event: it survives a software clear of the same window (R579). -/
def event (f : Field) : Act :=
  .seq (put f (2 ^ f.width - 1))
    (.win fun w => { w with sets := (f.addr, (2 ^ f.width - 1) <<< f.lsb) :: w.sets })

/-- Hardware sets one bit `i` of a multi-bit status field. -/
def eventBit (f : Field) (i : Nat) : Act := event ⟨f.addr, f.lsb + i, f.lsb + i⟩

/-- Bits of a register that hardware set in this window. -/
def Win.setMask (w : Win) (a : Nat) : Nat :=
  w.sets.foldl (fun m e => if e.1 = a then m ||| e.2 else m) 0

/-- Increments of a counter in this window. -/
def Win.counted (w : Win) (a : Nat) : Nat :=
  w.counts.foldl (fun m e => if e.1 = a then m + e.2 else m) 0

/-! ## Ownership (R511, R624) -/

/-- A tenant's record; T0 is always enabled with every right (R94). -/
def State.tenant (s : State) (t : Nat) : Tenant :=
  let r := Sparse.get (fun _ => ({} : Tenant)) s.units.tenants t
  if t = 0 then { r with enabled := true, rights := 0x3FFFF } else r

/-- The enabled tenants other than T0, rising. -/
def State.tenantList (s : State) : List Nat := (List.range 32).filter (fun t => t ≠ 0 && (s.tenant t).enabled)

/-- Owner of a stream: the enabled tenant whose range holds it, else T0. -/
def State.streamOwner (s : State) (st : Nat) : Nat :=
  (s.tenantList.find? (fun t =>
    (s.tenant t).firstStream ≤ st && st < (s.tenant t).firstStream + (s.tenant t).streamCount)).getD 0

/-- Owner of a filter rule in a bank: staged ranges for the shadow bank, ranges in force for the active one. -/
def State.ruleOwner (s : State) (inForce : Bool) (r : Nat) : Nat :=
  let g := fun f : Field => if inForce then s.live f else s.get f
  (s.tenantList.find? (fun t =>
    g (F.FLT_TENANT_RULES_FIRST_RULE t) ≤ r &&
    r < g (F.FLT_TENANT_RULES_FIRST_RULE t) + g (F.FLT_TENANT_RULES_RULE_COUNT t))).getD 0

/-- Owner of listener link `l`'s queues: the one tenant other than T0 whose LINKS include it, else T0. -/
def State.linkOwner (s : State) (l : Nat) : Nat :=
  match s.tenantList.filter (fun t => (s.tenant t).links.testBit l) with
  | [t] => t
  | _ => 0

/-- Owner of a queue. -/
def State.queueOwner (s : State) (q : Nat) : Nat :=
  if q < 2048 then s.linkOwner (q / 8)
  else if 2112 ≤ q ∧ q < 2144 then q - 2112
  else 0

/-- The tenant that the manual names as owner of the instance a register address belongs to (R511, R512); `none` where
it names none. -/
def State.namedOwner (s : State) (a : Nat) : Option Nat :=
  match locate a with
  | none => none
  | some (r, is, _) =>
    let i := is.headD 0
    match r with
    | .STR_CFG | .STR_CTRL | .STR_STATUS | .STR_DEST | .STR_COUNTER
    | .CAL_STREAM_CFG | .CAL_STREAM_VENT | .CAL_STREAM_STATUS | .CAL_STREAM_HOLDER | .CAL_STREAM_OLDEST
    | .CAL_STREAM_HOLD | .CAL_STREAM_APPLY | .CAL_STREAM_LATE_MAX | .CAL_STREAM_LANES | .CAL_STREAM_COUNTER
    | .LKT_STREAM_CFG | .LKT_STREAM_SPAN | .LKT_STREAM_HELD | .LKT_STREAM_COUNTER
    | .LSN_STREAM_SEG | .LSN_STREAM_FRAME_SEQ
    | .SIG_STREAM_CFG | .SIG_STREAM_STATUS | .SIG_STREAM_COVERED | .SIG_STREAM_COUNTER => some (s.streamOwner i)
    | .FLT_RULE => some (s.ruleOwner false i)
    | .FLT_RULE_ACTIVE | .FLT_RULE_HITS => some (s.ruleOwner true i)
    | .Q_CFG | .Q_QUOTA | .Q_THRESHOLD | .Q_CTRL | .Q_STATUS | .Q_DEPTH | .Q_POINTERS | .Q_SEGMENT | .Q_COUNTER =>
      some (s.queueOwner i)
    | .LSN_ENDPOINT_W0 | .LSN_ENDPOINT_W1 | .LSN_ENDPOINT_W2 | .LSN_ENDPOINT_W3 | .LSN_ENDPOINT_W4
    | .LSN_ENDPOINT_W5 | .LSN_ENDPOINT_CTRL | .LSN_ENDPOINT_STATUS =>
      some (s.live (F.LSN_ENDPOINT_W0_OWNER i ((is.drop 1).headD 0)))
    | .RNG_ENDPOINT_W0 | .RNG_ENDPOINT_W1 | .RNG_ENDPOINT_W2 | .RNG_ENDPOINT_W3 | .RNG_ENDPOINT_W4
    | .RNG_ENDPOINT_W5 | .RNG_ENDPOINT_CTRL | .RNG_ENDPOINT_STATUS =>
      some (s.live (F.RNG_ENDPOINT_W0_OWNER i ((is.drop 1).headD 0)))
    | .GEY_PROG | .GEY_PROG_CTRL | .GEY_PROG_STATUS | .GEY_PROG_OWNER | .GEY_PROG_SOFT_TIME | .GEY_PROG_LAST
    | .GEY_PROG_APPLY | .GEY_PROG_COUNTER => some (s.get (F.GEY_PROG_OWNER_TENANT i))
    | .SIG_KEY_INFO => some (s.get (F.SIG_KEY_INFO_TENANT i))
    | .CAL_TENANT_CFG | .CAL_TENANT_QUOTA | .CAL_TENANT_STATUS | .CAL_TENANT_COUNTER
    | .CLP_TENANT_CFG | .CLP_TENANT_ERR | .CLP_TENANT_COUNTER
    | .TEN_STATUS | .TEN_CTRL | .TEN_RESET_TIME | .TEN_LOG_HEAD | .TEN_COUNTER | .TEN_LOG => some i
    | .LKT_WINDOW_W0 | .LKT_WINDOW_W1 | .LKT_WINDOW_W2 | .LKT_WINDOW_W3 | .LKT_WINDOW_W4 | .LKT_WINDOW_W5
    | .LKT_WINDOW_CTRL => some (s.streamOwner (s.get (F.LKT_WINDOW_W0_STREAM i)))
    | _ => none

/-- The tenant that owns the instance a register address belongs to (R511); T0 for instances of no tenant. -/
def State.ownerOf (s : State) (a : Nat) : Nat := (s.namedOwner a).getD 0

/-- The tenant may write in the region of an address (R106, R512). -/
def State.hasRight (s : State) (t a : Nat) : Bool :=
  t = 0 || ((s.tenant t).enabled && (s.tenant t).rights.testBit (regionOf a))

/-- The tenant may write the register at an address (R106, R512): T0 alone in region 2, and its own TEN_CTRL whatever
its rights. -/
def State.mayWrite (s : State) (t a : Nat) : Bool :=
  t = 0 || ((s.tenant t).enabled && (a = (F.TEN_CTRL_RESET t).addr || (s.hasRight t a && regionOf a ≠ 2
    && (match s.namedOwner a with | some o => o = t | none => true))))

/-! ## Variants (R583) -/

/-- Lanes, listener ports, store ports and near-buffer stacks of a part. -/
def Part.lanes : Part → Nat
  | .iav4810 => 1024 | .iav4610 => 512 | .iav4410 => 256 | .iav4010 => 1024

def Part.listenerPorts : Part → Nat
  | .iav4810 => 32 | .iav4610 => 16 | .iav4410 => 8 | .iav4010 => 0

def Part.storePorts : Part → Nat
  | .iav4810 => 16 | .iav4610 => 8 | .iav4410 => 0 | .iav4010 => 0

def Part.stacks : Part → Nat
  | .iav4810 => 8 | .iav4610 => 4 | .iav4410 => 0 | .iav4010 => 0

/-- DEV_CAPS of a part. -/
def Part.caps : Part → Word
  | .iav4810 => 0x8010422000007FFF | .iav4610 => 0x4008221000003FFF
  | .iav4410 => 0x2004020000003FCF | .iav4010 => 0x8000020000001E08

/-- A feature bit of DEV_CAPS. -/
def State.has (s : State) (b : Nat) : Bool := (s.part.caps).toNat.testBit b

/-- An instance is isolated: it stands in SUP_ISOLATION (R519, R520). -/
def State.isolated (s : State) (dom idx : Nat) : Bool := (List.range 64).any (fun e =>
  s.is (F.SUP_ISOLATION_VALID e) && s.get (F.SUP_ISOLATION_DOMAIN e) = dom && s.get (F.SUP_ISOLATION_INDEX e) = idx)

/-! ## Times and identity -/

/-- Current D0 sentence time: 64 bits (R14). -/
def State.now (s : State) : Nat := s.units.d0 % 2 ^ 64

/-- `n` ticks of D0 time have passed since D0 time `t`; a D0 that has stepped back before `t` counts afresh. -/
def State.passed0 (s : State) (t n : Nat) : Bool := decide (dif s.now t < 0) || decide (dif s.now t ≥ (n : Nat))

/-- A D0 device time value: 48-bit seconds, 32-bit nanoseconds, 16-bit sub-nanoseconds (R374). -/
def deviceTime (t : Nat) : List Byte := be 6 (t / tickS) ++ be 4 (t % tickS / tickNs) ++ be 2 (t % tickNs * 64)

/-- The device number in use (SUP_ROLE_STATUS, R568). -/
def State.device (s : State) : Nat := s.get F.SUP_ROLE_STATUS_DEVICE_NUMBER

/-- The incarnation of the role held. -/
def State.incarnation (s : State) : Nat := s.get F.SUP_ROLE_INCARNATION

/-- Local ready has been reached (R57). -/
def State.up (s : State) : Bool := s.is F.PWR_STATUS_LOCAL_READY

/-- The device is fenced (R536). -/
def State.fenced (s : State) : Bool := s.is F.SUP_STATUS_FENCED

/-- The device runs unconfigured (R100). -/
def State.unconfigured (s : State) : Bool := s.get F.IMG_STATUS_STATE = 3

/-- The data path runs: local ready, configured, outputs not stopped for dormancy. -/
def State.running (s : State) : Bool := s.up && !s.unconfigured && !s.units.silent

end Sys2Proof.Machine
end

