-- ==== Sys2Proof/Machine/Operands.lean ====
section
/-! DEFINITION. The operands of register accesses: which registers a part has, the bits that software or an image
may set, and the clamping of written values (R10, R92, R569, R581, R582). -/

namespace Sys2Proof.Machine

/-- Queue `q` is present: its consumer and a producer are (R226). -/
def State.queuePresent (s : State) (q : Nat) : Bool :=
  if q < 2048 then decide (q / 64 < s.part.listenerPorts)
  else if 2144 ≤ q ∧ q < 2176 then decide ((q - 2144) / 2 < s.part.storePorts)
  else true

/-- A register instance is present on this part (R581, R582 and the chapters that state absences). -/
def State.present (s : State) (r : Reg) (is : List Nat) : Bool :=
  let i := is.headD 0
  match r with
  | .FLT_SOURCE_DEFAULT | .FLT_SOURCE_COUNTER => s.has 0 && (decide (1024 ≤ i) || decide (i < s.part.lanes))
  | .FLT_CTRL | .FLT_COMMIT | .FLT_BANK_STATUS | .FLT_SWAP_TIME | .FLT_DEVICE_COUNTER | .FLT_TENANT_RULES | .FLT_TENANT_SCOPE
  | .FLT_RULE | .FLT_RULE_ACTIVE | .FLT_RULE_HITS | .STR_CFG | .STR_CTRL | .STR_STATUS | .STR_DEST | .STR_COUNTER => s.has 0
  | .CAL_CTRL | .CAL_NB_REGION | .CAL_STATUS | .CAL_DEVICE_WM | .CAL_DEVICE_COUNTER | .CAL_TENANT_CFG | .CAL_TENANT_QUOTA
  | .CAL_TENANT_STATUS | .CAL_TENANT_COUNTER | .CAL_STREAM_CFG | .CAL_STREAM_VENT | .CAL_STREAM_STATUS | .CAL_STREAM_HOLDER
  | .CAL_STREAM_OLDEST | .CAL_STREAM_HOLD | .CAL_STREAM_APPLY | .CAL_STREAM_LATE_MAX | .CAL_STREAM_LANES
  | .CAL_STREAM_COUNTER => s.has 1
  | .GEY_CTRL | .GEY_CHANNEL_MAP => s.has 3
  | .GEY_DEVICE_COUNTER => s.has 2 || (decide (4 ≤ i) && decide (i ≤ 9))
  | .GEY_STATUS | .GEY_OPEN | .GEY_GROUP_COUNT | .GEY_PROG | .GEY_PROG_CTRL | .GEY_PROG_STATUS | .GEY_PROG_OWNER
  | .GEY_PROG_SOFT_TIME | .GEY_PROG_LAST | .GEY_PROG_APPLY | .GEY_PROG_COUNTER => s.has 2
  | .NBF_CTRL | .NBF_STATUS | .NBF_OLDEST | .NBF_COUNTER | .NBF_FREEZE_W0 | .NBF_FREEZE_W1 | .NBF_FREEZE_W2 | .NBF_FREEZE_W3
  | .NBF_FREEZE_W4 | .NBF_FREEZE_W5 | .NBF_FREEZE_W6 => s.has 4
  | .LKT_PORT_STATUS | .LKT_PORT_CTRL | .LKT_PORT_REBUILD | .LKT_PORT_CAPACITY | .LKT_PORT_COUNTER =>
    s.has 5 && decide (i < s.part.storePorts)
  | .LKT_CTRL | .LKT_CFG | .LKT_KEY | .LKT_STATUS | .LKT_POOL | .LKT_GEOMETRY | .LKT_SET_ID | .LKT_JOURNAL | .LKT_RECOVERY
  | .LKT_DEVICE_COUNTER | .LKT_REPLAY_CFG | .LKT_REPLAY_FROM | .LKT_REPLAY_TO | .LKT_REPLAY_CTRL | .LKT_REPLAY_STATUS
  | .LKT_REPLAY_PROGRESS | .LKT_STREAM_CFG | .LKT_STREAM_SPAN | .LKT_STREAM_HELD | .LKT_WINDOW_W0 | .LKT_WINDOW_W1
  | .LKT_WINDOW_W2 | .LKT_WINDOW_W3 | .LKT_WINDOW_W4 | .LKT_WINDOW_W5 | .LKT_WINDOW_CTRL | .LKT_STREAM_COUNTER => s.has 5
  | .LSN_PORT_CFG | .LSN_PORT_STATUS | .LSN_PORT_RETAIN | .LSN_LINK_CFG | .LSN_LINK_STATUS | .LSN_LINK_TIMERS | .LSN_LINK_MAC
  | .LSN_LINK_IP4 | .LSN_LINK_UDP | .LSN_LINK_IP6 | .LSN_LINK_COUNTER | .LSN_LINK_PRIO_COUNTER | .LSN_ENDPOINT_W0
  | .LSN_ENDPOINT_W1 | .LSN_ENDPOINT_W2 | .LSN_ENDPOINT_W3 | .LSN_ENDPOINT_W4 | .LSN_ENDPOINT_W5 | .LSN_ENDPOINT_CTRL
  | .LSN_ENDPOINT_STATUS => s.has 7 && decide (i < s.part.listenerPorts)
  | .LSN_STREAM_SEG | .LSN_STREAM_FRAME_SEQ => s.has 7
  | .Q_CFG | .Q_QUOTA | .Q_THRESHOLD | .Q_CTRL | .Q_STATUS | .Q_DEPTH | .Q_POINTERS | .Q_SEGMENT | .Q_COUNTER => s.queuePresent i
  | .SIG_STREAM_CFG | .SIG_STREAM_STATUS | .SIG_STREAM_COVERED | .SIG_STREAM_COUNTER => s.has 6
  | .TLK_CFG | .TLK_TIMERS | .TLK_CTRL | .TLK_HOME | .TLK_STATUS | .TLK_EVENTS | .TLK_SEQ | .TLK_DELAY | .TLK_ECHO_LAST
  | .TLK_STAMP_OFFSET | .TLK_ROSTER_EXPECT | .TLK_CMD_WORD | .TLK_CMD_CTRL | .TLK_CMD_STATUS | .TLK_CMD_REPLY | .TLK_COUNTER
  | .TLK_TALKER_ID | .TLK_TALKER_STATE | .TIM_LANE_ASYM | .TIM_LANE_CFG | .TIM_LANE_APPLIED => decide (i < s.part.lanes)
  | _ => true

/-- The counters of 64 bits of an array of counters, by their n; the others have 48 (R157, R194, R225, R246, R277, R317,
R385, R574). -/
def wideCounters (r : Reg) : List Nat :=
  match r with
  | .TLK_COUNTER | .STR_COUNTER | .LKT_STREAM_COUNTER | .LSN_LINK_PRIO_COUNTER | .RNG_PRIO_COUNTER => [1]
  | .LSN_LINK_COUNTER | .RNG_COUNTER => [1, 3]
  | .LKT_PORT_COUNTER => [1, 2]
  | .NBF_COUNTER => [1, 4]
  | .Q_COUNTER => [2]
  | .CAL_STREAM_COUNTER => [6]
  | .LKT_DEVICE_COUNTER => [9, 10]
  | _ => []

/-- The fields that a register has on this part, less those that ignore every write: of GEY_CTRL the IAV-4010 has
BCAST_HOPS alone (R277); T0's MAX_CLASS reads 0x7 (R194); GIB has the range of its part (R215); some counters of an array
have 64 bits. -/
def State.fieldsOf (s : State) (r : Reg) (is : List Nat) : List FieldRow :=
  let but := fun x : Field => r.row.fields.filter (fun f => !(f.msb = x.msb && f.lsb = x.lsb))
  match r with
  | .GEY_CTRL => if s.has 2 then r.row.fields
    else r.row.fields.filter (fun f => f.msb = (F.GEY_CTRL_BCAST_HOPS).msb && f.lsb = (F.GEY_CTRL_BCAST_HOPS).lsb)
  | .CAL_NB_REGION => (match s.part with
      | .iav4810 => [⟨5, 0, .stg, 0, 0, 32⟩]
      | .iav4610 => [⟨5, 0, .stg, 0, 0, 16⟩]
      | _ => r.row.fields)
  | .FLT_TENANT_RULES => if is.headD 0 = 0 then but (F.FLT_TENANT_RULES_MAX_CLASS 0) else r.row.fields
  | _ => if (wideCounters r).contains (is.getLastD 0) then [⟨63, 0, .cnt, 0, 0, 0⟩] else r.row.fields

/-- The bits that a list of field rows covers. -/
def rowsMask (l : List FieldRow) : Word := l.foldl (fun m f => m ||| fieldMask f.msb f.lsb) 0

/-- A value as a field takes it: clamped to its range, when it has one. -/
def FieldRow.take (f : FieldRow) (v : Nat) : Nat := if f.lo = 0 ∧ f.hi = 0 then v else max f.lo (min f.hi v)

/-- A field keeps what software or an image writes into it. -/
def FieldRow.writable (f : FieldRow) : Bool := f.acc = .rw || f.acc = .stg

/-- A register word with the RW and STG fields of an image record's value (R92). -/
def imageWord (fields : List FieldRow) (old value : Word) : Word :=
  (fields.filter FieldRow.writable).foldl (fun w f => putBits w f.msb f.lsb (f.take (getBits value f.msb f.lsb))) old

/-- Brings a field of a word to what `f` makes of it. -/
def mapBits (x : Field) (f : Nat → Nat) (w : Word) : Word := putBits w x.msb x.lsb (f (getBits w x.msb x.lsb))

/-- A signed octet within bounds. -/
def clampSigned (lo hi : Int) (v : Nat) : Nat := enc 8 (max lo (min hi (sgn 8 v)))

/-- A width of at least `least` ns, and as much short of a period, where there is one (R429, R460). -/
def clampWidth (least period v : Nat) : Nat := max least (if period = 0 then v else min v (period - least))

/-- An environment channel 0 to 15, or 0xFF for none (R429). -/
def clampChannel (v : Nat) : Nat := if v = 255 then v else min 15 v

/-- Brings a written word into the bounds that its fields set each other, or that are not one unsigned range: REARM below
LEVEL (R246), XON_KIB below XOFF_KIB and TARGET by TO_RING (R357), CP_INTERVAL by CP_FRAMES (R385), signed intervals,
widths and environment channels (R429, R460), DEAD_MS at least SUSPECT_MS (R546). -/
def settleWord (r : Reg) (w : Word) : Word :=
  let at_ := fun x : Field => getBits w x.msb x.lsb
  match r with
  | .Q_THRESHOLD => mapBits (F.Q_THRESHOLD_REARM 0) (min (at_ (F.Q_THRESHOLD_LEVEL 0) - 1)) w
  | .RNG_PFC => mapBits (F.RNG_PFC_XON_KIB 0) (fun v => max 1 (min (at_ (F.RNG_PFC_XOFF_KIB 0) - 1) v)) w
  | .RNG_RELAY => mapBits (F.RNG_RELAY_TARGET 0 0) (fun v => if at_ (F.RNG_RELAY_TO_RING 0 0) = 1 then min 7 v else v) w
  | .SIG_STREAM_CFG =>
    mapBits (F.SIG_STREAM_CFG_CP_INTERVAL 0) (fun v => if at_ (F.SIG_STREAM_CFG_CP_FRAMES 0) = 1 then v else min 10000 v) w
  | .TIM_PTP_CFG => mapBits F.TIM_PTP_CFG_LOG_SYNC_INTERVAL (clampSigned (-7) (-3))
      (mapBits F.TIM_PTP_CFG_LOG_ANNOUNCE_INTERVAL (clampSigned (-3) 1) w)
  | .TIM_PULSE_SHAPE => mapBits (F.TIM_PULSE_SHAPE_WIDTH_NS 0) (clampWidth 10 (at_ (F.TIM_PULSE_SHAPE_PERIOD_NS 0))) w
  | .EDG_OUT_SHAPE => mapBits (F.EDG_OUT_SHAPE_WIDTH_NS 0) (clampWidth 4 (at_ (F.EDG_OUT_SHAPE_PERIOD_NS 0))) w
  | .TIM_PORT_CFG => mapBits (F.TIM_PORT_CFG_ENV_CHANNEL 0) clampChannel w
  | .TIM_LANE_CFG => mapBits (F.TIM_LANE_CFG_ENV_CHANNEL 0) clampChannel w
  | .SUP_TIMERS => mapBits F.SUP_TIMERS_DEAD_MS (max (at_ F.SUP_TIMERS_SUSPECT_MS)) w
  | _ => w

/-- What UTL_PARAM may hold for a pin function: a hold-off, a pulse width, or anything. -/
def clampParam (function v : Nat) : Nat :=
  match function with
  | 6 => max 10 (min 65535 v)
  | 7 => max 10 (min 1000000 v)
  | _ => v

end Sys2Proof.Machine
end

