-- ==== Sys2Proof/Machine/Wire.lean ====
section
/-! DEFINITION. Links by id, the headers and messages of received frames (R322, R353, R354, R483, R496), and the commands of
the present arbitration window as they come, whichever way (R20). -/

namespace Sys2Proof.Machine

/-! ## Links by id -/

/-- The register base of a port: 0 to 31 listener, 32 + r ring port r. -/
def portBase (p : Nat) : Nat := if p < 32 then 0x06000000 + 0x10000 * p else 0x07000000 + 0x10000 * (p - 32)

/-- The port of a link: 0 to 255 listener link, 256 + r ring port r. -/
def portOf (l : Nat) : Nat := if l < 256 then l / 8 else l - 224

/-- A register field of a link, by its listener and ring names. -/
def linkF (l : Nat) (f : Nat → Nat → Field) (g : Nat → Field) : Field :=
  if l < 256 then f (l / 8) (l % 8) else g (l - 256)

/-- An endpoint field of a port, from its listener name. -/
def epF (p e : Nat) (f : Nat → Nat → Field) : Field :=
  let x := f 0 e
  { x with addr := x.addr - 0x06000000 + portBase p }

/-- Queue of a link and a priority (R226). -/
def queueOf (l p : Nat) : Nat := if l < 256 then 8 * l + p else 2048 + 8 * (l - 256) + p

/-- STATE of a link. -/
def linkState (l : Nat) : Field := linkF l F.LSN_LINK_STATUS_STATE F.RNG_STATUS_STATE

/-- The link is up. -/
def State.linkIsUp (s : State) (l : Nat) : Bool := decide (l < 264) && s.get (linkState l) = 2

/-! ## Addresses (R339) -/

/-- MAC address of a link. -/
def State.linkMac (s : State) (l : Nat) : Nat :=
  if l < 256 then s.get (F.LSN_LINK_MAC_MAC (l / 8) (l % 8)) else 0x024941000000 + (s.device * 8 + (l - 256))

/-- IPv6 address of a link. -/
def State.linkIp6 (s : State) (l : Nat) : Nat :=
  if l < 256 then s.get (F.LSN_LINK_IP6_ADDRESS (l / 8) (l % 8) 0) * 2 ^ 64 + s.get (F.LSN_LINK_IP6_ADDRESS (l / 8) (l % 8) 1)
  else 0xFE80 * 2 ^ 112 + 0x4941 * 2 ^ 48 + s.device * 65536 + (l - 256)

/-- The multicast MAC and IPv6 address of a ring fibre. -/
def ringMac : Nat := 0x0180C200000E
def ringIp : Nat := 0xFF02 * 2 ^ 112 + 1

/-- The IST and management ports of a link. -/
def State.istPort (s : State) (l : Nat) : Nat := if l < 256 then s.get (F.LSN_LINK_UDP_IST_PORT (l / 8) (l % 8)) else 45810
def State.mgmtPort (s : State) (l : Nat) : Nat := if l < 256 then s.get (F.LSN_LINK_UDP_MGMT_PORT (l / 8) (l % 8)) else 45811

/-! ## Headers (R322) -/

/-- VLAN PCP of a frame, 0 untagged, its Ethertype, and what follows that. -/
def framePcp (f : List Byte) : Nat := if num f 12 2 = 0x8100 then num f 14 2 / 8192 else 0
def frameType (f : List Byte) : Nat := if num f 12 2 = 0x8100 then num f 16 2 else num f 12 2
def frameClient (f : List Byte) : List Byte := if num f 12 2 = 0x8100 then f.drop 18 else f.drop 14

/-- An IP packet's relevant parts. -/
structure IpPacket where
  v4 : Bool
  src : Nat
  dst : Nat
  /-- Extension headers, options or fragments. -/
  odd : Bool
  /-- UDP ports and payload. -/
  udp : Option (Nat × Nat × List Byte)
  deriving DecidableEq, Repr

/-- The extension headers of IPv6. -/
def ipExtensions : List Nat := [0, 43, 44, 50, 51, 60, 135, 139, 140, 253, 254]

/-- The UDP datagram of a packet's payload. -/
def udpOf (b : List Byte) : Option (Nat × Nat × List Byte) :=
  if b.length < 8 || num b 4 2 < 8 || b.length < num b 4 2 then none
  else some (num b 0 2, num b 2 2, slice b 8 (num b 4 2 - 8))

/-- The IP packet of a frame. -/
def ipOf (f : List Byte) : Option IpPacket :=
  let b := frameClient f
  if frameType f = 0x86DD && decide (b.length ≥ 40) && num b 0 1 / 16 = 6 then
    some { v4 := false, src := num b 8 16, dst := num b 24 16, odd := ipExtensions.contains (num b 6 1),
           udp := if num b 6 1 = 17 then udpOf (slice b 40 (num b 4 2)) else none }
  else if frameType f = 0x0800 && decide (b.length ≥ 20) && num b 0 1 / 16 = 4 then
    some { v4 := true, src := num b 12 4, dst := num b 16 4,
           odd := num b 0 1 % 16 ≠ 5 || num b 6 2 % 0x4000 ≠ 0,
           udp := if num b 9 1 = 17 then udpOf (slice b 20 (num b 2 2 - 20)) else none }
  else none

/-! ## Checks before memory (R353) -/

/-- A PFC frame, and an ESMC frame. -/
def isPfc (f : List Byte) : Bool := num f 12 2 = 0x8808 && num f 14 2 = 0x0101
def isEsmc (f : List Byte) : Bool := num f 12 2 = 0x8809 && num f 14 1 = 0x0A

/-- The group addresses that PFC and ESMC frames are sent to (log entry 122). -/
def pfcMac : Nat := 0x0180C2000001
def esmcMac : Nat := 0x0180C2000002

/-- The frame is addressed to the link. -/
def State.addressed (s : State) (l : Nat) (f : List Byte) : Bool :=
  let to_ := num f 0 6
  to_ = s.linkMac l || (isPfc f && to_ = pfcMac)
    || (decide (256 ≤ l) && (to_ = ringMac || (isEsmc f && to_ = esmcMac)))

/-- The counter of the check a frame fails, in the order of R353; its octets count the FCS. -/
def State.dropped (s : State) (l : Nat) (f : List Byte) (x : RxStatus) : Option Field :=
  let n := f.length + 4
  if x.reassembled = some false then some (linkF l F.LSN_LINK_RX_REASSEMBLY_ERRORS_C F.RNG_RX_REASSEMBLY_ERRORS_C)
  else if n < 64 then some (linkF l F.LSN_LINK_RX_RUNTS_C F.RNG_RX_RUNTS_C)
  else if !x.fcsOk then some (linkF l F.LSN_LINK_RX_FCS_ERRORS_C F.RNG_RX_FCS_ERRORS_C)
  else if n > 9320 then some (linkF l F.LSN_LINK_RX_OVERSIZE_C F.RNG_RX_OVERSIZE_C)
  else if !x.fecOk then some (linkF l F.LSN_LINK_FEC_UNCORRECTABLE_C F.RNG_FEC_UNCORRECTABLE_C)
  else if !s.addressed l f then some (linkF l F.LSN_LINK_RX_NOT_ADDRESSED_C F.RNG_RX_NOT_ADDRESSED_C)
  else none

/-! ## Destinations (R354) -/

/-- Pause times of the priorities a PFC frame enables: from the opcode on, a vector and eight times. -/
def pfcTimes (f : List Byte) : List (Nat × Nat) :=
  ((List.range 8).filter (fun p => (num f 16 2).testBit p)).map (fun p => (p, num f (18 + 2 * p) 2))

/-- The IP destination is the link's own; ff02::1 too on a ring port. -/
def State.ownIp (s : State) (l : Nat) (p : IpPacket) : Bool :=
  if l < 256 then (if p.v4 then p.dst = s.get (F.LSN_LINK_IP4_ADDRESS (l / 8) (l % 8)) else p.dst = s.linkIp6 l)
  else !p.v4 && (p.dst = s.linkIp6 l || p.dst = ringIp)

/-! ## Management messages (R483, R485, R496) -/

/-- OP, TENANT, TARGET_DEVICE, SOURCE_DEVICE, HOPS_LEFT, SIZE, ADDRESS, MSEQ, TOKEN and TXN of a message. -/
def opOf (m : List Byte) : Nat := num m 1 1
def tenantOf (m : List Byte) : Nat := num m 2 1 % 32
def targetOf (m : List Byte) : Nat := num m 4 2 % 16384
def sourceOf (m : List Byte) : Nat := num m 6 2 % 16384
def hopsOf (m : List Byte) : Nat := num m 8 1
def routingOf (m : List Byte) : Nat := num m 9 1
def sizeOf_ (m : List Byte) : Nat := num m 10 2
def addressOf (m : List Byte) : Nat := num m 12 4
def mseqOf (m : List Byte) : Nat := num m 16 8
def hostOf (m : List Byte) : Nat := mseqOf m / 2 ^ 60
def tokenOf (m : List Byte) : Nat := num m 24 4

/-- The message is long enough for its header, of VERSION 0x1. -/
def isMgmt (m : List Byte) : Bool := decide (32 ≤ m.length) && num m 0 1 / 16 = 1

/-- END_TO_END and ADJACENT (R497). -/
def endToEnd (m : List Byte) : Bool := (routingOf m).testBit 0
def adjacent (m : List Byte) : Bool := (routingOf m).testBit 1

/-- The message came on a ring port, and its entry device has set SOURCE_DEVICE or HOPS_LEFT: a bridge transaction. -/
def onRing (o : Origin) : Bool := decide (256 ≤ o.link) && decide (o.link < 264)
def bridged (o : Origin) (m : List Byte) : Bool := onRing o && (sourceOf m ≠ 0 || hopsOf m ≠ 0)

/-! ## What a frame brings (R20) -/

/-- The command that a management datagram is (R482, R484). -/
def mgmtCommand (o : Origin) (m : List Byte) (run : StartRun) (c : Instr) : Instr :=
  if endToEnd m then .endToEndMessage o m run
  else if onRing o && opOf m ≥ 128 then .bridgeResponse o m run
  else if bridged o m then .bridgeRequest o m run
  else match opOf m with
    | 0 => .mgmtHello o m
    | 1 => .mgmtRead o m
    | 2 => .mgmtWrite o m run
    | 3 => .mgmtWritePosted o m run
    | 4 => .mgmtLockRead o m
    | 5 => .mgmtWriteUnlock o m run
    | 6 => .mgmtUnlock o m
    | 7 => .mgmtTunnelTx o m
    | _ => c

/-- A datagram to IST_PORT is an acknowledgement, of whatever length (R351). -/
def isAck (d : List Byte) : Bool := decide (11 ≤ d.length) && num d 8 2 = 0xFFFE && num d 10 1 = 0x11

/-- The command that a datagram to IST_PORT is: an acknowledgement, or on a ring port a control message (R352, R354). -/
def istCommand (l : Nat) (src : NetAddr) (d : List Byte) (run : StartRun) (c : Instr) : Instr :=
  let m := d.drop 8
  let b := m.drop 8
  if isAck d then .ackReceived l src m
  else if l < 256 || d.length < 12 || num m 0 2 ≠ 0xFFFF || num m 2 1 ≠ 0x10 then c
  else match num m 3 1 with
    | 1 => .broadcastReceived (l - 256) b
    | 2 => .heartbeatReceived (l - 256) b
    | 3 => .fenceNoticeReceived (l - 256) b
    | 4 => .resetWordReceived (l - 256) b run
    | 5 => match num b 1 1 with
      | 1 => .exchangeOffer (l - 256) b
      | 2 => .exchangeAccept (l - 256) b
      | 3 => .exchangeAssign (l - 256) b
      | _ => c
    | _ => c

/-- The command that a received frame carries; any other command is itself. -/
def State.inside (s : State) (c : Instr) : Instr :=
  match c with
  | .frameReceived l f x =>
    if !s.linkIsUp l || (s.dropped l f x).isSome then c
    else if isPfc f then .pfcReceived l (pfcTimes f)
    else match ipOf f with
      | some p => match p.udp with
        | some (src, dst, d) =>
          let from_ : NetAddr := { mac := num f 6 6, v4 := p.v4, ip := p.src, port := src }
          if p.odd || !s.ownIp l p then c
          else if dst = s.mgmtPort l then mgmtCommand { link := l, addr := from_, localIp := p.dst } d x.run c
          else if dst = s.istPort l then istCommand l from_ d x.run c
          else c
        | none => c
      | none => c
  | .svcFrameReceived frame fcsOk run =>
    let f := frame.take (frame.length - 4)
    if !s.up || !s.is F.SVC_CFG_ENABLE || frame.length < 64 || !fcsOk || num f 0 6 ≠ s.get F.SVC_MAC_MAC then c
    else match ipOf f with
      | some p => match p.udp with
        | some (src, dst, d) =>
          if p.odd || dst ≠ s.get F.SVC_UDP_MGMT_PORT then c
          else mgmtCommand { link := 512, addr := { mac := num f 6 6, v4 := p.v4, ip := p.src, port := src }, localIp := p.dst } d run c
        | none => c
      | none => c
  | _ => c

/-- The commands that wait in this window, what frames carry among them. -/
def State.coming (s : State) : List Instr := s.pending.map s.inside

end Sys2Proof.Machine
end

