-- ==== Sys2Proof/Machine/Keys.lean ====
section
/-! DEFINITION. The keys of the device and what opens with them (R365 to R367, R384, R485, R496), and the register writes
that wait in the present arbitration window, whichever way they come (R20). -/

namespace Sys2Proof.Machine

/-! ## Key derivation -/

/-- KDF(K, label, context) of R366; the label as three bytes. -/
def kdf (k label ctx : List Byte) : List Byte :=
  block (aes256 k (be 1 1 ++ label ++ ctx)) ++ block (aes256 k (be 1 2 ++ label ++ ctx))

/-- The ASCII bytes of the labels of R366 and R382, R384. -/
def labelSel : List Byte := [0x53, 0x45, 0x4C]
def labelEnc : List Byte := [0x45, 0x4E, 0x43]
def labelRng : List Byte := [0x52, 0x4E, 0x47]
def labelTim : List Byte := [0x54, 0x49, 0x4D]

/-! ## Keys (R365, R367) -/

/-- The key-store entry of a KEY_INDEX, FAULT or not. -/
def State.keyEntry (s : State) (idx usage : Nat) : Option Nat :=
  (List.range 256).find? (fun e =>
    s.is (F.SIG_KEY_INFO_VALID e) && s.get (F.SIG_KEY_INFO_KEY_INDEX e) = idx && s.get (F.SIG_KEY_INFO_USAGE e) = usage)

/-- A later command of this window makes an entry FAULT (R379). -/
def State.faultPending (s : State) (e : Nat) : Bool :=
  s.pending.any (fun c => match c with | .keyFault e' => e' = e | _ => false)

/-- The entry may be used. -/
def State.keyGood (s : State) (e : Nat) : Bool := !s.is (F.SIG_KEY_INFO_FAULT e) && !s.faultPending e

/-- The secret bytes of an entry. -/
def State.secret (s : State) (e : Nat) : List Byte := Sparse.get (fun _ => []) s.units.keys e

/-- The secret of a usable entry of a usage, index and tenant. -/
def State.usable (s : State) (idx usage tenant : Nat) : Option (List Byte) :=
  match s.keyEntry idx usage with
  | some e => if s.get (F.SIG_KEY_INFO_TENANT e) = tenant && s.keyGood e then some (s.secret e) else none
  | none => none

/-- T0's ring and time key: its entry of USAGE 0x05 (R382, R384). -/
def State.ringKey (s : State) : Option Nat :=
  (List.range 256).find? (fun e =>
    s.is (F.SIG_KEY_INFO_VALID e) && s.get (F.SIG_KEY_INFO_USAGE e) = 5 && s.get (F.SIG_KEY_INFO_TENANT e) = 0)

/-- The TAG of a ring control message of a type over its bytes before the tag (R384). -/
def State.ringTag (s : State) (rtype : Nat) (msg : List Byte) : Option (List Byte) :=
  match s.ringKey with
  | some e => if s.keyGood e then some (cbcMac (kdf (s.secret e) labelRng (be 1 rtype ++ zeros 11)) msg) else none
  | none => none

/-! ## Ownership (R362 to R364) -/

/-- The owner record in force: the valid copy with the larger epoch. -/
def State.owner (s : State) : Option OwnerCopy :=
  match s.keep.owner0, s.keep.owner1 with
  | some a, some b => if a.epoch ≥ b.epoch then some a else some b
  | some a, none => some a
  | none, b => b

/-- Hash of the enrolled image-signing key record (R90). -/
def State.ownerHash (s : State) : BitVec 384 :=
  match s.owner with | some o => o.keyHash | none => Config.deliveryKeyHash

/-- The device is owned: the enrolled key is not the delivery key. -/
def State.owned (s : State) : Bool := s.owner.isSome && decide (s.ownerHash ≠ Config.deliveryKeyHash)

/-! ## The role record (R551) -/

/-- A role record, less its number. -/
structure RoleRec where
  seq : Nat
  kind : Nat
  device : Nat
  role : Nat
  incarnation : Nat
  deriving DecidableEq, Repr

/-- Address of a copy. -/
def roleAddr (copy : Nat) : Nat := 0x08010000 + 0x8000 * copy

/-- A valid copy of the role record. -/
def State.roleCopy (s : State) (copy : Nat) : Option RoleRec :=
  let b := s.flashBytes (roleAddr copy) 64
  if num b 0 4 = 0x49415652 ∧ num b 60 4 = crc32c (b.take 60) then
    some { seq := num b 8 8, kind := num b 6 1, device := num b 16 2 % 16384, role := num b 20 4, incarnation := num b 24 4 }
  else none

/-- The copy in force: the valid one with the larger RSEQ. -/
def State.roleInForce (s : State) : Option (Nat × RoleRec) :=
  match s.roleCopy 0, s.roleCopy 1 with
  | some a, some b => if a.seq ≥ b.seq then some (0, a) else some (1, b)
  | some a, none => some (0, a)
  | none, some b => some (1, b)
  | none, none => none

/-- The current role record. -/
def State.roleRec (s : State) : Option RoleRec := s.roleInForce.map (·.2)

/-! ## Management messages (R485, R496) -/

/-- The labels of R485 and R496 in ASCII. -/
def labelMgq : List Byte := [0x4D, 0x47, 0x51]
def labelMgr : List Byte := [0x4D, 0x47, 0x52]
def labelMgu : List Byte := [0x4D, 0x47, 0x55]
def labelMbq : List Byte := [0x4D, 0x42, 0x51]
def labelMbr : List Byte := [0x4D, 0x42, 0x52]

/-- A tenant's management key (R485). -/
def State.mgmtKey (s : State) (t : Nat) : Option (List Byte) :=
  if t = 0 then
    some (if s.owned then (match s.owner with | some o => be 32 o.enrolKey.toNat | none => zeros 32) else zeros 32)
  else if (s.tenant t).enabled then s.usable (s.tenant t).mgmtKey 3 t else none

/-- The header with SOURCE_DEVICE and HOPS_LEFT zero (R485). -/
def headerAad (h : List Byte) : List Byte := h.take 6 ++ zeros 3 ++ slice h 9 23

/-- A sealed message: header, ciphertext, TAG. -/
def sealMgmt (key iv h data : List Byte) : List Byte := h ++ gctr key iv 2 data ++ block (gcmTag key iv (headerAad h) data)

/-- The plaintext of a sealed message whose TAG holds. -/
def openMgmt (key iv m : List Byte) : Option (List Byte) :=
  let h := m.take 32
  let body := m.drop 32
  let n := body.length - 16
  let data := gctr key iv 2 (body.take n)
  if m.length < 48 then none
  else if block (gcmTag key iv (headerAad h) data) = body.drop n then some data else none

/-- The IV of a host's message, and of a bridge message (R485, R496). -/
def hostIv (h : List Byte) : List Byte := zeros 4 ++ slice h 16 8
def bridgeIv (h : List Byte) : List Byte := be 2 (num h 6 2 % 16384) ++ zeros 2 ++ slice h 16 8

/-- The bridge key of a label: first the target's nonce, then the entry device's. -/
def State.bridgeKey (s : State) (label target entry : List Byte) : Option (List Byte) :=
  match s.ringKey with
  | some e => if s.keyGood e then some (kdf (kdf (s.secret e) label target) label entry) else none
  | none => none

/-- The nonce held of a device that this one sends to, and that under which a device's requests are checked. -/
def State.targetNonce (s : State) (d : Nat) : List Byte := Sparse.get (fun _ => []) s.units.clasp.nonces d
def State.entryNonce (s : State) (d : Nat) : List Byte := Sparse.get (fun _ => []) s.units.clasp.nonces (16384 + d)

/-- A tenant's session key of a label (R485). -/
def State.hostKey (s : State) (label : List Byte) (t : Nat) : Option (List Byte) :=
  (s.mgmtKey t).map (fun k => kdf k label s.units.clasp.nonce)

/-- The plaintext of a host's authentic request. While the device is unowned, T0 comes by the service port only (R485,
R486). -/
def State.hostOpen (s : State) (o : Origin) (m : List Byte) : Option (List Byte) :=
  let t := tenantOf m
  if !(s.tenant t).enabled || (t = 0 && !s.owned && o.link ≠ 512) then none
  else match s.hostKey labelMgq t with
    | some k => openMgmt k (hostIv m) m
    | none => none

/-- The plaintext of an authentic bridge request (R496). -/
def State.bridgeOpen (s : State) (m : List Byte) : Option (List Byte) :=
  if !(s.tenant (tenantOf m)).enabled then none
  else match s.bridgeKey labelMbq s.units.clasp.nonce (s.entryNonce (sourceOf m)) with
    | some k => if s.entryNonce (sourceOf m) = [] then none else openMgmt k (bridgeIv m) m
    | none => none

/-! ## Register writes of the window (R20, R492) -/

/-- This device executes an END_TO_END request that reached it: as its target; or, with ADJACENT, as the device beyond the
target. Without a configuration it is never anything but the device beyond, save when its role record names it. -/
def State.endToEndHere (s : State) (o : Origin) (m : List Byte) : Bool :=
  if s.unconfigured && onRing o then adjacent m || (targetOf m = s.device && s.roleRec.isSome)
  else if adjacent m then onRing o && bridged o m && s.is (F.SUP_PEER_W0_EXCHANGED (o.link - 256))
      && s.get (F.SUP_PEER_W0_DEVICE (o.link - 256)) = targetOf m && targetOf m ≠ s.device
  else targetOf m = s.device

/-- A register write that a command of the window brings: its tenant, its address and its bytes. -/
structure RegWrite where
  writer : Nat
  address : Nat
  data : List Byte

/-- The write that an authentic management message carries: WRITE, posted or not, or WRITE_UNLOCK. -/
def writeOf (m : List Byte) (body : Option (List Byte)) : Option RegWrite :=
  if opOf m = 2 ∨ opOf m = 3 ∨ opOf m = 5 then body.map (fun d => { writer := tenantOf m, address := addressOf m, data := d }) else none

/-- The register write of a command: a REGISTER_WRITE, or a management or bridge transaction for this device. -/
def State.writeIn (s : State) (i : Instr) : Option RegWrite :=
  let host := fun (o : Origin) (m : List Byte) =>
    if isMgmt m && targetOf m = s.device && !bridged o m && !endToEnd m then writeOf m (s.hostOpen o m) else none
  match i with
  | .registerWrite w a n v _ => some { writer := w, address := a, data := be n v.toNat }
  | .mgmtWrite o m _ => host o m
  | .mgmtWritePosted o m _ => host o m
  | .mgmtWriteUnlock o m _ => host o m
  | .bridgeRequest o m _ =>
    if isMgmt m && targetOf m = s.device && bridged o m && !endToEnd m then writeOf m (s.bridgeOpen m) else none
  | .endToEndMessage o m _ =>
    if isMgmt m && endToEnd m && tenantOf m = 0 && s.endToEndHere o m then writeOf m (s.hostOpen o m) else none
  | _ => none

/-- Bits `msb` to `lsb` of the register of `n` bytes at `base` that a write carries; `none` when it does not reach the
lowest byte of them. -/
def RegWrite.field (w : RegWrite) (base n msb lsb : Nat) : Option Nat :=
  let at_ := base + n - 1 - lsb / 8
  if w.address ≤ at_ ∧ at_ < w.address + w.data.length then
    some (bits ((List.range n).foldl (fun v j =>
      v * 256 + (if w.address ≤ base + j then (w.data.getD (base + j - w.address) 0).toNat else 0)) 0) msb lsb)
  else none

/-- The values that waiting writes of tenants with the right to them bring to a field, with their writers. -/
def State.asked (s : State) (f : Field) : List (Nat × Nat) :=
  let n := match locate f.addr with | some (r, _, _) => r.row.bytes | none => 4
  (s.coming.filterMap s.writeIn).filterMap (fun w =>
    if s.mayWrite w.writer f.addr then (w.field f.addr n f.msb f.lsb).map (fun v => (w.writer, v)) else none)

end Sys2Proof.Machine
end

