-- ==== Sys2Proof/Machine/Flags.lean ====
section
/-! DEFINITION. Counters and notifications: a counter's increment with its half-range notification (R574, R575), the
commit of an item into a queue unit with its flags, threshold and pointers (R229 to R237), and the raising of a
notification into a tenant's queue (R242, R244). A counter may notify and a notification counts, so the three are
built together, four levels deep: the counters of one notification queue are three. -/

namespace Sys2Proof.Machine

/-- The queue unit of queue `q`. -/
def State.queue (s : State) (q : Nat) : QueueUnit := Sparse.get (fun _ => ({} : QueueUnit)) s.units.queues q

/-- Replaces the queue unit of queue `q`. -/
def setQueue (q : Nat) (u : QueueUnit) : Act :=
  .units fun x => { x with queues := Sparse.set (fun _ => ({} : QueueUnit)) x.queues q u }

/-- Changes the queue unit of queue `q`. -/
def onQueue (q : Nat) (f : QueueUnit → QueueUnit) : Act := .look fun s => setQueue q (f (s.queue q))

/-- Cells of 64 bytes an item occupies: at least one. -/
def itemCells (i : Item) : Nat := max 1 ((i.data.length + 63) / 64)

/-- Cells a queue holds, committed or not (R229). -/
def QueueUnit.cells (u : QueueUnit) : Nat :=
  (u.items.map (fun e => itemCells e.1)).sum +
    (u.late.map (fun e => itemCells e.1)).sum +
    (match u.partial_ with | some p => if p.discarding then 0 else p.cells | none => 0)

/-- A pointer mismatch of queue `q` falls in this window (R239). -/
def State.mismatched (s : State) (q : Nat) : Bool :=
  s.win.mismatches.contains q ||
    s.pending.any (fun c => match c with | .pointerMismatch q' => q' = q | _ => false)

/-- Brings the hardware-owned view of a queue up to date (R235; Q_STATUS, Q_DEPTH). -/
def refreshQueue (q : Nat) : Act := .look fun s =>
  let u := s.queue q
  let n := u.items.length
  let c := u.cells
  Act.all [
    put (F.Q_DEPTH_ITEMS q) n,
    put (F.Q_DEPTH_CELLS q) c,
    put (F.Q_STATUS_HEAD_FILL q) (min 16 c),
    put (F.Q_STATUS_EMPTY q) (b2n (n = 0)),
    put (F.Q_STATUS_FULL q) (b2n (decide (n ≥ s.get (F.Q_CFG_ITEM_LIMIT q)))),
    put (F.Q_STATUS_PARTIAL q) (b2n u.partial_.isSome),
    put (F.Q_STATUS_DISCARDING q) (b2n (match u.partial_ with | some p => p.discarding | none => false))]

/-- Advances a segment index by `k` cells round the segment of queue `q` (R228). -/
def advance (q k : Nat) (f : Field) : Act := .look fun s => put f ((s.get f + k) % s.get (F.Q_QUOTA_CELL_QUOTA q))

/-- Takes a segment index back by `k` cells. -/
def retreat (q k : Nat) (f : Field) : Act := .look fun s =>
  let n := s.get (F.Q_QUOTA_CELL_QUOTA q)
  put f ((s.get f + n - k % n) % n)

/-- What counting and notifying do, at one level of nesting. -/
structure Hooks where
  /-- Adds to a counter. -/
  cnt : Field → Nat → Act
  /-- Raises a notification: tenant, KIND, INFO, BODY. -/
  note : Nat → Nat → Nat → List Byte → Act

/-- Adds `k` to a counter modulo its width (R574), noting it for a software write of the same window (R579). -/
def bump (f : Field) (k : Nat) : Act := .look fun s =>
  .seq (put f ((s.get f + k) % 2 ^ f.width)) (.win fun w => { w with counts := (f.addr, k) :: w.counts })

/-- Adds to a counter; a change of its top bit notifies the owner of its instance (R575). -/
def countWith (h : Hooks) (f : Field) (k : Nat) : Act := .look fun s =>
  let old := s.get f
  let new := (old + k) % 2 ^ f.width
  .seq (bump f k)
    (Act.when (old.testBit (f.width - 1) != new.testBit (f.width - 1)) (h.note (s.ownerOf f.addr) 0x02 f.addr []))

/-- Queue `q` is judged again at the end of the window (R239). -/
def touch (q : Nat) : Act := .win fun w => { w with touched := if w.touched.contains q then w.touched else w.touched ++ [q] }

/-- A spill frame whose release waits for its commit only is released at the end of the window (R315). -/
def committed (i : Item) : Act := match i.freed with
  | some x => .units fun u => { u with store := { u.store with done := u.store.done ++ [x] } }
  | none => .skip

/-- Commits an item, of whose cells `body` passed through the body (R233, "push"). -/
def commitWith (h : Hooks) (q : Nat) (i : Item) (body : Nat) : Act := Act.all [
  onQueue q (fun u => { u with items := u.items ++ [(i, body)] }),
  .win (fun w => { w with pushes := q :: w.pushes }),
  h.cnt (F.Q_ITEMS_PUSHED_C q) 1,
  h.cnt (F.Q_OCTETS_PUSHED_C q) i.data.length,
  refreshQueue q,
  touch q,
  committed i]

/-- Queue `q` takes items: it is enabled, or was at the start of a window at whose end it is flushed (R239, R240). -/
def State.taking (s : State) (q : Nat) : Bool := s.is (F.Q_CFG_ENABLE q) || (s.queue q).flushDue

/-- What becomes of an item pushed whole (R233, R237, R240, R244). `late`: the queue is full, and the window has commands
to come that may pop. -/
inductive PushFate where
  | accepted | ignored | tooBig | noCells | full | late | waits
  deriving DecidableEq, Repr

/-- The fate of an item that has come to its end at queue `q`, by an ITEM_LIMIT; an isolated queue is as if full (R519). -/
def State.endFate (s : State) (q limit : Nat) : PushFate :=
  let u := s.queue q
  if s.isolated 3 q then .full
  else if u.items.length + u.late.length < limit then .accepted
  else if s.pending.isEmpty then .full else .late

/-- The fate of an item at the input of queue `q` as the queue stands. An item too long for both its bounds is judged by
the first cell that does not fit (R233). -/
def State.pushFate (s : State) (q : Nat) (i : Item) : PushFate :=
  let u := s.queue q
  let most := s.get (F.Q_CFG_MAX_ITEM_CELLS q)
  let room := s.get (F.Q_QUOTA_CELL_QUOTA q) - u.cells
  if s.mismatched q || !s.taking q then .ignored
  else if u.partial_.isSome then .waits
  else if itemCells i > most ∧ most ≤ room then .tooBig
  else if itemCells i > room then .noCells
  else s.endFate q (s.get (F.Q_CFG_ITEM_LIMIT q))

/-- Flags and counters of an item that found no room (R233). -/
def overrunWith (h : Hooks) (q cells : Nat) : Act := Act.all [
  event (F.Q_STATUS_OVERRUN q), h.cnt (F.Q_OVERRUNS_C q) 1, h.cnt (F.Q_DISCARDED_CELLS_C q) cells]

/-- Pushes a whole item of one producer: its cells, then a good end-of-item. -/
def pushWith (h : Hooks) (q : Nat) (p : Producer) (i : Item) : Act := .look fun s =>
  let u := s.queue q
  let body := (u.cells + itemCells i - 16) - (u.cells - 16)
  match s.pushFate q i with
  | .accepted => .seq (advance q body (F.Q_POINTERS_TAIL q)) (commitWith h q i body)
  | .ignored => .skip
  | .tooBig => .seq (h.cnt (F.Q_BAD_ITEMS_C q) 1) (h.cnt (F.Q_DISCARDED_CELLS_C q) (itemCells i))
  | .noCells | .full => overrunWith h q (itemCells i)
  | .late => Act.all [
      advance q body (F.Q_POINTERS_TAIL q),
      onQueue q (fun u => { u with late := u.late ++ [(i, body, s.get (F.Q_CFG_ITEM_LIMIT q))] }),
      refreshQueue q,
      touch q]
  | .waits => onQueue q (fun u => { u with
      waiting := u.waiting ++ [{ producer := p, item := i, since := s.keep.elapsed, ended := some true }] })

/-- Raises a notification (R242): one cell in the tenant's queue, or lost with OVERRUN (R244); a pointer mismatch of the
window makes its push void (R239). -/
def noteWith (h : Hooks) (t kind info : Nat) (body : List Byte) : Act := .look fun s =>
  let q := 2112 + t
  let seq := (s.queue q).seq
  let i : Item := { data := be 2 seq ++ be 1 kind ++ be 1 0 ++ be 4 info ++ fit 24 body }
  .seq (onQueue q (fun u => { u with seq := (seq + 1) % 65536 }))
    (match s.pushFate q i with
      | .ignored => Act.when (!s.mismatched q) (.seq (event (F.Q_STATUS_OVERRUN q)) (h.cnt (F.Q_OVERRUNS_C q) 1))
      | _ => pushWith h q .notifier i)

/-- Counting and notifying, `n` levels deep. -/
def hooks : Nat → Hooks
  | 0 => ⟨bump, fun _ _ _ _ => .skip⟩
  | n + 1 => ⟨countWith (hooks n), noteWith (hooks n)⟩

/-- The operations every unit uses. -/
def std : Hooks := hooks 4

/-- Counts `k` events (R574, R575). -/
def countBy (f : Field) (k : Nat) : Act := std.cnt f k

/-- Counts one event. -/
def count (f : Field) : Act := countBy f 1

/-- Raises a notification to a tenant (R242). -/
def notify (t kind info : Nat) (body : List Byte) : Act := std.note t kind info body

/-- A command that is the write of a register: not refused whole (R491, R571), it is counted as an accepted write (R107). -/
def adjusts (writer : Nat) (f : Field) (a : Act) : Act := .look fun s => .seq
  (Act.when (s.up && s.mayWrite writer f.addr && (match locate f.addr with
      | some (r, is, _) => s.present r is
      | none => false))
    (count F.IMG_VOLATILE_WRITES_COUNT))
  a

/-- Pushes a whole item into a queue. -/
def push (q : Nat) (p : Producer) (i : Item) : Act := pushWith std q p i

/-- Discards a software write: the instance's WRITE_LOST is set (R580). -/
def writeLost (f : Field) : Act := event f

end Sys2Proof.Machine
end

