-- ==== Sys2Proof/Machine/Log.lean ====
section
/-! DEFINITION. The chronicle and the tenants' fault logs (R515 to R517, R541 to R544). -/

namespace Sys2Proof.Machine

/-- Ticks of the rate limit for one chronicle entry: 32 a second (R543). -/
def chronCost : Nat := tickS / 32

/-- Writes a chronicle entry at once under the next SEQ; the newest 4,096 stay readable (R542). -/
def chronAppend (e : ChronEntry) : Act := .look fun s =>
  let n := s.keep.chronSeq + 1
  .seq (.keep fun k => { k with
      chronSeq := n, chron := ({ e with seq := n } :: k.chron).take 4096,
      chronCredit := (min (1024 * chronCost) (k.chronCredit + (k.elapsed - k.chronAt))) - chronCost,
      chronAt := k.elapsed })
    (put F.SUP_CHRONICLE_NEWEST_SEQ n)

/-- The credit of the rate limit as it stands (R543). -/
def Keep.credit (k : Keep) : Nat := min (1024 * chronCost) (k.chronCredit + (k.elapsed - k.chronAt))

/-- An entry of a KIND, as the chronicle records it now (R541). -/
def State.chronEntry (s : State) (kind : Nat) (tenant : Option Nat) (fclass : Nat) (info : List Byte) : ChronEntry :=
  { seq := 0, time := deviceTime s.units.d0, tq := s.get F.TIM_STATUS_TQ_D0, kind := kind, tenant := tenant,
    fclass := fclass, incarnation := s.incarnation, rep := 0, info := fit 28 info }

/-- Two fault entries coalesce: same tenant, and equal FCLASS, DOMAIN, INDEX and CODE (R516, R543). -/
def ChronEntry.same (a b : ChronEntry) : Bool :=
  a.kind = b.kind && a.tenant = b.tenant && slice a.info 8 6 = slice b.info 8 6

/-- Records an entry: FCLASS 0x1 to 0x3 is held for repeats, every other entry is written at once (R543). -/
def chronicle (kind : Nat) (tenant : Option Nat) (fclass : Nat) (info : List Byte) : Act := .look fun s =>
  let e := s.chronEntry kind tenant fclass info
  if 1 ≤ fclass ∧ fclass ≤ 3 then
    if s.units.sup.chronHeld.any (fun h => h.entry.same e) then
      .units fun u => { u with sup := { u.sup with chronHeld := u.sup.chronHeld.map (fun h =>
        if h.entry.same e then { h with entry := { h.entry with rep := min 65535 (h.entry.rep + 1) } } else h) } }
    else .units fun u => { u with sup := { u.sup with
      chronHeld := u.sup.chronHeld ++ [{ entry := e, since := s.keep.elapsed }] } }
  else chronAppend e

/-- Writes a held entry, or drops it above the rate limit (R543). -/
def chronRelease (h : HeldEntry) : Act := .look fun s =>
  .seq (.units fun u => { u with sup := { u.sup with chronHeld := u.sup.chronHeld.drop 1 } })
    (if s.keep.credit ≥ chronCost then chronAppend h.entry
     else .seq (count F.SUP_CHRONICLE_SUPPRESSED_C) (.keep fun k => { k with chronLost := k.chronLost + 1 }))

/-- Raises REPEAT of a held entry equal to a repeated fault. -/
def chronRepeat (tenant : Nat) (info : List Byte) : Act := .units fun u => { u with sup := { u.sup with
  chronHeld := u.sup.chronHeld.map (fun h =>
    if h.entry.kind = 4 && h.entry.tenant = some tenant && slice h.entry.info 8 6 = slice info 8 6
    then { h with entry := { h.entry with rep := min 65535 (h.entry.rep + 1) } } else h) } }

/-- Logs a fault of a tenant (R516, R517). `chron` also records it in the chronicle whatever its FCLASS. -/
def logFaultC (chron : Bool) (t code fclass domain index : Nat) : Act := .look fun s =>
  let entry := be 8 s.now ++ be 1 fclass ++ be 1 domain ++ be 2 index ++ be 2 code ++ be 2 0
  let n := s.get (F.TEN_STATUS_LOG_COUNT t)
  let newest := s.get (F.TEN_LOG_HEAD_NEWEST t)
  let w0 := s.get (F.TEN_LOG_VALUE t newest 0)
  let w1 := s.get (F.TEN_LOG_VALUE t newest 1)
  let tail := num entry 8 8
  let repeated := decide (n ≠ 0) && decide (bits w1 55 16 = bits tail 55 16) && decide ((s.now + 2 ^ 64 - w0) % 2 ^ 64 ≤ tickS)
  let slot := if n = 0 then 0 else (newest + 1) % 64
  .seq (count (F.TEN_FAULTS_C t))
    (if repeated then
      .seq (put (F.TEN_LOG_VALUE t newest 1) (w1 - w1 % 65536 + min 65535 (w1 % 65536 + 1))) (chronRepeat t entry)
     else Act.all [
      Act.when (decide (n = 64)) (count (F.TEN_LOG_OVERWRITTEN_C t)),
      put (F.TEN_LOG_VALUE t slot 0) (num entry 0 8),
      put (F.TEN_LOG_VALUE t slot 1) tail,
      put (F.TEN_LOG_HEAD_NEWEST t) slot,
      put (F.TEN_STATUS_LOG_COUNT t) (min 64 (n + 1)),
      event (F.TEN_STATUS_FAULT_NEW t),
      notify t 0x30 (code * 65536 + index) entry,
      Act.when (chron || decide (fclass ≥ 3)) (chronicle 0x04 (some t) fclass entry)])

/-- Logs a fault of a tenant; FCLASS 0x3 and above also enters the chronicle (R517). -/
def logFault (t code fclass domain index : Nat) : Act := logFaultC false t code fclass domain index

/-- The 64 bytes of a chronicle entry (R541). -/
def ChronEntry.bytes (e : ChronEntry) : List Byte :=
  let b := be 8 e.seq ++ e.time ++ be 1 (e.tq * 64) ++ be 1 e.kind
    ++ be 1 (match e.tenant with | some t => 128 + t | none => 0) ++ be 1 e.fclass ++ be 4 e.incarnation
    ++ be 2 0 ++ be 2 e.rep ++ fit 28 e.info
  b ++ be 4 (crc32c b)

/-- What SUP_CHRONICLE_ENTRY reads for a tenant (R544). -/
def State.chronRead (s : State) (reader : Nat) : List Byte :=
  match s.keep.chron.find? (fun e => e.seq = s.get F.SUP_CHRONICLE_SELECT_SEQ) with
  | some e => if reader = 0 || e.tenant = some reader then e.bytes else zeros 64
  | none => zeros 64

/-- CHRONICLE_COALESCE_EXPIRY (R543): the oldest held entry, once it has waited 1 s, is written. -/
def chronicleCoalesceExpiryAct : Act := .look fun s =>
  match s.units.sup.chronHeld with
  | h :: _ => Act.when (decide (s.keep.elapsed ≥ h.since + tickS)) (chronRelease h)
  | [] => .skip

def execChronicleCoalesceExpiry (s : State) : Host.Outcome State Fault Refusal := .next (chronicleCoalesceExpiryAct.run s)

/-- SUPPRESSED_ENTRY_WRITE (R543): one entry of KIND 0x0C with the count, once the rate allows. -/
def suppressedEntryWriteAct : Act := .look fun s =>
  Act.when (decide (s.keep.chronLost ≠ 0) && decide (s.keep.credit ≥ chronCost))
    (.seq (chronAppend (s.chronEntry 0x0C none 0 (be 8 s.keep.chronLost))) (.keep fun k => { k with chronLost := 0 }))

def execSuppressedEntryWrite (s : State) : Host.Outcome State Fault Refusal := .next (suppressedEntryWriteAct.run s)

end Sys2Proof.Machine
end

