-- ==== Sys2Proof/Machine/Stream.lean ====
section
/-! DEFINITION. What several units share of a stream: its configuration at a time (R197), the conversion of times
between domains (R167), checkpoint statements (R373, R374), and the diversion of a frame that a destination cannot
take (R348 to R350). -/

namespace Sys2Proof.Machine

/-! ## Domains -/

/-- The segment that serves a D0 time, and whether it is the oldest one used out of range (R167). -/
def segmentFor (t : Nat) : List ConvSeg → Option (ConvSeg × Bool)
  | [] => none
  | [g] => some (g, decide (dif t g.ref < 0))
  | g :: rest => if dif t g.ref ≥ 0 then some (g, false) else segmentFor t rest

/-- The segments of a domain, newest first. -/
def State.segments (s : State) (dom : Nat) : List ConvSeg := Sparse.get (fun _ => []) s.units.segs dom

/-- The conversion of R167; a domain without a segment yet keeps D0 time. -/
def State.convert (s : State) (t dom : Nat) : Nat :=
  if dom = 0 then t
  else match segmentFor t (s.segments dom) with
    | none => t
    | some (g, _) => addT t (g.offset + g.rate * dif t g.ref / (2 ^ 48 : Nat))

/-- The conversion used the oldest segment out of range. -/
def State.oldSegment (s : State) (t dom : Nat) : Bool :=
  dom ≠ 0 && (match segmentFor t (s.segments dom) with | some (_, o) => o | none => false)

/-- The present in a domain. -/
def State.nowIn (s : State) (dom : Nat) : Nat := s.convert s.now dom

/-! ## Stream configuration by time -/

/-- The stream's merge state. -/
def State.cal (s : State) (st : Nat) : CalStream := Sparse.get (fun _ => ({} : CalStream)) s.units.cal st

/-- Replaces the merge state of a stream. -/
def setCal (st : Nat) (c : CalStream) : Act :=
  .units fun u => { u with cal := Sparse.set (fun _ => ({} : CalStream)) u.cal st c }

/-- Changes the merge state of a stream. -/
def onCal (st : Nat) (f : CalStream → CalStream) : Act := .look fun s => setCal st (f (s.cal st))

/-- The registers a stream commit applies (R197). -/
def streamRegs (st : Nat) : List Nat :=
  [(F.STR_CFG_ENABLED st).addr, (F.CAL_STREAM_CFG_IS_VENT st).addr, (F.CAL_STREAM_VENT_VENT_STREAM st).addr]
    ++ (List.range 16).map (fun d => (F.STR_DEST_KIND st d).addr)
    ++ (List.range 16).map (fun w => (F.CAL_STREAM_LANES_LANES st w).addr)

/-- The word of a stream register that the pending commit brings: the staged word, or for a tenant reset's disable the
word in force with ENABLED clear (R197, R513). -/
def State.nextWord (s : State) (st a : Nat) : Word :=
  let f := F.STR_CFG_ENABLED st
  if !(s.cal st).byReset then s.rd a
  else if a = f.addr then putBits (s.rdForce a) f.msb f.lsb 0 else s.rdForce a

/-- The configuration `cur` and those before it, newest first, each with the boundary from which it served. -/
def configsBefore (cur : Nat → Word) : List (Nat × List (Nat × Word)) → List (Option Nat × (Nat → Word))
  | [] => [(none, cur)]
  | (b, ws) :: rest =>
    (some b, cur) :: configsBefore (fun a => match ws.find? (fun e => e.1 = a) with | some e => e.2 | none => cur a) rest

/-- The configurations of a stream, newest first: the commit that waits for T_APPLY serves times from it on (R197). -/
def State.configs (s : State) (st : Nat) : List (Option Nat × (Nat → Word)) :=
  (if s.is (F.STR_STATUS_PENDING st) && !(s.cal st).deferred
    then [(some (s.get (F.CAL_STREAM_APPLY_T_APPLY st)), s.nextWord st)] else [])
    ++ configsBefore s.rdForce (s.cal st).epochs

/-- DOMAIN of a configuration of a stream. -/
def configDomain (st : Nat) (c : Nat → Word) : Nat :=
  let f := F.STR_CFG_DOMAIN st
  getBits (c f.addr) f.msb f.lsb

/-- The domain of the configuration that serves a D0 time (R161, R197). -/
def State.copyDomain (s : State) (st t : Nat) : Nat :=
  match (s.configs st).find? (fun e => e.1.all (fun b => decide (dif (s.convert t (configDomain st e.2)) b ≥ 0))) with
  | some e => configDomain st e.2
  | none => s.live (F.STR_CFG_DOMAIN st)

/-- A field of a stream's configuration as it serves time `t` of a domain: boundaries of other domains do not bear on it. -/
def State.atIn (s : State) (st dom t : Nat) (f : Field) : Nat :=
  let c := match (s.configs st).find? (fun e => configDomain st e.2 = dom && e.1.all (fun b => decide (dif t b ≥ 0))) with
    | some e => e.2
    | none => s.rdForce
  getBits (c f.addr) f.msb f.lsb

/-- The life of a stream that is emitted (R621). -/
def State.head (s : State) (st : Nat) : Option Life := (s.cal st).lives.head?

/-- A field of a stream's configuration as it serves time `t` of the life that is emitted. -/
def State.at (s : State) (st t : Nat) (f : Field) : Nat :=
  s.atIn st (match s.head st with | some l => l.domain | none => s.live (F.STR_CFG_DOMAIN st)) t f

/-- The life that closes its strata: the first that is not over. -/
def CalStream.closing (c : CalStream) : Option Life := c.lives.find? (fun l => !l.isOver)

/-- Changes the life that closes its strata. -/
def changeClosing (f : Life → Life) : List Life → List Life
  | [] => []
  | l :: rest => if l.isOver then l :: changeClosing f rest else f l :: rest

/-- The stream is a readout stream: a committed program names it (R275). -/
def State.readoutStream (s : State) (st : Nat) : Bool :=
  (List.range 64).any (fun p =>
    let w := s.live (F.GEY_PROG_WORD p 3)
    bit w 63 && bits w 60 48 = st)

/-- The unit of an endpoint. -/
def State.endpoint (s : State) (p e : Nat) : EndpointUnit :=
  Sparse.get (fun _ => ({} : EndpointUnit)) s.units.endpoints (p * 256 + e)

/-- Changes the unit of an endpoint. -/
def onEndpoint (p e : Nat) (f : EndpointUnit → EndpointUnit) : Act := .look fun s =>
  let v := f (s.endpoint p e)
  .units fun u => { u with endpoints := Sparse.set (fun _ => ({} : EndpointUnit)) u.endpoints (p * 256 + e) v }

/-! ## Checkpoints that fall due (R373, R374) -/

/-- The chain of a stream. -/
def State.chain (s : State) (st : Nat) : Chain := Sparse.get (fun _ => ({} : Chain)) s.units.chains st

/-- Replaces the chain of a stream. -/
def setChain (st : Nat) (c : Chain) : Act :=
  .units fun u => { u with chains := Sparse.set (fun _ => ({} : Chain)) u.chains st c }

/-- Changes the chain of a stream. -/
def onChain (st : Nat) (f : Chain → Chain) : Act := .look fun s => setChain st (f (s.chain st))

/-- A statement (R374); its ROLE_ID is the topology section's. -/
def State.statement (s : State) (st ckind covered : Nat) (nonce tag digest time : List Byte) (progress : Nat) : List Byte :=
  be 4 0x4941564B ++ be 1 ckind ++ be 1 0 ++ be 2 s.device ++ be 4 s.incarnation ++ be 4 (match s.units.topo with | some x => x.roleId | none => 0)
    ++ be 2 st ++ be 2 0 ++ fit 12 nonce ++ be 8 covered ++ fit 16 tag ++ fit 48 digest ++ fit 12 time
    ++ be 8 progress ++ be 4 0

/-- The statement over the frame last sealed in a chain. -/
def State.headStatement (s : State) (st ckind : Nat) : List Byte :=
  let c := s.chain st
  s.statement st ckind (c.seq - 1) c.nonce c.tag c.digest c.sealTime c.progress

/-- A checkpoint of a stream falls due, covering the frame last sealed; a second one before the first has been
placed in a round merges with it (R373); a final one stays final (R378). It covers the frames that its window seals
(R379). -/
def checkpointDueAs (ckind st : Nat) : Act := .look fun s =>
  let c := s.chain st
  let k := match c.due with
    | some (_, b) => max ckind (num b 4 1)
    | none => ckind
  if !c.isOpen || c.seq = 0 then .skip
  else Act.all [
    setChain st { c with due := some (c.seq - 1, s.headStatement st k) },
    .win (fun w => { w with marks := (1, st) :: w.marks }),
    if c.due.isSome then count F.SIG_DEVICE_COALESCED_C
    else put F.SIG_STATUS_PENDING (min 8192 (s.get F.SIG_STATUS_PENDING + 1))]

/-- A periodic or gap checkpoint. -/
def checkpointDue (st : Nat) : Act := checkpointDueAs 2 st

/-- A gap checkpoint, when the chain's configuration asks for them (R373). -/
def gapCheckpoint (st : Nat) : Act := .look fun s =>
  let c := s.chain st
  Act.when (c.isOpen && bit c.cfg 61) (.seq (count (F.SIG_STREAM_GAP_CHECKPOINTS_C st)) (checkpointDue st))

/-- Stream `st` has, in force, a destination on the link or ring port that queue `q` serves (R189, R330). -/
def State.streamUses (s : State) (st q : Nat) : Bool :=
  (List.range (s.live (F.STR_CFG_DEST_COUNT st))).any (fun d =>
    let k := s.live (F.STR_DEST_KIND st d)
    let p := s.live (F.STR_DEST_PORT st d)
    (k = 1 && q < 2048 && p = q / 8) || (k = 3 && 2048 ≤ q && q < 2112 && p = (q - 2048) / 8))

/-- Gap checkpoints of every open chain that uses queue `q`: at a flush and at a mismatch reset (R373). -/
def gapCheckpoints (q : Nat) : Act := .look fun s =>
  Act.each (Sparse.keys s.units.chains (fun st c => c.isOpen && s.streamUses st q)) gapCheckpoint

/-! ## Diversion (R348 to R350) -/

/-- The cases of R348. -/
inductive Diverted where
  | queueFull | linkDown | storm | silent | retries | retention
  deriving DecidableEq, Repr

/-- The counter of a case. -/
def Diverted.counter (d : Diverted) (l : Nat) : Field :=
  match d with
  | .queueFull => linkF l F.LSN_LINK_DIVERTED_QUEUE_FULL_C F.RNG_DIVERTED_QUEUE_FULL_C
  | .linkDown => linkF l F.LSN_LINK_DIVERTED_LINK_DOWN_C F.RNG_DIVERTED_LINK_DOWN_C
  | .storm => linkF l F.LSN_LINK_DIVERTED_STORM_C F.RNG_DIVERTED_STORM_C
  | .silent => linkF l F.LSN_LINK_DIVERTED_SILENT_C F.RNG_DIVERTED_SILENT_C
  | .retries => linkF l F.LSN_LINK_DIVERTED_RETRIES_C F.RNG_DIVERTED_RETRIES_C
  | .retention => linkF l F.LSN_LINK_DIVERTED_RETENTION_C F.RNG_DIVERTED_RETENTION_C

/-- A frame of this device's own streams, live or replayed, rather than one a ring relay forwards. -/
def ownFrame (i : Item) : Bool := i.kind = .sealed && i.stream < 8192 && !bit i.oflags 2

/-- Adds a diverted frame to the endpoint's runs: it extends the run it follows, else starts one (R350). -/
def addToRuns (link : Nat) (i : Item) (l : List SpillRun) : List SpillRun :=
  if l.any (fun r => r.stream = i.stream && r.chain = i.chain && r.first + r.count = i.seq)
  then l.map (fun r => if r.stream = i.stream && r.chain = i.chain && r.first + r.count = i.seq
    then { r with count := r.count + 1 } else r)
  else l ++ [{ link := link, stream := i.stream, chain := i.chain, first := i.seq, count := 1 }]

/-- A frame that its destination cannot take: spilled or dropped, and counted (R348, R349); a gap checkpoint for a
listener destination (R373); a run to tell a reliable endpoint of (R350). -/
def divert (why : Diverted) (l prio : Nat) (i : Item) : Act := .look fun s =>
  let p := portOf l
  let spill := s.liveIs (epF p i.endpoint F.LSN_ENDPOINT_W0_SPILL_EN)
    && (s.get F.LKT_STATUS_STATE = 3 || s.get F.LKT_STATUS_STATE = 4)
  Act.all [
    count (why.counter l),
    count (if l < 256 then F.LSN_LINK_PRIO_DIVERTED_C (l / 8) (l % 8) prio else F.RNG_PRIO_DIVERTED_C (l - 256) prio),
    (if spill then .seq (count (linkF l F.LSN_LINK_SPILLED_C F.RNG_SPILLED_C))
      (.units fun u => { u with storeIn := u.storeIn ++
        [{ spill := some (l, s.streamOwner i.stream), item := i, prio := prio, endpoint := i.endpoint }] })
     else count (linkF l F.LSN_LINK_DROPPED_C F.RNG_DROPPED_C)),
    Act.when (s.liveIs (epF p i.endpoint F.LSN_ENDPOINT_W0_RELIABLE))
      (onEndpoint p i.endpoint (fun e => { e with runs := addToRuns l i e.runs })),
    Act.when (ownFrame i && decide (l < 256)) (gapCheckpoint i.stream)]

/-- Shows what a port and an endpoint retain. -/
def refreshRetained (p e : Nat) : Act := .look fun s =>
  let here := (s.units.endpoints.filter (fun x => x.1 / 256 = p)).flatMap (fun x => x.2.retained)
  Act.all [
    put (epF p e F.LSN_ENDPOINT_STATUS_UNACKED) (s.endpoint p e).retained.length,
    Act.when (decide (p < 32)) (.seq (put (F.LSN_PORT_RETAIN_FRAMES p) here.length)
      (put (F.LSN_PORT_RETAIN_BYTES p) ((here.map (fun r => r.item.data.length)).sum)))]

/-- Diverts retained frames of an endpoint, and releases them. -/
def divertRetained (why : Diverted) (p e : Nat) (rs : List Retained) : Act := Act.all [
  onEndpoint p e (fun x => { x with retained := x.retained.filter (fun r => !rs.contains r) }),
  Act.each rs (fun r => divert why r.link r.prio r.item),
  refreshRetained p e]

/-- The chain of a sealed frame. -/
def chainOf (i : Item) : HeldChain := { origin := num i.data 4 2, stream := i.stream, chain := i.chain }

/-- A chain opens at an endpoint: the one before it stays, and what is retained of the one two before is diverted (R345). -/
def holdChain (p e : Nat) (c : HeldChain) : Act := .look fun s =>
  let u := s.endpoint p e
  let mine := u.chains.filter (fun x => x.origin = c.origin && x.stream = c.stream)
  let gone := mine.drop 1
  .seq (onEndpoint p e (fun x => { x with
      chains := c :: x.chains.filter (fun y => !gone.contains y)
      runs := x.runs.filter (fun r => r.stream ≠ c.stream || mine.any (fun y => y.chain = r.chain)
        || u.replayed.any (fun y => y.stream = r.stream && y.chain = r.chain)) }))
    (divertRetained .retention p e (u.retained.filter (fun r => gone.contains (chainOf r.item))))

/-- A chain opens: at every endpoint that holds an earlier one of its stream. -/
def chainOpens (c : HeldChain) : Act := .look fun s =>
  Act.each (s.units.endpoints.filter (fun x => !x.2.chains.contains c
      && x.2.chains.any (fun y => y.origin = c.origin && y.stream = c.stream)))
    (fun x => holdChain (x.1 / 256) (x.1 % 256) c)

/-- A frame that a queue's input refused is diverted as queue full (R348). -/
def divertRefused (q : Nat) (i : Item) : Act :=
  Act.when (i.kind = .sealed && decide (i.stream < 8192) && decide (q < 2112))
    (if q < 2048 then divert .queueFull (q / 8) (q % 8) i else divert .queueFull (256 + (q - 2048) / 8) (q % 8) i)

/-- Pushes a sealed frame; what the queue does not take is diverted, but for one that a pointer mismatch makes void: it is
lost, and a gap checkpoint falls due (R330, R348, R373). -/
def pushFrame (q : Nat) (p : Producer) (i : Item) : Act := .look fun s =>
  .seq (push q p i) (match s.pushFate q i with
    | .accepted | .waits | .late => .skip
    | _ => if s.mismatched q then Act.when (i.kind = .sealed && decide (i.stream < 8192) && ownFrame i) (gapCheckpoint i.stream)
      else divertRefused q i)

end Sys2Proof.Machine
end

