-- ==== Sys2Proof/Machine/Queue.lean ====
section
/-! DEFINITION. Queue units: cells, items, pops, flushes, pointer mismatches and notification reads (R226 to R246). -/

namespace Sys2Proof.Machine

/-! ## Rewind and discard (R233, R234) -/

/-- Rewinds `p`'s cells at the input of queue `q`: the cells are released and counted, TAIL returns to the first
of them, and whatever of them stood in the head is taken back. -/
def rewind (q : Nat) (p : PartialItem) (extra : Nat) (next : Option PartialItem) : Act := Act.all [
  onQueue q (fun u => { u with partial_ := next }),
  retreat q p.bodyCells (F.Q_POINTERS_TAIL q),
  .look (fun s => Act.when (decide ((s.queue q).cells ≤ 16))
    (put (F.Q_POINTERS_HEAD q) (s.get (F.Q_POINTERS_TAIL q)))),
  countBy (F.Q_DISCARDED_CELLS_C q) (p.cells + extra),
  refreshQueue q]

/-- The flush ends once nothing is left to discard (R240, step 3). -/
def flushDone (q : Nat) : Act := .look fun s =>
  Act.when (s.is (F.Q_STATUS_FLUSHING q)) (Act.all [
    put (F.Q_STATUS_FLUSHING q) 0, event (F.Q_STATUS_FLUSH_DONE q), notify (s.queueOwner q) 0x06 q []])

/-- Adds one cell to the item at the input of queue `q` (R229, R230, R233). -/
def addCell (q : Nat) (p : PartialItem) (cell : List Byte) : Act := .look fun s =>
  let u := s.queue q
  if p.discarding then count (F.Q_DISCARDED_CELLS_C q)
  else if p.cells + 1 > p.maxCells then
    .seq (rewind q p 1 (some { p with discarding := true, cells := 0, bodyCells := 0 })) (count (F.Q_BAD_ITEMS_C q))
  else if u.cells + 1 > s.get (F.Q_QUOTA_CELL_QUOTA q) then Act.all [
    rewind q p 1 (some { p with discarding := true, cells := 0, bodyCells := 0 }),
    event (F.Q_STATUS_OVERRUN q), count (F.Q_OVERRUNS_C q)]
  else
    let body := if u.cells ≥ 16 then 1 else 0
    Act.all [
      onQueue q (fun u => { u with partial_ := some { p with
        cells := p.cells + 1, bodyCells := p.bodyCells + body, item := { p.item with data := p.item.data ++ cell } } }),
      advance q body (F.Q_POINTERS_TAIL q), refreshQueue q]

/-- Ends the item at the input of queue `q` (R233, R234, R237); a queue without ENABLE ignores the push. -/
def endItem (q : Nat) (p : PartialItem) (good : Bool) : Act := .look fun s =>
  if p.discarding then .seq (onQueue q (fun u => { u with partial_ := none })) (.seq (refreshQueue q) (flushDone q))
  else if !good then .seq (rewind q p 0 none) (count (F.Q_BAD_ITEMS_C q))
  else if !s.taking q then .seq (rewind q p 0 none) (divertRefused q p.item)
  else match s.endFate q p.limit with
    | .accepted => .seq (onQueue q (fun u => { u with partial_ := none })) (commitWith std q p.item p.bodyCells)
    | .late => Act.all [
        onQueue q (fun u => { u with partial_ := none, late := u.late ++ [(p.item, p.bodyCells, p.limit)] }),
        refreshQueue q, touch q]
    | _ => Act.all [
        rewind q p 0 none, event (F.Q_STATUS_OVERRUN q), count (F.Q_OVERRUNS_C q), divertRefused q p.item]

/-- A new item at the input, judged by the limits in force at its start (R578). -/
def State.newItem (s : State) (q : Nat) (p : Producer) (i : Item) : PartialItem :=
  { producer := p, item := i, maxCells := s.get (F.Q_CFG_MAX_ITEM_CELLS q), limit := s.get (F.Q_CFG_ITEM_LIMIT q) }

/-! ## Producers that share an input (R227) -/

/-- The producers of a queue, in the order of the table of R226. A unit's internal path has that unit alone. -/
def producersOf (q : Nat) : List Producer :=
  if q < 2048 then [.signet, .replay, .relay, .clasp, .spill]
  else if q < 2112 then [.signet, .relay, .geyser, .supervisor, .time, .clasp]
  else if q < 2144 then [.notifier]
  else if q < 2176 then [.locket]
  else [.internal]

/-- The items in their producers' staging: the first of each producer. -/
def staged (l : List Waiting) : List Waiting :=
  l.foldl (fun a w => if a.any (fun b => b.producer = w.producer) then a else a ++ [w]) []

/-- The waiting producer to be granted next: the earliest arrival, and within one window the one that stands
first in the table of R226. -/
def nextWaiting (q : Nat) (l : List Waiting) : Option Waiting :=
  let rank := fun w : Waiting => (producersOf q).idxOf w.producer
  (staged l).foldl (fun best w => match best with
    | none => some w
    | some b => if w.since < b.since ∨ (w.since = b.since ∧ rank w < rank b) then some w else some b) none

/-- A producer comes to its next start-of-item at a time. -/
def arrive (p : Producer) (now : Nat) : List Waiting → List Waiting
  | [] => []
  | w :: rest => if w.producer = p then { w with since := now } :: rest else w :: arrive p now rest

/-- A producer's cell while it waits: of the item it is writing, or of a new one. -/
def stage (p : Producer) (start : Bool) (cell : List Byte) (now : Nat) (l : List Waiting) : List Waiting :=
  if l.any (fun w => w.producer = p && w.ended.isNone) then
    l.map (fun w => if w.producer = p && w.ended.isNone then { w with item := { w.item with data := w.item.data ++ cell } } else w)
  else if start then l ++ [{ producer := p, item := { data := cell }, since := now }]
  else l

/-- Splits staged bytes into cells of 64. -/
def cellsOf : Nat → List Byte → List (List Byte)
  | 0, _ => []
  | n + 1, l => if l.length ≤ 64 then [l] else l.take 64 :: cellsOf n (l.drop 64)

/-- Feeds staged cells into the item at the input. -/
def feed (q : Nat) (cells : List (List Byte)) : Act :=
  Act.each cells (fun c => .look fun s => match (s.queue q).partial_ with
    | some p => addCell q p c
    | none => .skip)

/-- Grants the input to the waiting producers, up to `n` of them, until one is still mid-item. What waits at a queue
without ENABLE is ignored (R246). -/
def grant (q : Nat) : Nat → Act
  | 0 => .skip
  | n + 1 => .look fun s =>
    match (s.queue q).partial_, nextWaiting q (s.queue q).waiting with
    | none, some w =>
      let leave := fun u : QueueUnit => { u with waiting := arrive w.producer s.keep.elapsed (u.waiting.erase w) }
      let start := Act.all [
        onQueue q (fun u => { leave u with partial_ := some { s.newItem q w.producer { w.item with data := [] } with cells := 0 } }),
        refreshQueue q,
        feed q (cellsOf w.item.data.length w.item.data)]
      match w.ended with
      | some true => Act.all [onQueue q leave, pushFrame q w.producer w.item, grant q n]
      | none => if s.taking q then start else .seq (onQueue q leave) (grant q n)
      | some false => if s.taking q then Act.all [start,
            .look (fun s => match (s.queue q).partial_ with | some p => endItem q p false | none => .skip), grant q n]
          else .seq (onQueue q leave) (grant q n)
    | _, _ => .skip

/-- Grants after the end-of-item of a producer, which comes to its own next item. -/
def grantNext (q : Nat) (p : Producer) : Act := .look fun s => .seq
  (onQueue q (fun u => { u with waiting := arrive p s.keep.elapsed u.waiting }))
  (grant q (s.queue q).waiting.length)

/-! ## Thresholds (R236, R239) -/

/-- The threshold event of the window's pushes, by the depth that its pushes and pops leave. -/
def thresholdEvent (q : Nat) : Act := .look fun s =>
  let level := s.get (F.Q_THRESHOLD_LEVEL q)
  Act.when (s.is (F.Q_STATUS_THRESH_ARMED q) && level ≠ 0 && decide ((s.queue q).items.length ≥ level) && s.win.pushes.contains q)
    (Act.all [event (F.Q_STATUS_THRESH_EVENT q), put (F.Q_STATUS_THRESH_ARMED q) 0, notify (s.queueOwner q) 0x03 q []])

/-- The event re-arms once depth is at REARM or below. -/
def rearm (q : Nat) : Act := .look fun s =>
  Act.when (decide ((s.queue q).items.length ≤ s.get (F.Q_THRESHOLD_REARM q))) (put (F.Q_STATUS_THRESH_ARMED q) 1)

/-! ## Flush (R240) -/

/-- Step 1 of a flush: committed items go, the partial item is rewound, and nothing popped is touched. -/
def flushStep1 (q : Nat) : Act := .look fun s =>
  let u := s.queue q
  Act.all [
    thresholdEvent q,
    put (F.Q_STATUS_FLUSHING q) 1,
    countBy (F.Q_FLUSHED_ITEMS_C q) u.items.length,
    onQueue q (fun u => { u with items := [], flushDue := false, heldPop := false }),
    (match u.partial_ with
      | some p => if p.discarding then .skip
          else rewind q p 0 (some { p with discarding := true, cells := 0, bodyCells := 0 })
      | none => .skip),
    .look (fun s => put (F.Q_POINTERS_HEAD q) (s.get (F.Q_POINTERS_TAIL q))),
    put (F.Q_CTRL_FLUSH q) 0,
    refreshQueue q,
    rearm q,
    gapCheckpoints q,
    .look (fun s => Act.when (s.queue q).partial_.isNone (flushDone q))]

/-- Starts a flush. While commands of its window wait it acts at the window's end, after every push and pop (R239). While
FLUSHING it has no further effect (R240). -/
def startFlush (q : Nat) : Act := .look fun s =>
  if s.is (F.Q_STATUS_FLUSHING q) then put (F.Q_CTRL_FLUSH q) 0
  else if s.pending.isEmpty then flushStep1 q
  else .seq (onQueue q (fun u => { u with flushDue := true })) (touch q)

/-! ## Late items and the end of a window (R237, R239) -/

/-- A pop lets in the items that found the queue full in its window: the push sees the state after the pop. -/
def admitLate (q : Nat) : Nat → Act
  | 0 => .skip
  | n + 1 => .look fun s => match (s.queue q).late with
    | (i, body, limit) :: rest => Act.when (decide ((s.queue q).items.length < limit)) (Act.all [
        onQueue q (fun u => { u with late := rest }), commitWith std q i body, admitLate q n])
    | [] => .skip

/-- Items that no pop of the window let in are rewound: OVERRUN (R233, R237). -/
def refuseLate (q : Nat) : Act := .look fun s => Act.each (s.queue q).late (fun e => Act.all [
  onQueue q (fun u => { u with late := u.late.drop 1 }),
  retreat q e.2.1 (F.Q_POINTERS_TAIL q),
  refreshQueue q,
  overrunWith std q (itemCells e.1),
  divertRefused q e.1])

/-- The end of a window at a queue. -/
def settleQueue (q : Nat) : Act := Act.all [
  refuseLate q,
  thresholdEvent q,
  .look (fun s => Act.when (s.queue q).flushDue (flushStep1 q)),
  rearm q]

/-- The end of a window at the queues it touched; the notifications this raises touch notification queues. -/
def settleQueues : Act :=
  let notes := fun q : Nat => decide (2112 ≤ q) && decide (q < 2144)
  .seq (.look fun s => Act.each (s.win.touched.filter (fun q => !notes q)) settleQueue)
    (.look fun s => Act.each (s.win.touched.filter notes) settleQueue)

/-! ## The rows -/

/-- QUEUE_CELL (R227, R229, R230, R233, R234): of a producer that R226 gives the queue. Of an item being discarded the
cells are counted, with ENABLE or without it. -/
def queueCellAct (q : Nat) (p : Producer) (start : Bool) (cell : List Byte) : Act := .look fun s =>
  let held := onQueue q (fun u => { u with waiting := stage p start cell s.keep.elapsed u.waiting })
  if s.mismatched q || !(producersOf q).contains p then .skip
  else match (s.queue q).partial_ with
    | none =>
      if start && s.taking q then
        let i := s.newItem q p { data := [] }
        Act.all [onQueue q (fun u => { u with partial_ := some i }), refreshQueue q, addCell q i cell]
      else .skip
    | some x =>
      if x.producer = p then
        if start && x.discarding then Act.all [
          onQueue q (fun u => { u with partial_ := none }), refreshQueue q, flushDone q,
          Act.when (s.taking q) held, grantNext q p]
        else addCell q x cell
      else Act.when (s.taking q) held

def execQueueCell (q : Nat) (p : Producer) (start : Bool) (cell : List Byte) (s : State) :
    Host.Outcome State Fault Refusal := .next ((queueCellAct q p start cell).run s)

/-- QUEUE_END_OF_ITEM (R227, R233, R234, R237). -/
def queueEndOfItemAct (q : Nat) (p : Producer) (good : Bool) : Act := .look fun s =>
  let u := s.queue q
  if s.mismatched q then .skip
  else match u.partial_ with
    | none => .skip
    | some pi =>
      if pi.producer = p then .seq (endItem q pi good) (grantNext q p)
      else onQueue q (fun u => { u with waiting := u.waiting.map (fun w =>
        if w.producer = p && w.ended.isNone then { w with ended := some good } else w) })

def execQueueEndOfItem (q : Nat) (p : Producer) (good : Bool) (s : State) :
    Host.Outcome State Fault Refusal := .next ((queueEndOfItemAct q p good).run s)

/-- Takes the oldest committed item (R231) and hands it on; an item with an uncorrectable word is dropped and counted
(R521). -/
def unqueue (q : Nat) (i : Item) (rest : List (Item × Nat)) (out : Act) : Act := .look fun s =>
  let u := s.queue q
  let moved := (u.cells - 16) - (u.cells - itemCells i - 16)
  Act.all [
    advance q moved (F.Q_POINTERS_HEAD q),
    onQueue q (fun u => { u with items := rest, heldPop := false, last := i.data }),
    count (F.Q_ITEMS_POPPED_C q),
    refreshQueue q,
    (if i.faulty then count (F.Q_BAD_ITEMS_C q) else out),
    touch q,
    admitLate q u.late.length]

/-- Takes the oldest committed item for its consumer. -/
def takeItem (q : Nat) (i : Item) (rest : List (Item × Nat)) : Act := unqueue q i rest (.emit (.popped q i))

/-- Items committed before this window began: a pop does not see a push of its own window (R237). -/
def State.poppable (s : State) (q : Nat) : Nat := (s.queue q).items.length - (s.win.pushes.filter (· = q)).length

/-- An empty pop (R238). -/
def emptyPop (q : Nat) : Act := .seq (event (F.Q_STATUS_UNDERRUN q)) (count (F.Q_UNDERRUNS_C q))

/-- QUEUE_POP (R231, R237, R238). -/
def queuePopAct (q : Nat) (atHead : Bool) : Act := .look fun s =>
  if s.mismatched q then .skip
  else match (s.queue q).items with
    | (i, _) :: rest =>
      if s.poppable q = 0 then emptyPop q
      else if atHead then takeItem q i rest
      else onQueue q (fun u => { u with heldPop := true })
    | [] => emptyPop q

def execQueuePop (q : Nat) (atHead : Bool) (s : State) : Host.Outcome State Fault Refusal :=
  .next ((queuePopAct q atHead).run s)

/-- HELD_POP_COMPLETE (R231). -/
def heldPopCompleteAct (q : Nat) : Act := .look fun s =>
  if s.mismatched q || !(s.queue q).heldPop then .skip
  else match (s.queue q).items with
    | (i, _) :: rest => takeItem q i rest
    | [] => .skip

def execHeldPopComplete (q : Nat) (s : State) : Host.Outcome State Fault Refusal := .next ((heldPopCompleteAct q).run s)

/-- The tenant may write queue `q`'s Q_THRESHOLD and Q_CTRL (R245). -/
def mayCommandQueue (q writer : Nat) : Bool := writer = 0 || (2112 ≤ q && q < 2144 && writer = q - 2112)

/-- FLUSH (R240, R245): a write of Q_CTRL. A pointer mismatch of the window makes it void (R239). -/
def flushAct (q writer : Nat) (value : Word) : Act := .look fun s =>
  if getBits value 0 0 = 0 then .skip
  else if !mayCommandQueue q writer then writeLost (F.Q_STATUS_WRITE_LOST q)
  else if s.mismatched q then .skip
  else .seq (put (F.Q_CTRL_FLUSH q) 1) (startFlush q)

def execFlush (q writer : Nat) (value : Word) (s : State) : Host.Outcome State Fault Refusal :=
  .next ((adjusts writer (F.Q_CTRL_FLUSH q) (Act.when (s.queuePresent q) (flushAct q writer value))).run s)

/-- Writes Q_CFG with its clamping (R246); clearing ENABLE flushes the queue (R240). -/
def queueDisableAct (q writer : Nat) (value : Word) : Act := .look fun s =>
  if writer ≠ 0 then writeLost (F.Q_STATUS_WRITE_LOST q)
  else Act.all [
    Act.when (s.is (F.Q_CFG_ENABLE q) && getBits value 31 31 = 0 && !s.mismatched q) (startFlush q),
    put (F.Q_CFG_ENABLE q) (getBits value 31 31),
    put (F.Q_CFG_MAX_ITEM_CELLS q) (max 1 (min 256 (getBits value 24 16))),
    put (F.Q_CFG_ITEM_LIMIT q) (max 1 (getBits value 15 0)),
    refreshQueue q]

def execQueueDisable (q writer : Nat) (value : Word) (s : State) : Host.Outcome State Fault Refusal :=
  .next ((Act.when (s.queuePresent q) (adjusts writer (F.Q_CFG_ENABLE q) (queueDisableAct q writer value))).run s)

/-- The reset of a queue after a pointer mismatch (R241). -/
def queueReset (q : Nat) : Act := .look fun s =>
  let u := s.queue q
  Act.all [
    countBy (F.Q_FLUSHED_ITEMS_C q) u.items.length,
    onQueue q (fun u => { u with items := [], late := [], heldPop := false }),
    (match u.partial_ with
      | some p => if p.discarding then .skip
          else rewind q p 0 (some { p with discarding := true, cells := 0, bodyCells := 0 })
      | none => .skip),
    put (F.Q_POINTERS_HEAD q) 0,
    put (F.Q_POINTERS_TAIL q) 0,
    refreshQueue q,
    rearm q,
    event (F.Q_STATUS_POINTER_MISMATCH q),
    count (F.Q_MISMATCH_RESETS_C q),
    gapCheckpoints q,
    notify (s.queueOwner q) 0x07 q [],
    logFaultC true (s.queueOwner q) 0x06 2 0x03 q]

/-- POINTER_MISMATCH (R239, R241): it takes precedence over every other operation of its window. A notification queue takes
the report of its own reset. -/
def pointerMismatchAct (q : Nat) : Act :=
  .seq (queueReset q) (.win fun w => { w with mismatches := q :: w.mismatches })

def execPointerMismatch (q : Nat) (s : State) : Host.Outcome State Fault Refusal := .next ((pointerMismatchAct q).run s)

/-- The tenant may read queue `q`'s item through its window (R245). -/
def mayReadNotify (reader q : Nat) : Bool := decide (2112 ≤ q) && decide (q < 2144) && (reader = 0 || reader = q - 2112)

/-- The effect of a read of Q_NOTIFY_DATA that includes byte 0: it pops (R243), unless the queue's pointers mismatch in
this window (R239). -/
def notifyPop (q : Nat) : Act := .look fun s =>
  let u := s.queue q
  if s.mismatched q then .skip
  else match u.items with
    | (i, _) :: rest =>
      if s.poppable q = 0 then emptyPop q
      else Act.all [
        advance q ((u.cells - 16) - (u.cells - itemCells i - 16)) (F.Q_POINTERS_HEAD q),
        onQueue q (fun u => { u with items := rest, last := i.data, lastRead := i.data }),
        count (F.Q_ITEMS_POPPED_C q),
        refreshQueue q,
        touch q,
        admitLate q u.late.length]
    | [] => emptyPop q

/-- Bytes of the window as they stand: the item most recently popped by a read (R243). -/
def State.notifyBytes (s : State) (q offset len : Nat) : List Byte := slice (fit 32 (s.queue q).lastRead) offset len

/-- NOTIFY_READ (R243 to R245): the bytes a read of Q_NOTIFY_DATA returns, and its effect. -/
def notifyReadAct (reader q offset len : Nat) : Act :=
  if !mayReadNotify reader q then .emit (.readData reader (zeros len))
  else .seq (Act.when (offset = 0 && len ≠ 0) (notifyPop q)) (.look fun s => .emit (.readData reader (s.notifyBytes q offset len)))

def execNotifyRead (reader q offset len : Nat) (s : State) : Host.Outcome State Fault Refusal :=
  .next ((notifyReadAct reader q offset len).run s)

end Sys2Proof.Machine
end

