-- ==== Sys2Proof/Machine/Signet.lean ====
section
/-! DEFINITION. Signet and segmentation: sealing, chains, checkpoints and rounds, ownership (R358 to R380), and
the frames of a stream (R324 to R330). -/

namespace Sys2Proof.Machine

/-- The identity record (R359). -/
def identityRecord : List Byte :=
  be 4 0x49415649 ++ be 2 1 ++ zeros 2 ++ be 8 Config.serial.toNat ++ be 1 4 ++ (List.range 96).map Config.ecdsaPublicByte
    ++ zeros 3 ++ (List.range 1952).map Config.mldsaPublicByte ++ (List.range 1568).map Config.mlkemPublicByte ++ zeros 4

/-- Byte `i` of what SIG_IDENTITY_RECORD returns: the record, then the certificate, then zeros (R360). -/
def identityByte (i : Nat) : Byte :=
  if i < 3640 then identityRecord.getD i 0 else if i < 7045 then Config.certificateByte (i - 3640) else 0

/-- Hash of the identity record (R359). -/
def identityHash : List Byte := sha identityRecord

/-! ## Segmentation state -/

/-- Segmentation of a stream. -/
def State.seg (s : State) (st : Nat) : SegUnit := Sparse.get (fun _ => ({} : SegUnit)) s.units.seg st

/-- Changes the segmentation of a stream. -/
def onSeg (st : Nat) (f : SegUnit → SegUnit) : Act := .look fun s =>
  let v := f (s.seg st)
  .units fun u => { u with seg := Sparse.set (fun _ => ({} : SegUnit)) u.seg st v }

/-! ## Copies as bytes (R161) -/

/-- Header bytes 0 to 19 of an output sentence. -/
def Copy.head (c : Copy) : List Byte :=
  be 8 c.time ++ be 4 c.source ++ be 4 (c.channel * 4096 + c.cls * 512 + c.flags) ++ be 1 c.typ
    ++ be 1 (c.payload.length / 8) ++ be 2 (c.group * 16 + c.domain * 4)

/-- The bytes of an output sentence, CRC included. -/
def Copy.bytes (c : Copy) : List Byte := c.head ++ be 4 (crc32c (c.head ++ c.payload)) ++ c.payload

/-! ## Sealing (R324, R369 to R371) -/

/-- What segmentation hands Signet for one frame. -/
structure FrameReq where
  kind : Nat
  sflags : Nat := 0
  count : Nat := 0
  segIndex : Nat := 0
  blockSeq : Nat := 0
  segCount : Nat := 0
  first : Option Nat := none
  prio : Option Nat := none
  /-- Time whose configuration gives its destinations (R197). -/
  ref : Nat := 0
  body : List Byte := []
  win : Option WinMark := none
  deriving DecidableEq, Repr

/-- Sends a sealed frame to each destination of the configuration that serves its time (R16, R330, R348). -/
def distribute (st ref prio : Nat) (i : Item) : Act := .look fun s =>
  Act.each (List.range (min 16 (s.at st ref (F.STR_CFG_DEST_COUNT st)))) (fun d =>
    let kind := s.at st ref (F.STR_DEST_KIND st d)
    let port := s.at st ref (F.STR_DEST_PORT st d)
    let item := { i with endpoint := s.at st ref (F.STR_DEST_ENDPOINT st d) }
    if kind = 1 then pushFrame (8 * port + prio) .signet item
    else if kind = 2 then .units fun u => { u with storeIn := u.storeIn ++ [{ spill := none, item := i, prio := prio }] }
    else if kind = 3 then pushFrame (2048 + 8 * port + prio) .signet item
    else .skip)

/-- The keys of an open chain are usable. -/
def State.chainKeysGood (s : State) (c : Chain) : Bool :=
  (match s.keyEntry (bits c.cfg 15 0) 1 with | some e => s.keyGood e | none => false)
    && (!c.encrypt || (match s.keyEntry (bits c.cfg 31 16) 2 with | some e => s.keyGood e | none => false))

/-- The stratum holds copies. -/
def Stratum.full (x : Stratum) : Bool := !x.hot.isEmpty || !x.near.isEmpty

/-- PROGRESS of a stream and its BY_HORIZON: the end of the stratum before the first closed one whose copies have not all
been sealed, or of the last one closed (R328); a stratum that closes in this window may still take copies (R203). Zero in
a readout stream (R324). -/
def State.progress (s : State) (st : Nat) : Nat × Bool :=
  if s.readoutStream st then (0, false)
  else match s.head st with
    | none => (0, false)
    | some l => match l.strata.find? (fun x => x.closed.isSome && (x.full || x.closedAt = s.keep.elapsed)) with
      | some x => (x.start, x.prior)
      | none => l.edge

/-- The header of a sealed frame (R324). -/
def State.frameHead (s : State) (st seq first : Nat) (r : FrameReq) : List Byte :=
  be 2 st ++ be 1 r.kind ++ be 1 (r.sflags + b2n (s.progress st).2) ++ be 2 s.device ++ be 2 (r.body.length / 8) ++ be 4 s.incarnation
    ++ be 2 r.count ++ be 2 r.segIndex ++ be 8 seq ++ be 8 first ++ be 8 (s.progress st).1 ++ be 4 r.blockSeq
    ++ be 2 r.segCount ++ be 2 0

/-- Seals one frame of a stream and pushes it to its destinations; without an open chain and usable keys it is
dropped and counted (R368 to R371). -/
def sealFrame (st : Nat) (r : FrameReq) : Act := .look fun s =>
  let c := s.chain st
  let mark := onSeg st (fun g => { g with due := false, sentAt := s.keep.elapsed, ref := r.ref })
  if !c.isOpen then .seq (count (F.SIG_STREAM_UNSEALED_DROPPED_C st)) mark
  else if !s.chainKeysGood c then
    Act.all [count (F.SIG_STREAM_UNSEALED_DROPPED_C st), put (F.SIG_STREAM_STATUS_RESULT st) 4, mark]
  else
    let seq := c.seq
    let first := r.first.getD c.timeFirst
    let prio := match r.prio, c.prio with
      | some p, _ => p
      | none, some p => p
      | none, none => s.at st r.ref (F.STR_CFG_DEFAULT_CLASS st)
    let iv := be 4 0 ++ be 8 seq
    let body := if c.encrypt && decide (1 ≤ r.kind) && decide (r.kind ≤ 3) then gctr c.keyE iv 2 r.body else r.body
    let head := s.frameHead st seq first r
    let tag := block (gcmTag c.keyF iv (c.tag ++ head ++ body) [])
    let bytes := head ++ body ++ tag
    let counted := if r.kind = 4 then c.counted else c.counted + 1
    let interval := bits c.cfg 55 32
    let c' := { c with
      seq := seq + 1, tag := tag, digest := sha (c.digest ++ bytes), sealTime := deviceTime s.units.d0,
      progress := (s.progress st).1, prio := some prio, timeFirst := first, counted := counted }
    Act.all [
      setChain st c',
      mark,
      put (F.LSN_STREAM_FRAME_SEQ_NEXT st) (seq + 1),
      count (F.SIG_STREAM_FRAMES_SEALED_C st),
      distribute st r.ref prio
        { data := bytes, kind := .sealed, stream := st, seq := seq, chain := num c.nonce 0 4, win := r.win },
      -- R379: a checkpoint that fell due in this window covers this frame
      .look (fun s => match (s.chain st).due with
        | some (_, b) => Act.when (s.win.marks.contains (1, st))
            (onChain st (fun c => { c with due := some (c.seq - 1, s.headStatement st (num b 4 1)) }))
        | none => .skip),
      Act.when (r.kind ≠ 4 && bit c.cfg 62 && interval ≠ 0 && counted % interval = 0) (checkpointDue st)]

/-! ## Chains (R367, R368) -/

/-- A later command of this window is a health-test failure of the entropy source (R379). -/
def State.entropyPending (s : State) : Bool := s.pending.any (fun c => match c with | .entropyFault => true | _ => false)

/-- Why a chain with this configuration does not open: RESULT of SIG_STREAM_STATUS, or 0. -/
def State.chainResult (s : State) (st : Nat) (cfg : Word) : Nat :=
  let owner := s.streamOwner st
  let bad := fun (idx usage code : Nat) => match s.keyEntry idx usage with
    | none => code
    | some e => if s.get (F.SIG_KEY_INFO_TENANT e) ≠ owner then code else if s.keyGood e then 0 else 4
  let a := bad (getBits cfg 15 0) 1 1
  let b := if getBits cfg 63 63 = 1 then bad (getBits cfg 31 16) 2 2 else 0
  if a ≠ 0 then a else if b ≠ 0 then b
  else if s.units.entropyBad || s.entropyPending then 3 else 0

/-- What a chain leaves to the stream's next frame: priority and TIME_FIRST of the previous one (R324, R330). -/
def Chain.after (c : Chain) : Chain := { prio := c.prio, timeFirst := c.timeFirst }

/-- Opens a chain: nonce, keys and the open frame (R368, R377). A fenced device opens none (R537). -/
def openChain (st : Nat) : Act := .look fun s => Act.when (!s.fenced) (
  let f := F.SIG_STREAM_CFG_SEAL_KEY st
  let cfg := s.rd f.addr
  let owner := s.streamOwner st
  let res := s.chainResult st cfg
  Act.all [
    commitWord f.addr,
    put (F.SIG_STREAM_STATUS_RESULT st) res,
    if res ≠ 0 then .seq (onChain st Chain.after) (put (F.SIG_STREAM_STATUS_CHAIN_OPEN st) 0)
    else .draw fun a => .draw fun b =>
      let nonce := be 8 a.toNat ++ be 4 b.toNat
      let enc := getBits cfg 63 63 = 1
      let ks := (s.usable (getBits cfg 15 0) 1 owner).getD []
      let ke := (s.usable (getBits cfg 31 16) 2 owner).getD []
      Act.all [
        setChain st {
          (s.chain st).after with
          isOpen := true, nonce := nonce, keyF := kdf ks labelSel nonce,
          keyE := if enc then kdf ke labelEnc nonce else [], encrypt := enc,
          tag := zeros 16, digest := zeros 48, lastCp := s.now,
          -- R373: 1 to 10,000 ms when CP_FRAMES is 0
          cfg := if getBits cfg 62 62 = 0 then (putBits cfg 55 32 (min 10000 (getBits cfg 55 32))).toNat else cfg.toNat },
        put (F.SIG_STREAM_STATUS_CHAIN_OPEN st) 1,
        put (F.LSN_STREAM_FRAME_SEQ_NEXT st) 0,
        chainOpens { origin := s.device, stream := st, chain := num nonce 0 4 },
        sealFrame st {
          kind := 4, ref := (s.seg st).ref,
          body := s.statement st 1 (2 ^ 64 - 1) nonce [] [] (deviceTime s.units.d0) 0 ++ identityHash }]])

/-- Opens the chain of the life that is emitted, once its T_APPLY has been reached: not while an earlier chain of the
stream is still open (R368, R621). -/
def beginChain (st : Nat) : Act := .look fun s =>
  let c := s.chain st
  match s.head st with
  | some l => Act.when (l.began && !c.isOpen && !c.ending)
      (.seq (onSeg st (fun g => { g with ref := l.start, due := false })) (openChain st))
  | none => .skip

/-- The closed strata of a stream are settled at the end of the window. -/
def settleLater (st : Nat) : Act := .win fun w => { w with settle := if w.settle.contains st then w.settle else st :: w.settle }

/-- Copies a stream's staged registers into force (R577). -/
def applyStream (st : Nat) : Act :=
  .seq (Act.each (streamRegs st) commitWord) (.seq (put (F.STR_STATUS_PENDING st) 0) (put (F.STR_CTRL_COMMIT st) 0))

/-- The end of a chain after its end-of-stream frame: FRAME_SEQ returns to 0, a deferred commit applies (R190), and
the stream's next life, if it has begun, opens its chain (R368, R621). -/
def finishChain (st : Nat) : Act := .look fun s =>
  Act.all [
    put F.SIG_STATUS_PENDING (s.get F.SIG_STATUS_PENDING - b2n (s.chain st).due.isSome),
    onChain st Chain.after,
    put (F.SIG_STREAM_STATUS_CHAIN_OPEN st) 0,
    put (F.SIG_STREAM_STATUS_RESULT st) 0,
    put (F.LSN_STREAM_FRAME_SEQ_NEXT st) 0,
    Act.when (s.cal st).deferred (.seq (applyStream st) (put (F.STR_STATUS_RESULT st) 0)),
    onCal st (fun c => { c with deferred := false, lives := c.lives.drop 1 }),
    beginChain st,
    settleLater st]

/-- The end-of-stream frame, and the end of the chain (R327, R378). -/
def endOfStream (st : Nat) : Act := .look fun s =>
  .seq (sealFrame st { kind := 5, ref := (s.seg st).ref }) (finishChain st)

/-- After a disabled stream's last stratum: the final checkpoint falls due, and the end-of-stream frame waits for it;
without a chain only the end-of-stream frame is due, and is dropped (R368, R378). -/
def endStream (st : Nat) : Act := .look fun s =>
  if (s.chain st).isOpen then .seq (onChain st (fun c => { c with ending := true })) (checkpointDueAs 3 st)
  else endOfStream st

/-! ## Frames of a stream (R325 to R328) -/

/-- Closes the open frame of a live stream and passes it to Signet. -/
def segClose (st : Nat) : Act := .look fun s =>
  match (s.seg st).copies with
  | [] => .skip
  | c :: cs => .seq (onSeg st (fun g => { g with copies := [] }))
      (sealFrame st {
        kind := 1, count := (c :: cs).length, first := some c.time,
        prio := some (((c :: cs).map (·.cls)).foldl max 0), ref := c.time,
        body := (c :: cs).flatMap Copy.bytes })

/-- Body units of copies. -/
def copyUnits (l : List Copy) : Nat := (l.map (fun c => 3 + c.payload.length / 8)).sum

/-- Appends a copy: the open frame closes first when the copy does not fit, so a copy longer than MAX_BODY_UNITS is alone
in its frame; `close` closes the frame after it, as after a late copy (R325). -/
def segAppend (st : Nat) (close : Bool) (c : Copy) : Act := .look fun s => Act.all [
  Act.when (decide (copyUnits (s.seg st).copies + copyUnits [c] > s.get (F.LSN_STREAM_SEG_MAX_BODY_UNITS st))) (segClose st),
  onSeg st (fun g => { g with copies := g.copies ++ [c] }),
  Act.when close (segClose st)]

/-- A progress mark closes the open frame, which carries it (R325); without one it waits for the stream's next frame. A
readout stream's PROGRESS stays zero (R324). -/
def segMark (st : Nat) : Act := .look fun s => Act.when (!s.readoutStream st)
  (.seq (onSeg st (fun g => { g with due := true })) (segClose st))

/-- PROGRESS_IDLE_EXPIRY (R327): an empty frame of KIND 0x3 once marks have advanced. -/
def progressIdleExpiryAct (st : Nat) : Act := .look fun s =>
  let g := s.seg st
  Act.when (g.due && !(s.chain st).ending
      && decide (s.keep.elapsed ≥ g.sentAt + s.get (F.LSN_STREAM_SEG_PROGRESS_IDLE_US st) * tickUs))
    (sealFrame st { kind := 3, ref := enc 64 (((s.progress st).1 : Int) - 1) })

def execProgressIdleExpiry (st : Nat) (s : State) : Host.Outcome State Fault Refusal := .next ((progressIdleExpiryAct st).run s)

/-! ## Checkpoints and rounds (R373 to R377) -/

/-- CHECKPOINT_TIMER (R373): CP_INTERVAL ms of D0 time have passed. -/
def checkpointTimerAct (st : Nat) : Act := .look fun s =>
  let c := s.chain st
  let interval := bits c.cfg 55 32
  Act.when (c.isOpen && !c.ending && !bit c.cfg 62 && interval ≠ 0 && s.passed0 c.lastCp (interval * tickMs))
    (.seq (setChain st { c with lastCp := s.now }) (checkpointDue st))

def execCheckpointTimer (st : Nat) (s : State) : Host.Outcome State Fault Refusal := .next ((checkpointTimerAct st).run s)

/-- The next level of the hash tree (R375). -/
def treeLevel : List (List Byte) → List (List Byte)
  | a :: b :: rest => sha (be 1 1 ++ a ++ b) :: treeLevel rest
  | l => l

/-- The root of the hash tree, over at most `n` levels. -/
def treeRoot : Nat → List (List Byte) → List Byte
  | 0, l => l.headD []
  | n + 1, l => treeRoot n (treeLevel l)

/-- The sibling hashes of node `i`, from the leaf level upward (R377). -/
def treePath : Nat → List (List Byte) → Nat → List (List Byte)
  | 0, _, _ => []
  | n + 1, l, i =>
    (if i % 2 = 1 then [l.getD (i - 1) []] else if i + 1 < l.length then [l.getD (i + 1) []] else [])
      ++ treePath n (treeLevel l) (i / 2)

/-- The ASCII bytes "IAVK". -/
def contextK : List Byte := [0x49, 0x41, 0x56, 0x4B]

/-- Bytes 128 onward of a checkpoint frame's body (R377). -/
def roundProof (round leaf : Nat) (leaves : List (List Byte)) (time message : List Byte) : List Byte :=
  let path := treePath 13 leaves leaf
  let b := identityHash ++ be 8 round ++ be 4 leaf ++ be 4 leaves.length ++ time ++ be 1 path.length ++ be 3 0
    ++ path.flatten ++ be 96 (Config.ecdsaSign message).toNat
    ++ (List.range 3309).map (Config.mldsaSignByte contextK message)
  b ++ zeros ((8 - b.length % 8) % 8)

/-- Closes a round: the due statements, at most 8,192 in stream order, are signed; an empty round is not (R375). -/
def closeRound : Act := .look fun s =>
  let due := (Sparse.keys s.units.chains (fun _ c => c.due.isSome)).take 8192
  let stmts := due.map (fun st => (st, (s.chain st).due.getD (0, [])))
  let round := s.get F.SIG_ROUND_ROUND + 1
  let time := deviceTime s.units.d0
  let leaves := stmts.map (fun e => sha (be 1 0 ++ e.2.2))
  let message := identityHash ++ be 8 round ++ be 4 leaves.length ++ time ++ treeRoot 13 leaves
  Act.when (!due.isEmpty) (Act.all [
    put F.SIG_ROUND_ROUND round,
    count F.SIG_DEVICE_ROUNDS_C,
    Act.each due (fun st => onChain st (fun c => { c with due := none })),
    put F.SIG_STATUS_PENDING (s.get F.SIG_STATUS_PENDING - due.length),
    .units (fun u => { u with checkpoints := u.checkpoints ++
      (List.range stmts.length).zipWith (fun i e => ({
        stream := e.1, kind := num e.2.2 4 1, covered := e.2.1, statement := e.2.2,
        proof := roundProof round i leaves time message, signed := true } : Checkpoint)) stmts })])

/-- ROUND_CLOSE (R375): ROUND_US of D0 time after the one before. What falls due in its window comes into it (R379): while
the window has more to come, it closes at the window's end. -/
def roundCloseAct : Act := .look fun s =>
  Act.when (s.passed0 s.units.roundAt (s.get F.SIG_CTRL_ROUND_US * tickUs)) (.seq
    (.units fun u => { u with roundAt := s.now })
    (if s.pending.isEmpty && s.win.touched.isEmpty then closeRound else .win fun w => { w with round := true }))

/-- A round that closes at the end of its window (R379). -/
def settleRound : Act := .look fun s => Act.when s.win.round closeRound

def execRoundClose (s : State) : Host.Outcome State Fault Refusal := .next (roundCloseAct.run s)

/-- CHECKPOINT_SEAL (R376, R377): the stream's next checkpoint frame; a final one is followed by the end-of-stream
frame (R378). -/
def checkpointSealAct (st : Nat) : Act := .look fun s =>
  match s.units.checkpoints.find? (fun c => c.stream = st) with
  | none => .skip
  | some c =>
    let sealed := (s.chain st).isOpen && s.chainKeysGood (s.chain st)
    Act.all [
      .units (fun u => { u with checkpoints := u.checkpoints.erase c }),
      sealFrame st { kind := 4, ref := (s.seg st).ref, body := c.statement ++ c.proof },
      Act.when sealed (Act.all [
        count (F.SIG_STREAM_CHECKPOINTS_C st), count F.SIG_DEVICE_CHECKPOINTS_C,
        put (F.SIG_STREAM_COVERED_COVERED_SEQ st) c.covered]),
      Act.when (c.kind = 3 && (s.chain st).ending) (endOfStream st)]

def execCheckpointSeal (st : Nat) (s : State) : Host.Outcome State Fault Refusal := .next ((checkpointSealAct st).run s)

/-! ## Faults -/

/-- KEY_FAULT (R365). -/
def keyFaultAct (e : Nat) : Act := .look fun s =>
  Act.when (decide (e < 256) && s.is (F.SIG_KEY_INFO_VALID e) && !s.is (F.SIG_KEY_INFO_FAULT e)) (Act.all [
    put (F.SIG_KEY_INFO_FAULT e) 1,
    event F.SIG_STATUS_KEY_FAULT,
    logFault (s.get (F.SIG_KEY_INFO_TENANT e)) 0x09 4 0x07 e])

def execKeyFault (e : Nat) (s : State) : Host.Outcome State Fault Refusal := .next ((keyFaultAct e).run s)

/-- ENTROPY_FAULT (R368): no chain opens from now on. -/
def entropyFaultAct : Act :=
  .seq (.units fun u => { u with entropyBad := true }) (event F.SIG_STATUS_ENTROPY_FAULT)

def execEntropyFault (s : State) : Host.Outcome State Fault Refusal := .next (entropyFaultAct.run s)

/-- The frames of a stream's chain that are still in Signet's engines. -/
def State.inEngines (s : State) (st : Nat) : Nat := (s.units.checkpoints.filter (fun c => c.stream = st)).length

/-- The unit reset of Signet (R519): open chains close, what is in the engines is dropped and counted, and every
stream that still has something to emit opens a new chain, which an ending stream ends with. -/
def signetReset : Act := .look fun s =>
  let streams := (List.range 8192).filter (fun st => (s.chain st).isOpen || (s.head st).any (·.began))
  Act.each streams (fun st => .look fun s =>
    let c := s.chain st
    Act.all [
      countBy (F.SIG_STREAM_UNSEALED_DROPPED_C st) (s.inEngines st),
      .units (fun u => { u with checkpoints := u.checkpoints.filter (fun k => k.stream ≠ st) }),
      put F.SIG_STATUS_PENDING (s.get F.SIG_STATUS_PENDING - b2n c.due.isSome),
      openChain st,
      Act.when c.ending (endStream st)])

/-! ## Ownership (R362 to R364) -/

/-- The package format holds (R359, R363). -/
def packageFormat (b : List Byte) : Bool :=
  let zero := fun off n => (slice b off n).all (· = 0)
  let k := num b 4 1
  num b 0 4 = 0x49415645 && (k = 1 || k = 2) && zero 5 3 && (k = 2 || num b 8 8 = 0)
    && num b 16 4 = 0x4941564F && num b 20 2 = 1 && zero 22 2 && zero 24 8 && num b 32 1 = 4 && zero 129 3
    && zero 2084 1572 && zero 5284 4 && zero 8693 3 && (k = 2 || zero 5288 3405)

/-- The ASCII bytes "IAVH". -/
def contextH : List Byte := [0x49, 0x41, 0x56, 0x48]

/-- The RESULT of a package (SIG_OWNER_STATUS), and the new record when it is accepted (R364). -/
def State.judgePackage (s : State) (viaService : Bool) : Nat × Option OwnerCopy :=
  let b := (List.range 8696).map (fun i => Sparse.get (fun _ => (0 : Byte)) s.units.ownerData i)
  let signed := slice b 0 5288
  let h := s.ownerHash
  let epoch := s.get F.SIG_OWNER_EPOCH_EPOCH
  if !packageFormat b then (1, none)
  else if num b 4 1 = 1 && (s.owned || !viaService || !s.units.ownerFar.isEmpty) then (2, none)
  else if num b 4 1 = 2 && !(Config.ecdsaVerify h signed (slice b 5288 96)
      && Config.mldsaVerify h contextH signed (slice b 5384 3309)) then (3, none)
  else if num b 4 1 = 2 && num b 8 8 ≠ epoch then (4, none)
  else match Config.kemDecap (slice b 3656 1568) with
    | none => (5, none)
    | some secret =>
      let kek := be 32 secret.toNat
      let iv := slice b 5224 12
      let key := gctr kek iv 2 (slice b 5236 32)
      if block (gcmTag kek iv (slice b 0 16) key) = slice b 5268 16 then
        (0, some { epoch := epoch + 1, keyHash := sha384 (slice b 16 3640), enrolKey := BitVec.ofNat 256 (ofBe key) })
      else (5, none)

/-- OWNER_PACKAGE (R364, R571): judged at once; an accepted record is then written to the flash. -/
def ownerPackageAct (writer : Nat) (value : Word) (viaService : Bool) : Act := .look fun s =>
  let finish := fun r => Act.all [put F.SIG_OWNER_STATUS_RESULT r, event F.SIG_OWNER_STATUS_DONE, put F.SIG_OWNER_CMD_START 0]
  if getBits value 0 0 = 0 || s.is F.SIG_OWNER_STATUS_BUSY then .skip
  else if writer ≠ 0 || getBits value 31 16 ≠ 0xA5C3 then finish 6
  else match s.judgePackage viaService with
    | (_, some o) => Act.all [
        .units (fun u => { u with ownerPending := some o }),
        put F.SIG_OWNER_STATUS_BUSY 1, put F.SIG_OWNER_CMD_START 1]
    | (r, none) => finish r

def execOwnerPackage (writer : Nat) (value : Word) (viaService : Bool) (s : State) :
    Host.Outcome State Fault Refusal := .next ((adjusts writer F.SIG_OWNER_CMD_START (ownerPackageAct writer value viaService)).run s)

/-- Shows the owner record in force in its registers (R385). -/
def showOwner : Act := .look fun s =>
  Act.all [
    put F.SIG_OWNER_EPOCH_EPOCH (match s.owner with | some o => o.epoch | none => 0),
    put F.SIG_STATUS_OWNERSHIP (b2n s.owned),
    Act.each (List.range 6) (fun w => put (F.SIG_OWNER_HASH_HASH w) (num (be 48 s.ownerHash.toNat) (8 * w) 8))]

/-- OWNER_RECORD_WRITTEN (R362): the copy that does not hold the larger epoch is replaced. -/
def ownerRecordWrittenAct (flashOk : Bool) : Act := .look fun s =>
  match s.units.ownerPending with
  | none => .skip
  | some o =>
    let second := match s.keep.owner0, s.keep.owner1 with
      | some a, some b => decide (a.epoch ≥ b.epoch)
      | some _, none => true
      | none, _ => false
    Act.all [
      .units (fun u => { u with ownerPending := none }),
      Act.when flashOk (.seq (.keep (fun k => if second then { k with owner1 := some o } else { k with owner0 := some o })) showOwner),
      put F.SIG_OWNER_STATUS_RESULT (if flashOk then 0 else 7),
      put F.SIG_OWNER_STATUS_BUSY 0,
      put F.SIG_OWNER_CMD_START 0,
      event F.SIG_OWNER_STATUS_DONE]

def execOwnerRecordWritten (flashOk : Bool) (s : State) : Host.Outcome State Fault Refusal :=
  .next ((ownerRecordWrittenAct flashOk).run s)

end Sys2Proof.Machine
end

