-- ==== Sys2Proof/Machine/Caldera.lean ====
section
/-! DEFINITION. Caldera: strata, contributors and watermarks, late copies, admission, emission, and stream commits
(R190, R195 to R225, R621). -/

namespace Sys2Proof.Machine

/-! ## Filter configuration by time (R183) -/

/-- A staged FLT_ field as it serves D0 time `t`: from step 2 of R183 the staged value serves T_SWAP onward. -/
def State.fltAt (s : State) (t : Nat) (f : Field) : Nat :=
  let st := s.get F.FLT_BANK_STATUS_STATE
  if (st = 1 || st = 2) && decide (dif t (s.get F.FLT_SWAP_TIME_T_SWAP) ≥ 0) then s.get f else s.live f

/-- A source passes a tenant's scope (R173). -/
def State.inScope (s : State) (t tenant source : Nat) : Bool :=
  let m := s.fltAt t (F.FLT_TENANT_SCOPE_SCOPE_MASK tenant)
  source &&& m = s.fltAt t (F.FLT_TENANT_SCOPE_SCOPE_VALUE tenant) &&& m

/-! ## Contributors (R198 to R200) -/

/-- A lane's unit. -/
def State.lane (s : State) (l : Nat) : LaneUnit := Sparse.get (fun _ => ({} : LaneUnit)) s.units.lanes l

/-- Changes a lane's unit. -/
def onLane (l : Nat) (f : LaneUnit → LaneUnit) : Act := .look fun s =>
  let v := f (s.lane l)
  .units fun u => { u with lanes := Sparse.set (fun _ => ({} : LaneUnit)) u.lanes l v }

/-- A talker's unit, by lane and address. -/
def State.talker (s : State) (l t : Nat) : TalkerUnit :=
  Sparse.get (fun _ => ({} : TalkerUnit)) s.units.talkers (l * 128 + t)

/-- Changes a talker's unit. -/
def onTalker (l t : Nat) (f : TalkerUnit → TalkerUnit) : Act := .look fun s =>
  let v := f (s.talker l t)
  .units fun u => { u with talkers := Sparse.set (fun _ => ({} : TalkerUnit)) u.talkers (l * 128 + t) v }

/-- The SOURCE of a lane's talker: its home address once the lane has been promoted (R153, R161). -/
def State.talkerSource (s : State) (l t : Nat) : Nat :=
  if (s.lane l).promoted then s.get (F.TLK_HOME_HOME_DEVICE l) * 131072 + s.get (F.TLK_HOME_HOME_LANE l) * 128 + t
  else s.device * 131072 + l * 128 + t

/-- The SOURCE of a device-originated sentence (R163). -/
def State.ownSource (s : State) (kind index : Nat) : Nat := 2147483648 + s.device * 131072 + kind * 128 + index

/-- The lane is ACTIVE, or left it less than 1 s ago without entering STANDBY, DISABLED or FAULT (R198). -/
def State.laneContributes (s : State) (l : Nat) : Bool :=
  s.get (F.TLK_STATUS_STATE l) = 6
    || (match (s.lane l).leftActive with | some t => decide (s.keep.elapsed < t + tickS) | none => false)

/-- Contributors of a merge: SOURCE and corrected D0 watermark of each (R198, R199). -/
def State.contributors (s : State) (lanes : Nat → Bool) (scope : Nat → Bool) (origin excludeStalled : Bool) :
    List (Nat × Nat) :=
  (s.units.talkers.filterMap (fun e =>
    let l := e.1 / 128
    let t := e.1 % 128
    match e.2.wm with
    | some w =>
      if lanes l && scope (s.talkerSource l t) && s.is (F.TLK_TALKER_STATE_PRESENT l t) && s.laneContributes l
          && !e.2.leaving && !(excludeStalled && s.is (F.TLK_TALKER_STATE_STALLED l t))
      then some (s.talkerSource l t, w) else none
    | none => none))
  ++ (if origin then [(s.ownSource 0 0, addT s.now (-(s.get F.CAL_CTRL_ORIGIN_ALLOW_US * tickUs : Nat)))] else [])

/-- The contributor with the least guarded watermark, converted to a domain (R200). -/
def State.least (s : State) (dom : Nat) (l : List (Nat × Nat)) : Option (Nat × Nat) :=
  l.foldl (fun best e =>
    let w := addT (s.convert e.2 dom) (-(s.get F.CAL_CTRL_WM_GUARD : Nat))
    match best with
    | none => some (e.1, w)
    | some b => if dif w b.2 < 0 then some (e.1, w) else some b) none

/-- DOMAIN of the life that closes its strata. -/
def State.closeDomain (s : State) (st : Nat) : Nat :=
  match (s.cal st).closing with | some l => l.domain | none => s.live (F.STR_CFG_DOMAIN st)

/-- A field of the configuration that serves the oldest open stratum of a stream. -/
def State.atOldest (s : State) (st : Nat) (f : Field) : Nat :=
  s.atIn st (s.closeDomain st) (s.get (F.CAL_STREAM_OLDEST_START st)) f

/-- Holder and guarded minimum W of a stream (R202). -/
def State.holder (s : State) (st : Nat) : Option (Nat × Nat) :=
  s.least (s.closeDomain st) (s.contributors
    (fun l => bit (s.atOldest st (F.CAL_STREAM_LANES_LANES st (l / 64))) (l % 64))
    (s.inScope s.now (s.streamOwner st))
    (s.atOldest st (F.CAL_STREAM_CFG_WM_ORIGIN st) ≠ 0) (s.atOldest st (F.CAL_STREAM_CFG_EXCLUDE_STALLED st) ≠ 0))

/-- The device watermark (R205). -/
def State.deviceWm (s : State) : Nat :=
  match s.least 0 (s.contributors (fun _ => true) (fun _ => true) true false) with
  | some (_, w) => w
  | none => 0

/-! ## Sizes and order -/

/-- Bytes of a list of copies. -/
def copyBytes (l : List Copy) : Nat := (l.map (fun c => 24 + c.payload.length)).sum

/-- Hot-pool cells of a list of copies packed back to back (R213). -/
def copyCells (l : List Copy) : Nat := (copyBytes l + 63) / 64

/-- The strata of all lives of a stream. -/
def CalStream.strata (c : CalStream) : List Stratum := c.lives.flatMap (·.strata)

/-- Sums a number over the strata of the streams that `p` selects. -/
def State.overStrata (s : State) (p : Nat → Bool) (f : Stratum → Nat) : Nat :=
  (s.units.cal.map (fun e => if p e.1 then (e.2.strata.map f).sum else 0)).sum

/-- Hot-pool cells of a tenant's strata (R213). -/
def State.cellsInUse (s : State) (t : Nat) : Nat := s.overStrata (fun st => s.streamOwner st = t) (fun x => copyCells x.hot)

/-- Cells of a tenant's closed strata (CAL_TENANT_STATUS). -/
def State.backlogCells (s : State) (t : Nat) : Nat :=
  s.overStrata (fun st => s.streamOwner st = t) (fun x => if x.closed.isSome then copyCells x.hot else 0)

/-- Bytes of the near-buffer stratum region in use (R214 to R217). -/
def State.regionBytes (s : State) : Nat := s.overStrata (fun _ => true) (fun x => copyBytes x.near)

/-- Bytes of the near-buffer stratum region (R215): none on a part without a near buffer. -/
def State.regionSize (s : State) : Nat := if s.part.stacks = 0 then 0 else s.live F.CAL_NB_REGION_GIB * 2 ^ 30

/-- Lexicographic order of byte strings. -/
def bytesLe : List Byte → List Byte → Bool
  | [], _ => true
  | _ :: _, [] => false
  | a :: as, b :: bs => if a = b then bytesLe as bs else decide (a.toNat < b.toNat)

/-- The keys of R206 in order, as one byte string. -/
def Copy.key (c : Copy) : List Byte :=
  be 8 c.time ++ be 4 c.source ++ be 4 (c.channel * 4096 + c.cls * 512 + c.flags) ++ be 1 c.typ
    ++ be 1 (c.payload.length / 8) ++ c.payload

/-- Inserts a copy by the keys of R206. -/
def insertCopy (c : Copy) : List Copy → List Copy
  | [] => [c]
  | d :: l => if bytesLe c.key d.key then c :: d :: l else d :: insertCopy c l

/-- Sorts copies by the keys of R206. -/
def sortCopies (l : List Copy) : List Copy := l.foldr insertCopy []

/-- Counts copies that a stream has emitted. -/
def emitted (st : Nat) (l : List Copy) : Act :=
  .seq (countBy (F.CAL_STREAM_SENTENCES_EMITTED_C st) l.length) (countBy (F.CAL_STREAM_OCTETS_EMITTED_C st) (copyBytes l))

/-! ## Late copies (R208 to R212) -/

/-- A late copy, earlier than `from_`: to the vent while that is enabled, where it shares a frame with the vent copies of
its window (R325), else inline before the next stratum emitted. -/
def lateCopy (st from_ : Nat) (c : Copy) : Act := .look fun s =>
  let by_ := (dif from_ c.time).toNat
  let c' := { c with flags := c.flags ||| 256 }
  let v := s.atIn st c.domain c.time (F.CAL_STREAM_VENT_VENT_STREAM st)
  .seq (put (F.CAL_STREAM_LATE_MAX_TICKS st) (max by_ (s.get (F.CAL_STREAM_LATE_MAX_TICKS st))))
    (if s.atIn st c.domain c.time (F.CAL_STREAM_CFG_LATE_MODE st) = 1 && s.liveIs (F.STR_CFG_ENABLED v) then
      Act.all [count (F.CAL_STREAM_LATE_VENTED_C st), segAppend v false c', emitted v [c'], settleLater v]
     else .seq (count (F.CAL_STREAM_LATE_INLINE_C st)) (onCal st (fun k => { k with late := k.late ++ [c'] })))

/-! ## Admission (R192, R219, R220) -/

/-- Puts a copy into its stratum: the near-buffer part or the hot one. -/
def Stratum.add (x : Stratum) (near : Bool) (c : Copy) : Stratum :=
  if near then { x with near := x.near ++ [c] } else { x with hot := x.hot ++ [c] }

/-- Changes the stratum that starts at `x.start`, `x` itself when there is none, in increasing order. -/
def withStratum (x : Stratum) (f : Stratum → Stratum) : List Stratum → List Stratum
  | [] => [f x]
  | y :: l =>
    if y.start = x.start then f y :: l
    else if dif x.start y.start < 0 then f x :: y :: l
    else y :: withStratum x f l

/-- The life of a stream that a time of a domain falls in, by its place. -/
def CalStream.lifeOf (c : CalStream) (dom t : Nat) : Option Nat :=
  c.lives.findIdx? (fun l => l.domain = dom && decide (dif t l.start ≥ 0)
    && l.stop.all (fun b => decide (dif t b < 0)))

/-- The start from which copies of a life's domain are on time: OLDEST_START (R208), or, where that is a time of another
domain, the end of the last stratum the life has closed. -/
def State.onTimeFrom (s : State) (st dom : Nat) : Nat :=
  if s.closeDomain st = dom then s.get (F.CAL_STREAM_OLDEST_START st)
  else match (s.cal st).lives.find? (fun l => l.domain = dom) with
    | some l => l.edge.1
    | none => s.get (F.CAL_STREAM_OLDEST_START st)

/-- The stream still takes copies of a time: enabled by the configuration that serves it, and not fallen idle. -/
def State.takes (s : State) (st dom t : Nat) : Bool :=
  s.atIn st dom t (F.STR_CFG_ENABLED st) ≠ 0
    && ((s.cal st).closing.isSome || !(s.cal st).strata.isEmpty)

/-- Share weight of a tenant (R220). -/
def State.weight (s : State) (t : Nat) : Nat := max 1 (s.get (F.CAL_TENANT_CFG_WEIGHT t))

/-- Records cells of a tenant's copies in the window's admission. -/
def admittedMore (t cells : Nat) : List (Nat × Nat) → List (Nat × Nat)
  | [] => [(t, cells)]
  | e :: l => if e.1 = t then (t, e.2 + cells) :: l else e :: admittedMore t cells l

/-- `cells` more would pass a tenant's share of what admission can take in the window: by WEIGHT among the tenants
that have offered copies in it (R220; log entry 102). -/
def State.shareSpent (s : State) (t cells : Nat) : Bool :=
  match s.win.load.cells with
  | none => false
  | some n =>
    let used := ((s.win.admitted.find? (fun e => e.1 = t)).map (·.2)).getD 0
    decide ((used + cells) * (s.win.admitted.map (fun e => s.weight e.1)).sum > n * s.weight t)

/-- Offers a copy to its stream (R208, R219); `src` is the source of its counters. A copy that is not taken is counted
(R224). -/
def admitCopy (src st : Nat) (c : Copy) : Act := .look fun s =>
  let t := c.time
  let k := s.atIn st c.domain t (F.CAL_STREAM_CFG_STRATUM_K st)
  let start := t / 2 ^ k * 2 ^ k
  let from_ := s.onTimeFrom st c.domain
  let owner := s.streamOwner st
  let lives := (s.cal st).lives
  let life := (s.cal st).lifeOf c.domain t
  let held := (life.bind (fun i => lives[i]?)).bind (fun l => l.strata.find? (fun x => x.start = start))
  -- R203: a stratum that closes in this window still takes the copy
  let closing := match held with | some x => x.closed.isSome && x.closedAt = s.keep.elapsed | none => false
  let old := match held with | some x => x.hot | none => []
  let more := copyCells (old ++ [c]) - copyCells old
  let place := fun near c => onCal st (fun m => { m with lives := m.lives.mapIdx (fun i l =>
    if life = some i then { l with strata := withStratum { start := start, k := k } (fun x => x.add near c) l.strata } else l) })
  let quota := decide (s.cellsInUse owner + more > s.get (F.CAL_TENANT_QUOTA_CELLS owner))
  let share := s.shareSpent owner (copyCells [c])
  let window := decide (dif t from_ ≥ (2 ^ 35 : Nat))
  let drop := Act.all [count (F.STR_OVERLOAD_DROPPED_C st), count (F.FLT_SOURCE_COPIES_DROPPED_C src)]
  if (dif t from_ < 0 && !closing) || life.isNone then lateCopy st from_ c
  else if !quota && !share && !window then
    Act.all [place false c, .win (fun w => { w with admitted := admittedMore owner (copyCells [c]) w.admitted }),
      count (F.STR_COPIES_ADMITTED_C st), countBy (F.STR_OCTETS_ADMITTED_C st) (24 + c.payload.length)]
  else .seq (if quota then count (F.CAL_TENANT_REFUSED_QUOTA_C owner)
             else if share then count (F.CAL_TENANT_REFUSED_SHARE_C owner) else .skip)
    (if s.atIn st c.domain t (F.STR_CFG_OVERLOAD st) ≠ 1 || s.regionSize = 0 then drop
     else if s.win.load.regionBusy || decide (s.regionBytes + 24 + c.payload.length > s.regionSize) then
      Act.all [count F.CAL_DEVICE_NB_SPILL_DROPPED_C, event F.CAL_STATUS_NB_REGION_FULL, drop]
     else Act.all [place true { c with flags := c.flags ||| 32 }, count (F.STR_SPILLED_C st),
      count (F.FLT_SOURCE_COPIES_SPILLED_C src)])

/-! ## Closing (R202 to R204) -/

/-- Once the last stratum of a disabled life has been emitted, the end of its chain is due (R197, R327). Late copies still
waiting inline go first; a readout under way ends first (R276). -/
def checkDrained (st : Nat) : Act := .look fun s =>
  let c := s.cal st
  let reading := s.units.freezes.any (fun f => f.state = 4 && f.stream = st)
  match c.lives with
  | [] => .skip
  | l :: _ => Act.when (l.isOver && l.strata.isEmpty && !reading && !(s.chain st).ending) (Act.all [
    onCal st (fun k => { k with late := [] }),
    Act.each c.late (segAppend st true),
    emitted st c.late,
    segClose st,
    endStream st])

/-- An empty stratum passes a mark exactly when its end is a multiple of 2^max(K, 20) (R204). -/
def Stratum.owesMark (x : Stratum) : Bool := (x.start + 2 ^ x.k) % 2 ^ max x.k 20 = 0

/-- Empty strata that closed before the time `before` and stand before the next one with copies, and the rest. -/
def splitEmpty (before : Nat) : List Stratum → List Stratum × List Stratum
  | [] => ([], [])
  | x :: l =>
    if x.closed.isSome && !x.full && decide (x.closedAt < before) then
      let r := splitEmpty before l
      (x :: r.1, r.2)
    else ([], x :: l)

/-- Passes the marks that empty strata owe, up to the next stratum with copies, of those that closed before `before`. -/
def passMarks (st before : Nat) : Act := .look fun s =>
  match (s.cal st).lives with
  | [] => .skip
  | l :: rest =>
    let r := splitEmpty before l.strata
    .seq (onCal st (fun c => { c with lives := { l with strata := r.2 } :: rest }))
      (Act.each (r.1.filter Stratum.owesMark) (fun _ => segMark st))

/-- At the end of the window, when no more copies come to the strata it closed: the marks of empty strata, the frame of a
vent (R325), and the end of a life. -/
def settleStream (st : Nat) : Act := .look fun s => Act.all [
  onCal st (fun c => { c with lives := c.lives.map (fun l =>
    { l with strata := l.strata.filter (fun x => x.closed.isNone || x.full || x.owesMark) }) }),
  passMarks st (s.keep.elapsed + 1),
  Act.when (s.liveIs (F.CAL_STREAM_CFG_IS_VENT st)) (segClose st),
  checkDrained st]

/-- Closes the oldest open stratum of a stream. -/
def closeStratum (st : Nat) (byHorizon : Bool) : Act := .look fun s =>
  match (s.cal st).closing with
  | none => .skip
  | some l =>
    let start := s.get (F.CAL_STREAM_OLDEST_START st)
    let k := s.atOldest st (F.CAL_STREAM_CFG_STRATUM_K st)
    let stop := (start + 2 ^ k) % 2 ^ 64
    let gone := l.stop.any (fun b => decide (dif stop b ≥ 0))
    let lives := changeClosing (fun l => { l with
      isOver := gone, edge := (stop, byHorizon)
      strata := withStratum { start := start, k := k } (fun x => { x with
        closed := some byHorizon, closedAt := s.keep.elapsed, prior := l.edge.2 }) l.strata }) (s.cal st).lives
    let next := if gone then (lives.find? (fun l => !l.isOver)).map (·.start) else none
    Act.all [
      count (if byHorizon then F.CAL_STREAM_CLOSED_HORIZON_C st else F.CAL_STREAM_CLOSED_WM_C st),
      put (F.CAL_STREAM_STATUS_LAST_BY_HORIZON st) (b2n byHorizon),
      put (F.CAL_STREAM_OLDEST_START st) (next.getD stop),
      onCal st (fun c => { c with lives := lives }),
      settleLater st]

/-- Whether the oldest stratum's own end has passed, and which close it is ready for (R202). -/
def State.closeReady (s : State) (st : Nat) : Option Bool :=
  let start := s.get (F.CAL_STREAM_OLDEST_START st)
  let k := s.atOldest st (F.CAL_STREAM_CFG_STRATUM_K st)
  let stop := (start + 2 ^ k) % 2 ^ 64
  let now := s.nowIn (s.closeDomain st)
  if (s.cal st).closing.isNone || s.atOldest st (F.CAL_STREAM_CFG_IS_VENT st) ≠ 0 || decide (dif now stop < 0) then none
  else
    let byWm := match s.holder st with
      | some (_, w) => decide (dif w (enc 64 ((stop : Int) - 1)) ≥ 0)
      | none => false
    if byWm then some false
    else if dif now ((stop + s.atOldest st (F.CAL_STREAM_CFG_HORIZON_STRATA st) * 2 ^ k) % 2 ^ 64) ≥ 0 then some true
    else none

/-- Closes the oldest stratum as it is ready to. -/
def closeIfReady (st : Nat) : Act := .look fun s =>
  match s.closeReady st with
  | some h => closeStratum st h
  | none => .skip

/-- STRATUM_CLOSE_BY_WATERMARK (R202). -/
def stratumCloseByWatermarkAct (st : Nat) : Act := .look fun s =>
  Act.when (s.closeReady st = some false) (closeStratum st false)

def execStratumCloseByWatermark (st : Nat) (s : State) : Host.Outcome State Fault Refusal :=
  .next ((stratumCloseByWatermarkAct st).run s)

/-- STRATUM_CLOSE_BY_HORIZON (R202): while the window has commands to come, a watermark may still close the stratum instead,
so its end decides (R203). -/
def stratumCloseByHorizonAct (st : Nat) : Act := .look fun s =>
  if s.closeReady st = some true ∧ !s.pending.isEmpty then .win fun w => { w with horizons := w.horizons ++ [st] }
  else closeIfReady st

def execStratumCloseByHorizon (st : Nat) (s : State) : Host.Outcome State Fault Refusal :=
  .next ((stratumCloseByHorizonAct st).run s)

/-- The end of a window in Caldera: closes by horizon that waited for it, then what the window's closes leave (R203). -/
def settleCaldera : Act := .look fun s => .seq (Act.each s.win.horizons closeIfReady)
  (.look fun s => Act.each (Sparse.keys s.units.cal (fun st _ => s.win.settle.contains st)) settleStream)

/-- CONTRIBUTOR_GRACE_EXPIRY (R198): the lane's talkers stop contributing. -/
def contributorGraceExpiryAct (l : Nat) : Act := .look fun s =>
  match (s.lane l).leftActive with
  | some t => Act.when (decide (s.keep.elapsed ≥ t + tickS)) (onLane l (fun x => { x with leftActive := none }))
  | none => .skip

def execContributorGraceExpiry (l : Nat) (s : State) : Host.Outcome State Fault Refusal :=
  .next ((contributorGraceExpiryAct l).run s)

/-! ## Emission (R206, R207, R210, R220, R221) -/

/-- The first stratum of a stream to emit: of its earliest life, closed in an earlier window, with copies (R203, R621). -/
def State.emittable (s : State) (c : CalStream) : Option Stratum :=
  match c.lives.head?.bind (fun l => l.strata.head?) with
  | some x => if x.closed.isSome && x.full && decide (x.closedAt < s.keep.elapsed) then some x else none
  | none => none

/-- The stream whose closed stratum is next for a tenant: closed first, then the lower stream (R221). -/
def State.nextToEmit (s : State) (t : Nat) : Option (Nat × Stratum) :=
  s.units.cal.foldl (fun best e =>
    match s.emittable e.2 with
    | some x =>
      if s.streamOwner e.1 ≠ t then best
      else match best with
        | none => some (e.1, x)
        | some b => if x.closedAt < b.2.closedAt then some (e.1, x) else some b
    | none => best) none

/-- A tenant with a stratum to emit: its place in the round from the tenant whose turn it is, the quanta it needs for the
stratum's cells, and the stratum. The tenant whose turn it is goes on while its credit lasts; after that it comes last. -/
structure Waiter where
  tenant : Nat
  place : Nat
  quanta : Nat
  cells : Nat
  stream : Nat
  stratum : Stratum

/-- The tenants that have a stratum to emit (R220). -/
def State.waiters (s : State) : List Waiter :=
  (0 :: s.tenantList).filterMap (fun t => (s.nextToEmit t).map (fun e =>
    let cells := copyCells (e.2.hot ++ e.2.near)
    let credit := Sparse.get (fun _ => 0) s.units.shares.credit t
    let short := (cells - credit + s.weight t - 1) / s.weight t
    let place := (t + 32 - s.units.shares.turn) % 32
    { tenant := t, place := if place = 0 ∧ short ≠ 0 then 32 else place
      quanta := if place = 0 then short else max 1 short, cells := cells, stream := e.1, stratum := e.2 }))

/-- The waiter that weighted deficit round robin serves next: fewest rounds, then first in the round. -/
def nextWaiter (l : List Waiter) : Option Waiter :=
  l.foldl (fun best w => match best with
    | none => some w
    | some b => if w.quanta < b.quanta ∨ (w.quanta = b.quanta ∧ w.place < b.place) then some w else some b) none

/-- What each waiter may still send once `w` is served: a quantum of WEIGHT cells for each visit; a tenant with nothing
waiting keeps none. -/
def State.creditsAfter (s : State) (l : List Waiter) (w : Waiter) : Sparse Nat :=
  l.foldl (fun c v =>
    let visits := if v.tenant = w.tenant ∨ v.place < w.place then w.quanta else w.quanta - 1
    let have_ := Sparse.get (fun _ => 0) s.units.shares.credit v.tenant + visits * s.weight v.tenant
    Sparse.set (fun _ => 0) c v.tenant (if v.tenant = w.tenant then have_ - w.cells else have_)) []

/-- Emits the first stratum of a stream: late copies inline, its copies by the keys of R206, and its mark. -/
def emitStratum (st : Nat) (x : Stratum) : Act := .look fun s =>
  let late := (s.cal st).late
  let copies := sortCopies (x.hot ++ x.near)
  Act.all [
    onCal st (fun c => { c with late := [] }),
    Act.each late (segAppend st true),
    Act.each copies (segAppend st false),
    emitted st (late ++ copies),
    onCal st (fun c => { c with lives := match c.lives with
      | l :: rest => { l with strata := l.strata.drop 1 } :: rest
      | [] => [] }),
    segMark st,
    passMarks st s.keep.elapsed,
    settleLater st]

/-- STRATUM_EMIT (R207, R220): the stratum closed first of the tenant that is served, when it is that tenant's turn. Its
copies leave in order of TIME (R206, R224). -/
def stratumEmitAct (tenant : Nat) : Act := .look fun s =>
  match nextWaiter s.waiters with
  | none => .skip
  | some w => Act.when (w.tenant = tenant) (.seq
      (.units fun u => { u with shares := { turn := w.tenant, credit := s.creditsAfter s.waiters w } })
      (emitStratum w.stream w.stratum))

def execStratumEmit (tenant : Nat) (s : State) : Host.Outcome State Fault Refusal :=
  .next ((stratumEmitAct tenant).run s)

/-- The stream's oldest open stratum with copies in the hot pool past its hot age, on the clock of its own domain (R214). -/
def State.evictable (s : State) (st : Nat) : Option (Life × Stratum) :=
  (s.cal st).lives.findSome? (fun l => (l.strata.find? (fun x => x.closed.isNone && !x.evicted && !x.hot.isEmpty
    && decide (dif (s.nowIn l.domain) (x.start + 2 ^ x.k) ≥ (s.get F.CAL_CTRL_HOT_AGE_US * tickUs : Nat)))).map (fun x => (l, x)))

/-- STRATUM_EVICTION (R214, R215, R216): the stream's oldest open stratum past its hot age. -/
def stratumEvictionAct (st : Nat) (denied : Bool) : Act := .look fun s =>
  match s.evictable st with
  | none => .skip
  | some (l, x) =>
    if s.regionSize = 0 then .skip
    else if denied || decide (s.regionBytes + copyBytes x.hot > s.regionSize) then count F.CAL_DEVICE_EVICT_DENIED_C
    else .seq (onCal st (fun c => { c with lives := c.lives.map (fun m => if m.start = l.start ∧ m.domain = l.domain
        then { m with strata := m.strata.map (fun y => if y.start = x.start
          then { y with near := y.near ++ y.hot, hot := [], evicted := true } else y) } else m) }))
      (count (F.CAL_STREAM_EVICTIONS_C st))

def execStratumEviction (st : Nat) (denied : Bool) (s : State) : Host.Outcome State Fault Refusal :=
  .next ((stratumEvictionAct st denied).run s)

/-! ## Stream commits (R190, R196, R197, R211, R338, R621) -/

/-- The RESULT of Caldera for a staged stream (CAL_STREAM_STATUS). -/
def State.calResult (s : State) (st : Nat) : Nat :=
  let k := s.get (F.CAL_STREAM_CFG_STRATUM_K st)
  let h := s.get (F.CAL_STREAM_CFG_HORIZON_STRATA st) * 2 ^ k
  let vent := s.is (F.CAL_STREAM_CFG_IS_VENT st)
  let v := s.get (F.CAL_STREAM_VENT_VENT_STREAM st)
  if !vent && (k < 16 || 30 < k || h < 1024000 || 16384000000 < h) then 1
  else if !vent && s.is (F.CAL_STREAM_CFG_LATE_MODE st) && (v = st || !s.liveIs (F.CAL_STREAM_CFG_IS_VENT v)
      || s.streamOwner v ≠ s.streamOwner st || s.live (F.STR_CFG_DOMAIN v) ≠ s.get (F.STR_CFG_DOMAIN st)) then 2
  else if s.liveIs (F.STR_CFG_ENABLED st) && s.get (F.CAL_STREAM_CFG_IS_VENT st) ≠ s.live (F.CAL_STREAM_CFG_IS_VENT st) then 3
  else 0

/-- A destination's fields lie in their ranges (R189, R338, R610). -/
def State.destInRange (s : State) (st d : Nat) : Bool :=
  let k := s.get (F.STR_DEST_KIND st d)
  let p := s.get (F.STR_DEST_PORT st d)
  let e := s.get (F.STR_DEST_ENDPOINT st d)
  decide (k ≤ 3) && (k ≠ 1 || decide (p < 8 * s.part.listenerPorts)) && (k ≠ 2 || s.part ≠ .iav4410)
    && (k ≠ 3 || decide (p < 8)) && (k = 1 || k = 3 || (p = 0 && e = 0)) && decide (e < 256)

/-- A destination is the tenant's to use (R190, R338). -/
def State.destAllowed (s : State) (st d : Nat) : Bool :=
  let t := s.streamOwner st
  let k := s.get (F.STR_DEST_KIND st d)
  let p := s.get (F.STR_DEST_PORT st d)
  let e := s.get (F.STR_DEST_ENDPOINT st d)
  let port := if k = 1 then p / 8 else 32 + p
  (k ≠ 1 || t = 0 || (s.tenant t).links.testBit p)
    && ((k ≠ 1 && k ≠ 3) || s.live (epF port e F.LSN_ENDPOINT_W0_OWNER) = t)

/-- The RESULT of a stream commit (R190): on any fault of Caldera's it is 0x3 (CAL_STREAM_STATUS). -/
def State.streamResult (s : State) (st : Nat) : Nat :=
  let n := s.get (F.STR_CFG_DEST_COUNT st)
  if s.calResult st ≠ 0 then 3
  else if s.liveIs (F.STR_CFG_ENABLED st) && s.get (F.STR_CFG_DOMAIN st) ≠ s.live (F.STR_CFG_DOMAIN st) then 1
  else if s.is (F.STR_CFG_ENABLED st) && (n = 0 || 16 < n) then 2
  else if 16 < n || !((List.range 16).all (s.destInRange st)) || 1 < s.get (F.STR_CFG_OVERLOAD st) then 3
  else if !((List.range n).all (s.destAllowed st)) then 4
  else 0

/-- End of the newest stratum that holds a copy. -/
def CalStream.newestEnd (c : CalStream) : Option Nat :=
  (c.strata.filter Stratum.full).getLast?.map (fun x => (x.start + 2 ^ x.k) % 2 ^ 64)

/-- The first multiple of 2^k strictly after `t`. -/
def nextMultiple (t k : Nat) : Nat := ((t / 2 ^ k + 1) * 2 ^ k) % 2 ^ 64

/-- The first T_APPLY for a stream of a domain, at multiples of 2^k (R197). -/
def State.applyFrom (s : State) (st dom k : Nat) : Nat :=
  let now := s.nowIn dom
  nextMultiple (match (s.cal st).newestEnd with | some e => if dif e now > 0 then e else now | none => now) k

/-- T_APPLY of a commit accepted now (R197). -/
def State.applyTime (s : State) (st : Nat) : Nat :=
  s.applyFrom st (s.get (F.STR_CFG_DOMAIN st))
    (max (s.live (F.CAL_STREAM_CFG_STRATUM_K st)) (s.get (F.CAL_STREAM_CFG_STRATUM_K st)))

/-- Nothing of the stream is still to be emitted: no life is left, and its chain has ended (R190). -/
def State.streamIdle (s : State) (st : Nat) : Bool :=
  (s.cal st).lives.isEmpty && !(s.chain st).isOpen && !(s.chain st).ending

/-- A life of a stream from T_APPLY on (R197, R621): OLDEST_START starts there once no earlier life closes strata. -/
def startStream (st t : Nat) : Act := .look fun s => Act.all [
  put (F.CAL_STREAM_LATE_MAX_TICKS st) 0,
  Act.when (s.cal st).closing.isNone (put (F.CAL_STREAM_OLDEST_START st) t),
  onCal st (fun c => { c with
    lives := c.lives ++ [{ start := t, domain := s.get (F.STR_CFG_DOMAIN st), edge := (t, false) }] })]

/-- The life that is enabled ends at a time: the last one. -/
def stopStream (st t : Nat) : Act := onCal st (fun c => { c with
  lives := match c.lives.getLast? with
    | some l => c.lives.dropLast ++ [{ l with stop := some t }]
    | none => [] })

/-- The accepted commit of a stream: T_APPLY, and what admission does from now on. -/
def acceptCommit (st : Nat) : Act := .look fun s =>
  let was := s.liveIs (F.STR_CFG_ENABLED st)
  let now := s.is (F.STR_CFG_ENABLED st)
  if !was && !now then
    if s.streamIdle st then .seq (applyStream st) (put (F.STR_STATUS_RESULT st) 0)
    else Act.all [put (F.STR_STATUS_PENDING st) 1, put (F.STR_CTRL_COMMIT st) 1, onCal st (fun c => { c with deferred := true })]
  else
    let t := s.applyTime st
    Act.all [
      put (F.CAL_STREAM_APPLY_T_APPLY st) t,
      put (F.STR_STATUS_PENDING st) 1,
      put (F.STR_CTRL_COMMIT st) 1,
      put (F.STR_STATUS_RESULT st) 0,
      Act.when (was && !now) (stopStream st t),
      Act.when (!was && now) (startStream st t)]

/-- STREAM_CONFIG_APPLY (R197): current stream time has reached T_APPLY. A stream that becomes enabled begins its chain; a
vent, which closes no strata, is over when it becomes disabled. -/
def streamConfigApplyAct (st : Nat) : Act := .look fun s =>
  let t := s.get (F.CAL_STREAM_APPLY_T_APPLY st)
  let old := (streamRegs st).map (fun a => (a, s.rdForce a))
  let c := s.cal st
  let was := s.liveIs (F.STR_CFG_ENABLED st)
  let now := s.is (F.STR_CFG_ENABLED st) && !c.byReset
  let vent := s.liveIs (F.CAL_STREAM_CFG_IS_VENT st)
  let dom := if c.byReset then s.live (F.STR_CFG_DOMAIN st) else s.get (F.STR_CFG_DOMAIN st)
  Act.when (s.is (F.STR_STATUS_PENDING st) && !c.deferred && decide (dif (s.nowIn dom) t ≥ 0)) (Act.all [
    if c.byReset then .seq (putForce (F.STR_CFG_ENABLED st) 0) (put (F.STR_STATUS_PENDING st) 0) else applyStream st,
    onCal st (fun c => { c with epochs := (t, old) :: c.epochs, byReset := false }),
    Act.when (!was && now) (.seq
      (onCal st (fun c => { c with lives := c.lives.map (fun l =>
        if l.start = t && l.stop.isNone then { l with began := true } else l) }))
      (beginChain st)),
    Act.when (was && !now && vent) (onCal st (fun c => { c with lives := changeClosing (fun l => { l with isOver := true }) c.lives })),
    checkDrained st])

def execStreamConfigApply (st : Nat) (s : State) : Host.Outcome State Fault Refusal :=
  .next ((streamConfigApplyAct st).run s)

/-- A write of TEN_CTRL that starts a reset of tenant `t` (R513, R514). -/
def State.resetAccepted (s : State) (t writer : Nat) (value : Word) : Bool :=
  decide (t < 32) && (writer = 0 || writer = t) && s.get (F.TEN_STATUS_STATE t) = 1 && getBits value 0 0 = 1
    && getBits value 31 16 = 0xA5C3

/-- A reset of the tenant is under way, or starts in this window (R513, R540). -/
def State.resetting (s : State) (t : Nat) : Bool :=
  s.get (F.TEN_STATUS_STATE t) = 2
    || s.pending.any (fun c => match c with
      | .tenantReset u w v => u = t && s.resetAccepted t w v
      | _ => false)
    || (s.asked ⟨(F.TEN_CTRL_RESET t).addr, 31, 0⟩).any (fun x => s.resetAccepted t x.1 (BitVec.ofNat 64 x.2))

/-- STR_COMMIT (R190, R197, R513, R577, R579): during a reset of its tenant a commit is refused. -/
def strCommitAct (st writer : Nat) (value : Word) : Act := .look fun s =>
  let boundary := s.pending.any (fun c => match c with | .streamConfigApply x => x = st | _ => false)
  if getBits value 0 0 = 0 then .skip
  else .seq (Act.when (s.is (F.STR_STATUS_PENDING st) && boundary) (streamConfigApplyAct st))
    (.look fun s =>
      if s.is (F.STR_STATUS_PENDING st) then writeLost (F.STR_STATUS_WRITE_LOST st)
      else if writer ≠ 0 && writer ≠ s.streamOwner st then put (F.STR_STATUS_RESULT st) 5
      else if s.resetting (s.streamOwner st) then Act.when (writer = 0) (writeLost (F.STR_STATUS_WRITE_LOST st))
      else
        let r := s.streamResult st
        Act.all [
          put (F.CAL_STREAM_STATUS_RESULT st) (s.calResult st),
          if r ≠ 0 then put (F.STR_STATUS_RESULT st) r else acceptCommit st])

def execStrCommit (st writer : Nat) (value : Word) (s : State) : Host.Outcome State Fault Refusal :=
  .next ((adjusts writer (F.STR_CTRL_COMMIT st) (Act.when (s.has 0) (strCommitAct st writer value))).run s)

end Sys2Proof.Machine
end

