-- ==== Sys2Proof/Machine/Near.lean ====
section
/-! DEFINITION. The near buffer's recording ring (R247 to R252) and Geyser's counting intervals (R253 to R255). -/

namespace Sys2Proof.Machine

/-! ## Recording -/

/-- Segments of the recording ring: the near buffer less the index and Caldera's region (R247). -/
def State.ringSegments (s : State) : Nat := s.part.stacks * 24 * 512 - 8 - s.regionSize / 2 ^ 21

/-- Bytes of a record (R248). -/
def Record.bytes (r : Record) : Nat := 16 + r.payload.length

/-- The record's time lies in [start, stop). -/
def Record.inWindow (r : Record) (start stop : Nat) : Bool := decide (dif r.time start ≥ 0) && decide (dif r.time stop < 0)

/-- Bytes of a segment. -/
def Segment.bytes (g : Segment) : Nat := (g.records.map Record.bytes).sum

/-- The earlier and the later of two times. -/
def earlier (a b : Nat) : Nat := if dif a b ≤ 0 then a else b
def later (a b : Nat) : Nat := if dif a b ≥ 0 then a else b

/-- Adds a record that arrived at time `arr` to a segment, which keeps TIME_LOW of its time (R248). -/
def Segment.add (g : Segment) (arr : Nat) (r : Record) : Segment :=
  let kept := { r with time := r.time % 2 ^ 48 }
  if g.records.isEmpty then { g with records := [kept], arrMin := arr, arrMax := arr, timeMin := r.time, timeMax := r.time }
  else { g with records := g.records ++ [kept], arrMin := earlier g.arrMin arr, arrMax := later g.arrMax arr,
                timeMin := earlier g.timeMin r.time, timeMax := later g.timeMax r.time }

/-- The records of a segment as they are read: TIME_LOW is extended by proximity to TIME_MIN (R248). -/
def Segment.recall (g : Segment) : List Record := g.records.map (fun r =>
  { r with time := addT g.timeMin (sgn 48 (enc 48 ((r.time : Int) - g.timeMin))) })

/-- Releases freezes' holds on a segment. -/
def Segment.release (g : Segment) (ids : List Nat) (now : Nat) : Segment :=
  if g.holds.any ids.contains then { g with holds := g.holds.filter (fun i => !ids.contains i), freedAt := some now } else g

/-- Segments held by freezes. -/
def heldSegments (l : List Segment) : Nat := (l.filter (fun g => !g.holds.isEmpty)).length

/-- The later of two times of which either may be missing. -/
def laterOf (a b : Option Nat) : Option Nat :=
  match a, b with
  | some x, some y => some (later x y)
  | some x, none => some x
  | none, y => y

/-- Indices of the segments a freeze that starts at `start` holds: the one being filled, and those whose ARR_MAX lies
at or after START − FUTURE_LIMIT_NS (R270). The list runs newest first. -/
def State.segmentsFor (s : State) (start : Nat) : List Nat :=
  let from_ := addT start (-(s.get F.FLT_CTRL_FUTURE_LIMIT_NS * tickNs : Nat))
  (List.range s.units.ring.length).filter (fun i => i = 0 ||
    (match s.units.ring[i]? with | some g => !g.records.isEmpty && decide (dif g.arrMax from_ ≥ 0) | none => false))

/-- Segment `i` may be overwritten: it is not the one being filled, no freeze holds it, and none that is launched at the
end of this window will; one released in this window is free only when it ends, so that a new hold wins (R276). -/
def State.overwritable (s : State) (i : Nat) (g : Segment) : Bool :=
  decide (i ≠ 0) && g.holds.isEmpty && g.freedAt ≠ some s.keep.elapsed
    && !(decide (s.win.launches ≠ 0) && s.units.freezes.any (fun f =>
      f.state = 1 && f.slot.isSome && decide (dif s.now f.launch ≥ 0) && (s.segmentsFor f.start).contains i))

/-- The ring without its oldest segment that may be overwritten (R250); the next newer one notes what was lost. -/
def State.dropOldest (s : State) : Option (List Segment) :=
  let l := s.units.ring
  match ((List.range l.length).reverse.find? (fun i => match l[i]? with | some g => s.overwritable i g | none => false)) with
  | some i => (l[i]?).map (fun g =>
      (l.modify (i - 1) (fun h => { h with lost := laterOf h.lost (laterOf g.lost (some g.arrMax)) })).eraseIdx i)
  | none => none

/-- Brings NBF_OLDEST and HELD_GIB up to date. -/
def refreshRing : Act := .look fun s =>
  .seq (put F.NBF_OLDEST_ARRIVAL (match s.units.ring.getLast? with | some g => g.arrMin | none => 0))
    (put F.NBF_STATUS_HELD_GIB (min 255 (heldSegments s.units.ring / 512)))

/-- Puts a fresh segment at the head of the ring; every freeze in HOLDING holds it unless that would pass the pin
limit (R270). -/
def openSegment (rest : List Segment) : Act := .look fun s =>
  let holding := s.units.freezes.filter (fun f => f.state = 2 && !f.truncated)
  let fits := decide (heldSegments rest + 1 ≤ s.get F.NBF_CTRL_PIN_LIMIT_GIB * 512)
  .units fun u => { u with
    ring := { holds := if fits then holding.map (·.id) else [] } :: rest,
    freezes := if fits then u.freezes else u.freezes.map (fun f =>
      if f.state = 2 && !f.truncated then { f with truncated := true, rflags := f.rflags ||| 8 } else f) }

/-- Writes one record (R248 to R252), and counts it against the freezes it misses (R271); one that comes in the
window of a completion is still read (R276). -/
def record (r0 : Record) : Act := .look fun s =>
  let r := { r0 with cameAt := s.keep.elapsed }
  let fits := match s.units.ring with | g :: _ => decide (g.bytes + r.bytes ≤ 2097152) | [] => false
  let room := if s.units.ring.length < s.ringSegments then some s.units.ring else s.dropOldest
  let missed := s.units.freezes.filter (fun f =>
    (f.state = 3 || f.state = 4) && f.doneAt ≠ some s.keep.elapsed && r.inWindow f.start f.stop)
  if s.part.stacks = 0 then .skip
  else .seq
    (if fits then .skip else match room with
      | some l => openSegment l
      | none => .skip)
    (if !fits && room.isNone then .seq (count F.NBF_RECORD_DROPPED_C) (event F.NBF_STATUS_PIN_FULL)
     else Act.all [
      .units (fun u => { u with
        ring := match u.ring with
          | g :: l => { g.add s.now r with holds := g.holds ++ (u.freezes.filter (fun f =>
              (f.state = 3 || f.state = 4) && f.doneAt = some s.keep.elapsed && r.inWindow f.start f.stop
                && !g.holds.contains f.id)).map (·.id) } :: l
          | [] => [],
        freezes := u.freezes.map (fun f => if missed.any (fun m => m.id = f.id)
          then { f with missed := min 4294967295 (f.missed + 1) } else f) }),
      count F.NBF_RECORDS_C,
      countBy F.NBF_OCTETS_RECORDED_C r.bytes,
      countBy F.NBF_WINDOW_MISSED_C missed.length,
      refreshRing])

/-! ## Counting intervals -/

/-- Length of an interval in ticks. -/
def State.interval (s : State) : Nat := 2 ^ s.get F.GEY_CTRL_INTERVAL_K

/-- The count of a group in the interval that starts at `start`. -/
def State.groupCount (s : State) (start group : Nat) : Nat :=
  Sparse.get (fun _ => 0) (Sparse.get (fun _ => []) s.units.counts (start / s.interval)) group

/-- Adds 1 to a group's count in an interval, saturating. -/
def addCount (n group : Nat) (c : Sparse (Sparse Nat)) : Sparse (Sparse Nat) :=
  let row := Sparse.get (fun _ => []) c n
  Sparse.set (fun _ => []) c n
    (Sparse.set (fun _ => 0) row group (min 4294967295 (Sparse.get (fun _ => 0) row group + 1)))

/-- Counts a sentence's groups in the interval of its time (R254); one that closed in this window still takes it
(R255). -/
def countGroups (t : Nat) (groups : List Nat) : Act := .look fun s =>
  let start := t / s.interval * s.interval
  let open_ := s.get F.GEY_OPEN_START
  if dif t open_ < 0 && !s.win.marks.contains (3, start) then count F.GEY_DEVICE_LATE_COUNTED_C
  else if dif t open_ ≥ (48 * s.interval : Nat) then count F.GEY_DEVICE_FAR_AHEAD_C
  else .units fun u => { u with counts := groups.foldl (fun c g => addCount (start / s.interval) g c) u.counts }

/-- Interval horizon in ticks, at least 1 µs (R253). -/
def State.intervalHorizon (s : State) : Nat := max 1024000 (s.get F.GEY_CTRL_HORIZON_INTERVALS * s.interval)

/-- Which close the oldest interval is ready for (R253). -/
def State.intervalReady (s : State) : Option Bool :=
  let stop := (s.get F.GEY_OPEN_START + s.interval) % 2 ^ 64
  if !s.has 2 || decide (dif s.now stop < 0) then none
  else if dif s.deviceWm (enc 64 ((stop : Int) - 1)) ≥ 0 then some false
  else if dif s.now ((stop + s.intervalHorizon) % 2 ^ 64) ≥ 0 then some true
  else none

/-- Closes the oldest interval; the 16 newest closed stay held. -/
def closeInterval (byHorizon : Bool) : Act := .look fun s =>
  let start := s.get F.GEY_OPEN_START
  Act.all [
    put F.GEY_OPEN_START ((start + s.interval) % 2 ^ 64),
    put F.GEY_STATUS_LAST_BY_HORIZON (b2n byHorizon),
    Act.when byHorizon (count F.GEY_DEVICE_CLOSED_HORIZON_C),
    .win (fun w => { w with marks := (3, start) :: w.marks }),
    .units (fun u => { u with counts := u.counts.filter (fun e =>
      decide (dif (e.1 * s.interval) start > -(16 * s.interval : Nat))) })]

/-- INTERVAL_CLOSE_BY_WATERMARK (R253). -/
def intervalCloseByWatermarkAct : Act := .look fun s => Act.when (s.intervalReady = some false) (closeInterval false)

def execIntervalCloseByWatermark (s : State) : Host.Outcome State Fault Refusal := .next (intervalCloseByWatermarkAct.run s)

/-- INTERVAL_CLOSE_BY_HORIZON (R253). -/
def intervalCloseByHorizonAct : Act := .look fun s =>
  match s.intervalReady with | some h => closeInterval h | none => .skip

def execIntervalCloseByHorizon (s : State) : Host.Outcome State Fault Refusal := .next (intervalCloseByHorizonAct.run s)

end Sys2Proof.Machine
end

