-- ==== Sys2Proof/Machine/Filter.lean ====
section
/-! DEFINITION. The filter: match keys, rules, tenants' decisions, copies, marks and groups, the two banks and their
swap (R158 to R188, R620), and the delivery of a sentence to the near buffer, Geyser and Caldera. -/

namespace Sys2Proof.Machine

/-! ## Rules as bytes (R172) -/

/-- Byte `off` onward, `n` bytes, of a rule of the active or the shadow bank. -/
def State.ruleNum (s : State) (active : Bool) (r off n : Nat) : Nat :=
  let w := fun i => (s.rd (if active then F.FLT_RULE_ACTIVE_WORD r i else F.FLT_RULE_WORD r i).addr).toNat
  let a := w (off / 8)
  let b := w (off / 8 + 1)
  ((a * 2 ^ 64 + b) >>> (8 * (16 - off % 8 - n))) % 2 ^ (8 * n)

/-- The whole of a rule. -/
def State.ruleBytes (s : State) (active : Bool) (r : Nat) : List Byte :=
  (List.range 32).flatMap (fun i => be 8 (s.rd (if active then F.FLT_RULE_ACTIVE_WORD r i else F.FLT_RULE_WORD r i).addr).toNat)

/-- A rule's STREAMS and STORE_STREAM as it appends them (R172, R176). -/
def ruleStreams (b : List Byte) : List Nat :=
  ((List.range 4).filterMap (fun i => let e := num b (192 + 2 * i) 2; if bit e 15 then some (e % 8192) else none))
    ++ (let e := num b 190 2; if bit e 15 then [e % 8192] else [])

/-! ## Matching (R170 to R173) -/

/-- The header key of a sentence (R170). -/
def Sentence.headKey (x : Sentence) : List Byte :=
  be 4 x.source ++ be 3 (x.channel * 16 + x.tflags) ++ be 1 x.typ ++ be 1 (x.payload.length / 8) ++ be 1 (x.q12 * 64)
    ++ zeros 6

/-- Bytes compare equal under a mask. -/
def maskedEq (key value mask : List Byte) : Bool :=
  ((key.zip value).zip mask).all (fun e => e.1.1 &&& e.2 = e.1.2 &&& e.2)

/-- A range term of a rule. -/
def rangeHolds (key r : List Byte) : Bool :=
  let f := num r 1 1
  let v := num key (num r 0 1) 4
  let inside := decide (num r 4 4 ≤ v) && decide (v ≤ num r 8 4)
  !bit f 0 || (if bit f 1 then !inside else inside)

/-- The rule matches the sentence, its tenant's scope apart (R173). -/
def ruleMatches (x : Sentence) (b : List Byte) : Bool :=
  let key := x.headKey ++ fit 64 (x.payload.drop (8 * num b 184 1))
  bit (num b 185 1) 7 && maskedEq (key.take 16) (slice b 0 16) (slice b 16 16)
    && maskedEq (key.drop 16) (slice b 32 64) (slice b 96 64)
    && rangeHolds key (slice b 160 12) && rangeHolds key (slice b 172 12)

/-! ## Evaluation (R176 to R180) -/

/-- What a tenant's rules decide. -/
structure Verdict where
  decision : Nat := 0
  cls : Option Nat := none
  trunc : Option Nat := none
  streams : List Nat := []
  /-- Rules applied, in order; groups they count, and their marks with the hold-off. -/
  applied : List Nat := []
  groups : List Nat := []
  marks : List (Nat × Nat) := []
  stopped : Bool := false
  deriving DecidableEq, Repr

/-- Applies one matching rule. -/
def Verdict.apply (v : Verdict) (r : Nat) (b : List Byte) : Verdict :=
  let d := num b 186 1
  let tr := num b 187 1
  let count := num b 188 2
  let mark := num b 200 2
  let go := bit (num b 185 1) 6
  { decision := if go then v.decision else bits d 7 6
    cls := if bit d 5 then some (d % 8) else v.cls
    trunc := if bit tr 7 then some (match v.trunc with | some t => min t (tr % 64) | none => tr % 64) else v.trunc
    streams := v.streams ++ ruleStreams b
    applied := v.applied ++ [r]
    groups := if bit count 15 then v.groups ++ [count % 4096] else v.groups
    marks := if bit mark 15 then v.marks ++ [(r, mark % 32768)] else v.marks
    stopped := !go }

/-- The bank that serves a D0 time: `true` for the registers of the active view (R183, R186). -/
def State.bankFor (s : State) (t : Nat) : Bool :=
  let st := s.get F.FLT_BANK_STATUS_STATE
  let new := decide (dif t (s.get F.FLT_SWAP_TIME_T_SWAP) ≥ 0)
  if st = 1 then !new else if st = 2 then new else true

/-- A tenant's verdict on a sentence (R176). -/
def State.judge (s : State) (x : Sentence) (t : Nat) : Verdict :=
  let active := s.bankFor x.time
  let first := s.fltAt x.time (F.FLT_TENANT_RULES_FIRST_RULE t)
  let n := s.fltAt x.time (F.FLT_TENANT_RULES_RULE_COUNT t)
  if !s.inScope x.time t x.source then {}
  else (List.range n).foldl (fun v i =>
    let r := first + i
    if v.stopped || !bit (s.ruleNum active r 185 1) 7 || s.units.badRules.contains (active, r) then v
    else
      let b := s.ruleBytes active r
      if ruleMatches x b then v.apply r b else v) {}

/-- A field of the source default that serves a sentence. -/
def State.dflt (s : State) (x : Sentence) (f : Nat → Field) : Nat := s.fltAt x.time (f x.src)

/-- T0's verdict with the source default as its last rule (R177), and whether the default keeps. -/
def State.withDefault (s : State) (x : Sentence) (v : Verdict) : Verdict × Bool :=
  if v.decision ≠ 0 then (v, false)
  else if s.dflt x F.FLT_SOURCE_DEFAULT_DISPOSITION = 1 then
    ({ v with decision := 1, streams := v.streams ++ [s.dflt x F.FLT_SOURCE_DEFAULT_DEFAULT_STREAM] }, true)
  else (v, false)

/-- Time quality the time system reports for a domain. -/
def State.domainTq (s : State) (d : Nat) : Nat := bits (s.rd F.TIM_STATUS_TQ_D0.addr).toNat (2 * d + 1) (2 * d)

/-- TQ of a copy in a domain (R168). -/
def State.copyTq (s : State) (x : Sentence) (dom : Nat) : Nat :=
  [x.q34, x.q7, s.domainTq dom, if s.oldSegment x.time dom then 1 else 3].foldl min x.q12

/-- The FLAGS of a copy (R162), LATE and SPILLED apart. -/
def flagsOf (x : Sentence) (tq : Nat) (cut : Bool) : Nat :=
  tq * 64 + b2n cut * 8 + b2n x.corrected * 4 + b2n x.triggered * 2

/-- The copy of a sentence for a stream, in the domain of the configuration that serves its time (R161, R180, R197). -/
def State.makeCopy (s : State) (x : Sentence) (v : Verdict) (st : Nat) (cls : Nat) : Copy :=
  let dom := s.copyDomain st x.time
  let units := x.payload.length / 8
  let keep := min units (v.trunc.getD units)
  { time := s.convert x.time dom, source := x.source, channel := x.channel, cls := cls
    flags := flagsOf x (s.copyTq x dom) (decide (keep < units)), typ := x.typ, payload := x.payload.take (8 * keep)
    group := v.groups.headD (s.dflt x F.FLT_SOURCE_DEFAULT_GROUP), domain := dom }

/-! ## Marks (R179) -/

/-- A mark of a rule for its tenant, unless within the rule's hold-off. -/
def markRule (x : Sentence) (t : Nat) (v : Verdict) (r holdoff : Nat) : Act := .look fun s =>
  let units := x.payload.length / 8
  let keep := min units (v.trunc.getD units)
  let c : Copy := { time := x.time, source := x.source, channel := x.channel, cls := v.cls.getD 0
                    flags := flagsOf { x with triggered := false } x.q12 (decide (keep < units)), typ := x.typ
                    payload := x.payload.take (8 * keep)
                    group := v.groups.headD (s.dflt x F.FLT_SOURCE_DEFAULT_GROUP), domain := 0 }
  let held := match Sparse.get (fun _ => none) s.units.marks r with
    | some at_ => decide (s.keep.elapsed < at_ + holdoff * tickUs)
    | none => false
  if held then count F.FLT_DEVICE_MARK_SUPPRESSED_C
  else .seq (.units fun u => { u with marks := Sparse.set (fun _ => none) u.marks r (some s.keep.elapsed) })
    (notify t 0x01 r (c.bytes.take 24))

/-! ## Delivery (R12, R178 to R182) -/

/-- A list without repeats, in its order. -/
def once (l : List Nat) : List Nat := l.foldl (fun acc st => if acc.contains st then acc else acc ++ [st]) []

/-- What becomes of a copy bound for a stream (R181, R212, R275). -/
inductive CopyFate where
  | misrouted | disabled | overflow | made
  deriving DecidableEq, Repr

/-- The fate of a copy, by the configuration that serves its time (R197), when `n` have been made. -/
def State.copyFate (s : State) (x : Sentence) (st n : Nat) : CopyFate :=
  let dom := s.copyDomain st x.time
  let t := s.convert x.time dom
  if s.atIn st dom t (F.CAL_STREAM_CFG_IS_VENT st) ≠ 0 then .misrouted
  else if !s.takes st dom t || s.readoutStream st then .disabled
  else if n < 16 then .made else .overflow

/-- Walks the assigned streams in order and keeps the copies made (R181). -/
def State.fates (s : State) (x : Sentence) : List (Nat × Nat) → Nat → List (Nat × Nat × CopyFate)
  | [], _ => []
  | (t, st) :: rest, n =>
    let f := s.copyFate x st n
    (t, st, f) :: s.fates x rest (if f = .made then n + 1 else n)

/-- The record of a sentence (R248). -/
def Sentence.record (x : Sentence) : Record :=
  { time := x.time, tq := min x.q12 x.q34, typ := x.typ, source := x.source, channel := x.channel, tflags := x.tflags
    payload := x.payload }

/-- Class of a copy (R177, R180). -/
def State.copyClass (s : State) (x : Sentence) (t st : Nat) (v : Verdict) (byDefault : Bool) : Nat :=
  match v.cls with
  | some c => c
  | none =>
    if t = 0 && byDefault && st = s.dflt x F.FLT_SOURCE_DEFAULT_DEFAULT_STREAM then s.dflt x F.FLT_SOURCE_DEFAULT_CLASS
    else
      let dom := s.copyDomain st x.time
      s.atIn st dom (s.convert x.time dom) (F.STR_CFG_DEFAULT_CLASS st)

/-- Passes a corrected sentence through the near buffer, the filter, Geyser's counting and Caldera's admission. -/
def deliver (x : Sentence) : Act := .look fun s =>
  let tenants := 0 :: s.tenantList
  let raw := tenants.map (fun t => (t, s.judge x t))
  let d := s.withDefault x ((raw.headD (0, {})).2)
  let verdicts := (0, d.1) :: raw.drop 1
  let assigned := verdicts.flatMap (fun e => if e.2.decision = 1 then (once e.2.streams).map (fun st => (e.1, st)) else [])
  let fates := s.fates x assigned 0
  let made := fates.filter (fun f => f.2.2 = .made)
  let verdict := fun t => ((verdicts.find? (fun e => e.1 = t)).map (·.2)).getD {}
  let groups := verdicts.flatMap (fun e => e.2.groups)
  let before := s.dflt x F.FLT_SOURCE_DEFAULT_NB_POINT = 0
  let stale := s.get F.FLT_BANK_STATUS_STATE ≠ 1 && s.get F.FLT_BANK_STATUS_STATE ≠ 2
    && s.get F.FLT_SWAP_TIME_T_SWAP ≠ 0 && decide (dif x.time (s.get F.FLT_SWAP_TIME_T_SWAP) < 0)
  let dropped := verdicts.any (fun e => e.2.decision = 2)
  Act.when (s.has 0) (Act.all [
    Act.when (before || !made.isEmpty) (record x.record),
    Act.when stale (count F.FLT_DEVICE_STALE_BANK_C),
    Act.each verdicts (fun e => Act.each e.2.applied (fun r => count (F.FLT_RULE_HITS_COUNT r))),
    Act.each verdicts (fun e => Act.each e.2.marks (fun m => markRule x e.1 e.2 m.1 m.2)),
    countGroups x.time (s.dflt x F.FLT_SOURCE_DEFAULT_GROUP :: groups.take 4),
    countBy F.FLT_DEVICE_GROUP_OVERFLOW_C (groups.length - 4),
    Act.each fates (fun f => match f.2.2 with
      | .misrouted => count (F.CAL_STREAM_MISROUTED_C f.2.1)
      | .disabled => count (F.STR_DISABLED_DROPPED_C f.2.1)
      | .overflow => count F.FLT_DEVICE_COPY_OVERFLOW_C
      | .made => .skip),
    count (if !made.isEmpty then F.FLT_SOURCE_KEPT_C x.src
      else if dropped then F.FLT_SOURCE_DROPPED_RULE_C x.src else F.FLT_SOURCE_DROPPED_DEFAULT_C x.src),
    -- R220: every tenant that offers a copy shares in the window's admission
    .win (fun w => { w with admitted := made.foldl (fun l f => admittedMore (s.streamOwner f.2.1) 0 l) w.admitted }),
    Act.each made (fun f =>
      let v := verdict f.1
      let c := s.makeCopy x v f.2.1 (s.copyClass x f.1 f.2.1 v d.2)
      Act.all [
        Act.when (bit c.flags 3) (count (F.FLT_SOURCE_TRUNCATED_C x.src)),
        Act.when (s.oldSegment x.time c.domain) (count F.FLT_DEVICE_OLD_SEGMENT_C),
        admitCopy x.src f.2.1 c])])

/-- TQ cap of a device-originated source kind (R163). -/
def kindCap (kind : Nat) : Nat := if kind < 3 then 1 else 3

/-- The quality at a time, from the present one and its changes, newest first. -/
def qualityAt (t : Nat) : Nat → List (Nat × Nat) → Nat
  | q, [] => q
  | q, (b, before) :: l => if dif t b ≥ 0 then q else qualityAt t before l

/-- Raises a device-originated sentence (R163) with the D0 quality at its stamp (R168); a part without sentences raises none
(R583). -/
def originate (kind index channel typ : Nat) (payload : List Byte) (time : Nat) (triggered : Bool) : Act := .look fun s =>
  Act.when (s.has 0) (deliver {
    time := time, source := s.ownSource kind index, src := 1024 + kind, channel := channel, typ := typ, payload := payload
    q12 := qualityAt time (s.get F.TIM_STATUS_TQ_D0) s.units.tqLog, q34 := kindCap kind, triggered := triggered })

/-! ## Validation of a bank (R174, R175, R610) -/

/-- A staged tenant range. -/
def State.ruleRange (s : State) (t : Nat) : Nat × Nat :=
  let a := s.get (F.FLT_TENANT_RULES_FIRST_RULE t)
  (a, a + s.get (F.FLT_TENANT_RULES_RULE_COUNT t))

/-- The first range fault: BAD_RULE of R174. -/
def State.rangeFault (s : State) : Option Nat :=
  let l := (0 :: s.tenantList).map s.ruleRange
  match ((List.range 32).map s.ruleRange).find? (fun e => 4096 < e.2) with
  | some e => some e.1
  | none => ((l.flatMap (fun a => l.filterMap (fun b =>
      if a.1 < b.1 && b.1 < a.2 && b.1 < b.2 then some b.1 else none)))
      ++ (let n := (l.filter (fun e => e.1 < e.2))
          n.filterMap (fun a => if (n.filter (fun b => b.1 = a.1)).length > 1 then some a.1 else none))).head?

/-- A valid rule of a tenant breaks R175. -/
def State.ruleBroken (s : State) (t : Nat) (b : List Byte) : Bool :=
  let f := num b 185 1
  let d := num b 186 1
  let disp := bits d 7 6
  let owned := fun st => s.streamOwner st = t
  let range := fun off => (let o := num b off 1; decide (o ≤ 76) && o % 4 = 0) && num b (off + 1) 1 < 4 && num b (off + 2) 2 = 0
  let store := num b 190 2
  let hasStore := fun st => (List.range (s.live (F.STR_CFG_DEST_COUNT st))).any (fun i => s.live (F.STR_DEST_KIND st i) = 2)
  !((if bit f 6 then disp = 0 else disp = 1 || disp = 2)
    && (!bit d 5 || decide (d % 8 ≤ (if t = 0 then 7 else s.get (F.FLT_TENANT_RULES_MAX_CLASS t))))
    && (ruleStreams b).all owned
    && (!bit store 15 || (s.part ≠ .iav4410 && hasStore (store % 8192)))
    && decide (num b 184 1 ≤ 54) && f % 64 = 0 && bits d 4 3 = 0 && bits (num b 187 1) 6 6 = 0
    && decide (num b 187 1 % 64 ≤ 62) && bits (num b 188 2) 14 12 = 0 && bits store 14 13 = 0
    && (List.range 4).all (fun i => bits (num b (192 + 2 * i) 2) 14 13 = 0)
    && range 160 && range 172 && (slice b 202 54).all (· = 0))

/-- The first broken rule of a bank (R175): tenants in order of their number, then rules by index; which of several
broken rules BAD_RULE names is the model's choice (DESIGN CHOICE, log entry 128). -/
def State.ruleFaultIn (s : State) (active : Bool) : Option Nat :=
  (0 :: s.tenantList).findSome? (fun t =>
    let r := s.ruleRange t
    ((List.range (r.2 - r.1)).map (r.1 + ·)).find? (fun i =>
      bit (s.ruleNum active i 185 1) 7 && s.ruleBroken t (s.ruleBytes active i)))

/-- The first broken rule of the shadow bank (R175). -/
def State.ruleFault (s : State) : Option Nat := s.ruleFaultIn false

/-- A staged source default is invalid (R175). -/
def State.defaultFault (s : State) : Bool :=
  (List.range 1030).any (fun i =>
    let d := s.get (F.FLT_SOURCE_DEFAULT_DISPOSITION i)
    !(d = 2 || (d = 1 && s.streamOwner (s.get (F.FLT_SOURCE_DEFAULT_DEFAULT_STREAM i)) = 0)))

/-- RESULT and BAD_RULE of a validation (R174, R175). -/
def State.bankResult (s : State) : Nat × Nat :=
  match s.rangeFault, s.ruleFault with
  | some r, _ => (2, r)
  | none, some r => (1, r)
  | none, none => if s.defaultFault then (3, 0) else (0, 0)

/-! ## The swap (R183 to R188, R620) -/

/-- The bank logic is busy (R185). -/
def State.bankBusy (s : State) : Bool := s.get F.FLT_BANK_STATUS_STATE ≠ 0 || s.is F.FLT_BANK_STATUS_COPYING

/-- Ends a command at once with a RESULT. -/
def bankDone (r : Nat) : Act := .seq (put F.FLT_BANK_STATUS_RESULT r) (event F.FLT_BANK_STATUS_DONE)

/-- A refused or accepted command of FLT_COMMIT (R185, R620). -/
def bankCommand (writer : Nat) (value : Word) (go : Act) : Act := .look fun s =>
  if s.bankBusy then .seq (event F.FLT_BANK_STATUS_REFUSED) (bankDone 5)
  else if writer ≠ 0 || getBits value 31 16 ≠ 0xA5C3 then bankDone 4
  else go

/-- SWAP (R183, step 1). -/
def swapAct (writer : Nat) (value : Word) : Act :=
  Act.when (getBits value 0 0 = 1)
    (bankCommand writer value (.seq (put F.FLT_BANK_STATUS_STATE 3) (put F.FLT_COMMIT_SWAP 1)))

def execSwap (writer : Nat) (value : Word) (s : State) : Host.Outcome State Fault Refusal :=
  .next ((adjusts writer F.FLT_COMMIT_SWAP (Act.when (s.has 0) (swapAct writer value))).run s)

/-- SWAP_VALIDATION_DONE (R183 step 2, R184, R188). -/
def swapValidationDoneAct : Act := .look fun s =>
  let r := s.bankResult
  Act.when (s.get F.FLT_BANK_STATUS_STATE = 3) (Act.all [
    put F.FLT_COMMIT_SWAP 0,
    put F.FLT_BANK_STATUS_BAD_RULE r.2,
    if r.1 ≠ 0 then .seq (put F.FLT_BANK_STATUS_STATE 0) (bankDone r.1)
    else Act.all [
      put F.FLT_SWAP_TIME_T_SWAP (nextMultiple s.now (s.get F.FLT_CTRL_SWAP_K)),
      put F.FLT_BANK_STATUS_ACTIVE_BANK (1 - s.get F.FLT_BANK_STATUS_ACTIVE_BANK),
      .units (fun u => { u with badRules := u.badRules.filter (fun e => e.1) }),
      put F.FLT_BANK_STATUS_STATE 1]])

def execSwapValidationDone (s : State) : Host.Outcome State Fault Refusal := .next (swapValidationDoneAct.run s)

/-- Offsets in a rule bank that hold a word in either view. -/
def State.bankWords (s : State) : List Nat :=
  let l := s.regs.filterMap (fun e =>
    if 0x02100000 ≤ e.1 && e.1 < 0x02200000 then some (e.1 - 0x02100000)
    else if 0x02200000 ≤ e.1 && e.1 < 0x02300000 then some (e.1 - 0x02200000) else none)
  once l

/-- T_SWAP_REACHED (R183 step 3): the views of the two banks change places. -/
def tSwapReachedAct : Act := .look fun s =>
  Act.when (s.get F.FLT_BANK_STATUS_STATE = 1 && decide (dif s.now (s.get F.FLT_SWAP_TIME_T_SWAP) ≥ 0)) (Act.all [
    Act.each s.bankWords (fun o =>
      .seq (.reg (0x02100000 + o) (s.rd (0x02200000 + o))) (.reg (0x02200000 + o) (s.rd (0x02100000 + o)))),
    .units (fun u => { u with badRules := u.badRules.map (fun e => (!e.1, e.2)) }),
    put F.FLT_BANK_STATUS_STATE 2])

def execTSwapReached (s : State) : Host.Outcome State Fault Refusal := .next (tSwapReachedAct.run s)

/-- Addresses of the staged FLT_ registers a swap applies, as far as they hold other than reset values. -/
def State.fltStaged (s : State) : List Nat :=
  once (((s.regs ++ s.force).map (·.1)).filter (fun a =>
    (0x02001000 ≤ a && a < 0x02001400) || (0x02010000 ≤ a && a < 0x02012030)))

/-- BANK_RETIRE (R183 step 4). -/
def bankRetireAct : Act := .look fun s =>
  Act.when (s.get F.FLT_BANK_STATUS_STATE = 2
      && decide (dif s.now (s.get F.FLT_SWAP_TIME_T_SWAP) ≥ (2 ^ 34 : Nat))) (Act.all [
    Act.each s.fltStaged commitWord,
    put F.FLT_BANK_STATUS_STATE 0,
    bankDone 0])

def execBankRetire (s : State) : Host.Outcome State Fault Refusal := .next (bankRetireAct.run s)

/-- COPY (R187). -/
def copyAct (writer : Nat) (value : Word) : Act :=
  Act.when (getBits value 1 1 = 1)
    (bankCommand writer value (.seq (put F.FLT_BANK_STATUS_COPYING 1) (put F.FLT_COMMIT_COPY 1)))

def execCopy (writer : Nat) (value : Word) (s : State) : Host.Outcome State Fault Refusal := 
  .next ((adjusts writer F.FLT_COMMIT_COPY (Act.when (s.has 0) (copyAct writer value))).run s)

/-- COPY_DONE (R187): the shadow holds the whole active bank. -/
def copyDoneAct : Act := .look fun s =>
  Act.when (s.is F.FLT_BANK_STATUS_COPYING) (Act.all [
    Act.each s.bankWords (fun o => .reg (0x02100000 + o) (s.rd (0x02200000 + o))),
    .units (fun u => { u with badRules := u.badRules.filter (fun e => e.1) }),
    put F.FLT_BANK_STATUS_COPYING 0, put F.FLT_COMMIT_COPY 0, bankDone 0])

def execCopyDone (s : State) : Host.Outcome State Fault Refusal := .next (copyDoneAct.run s)

end Sys2Proof.Machine
end

