-- ==== Sys2Proof/Machine/Ring.lean ====
section
/-! DEFINITION. Ring control messages and their flooding (R265, R266, R351, R352, R384). -/

namespace Sys2Proof.Machine

/-- The link of ring port `r` is up. -/
def State.ringUp (s : State) (r : Nat) : Bool := s.get (F.RNG_STATUS_STATE r) = 2

/-- A ring control message as an item: the IST message after the prefix (R351). -/
def ringItem (rtype : Nat) (msg : List Byte) : Item :=
  { data := be 2 0xFFFF ++ be 1 0x10 ++ be 1 rtype ++ zeros 4 ++ msg, kind := .control }

/-- Sends a ring control message on one port, at priority 7 (R352). -/
def ringSend (p : Producer) (r rtype : Nat) (msg : List Byte) : Act := push (2048 + 8 * r + 7) p (ringItem rtype msg)

/-- Sends a ring control message on every port whose link is up, except one (8 for none). -/
def ringFlood (p : Producer) (except rtype : Nat) (msg : List Byte) : Act := .look fun s =>
  Act.each ((List.range 8).filter (fun r => r ≠ except && s.ringUp r)) (fun r => ringSend p r rtype msg)

/-- Byte 1 of a message that relays change, set to `h`. -/
def withHops (h : Nat) (msg : List Byte) : List Byte := msg.take 1 ++ be 1 h ++ msg.drop 2

/-- The TAG of a relayed message over its bytes before it, HOPS_LEFT taken as zero (R384). -/
def State.floodTag (s : State) (rtype : Nat) (body : List Byte) : Option (List Byte) := s.ringTag rtype (withHops 0 body)

/-- Moves a cumulative number over the set bits of its bitmap (R120). -/
def slide : Nat → Nat → Nat → Nat × Nat
  | 0, cum, b => (cum, b)
  | n + 1, cum, b => if b % 2 = 1 then slide n ((cum + 1) % 65536) (b / 2) else (cum, b)

/-- The classes of R120. -/
inductive SeqClass where
  | accept | duplicate | outside
  deriving DecidableEq, Repr

/-- Classifies a 16-bit sequence number against a cumulative number and a bitmap of 64 (R120). -/
def classify (cum b seq : Nat) : SeqClass :=
  let d := (seq + 131072 - cum - 1) % 65536
  if d ≤ 63 then (if b.testBit d then .duplicate else .accept)
  else if d ≥ 32768 then .duplicate else .outside

/-- Cumulative number and bitmap after an accepted number (R120). -/
def accept (cum b seq : Nat) : Nat × Nat := slide 64 cum (b ||| 2 ^ ((seq + 131072 - cum - 1) % 65536))

/-- The incarnation held for a device (SUP_INCARNATION). -/
def State.heldIncarnation (s : State) (d : Nat) : Nat := s.get (F.SUP_INCARNATION_INCARNATION d)

end Sys2Proof.Machine
end

