-- ==== Sys2Proof/Machine/Geyser.lean ====
section
/-! DEFINITION. Geyser: trigger programs, external inputs, broadcasts, freezes and readouts (R256 to R277). -/

namespace Sys2Proof.Machine

/-! ## Programs (R256 to R258) -/

/-- A trigger program's unit. -/
def State.prog (s : State) (p : Nat) : ProgUnit := Sparse.get (fun _ => ({} : ProgUnit)) s.units.programs p

/-- Changes a trigger program's unit. -/
def onProg (p : Nat) (f : ProgUnit → ProgUnit) : Act := .look fun s =>
  let v := f (s.prog p)
  .units fun u => { u with programs := Sparse.set (fun _ => ({} : ProgUnit)) u.programs p v }

/-- The 256 bytes of a program as staged. -/
def State.stagedProg (s : State) (p : Nat) : List Byte :=
  (List.range 32).flatMap (fun w => be 8 (s.rd (F.GEY_PROG_WORD p w).addr).toNat)

/-- The 256 bytes of a program in force. -/
def State.liveProg (s : State) (p : Nat) : List Byte :=
  (List.range 32).flatMap (fun w => be 8 (s.rdForce (F.GEY_PROG_WORD p w).addr).toNat)

/-- Walks back through earlier programs to the one applied at the start of interval `n`. -/
def progFor (n : Nat) (cur : List Byte) : List (Nat × List Byte) → List Byte
  | [] => cur
  | (b, old) :: rest => if dif n b ≥ 0 then cur else progFor n old rest

/-- The program that serves the interval that starts at `n` (R258, R276). -/
def State.progAt (s : State) (p n : Nat) : List Byte :=
  if s.is (F.GEY_PROG_STATUS_PENDING p) && decide (dif n (s.get (F.GEY_PROG_APPLY_BOUNDARY p)) ≥ 0) then s.stagedProg p
  else progFor n (s.liveProg p) (s.prog p).prev

/-- Fields of a program (R256). -/
def pValid (b : List Byte) : Bool := bit (num b 0 1) 7
def pEn (b : List Byte) : Bool := bit (num b 24 2) 15
def pStream (b : List Byte) : Nat := num b 24 2 % 8192
def pPre (b : List Byte) : Nat := num b 8 4 % 2 ^ 24
def pPost (b : List Byte) : Nat := num b 12 4 % 2 ^ 24
def pLaunch (b : List Byte) : Nat := num b 16 4 % 2 ^ 24
def pEval (b : List Byte) : Nat := num b 20 4 % 2 ^ 24
def pWindow (b : List Byte) : Nat := num b 2 1

/-- Fields of term `j` (R257). -/
def tKind (b : List Byte) (j : Nat) : Nat := num b (64 + 8 * j) 1 / 16
def tVeto (b : List Byte) (j : Nat) : Bool := bit (num b (64 + 8 * j) 1) 3
def tSpan (b : List Byte) (j : Nat) : Nat := num b (65 + 8 * j) 1
def tSel (b : List Byte) (j : Nat) : Nat := num b (66 + 8 * j) 2 % 4096
def tProg (b : List Byte) (j : Nat) : Nat := tSel b j % 64
def tThreshold (b : List Byte) (j : Nat) : Nat := num b (68 + 8 * j) 4

/-- The ordinary terms of a program. -/
def ordinary (b : List Byte) : List Nat := (List.range 16).filter (fun j => tKind b j ≠ 0 && !tVeto b j)

/-- A selector of R262. -/
def selValid (sel : Nat) : Bool := decide (sel < 0x18) || (decide (0x100 ≤ sel) && decide (sel ≤ 0x200))

/-- A term keeps R257. -/
def termOk (b : List Byte) (j : Nat) : Bool :=
  let k := tKind b j
  decide (k ≤ 5) && num b (64 + 8 * j) 1 % 8 = 0 && num b (66 + 8 * j) 2 / 4096 = 0
    && (if k = 3 then decide (1 ≤ tSpan b j) && decide (tSpan b j ≤ 16) else tSpan b j = 0)
    && (k ≠ 4 || (selValid (tSel b j) && decide (1 ≤ tThreshold b j)))

/-- A program keeps R256 and R257; one with VALID = 0 is at most a receiver. -/
def progOk (b : List Byte) : Bool :=
  let zero := fun off n => (slice b off n).all (· = 0)
  num b 0 1 % 8 = 0 && num b 6 2 / 4096 = 0 && zero 27 1 && zero 31 1 && zero 40 24 && zero 192 64
    && (List.range 16).all (termOk b)
    && (!pValid b || (decide (1 ≤ num b 1 1) && decide (num b 1 1 ≤ 16) && decide (1 ≤ pWindow b)
        && decide (pWindow b ≤ 16) && decide (1 ≤ num b 30 1) && !(ordinary b).isEmpty))

/-- RESULT of a program commit (R258). -/
def State.progResult (s : State) (p writer : Nat) : Nat :=
  let b := s.stagedProg p
  let owner := s.get (F.GEY_PROG_OWNER_TENANT p)
  let deps := (List.range 16).filter (fun j => tKind b j = 5)
  if writer ≠ 0 && writer ≠ owner then 5
  else if !progOk b then 1
  else if pEn b && (s.streamOwner (pStream b) ≠ owner || s.liveIs (F.CAL_STREAM_CFG_IS_VENT (pStream b))) then 2
  else if pPre b + pPost b > 16777215 then 3
  else if deps.any (fun j => decide (tProg b j ≥ p) || decide (pEval (s.liveProg (tProg b j)) > pEval b)) then 4
  else 0

/-- PROGRAM_APPLY (R258, R259): the bucket is full at commit. -/
def programApplyAct (p : Nat) : Act := .look fun s =>
  let b := s.get (F.GEY_PROG_APPLY_BOUNDARY p)
  Act.when (s.is (F.GEY_PROG_STATUS_PENDING p) && decide (dif s.now b ≥ 0)) (Act.all [
    onProg p (fun u => { u with
      prev := (b, s.liveProg p) :: u.prev.filter (fun e => decide (dif e.1 u.next > 0)), tokenAt := s.keep.elapsed }),
    Act.each (List.range 32) (fun w => commitWord (F.GEY_PROG_WORD p w).addr),
    put (F.GEY_PROG_STATUS_TOKENS p) (num (s.stagedProg p) 30 1),
    put (F.GEY_PROG_STATUS_RESULT p) 0,
    put (F.GEY_PROG_STATUS_PENDING p) 0,
    put (F.GEY_PROG_CTRL_COMMIT p) 0])

/-- PROG_COMMIT (R258). A commit while one is pending is discarded (R577, R580); in the window of the boundary of that one
it is taken as written after it. -/
def progCommitAct (p writer : Nat) (value : Word) : Act :=
  if getBits value 0 0 = 0 || 64 ≤ p then .skip
  else .seq (programApplyAct p) (.look fun s =>
    if s.is (F.GEY_PROG_STATUS_PENDING p) then writeLost (F.GEY_PROG_STATUS_WRITE_LOST p)
    else
      let r := s.progResult p writer
      if r ≠ 0 then put (F.GEY_PROG_STATUS_RESULT p) r
      else Act.all [
        put (F.GEY_PROG_APPLY_BOUNDARY p) (nextMultiple s.now (s.get F.GEY_CTRL_INTERVAL_K)),
        put (F.GEY_PROG_STATUS_PENDING p) 1,
        put (F.GEY_PROG_CTRL_COMMIT p) 1])

def execProgCommit (p writer : Nat) (value : Word) (s : State) : Host.Outcome State Fault Refusal :=
  .next ((adjusts writer (F.GEY_PROG_CTRL_COMMIT p) (Act.when (s.has 2) (progCommitAct p writer value))).run s)

def execProgramApply (p : Nat) (s : State) : Host.Outcome State Fault Refusal := .next ((programApplyAct p).run s)

/-- TOKEN_REFILL (R259): one token every 1 ÷ RATE_PER_S s, up to BURST. -/
def tokenRefillAct (p : Nat) : Act := .look fun s =>
  let b := s.liveProg p
  let rate := num b 28 2
  let next := (s.prog p).tokenAt + tickS / rate
  Act.when (decide (p < 64) && rate ≠ 0 && decide (s.keep.elapsed ≥ next))
    (.seq (onProg p (fun u => { u with tokenAt := next }))
      (put (F.GEY_PROG_STATUS_TOKENS p) (min (num b 30 1) (s.get (F.GEY_PROG_STATUS_TOKENS p) + 1))))

def execTokenRefill (p : Nat) (s : State) : Host.Outcome State Fault Refusal := .next ((tokenRefillAct p).run s)

/-! ## External inputs (R262, R263) -/

/-- Program `p` has evaluated the interval of time `t` with a term that tests the selector. -/
def State.testedLate (s : State) (sel p t : Nat) : Bool :=
  let n := t / s.interval * s.interval
  let b := s.progAt p n
  pValid b && decide (dif n (s.prog p).next < 0)
    && (List.range 16).any (fun j => tKind b j = 4 && tSel b j = sel)

/-- Enters an external input; `owner` is the program of a soft input, 64 for any other. -/
def extInput (sel owner t : Nat) : Act := .look fun s =>
  let late := (List.range 64).any (fun p => (owner = 64 || owner = p) && s.testedLate sel p t)
  if !s.has 2 then .skip
  else if late then
    count (if 0x100 ≤ sel ∧ sel < 0x200 then F.GEY_DEVICE_PEER_LATE_C else F.GEY_DEVICE_EXT_LATE_C)
  else .units fun u => { u with ext :=
    (u.ext.filter (fun e => decide (dif e.time (s.get F.GEY_OPEN_START) ≥ -(2 ^ 35 : Int))))
      ++ [{ sel := sel, program := owner, time := t }] }

/-- SOFT_INPUT (R263). -/
def softInputAct (p writer : Nat) (value : Word) : Act := .look fun s =>
  if getBits value 1 1 = 0 || 64 ≤ p then .skip
  else if writer ≠ 0 && writer ≠ s.get (F.GEY_PROG_OWNER_TENANT p) then writeLost (F.GEY_PROG_STATUS_WRITE_LOST p)
  else .seq (count (F.GEY_PROG_SOFT_INPUTS_C p)) (extInput 0x200 p (s.get (F.GEY_PROG_SOFT_TIME_TIME p)))

def execSoftInput (p writer : Nat) (value : Word) (s : State) : Host.Outcome State Fault Refusal :=
  .next ((adjusts writer (F.GEY_PROG_CTRL_SOFT p) (Act.when (s.has 2) (softInputAct p writer value))).run s)

/-! ## Freezes: scheduling, launch and holding (R268 to R272) -/

/-- Changes a freeze. -/
def onFreeze (id : Nat) (f : Freeze → Freeze) : Act :=
  .units fun u => { u with freezes := u.freezes.map (fun x => if x.id = id then f x else x) }

/-- Removes freezes, and their holds on segments. -/
def dropFreezes (ids : List Nat) : Act := .look fun s =>
  .seq (.units fun u => { u with
    freezes := u.freezes.filter (fun x => !ids.contains x.id),
    ring := u.ring.map (fun g => g.release ids s.keep.elapsed) }) refreshRing

/-- Two windows overlap; `touch` also takes those that only touch. -/
def overlaps (touch : Bool) (a b c d : Nat) : Bool :=
  if touch then decide (dif a d ≤ 0) && decide (dif c b ≤ 0) else decide (dif a d < 0) && decide (dif c b < 0)

/-- START of a freeze after clipping against windows of its stream complete, in readout or read (R272). -/
def State.clipStart (s : State) (f : Freeze) : Nat :=
  let ws := (s.units.freezes.filter (fun g => g.stream = f.stream && (g.state = 3 || g.state = 4))).map
      (fun g => (g.start, g.stop))
    ++ (s.units.windowsRead.filter (fun w => w.1 = f.stream)).map (·.2)
  ws.foldl (fun a w => if overlaps false a f.stop w.1 w.2 then later a w.2 else a) f.start

/-- The oldest segment that a freeze from `start` on needs has been overwritten: a segment lost with records after its first
instant was older than every one it now holds (R270). -/
def State.preLost (s : State) (start : Nat) : Bool :=
  let from_ := addT start (-(s.get F.FLT_CTRL_FUTURE_LIMIT_NS * tickNs : Nat))
  (s.units.ring.drop ((s.segmentsFor start).foldl max 0)).any (fun g =>
    match g.lost with | some m => decide (dif m from_ ≥ 0) | none => false)

/-- Gives the hold of freeze `a` on a segment to freeze `b`. -/
def moveHold (a b : Nat) (l : List Nat) : List Nat :=
  if l.contains a then (if l.contains b then l.filter (· ≠ a) else l.map (fun i => if i = a then b else i)) else l

/-- A freeze with a slot enters HOLDING (R270, R272). -/
def holdFreeze (id : Nat) : Act := .look fun s =>
  match s.units.freezes.find? (fun x => x.id = id) with
  | none => .skip
  | some f =>
    let start := s.clipStart f
    let clipped := decide (start ≠ f.start)
    let lost := s.preLost start
    let oldest := match s.units.ring.getLast? with | some g => g.timeMin | none => start
    let start' := if lost then later start oldest else start
    let segs := s.segmentsFor start
    let ring := (List.range s.units.ring.length).zipWith (fun i g =>
      if segs.contains i then { g with holds := g.holds ++ [id] } else g) s.units.ring
    let flags := f.rflags ||| (if clipped then 16 else 0) ||| (if lost then 4 else 0)
    if heldSegments ring > s.get F.NBF_CTRL_PIN_LIMIT_GIB * 512 then
      .seq (count F.NBF_FREEZE_REFUSED_PIN_C)
        (onFreeze id (fun x => { x with slot := none, rflags := x.rflags ||| 128 }))
    else .seq (.units fun u => { u with ring := ring })
      (match s.units.freezes.find? (fun g => g.state = 2 && g.stream = f.stream
          && overlaps true start' f.stop g.start g.stop) with
      | none => .seq (onFreeze id (fun x => { x with state := 2, start := start', rflags := flags })) refreshRing
      | some g =>
        let a := earlier start' g.start
        let b := later f.stop g.stop
        Act.all [
          onFreeze g.id (fun x => { x with start := a, stop := b, rflags := x.rflags ||| 32 }),
          onFreeze id (fun x => { x with state := 5, joined := some g.id, start := a, stop := b, rflags := flags ||| 32 }),
          .units (fun u => { u with ring := u.ring.map (fun r => { r with holds := moveHold id g.id r.holds }) }),
          refreshRing])

/-- Bytes 0 to 31 of a trigger record (R274). -/
def Freeze.record (f : Freeze) : List Byte :=
  be 8 f.t ++ be 4 f.preNs ++ be 4 f.postNs ++ be 2 f.origin ++ be 2 f.seq ++ be 1 f.channel
    ++ be 1 (match f.slot with | some n => 128 + n / 256 | none => 0)
    ++ be 1 (match f.slot with | some n => n % 256 | none => 0) ++ be 1 0
    ++ be 2 f.rflags ++ be 2 f.terms ++ be 4 f.incarnation

/-- The launch actions of a freeze (R269): pulses, holding, and the trigger record. -/
def launchFreeze (id : Nat) : Act := .look fun s =>
  match s.units.freezes.find? (fun x => x.id = id) with
  | none => .skip
  | some f => Act.all [
    Act.when (!bit f.rflags 1 && !s.fenced) (Act.each ((List.range 4).filter (fun i =>
        f.outMask.testBit i && s.get (F.UTL_CFG_FUNCTION (24 + i)) = 7 && !s.is (F.UTL_STATUS_GUARD (24 + i))
          && !s.is (F.UTL_STATUS_TRIPPED (24 + i)) && !s.is (F.UTL_STATUS_LATCHED (24 + i))))
      (fun i => .emit (.pin 1 (24 + i) .high (clampParam 7 (s.get (F.UTL_PARAM_PARAM (24 + i))))))),
    Act.when f.slot.isSome (holdFreeze id),
    .look (fun s => match s.units.freezes.find? (fun x => x.id = id) with
      | none => .skip
      | some f => Act.all [
        onFreeze id (fun x => { x with order := s.units.launches, head := f.record, headTq := s.get F.TIM_STATUS_TQ_D0 }),
        .units (fun u => { u with launches := u.launches + 1 }),
        Act.when (s.has 0) (originate 4 f.program 0 1 f.record f.launch true),
        Act.when f.slot.isNone (dropFreezes [id])])]

/-- The freeze due first: by L, ORIGIN_DEVICE, then ORIGIN_SEQ (R272). -/
def State.dueFreeze (s : State) : Option Freeze :=
  (s.units.freezes.filter (fun f => f.state = 1 && decide (dif s.now f.launch ≥ 0))).foldl (fun best f =>
    match best with
    | none => some f
    | some b =>
      let d := dif f.launch b.launch
      if d < 0 || (d = 0 && (decide (f.origin < b.origin) || (f.origin = b.origin && decide (f.seq < b.seq))))
      then some f else some b) none

/-- Launches the freeze due first. -/
def launchNext : Act := .look fun s => match s.dueFreeze with | some f => launchFreeze f.id | none => .skip

/-- Launches a freeze of this window: while commands of it wait that may bring others, at its end (R272). -/
def launchInOrder : Act := .look fun s =>
  if s.pending.isEmpty then launchNext else .win fun w => { w with launches := w.launches + 1 }

/-- The freezes that a window launches, in the order of R272. -/
def settleLaunches : Act := .look fun s => Act.each (List.range s.win.launches) (fun _ => launchNext)

/-- Takes a slot for a freeze, or none, and launches it at once when its L has passed (R268, R269). -/
def scheduleFreeze (readEn : Bool) (f : Freeze) : Act := .look fun s =>
  let free := (List.range 1024).find? (fun n => !s.units.freezes.any (fun x => x.slot = some n))
  let late := decide (dif s.now f.launch > 0)
  let slot := if s.part.stacks = 0 || !readEn then none else free
  let flag := if s.part.stacks = 0 then 256 else if !readEn then 512 else if free.isNone then 64 else 0
  let id := s.units.freezeCount
  Act.all [
    Act.when (flag = 64) (count F.NBF_FREEZE_REFUSED_SLOT_C),
    Act.when (late && s.has 2) (count F.GEY_DEVICE_LATE_LAUNCH_C),
    .units (fun u => { u with
      freezeCount := id + 1,
      freezes := u.freezes ++ [{ f with id := id, slot := slot, state := 1,
                                        rflags := f.rflags ||| flag ||| (if late then 2 else 0) }] }),
    Act.when late launchInOrder]

/-- FREEZE_LAUNCH (R269). -/
def freezeLaunchAct : Act := .look fun s => Act.when s.dueFreeze.isSome launchInOrder

def execFreezeLaunch (s : State) : Host.Outcome State Fault Refusal := .next (freezeLaunchAct.run s)

/-! ## Completion (R271) -/

/-- The freeze in a slot. -/
def State.freezeIn (s : State) (slot : Nat) : Option Freeze := s.units.freezes.find? (fun f => f.slot = some slot)

/-- A freeze and those joined to it, in the order of their launches. -/
def State.joined (s : State) (id : Nat) : List Freeze :=
  (s.units.freezes.filter (fun f => f.id = id || f.joined = some id)).foldl (fun acc f =>
    acc.filter (fun g => decide (g.order ≤ f.order)) ++ [f] ++ acc.filter (fun g => decide (g.order > f.order))) []

/-- The freeze is complete now (R271). -/
def State.freezeDone (s : State) (f : Freeze) : Bool :=
  f.state = 2 && (s.joined f.id).all (fun g => decide (dif s.now g.launch ≥ 0))
    && (decide (dif s.deviceWm (enc 64 ((f.stop : Int) - 1)) ≥ 0)
      || decide (dif s.now (addT f.stop (s.get F.NBF_CTRL_WINDOW_WAIT_US * tickUs : Nat)) ≥ 0))

/-- FREEZE_COMPLETE (R270, R271): segments outside the window are released. -/
def freezeCompleteAct (slot : Nat) : Act := .look fun s =>
  match s.freezeIn slot with
  | none => .skip
  | some f => Act.when (s.freezeDone f) (Act.all [
      onFreeze f.id (fun x => { x with state := 3, doneAt := some s.keep.elapsed }),
      .units (fun u => { u with ring := u.ring.map (fun g =>
        if !g.records.isEmpty && decide (dif g.timeMax f.start ≥ 0) && decide (dif g.timeMin f.stop < 0) then g
        else g.release [f.id] s.keep.elapsed) }),
      refreshRing])

def execFreezeComplete (slot : Nat) (s : State) : Host.Outcome State Fault Refusal := .next ((freezeCompleteAct slot).run s)

/-! ## Readout (R273, R274, R276, R326) -/

/-- A readout copy (R273). -/
def State.readoutCopy (s : State) (f : Freeze) (tq : Nat) (time source channel typ : Nat) (payload : List Byte) : Copy :=
  let dom := s.live (F.STR_CFG_DOMAIN f.stream)
  let q := [s.domainTq dom, if s.oldSegment time dom then 1 else 3].foldl min tq
  { time := s.convert time dom, source := source, channel := channel, cls := s.live (F.STR_CFG_DEFAULT_CLASS f.stream)
    flags := q * 64 + 16 + (if source < 2147483648 then 4 else 0) + 2, typ := typ, payload := payload
    group := f.group, domain := dom, old := s.oldSegment time dom }

/-- The records of a freeze's window and scope (R273, item 2). -/
def State.windowAll (s : State) (f : Freeze) : List Record :=
  (s.units.ring.reverse.flatMap (fun g => if g.holds.contains f.id then g.recall else [])).filter (fun r =>
    decide (r.cameAt ≤ f.doneAt.getD 0) && r.inWindow f.start f.stop
      && r.source &&& f.scopeMask = f.scopeValue &&& f.scopeMask && s.inScope r.time f.owner r.source)

/-- The records a freeze reads: all but those with an uncorrectable error (R521). -/
def State.windowRecords (s : State) (f : Freeze) : List Record := (s.windowAll f).filter (fun r => !r.faulty)

/-- Cuts copies into blocks of at most 4 MiB (R273): the blocks, newest first, while the first is being filled. -/
def addToBlocks (blocks : List (List Copy)) (c : Copy) : List (List Copy) :=
  match blocks with
  | b :: rest => if copyBytes b + 24 + c.payload.length ≤ 4194304 then (b ++ [c]) :: rest else [c] :: b :: rest
  | [] => [[c]]

/-- The blocks of a readout before its window end record: trigger records in order, then the records by the keys of
R206. -/
def State.readoutBlocks (s : State) (f : Freeze) : List (List Copy) :=
  let heads := (s.joined f.id).map (fun g =>
    s.readoutCopy f (min g.headTq 3) g.launch (s.ownSource 4 g.program) 0 1 g.head)
  let recs := (s.windowRecords f).map (fun r =>
    s.readoutCopy f r.tq r.time r.source (r.channel) r.typ r.payload)
  ((heads ++ sortCopies recs).foldl addToBlocks []).reverse

/-- Cuts a block into frames of at most `most` body units, newest first. -/
def addToFrames (most : Nat) (frames : List (List Copy)) (c : Copy) : List (List Copy) :=
  match frames with
  | b :: rest => if copyUnits b + copyUnits [c] ≤ most then (b ++ [c]) :: rest else [c] :: b :: rest
  | [] => [[c]]

/-- What the store learns of a readout's window (R291, R296). -/
def Freeze.mark (f : Freeze) (close : Bool) : WinMark :=
  { close := close, time := f.t, device := f.origin, seq := f.seq, start := f.start, stop := f.stop }

/-- Seals one block of a readout stream as its segments (R326). -/
def emitBlock (st : Nat) (win : Option WinMark) (block : List Copy) : Act := .look fun s =>
  let frames := (block.foldl (addToFrames (s.get (F.LSN_STREAM_SEG_MAX_BODY_UNITS st))) []).reverse
  let n := frames.length
  let seq := Sparse.get (fun _ => 0) s.units.blockSeq st
  Act.all [
    .units fun u => { u with blockSeq := Sparse.set (fun _ => 0) u.blockSeq st ((seq + 1) % 2 ^ 32) },
    countBy F.FLT_DEVICE_OLD_SEGMENT_C (block.filter (·.old)).length,
    (Act.all ((List.range n).zipWith (fun i cs => sealFrame st {
      kind := 2, sflags := (if i = 0 then 4 else 0) + (if i + 1 = n then 2 else 0), count := cs.length,
      segIndex := i, blockSeq := seq, segCount := n, first := cs.head?.map (·.time),
      prio := some ((cs.map (·.cls)).foldl max 0), ref := (cs.head?.map (·.time)).getD 0,
      body := cs.flatMap Copy.bytes, win := if i = 0 then win else none }) frames))]

/-- Records among copies: those that are no trigger records. -/
def recordsIn (heads : Nat) (blocks : List (List Copy)) : Nat := (blocks.map List.length).sum - heads

/-- The freeze of a stream that leaves WAITING next: in order of completion, then of slots (R273). -/
def State.nextReadout (s : State) (st : Nat) : Option Freeze :=
  if s.units.freezes.any (fun f => f.state = 4 && f.stream = st) then none
  else (s.units.freezes.filter (fun f => f.state = 3 && f.stream = st)).foldl (fun best f => match best with
    | none => some f
    | some b =>
      let x := f.doneAt.getD 0
      let y := b.doneAt.getD 0
      if x < y ∨ (x = y ∧ f.slot.getD 1024 < b.slot.getD 1024) then some f else some b) none

/-- READOUT_START (R273): the first block. -/
def readoutStartAct (st : Nat) : Act := .look fun s =>
  match s.nextReadout st with
  | none => .skip
  | some f =>
    let blocks := (s.readoutBlocks f).take 1
    .seq (onFreeze f.id (fun x => { x with state := 4, records := recordsIn (s.joined f.id).length blocks }))
      (Act.each blocks (emitBlock st (some (f.mark false))))

def execReadoutStart (st : Nat) (s : State) : Host.Outcome State Fault Refusal := .next ((readoutStartAct st).run s)

/-- The 64 bytes of a window end record (R274). -/
def Freeze.endRecord (f : Freeze) (records missed : Nat) : List Byte :=
  f.record ++ be 8 f.start ++ be 8 f.stop ++ be 8 records ++ be 4 (min missed 4294967295) ++ zeros 4

/-- READOUT_END (R270, R273, R276): the further blocks unless the stream has been disabled, the window end record, and
the release of the segments and slots. -/
def readoutEndAct (st : Nat) : Act := .look fun s =>
  match s.units.freezes.find? (fun f => f.state = 4 && f.stream = st) with
  | none => .skip
  | some f =>
    let all := s.joined f.id
    let rest := if s.liveIs (F.STR_CFG_ENABLED st) then (s.readoutBlocks f).drop 1 else []
    let n := f.records + (rest.map List.length).sum
    let read := ((s.readoutBlocks f).take 1 ++ rest).flatten.drop all.length
    let octets := (read.map (fun c => 16 + c.payload.length)).sum
    let bad := ((s.windowAll f).filter (·.faulty)).length
    let last := s.readoutCopy f (min (s.get F.TIM_STATUS_TQ_D0) 3) f.launch (s.ownSource 4 f.program) 0 2
      (f.endRecord n ((all.map (·.missed)).sum + bad))
    Act.all [
      countBy F.NBF_WINDOW_MISSED_C bad,
      Act.each rest (emitBlock st none),
      emitBlock st (some (f.mark true)) [last],
      count F.NBF_WINDOWS_READ_C,
      countBy F.NBF_OCTETS_READ_C octets,
      .units (fun u => { u with windowsRead := u.windowsRead ++ [(st, f.start, f.stop)] }),
      dropFreezes (all.map (·.id)),
      checkDrained st]

def execReadoutEnd (st : Nat) (s : State) : Host.Outcome State Fault Refusal := .next ((readoutEndAct st).run s)

/-! ## Evaluation and firing (R259, R260) -/

/-- The next interval program `p` evaluates, by its start: `next`, or the first later boundary from which a valid
program serves. -/
def State.evalStart (s : State) (p : Nat) : Option Nat :=
  let n := (s.prog p).next
  if pValid (s.progAt p n) then some n
  else (((s.prog p).prev.map (·.1)) ++ [s.get (F.GEY_PROG_APPLY_BOUNDARY p)]).foldl (fun best b =>
    if dif b n > 0 && pValid (s.progAt p b) then
      (match best with | some x => if dif b x < 0 then some b else some x | none => some b)
    else best) none

/-- The program is ready to evaluate the interval that starts at `n` (R259). -/
def State.evalReady (s : State) (p n : Nat) : Bool :=
  let stop := n + s.interval
  decide (dif stop (s.get F.GEY_OPEN_START) ≤ 0)
    && decide (dif s.now (addT stop (pEval (s.progAt p n) * tickNs : Nat)) ≥ 0)

/-- The program and interval evaluated next: the lowest index that is ready (R259), and its earliest interval. -/
def State.nextEval (s : State) : Option (Nat × Nat) :=
  (List.range 64).findSome? (fun p => match s.evalStart p with
    | some n => if s.evalReady p n then some (p, n) else none
    | none => none)

/-- External inputs of a selector in the interval that starts at `n`. -/
def State.extIn (s : State) (p sel n : Nat) : List Nat :=
  (s.units.ext.filter (fun e => e.sel = sel && (sel ≠ 0x200 || e.program = p)
    && decide (dif e.time n ≥ 0) && decide (dif e.time (n + s.interval) < 0))).map (·.time)

/-- The primitive of a term in an interval (R257). -/
def State.primitive (s : State) (p : Nat) (b : List Byte) (j n : Nat) : Bool :=
  let th := tThreshold b j
  let sel := tSel b j
  match tKind b j with
  | 1 => decide (s.groupCount n sel ≥ th)
  | 2 => decide (s.groupCount n sel < th)
  | 3 => decide (((List.range (tSpan b j)).map (fun i => s.groupCount (enc 64 ((n : Int) - (i * s.interval : Nat))) sel)).sum ≥ th)
  | 4 => decide ((s.extIn p sel n).length ≥ th)
  | 5 => (s.prog (tProg b j)).history.any (fun h => h.1 = n && h.2.2.2)
  | _ => false

/-- A broadcast (R264), its tag included when the ring key is usable. -/
def State.broadcast (s : State) (kind hops channel seq t launch pre post : Nat) : Option (List Byte) :=
  let b := be 1 kind ++ be 1 hops ++ be 1 0 ++ be 1 channel ++ be 2 s.device ++ be 2 seq ++ be 8 t ++ be 8 launch
    ++ be 4 pre ++ be 4 post ++ be 4 s.incarnation ++ zeros 12
  (s.floodTag 1 b).map (fun tag => b ++ tag)

/-- Sends a broadcast on every ring port whose link is up (R265). -/
def sendBroadcast (kind channel t launch pre post : Nat) : Act := .look fun s =>
  match s.broadcast kind (s.get F.GEY_CTRL_BCAST_HOPS) channel s.units.bcastSeq t launch pre post with
  | none => .skip
  | some m => Act.all [
      .units (fun u => { u with bcastSeq := (u.bcastSeq + 1) % 65536 }),
      count F.GEY_DEVICE_BCAST_SENT_C,
      ringFlood .geyser 8 1 m]

/-- What a program does when it fires for interval `n` (R260). -/
def fireProgram (p n : Nat) (b : List Byte) (terms : Nat) (hist : List (Nat × Nat × Bool × Bool)) : Act := .look fun s =>
  let ext := (ordinary b).flatMap (fun j => if tKind b j ≠ 4 then [] else
    hist.flatMap (fun h => if h.2.1.testBit j && decide (dif h.1 (enc 64 ((n : Int) - ((pWindow b - 1) * s.interval : Nat))) ≥ 0)
      then s.extIn p (tSel b j) h.1 else []))
  let t := if bit (num b 0 1) 3 then ext.foldl (fun a x => match a with | some y => some (earlier y x) | none => some x) none
    |>.getD n else n
  let launch := addT t (pLaunch b * tickNs : Nat)
  let ch := num b 3 1
  let prim := bit (num b 0 1) 4
  let frz := bit (num b 0 1) 5
  let ok := (s.floodTag 1 []).isSome
  let seq := if frz && ok then (s.units.bcastSeq + b2n prim) % 65536 else 0
  Act.all [
    put (F.GEY_PROG_LAST_T p) t,
    event (F.GEY_PROG_STATUS_FIRED p),
    count (F.GEY_PROG_FIRED_C p),
    Act.when prim (sendBroadcast 2 ch t 0 0 0),
    Act.when frz (sendBroadcast 1 ch t launch (pPre b) (pPost b)),
    scheduleFreeze (pEn b) {
      id := 0, slot := none, state := 1, program := p, channel := if frz then ch else 0, rflags := 0, origin := s.device,
      seq := seq, incarnation := s.incarnation, t := t, launch := launch, preNs := pPre b, postNs := pPost b,
      start := addT t (-(pPre b * tickNs : Nat)), stop := addT t (pPost b * tickNs : Nat), terms := terms,
      stream := pStream b, scopeValue := num b 32 4, scopeMask := num b 36 4, group := num b 6 2 % 4096,
      outMask := num b 26 1 % 16, owner := s.get (F.GEY_PROG_OWNER_TENANT p) }]

/-- Evaluates one interval of one program (R259). -/
def evaluate (p n : Nat) : Act := .look fun s =>
  let b := s.progAt p n
  let u := s.prog p
  let now := ((List.range 16).filter (fun j => tKind b j ≠ 0 && s.primitive p b j n)).foldl (fun m j => m + 2 ^ j) 0
  let first := enc 64 ((n : Int) - ((pWindow b - 1) * s.interval : Nat))
  let seen := (u.history.filter (fun h => decide (dif h.1 first ≥ 0))).foldl (fun m h => m ||| h.2.1) now
  let armed := (ordinary b).filter (fun j => seen.testBit j)
  let vetoed := (List.range 16).any (fun j => tKind b j ≠ 0 && tVeto b j && now.testBit j)
  let cond := decide (armed.length ≥ num b 1 1) && !vetoed
  let before := u.history.any (fun h => h.1 = enc 64 ((n : Int) - (s.interval : Nat)) && h.2.2.1)
  let want := cond && (!bit (num b 0 1) 6 || !before)
  let held := match u.holdUntil with | some h => decide (dif n h < 0) | none => false
  let rate := num b 28 2
  let empty := rate ≠ 0 && s.get (F.GEY_PROG_STATUS_TOKENS p) = 0
  -- R513, R537: a tenant being reset and a fenced device fire nothing
  let fire := want && !held && !empty && !s.fenced && s.get (F.TEN_STATUS_STATE (s.get (F.GEY_PROG_OWNER_TENANT p))) ≠ 2
  let after := (n + s.interval) % 2 ^ 64
  let until_ := if fire then some (addT after (num b 4 2 * s.interval : Nat)) else u.holdUntil
  let hist := ((n, now, cond, fire) :: u.history).take 16
  Act.all [
    onProg p (fun u => { u with next := after, history := hist, holdUntil := until_ }),
    put (F.GEY_PROG_STATUS_HOLDING_OFF p) (b2n (match until_ with | some h => decide (dif after h < 0) | none => false)),
    Act.when (want && held) (count (F.GEY_PROG_HOLDOFF_SUPPRESSED_C p)),
    Act.when (want && !held && empty) (count (F.GEY_PROG_RATE_SUPPRESSED_C p)),
    Act.when fire (.seq
      (Act.when (rate ≠ 0) (put (F.GEY_PROG_STATUS_TOKENS p) (s.get (F.GEY_PROG_STATUS_TOKENS p) - 1)))
      (fireProgram p n b (now ||| armed.foldl (fun m j => m ||| 2 ^ j) 0) hist))]

/-- PROGRAM_EVALUATE (R259). -/
def programEvaluateAct : Act := .look fun s =>
  match s.nextEval with | some (p, n) => Act.when (s.has 2) (evaluate p n) | none => .skip

def execProgramEvaluate (s : State) : Host.Outcome State Fault Refusal := .next (programEvaluateAct.run s)

/-! ## Broadcasts received (R266, R267) -/

/-- Uses a broadcast (R267). -/
def useBroadcast (m : List Byte) : Act := .look fun s =>
  let ch := num m 3 1
  let p := s.get (F.GEY_CHANNEL_MAP_PROGRAM ch)
  let b := s.liveProg p
  let gey := s.has 2
  let t := num m 8 8
  let pre := num m 24 4 % 2 ^ 24
  let post := num m 28 4 % 2 ^ 24
  if num m 0 1 = 2 then extInput (0x100 + ch) 64 t
  else if num m 0 1 ≠ 1 then .skip
  else if !s.is (F.GEY_CHANNEL_MAP_ENABLE ch) then count F.GEY_DEVICE_BCAST_UNMAPPED_C
  else scheduleFreeze (gey && pEn b) {
    id := 0, slot := none, state := 1, program := if gey then p else 0, channel := ch, rflags := 1,
    origin := num m 4 2 % 16384, seq := num m 6 2, incarnation := num m 32 4, t := t, launch := num m 16 8,
    preNs := pre, postNs := post, start := addT t (-(pre * tickNs : Nat)), stop := addT t (post * tickNs : Nat), terms := 0,
    stream := pStream b, scopeValue := num b 32 4, scopeMask := num b 36 4, group := num b 6 2 % 4096,
    outMask := if gey then num b 26 1 % 16 else s.get (F.GEY_CHANNEL_MAP_OUT_MASK ch),
    owner := s.get (F.GEY_PROG_OWNER_TENANT p) }

/-- BROADCAST_RECEIVED (R266). -/
def broadcastReceivedAct (port : Nat) (msg : List Byte) : Act := .look fun s =>
  let m := fit 64 msg
  let origin := num m 4 2 % 16384
  let seq := num m 6 2
  let hops := num m 1 1
  let seen := Sparse.get (fun _ => (65536, 0)) s.units.bcastSeen origin
  let (cum, b) := if seen.1 = 65536 then ((seq + 65535) % 65536, 0) else seen
  let d := (seq + 131072 - cum - 1) % 65536
  let class_ := classify cum b seq
  let win := if class_ = .outside then slide 64 ((cum + d - 63) % 65536) (b >>> (d - 63) ||| 2 ^ 63) else accept cum b seq
  if s.floodTag 1 (m.take 48) ≠ some (m.drop 48) then count F.GEY_DEVICE_BCAST_AUTH_FAIL_C
  else if num m 32 4 < s.heldIncarnation origin then count F.GEY_DEVICE_BCAST_FENCED_C
  else if origin = s.device then .skip
  else if class_ = .duplicate then count F.GEY_DEVICE_BCAST_DUPLICATE_C
  else Act.all [
    .units (fun u => { u with bcastSeen := Sparse.set (fun _ => (65536, 0)) u.bcastSeen origin win }),
    count F.GEY_DEVICE_BCAST_RECEIVED_C,
    useBroadcast m,
    Act.when (decide (hops ≥ 1)) (ringFlood .geyser port 1 (withHops (hops - 1) m))]

def execBroadcastReceived (port : Nat) (msg : List Byte) (s : State) : Host.Outcome State Fault Refusal :=
  .next ((broadcastReceivedAct port msg).run s)

end Sys2Proof.Machine
end

