-- ==== Sys2Proof/Machine/Pins.lean ====
section
/-! DEFINITION. The levels of the electrical outputs (R46, R48, R52, R56, R436, R450 to R458). A level is a function of the
state, which a reader of LEVEL sees; the list of outputs takes the pulses, and the changes of level that a command of the
pin, its supply, a role or a reset makes. -/

namespace Sys2Proof.Machine

/-! ## Interlock outputs (R450 to R452) -/

/-- The device holds a live role (R52, UTL29). -/
def State.liveRole (s : State) : Bool :=
  s.up && !s.fenced && !s.unconfigured && decide (s.get F.SUP_ROLE_STATUS_KIND < 2)

/-- The supervisor vote holds (R523). -/
def State.voteHolds (s : State) : Bool := !s.units.sup.voteFailed

/-- What an interlock output is asked to drive: 0 off, 1 high, 2 low (R450). -/
def State.ilkWants (s : State) (o : Nat) : Nat :=
  if s.get (F.ILK_CFG_SOURCE o) = 1 then b2n (s.liveRole && s.voteHolds)
  else if s.get (F.ILK_CFG_STATE o) = 3 then 0 else s.get (F.ILK_CFG_STATE o)

/-- VFLD is valid (R56). -/
def State.vfld (s : State) : Bool := (s.get F.PWR_STATUS_RAIL_OK).testBit 6

/-- The level an interlock output drives: `hiZ` with both switches open (R46, R56, R450 to R452). -/
def State.ilkPin (s : State) (o : Nat) : Drive :=
  if !s.up || !s.vfld || s.keep.ember.rstLow || s.is (F.ILK_FAULT_TRIPPED o) || s.is (F.ILK_FAULT_LATCHED o) then .hiZ
  else match s.ilkWants o with | 1 => .high | 2 => .low | _ => .hiZ

/-- The trip state of an interlock output, and of a utility pin. -/
def State.ilk (s : State) (o : Nat) : TripUnit := Sparse.get (fun _ => ({} : TripUnit)) s.units.ilk o
def State.utl (s : State) (p : Nat) : TripUnit := Sparse.get (fun _ => ({} : TripUnit)) s.units.utl p

def onIlk (o : Nat) (f : TripUnit → TripUnit) : Act := .look fun s =>
  let v := f (s.ilk o)
  .units fun u => { u with ilk := Sparse.set (fun _ => ({} : TripUnit)) u.ilk o v }

def onUtl (p : Nat) (f : TripUnit → TripUnit) : Act := .look fun s =>
  let v := f (s.utl p)
  .units fun u => { u with utl := Sparse.set (fun _ => ({} : TripUnit)) u.utl p v }

/-- Shows the level of an interlock output and puts out a change of it; between high and low it is off for 1 µs (R450). -/
def driveIlk (o : Nat) (before : Drive) : Act := .look fun s =>
  let d := s.ilkPin o
  Act.all [
    put (F.ILK_FAULT_PIN_HIGH o) (b2n (d = .high)),
    Act.when (d ≠ before && d ≠ .hiZ && before ≠ .hiZ) (.emit (.pin 2 o .hiZ 1000)),
    Act.when (d ≠ before) (.emit (.pin 2 o d 0))]

/-- Runs a change that may move the interlock outputs. -/
def withIlk (a : Act) : Act := .look fun s =>
  .seq a (Act.each (List.range 8) (fun o => driveIlk o (s.ilkPin o)))

/-! ## Utility pins (R52, R453 to R458) -/

/-- The pin offers a function (R52, R453). -/
def utlOffers (p f : Nat) : Bool :=
  decide (f ≤ 2) || (match f with
    | 3 => decide (p < 8)
    | 4 => decide (8 ≤ p) && decide (p < 12)
    | 5 => decide (12 ≤ p) && decide (p < 16)
    | 6 => decide (16 ≤ p) && decide (p < 24)
    | 7 => decide (24 ≤ p) && decide (p < 28)
    | 8 => p = 28
    | 9 => p = 29
    | _ => false)

/-- The level a pin's function calls for between pulses; `none`: it does not drive (a function that
the pin does not offer drives nothing, R52). -/
def State.utlLevel (s : State) (p : Nat) : Option Bool :=
  if !utlOffers p (s.get (F.UTL_CFG_FUNCTION p)) then none else match s.get (F.UTL_CFG_FUNCTION p) with
  | 2 => some (s.is (F.UTL_CTRL_OUT p))
  | 3 => some ((List.range 32).any (fun t => (s.get (F.UTL_PARAM_PARAM p)).testBit t && !(s.queue (2112 + t)).items.isEmpty))
  | 4 | 5 | 7 => some false
  | 8 => some (s.units.sup.voteFailed || !s.units.sup.outvoted.isEmpty)
  | 9 => some s.liveRole
  | _ => none

/-- A utility pin may drive (R46, R454, R455). -/
def State.utlDrives (s : State) (p : Nat) : Bool := s.up && !s.keep.ember.rstLow && !s.is (F.UTL_STATUS_GUARD p)
  && !s.is (F.UTL_STATUS_TRIPPED p) && !s.is (F.UTL_STATUS_LATCHED p)

/-- How a utility pin drives a level of its function: INVERT and OPEN_DRAIN. -/
def State.utlSense (s : State) (p : Nat) (b : Bool) : Drive :=
  if b != s.is (F.UTL_CFG_INVERT p) then (if s.is (F.UTL_CFG_OPEN_DRAIN p) then .hiZ else .high) else .low

/-- The level a utility pin drives between pulses. -/
def State.utlPin (s : State) (p : Nat) : Drive :=
  match s.utlLevel p with
  | some b => if s.utlDrives p then s.utlSense p b else .hiZ
  | none => .hiZ

/-- The level at the land of a utility pin: as driven, else as the board holds it now (R454, R458; log entry 112). -/
def State.utlLand (s : State) (p : Nat) : Bool :=
  match s.utlPin p with
  | .high => true
  | .low => false
  | .hiZ => Config.boardLevel s.keep.elapsed p

/-- A pulse of a function leaves a pin: not within its guard, nor while it is tripped (R454). -/
def utlPulse (p fn width : Nat) : Act := .look fun s =>
  Act.when (s.utlDrives p && s.get (F.UTL_CFG_FUNCTION p) = fn) (.emit (.pin 1 p (s.utlSense p true) width))

/-- The level last put out on a utility pin. -/
def State.driven (s : State) (p : Nat) : Drive := Sparse.get (fun _ => Drive.hiZ) s.units.driven p

/-- Puts out a change of a pin's level. -/
def driveUtl (p : Nat) : Act := .look fun s => Act.when (s.utlPin p ≠ s.driven p) (.seq (.emit (.pin 1 p (s.utlPin p) 0))
  (.units fun u => { u with driven := Sparse.set (fun _ => Drive.hiZ) u.driven p (s.utlPin p) }))

/-- Runs a change that may move a utility pin. -/
def withUtl (p : Nat) (a : Act) : Act := .seq a (driveUtl p)

/-- The pins whose level follows other state of the device: attention, supervisor fault and role (R52, R453). -/
def followPins : Act := .look fun s =>
  Act.each ((List.range 32).filter (fun p => [3, 8, 9].contains (s.get (F.UTL_CFG_FUNCTION p)))) driveUtl

/-! ## Edge ports and frequency outputs (R425, R436) -/

/-- The level of an edge port between pulses. -/
def State.edgPin (s : State) (p : Nat) : Drive :=
  if s.up && !s.keep.ember.rstLow && s.get (F.EDG_CFG_IO p) = 3 then .low else .hiZ

/-- Runs a change of an edge port's mode, and puts out the change of its level. -/
def withEdg (p : Nat) (a : Act) : Act := .look fun s => .seq a (.look fun t =>
  Act.when (t.edgPin p ≠ s.edgPin p) (.emit (.pin 0 p (t.edgPin p) 0)))

/-! ## All of them -/

/-- Every driven output goes to high impedance (R46). -/
def releasePins : Act := .look fun s =>
  let off := fun (kind n : Nat) (driven : Nat → Bool) =>
    Act.each ((List.range n).filter driven) (fun i => .emit (.pin kind i .hiZ 0))
  Act.all [
    off 2 8 (fun o => s.ilkPin o ≠ .hiZ),
    off 1 32 (fun p => s.driven p ≠ .hiZ),
    .units (fun u => { u with driven := [] }),
    off 0 16 (fun p => s.edgPin p ≠ .hiZ),
    off 3 4 (fun k => s.is (F.TIM_FOUT_STATUS_ACTIVE k))]

/-- The outputs that the state calls for begin to drive (R48). -/
def raisePins : Act := .look fun s => Act.all [
  Act.each (List.range 8) (fun o => driveIlk o .hiZ),
  Act.each (List.range 32) driveUtl,
  Act.each ((List.range 16).filter (fun p => s.edgPin p ≠ .hiZ)) (fun p => .emit (.pin 0 p (s.edgPin p) 0))]

end Sys2Proof.Machine
end

