-- ==== Sys2Proof/Machine/Edge.lean ====
section
/-! DEFINITION. Edge ports, environment channels, interlock outputs and utility pins (R52, R56, R430 to R460). -/

namespace Sys2Proof.Machine

/-! ## Time-interval units of the edge ports (R430 to R441) -/

/-- The unit of an edge port; units 16 to 20 serve the environment converters. -/
def State.edge (s : State) (p : Nat) : EdgeUnit := Sparse.get (fun _ => ({} : EdgeUnit)) s.units.edges p

/-- Changes the unit of an edge port. -/
def onEdge (p : Nat) (f : EdgeUnit → EdgeUnit) : Act := .look fun s =>
  let v := f (s.edge p)
  .units fun u => { u with edges := Sparse.set (fun _ => ({} : EdgeUnit)) u.edges p v }

/-- An edge selector of R437 can give edges: its port is an input, or an output for a launch. -/
def State.edgeLive (s : State) (sel : Nat) : Bool :=
  if sel < 0x20 then s.get (F.EDG_CFG_IO (sel % 16)) = 1 || s.get (F.EDG_CFG_IO (sel % 16)) = 2
  else if sel = 0x20 then true
  else decide (0x40 ≤ sel) && decide (sel < 0x50) && s.get (F.EDG_CFG_IO (sel % 16)) = 3

/-- The unit has 600 ns of dead time after a stop (R431, R434). -/
def deadTime : Nat := 600 * tickNs

/-- A result of a measurement: registers, the sentence, the rings measured in its dead time, and re-arming (R432, R434,
R435, R439). -/
def edgeResult (p interval : Nat) (overflow : Bool) : Act := .look fun s =>
  let u := s.edge p
  let stamp := (u.start + 128) / 256 % 2 ^ 64
  let n := u.results + 1
  let stopSel := s.get (F.EDG_CFG_STOP_SEL p)
  Act.all [
    onEdge p (fun x => { x with results := n, resultAt := none, lastStart := stamp, lastInterval := interval, calAt := s.keep.elapsed }),
    put (F.EDG_START_STAMP p) stamp,
    put (F.EDG_INTERVAL_INTERVAL p) interval,
    put (F.EDG_STATUS_STARTED p) 0,
    Act.when overflow (.seq (event (F.EDG_STATUS_OVERFLOW p)) (count (F.EDG_OVERFLOWS_C p))),
    event (F.EDG_STATUS_RESULT_NEW p),
    count (F.EDG_RESULTS_C p),
    Act.when (s.is (F.EDG_CFG_EVENT_EN p)) (.seq (count (F.EDG_EVENTS_RAISED_C p))
      (originate 3 p 0 1 (be 8 interval ++ be 1 (b2n overflow + 2 * b2n (stopSel = 0xFF)) ++ be 1 (s.get (F.EDG_CFG_START_SEL p))
        ++ be 1 stopSel ++ be 1 0 ++ be 4 n) stamp false)),
    put (F.EDG_STATUS_ARMED p) (s.get (F.EDG_CFG_CONTINUOUS p))]

/-- A result is due. -/
def State.resultDue (s : State) (p : Nat) : Bool := match (s.edge p).resultAt with
  | some t => decide (s.keep.elapsed ≥ t)
  | none => false

/-- MEASUREMENT_RESULT (R434): 600 ns after the stop. -/
def measurementResultAct (p : Nat) : Act := .look fun s =>
  Act.when (s.resultDue p) (edgeResult p (if s.get (F.EDG_CFG_STOP_SEL p) = 0xFF then 0 else (s.edge p).stop - (s.edge p).start) false)

def execMeasurementResult (p : Nat) (s : State) : Host.Outcome State Fault Refusal :=
  .next ((measurementResultAct p).run s)

/-- Takes a stop edge: the interval is at least zero (R434, R459). -/
def takeStop (p stamp : Nat) : Act := .look fun s => .seq (put (F.EDG_STATUS_STARTED p) 0)
  (onEdge p (fun u => { u with stop := max u.start stamp, resultAt := some (s.keep.elapsed + deadTime) }))

/-- Takes a start edge: the stamp goes to Geyser at once (R434, R440). A stop edge of its window ends it (R459). -/
def takeStart (p stamp : Nat) : Act := .look fun s => Act.all [
  put (F.EDG_STATUS_ARMED p) 0,
  onEdge p (fun u => { u with start := stamp, stop := stamp, startedAt := s.keep.elapsed }),
  (if s.get (F.EDG_CFG_STOP_SEL p) = 0xFF then onEdge p (fun u => { u with resultAt := some (s.keep.elapsed + deadTime) })
   else match s.win.stops.find? (fun e => e.1 = p) with
    | some e => takeStop p e.2
    | none => put (F.EDG_STATUS_STARTED p) 1),
  extInput p 64 ((stamp + 128) / 256 % 2 ^ 64)]

/-- A later command of this window arms the unit, or ends its dead time and re-arms it (R459). -/
def State.armPending (s : State) (p : Nat) : Bool := (s.edge p).resultAt.isNone &&
  (s.pending.any (fun c => match c with
    | .edgArm q t v => q = p && bit v.toNat 0 && s.hasRight t 0x00080000
    | _ => false) || (s.asked (F.EDG_CTRL_ARM p)).any (fun e => e.2 = 1))

def State.rearmPending (s : State) (p : Nat) : Bool := s.resultDue p && s.is (F.EDG_CFG_CONTINUOUS p)
  && s.pending.any (fun c => match c with | .measurementResult q => q = p | _ => false)

/-- EDGE_START (R434, R437, R441, R459): of an armed unit; an edge that meets no armed unit is missed. -/
def edgeStartAct (p stamp : Nat) : Act := .look fun s =>
  if p ≥ 16 ∨ !s.edgeLive (s.get (F.EDG_CFG_START_SEL p)) then .skip
  else if s.is (F.EDG_STATUS_CAL_BUSY p) then count (F.EDG_MISSED_C p)
  else if s.is (F.EDG_STATUS_ARMED p) then takeStart p stamp
  else if s.is (F.EDG_STATUS_STARTED p) then .skip
  else if s.rearmPending p then .seq (measurementResultAct p) (takeStart p stamp)
  else if s.armPending p then takeStart p stamp
  else count (F.EDG_MISSED_C p)

def execEdgeStart (p stamp : Nat) (s : State) : Host.Outcome State Fault Refusal := .next ((edgeStartAct p stamp).run s)

/-- EDGE_STOP (R434, R441, R459): stop edges before the start are ignored, save that a start of the same window takes them, and
missed while the unit is neither armed nor started, or serves a calibration. -/
def edgeStopAct (p stamp : Nat) : Act := .look fun s =>
  let sel := s.get (F.EDG_CFG_STOP_SEL p)
  if p ≥ 16 ∨ sel = 0xFF ∨ !s.edgeLive sel then .skip
  else if s.is (F.EDG_STATUS_CAL_BUSY p) then count (F.EDG_MISSED_C p)
  else if s.is (F.EDG_STATUS_STARTED p) then takeStop p stamp
  else if s.is (F.EDG_STATUS_ARMED p) || s.rearmPending p || s.armPending p then .win fun w => { w with stops := (p, stamp) :: w.stops }
  else count (F.EDG_MISSED_C p)

def execEdgeStop (p stamp : Nat) (s : State) : Host.Outcome State Fault Refusal := .next ((edgeStopAct p stamp).run s)

/-- INTERVAL_OVERFLOW (R435): 2^40 coarse cycles of 0.8 ns after the start. -/
def intervalOverflowAct (p : Nat) : Act := .look fun s =>
  Act.when (decide (p < 16) && s.is (F.EDG_STATUS_STARTED p)
      && decide (5 * (s.keep.elapsed - (s.edge p).startedAt) ≥ 4 * 2 ^ 40 * tickNs))
    (edgeResult p 0 true)

def execIntervalOverflow (p : Nat) (s : State) : Host.Outcome State Fault Refusal := .next ((intervalOverflowAct p).run s)

/-- A write of EDG_CTRL by a tenant with the right (R106); else it is discarded. -/
def edgCommand (p writer : Nat) (a : Act) : Act := .look fun s =>
  if p ≥ 16 then .skip
  else if s.hasRight writer 0x00080000 then a else writeLost (F.EDG_STATUS_WRITE_LOST p)

/-- EDG_ARM (R434): a write of EDG_CTRL; a measurement in progress goes on. -/
def edgArmAct (p writer : Nat) (value : Word) : Act :=
  Act.when (getBits value 0 0 = 1) (edgCommand p writer (.look fun s =>
    Act.when (!s.is (F.EDG_STATUS_STARTED p) && (s.edge p).resultAt.isNone) (put (F.EDG_STATUS_ARMED p) 1)))

def execEdgArm (p writer : Nat) (value : Word) (s : State) : Host.Outcome State Fault Refusal :=
  .next ((adjusts writer (F.EDG_CTRL_ARM p) (edgArmAct p writer value)).run s)

/-- EDG_DISARM (R438): measurement and output. -/
def edgDisarmAct (p writer : Nat) (value : Word) : Act :=
  Act.when (getBits value 1 1 = 1) (edgCommand p writer (Act.all [
    put (F.EDG_STATUS_ARMED p) 0, put (F.EDG_STATUS_STARTED p) 0, put (F.EDG_STATUS_OUT_ARMED p) 0,
    onEdge p (fun u => { u with resultAt := none })]))

def execEdgDisarm (p writer : Nat) (value : Word) (s : State) : Host.Outcome State Fault Refusal :=
  .next ((adjusts writer (F.EDG_CTRL_DISARM p) (edgDisarmAct p writer value)).run s)

/-- The first multiple of `period` after `target` that lies after `now`, as a sentence time. -/
def nextPeriod (now target period : Nat) : Nat :=
  let d := (dif now target).toNat
  (target + (d / period + 1) * period) % 2 ^ 64

/-- OUT_ARM (R438): a write of EDG_CTRL on a port in output mode. -/
def outArmAct (p writer : Nat) (value : Word) : Act :=
  Act.when (getBits value 2 2 = 1) (edgCommand p writer (.look fun s =>
    let t := s.get (F.EDG_OUT_TIME_TIME p)
    let period := s.get (F.EDG_OUT_SHAPE_PERIOD_NS p) * tickNs
    if s.get (F.EDG_CFG_IO p) ≠ 3 then .skip
    else if dif t s.now ≥ (tickUs : Int) then
      .seq (put (F.EDG_STATUS_OUT_ARMED p) 1) (onEdge p (fun u => { u with nextOut := t }))
    else .seq (event (F.EDG_STATUS_OUT_LATE p))
      (if period = 0 then put (F.EDG_STATUS_OUT_ARMED p) 0
       else .seq (put (F.EDG_STATUS_OUT_ARMED p) 1)
        (onEdge p (fun u => { u with nextOut := nextPeriod s.now t period })))))

def execOutArm (p writer : Nat) (value : Word) (s : State) : Host.Outcome State Fault Refusal :=
  .next ((adjusts writer (F.EDG_CTRL_OUT_ARM p) (outArmAct p writer value)).run s)

/-- EDGE_OUTPUT_LAUNCH (R46, R438): after local ready, the pulse, and the next one when the port repeats. -/
def edgeOutputLaunchAct (p : Nat) : Act := .look fun s =>
  let u := s.edge p
  let period := s.get (F.EDG_OUT_SHAPE_PERIOD_NS p) * tickNs
  Act.when (decide (p < 16) && s.up && s.is (F.EDG_STATUS_OUT_ARMED p) && s.get (F.EDG_CFG_IO p) = 3 && decide (dif s.now u.nextOut ≥ 0))
    (.seq (.emit (.pin 0 p .high (s.get (F.EDG_OUT_SHAPE_WIDTH_NS p))))
      (if period = 0 then put (F.EDG_STATUS_OUT_ARMED p) 0
       else onEdge p (fun x => { x with nextOut := (u.nextOut + period) % 2 ^ 64 })))

def execEdgeOutputLaunch (p : Nat) (s : State) : Host.Outcome State Fault Refusal :=
  .next ((edgeOutputLaunchAct p).run s)

/-- RING_CALIBRATION (R432): of an idle unit. -/
def ringCalibrationAct (u : Nat) : Act := .look fun s =>
  Act.when (decide (u < 21) && (decide (u ≥ 16) || !(s.is (F.EDG_STATUS_ARMED u) || s.is (F.EDG_STATUS_STARTED u) || (s.edge u).resultAt.isSome)))
    (onEdge u (fun x => { x with calAt := s.keep.elapsed }))

def execRingCalibration (u : Nat) (s : State) : Host.Outcome State Fault Refusal := .next ((ringCalibrationAct u).run s)

/-- A value of R437's table. -/
def edgeSelector (v : Nat) : Bool := decide (v < 0x20) || v = 0x20 || (decide (0x40 ≤ v) && decide (v < 0x50))

/-- The selectors of a configuration are valid (R437). -/
def edgeConfig (w : Word) : Bool :=
  edgeSelector (getBits w 23 16) && (edgeSelector (getBits w 15 8) || getBits w 15 8 = 0xFF)

/-- EDG_CFG_WRITE (R437): an invalid configuration is refused whole. -/
def edgCfgWriteAct (p writer : Nat) (value : Word) : Act := edgCommand p writer
  (if edgeConfig value then withEdg p <| Act.all [
      put (F.EDG_CFG_IO p) (getBits value 31 30),
      put (F.EDG_CFG_INVERT p) (getBits value 29 29),
      put (F.EDG_CFG_CONTINUOUS p) (getBits value 28 28),
      put (F.EDG_CFG_EVENT_EN p) (getBits value 27 27),
      put (F.EDG_CFG_START_SEL p) (getBits value 23 16),
      put (F.EDG_CFG_STOP_SEL p) (getBits value 15 8)]
   else event (F.EDG_STATUS_CFG_REFUSED p))

def execEdgCfgWrite (p writer : Nat) (value : Word) (s : State) : Host.Outcome State Fault Refusal :=
  .next ((adjusts writer (F.EDG_CFG_IO p) (edgCfgWriteAct p writer value)).run s)

/-! ## Environment channels (R442 to R449) -/

/-- The channel has the KIND of a configuration (R442). -/
def envKindOk (c : Nat) (w : Word) : Bool := if c < 4 then getBits w 30 28 = 0 else getBits w 30 28 = 1 || getBits w 30 28 = 2

/-- Changes the converters' state. -/
def onEnv (f : EnvUnit → EnvUnit) : Act := .units fun u => { u with env := f u.env }

/-- Staged environment settings take effect (R444). -/
def commitEnv : Act := .seq (commitWord F.ENV_SCAN_SCAN_S.addr)
  (Act.each (List.range 16) (fun c => .seq (commitWord (F.ENV_CFG_ENABLE c).addr) (commitWord (F.ENV_COEF_COEF_A c).addr)))

/-- The enabled channels in the order in which they convert. -/
def State.envChannels (s : State) : List Nat := (List.range 16).filter (fun c => s.liveIs (F.ENV_CFG_ENABLE c))

/-- A staged write in the window in which a scan starts applies to that scan (R459). -/
def restage : Act := .look fun s => Act.when (s.win.marks.contains (5, 0))
  (.seq commitEnv (.look fun s => onEnv (fun e => { e with todo := s.envChannels })))

/-- A scan starts: staged fields take effect first. -/
def startScan : Act := .seq commitEnv (.look fun s => .seq
  (onEnv (fun e => { e with todo := s.envChannels, repeats := [], waiting := false }))
  (.win fun w => { w with marks := (5, 0) :: w.marks }))

/-- ENV_SCAN_START (R444): at a D0 second boundary that is a multiple of SCAN_S; one scan at a time. -/
def envScanStartAct : Act := .look fun s =>
  let sec := s.units.d0 / tickS
  Act.when (s.up && s.units.env.lastScan ≠ some sec && sec % max 1 (s.live F.ENV_SCAN_SCAN_S) = 0)
    (.seq (onEnv (fun e => { e with lastScan := some sec }))
      (if s.units.env.todo.isEmpty then startScan
       else .seq (event F.ENV_SCAN_SCAN_OVERRUN) (onEnv (fun e => { e with waiting := true }))))

def execEnvScanStart (s : State) : Host.Outcome State Fault Refusal := .next (envScanStartAct.run s)

/-- Resistance of the curve of IEC 60751 at `v` × 2^-8 °C for R0 in 2^-16 Ω, times 10^12 × 2^32: R0 (1 + A t + B t² + C (t − 100) t³),
the last term below 0 °C. -/
def platinum (r0 v : Int) : Int :=
  let q : Int := 256
  r0 * (10 ^ 12 * q ^ 4 + 3908300000 * v * q ^ 3 - 577500 * v * v * q ^ 2
    + (if v < 0 then -(4183 * (v - 100 * q) * v * v * v) / 1000 else 0))

/-- The greatest temperature in a range whose resistance is not above `raw`. -/
def solvePlatinum (r0 raw : Int) : Nat → Int → Int → Int
  | 0, lo, _ => lo
  | n + 1, lo, hi =>
    let mid := (lo + hi) / 2
    if platinum r0 mid ≤ raw * 10 ^ 12 * 256 ^ 4 then solvePlatinum r0 raw n mid hi else solvePlatinum r0 raw n lo mid

/-- VALUE of a reading in 2^-8 °C (R445). -/
def State.envValue (s : State) (c : Nat) (raw : Int) : Int :=
  let a := s.live (F.ENV_COEF_COEF_A c)
  match s.live (F.ENV_CFG_SENSOR c) with
  | 1 => solvePlatinum a raw 20 (-200 * 256) (850 * 256)
  | 2 => (raw * sgn 32 a + sgn 32 (s.live (F.ENV_COEF_COEF_B c)) * 2 ^ 24) / 2 ^ 32
  | _ => 0

/-- The temperature term of a port's or lane's asymmetry (R399): A in 2^-8 ticks; `none` in place of a reading keeps T
at T_CAL. -/
def asymmetry (base tempco tCal : Int) (t : Option Int) : Int :=
  match t with
  | some x => base + tempco * (x - tCal) / 65536
  | none => base

/-- The latest valid reading of a channel; 0xFF and numbers above 15 name none. -/
def State.temperature (s : State) (c : Nat) : Option (Nat × Int) := Sparse.get (fun _ => none) s.units.env.valid c

/-- A of a lane as its registers give it now (R399). -/
def showLaneAsym (l : Nat) : Act := .look fun s =>
  let c := s.get (F.TIM_LANE_CFG_ENV_CHANNEL l)
  Act.when (c ≥ 16 || (s.temperature c).isSome) (put (F.TIM_LANE_APPLIED_ASYM l) (enc 32 (asymmetry
    (sgn 32 (s.get (F.TIM_LANE_ASYM_ASYM_BASE l))) (sgn 32 (s.get (F.TIM_LANE_ASYM_ASYM_TEMPCO l)))
    (sgn 16 (s.get (F.TIM_LANE_CFG_T_CAL l))) (if c < 16 then (s.temperature c).map (·.2) else none))))

/-- A valid reading reaches the lanes and ports that name its channel (R165, R399, R400). -/
def useReading (c : Nat) (v : Int) : Act := .look fun s => Act.all [
  onEnv (fun e => { e with valid := Sparse.set (fun _ => none) e.valid c (some (s.keep.elapsed, v)) }),
  Act.each ((List.range 8).filter (fun r => s.get (F.TIM_PORT_CFG_ENV_CHANNEL r) = c)) (fun r =>
    put (F.TIM_PORT_STATUS_TEMP_STALE r) 0),
  Act.each ((List.range s.part.lanes).filter (fun l => s.get (F.TIM_LANE_CFG_ENV_CHANNEL l) = c)) showLaneAsym]

/-- The channel's converter may end a conversion of it now: channels 0 to 3 have their own, and the matrix converts in
increasing order. -/
def State.converting (s : State) (c : Nat) : Bool :=
  s.units.env.todo.contains c && (decide (c < 4) || (s.units.env.todo.filter (fun x => decide (x ≥ 4))).head? = some c)

/-- ENV_CONVERSION_DONE (R444 to R449): a reading and its sentence; a noisy reading is repeated once. -/
def envConversionDoneAct (c : Nat) (x : Conversion) (stamp : Nat) : Act := .look fun s =>
  let again := s.units.env.repeats.contains c
  let sensor := s.live (F.ENV_CFG_SENSOR c)
  let flags := b2n x.noise + 2 * b2n again + 4 * b2n x.isOpen + 8 * b2n x.short + 16 * b2n x.overRange
  let valid := (sensor = 1 || sensor = 2) && !x.noise && !x.isOpen && !x.short && !x.overRange
  let value := s.envValue c x.raw
  let eflags := flags + 32 * b2n valid
  let finish := fun v : Int => Act.all [
    put (F.ENV_READING_RAW c) (enc 32 x.raw),
    put (F.ENV_READING_VALUE c) (enc 16 v),
    put (F.ENV_READING_EFLAGS c) eflags,
    put (F.ENV_READING_TIME_TIME c) stamp,
    count (F.ENV_READINGS_C c),
    Act.when x.noise (count (F.ENV_NOISE_READINGS_C c)),
    countBy (F.ENV_FAULTS_C c) (b2n x.isOpen + b2n x.short + b2n x.overRange),
    originate 2 c 0 1 (be 4 (enc 32 x.raw) ++ be 2 (enc 16 v) ++ be 1 eflags ++ be 1 (s.live (F.ENV_CFG_KIND c) % 4)) stamp false,
    Act.when valid (useReading c v),
    (if x.noise && !again then onEnv (fun e => { e with repeats := c :: e.repeats })
     else onEnv (fun e => { e with todo := e.todo.erase c, repeats := e.repeats.erase c })),
    .look (fun s => Act.when (s.units.env.todo.isEmpty && s.units.env.waiting) startScan)]
  if !s.converting c then .skip
  else if -32768 ≤ value ∧ value ≤ 32767 then finish value
  else .draw fun r => finish (sgn 16 r.toNat)

def execEnvConversionDone (c : Nat) (x : Conversion) (stamp : Nat) (s : State) : Host.Outcome State Fault Refusal :=
  .next ((envConversionDoneAct c x stamp).run s)

/-! ## Interlock outputs (R450 to R452) -/

/-- Opens both switches of one output on a trip (R451, R452). -/
def tripIlk (o type : Nat) : Act := .look fun s => Act.all [
  put (F.ILK_FAULT_TRIPPED o) 1,
  put (F.ILK_FAULT_TYPE o) type,
  count (F.ILK_TRIPS_C o),
  Act.when (type = 4) (count (F.ILK_THERMAL_C o)),
  onIlk o (fun u => { u with trippedAt := s.keep.elapsed, cooled := type ≠ 4 }),
  Act.when (decide (s.get (F.ILK_FAULT_RETRIES o) ≥ s.get (F.ILK_CFG_RETRY_LIMIT o))) (put (F.ILK_FAULT_LATCHED o) 1)]

/-- TYPE of a mismatch: driven low and reading high, or driven high and reading low. -/
def mismatchType (d : Drive) : Nat := if d = .low then 1 else 2

/-- The state with the registers as the window found them. -/
def State.asFound (s : State) : State := { s with regs := s.win.base.getD s.regs }

/-- The level that an output which may trip has driven from before this window: a write of STATE in it comes after (R459).
A CLEAR of the window starts a new 20 µs. -/
def State.ilkHeld (s : State) (o : Nat) : Drive :=
  let clears := s.win.marks.contains (8, o) || s.pending.any (fun c => match c with
    | .ilkClear p t v => p = o && t = 0 && getBits v 0 0 = 1
    | _ => false) || (s.asked (F.ILK_CTRL_CLEAR o)).any (fun e => e.1 = 0 && e.2 = 1)
  if clears || !s.up || !s.vfld || s.keep.ember.rstLow || s.is (F.ILK_FAULT_TRIPPED o) then .hiZ else s.asFound.ilkPin o

/-- ILK_TRIP (R451): of a driven output; contention flags both. -/
def ilkTripAct (o : Nat) (why : TripCause) : Act := .look fun s =>
  let d := s.ilkHeld o
  Act.when (decide (o < 8) && d ≠ .hiZ) (withIlk (match why with
    | .mismatch => tripIlk o (mismatchType d)
    | .thermal => tripIlk o 4
    | .contention p =>
      if decide (p < 8) && p ≠ o && s.ilkHeld p ≠ .hiZ && s.ilkHeld p ≠ d then .seq (tripIlk o 3) (tripIlk p 3)
      else tripIlk o (mismatchType d)))

def execIlkTrip (o : Nat) (why : TripCause) (s : State) : Host.Outcome State Fault Refusal :=
  .next ((ilkTripAct o why).run s)

/-- ILK_RETRY (R452): 100 ms after the trip, once the switch has cooled. -/
def ilkRetryAct (o : Nat) : Act := .look fun s =>
  let u := s.ilk o
  Act.when (decide (o < 8) && s.is (F.ILK_FAULT_TRIPPED o) && !s.is (F.ILK_FAULT_LATCHED o) && u.cooled
      && decide (s.keep.elapsed ≥ u.trippedAt + 100 * tickMs)
      && !(s.get (F.ILK_CFG_SOURCE o) ≠ 1 && s.ilkWants o = 0))
    (withIlk (Act.all [
      put (F.ILK_FAULT_TRIPPED o) 0,
      put (F.ILK_FAULT_RETRIES o) (min 15 (s.get (F.ILK_FAULT_RETRIES o) + 1)),
      count (F.ILK_RETRIES_C o)]))

def execIlkRetry (o : Nat) (s : State) : Host.Outcome State Fault Refusal := .next ((ilkRetryAct o).run s)

/-- THERMAL_RETRY_THRESHOLD (R452): the switch of a thermally tripped output is below 150 °C. -/
def thermalRetryThresholdAct (o : Nat) : Act :=
  Act.when (decide (o < 8)) (onIlk o (fun u => { u with cooled := true }))

def execThermalRetryThreshold (o : Nat) (s : State) : Host.Outcome State Fault Refusal :=
  .next ((thermalRetryThresholdAct o).run s)

/-- ILK_CLEAR (R452): a write of ILK_CTRL by T0. -/
def ilkClearAct (o writer : Nat) (value : Word) : Act :=
  if o ≥ 8 ∨ getBits value 0 0 = 0 then .skip
  else if writer ≠ 0 then writeLost (F.ILK_FAULT_WRITE_LOST o)
  else withIlk (Act.all [
    put (F.ILK_FAULT_RETRIES o) 0, put (F.ILK_FAULT_LATCHED o) 0, put (F.ILK_FAULT_TRIPPED o) 0, put (F.ILK_FAULT_TYPE o) 0,
    onIlk o (fun u => { u with cooled := true }),
    .win (fun w => { w with marks := (8, o) :: w.marks })])

def execIlkClear (o writer : Nat) (value : Word) (s : State) : Host.Outcome State Fault Refusal :=
  .next ((adjusts writer (F.ILK_CTRL_CLEAR o) (ilkClearAct o writer value)).run s)

/-- ILK_CFG_WRITE (R450, R459, R460): a tripped output drives the new state at its next retry or CLEAR. -/
def ilkCfgWriteAct (o writer : Nat) (value : Word) : Act :=
  if o ≥ 8 then .skip
  else if writer ≠ 0 then writeLost (F.ILK_FAULT_WRITE_LOST o)
  else withIlk (Act.all [
    put (F.ILK_CFG_RETRY_LIMIT o) (getBits value 31 28),
    put (F.ILK_CFG_SOURCE o) (getBits value 27 26),
    put (F.ILK_CFG_STATE o) (getBits value 1 0)])

def execIlkCfgWrite (o writer : Nat) (value : Word) (s : State) : Host.Outcome State Fault Refusal :=
  .next ((adjusts writer (F.ILK_CFG_STATE o) (ilkCfgWriteAct o writer value)).run s)

/-- VFLD_LOSS (R56): every interlock output opens. -/
def vfldLossAct : Act := .look fun s =>
  let ok := s.get F.PWR_STATUS_RAIL_OK
  Act.when (ok.testBit 6) (withIlk (.seq (put F.PWR_STATUS_RAIL_OK (ok - 64))
    (Act.when s.up (Act.each (List.range 8) (fun o => put (F.ILK_FAULT_VFLD_OFF o) 1)))))

def execVfldLoss (s : State) : Host.Outcome State Fault Refusal := .next (vfldLossAct.run s)

/-- VFLD_RETURN (R56). -/
def vfldReturnAct : Act := .look fun s =>
  let ok := s.get F.PWR_STATUS_RAIL_OK
  Act.when (!ok.testBit 6) (withIlk (.seq (put F.PWR_STATUS_RAIL_OK (ok + 64))
    (Act.each (List.range 8) (fun o => put (F.ILK_FAULT_VFLD_OFF o) 0))))

def execVfldReturn (s : State) : Host.Outcome State Fault Refusal := .next (vfldReturnAct.run s)

/-! ## Utility pins (R52, R453 to R458) -/

/-- UTL_FUNCTION_CHANGE (R453, R454, R460): a write of UTL_CFG by T0. -/
def utlFunctionChangeAct (p writer : Nat) (value : Word) : Act := .look fun s =>
  let f := getBits value 31 28
  if p ≥ 32 then .skip
  else if writer ≠ 0 then writeLost (F.UTL_STATUS_WRITE_LOST p)
  else withUtl p (Act.all [
    put (F.UTL_CFG_OPEN_DRAIN p) (getBits value 27 27),
    put (F.UTL_CFG_INVERT p) (getBits value 26 26),
    put (F.UTL_CFG_RETRY_LIMIT p) (getBits value 25 22),
    (if !utlOffers p f then event (F.UTL_STATUS_FUNC_REFUSED p)
     else Act.when (f ≠ s.get (F.UTL_CFG_FUNCTION p)) (Act.all [
      put (F.UTL_CFG_FUNCTION p) f,
      put (F.UTL_STATUS_GUARD p) 1,
      put (F.UTL_STATUS_TYPE p) 0, put (F.UTL_STATUS_TRIPPED p) 0, put (F.UTL_STATUS_LATCHED p) 0,
      put (F.UTL_STATUS_RETRIES p) 0,
      onUtl p (fun _ => { guardEnd := s.keep.elapsed + 2 * tickUs })]))])

def execUtlFunctionChange (p writer : Nat) (value : Word) (s : State) : Host.Outcome State Fault Refusal :=
  .next ((adjusts writer (F.UTL_CFG_FUNCTION p) (utlFunctionChangeAct p writer value)).run s)

/-- UTL_GUARD_END (R454). -/
def utlGuardEndAct (p : Nat) : Act := .look fun s =>
  Act.when (decide (p < 32) && s.is (F.UTL_STATUS_GUARD p) && decide (s.keep.elapsed ≥ (s.utl p).guardEnd))
    (withUtl p (put (F.UTL_STATUS_GUARD p) 0))

def execUtlGuardEnd (p : Nat) (s : State) : Host.Outcome State Fault Refusal := .next ((utlGuardEndAct p).run s)

/-- Trips one utility pin. -/
def tripUtl (p type : Nat) : Act := .look fun s => Act.all [
  put (F.UTL_STATUS_TRIPPED p) 1,
  put (F.UTL_STATUS_TYPE p) type,
  count (F.UTL_TRIPS_C p),
  onUtl p (fun u => { u with trippedAt := s.keep.elapsed }),
  Act.when (decide (s.get (F.UTL_STATUS_RETRIES p) ≥ s.get (F.UTL_CFG_RETRY_LIMIT p))) (put (F.UTL_STATUS_LATCHED p) 1)]

/-- A CLEAR of the window starts a new 20 µs of mismatch (R455, R459). -/
def State.utlCleared (s : State) (p : Nat) : Bool :=
  s.win.marks.contains (9, p) || s.pending.any (fun c => match c with
    | .utlClear q t v => q = p && s.hasRight t 0x00085000 && getBits v 1 1 = 1
    | _ => false) || (s.asked (F.UTL_CTRL_CLEAR p)).any (fun e => e.2 = 1)

/-- UTL_TRIP (R455): of a pin that drives. -/
def utlTripAct (p : Nat) (why : TripCause) : Act := .look fun s =>
  let d := if s.utlCleared p then .hiZ else s.utlPin p
  Act.when (decide (p < 32) && d ≠ .hiZ) (match why with
    | .contention q =>
      if decide (q < 32) && q ≠ p && s.utlPin q ≠ .hiZ && s.utlPin q ≠ d
      then withUtl q (withUtl p (.seq (tripUtl p 3) (tripUtl q 3)))
      else withUtl p (tripUtl p (mismatchType d))
    | _ => withUtl p (tripUtl p (mismatchType d)))

def execUtlTrip (p : Nat) (why : TripCause) (s : State) : Host.Outcome State Fault Refusal :=
  .next ((utlTripAct p why).run s)

/-- A tripped utility pin is driven again 100 ms after its trip (R452, R455); no row commands it, so the tick does. -/
def utlRetry (p : Nat) : Act := .look fun s =>
  Act.when (s.is (F.UTL_STATUS_TRIPPED p) && !s.is (F.UTL_STATUS_LATCHED p)
      && decide (s.keep.elapsed ≥ (s.utl p).trippedAt + 100 * tickMs))
    (withUtl p (.seq (put (F.UTL_STATUS_TRIPPED p) 0)
      (put (F.UTL_STATUS_RETRIES p) (min 15 (s.get (F.UTL_STATUS_RETRIES p) + 1)))))

/-- The retries of the utility pins that have tripped. -/
def utlRetries : Act := .look fun s => Act.each (Sparse.keys s.units.utl (fun _ u => decide (u.trippedAt ≠ 0))) utlRetry

/-- UTL_CLEAR (R452, R455): a write of UTL_CTRL. -/
def utlClearAct (p writer : Nat) (value : Word) : Act := .look fun s =>
  if p ≥ 32 then .skip
  else if !s.hasRight writer 0x00085000 then writeLost (F.UTL_STATUS_WRITE_LOST p)
  else withUtl p (.seq (put (F.UTL_CTRL_OUT p) (getBits value 0 0))
    (Act.when (getBits value 1 1 = 1) (Act.all [
      put (F.UTL_STATUS_RETRIES p) 0, put (F.UTL_STATUS_LATCHED p) 0, put (F.UTL_STATUS_TRIPPED p) 0,
      put (F.UTL_STATUS_TYPE p) 0,
      .win (fun w => { w with marks := (9, p) :: w.marks })])))

def execUtlClear (p writer : Nat) (value : Word) (s : State) : Host.Outcome State Fault Refusal :=
  .next ((adjusts writer (F.UTL_CTRL_OUT p) (utlClearAct p writer value)).run s)

/-- EXTERNAL_TRIGGER_EDGE (R454, R456): accepted, or discarded within the guard or the hold-off. -/
def externalTriggerEdgeAct (p stamp : Nat) : Act := .look fun s =>
  let near := match (s.utl p).lastEdge with
    | some t => decide (dif stamp t < (clampParam 6 (s.get (F.UTL_PARAM_PARAM p)) * tickNs : Nat))
    | none => false
  let change := fun t f : Nat => t = 0 && f ≠ s.get (F.UTL_CFG_FUNCTION p) && utlOffers p f
  let guarding := s.is (F.UTL_STATUS_GUARD p) || s.pending.any (fun c => match c with
    | .utlFunctionChange q t v => q = p && change t (getBits v 31 28)
    | _ => false) || (s.asked (F.UTL_CFG_FUNCTION p)).any (fun e => change e.1 e.2)
  if p ≥ 32 then .skip
  else if guarding then count (F.UTL_DISCARDED_C p)
  else if s.get (F.UTL_CFG_FUNCTION p) ≠ 6 then .skip
  else if near then count (F.UTL_DISCARDED_C p)
  else .seq (onUtl p (fun u => { u with lastEdge := some stamp })) (extInput (0x10 + p - 16) 64 stamp)

def execExternalTriggerEdge (p stamp : Nat) (s : State) : Host.Outcome State Fault Refusal :=
  .next ((externalTriggerEdgeAct p stamp).run s)

end Sys2Proof.Machine
end

