-- ==== Sys2Proof/Machine/Frame.lean ====
section
/-! DEFINITION. The frames a link sends: links and their rates, headers and checksums (R318 to R323,
R339). -/

namespace Sys2Proof.Machine

/-! ## Links -/

/-- Rate of a link in Gbit/s (R318, R319). -/
def State.linkRate (s : State) (l : Nat) : Nat := if l < 256 then 1600 / 2 ^ s.get (F.LSN_PORT_CFG_SPLIT (l / 8)) else 400

/-- The split of an enabled port creates the link (R318, R321); a ring port is one link; an isolated port is held
down (R519). -/
def State.linkMade (s : State) (l : Nat) : Bool :=
  if l < 256 then decide (l / 8 < s.part.listenerPorts) && s.is (F.LSN_PORT_CFG_ENABLE (l / 8))
    && decide (l % 8 < 2 ^ s.get (F.LSN_PORT_CFG_SPLIT (l / 8))) && !s.isolated 4 (l / 8)
  else decide (l < 264) && !s.isolated 5 (l - 256)

/-- The link's own ENABLE; an unconfigured device's ring ports all run (R100). -/
def State.linkEnabled (s : State) (l : Nat) : Bool :=
  s.is (linkF l F.LSN_LINK_CFG_ENABLE F.RNG_CFG_ENABLE) || (decide (256 ≤ l) && s.unconfigured)

/-- A link's unit. -/
def State.link (s : State) (l : Nat) : LinkUnit := Sparse.get (fun _ => ({} : LinkUnit)) s.units.links l

/-- Changes a link's unit. -/
def onLink (l : Nat) (f : LinkUnit → LinkUnit) : Act := .look fun s =>
  let v := f (s.link l)
  .units fun u => { u with links := Sparse.set (fun _ => ({} : LinkUnit)) u.links l v }

/-- Time a frame of `octets`, its FCS included, and its preamble take on a link, in ticks, rounded up. -/
def State.wireTicks (s : State) (l octets : Nat) : Nat :=
  ((octets + 8) * 8 * 1024 + s.linkRate l - 1) / s.linkRate l

/-! ## Checksums -/

/-- The ones' complement sum of 16-bit words. -/
def ones16 : List Byte → Nat → Nat
  | a :: b :: rest, acc => let t := acc + a.toNat * 256 + b.toNat; ones16 rest (t % 65536 + t / 65536)
  | [a], acc => let t := acc + a.toNat * 256; t % 65536 + t / 65536
  | [], acc => acc

/-- The Internet checksum of a byte string. -/
def checksum (l : List Byte) : Nat := 65535 - ones16 l 0

/-! ## Building a frame (R322, R323) -/

/-- Where a frame goes, and from which ports. -/
structure Envelope where
  dstMac : Nat
  srcMac : Nat
  vlan : Option Nat := none
  v4 : Bool := false
  srcIp : Nat
  dstIp : Nat
  srcPort : Nat
  dstPort : Nat
  hops : Nat
  flow : Nat := 0
  deriving DecidableEq, Repr

/-- An Ethernet frame without its FCS, which the MAC appends: headers, and the payload of the datagram. -/
def Envelope.frame (e : Envelope) (prio : Nat) (payload : List Byte) : List Byte :=
  let n := 8 + payload.length
  let udp := fun c => be 2 e.srcPort ++ be 2 e.dstPort ++ be 2 n ++ be 2 c
  let addrs := if e.v4 then be 4 e.srcIp ++ be 4 e.dstIp else be 16 e.srcIp ++ be 16 e.dstIp
  let pseudo := addrs ++ (if e.v4 then be 2 17 ++ be 2 n else be 4 n ++ be 4 17)
  let c := checksum (pseudo ++ udp 0 ++ payload)
  let ip4 := fun c => be 1 0x45 ++ be 1 (32 * prio) ++ be 2 (20 + n) ++ be 2 0 ++ be 2 0x4000 ++ be 1 e.hops ++ be 1 17
    ++ be 2 c ++ addrs
  let ip := if e.v4 then ip4 (checksum (ip4 0))
    else be 4 (6 * 2 ^ 28 + 32 * prio * 2 ^ 20 + e.flow) ++ be 2 n ++ be 1 17 ++ be 1 e.hops ++ addrs
  let tag := match e.vlan with | some vid => be 2 0x8100 ++ be 2 (prio * 8192 + vid) | none => []
  let f := be 6 e.dstMac ++ be 6 e.srcMac ++ tag ++ be 2 (if e.v4 then 0x0800 else 0x86DD) ++ ip
    ++ udp (if c = 0 then 65535 else c) ++ payload
  f ++ zeros (60 - f.length)

/-- An endpoint's field as it applies to a frame that starts now: in the window of a commit, the value before it
(R356). -/
def State.epAt (s : State) (p e : Nat) (f : Nat → Nat → Field) : Nat :=
  let x := epF p e f
  if s.win.marks.contains (4, p * 256 + e) then
    match (s.endpoint p e).old.find? (fun o => o.1 = x.addr) with
    | some o => getBits o.2 x.msb x.lsb
    | none => s.live x
  else s.live x

/-- The envelope of an IST frame on a link to an endpoint; 256 for none, on a ring port. -/
def State.istEnvelope (s : State) (l e stream : Nat) : Envelope :=
  let p := portOf l
  let flow := if stream < 8192 then stream else 0
  if l < 256 then
    let v4 := s.epAt p e F.LSN_ENDPOINT_W0_IPV4 = 1
    { dstMac := s.epAt p e F.LSN_ENDPOINT_W0_DEST_MAC, srcMac := s.linkMac l, v4 := v4, flow := flow
      vlan := if s.epAt p e F.LSN_ENDPOINT_W0_VLAN_EN = 1 then some (s.epAt p e F.LSN_ENDPOINT_W1_VID) else none
      srcIp := if v4 then s.get (F.LSN_LINK_IP4_ADDRESS (l / 8) (l % 8)) else s.linkIp6 l
      dstIp := if v4 then s.epAt p e F.LSN_ENDPOINT_W3_DEST_IP % 2 ^ 32
        else s.epAt p e F.LSN_ENDPOINT_W2_DEST_IP * 2 ^ 64 + s.epAt p e F.LSN_ENDPOINT_W3_DEST_IP
      srcPort := s.epAt p e F.LSN_ENDPOINT_W1_UDP_SRC, dstPort := s.epAt p e F.LSN_ENDPOINT_W1_UDP_DST
      hops := s.get (F.LSN_LINK_CFG_HOP_LIMIT (l / 8) (l % 8)) }
  else
    { dstMac := ringMac, srcMac := s.linkMac l, vlan := some 0, srcIp := s.linkIp6 l, dstIp := ringIp, flow := flow
      srcPort := 45810, dstPort := 45810, hops := s.get (F.RNG_CFG_HOP_LIMIT (l - 256)) }

/-- The envelope of a management message on a link. -/
def State.mgmtEnvelope (s : State) (l : Nat) (a : NetAddr) : Envelope :=
  if l < 256 then
    { dstMac := a.mac, srcMac := s.linkMac l, v4 := a.v4, dstIp := a.ip, dstPort := a.port, srcPort := s.mgmtPort l
      srcIp := if a.v4 then s.get (F.LSN_LINK_IP4_ADDRESS (l / 8) (l % 8)) else s.linkIp6 l
      hops := s.get (F.LSN_LINK_CFG_HOP_LIMIT (l / 8) (l % 8)) }
  else { dstMac := ringMac, srcMac := s.linkMac l, srcIp := s.linkIp6 l, dstIp := ringIp, srcPort := 45811, dstPort := 45811
         hops := s.get (F.RNG_CFG_HOP_LIMIT (l - 256)) }

/-- The prefix of R323. -/
def prefixBytes (oflags attempt : Nat) : List Byte := be 1 0x10 ++ be 1 oflags ++ be 2 (min 65535 attempt) ++ zeros 4

/-- The frame that carries an item on a link, without its FCS. A time message is a whole frame already. -/
def State.frameOf (s : State) (l prio : Nat) (i : Item) (oflags attempt : Nat) : List Byte :=
  match i.kind with
  | .sealed | .control | .other =>
    (s.istEnvelope l i.endpoint (if i.kind = .sealed then i.stream else 8192)).frame prio (prefixBytes oflags attempt ++ i.data)
  | .mgmt => (s.mgmtEnvelope l (i.addr.getD ⟨0, false, 0, 0⟩)).frame prio i.data
  | .ptp | .esmc => i.data

end Sys2Proof.Machine
end

