-- ==== Sys2Proof/Machine/Locket.lean ====
section
/-! DEFINITION. Locket's index and its writes: drives and labels, stripes, journal and snapshots, what goes into rings,
windows and spill objects, and what is released (R278 to R300, R305 to R311, R315). -/

namespace Sys2Proof.Machine

/-! ## Formats on the drives -/

def chunkBytes : Nat := 2097152

/-- Octets of a record: header, sealed bytes and padding to 8 bytes (R289). -/
def recOctets (i : Item) : Nat := (24 + i.data.length + 7) / 8 * 8

/-- TIME_FIRST of a sealed frame (R324). -/
def timeFirst (i : Item) : Nat := num i.data 24 8

/-- The bytes of a record (R289). -/
def recBytes (r : StoredRec) : List Byte :=
  let h := be 2 r.item.data.length ++ be 1 r.rkind ++ be 1 (r.prio + 128 * b2n r.gap) ++ be 2 r.item.stream
    ++ be 2 r.object ++ be 8 (timeFirst r.item)
  fit (recOctets r.item) (h ++ be 4 (crc32c h) ++ zeros 4 ++ r.item.data)

/-- The bytes of a data chunk; what its records leave is zero, which RKIND 0x0 marks as unused. -/
def chunkOf (recs : List StoredRec) : List Byte := fit chunkBytes (recs.flatMap recBytes)

/-- Doubling in the field of R285. -/
def gfDouble (x : Byte) : Byte := if x.toNat < 128 then x <<< 1 else (x <<< 1) ^^^ 0x1D

/-- P over data chunks as encrypted (R285). -/
def parityP (chunks : List (List Byte)) : List Byte := chunks.foldl (fun p c => c.zipWith (· ^^^ ·) p) (zeros chunkBytes)

/-- Q over data chunks as encrypted, by Horner's rule (R285). -/
def parityQ (chunks : List (List Byte)) : List Byte :=
  chunks.foldr (fun c q => c.zipWith (fun d x => d ^^^ gfDouble x) q) (zeros chunkBytes)

/-- One LBA as it stands on a drive (R310): the data unit number is LBA + 2^48 × port. -/
def cipherLba (key : List Byte) (port lba : Nat) (plain : List Byte) : List Byte :=
  xts key (lba + 2 ^ 48 * port) (fit 4096 plain)

/-- Consecutive LBAs as they stand on a drive. -/
def cipher (key : List Byte) (port lba : Nat) (plain : List Byte) : List Byte :=
  (List.range ((plain.length + 4095) / 4096)).flatMap (fun i => cipherLba key port (lba + i) (slice plain (4096 * i) 4096))

/-- KEY_CHECK (R311). -/
def keyCheck (key : List Byte) : List Byte := (xts key (2 ^ 64 - 1) (zeros 4096)).take 16

/-- A label's bytes (R283). -/
def labelBytes (l : DriveLabel) : List Byte :=
  let h := be 4 0x4C4B4C42 ++ be 2 1 ++ be 1 (b2n l.guarded) ++ be 1 l.member ++ be 8 l.setId ++ be 2 l.mask
    ++ be 2 l.keyIndex ++ be 4 l.rows ++ be 4 l.windows ++ be 4 l.spills ++ fit 16 l.keyCheck ++ be 6 l.created
    ++ be 2 l.device ++ zeros 4
  fit 4096 (h ++ be 4 (crc32c h))

/-- A journal record's bytes (R295). -/
def journalRecBytes (r : JournalRec) : List Byte :=
  let h := be 8 r.jseq ++ be 1 r.kind ++ be 1 r.chunks ++ be 2 r.map ++ be 4 r.stripe ++ be 2 r.subject ++ be 2 r.aux
    ++ be 4 r.count ++ be 8 r.a ++ be 8 r.b ++ be 8 r.c ++ be 8 r.d ++ zeros 4
  h ++ be 4 (crc32c h)

/-- A block's CRC field and its bytes (R294). -/
def blockParts (b : JournalBlock) : Nat × List Byte :=
  let h := be 4 0x4C4B4A42 ++ be 4 b.recs.length ++ be 8 b.first ++ be 8 b.setId ++ be 8 b.number ++ zeros 28
  let rest := fit 4032 (b.recs.flatMap journalRecBytes)
  let crc := crc32c (h ++ rest)
  (crc, h ++ be 4 crc ++ rest)

/-- Cuts records into groups of 63. -/
def groups63 : Nat → List JournalRec → List (List JournalRec)
  | 0, _ => []
  | n + 1, l => if l.isEmpty then [] else l.take 63 :: groups63 n (l.drop 63)

/-- The blocks of a snapshot: every record has JSEQ = P (R298). -/
def snapshotBlocks (x : Snapshot) : List JournalBlock :=
  (groups63 x.recs.length x.recs).zipIdx.map (fun e => { number := e.2, first := x.point, setId := x.setId, recs := e.1 })

/-- A snapshot slot's bytes (R299). -/
def snapshotBytes (x : Snapshot) : List Byte :=
  let blocks := (snapshotBlocks x).map blockParts
  let h := be 4 0x4C4B5348 ++ be 4 blocks.length ++ be 8 x.point ++ be 8 x.setId ++ be 8 x.generation ++ be 8 x.next
    ++ be 4 (crc32c (blocks.flatMap (fun b => be 4 b.1))) ++ zeros 16
  fit 4096 (h ++ be 4 (crc32c h)) ++ blocks.flatMap (·.2)

/-! ## Ports and members -/

/-- A store bay. -/
def State.bay (s : State) (q : Nat) : Bay := Sparse.get (fun _ => ({} : Bay)) s.keep.bays q

/-- Changes a store bay. -/
def onBay (q : Nat) (f : Bay → Bay) : Act := .look fun s =>
  let v := f (s.bay q)
  .keep fun k => { k with bays := Sparse.set (fun _ => ({} : Bay)) k.bays q v }

/-- Changes the content of the drive in a bay. -/
def onDrive (q : Nat) (f : StoreDrive → StoreDrive) : Act := onBay q (fun b => { b with drive := b.drive.map f })

/-- Changes Locket's own state. -/
def onStore (f : Store → Store) : Act := .units fun u => { u with store := f u.store }

/-- STATE of a store port. -/
def State.portState (s : State) (q : Nat) : Nat := s.get (F.LKT_PORT_STATUS_STATE q)

/-- STATE of the store. -/
def State.storeState (s : State) : Nat := s.get F.LKT_STATUS_STATE

/-- Member ports of the set. -/
def State.members (s : State) : List Nat := (List.range 16).filter (fun q => (s.get F.LKT_GEOMETRY_MEMBER_MASK).testBit q)

/-- The member takes part in writes: ONLINE or REBUILDING. -/
def State.working (s : State) (q : Nat) : Bool := s.portState q = 2 || s.portState q = 7

/-- A later command of this window makes a member unavailable (R316). -/
def State.leaving (s : State) (q : Nat) : Bool := s.pending.any (fun c => match c with
  | .drivePresenceChange p => p = q
  | .storeLinkDown p => p = q
  | .driveFailed p _ => p = q
  | _ => false)

/-- The members that take part in writes. -/
def State.workers (s : State) : List Nat := s.members.filter s.working

/-- Drives are present and may be written: R281. -/
def compatible (d : StoreDrive) : Bool := d.good && decide (d.lbas ≥ 2097152)

/-- One write of whole LBAs to a drive, with its counters; what it writes is sound again. -/
def driveWrite (q lba : Nat) (bytes : List Byte) (octets : Nat) : Act := Act.all [
  .emit (.drive q lba bytes),
  onDrive q (fun d => { d with corrupt := d.corrupt.filter (fun b => decide (b < lba) || decide (b ≥ lba + (octets + 4095) / 4096)) }),
  count (F.LKT_PORT_COMMANDS_C q),
  countBy (F.LKT_PORT_BYTES_WRITTEN_C q) octets,
  countBy F.LKT_DEVICE_BYTES_WRITTEN_C octets]

/-- A Flush on a drive. -/
def driveFlush (q : Nat) : Act := count (F.LKT_PORT_COMMANDS_C q)

/-- STATE while the store runs, from its members (R301, R305, R306). -/
def State.runState (s : State) : Nat :=
  let out := (s.members.filter (fun q => !s.working q)).length
  if s.workers.isEmpty || (s.units.store.guarded && decide (out > 2)) then 5
  else if s.members.all (fun q => s.portState q = 2) then 3 else 4

/-- Brings STATE up to date. -/
def refreshState : Act := .look fun s =>
  Act.when (decide (3 ≤ s.storeState) && decide (s.storeState ≤ 5)) (put F.LKT_STATUS_STATE s.runState)

/-! ## Journal (R293 to R297) -/

/-- Shows the live journal (LKT_JOURNAL). -/
def refreshJournal : Act := .look fun s =>
  put F.LKT_JOURNAL_LIVE_BLOCKS (min 1048576 (s.units.store.nextBlock - s.units.store.snapNext))

/-- Places a record in the journal under the next JSEQ. -/
def journal (r : JournalRec) : Act := .look fun s => onStore (fun x => { x with
  jseq := x.jseq + 1
  records := x.records ++ [{ r with jseq := x.jseq + 1 }]
  recordsSince := if x.records.isEmpty then s.keep.elapsed else x.recordsSince })

/-- Writes the next block from the records placed. -/
def writeBlock : Act := .look fun s =>
  let x := s.units.store
  match x.records.take 63 with
  | [] => .skip
  | r :: rs =>
    let b : JournalBlock := { number := x.nextBlock, first := r.jseq, recs := r :: rs,
                              setId := (x.label.map (·.setId)).getD 0 }
    let lba := 256 + x.nextBlock % 1048576
    Act.all [
      Act.each s.workers (fun q => driveWrite q lba (cipher x.key q lba (blockParts b).2) 4096),
      onStore (fun x => { x with
        nextBlock := x.nextBlock + 1, records := x.records.drop 63, recordsSince := s.keep.elapsed
        flight := x.flight ++ [b] }),
      refreshJournal]

/-- Writes every record placed. -/
def writeBlocks : Act := .look fun s => Act.each (List.range (s.units.store.records.length / 63 + 1)) (fun _ => writeBlock)

/-- The release record of a stripe is not yet durable (R293). -/
def Store.releasing (x : Store) (stripe : Nat) : Bool :=
  (x.records ++ x.flight.flatMap (·.recs)).any (fun r => (r.kind = 2 || r.kind = 4) && r.stripe = stripe)

/-! ## Members and rebuilds (R305 to R309), stripes released -/

/-- A member's port takes a state, with its Member record (R296, 0x0A). -/
def memberState (q state : Nat) : Act := .seq (put (F.LKT_PORT_STATUS_STATE q) state)
  (.look fun s => Act.when (s.members.contains q && decide (3 ≤ s.storeState) && decide (s.storeState ≤ 5))
    (journal { kind := 10, subject := q, aux := state }))

/-- A stripe still to be rebuilt on a member: its map omits the port, where a used chunk of it lies (R308). -/
def Store.toRebuild (x : Store) (q : Nat) (l : LiveStripe) : Bool :=
  x.guarded && !l.map.testBit q && decide ((q + 32 - l.stripe % 16) % 16 < 2 + l.chunks)

/-- Shows a port's rebuild (LKT_PORT_REBUILD). -/
def refreshRebuild (q : Nat) : Act := .look fun s =>
  put (F.LKT_PORT_REBUILD_STRIPES_LEFT q) (s.units.store.live.filter (s.units.store.toRebuild q)).length

/-- A rebuild with nothing left ends ONLINE (R309). -/
def finishRebuild (q : Nat) : Act := .look fun s =>
  Act.when (s.portState q = 7 && !s.units.store.live.any (s.units.store.toRebuild q)) (memberState q 2)

/-- A member returns or is adopted (R308). -/
def memberReturns (q : Nat) : Act := .look fun s =>
  if s.units.store.guarded then Act.all [
    memberState q 7, put (F.LKT_PORT_REBUILD_STRIPES_DONE q) 0, refreshRebuild q, finishRebuild q, refreshState]
  else .seq (memberState q 2) refreshState

/-- Brings every rebuild up to date: one that has nothing left ends. -/
def refreshRebuilds : Act := .look fun s =>
  let busy := s.members.filter (fun q => s.portState q = 7)
  Act.when (!busy.isEmpty) (.seq (Act.each busy (fun q => .seq (refreshRebuild q) (finishRebuild q))) refreshState)

/-- Releases a stripe of the index, with its release record (R296, 0x02 and 0x04). -/
def dropLive (l : LiveStripe) : Act := Act.all [
  onStore (fun x => { x with live := x.live.erase l }),
  journal (if l.pool = 0 then { kind := 2, stripe := l.stripe, subject := l.subject }
    else { kind := 4, stripe := l.stripe, subject := l.pool - 1 }),
  refreshRebuilds]

/-- Frees the spill stripes whose every record is released (R292). -/
def freeSpill : Act := .look fun s =>
  let x := s.units.store
  let used := fun n => x.spill.any (fun e => e.2.ranges.any (fun r => r.stripe = n))
  Act.each (x.live.filter (fun l => l.pool = 2 && !used l.stripe)) dropLive

/-! ## Stripes (R284 to R286) -/

/-- Ports of the data chunks of a stripe that is opened now. -/
def State.dataPorts (s : State) (stripe : Nat) : List Nat :=
  if s.units.store.guarded then (List.range 14).map (fun i => (stripe + 2 + i) % 16) else s.workers

/-- Port of data chunk `i` of a stripe in the index. -/
def Store.chunkPort (x : Store) (l : LiveStripe) (i : Nat) : Nat :=
  if x.guarded then (l.stripe + 2 + i) % 16 else ((List.range 16).filter (fun q => l.map.testBit q)).getD i 16

/-- Octets that records take. -/
def octetsOf (recs : List StoredRec) : Nat := (recs.map (fun r => recOctets r.item)).sum

/-- Adds a record to a stripe being filled: it crosses no chunk boundary (R289). `none`: the stripe is full. -/
def OpenStripe.add (o : OpenStripe) (r : StoredRec) : Option OpenStripe :=
  match o.chunks.getLast? with
  | some c =>
    if octetsOf c + recOctets r.item ≤ chunkBytes then some { o with chunks := o.chunks.dropLast ++ [c ++ [r]] }
    else if o.chunks.length < o.ports.length then some { o with chunks := o.chunks ++ [[r]] } else none
  | none => if o.ports.isEmpty then none else some { o with chunks := [[r]] }

/-- Byte offset of the end of what a stripe holds. -/
def OpenStripe.stop (o : OpenStripe) : Nat := (o.chunks.length - 1) * chunkBytes + octetsOf (o.chunks.getLast?.getD [])

/-- The records of a stripe being filled with their offsets. -/
def offsets : List (List StoredRec) → Nat → List (Nat × StoredRec)
  | [], _ => []
  | c :: cs, base =>
    (c.foldl (fun (a : List (Nat × StoredRec) × Nat) r => (a.1 ++ [(a.2, r)], a.2 + recOctets r.item)) ([], base)).1
      ++ offsets cs (base + chunkBytes)

/-- Stripes in use, by pool. -/
def Store.held (x : Store) (pool : Nat) : Nat :=
  (x.live.filter (fun l => l.pool = pool)).length + ((x.opens ++ x.closing).filter (fun o => o.pool = pool)).length

/-- The lowest stripe that nothing holds. -/
def Store.lowestFree (x : Store) : Nat :=
  let used := x.live.map (·.stripe) ++ (x.opens ++ x.closing).map (·.stripe)
  ((List.range (used.length + 1)).find? (fun n => !used.contains n)).getD 0

/-- Stripes of a pool of the set (R290 to R292). -/
def State.poolSize (s : State) (pool : Nat) : Nat :=
  match pool with
  | 0 => s.get F.LKT_GEOMETRY_ROWS - s.units.store.windowPool - s.units.store.spillPool
  | 1 => s.units.store.windowPool
  | _ => s.units.store.spillPool

/-- The records of a spill object or window among records with offsets. -/
def ofObject (rkind object : Nat) (l : List (Nat × StoredRec)) : List (Nat × StoredRec) :=
  l.filter (fun e => e.2.rkind = rkind && e.2.object = object)

/-- The spill range records of a stripe (R296, 0x08). -/
def spillRanges (o : OpenStripe) : List JournalRec :=
  let l := offsets o.chunks 0
  let objects := l.foldl (fun a e => if a.contains e.2.object then a else a ++ [e.2.object]) []
  objects.map (fun ob =>
    let mine := ofObject 3 ob l
    let last := mine.getLast?.map (fun e => e.1 + recOctets e.2.item)
    { kind := 8, stripe := o.stripe, subject := ob, count := mine.length, a := (mine.head?.map (·.1)).getD 0,
      b := last.getD 0 })

/-- Shows what a stream's ring holds (LKT_STREAM_SPAN, LKT_STREAM_HELD). -/
def showRing (st : Nat) : Act := .look fun s =>
  let x := s.units.store
  let mine := x.live.filter (fun l => l.pool = 0 && l.subject = st)
  let filling := ((x.opens ++ x.closing).filter (fun o => o.pool = 0 && o.subject = st)).length
  let least := mine.foldl (fun a l => match a with | none => some l.a | some t => some (if dif l.a t < 0 then l.a else t)) none
  let most := mine.foldl (fun a l => match a with | none => some l.b | some t => some (if dif l.b t > 0 then l.b else t)) none
  Act.all [
    put (F.LKT_STREAM_SPAN_TIME st 0) (least.getD 0),
    put (F.LKT_STREAM_SPAN_TIME st 1) (most.getD 0),
    put (F.LKT_STREAM_HELD_STRIPES st) (mine.length + filling)]

/-- The times of a stripe's frames, least and greatest. -/
def spanOf (recs : List StoredRec) : Nat × Nat :=
  let t := recs.map (fun r => timeFirst r.item)
  (t.foldl (fun a x => if dif x a < 0 then x else a) (t.headD 0), t.foldl (fun a x => if dif x a > 0 then x else a) (t.headD 0))

/-- Frames and octets of a stripe by stream, under the JSEQ of its record. -/
def stored (jseq : Nat) (recs : List StoredRec) : List (Nat × Nat × Nat × Nat) :=
  recs.foldl (fun a r => match a.find? (fun e => e.2.1 = r.item.stream) with
    | some e => a.map (fun y => if y = e then (jseq, r.item.stream, e.2.2.1 + 1, e.2.2.2 + recOctets r.item) else y)
    | none => a ++ [(jseq, r.item.stream, 1, recOctets r.item)]) []

/-- The record of a stripe (R296, 0x01 and 0x03). -/
def LiveStripe.record (l : LiveStripe) : JournalRec :=
  if l.pool = 0 then { kind := 1, chunks := l.chunks, map := l.map, stripe := l.stripe, subject := l.subject,
                       count := l.count, a := l.a, b := l.b, c := l.octets }
  else { kind := 3, chunks := l.chunks, map := l.map, stripe := l.stripe, subject := l.pool - 1, count := l.count, c := l.octets }

/-- A byte offset in a stripe once the chunks in `gone` are left out of it. -/
def shiftOffset (gone : List Nat) (off : Nat) : Nat :=
  let k := off / chunkBytes
  (k - (gone.filter (fun i => decide (i < k))).length) * chunkBytes + (if gone.contains k then 0 else off % chunkBytes)

/-- A journal record with its offsets into stripe `n` moved. -/
def JournalRec.shift (gone : List Nat) (n : Nat) (r : JournalRec) : JournalRec :=
  if (r.kind = 5 || r.kind = 6) && r.stripe = n then { r with c := shiftOffset gone r.c } else r

/-- A list without the entries at some places. -/
def without {α : Type} (gone : List Nat) (l : List α) : List α := (l.zipIdx.filter (fun e => !gone.contains e.2)).map (·.1)

/-- Leaves data chunks out of a stripe of the plain layout: the data chunks are those of the members named in its map
(R284, R316), so what refers to a later chunk moves. -/
def leaveOut (gone : List Nat) (o : OpenStripe) : Act :=
  let place := fun p : Nat × Nat => if p.1 = o.stripe then (p.1, shiftOffset gone p.2) else p
  onStore (fun x => { x with
    windows := x.windows.map (fun e => (e.1, e.2.map (fun w => { w with first := place w.first, last := place w.last })))
    engines := x.engines.map (fun e => (e.1, e.2.map (fun g => { g with first := place g.first, last := place g.last })))
    spill := x.spill.map (fun e => (e.1, { e.2 with ranges := e.2.ranges.map (fun r =>
      if r.stripe = o.stripe then { r with a := shiftOffset gone r.a, b := shiftOffset gone r.b } else r) })) })

/-- Writes a closed stripe: data and parity chunks, a Flush on each member concerned, then its record and those that refer
to it (R284 to R286, R293, R296, R306, R316). A spill range counts the frames of a chunk left out too: they are lost when
it is read (R307). -/
def writeChunks (o : OpenStripe) (ranges : List JournalRec) : Act := .look fun s =>
  let x := s.units.store
  let n := o.chunks.length
  let up := fun q => s.working q && !s.leaving q
  let data := (List.range n).filter (fun i => up (o.ports.getD i 16))
  let pq := if x.guarded then [o.stripe % 16, (o.stripe + 1) % 16].filter up else []
  let map := (data.map (fun i => o.ports.getD i 16) ++ pq).foldl (fun m q => m + 2 ^ q) 0
  let recs := o.chunks.flatten
  let span := spanOf recs
  let lba := 1573120 + 512 * o.stripe
  let enc := fun i => cipher x.key (o.ports.getD i 16) lba (chunkOf (o.chunks.getD i []))
  let live : LiveStripe := {
    stripe := o.stripe, pool := o.pool, subject := o.subject, chunks := n, map := map
    count := recs.length, a := span.1, b := span.2, octets := octetsOf recs }
  let put' := fun q c => Act.seq (onDrive q (fun d => { d with chunks := Sparse.set (fun _ => none) d.chunks o.stripe (some c) }))
    (driveFlush q)
  Act.all [
    Act.each data (fun i => .seq (driveWrite (o.ports.getD i 16) lba (enc i) chunkBytes)
      (put' (o.ports.getD i 16) (.data (o.chunks.getD i [])))),
    Act.each pq (fun q =>
      .seq (driveWrite q lba (if q = o.stripe % 16 then parityP ((List.range n).map enc) else parityQ ((List.range n).map enc))
        chunkBytes) (put' q (.parity o.chunks))),
    journal live.record,
    .look (fun s => onStore (fun y => { y with
      live := y.live ++ [live], awaiting := y.awaiting ++ stored s.units.store.jseq recs })),
    Act.each ranges journal,
    Act.each o.extra journal,
    Act.when (o.pool = 0) (showRing o.subject),
    Act.when (o.pool = 2) freeSpill]

/-- Writes a full or closed stripe. In the plain layout the chunks of members that are unavailable, or become so in the
same window, are lost (R307, R316). -/
def writeStripe (o : OpenStripe) : Act := .look fun s =>
  let gone := (List.range o.chunks.length).filter (fun i =>
    !s.working (o.ports.getD i 16) || s.leaving (o.ports.getD i 16))
  let ranges := if o.pool = 2 then spillRanges o else []
  if s.units.store.guarded || gone.isEmpty then writeChunks o ranges
  else Act.all [
    countBy F.LKT_DEVICE_LOST_CHUNKS_C gone.length,
    leaveOut gone o,
    writeChunks { o with chunks := without gone o.chunks, ports := without gone o.ports, extra := o.extra.map (JournalRec.shift gone o.stripe) }
      (ranges.map (fun r => { r with a := shiftOffset gone r.a, b := shiftOffset gone r.b }))]

/-- A stripe that waits to be written may be: its release record is durable, and no earlier stripe of the same ring or log
waits (R290, R293). -/
def Store.writable (x : Store) : Option OpenStripe :=
  x.closing.find? (fun o => !x.releasing o.stripe
    && (x.closing.takeWhile (fun p => decide (p ≠ o))).all (fun p => !(p.pool = o.pool && p.subject = o.subject)))

/-- Writes the stripes that may be written, of at most `n`. -/
def writeClosing : Nat → Act
  | 0 => .skip
  | n + 1 => .look fun s => match s.units.store.writable with
    | some o => Act.all [onStore (fun x => { x with closing := x.closing.erase o }), writeStripe o, writeClosing n]
    | none => .skip

/-- Closes a stripe being filled: its unused remainder is padding; it waits while its release record is not durable, or an
earlier stripe of its ring or log waits (R290, R293). -/
def closeStripe (o : OpenStripe) : Act := .seq (onStore (fun x => { x with opens := x.opens.erase o }))
  (if o.chunks.isEmpty then .skip
   else Act.all [
    countBy F.LKT_DEVICE_PAD_BYTES_C (o.ports.length * chunkBytes - octetsOf o.chunks.flatten),
    onStore (fun x => { x with closing := x.closing ++ [o] }),
    .look fun s => writeClosing s.units.store.closing.length])

/-! ## Durability (R297) and compaction (R298, R299) -/

/-- The oldest block in flight is durable. -/
def blockDurable : Act := .look fun s =>
  let x := s.units.store
  match x.flight with
  | [] => .skip
  | b :: rest =>
    let last := b.first + b.recs.length - 1
    Act.all [
      Act.each s.workers (fun q => onDrive q (fun d => { d with
        journal := Sparse.set (fun _ => ({} : JournalBlock)) d.journal (b.number % 1048576) b })),
      onStore (fun y => { y with flight := rest, awaiting := y.awaiting.filter (fun e => decide (e.1 > last)) }),
      Act.each (x.awaiting.filter (fun e => decide (e.1 ≤ last))) (fun e =>
        .seq (countBy (F.LKT_STREAM_FRAMES_STORED_C e.2.1) e.2.2.1) (countBy (F.LKT_STREAM_OCTETS_STORED_C e.2.1) e.2.2.2)),
      .look fun s => writeClosing s.units.store.closing.length]

/-- The windows in the store with their numbers, in the order in which they opened. -/
def Store.windowList (x : Store) : List (Nat × StoreWindow) :=
  let l := x.windows.filterMap (fun e => e.2.map (fun w => (e.1, w)))
  l.foldl (fun acc e => acc.filter (fun g => decide (g.2.order ≤ e.2.order)) ++ [e]
    ++ acc.filter (fun g => decide (g.2.order > e.2.order))) []

/-- Records that give the index when applied in order to an empty one (R298). -/
def State.indexRecords (s : State) (point : Nat) : List JournalRec :=
  let x := s.units.store
  let isLive := fun n => x.live.any (fun l => l.stripe = n)
  let windows := x.windowList.flatMap (fun e =>
    let w := e.2
    if !isLive w.first.1 then []
    else
      let g := fun f : Nat → Field => s.get (f e.1)
      [({ kind := 5, stripe := w.first.1, subject := e.1, aux := g F.LKT_WINDOW_W0_STREAM, a := g F.LKT_WINDOW_W1_VALUE,
            b := g F.LKT_WINDOW_W0_ORIGIN_DEVICE * 65536 + g F.LKT_WINDOW_W0_ORIGIN_SEQ, c := w.first.2 } : JournalRec)]
      ++ (if g F.LKT_WINDOW_W0_STATE = 2 && isLive w.last.1 then
            [{ kind := 6, stripe := w.last.1, subject := e.1, count := g F.LKT_WINDOW_W4_VALUE,
               a := g F.LKT_WINDOW_W2_VALUE, b := g F.LKT_WINDOW_W3_VALUE, c := w.last.2,
               d := g F.LKT_WINDOW_W0_INCOMPLETE }] else [])
      ++ (if g F.LKT_WINDOW_W0_LOCK = 1 then [{ kind := 7, subject := e.1, aux := 1 }] else []))
  let spill := x.spill.flatMap (fun e =>
    (e.2.ranges.filter (fun r => isLive r.stripe)).map (fun r =>
      ({ kind := 8, stripe := r.stripe, subject := e.1, count := r.count, a := r.a, b := r.b } : JournalRec))
      ++ (if e.2.gone > e.2.base && (e.2.ranges.head?.any (fun r => isLive r.stripe))
          then [{ kind := 9, subject := e.1, count := e.2.gone - e.2.base }] else []))
  let members := s.members.map (fun q => ({ kind := 10, subject := q, aux := s.portState q } : JournalRec))
  (x.live.map LiveStripe.record ++ windows ++ spill ++ members).map (fun r => { r with jseq := point })

/-- Starts a compaction (R298, steps 1 and 2): the records placed so far go into blocks at or before P. -/
def startCompaction (forced : Bool) : Act := .seq writeBlocks (.look fun s =>
  let x := s.units.store
  onStore (fun y => { y with compaction := some ({
    generation := x.generation + 1, point := x.jseq, next := x.nextBlock, setId := (x.label.map (·.setId)).getD 0,
    recs := s.indexRecords x.jseq }, forced) }))

/-- A compaction begins by itself when the live journal is half full. -/
def autoCompact : Act := .look fun s =>
  let x := s.units.store
  Act.when (x.compaction.isNone && decide (x.nextBlock - x.snapNext ≥ 524288)) (startCompaction false)

/-- Writes a snapshot slot of one member (R299). -/
def snapshotTo (slotB : Bool) (x : Snapshot) (q : Nat) : Act := .look fun s =>
  let lba := if slotB then 1310976 else 1048832
  .seq (driveWrite q lba (cipher s.units.store.key q lba (snapshotBytes x)) (4096 * (1 + (x.recs.length + 62) / 63)))
    (onDrive q (fun d => if slotB then { d with slotB := some x } else { d with slotA := some x }))

/-- Writes a snapshot slot on every member (R298, R299). -/
def writeSnapshot (slotB : Bool) (x : Snapshot) : Act := .look fun s => Act.each s.workers (snapshotTo slotB x)

/-! ## Members that are lost (R305 to R307) -/

/-- What a working member holds in a row. -/
def State.onDisk (s : State) (q row : Nat) : Option StoredChunk :=
  if s.working q then match (s.bay q).drive with
    | some d => Sparse.get (fun _ => none) d.chunks row
    | none => none
  else none

/-- A member becomes unavailable (R305 to R307); a port that is no member only shows it. -/
def memberLost (q state : Nat) : Act := .look fun s =>
  let x := s.units.store
  if s.members.contains q then Act.all [
    Act.when (!x.guarded && s.working q)
      (countBy F.LKT_DEVICE_LOST_CHUNKS_C (x.live.filter (fun l => l.map.testBit q && (s.onDisk q l.stripe).isSome)).length),
    memberState q state, refreshState]
  else put (F.LKT_PORT_STATUS_STATE q) (if state = 3 then 0 else state)

/-! ## Reading back (R306, R307) -/

/-- A data chunk as a member holds it. -/
def State.directChunk (s : State) (l : LiveStripe) (i : Nat) : Option (List StoredRec) :=
  let q := s.units.store.chunkPort l i
  if l.map.testBit q then match s.onDisk q l.stripe with | some (.data c) => some c | _ => none else none

/-- The parity of a stripe as a member holds it. -/
def State.parityChunks (s : State) (l : LiveStripe) (q : Nat) : Option (List (List StoredRec)) :=
  if l.map.testBit q then match s.onDisk q l.stripe with | some (.parity c) => some c | _ => none else none

/-- A data chunk as a member holds it, or reconstructed when at most two of its stripe's chunks are missing; and
whether it was reconstructed. -/
def State.readChunk (s : State) (l : LiveStripe) (i : Nat) : Option (List StoredRec × Bool) :=
  match s.directChunk l i with
  | some c => some (c, false)
  | none =>
    if !s.units.store.guarded then none
    else
      let ps := [s.parityChunks l (l.stripe % 16), s.parityChunks l ((l.stripe + 1) % 16)]
      let missing := (ps.filter Option.isNone).length
        + ((List.range l.chunks).filter (fun j => (s.directChunk l j).isNone)).length
      if missing > 2 then none
      else match ps.filterMap id with
        | c :: _ => some (c.getD i [], true)
        | [] => none

/-- The records of a live stripe that can be read, with offsets, and the chunks reconstructed for it. -/
def State.readStripe (s : State) (l : LiveStripe) : List (Nat × StoredRec) × Nat :=
  let cs := (List.range l.chunks).map (fun i => s.readChunk l i)
  (offsets (cs.map (fun c => (c.map (·.1)).getD [])) 0,
    (cs.filter (fun c => match c with | some (_, r) => r | none => false)).length)

/-- The records of a stripe, being filled or on the drives. -/
def State.stripeRecords (s : State) (stripe : Nat) : List (Nat × StoredRec) :=
  let x := s.units.store
  match (x.opens ++ x.closing).find? (fun o => o.stripe = stripe) with
  | some o => offsets o.chunks 0
  | none => match x.live.find? (fun l => l.stripe = stripe) with
    | some l => (s.readStripe l).1
    | none => []

/-! ## Rings (R290) -/

/-- Replaces the stripe being filled for a pool and subject. -/
def setOpen (o : OpenStripe) : Act := onStore (fun x => { x with
  opens := x.opens.filter (fun p => !(p.pool = o.pool && p.subject = o.subject)) ++ [o] })

/-- The stripe being filled for a pool and subject. -/
def Store.openFor (x : Store) (pool subject : Nat) : Option OpenStripe :=
  x.opens.find? (fun o => o.pool = pool && o.subject = subject)

/-- A new stripe to fill. -/
def State.newStripe (s : State) (pool subject stripe : Nat) : OpenStripe :=
  { stripe := stripe, pool := pool, subject := subject, ports := s.dataPorts stripe, chunks := [], since := s.keep.elapsed }

/-- Releases a ring stripe (R290). -/
def releaseRing (l : LiveStripe) : Act := .seq (dropLive l) (count (F.LKT_STREAM_STRIPES_RELEASED_C l.subject))

/-- Releases a ring stripe that has not been written, so that no record refers to it. -/
def releaseUnwritten (o : OpenStripe) : Act := .seq
  (onStore (fun x => { x with opens := x.opens.erase o, closing := x.closing.erase o }))
  (count (F.LKT_STREAM_STRIPES_RELEASED_C o.subject))

/-- A frame dropped at the store destination only (R288, R290 to R292). -/
def storeDrop (why : Field) (i : Item) : Act :=
  .seq (count why) (Act.when (decide (i.stream < 8192)) (count (F.LKT_STREAM_FRAMES_DROPPED_C i.stream)))

/-- The next stripe of a ring, with its first record; `none` in turn when the ring can have none. -/
def openRing (st : Nat) (r : StoredRec) : Act := .look fun s =>
  let x := s.units.store
  let held := (x.live.filter (fun l => l.pool = 0 && l.subject = st)).length
    + (x.closing.filter (fun o => o.pool = 0 && o.subject = st)).length
  let start := fun stripe => match (s.newStripe 0 st stripe).add r with
    | some o => .seq (setOpen o) (showRing st)
    | none => storeDrop F.LKT_DEVICE_NO_RING_C r.item
  if held < s.get (F.LKT_STREAM_CFG_RING_STRIPES st) ∧ x.held 0 < s.poolSize 0 then start x.lowestFree
  else match x.live.find? (fun l => l.pool = 0 && l.subject = st) with
    | some l => .seq (releaseRing l) (start l.stripe)
    | none => match x.closing.find? (fun o => o.pool = 0 && o.subject = st) with
      | some o => .seq (releaseUnwritten o) (start o.stripe)
      | none => storeDrop F.LKT_DEVICE_NO_RING_C r.item

/-- A frame for its stream's ring. -/
def storeRing (prio : Nat) (i : Item) : Act := .look fun s =>
  let st := i.stream
  let r : StoredRec := { rkind := 1, prio := prio, item := i }
  if s.get (F.LKT_STREAM_CFG_RING_STRIPES st) = 0 then storeDrop F.LKT_DEVICE_NO_RING_C i
  else match s.units.store.openFor 0 st with
    | some o => match o.add r with
      | some o' => setOpen o'
      | none => .seq (closeStripe o) (openRing st r)
    | none => openRing st r

/-- Releases the oldest stripes of a ring above its quota: written, waiting to be written, and being filled (R290). -/
def trimRing (st : Nat) : Act := .look fun s =>
  let x := s.units.store
  let mine := x.live.filter (fun l => l.pool = 0 && l.subject = st)
  let filling := (x.closing ++ x.opens).filter (fun o => o.pool = 0 && o.subject = st)
  let surplus := mine.length + filling.length - s.get (F.LKT_STREAM_CFG_RING_STRIPES st)
  Act.all [
    Act.each (mine.take surplus) releaseRing,
    Act.each (filling.take (surplus - mine.length)) releaseUnwritten,
    showRing st]

/-- Sum of RING_STRIPES over all streams with stream `st` at `v`. -/
def State.ringSum (s : State) (st v : Nat) : Nat :=
  ((List.range 8192).map (fun i => if i = st then v else s.get (F.LKT_STREAM_CFG_RING_STRIPES i))).sum

/-! ## Windows (R291) -/

/-- A window's own state. -/
def Store.window (x : Store) (w : Nat) : Option StoreWindow := Sparse.get (fun _ => none) x.windows w

/-- Replaces a window's own state. -/
def setWindow (w : Nat) (v : Option StoreWindow) : Act :=
  onStore (fun x => { x with windows := Sparse.set (fun _ => none) x.windows w v })

/-- LOCK of a window: a write of it later in this window of time counts first (R316). -/
def State.windowLock (s : State) (w : Nat) : Bool :=
  match (s.asked (F.LKT_WINDOW_W0_LOCK w)).getLast? with
  | some (_, v) => v = 1
  | none => s.is (F.LKT_WINDOW_W0_LOCK w)

/-- A record that refers to a stripe: placed with the stripe while it is being filled, else at once (R293). -/
def refer (stripe : Nat) (r : JournalRec) : Act := .look fun s =>
  let x := s.units.store
  if x.opens.any (fun o => o.stripe = stripe) || x.closing.any (fun o => o.stripe = stripe) then
    onStore (fun y => { y with
      opens := y.opens.map (fun o => if o.stripe = stripe then { o with extra := o.extra ++ [r] } else o)
      closing := y.closing.map (fun o => if o.stripe = stripe then { o with extra := o.extra ++ [r] } else o) })
  else journal r

/-- Releases a window: its entry is free. -/
def freeWindow (w : Nat) : Act := .look fun s => Act.all [
  (match s.units.store.window w with
    | some x => refer x.last.1 { kind := 7, subject := w, aux := 2 }
    | none => .skip),
  setWindow w none,
  .reg (F.LKT_WINDOW_W0_STATE w).addr 0,
  .reg (F.LKT_WINDOW_W1_VALUE w).addr 0,
  .reg (F.LKT_WINDOW_W2_VALUE w).addr 0,
  .reg (F.LKT_WINDOW_W3_VALUE w).addr 0,
  .reg (F.LKT_WINDOW_W4_VALUE w).addr 0,
  .reg (F.LKT_WINDOW_W5_VALUE w).addr 0]

/-- The oldest closed window that is not locked. -/
def State.oldestClosed (s : State) : Option Nat :=
  ((s.units.store.windowList.filter (fun e => s.get (F.LKT_WINDOW_W0_STATE e.1) = 2 && !s.windowLock e.1)).head?).map (·.1)

/-- The stripe the window log may take: a free one of its pool, else the oldest, written or waiting to be, that holds no
record of an open or locked window, with the windows released for it (R291). -/
def State.windowStripe (s : State) : Option (Nat × Act) :=
  let x := s.units.store
  let kept := fun n => x.windowList.any (fun e =>
    e.2.stripes.contains n && (s.get (F.LKT_WINDOW_W0_STATE e.1) = 1 || s.windowLock e.1))
  let release := fun n => Act.each (x.windowList.filter (fun e => e.2.stripes.contains n)) (fun e => freeWindow e.1)
  if x.held 1 < s.poolSize 1 then some (x.lowestFree, .skip)
  else match x.live.find? (fun l => l.pool = 1 && !kept l.stripe) with
    | some l => some (l.stripe, .seq (release l.stripe) (dropLive l))
    | none => (x.closing.find? (fun o => o.pool = 1 && !kept o.stripe)).map (fun o =>
        (o.stripe, .seq (onStore (fun y => { y with closing := y.closing.erase o })) (release o.stripe)))

/-- Puts a record into the window log: the stripe it got, or `none`, and what the log does for it. A stripe that is full
closes first. -/
def State.logPlace (s : State) (r : StoredRec) : Option OpenStripe × Act :=
  let fresh := fun (pre : Act) =>
    let t := pre.run s
    match t.windowStripe with
    | some (n, a) => match (t.newStripe 1 0 n).add r with
      | some o => (some o, Act.all [pre, a, setOpen o])
      | none => (none, pre)
    | none => (none, pre)
  match s.units.store.openFor 1 0 with
  | some o => match o.add r with
    | some o' => (some o', setOpen o')
    | none => fresh (closeStripe o)
  | none => fresh .skip

/-- Counts a frame into its window. -/
def windowGrows (w : Nat) (o : OpenStripe) (i : Item) : Act := .look fun s => Act.all [
  put (F.LKT_WINDOW_W4_VALUE w) (s.get (F.LKT_WINDOW_W4_VALUE w) + 1),
  put (F.LKT_WINDOW_W5_VALUE w) (s.get (F.LKT_WINDOW_W5_VALUE w) + recOctets i),
  (match s.units.store.window w with
    | some x => setWindow w (some { x with
        last := (o.stripe, o.stop), stripes := if x.stripes.contains o.stripe then x.stripes else x.stripes ++ [o.stripe] })
    | none => .skip)]

/-- Closes a window (R291, R296, 0x06). -/
def closeWindow (w : Nat) (m : WinMark) : Act := .look fun s =>
  match s.units.store.window w with
  | none => .skip
  | some x => Act.all [
      put (F.LKT_WINDOW_W0_STATE w) 2,
      put (F.LKT_WINDOW_W0_INCOMPLETE w) (b2n x.dropping),
      put (F.LKT_WINDOW_W2_VALUE w) m.start,
      put (F.LKT_WINDOW_W3_VALUE w) m.stop,
      .look (fun s => refer x.last.1 { kind := 6, stripe := x.last.1, subject := w, count := s.get (F.LKT_WINDOW_W4_VALUE w),
                                       a := m.start, b := m.stop, c := x.last.2, d := b2n x.dropping })]

/-- The window that is open for a readout stream. -/
def State.windowOf (s : State) (st : Nat) : Option Nat :=
  (s.units.store.windowList.find? (fun e =>
    s.get (F.LKT_WINDOW_W0_STATE e.1) = 1 && s.get (F.LKT_WINDOW_W0_STREAM e.1) = st)).map (·.1)

/-- A frame of an open window. -/
def windowFrame (w prio : Nat) (i : Item) : Act := .look fun s =>
  let dropping := match s.units.store.window w with | some x => x.dropping | none => true
  let close := match i.win with | some m => if m.close then closeWindow w m else .skip | none => .skip
  let r : StoredRec := { rkind := 2, prio := prio, object := w, item := i }
  if dropping then .seq (storeDrop F.LKT_DEVICE_WINDOW_DROPPED_C i) close
  else match s.logPlace r with
    | (some o, a) => Act.all [a, windowGrows w o i, close]
    | (none, a) => Act.all [
        a,
        .look (fun s => setWindow w ((s.units.store.window w).map (fun v => { v with dropping := true }))),
        put (F.LKT_WINDOW_W0_INCOMPLETE w) 1,
        storeDrop F.LKT_DEVICE_WINDOW_DROPPED_C i, close]

/-- Opens window `w` with the frame that holds its trigger record (R291, R296, 0x05). -/
def openWindow (w prio : Nat) (m : WinMark) (i : Item) : Act := .look fun s =>
  let r : StoredRec := { rkind := 2, prio := prio, object := w, item := i }
  match s.logPlace r with
  | (none, a) => .seq a (storeDrop F.LKT_DEVICE_WINDOW_DROPPED_C i)
  | (some o, a) =>
    let off := o.stop - recOctets i
    Act.all [
      a,
      .look (fun s => setWindow w (some {
        first := (o.stripe, off), last := (o.stripe, off), stripes := [], order := s.units.store.windowCount })),
      onStore (fun x => { x with windowCount := x.windowCount + 1 }),
      put (F.LKT_WINDOW_W0_STATE w) 1,
      put (F.LKT_WINDOW_W0_STREAM w) i.stream,
      put (F.LKT_WINDOW_W0_ORIGIN_DEVICE w) m.device,
      put (F.LKT_WINDOW_W0_ORIGIN_SEQ w) m.seq,
      put (F.LKT_WINDOW_W1_VALUE w) m.time,
      refer o.stripe { kind := 5, stripe := o.stripe, subject := w, aux := i.stream, a := m.time,
                       b := m.device * 65536 + m.seq, c := off },
      windowGrows w o i]

/-- A frame of a readout stream. -/
def storeWindow (prio : Nat) (i : Item) : Act := .look fun s =>
  match i.win with
  | some m =>
    if m.close then match s.windowOf i.stream with
      | some w => windowFrame w prio i
      | none => storeDrop F.LKT_DEVICE_WINDOW_DROPPED_C i
    else match (List.range 4096).find? (fun w => s.get (F.LKT_WINDOW_W0_STATE w) = 0) with
      | some w => openWindow w prio m i
      | none => match s.oldestClosed with
        | some w => .seq (freeWindow w) (openWindow w prio m i)
        | none => storeDrop F.LKT_DEVICE_WINDOW_DROPPED_C i
  | none => match s.windowOf i.stream with
    | some w => windowFrame w prio i
    | none => storeDrop F.LKT_DEVICE_WINDOW_DROPPED_C i

/-! ## Spill (R292, R315) -/

/-- A spill object. -/
def Store.object (x : Store) (ob : Nat) : SpillObject := Sparse.get (fun _ => ({} : SpillObject)) x.spill ob

/-- Changes a spill object. -/
def onObject (ob : Nat) (f : SpillObject → SpillObject) : Act := onStore (fun x => { x with
  spill := Sparse.set (fun _ => ({} : SpillObject)) x.spill ob (f (x.object ob)) })

/-- Frames an object has had. -/
def SpillObject.total (o : SpillObject) : Nat := o.base + (o.ranges.map (·.count)).sum

/-- Adds to an object the record that ends a stripe as it is filled. -/
def SpillObject.grow (o : SpillObject) (t : OpenStripe) (i : Item) : SpillObject :=
  let new : SpillRange := { stripe := t.stripe, count := 1, a := t.stop - recOctets i, b := t.stop }
  match o.ranges.getLast? with
  | some r => if r.stripe = t.stripe then { o with ranges := o.ranges.dropLast ++ [{ r with count := r.count + 1, b := t.stop }], gap := false }
    else { o with ranges := o.ranges ++ [new], gap := false }
  | none => { o with ranges := [new], gap := false }

/-- A frame that a listener could not take. -/
def storeSpill (link tenant prio : Nat) (i : Item) : Act := .look fun s =>
  let ob := link * 32 + tenant
  let r : StoredRec := { rkind := 3, prio := prio, gap := (s.units.store.object ob).gap, object := ob, item := i }
  let drop := .seq (storeDrop F.LKT_DEVICE_SPILL_DROPPED_C i) (onObject ob (fun o => { o with gap := true }))
  let fresh : Act := .look fun s =>
    if s.units.store.held 2 < s.poolSize 2 then match (s.newStripe 2 0 s.units.store.lowestFree).add r with
      | some o => .seq (setOpen o) (onObject ob (fun b => b.grow o i))
      | none => drop
    else drop
  match s.units.store.openFor 2 0 with
  | some o => match o.add r with
    | some o' => .seq (setOpen o') (onObject ob (fun b => b.grow o' i))
    | none => .seq (closeStripe o) fresh
  | none => fresh

/-- Takes frames released from the front of an object, and forgets ranges released whole. -/
def SpillObject.trim : Nat → SpillObject → SpillObject
  | 0, o => o
  | n + 1, o =>
    if o.marked.contains o.gone then
      SpillObject.trim n { o with gone := o.gone + 1, marked := o.marked.filter (fun k => decide (k ≠ o.gone)) }
    else o

/-- Forgets ranges that are released whole. -/
def SpillObject.forget : Nat → SpillObject → SpillObject
  | 0, o => o
  | n + 1, o => match o.ranges with
    | r :: rest =>
      if o.gone ≥ o.base + r.count then SpillObject.forget n { o with ranges := rest, base := o.base + r.count } else o
    | [] => o

/-- How many of the frames from `from_` to `upTo` lie in each range, the first of which starts at frame `base`. -/
def releasedIn (from_ upTo : Nat) : Nat → List SpillRange → List (Nat × Nat)
  | _, [] => []
  | base, r :: rest => (r.stripe, min upTo (base + r.count) - max from_ base) :: releasedIn from_ upTo (base + r.count) rest

/-- Frames of a spill object are released, each once those before it are: one Spill release record for what the written
stripes hold of the run, and for what a stripe still to be written holds one that follows its own record (R293, R315). -/
def releaseRun (ob : Nat) (ns : List Nat) : Act := .look fun s =>
  let x := s.units.store
  let o := x.object ob
  let p := SpillObject.trim (o.marked.length + ns.length) { o with marked := ns.filter (fun n => decide (n ≥ o.gone)) ++ o.marked }
  let parts := releasedIn o.gone p.gone o.base o.ranges
  let waits := fun n => (x.opens ++ x.closing).any (fun t => t.stripe = n)
  let now : Nat := ((parts.filter (fun e => !waits e.1)).map (·.2)).sum
  Act.all [
    onObject ob (fun _ => SpillObject.forget p.ranges.length p),
    Act.when (decide (now ≠ 0)) (journal { kind := 9, subject := ob, count := now }),
    Act.each (parts.filter (fun e => waits e.1 && decide (e.2 ≠ 0))) (fun e => refer e.1 { kind := 9, subject := ob, count := e.2 }),
    freeSpill]

/-- Releases frames of several spill objects, each object's as one run. -/
def releaseRuns (l : List (Nat × Nat)) : Act :=
  Act.each (l.map (·.1)).eraseDups (fun ob => releaseRun ob ((l.filter (fun e => e.1 = ob)).map (·.2)))

/-- Acknowledged replayed spill frames are released (R315). -/
def releaseAcked (items : List Item) : Act := releaseRuns (items.filterMap (·.spilled))

/-- The end of a window at the store: the frames committed in it are released (R315). -/
def settleReleases : Act := .look fun s => Act.when (!s.units.store.done.isEmpty)
  (.seq (onStore (fun x => { x with done := [] })) (releaseRuns s.units.store.done))

/-! ## Closing the store (R304) -/

/-- Ends a replay engine. -/
def endEngine (e result : Nat) : Act := Act.all [
  onStore (fun x => { x with engines := Sparse.set (fun _ => none) x.engines e none }),
  put (F.LKT_REPLAY_STATUS_BUSY e) 0,
  put (F.LKT_REPLAY_STATUS_RESULT e) result,
  event (F.LKT_REPLAY_STATUS_DONE e)]

/-- Writes every pending journal block, each with its Flush on every member, and makes it durable (R304). -/
def drainJournal : Act := .seq writeBlocks (.look fun s => Act.each s.units.store.flight (fun _ =>
  .seq (Act.each s.workers driveFlush) blockDurable))

/-- Locket closes: engines end, open stripes and journal blocks are written, every drive gets its shutdown notification,
STATE = 0x7 (R66, R304, R316). -/
def closeStore : Act := .look fun s =>
  if s.part.storePorts = 0 then .skip
  else Act.all [
    Act.each ((List.range 8).filter (fun e => s.is (F.LKT_REPLAY_STATUS_BUSY e))) (fun e => endEngine e 5),
    Act.when (decide (3 ≤ s.storeState) && decide (s.storeState ≤ 5)) (Act.all [
      Act.each s.units.store.opens closeStripe, drainJournal, drainJournal]),
    Act.each s.units.store.perstHigh (fun q => .emit (.driveShutdown q)),
    put F.LKT_STATUS_STATE 7]

end Sys2Proof.Machine
end

