-- ==== Sys2Proof/Machine/Link.lean ====
section
/-! DEFINITION. Links: strict priority, scheduled launch, preemption, pauses and storms, endpoints, reliable mode, and
frames a destination cannot take (R321, R331 to R350, R356, R622). -/

namespace Sys2Proof.Machine

/-! ## Retained frames (R341, R345 to R347) -/

/-- Inserts a retained frame by the time and order of its first send. -/
def insertRetained (x : Nat × Retained) : List (Nat × Retained) → List (Nat × Retained)
  | [] => [x]
  | y :: l => if x.2.firstAt < y.2.firstAt ∨ (x.2.firstAt = y.2.firstAt ∧ x.2.order ≤ y.2.order) then x :: y :: l
    else y :: insertRetained x l

/-- The retained frames of a port with their endpoints, oldest first. -/
def State.retainedOn (s : State) (p : Nat) : List (Nat × Retained) :=
  ((s.units.endpoints.filter (fun x => x.1 / 256 = p)).flatMap (fun x => x.2.retained.map (fun r => (x.1 % 256, r)))).foldr
    insertRetained []

/-- Retained frames, oldest first, that must go so that `need` bytes are free. -/
def toFree : Nat → List (Nat × Retained) → List (Nat × Retained)
  | 0, _ => []
  | _ + 1, [] => []
  | n + 1, r :: l => r :: toFree (n + 1 - r.2.item.data.length) l

/-- Retention memory of a port in bytes (R341). -/
def retention (p : Nat) : Nat := if p < 32 then 8388608 else 2097152

/-- Retains the copy of a frame just sent to a reliable endpoint; the oldest frames of the port make room (R341,
R345, R348). -/
def retain (l prio : Nat) (i : Item) : Act := .look fun s =>
  let p := portOf l
  let e := i.endpoint
  let all := s.retainedOn p
  let used := (all.map (fun r => r.2.item.data.length)).sum
  let c := chainOf i
  let u := s.endpoint p e
  Act.all [
    Act.each (toFree (used + i.data.length - retention p) all) (fun r => divertRetained .retention p r.1 [r.2]),
    Act.when (!(u.chains.contains c || u.replayed.contains c))
      (if bit i.oflags 1 then onEndpoint p e (fun x => { x with replayed := c :: x.replayed }) else holdChain p e c),
    onEndpoint p e (fun x => { x with
      nextOrder := x.nextOrder + 1
      retained := x.retained ++ [{ item := i, prio := prio, link := l, firstAt := s.keep.elapsed,
                                   sentAt := s.keep.elapsed, order := x.nextOrder }] }),
    Act.when (s.get (epF p e F.LSN_ENDPOINT_STATUS_STATE) = 0) (put (epF p e F.LSN_ENDPOINT_STATUS_STATE) 1),
    refreshRetained p e]

/-! ## What a link does next (R331, R332, R336, R340, R347, R348) -/

/-- What the service of one priority finds. -/
inductive TxPick where
  | resend (endpoint : Nat) (r : Retained)
  | send (i : Item) (rest : List (Item × Nat))
  | divert (why : Diverted) (i : Item) (rest : List (Item × Nat))
  deriving DecidableEq, Repr

/-- Launch time of an item on a link: its own, or that of a D0 stream's frame to an endpoint with an offset. -/
def State.launchOf (s : State) (l : Nat) (i : Item) : Option Nat :=
  if i.late then none
  else match i.launch with
    | some t => some t
    | none =>
      if ownFrame i && decide (i.endpoint < 256) then
        let o := s.epAt (portOf l) i.endpoint F.LSN_ENDPOINT_W5_LAUNCH_OFFSET_NS
        if o ≠ 0 && s.live (F.STR_CFG_DOMAIN i.stream) = 0 then some (addT (num i.data 24 8) (o * tickNs : Nat)) else none
      else none

/-- Oldest committed item of a link's queue that a pop of this window sees; `all`: one pushed in this window counts too. -/
def State.headOf (s : State) (l p : Nat) (all : Bool := false) : Option (Item × List (Item × Nat)) :=
  let q := queueOf l p
  if s.mismatched q || (!all && s.poppable q = 0) then none
  else match (s.queue q).items with | (i, _) :: rest => some (i, rest) | [] => none

/-- The link has been down for LINK_HOLD_US, or the split never created it (R321, R348). -/
def State.linkDead (s : State) (l : Nat) : Bool :=
  !s.linkIsUp l && (!s.linkMade l || decide (s.keep.elapsed ≥ (s.link l).downSince
    + s.get (linkF l F.LSN_LINK_TIMERS_LINK_HOLD_US F.RNG_TIMERS_LINK_HOLD_US) * tickUs))

/-- Bit `p` of a link's status field. -/
def linkBit (l p : Nat) (f : Nat → Nat → Field) (g : Nat → Field) : Field :=
  let x := linkF l f g
  ⟨x.addr, x.lsb + p, x.lsb + p⟩

def pausedBit (l p : Nat) : Field := linkBit l p F.LSN_LINK_STATUS_PAUSED F.RNG_STATUS_PAUSED
def stormBit (l p : Nat) : Field := linkBit l p F.LSN_LINK_STATUS_STORM F.RNG_STATUS_STORM
def preemptActive (l : Nat) : Field := linkF l F.LSN_LINK_STATUS_PREEMPT_ACTIVE F.RNG_STATUS_PREEMPT_ACTIVE

/-- A scheduled head of a higher priority that a frame of `octets` started now would delay past its L (R340). -/
def State.guarded (s : State) (l p octets : Nat) : Bool :=
  (List.range 8).any (fun h => decide (h > p) && (match s.headOf l h with
    | some (i, _) => (match s.launchOf l i with
      | some t => decide (dif t s.now > 0) && decide (dif (addT s.now (s.wireTicks l octets : Nat)) t > 0)
      | none => false)
    | none => false))

/-- A frame of this length and priority may start: a ring port whose preemption is not verified starts no long frame
of priority 0 to 6 (R332), and none may pass a scheduled one (R340). -/
def State.mayStart (s : State) (l p octets : Nat) : Bool :=
  !(decide (256 ≤ l) && decide (p < 7) && !s.is (preemptActive l) && decide (octets > 512)) && !s.guarded l p octets

/-- The endpoint of an item on a link is SILENT (R347). -/
def State.silentFor (s : State) (l : Nat) (i : Item) : Bool :=
  i.kind = .sealed && decide (i.endpoint < 256) && s.liveIs (epF (portOf l) i.endpoint F.LSN_ENDPOINT_W0_RELIABLE)
    && s.get (epF (portOf l) i.endpoint F.LSN_ENDPOINT_STATUS_STATE) = 2

/-- The retained frame of a link and priority that is to be sent again, the earliest due first (R331, R346). A frame
that fell due in this window waits for the next, in which an acknowledgement of this one has been seen (R356). -/
def State.resendAt (s : State) (l p : Nat) : Option (Nat × Retained) :=
  (s.retainedOn (portOf l)).find? (fun r => r.2.link = l && r.2.prio = p
    && (match r.2.due with | some t => decide (t < s.keep.elapsed) | none => false))

/-- What priority `p` of link `l` offers. -/
def State.pickAt (s : State) (l p : Nat) (all : Bool := false) : Option TxPick :=
  let up := s.linkIsUp l
  let paused := s.is (pausedBit l p)
  let fits := fun (i : Item) => s.mayStart l p ((s.frameOf l p i 0 0).length + 4)
  match (if up && !paused then s.resendAt l p else none) with
  | some (e, r) => if fits r.item then some (.resend e r) else none
  | none => match s.headOf l p all with
    | none => none
    | some (i, rest) =>
      if s.linkDead l then some (.divert .linkDown i rest)
      else if paused then (if s.is (stormBit l p) then some (.divert .storm i rest) else none)
      else if s.silentFor l i then some (.divert .silent i rest)
      else if !up || !fits i then none
      else match s.launchOf l i with
        | some t => if dif s.now t < 0 then none else some (.send i rest)
        | none => some (.send i rest)

/-- What the link does next, and at which priority. A fenced device's listener transmitters are silent (R537). -/
def State.pick (s : State) (l : Nat) : Option (Nat × TxPick) :=
  if s.fenced && decide (l < 256) then none
  else [7, 6, 5, 4, 3, 2, 1, 0].findSome? (fun p => (s.pickAt l p).map (fun x => (p, x)))

/-- Preemption is used: it has been verified, and on a listener link PREEMPT_EN is 1 (R332). -/
def State.preempts (s : State) (l : Nat) : Bool :=
  s.is (preemptActive l) && (decide (256 ≤ l) || s.is (F.LSN_LINK_CFG_PREEMPT_EN (l / 8) (l % 8)))

/-- Puts a frame on the wire and counts it. -/
def sendOn (l p : Nat) (cuts : Bool) (i : Item) (oflags attempt : Nat) : Act := .look fun s =>
  let f := s.frameOf l p i oflags attempt
  let n := f.length + 4
  Act.all [
    .emit (if l < 256 then .linkFrame l p f else .ringFrame (l - 256) p f),
    count (linkF l F.LSN_LINK_TX_FRAMES_C F.RNG_TX_FRAMES_C),
    countBy (linkF l F.LSN_LINK_TX_OCTETS_C F.RNG_TX_OCTETS_C) n,
    count (linkF l (fun a b => F.LSN_LINK_PRIO_TX_FRAMES_C a b p) (fun r => F.RNG_PRIO_TX_FRAMES_C r p)),
    countBy (linkF l (fun a b => F.LSN_LINK_PRIO_TX_OCTETS_C a b p) (fun r => F.RNG_PRIO_TX_OCTETS_C r p)) n,
    Act.when (cuts && p = 7 && s.preempts l) (count (linkF l F.LSN_LINK_TX_PREEMPTIONS_C F.RNG_TX_PREEMPTIONS_C))]

/-- Diverts a queue item, or drops one that is no frame of a stream. -/
def divertItem (why : Diverted) (l p : Nat) (i : Item) : Act :=
  if i.kind = .sealed && decide (i.stream < 8192) && decide (i.endpoint < 256) then divert why l p i
  else .seq (count (why.counter l)) (count (linkF l F.LSN_LINK_DROPPED_C F.RNG_DROPPED_C))

/-- Carries out a pick. -/
def transmit (l p : Nat) (cuts : Bool) (pick : TxPick) : Act := .look fun s =>
  match pick with
  | .resend e r => Act.all [
      sendOn l p cuts r.item (r.item.oflags ||| 1) r.sends,
      count (linkF l F.LSN_LINK_RETRANSMITS_C F.RNG_RETRANSMITS_C),
      onEndpoint (portOf l) e (fun x => { x with
        nextOrder := x.nextOrder + 1
        retained := x.retained.map (fun y => if y = r then { r with
          sends := r.sends + 1, sentAt := s.keep.elapsed, order := x.nextOrder, due := none } else y) })]
  | .send i rest =>
    let late := match s.launchOf l i with | some t => decide (dif s.now t > 0) | none => false
    let ignored := ownFrame i && decide (i.endpoint < 256) && s.live (F.STR_CFG_DOMAIN i.stream) ≠ 0
      && s.epAt (portOf l) i.endpoint F.LSN_ENDPOINT_W5_LAUNCH_OFFSET_NS ≠ 0
    let reliable := i.kind = .sealed && decide (i.endpoint < 256)
      && s.epAt (portOf l) i.endpoint F.LSN_ENDPOINT_W0_RELIABLE = 1
    unqueue (queueOf l p) i rest (Act.all [
      sendOn l p cuts i i.oflags i.attempt,
      Act.when late (count (linkF l F.LSN_LINK_LAUNCH_LATE_C F.RNG_LAUNCH_LATE_C)),
      Act.when ignored (count (linkF l F.LSN_LINK_LAUNCH_IGNORED_C F.RNG_LAUNCH_IGNORED_C)),
      Act.when reliable (retain l p i)])
  | .divert why i rest => unqueue (queueOf l p) i rest (divertItem why l p i)

/-- FRAME_TRANSMIT (R331). -/
def frameTransmitAct (l : Nat) (cuts : Bool) : Act := .look fun s =>
  match s.pick l with | some (p, x) => transmit l p cuts x | none => .skip

def execFrameTransmit (l : Nat) (cuts : Bool) (s : State) : Host.Outcome State Fault Refusal :=
  .next ((frameTransmitAct l cuts).run s)

/-- The scheduled head of a queue is sent at L, or counted as late when a higher priority goes first, one that became
non-empty in this window included (R340, R356). -/
def launchAtTime (l p : Nat) : Act := .look fun s =>
  match s.headOf l p with
  | none => .skip
  | some (i, rest) => match s.launchOf l i with
    | none => .skip
    | some t =>
      let ahead := (List.range 8).any (fun h => decide (p < h) && (s.pickAt l h true).isSome)
      if dif s.now t < 0 || (s.fenced && decide (l < 256)) then .skip
      else if ahead then .seq (count (linkF l F.LSN_LINK_LAUNCH_LATE_C F.RNG_LAUNCH_LATE_C))
        (onQueue (queueOf l p) (fun u => { u with items := ({ i with late := true }, (u.items.map (·.2)).headD 0) :: rest }))
      else match s.pickAt l p with
        | some x => transmit l p false x
        | none => .skip

/-- LAUNCH_TIME_REACHED (R340, R356): judged at the window's end while commands of the window wait. -/
def launchTimeReachedAct (l p : Nat) : Act := .look fun s =>
  if s.pending.isEmpty then launchAtTime l p else .win fun w => { w with starts := w.starts ++ [(l, p)] }

/-- The scheduled items of the window. -/
def settleStarts : Act := .look fun s => Act.each s.win.starts (fun x => launchAtTime x.1 x.2)

def execLaunchTimeReached (l p : Nat) (s : State) : Host.Outcome State Fault Refusal := .next ((launchTimeReachedAct l p).run s)

/-! ## Pauses (R335 to R337) -/

/-- The pause of a priority of a link. -/
def State.pause (s : State) (l p : Nat) : Pause := Sparse.get (fun _ => ({} : Pause)) s.units.pauses (l * 8 + p)

/-- Changes the pause of a priority of a link. -/
def onPause (l p : Nat) (f : Pause → Pause) : Act := .look fun s =>
  let v := f (s.pause l p)
  .units fun u => { u with pauses := Sparse.set (fun _ => ({} : Pause)) u.pauses (l * 8 + p) v }

/-- Ends a pause. -/
def release (l p : Nat) : Act := .look fun s =>
  Act.when (s.is (pausedBit l p)) (Act.all [
    put (pausedBit l p) 0,
    onPause l p (fun x => { x with freeSince := s.keep.elapsed }),
    countBy (linkF l (fun a b => F.LSN_LINK_PRIO_PAUSED_US_C a b p) (fun r => F.RNG_PRIO_PAUSED_US_C r p))
      ((s.keep.elapsed - (s.pause l p).since) / tickUs)])

/-- PFC_EN of a priority of a link. -/
def State.pfcOn (s : State) (l p : Nat) : Bool :=
  (s.get (linkF l F.LSN_LINK_CFG_PFC_EN F.RNG_CFG_PFC_EN)).testBit p

/-- One priority of a PFC frame. -/
def pausePrio (l p quanta : Nat) : Act := .look fun s =>
  let stop := s.keep.elapsed + quanta * 512 * 1024 / s.linkRate l
  Act.all [
    count (linkF l (fun a b => F.LSN_LINK_PRIO_PAUSE_RX_C a b p) (fun r => F.RNG_PRIO_PAUSE_RX_C r p)),
    if !s.pfcOn l p then .skip
    else if quanta = 0 then release l p
    else if s.is (pausedBit l p) then onPause l p (fun x => { x with until_ := stop })
    else .seq (put (pausedBit l p) 1) (onPause l p (fun x => { x with since := s.keep.elapsed, until_ := stop }))]

/-- PFC_RECEIVED (R335). -/
def pfcReceivedAct (l : Nat) (times : List (Nat × Nat)) : Act := .look fun s =>
  Act.when (s.linkIsUp l) (Act.each (times.filter (fun t => decide (t.1 < 8))) (fun t => pausePrio l t.1 (t.2 % 65536)))

def execPfcReceived (l : Nat) (times : List (Nat × Nat)) (s : State) : Host.Outcome State Fault Refusal :=
  .next ((pfcReceivedAct l times).run s)

/-- PAUSE_EXPIRY (R335). -/
def pauseExpiryAct (l p : Nat) : Act := .look fun s =>
  Act.when (decide (l < 264) && decide (p < 8) && decide (s.keep.elapsed ≥ (s.pause l p).until_)) (release l p)

def execPauseExpiry (l p : Nat) (s : State) : Host.Outcome State Fault Refusal := .next ((pauseExpiryAct l p).run s)

/-- A later command of this window releases the pause (R356). -/
def State.releasePending (s : State) (l p : Nat) : Bool := s.coming.any (fun c => match c with
  | .pauseExpiry l' p' => l' = l && p' = p && decide (s.keep.elapsed ≥ (s.pause l p).until_)
  | .pfcReceived l' ts => l' = l && s.pfcOn l p && ts.contains (p, 0)
  | _ => false)

/-- PAUSE_WATCHDOG_EXPIRY (R336). -/
def pauseWatchdogExpiryAct (l p : Nat) : Act := .look fun s =>
  Act.when (decide (l < 264) && decide (p < 8) && s.is (pausedBit l p) && !s.is (stormBit l p) && !s.releasePending l p
      && decide (s.keep.elapsed ≥ (s.pause l p).since
        + s.get (linkF l F.LSN_LINK_TIMERS_PAUSE_WD_US F.RNG_TIMERS_PAUSE_WD_US) * tickUs))
    (.seq (put (stormBit l p) 1)
      (count (linkF l (fun a b => F.LSN_LINK_PRIO_STORMS_C a b p) (fun r => F.RNG_PRIO_STORMS_C r p))))

def execPauseWatchdogExpiry (l p : Nat) (s : State) : Host.Outcome State Fault Refusal :=
  .next ((pauseWatchdogExpiryAct l p).run s)

/-- STORM_CLEAR_EXPIRY (R336). -/
def stormClearExpiryAct (l p : Nat) : Act := .look fun s =>
  Act.when (decide (l < 264) && decide (p < 8) && s.is (stormBit l p) && !s.is (pausedBit l p)
      && decide (s.keep.elapsed ≥ (s.pause l p).freeSince
        + s.get (linkF l F.LSN_LINK_TIMERS_STORM_CLEAR_US F.RNG_TIMERS_STORM_CLEAR_US) * tickUs))
    (put (stormBit l p) 0)

def execStormClearExpiry (l p : Nat) (s : State) : Host.Outcome State Fault Refusal :=
  .next ((stormClearExpiryAct l p).run s)

/-- PFC_SEND (R337): a pause above XOFF_KIB, repeated every 32,768 quanta of 1.28 ns while above XON_KIB, and a zero
time once at or below it. -/
def pfcSendAct (r p n : Nat) : Act := .look fun s =>
  let l := 256 + r
  let sent := (s.link l).xoff.find? (fun x => x.1 = p)
  let send := fun q => .seq (.emit (.pfc r p q)) (count (F.RNG_TX_PAUSE_C r))
  let note := fun x : LinkUnit => { x with xoff := (p, s.keep.elapsed) :: x.xoff.filter (fun y => y.1 ≠ p) }
  if 8 ≤ r || 7 ≤ p || !s.pfcOn l p || !s.linkIsUp l then .skip
  else match sent with
    | none => Act.when (decide (n > 1024 * s.get (F.RNG_PFC_XOFF_KIB r))) (.seq (send 65535) (onLink l note))
    | some (_, t) =>
      if n ≤ 1024 * s.get (F.RNG_PFC_XON_KIB r) then
        .seq (send 0) (onLink l (fun x => { x with xoff := x.xoff.filter (fun y => y.1 ≠ p) }))
      else Act.when (decide (s.keep.elapsed ≥ t + 42949673)) (.seq (send 65535) (onLink l note))

def execPfcSend (r p n : Nat) (s : State) : Host.Outcome State Fault Refusal := .next ((pfcSendAct r p n).run s)

/-- PREEMPT_VERIFY (R332): on a ring port always, every 10 ms until it succeeds; on a listener link with PREEMPT_EN. -/
def preemptVerifyAct (l : Nat) (answered : Bool) : Act := .look fun s =>
  let soon := match (s.link l).verifiedAt with
    | some t => decide (256 ≤ l) && decide (s.keep.elapsed < t + 10 * tickMs)
    | none => false
  Act.when (s.linkIsUp l && !s.is (preemptActive l) && !soon
      && (decide (256 ≤ l) || s.is (F.LSN_LINK_CFG_PREEMPT_EN (l / 8) (l % 8))))
    (Act.all [
      .emit (.verify l),
      onLink l (fun x => { x with verifiedAt := some s.keep.elapsed }),
      Act.when answered (put (preemptActive l) 1)])

def execPreemptVerify (l : Nat) (answered : Bool) (s : State) : Host.Outcome State Fault Refusal :=
  .next ((preemptVerifyAct l answered).run s)

/-! ## Links going up and down (R321, R348) -/

/-- Shows whether link `l` is up in LSN_PORT_STATUS. -/
def showLinkUp (l v : Nat) : Act :=
  let x := F.LSN_PORT_STATUS_LINK_UP (l / 8)
  Act.when (decide (l < 256)) (put ⟨x.addr, l % 8, l % 8⟩ v)

/-- A link comes up: it was enabled and created, and its port has trained. -/
def linkUpBase (l : Nat) : Act := .look fun s =>
  Act.when (decide (l < 264) && s.linkMade l && s.linkEnabled l && s.up)
    (.seq (put (linkState l) 2) (showLinkUp l 1))

/-- A link leaves the up state. -/
def linkLost (l state : Nat) (event_ : Bool) : Act := .look fun s => Act.all [
  put (linkState l) state,
  showLinkUp l 0,
  put (preemptActive l) 0,
  Act.when event_ (event (linkF l F.LSN_LINK_STATUS_LINK_DOWN_EVENT F.RNG_STATUS_LINK_DOWN_EVENT)),
  onLink l (fun x => { x with downSince := s.keep.elapsed, xoff := [], verifiedAt := none })]

/-- LINK_DOWN (R348, R356): a frame in transmission is lost on the wire. -/
def linkDownAct (l : Nat) (midFrame : Bool) : Act := .look fun s =>
  Act.when (s.linkIsUp l) (.seq (linkLost l 3 true)
    (Act.when midFrame (count (linkF l F.LSN_LINK_TX_ABORTED_C F.RNG_TX_ABORTED_C))))

def execLinkDown (l : Nat) (midFrame : Bool) (s : State) : Host.Outcome State Fault Refusal :=
  .next ((linkDownAct l midFrame).run s)

/-- LINK_HOLD_EXPIRY (R348): every queued frame, and every frame retained for a reliable endpoint on the link. -/
def linkHoldExpiryAct (l : Nat) : Act := .look fun s =>
  Act.when (decide (l < 264) && s.linkDead l) (Act.all [
    Act.each [7, 6, 5, 4, 3, 2, 1, 0] (fun p => Act.each (List.range (s.poppable (queueOf l p))) (fun _ => .look fun s =>
      match s.headOf l p with
      | some (i, rest) => unqueue (queueOf l p) i rest (divertItem .linkDown l p i)
      | none => .skip)),
    Act.each (List.range 256) (fun e =>
      let rs := (s.endpoint (portOf l) e).retained.filter (fun r => r.link = l)
      Act.when (!rs.isEmpty) (divertRetained .linkDown (portOf l) e rs))])

def execLinkHoldExpiry (l : Nat) (s : State) : Host.Outcome State Fault Refusal := .next ((linkHoldExpiryAct l).run s)

/-- The links of a port start or stop with its ENABLE and their own. -/
def trainPort (p : Nat) : Act := Act.each (List.range 8) (fun j => .look fun s =>
  let l := 8 * p + j
  let on := s.linkMade l && s.linkEnabled l
  if on && s.get (linkState l) = 0 then .seq (put (linkState l) 1) (onLink l (fun x => { x with downSince := s.keep.elapsed }))
  else Act.when (!on && s.get (linkState l) ≠ 0) (linkLost l 0 (s.linkIsUp l)))

/-- PORT_ENABLE (R321): a write of LSN_PORT_CFG. -/
def portEnableAct (p writer : Nat) (value : Word) : Act := .look fun s =>
  let frozen := s.is (F.LSN_PORT_CFG_ENABLE p)
    && (getBits value 1 0 ≠ s.get (F.LSN_PORT_CFG_SPLIT p) || getBits value 3 3 ≠ s.get (F.LSN_PORT_CFG_REACH p))
  if !s.hasRight writer (F.LSN_PORT_CFG_ENABLE p).addr || s.part.listenerPorts ≤ p then .skip
  else if frozen then writeLost (F.LSN_PORT_STATUS_WRITE_LOST p)
  else Act.all [
    put (F.LSN_PORT_CFG_REACH p) (getBits value 3 3),
    put (F.LSN_PORT_CFG_SPLIT p) (getBits value 1 0),
    put (F.LSN_PORT_CFG_ENABLE p) (getBits value 2 2),
    trainPort p]

def execPortEnable (p writer : Nat) (value : Word) (s : State) : Host.Outcome State Fault Refusal :=
  .next ((adjusts writer (F.LSN_PORT_CFG_ENABLE p) (portEnableAct p writer value)).run s)

/-! ## Endpoints (R338) -/

/-- A VALID key entry of USAGE 0x06 that a tenant owns. -/
def State.ackKeyEntry (s : State) (idx tenant : Nat) : Option Nat :=
  (List.range 256).find? (fun e => s.is (F.SIG_KEY_INFO_VALID e) && s.get (F.SIG_KEY_INFO_KEY_INDEX e) = idx
    && s.get (F.SIG_KEY_INFO_USAGE e) = 6 && s.get (F.SIG_KEY_INFO_TENANT e) = tenant)

/-- The registers an endpoint commit applies. -/
def endpointRegs (p e : Nat) : List Nat :=
  (List.range 6).map (fun w => (epF p e F.LSN_ENDPOINT_W0_VALID).addr + 8 * w)

/-- RESULT of an endpoint commit. -/
def State.endpointResult (s : State) (p e writer : Nat) : Nat :=
  let ret := s.get (epF p e F.LSN_ENDPOINT_W4_RETENTION_US)
  if writer ≠ 0 && writer ≠ s.live (epF p e F.LSN_ENDPOINT_W0_OWNER) then 1
  else if ret < 10 || 1000000 < ret || s.get (epF p e F.LSN_ENDPOINT_W4_RTO_US) < 2 then 2
  else if s.is (epF p e F.LSN_ENDPOINT_W0_RELIABLE)
      && (s.ackKeyEntry (s.get (epF p e F.LSN_ENDPOINT_W4_ACK_KEY)) (s.get (epF p e F.LSN_ENDPOINT_W0_OWNER))).isNone then 3
  else 0

/-- ENDPOINT_COMMIT_APPLY (R338, R342): acknowledgement state starts again. -/
def endpointCommitApplyAct (p e : Nat) : Act := .look fun s =>
  Act.when (decide (p < 40) && decide (e < 256) && s.is (epF p e F.LSN_ENDPOINT_CTRL_COMMIT)
      && !s.win.marks.contains (4, p * 256 + e)) (Act.all [
    onEndpoint p e (fun x => { x with old := (endpointRegs p e).map (fun a => (a, s.rdForce a)), cums := [] }),
    .win (fun w => { w with marks := (4, p * 256 + e) :: w.marks }),
    Act.each (endpointRegs p e) commitWord,
    put (epF p e F.LSN_ENDPOINT_CTRL_COMMIT) 0,
    put (epF p e F.LSN_ENDPOINT_STATUS_RESULT) 0,
    Act.when (!s.is (epF p e F.LSN_ENDPOINT_W0_RELIABLE)) (put (epF p e F.LSN_ENDPOINT_STATUS_STATE) 0)])

def execEndpointCommitApply (p e : Nat) (s : State) : Host.Outcome State Fault Refusal :=
  .next ((endpointCommitApplyAct p e).run s)

/-- ENDPOINT_COMMIT (R338). In the window of the boundary of a pending commit it is taken as written after it (R577). -/
def endpointCommitAct (p e writer : Nat) (value : Word) : Act := .look fun s =>
  let boundary := s.pending.any (fun c => match c with | .endpointCommitApply q f => q = p && f = e | _ => false)
  if getBits value 0 0 = 0 || 40 ≤ p || 256 ≤ e || (decide (p < 32) && decide (s.part.listenerPorts ≤ p)) then .skip
  else .seq (Act.when boundary (endpointCommitApplyAct p e)) (.look fun s =>
    if s.is (epF p e F.LSN_ENDPOINT_CTRL_COMMIT) then writeLost (epF p e F.LSN_ENDPOINT_STATUS_WRITE_LOST)
    else
      let r := s.endpointResult p e writer
      if r ≠ 0 then put (epF p e F.LSN_ENDPOINT_STATUS_RESULT) r else put (epF p e F.LSN_ENDPOINT_CTRL_COMMIT) 1)

def execEndpointCommit (p e writer : Nat) (value : Word) (s : State) : Host.Outcome State Fault Refusal :=
  .next ((adjusts writer (epF p e F.LSN_ENDPOINT_CTRL_COMMIT) (endpointCommitAct p e writer value)).run s)

/-! ## Reliable mode (R342 to R347) -/

/-- The address and port belong to the endpoint on a link (R344). -/
def State.fromEndpoint (s : State) (l e : Nat) (src : NetAddr) : Bool :=
  let env := s.istEnvelope l e 8192
  if l < 256 then src.v4 = env.v4 && src.ip = env.dstIp && src.port = env.dstPort
  else !src.v4 && src.port = 45810

/-- The key of an endpoint, when its entry is VALID and not FAULT. -/
def State.ackKey (s : State) (p e : Nat) : Option (List Byte) :=
  s.usable (s.live (epF p e F.LSN_ENDPOINT_W4_ACK_KEY)) 6 (s.live (epF p e F.LSN_ENDPOINT_W0_OWNER))

/-- The format of an acknowledgement (R351). -/
def ackFormat (m : List Byte) : Bool :=
  m.length = 56 && num m 0 2 = 0xFFFE && num m 2 1 = 0x11 && num m 3 1 = 0 && num m 6 2 = 0

/-- The endpoint an acknowledgement is accepted for, unless its CUM lies behind (R343 to R345): `none` when it fails
its check, `some none` when it is stale. -/
def State.ackTarget (s : State) (l : Nat) (src : NetAddr) (m : List Byte) : Option (Option Nat) :=
  let p := portOf l
  let key := (num m 4 2, num m 24 4)
  let mine := fun c : HeldChain => (c.stream, c.chain) = key
  let ok := fun e => s.live (epF p e F.LSN_ENDPOINT_W0_VALID) = 1 && s.live (epF p e F.LSN_ENDPOINT_W0_RELIABLE) = 1
    && s.fromEndpoint l e src
    && (match s.ackKey p e with
      | some k => block (gcmTag k (slice m 28 12) (m.take 28) []) = slice m 40 16
      | none => false)
    && ((s.endpoint p e).chains ++ (s.endpoint p e).replayed).any mine
  if !ackFormat m then none
  else match (List.range 256).find? ok with
    | none => none
    | some e => match (s.endpoint p e).cums.find? (fun c => (c.1, c.2.1) = key) with
      | some c => if dif (num m 8 8) c.2.2 < 0 then some none else some (some e)
      | none => some (some e)

/-- An acknowledgement covers a frame number (R342). -/
def ackCovers (m : List Byte) (n : Nat) : Bool :=
  let d := dif n (num m 8 8)
  decide (d ≤ 0) || (decide (d ≤ 64) && (num m 16 8).testBit (d.toNat - 1))

/-- The acknowledgements for an endpoint that this window still brings and that will be accepted (R356). -/
def State.acksComing (s : State) (p e : Nat) : List (List Byte) := s.coming.filterMap (fun c => match c with
  | .ackReceived l src m => if portOf l = p ∧ s.ackTarget l src m = some (some e) then some m else none
  | _ => none)

/-- An acknowledgement covers a retained frame (R342). -/
def ackTakes (m : List Byte) (r : Retained) : Bool :=
  r.item.stream = num m 4 2 && r.item.chain = num m 24 4 && ackCovers m r.item.seq

/-- A retained frame is to be sent again, or is diverted when its RETRIES are spent (R346, R348). -/
def wantResend (p e : Nat) (r : Retained) : Act := .look fun s =>
  if r.due.isSome then .skip
  else if r.sends > s.live (epF p e F.LSN_ENDPOINT_W4_RETRIES) then divertRetained .retries p e [r]
  else onEndpoint p e (fun x => { x with retained := x.retained.map (fun y =>
    if y = r then { r with due := some s.keep.elapsed } else y) })

/-- The item of a spill notice of a run (R350, R351). -/
def noticeItem (e : Nat) (key : List Byte) (r : SpillRun) (iv : List Byte) : Item :=
  let b := be 2 0xFFFD ++ be 1 0x12 ++ be 1 0 ++ be 2 r.stream ++ be 2 0 ++ be 8 r.first ++ be 4 (min 4294967295 r.count)
    ++ be 4 r.chain
  { data := b ++ iv ++ block (gcmTag key iv b []), kind := .control, endpoint := e }

/-- Takes an IV for an acknowledgement key: a number that rises, so that none is used twice (R351). -/
def withIv (f : List Byte → Act) : Act := .look fun s => .draw fun a => .seq
  (.keep fun k => { k with ivs := k.ivs + 1 }) (f (be 4 (a.toNat % 2 ^ 32) ++ be 8 s.keep.ivs))

/-- Sends the notice of a run, at most once in 10 µs, while the endpoint's key is usable (R350, R622). -/
def sendNotice (p e : Nat) (r : SpillRun) : Act := .look fun s =>
  let soon := match r.noticedAt with | some t => decide (s.keep.elapsed < t + 10 * tickUs) | none => false
  match s.ackKey p e with
  | none => .skip
  | some k => Act.when (!soon) (withIv fun iv => Act.all [
      push (queueOf r.link 7) .spill (noticeItem e k r iv),
      count (linkF r.link F.LSN_LINK_SPILL_NOTICES_C F.RNG_SPILL_NOTICES_C),
      onEndpoint p e (fun x => { x with runs := x.runs.map (fun y =>
        if y = r then { r with noticed := r.count, noticedAt := some s.keep.elapsed } else y) })])

/-- What an accepted acknowledgement does (R341 to R347, R350). -/
def acceptAck (p e : Nat) (m : List Byte) : Act := .look fun s =>
  let st := num m 4 2
  let ch := num m 24 4
  let u := s.endpoint p e
  let left := u.retained.filter (fun r => !ackTakes m r)
  let here := fun x : CoveredFrame => x.stream = st && x.chain = ch && ackCovers m x.seq
  let covered := u.covered ++ (u.retained.filter (ackTakes m)).map (fun r =>
    { stream := st, chain := ch, prio := r.prio, seq := r.item.seq, order := r.order })
  let later := fun (x : CoveredFrame) (r : Retained) =>
    r.item.stream = x.stream && r.item.chain = x.chain && r.prio = x.prio && decide (x.order > r.order)
  let runCovered := fun r : SpillRun => decide (dif ((r.first + r.count - 1) % 2 ^ 64) (num m 8 8) ≤ 0)
  Act.all [
    onEndpoint p e (fun x => { x with
      retained := left, covered := covered.filter (fun c => left.any (later c)), lastAck := s.keep.elapsed
      cums := (st, ch, num m 8 8) :: x.cums.filter (fun c => !(c.1 = st && c.2.1 = ch)) }),
    put (epF p e F.LSN_ENDPOINT_STATUS_STATE) 1,
    releaseAcked ((u.retained.filter (ackTakes m)).map (·.item)),
    Act.each (left.filter (fun r => covered.any (fun c => here c && later c r))) (wantResend p e),
    Act.each (u.runs.filter (fun r => !runCovered r && r.stream = st && r.chain = ch && r.noticedAt.isSome)) (sendNotice p e),
    refreshRetained p e]

/-- ACK_RECEIVED (R343, R344). -/
def ackReceivedAct (l : Nat) (src : NetAddr) (m : List Byte) : Act := .look fun s =>
  match s.ackTarget l src m with
  | none => count (linkF l F.LSN_LINK_RX_ACK_AUTH_FAIL_C F.RNG_RX_ACK_AUTH_FAIL_C)
  | some none => .skip
  | some (some e) => .seq (count (linkF l F.LSN_LINK_RX_ACKS_C F.RNG_RX_ACKS_C)) (acceptAck (portOf l) e m)

def execAckReceived (l : Nat) (src : NetAddr) (m : List Byte) (s : State) : Host.Outcome State Fault Refusal :=
  .next ((ackReceivedAct l src m).run s)

/-- RETRANSMIT_TIMEOUT (R346, R356): the oldest frame whose RTO_US has passed. -/
def retransmitTimeoutAct (p e : Nat) : Act := .look fun s =>
  let rto := s.live (epF p e F.LSN_ENDPOINT_W4_RTO_US) * tickUs
  match (s.endpoint p e).retained.find? (fun r => r.due.isNone && decide (s.keep.elapsed ≥ r.sentAt + rto)) with
  | some r => Act.when (!(s.acksComing p e).any (ackTakes · r)) (wantResend p e r)
  | none => .skip

def execRetransmitTimeout (p e : Nat) (s : State) : Host.Outcome State Fault Refusal :=
  .next ((retransmitTimeoutAct p e).run s)

/-- RETENTION_EXPIRY (R347, R356). -/
def retentionExpiryAct (p e : Nat) : Act := .look fun s =>
  let u := s.endpoint p e
  let since := u.retained.foldl (fun a r => min a r.firstAt) s.keep.elapsed
  Act.when (!u.retained.isEmpty && s.liveIs (epF p e F.LSN_ENDPOINT_W0_RELIABLE)
      && s.get (epF p e F.LSN_ENDPOINT_STATUS_STATE) ≠ 2 && (s.acksComing p e).isEmpty
      && decide (s.keep.elapsed ≥ max since u.lastAck + s.live (epF p e F.LSN_ENDPOINT_W4_RETENTION_US) * tickUs))
    (.seq (put (epF p e F.LSN_ENDPOINT_STATUS_STATE) 2) (divertRetained .silent p e u.retained))

def execRetentionExpiry (p e : Nat) (s : State) : Host.Outcome State Fault Refusal := .next ((retentionExpiryAct p e).run s)

/-- SPILL_NOTICE_SEND (R350): of the first run that has grown since its last notice. -/
def spillNoticeSendAct (p e : Nat) : Act := .look fun s =>
  match (s.endpoint p e).runs.find? (fun r => decide (r.noticed < r.count)) with
  | some r => sendNotice p e r
  | none => .skip

def execSpillNoticeSend (p e : Nat) (s : State) : Host.Outcome State Fault Refusal := .next ((spillNoticeSendAct p e).run s)

end Sys2Proof.Machine
end

