-- ==== Sys2Proof/Machine/Mgmt.lean ====
section
/-! DEFINITION. What management messages share: keys, sealing, the hosts' addresses, sending on links and on the
service port (R483, R485, R504, R509). -/

namespace Sys2Proof.Machine

/-- Changes Clasp's state. -/
def onClasp (f : Clasp → Clasp) : Act := .units fun u => { u with clasp := f u.clasp }

/-! ## The service port's transmitter (R506, R509) -/

/-- Changes the service port's state. -/
def onSvc (f : SvcPort → SvcPort) : Act := .seq (.units fun u => { u with svc := f u.svc })
  (.look fun s => put F.SVC_STATUS_TXQ_DEPTH s.units.svc.frames.length)

/-- Queues a frame on the service port. -/
def svcQueue (f : List Byte) : Act := .look fun s =>
  if !s.is F.SVC_CFG_ENABLE || s.units.svc.frames.length ≥ 16 then count F.SVC_TX_DROPPED_C
  else onSvc (fun p => { p with frames := p.frames ++ [f] })

/-- The frame of a management message on the service port: the port answers from the address a host used (R508). -/
def State.svcFrame (s : State) (o : Origin) (msg : List Byte) : List Byte :=
  ({ dstMac := o.addr.mac, srcMac := s.get F.SVC_MAC_MAC, v4 := o.addr.v4, srcIp := o.localIp, dstIp := o.addr.ip
     srcPort := s.get F.SVC_UDP_MGMT_PORT, dstPort := o.addr.port, hops := 64 } : Envelope).frame 0 msg

/-! ## Sending (R482) -/

/-- A management message as an item. -/
def mgmtItem (o : Origin) (msg : List Byte) : Item := { data := msg, kind := .mgmt, addr := some o.addr }

/-- Sends a message to where a request came from, at priority 6 on a link. An unconfigured device's ring queues have no
cells (R228), and its answers leave at once (R100). -/
def sendMgmt (o : Origin) (msg : List Byte) : Act := .look fun s =>
  if s.unconfigured && decide (256 ≤ o.link) && decide (o.link < 264) then
    .emit (.ringFrame (o.link - 256) 6 (s.frameOf o.link 6 (mgmtItem o msg) 0 0))
  else if o.link < 264 then push (queueOf o.link 6) .clasp (mgmtItem o msg)
  else svcQueue (s.svcFrame o msg)

/-- Sends a bridge message on a ring port. -/
def sendBridge (r : Nat) (msg : List Byte) : Act :=
  push (queueOf (256 + r) 6) .clasp (mgmtItem { link := 256 + r, addr := { mac := ringMac, v4 := false, ip := ringIp, port := 45811 } } msg)

/-- A header (R483). -/
def mgmtHeader (op tenant status target source hops routing size address mseq token txn : Nat) : List Byte :=
  be 1 0x10 ++ be 1 op ++ be 1 tenant ++ be 1 status ++ be 2 target ++ be 2 source ++ be 1 hops ++ be 1 routing ++ be 2 size
    ++ be 4 address ++ be 8 mseq ++ be 4 token ++ be 4 txn

/-- The address that a tenant's TUNNEL_RX messages go to, when its link's queue takes one (R504). -/
def State.tunnelHome (s : State) (t : Nat) (msg : List Byte) : Option Origin :=
  match Sparse.get (fun _ => none) s.units.clasp.homes t with
  | some o =>
    if o.link < 264 then (match s.pushFate (queueOf o.link 6) (mgmtItem o msg) with
      | .accepted | .waits | .late => some o
      | _ => none)
    else if s.is F.SVC_CFG_ENABLE && decide (s.units.svc.frames.length < 16) then some o else none
  | none => none

/-- Sends a field-bus record of a channel to a tenant, or counts it dropped (R479, R504). -/
def tunnelRx (c t : Nat) (record : List Byte) : Act := .look fun s =>
  let n := Sparse.get (fun _ => 0) s.units.clasp.tunnelSeq t
  let h := mgmtHeader 0x08 t 0 s.device 0 0 0 record.length c n 0 0
  match s.mgmtKey t with
  | none => .seq (count (F.FBUS_TUNNEL_RX_DROPPED_C c)) (count (F.CLP_TENANT_TUNNEL_RX_DROPPED_C t))
  | some k =>
    let m := sealMgmt (kdf k labelMgu s.units.clasp.nonce) (hostIv h) h record
    match s.tunnelHome t m with
    | some o => Act.all [
        onClasp (fun x => { x with tunnelSeq := Sparse.set (fun _ => 0) x.tunnelSeq t ((n + 1) % 2 ^ 60) }),
        sendMgmt o m,
        count F.CLP_DEVICE_TUNNEL_RX_SENT_C]
    | none => .seq (count (F.FBUS_TUNNEL_RX_DROPPED_C c)) (count (F.CLP_TENANT_TUNNEL_RX_DROPPED_C t))

end Sys2Proof.Machine
end

