-- ==== Sys2Proof/Machine/Fbus.lean ====
section
/-! DEFINITION. The field bus: channels and their states, reception, sending, error confinement, detection of the bit
rate and tunnelling (R461 to R481). -/

namespace Sys2Proof.Machine

/-- A channel's unit. -/
def State.fb (s : State) (c : Nat) : FbusUnit := Sparse.get (fun _ => ({} : FbusUnit)) s.units.fbus c

/-- Changes a channel's unit. -/
def onFb (c : Nat) (f : FbusUnit → FbusUnit) : Act := .look fun s =>
  let v := f (s.fb c)
  .units fun u => { u with fbus := Sparse.set (fun _ => ({} : FbusUnit)) u.fbus c v }

/-- Moves a channel to a STATE: each change is flagged, counted and notified (R474). -/
def setFbState (c n : Nat) : Act := .look fun s => Act.when (s.get (F.FBUS_STATUS_STATE c) ≠ n) (Act.all [
  put (F.FBUS_STATUS_STATE c) n,
  event (F.FBUS_STATUS_STATE_CHANGE c),
  Act.when (n = 4) (count (F.FBUS_BUS_OFF_C c)),
  Act.when (n = 3) (count (F.FBUS_ERROR_PASSIVE_C c)),
  notify 0 0x20 (c * 2 ^ 24 + n * 65536 + min 255 (s.get (F.FBUS_STATUS_TEC c)) * 256 + s.get (F.FBUS_STATUS_REC c)) []])

/-! ## Frames -/

/-- Data bytes of a DLC (R469). -/
def dlcBytes (fdf : Bool) (dlc : Nat) : Nat :=
  if dlc ≤ 8 then dlc else if fdf then [12, 16, 20, 24, 32, 48, 64].getD (dlc - 9) 64 else 8

/-- LENGTH of a frame: a remote frame carries no data (log entry 50). -/
def CanFrame_len (f : CanFrame) : Nat := if f.rtr then 0 else dlcBytes f.fdf f.dlc

/-- The fields of payload bytes 0 to 7 of R469. -/
def canHead (f : CanFrame) (unmatched tx : Bool) (fseq : Nat) : List Byte :=
  be 4 (b2n f.ide * 2 ^ 31 + b2n f.fdf * 2 ^ 30 + b2n f.brs * 2 ^ 29 + f.ident % 2 ^ 29)
    ++ be 1 (b2n unmatched * 128 + b2n tx * 64 + b2n f.rtr * 32 + b2n f.esi * 16 + f.dlc % 16) ++ be 1 (CanFrame_len f) ++ be 2 fseq

/-- The data of a frame, padded to whole units. -/
def canData (f : CanFrame) : List Byte := fit ((CanFrame_len f + 7) / 8 * 8) (f.data.take (CanFrame_len f))

/-- Arbitration value of a frame under ISO 11898-1: the lower wins. -/
def canRank (f : CanFrame) : Nat :=
  let high := bits f.ident 28 18 * 2 ^ 20
  if f.ide then high + 2 ^ 19 + 2 ^ 18 + bits f.ident 17 0 * 2 + b2n f.rtr else high + b2n f.rtr * 2 ^ 19

/-! ## Sending (R471 to R473) -/

/-- The frame of a send object as its registers give it. -/
def State.canObject (s : State) (c o : Nat) : CanFrame :=
  let fdf := s.is (F.FBUS_OBJ_TX_FDF c o)
  let dlc := s.get (F.FBUS_OBJ_TX_DLC c o)
  { ident := if s.is (F.FBUS_OBJ_CFG_IDE c o) then s.get (F.FBUS_OBJ_CFG_ID c o) else s.get (F.FBUS_OBJ_CFG_ID c o) / 2 ^ 18 * 2 ^ 18
    ide := s.is (F.FBUS_OBJ_CFG_IDE c o), fdf := fdf, brs := fdf && s.is (F.FBUS_OBJ_TX_BRS c o)
    esi := fdf && s.get (F.FBUS_STATUS_STATE c) = 3, dlc := dlc
    data := ((List.range 8).flatMap (fun w => be 8 (s.get (F.FBUS_OBJ_DATA_BYTES c o w)))).take (dlcBytes fdf dlc) }

/-- Every send that could enter arbitration now: pending objects, by index, then the head of the tunnel queue. -/
def State.canCandidates (s : State) (c : Nat) : List CanSend :=
  let u := s.fb c
  ((List.range 128).filter (fun o => s.is (F.FBUS_OBJ_STATUS_PENDING c o))).map (fun o =>
      (u.latched.find? (fun l => l.object = o)).getD { object := o, frame := s.canObject c o })
    ++ (match u.tunnel with | f :: _ => [{ object := 128, frame := f, retries := u.tunnelRetries }] | [] => [])

/-- The candidate that goes first: lowest identifier, then lowest place. -/
def firstSend : List CanSend → Option CanSend
  | [] => none
  | x :: l => match firstSend l with
    | none => some x
    | some y => if canRank y.frame < canRank x.frame then some y else some x

/-- Starts an attempt when the channel may send (R465, R471, R478). A later attempt of a request is a retry (R472). -/
def startAttempt (c : Nat) : Act := .look fun s =>
  let u := s.fb c
  let st := s.get (F.FBUS_STATUS_STATE c)
  if u.sending.isSome || u.mode ≠ 0 || !(st = 2 || st = 3) || s.is (F.FBUS_ABD_BUSY c) || !s.is (F.FBUS_CFG_ENABLE c) then .skip
  else match firstSend (s.canCandidates c) with
    | none => .skip
    | some x => Act.all [
        onFb c (fun u => { u with sending := some x, latched := u.latched.filter (fun l => l.object ≠ x.object) }),
        Act.when (decide (x.retries > 0)) (count (F.FBUS_RETRIES_C c)),
        Act.when (decide (x.object < 128)) (.seq (put (F.FBUS_OBJ_STATUS_TRANSMITTING c x.object) 1)
          (put (F.FBUS_OBJ_STATUS_ATTEMPTS c x.object) (min 255 (x.retries + 1))))]

/-- Ends the request of an object (R473); a request of the same window follows it (R480). -/
def endRequest (c o result : Nat) : Act := .look fun s => Act.all [
  put (F.FBUS_OBJ_STATUS_PENDING c o) 0,
  put (F.FBUS_OBJ_STATUS_TRANSMITTING c o) 0,
  put (F.FBUS_OBJ_STATUS_RESULT c o) result,
  event (F.FBUS_OBJ_STATUS_DONE c o),
  onFb c (fun u => { u with latched := u.latched.filter (fun l => l.object ≠ o), again := u.again.erase o }),
  Act.when ((s.fb c).again.contains o) (put (F.FBUS_OBJ_STATUS_PENDING c o) 1)]

/-- Ends every request that is not on the bus. -/
def endRequests (c result : Nat) : Act := .look fun s =>
  let busy := match (s.fb c).sending with | some x => x.object | none => 129
  Act.each ((List.range 128).filter (fun o => o ≠ busy && s.is (F.FBUS_OBJ_STATUS_PENDING c o))) (fun o => endRequest c o result)

/-- Takes the attempt off the bus without an outcome; its content stays latched. -/
def suspendAttempt (c : Nat) : Act := .look fun s => match (s.fb c).sending with
  | none => .skip
  | some x => .seq (onFb c (fun u => { u with sending := none, latched := if x.object < 128 then x :: u.latched else u.latched }))
      (Act.when (decide (x.object < 128)) (put (F.FBUS_OBJ_STATUS_TRANSMITTING c x.object) 0))

/-! ## Error confinement (R474, R475) -/

/-- Enters bus-off; recovery starts at once when AUTO_RECOVER is 1 (R473, R475). -/
def busOff (c : Nat) : Act := .look fun s => Act.all [
  onFb c (fun u => { u with sending := none }),
  setFbState c 4,
  endRequests c 4,
  Act.when (s.is (F.FBUS_CFG_AUTO_RECOVER c)) (setFbState c 5)]

/-- Error active or error passive, by the counters. -/
def State.errorState (s : State) (c : Nat) : Nat :=
  if s.get (F.FBUS_STATUS_TEC c) ≥ 128 || s.get (F.FBUS_STATUS_REC c) ≥ 128 then 3 else 2

/-- Brings STATE in line with the counters. -/
def confine (c : Nat) : Act := .look fun s =>
  let st := s.get (F.FBUS_STATUS_STATE c)
  if !(st = 2 || st = 3) then .skip
  else if s.get (F.FBUS_STATUS_TEC c) > 255 then busOff c
  else setFbState c (s.errorState c)

/-- Counts an error by its type. -/
def countError (c : Nat) (k : CanErrorKind) : Act := count (match k with
  | .bit => F.FBUS_BIT_ERRORS_C c | .stuff => F.FBUS_STUFF_ERRORS_C c | .form => F.FBUS_FORM_ERRORS_C c
  | .crc => F.FBUS_CRC_ERRORS_C c | .ack => F.FBUS_ACK_ERRORS_C c)

/-- REC after a frame received without error: less one, and from above 127 a value of ISO 11898-1 from 119 to 127. -/
def recGood (c : Nat) : Act := .look fun s =>
  let r := s.get (F.FBUS_STATUS_REC c)
  if r > 127 then .draw fun w => put (F.FBUS_STATUS_REC c) (119 + w.toNat % 9) else put (F.FBUS_STATUS_REC c) (r - 1)

/-! ## Reception (R466 to R469, R476, R479) -/

/-- A register word as it stood when the window began (R480). -/
def State.atStart (s : State) (a : Nat) : Nat := match s.win.old.find? (fun e => e.1 = a) with
  | some e => e.2
  | none => (s.rd a).toNat

/-- The frame's object (R467): the first that matches. -/
def State.canMatch (s : State) (c : Nat) (f : CanFrame) : Option Nat := (List.range 128).find? (fun o =>
  let cfg := s.atStart (F.FBUS_OBJ_CFG_ENABLE c o).addr
  let mask := s.atStart (F.FBUS_OBJ_MASK_MASK c o).addr
  bit cfg 31 && !bit cfg 30 && ((f.ident ^^^ cfg) &&& mask) % 2 ^ 29 = 0 && (!bit mask 31 || bit cfg 29 = f.ide))

/-- Updates an object from a frame (R468). -/
def updateObject (c o stamp : Nat) (f : CanFrame) : Act := .look fun s =>
  let b := fit 64 (f.data.take (CanFrame_len f))
  Act.all [
    put (F.FBUS_OBJ_RX_ID_IDE c o) (b2n f.ide),
    put (F.FBUS_OBJ_RX_ID_FDF c o) (b2n f.fdf),
    put (F.FBUS_OBJ_RX_ID_BRS c o) (b2n f.brs),
    put (F.FBUS_OBJ_RX_ID_ID c o) (f.ident % 2 ^ 29),
    put (F.FBUS_OBJ_STATUS_LENGTH c o) (CanFrame_len f),
    put (F.FBUS_OBJ_STATUS_ESI c o) (b2n f.esi),
    put (F.FBUS_OBJ_STATUS_RTR c o) (b2n f.rtr),
    put (F.FBUS_OBJ_TIME_TIME c o) stamp,
    Act.each (List.range 8) (fun w => put (F.FBUS_OBJ_DATA_BYTES c o w) (num b (8 * w) 8)),
    Act.when (s.is (F.FBUS_OBJ_STATUS_NEW_DATA c o)) (.seq (event (F.FBUS_OBJ_STATUS_MSG_LOST c o)) (count (F.FBUS_MSG_LOST_C c))),
    event (F.FBUS_OBJ_STATUS_NEW_DATA c o)]

/-- The sentence of a frame received, or sent with TX_ECHO (R469). -/
def canSentence (c object stamp : Nat) (f : CanFrame) (unmatched tx : Bool) : Act := .look fun s =>
  originate c object (b2n f.ide * 2048 + bits f.ident 28 18) (if f.rtr then 2 else 1)
    (canHead f unmatched tx (s.fb c).fseq ++ canData f) stamp false

/-- Copies a received frame to the tenants of FBUS_TUNNEL (R479). -/
def tunnelCopies (c stamp : Nat) (f : CanFrame) (unmatched : Bool) : Act := .look fun s =>
  let r := be 8 stamp ++ canHead f unmatched false (s.fb c).fseq ++ canData f
  Act.each ((List.range 32).filter (fun t => (s.get (F.FBUS_TUNNEL_TENANTS c)).testBit t)) (fun t => tunnelRx c t r)

/-- The channel integrates again; its counters stay (R476). -/
def integrateAgain (c : Nat) : Act := .seq (suspendAttempt c) (setFbState c 1)

/-- The channel takes part in the bus. -/
def State.onBus (s : State) (c : Nat) : Bool :=
  decide (c < 2) && s.up && (s.get (F.FBUS_STATUS_STATE c) = 2 || s.get (F.FBUS_STATUS_STATE c) = 3) && !s.is (F.FBUS_ABD_BUSY c)

/-- FBUS_FRAME_RECEIVED (R466 to R469, R479): a frame without error; an FD frame while FD_EN is 0 is a protocol
exception (R461, R476). -/
def fbusFrameReceivedAct (c : Nat) (f : CanFrame) (stamp : Nat) : Act := .look fun s =>
  if !s.onBus c then .skip
  else if f.fdf && !s.is (F.FBUS_CFG_FD_EN c) then Act.all [
    event (F.FBUS_STATUS_PROTOCOL_EXCEPTION c), count (F.FBUS_PROTOCOL_EXCEPTIONS_C c), integrateAgain c]
  else
    let o := s.canMatch c f
    Act.all [
      count (F.FBUS_RX_FRAMES_C c),
      onFb c (fun u => { u with fseq := (u.fseq + 1) % 65536 }),
      Act.when ((s.fb c).mode = 0) (.seq (recGood c) (confine c)),
      (match o with | some o => updateObject c o stamp f | none => count (F.FBUS_RX_UNMATCHED_C c)),
      canSentence c (o.getD 127) stamp f o.isNone false,
      tunnelCopies c stamp f o.isNone]

def execFbusFrameReceived (c : Nat) (f : CanFrame) (stamp : Nat) (s : State) : Host.Outcome State Fault Refusal :=
  .next ((fbusFrameReceivedAct c f stamp).run s)

/-! ## Ends of attempts and errors (R472, R476) -/

/-- Another attempt, or the end of a request whose RETRY_LIMIT is spent. -/
def retrySend (c : Nat) (x : CanSend) : Act := .look fun s =>
  let limit := s.get (F.FBUS_CFG_RETRY_LIMIT c)
  let spent := limit ≠ 15 && decide (x.retries ≥ limit)
  let off := !s.is (F.FBUS_CFG_ENABLE c)
  let next := { x with retries := x.retries + 1 }
  let exhausted := count (F.FBUS_RETRY_EXHAUSTED_C c)
  Act.all [
    onFb c (fun u => { u with sending := none }),
    (if x.object = 128 then
      if spent then .seq exhausted (onFb c (fun u => { u with tunnel := u.tunnel.drop 1, tunnelRetries := 0 }))
      else onFb c (fun u => { u with tunnelRetries := x.retries + 1 })
     else if x.aborted then endRequest c x.object 1
     else if off then endRequest c x.object 5
     else if spent then .seq exhausted (endRequest c x.object 2)
     else .seq (put (F.FBUS_OBJ_STATUS_TRANSMITTING c x.object) 0) (onFb c (fun u => { u with latched := next :: u.latched })))]

/-- A frame leaves whole: the request ends, and with TX_ECHO it is a sentence (R466, R473). -/
def sentFrame (c stamp : Nat) (x : CanSend) : Act := .look fun s => Act.all [
  onFb c (fun u => { u with sending := none }),
  .emit (.canFrame c x.frame.ident (b2n x.frame.ide * 16 + b2n x.frame.fdf * 8 + b2n x.frame.brs * 4 + b2n x.frame.esi * 2 + b2n x.frame.rtr)
    x.frame.data),
  count (F.FBUS_TX_FRAMES_C c),
  put (F.FBUS_STATUS_TEC c) (s.get (F.FBUS_STATUS_TEC c) - 1),
  (if x.object = 128 then .seq (count (F.FBUS_TUNNEL_TX_C c)) (onFb c (fun u => { u with tunnel := u.tunnel.drop 1, tunnelRetries := 0 }))
   else .seq (put (F.FBUS_OBJ_TIME_TIME c x.object) stamp) (endRequest c x.object 0)),
  .look fun s => put (F.FBUS_TUNNEL_STATUS_TXQ_DEPTH c) (s.fb c).tunnel.length,
  Act.when (s.is (F.FBUS_CFG_TX_ECHO c)) (canSentence c (min 127 x.object) stamp x.frame false true),
  confine c]

/-- An error in a frame the device sends: error frame, TEC, another attempt. -/
def failSend (c : Nat) (x : CanSend) (e : CanError) : Act := .look fun s => Act.all [
  countError c e.kind,
  .emit (.canError c),
  put (F.FBUS_STATUS_TEC c) (if e.spared then s.get (F.FBUS_STATUS_TEC c) else min 511 (s.get (F.FBUS_STATUS_TEC c) + 8)),
  retrySend c x,
  .look fun s => put (F.FBUS_TUNNEL_STATUS_TXQ_DEPTH c) (s.fb c).tunnel.length,
  confine c]

/-- After an end: a channel that is disabled releases its pins, else the next attempt starts (R464, R471). -/
def afterFrame (c : Nat) : Act := .look fun s => .seq (onFb c (fun u => { u with again := [] }))
  (if !s.is (F.FBUS_CFG_ENABLE c) then .seq (endRequests c 5) (setFbState c 0) else startAttempt c)

/-- FBUS_ATTEMPT_END (R472). -/
def fbusAttemptEndAct (c : Nat) (out : CanOutcome) : Act := .look fun s =>
  match (s.fb c).sending with
  | none => .skip
  | some x => .seq (match out with
      | .sent stamp => sentFrame c stamp x
      | .lost => .seq (count (F.FBUS_ARB_LOST_C c)) (retrySend c x)
      | .failed e => failSend c x e) (afterFrame c)

def execFbusAttemptEnd (c : Nat) (out : CanOutcome) (s : State) : Host.Outcome State Fault Refusal :=
  .next ((fbusAttemptEndAct c out).run s)

/-- FBUS_BUS_ERROR (R476): by the mode in force. -/
def fbusBusErrorAct (c : Nat) (sending : Bool) (e : CanError) : Act := .look fun s =>
  if !s.onBus c then .skip
  else match (s.fb c).mode, sending, (s.fb c).sending with
    | 0, true, some x => .seq (failSend c x e) (afterFrame c)
    | 0, true, none => .skip
    | 0, false, _ => Act.all [
        countError c e.kind,
        .emit (.canError c),
        put (F.FBUS_STATUS_REC c) (min 255 (s.get (F.FBUS_STATUS_REC c) + if e.heavy then 8 else 1)),
        confine c]
    | 1, _, _ => .seq (countError c e.kind) (integrateAgain c)
    | _, _, _ => countError c e.kind

def execFbusBusError (c : Nat) (sending : Bool) (e : CanError) (s : State) : Host.Outcome State Fault Refusal :=
  .next ((fbusBusErrorAct c sending e).run s)

/-! ## Channel control (R463 to R465, R475) -/

/-- A write to a channel's registers by a tenant with the right (R106, R481); else it is discarded. -/
def fbCommand (c writer : Nat) (a : Act) : Act := .look fun s =>
  if c ≥ 2 then .skip
  else if s.hasRight writer 0x000C0000 then a else writeLost (F.FBUS_STATUS_WRITE_LOST c)

/-- FBUS_ENABLE (R464): a write of FBUS_CFG; a change of MODE waits for bus idle, save in a disabled channel. -/
def fbusEnableAct (c writer : Nat) (value : Word) : Act := fbCommand c writer (.look fun s =>
  let was := s.is (F.FBUS_CFG_ENABLE c)
  let on := getBits value 31 31 = 1
  Act.all [
    put (F.FBUS_CFG_ENABLE c) (b2n on),
    put (F.FBUS_CFG_MODE c) (getBits value 30 29),
    put (F.FBUS_CFG_FD_EN c) (getBits value 28 28),
    put (F.FBUS_CFG_SIC_EN c) (getBits value 27 27),
    put (F.FBUS_CFG_AUTO_RECOVER c) (getBits value 26 26),
    put (F.FBUS_CFG_TX_ECHO c) (getBits value 25 25),
    put (F.FBUS_CFG_TUNNEL_TX_EN c) (getBits value 24 24),
    put (F.FBUS_CFG_RETRY_LIMIT c) (getBits value 23 20),
    Act.when (on && !was && s.up) (Act.all [
      onFb c (fun u => { u with mode := getBits value 30 29 }),
      put (F.FBUS_STATUS_TEC c) 0,
      put (F.FBUS_STATUS_REC c) 0,
      setFbState c 1]),
    Act.when (!on && was) (.seq (endRequests c 5) (Act.when (s.fb c).sending.isNone (setFbState c 0)))])

def execFbusEnable (c writer : Nat) (value : Word) (s : State) : Host.Outcome State Fault Refusal :=
  .next ((adjusts writer (F.FBUS_CFG_ENABLE c) (fbusEnableAct c writer value)).run s)

/-- FBUS_INTEGRATED (R464): 11 recessive bits. -/
def fbusIntegratedAct (c : Nat) : Act := .look fun s =>
  Act.when (decide (c < 2) && s.get (F.FBUS_STATUS_STATE c) = 1)
    (.seq (setFbState c (s.errorState c)) (startAttempt c))

def execFbusIntegrated (c : Nat) (s : State) : Host.Outcome State Fault Refusal := .next ((fbusIntegratedAct c).run s)

/-- FBUS_MODE_CHANGE (R465): at bus idle. -/
def fbusModeChangeAct (c : Nat) : Act := .look fun s =>
  let m := s.get (F.FBUS_CFG_MODE c)
  Act.when (decide (c < 2) && (s.fb c).mode ≠ m) (Act.all [
    Act.when (m ≠ 0) (suspendAttempt c),
    onFb c (fun u => { u with mode := m }),
    startAttempt c])

def execFbusModeChange (c : Nat) (s : State) : Host.Outcome State Fault Refusal := .next ((fbusModeChangeAct c).run s)

/-- FBUS_RECOVER (R475): a write of FBUS_CTRL. -/
def fbusRecoverAct (c writer : Nat) (value : Word) : Act :=
  Act.when (getBits value 0 0 = 1) (fbCommand c writer (.look fun s =>
    Act.when (s.get (F.FBUS_STATUS_STATE c) = 4) (setFbState c 5)))

def execFbusRecover (c writer : Nat) (value : Word) (s : State) : Host.Outcome State Fault Refusal :=
  .next ((adjusts writer (F.FBUS_CTRL_ABD_ADOPT c) (fbusRecoverAct c writer value)).run s)

/-- FBUS_RECOVERY_DONE (R475): 128 occurrences of 11 recessive bits. -/
def fbusRecoveryDoneAct (c : Nat) : Act := .look fun s =>
  Act.when (decide (c < 2) && s.get (F.FBUS_STATUS_STATE c) = 5) (Act.all [
    put (F.FBUS_STATUS_TEC c) 0, put (F.FBUS_STATUS_REC c) 0, setFbState c 2, startAttempt c])

def execFbusRecoveryDone (c : Nat) (s : State) : Host.Outcome State Fault Refusal := .next ((fbusRecoveryDoneAct c).run s)

/-! ## Requests (R471, R473, R480) -/

/-- The object's request ends later in this window. -/
def State.endsPending (s : State) (c o : Nat) : Bool :=
  (match (s.fb c).sending with | some x => x.object = o | none => false)
    && s.pending.any (fun e => match e with | .fbusAttemptEnd d _ | .fbusBusError d true _ => d = c | _ => false)

/-- FBUS_REQUEST (R471): a write of FBUS_OBJ_CTRL. -/
def fbusRequestAct (c o writer : Nat) (value : Word) : Act :=
  Act.when (decide (o < 128) && getBits value 0 0 = 1) (fbCommand c writer (.look fun s =>
    let st := s.get (F.FBUS_STATUS_STATE c)
    if !s.is (F.FBUS_OBJ_CFG_ENABLE c o) || !s.is (F.FBUS_OBJ_CFG_DIR c o) then .skip
    else if s.is (F.FBUS_OBJ_STATUS_PENDING c o) then
      Act.when (s.endsPending c o) (onFb c (fun u => { u with again := o :: u.again }))
    else if s.is (F.FBUS_OBJ_TX_FDF c o) && !s.is (F.FBUS_CFG_FD_EN c) then endRequest c o 3
    else if st = 4 || st = 5 then endRequest c o 4
    else if !s.is (F.FBUS_CFG_ENABLE c) then endRequest c o 5
    else Act.all [put (F.FBUS_OBJ_STATUS_ATTEMPTS c o) 0, put (F.FBUS_OBJ_STATUS_PENDING c o) 1, startAttempt c]))

def execFbusRequest (c o writer : Nat) (value : Word) (s : State) : Host.Outcome State Fault Refusal :=
  .next ((adjusts writer (F.FBUS_OBJ_CTRL_REQUEST c o) (fbusRequestAct c o writer value)).run s)

/-- FBUS_ABORT (R473): a write of FBUS_OBJ_CTRL; a frame on the bus completes or fails first. -/
def fbusAbortAct (c o writer : Nat) (value : Word) : Act :=
  Act.when (decide (o < 128) && getBits value 1 1 = 1) (fbCommand c writer (.look fun s =>
    if s.is (F.FBUS_OBJ_STATUS_TRANSMITTING c o) then
      onFb c (fun u => { u with sending := u.sending.map (fun x => { x with aborted := true }) })
    else Act.when (s.is (F.FBUS_OBJ_STATUS_PENDING c o)) (endRequest c o 1)))

def execFbusAbort (c o writer : Nat) (value : Word) (s : State) : Host.Outcome State Fault Refusal :=
  .next ((adjusts writer (F.FBUS_OBJ_CTRL_ABORT c o) (fbusAbortAct c o writer value)).run s)

/-- A transmit record of R479 as a frame; `none` when it is malformed. -/
def canOfRecord (r : List Byte) : Option CanFrame :=
  let w := num r 8 4
  let f : CanFrame := { ident := w % 2 ^ 29, ide := bit w 31, fdf := bit w 30, brs := bit w 29
                        rtr := bit (num r 12 1) 5, dlc := num r 12 1 % 16 }
  let n := CanFrame_len f
  if r.length = 16 + (n + 7) / 8 * 8 then some { f with data := slice r 16 n } else none

/-- The channel takes a transmit record of a tenant (R479). -/
def State.tunnelTakes (s : State) (c t : Nat) (r : List Byte) : Bool :=
  decide (c < 2) && s.is (F.FBUS_CFG_TUNNEL_TX_EN c) && (t = 0 || (s.get (F.FBUS_TUNNEL_TENANTS c)).testBit t)
    && decide ((s.fb c).tunnel.length < 32) && (canOfRecord r).isSome

/-- Queues a transmit record (R479); an FD frame while FD_EN is 0 ends at once, as a request does (R471). -/
def tunnelQueue (c : Nat) (r : List Byte) : Act := .look fun s => match canOfRecord r with
  | none => .skip
  | some f => Act.when (!f.fdf || s.is (F.FBUS_CFG_FD_EN c)) (Act.all [
      onFb c (fun u => { u with tunnel := u.tunnel ++ [f] }),
      .look fun s => put (F.FBUS_TUNNEL_STATUS_TXQ_DEPTH c) (s.fb c).tunnel.length,
      startAttempt c])

/-! ## Bit-rate detection (R478) -/

/-- ABD_START (R478): a write of FBUS_CTRL; detection begins at the next bus idle. -/
def abdStartAct (c writer : Nat) (value : Word) : Act :=
  Act.when (getBits value 1 1 = 1) (fbCommand c writer (.look fun s => .seq
    (put (F.FBUS_CTRL_ABD_ADOPT c) (getBits value 2 2))
    (if !s.is (F.FBUS_CFG_ENABLE c) || s.get (F.FBUS_CFG_MODE c) < 2 then
      .seq (put (F.FBUS_ABD_RESULT c) 2) (event (F.FBUS_ABD_DONE c))
     else Act.when (!s.is (F.FBUS_ABD_BUSY c))
      (.seq (put (F.FBUS_ABD_BUSY c) 1) (onFb c (fun u => { u with abdAt := s.keep.elapsed }))))))

def execAbdStart (c writer : Nat) (value : Word) (s : State) : Host.Outcome State Fault Refusal :=
  .next ((adjusts writer (F.FBUS_CTRL_ABD_ADOPT c) (abdStartAct c writer value)).run s)

/-- Nominal and data bit rates of the codes of FBUS_ABD, in kbit/s. -/
def nominalRate (n : Nat) : Nat := [125, 250, 500, 800, 1000].getD (n - 1) 125
def dataRate (n : Nat) : Nat := [1000, 2000, 4000, 5000, 8000].getD (n - 1) 1000

/-- Writes the timing of a nominal rate: sample point 80 %, smallest prescaler; the jump width is not given (R463, R478). -/
def adoptNominal (c n : Nat) : Act :=
  let q := 80000 / nominalRate n
  let p := if q > 320 then 2 else 1
  let seg2 := q / p / 5
  .draw fun w => Act.all [
    put (F.FBUS_NBT_NBRP c) (p - 1), put (F.FBUS_NBT_NTSEG1 c) (q / p - seg2 - 2), put (F.FBUS_NBT_NTSEG2 c) (seg2 - 1),
    put (F.FBUS_NBT_NSJW c) (w.toNat % 128)]

/-- Writes the timing of a data rate: smallest prescaler; sample point and jump width are not given. -/
def adoptData (c n : Nat) : Act :=
  let q := 80000 / dataRate n
  let p := if q > 49 then 2 else 1
  let lo := max 1 (q / p - 33)
  let hi := min 16 (q / p - 2)
  .draw fun v => .draw fun w =>
    let seg2 := lo + v.toNat % (hi + 1 - lo)
    Act.all [
      put (F.FBUS_DBT_DBRP c) (p - 1), put (F.FBUS_DBT_DTSEG1 c) (q / p - seg2 - 2), put (F.FBUS_DBT_DTSEG2 c) (seg2 - 1),
      put (F.FBUS_DBT_DSJW c) (w.toNat % 16)]

/-- ABD_DONE (R478): no frame only after 2 s; with ABD_ADOPT the channel takes the timing and starts again. -/
def abdDoneAct (c : Nat) (found : AbdFound) : Act := .look fun s =>
  let finish := fun r n d => Act.all [
    put (F.FBUS_ABD_BUSY c) 0, put (F.FBUS_ABD_RESULT c) r, put (F.FBUS_ABD_NOMINAL_RATE c) n, put (F.FBUS_ABD_DATA_RATE c) d,
    event (F.FBUS_ABD_DONE c)]
  if !s.is (F.FBUS_ABD_BUSY c) then .skip
  else match found with
    | .noFrame => Act.when (s.keep.elapsed ≥ (s.fb c).abdAt + 2 * tickS) (finish 1 0 0)
    | .noCandidate => finish 3 0 0
    | .rate n d => Act.when (decide (1 ≤ n) && decide (n ≤ 5) && decide (d ≤ 5)) (.seq (finish 0 n d)
        (Act.when (s.is (F.FBUS_CTRL_ABD_ADOPT c)) (Act.all [
          endRequests c 5,
          setFbState c 0,
          adoptNominal c n,
          Act.when (d ≠ 0) (adoptData c d),
          Act.when (s.is (F.FBUS_CFG_ENABLE c)) (Act.all [
            put (F.FBUS_STATUS_TEC c) 0,
            put (F.FBUS_STATUS_REC c) 0,
            setFbState c 1])])))

def execAbdDone (c : Nat) (found : AbdFound) (s : State) : Host.Outcome State Fault Refusal :=
  .next ((abdDoneAct c found).run s)

end Sys2Proof.Machine
end

