-- ==== Sys2Proof/Machine/Clock.lean ====
section
/-! DEFINITION. The time base: domains, time quality, the servo and its sources, references, the switch to the D1
parent, holdover, conversion segments, and writing time (R386 to R392, R403 to R421, R426, R428, R623). -/

namespace Sys2Proof.Machine

/-- Changes the time system's state. -/
def onTime (f : TimeUnit → TimeUnit) : Act := .units fun u => { u with time := f u.time }

/-- Changes one PTP instance. -/
def onInst (i : Nat) (f : PtpInst → PtpInst) : Act :=
  onTime fun t => if i = 0 then { t with inst0 := f t.inst0 } else { t with inst1 := f t.inst1 }

/-! ## Topology and sources (R394, R404, R558) -/

/-- The topology section, empty when none is loaded. -/
def State.topology (s : State) : Topology := s.units.topo.getD {}

/-- Ring port of the parent of a domain; 8 and above for none. -/
def State.parent (s : State) (k : Nat) : Nat := if k = 0 then s.topology.parentD0 else s.topology.parentD1

/-- The device takes D0 from no other: a live root, or a device without a D0 parent. -/
def State.rootLike (s : State) : Bool := decide (s.parent 0 ≥ 8)

/-- A live root names a reference: bit 0 REF10M, bit 1 PPS_IN. -/
def State.names (s : State) (b : Nat) : Bool := s.topology.kind = 1 && s.topology.rootRef.testBit b

/-- Every reference the root names is valid. -/
def State.refsValid (s : State) : Bool :=
  (!s.names 0 || s.is F.TIM_REF_STATUS_REF10M_VALID) && (!s.names 1 || s.is F.TIM_REF_STATUS_PPS_VALID)

/-- None of the references the root names is valid, and it names one. -/
def State.refsGone (s : State) : Bool :=
  (s.names 0 || s.names 1) && !(s.names 0 && s.is F.TIM_REF_STATUS_REF10M_VALID)
    && !(s.names 1 && s.is F.TIM_REF_STATUS_PPS_VALID)

/-- Ring port that serves a domain now. -/
def State.source (s : State) (k : Nat) : Nat := s.get (if k = 0 then F.TIM_PARENT_SOURCE_D0 else F.TIM_PARENT_SOURCE_D1)

/-- SERVO_STATE (R403). -/
def State.servo (s : State) : Nat := s.get F.TIM_STATUS_SERVO_STATE

/-- A ring port carries 1588 and ESMC messages (R394, R537, R557, R558). -/
def State.timePort (s : State) (r : Nat) : Bool :=
  decide (r < 8) && s.up && !s.fenced && s.ringUp r && s.is (F.SUP_PEER_W0_EXCHANGED r) && !s.is (F.SUP_PEER_W0_MISWIRED r)

/-- TQ last received from the peer of a ring port for a domain. -/
def State.peerTq (s : State) (r k : Nat) : Nat :=
  s.get (if k = 0 then F.TIM_PORT_STATUS_PEER_TQ_D0 r else F.TIM_PORT_STATUS_PEER_TQ_D1 r)

/-- TQ of the source D0 follows: of the D1 parent's D1 after a switch. -/
def State.sourceTq (s : State) : Nat := s.peerTq (s.source 0) (if s.servo = 5 then 1 else 0)

/-! ## Time quality (R403, R406, R408 to R410, R415, R419) -/

/-- The rms of 64 offsets is at most 2 ps. -/
def quiet (l : List Int) : Bool :=
  l.length = 64 && decide ((l.map (fun o => o * o)).sum * 1000000 ≤ 64 * 524288 * 524288)

/-- Quality of a domain tracked through a ring port. -/
def State.trackedTq (s : State) (port peer : Nat) (offsets : List Int) : Nat :=
  min peer (if s.is F.TIM_STATUS_WARM && s.is (F.TIM_PORT_CFG_CALIBRATED port) && peer = 3 && quiet offsets then 3 else 2)

/-- Seconds as elapsed ticks since an instant have passed. -/
def State.passed (s : State) (since seconds : Nat) : Bool := decide (s.keep.elapsed ≥ since + seconds * tickS)

/-- Quality of D0 at a root that tracks (R408, R409). -/
def State.rootTq (s : State) : Nat :=
  if !s.is F.TIM_STATUS_WARM || (s.names 0 && !s.is F.TIM_REF_STATUS_REF10M_VALID) then 2
  else if s.names 1 && !s.is F.TIM_REF_STATUS_PPS_VALID then
    match s.units.time.ppsLostAt with
    | some t => if s.passed t (s.get F.TIM_HOLDOVER_HOLDOVER_LIMIT_S) then 2 else 3
    | none => 2
  else 3

/-- Quality of D0 as it stands. -/
def State.tq0 (s : State) : Nat :=
  match s.servo with
  | 0 | 1 => 0
  | 2 => 1
  | 4 =>
    if !s.passed s.units.time.since (s.get F.TIM_HOLDOVER_HOLDOVER_TQ2_S) then 2
    else if !s.passed s.units.time.since (s.get F.TIM_HOLDOVER_HOLDOVER_LIMIT_S) then 1 else 0
  | 3 => if s.rootLike then s.rootTq else s.trackedTq (s.source 0) s.sourceTq s.units.time.inst0.offsets
  | _ => s.trackedTq (s.source 0) s.sourceTq s.units.time.inst0.offsets

/-- Quality of a domain as it stands (R419). -/
def State.tq (s : State) (k : Nat) : Nat :=
  match k with
  | 1 =>
    if s.source 1 ≥ 8 then (if s.parent 1 ≥ 8 then s.tq0 else 0)
    else match s.units.time.inst1.phase with
      | 0 => 0
      | 3 => s.trackedTq (s.source 1) (s.peerTq (s.source 1) 1) s.units.time.inst1.offsets
      | _ => 1
  | 2 => if s.is F.TIM_STATUS_WARM && !s.units.time.saturated.contains (s.units.d0 / tickS) then 1 else 0
  | _ => s.tq0

/-- Shown quality of a domain. -/
def tqField (k : Nat) : Field := ⟨F.TIM_STATUS_TQ_D0.addr, 2 * k + 1, 2 * k⟩

/-! ## Events (R426) -/

/-- Raises a time-system event: a sentence and a chronicle entry. -/
def timeEvent (code dom : Nat) (value : Int) (old new port : Nat) : Act := .look fun s =>
  let b := be 8 (enc 64 value) ++ be 1 dom ++ be 1 old ++ be 1 new ++ be 1 (if port < 8 then port else 255) ++ zeros 4
  .seq (originate 5 code 0 1 b s.now false) (chronicle 0x05 none 0 b)

/-- An event of a domain, with its quality as shown and as it now stands. -/
def domainEvent (code dom : Nat) (value : Int) : Act := .look fun s =>
  timeEvent code dom value (s.domainTq dom) (s.tq dom) (if dom < 2 then s.source dom else 255)

/-- Brings TIM_STATUS up to date; each change of quality is an event (R419, R426). NO_REDUNDANCY ends once D1 reaches
TQ 0x3 on a port of its own (R414). -/
def refreshTq : Act := Act.all [
  Act.each (List.range 4) (fun k => .look fun s =>
    Act.when (s.tq k ≠ s.domainTq k) (.look fun s =>
      let old := s.domainTq k
      let new := s.tq k
      .seq (.seq (put (tqField k) new)
          (Act.when (k = 0) (.units fun u => { u with tqLog := (s.now, old) :: u.tqLog }))) (timeEvent 8 k 0 old new (if k < 2 then s.source k else 255)))),
  .look fun s => Act.when (s.source 1 < 8 && s.source 1 ≠ s.source 0 && s.domainTq 1 = 3)
    (put F.TIM_STATUS_NO_REDUNDANCY 0)]

/-! ## Domains (R389, R410, R418) -/

/-- A domain's time less D0's at a D0 time. -/
def Line.at (l : Line) (t : Nat) : Int := l.off + l.rate * ((t : Int) - (l.ref : Int)) / (2 ^ 48 : Nat)

/-- The line taken from a D0 time on with another rate. -/
def Line.turn (l : Line) (t : Nat) (rate : Int) : Line := { off := l.at t, ref := t, rate := rate }

/-- A domain's time less D0's, in ticks, at a D0 time. -/
def State.domainOff (s : State) (dom t : Nat) : Int :=
  match dom with
  | 1 => if s.parent 1 ≥ 8 then 0 else (s.units.time.line1.at t + 128) / 256
  | 2 => s.units.time.line2.at t
  | 3 => s.units.time.line3.at t
  | _ => 0

/-- Present time of a domain in ticks since its epoch. -/
def State.domainNow (s : State) (dom : Nat) : Int := s.units.d0 + s.domainOff dom s.units.d0

/-- Clears what a PTP instance has gathered. -/
def PtpInst.restart (i : PtpInst) : PtpInst :=
  { i with sync := none, pair := none, req := none, fresh := [], offsets := [], outliers := 0 }

/-- Keeps a segment of a domain among its 32; it replaces those that begin no earlier (R167, R623). -/
def keepSegment (dom ref : Nat) (off rate : Int) : Act := .units fun u =>
  let l := Sparse.get (fun _ => []) u.segs dom
  let g : ConvSeg := { ref := ref % 2 ^ 64, offset := off, rate := rate }
  let kept := (g :: l.filter (fun x => decide (dif x.ref g.ref < 0))).take 32
  { u with segs := Sparse.set (fun _ => []) u.segs dom kept }

/-- Rate of D2 against D0 for a rate `r` of D0 against the resonator, both in 2^-48. -/
def resonatorRate (r : Int) : Int := -(r * (2 ^ 48 : Nat)) / ((2 ^ 48 : Nat) + r)

/-- A rate within the 32 bits of a segment (R418). -/
def clampRate (r : Int) : Int := max (-2147483648) (min 2147483647 r)

/-- Publishes a domain's segment for a D0 boundary (R418). -/
def publish (dom b : Nat) (rate : Int) : Act := .look fun s =>
  let off := s.domainOff dom b
  Act.all [
    keepSegment dom b off rate,
    put (F.TIM_SEGMENT_VALUE dom 0) (b % 2 ^ 64),
    put (F.TIM_SEGMENT_VALUE dom 1) (enc 64 off),
    put (F.TIM_SEGMENT_VALUE dom 2) (enc 32 rate)]

/-- SEGMENT_PUBLISH (R418): for the next D0 second boundary. -/
def segmentPublishAct : Act := .look fun s =>
  let b := (s.units.d0 / tickS + 1) * tickS
  let r2 := resonatorRate (sgn 48 (s.get F.TIM_RATE_RATE))
  let r3 := sgn 32 (s.get (F.TIM_DOMAIN_RATE_RATE 3))
  let clamped := decide (clampRate r2 ≠ r2)
  Act.when (s.up && s.units.time.published ≠ some b) (Act.all [
    onTime (fun t => { t with published := some b, saturated := (if clamped then [b / tickS] else []) ++ t.saturated.filter (· + 1 = b / tickS), line2 := t.line2.turn b (clampRate r2),
                              line3 := t.line3.turn b r3 }),
    publish 1 b (if s.parent 1 ≥ 8 then 0 else clampRate (s.units.time.line1.rate / 256)),
    publish 2 b (clampRate r2),
    publish 3 b r3,
    Act.when clamped (count F.TIM_SEGMENTS_SATURATED_C),
    refreshTq])

def execSegmentPublish (s : State) : Host.Outcome State Fault Refusal := .next (segmentPublishAct.run s)

/-! ## Steps (R405, R428) -/

/-- Publishes the coming boundary's segments again, when they were published before a change (R428, R623). -/
def republish : Act := .look fun s => Act.when s.units.time.published.isSome
  (.seq (onTime fun t => { t with published := none }) segmentPublishAct)

/-- Steps D0 by whole ticks; D1 and D2 keep their time (R405, R410). Segments of the coming boundary are computed
again (R428). -/
def stepD0 (δ : Int) : Act :=
  let move := fun l : Line => { l with ref := ((l.ref : Int) + δ).toNat }
  Act.all [
    .units (fun u => { u with d0 := ((u.d0 : Int) + δ).toNat }),
    onTime (fun t => { t with
      line1 := { move t.line1 with off := t.line1.off - 256 * δ }, line2 := { move t.line2 with off := t.line2.off - δ }
      line3 := move t.line3, ppsOut := [], syncSent := []
      sets := t.sets.map (fun e => (e.1, e.2.map (fun c => { c with met := c.met.map (· + δ) }))) }),
    republish,
    event F.TIM_STATUS_STEPPED,
    count F.TIM_STEPS_C,
    domainEvent 0 0 δ]

/-! ## The servo (R403 to R406) -/

/-- Enters a state of the servo. -/
def enterServo (n : Nat) : Act := .look fun s => .seq (put F.TIM_STATUS_SERVO_STATE n)
  (onTime fun t => { t with since := s.keep.elapsed })

/-- Enters HOLDOVER (R415): no sample of the lost source is used any more (R412). -/
def enterHoldover : Act := Act.all [
  enterServo 4,
  onInst 0 PtpInst.restart,
  put F.TIM_PARENT_SOURCE_D0 255,
  put F.TIM_STATUS_D0_FROM_D1 0,
  event F.TIM_STATUS_HOLDOVER_ENTERED,
  count F.TIM_HOLDOVERS_C,
  domainEvent 6 0 0,
  refreshTq]

/-- Leaves HOLDOVER for a source; the error is removed by rate only (R417). -/
def leaveHoldover (state port : Nat) : Act := .look fun s =>
  let error := match s.units.time.inst0.fresh with | o :: _ => o / 256 | [] => 0
  Act.all [
    enterServo state,
    put F.TIM_PARENT_SOURCE_D0 port,
    put F.TIM_STATUS_D0_FROM_D1 (b2n (state = 5)),
    Act.when (state = 5) (put F.TIM_STATUS_NO_REDUNDANCY 1),
    domainEvent 7 0 error,
    refreshTq]

/-- Mean of a list, rounded down. -/
def mean (l : List Int) : Int := l.sum / (max 1 l.length : Nat)

/-- D0 − D1 over the 16 D1 exchanges before an elapsed time (R412). -/
def State.delta (s : State) (before : Nat) : Int :=
  mean (((s.units.time.inst1.diffs.filter (fun d => decide (d.1 ≤ before))).take 16).map (·.2))

/-- Starts an instance on another port. -/
def moveD1 (port : Nat) : Act := .seq (put F.TIM_PARENT_SOURCE_D1 port)
  (onInst 1 (fun i => { i.restart with phase := 0, diffs := [] }))

/-- Step 2 of R412: D0 follows the D1 parent with its difference held; D1 moves to ALT_D1 when that names a port
(R414). -/
def switchToD1 : Act := .look fun s =>
  let Δ := s.delta s.units.time.inst0.sampleAt
  let alt := s.get F.TIM_PARENT_ALT_D1
  Act.all [
    put F.TIM_DELTA_DELTA (enc 64 Δ),
    put F.TIM_PARENT_SOURCE_D0 (s.source 1),
    enterServo 5,
    onTime (fun t => { t with inst0 := { t.inst0.restart with offsets := t.inst1.offsets, syncAt := t.inst1.syncAt,
                                                              sampleAt := t.inst1.sampleAt } }),
    put F.TIM_STATUS_D0_FROM_D1 1,
    put F.TIM_STATUS_NO_REDUNDANCY 1,
    event F.TIM_STATUS_SWITCHED,
    count F.TIM_SWITCHES_C,
    domainEvent 4 0 Δ,
    Act.when (decide (alt < 8)) (moveD1 alt),
    refreshTq]

/-- Elapsed ticks of one sync interval (R393). -/
def State.syncInterval (s : State) : Nat := tickS / 2 ^ (-(sgn 8 (s.get F.TIM_PTP_CFG_LOG_SYNC_INTERVAL))).toNat

/-- The time without a valid Sync that loses a source (R411). -/
def State.lossTime (s : State) : Nat := s.get F.TIM_SERVO_CFG_LOSS_INTERVALS * s.syncInterval

/-- A ring port that serves an instance has been lost: its link, its Sync, or its quality (R411). -/
def State.portLost (s : State) (r : Nat) (i : PtpInst) (peer : Nat) : Bool :=
  (!s.ringUp r && decide (s.keep.elapsed ≥ (s.link (256 + r)).downSince + 10 * tickUs))
    || decide (s.keep.elapsed ≥ i.syncAt + s.lossTime) || decide (peer < 2)

/-- The D1 source is lost (R410, R411). -/
def State.d1Lost (s : State) : Bool :=
  decide (s.source 1 < 8) && decide (s.units.time.inst1.phase ≥ 1)
    && s.portLost (s.source 1) s.units.time.inst1 (s.peerTq (s.source 1) 1)

/-- The loss of the D1 source comes later in this window (R428). -/
def State.d1LossPending (s : State) : Bool :=
  s.d1Lost && s.pending.any (fun c => match c with | .d1SourceLoss => true | _ => false)

/-- A REACQUIRE of T0 stands in this window, before or after (R428). -/
def State.reacquires (s : State) : Bool :=
  let f := F.TIM_CTRL_REACQUIRE
  s.win.marks.contains (6, 0) || s.coming.any (fun c => match c with
    | .reacquire t v => t = 0 && getBits v 31 16 = 0xA5C3 && getBits v 0 0 = 1
    | _ => match s.writeIn c with
      | some w => w.writer = 0 && w.field f.addr 4 31 16 = some 0xA5C3 && w.field f.addr 4 0 0 = some 1
      | none => false)

/-- What the loss of the D0 source leads to (R411, R412). -/
def loseD0 : Act := .look fun s =>
  if s.reacquires then .skip
  else if s.servo = 1 ∨ s.servo = 2 then Act.all [
    enterServo 0, put F.TIM_PARENT_SOURCE_D0 255, onInst 0 PtpInst.restart, onTime (fun t => { t with stepped := false }), refreshTq]
  else if s.servo = 3 ∧ s.source 1 < 8 ∧ s.tq 1 ≥ 2 ∧ !s.d1LossPending then switchToD1
  else Act.when (s.servo = 3 || s.servo = 5) enterHoldover

/-- D0_SOURCE_LOSS (R411, R412): of a source port. -/
def d0SourceLossAct : Act := .look fun s =>
  Act.when (decide (s.source 0 < 8) && (if s.servo = 1 || s.servo = 2 then !s.timePort (s.source 0)
      else s.portLost (s.source 0) s.units.time.inst0 s.sourceTq))
    loseD0

def execD0SourceLoss (s : State) : Host.Outcome State Fault Refusal := .next (d0SourceLossAct.run s)

/-- What the loss of the D1 source leads to: the estimate has no source until one comes back (R410). -/
def loseD1 : Act := Act.all [
  onInst 1 (fun i => { i.restart with phase := 0 }),
  put F.TIM_STATUS_NO_REDUNDANCY 1,
  domainEvent 0x0B 1 0,
  refreshTq]

/-- D1_SOURCE_LOSS (R410, R426). -/
def d1SourceLossAct : Act := .look fun s => Act.when s.d1Lost loseD1

def execD1SourceLoss (s : State) : Host.Outcome State Fault Refusal := .next (d1SourceLossAct.run s)

/-- A fence notice or a declaration of death names a device: its ports are lost as sources (R411). -/
def sourceDead (d : Nat) : Act := .look fun s => Act.all [
  Act.when (decide (s.source 1 < 8) && s.get (F.SUP_PEER_W0_DEVICE (s.source 1)) = d) loseD1,
  Act.when (decide (s.source 0 < 8) && s.get (F.SUP_PEER_W0_DEVICE (s.source 0)) = d) loseD0]

/-- A ring port reset of R519 counts as the loss of its port. -/
def sourcePortLost (r : Nat) : Act := .look fun s => Act.all [
  Act.when (s.source 1 = r) loseD1, Act.when (s.source 0 = r) loseD0]

/-- One nanosecond in 2^-8 ticks. -/
def oneNs : Int := 262144

/-- SERVO_ACQUISITION_STEP (R404, R417): of a device with a D0 parent. -/
def servoAcquisitionStepAct : Act := .look fun s =>
  let p := s.parent 0
  let i := s.units.time.inst0
  if s.rootLike || !s.up then .skip
  else match s.servo with
    | 0 => Act.when (s.timePort p) (Act.all [
        put F.TIM_PARENT_SOURCE_D0 p, onInst 0 PtpInst.restart, onTime (fun t => { t with stepped := false }), enterServo 1, refreshTq])
    | 1 => Act.when (s.timePort p && decide (s.keep.elapsed ≥ s.units.time.since + 100 * tickMs))
        (Act.all [put F.TIM_PARENT_SOURCE_D0 p, onInst 0 (fun i => { i with fresh := [] }), enterServo 2, refreshTq])
    | 2 =>
      if !s.units.time.stepped then Act.when (decide (s.peerTq p 0 ≥ 2) && i.fresh.length = 8) (Act.all [
        stepD0 (-(mean i.fresh) / 256),
        onTime (fun t => { t with stepped := true }),
        onInst 0 PtpInst.restart])
      else Act.when (decide (i.fresh.length ≥ 4) && (i.fresh.take 4).all (fun o => decide (-oneNs ≤ o) && decide (o ≤ oneNs)))
        (.seq (enterServo 3) refreshTq)
    | 4 =>
      if s.timePort p && decide (s.peerTq p 0 ≥ 2) && !i.fresh.isEmpty then leaveHoldover 3 p
      else Act.when (decide (s.source 1 < 8) && s.timePort (s.source 1) && decide (s.tq 1 ≥ 2)) (.seq
        (put F.TIM_DELTA_DELTA (enc 64 (s.delta s.keep.elapsed))) (leaveHoldover 5 (s.source 1)))
    | _ => refreshTq

def execServoAcquisitionStep (s : State) : Host.Outcome State Fault Refusal := .next (servoAcquisitionStepAct.run s)

/-! ## Writing time (R421, R623) -/

/-- The waiting commit of a domain. -/
def State.timeSet (s : State) (dom : Nat) : Option TimeSet := Sparse.get (fun _ => none) s.units.time.sets dom

/-- Replaces the waiting commit of a domain. -/
def setTimeSet (dom : Nat) (v : Option TimeSet) : Act := onTime fun t => { t with sets := Sparse.set (fun _ => none) t.sets dom v }

/-- Applies a value to an instant of D0, and reports the commit applied (R421, R623). -/
def applyTime (dom value : Nat) (inst : Int) : Act := .look fun s =>
  let t := inst.toNat
  let off := (value : Int) - inst
  let l := if dom = 2 then s.units.time.line2 else s.units.time.line3
  let new : Line := { off := off, ref := t, rate := l.rate }
  Act.all [
    (match dom with
      | 0 => Act.all [stepD0 off, put F.TIM_STATUS_SECONDS_SET 1, enterServo 3, refreshTq]
      | 2 => Act.all [onTime (fun x => { x with line2 := new }), keepSegment 2 t off l.rate, republish,
          domainEvent 2 2 (off - l.at t)]
      | _ => Act.all [onTime (fun x => { x with line3 := new }), keepSegment 3 t off l.rate, republish,
          domainEvent 3 3 off]),
    setTimeSet dom none,
    put (F.TIM_SET_STATUS_PENDING dom) 0,
    put (F.TIM_SET_STATUS_RESULT dom) 0,
    event (F.TIM_SET_STATUS_DONE dom)]

/-- D0 may take a commit now: it acquires phase, or has no source (R408, R421). -/
def State.takesSeconds (s : State) (dom : Nat) : Bool := dom ≠ 0 || s.servo = 2 || s.servo = 4

/-- Staged value of a domain in ticks. -/
def State.stagedTime (s : State) (dom : Nat) : Nat :=
  s.get (F.TIM_SET_SEC_SECONDS dom) * tickS + s.get (F.TIM_SET_FRAC_NANOSECONDS dom) * tickNs + s.get (F.TIM_SET_FRAC_SUBNS dom) / 64

/-- The writer may commit to a domain (R421). -/
def State.maySet (s : State) (dom writer : Nat) : Bool := writer = 0 || (dom = 3 && writer = s.get F.TIM_CTRL_D3_OWNER)

/-- RESULT of a commit: checks in the order 0x1, 0x4, 0x2, 0x3 (R421). -/
def State.setResult (s : State) (dom writer : Nat) (value : Word) : Nat :=
  if !s.maySet dom writer || getBits value 31 16 ≠ 0xA5C3 then 1
  else if s.is (F.TIM_SET_STATUS_PENDING dom) then 4
  else if dom = 1 || (dom = 0 && !(s.rootLike && decide (s.tq0 ≤ 1))) then 2
  else if s.get (F.TIM_SET_FRAC_NANOSECONDS dom) ≥ 1000000000 then 3
  else 0

/-- TIM_SET_APPLY (R421): at the boundary of the domain, or at the edge less its cable delay. -/
def timSetApplyAct (dom : Nat) : Act := .look fun s =>
  match s.timeSet dom with
  | none => .skip
  | some c =>
    if !s.takesSeconds dom then .skip
    else if c.edge then match c.met with
      | some e => applyTime dom c.value e
      | none => .skip
    else
      let late := s.domainNow dom - c.at_
      Act.when (decide (late ≥ 0)) (applyTime dom c.value (s.units.d0 - late))

def execTimSetApply (dom : Nat) (s : State) : Host.Outcome State Fault Refusal := .next ((timSetApplyAct dom).run s)

/-- A commit judged, and accepted or refused (R421). -/
def judgeSet (dom writer : Nat) (value : Word) : Act := .look fun s =>
  let r := s.setResult dom writer value
  let second := getBits value 1 1 = 1
  let now := s.domainNow dom
  .seq (Act.when (s.maySet dom writer && !s.is (F.TIM_SET_STATUS_PENDING dom)) (put (F.TIM_SET_CTRL_AT_SECOND dom) (b2n second)))
    (if r ≠ 0 then .seq (put (F.TIM_SET_STATUS_RESULT dom) r) (event (F.TIM_SET_STATUS_DONE dom))
     else if !second && s.takesSeconds dom then applyTime dom (s.stagedTime dom) s.units.d0
     else .seq (put (F.TIM_SET_STATUS_PENDING dom) 1) (setTimeSet dom (some {
       value := s.stagedTime dom, at_ := if second then (now / tickS + 1) * tickS else now, edge := second && s.names 1,
       since := s.keep.elapsed })))

/-- TIM_SET_COMMIT (R421): a write of TIM_SET_CTRL with COMMIT. At the boundary of a pending commit it counts as written
after that (R577). -/
def timSetCommitAct (dom writer : Nat) (value : Word) : Act :=
  Act.when (decide (dom < 4) && getBits value 0 0 = 1) (.seq (timSetApplyAct dom) (judgeSet dom writer value))

def execTimSetCommit (dom writer : Nat) (value : Word) (s : State) : Host.Outcome State Fault Refusal :=
  .next ((adjusts writer (F.TIM_SET_CTRL_AT_SECOND dom) (timSetCommitAct dom writer value)).run s)

/-- An accepted PPS_IN edge at a D0 time is the instant of the commits that wait for one, but for those of its own window
(R428). -/
def meetEdge (at_ : Int) : Act := .look fun s => Act.each [0, 2, 3] (fun dom => match s.timeSet dom with
  | some c => Act.when (c.edge && c.met.isNone && c.since ≠ s.keep.elapsed)
      (setTimeSet dom (some { c with met := some (at_ - (s.get F.TIM_REF_CFG_PPS_CABLE_DELAY : Nat)) }))
  | none => .skip)

/-! ## Roots and references (R407 to R409) -/

/-- ROOT_ACQUISITION_STEP (R408, R417): of a root, or of a device that behaves as one. -/
def rootAcquisitionStepAct : Act := .look fun s =>
  if !s.rootLike || !s.up || s.unconfigured then .skip
  else match s.servo with
    | 0 => Act.when (!s.names 0 || s.is F.TIM_REF_STATUS_REF10M_VALID) (.seq (enterServo 1) refreshTq)
    | 1 => Act.when (!s.names 0 || s.is F.TIM_REF_STATUS_REF10M_VALID) (.seq (enterServo 2) refreshTq)
    | 2 => timSetApplyAct 0
    | 4 => Act.when (!s.refsGone) (leaveHoldover 3 255)
    | _ => refreshTq

def execRootAcquisitionStep (s : State) : Host.Outcome State Fault Refusal := .next (rootAcquisitionStepAct.run s)

/-- A reference is lost (R407, R409): bit 0 REF10M, bit 1 PPS_IN. A root that acquires and has no reference left is FREE
(R403). -/
def loseRef (b : Nat) : Act := .look fun s => Act.all [
  put (if b = 0 then F.TIM_REF_STATUS_REF10M_VALID else F.TIM_REF_STATUS_PPS_VALID) 0,
  onTime (fun t => if b = 0 then { t with refLostAt := some s.keep.elapsed }
    else { t with ppsLostAt := some s.keep.elapsed, ppsSince := none }),
  event F.TIM_STATUS_REF_LOST,
  count F.TIM_REF_LOSSES_C,
  domainEvent 9 0 ((2 ^ b : Nat) : Int),
  .look fun s =>
    if s.rootLike && s.servo = 3 && s.refsGone then enterHoldover
    else if s.rootLike && (s.servo = 1 || s.servo = 2) && s.refsGone then .seq (enterServo 0) refreshTq
    else refreshTq]

/-- REF10M_LOSS (R407). -/
def ref10mLossAct : Act := .look fun s => Act.when (s.is F.TIM_REF_STATUS_REF10M_VALID) (loseRef 0)

def execRef10mLoss (s : State) : Host.Outcome State Fault Refusal := .next (ref10mLossAct.run s)

/-- A PPS_IN edge lies where it is accepted (R407). -/
def State.ppsGood (s : State) (stamp : Nat) : Bool :=
  let x := ((s.units.d0 : Int) + dif stamp s.now - (s.get F.TIM_REF_CFG_PPS_CABLE_DELAY : Nat)) % (tickS : Nat)
  decide (s.servo < 3) || decide (x ≤ (100 * tickNs : Nat)) || decide (x ≥ (tickS - 100 * tickNs : Nat))

/-- 1.5 s have passed without an accepted PPS_IN edge. -/
def State.ppsSilent (s : State) : Bool := match s.units.time.ppsAt with
  | some t => decide (2 * (s.keep.elapsed - t) ≥ 3 * tickS)
  | none => true

/-- PPS_IN_EDGE (R407): accepted or rejected; the third rejection in a row is a loss. -/
def ppsInEdgeAct (stamp : Nat) : Act := .look fun s =>
  let t := s.units.time
  if !s.up then .skip
  else if s.ppsGood stamp then Act.all [
    put F.TIM_REF_PPS_LAST_TIME stamp,
    onTime (fun x => { x with
      ppsAt := some s.keep.elapsed, ppsSince := if s.ppsSilent then some s.keep.elapsed else some (x.ppsSince.getD s.keep.elapsed)
      rejects := 0 }),
    meetEdge ((s.units.d0 : Int) + dif stamp s.now),
    Act.when t.ppsLostAt.isNone (put F.TIM_REF_STATUS_PPS_VALID 1),
    refreshTq]
  else Act.all [
    count F.TIM_PPS_REJECTED_C,
    onTime (fun x => { x with rejects := x.rejects + 1, ppsSince := if s.is F.TIM_REF_STATUS_PPS_VALID then x.ppsSince else none }),
    Act.when (s.is F.TIM_REF_STATUS_PPS_VALID && decide (t.rejects ≥ 2)) (loseRef 1)]

def execPpsInEdge (stamp : Nat) (s : State) : Host.Outcome State Fault Refusal := .next ((ppsInEdgeAct stamp).run s)

/-- PPS_IN_LOSS (R407): 1.5 s without an accepted edge. -/
def ppsInLossAct : Act := .look fun s => Act.when (s.is F.TIM_REF_STATUS_PPS_VALID && s.ppsSilent) (loseRef 1)

def execPpsInLoss (s : State) : Host.Outcome State Fault Refusal := .next (ppsInLossAct.run s)

/-- REFERENCE_RESTORED (R407): valid again after 10 s of validity. -/
def referenceRestoredAct (pps : Bool) : Act := .look fun s =>
  let t := s.units.time
  let valid := if pps then F.TIM_REF_STATUS_PPS_VALID else F.TIM_REF_STATUS_REF10M_VALID
  let lost := if pps then t.ppsLostAt else t.refLostAt
  let since := if pps then t.ppsSince else some (lost.getD 0)
  let ready := match lost, since with
    | none, _ => !pps
    | some _, some x => s.passed x 10 && !(pps && s.ppsSilent)
    | some _, none => false
  Act.when (s.up && !s.is valid && ready) (Act.all [
    put valid 1,
    onTime (fun x => if pps then { x with ppsLostAt := none } else { x with refLostAt := none }),
    Act.when lost.isSome (domainEvent 0x0A 0 (if pps then 2 else 1)),
    refreshTq])

def execReferenceRestored (pps : Bool) (s : State) : Host.Outcome State Fault Refusal :=
  .next ((referenceRestoredAct pps).run s)

/-- WARM_UP_END (R391). -/
def warmUpEndAct : Act := .look fun s => Act.when (s.up && !s.is F.TIM_STATUS_WARM) (.seq (put F.TIM_STATUS_WARM 1) refreshTq)

def execWarmUpEnd (s : State) : Host.Outcome State Fault Refusal := .next (warmUpEndAct.run s)

/-- HOLDOVER_TIMER (R409, R415). -/
def holdoverTimerAct : Act := refreshTq

def execHoldoverTimer (s : State) : Host.Outcome State Fault Refusal := .next (holdoverTimerAct.run s)

/-! ## Commands of TIM_CTRL (R405, R412, R414) -/

/-- Returns the servo to FREQUENCY on the topology's D0 parent (R405, R428). -/
def reacquireNow : Act := .look fun s => Act.all [
  .win (fun w => { w with marks := (6, 0) :: w.marks }),
  Act.when (s.servo = 4) (leaveHoldover 1 255),
  enterServo 1,
  put F.TIM_PARENT_SOURCE_D0 (if s.timePort (s.parent 0) then s.parent 0 else 255),
  put F.TIM_STATUS_D0_FROM_D1 0,
  onInst 0 PtpInst.restart,
  onTime (fun t => { t with stepped := false }),
  refreshTq]

/-- A write of TIM_CTRL by T0. A command without KEY has no effect (log entry 40). -/
def timCtrlWrite (writer : Nat) (value : Word) : Act := .look fun s =>
  let key := getBits value 31 16 = 0xA5C3
  if writer ≠ 0 then writeLost F.TIM_STATUS_WRITE_LOST
  else Act.all [
    put F.TIM_CTRL_D3_OWNER (getBits value 12 8),
    put F.TIM_CTRL_REVERT (getBits value 2 2),
    (if key && getBits value 0 0 = 1 then Act.when s.up reacquireNow
     else Act.when (key && getBits value 1 1 = 1 && s.servo = 3 && decide (s.source 0 < 8)) loseD0)]

/-- REACQUIRE (R405). -/
def reacquireAct (writer : Nat) (value : Word) : Act := Act.when (getBits value 0 0 = 1) (timCtrlWrite writer value)

def execReacquire (writer : Nat) (value : Word) (s : State) : Host.Outcome State Fault Refusal :=
  .next ((adjusts writer F.TIM_CTRL_REVERT (reacquireAct writer value)).run s)

/-- FORCE_D1 (R412). -/
def forceD1Act (writer : Nat) (value : Word) : Act := Act.when (getBits value 1 1 = 1) (timCtrlWrite writer value)

def execForceD1 (writer : Nat) (value : Word) (s : State) : Host.Outcome State Fault Refusal :=
  .next ((adjusts writer F.TIM_CTRL_REVERT (forceD1Act writer value)).run s)

/-- REVERT (R414): the topology's D0 parent has held TQ 0x3 for 60 s. -/
def revertAct : Act := .look fun s =>
  let p := s.parent 0
  let held := match s.units.time.tq3Since with
    | some (t, last) => s.passed t 60 && decide (s.keep.elapsed < last + s.lossTime)
    | none => false
  Act.when (s.is F.TIM_CTRL_REVERT && s.servo = 5 && s.timePort p && held) (Act.all [
    enterServo 3,
    put F.TIM_PARENT_SOURCE_D0 p,
    put F.TIM_STATUS_D0_FROM_D1 0,
    onInst 0 (fun i => { i.restart with syncAt := s.keep.elapsed }),
    domainEvent 5 0 0,
    refreshTq])

def execRevert (s : State) : Host.Outcome State Fault Refusal := .next (revertAct.run s)

/-- The time system at local ready (R389, R391, R429): D2 starts from zero and the D1 instance takes its port. -/
def timeReady : Act := .look fun s => Act.all [
  onTime (fun t => { t with
    number0 := s.get F.TIM_PTP_CFG_DOMAIN_NUMBER_D0, number1 := s.get F.TIM_PTP_CFG_DOMAIN_NUMBER_D1
    line2 := { off := -(s.units.d0 : Int), ref := s.units.d0 } }),
  put F.TIM_PARENT_SOURCE_D1 (if s.parent 1 < 8 then s.parent 1 else 255),
  put F.TIM_STATUS_NO_REDUNDANCY (b2n (decide (s.parent 1 ≥ 8)))]

end Sys2Proof.Machine
end

