-- ==== Sys2Proof/Machine/Ptp.lean ====
section
/-! DEFINITION. The IEEE 1588 profile on the ring ports: messages and their authentication, exchanges and their
samples, and ESMC (R382, R383, R392 to R400, R422). Message layouts are those of IEEE 1588-2019 and ITU-T G.8264
(log entry 41). -/

namespace Sys2Proof.Machine

/-! ## Addresses and authentication (R382, R383) -/

/-- The port identity of a ring port: clock identity and port number. -/
def State.portIdentity (s : State) (r : Nat) : List Byte := be 5 0x024941FFFE ++ be 3 (s.device * 8) ++ be 2 (r + 1)

/-- Message types. -/
def ptpSync : Nat := 0
def ptpDelayReq : Nat := 1
def ptpFollowUp : Nat := 8
def ptpDelayResp : Nat := 9
def ptpAnnounce : Nat := 11
def ptpSignaling : Nat := 12

/-- Bytes of a message of a type before its TLVs. -/
def ptpBody (typ : Nat) : Nat := if typ = ptpDelayResp then 54 else if typ = ptpAnnounce then 64 else 44

/-- The ICV of a message whose last 16 bytes it is, under the USAGE 0x05 key. -/
def State.ptpIcv (s : State) (identity seqNo msg : List Byte) : Option (List Byte) :=
  match s.ringKey with
  | some e => if s.keyGood e then some (block (gcmTag (kdf (s.secret e) labelTim (identity ++ be 2 0)) (be 4 0 ++ seqNo) msg []))
    else none
  | none => none

/-- Accepts an authenticated message (R382, R383): 0 good, 1 tag, 2 sequence. -/
def State.ptpCheck (s : State) (r : Nat) (m : List Byte) : Nat :=
  let n := m.length
  let tlv := m.drop (n - 34)
  let identity := slice m 20 10
  let seqNo := num tlv 10 8
  let hi := seqNo / 2 ^ 32
  let known := (Sparse.get (fun _ => ({} : Exchange)) s.units.exch r).ptpHi
  let last := s.units.time.heard.find? (fun h => h.1 = ofBe identity)
  let index := match s.ringKey with | some e => s.get (F.SIG_KEY_INFO_KEY_INDEX e) | none => 2 ^ 32
  if n < 78 ∨ num tlv 0 2 ≠ 0x8009 ∨ num tlv 2 2 ≠ 30 ∨ num tlv 4 1 ≠ s.get F.SIG_CTRL_SPP
      ∨ num tlv 5 1 ≠ Config.ptpSecParam.toNat ∨ num tlv 6 4 ≠ index
      ∨ s.ptpIcv identity (slice tlv 10 8) (m.take (n - 16)) ≠ some (slice tlv 18 16) then 1
  else if known ≠ some hi then 2
  else match last with
    | some l => if l.2 / 2 ^ 32 = hi ∧ seqNo ≤ l.2 then 2 else 0
    | none => 0

/-- Sends a 1588 message on a ring port, with its AUTHENTICATION TLV, in a frame of R393; without a usable key an
authenticated message cannot be sent. -/
def sendPtp (r : Nat) (launch : Option Nat) (msg : List Byte) : Act := .look fun s =>
  let go := fun m : List Byte =>
    let f := be 6 ringMac ++ be 6 (s.linkMac (256 + r)) ++ be 2 0x88F7 ++ m
    push (queueOf (256 + r) 7) .time { data := f ++ zeros (60 - f.length), kind := .ptp, launch := launch }
  if !s.is F.SIG_CTRL_PTP_AUTH then go msg
  else
    let c := Sparse.get (fun _ => (0, 0)) s.units.ptpSeq r
    let seqNo := be 4 c.1 ++ be 4 c.2
    let index := match s.ringKey with | some e => s.get (F.SIG_KEY_INFO_KEY_INDEX e) | none => 0
    let m := msg.take 2 ++ be 2 (msg.length + 34) ++ msg.drop 4 ++ be 2 0x8009 ++ be 2 30 ++ be 1 (s.get F.SIG_CTRL_SPP)
      ++ be 1 Config.ptpSecParam.toNat ++ be 4 index ++ seqNo
    match s.ptpIcv (s.portIdentity r) seqNo m with
    | some icv => .seq (.units fun u => { u with ptpSeq := Sparse.set (fun _ => (0, 0)) u.ptpSeq r (c.1, (c.2 + 1) % 2 ^ 32) })
        (go (m ++ icv))
    | none => .skip

/-! ## Building messages (R393) -/

/-- A message: header, then its body. Flag octet 1 says the PTP timescale. -/
def State.ptpMessage (s : State) (r typ k : Nat) (twoStep : Bool) (corr : Int) (seq log : Nat) (body : List Byte) : List Byte :=
  let t := s.units.time
  let tq := if typ = ptpSync || typ = ptpFollowUp || typ = ptpAnnounce then s.domainTq k else 0
  let control := if typ = ptpSync then 0 else if typ = ptpDelayReq then 1 else if typ = ptpFollowUp then 2
    else if typ = ptpDelayResp then 3 else 5
  be 1 typ ++ be 1 0x12 ++ be 2 (34 + body.length) ++ be 1 (if k = 0 then t.number0 else t.number1) ++ be 1 0
    ++ be 1 (2 * b2n twoStep + 32 * tq) ++ be 1 8 ++ be 8 (enc 64 corr) ++ be 4 0 ++ s.portIdentity r
    ++ be 2 seq ++ be 1 control ++ be 1 log ++ body

/-- A time in 2^-8 ticks as a 10-byte timestamp, and its sub-nanosecond rest as a correction of 2^-16 ns. -/
def stampBytes (t : Int) : List Byte :=
  let n := t.toNat
  be 6 (n / (256 * tickS)) ++ be 4 (n % (256 * tickS) / 262144)
def stampRest (t : Int) : Int := (t.toNat % 262144 / 4 : Nat)

/-- A timestamp and a correction of a message, in 2^-8 ticks. -/
def readStamp (m : List Byte) (off : Nat) : Int := (num m off 6 * 256 * tickS + num m (off + 6) 4 * 262144 : Nat)
def readCorr (m : List Byte) : Int := 4 * sgn 64 (num m 8 8)

/-- Draws the next sequenceId of a kind: 0 Sync, 1 Delay_Req, 2 Announce, 3 Signaling. -/
def State.nextSeq (s : State) (kind k r : Nat) : Nat := Sparse.get (fun _ => 0) s.units.time.seqs (64 * kind + 8 * k + r)
def bumpSeq (kind k r : Nat) : Act := onTime fun t =>
  let x := 64 * kind + 8 * k + r
  { t with seqs := Sparse.set (fun _ => 0) t.seqs x ((Sparse.get (fun _ => 0) t.seqs x + 1) % 65536) }

/-! ## Port states and local times (R394, R396) -/

/-- PTP state of a ring port (TIM_PORT_STATUS): 3 disabled, 6 master, 8 uncalibrated, 9 slave. -/
def State.ptpState (s : State) (r k : Nat) : Nat :=
  if r ≥ 8 ∨ !s.ringUp r ∨ s.fenced then 3
  else if k = 0 ∧ r = s.parent 0 then (if s.servo = 3 then 9 else 8)
  else if k = 1 ∧ r = s.source 1 then (if s.units.time.inst1.phase = 3 then 9 else 8)
  else if k = 1 ∧ s.servo = 5 ∧ r = s.source 0 then 9
  else 6

/-- The instances that a domain's messages on a port serve: after a switch D0 follows the D1 of its source. -/
def State.instances (s : State) (r k : Nat) : List Nat :=
  (if k = 0 && s.servo ≠ 5 && r = s.parent 0 then [0] else [])
    ++ (if k = 1 && s.servo = 5 && r = s.source 0 then [0] else [])
    ++ (if k = 1 && r = s.source 1 then [1] else [])

/-- An instance. -/
def State.inst (s : State) (i : Nat) : PtpInst := if i = 0 then s.units.time.inst0 else s.units.time.inst1

/-- D1 against D0 at a D0 time in 2^-8 ticks. -/
def State.line1At (s : State) (stamp : Nat) : Int := s.units.time.line1.at (stamp / 256)

/-- The time an instance compares: of D0, of D0 less Δ after a switch, or of D1. -/
def State.instTime (s : State) (i stamp : Nat) : Int :=
  if i = 1 then stamp + s.line1At stamp
  else if s.servo = 5 then stamp - sgn 64 (s.get F.TIM_DELTA_DELTA) else stamp

/-- A message that must not be used is counted (R398). -/
def discardPtp (r : Nat) : Act := .seq (count F.TIM_MSG_DISCARDED_C) (count (F.TIM_PORT_DISCARDED_C r))

/-! ## Samples (R397, R398, R400) -/

/-- A of a ring port as its registers and its channel give it now; a stale channel keeps the last A (R399, R400). -/
def State.portAsym (s : State) (r : Nat) : Int :=
  let c := s.get (F.TIM_PORT_CFG_ENV_CHANNEL r)
  let t := if c < 16 then (s.temperature c).map (·.2) else none
  if c < 16 && (t.isNone || s.is (F.TIM_PORT_STATUS_TEMP_STALE r)) then sgn 64 (s.get (F.TIM_PORT_APPLIED_ASYM r))
  else asymmetry (sgn 32 (s.get (F.TIM_PORT_ASYM_ASYM_BASE r))) (sgn 32 (s.get (F.TIM_PORT_ASYM_ASYM_TEMPCO r)))
    (sgn 16 (s.get (F.TIM_PORT_CFG_T_CAL r))) t

/-- The offset departs from the last one by more than OUTLIER_PS. -/
def State.outlier (s : State) (o : Int) (l : List Int) : Bool := match l with
  | p :: _ => decide ((o - p).natAbs * 1000 > s.get F.TIM_OUTLIER_OUTLIER_PS * 262144)
  | [] => false

/-- An outlier; sixteen in a row are a loss of the source. -/
def takeOutlier (i : Nat) : Act := .look fun s =>
  let n := (s.inst i).outliers + 1
  Act.all [
    count F.TIM_OUTLIERS_C,
    onInst i (fun x => { x with outliers := n }),
    Act.when (decide (n ≥ 16)) (.seq (event F.TIM_STATUS_OUTLIER_RUN) (if i = 0 then loseD0 else loseD1))]

/-- A rate of D0 within ±100 ppm of the resonator (R390), in 2^-48. -/
def rateOf (w : Word) : Int := (w.toNat % 56294995343 : Nat) - 28147497671

/-- The offsets of an acquisition step, after one more; the eight of a domain's step count while its parent's TQ is at least
0x2 (R404, R410). -/
def freshen (o : Int) (l : List Int) (counts : Bool) : List Int := if counts then (o :: l).take 8 else []

/-- A valid offset of D0: the servo sets its rate (log entry 42). -/
def takeSample0 (o : Int) : Act := .look fun s =>
  if (s.servo = 3 || s.servo = 5) && s.outlier o s.units.time.inst0.offsets then takeOutlier 0
  else Act.all [
    put F.TIM_OFFSET_OFFSET (enc 64 o),
    onInst 0 (fun x => { x with
      outliers := 0, sampleAt := s.keep.elapsed
      fresh := freshen o x.fresh (s.servo ≠ 2 || s.units.time.stepped || decide (s.sourceTq ≥ 2)), offsets := (o :: x.offsets).take 64 }),
    Act.when (s.servo ≠ 4) (.draw fun r => put F.TIM_RATE_RATE (enc 48 (rateOf r))),
    refreshTq]

/-- A valid offset of D1, by the phases of R410: the one step of the estimate, then its rate. -/
def takeSample1 (r stamp : Nat) (o : Int) : Act := .look fun s =>
  let x := s.units.time.inst1
  let fresh := freshen o x.fresh (decide (x.phase > 1) || decide (s.peerTq r 1 ≥ 2))
  let near := decide (fresh.length ≥ 4) && (fresh.take 4).all (fun v => decide (-oneNs ≤ v) && decide (v ≤ oneNs))
  let keepOffset := onInst 1 (fun x => { x with
    outliers := 0, sampleAt := s.keep.elapsed, fresh := fresh, offsets := (o :: x.offsets).take 64, phase := max 1 x.phase
    diffs := ((s.keep.elapsed, o - s.line1At stamp) :: x.diffs).take 64 })
  if s.servo < 2 then .skip
  else if x.phase = 3 && s.outlier o x.offsets then takeOutlier 1
  else .seq keepOffset (.seq
    (if x.phase ≤ 1 then Act.when (decide (s.peerTq r 1 ≥ 2) && fresh.length = 8) (Act.all [
        onTime (fun t => { t with line1 := { t.line1 with off := t.line1.off - mean fresh } }),
        onInst 1 (fun x => { x.restart with phase := 2 }),
        domainEvent 1 1 (-(mean fresh) / 256)])
     else .seq (Act.when near (onInst 1 (fun x => { x with phase := 3 })))
      (.draw fun w => onTime (fun t => { t with line1 := t.line1.turn s.units.d0 (sgn 40 w.toNat) })))
    refreshTq)

/-- A complete exchange of an instance (R397). -/
def exchange (r i stamp : Nat) (t1 t2 t3 t4 : Int) : Act := .look fun s =>
  let a := s.portAsym r
  let m := ((t2 - t1) + (t4 - t3)) / 2
  let o := (t2 - t1) - (m + a)
  Act.all [
    put (F.TIM_PORT_DELAY_MEAN r) (enc 64 m),
    put (F.TIM_PORT_APPLIED_ASYM r) (enc 64 a),
    if i = 0 then takeSample0 o else takeSample1 r stamp o]

/-! ## Reception (R393, R394, R398) -/

/-- TLVs from an offset on, as their types; `none` when they do not fill the message. -/
def tlvTypes : Nat → List Byte → Option (List Nat)
  | 0, l => if l.isEmpty then some [] else none
  | n + 1, l =>
    if l.isEmpty then some []
    else if l.length < 4 ∨ l.length < 4 + num l 2 2 then none
    else (tlvTypes n (l.drop (4 + num l 2 2))).map (fun r => num l 0 2 :: r)

/-- The message is one of the choices of R393; `auth`: it carries an AUTHENTICATION TLV. -/
def State.ptpKnown (s : State) (auth : Bool) (m : List Byte) : Bool :=
  let typ := num m 0 1
  let t := s.units.time
  let n := num m 4 1
  let flags := num m 6 1
  let want := (if typ = ptpSignaling then [0x8001] else []) ++ (if auth then [0x8009] else [])
  decide (m.length ≥ 44) && [0, 1, 8, 9, 11, 12].contains typ && num m 1 1 % 16 = 2
    && num m 2 2 = m.length && (n = t.number0 || n = t.number1) && num m 5 1 = 0 && !bit flags 2
    && (typ ≠ ptpSync || bit flags 1) && tlvTypes 8 (m.drop (ptpBody typ)) = some want
    && (typ ≠ ptpSignaling || num m 46 2 ≥ 2 && num m 48 1 % 16 = 7)

/-- TQ of the sending domain, from flag octet 0. -/
def messageTq (m : List Byte) : Nat := bits (num m 6 1) 6 5

/-- Records the TQ that a message carries for its domain (R393, R414). -/
def takeTq (r k : Nat) (m : List Byte) : Act := .look fun s =>
  let tq := messageTq m
  Act.all [
    put (if k = 0 then F.TIM_PORT_STATUS_PEER_TQ_D0 r else F.TIM_PORT_STATUS_PEER_TQ_D1 r) tq,
    Act.when (k = 0 && r = s.parent 0) (onTime fun t => { t with
      tq3Since := if tq ≠ 3 then none
        else some ((match t.tq3Since with
          | some (since, last) => if s.keep.elapsed < last + s.lossTime then since else s.keep.elapsed
          | none => s.keep.elapsed), s.keep.elapsed) }),
    refreshTq]

/-- A Sync: its arrival waits for the Follow_Up. -/
def takeSync (r k : Nat) (m : List Byte) (stamp : Nat) : Act := .look fun s => Act.all [
  count (F.TIM_PORT_SYNC_RX_C r),
  takeTq r k m,
  Act.each (s.instances r k) (fun i => onInst i (fun x => { x with
    sync := some (num m 30 2, s.instTime i stamp, readCorr m, s.keep.elapsed), syncAt := s.keep.elapsed }))]

/-- A Follow_Up: t1 of the Sync of its sequenceId, at most one sync interval after it (R398). -/
def takeFollowUp (r k : Nat) (m : List Byte) : Act := .look fun s => .seq (takeTq r k m)
  (Act.each (s.instances r k) (fun i => match (s.inst i).sync with
    | some (seq, t2, corr, at_) =>
      if seq = num m 30 2 ∧ s.keep.elapsed ≤ at_ + s.syncInterval then
        onInst i (fun x => { x with sync := none, pair := some (readStamp m 34 + readCorr m + corr, t2) })
      else discardPtp r
    | none => discardPtp r))

/-- A Delay_Req: answered on a MASTER port with its arrival (R393). -/
def takeDelayReq (r k : Nat) (m : List Byte) (stamp : Nat) : Act := .look fun s =>
  let t := if k = 0 then (stamp : Int) else stamp + s.line1At stamp
  .seq (count (F.TIM_PORT_DELAY_REQ_RX_C r)) (Act.when (s.ptpState r k = 6) (sendPtp r none
    (s.ptpMessage r ptpDelayResp k false (sgn 64 (num m 8 8) - stampRest t) (num m 30 2) (s.get F.TIM_PTP_CFG_LOG_SYNC_INTERVAL)
      (stampBytes t ++ slice m 20 10))))

/-- A Delay_Resp: completes the exchange of its sequenceId (R397, R398). -/
def takeDelayResp (r k : Nat) (m : List Byte) : Act := .look fun s =>
  .seq (count (F.TIM_PORT_DELAY_RESP_RX_C r))
    (Act.each (s.instances r k) (fun i => .look fun s => match (s.inst i).req, (s.inst i).pair with
      | some (seq, t3), some (t1, t2) =>
        if seq = num m 30 2 ∧ slice m 44 10 = s.portIdentity r then
          .seq (onInst i (fun x => { x with req := none, pair := none }))
            (exchange r i s.units.d0 t1 t2 t3 (readStamp m 34 - readCorr m))
        else discardPtp r
      | _, _ => discardPtp r))

/-- An Announce: quality of the domain, and on a slave port its grandmaster. -/
def takeAnnounce (r k : Nat) (m : List Byte) : Act := .look fun s => Act.all [
  count (F.TIM_PORT_ANNOUNCE_RX_C r),
  takeTq r k m,
  Act.each (s.instances r k) (fun i => onInst i (fun x => { x with master := some (num m 53 8, num m 61 2) }))]

/-- A 1588 message on a ring port, from its header on, at an ingress time (R383, R393, R394, R558). -/
def ptpReceive (r : Nat) (m : List Byte) (stamp : Nat) : Act := .look fun s =>
  let auth := s.is F.SIG_CTRL_PTP_AUTH
  let c := if auth then s.ptpCheck r m else 0
  let k := if num m 4 1 = s.units.time.number0 then 0 else 1
  let typ := num m 0 1
  if !s.timePort r then .skip
  else if c ≠ 0 then .seq (count (if c = 1 then F.SIG_DEVICE_PTP_AUTH_FAIL_C else F.SIG_DEVICE_PTP_REPLAY_C)) (discardPtp r)
  else .seq (Act.when auth (onTime fun t =>
      let id := num m 20 10
      { t with heard := (id, num m (m.length - 24) 8) :: t.heard.filter (fun h => h.1 ≠ id) }))
    (if !s.ptpKnown auth m then count (F.TIM_PORT_UNSUPPORTED_C r)
     else if typ = ptpSync then takeSync r k m stamp
     else if typ = ptpFollowUp then takeFollowUp r k m
     else if typ = ptpDelayReq then takeDelayReq r k m stamp
     else if typ = ptpDelayResp then takeDelayResp r k m
     else if typ = ptpAnnounce then takeAnnounce r k m
     else .skip)

/-- A row of reception: a message of one type. -/
def ptpRow (typ r : Nat) (m : List Byte) (stamp : Nat) : Act := Act.when (num m 0 1 % 16 = typ) (ptpReceive r m stamp)

/-- PTP_SYNC_RX (R397). -/
def ptpSyncRxAct (r : Nat) (m : List Byte) (stamp : Nat) : Act := ptpRow ptpSync r m stamp

def execPtpSyncRx (r : Nat) (m : List Byte) (stamp : Nat) (s : State) : Host.Outcome State Fault Refusal :=
  .next ((ptpSyncRxAct r m stamp).run s)

/-- PTP_FOLLOW_UP_RX (R397). -/
def ptpFollowUpRxAct (r : Nat) (m : List Byte) (stamp : Nat) : Act := ptpRow ptpFollowUp r m stamp

def execPtpFollowUpRx (r : Nat) (m : List Byte) (stamp : Nat) (s : State) : Host.Outcome State Fault Refusal :=
  .next ((ptpFollowUpRxAct r m stamp).run s)

/-- PTP_DELAY_REQ_RX (R393). -/
def ptpDelayReqRxAct (r : Nat) (m : List Byte) (stamp : Nat) : Act := ptpRow ptpDelayReq r m stamp

def execPtpDelayReqRx (r : Nat) (m : List Byte) (stamp : Nat) (s : State) : Host.Outcome State Fault Refusal :=
  .next ((ptpDelayReqRxAct r m stamp).run s)

/-- PTP_DELAY_RESP_RX (R397). -/
def ptpDelayRespRxAct (r : Nat) (m : List Byte) (stamp : Nat) : Act := ptpRow ptpDelayResp r m stamp

def execPtpDelayRespRx (r : Nat) (m : List Byte) (stamp : Nat) (s : State) : Host.Outcome State Fault Refusal :=
  .next ((ptpDelayRespRxAct r m stamp).run s)

/-- PTP_ANNOUNCE_RX (R393). -/
def ptpAnnounceRxAct (r : Nat) (m : List Byte) (stamp : Nat) : Act := ptpRow ptpAnnounce r m stamp

def execPtpAnnounceRx (r : Nat) (m : List Byte) (stamp : Nat) (s : State) : Host.Outcome State Fault Refusal :=
  .next ((ptpAnnounceRxAct r m stamp).run s)

/-- PTP_SIGNALING_RX (R393): an L1_SYNC TLV; it leaves no state beside its sequenceNo. -/
def ptpSignalingRxAct (r : Nat) (m : List Byte) (stamp : Nat) : Act := ptpRow ptpSignaling r m stamp

def execPtpSignalingRx (r : Nat) (m : List Byte) (stamp : Nat) (s : State) : Host.Outcome State Fault Refusal :=
  .next ((ptpSignalingRxAct r m stamp).run s)

/-! ## Sending (R393, R395, R422) -/

/-- A D0 time at which the time of domain 0 or 1 reaches `t` ticks. -/
def State.toD0 (s : State) (k : Nat) (t : Int) : Nat := enc 64 (t - s.domainOff k s.units.d0)

/-- SYNC_SEND (R395, R422): for the next multiple of the sync interval, of D1 half an interval later; the Follow_Up
carries the measured departure. -/
def syncSendAct (r k stamp : Nat) : Act := .look fun s =>
  let iv := s.syncInterval
  let half := if k = 1 then iv / 2 else 0
  let n := ((s.domainNow k).toNat + iv - half) / iv
  let key := 8 * k + r
  let seq := s.nextSeq 0 k r
  let log := s.get F.TIM_PTP_CFG_LOG_SYNC_INTERVAL
  let t := if k = 0 then (stamp : Int) else stamp + s.line1At stamp
  Act.when (decide (k < 2) && s.timePort r && s.ptpState r k = 6 && Sparse.get (fun _ => 0) s.units.time.syncSent key ≠ n + 1) (Act.all [
    onTime (fun x => { x with syncSent := Sparse.set (fun _ => 0) x.syncSent key (n + 1) }),
    sendPtp r (some (s.toD0 k (n * iv + half : Nat))) (s.ptpMessage r ptpSync k true 0 seq log (zeros 10)),
    .look fun s => sendPtp r none (s.ptpMessage r ptpFollowUp k false (stampRest t) seq log (stampBytes t)),
    bumpSeq 0 k r,
    count (F.TIM_PORT_SYNC_TX_C r)])

def execSyncSend (r k stamp : Nat) (s : State) : Host.Outcome State Fault Refusal := .next ((syncSendAct r k stamp).run s)

/-- Some time has passed since a stored elapsed time. -/
def State.sinceAt (s : State) (l : Sparse (Option Nat)) (k ticks : Nat) : Bool :=
  match Sparse.get (fun _ => none) l k with
  | some t => decide (s.keep.elapsed ≥ t + ticks)
  | none => true

/-- DELAY_REQ_SEND (R393, R422): on a slave port, once a delay request interval, with its measured departure. -/
def delayReqSendAct (r k stamp : Nat) : Act := .look fun s =>
  let key := 8 * k + r
  let seq := s.nextSeq 1 k r
  Act.when (decide (k < 2) && s.timePort r && decide (s.ptpState r k ≥ 8) && s.sinceAt s.units.time.reqAt key s.syncInterval)
    (.draw fun w => Act.all [
      onTime (fun x => { x with reqAt := Sparse.set (fun _ => none) x.reqAt key (some s.keep.elapsed) }),
      sendPtp r (some ((s.now + w.toNat % s.syncInterval) % 2 ^ 64)) (s.ptpMessage r ptpDelayReq k false 0 seq 0x7F (zeros 10)),
      Act.each (s.instances r k) (fun i => onInst i (fun x => { x with req := some (seq, s.instTime i stamp) })),
      bumpSeq 1 k r,
      count (F.TIM_PORT_DELAY_REQ_TX_C r)])

def execDelayReqSend (r k stamp : Nat) (s : State) : Host.Outcome State Fault Refusal :=
  .next ((delayReqSendAct r k stamp).run s)

/-- clockClass (R393). -/
def State.clockClass (s : State) : Nat := if s.servo = 4 then 7 else if s.rootLike && s.domainTq 0 = 3 then 6 else 248

/-- Elapsed ticks of one announce interval. -/
def State.announceInterval (s : State) : Nat :=
  let l := sgn 8 (s.get F.TIM_PTP_CFG_LOG_ANNOUNCE_INTERVAL)
  if l ≥ 0 then tickS * 2 ^ l.toNat else tickS / 2 ^ (-l).toNat

/-- The frequency of the time base is locked to a ring port (SYNCE_LOCK). -/
def State.synceLock (s : State) (r : Nat) : Bool := r = s.source 0 && (s.servo = 2 || s.servo = 3 || s.servo = 5)

/-- ANNOUNCE_SEND (R393): Announce on a MASTER port, and L1Sync on every port, once an announce interval. -/
def announceSendAct (r k : Nat) : Act := .look fun s =>
  let key := 8 * k + r
  let i := s.inst k
  let own := ofBe ((s.portIdentity r).take 8)
  let gm := match i.master with | some (g, steps) => (g, steps + 1) | none => (own, 0)
  let state := s.ptpState r k
  let body := zeros 10 ++ be 2 0 ++ be 1 0 ++ be 1 128 ++ be 1 s.clockClass ++ be 3 Config.ptpQuality.toNat ++ be 1 128
    ++ be 8 gm.1 ++ be 2 gm.2 ++ be 1 Config.ptpTimeSource.toNat
  let l1 := List.replicate 10 0xFF ++ be 2 0x8001 ++ be 2 2 ++ be 1 7 ++ be 1 (1 + 6 * b2n (s.synceLock r))
  Act.when (decide (k < 2) && s.timePort r && s.sinceAt s.units.time.announceAt key s.announceInterval) (Act.all [
    onTime (fun x => { x with announceAt := Sparse.set (fun _ => none) x.announceAt key (some s.keep.elapsed) }),
    Act.when (state = 6) (.seq (sendPtp r none (s.ptpMessage r ptpAnnounce k false 0 (s.nextSeq 2 k r)
      (s.get F.TIM_PTP_CFG_LOG_ANNOUNCE_INTERVAL) body)) (bumpSeq 2 k r)),
    .look fun s => sendPtp r none (s.ptpMessage r ptpSignaling k false 0 (s.nextSeq 3 k r) 0x7F l1),
    bumpSeq 3 k r])

def execAnnounceSend (r k : Nat) (s : State) : Host.Outcome State Fault Refusal := .next ((announceSendAct r k).run s)

/-! ## ESMC (R392) -/

/-- QL of a port. -/
def State.ql (s : State) (r : Nat) : Nat :=
  if r = s.source 0 || r = s.parent 0 then 0xF
  else match s.domainTq 0 with | 0 => 0xF | 1 => 0xB | _ => 0x2

/-- ESMC_SEND (R392, R422): once a second, and within 10 ms of a change of D0 quality. -/
def esmcSendAct (r : Nat) : Act := .look fun s =>
  let q := s.ql r
  let due := match Sparse.get (fun _ => none) s.units.time.esmc r with
    | some (old, t) => old ≠ q || s.passed t 1
    | none => true
  let f := be 6 0x0180C2000002 ++ be 6 (s.linkMac (256 + r)) ++ be 2 0x8809 ++ be 1 0x0A ++ be 3 0x0019A7 ++ be 2 1
    ++ be 1 0x10 ++ be 3 0 ++ be 1 1 ++ be 2 4 ++ be 1 q
  Act.when (s.timePort r && due) (.draw fun w => .seq
    (onTime fun x => { x with esmc := Sparse.set (fun _ => none) x.esmc r (some (q, s.keep.elapsed)) })
    (push (queueOf (256 + r) 7) .time { data := fit 60 f, kind := .esmc, launch := some ((s.now + w.toNat % (10 * tickMs)) % 2 ^ 64) }))

def execEsmcSend (r : Nat) (s : State) : Host.Outcome State Fault Refusal := .next ((esmcSendAct r).run s)

/-- ESMC_RECEIVED (R392): counted, and its QL shown. -/
def esmcReceivedAct (r : Nat) (m : List Byte) : Act := .look fun s =>
  Act.when (s.timePort r && num m 0 1 = 0x0A && num m 1 3 = 0x0019A7) (.seq (count (F.TIM_PORT_ESMC_RX_C r))
    (Act.when (num m 10 1 = 1) (put (F.TIM_PORT_STATUS_PEER_QL r) (num m 13 1 % 16))))

def execEsmcReceived (r : Nat) (m : List Byte) (s : State) : Host.Outcome State Fault Refusal :=
  .next ((esmcReceivedAct r m).run s)

/-- TEMP_STALE (R400): a named channel has given no valid reading for 10 s. -/
def tempStaleAct (r : Nat) : Act := .look fun s =>
  let c := s.get (F.TIM_PORT_CFG_ENV_CHANNEL r)
  let stale := match s.temperature c with
    | some (t, _) => s.passed t 10
    | none => s.passed s.units.sup.readyAt 10
  Act.when (decide (r < 8) && s.up && decide (c < 16) && stale) (put (F.TIM_PORT_STATUS_TEMP_STALE r) 1)

def execTempStale (r : Nat) (s : State) : Host.Outcome State Fault Refusal := .next ((tempStaleAct r).run s)

end Sys2Proof.Machine
end

