-- ==== Sys2Proof/Machine/StoreRows.lean ====
section
/-! DEFINITION. Locket's commands: recovery, drives, writes, compaction, formats, adoption, rebuilds, replay engines and
windows (R279, R290, R297 to R316). -/

namespace Sys2Proof.Machine

/-! ## Recovery (R301 to R303) -/

/-- A window as the journal tells it. -/
structure FoundWindow where
  stream : Nat
  time : Nat
  origin : Nat
  first : Nat × Nat
  last : Option (Nat × Nat) := none
  count : Nat := 0
  start : Nat := 0
  stop : Nat := 0
  incomplete : Bool := true
  lock : Bool := false
  deriving DecidableEq, Repr

/-- The index as snapshot and journal give it. -/
structure Found where
  live : List LiveStripe := []
  windows : Sparse (Option FoundWindow) := []
  order : List Nat := []
  spill : Sparse SpillObject := []
  members : Sparse Nat := []
  deriving DecidableEq, Repr

/-- A stripe record replaces an earlier one of the same stripe (R308), else it is the newest stripe. -/
def addStripe (l : LiveStripe) (ls : List LiveStripe) : List LiveStripe :=
  if ls.any (fun x => x.stripe = l.stripe) then ls.map (fun x => if x.stripe = l.stripe then l else x) else ls ++ [l]

/-- Applies one record to the index (R296). -/
def Found.apply (x : Found) (r : JournalRec) : Found :=
  let win := fun w => Sparse.get (fun _ => (none : Option FoundWindow)) x.windows w
  let setWin := fun (v : Option FoundWindow) =>
    { x with windows := Sparse.set (fun _ => none) x.windows r.subject v }
  let obj := fun (f : SpillObject → SpillObject) => { x with
    spill := Sparse.set (fun _ => ({} : SpillObject)) x.spill r.subject
      (f (Sparse.get (fun _ => ({} : SpillObject)) x.spill r.subject)) }
  match r.kind with
  | 1 => { x with live := addStripe { stripe := r.stripe, pool := 0, subject := r.subject, chunks := r.chunks, map := r.map,
                                      count := r.count, a := r.a, b := r.b, octets := r.c } x.live }
  | 3 => { x with live := addStripe { stripe := r.stripe, pool := r.subject + 1, subject := 0, chunks := r.chunks,
                                      map := r.map, count := r.count, a := 0, b := 0, octets := r.c } x.live }
  | 2 | 4 => { x with live := x.live.filter (fun l => decide (l.stripe ≠ r.stripe)) }
  | 5 => { setWin (some { stream := r.aux, time := r.a, origin := r.b, first := (r.stripe, r.c) }) with
           order := x.order.filter (fun w => decide (w ≠ r.subject)) ++ [r.subject] }
  | 6 => setWin ((win r.subject).map (fun v => { v with
           last := some (r.stripe, r.c), count := r.count, start := r.a, stop := r.b, incomplete := bit r.d 0 }))
  | 7 => if bit r.aux 1 then setWin none else setWin ((win r.subject).map (fun v => { v with lock := bit r.aux 0 }))
  | 8 => obj (fun o => { o with ranges := o.ranges ++ [{ stripe := r.stripe, count := r.count, a := r.a, b := r.b }] })
  | 9 => obj (fun o => SpillObject.forget o.ranges.length { o with gone := o.gone + r.count })
  | 10 => { x with members := Sparse.set (fun _ => 2) x.members r.subject r.aux }
  | _ => x

/-- The label of a drive, when one of its two copies passes its CRC (R283). -/
def goodLabel (d : StoreDrive) : Option DriveLabel :=
  if d.corrupt.contains 0 && d.corrupt.contains 255 then none else d.label

/-- Journal block `n` as a drive holds it, when it passes its CRC (R294). -/
def soundBlock (d : StoreDrive) (n : Nat) : JournalBlock :=
  if d.corrupt.contains (256 + n % 1048576) then {}
  else Sparse.get (fun _ => ({} : JournalBlock)) d.journal (n % 1048576)

/-- The valid snapshots of a drive, with whether each stands in slot B: header and blocks pass their CRCs (R299). -/
def snapshotsOf (d : StoreDrive) : List (Snapshot × Bool) :=
  let valid := fun (lba : Nat) (x : Snapshot) =>
    !d.corrupt.any (fun b => decide (lba ≤ b) && decide (b ≤ lba + (x.recs.length + 62) / 63))
  ((d.slotA.filter (valid 1048832)).toList.map (fun x => (x, false)))
    ++ ((d.slotB.filter (valid 1310976)).toList.map (fun x => (x, true)))

/-- Journal block `n` from any member that holds a valid copy (R302). -/
def blockAt (ds : List StoreDrive) (setId n : Nat) : Option JournalBlock :=
  (ds.map (fun d => soundBlock d n)).find? (fun b => b.number = n && b.setId = setId && !b.recs.isEmpty)

/-- Replays the journal (R302) up to the first block or record that is not valid: the index, the block and the JSEQ at
which the journal resumes. -/
def replayJournal (ds : List StoreDrive) (setId : Nat) : Nat → Nat → Nat → Found → Found × Nat × Nat
  | 0, n, expected, x => (x, n, expected)
  | k + 1, n, expected, x => match blockAt ds setId n with
    | some b =>
      let good := b.recs.takeWhile (·.intact)
      if b.first ≠ expected then (x, n, expected)
      else if good.length < b.recs.length then (good.foldl Found.apply x, n, expected + good.length)
      else replayJournal ds setId k (n + 1) (expected + b.recs.length) (b.recs.foldl Found.apply x)
    | none => (x, n, expected)

/-- The newest valid snapshot of the set, and whether it stands in slot B. -/
def newestSnapshot (ds : List StoreDrive) (setId : Nat) : Option (Snapshot × Bool) :=
  (ds.flatMap snapshotsOf).foldl
    (fun best e => if e.1.setId ≠ setId then best else match best with
      | none => some e
      | some b => if e.1.generation > b.1.generation then some e else some b) none

/-- The drive in a bay that takes part in recovery: present, on a port of the part. -/
def State.driveAt (s : State) (q : Nat) : Option StoreDrive :=
  if (s.bay q).present && decide (q < s.part.storePorts) then (s.bay q).drive else none

/-- Shows what trained on a port (R278, R301): the state falls to the label check. -/
def showPort (q state : Nat) : Act := .look fun s =>
  let d := s.driveAt q
  Act.all [
    put (F.LKT_PORT_STATUS_STATE q) state,
    put (F.LKT_PORT_STATUS_SPEED q) ((d.map (·.speed)).getD 0),
    put (F.LKT_PORT_STATUS_WIDTH q) ((d.map (·.width)).getD 0),
    put (F.LKT_PORT_STATUS_PRESENT q) (b2n d.isSome),
    put (F.LKT_PORT_CAPACITY_LBAS q) ((d.map (·.lbas)).getD 0)]

/-- The drive is the set's own member at a port. -/
def ownMember (setId q : Nat) (d : StoreDrive) : Bool :=
  compatible d && (match goodLabel d with | some l => l.setId = setId && l.member = q | none => false)

/-- The label that names the set: that of the lowest port whose drive carries its own port's label. -/
def State.setLabel (s : State) : Option DriveLabel :=
  (List.range 16).findSome? (fun q => match s.driveAt q with
    | some d => if compatible d then (goodLabel d).filter (fun l => l.member = q) else none
    | none => none)

/-- State of a port after its label has been read: absent, incompatible, foreign, or the set's own. -/
def State.portKind (s : State) (setId : Option Nat) (q : Nat) : Nat :=
  match s.driveAt q with
  | none => 0
  | some d =>
    if !compatible d then 6
    else match setId with
      | some i => if ownMember i q d then 2 else 5
      | none => 5

/-- The frames of a found window: those of its object between its first record and its end, in stored order. -/
def State.windowFrames (s : State) (w : Nat) (first : Nat × Nat) (last : Option (Nat × Nat)) : List (Nat × Nat × StoredRec) :=
  let x := s.units.store
  let order := (x.live.filter (fun l => l.pool = 1)).map (·.stripe)
    ++ ((x.closing ++ x.opens).filter (fun o => o.pool = 1)).map (·.stripe)
  let from_ := order.dropWhile (fun n => decide (n ≠ first.1))
  let upTo := match last with
    | some e => from_.takeWhile (fun n => decide (n ≠ e.1)) ++ (if from_.contains e.1 then [e.1] else [])
    | none => from_
  upTo.flatMap (fun n => (ofObject 2 w (s.stripeRecords n)).filterMap (fun e =>
    if (n = first.1 && decide (e.1 < first.2)) || last.any (fun l => n = l.1 && decide (e.1 ≥ l.2))
    then none else some (n, e.1, e.2)))

/-- Shows a found window and takes it over (R303). -/
def takeWindow (order w : Nat) (f : FoundWindow) : Act := .look fun s =>
  let fs := s.windowFrames w f.first f.last
  let stop := match f.last with
    | some l => l
    | none => (fs.getLast?.map (fun e => (e.1, e.2.1 + recOctets e.2.2.item))).getD f.first
  Act.all [
    setWindow w (some { first := f.first, last := stop, order := order,
                        stripes := (fs.map (·.1)).foldl (fun a n => if a.contains n then a else a ++ [n]) [] }),
    put (F.LKT_WINDOW_W0_STATE w) 2,
    put (F.LKT_WINDOW_W0_LOCK w) (b2n f.lock),
    put (F.LKT_WINDOW_W0_INCOMPLETE w) (b2n f.incomplete),
    put (F.LKT_WINDOW_W0_STREAM w) f.stream,
    put (F.LKT_WINDOW_W0_ORIGIN_DEVICE w) (f.origin / 65536),
    put (F.LKT_WINDOW_W0_ORIGIN_SEQ w) (f.origin % 65536),
    put (F.LKT_WINDOW_W1_VALUE w) f.time,
    put (F.LKT_WINDOW_W2_VALUE w) f.start,
    put (F.LKT_WINDOW_W3_VALUE w) f.stop,
    put (F.LKT_WINDOW_W4_VALUE w) (if f.last.isSome then f.count else fs.length),
    put (F.LKT_WINDOW_W5_VALUE w) (fs.map (fun e => recOctets e.2.2.item)).sum]

/-- Shows the label's values (R283, R317). -/
def showLabel (l : DriveLabel) : Act := Act.all [
  put F.LKT_GEOMETRY_MEMBER_MASK l.mask,
  put F.LKT_GEOMETRY_ROWS l.rows,
  put F.LKT_SET_ID_SET_ID l.setId,
  put F.LKT_KEY_KEY_INDEX l.keyIndex,
  put F.LKT_POOL_WINDOW_STRIPES l.windows,
  put F.LKT_POOL_SPILL_STRIPES l.spills]

/-- Steps 5 to 7 of R301: snapshot, journal, members, STATE. -/
def loadIndex (l : DriveLabel) (key : List Byte) (millis : Nat) : Act := .look fun s =>
  let ports := (List.range 16).filter (fun q => match s.driveAt q with
    | some d => ownMember l.setId q d && l.mask.testBit q
    | none => false)
  let ds := ports.filterMap s.driveAt
  match newestSnapshot ds l.setId with
  | none => put F.LKT_STATUS_STATE 0
  | some (snap, slotB) =>
    let fuel := (ds.map (fun d => d.journal.length)).sum + 1
    let r := replayJournal ds l.setId fuel snap.next (snap.point + 1) (snap.recs.foldl Found.apply {})
    let x := r.1
    let old := fun q => Sparse.get (fun _ => 2) x.members q
    let streams := (x.live.filter (fun e => e.pool = 0)).map (·.subject)
    Act.all [
      onStore (fun y => { y with
        guarded := l.guarded, windowPool := l.windows, spillPool := l.spills, key := key, label := some l
        live := x.live, spill := x.spill, jseq := r.2.2 - 1, nextBlock := r.2.1, snapNext := snap.next
        generation := snap.generation, windowCount := x.order.length }),
      put F.LKT_STATUS_STATE 3,
      put F.LKT_JOURNAL_SLOT (b2n slotB),
      refreshJournal,
      put F.LKT_RECOVERY_MILLISECONDS millis,
      Act.each x.order.zipIdx (fun e => match Sparse.get (fun _ => none) x.windows e.1 with
        | some f => takeWindow e.2 e.1 f
        | none => .skip),
      Act.each streams showRing,
      -- Member records of changed ports; a member that was away returns (R308)
      Act.each ((List.range 16).filter (fun q => l.mask.testBit q)) (fun q =>
        if ports.contains q then
          if old q = 2 then .skip else memberReturns q
        else
          let st := if s.portState q = 0 then 3 else s.portState q
          if old q = st then put (F.LKT_PORT_STATUS_STATE q) st else memberState q st),
      refreshState]

/-- STORE_RECOVERY (R301, R302, R311): the steps from local ready to STATE 0x3 to 0x6. -/
def storeRecoveryAct (millis : Nat) : Act := .look fun s =>
  if s.part.storePorts = 0 || s.storeState ≠ 1 then .skip
  else
    let label := s.setLabel
    Act.all [
      onStore (fun x => { x with
        refclk := true, perstHigh := (List.range 16).filter (fun q => (s.driveAt q).isSome) }),
      Act.each (List.range s.part.storePorts) (fun q => showPort q (s.portKind (label.map (·.setId)) q)),
      (match label with
        | none => put F.LKT_STATUS_STATE 0
        | some l => .seq (showLabel l) (match s.usable l.keyIndex 4 0 with
          | some k => if keyCheck k = l.keyCheck then loadIndex l k millis else put F.LKT_STATUS_STATE 6
          | none => put F.LKT_STATUS_STATE 6))]

def execStoreRecovery (millis : Nat) (s : State) : Host.Outcome State Fault Refusal :=
  .next ((storeRecoveryAct millis).run s)

/-! ## Drives (R279, R305) -/

/-- The store has started since the last core reset, so ports are sampled. -/
def State.storeStarted (s : State) : Bool := s.up && s.units.store.refclk

/-- A port is treated as removed (R279): STq_PERST_N goes low and a member is MISSING. -/
def removePort (q : Nat) : Act := Act.all [
  onStore (fun x => { x with perstHigh := x.perstHigh.filter (fun p => decide (p ≠ q)) }),
  count (F.LKT_PORT_REMOVALS_C q),
  put (F.LKT_PORT_STATUS_SPEED q) 0,
  put (F.LKT_PORT_STATUS_WIDTH q) 0,
  memberLost q 3]

/-- The port is one of the part's. -/
def State.hasStore (s : State) (q : Nat) : Bool := decide (q < s.part.storePorts)

/-- DRIVE_PRESENCE_CHANGE (R279). -/
def drivePresenceChangeAct (q : Nat) : Act := .look fun s =>
  Act.when (s.hasStore q && (s.bay q).present) (.seq (onBay q (fun b => { b with present := false }))
    (Act.when s.storeStarted (.seq (put (F.LKT_PORT_STATUS_PRESENT q) 0) (removePort q))))

def execDrivePresenceChange (q : Nat) (s : State) : Host.Outcome State Fault Refusal :=
  .next ((drivePresenceChangeAct q).run s)

/-- A drive on a port is trained and its label read: the set's own member returns (R308). An isolated port is held in
reset (R519). -/
def enterPort (q : Nat) : Act := .look fun s =>
  let setId := s.units.store.label.map (·.setId)
  let kind := s.portKind setId q
  Act.when (!s.isolated 6 q) (.seq (onStore (fun x => { x with perstHigh := q :: x.perstHigh.filter (fun p => decide (p ≠ q)) }))
    (if kind = 2 && s.members.contains q && decide (3 ≤ s.storeState) && decide (s.storeState ≤ 5)
      then .seq (showPort q 1) (memberReturns q)
     else showPort q kind))

/-- DRIVE_INSERTED (R279): before the store has started, the drive stands ready for recovery. -/
def driveInsertedAct (q : Nat) (d : Option StoreDrive) : Act := .look fun s =>
  Act.when (s.hasStore q) (.seq
    (onBay q (fun b => { drive := match d with | some x => some x | none => b.drive, present := true }))
    (Act.when s.storeStarted (enterPort q)))

def execDriveInserted (q : Nat) (d : Option StoreDrive) (s : State) : Host.Outcome State Fault Refusal :=
  .next ((driveInsertedAct q d).run s)

/-- STORE_LINK_DOWN (R279): the port is treated as removed. -/
def storeLinkDownAct (q : Nat) : Act := .look fun s =>
  Act.when (s.hasStore q && s.storeStarted && s.units.store.perstHigh.contains q) (removePort q)

def execStoreLinkDown (q : Nat) (s : State) : Host.Outcome State Fault Refusal := .next ((storeLinkDownAct q).run s)

/-- DRIVE_FAILED (R305): of a member that works. -/
def driveFailedAct (q : Nat) (how : DriveFailure) : Act := .look fun s =>
  Act.when (s.hasStore q && s.members.contains q && s.working q) (Act.all [
    (match how with
      | .timeout => count (F.LKT_PORT_TIMEOUTS_C q)
      | .repeatedError => countBy (F.LKT_PORT_CMD_ERRORS_C q) 2
      | _ => .skip),
    memberLost q 4])

def execDriveFailed (q : Nat) (how : DriveFailure) (s : State) : Host.Outcome State Fault Refusal :=
  .next ((driveFailedAct q how).run s)

/-- A reset of a store port's domain: removed and inserted (R519). -/
def storePortReset (q : Nat) : Act := .look fun s =>
  Act.when (s.hasStore q && s.storeStarted && (s.bay q).present) (.seq (removePort q) (enterPort q))

/-! ## Writing (R287 to R292, R297, R300) -/

/-- STORE_FRAME_WRITE (R287, R288, R300, R306): the oldest frame that waits for the store. -/
def storeFrameWriteAct (overload : Bool) : Act := .look fun s =>
  match s.units.storeIn with
  | [] => .skip
  | f :: rest =>
    let st := s.storeState
    .seq (.units fun u => { u with storeIn := rest })
      (if s.part.storePorts = 0 then .skip
       else if st = 5 then storeDrop F.LKT_DEVICE_OVERLOAD_DROPPED_C f.item
       else if (st ≠ 3 ∧ st ≠ 4) ∨ s.units.store.nextBlock - s.units.store.snapNext ≥ 1048576 then
        storeDrop F.LKT_DEVICE_NOT_READY_C f.item
       else if overload then storeDrop F.LKT_DEVICE_OVERLOAD_DROPPED_C f.item
       else match f.spill with
        | some (l, t) => storeSpill l t f.prio f.item
        | none => if s.readoutStream f.item.stream then storeWindow f.prio f.item else storeRing f.prio f.item)

def execStoreFrameWrite (overload : Bool) (s : State) : Host.Outcome State Fault Refusal :=
  .next ((storeFrameWriteAct overload).run s)

/-- STRIPE_COMMIT_EXPIRY (R290). -/
def stripeCommitExpiryAct (st : Nat) : Act := .look fun s =>
  let ms := s.get (F.LKT_STREAM_CFG_COMMIT_MS st)
  match s.units.store.openFor 0 st with
  | some o => Act.when (decide (ms ≠ 0) && decide (s.keep.elapsed ≥ o.since + ms * tickMs)) (closeStripe o)
  | none => .skip

def execStripeCommitExpiry (st : Nat) (s : State) : Host.Outcome State Fault Refusal :=
  .next ((stripeCommitExpiryAct st).run s)

/-- JOURNAL_BLOCK_WRITE (R297). -/
def journalBlockWriteAct : Act := writeBlock

def execJournalBlockWrite (s : State) : Host.Outcome State Fault Refusal := .next (journalBlockWriteAct.run s)

/-- JOURNAL_BLOCK_DURABLE (R297, R298): the oldest block in flight. -/
def journalBlockDurableAct : Act := .look fun s =>
  Act.when (!s.units.store.flight.isEmpty) (.seq blockDurable autoCompact)

def execJournalBlockDurable (s : State) : Host.Outcome State Fault Refusal := .next (journalBlockDurableAct.run s)

/-! ## Compaction, format, adoption (R298, R308, R312, R316) -/

/-- A format, adoption, compaction or replay is in progress (R312, R316). -/
def State.storeBusy (s : State) : Bool :=
  s.units.store.formatting.isSome || s.units.store.compaction.isSome
    || (List.range 8).any (fun e => s.is (F.LKT_REPLAY_STATUS_BUSY e))

/-- A command of LKT_CTRL ends with a result. -/
def storeDone (result : Nat) : Act := .seq (put F.LKT_STATUS_RESULT result) (event F.LKT_STATUS_DONE)

/-- LKT_COMPACT (R298, R316): a write of LKT_CTRL. -/
def lktCompactAct (writer : Nat) (value : Word) : Act := .look fun s =>
  if s.part.storePorts = 0 || getBits value 1 1 = 0 then .skip
  else if !s.hasRight writer 0x05000000 then writeLost F.LKT_STATUS_WRITE_LOST
  else if writer ≠ 0 ∨ getBits value 31 16 ≠ 0xA5C3 then storeDone 4
  else if s.storeBusy || !(decide (3 ≤ s.storeState) && decide (s.storeState ≤ 5)) then storeDone 5
  else startCompaction true

def execLktCompact (writer : Nat) (value : Word) (s : State) : Host.Outcome State Fault Refusal :=
  .next ((adjusts writer F.LKT_CTRL_COMPACT (lktCompactAct writer value)).run s)

/-- COMPACTION_DONE (R298, step 3). -/
def compactionDoneAct : Act := .look fun s =>
  match s.units.store.compaction with
  | none => .skip
  | some (x, forced) =>
    let slotB := s.get F.LKT_JOURNAL_SLOT = 0
    Act.all [
      writeSnapshot slotB x,
      onStore (fun y => { y with compaction := none, generation := x.generation, snapNext := x.next }),
      journal { kind := 11, aux := b2n slotB, a := x.point },
      put F.LKT_JOURNAL_SLOT (b2n slotB),
      refreshJournal,
      count F.LKT_DEVICE_COMPACTIONS_C,
      (if forced then storeDone 0 else event F.LKT_STATUS_DONE)]

def execCompactionDone (s : State) : Host.Outcome State Fault Refusal := .next (compactionDoneAct.run s)

/-- The ports whose drives a format takes: a compatible drive is present and not held in reset. -/
def State.formatPorts (s : State) : List Nat :=
  (List.range 16).filter (fun q => s.units.store.perstHigh.contains q
    && (match s.driveAt q with | some d => compatible d | none => false))

/-- ROWS of a set on some ports (R282). -/
def State.rowsOf (s : State) (ports : List Nat) : Nat :=
  let least := (ports.filterMap s.driveAt).foldl (fun m d => min m d.lbas) (2 ^ 32)
  (least - 1573120) / 512

/-- The RESULT of a request to format: 0 when it is accepted (R312). -/
def State.formatResult (s : State) (writer : Nat) (value : Word) : Nat :=
  let ports := s.formatPorts
  let rows := s.rowsOf ports
  if writer ≠ 0 ∨ getBits value 31 16 ≠ 0xA5C3 then 4
  else if s.storeBusy || s.storeState = 1 || s.storeState = 2 then 5
  else if s.is F.LKT_CFG_LAYOUT && (decide (ports.length < 16) || decide (s.part.storePorts < 16)) then 1
  else if ports.isEmpty then 2
  else if (s.usable (s.get F.LKT_KEY_KEY_INDEX) 4 0).isNone then 3
  else if s.get F.LKT_POOL_WINDOW_STRIPES + s.get F.LKT_POOL_SPILL_STRIPES > rows then 6
  else 0

/-- FORMAT (R312): a write of LKT_CTRL. -/
def formatAct (writer : Nat) (value : Word) : Act := .look fun s =>
  if s.part.storePorts = 0 || getBits value 0 0 = 0 then .skip
  else if !s.hasRight writer 0x05000000 then writeLost F.LKT_STATUS_WRITE_LOST
  else if s.formatResult writer value ≠ 0 then storeDone (s.formatResult writer value)
  else .seq (put F.LKT_STATUS_STATE 8) (onStore (fun x => { x with
    opens := [], closing := [], records := [], flight := [], awaiting := []
    formatting := some {
      guarded := s.is F.LKT_CFG_LAYOUT, keyIndex := s.get F.LKT_KEY_KEY_INDEX, windows := s.get F.LKT_POOL_WINDOW_STRIPES
      spills := s.get F.LKT_POOL_SPILL_STRIPES, ports := s.formatPorts } }))

def execFormat (writer : Nat) (value : Word) (s : State) : Host.Outcome State Fault Refusal :=
  .next ((adjusts writer F.LKT_CTRL_FORMAT (formatAct writer value)).run s)

/-- Writes a member's label (R283). -/
def writeLabel (q : Nat) (l : DriveLabel) : Act := Act.all [
  driveWrite q 0 (labelBytes { l with member := q }) 4096,
  driveWrite q 255 (labelBytes { l with member := q }) 4096,
  onDrive q (fun d => { d with label := some { l with member := q } })]

/-- Formats the drives of some ports as one set (R312). -/
def formatSet (ports : List Nat) (l : DriveLabel) (key : List Byte) : Act := .look fun s =>
  let snap : Snapshot := { generation := 1, point := 0, next := 0, setId := l.setId, recs := [] }
  let x := s.units.store
  let streams := (x.live.filter (fun e => e.pool = 0)).map (·.subject)
  Act.all [
    Act.each (x.windowList.map (·.1)) freeWindow,
    onStore (fun y => { refclk := y.refclk, perstHigh := y.perstHigh, guarded := l.guarded, windowPool := l.windows,
                        spillPool := l.spills, key := key, label := some l, generation := 1 }),
    showLabel l,
    Act.each (List.range s.part.storePorts) (fun q =>
      if ports.contains q then Act.all [
        onDrive q (fun d => { d with journal := [], chunks := [], slotA := none, slotB := none, corrupt := [] }),
        writeLabel q l, put (F.LKT_PORT_STATUS_STATE q) 2]
      else put (F.LKT_PORT_STATUS_STATE q) (if x.perstHigh.contains q then s.portKind (some l.setId) q else 0)),
    writeSnapshot false snap,
    put F.LKT_JOURNAL_SLOT 0,
    refreshJournal,
    Act.each streams showRing,
    put F.LKT_STATUS_STATE 3,
    storeDone 0]

/-- FORMAT_DONE (R312): SET_ID comes from the entropy source. Drives that have gone since are left out; when those that
remain no longer allow the format, it ends refused, without a set. -/
def formatDoneAct : Act := .look fun s =>
  match s.units.store.formatting with
  | none => .skip
  | some f =>
    let ports := s.formatPorts.filter f.ports.contains
    let key := (s.usable f.keyIndex 4 0).getD []
    let refuse := fun r => Act.all [onStore (fun x => { x with formatting := none }), put F.LKT_STATUS_STATE 0, storeDone r]
    if f.guarded ∧ ports.length < 16 then refuse 1
    else if ports.isEmpty then refuse 2
    else .draw fun r => formatSet ports {
      guarded := f.guarded, member := 0, setId := r.toNat, mask := ports.foldl (fun m q => m + 2 ^ q) 0
      keyIndex := f.keyIndex, rows := s.rowsOf ports, windows := f.windows, spills := f.spills, keyCheck := keyCheck key
      created := s.units.d0 / tickS % 2 ^ 48, device := s.device % 2 ^ 14 } key

def execFormatDone (s : State) : Host.Outcome State Fault Refusal := .next (formatDoneAct.run s)

/-- The blocks of the live journal: durable, and being written. -/
def State.liveBlocks (s : State) (source : Option StoreDrive) : List JournalBlock :=
  let x := s.units.store
  let old := fun d : StoreDrive => (d.journal.map (·.2)).filter (fun b =>
    decide (x.snapNext ≤ b.number) && decide (b.number < x.nextBlock) && !x.flight.any (fun e => e.number = b.number))
  (source.map old).getD [] ++ x.flight

/-- Adopts the drive on a member's port (R308): its label, the live journal and the valid snapshot, and in the guarded layout
the stripes that lack it. -/
def adopt (q : Nat) (l : DriveLabel) : Act := .look fun s =>
  let x := s.units.store
  let source := (s.workers.filterMap s.driveAt).head?
  let blocks := s.liveBlocks source
  let snap := newestSnapshot source.toList l.setId
  Act.all [
    onDrive q (fun d => { d with journal := [], slotA := none, slotB := none, chunks := [] }),
    writeLabel q l,
    Act.each blocks (fun b =>
      let lba := 256 + b.number % 1048576
      .seq (driveWrite q lba (cipher x.key q lba (blockParts b).2) 4096)
        (onDrive q (fun d => { d with journal := Sparse.set (fun _ => ({} : JournalBlock)) d.journal (b.number % 1048576) b }))),
    (match snap with
      | some (y, slotB) => snapshotTo slotB y q
      | none => .skip),
    Act.when x.guarded (Act.each (x.live.filter (fun e => e.map.testBit q)) (fun e =>
      let e' := { e with map := e.map - 2 ^ q }
      .seq (onStore (fun y => { y with live := y.live.map (fun f => if f = e then e' else f) })) (journal e'.record))),
    memberReturns q]

/-- ADOPT (R308): a write of LKT_PORT_CTRL. -/
def adoptAct (q writer : Nat) (value : Word) : Act := .look fun s =>
  if !s.hasStore q || getBits value 0 0 = 0 then .skip
  else if !s.hasRight writer 0x05000000 then writeLost (F.LKT_PORT_STATUS_WRITE_LOST q)
  else if writer ≠ 0 ∨ getBits value 31 16 ≠ 0xA5C3 then put F.LKT_STATUS_RESULT 4
  else if s.storeBusy || !(decide (3 ≤ s.storeState) && decide (s.storeState ≤ 5)) then put F.LKT_STATUS_RESULT 5
  else match s.units.store.label, s.driveAt q with
    | some l, some d =>
      if s.portState q ≠ 5 ∨ !s.members.contains q ∨ d.lbas < 1573120 + 512 * l.rows then put F.LKT_STATUS_RESULT 2
      else
        .seq (put F.LKT_STATUS_RESULT 0) (adopt q l)
    | _, _ => put F.LKT_STATUS_RESULT 2

def execAdopt (q writer : Nat) (value : Word) (s : State) : Host.Outcome State Fault Refusal :=
  .next ((adjusts writer (F.LKT_PORT_CTRL_ADOPT q) (adoptAct q writer value)).run s)

/-- The next stripe of a member's rebuild that can be reconstructed, with its data chunks (R306, R309). -/
def State.nextRebuild (s : State) (q : Nat) : Option (LiveStripe × List (List StoredRec)) :=
  let all := (s.units.store.live.filter (s.units.store.toRebuild q)).filterMap (fun l =>
    let cs := (List.range l.chunks).map (fun i => s.readChunk l i)
    if cs.all Option.isSome then some (l, cs.filterMap (fun c => c.map (·.1))) else none)
  all.foldl (fun best e => match best with
    | none => some e
    | some b => if e.1.stripe < b.1.stripe then some e else some b) none

/-- REBUILD_STRIPE (R308, R309). -/
def rebuildStripeAct (q : Nat) : Act := .look fun s =>
  match decide (s.portState q = 7), s.nextRebuild q with
  | true, some (l, cs) =>
    let x := s.units.store
    let lba := 1573120 + 512 * l.stripe
    let role := (q + 32 - l.stripe % 16) % 16
    let enc := fun i => cipher x.key ((l.stripe + 2 + i) % 16) lba (chunkOf (cs.getD i []))
    let l' := { l with map := l.map + 2 ^ q }
    let bytes := match role with
      | 0 => parityP ((List.range cs.length).map enc)
      | 1 => parityQ ((List.range cs.length).map enc)
      | i + 2 => enc i
    let chunk : StoredChunk := match role with | 0 => .parity cs | 1 => .parity cs | i + 2 => .data (cs.getD i [])
    Act.all [
      driveWrite q lba bytes chunkBytes,
      onDrive q (fun d => { d with chunks := Sparse.set (fun _ => none) d.chunks l.stripe (some chunk) }),
      driveFlush q,
      onStore (fun y => { y with live := y.live.map (fun e => if e = l then l' else e) }),
      journal l'.record,
      count F.LKT_DEVICE_CHUNKS_RECONSTRUCTED_C,
      put (F.LKT_PORT_REBUILD_STRIPES_DONE q) (s.get (F.LKT_PORT_REBUILD_STRIPES_DONE q) + 1),
      refreshRebuild q, finishRebuild q, refreshState]
  | true, none => refreshRebuilds
  | _, _ => .skip

def execRebuildStripe (q : Nat) (s : State) : Host.Outcome State Fault Refusal := .next ((rebuildStripeAct q).run s)

/-! ## Replay engines (R313 to R316) -/

/-- The engine at work in a place. -/
def State.engine (s : State) (e : Nat) : Option Engine := Sparse.get (fun _ => none) s.units.store.engines e

/-- Replaces an engine. -/
def setEngine (e : Nat) (g : Option Engine) : Act := onStore (fun x => { x with
  engines := Sparse.set (fun _ => none) x.engines e g })

/-- The engine as LKT_REPLAY_CFG, FROM and TO ask for it, reading from the index as it stands (R314). -/
def State.newEngine (s : State) (e : Nat) : Engine :=
  let x := s.units.store
  let g := fun f : Nat → Field => s.get (f e)
  let from_ := g F.LKT_REPLAY_FROM_TIME
  let to_ := g F.LKT_REPLAY_TO_TIME
  let subject := g F.LKT_REPLAY_CFG_SUBJECT
  let link := g F.LKT_REPLAY_CFG_LINK
  let base : Engine := {
    source := g F.LKT_REPLAY_CFG_SOURCE, subject := subject, queue := 8 * link + g F.LKT_REPLAY_CFG_PRIORITY
    endpoint := g F.LKT_REPLAY_CFG_ENDPOINT, release := g F.LKT_REPLAY_CFG_RELEASE = 1
    follow := g F.LKT_REPLAY_CFG_FOLLOW = 1
    reliable := s.liveIs (epF (portOf link) (g F.LKT_REPLAY_CFG_ENDPOINT) F.LSN_ENDPOINT_W0_RELIABLE)
    from_ := from_, to_ := to_ }
  match base.source with
  | 1 => { base with todo := (x.live.filter (fun l => l.pool = 0 && l.subject = subject
            && decide (dif l.b from_ ≥ 0) && decide (dif l.a to_ < 0))).map (fun l => (l.stripe, some l)) }
  | 2 => match x.window subject with
    | some w => { base with
        first := w.first, last := w.last
        todo := w.stripes.map (fun n => (n, x.live.find? (fun l => l.stripe = n))) }
    | none => base
  | _ => { base with next := (x.object subject).gone, limit := (x.object subject).total }

/-- The RESULT of a request to start an engine: 0 when it is accepted (R313, LKT_REPLAY_STATUS). -/
def State.replayResult (s : State) (e writer : Nat) : Nat :=
  let g := fun f : Nat → Field => s.get (f e)
  let subject := g F.LKT_REPLAY_CFG_SUBJECT
  let owner := match g F.LKT_REPLAY_CFG_SOURCE with
    | 1 => s.streamOwner subject
    | 2 => s.streamOwner (s.get (F.LKT_WINDOW_W0_STREAM subject))
    | _ => subject % 32
  let n := s.newEngine e
  if s.storeState < 3 ∨ s.storeState > 5 then 6
  else if g F.LKT_REPLAY_CFG_SOURCE = 0 ∨ (g F.LKT_REPLAY_CFG_SOURCE = 2 ∧ subject ≥ 4096)
      ∨ g F.LKT_REPLAY_CFG_LINK / 8 ≥ s.part.listenerPorts ∨ g F.LKT_REPLAY_CFG_ENDPOINT ≥ 256 then 3
  else if writer ≠ 0 ∧ owner ≠ writer then 1
  else if writer ≠ 0 ∧ !(s.tenant writer).links.testBit (g F.LKT_REPLAY_CFG_LINK) then 2
  else if (n.source < 3 ∧ n.todo.isEmpty) ∨ (n.source = 3 ∧ !n.follow ∧ n.next ≥ n.limit) then 7
  else 0

/-- REPLAY_START (R313, R314): a write of LKT_REPLAY_CTRL. -/
def replayStartAct (e writer : Nat) (value : Word) : Act := .look fun s =>
  if s.part.storePorts = 0 || decide (e ≥ 8) || getBits value 0 0 = 0 then .skip
  else if !s.hasRight writer 0x05000000 then writeLost F.LKT_STATUS_WRITE_LOST
  else if s.is (F.LKT_REPLAY_STATUS_BUSY e) then put (F.LKT_REPLAY_STATUS_RESULT e) 4
  else if s.replayResult e writer ≠ 0 then
    .seq (put (F.LKT_REPLAY_STATUS_RESULT e) (s.replayResult e writer)) (event (F.LKT_REPLAY_STATUS_DONE e))
  else Act.all [
    setEngine e (some (s.newEngine e)),
    put (F.LKT_REPLAY_STATUS_BUSY e) 1,
    put (F.LKT_REPLAY_STATUS_OWNER e) writer,
    put (F.LKT_REPLAY_PROGRESS_FRAMES e) 0,
    put (F.LKT_REPLAY_PROGRESS_SKIPPED_STRIPES e) 0]

def execReplayStart (e writer : Nat) (value : Word) (s : State) : Host.Outcome State Fault Refusal :=
  .next ((adjusts writer (F.LKT_REPLAY_CTRL_START e) (replayStartAct e writer value)).run s)

/-- The frames an engine takes from records of a stripe. -/
def Engine.wants (g : Engine) (stripe : Nat) (r : Nat × StoredRec) : Bool :=
  match g.source with
  | 1 => decide (dif (timeFirst r.2.item) g.from_ ≥ 0) && decide (dif (timeFirst r.2.item) g.to_ < 0)
  | 2 => r.2.rkind = 2 && r.2.object = g.subject && !(stripe = g.first.1 && decide (r.1 < g.first.2))
      && !(stripe = g.last.1 && decide (r.1 ≥ g.last.2))
  | _ => r.2.rkind = 3 && r.2.object = g.subject

/-- The index still holds a stripe as it was. -/
def sameStripe (a b : LiveStripe) : Bool :=
  a.stripe = b.stripe && a.pool = b.pool && a.subject = b.subject && a.count = b.count && a.a = b.a && a.b = b.b
    && a.octets = b.octets

/-- What reading a stripe gives an engine: frames with the ports read, frames lost, chunks reconstructed; `none` when the
stripe has been taken for reuse (R316). -/
def State.loadStripe (s : State) (g : Engine) (t : Nat × Option LiveStripe) : Option (List (Nat × Item) × Nat × Nat) :=
  let x := s.units.store
  let fromLive := fun l : LiveStripe =>
    let r := s.readStripe l
    ((r.1.filter (g.wants l.stripe)).map (fun e =>
        let q := x.chunkPort l (e.1 / chunkBytes)
        (if (s.directChunk l (e.1 / chunkBytes)).isSome then q else 16, e.2.item)),
      l.count - r.1.length, r.2)
  match t.2 with
  | some l => (x.live.find? (sameStripe l)).map fromLive
  | none => match (x.opens ++ x.closing).find? (fun o => o.stripe = t.1) with
    | some o => some (((offsets o.chunks 0).filter (g.wants o.stripe)).map (fun e => (16, e.2.item)), 0, 0)
    | none => (x.live.find? (fun l => l.stripe = t.1 && l.pool = 1)).map fromLive

/-- What an engine passes over on its way to its next frame: stripes skipped, frames lost, chunks reconstructed, and the
numbers of spilled frames lost, which no listener can still take. -/
abbrev Passed := Nat × Nat × Nat × List Nat

/-- Reads on through the stripes of a ring or window until there is a frame. -/
def State.readOn (s : State) (g : Engine) : List (Nat × Option LiveStripe) → Passed → Engine × Passed
  | [], p => ({ g with todo := [] }, p)
  | t :: rest, p => match s.loadStripe g t with
    | none => s.readOn g rest (p.1 + 1, p.2)
    | some (fs, lost, made) =>
      let p' : Passed := (p.1, p.2.1 + lost, p.2.2.1 + made, p.2.2.2)
      if fs.isEmpty then s.readOn g rest p' else ({ g with todo := rest, frames := fs }, p')

/-- Reads on through the ranges of a spill object until there is a frame. -/
def State.readSpill (s : State) (g : Engine) : Nat → List SpillRange → Passed → Engine × Passed
  | _, [], p => (g, p)
  | base, r :: rest, p =>
    let upTo := base + r.count
    let next := max g.next (s.units.store.object g.subject).gone
    if upTo ≤ next then s.readSpill g upTo rest p
    else match s.loadStripe g (r.stripe, s.units.store.live.find? (fun l => l.stripe = r.stripe)) with
      | none => s.readSpill { g with next := upTo } upTo rest p
      | some (fs, _, made) =>
        -- what the range had released before it was read is no longer counted in it
        let mine := (fs.drop (fs.length - r.count)).drop (next - base)
        let lost := r.count - min fs.length r.count
        let p' : Passed := (p.1, p.2.1 + lost, p.2.2.1 + made, p.2.2.2 ++ (List.range lost).map (fun i => upTo - lost + i))
        if mine.isEmpty then s.readSpill { g with next := upTo } upTo rest p'
        else ({ g with next := next, frames := mine, rangeEnd := upTo }, p')

/-- An engine with its next frame at hand, if it has one. -/
def State.advanceEngine (s : State) (g : Engine) : Engine × Passed :=
  if !g.frames.isEmpty then (g, (0, 0, 0, []))
  else if g.source = 3 then
    let o := s.units.store.object g.subject
    s.readSpill { g with next := max g.next g.rangeEnd } o.base o.ranges (0, 0, 0, [])
  else s.readOn g g.todo (0, 0, 0, [])

/-- Pushes a frame for an engine, which waits while its queue reads FULL (R314). What the queue refuses for another reason
is diverted (R348). A spilled frame is released once it is committed, or acknowledged (R315). -/
def replayPush (e : Nat) (g : Engine) (q : Nat) (i : Item) (rest : List (Nat × Item)) : Act := .look fun s =>
  let freed := if g.source = 3 && g.release then some (g.subject, g.next) else none
  let item := { i with
    endpoint := g.endpoint, oflags := 2, attempt := 0, launch := none, late := false, win := none
    spilled := if g.reliable then freed else none, freed := if g.reliable then none else freed }
  if s.is (F.Q_STATUS_FULL g.queue) then setEngine e (some g)
  else
    let fate := s.pushFate g.queue item
    Act.all [
      setEngine e (some { g with frames := rest, next := if g.source = 3 then g.next + 1 else g.next }),
      pushFrame g.queue .replay item,
      Act.when (fate = .accepted || fate = .waits || fate = .late)
        (put (F.LKT_REPLAY_PROGRESS_FRAMES e) (s.get (F.LKT_REPLAY_PROGRESS_FRAMES e) + 1)),
      Act.when (decide (q < 16)) (countBy (F.LKT_PORT_BYTES_READ_C q) (recOctets i))]

/-- An engine sends its next frame, or ends: it reads on from its present stripe, or starts to read another. -/
def replayNext (e : Nat) : Act := .look fun s =>
  match s.engine e with
  | none => .skip
  | some g =>
    let r := s.advanceEngine g
    Act.all [
      put (F.LKT_REPLAY_PROGRESS_SKIPPED_STRIPES e) (min 65535 (s.get (F.LKT_REPLAY_PROGRESS_SKIPPED_STRIPES e) + r.2.1)),
      countBy F.LKT_DEVICE_READ_LOST_C r.2.2.1,
      countBy F.LKT_DEVICE_CHUNKS_RECONSTRUCTED_C r.2.2.2.1,
      Act.when (g.source = 3 && g.release && !r.2.2.2.2.isEmpty)
        (onStore (fun x => { x with done := x.done ++ r.2.2.2.2.map (fun n => (g.subject, n)) })),
      (match r.1.frames with
        | (q, i) :: rest =>
          if g.source = 3 && !g.follow && decide (r.1.next ≥ g.limit) then endEngine e 0
          else replayPush e r.1 q i rest
        | [] => if g.source = 3 && g.follow then setEngine e (some r.1) else endEngine e 0)]

/-- REPLAY_FRAME (R314, R316): the next frame, once its queue has room. A stripe that the window may yet take for reuse is
read at the window's end. -/
def replayFrameAct (e : Nat) : Act := .look fun s =>
  match s.engine e with
  | none => .skip
  | some g =>
    if g.frames.isEmpty && !s.pending.isEmpty then .win fun w => { w with replays := w.replays ++ [e] }
    else replayNext e

/-- The end of a window at the store: engines that start to read a stripe do, and releases due are made. -/
def settleStore : Act := .seq (.look fun s => Act.each s.win.replays replayNext) settleReleases

def execReplayFrame (e : Nat) (s : State) : Host.Outcome State Fault Refusal := .next ((replayFrameAct e).run s)

/-- REPLAY_ABORT (R314): a write of LKT_REPLAY_CTRL; the engine stands at a frame boundary between its pushes. -/
def replayAbortAct (e writer : Nat) (value : Word) : Act := .look fun s =>
  if s.part.storePorts = 0 || decide (e ≥ 8) || getBits value 1 1 = 0 then .skip
  else if !s.hasRight writer 0x05000000 then writeLost F.LKT_STATUS_WRITE_LOST
  else if s.is (F.LKT_REPLAY_STATUS_BUSY e) then endEngine e 5
  else .skip

def execReplayAbort (e writer : Nat) (value : Word) (s : State) : Host.Outcome State Fault Refusal :=
  .next ((adjusts writer (F.LKT_REPLAY_CTRL_ABORT e) (replayAbortAct e writer value)).run s)

/-! ## Windows and quotas written by software (R290, R291) -/

/-- The tenant may write an instance it owns (R106, R511). -/
def State.ownsWrite (s : State) (t a : Nat) : Bool := s.hasRight t a && (t = 0 || s.ownerOf a = t)

/-- A write of LOCK (R296, 0x07). -/
def lockWindow (w v : Nat) : Act := .look fun s =>
  Act.when (s.get (F.LKT_WINDOW_W0_STATE w) ≠ 0 && s.get (F.LKT_WINDOW_W0_LOCK w) ≠ v)
    (.seq (put (F.LKT_WINDOW_W0_LOCK w) v) (match s.units.store.window w with
      | some x => refer x.first.1 { kind := 7, subject := w, aux := v }
      | none => .skip))

/-- WINDOW_RELEASE (R291): a write of LKT_WINDOW_CTRL by the stream's owner or T0. -/
def windowReleaseAct (w writer : Nat) (value : Word) : Act := .look fun s =>
  if s.part.storePorts = 0 || decide (w ≥ 4096) || getBits value 0 0 = 0 then .skip
  else if !s.ownsWrite writer (F.LKT_WINDOW_CTRL_RELEASE w).addr then writeLost F.LKT_STATUS_WRITE_LOST
  else Act.when (s.get (F.LKT_WINDOW_W0_STATE w) = 2) (freeWindow w)

def execWindowRelease (w writer : Nat) (value : Word) (s : State) : Host.Outcome State Fault Refusal :=
  .next ((adjusts writer (F.LKT_WINDOW_CTRL_RELEASE w) (windowReleaseAct w writer value)).run s)

/-- A write of LKT_STREAM_CFG (R290, R317): a quota above the ring pool is discarded; a lowered one releases stripes. -/
def storeQuota (st writer : Nat) (value : Word) : Act := .look fun s =>
  let a := (F.LKT_STREAM_CFG_RING_STRIPES st).addr
  let v := getBits value 39 16
  if !s.ownsWrite writer a then writeLost F.LKT_STATUS_WRITE_LOST
  else if v > s.get (F.LKT_STREAM_CFG_RING_STRIPES st) ∧ s.ringSum st v > s.poolSize 0 then writeLost F.LKT_STATUS_WRITE_LOST
  else Act.all [
    put (F.LKT_STREAM_CFG_RING_STRIPES st) v,
    put (F.LKT_STREAM_CFG_COMMIT_MS st) (min 1000 (getBits value 9 0)),
    Act.when (decide (3 ≤ s.storeState) && decide (s.storeState ≤ 5)) (trimRing st)]

end Sys2Proof.Machine
end

