-- ==== Sys2Proof/Machine/Talker.lean ====
section
/-! DEFINITION. Jenik lanes: uplink frames, acknowledgement, heartbeats, rosters, commands, markers and cable delay, and
the lane states (R116 to R157, R164 to R166, R619). -/

namespace Sys2Proof.Machine

/-! ## The downlink (R132 to R138) -/

/-- A downlink message leaves at the end of its window, in the order of R133: marker, time, ACK, pulse,
command, of these the device's own before a host's (R135). Before local ready no downlink sends (R46, R48). -/
def downlink (l rank : Nat) (words : List Nat) : Act := .look fun s =>
  Act.when s.up (.win fun w => { w with down := w.down ++ [(l, rank, words.flatMap (be 8))] })

/-- The messages of the window in the order of R133, lane by lane as they became ready. -/
def sortDown (l : List (Nat × Nat × List Byte)) : List (Nat × Nat × List Byte) :=
  [0, 1, 2, 3, 4, 5].flatMap (fun r => l.filter (fun m => m.2.1 = r))

/-- STATE of a lane (R146). -/
def State.laneState (s : State) (l : Nat) : Nat := s.get (F.TLK_STATUS_STATE l)

/-- The lane exists on this part. -/
def State.hasLane (s : State) (l : Nat) : Bool := decide (l < s.part.lanes)

/-- The lane's RTO, with DATA_EN, as ENABLE carries them (R134, R150). -/
def State.enableArg (s : State) (l : Nat) : Nat :=
  s.get (F.TLK_TIMERS_RTO_US l) + (if s.has 0 then 256 * s.get (F.TLK_CFG_DATA_EN l) else 0)

/-- The next TAG after `t`, skipping that of the other command outstanding (R135). -/
def nextTag (t : Nat) (other : Option LaneCmd) : Nat :=
  let n := t % 255 + 1
  match other with | some c => if c.tag = n then n % 255 + 1 else n | none => n

/-- Word 0 of a message with its TAG. -/
def withTag (w tag : Nat) : Nat := w - bits w 39 32 * 2 ^ 32 + tag * 2 ^ 32

/-- Sends a command of the device: DISCOVER (1) or ENABLE (2), for the whole talker end (R134, R135). No rule names an
occasion for DISABLE, which is never sent (log entry 117). -/
def ownCommand (l opcode arg : Nat) : Act := .look fun s =>
  let u := s.lane l
  let tag := nextTag u.tag u.host
  let w := 3 * 2 ^ 60 + 0xFF * 2 ^ 48 + opcode * 2 ^ 40 + tag * 2 ^ 32 + arg
  .seq (onLane l (fun u => { u with
      tag := tag, own := some { words := [w], tag := tag, sentAt := s.keep.elapsed }, retryAt := none }))
    (Act.when (!s.fenced) (downlink l 4 [w]))

/-- Sends DISCOVER. -/
def sendDiscover (l : Nat) : Act := ownCommand l 1 0

/-- Sends ENABLE. -/
def sendEnable (l : Nat) : Act := .look fun s => ownCommand l 2 (s.enableArg l)

/-! ## Lane states (R146 to R149) -/

/-- A waiting write of this window brings a field of a lane's registers a value that `p` selects. -/
def State.laneAsked (s : State) (f : Field) (p : Nat → Bool) : Bool := (s.asked f).any (fun x => p x.2)

/-- A later command of this window leads the lane to a state below `st` (R148). -/
def State.lowerPending (s : State) (l st : Nat) : Bool :=
  let stands := s.laneState l = 6 || s.laneState l = 7
  let off := fun mode : Nat => mode = 0 || mode = 3
  let right := fun w : Nat => s.hasRight w (F.TLK_CTRL_RESTART l).addr
  s.pending.any (fun c => match c with
    | .lossOfSignal l' => l' = l && decide (1 < st)
    | .restart l' w v => l' = l && getBits v 0 0 = 1 && right w && decide (1 < st)
    | .tlkCfgWrite l' w v => l' = l && off (getBits v 1 0) && right w && decide (0 < st)
    | .lossOfLock l' => l' = l && decide (2 < st)
    | .linkTimeout l' => l' = l && decide (2 < st)
        && decide (s.keep.elapsed ≥ (s.lane l).frameAt + s.get (F.TLK_TIMERS_LINK_TIMEOUT_US l) * tickUs)
    | .remeasure l' w v => l' = l && getBits v 1 1 = 1 && right w && stands && decide (4 < st)
    | _ => false)
  || (decide (0 < st) && s.laneAsked (F.TLK_CFG_MODE l) off)
  || (decide (1 < st) && s.laneAsked (F.TLK_CTRL_RESTART l) (· = 1))
  || (decide (4 < st) && stands && s.laneAsked (F.TLK_CTRL_REMEASURE l) (· = 1))

/-- Puts a lane into a state. Its own DISCOVER goes on in STANDBY, an ENABLE does not (R146, R151); below DISCOVERING its own
command is dropped and not counted as abandoned (log entry 118). Pending heartbeats stay (log entry 119). -/
def enterState (l st : Nat) : Act := .look fun s =>
  let old := s.laneState l
  let now := s.keep.elapsed
  let discover := fun c : LaneCmd => bits (c.words.headD 0) 47 40 = 1
  Act.all [
    put (F.TLK_STATUS_STATE l) st,
    Act.when ((old = 6 || old = 7) && decide (st < 6)) (event (F.TLK_EVENTS_LINK_DOWN l)),
    Act.when (decide (st < 3) || st = 8) (put (F.TLK_STATUS_TIME_VALID l) 0),
    onLane l (fun u => { u with
      locked := u.locked && decide (2 < st) && st ≠ 8
      own := if st = 5 || st = 6 then u.own else if st = 7 then u.own.filter discover else none
      retryAt := none
      resume := if (old = 6 || old = 7) && !(st = 6 || st = 7) then some (old, now) else u.resume
      renewed := u.renewed && !(st = 6 || st = 7)
      leftActive := if st = 0 || st = 6 || st = 7 || st = 8 then none
        else if old = 6 then some now else u.leftActive })]

/-- Moves a lane to a state; an eighth entry into ALIGNING or DARK within 1 s leads to FAULT. A fenced device's lanes
stay where they are (R156), and a waiting command that leads lower wins (R148). -/
def moveLane (l new : Nat) : Act := .look fun s =>
  let u := s.lane l
  let now := s.keep.elapsed
  let entries := if new = 1 || new = 2 then now :: u.flaps.filter (fun t => decide (now < t + tickS)) else u.flaps
  let flap := (new = 1 || new = 2) && decide (entries.length ≥ 8)
  if s.fenced || s.lowerPending l new then .skip
  else Act.all [
    enterState l (if flap then 8 else new),
    Act.when flap (event (F.TLK_EVENTS_FLAP_FAULT l)),
    onLane l (fun u => { u with flaps := entries })]

/-- Enters MEASURING: a new pass of echoes (R138, R147 step 5). -/
def startMeasuring (l : Nat) : Act :=
  .seq (moveLane l 4) (onLane l (fun u => { u with delays := [], valid := 0, measuredAt := none, echoes := [] }))

/-- Enters DISCOVERING and sends DISCOVER. -/
def startDiscovering (l : Nat) : Act := .look fun s => Act.when (!s.fenced && !s.lowerPending l 5) (Act.all [
  moveLane l 5, onLane l (fun u => { u with roster := false, own := none }), sendDiscover l])

/-- Enters ACTIVE (R126). -/
def enterActive (l : Nat) : Act := .look fun s => Act.all [
  moveLane l 6,
  put (F.TLK_STATUS_RTO_SHORT l)
    (b2n (decide (s.get (F.TLK_TIMERS_RTO_US l) * tickUs < (s.lane l).trip + 2 * tickUs)))]

/-- Shows the number of pending heartbeats. -/
def showPending (l : Nat) : Act := .look fun s => put (F.TLK_SEQ_PENDING_HB l) (s.lane l).pending.length

/-- A new SESSION: CUM, B and the pending heartbeats start again, and no watermark of it has been heard (R120, R148). -/
def newSession (l session : Nat) : Act := Act.all [
  put (F.TLK_STATUS_SESSION l) session,
  put (F.TLK_SEQ_CUM l) 65535,
  onLane l (fun u => { u with bitmap := 0, pending := [], renewed := true }),
  showPending l,
  Act.each (List.range 128) (fun t => .look fun s =>
    Act.when ((s.talker l t).wm.isSome) (onTalker l t (fun x => { x with heard := false, leaving := false })))]

/-- The first valid frame after lock: LINKED, and at once MEASURING (R147 steps 4 and 5, R149). -/
def linkLane (l session : Nat) : Act := .look fun s =>
  let same := session = s.get (F.TLK_STATUS_SESSION l)
  let back := match (s.lane l).resume with | some (_, t) => same && !(s.lane l).renewed && decide (s.keep.elapsed < t + tickS) | none => false
  Act.when (!s.fenced && !s.lowerPending l 3) (Act.all [
    put (F.TLK_STATUS_STATE l) 3,
    event (F.TLK_EVENTS_LINK_UP l),
    put (F.TLK_DELAY_ECHOES l) 0,
    put (F.TLK_STAMP_OFFSET_SAMPLES l) 0,
    put (F.TLK_STAMP_OFFSET_VALID l) 0,
    if same then .skip else newSession l session,
    onLane l (fun u => { u with samples := [], resume := if back then u.resume else none }),
    startMeasuring l])

/-! ## Offsets and correction (R140 to R142, R164 to R166) -/

/-- The lane's asymmetry term in ticks (TIM_LANE_APPLIED, 2^-8 ticks). -/
def State.laneAsym (s : State) (l : Nat) : Int := sgn 32 (s.get (F.TIM_LANE_APPLIED_ASYM l)) / 256

/-- A talker's fixed latency (R165). -/
def State.latency (s : State) (l t : Nat) : Nat :=
  if s.is (F.TLK_TALKER_STATE_USE_OVERRIDE l t) then s.get (F.TLK_TALKER_STATE_OVERRIDE_LATENCY l t)
  else s.get (F.TLK_TALKER_STATE_REPORTED_LATENCY l t)

/-- OFFSET of a talker (R165); `follows` is STAMP_FOLLOWS of the frame. -/
def State.offset (s : State) (l t : Nat) (follows : Bool) : Int :=
  (if !follows && s.is (F.TLK_STAMP_OFFSET_VALID l) then sgn 40 (s.get (F.TLK_STAMP_OFFSET_OFFSET l))
    else (s.get (F.TLK_DELAY_CABLE_DELAY l) : Int) + s.laneAsym l) + s.latency l t

/-- Steps 1 and 2 of R164. -/
def State.correct (s : State) (l t : Nat) (follows : Bool) (talkerTime : Nat) : Nat :=
  addT (addT s.now (sgn 48 (enc 48 ((talkerTime : Int) - s.now)))) (s.offset l t follows)

/-! ## Data frames (R119 to R123, R158 to R160, R192) -/

/-- Cuts a body into sentences by their LENGTH fields. -/
def sentencesOf : Nat → List Byte → Option (List (List Byte))
  | _, [] => some []
  | 0, _ => none
  | n + 1, b =>
    let len := 8 * num b 1 1
    if num b 1 1 < 2 || 64 < num b 1 1 || b.length < len then none
    else (sentencesOf n (b.drop len)).map (fun r => b.take len :: r)

/-- The reserved bits of a sentence are zero (R160). -/
def sentenceOk (x : List Byte) : Bool := num x 3 1 = 0 && num x 2 1 < 128 && num x 7 1 = 0

/-- Delivers one sentence (R145, R164). -/
def deliverSentence (l : Nat) (follows : Bool) (x : List Byte) : Act := .look fun s =>
  let t := num x 2 1
  let time := s.correct l t follows (num x 8 6)
  let noOffset := !follows && !s.is (F.TLK_STAMP_OFFSET_VALID l)
  if !s.is (F.TLK_TALKER_STATE_PRESENT l t) then count (F.TLK_UNKNOWN_TALKER_C l)
  else Act.all [
    count (F.TLK_SENTENCES_C l),
    Act.when noOffset (count (F.TLK_NO_STAMP_OFFSET_C l)),
    if dif time s.now > (s.get F.FLT_CTRL_FUTURE_LIMIT_NS * tickNs : Nat) then count (F.FLT_SOURCE_FUTURE_TIME_C l)
    else deliver {
      time := time, source := s.talkerSource l t, src := l, channel := num x 4 4 / 4096, tflags := num x 4 4 / 256 % 16,
      typ := num x 0 1, payload := x.drop 16,
      q12 := min (s.get F.TIM_STATUS_TQ_D0) (3 - num x 14 1 / 64),
      q34 := if s.is (F.TIM_LANE_CFG_CALIBRATED l) then 3 else 2,
      q7 := if noOffset then 1 else 3, corrected := true }]

/-- Delivers the sentences of a frame; from the first that finds no room in the ingress buffer they are dropped (R192). -/
def deliverAll (l : Nat) (follows : Bool) : Nat → List (List Byte) → Act
  | _, [] => .skip
  | room, x :: rest =>
    if x.length > room then countBy (F.FLT_SOURCE_INGRESS_DROPPED_C l) (rest.length + 1)
    else .seq (deliverSentence l follows x) (deliverAll l follows (room - x.length) rest)

/-! ## Heartbeats (R127 to R131) -/

/-- Applies one entry of a heartbeat (R130): a watermark is below the applied one when it is after correction (log entry
120). -/
def applyEntry (l : Nat) (follows : Bool) (e : List Byte) : Act := .look fun s =>
  let t := num e 0 1 % 128
  let w := s.correct l t follows (num e 2 6)
  let u := s.talker l t
  let below := match u.wm with | some v => u.heard && decide (dif w v < 0) | none => false
  if !s.is (F.TLK_TALKER_STATE_PRESENT l t) then count (F.TLK_UNKNOWN_TALKER_C l)
  else if below then count (F.TLK_WM_REGRESS_C l)
  else .seq (onTalker l t (fun x => { x with
      wm := some w, heardAt := s.keep.elapsed, heard := true, leaving := x.leaving || bit (num e 1 1) 0 }))
    (put (F.TLK_TALKER_STATE_STALLED l t) 0)

/-- Entries of `n` bytes. -/
def entriesOf (n : Nat) (b : List Byte) : List (List Byte) := (List.range (b.length / n)).map (fun i => slice b (n * i) n)

/-- Applies pending heartbeats in order while CUM covers them (R129). -/
def applyPending (l : Nat) : Nat → Act
  | 0 => .skip
  | n + 1 => .look fun s =>
    match (s.lane l).pending with
    | [] => .skip
    | h :: rest =>
      Act.when (s.laneState l = 6 && decide ((s.get (F.TLK_SEQ_CUM l) + 65536 - h.cover) % 65536 < 32768)) (Act.all [
        onLane l (fun u => { u with pending := rest }),
        showPending l,
        Act.each (entriesOf 8 h.body) (applyEntry l h.follows),
        applyPending l n])

/-- Holds a heartbeat pending; a fifth discards the oldest (R129). -/
def holdHeartbeat (l : Nat) (h : PendingHb) : Act := .look fun s =>
  let p := (s.lane l).pending ++ [h]
  Act.all [
    onLane l (fun u => { u with pending := if p.length > 4 then p.drop 1 else p }),
    showPending l,
    Act.when (decide (p.length > 4)) (.seq (count (F.TLK_HB_DISCARDED_C l)) (event (F.TLK_EVENTS_HB_OVERFLOW l)))]

/-! ## Frames (R113, R116 to R119) -/

/-- A frame keeps R118 and R119. -/
def frameOk (f : List Byte) : Bool :=
  let n := f.length - 12
  let b := slice f 8 n
  let z := fun (off k : Nat) => (slice b off k).all (· = 0)
  decide (12 ≤ f.length) && decide (f.length ≤ 4108) && num f 4 2 * 8 = n && num f 1 1 % 32 = 0 && num f 0 1 % 16 = 1
    && (match num f 0 1 / 16 with
      | 1 => decide (16 ≤ n) && (match sentencesOf 256 b with | some xs => xs.all sentenceOk | none => false)
      | 2 => decide (8 ≤ n) && decide (n ≤ 1024) && (entriesOf 8 b).all (fun e => decide (num e 0 1 < 128) && num e 1 1 / 2 = 0)
          && decide (((entriesOf 8 b).map (fun e => num e 0 1)).Nodup)
      | 3 => decide (16 ≤ n) && decide (n ≤ 2048) && n % 16 = 0 && num f 2 1 = 0
          && (entriesOf 16 b).all (fun e => decide (num e 0 1 < 128) && num e 4 4 = 0)
      | 4 => decide (8 ≤ n) && decide (n ≤ 40) && num f 2 1 = 0 && z 1 7
      | 5 => n = 16 && num b 4 1 / 2 = 0 && z 5 3 && z 14 2
      | 6 => n = 0
      | _ => false)

/-- A data frame (R120, R121, R146, R150, R151, R154). -/
def dataFrame (l : Nat) (load : Load) (f : List Byte) : Act := .look fun s =>
  let st := s.laneState l
  let seq := num f 2 2
  let cum := s.get (F.TLK_SEQ_CUM l)
  let b := (s.lane l).bitmap
  let body := slice f 8 (f.length - 12)
  if st = 3 || st = 4 || st = 5 then count (F.TLK_DATA_DISCARDED_C l)
  else if st = 7 then count (F.TLK_STANDBY_FRAMES_C l)
  else if st ≠ 6 then .skip
  else if !bit (num f 1 1) 7 then .seq (moveLane l 7) (event (F.TLK_EVENTS_DEMOTED l))
  else .seq (Act.when (!s.has 0) (count (F.TLK_DATA_DISCARDED_C l))) (match classify cum b seq with
    | .duplicate => count (F.TLK_DUPLICATES_C l)
    | .outside => count (F.TLK_OUT_OF_WINDOW_C l)
    | .accept =>
      let next := accept cum b seq
      Act.all [
        .win (fun w => { w with acked := if w.acked.any (fun e => e.1 = l) then w.acked else (l, cum, b) :: w.acked }),
        put (F.TLK_SEQ_CUM l) next.1,
        onLane l (fun u => { u with bitmap := next.2 }),
        count (F.TLK_FRAMES_ACCEPTED_C l),
        countBy (F.TLK_OCTETS_ACCEPTED_C l) body.length,
        Act.when (s.has 0) (.seq (.win fun w => { w with load := load })
          (deliverAll l (bit (num f 1 1) 5) load.room ((sentencesOf 256 body).getD []))),
        applyPending l 4])

/-- A heartbeat frame (R129, R151, R154). -/
def heartbeat (l : Nat) (f : List Byte) : Act := .look fun s =>
  let st := s.laneState l
  let h : PendingHb := { cover := num f 2 2, follows := bit (num f 1 1) 5, body := slice f 8 (f.length - 12) }
  if st = 6 then
    if bit (num f 1 1) 7 then .seq (holdHeartbeat l h) (applyPending l 4)
    else .seq (moveLane l 7) (event (F.TLK_EVENTS_DEMOTED l))
  else Act.when (st = 3 || st = 4 || st = 5) (holdHeartbeat l h)

/-- One address of a roster: its entry, or none (R144). -/
def takeTalker (l t : Nat) (e : Option (List Byte)) : Act := .look fun s =>
  let was := s.is (F.TLK_TALKER_STATE_PRESENT l t)
  match e with
  | some x => Act.all [
      put (F.TLK_TALKER_STATE_PRESENT l t) 1,
      put (F.TLK_TALKER_STATE_REPORTED_LATENCY l t) (num x 1 3),
      put (F.TLK_TALKER_ID_TALKER_ID l t) (num x 8 8),
      Act.when (!was) (onTalker l t (fun _ => { heardAt := s.keep.elapsed }))]
  | none => Act.when was (Act.all [
      put (F.TLK_TALKER_STATE_PRESENT l t) 0,
      put (F.TLK_TALKER_STATE_STALLED l t) 0,
      put (F.TLK_TALKER_STATE_REPORTED_LATENCY l t) 0,
      put (F.TLK_TALKER_ID_TALKER_ID l t) 0,
      onTalker l t (fun _ => {})])

/-- A roster frame (R144, R147 step 7, R619). -/
def roster (l : Nat) (f : List Byte) : Act := .look fun s =>
  let es := entriesOf 16 (slice f 8 (f.length - 12))
  let entry := fun t => es.reverse.find? (fun e => num e 0 1 = t)
  let listed := (List.range 128).filter (fun t => (entry t).isSome)
  let expected := (List.range 128).filter (fun t => (s.get (F.TLK_ROSTER_EXPECT_EXPECT l (t / 64))).testBit (t % 64))
  let first := s.laneState l = 5 && !(s.lane l).roster
  let answers := match (s.lane l).own with | some c => c.tag = num f 3 1 || first | none => false
  let primary := s.get (F.TLK_CFG_MODE l) = 1
  let waiting := (s.lane l).retryAt.isSome
  Act.all [
    Act.each (List.range 128) (fun t => takeTalker l t (entry t)),
    put (F.TLK_STATUS_TALKERS l) listed.length,
    Act.when (listed ≠ expected) (event (F.TLK_EVENTS_ROSTER_MISMATCH l)),
    Act.when answers (onLane l (fun u => { u with own := none })),
    Act.when first (.seq (onLane l (fun u => { u with roster := true }))
      (if !primary then moveLane l 7 else if waiting then .skip else sendEnable l))]

/-- The next try of the device's own command is due 1 ms from now (R619). -/
def retryLater (l : Nat) : Act := .look fun s =>
  Act.when (s.laneState l = 5) (onLane l (fun u => { u with retryAt := some (s.keep.elapsed + tickMs) }))

/-- Ends the host's command. -/
def hostDone (l result : Nat) : Act := Act.all [
  onLane l (fun u => { u with host := none }),
  put (F.TLK_CMD_STATUS_RESULT l) result,
  put (F.TLK_CMD_STATUS_BUSY l) 0,
  event (F.TLK_CMD_STATUS_DONE l)]

/-- A reply frame (R135, R147 step 7, R619). -/
def reply (l : Nat) (f : List Byte) : Act := .look fun s =>
  let u := s.lane l
  let tag := num f 3 1
  let b := slice f 8 (f.length - 12)
  let status := num b 0 1
  let enable := u.own.any (fun c => bits (c.words.headD 0) 47 40 = 2)
  if u.own.any (fun c => c.tag = tag) then Act.all [
    onLane l (fun u => { u with own := none }),
    if !enable then retryLater l
    else if status ≠ 0 then .seq (event (F.TLK_EVENTS_ENABLE_REFUSED l)) (retryLater l)
    else Act.when (s.laneState l = 5) (.seq (enterActive l) (applyPending l 4))]
  else if u.host.any (fun c => c.tag = tag) then Act.all [
    put (F.TLK_CMD_STATUS_TALKER_STATUS l) status,
    Act.each (List.range 4) (fun w => put (F.TLK_CMD_REPLY_DATA l w) (num (fit 32 (b.drop 8)) (8 * w) 8)),
    hostDone l (if status = 0 then 0 else 2)]
  else .skip

/-- Sum of a list of signed numbers over a length, rounded down. -/
def meanOf (l : List Int) (d : Nat) : Int := l.foldl (· + ·) 0 / (d : Int)

/-- A new mean of the cable delay on a lane that has one (R141). -/
def steer (l : Nat) (mean : Int) : Act := .look fun s =>
  let cur := (s.get (F.TLK_DELAY_CABLE_DELAY l) : Int)
  let set := fun v : Int => put (F.TLK_DELAY_CABLE_DELAY l) v.toNat
  if mean - cur > 1024 || cur - mean > 1024 then .seq (set mean) (event (F.TLK_EVENTS_DELAY_JUMP l))
  else if mean > cur then set (cur + 1) else if mean < cur then set (cur - 1) else .skip

/-- A stamp-offset sample (R142), with the cable delay that the same report leaves (log entry 121). -/
def stampSample (l : Nat) (e : LaneEcho) (follows : Bool) (arrival : Nat) : Act := .look fun s =>
  let u := s.lane l
  let x := sgn 48 (enc 48 ((e.departure : Int) + s.get (F.TLK_DELAY_CABLE_DELAY l) + s.laneAsym l - arrival))
  let samples := (x :: u.samples).take 16
  let late := match u.measuredAt with | some t => decide (e.at_ > t) | none => false
  Act.when (late && !follows) (Act.all [
    onLane l (fun u => { u with samples := samples }),
    put (F.TLK_STAMP_OFFSET_SAMPLES l) (min 32767 (s.get (F.TLK_STAMP_OFFSET_SAMPLES l) + 1)),
    Act.when (samples.length = 16) (.seq (put (F.TLK_STAMP_OFFSET_VALID l) 1)
      (put (F.TLK_STAMP_OFFSET_OFFSET l) (enc 40 (meanOf samples 16))))])

/-- The 16th valid echo of MEASURING: the cable delay is set, and the lane returns or goes on (R147 step 6, R149). -/
def measured (l : Nat) (mean : Int) : Act := .look fun s => Act.all [
  put (F.TLK_DELAY_CABLE_DELAY l) mean.toNat,
  put (F.TLK_STATUS_TIME_VALID l) 1,
  onLane l (fun u => { u with measuredAt := some s.keep.elapsed }),
  match (s.lane l).resume with
  | some (6, _) => .seq (enterActive l) (applyPending l 4)
  | some (n, _) => moveLane l n
  | none => startDiscovering l]

/-- An echo report frame (R139 to R142). -/
def report (l : Nat) (f : List Byte) : Act := .look fun s =>
  let u := s.lane l
  let st := s.laneState l
  let b := slice f 8 16
  match u.echoes.find? (fun e => e.mark = num f 2 2 && decide (s.keep.elapsed ≤ e.at_ + 100 * tickUs)) with
  | none => .skip
  | some e =>
    let ta := num b 0 4
    let delays := ((e.trip - ta) :: u.delays).take 16
    let mean := meanOf delays (2 * delays.length)
    let valid := u.valid + 1
    Act.when (decide (4 ≤ st) && decide (st ≤ 7)) (Act.all [
      onLane l (fun u => { u with
        echoes := u.echoes.filter (fun x => x ≠ e), delays := delays, valid := valid, trip := (e.trip - ta).toNat }),
      put (F.TLK_DELAY_ECHOES l) (min 65535 (s.get (F.TLK_DELAY_ECHOES l) + 1)),
      put (F.TLK_ECHO_LAST_TURNAROUND l) ta,
      put (F.TLK_ECHO_LAST_ROUND_TRIP l) (enc 32 e.trip),
      if st = 4 then Act.when (valid = 16) (measured l mean) else Act.when (st = 6 || st = 7) (steer l mean),
      stampSample l e (bit (num b 4 1) 0) (num b 8 6)])

/-- A handover frame (R129, R153, R156). -/
def handover (l : Nat) (f : List Byte) : Act := .look fun s =>
  Act.when (s.laneState l = 7 && bit (num f 1 1) 7 && !s.fenced) (Act.all [
    put (F.TLK_SEQ_CUM l) (num f 2 2),
    onLane l (fun u => { u with bitmap := 0, promoted := true }),
    Act.each (List.range 128) (fun t => .look fun s =>
      Act.when (s.talker l t).wm.isSome (onTalker l t (fun _ => { heardAt := s.keep.elapsed }))),
    enterActive l,
    sendEnable l,
    event (F.TLK_EVENTS_PROMOTED l),
    count (F.TLK_HANDOVERS_C l),
    applyPending l 4])

/-- A frame of any type on a lane: the checks common to all, the SESSION, then what its type says. -/
def laneFrame (l : Nat) (rx : LaneRx) (load : Load) : Act := .look fun s =>
  let f := rx.bytes
  let st := s.laneState l
  let crc := f.length ≥ 12 && num f (f.length - 4) 4 = crc32c (f.take (f.length - 4))
  let session := num f 6 2
  let listening := s.hasLane l && decide (2 ≤ st) && st ≠ 8 && (s.lane l).locked
  if !listening then .skip
  else Act.all [
    countBy (F.TLK_FEC_CORRECTED_C l) rx.corrected,
    countBy (F.TLK_FEC_UNCORRECTABLE_C l) rx.uncorrectable,
    if rx.uncorrectable ≠ 0 || !crc then count (F.TLK_CRC_ERRORS_C l)
    else if !frameOk f then count (F.TLK_FORMAT_ERRORS_C l)
    else Act.all [
      onLane l (fun u => { u with frameAt := s.keep.elapsed }),
      put (F.TLK_STATUS_PATH l) (b2n (bit (num f 1 1) 7)),
      Act.when (st = 2) (linkLane l session),
      if decide (3 ≤ st) && session ≠ s.get (F.TLK_STATUS_SESSION l) then
        Act.all [newSession l session, event (F.TLK_EVENTS_SESSION_CHANGE l), startDiscovering l]
      else match num f 0 1 / 16 with
        | 1 => dataFrame l load f
        | 2 => heartbeat l f
        | 3 => roster l f
        | 4 => reply l f
        | 5 => report l f
        | _ => handover l f]]

/-- UPLINK_DATA_FRAME (R120). -/
def uplinkDataFrameAct (l : Nat) (rx : LaneRx) (load : Load) : Act := laneFrame l rx load
def execUplinkDataFrame (l : Nat) (rx : LaneRx) (load : Load) (s : State) : Host.Outcome State Fault Refusal :=
  .next ((uplinkDataFrameAct l rx load).run s)

/-- HEARTBEAT_FRAME (R129). -/
def heartbeatFrameAct (l : Nat) (rx : LaneRx) : Act := laneFrame l rx {}
def execHeartbeatFrame (l : Nat) (rx : LaneRx) (s : State) : Host.Outcome State Fault Refusal :=
  .next ((heartbeatFrameAct l rx).run s)

/-- ROSTER_FRAME (R144). -/
def rosterFrameAct (l : Nat) (rx : LaneRx) : Act := laneFrame l rx {}
def execRosterFrame (l : Nat) (rx : LaneRx) (s : State) : Host.Outcome State Fault Refusal :=
  .next ((rosterFrameAct l rx).run s)

/-- REPLY_FRAME (R135). -/
def replyFrameAct (l : Nat) (rx : LaneRx) : Act := laneFrame l rx {}
def execReplyFrame (l : Nat) (rx : LaneRx) (s : State) : Host.Outcome State Fault Refusal :=
  .next ((replyFrameAct l rx).run s)

/-- ECHO_REPORT (R142). -/
def echoReportAct (l : Nat) (rx : LaneRx) : Act := laneFrame l rx {}
def execEchoReport (l : Nat) (rx : LaneRx) (s : State) : Host.Outcome State Fault Refusal :=
  .next ((echoReportAct l rx).run s)

/-- HANDOVER_FRAME (R153). -/
def handoverFrameAct (l : Nat) (rx : LaneRx) : Act := laneFrame l rx {}
def execHandoverFrame (l : Nat) (rx : LaneRx) (s : State) : Host.Outcome State Fault Refusal :=
  .next ((handoverFrameAct l rx).run s)

/-! ## Echoes, markers and acknowledgements -/

/-- ECHO_RECEIVED (R140): the raw round trip from a marker still remembered. -/
def echoReceivedAct (l mark stamp : Nat) : Act := .look fun s =>
  let st := s.laneState l
  match (s.lane l).markers.find? (fun m => m.1 = mark) with
  | some m => Act.when (s.hasLane l && decide (4 ≤ st) && decide (st ≤ 7)) (onLane l (fun u => { u with
      markers := u.markers.filter (fun x => x.1 ≠ mark),
      echoes := u.echoes ++ [{ mark := mark, departure := m.2, trip := dif stamp m.2, at_ := s.keep.elapsed }] }))
  | none => .skip

def execEchoReceived (l mark stamp : Nat) (s : State) : Host.Outcome State Fault Refusal :=
  .next ((echoReceivedAct l mark stamp).run s)

/-- ECHO_REPORT_TIMEOUT (R140). -/
def echoReportTimeoutAct (l : Nat) : Act := .look fun s =>
  onLane l (fun u => { u with echoes := u.echoes.filter (fun e => decide (s.keep.elapsed < e.at_ + 100 * tickUs)) })

def execEchoReportTimeout (l : Nat) (s : State) : Host.Outcome State Fault Refusal := .next ((echoReportTimeoutAct l).run s)

/-- CUM and B that an ACK of this window carries: a frame accepted in it appears in the next ACK (R122). -/
def State.ackState (s : State) (l : Nat) : Nat × Nat :=
  match s.win.acked.find? (fun e => e.1 = l) with
  | some e => e.2
  | none => (s.get (F.TLK_SEQ_CUM l), (s.lane l).bitmap)

/-- ACK_SEND (R122, R151). -/
def ackSendAct (l : Nat) : Act := .look fun s =>
  Act.when (s.hasLane l && s.laneState l = 6 && !s.fenced) (.seq
    (downlink l 2 [2 * 2 ^ 60 + 2 ^ 58 + (s.ackState l).1, (s.ackState l).2])
    (count (F.TLK_ACKS_SENT_C l)))

def execAckSend (l : Nat) (s : State) : Host.Outcome State Fault Refusal := .next ((ackSendAct l).run s)

/-- A marker of the lane is due: in MEASURING 10 µs after the last, elsewhere at a multiple of the period (R138). -/
def State.markerDue (s : State) (l : Nat) : Bool :=
  let since := fun n : Nat => match (s.lane l).markedAt with | some t => decide (s.keep.elapsed ≥ t + n) | none => true
  if s.laneState l = 4 then since (10 * tickUs)
  else s.units.d0 % (2 ^ s.get (F.TLK_TIMERS_MARKER_EXP l) * tickUs) = 0 && since 1

/-- MARKER_SEND (R46, R137, R138): a marker and its time message. -/
def markerSendAct (l : Nat) : Act := .look fun s =>
  let st := s.laneState l
  let id := (s.lane l).mark
  Act.when (s.hasLane l && s.up && decide (1 ≤ st) && decide (st ≤ 7) && !s.fenced && s.markerDue l) (Act.all [
    downlink l 0 [0x4B6D * 2 ^ 48 + id * 2 ^ 32],
    downlink l 1 [2 ^ 60 + 2 ^ 58 + s.get F.TIM_STATUS_TQ_D0 * 2 ^ 16 + id, s.now],
    onLane l (fun u => { u with
      mark := (id + 1) % 65536, markedAt := some s.keep.elapsed, markers := ((id, s.now) :: u.markers).take 64 })])

def execMarkerSend (l : Nat) (s : State) : Host.Outcome State Fault Refusal := .next ((markerSendAct l).run s)

/-! ## Commands and pulses (R134 to R136, R619) -/

/-- COMMAND_TIMEOUT (R135): a repeat with the same TAG, or after three repeats the end. -/
def commandTimeoutAct (l : Nat) (host : Bool) : Act := .look fun s =>
  let u := s.lane l
  match (if host then u.host else u.own) with
  | none => .skip
  | some c =>
    let c' := { c with repeats := c.repeats + 1, sentAt := s.keep.elapsed }
    let may := !s.fenced && (s.laneState l = 6 || (!host && (s.laneState l = 5 || s.laneState l = 7)))
    Act.when (decide (s.keep.elapsed ≥ c.sentAt + 100 * tickUs + u.trip))
      (if c.repeats < 3 then .seq (onLane l (fun u => if host then { u with host := some c' } else { u with own := some c' }))
          (Act.when may (downlink l (if host then 5 else 4) c.words))
       else if host then hostDone l 1
       else Act.all [onLane l (fun u => { u with own := none }), event (F.TLK_EVENTS_NO_ANSWER l), retryLater l])

def execCommandTimeout (l : Nat) (host : Bool) (s : State) : Host.Outcome State Fault Refusal :=
  .next ((commandTimeoutAct l host).run s)

/-- DISCOVERY_RETRY (R619). -/
def discoveryRetryAct (l : Nat) : Act := .look fun s =>
  match (s.lane l).retryAt with
  | some t => Act.when (s.laneState l = 5 && decide (s.keep.elapsed ≥ t))
      (if (s.lane l).roster then sendEnable l else sendDiscover l)
  | none => .skip

def execDiscoveryRetry (l : Nat) (s : State) : Host.Outcome State Fault Refusal := .next ((discoveryRetryAct l).run s)

/-- A host's message in TLK_CMD_WORD (R132, R134, R136). -/
def hostMessage (l writer : Nat) (value : Word) : Act := .look fun s =>
  let u := s.lane l
  let w := fun i => s.get (F.TLK_CMD_WORD_WORD l i)
  let type := bits (w 0) 63 60
  let n := bits (w 0) 59 58 + 1
  let tag := nextTag u.tag u.own
  let words := withTag (w 0) tag :: ((List.range (n - 1)).map (fun i => w (i + 1)))
  let refuse := fun r => .seq (put (F.TLK_CMD_STATUS_RESULT l) r) (event (F.TLK_CMD_STATUS_DONE l))
  let delay := (s.get (F.TLK_DELAY_CABLE_DELAY l) : Int) + s.laneAsym l
  if getBits value 0 0 = 0 || !s.hasRight writer (F.TLK_CMD_CTRL_START l).addr || !s.hasLane l then .skip
  else if u.host.isSome then refuse 5
  else if type = 3 && bits (w 0) 47 40 ≥ 0x80 then
    if s.laneState l ≠ 6 || s.fenced then refuse 4
    else Act.all [
      onLane l (fun u => { u with tag := tag, host := some { words := words, tag := tag, sentAt := s.keep.elapsed } }),
      put (F.TLK_CMD_STATUS_BUSY l) 1,
      downlink l 5 words]
  else if type = 4 && n = 2 then
    if s.laneState l ≠ 6 || s.fenced then refuse 4
    else if dif (w 1) s.now < (s.get (F.TLK_DELAY_CABLE_DELAY l) + 10 * tickUs : Nat) then refuse 3
    else Act.all [
      onLane l (fun u => { u with tag := tag }),
      downlink l 3 [withTag (w 0) tag, enc 48 ((w 1 : Int) - delay)],
      refuse 0]
  else refuse 6

/-- TALKER_COMMAND (R134). -/
def talkerCommandAct (l writer : Nat) (value : Word) : Act := hostMessage l writer value
def execTalkerCommand (l writer : Nat) (value : Word) (s : State) : Host.Outcome State Fault Refusal :=
  .next ((adjusts writer (F.TLK_CMD_CTRL_START l) (talkerCommandAct l writer value)).run s)

/-- TALKER_PULSE (R136). -/
def talkerPulseAct (l writer : Nat) (value : Word) : Act := hostMessage l writer value
def execTalkerPulse (l writer : Nat) (value : Word) (s : State) : Host.Outcome State Fault Refusal :=
  .next ((adjusts writer (F.TLK_CMD_CTRL_START l) (talkerPulseAct l writer value)).run s)

/-! ## Register commands and physical events (R147, R148) -/

/-- The lane is held in FAULT by isolation. -/
def State.laneIsolated (s : State) (l : Nat) : Bool := s.is (F.TLK_EVENTS_ISOLATED l)

/-- The lane's next state for a MODE. -/
def applyMode (l mode old : Nat) : Act := .look fun s =>
  if mode = 1 || mode = 2 then
    Act.when (s.laneState l ≠ 8 && (s.laneState l = 0 || mode ≠ old)) (moveLane l 1)
  else .seq (Act.when (s.laneState l = 8) (onLane l (fun u => { u with flaps := [] }))) (moveLane l 0)

/-- TLK_CFG_WRITE (R147, R148). -/
def tlkCfgWriteAct (l writer : Nat) (value : Word) : Act := .look fun s =>
  let old := s.get (F.TLK_CFG_MODE l)
  if !s.hasRight writer (F.TLK_CFG_MODE l).addr || !s.hasLane l then .skip
  else if s.laneIsolated l then
    .seq (put (F.TLK_CFG_DATA_EN l) (getBits value 2 2)) (writeLost (F.TLK_EVENTS_WRITE_LOST l))
  else Act.all [
    put (F.TLK_CFG_DATA_EN l) (getBits value 2 2),
    put (F.TLK_CFG_MODE l) (getBits value 1 0),
    applyMode l (getBits value 1 0) old]

def execTlkCfgWrite (l writer : Nat) (value : Word) (s : State) : Host.Outcome State Fault Refusal :=
  .next ((adjusts writer (F.TLK_CFG_MODE l) (tlkCfgWriteAct l writer value)).run s)

/-- A value clamped to a range (R157 and its like). -/
def clamp (lo hi v : Nat) : Nat := max lo (min hi v)

/-- TLK_TIMERS_WRITE (R124): a new RTO on an ACTIVE lane goes out at once. -/
def tlkTimersWriteAct (l writer : Nat) (value : Word) : Act := .look fun s =>
  let rto := clamp 2 64 (getBits value 31 25)
  if !s.hasRight writer (F.TLK_TIMERS_RTO_US l).addr || !s.hasLane l then .skip
  else Act.all [
    put (F.TLK_TIMERS_RTO_US l) rto,
    put (F.TLK_TIMERS_LINK_TIMEOUT_US l) (clamp 5 1000 (getBits value 24 15)),
    put (F.TLK_TIMERS_WM_TIMEOUT_US l) (clamp 2 1000 (getBits value 14 5)),
    put (F.TLK_TIMERS_MARKER_EXP l) (clamp 7 20 (getBits value 4 0)),
    Act.when (s.laneState l = 6 && rto ≠ s.get (F.TLK_TIMERS_RTO_US l)) (sendEnable l)]

def execTlkTimersWrite (l writer : Nat) (value : Word) (s : State) : Host.Outcome State Fault Refusal :=
  .next ((adjusts writer (F.TLK_TIMERS_RTO_US l) (tlkTimersWriteAct l writer value)).run s)

/-- UPLINK_SIGNAL_DETECT (R147 step 2). -/
def uplinkSignalDetectAct (l : Nat) : Act := .look fun s => Act.when (s.laneState l = 1) (moveLane l 2)
def execUplinkSignalDetect (l : Nat) (s : State) : Host.Outcome State Fault Refusal := .next ((uplinkSignalDetectAct l).run s)

/-- LANE_LOCK_HELD (R147 step 3). -/
def laneLockHeldAct (l : Nat) : Act := .look fun s => Act.when (s.laneState l = 2) (onLane l (fun u => { u with locked := true }))
def execLaneLockHeld (l : Nat) (s : State) : Host.Outcome State Fault Refusal := .next ((laneLockHeldAct l).run s)

/-- LOSS_OF_SIGNAL (R148). -/
def lossOfSignalAct (l : Nat) : Act := .look fun s =>
  Act.when (decide (1 < s.laneState l) && s.laneState l ≠ 8) (moveLane l 1)
def execLossOfSignal (l : Nat) (s : State) : Host.Outcome State Fault Refusal := .next ((lossOfSignalAct l).run s)

/-- LOSS_OF_LOCK (R148). -/
def lossOfLockAct (l : Nat) : Act := .look fun s =>
  if decide (2 < s.laneState l) && s.laneState l ≠ 8 then moveLane l 2
  else Act.when (s.laneState l = 2) (onLane l (fun u => { u with locked := false }))
def execLossOfLock (l : Nat) (s : State) : Host.Outcome State Fault Refusal := .next ((lossOfLockAct l).run s)

/-- LINK_TIMEOUT (R148). -/
def linkTimeoutAct (l : Nat) : Act := .look fun s =>
  Act.when (decide (2 < s.laneState l) && s.laneState l ≠ 8
      && decide (s.keep.elapsed ≥ (s.lane l).frameAt + s.get (F.TLK_TIMERS_LINK_TIMEOUT_US l) * tickUs)) (moveLane l 2)
def execLinkTimeout (l : Nat) (s : State) : Host.Outcome State Fault Refusal := .next ((linkTimeoutAct l).run s)

/-- A command of TLK_CTRL: discarded on an isolated lane. -/
def laneCommand (l writer : Nat) (act : Act) : Act := .look fun s =>
  if !s.hasRight writer (F.TLK_CTRL_RESTART l).addr || !s.hasLane l then .skip
  else if s.laneIsolated l then writeLost (F.TLK_EVENTS_WRITE_LOST l)
  else act

/-- The restart of a lane: to DARK from any state, its entries counted afresh from FAULT (R148). -/
def restartLane (l : Nat) : Act := .look fun s =>
  .seq (Act.when (s.laneState l = 8) (onLane l (fun u => { u with flaps := [] }))) (moveLane l 1)

/-- RESTART (R148). -/
def restartAct (l writer : Nat) (value : Word) : Act := Act.when (getBits value 0 0 = 1) (laneCommand l writer (restartLane l))
def execRestart (l writer : Nat) (value : Word) (s : State) : Host.Outcome State Fault Refusal :=
  .next ((adjusts writer (F.TLK_CTRL_RESTART l) (restartAct l writer value)).run s)

/-- REMEASURE (R148). -/
def remeasureAct (l writer : Nat) (value : Word) : Act := Act.when (getBits value 1 1 = 1)
  (laneCommand l writer (.look fun s => Act.when (s.laneState l = 6 || s.laneState l = 7) (startMeasuring l)))
def execRemeasure (l writer : Nat) (value : Word) (s : State) : Host.Outcome State Fault Refusal :=
  .next ((adjusts writer (F.TLK_CTRL_REMEASURE l) (remeasureAct l writer value)).run s)

/-- REDISCOVER (R148). -/
def rediscoverAct (l writer : Nat) (value : Word) : Act := Act.when (getBits value 2 2 = 1)
  (laneCommand l writer (.look fun s => Act.when (s.laneState l = 6 || s.laneState l = 7) (startDiscovering l)))
def execRediscover (l writer : Nat) (value : Word) (s : State) : Host.Outcome State Fault Refusal :=
  .next ((adjusts writer (F.TLK_CTRL_REDISCOVER l) (rediscoverAct l writer value)).run s)

/-- WM_TIMEOUT (R131). -/
def wmTimeoutAct (l t : Nat) : Act := .look fun s =>
  Act.when (s.hasLane l && decide (t < 128) && s.is (F.TLK_TALKER_STATE_PRESENT l t)
      && decide (s.keep.elapsed ≥ (s.talker l t).heardAt + s.get (F.TLK_TIMERS_WM_TIMEOUT_US l) * tickUs))
    (put (F.TLK_TALKER_STATE_STALLED l t) 1)
def execWmTimeout (l t : Nat) (s : State) : Host.Outcome State Fault Refusal := .next ((wmTimeoutAct l t).run s)

end Sys2Proof.Machine
end

