-- ==== Sys2Proof/Machine/Role.lean ====
section
/-! DEFINITION. Roles: the role record, settling a role at local ready, entering the Fenced state, notices held and
re-sent, and the wake frames a waker sends (R525, R535 to R538, R551 to R553, R564). -/

namespace Sys2Proof.Machine

/-! ## The role record (R551) -/

/-- The 64 bytes of a role record. -/
def RoleRec.bytes (r : RoleRec) : List Byte :=
  let b := be 4 0x49415652 ++ be 2 1 ++ be 1 r.kind ++ be 1 0 ++ be 8 r.seq ++ be 2 r.device ++ be 2 0 ++ be 4 r.role
    ++ be 4 r.incarnation ++ zeros 32
  b ++ be 4 (crc32c b)

/-- Stores bytes in the flash. -/
def flashStore (a : Nat) (b : List Byte) : Act :=
  Act.each ((List.range b.length).zip b) (fun x => .flash (a + x.1) x.2)

/-- Writes a role record to the copy that does not hold the larger valid RSEQ. -/
def writeRole (kind device role incarnation : Nat) : Act := .look fun s =>
  let copy := match s.roleInForce with | some (c, _) => 1 - c | none => 0
  let seq := match s.roleRec with | some r => r.seq + 1 | none => 1
  flashStore (roleAddr copy)
    (RoleRec.bytes { seq := seq, kind := kind, device := device, role := role, incarnation := incarnation })

/-! ## Holding a role (R552) -/

/-- ROLE_ID of a spare. -/
def noRole : Nat := 0xFFFFFFFF

/-- A device number, a role and an incarnation in use, and the KIND of SUP_ROLE_STATUS. -/
def holdRole (kind device role incarnation : Nat) : Act := Act.all [
  put F.SUP_ROLE_STATUS_KIND kind,
  put F.SUP_ROLE_STATUS_DEVICE_NUMBER device,
  put F.SUP_ROLE_ROLE_ID role,
  put F.SUP_ROLE_INCARNATION incarnation]

/-- The device holds a live role. -/
def State.isLive (s : State) : Bool := s.up && !s.fenced && decide (s.get F.SUP_ROLE_STATUS_KIND < 2)

/-- KIND of a live role under this image. -/
def State.liveKind (s : State) : Nat := b2n (s.topology.kind = 1)

/-- Settles the role at local ready (R552). -/
def settleRole : Act := .look fun s =>
  let img := s.topology
  let rec_ := s.roleRec
  let kind := match rec_ with | some r => r.kind | none => 0
  match rec_ with
  | some r =>
    if s.unconfigured then holdRole 4 r.device noRole 0
    else if kind = 2 then .seq (holdRole 3 r.device r.role r.incarnation) (put F.SUP_STATUS_FENCED 1)
    else if kind = 1 && (img.kind = 2 || img.roleId = r.role) then holdRole s.liveKind r.device r.role r.incarnation
    else if img.kind < 2 && kind ≠ 3 then
      .seq (writeRole 1 img.device img.roleId 1) (holdRole s.liveKind img.device img.roleId 1)
    else holdRole 2 img.device noRole 0
  | none =>
    if s.unconfigured then holdRole 4 0 noRole 0
    else if img.kind < 2 then .seq (writeRole 1 img.device img.roleId 1) (holdRole s.liveKind img.device img.roleId 1)
    else holdRole 2 img.device noRole 0

/-! ## Supervisor state -/

def onSup (f : Supervisor → Supervisor) : Act := .units fun u => { u with sup := f u.sup }

/-- What the device holds of another device. -/
def State.peer (s : State) (d : Nat) : HbPeer := Sparse.get (fun _ => ({} : HbPeer)) s.units.hb d

def onPeer (d : Nat) (f : HbPeer → HbPeer) : Act := .look fun s =>
  let v := f (s.peer d)
  .units fun u => { u with hb := Sparse.set (fun _ => ({} : HbPeer)) u.hb d v }

/-- The exchange on a ring port. -/
def State.exch (s : State) (r : Nat) : Exchange := Sparse.get (fun _ => ({} : Exchange)) s.units.exch r

def onExch (r : Nat) (f : Exchange → Exchange) : Act := .look fun s =>
  let v := f (s.exch r)
  .units fun u => { u with exch := Sparse.set (fun _ => ({} : Exchange)) u.exch r v }

/-- A supervisor copy is outvoted or failed. -/
def State.degraded (s : State) : Bool := !s.units.sup.outvoted.isEmpty || s.get F.SUP_STATUS_COPIES ≠ 7

/-- The HSTATE byte (R525). -/
def State.hstate (s : State) : Nat := s.get F.SUP_ROLE_STATUS_KIND + 8 * b2n s.degraded

/-- The BOOT_ID of this start. -/
def State.bootId (s : State) : Nat := s.get F.SUP_BOOT_ID_BOOT_ID

/-- A message with HOPS_LEFT, its byte 0, set. -/
def setHops (h : Nat) (msg : List Byte) : List Byte := be 1 h ++ msg.drop 1

/-- The TAG of a message of a type over its bytes before it, HOPS_LEFT taken as zero (R384). -/
def State.hopTag (s : State) (rtype : Nat) (body : List Byte) : Option (List Byte) := s.ringTag rtype (setHops 0 body)

/-- A received message of a type has its length and its TAG holds. -/
def State.authentic (s : State) (rtype len : Nat) (msg : List Byte) : Bool :=
  msg.length = len && s.hopTag rtype (msg.take (len - 16)) = some (msg.drop (len - 16))

/-- A ring control message other than a broadcast whose TAG fails is counted. -/
def tagJudged (rtype len : Nat) (msg : List Byte) : Act := .look fun s =>
  Act.when (!s.authentic rtype len msg) (count F.SIG_DEVICE_RING_TAG_FAIL_C)

/-! ## Fencing (R536, R537) -/

/-- Every lane of a fenced device stands by (R156). -/
def standLanes : Act := .look fun s => Act.each (List.range s.part.lanes) (fun l => enterState l 7)

/-- Enters the Fenced state, with the INFO its chronicle entry carries. -/
def enterFenced (info : List Byte) : Act := .look fun s => Act.when (!s.fenced) (withUtl 29 (withIlk (Act.all [
  writeRole 2 s.device (s.get F.SUP_ROLE_ROLE_ID) s.incarnation,
  chronicle 0x08 none 0 info,
  standLanes,
  closeStore,
  put F.SUP_STATUS_FENCED 1,
  put F.SUP_ROLE_STATUS_KIND 3,
  refreshTq])))

/-! ## Notices (R534, R538) -/

/-- The notice held for a subject. -/
def State.notice (s : State) (subject : Nat) : Option Notice := s.units.sup.notices.find? (fun n => n.subject = subject)

/-- Sends the notice held for a stale subject on the port where it was heard, at most once a second (R538). A fenced
device originates none (R537). -/
def resendNotice (r subject : Nat) : Act := .look fun s =>
  match s.notice subject with
  | none => .skip
  | some n =>
    let wait := match n.resentAt with | some t => decide (s.keep.elapsed < t + tickS) | none => false
    Act.when (!wait && !s.fenced) (Act.all [
      ringSend .supervisor r 3 (setHops 0 n.msg),
      count F.SUP_FENCE_RESENT_C,
      onSup (fun x => { x with notices := x.notices.map (fun y =>
        if y = n then { n with resentAt := some s.keep.elapsed } else y) })])

/-! ## Wake frames (R564) -/

/-- The 32 bytes of a wake frame. -/
def State.wakeBytes (s : State) (frame : Nat) : List Byte :=
  (List.range 4).flatMap (fun w => be 8 (s.get (F.SUP_WAKE_FRAME_BYTES frame w)))

/-- The path a WAKE_SELECT names can be used. -/
def State.wakePathOk (s : State) (select : Nat) : Bool :=
  let index := bits select 3 0
  match bits select 5 4 with
  | 0 => s.get (F.EDG_CFG_IO index) = 3
  | 1 => s.is F.SVC_CFG_ENABLE && decide (s.units.svc.frames.length < 16)
  | 2 => s.get (F.UTL_CFG_FUNCTION (16 + index)) = 2
  | _ => false

/-- Sends a wake frame over a usable path. On a pin path it follows R69 and leaves the pin low. -/
def sendWake (select : Nat) : Act := .look fun s =>
  let b := s.wakeBytes (bits select 7 6)
  let index := bits select 3 0
  .seq (count F.SUP_WAKES_SENT_C) (match bits select 5 4 with
    | 0 => .emit (.wakePulse false index b)
    | 2 => .emit (.wakePulse true (16 + index) b)
    | _ => svcQueue (be 6 0xFFFFFFFFFFFF ++ be 6 (s.get F.SVC_MAC_MAC) ++ be 2 0x88B5 ++ fit 46 b))

/-- One wake frame of a duty; without a usable path it counts (R564). -/
def dutyWake (entry : Nat) : Act := .look fun s =>
  let select := s.get (F.SUP_SPARE_WAKE_SELECT entry)
  if s.wakePathOk select then sendWake select else count F.SUP_EXCHANGE_FAILS_C

end Sys2Proof.Machine
end

