-- ==== Sys2Proof/Machine/Peers.lean ====
section
/-! DEFINITION. The supervisor and its neighbours: the identity and role exchange, taking a role, heartbeats,
suspicion, remote reset words sent, declarations of death and the wake duty (R525 to R540, R554 to R559, R563 to
R566). -/

namespace Sys2Proof.Machine

/-! ## The exchange message (R554) -/

/-- The ASCII bytes "IAVX" and "IAVF". -/
def contextX : List Byte := [0x49, 0x41, 0x56, 0x58]
def contextF : List Byte := [0x49, 0x41, 0x56, 0x46]

/-- The device's ECDSA and ML-DSA signatures of a message under a context, as 96 and 3,309 bytes (R361). -/
def signBoth (ctx m : List Byte) : List Byte :=
  be 96 (Config.ecdsaSign m).toNat ++ (List.range 3309).map (Config.mldsaSignByte ctx m)

/-- Both signatures verify under an identity record. -/
def verifyBoth (record ctx m ecdsa mldsa : List Byte) : Bool :=
  Config.ecdsaVerify (sha384 record) m ecdsa && Config.mldsaVerify (sha384 record) ctx m mldsa

/-- An exchange message of this device on a port. -/
def State.exchangeBody (s : State) (r kind : Nat) (nonce peerNonce : List Byte) (device role incarnation : Nat) : List Byte :=
  let b := be 1 0 ++ be 1 kind ++ be 2 s.device ++ be 4 s.incarnation ++ be 4 (s.get F.SUP_ROLE_ROLE_ID) ++ be 1 s.hstate
    ++ be 1 r ++ be 2 s.topology.device ++ be 8 s.bootId ++ be 4 (Sparse.get (fun _ => (0, 0)) s.units.ptpSeq r).1
    ++ be 4 s.units.sup.wakeCause ++ nonce ++ peerNonce ++ be 2 device ++ be 2 0 ++ be 4 role ++ be 4 incarnation ++ zeros 12
    ++ identityHash ++ identityRecord
  b ++ signBoth contextX (b.drop 1) ++ zeros 11

/-- Sends an exchange message; without a usable ring key none can be sent. -/
def sendExchange (r : Nat) (body : List Byte) : Act := .look fun s =>
  match s.ringTag 5 body with
  | some tag => ringSend .supervisor r 5 (body ++ tag)
  | none => .skip

/-- The device sends exchange messages on a port: its link is up, and it is neither unconfigured nor fenced (R537,
R556). -/
def State.exchanges (s : State) (r : Nat) : Bool := decide (r < 8) && s.up && s.ringUp r && !s.unconfigured && !s.fenced

/-- Sends the offer of the present attempt. -/
def sendOffer (r : Nat) : Act := .look fun s => .seq
  (sendExchange r (s.exchangeBody r 1 (s.exch r).nonce (zeros 12) 0 0 0))
  (onExch r (fun x => { x with sentAt := s.keep.elapsed }))

/-- A new attempt with a new NONCE (R556). -/
def startExchange (r : Nat) : Act := .look fun s => Act.when (s.exchanges r) (.draw fun a => .draw fun b => Act.all [
  onExch r (fun x => { x with
    nonce := be 8 a.toNat ++ be 4 b.toNat, acceptOk := false, offer := none, since := s.keep.elapsed, active := true }),
  put (F.SUP_PEER_W0_EXCHANGED r) 0,
  sendOffer r])

/-- The checks of R555 on a message of a kind, but for PEER_NONCE in an offer. -/
def State.exchangeOk (s : State) (r kind : Nat) (m : List Byte) : Bool :=
  s.authentic 5 7200 m && num m 1 1 = kind && slice m 80 48 = sha (slice m 128 3640)
    && verifyBoth (slice m 128 3640) contextX (slice m 1 3767) (slice m 3768 96) (slice m 3864 3309)
    && (kind = 1 || slice m 44 12 = (s.exch r).nonce)

/-! ## Two holders of one role (R559) -/

/-- Compares an authenticated message's DEVICE, INCARNATION and BOOT_ID with the device's own. -/
def conflict (r device incarnation boot : Nat) : Act := .look fun s =>
  Act.when (s.isLive && device = s.device && incarnation = s.incarnation && boot ≠ s.bootId) (Act.all [
    count F.SUP_ROLE_CONFLICTS_C,
    Act.when (decide (s.bootId ≥ boot) && !s.is (F.SUP_PEER_W0_CONFLICT r))
      (chronicle Config.conflictKind.toNat none 0 (be 4 (s.get F.SUP_ROLE_ROLE_ID) ++ be 4 s.incarnation)),
    event (F.SUP_PEER_W0_CONFLICT r),
    Act.when (decide (s.bootId < boot)) (enterFenced (be 4 (s.get F.SUP_ROLE_ROLE_ID) ++ be 4 s.incarnation))])

/-! ## Completing an exchange (R557, R565) -/

/-- Raises the incarnation held for a device. -/
def raiseHeld (d n : Nat) : Act := .look fun s =>
  Act.when (decide (s.heldIncarnation d < n)) (put (F.SUP_INCARNATION_INCARNATION d) n)

/-- The assign message of a duty: the subject's number, ROLE_ID and the incarnation held for it (R565). -/
def sendAssign (r entry : Nat) : Act := .look fun s =>
  let subject := s.get (F.SUP_WATCH_W0_DEVICE entry)
  match (s.exch r).offer with
  | some o => Act.all [
      sendExchange r (s.exchangeBody r 3 (s.exch r).nonce (slice o 32 12) subject (s.peer subject).roleId
        (s.heldIncarnation subject)),
      count F.SUP_ASSIGNS_SENT_C,
      onSup (fun x => { x with waking := x.waking.filter (fun w => w.1 ≠ entry) })]
  | none => .skip

/-- The exchange on a port is complete and its link is up. -/
def State.exchanged (s : State) (r : Nat) : Bool := s.ringUp r && s.is (F.SUP_PEER_W0_EXCHANGED r)

/-- Assigns the role of every duty whose spare has completed an exchange. -/
def assignDuties : Act := .look fun s => Act.each s.units.sup.waking (fun w =>
  match (List.range 8).find? (fun r => s.exchanged r && s.get (F.SUP_PEER_W0_DEVICE r) = s.get (F.SUP_SPARE_PEER_DEVICE w.1)) with
  | some r => sendAssign r w.1
  | none => .skip)

/-- Records the peer of an offer and completes the exchange. -/
def completeExchange (r : Nat) (m : List Byte) : Act := .look fun s =>
  let d := num m 2 2 % 16384
  let n := num m 4 4
  let image := num m 14 2 % 16384
  let expected := s.topology.ringPeer.getD r 0xFFFF
  Act.all [
    onExch r (fun x => { x with active := false, identity := slice m 128 3640, ptpHi := some (num m 24 4) }),
    put (F.SUP_PEER_W0_EXCHANGED r) 1,
    put (F.SUP_PEER_W0_MISWIRED r) (b2n (decide (expected ≠ d) && decide (expected ≠ image))),
    put (F.SUP_PEER_W0_HSTATE r) (num m 12 1 % 8),
    put (F.SUP_PEER_W0_DEVICE r) d,
    put (F.SUP_PEER_W0_INCARNATION r) n,
    put (F.SUP_PEER_W1_ROLE_ID r) (num m 8 4),
    put (F.SUP_PEER_W1_IMAGE_DEVICE r) image,
    put (F.SUP_PEER_W2_BOOT_ID r) (num m 16 8),
    count F.SUP_EXCHANGES_C,
    if n < s.heldIncarnation d then resendNotice r d else raiseHeld d n,
    refreshTq,
    assignDuties]

/-- EXCHANGE_OFFER (R555, R556): a valid offer is answered with an accept; a peer that has started anew brings a new
attempt. -/
def exchangeOfferAct (r : Nat) (m : List Byte) : Act := .look fun s =>
  if r ≥ 8 ∨ !s.ringUp r then .skip
  else if !s.exchangeOk r 1 m then .seq (tagJudged 5 7200 m) (count F.SUP_EXCHANGE_FAILS_C)
  else .seq (conflict r (num m 2 2 % 16384) (num m 4 4) (num m 16 8)) (.look fun s => Act.when (s.exchanges r) (
    let old := (s.exch r).offer
    let reborn := match old with | some o => decide (slice o 16 8 ≠ slice m 16 8) | none => false
    let fresh := match old with | some o => decide (slice o 32 12 ≠ slice m 32 12) | none => true
    Act.all [
      Act.when reborn (startExchange r),
      onExch r (fun x => { x with offer := some m }),
      .look (fun s => sendExchange r (s.exchangeBody r 2 (s.exch r).nonce (slice m 32 12) 0 0 0)),
      .look (fun s => Act.when ((s.exch r).acceptOk && fresh) (completeExchange r m))]))

def execExchangeOffer (r : Nat) (m : List Byte) (s : State) : Host.Outcome State Fault Refusal :=
  .next ((exchangeOfferAct r m).run s)

/-- EXCHANGE_ACCEPT (R555 to R557). -/
def exchangeAcceptAct (r : Nat) (m : List Byte) : Act := .look fun s =>
  if r ≥ 8 ∨ !s.ringUp r then .skip
  else if !s.exchangeOk r 2 m then .seq (tagJudged 5 7200 m) (count F.SUP_EXCHANGE_FAILS_C)
  else .seq (conflict r (num m 2 2 % 16384) (num m 4 4) (num m 16 8)) (.look fun s => Act.when (s.exchanges r) (
    match (s.exch r).offer with
    | some o => .seq (onExch r (fun x => { x with acceptOk := true }))
        (Act.when (!(s.exch r).acceptOk) (completeExchange r o))
    | none => onExch r (fun x => { x with acceptOk := true })))

def execExchangeAccept (r : Nat) (m : List Byte) (s : State) : Host.Outcome State Fault Refusal :=
  .next ((exchangeAcceptAct r m).run s)

/-- OFFER_REPEAT (R556): every 2 ms with the same NONCE. -/
def offerRepeatAct (r : Nat) : Act := .look fun s =>
  let x := s.exch r
  Act.when (s.exchanges r && x.active && decide (s.keep.elapsed ≥ x.sentAt + 2 * tickMs)
    && decide (s.keep.elapsed < x.since + 10 * tickMs)) (sendOffer r)

def execOfferRepeat (r : Nat) (s : State) : Host.Outcome State Fault Refusal := .next ((offerRepeatAct r).run s)

/-- EXCHANGE_RETRY (R556): after 10 ms without completion. -/
def exchangeRetryAct (r : Nat) : Act := .look fun s =>
  Act.when (s.exchanges r && (s.exch r).active && decide (s.keep.elapsed ≥ (s.exch r).since + 10 * tickMs)) (startExchange r)

def execExchangeRetry (r : Nat) (s : State) : Host.Outcome State Fault Refusal := .next ((exchangeRetryAct r).run s)

/-! ## Taking a role (R565, R566) -/

/-- The streams whose chains are open. -/
def State.openChains (s : State) : List Nat := Sparse.keys s.units.chains (fun _ c => c.isOpen)

/-- The end-of-stream frame of every open chain, under the role it was opened for (R327, R368). -/
def endChains : Act := .look fun s => Act.each s.openChains (fun st => .look fun s =>
  sealFrame st { kind := 5, ref := (s.seg st).ref })

/-- Every stream whose life goes on opens a new chain under the role taken (R380, R565); one that was ending is over. -/
def reopenChains : Act := .look fun s =>
  Act.each (once (s.openChains ++ Sparse.keys s.units.cal (fun _ c => c.lives.head?.any (·.began)))) (fun st => .look fun s =>
    let c := s.chain st
    .seq (put F.SIG_STATUS_PENDING (s.get F.SIG_STATUS_PENDING - b2n c.due.isSome))
      (if c.ending then finishChain st
       else Act.all [onChain st Chain.after, put (F.SIG_STREAM_STATUS_CHAIN_OPEN st) 0, openChain st]))

/-- Takes a role in place (R565). -/
def takeRole (device role incarnation : Nat) : Act := .look fun s => withUtl 29 (withIlk (Act.all [
  endChains,
  writeRole 1 device role incarnation,
  holdRole s.liveKind device role incarnation,
  put F.SUP_ROLE_STATUS_ASSIGN_WAIT 0,
  event F.SUP_ROLE_STATUS_ROLE_TAKEN,
  chronicle 0x0B none 0 (be 4 role ++ be 4 incarnation),
  reopenChains,
  Act.each (List.range 8) startExchange]))

/-- A valid assign from a member of the QUORUM with which an exchange is complete. -/
def State.assignOk (s : State) (r : Nat) (m : List Byte) : Bool :=
  let d := num m 2 2 % 16384
  s.exchangeOk r 3 m && s.exchanged r && s.get (F.SUP_PEER_W0_DEVICE r) = d && s.topology.quorum.contains d

/-- EXCHANGE_ASSIGN (R565): while ASSIGN_WAIT is set; of two in one window the lower sender's is taken (R566). -/
def exchangeAssignAct (r : Nat) (m : List Byte) : Act := .look fun s =>
  let lower := s.coming.any (fun c => match c with
    | .exchangeAssign r' m' => s.assignOk r' m' && decide (num m' 2 2 % 16384 < num m 2 2 % 16384)
    | _ => false)
  if r ≥ 8 ∨ !s.ringUp r then .skip
  else if !s.exchangeOk r 3 m then .seq (tagJudged 5 7200 m) (count F.SUP_EXCHANGE_FAILS_C)
  else .seq (conflict r (num m 2 2 % 16384) (num m 4 4) (num m 16 8)) (.look fun s =>
    Act.when (s.assignOk r m && s.is F.SUP_ROLE_STATUS_ASSIGN_WAIT && !lower)
      (takeRole (num m 56 2 % 16384) (num m 60 4) (num m 64 4)))

def execExchangeAssign (r : Nat) (m : List Byte) (s : State) : Host.Outcome State Fault Refusal :=
  .next ((exchangeAssignAct r m).run s)

/-! ## Heartbeats (R525 to R528) -/

/-- The suspects, by SUP_WATCH entry: device and incarnation held. -/
def State.suspects (s : State) : List (Nat × Nat) :=
  ((List.range 16).filter (fun e => s.is (F.SUP_WATCH_W0_VALID e) && s.is (F.SUP_WATCH_W0_SUSPECT e))).map (fun e =>
    let d := s.get (F.SUP_WATCH_W0_DEVICE e)
    (d, s.heldIncarnation d))

/-- A SUSPECT pair of a heartbeat. -/
def suspectBytes (x : Option (Nat × Nat)) : List Byte :=
  match x with
  | some (d, n) => be 2 (32768 + d) ++ be 2 0 ++ be 4 n
  | none => zeros 8

/-- A heartbeat before its TAG (R525). -/
def State.heartbeat (s : State) (hops : Nat) (a b : Option (Nat × Nat)) : List Byte :=
  let q := s.topology.quorum
  be 1 hops ++ be 1 s.hstate ++ be 2 s.device ++ be 4 s.incarnation ++ be 4 (s.get F.SUP_ROLE_ROLE_ID) ++ be 4 s.units.sup.hbSeq
    ++ be 8 s.bootId ++ be 2 (q.getD 0 0) ++ be 2 (q.getD 1 0) ++ be 2 (q.getD 2 0) ++ be 2 0 ++ suspectBytes a ++ suspectBytes b

/-- HEARTBEAT_SEND (R523, R526): every HB_PERIOD_US while the vote holds. -/
def heartbeatSendAct : Act := .look fun s =>
  let u := s.units.sup
  let due := match u.hbAt with | some t => decide (s.keep.elapsed ≥ t + s.get F.SUP_CFG_HB_PERIOD_US * tickUs) | none => true
  let l := s.suspects
  let turn := if l.length ≤ 2 then 0 else u.turn % l.length
  let pick := fun k : Nat => if k < l.length then l[(turn + k) % l.length]? else none
  let body := s.heartbeat (s.get F.SUP_CFG_HB_HOPS) (pick 0) (pick 1)
  match s.hopTag 2 body with
  | some tag => Act.when (s.up && !u.voteFailed && due) (Act.all [
      onSup (fun x => { x with hbSeq := (x.hbSeq + 1) % 2 ^ 32, hbAt := some s.keep.elapsed, turn := turn + 2 }),
      ringFlood .supervisor 8 2 (body ++ tag),
      count F.SUP_HB_SENT_C])
  | none => .skip

def execHeartbeatSend (s : State) : Host.Outcome State Fault Refusal := .next (heartbeatSendAct.run s)

/-- Moves a 32-bit cumulative value over the set bits of its bitmap. -/
def slide32 : Nat → Nat → Nat → Nat × Nat
  | 0, cum, b => (cum, b)
  | n + 1, cum, b => if b % 2 = 1 then slide32 n ((cum + 1) % 2 ^ 32) (b / 2) else (cum, b)

/-- Cumulative value and bitmap after a new HB_SEQ; `none` when it is a duplicate (R527). -/
def hbAccept (cum map seq : Nat) : Option (Nat × Nat) :=
  let ahead := (seq + 2 ^ 32 - cum) % 2 ^ 32
  if ahead = 0 ∨ ahead ≥ 2 ^ 31 then none
  else if ahead > 64 then some (seq, 0)
  else if map.testBit (ahead - 1) then none
  else some (slide32 64 cum (map ||| 2 ^ (ahead - 1)))

/-- The co-votes an accepted heartbeat brings: its sender, and each suspect it names. -/
def State.coVotesOf (s : State) (msg : List Byte) : List CoVote :=
  [32, 40].flatMap (fun o => if num msg o 1 < 128 then [] else
    [{ voter := num msg 2 2 % 16384, subject := num msg o 2 % 16384, incarnation := num msg (o + 4) 4,
       at_ := s.keep.elapsed, msg := setHops 0 msg }])

/-- An accepted heartbeat (R527, step 5). -/
def heartbeatTaken (r : Nat) (msg : List Byte) : Act := .look fun s =>
  let d := num msg 2 2 % 16384
  let boot := num msg 16 8
  let hops := num msg 0 1
  let votes := s.coVotesOf msg
  Act.all [
    raiseHeld d (num msg 4 4),
    onPeer d (fun p => { p with
      bootId := boot, hstate := num msg 1 1 % 8, roleId := num msg 8 4, incarnation := num msg 4 4,
      quorum := [num msg 24 2 % 16384, num msg 26 2 % 16384, num msg 28 2 % 16384],
      at_ := s.keep.elapsed, stamp := s.now, heard := true }),
    Act.each ((List.range 16).filter (fun e => s.get (F.SUP_WATCH_W0_DEVICE e) = d && s.is (F.SUP_WATCH_W0_SUSPECT e)))
      (fun e => put (F.SUP_WATCH_W0_SUSPECT e) 0),
    onSup (fun x =>
      let kept := x.coVotes.filter (fun c => !votes.any (fun v => v.voter = c.voter && v.subject = c.subject))
      { x with coVotes := kept ++ votes }),
    Act.when (decide (hops ≥ 1)) (ringFlood .supervisor r 2 (setHops (hops - 1) msg)),
    Act.each ((List.range 8).filter (fun p => s.is (F.SUP_PEER_W0_EXCHANGED p) && s.get (F.SUP_PEER_W0_DEVICE p) = d
      && decide (s.get (F.SUP_PEER_W2_BOOT_ID p) ≠ boot))) startExchange]

/-- HEARTBEAT_RECEIVED (R527, R536, R538, R559). -/
def heartbeatReceivedAct (r : Nat) (msg : List Byte) : Act := .look fun s =>
  let d := num msg 2 2 % 16384
  let boot := num msg 16 8
  let n := num msg 4 4
  let known := (s.peer d).boots.find? (fun b => b.1 = boot)
  let seq := num msg 12 4
  let fate := match known with | some b => hbAccept b.2.1 b.2.2 seq | none => some (seq, 0)
  if r ≥ 8 ∨ !s.ringUp r then .skip
  else if !s.authentic 2 64 msg then .seq (tagJudged 2 64 msg) (count F.SUP_HB_AUTH_FAIL_C)
  else Act.all [
    conflict r d n boot,
    Act.when (s.isLive && num msg 8 4 = s.get F.SUP_ROLE_ROLE_ID && decide (n > s.incarnation))
      (enterFenced (slice msg 8 4 ++ be 4 n)),
    if d = s.device then .skip
    else match fate with
      | none => count F.SUP_HB_DUPLICATE_C
      | some b => Act.all [
          count F.SUP_HB_RECEIVED_C,
          onPeer d (fun p => { p with boots := (boot, b.1, b.2) :: p.boots.filter (fun x => x.1 ≠ boot) }),
          if n < s.heldIncarnation d then resendNotice r d else heartbeatTaken r msg]]

def execHeartbeatReceived (r : Nat) (msg : List Byte) (s : State) : Host.Outcome State Fault Refusal :=
  .next ((heartbeatReceivedAct r msg).run s)

/-! ## Suspicion (R528, R530) -/

/-- A declaration of the incarnation last heard of a device, or a later one, is accepted. -/
def State.declared (s : State) (d : Nat) : Bool :=
  s.units.sup.notices.any (fun n => n.subject = d && decide (n.incarnation ≥ (s.peer d).incarnation))

/-- A remote reset word to a device before its TAG (R529). -/
def State.resetWordBody (s : State) (d : Nat) : List Byte :=
  be 2 0 ++ be 2 d ++ be 4 (s.heldIncarnation d) ++ be 8 (s.peer d).bootId ++ be 2 s.device ++ be 2 0 ++ be 4 s.incarnation
    ++ zeros 8

/-- One remote reset word to a suspect that a ring port leads to, once for each of its starts (R530). -/
def sendResetWord (d : Nat) : Act := .look fun s =>
  let boot := (s.peer d).bootId
  let body := s.resetWordBody d
  match (List.range 8).find? (fun r => s.exchanged r && s.get (F.SUP_PEER_W0_DEVICE r) = d), s.ringTag 4 body with
  | some r, some tag =>
    Act.when (s.is F.SUP_CFG_RESET_EN && !s.fenced && !s.units.sup.wordsSent.contains (d, boot)) (Act.all [
      ringSend .supervisor r 4 (body ++ tag),
      count F.SUP_RESET_WORDS_SENT_C,
      chronicle 0x0A none 0 (slice body 2 22),
      onSup (fun x => { x with wordsSent := (d, boot) :: x.wordsSent })])
  | _, _ => .skip

/-- SUSPECT_TIMEOUT (R528): of an entry. -/
def suspectTimeoutAct (e : Nat) : Act := .look fun s =>
  let d := s.get (F.SUP_WATCH_W0_DEVICE e)
  let p := s.peer d
  Act.when (decide (e < 16) && s.up && s.is (F.SUP_WATCH_W0_VALID e) && !s.is (F.SUP_WATCH_W0_SUSPECT e) && p.heard
      && decide (p.hstate < 2) && !s.declared d && decide (s.keep.elapsed ≥ p.at_ + s.get F.SUP_TIMERS_SUSPECT_MS * tickMs))
    (.seq (put (F.SUP_WATCH_W0_SUSPECT e) 1) (sendResetWord d))

def execSuspectTimeout (e : Nat) (s : State) : Host.Outcome State Fault Refusal := .next ((suspectTimeoutAct e).run s)

/-! ## Declarations (R532 to R535) -/

/-- The wake duty of a declared device: a live member of its QUORUM with a valid SUP_SPARE entry for it wakes the
spare (R535, R564). -/
def wakeDuty (subject : Nat) : Act := .look fun s =>
  match (List.range 16).find? (fun e => s.is (F.SUP_WATCH_W0_VALID e) && s.get (F.SUP_WATCH_W0_DEVICE e) = subject
      && s.is (F.SUP_SPARE_VALID e)) with
  | some e => Act.when (s.isLive && (s.peer subject).quorum.contains s.device) (Act.all [
      onSup (fun x => { x with waking := (e, s.keep.elapsed, s.keep.elapsed) :: x.waking.filter (fun w => w.1 ≠ e) }),
      dutyWake e,
      assignDuties])
  | none => .skip

/-- Accepts a fence notice (R534): from port `r`, 8 for the device's own. -/
def acceptNotice (r hops : Nat) (msg : List Byte) : Act := .look fun s =>
  let subject := num msg 2 2 % 16384
  let n := num msg 4 4
  let mine := (List.range 16).filter (fun e => s.get (F.SUP_WATCH_W0_DEVICE e) = subject && s.is (F.SUP_WATCH_W0_VALID e))
  Act.all [
    raiseHeld subject (n + 1),
    count F.SUP_DECLARATIONS_ACCEPTED_C,
    chronicle 0x07 none 0 (slice msg 1 27),
    onSup (fun x =>
      let others := x.notices.filter (fun y => y.subject ≠ subject)
      { x with notices := ({ subject := subject, incarnation := n, msg := msg } :: others).take 64
               accepted := (subject, n) :: x.accepted }),
    Act.each mine (fun e => .seq (put (F.SUP_WATCH_W0_SUSPECT e) 0) (put (F.SUP_WATCH_W0_DECLARED e) 1)),
    if r = 8 then ringFlood .supervisor 8 3 (setHops hops msg)
    else Act.when (decide (hops ≥ 1)) (ringFlood .supervisor r 3 (setHops (hops - 1) msg)),
    sourceDead subject,
    wakeDuty subject]

/-- The QUORUM held for a device: its own image's for itself. -/
def State.quorumOf (s : State) (d : Nat) : List Nat := if d = s.device then s.topology.quorum else (s.peer d).quorum

/-- The identity record held of a device from an exchange. -/
def State.identityOf (s : State) (d : Nat) : Option (List Byte) :=
  ((List.range 8).find? (fun r => s.get (F.SUP_PEER_W0_DEVICE r) = d && !(s.exch r).identity.isEmpty)).map (fun r => (s.exch r).identity)

/-- The declarant's signatures verify under the identity record held of it. -/
def State.noticeSigned (s : State) (msg : List Byte) : Option Bool :=
  (s.identityOf (num msg 12 2 % 16384)).map (fun id =>
    verifyBoth id contextF (slice msg 1 143) (slice msg 144 96) (slice msg 240 3309))

/-- The conditions of R534. -/
def State.noticeOk (s : State) (msg : List Byte) : Bool :=
  let subject := num msg 2 2 % 16384
  let n := num msg 4 4
  let vote := slice msg 32 64
  let declarant := num msg 12 2 % 16384
  let voter := num vote 2 2 % 16384
  s.authentic 3 3568 msg && num msg 1 1 = 1 && s.authentic 2 64 vote
    && [32, 40].any (fun o => num vote o 1 ≥ 128 && num vote o 2 % 16384 = subject && num vote (o + 4) 4 = n)
    && declarant ≠ voter && (s.quorumOf subject).contains declarant && (s.quorumOf subject).contains voter
    && s.noticeSigned msg ≠ some false

/-- A notice names this device and its incarnation (R536). -/
def State.noticeOwn (s : State) (msg : List Byte) : Bool :=
  num msg 2 2 % 16384 = s.device && num msg 4 4 = s.incarnation && decide (s.get F.SUP_ROLE_STATUS_KIND < 2)

/-- The notice fences this device: it is valid, and signed by a declarant whose identity record the device holds. -/
def State.noticeFences (s : State) (msg : List Byte) : Bool :=
  s.noticeOwn msg && s.noticeOk msg && s.noticeSigned msg = some true

/-- FENCE_NOTICE_RECEIVED (R534, R536, R540). -/
def fenceNoticeReceivedAct (r : Nat) (msg : List Byte) : Act := .look fun s =>
  let again := s.units.sup.accepted.contains (num msg 2 2 % 16384, num msg 4 4)
  if r ≥ 8 ∨ !s.ringUp r then .skip
  else if !s.authentic 3 3568 msg then tagJudged 3 3568 msg
  else if again then count F.SUP_HB_DUPLICATE_C
  else if s.noticeOwn msg then
    if s.noticeFences msg then .seq (acceptNotice r (num msg 0 1) msg) (enterFenced (slice msg 1 27))
    else count F.SUP_HB_AUTH_FAIL_C
  else Act.when (s.noticeOk msg) (acceptNotice r (num msg 0 1) msg)

def execFenceNoticeReceived (r : Nat) (msg : List Byte) (s : State) : Host.Outcome State Fault Refusal :=
  .next ((fenceNoticeReceivedAct r msg).run s)

/-- A heartbeat of a device arrives later in this window (R540). -/
def State.heartbeatPending (s : State) (d : Nat) : Bool := s.coming.any (fun c => match c with
  | .heartbeatReceived r m => s.ringUp r && s.authentic 2 64 m && num m 2 2 % 16384 = d
      && decide (num m 4 4 ≥ s.heldIncarnation d)
  | _ => false)

/-- A fence notice before its TAG (R533). -/
def State.noticeBody (s : State) (subject n : Nat) (vote : List Byte) : List Byte :=
  let b := be 1 0 ++ be 1 1 ++ be 2 subject ++ be 4 n ++ be 4 (s.peer subject).roleId ++ be 2 s.device ++ be 2 0
    ++ deviceTime s.units.d0 ++ be 4 0 ++ vote ++ identityHash
  b ++ signBoth contextF (b.drop 1) ++ zeros 3

/-- DEAD_TIMEOUT (R532): the wait of an entry ends. -/
def deadTimeoutAct (e : Nat) : Act := .look fun s =>
  let d := s.get (F.SUP_WATCH_W0_DEVICE e)
  let p := s.peer d
  let n := s.heldIncarnation d
  let rank := (p.quorum.filter (fun q => q < s.device)).length
  let dead := s.get F.SUP_TIMERS_DEAD_MS
  let vote := s.units.sup.coVotes.find? (fun c => c.subject = d && c.incarnation = n && c.voter ≠ s.device
    && p.quorum.contains c.voter && decide (s.keep.elapsed ≤ c.at_ + dead * tickMs))
  let ready := decide (e < 16) && s.is (F.SUP_WATCH_W0_VALID e) && s.is (F.SUP_WATCH_W0_SUSPECT e)
    && p.quorum.contains s.device && decide (s.keep.elapsed ≥ p.at_ + (dead + rank) * tickMs)
    && !s.units.sup.accepted.contains (d, n) && !s.heartbeatPending d && !s.fenced && s.up
  match vote with
  | none => .skip
  | some v =>
    let body := s.noticeBody d n v.msg
    match s.hopTag 3 body with
    | none => .skip
    | some tag => Act.when ready (.draw fun h => .seq (count F.SUP_DECLARATIONS_ISSUED_C)
        (acceptNotice 8 (h.toNat % 64) (body ++ tag)))

def execDeadTimeout (e : Nat) (s : State) : Host.Outcome State Fault Refusal := .next ((deadTimeoutAct e).run s)

/-! ## Wake frames (R564) -/

/-- WAKE_FRAME_REPEAT (R564): every 20 ms until the spare's exchange completes, or for 1 s. -/
def wakeFrameRepeatAct (e : Nat) : Act := .look fun s =>
  match s.units.sup.waking.find? (fun w => w.1 = e) with
  | none => .skip
  | some w => Act.when (decide (s.keep.elapsed ≥ w.2.2 + 20 * tickMs) && decide (s.keep.elapsed ≤ w.2.1 + tickS) && !s.fenced) (.seq
      (onSup (fun x => { x with waking := x.waking.map (fun y => if y.1 = e then (e, y.2.1, s.keep.elapsed) else y) }))
      (dutyWake e))

def execWakeFrameRepeat (e : Nat) (s : State) : Host.Outcome State Fault Refusal := .next ((wakeFrameRepeatAct e).run s)

/-- WAKE_SEND (R564): a write of SUP_WAKE_CTRL. -/
def wakeSendAct (writer : Nat) (value : Word) : Act := .look fun s =>
  let entry := getBits value 11 8
  let result := if writer ≠ 0 || getBits value 31 16 ≠ 0xA5C3 then 3
    else if s.is F.SUP_WAKE_STATUS_BUSY then 2
    else if s.wakePathOk (s.get (F.SUP_SPARE_WAKE_SELECT entry)) then 0 else 1
  Act.when (s.hasRight writer F.SUP_WAKE_CTRL_SEND.addr) (Act.all [
    Act.when (writer = 0) (put F.SUP_WAKE_CTRL_ENTRY entry),
    Act.when (getBits value 0 0 = 1) (Act.all [
      put F.SUP_WAKE_STATUS_RESULT result,
      event F.SUP_WAKE_STATUS_DONE,
      if result = 0 then sendWake (s.get (F.SUP_SPARE_WAKE_SELECT entry))
      else Act.when (result = 1) (count F.SUP_EXCHANGE_FAILS_C)])])

def execWakeSend (writer : Nat) (value : Word) (s : State) : Host.Outcome State Fault Refusal :=
  .next ((adjusts writer F.SUP_WAKE_CTRL_ENTRY (wakeSendAct writer value)).run s)

end Sys2Proof.Machine
end

