-- ==== Sys2Proof/Machine/Power.lean ====
section
/-! DEFINITION. Supplies, Ember's slots, the pulses of a wake frame and the core reset (R53 to R80). The rows that run the
start sequence or close the store stand in Start.lean. -/

namespace Sys2Proof.Machine

/-- Ember's states (EMB_STATUS.STATE, R65). -/
def embActive : Nat := 0
def embEntering : Nat := 1
def embDormant : Nat := 2
def embListening : Nat := 3
def embWaking : Nat := 4

/-- Ember's state as its register reports it. -/
def State.ember (s : State) : Nat := s.get F.EMB_STATUS_STATE

/-- Every main supply is valid (R55). -/
def State.mainsValid (s : State) : Bool := s.get F.PWR_STATUS_RAIL_OK % 64 = 63

/-- Changes Ember's state outside its registers. -/
def onEmber (f : Ember → Ember) : Act := .keep fun k => { k with ember := f k.ember }

/-- The core reset (R60, R62, R63): registers and unit state go back to reset values, the supplies keep their
validity, a flash command in progress is aborted (R110), the watchdog is disarmed, and outputs take the state of R46. -/
def coreReset : Act := .look fun s => Act.all [
  releasePins,
  .resetRegs,
  .units (fun _ => {}),
  put F.PWR_STATUS_RAIL_OK (s.get F.PWR_STATUS_RAIL_OK),
  onEmber (fun e => { e with watchdog := none, starting := false })]

/-- Ember drives PWR_ON to a level; without VAON it stays high-impedance (R47). -/
def Ember.drives (e : Ember) (d : Drive) : Ember := { e with pwrOn := if e.vaon then d else .hiZ }

/-- COLD_RESET (R60, R64): Ember takes its cold values and drives PWR_ON high; RST_N stays as the board holds it (R61). -/
def coldResetAct : Act := .look fun s =>
  Act.when (!s.keep.ember.vaon) (Act.all [
    releasePins,
    .resetAll,
    .units (fun _ => {}),
    put F.PWR_STATUS_RAIL_OK (s.get F.PWR_STATUS_RAIL_OK),
    onEmber (fun e => { vaon := true, pwrOn := .high, rstLow := e.rstLow, resetKind := 0 })])

def execColdReset (s : State) : Host.Outcome State Fault Refusal := .next (coldResetAct.run s)

/-- VAON_LOSS (R79): Ember loses all its state and PWR_ON is high-impedance. -/
def vaonLossAct : Act := .look fun s => Act.all [
  Act.each (s.regs.filter (fun e => emberAddr e.1)) (fun e => .reg e.1 (resetWord e.1)),
  Act.each (s.force.filter (fun e => emberAddr e.1)) (fun e => .inForce e.1 (resetWord e.1)),
  onEmber (fun e => { vaon := false, pwrOn := .hiZ, rstLow := e.rstLow })]

def execVaonLoss (s : State) : Host.Outcome State Fault Refusal := .next (vaonLossAct.run s)

/-- BROWNOUT (R78): a main supply falls through its invalid threshold, so it was valid: RAIL_OK shows it, or it rose
before the last supply did and no row said so (R53). The core is held in reset; Ember, while it has VAON, records it and
leaves Active for Waking (R65). -/
def brownoutAct (rail : Nat) : Act := .look fun s =>
  let ok := s.get F.PWR_STATUS_RAIL_OK
  Act.when (decide (rail < 6)) (Act.all [
    Act.when (ok.testBit rail) (put F.PWR_STATUS_RAIL_OK (ok - 2 ^ rail)),
    Act.when (s.ember = embActive || s.ember = embWaking) (Act.all [
      coreReset,
      onEmber (fun e => { e with resetKind := 1 }),
      Act.when s.keep.ember.vaon (Act.all [
        put F.EMB_STATUS_STATE embWaking,
        event F.EMB_WAKE_CAUSE_BROWNOUT,
        count F.EMB_BROWNOUT_CNT_COUNT])])])

def execBrownout (rail : Nat) (s : State) : Host.Outcome State Fault Refusal := .next ((brownoutAct rail).run s)

/-- SUPPLY_EXCURSION (R53): recorded while the supply is valid. Until the last main supply is valid the core, and
PWR_EVENTS with it, is held in reset (R55, R80), so an earlier supply's excursion leaves no mark. -/
def supplyExcursionAct (rail : Nat) (overVoltage : Bool) : Act := .look fun s =>
  Act.when (decide (rail < 7) && (s.get F.PWR_STATUS_RAIL_OK).testBit rail)
    (eventBit (if overVoltage then F.PWR_EVENTS_OVER else F.PWR_EVENTS_UNDER) rail)

def execSupplyExcursion (rail : Nat) (overVoltage : Bool) (s : State) : Host.Outcome State Fault Refusal :=
  .next ((supplyExcursionAct rail overVoltage).run s)

/-- MAIN_RAILS_OFF (R66, step 5). -/
def mainRailsOffAct : Act := .look fun s =>
  Act.when (s.ember = embEntering) (Act.all [
    put F.PWR_STATUS_RAIL_OK (s.get F.PWR_STATUS_RAIL_OK / 64 * 64),
    put F.EMB_STATUS_STATE (if s.keep.ember.listening then embListening else embDormant),
    onEmber (fun e => { e with offAt := s.keep.elapsed, resetKind := 1 })])

def execMainRailsOff (s : State) : Host.Outcome State Fault Refusal := .next (mainRailsOffAct.run s)

/-- RAIL_STUCK (R67). -/
def railStuckAct : Act := .look fun s =>
  Act.when (s.ember = embEntering && s.get F.PWR_STATUS_RAIL_OK % 64 ≠ 0 &&
      decide (s.keep.elapsed ≥ s.keep.ember.lowAt + 5 * tickS))
    (.seq (event F.EMB_WAKE_CAUSE_RAIL_STUCK) (onEmber (fun e => { e with stuck := true })))

def execRailStuck (s : State) : Host.Outcome State Fault Refusal := .next (railStuckAct.run s)

/-! ## Wake slots -/

/-- Byte `i` of slot `sl`'s match window in force (EMB_SLOT_WINDOW). -/
def State.slotByte (s : State) (sl i : Nat) : Byte :=
  BitVec.ofNat 8 (bits (s.live (F.EMB_SLOT_WINDOW_BYTES sl (i / 8))) (63 - 8 * (i % 8)) (56 - 8 * (i % 8)))

/-- The byte numbers a MASK selects, rising. -/
def selected (mask : Nat) : List Nat := (List.range 32).filter (fun i => mask.testBit i)

/-- The 32 bytes match slot `sl` (R71, R72). -/
def State.slotMatches (s : State) (svc : Bool) (sl : Nat) (b : List Byte) : Bool :=
  let mask := s.live (F.EMB_SLOT_CHECK_MASK sl)
  let en := if svc then s.liveIs (F.EMB_SLOT_CTRL_SVC_EN sl) else s.liveIs (F.EMB_SLOT_CTRL_PIN_EN sl)
  let sel := selected mask
  en && mask ≠ 0 && !(s.get F.EMB_STATUS_SLOT_CHECK_FAULT).testBit sl
    && sel.all (fun i => b.getD i 0 = s.slotByte sl i)
    && crc32c (sel.map (fun i => b.getD i 0)) = s.live (F.EMB_SLOT_CHECK_CHECK sl)

/-- The slots that 32 received bytes match from a source. -/
def State.matching (s : State) (svc : Bool) (b : List Byte) : List Nat :=
  (List.range 4).filter (fun sl => s.slotMatches svc sl b)

/-- Drops pulses shorter than 200 ns, joining each to the gap before it (R70). -/
def mergeTrain : List (Nat × Nat) → List (Nat × Nat) → List (Nat × Nat)
  | acc, [] => acc.reverse
  | acc, (h, g) :: rest =>
    if h < 200 then match acc with
      | (h', g') :: a => mergeTrain ((h', g' + h + g) :: a) rest
      | [] => mergeTrain [] rest
    else mergeTrain ((h, g) :: acc) rest

/-- The bits of the data pulses as bytes, most significant bit first. -/
def packBits : Nat → List Bool → List Byte
  | 0, _ => []
  | n + 1, l => BitVec.ofNat 8 ((l.take 8).foldl (fun a b => a * 2 + b2n b) 0) :: packBits n (l.drop 8)

/-- The pulses that Ember takes from the front of a train before it waits for a new preamble, and what it read: `none`
nothing, `some none` an abandoned frame, `some (some b)` the bytes of a frame (R69, R70). Widths are in ns; `s4` is four
times T_REF. A train that stops after its eighth pulse leaves a gap too long; one that stops sooner has given no T_REF, and
no condition of R70 holds (log entry 113). -/
def readTrain (t : List (Nat × Nat)) : Nat × Option (Option (List Byte)) :=
  let w := fun i => (t.getD i (0, 0)).1
  let p5 := w 4
  let s4 := p5 + w 5 + w 6 + w 7
  let near := fun p : Nat => decide ((max p p5 - min p p5) * 5 ≤ p5)
  let inRange := fun x : Nat => decide (6 * s4 ≤ 40 * x) && decide (40 * x ≤ 26 * s4)
  let gapOk := fun i => inRange (t.getD i (0, 0)).2
  let bad := fun i : Nat =>
    if i < 5 then false
    else if i < 7 then !near (w i)
    else if i = 7 then !near (w i) || !(List.range 8).all gapOk
    else if i = 8 then !(decide (32 * s4 ≤ 40 * w i) && decide (40 * w i ≤ 48 * s4)) || !gapOk i
    else !inRange (w i) || (decide (i < 264) && !gapOk i)
  match (List.range (min 265 t.length)).find? bad with
  | some i => (i + 1, some none)
  | none =>
    if t.length ≥ 265 then (265, some (some (packBits 32 (((t.drop 9).take 256).map (fun p => decide (8 * p.1 ≥ 3 * s4))))))
    else (t.length, if t.length ≥ 8 then some none else none)

/-- What Ember reads from a train of pulses, in order. -/
def readFrames : Nat → List (Nat × Nat) → List (Option (List Byte))
  | 0, _ => []
  | _ + 1, [] => []
  | n + 1, t => let r := readTrain t; r.2.toList ++ readFrames n (t.drop r.1)

/-- The frames and abandonments in a WAKE pin's pulses; pulses shorter than 200 ns are ignored (R70). -/
def decodeTrain (train : List (Nat × Nat)) : List (Option (List Byte)) :=
  let t := mergeTrain [] train
  readFrames t.length t

/-- WAKE_FRAME_ABANDONMENT (R70). -/
def wakeFrameAbandonmentAct : Act := .look fun s => Act.when s.keep.ember.vaon (count F.EMB_WAKE_ERRORS_COUNT)

def execWakeFrameAbandonment (s : State) : Host.Outcome State Fault Refusal := .next (wakeFrameAbandonmentAct.run s)

/-- WAKE_RAIL_WAIT_EXPIRY (R68). -/
def wakeRailWaitExpiryAct : Act := .look fun s =>
  Act.when (s.keep.ember.wakeWait && (s.ember = embDormant || s.ember = embListening) &&
      decide (s.keep.elapsed ≥ s.keep.ember.offAt + 10 * tickMs))
    (.seq (put F.EMB_STATUS_STATE embWaking) (onEmber (fun e => { e.drives .high with wakeWait := false })))

def execWakeRailWaitExpiry (s : State) : Host.Outcome State Fault Refusal := .next (wakeRailWaitExpiryAct.run s)

/-- The CRC-32C over the masked bytes of a staged match window (R72). -/
def State.stagedSlotCrc (s : State) (sl : Nat) : Nat :=
  crc32c ((selected (s.get (F.EMB_SLOT_CHECK_MASK sl))).map (fun i =>
    BitVec.ofNat 8 (bits (s.get (F.EMB_SLOT_WINDOW_BYTES sl (i / 8))) (63 - 8 * (i % 8)) (56 - 8 * (i % 8)))))

/-- Copies a slot's staged contents into force and checks them (R72). -/
def applySlot (sl : Nat) : Act := .look fun s =>
  let ok := s.stagedSlotCrc sl = s.get (F.EMB_SLOT_CHECK_CHECK sl)
  let on := s.is (F.EMB_SLOT_CTRL_SVC_EN sl) || s.is (F.EMB_SLOT_CTRL_PIN_EN sl)
  let b := fun f : Field => (⟨f.addr, f.lsb + sl, f.lsb + sl⟩ : Field)
  Act.all [
    Act.each (List.range 4) (fun w => commitWord (F.EMB_SLOT_WINDOW_BYTES sl w).addr),
    commitWord (F.EMB_SLOT_CHECK_CHECK sl).addr,
    commitWord (F.EMB_SLOT_CTRL_PIN_EN sl).addr,
    put (b F.EMB_STATUS_SLOT_CHECK_FAULT) (b2n (!ok)),
    put (b F.EMB_STATUS_SLOT_ACTIVE) (b2n (ok && on))]

/-- A pending commit of slots takes effect (R72). -/
def applySlots : Act := .look fun s => Act.when (s.is F.EMB_STATUS_COMMIT_PENDING) (Act.all [
  .win (fun w => { w with marks := (10, 0) :: w.marks }),
  Act.each (List.range 4) applySlot, put F.EMB_STATUS_COMMIT_PENDING 0, put F.EMB_CTRL_SLOT_COMMIT 0])

/-- SLOT_COMMIT_APPLY (R72, R73), once in a window (R577). -/
def slotCommitApplyAct : Act := .look fun s => Act.when (!s.win.marks.contains (10, 0)) applySlots

def execSlotCommitApply (s : State) : Host.Outcome State Fault Refusal := .next (slotCommitApplyAct.run s)

/-- SLOT_COMMIT (R73): a write of EMB_CTRL; a further commit while one is pending is discarded, save in the window of its
boundary, after which it is taken (R577). -/
def slotCommitAct (writer : Nat) (value : Word) : Act := .look fun s =>
  Act.when (s.hasRight writer 0x00010104 && getBits value 0 0 = 1) (.seq
    (Act.when (s.pending.any (fun c => match c with | .slotCommitApply => true | _ => false)) slotCommitApplyAct)
    (.look fun s => Act.when (!s.is F.EMB_STATUS_COMMIT_PENDING)
      (.seq (put F.EMB_CTRL_SLOT_COMMIT 1) (put F.EMB_STATUS_COMMIT_PENDING 1))))

def execSlotCommit (writer : Nat) (value : Word) (s : State) : Host.Outcome State Fault Refusal :=
  .next ((adjusts writer F.EMB_CTRL_SLOT_COMMIT (slotCommitAct writer value)).run s)

/-- EMBER_HEARTBEAT (R63, R524): only a voted supervisor sends it. -/
def emberHeartbeatAct : Act := .look fun s =>
  Act.when (s.up && !s.units.sup.voteFailed)
    (onEmber (fun e => { e with watchdog := e.watchdog.map (fun _ => s.keep.elapsed) }))

def execEmberHeartbeat (s : State) : Host.Outcome State Fault Refusal := .next (emberHeartbeatAct.run s)

end Sys2Proof.Machine
end

