-- ==== Sys2Proof/Machine/Image.lean ====
section
/-! DEFINITION. The configuration image: slots and their flags, verification, loading, and the commands that write and
confirm an image (R81 to R111). -/

namespace Sys2Proof.Machine

/-! ## Slots (R82, R83) -/

/-- Flash address of a slot, and of a state word of it: 0 WRITTEN, 1 TRIED, 2 CONFIRMED, 3 RETIRED. -/
def slotBase (slot : Nat) : Nat := 0x04000000 * slot
def stateWord (slot w : Nat) : Nat := 0x08000000 + 0x1000 * slot + 4 * w

/-- Zero bits of a byte. -/
def zeroBits (b : Byte) : Nat := ((List.range 8).filter (fun i => !b.toNat.testBit i)).length

/-- A flag is marked: at least 16 bits of its word read 0 (R83). -/
def State.marked (s : State) (slot w : Nat) : Bool := decide (((s.flashBytes (stateWord slot w) 4).map zeroBits).sum ≥ 16)

/-- Marks a flag. -/
def mark (slot w : Nat) : Act := flashStore (stateWord slot w) (zeros 4)

/-- Bytes of a slot's image. -/
def State.img (s : State) (slot off n : Nat) : List Byte := s.flashBytes (slotBase slot + off) n

/-- A big-endian number of a slot's image. -/
def State.imgNum (s : State) (slot off n : Nat) : Nat := ofBe (s.img slot off n)

/-- A read of the flash meets an uncorrectable error. -/
def State.flashFails (s : State) (a n : Nat) : Bool := s.keep.flashBad.any (fun b => decide (a ≤ b) && decide (b < a + n))

/-- The slot that runs, unless the device is unconfigured. -/
def State.runningSlot (s : State) : Option Nat :=
  if s.get F.IMG_STATUS_STATE = 1 ∨ s.get F.IMG_STATUS_STATE = 2 then some (s.get F.IMG_STATUS_RUNNING_SLOT) else none

/-- Shows the GENERATION in a slot's header, as a start or a Mark finds it (R81). -/
def showGeneration (slot : Nat) : Act := .look fun s => put (F.IMG_SLOT_GENERATION_GENERATION slot)
  (if s.flashFails (slotBase slot) 256 || s.imgNum slot 0 4 ≠ 0x49415643 then 0 else s.imgNum slot 8 8)

/-- Shows the flags of the slots, which stand in their state blocks. -/
def showSlots : Act := .look fun s => Act.each [0, 1] (fun slot => Act.all [
  put (F.IMG_SLOT_STATE_WRITTEN slot) (b2n (s.marked slot 0)),
  put (F.IMG_SLOT_STATE_TRIED slot) (b2n (s.marked slot 1)),
  put (F.IMG_SLOT_STATE_CONFIRMED slot) (b2n (s.marked slot 2)),
  put (F.IMG_SLOT_STATE_RETIRED slot) (b2n (s.marked slot 3))])

/-! ## Sections (R85 to R88) -/

/-- A section table entry. -/
structure Section where
  typ : Nat
  sflags : Nat
  off : Nat
  len : Nat
  hash : List Byte
  deriving DecidableEq, Repr

/-- The section table. -/
def State.sections (s : State) (slot : Nat) : List Section :=
  (List.range (min 64 (s.imgNum slot 20 2))).map (fun i =>
    let b := s.img slot (256 + 64 * i) 64
    { typ := num b 0 2, sflags := num b 2 2, off := num b 4 4, len := num b 8 4, hash := slice b 16 48 })

/-- Bytes of the section of a type; none when it is missing. -/
def State.sectionOf (s : State) (slot typ : Nat) : Option (List Byte) :=
  ((s.sections slot).find? (fun x => x.typ = typ)).map (fun x => s.img slot x.off x.len)

/-- Two sections overlap. -/
def Section.overlaps (a b : Section) : Bool := decide (a.off < b.off + b.len) && decide (b.off < a.off + a.len)

/-- No two of a list of sections overlap. -/
def apart : List Section → Bool
  | [] => true
  | a :: l => l.all (fun b => !a.overlaps b) && apart l

/-- R85 and R87 hold. A LENGTH of 0 fails here, with 0x04: DESIGN CHOICE, log entry 124. -/
def State.layoutOk (s : State) (slot : Nat) : Bool :=
  let n := s.imgNum slot 16 4
  let k := s.imgNum slot 20 2
  let l := s.sections slot
  n % 4096 = 0 && decide (12288 ≤ n) && decide (n ≤ 67108864) && decide (1 ≤ k) && decide (k ≤ 64)
    && l.all (fun x => x.off % 4096 = 0 && decide (1 ≤ x.len) && decide (256 + 64 * k ≤ x.off) && decide (x.off + x.len ≤ n - 4096))
    && apart l

/-- The reserved bytes and the ranges of the header, the section table and the signature block (R86, R87, R89). -/
def State.headerOk (s : State) (slot : Nat) : Bool :=
  let h := s.img slot 0 256
  let flags := num h 22 2
  let window := num h 24 4
  let zero := fun off n => (slice h off n).all (· = 0)
  zero 36 4 && zero 142 114 && decide (flags < 4)
    && (s.img slot (num h 16 4 - 4096 + 3413) 683).all (· = 0)
    && (if flags % 2 = 1 then decide (10 ≤ window) && decide (window ≤ 86400) else window = 0)
    && (List.range (s.imgNum slot 20 2)).all (fun i => (s.img slot (256 + 64 * i + 12) 4).all (· = 0))
    && (s.sections slot).all (fun x => x.sflags % 32768 = 0)
    && [1, 2, 3, 4, 5, 6, 7].all (fun t => decide (((s.sections slot).filter (fun x => x.typ = t)).length ≤ 1))

/-! ## Wrapped keys (R95, R96) -/

/-- A wrapped-key entry. -/
structure KeyEntry where
  index : Nat
  usage : Nat
  tenant : Nat
  aad : List Byte
  iv : List Byte
  wrapped : List Byte
  tag : List Byte
  deriving DecidableEq, Repr

/-- The entries of a byte string, up to the first that runs past its end or breaks R95, and whether none does. -/
def keyEntries : Nat → List Byte → List KeyEntry × Bool
  | 0, _ => ([], true)
  | n + 1, b =>
    let usage := num b 2 1
    let len := num b 4 2
    let size := (36 + len + 7) / 8 * 8
    if b.length < 36 + len ∨ usage = 0 ∨ usage > 6 ∨ num b 3 1 > 31 ∨ len ≠ (if usage = 4 then 64 else 32) ∨ num b 6 2 ≠ 0
    then ([], false)
    else
      let r := keyEntries n (b.drop size)
      ({ index := num b 0 2, usage := usage, tenant := num b 3 1, aad := b.take 8, iv := slice b 8 12
         wrapped := slice b 20 len, tag := slice b (20 + len) 16 } :: r.1, r.2)

/-- The entries of a wrapped-keys section, as far as they can be read, and whether its format is right. -/
def parseKeys (b : List Byte) : List KeyEntry × Bool :=
  let n := num b 0 2
  let r := keyEntries (min n 256) (b.drop 1576)
  (r.1, r.2 && decide (1 ≤ n) && decide (n ≤ 256) && num b 2 2 = 0 && decide (1576 ≤ b.length) && num b 1572 4 = 0
    && r.1.all (fun e => (r.1.filter (fun x => x.index = e.index)).length = 1))

/-- The keys of a section; `none` when the decapsulation or a tag fails. It comes before the section's format is judged
(R97). -/
def unwrap (b : List Byte) : Option (List (KeyEntry × List Byte)) :=
  match Config.kemDecap (slice b 4 1568) with
  | none => none
  | some k =>
    let key := be 32 k.toNat
    let got := (parseKeys b).1.map (fun e => (e, gctr key e.iv 2 e.wrapped))
    if got.all (fun g => block (gcmTag key g.1.iv g.1.aad g.2) = g.1.tag) then some got else none

/-! ## Loading (R91 to R95, R191, R256) -/

/-- A register record (R91). -/
structure RegRecord where
  address : Nat
  kind : Nat
  stride : Nat
  count : Nat
  value : Word
  deriving DecidableEq, Repr

/-- The records of section 0x0001. -/
def regRecords (b : List Byte) : List RegRecord := (List.range (b.length / 16)).map (fun i =>
  { address := num b (16 * i) 4, kind := num b (16 * i + 4) 1, stride := num b (16 * i + 5) 1, count := num b (16 * i + 6) 2
    value := BitVec.ofNat 64 (num b (16 * i + 8) 8) })

/-- The addresses a record writes. -/
def RegRecord.targets (r : RegRecord) : List Nat := (List.range r.count).map (fun k => r.address + k * 2 ^ r.stride)

/-- A record is valid (R92). -/
def RegRecord.ok (r : RegRecord) : Bool :=
  decide (r.kind = 1 ∨ r.kind = 2) && decide (r.stride ≤ 24) && decide (1 ≤ r.count) && (r.count = 1 || r.stride ≠ 0)
    && (r.kind = 2 || decide (r.value.toNat < 2 ^ 32))
    && r.targets.all (fun a => regionOf a ≠ 2 && (match locate a with
      | some (g, _, 0) => g.row.bytes = 4 * r.kind
          && (r.value &&& ~~~ rowsMask (g.row.fields.filter FieldRow.writable)) = 0
      | _ => false))

/-- Sets a register from an image. A configuration that its chapter refuses leaves the one before it, with the flag of the
refusal: of an edge port (R437) or an environment channel (R442) as a whole, of a utility pin its FUNCTION (R453). -/
def imageSets (r : Reg) (i a : Nat) (w : Word) : Act := .look fun s =>
  match r with
  | .EDG_CFG => if edgeConfig w then .reg a w else event (F.EDG_STATUS_CFG_REFUSED i)
  | .ENV_CFG => if envKindOk i w then .reg a w else event (F.ENV_CFG_CFG_REFUSED i)
  | .UTL_CFG =>
    let f := F.UTL_CFG_FUNCTION i
    if utlOffers i (getBits w f.msb f.lsb) then .reg a w
    else .seq (.reg a (putBits w f.msb f.lsb (s.get f))) (event (F.UTL_STATUS_FUNC_REFUSED i))
  | _ => .reg a w

/-- Writes a record; registers of absent units are skipped and counted. -/
def loadRecord (r : RegRecord) : Act := Act.each r.targets (fun a => .look fun s =>
  match locate a with
  | some (g, is, _) =>
    if s.present g is then imageSets g (is.headD 0) a (settleWord g (imageWord (s.fieldsOf g is) (s.rd a) r.value))
    else count F.IMG_APPLY_SKIPPED_COUNT
  | none => .skip)

/-- Words of a byte string at addresses. -/
def loadWords (base size : Nat) (b : List Byte) : Act :=
  Act.each (List.range (b.length / size)) (fun i => .reg (base + size * i) (BitVec.ofNat 64 (num b (size * i) size)))

/-- A tenant record (R94). -/
def tenantRecord (b : List Byte) : Tenant :=
  { enabled := bit (num b 1 1) 0, weight := num b 2 2, quota := num b 4 4, firstStream := num b 8 2, streamCount := num b 10 2
    rights := num b 12 4, mgmtKey := num b 16 2, links := ofBe (slice b 32 32) }

/-- The tenant records of section 0x0006. -/
def tenantRecords (b : List Byte) : List (Nat × Tenant) :=
  (List.range (b.length / 64)).map (fun i => (num b (64 * i) 1, tenantRecord (slice b (64 * i) 64)))

/-- The topology of section 0x0005. -/
def parseTopology (b : List Byte) : Topology :=
  { device := num b 0 2 % 16384, kind := num b 2 1, parentD0 := num b 3 1, parentD1 := num b 4 1, rootRef := num b 5 1
    roleId := num b 8 4, ringPeer := (List.range 8).map (fun i => num b (12 + 2 * i) 2)
    quorum := (List.range 3).map (fun i => num b (28 + 2 * i) 2) }

/-- The stream map entry of a stream (R191); reserved bits are not kept. -/
def loadStream (st : Nat) (e : List Byte) : Act := .seq
  (.reg (F.STR_CFG_ENABLED st).addr (imageWord Reg.STR_CFG.row.fields 0 (BitVec.ofNat 64 (num e 0 4))))
  (Act.each (List.range 16) (fun d => .reg (F.STR_DEST_KIND st d).addr
    (imageWord Reg.STR_DEST.row.fields 0 (BitVec.ofNat 64 (num e (64 + 4 * d) 4)))))

/-- Applies what an image holds to the registers and the tables: records, tenants, topology, rules, streams and
programs; then every staged value is in force (R92). -/
def loadTables (s0 : State) (slot : Nat) : Act :=
  let get := fun t => (s0.sectionOf slot t).getD []
  Act.all [
    Act.each (s0.regs.filter (fun e => decide (0x00010200 ≤ e.1) && decide (e.1 < 0x00010300))) (fun e => .reg e.1 (resetWord e.1)),
    Act.each (regRecords (get 1)) loadRecord,
    Act.each (tenantRecords (get 6)) (fun e => .units fun u => { u with
      tenants := Sparse.set (fun _ => ({} : Tenant)) u.tenants e.1 e.2 }),
    Act.each (tenantRecords (get 6)) (fun e => Act.when (s0.has 1 && (e.1 = 0 || e.2.enabled))
      (.seq (put (F.CAL_TENANT_CFG_WEIGHT e.1) e.2.weight) (put (F.CAL_TENANT_QUOTA_CELLS e.1) e.2.quota))),
    .units (fun u => { u with topo := some (parseTopology (get 5)) }),
    Act.when (s0.has 0) (Act.all [
      loadWords 0x02200000 8 (get 2),
      Act.each (List.range ((get 3).length / 128)) (fun st => loadStream st (slice (get 3) (128 * st) 128))]),
    Act.when (s0.has 2) (loadWords 0x04080000 8 (get 4)),
    .look (fun s => Act.each s.regs (fun e => .inForce e.1 e.2))]

/-! ## Verification (R97) -/

/-- A tenant section is valid (R94). -/
def tenantsOk (b : List Byte) : Bool :=
  let l := tenantRecords b
  let zero := fun off n => (slice b off n).all (· = 0)
  let on := l.filter (fun e => e.1 ≠ 0 && e.2.enabled)
  b.length % 64 = 0 && (List.range (b.length / 64)).all (fun i => decide (num b (64 * i + 1) 1 < 2) && zero (64 * i + 18) 14)
    && l.all (fun e => decide (e.1 < 32) && ((l.filter (fun x => x.1 = e.1)).length = 1) && decide (1 ≤ e.2.weight)
      && decide (e.2.rights < 2 ^ 18) && decide (e.2.firstStream < 8192))
    && on.all (fun e => decide (e.2.firstStream + e.2.streamCount ≤ 8192))
    && on.all (fun e => on.all (fun f => e.1 = f.1 || e.2.streamCount = 0 || f.2.streamCount = 0
      || decide (e.2.firstStream + e.2.streamCount ≤ f.2.firstStream)
      || decide (f.2.firstStream + f.2.streamCount ≤ e.2.firstStream)))

/-- The topology section is valid (R93). -/
def topologyOk (b : List Byte) (confirmMode : Bool) : Bool :=
  let t := parseTopology b
  let port := fun p => decide (p < 8) || p = 255
  let zero := fun off n => (slice b off n).all (· = 0)
  b.length = 64 && decide (num b 0 2 < 16384) && decide (t.kind < 3) && port t.parentD0 && port t.parentD1
    && decide (t.rootRef < 4) && (t.kind = 1 || t.rootRef = 0) && zero 6 2 && zero 34 30
    && (t.kind ≠ 1 || t.parentD0 = 255) && (t.kind ≠ 2 || (!confirmMode && t.roleId = 0xFFFFFFFF))
    && t.ringPeer.all (fun d => decide (d < 16384) || d = 0xFFFF) && t.quorum.all (fun d => decide (d < 16384))

/-- The sections' lengths, and the bytes that must be zero. -/
def State.formsOk (s : State) (slot : Nat) : Bool :=
  let get := fun t => s.sectionOf slot t
  let streams := (get 3).getD []
  (match get 1 with | some b => b.length % 16 = 0 && (regRecords b).all RegRecord.ok | none => true)
    && (match get 2 with | some b => b.length = 1048576 | none => true)
    && (match get 3 with | some b => b.length = 1048576 | none => true)
    && (List.range (streams.length / 128)).all (fun st => (slice streams (128 * st + 4) 60).all (· = 0))
    && (match get 4 with | some b => b.length = 16384 | none => true)
    && (match get 5 with | some b => topologyOk b (s.imgNum slot 22 2 % 2 = 1) | none => true)
    && (match get 6 with | some b => tenantsOk b | none => true)
    && (match get 7 with
      | some b => (parseKeys b).2 && (s.img slot 40 48).any (· ≠ 0)
      | none => true)

/-- The tables as loaded are valid: rules, source defaults, streams, programs, queue and pool sums (R174, R175, R190,
R213, R228, R256, R610). -/
def State.tablesOk (t : State) : Bool :=
  let quotas := ((List.range 4096).map (fun q => t.get (F.Q_QUOTA_CELL_QUOTA q))).sum
  let cells := ((0 :: t.tenantList).map (fun n => t.get (F.CAL_TENANT_QUOTA_CELLS n))).sum
  decide (quotas ≤ 524288)
    && (!t.has 0 || (t.rangeFault.isNone && (t.ruleFaultIn true).isNone && !t.defaultFault
      && (List.range 8192).all (fun st => t.streamResult st = 0)))
    && (!t.has 1 || decide (cells ≤ t.get F.CAL_STATUS_STRATA_CELLS))
    && (!t.has 2 || (List.range 64).all (fun p => t.progResult p 0 = 0))
    && (t.part ≠ .iav4010 || (List.range 8).all (fun r => (List.range 16).all (fun i =>
      !t.is (F.RNG_RELAY_VALID r i) || t.is (F.RNG_RELAY_TO_RING r i))))

/-- The machine with the registers and tables as start finds them, to load an image on trial (R98). -/
def State.blank (s : State) : State := coreReset.run s

/-- The reason for which a slot is rejected, 0 for none (R97). `start`: WRITTEN must be marked. Of the signature block
(R89) a bad MAGIC or ECDSA_LENGTH gives 0x05, a bad MLDSA_LENGTH 0x06: DESIGN CHOICE, log entry 125. -/
def State.verify (s : State) (start : Bool) (slot : Nat) : Nat :=
  let h := s.img slot 0 256
  let k := num h 20 2
  let head := s.img slot 0 (256 + 64 * k)
  let sig := s.img slot (num h 16 4 - 4096) 4096
  let signer := BitVec.ofNat 384 (ofBe (slice h 88 48))
  let target := slice h 40 48
  let l := s.sections slot
  let keys := match s.sectionOf slot 7 with
    | some b => (unwrap b).isSome || target.all (· = 0)
    | none => true
  if s.flashFails (stateWord slot 0) 16 then 2
  else if s.marked slot 3 || (start && !s.marked slot 0) then 1
  else if s.flashFails (slotBase slot) (256 + 64 * min 64 k) then 2
  else if num h 0 4 ≠ 0x49415643 ∨ num h 4 2 ≠ 1 ∨ num h 6 2 ≠ 256 then 3
  else if !s.layoutOk slot then 4
  else if s.flashFails (slotBase slot + num h 16 4 - 4096) 4096 then 2
  else if num sig 0 4 ≠ 0x49415653 ∨ num sig 4 2 ≠ 96 ∨ !Config.ecdsaVerify signer head (slice sig 8 96) then 5
  else if num sig 6 2 ≠ 3309 ∨ !Config.mldsaVerify signer contextC head (slice sig 104 3309) then 6
  else if signer ≠ s.ownerHash then 7
  else if target.any (· ≠ 0) && target ≠ identityHash then 8
  else if num h 28 2 < s.keep.floor then 9
  else if num h 30 2 > Config.behaviourLevel.toNat ∨ num h 32 4 &&& (2 ^ 32 - 1 - s.part.caps.toNat % 2 ^ 32) ≠ 0 then 0xA
  else match l.findSome? (fun x =>
      if s.flashFails (slotBase slot + x.off) x.len then some 2
      else if sha (s.img slot x.off x.len) ≠ x.hash then some 0xB
      else if (x.typ = 0 || decide (x.typ > 8)) && bit x.sflags 15 then some 0xC else none) with
    | some r => r
    | none =>
      if !l.any (fun x => x.typ = 5) then 0xF
      else if !keys then 0xD
      else if !s.headerOk slot || !s.formsOk slot || !((loadTables s slot).run s.blank).tablesOk then 0xE
      else 0
where
  /-- The ASCII bytes "IAVC". -/
  contextC : List Byte := [0x49, 0x41, 0x56, 0x43]

/-- Unwraps the keys of a verified slot into the key store. -/
def loadKeys (s0 : State) (slot : Nat) : Act :=
  match s0.sectionOf slot 7 with
  | none => .skip
  | some b =>
      let got := (unwrap b).getD []
      Act.each ((List.range got.length).zip got) (fun g => Act.all [
        put (F.SIG_KEY_INFO_VALID g.1) 1,
        put (F.SIG_KEY_INFO_KEY_INDEX g.1) g.2.1.index,
        put (F.SIG_KEY_INFO_USAGE g.1) g.2.1.usage,
        put (F.SIG_KEY_INFO_TENANT g.1) g.2.1.tenant,
        .units (fun u => { u with keys := Sparse.set (fun _ => []) u.keys g.1 g.2.2 })])

/-- Order of the slots, and whether the first is fresh (R99). -/
def State.slotOrder (s : State) : Nat × Bool :=
  let cand := [0, 1].filter (fun t => s.marked t 0 && !s.marked t 3)
  let fresh := cand.filter (fun t => !s.marked t 1)
  let conf := cand.filter (fun t => s.marked t 2)
  let best := fun l : List Nat => l.foldl (fun a t => if s.imgNum t 8 8 > s.imgNum a 8 8 then t else a) (l.headD 0)
  if !fresh.isEmpty then (best fresh, true)
  else if !conf.isEmpty then (best conf, false)
  else (best cand, false)

/-- Reads the slots at start and loads the image that verifies (R97 to R101). -/
def loadImage : Act := .look fun s =>
  let o := s.slotOrder
  Act.seq (Act.when o.2 (mark o.1 1)) (.look fun s =>
    let first := s.verify true o.1
    let second := if first = 0 then 0 else s.verify true (1 - o.1)
    let run := if first = 0 then some o.1 else if second = 0 then some (1 - o.1) else none
    Act.all [
      put F.IMG_STATUS_REASON_FIRST first,
      put F.IMG_STATUS_REASON_SECOND second,
      put F.IMG_SECURITY_FLOOR s.keep.floor,
      put F.IMG_SECURITY_RAISES_USED s.keep.raises,
      match run with
      | none => put F.IMG_STATUS_STATE 3
      | some slot =>
        let flags := s.imgNum slot 22 2
        Act.all [
          loadTables s slot,
          loadKeys s slot,
          put F.IMG_STATUS_STATE 2,
          put F.IMG_STATUS_RUNNING_SLOT slot,
          put F.IMG_STATUS_FALLBACK (b2n (first ≠ 0)),
          put F.IMG_GENERATION_GENERATION (s.imgNum slot 8 8),
          put F.IMG_SECURITY_VERSION (s.imgNum slot 28 2),
          .units (fun u => { u with
            imgRaise := if flags.testBit 1 then some (s.imgNum slot 28 2) else none
            imgDeadline := if flags % 2 = 1 && !s.marked slot 2 then some (s.keep.elapsed + s.imgNum slot 24 4 * tickS) else none })],
      showSlots,
      Act.each [0, 1] showGeneration])

/-! ## Confirmation (R101 to R103) -/

/-- Confirms the running image, and raises the floor when it asks for that. -/
def confirmImage : Act := .look fun s =>
  let raise := match s.units.imgRaise with
    | some v => if v > s.keep.floor ∧ s.keep.raises < 64 then some v else none
    | none => none
  Act.all [
    mark (s.get F.IMG_STATUS_RUNNING_SLOT) 2,
    put F.IMG_STATUS_STATE 1,
    .units (fun u => { u with imgDeadline := none }),
    (match raise with
      | some v => Act.all [
          .keep (fun k => { k with floor := v, raises := k.raises + 1 }),
          put F.IMG_SECURITY_FLOOR v,
          put F.IMG_SECURITY_RAISES_USED (s.keep.raises + 1)]
      | none => .skip),
    showSlots]

/-- A write of IMG_CTRL confirms the running trial. -/
def State.confirms (s : State) (writer : Nat) (value : Word) : Bool :=
  writer = 0 && getBits value 0 0 = 1 && getBits value 31 16 = 0xA5C3 && s.get F.IMG_STATUS_STATE = 2

/-- IMG_CONFIRM (R101): ignored unless a trial runs and the writer is T0. -/
def imgConfirmAct (writer : Nat) (value : Word) : Act := .look fun s =>
  Act.when (s.up && s.confirms writer value) confirmImage

def execImgConfirm (writer : Nat) (value : Word) (s : State) : Host.Outcome State Fault Refusal :=
  .next ((adjusts writer F.IMG_CTRL_CONFIRM (imgConfirmAct writer value)).run s)

/-! ## Writing an image (R108 to R110) -/

/-- A slot is erased: neither WRITTEN nor RETIRED is marked. -/
def State.slotErased (s : State) (slot : Nat) : Bool := !s.marked slot 0 && !s.marked slot 3

/-- A command or page ends with a RESULT. -/
def imgDone (result : Nat) : Act := .seq (put F.IMG_WRITE_STATUS_RESULT result) (event F.IMG_WRITE_STATUS_DONE)

/-- Starts an operation, or refuses it (R109). -/
def imgStart (refusal : Nat) (op : ImgOp) : Act :=
  if refusal ≠ 0 then imgDone refusal
  else .seq (.units fun u => { u with imgOp := some op }) (put F.IMG_WRITE_STATUS_BUSY 1)

/-- A write of IMG_WRITE_CMD: erase 1, mark 2, retire 3. Erase and retire mark RETIRED as they start, so that one that a
reset aborts leaves no candidate (R108, R110). A Mark programs WRITTEN, so it too is refused on a slot not erased since its
last mark, unless RETIRED is marked, which its verification rejects (R108 to R110; log entry 116). -/
def imgCommand (writer : Nat) (value : Word) : Act := .look fun s =>
  let slot := getBits value 8 8
  let cmd := getBits value 3 1
  let refusal := if writer ≠ 0 || getBits value 31 16 ≠ 0xA5C3 then 0x15
    else if s.is F.IMG_WRITE_STATUS_BUSY then 0x13
    else if cmd = 0 || decide (cmd > 3) || s.runningSlot = some slot || (cmd = 2 && s.marked slot 0 && !s.marked slot 3) then 0x12
    else 0
  Act.when s.up (Act.all [
    Act.when (writer = 0) (.seq (put F.IMG_WRITE_CMD_SLOT slot) (put F.IMG_WRITE_CMD_CMD cmd)),
    Act.when (getBits value 0 0 = 1) (Act.all [
      imgStart refusal (if cmd = 1 then .erase slot else if cmd = 2 then .mark slot else .retire slot),
      Act.when (refusal = 0 && (cmd = 1 || cmd = 3)) (.seq (mark slot 3) showSlots)])])

/-- IMG_ERASE (R108): RETIRED is marked first. -/
def imgEraseAct (writer : Nat) (value : Word) : Act := Act.when (getBits value 3 1 = 1) (imgCommand writer value)

def execImgErase (writer : Nat) (value : Word) (s : State) : Host.Outcome State Fault Refusal :=
  .next ((adjusts writer F.IMG_WRITE_CMD_CMD (imgEraseAct writer value)).run s)

/-- IMG_MARK (R108). -/
def imgMarkAct (writer : Nat) (value : Word) : Act := Act.when (getBits value 3 1 = 2) (imgCommand writer value)

def execImgMark (writer : Nat) (value : Word) (s : State) : Host.Outcome State Fault Refusal :=
  .next ((adjusts writer F.IMG_WRITE_CMD_CMD (imgMarkAct writer value)).run s)

/-- IMG_RETIRE (R108): RETIRED is marked as it starts (R110; log entry 21). -/
def imgRetireAct (writer : Nat) (value : Word) : Act := Act.when (getBits value 3 1 = 3) (imgCommand writer value)

def execImgRetire (writer : Nat) (value : Word) (s : State) : Host.Outcome State Fault Refusal :=
  .next ((adjusts writer F.IMG_WRITE_CMD_CMD (imgRetireAct writer value)).run s)

/-- IMG_PAGE_WRITE (R108, R109): into the slot that IMG_WRITE_CMD.SLOT names. -/
def imgPageWriteAct (writer offset : Nat) (data : List Byte) : Act := .look fun s =>
  let slot := s.get F.IMG_WRITE_CMD_SLOT
  let refusal := if writer ≠ 0 then 0x15
    else if s.is F.IMG_WRITE_STATUS_BUSY then 0x13
    else if offset ≠ 0 || data.length ≠ 256 then 0x14
    else if s.runningSlot = some slot || !s.slotErased slot then 0x12 else 0
  Act.when s.up (imgStart refusal (.page slot (256 * s.get F.IMG_WRITE_OFFSET_PAGE) data))

def execImgPageWrite (writer offset : Nat) (data : List Byte) (s : State) : Host.Outcome State Fault Refusal :=
  .next ((Act.seq (Act.when (s.up && writer = 0) (count F.IMG_VOLATILE_WRITES_COUNT)) (imgPageWriteAct writer offset data)).run s)

/-- Erases the listed flash bytes of a range. -/
def eraseFlash (a n : Nat) : Act := .look fun s =>
  Act.each (s.flash.filter (fun e => decide (a ≤ e.1) && decide (e.1 < a + n))) (fun e => .flash e.1 0xFF)

/-- What an operation does to the flash when its programming succeeds, and its RESULT. -/
def finishImgOp (op : ImgOp) : Act := .look fun s =>
  match op with
  | .erase slot => Act.all [
      eraseFlash (slotBase slot) 0x04000000, eraseFlash (stateWord slot 0) 0x1000,
      .keep (fun k => { k with flashBad := k.flashBad.filter (fun b =>
        !(decide (slotBase slot ≤ b) && decide (b < slotBase slot + 0x04000000))
          && !(decide (stateWord slot 0 ≤ b) && decide (b < stateWord slot 0 + 0x1000))) }),
      imgDone 0]
  | .page slot off data => .seq
      (Act.each ((List.range data.length).zip data) (fun x =>
        .flash (slotBase slot + off + x.1) (x.2 &&& s.flashByte (slotBase slot + off + x.1))))
      (imgDone 0)
  | .mark slot =>
    let r := s.verify false slot
    .seq (showGeneration slot) (if r = 0 then .seq (mark slot 0) (imgDone 0) else imgDone r)
  | .retire slot => .seq (mark slot 3) (imgDone 0)

/-- IMG_OPERATION_DONE (R108). -/
def imgOperationDoneAct (flashOk : Bool) : Act := .look fun s =>
  match s.units.imgOp with
  | none => .skip
  | some op => Act.all [
      .units (fun u => { u with imgOp := none }),
      put F.IMG_WRITE_STATUS_BUSY 0,
      if flashOk then finishImgOp op else imgDone 0x11,
      showSlots]

def execImgOperationDone (flashOk : Bool) (s : State) : Host.Outcome State Fault Refusal :=
  .next ((imgOperationDoneAct flashOk).run s)

end Sys2Proof.Machine
end

