-- ==== Sys2Proof/Machine/Pulse.lean ====
section
/-! DEFINITION. Calibrations, scheduled pulses, pulse-per-second pins and frequency outputs (R401, R402, R423 to
R425). -/

namespace Sys2Proof.Machine

/-! ## Calibration (R402) -/

/-- A write of a TIM_ command register by T0; any other writer's is discarded (R429). -/
def timCommand (writer : Nat) (a : Act) : Act := if writer = 0 then a else writeLost F.TIM_STATUS_WRITE_LOST

/-- A field of TIM_CAL_CFG as a calibration took it at its start. -/
def Calibration.at (c : Calibration) (f : Field) : Nat := getBits c.cfg f.msb f.lsb

/-- Ends a calibration with a RESULT. -/
def endCalibration (c : Calibration) (result : Nat) : Act := Act.all [
  onTime (fun t => { t with calibration := none }),
  put F.TIM_CAL_STATUS_BUSY 0,
  put (F.EDG_STATUS_CAL_BUSY (c.at F.TIM_CAL_CFG_EDGE_STOP)) 0,
  put F.TIM_CAL_STATUS_RESULT result,
  event F.TIM_CAL_STATUS_DONE]

/-- RESULT at START. -/
def State.calibrationResult (s : State) (writer : Nat) (value : Word) : Nat :=
  let target := s.get F.TIM_CAL_CFG_TARGET
  let index := s.get F.TIM_CAL_CFG_INDEX
  if writer ≠ 0 || getBits value 31 16 ≠ 0xA5C3 then 1
  else if target = 3 || (target = 0 && decide (index > 7)) || (target = 1 && decide (index ≥ s.part.lanes))
      || s.get F.TIM_CAL_CFG_SAMPLES = 0 then 2
  else 0

/-- CALIBRATION_START (R402): a write of TIM_CAL_CTRL with START; one while a calibration runs is discarded. -/
def calibrationStartAct (writer : Nat) (value : Word) : Act := .look fun s =>
  let r := s.calibrationResult writer value
  if getBits value 0 0 = 0 then .skip
  else if s.is F.TIM_CAL_STATUS_BUSY then writeLost F.TIM_STATUS_WRITE_LOST
  else if r ≠ 0 then .seq (put F.TIM_CAL_STATUS_RESULT r) (event F.TIM_CAL_STATUS_DONE)
  else Act.all [
    put F.TIM_CAL_CTRL_APPLY (getBits value 1 1),
    put F.TIM_CAL_STATUS_BUSY 1,
    put (F.EDG_STATUS_CAL_BUSY (s.get F.TIM_CAL_CFG_EDGE_STOP)) 1,
    onTime (fun t => { t with calibration := some { since := s.keep.elapsed, cfg := s.rd F.TIM_CAL_CFG_TARGET.addr } })]

def execCalibrationStart (writer : Nat) (value : Word) (s : State) : Host.Outcome State Fault Refusal :=
  .next ((adjusts writer F.TIM_CAL_CTRL_APPLY (calibrationStartAct writer value)).run s)

/-- θ of an interval: less the cable's delay, within half a second of zero. -/
def Calibration.theta (c : Calibration) (interval : Nat) : Int :=
  let full : Int := (256 * tickS : Nat)
  let d := (interval : Int) - (c.at F.TIM_CAL_CFG_CABLE_DELAY_PS * 262144 / 1000 : Nat)
  (d + full / 2) % full - full / 2

/-- CALIBRATION_SAMPLE (R402): one a second. -/
def calibrationSampleAct (interval : Nat) : Act := .look fun s =>
  match s.units.time.calibration with
  | none => .skip
  | some c =>
    let fresh := match c.last with | some t => decide (s.units.d0 / tickS ≠ t) | none => true
    Act.when (s.is F.TIM_CAL_STATUS_BUSY && decide (c.samples.length < c.at F.TIM_CAL_CFG_SAMPLES) && fresh)
      (onTime fun t => { t with calibration := some { c with samples := c.theta interval :: c.samples, last := some (s.units.d0 / tickS) } })

def execCalibrationSample (interval : Nat) (s : State) : Host.Outcome State Fault Refusal :=
  .next ((calibrationSampleAct interval).run s)

/-- Integer square root, rounded down, by bits from `n` down. -/
def isqrtFrom : Nat → Nat → Nat → Nat
  | 0, _, r => r
  | n + 1, x, r => isqrtFrom n x (if (r + 2 ^ n) * (r + 2 ^ n) ≤ x then r + 2 ^ n else r)

/-- Integer square root of numbers below 2^128. -/
def isqrt (x : Nat) : Nat := isqrtFrom 64 x 0

/-- rms of the deviations from the mean. -/
def spread (l : List Int) : Nat := isqrt ((l.map (fun x => ((x - mean l) * (x - mean l)).toNat)).sum / max 1 l.length)

/-- A signed result in a field of `w` bits; the manual gives none outside its range, and the value is free. -/
def inRange (w : Nat) (v : Int) (k : Nat → Act) : Act :=
  if -(2 ^ (w - 1) : Nat) ≤ v ∧ v < (2 ^ (w - 1) : Nat) then k (enc w v) else .draw fun r => k (r.toNat % 2 ^ w)

/-- Applies θ to the asymmetry of a ring port or lane, or to the pulse trim (R402). -/
def applyTheta (c : Calibration) (θ : Int) : Act := .look fun s =>
  let i := c.at F.TIM_CAL_CFG_INDEX
  let asym := fun (base calibrated tCal channel : Field) (port : Nat) => inRange 32 (sgn 32 (s.get base) - θ) fun v => Act.all [
    put base v,
    put calibrated 1,
    (match s.temperature (s.get channel) with
      | some (_, t) => if s.get channel < 16 then put tCal (enc 16 t) else .skip
      | none => .skip),
    timeEvent 0x0C 0 (sgn 32 v) (s.domainTq 0) (s.tq 0) port,
    refreshTq]
  match c.at F.TIM_CAL_CFG_TARGET with
  | 0 => asym (F.TIM_PORT_ASYM_ASYM_BASE i) (F.TIM_PORT_CFG_CALIBRATED i) (F.TIM_PORT_CFG_T_CAL i) (F.TIM_PORT_CFG_ENV_CHANNEL i) i
  | 1 => .seq (asym (F.TIM_LANE_ASYM_ASYM_BASE i) (F.TIM_LANE_CFG_CALIBRATED i) (F.TIM_LANE_CFG_T_CAL i)
      (F.TIM_LANE_CFG_ENV_CHANNEL i) 255) (showLaneAsym i)
  | _ => inRange 16 (sgn 16 (s.get F.TIM_PPS_CFG_TRIM) - θ * 1000 / 262144) (put F.TIM_PPS_CFG_TRIM)

/-- CALIBRATION_DONE (R402): with every sample, or SAMPLES + 5 s after the start. -/
def calibrationDoneAct : Act := .look fun s =>
  match s.units.time.calibration with
  | none => .skip
  | some c =>
    let n := c.at F.TIM_CAL_CFG_SAMPLES
    let θ := mean c.samples
    let rms := spread c.samples
    if c.samples.length ≥ n then
      inRange 32 θ fun v => .seq (put F.TIM_CAL_RESULT_THETA v) (.seq (put F.TIM_CAL_RESULT_SPREAD (min rms (2 ^ 32 - 1)))
        (if rms * 1000 > 5 * 262144 then endCalibration c 3
         else .seq (Act.when (s.is F.TIM_CAL_CTRL_APPLY) (applyTheta c θ)) (endCalibration c 0)))
    else Act.when (s.passed c.since (n + 5)) (endCalibration c 4)

def execCalibrationDone (s : State) : Host.Outcome State Fault Refusal := .next (calibrationDoneAct.run s)

/-! ## Scheduled pulses (R424, R428) -/

/-- Sends a pulse on its utility pin, when the pin has the function. -/
def sendPulse (k : Nat) : Act := .look fun s =>
  .seq (utlPulse (12 + k) 5 (s.get (F.TIM_PULSE_SHAPE_WIDTH_NS k))) (event (F.TIM_PULSE_STATUS_FIRED k))

/-- Next edge of a pulse. -/
def State.pulseNext (s : State) (k : Nat) : Nat := Sparse.get (fun _ => 0) s.units.time.pulses k

def setPulseNext (k t : Nat) : Act := onTime fun x => { x with pulses := Sparse.set (fun _ => 0) x.pulses k t }

/-- PULSE_ARM (R424): a write of TIM_PULSE_CTRL with ARM. -/
def pulseArmAct (k writer : Nat) (value : Word) : Act := .look fun s =>
  let t := s.get (F.TIM_PULSE_TARGET_TARGET k)
  let period := s.get (F.TIM_PULSE_SHAPE_PERIOD_NS k) * tickNs
  Act.when (decide (k < 4) && s.up && getBits value 0 0 = 1) (timCommand writer
    (if dif t s.now ≥ (tickUs : Nat) then .seq (put (F.TIM_PULSE_STATUS_ARMED k) 1) (setPulseNext k t)
     else Act.all [
      event (F.TIM_PULSE_STATUS_LATE k),
      sendPulse k,
      (if period = 0 then put (F.TIM_PULSE_STATUS_ARMED k) 0
       else .seq (put (F.TIM_PULSE_STATUS_ARMED k) 1)
        (setPulseNext k (if dif t s.now > 0 then (t + period) % 2 ^ 64 else nextPeriod s.now t period)))]))

def execPulseArm (k writer : Nat) (value : Word) (s : State) : Host.Outcome State Fault Refusal :=
  .next ((adjusts writer (F.TIM_PULSE_CTRL_ARM k) (pulseArmAct k writer value)).run s)

/-- PULSE_FIRE (R424). -/
def pulseFireAct (k : Nat) : Act := .look fun s =>
  let period := s.get (F.TIM_PULSE_SHAPE_PERIOD_NS k) * tickNs
  Act.when (decide (k < 4) && s.is (F.TIM_PULSE_STATUS_ARMED k) && decide (dif s.now (s.pulseNext k) ≥ 0))
    (.seq (sendPulse k)
      (if period = 0 then put (F.TIM_PULSE_STATUS_ARMED k) 0 else setPulseNext k ((s.pulseNext k + period) % 2 ^ 64)))

def execPulseFire (k : Nat) (s : State) : Host.Outcome State Fault Refusal := .next ((pulseFireAct k).run s)

/-- PULSE_CANCEL (R424): a write of TIM_PULSE_CTRL with CANCEL; the pulse in progress ends as it would. -/
def pulseCancelAct (k writer : Nat) (value : Word) : Act :=
  Act.when (decide (k < 4) && getBits value 1 1 = 1) (timCommand writer (put (F.TIM_PULSE_STATUS_ARMED k) 0))

def execPulseCancel (k writer : Nat) (value : Word) (s : State) : Host.Outcome State Fault Refusal :=
  .next ((adjusts writer (F.TIM_PULSE_CTRL_CANCEL k) (pulseCancelAct k writer value)).run s)

/-! ## Pulse-per-second pins (R423) and frequency outputs (R425) -/

/-- PPS_OUTPUT (R423): at a second boundary of a domain, unless its TQ is 0x0. -/
def ppsOutputAct (dom : Nat) : Act := .look fun s =>
  let sec := (s.domainNow dom / (tickS : Nat)).toNat + 1
  Act.when (decide (dom < 4) && s.up && decide (Sparse.get (fun _ => 0) s.units.time.ppsOut dom ≠ sec))
    (.seq (onTime fun t => { t with ppsOut := Sparse.set (fun _ => 0) t.ppsOut dom sec })
      (Act.when (s.domainTq dom ≠ 0) (utlPulse (8 + dom) 4 (1000 * s.get F.TIM_PPS_CFG_WIDTH_US))))

def execPpsOutput (dom : Nat) (s : State) : Host.Outcome State Fault Refusal := .next ((ppsOutputAct dom).run s)

/-- FREQ is from 1 kHz to 650 MHz. -/
def foutOk (freq : Nat) : Bool := decide (65536000 ≤ freq) && decide (freq ≤ 650000000 * 65536)

/-- FOUT_APPLY (R425): at the next D0 second boundary the output starts, changes or stops. -/
def foutApplyAct (k : Nat) : Act := .look fun s =>
  let on := s.is (F.TIM_FOUT_CFG_ENABLE k)
  Act.when (decide (k < 4) && s.is (F.TIM_FOUT_STATUS_PENDING k)
      && decide (s.units.d0 / tickS ≥ Sparse.get (fun _ => 0) s.units.time.foutDue k)) (Act.all [
    commitWord (F.TIM_FOUT_CFG_ENABLE k).addr,
    put (F.TIM_FOUT_CTRL_COMMIT k) 0,
    put (F.TIM_FOUT_STATUS_PENDING k) 0,
    put (F.TIM_FOUT_STATUS_RESULT k) 0,
    put (F.TIM_FOUT_STATUS_ACTIVE k) (b2n on),
    .emit (.pin 3 k (if on then .high else .low) (if on then s.get (F.TIM_FOUT_CFG_FREQ k) else 0))])

def execFoutApply (k : Nat) (s : State) : Host.Outcome State Fault Refusal := .next ((foutApplyAct k).run s)

/-- FOUT_COMMIT (R425): a write of TIM_FOUT_CTRL with COMMIT. At the boundary
of a pending commit it counts as written after that (R577). -/
def foutCommitAct (k writer : Nat) (value : Word) : Act := .seq (Act.when (getBits value 0 0 = 1) (foutApplyAct k)) (.look fun s =>
  Act.when (decide (k < 4) && s.up && getBits value 0 0 = 1) (timCommand writer
    (if s.is (F.TIM_FOUT_STATUS_PENDING k) then writeLost F.TIM_STATUS_WRITE_LOST
     else if !foutOk (s.get (F.TIM_FOUT_CFG_FREQ k)) then put (F.TIM_FOUT_STATUS_RESULT k) 1
     else Act.all [
      put (F.TIM_FOUT_CTRL_COMMIT k) 1,
      put (F.TIM_FOUT_STATUS_PENDING k) 1,
      onTime (fun t => { t with foutDue := Sparse.set (fun _ => 0) t.foutDue k (s.units.d0 / tickS + 1) })])))

def execFoutCommit (k writer : Nat) (value : Word) (s : State) : Host.Outcome State Fault Refusal :=
  .next ((adjusts writer (F.TIM_FOUT_CTRL_COMMIT k) (foutCommitAct k writer value)).run s)

end Sys2Proof.Machine
end

