-- ==== Sys2Proof/Machine/Start.lean ====
section
/-! DEFINITION. Start, the resets of R60, and the entry into dormancy (R55 to R66, R101). -/

namespace Sys2Proof.Machine

/-! ## Local ready (R57) -/

/-- The code of a reset kind in a chronicle entry of KIND 0x03 (log entry 5). -/
def resetCode (kind : Nat) : Nat := (Config.resetKindCode kind).toNat

/-- First pool cell of every queue and the sum of their quotas (R228). -/
def placeQueues (s : State) : Act :=
  let q := List.range 4096
  let step := fun (a : Nat × List (Nat × Nat)) (i : Nat) => (a.1 + s.get (F.Q_QUOTA_CELL_QUOTA i), (i, a.1) :: a.2)
  let r := q.foldl step (0, [])
  .seq (Act.each r.2.reverse (fun e => put (F.Q_SEGMENT_BASE e.1) (e.2 % 2 ^ 20))) (put F.Q_POOL_STATUS_QUOTA_SUM r.1)

/-- A stream that the image enables starts as if committed now (R191). -/
def startStreams : Act := .look fun s =>
  let on := s.force.filterMap (fun e =>
    if 0x02800000 ≤ e.1 ∧ e.1 < 0x02900000 then
      match locate e.1 with | some (.STR_CFG, [st], 0) => (if s.liveIs (F.STR_CFG_ENABLED st) then some st else none) | _ => none
    else none)
  Act.each on (fun st => .seq (putForce (F.STR_CFG_ENABLED st) 0) (acceptCommit st))

/-- Lanes with a MODE begin in DARK (R147); a fenced device's all stand by (R156, R537). -/
def startLanes : Act := .look fun s =>
  if s.fenced then standLanes
  else Act.each ((List.range s.part.lanes).filter (fun l => let m := s.get (F.TLK_CFG_MODE l); m = 1 || m = 2))
    (fun l => moveLane l 1)

/-- Links that are enabled begin to train. -/
def startLinks : Act := .look fun s => .seq
  (Act.each ((List.range s.part.listenerPorts).filter (fun p => s.is (F.LSN_PORT_CFG_ENABLE p))) trainPort)
  (Act.each ((List.range 8).filter (fun r => s.linkMade (256 + r) && s.linkEnabled (256 + r))) (fun r =>
    .seq (put (linkState (256 + r)) 1) (onLink (256 + r) (fun x => { x with downSince := s.keep.elapsed }))))

/-- Geyser's intervals and programs start at the interval that holds the present (R253, R259). -/
def startGeyser : Act := .look fun s => Act.when (s.has 2) (
  let start := s.now / s.interval * s.interval
  Act.all [
    put F.GEY_OPEN_START start,
    Act.each (List.range 64) (fun p => onProg p (fun u => { u with next := start, tokenAt := s.keep.elapsed })),
    Act.each (List.range 64) (fun p => put (F.GEY_PROG_STATUS_TOKENS p) (num (s.liveProg p) 30 1)),
    Act.when (s.has 4) (put F.NBF_STATUS_RING_GIB (s.ringSegments / 512)),
    Act.when (s.has 4) (put F.NBF_CTRL_PIN_LIMIT_GIB (min (s.get F.NBF_CTRL_PIN_LIMIT_GIB) (s.ringSegments / 512 - 8)))])

/-- The frequency outputs that the image enables run from local ready: their staged words are in force then (R92, R425;
log entry 115). A frequency out of range is refused as a commit of it would be. -/
def startFouts : Act := .look fun s => Act.each ((List.range 4).filter (fun k => s.liveIs (F.TIM_FOUT_CFG_ENABLE k))) (fun k =>
  let freq := s.live (F.TIM_FOUT_CFG_FREQ k)
  if foutOk freq then .seq (put (F.TIM_FOUT_STATUS_ACTIVE k) 1) (.emit (.pin 3 k .high freq))
  else put (F.TIM_FOUT_STATUS_RESULT k) 1)

/-- The units of a configured device at local ready. -/
def startUnits : Act := Act.all [
  .look placeQueues,
  startStreams,
  startLanes,
  startGeyser,
  .look (fun s => Act.when (s.has 5) (put F.LKT_STATUS_STATE (if s.fenced then 7 else 1))),
  .look (fun s => Act.when (s.has 5 && !s.fenced) (onStore (fun x => { x with refclk := true }))),
  timeReady,
  startFouts,
  .look (fun s => Act.each ((List.range 2).filter (fun c => s.is (F.FBUS_CFG_ENABLE c))) (fun c =>
    .seq (onFb c (fun u => { u with mode := s.get (F.FBUS_CFG_MODE c) })) (setFbState c 1))),
  .look (fun s => Act.each (0 :: s.tenantList) (fun t => put (F.TEN_STATUS_STATE t) 1)),
  Act.each (List.range 4) applySlot]

/-- What the entropy source gives at each start: BOOT_ID, Clasp's nonce, and the upper halves of sequenceNo (R382,
R484, R525). -/
def drawNonces : Act := .draw fun boot => .draw fun a => .draw fun b => Act.all [
  put F.SUP_BOOT_ID_BOOT_ID boot.toNat,
  onClasp (fun x => { x with nonce := be 8 a.toNat ++ be 4 b.toNat }),
  Act.each (List.range 8) (fun r => .draw fun h => .units fun u => { u with
    ptpSeq := Sparse.set (fun _ => (0, 0)) u.ptpSeq r (h.toNat % 2 ^ 32, 0) })]

/-- Step 7: local ready, after `micros` (R57). -/
def localReady (micros : Nat) : Act := .seq loadImage (.look fun s =>
  let cause := (s.rd F.EMB_WAKE_CAUSE_COLD.addr).toNat
  Act.all [
    put F.PWR_STATUS_LOCAL_READY 1,
    put F.PWR_STATUS_STATE 1,
    put F.PWR_START_TIME_MICROSECONDS micros,
    put F.EMB_STATUS_STATE embActive,
    onEmber (fun e => { e with fails := 0, starting := false, watchdog := some s.keep.elapsed, stuck := false }),
    drawNonces,
    onSup (fun x => { x with readyAt := s.keep.elapsed, wakeCause := cause }),
    put F.SUP_CHRONICLE_NEWEST_SEQ s.keep.chronSeq,
    showOwner,
    settleRole,
    Act.when (s.unconfigured) (put (F.TEN_STATUS_STATE 0) 1),
    Act.when (!s.unconfigured) startUnits,
    raisePins,
    startLinks,
    chronicle 0x03 none 0 (be 1 (resetCode s.keep.ember.resetKind) ++ be 2 s.keep.ember.resetSender),
    chronicle 0x01 none 0 (be 4 cause ++ be 1 (s.get F.IMG_STATUS_RUNNING_SLOT) ++ be 8 (s.get F.IMG_GENERATION_GENERATION)
      ++ be 1 (s.get F.IMG_STATUS_REASON_FIRST) ++ be 1 (s.get F.IMG_STATUS_REASON_SECOND)),
    Act.when (!s.unconfigured && s.units.imgDeadline.isNone) confirmImage,
    .look (fun s => Act.when (s.get F.SUP_ROLE_STATUS_KIND = 2 && bits cause 15 8 ≠ 0) (put F.SUP_ROLE_STATUS_ASSIGN_WAIT 1)),
    .look (fun s => .units fun u => { u with ready := s.regs })])

/-- Runs the start sequence from step 2: to local ready, or into its timeout (R57, R59). A start longer than its bound is
taken never to reach step 4, so TRIED stays unmarked (R99): DESIGN CHOICE, log entry 126. -/
def beginStart (run : StartRun) : Act :=
  if run.micros ≤ 1000000 then localReady run.micros else onEmber (fun e => { e with starting := true })

/-- The core may start: Ember lets it, its supplies are valid and RST_N is high. -/
def State.coreMayStart (s : State) : Bool :=
  let e := s.keep.ember
  e.vaon && !e.rstLow && !e.held && s.mainsValid && (s.ember = embActive || s.ember = embWaking)

/-- A reset of the core by its row of R60 counted from 0, and the start that follows. -/
def resetInto (kind sender : Nat) (run : StartRun) : Act := Act.all [
  coreReset,
  onEmber (fun e => { e with resetKind := kind, resetSender := sender }),
  .look (fun s => Act.when s.coreMayStart (beginStart run))]

/-! ## Wake frames (R67, R68, R70, R74 to R76) -/

/-- Ember answers a match: it asks for the main rails, and where they never fell it releases the reset and the start runs
from its step 2 (R67). How long that start takes is open. -/
def wake : Act := Act.all [
  put F.EMB_STATUS_STATE embWaking,
  onEmber (fun e => { e.drives .high with wakeWait := false, stuck := false }),
  .win (fun w => { w with woke := true }),
  .look (fun s => Act.when s.coreMayStart (.draw fun w => beginStart { micros := w.toNat % 2 ^ 32 }))]

/-- Ember latches the causes of a match and asks for the main rails (R67, R68, R75), or notifies T0 in Active (R76).
Matches of one window set their bits together (R75). A match on the way into dormancy is latched, and Ember shows the
dormancy states until PWR_ON rises (R68; log entry 114). -/
def wakeMatch (svc : Bool) (slots : List Nat) : Act := .look fun s =>
  let latch := Act.each slots (eventBit (if svc then F.EMB_WAKE_CAUSE_SVC_SLOT else F.EMB_WAKE_CAUSE_PIN_SLOT))
  if slots.isEmpty then .skip
  else if s.win.woke then latch
  else if s.ember = embActive then
    .seq latch (.look fun s => Act.when s.up (notify 0 0x05 (s.rd F.EMB_WAKE_CAUSE_COLD.addr).toNat []))
  else if s.ember = embEntering then
    if s.keep.ember.stuck then .seq latch wake
    else .seq latch (onEmber (fun e => { e with wakeWait := true }))
  else if s.ember = embDormant || s.ember = embListening then
    if s.keep.ember.wakeWait then latch else .seq latch wake
  else .skip

/-- WAKE_FRAME (R69 to R71, R75, R76): each complete frame of the train is counted and compared; each abandoned one is
counted as an error. Ember hears nothing without VAON. -/
def wakeFrameAct (train : List (Nat × Nat)) : Act := .look fun s =>
  Act.when s.keep.ember.vaon (Act.each (decodeTrain train) (fun r => match r with
    | none => count F.EMB_WAKE_ERRORS_COUNT
    | some b => .seq (count F.EMB_WAKE_FRAMES_COUNT) (.look fun s => wakeMatch false (s.matching false b))))

def execWakeFrame (train : List (Nat × Nat)) (s : State) : Host.Outcome State Fault Refusal :=
  .next ((wakeFrameAct train).run s)

/-- SVC_WAKE_FRAME (R74 to R76): the first 32 bytes after the Ethertype stand for the frame. In Dormant the
receiver has no supply. -/
def svcWakeFrameAct (frame : List Byte) (fcsOk : Bool) : Act := .look fun s =>
  let client := frame.drop 14
  if !s.keep.ember.vaon || s.ember = embDormant then .skip
  else if !fcsOk then Act.when (s.ember = embListening) (count F.EMB_WAKE_ERRORS_COUNT)
  else if client.length < 32 then .skip
  else .seq (count F.EMB_WAKE_FRAMES_COUNT) (wakeMatch true (s.matching true (client.take 32)))

def execSvcWakeFrame (frame : List Byte) (fcsOk : Bool) (s : State) : Host.Outcome State Fault Refusal :=
  .next ((svcWakeFrameAct frame fcsOk).run s)

/-! ## Resets -/

/-- The supervisor's self-reset and the other device resets (R60). -/
def deviceReset (run : StartRun) : Act := resetInto 3 0 run

/-! ## Rows -/

/-- START (R55, R57): the last main supply becomes valid. -/
def startAct (run : StartRun) : Act := .look fun s =>
  Act.when (s.keep.ember.vaon && !s.up && !s.keep.ember.starting) (.seq
    (put F.PWR_STATUS_RAIL_OK (s.get F.PWR_STATUS_RAIL_OK / 64 * 64 + 63))
    (.look (fun s => Act.when s.coreMayStart (.seq coreReset (beginStart run)))))

def execStart (run : StartRun) (s : State) : Host.Outcome State Fault Refusal := .next ((startAct run).run s)

/-- START_TIMEOUT (R59): the start repeats; after the third failure in a row Ember holds the core. -/
def startTimeoutAct (run : StartRun) : Act := .look fun s =>
  let fails := s.keep.ember.fails + 1
  Act.when s.keep.ember.starting (Act.all [
    coreReset,
    onEmber (fun e => { e with fails := fails }),
    if fails ≥ 3 then .seq (event F.EMB_WAKE_CAUSE_START_FAIL) (onEmber (fun e => { e.drives .high with held := true }))
    else .look (fun s => Act.when s.coreMayStart (beginStart run))])

def execStartTimeout (run : StartRun) (s : State) : Host.Outcome State Fault Refusal := .next ((startTimeoutAct run).run s)

/-- A complete pin reset (R61): it ends a hold of R59. -/
def pinResetNow : Act := Act.all [
  coreReset,
  event F.EMB_WAKE_CAUSE_PIN_RESET,
  onEmber (fun e => { e with rstLow := true, held := false, fails := 0, resetKind := 2, resetSender := 0 })]

/-- PIN_RESET (R61): under 200 ns nothing, from 1 µs a reset; between them one or the other. -/
def pinResetAct (nanos : Nat) : Act := .look fun s => Act.when s.keep.ember.vaon (
  if nanos < 200 then .skip
  else if nanos ≥ 1000 then pinResetNow
  else .draw fun w => Act.when (w.toNat % 2 = 1) pinResetNow)

def execPinReset (nanos : Nat) (s : State) : Host.Outcome State Fault Refusal := .next ((pinResetAct nanos).run s)

/-- RST_N_RELEASE (R61): the start repeats from step 2. -/
def rstReleaseAct (run : StartRun) : Act := .look fun s => Act.when s.keep.ember.rstLow (.seq
  (onEmber (fun e => { e with rstLow := false }))
  (.look (fun s => Act.when (s.coreMayStart && !s.up) (beginStart run))))

def execRstRelease (run : StartRun) (s : State) : Host.Outcome State Fault Refusal := .next ((rstReleaseAct run).run s)

/-- A write of PWR_RESET by T0 with its key (R60). -/
def resetWrite (writer kind : Nat) (value : Word) : Bool :=
  writer = 0 && getBits value 31 16 = 0xA5C3 && getBits value 1 0 = kind

/-- DEVICE_RESET (R60). -/
def deviceResetAct (writer : Nat) (value : Word) (run : StartRun) : Act := .look fun s =>
  Act.when (s.up && resetWrite writer 1 value) (deviceReset run)

def execDeviceReset (writer : Nat) (value : Word) (run : StartRun) (s : State) : Host.Outcome State Fault Refusal :=
  .next ((adjusts writer F.PWR_RESET_KIND (deviceResetAct writer value run)).run s)

/-- FULL_RESET (R60): Ember takes its cold values too. -/
def fullResetAct (writer : Nat) (value : Word) (run : StartRun) : Act := .look fun s =>
  Act.when (s.up && resetWrite writer 2 value) (Act.all [
    releasePins,
    .resetAll,
    .units (fun _ => {}),
    put F.PWR_STATUS_RAIL_OK (s.get F.PWR_STATUS_RAIL_OK),
    onEmber (fun e => ({ vaon := e.vaon, rstLow := e.rstLow, resetKind := 4 } : Ember).drives .high),
    .look (fun s => Act.when s.coreMayStart (beginStart run))])

def execFullReset (writer : Nat) (value : Word) (run : StartRun) (s : State) : Host.Outcome State Fault Refusal :=
  .next ((adjusts writer F.PWR_RESET_KIND (fullResetAct writer value run)).run s)

/-- WATCHDOG_RESET (R63): 2.0 s ± 0.1 s after the last heartbeat. -/
def watchdogResetAct (run : StartRun) : Act := .look fun s =>
  match s.keep.ember.watchdog with
  | some t => Act.when (decide (s.keep.elapsed ≥ t + 1900 * tickMs)) (.seq (event F.EMB_WAKE_CAUSE_WATCHDOG) (resetInto 5 0 run))
  | none => .skip

def execWatchdogReset (run : StartRun) (s : State) : Host.Outcome State Fault Refusal := .next ((watchdogResetAct run).run s)

/-- Enters dormancy (R66, steps 1 to 4): the store closes, the entry is written, pending slot contents take effect, and
PWR_ON goes low. -/
def enterDormancy (mode : Nat) : Act := .look fun s => Act.all [
  .units (fun u => { u with silent := true }),
  put F.PWR_STATUS_STATE 2,
  closeStore,
  chronicle 0x02 none 0 [],
  applySlots,
  coreReset,
  put F.EMB_STATUS_STATE embEntering,
  onEmber (fun e => { e.drives .low with listening := mode = 1, lowAt := s.keep.elapsed, stuck := false, wakeWait := false })]

/-- DORMANCY_REQUEST (R66): a write of PWR_CTRL. A writer that is not T0 is told so (RESULT 3) before a wrong key is
(RESULT 2): DESIGN CHOICE, log entry 123. -/
def dormancyRequestAct (writer : Nat) (value : Word) : Act := .look fun s =>
  Act.when (s.up && s.hasRight writer F.PWR_CTRL_START.addr) (Act.all [
    put F.PWR_CTRL_MODE (getBits value 4 4),
    Act.when (getBits value 0 0 = 1) (
      if writer ≠ 0 then put F.PWR_CMD_STATUS_RESULT 3
      else if getBits value 31 16 ≠ 0xA5C3 then put F.PWR_CMD_STATUS_RESULT 2
      else enterDormancy (getBits value 4 4))])

def execDormancyRequest (writer : Nat) (value : Word) (s : State) : Host.Outcome State Fault Refusal :=
  .next ((adjusts writer F.PWR_CTRL_MODE (dormancyRequestAct writer value)).run s)

/-- A confirmation waits in this window, as its own row or in a register write however it comes (R102). -/
def State.confirmPending (s : State) : Bool :=
  s.pending.any (fun c => match c with | .imgConfirm w v => s.confirms w v | _ => false)
    || (s.asked ⟨F.IMG_CTRL_CONFIRM.addr, 31, 0⟩).any (fun x => s.confirms x.1 (BitVec.ofNat 64 x.2))

/-- CONFIRM_WINDOW_EXPIRY (R101): unless a confirmation of the same window takes effect (R102). -/
def confirmWindowExpiryAct (run : StartRun) : Act := .look fun s =>
  match s.units.imgDeadline with
  | some t => Act.when (s.get F.IMG_STATUS_STATE = 2 && decide (s.keep.elapsed ≥ t) && !s.confirmPending) (.seq
      (chronicle 0x06 none 0 (be 1 0x10 ++ be 8 (s.get F.IMG_GENERATION_GENERATION)))
      (deviceReset run))
  | none => .skip

def execConfirmWindowExpiry (run : StartRun) (s : State) : Host.Outcome State Fault Refusal :=
  .next ((confirmWindowExpiryAct run).run s)

/-- SPARE_DORMANCY_TIMER (R563): 1 s after local ready without a slot bit in the wake cause, 10 s with one. An assign
of the same window is taken first (R566). -/
def spareDormancyTimerAct : Act := .look fun s =>
  let taken := s.coming.any (fun c => match c with
    | .exchangeAssign r m => s.assignOk r m
    | _ => false)
  let waiting := s.is F.SUP_ROLE_STATUS_ASSIGN_WAIT
  let exchanged := (List.range 8).all (fun r => s.is (F.SUP_PEER_W0_EXCHANGED r) || s.topology.ringPeer.getD r 0xFFFF = 0xFFFF)
  let since := s.units.sup.readyAt
  if s.get F.SUP_ROLE_STATUS_KIND ≠ 2 || !s.up then .skip
  else if waiting then Act.when (decide (s.keep.elapsed ≥ since + 10 * tickS) && !taken) (enterDormancy (s.get F.PWR_CTRL_MODE))
  else Act.when ((bits s.units.sup.wakeCause 15 8 = 0 && exchanged) || decide (s.keep.elapsed ≥ since + tickS))
    (enterDormancy (s.get F.PWR_CTRL_MODE))

def execSpareDormancyTimer (s : State) : Host.Outcome State Fault Refusal := .next (spareDormancyTimerAct.run s)

end Sys2Proof.Machine
end

