-- ==== Sys2Proof/Machine/Tenants.lean ====
section
/-! DEFINITION. Tenant reset, memory errors and the supervisor's copies (R513 to R515, R521 to R523). -/

namespace Sys2Proof.Machine

/-! ## Tenant reset (R513, R514) -/

/-- The stream of a register whose value a stream commit applies. -/
def streamOf (a : Nat) : Option Nat :=
  match locate a with
  | some (.STR_CFG, is, _) | some (.STR_DEST, is, _) | some (.CAL_STREAM_CFG, is, _) | some (.CAL_STREAM_VENT, is, _) => is.head?
  | _ => none

/-- The streams of a tenant whose registers differ from their reset values, now or at local ready. -/
def State.setStreams (s : State) (t : Nat) : List Nat :=
  once (((s.regs ++ s.force ++ s.units.ready).filterMap (fun e => streamOf e.1)).filter (fun st => s.streamOwner st = t))

/-- Withdraws a pending commit of a stream and disables the stream from its T_APPLY on, as a commit would, leaving its
staged fields (R513, step 2; log entry 60). -/
def disableForReset (st : Nat) : Act := .look fun s =>
  let on := s.liveIs (F.STR_CFG_ENABLED st)
  let t := s.applyFrom st (s.live (F.STR_CFG_DOMAIN st)) (s.live (F.CAL_STREAM_CFG_STRATUM_K st))
  let stop := s.get (F.CAL_STREAM_APPLY_T_APPLY st)
  Act.all [
    Act.when (s.is (F.STR_STATUS_PENDING st)) (Act.all [
      put (F.STR_STATUS_PENDING st) 0,
      put (F.STR_CTRL_COMMIT st) 0,
      Act.when (!on) (.seq
        (countBy (F.STR_OVERLOAD_DROPPED_C st) (((s.cal st).lives.filter (fun l => l.start = stop && !l.began)).flatMap
          (fun l => l.strata.map (fun x => x.hot.length + x.near.length))).sum)
        (onCal st (fun c => { c with deferred := false, lives := c.lives.filter (fun l => !(l.start = stop && !l.began)) })))]),
    Act.when on (Act.all [
      put (F.CAL_STREAM_APPLY_T_APPLY st) t,
      put (F.STR_STATUS_PENDING st) 1,
      stopStream st t,
      onCal st (fun c => { c with byReset := true })])]

/-- TENANT_RESET (R513, steps 1 and 2). -/
def tenantResetAct (t writer : Nat) (value : Word) : Act := .look fun s =>
  let engines := (List.range 8).filter (fun e => (s.engine e).isSome && s.get (F.LKT_REPLAY_STATUS_OWNER e) = t)
  Act.when (s.resetAccepted t writer value) (Act.all [
    put (F.TEN_STATUS_STATE t) 2,
    onSup (fun x => { x with tenantResets := x.tenantResets ++ [(t, s.keep.elapsed)] }),
    logFault t 0x0A 4 0x0B t,
    Act.each engines (fun e => endEngine e 5),
    Act.each (s.setStreams t) disableForReset])

def execTenantReset (t writer : Nat) (value : Word) (s : State) : Host.Outcome State Fault Refusal :=
  .next ((adjusts writer (F.TEN_CTRL_RESET t) (tenantResetAct t writer value)).run s)

/-- Every stream of a tenant has emitted its last frame (R513, step 3). -/
def State.tenantDrained (s : State) (t : Nat) : Bool :=
  (s.setStreams t).all (fun st => s.streamIdle st && !s.is (F.STR_STATUS_PENDING st) && !s.liveIs (F.STR_CFG_ENABLED st))

/-- A tenant reset restores this register: rule words, shares and quotas stay (R513, R514). -/
def restored (r : Reg) : Bool :=
  match r with
  | .FLT_RULE | .FLT_RULE_ACTIVE | .FLT_TENANT_RULES | .FLT_TENANT_SCOPE | .CAL_TENANT_CFG | .CAL_TENANT_QUOTA => false
  | _ => true

/-- Restores the RW and STG fields of the register at an address to their values at local ready; a stream's values
wait for its commit. -/
def restoreWord (a : Nat) : Act := .look fun s =>
  match locate a with
  | some (r, is, 0) =>
    let v := Sparse.get resetWord s.units.ready a
    let fields := s.fieldsOf r is
    let staged := r.row.fields.any (fun f => f.acc = .stg)
    Act.when (restored r && r.row.fields.any FieldRow.writable) (.seq
      (.reg a (imageWord fields (s.rd a) v))
      (Act.when (staged && (streamOf a).isNone) (.inForce a (imageWord fields (s.rdForce a) v))))
  | _ => .skip

/-- Releases a tenant's tokens and locks (R513, step 3). -/
def releaseClasp (t : Nat) : Act := onClasp (fun x => { x with
  tokens := x.tokens.filter (fun k => k.tenant ≠ t)
  unsent := x.unsent.filter (fun e => !x.tokens.any (fun k => k.id = e.2 && k.tenant = t))
  lock := x.lock.filter (fun l => l.tenant ≠ t)
  farLocks := x.farLocks.filter (fun l => l.1 ≠ t) })

/-- TENANT_RESET_DRAINED (R513, steps 3 to 5). -/
def tenantResetDrainedAct (t : Nat) : Act := .look fun s =>
  let queues := Sparse.keys s.units.queues (fun q _ => s.queueOwner q = t)
  let words := once (((s.regs ++ s.force ++ s.units.ready).map (·.1)).filter (fun a => s.ownerOf a = t))
  let began := ((s.units.sup.tenantResets.find? (fun x => x.1 = t)).map (·.2)).getD s.keep.elapsed
  let programs := (List.range 64).filter (fun p => s.get (F.GEY_PROG_OWNER_TENANT p) = t && s.is (F.GEY_PROG_STATUS_PENDING p))
  Act.when (s.get (F.TEN_STATUS_STATE t) = 2 && s.tenantDrained t) (Act.all [
    Act.each queues startFlush,
    releaseClasp t,
    Act.each programs (fun p => .seq (put (F.GEY_PROG_STATUS_PENDING p) 0) (put (F.GEY_PROG_CTRL_COMMIT p) 0)),
    Act.each words restoreWord,
    Act.each (s.setStreams t) acceptCommit,
    onSup (fun x => { x with tenantResets := x.tenantResets.filter (fun y => y.1 ≠ t) }),
    put (F.TEN_RESET_TIME_MICROSECONDS t) ((s.keep.elapsed - began) / tickUs),
    put (F.TEN_STATUS_STATE t) 1,
    event (F.TEN_STATUS_RESET_DONE t),
    count (F.TEN_RESETS_C t),
    notify t 0x31 0 []])

def execTenantResetDrained (t : Nat) (s : State) : Host.Outcome State Fault Refusal :=
  .next ((tenantResetDrainedAct t).run s)

/-! ## Memory (R521) -/

/-- Places, in a list of copies packed from byte `off` on, that touch the 64-byte cell `cell`. -/
def inCell (cell : Nat) : Nat → List Copy → List Bool
  | _, [] => []
  | off, c :: l =>
    let next := off + copyBytes [c]
    (decide (off < 64 * cell + 64) && decide (64 * cell < next)) :: inCell cell next l

/-- Changes stratum `n` of a stream, counted through its lives. -/
def changeStratum (f : Stratum → Stratum) : Nat → List Life → List Life
  | _, [] => []
  | n, l :: rest =>
    if n < l.strata.length then { l with strata := l.strata.modify n f } :: rest
    else l :: changeStratum f (n - l.strata.length) rest

/-- Drops the copies of the cell in which copy `i` of a stratum begins: stratum `n` of the stream, its lives in order. -/
def hotFault (st n i : Nat) : Act := .look fun s =>
  match (s.cal st).strata[n]? with
  | none => .skip
  | some x => Act.when (decide (i < x.hot.length)) (
    let hit := inCell (copyBytes (x.hot.take i) / 64) 0 x.hot
    let kept := ((x.hot.zip hit).filter (fun e => !e.2)).map (·.1)
    Act.all [
      count F.SUP_ECC_UNCORRECTABLE_C,
      countBy (F.TEN_ECC_DROPPED_C (s.streamOwner st)) (x.hot.length - kept.length),
      logFault (s.streamOwner st) 0x03 1 0x0D st,
      onCal st (fun c => { c with lives := changeStratum (fun y => { y with hot := kept }) n c.lives })])

/-- Marks the item of a queue that lies `i` places behind the oldest. -/
def queueFault (q i : Nat) : Act := .look fun s =>
  Act.when (decide (i < (s.queue q).items.length)) (Act.all [
    count F.SUP_ECC_UNCORRECTABLE_C,
    onQueue q (fun u => { u with items := u.items.mapIdx (fun k e => if k = i then ({ e.1 with faulty := true }, e.2) else e) }),
    logFault (s.queueOwner q) 0x03 1 0x03 q])

/-- Marks the near-buffer record that lies `i` places behind the oldest. -/
def nearFault (i : Nat) : Act := .look fun s =>
  let total := (s.units.ring.map (fun g => g.records.length)).sum
  let mark := fun (acc : Nat × List Segment) (g : Segment) =>
    let n := g.records.length
    let rs := if acc.1 ≤ i ∧ i < acc.1 + n
      then g.records.mapIdx (fun k r => if acc.1 + k = i then { r with faulty := true } else r) else g.records
    (acc.1 + n, { g with records := rs } :: acc.2)
  Act.when (decide (i < total)) (Act.all [
    count F.SUP_ECC_UNCORRECTABLE_C,
    .units (fun u => { u with ring := (u.ring.reverse.foldl mark (0, [])).2 }),
    logFault 0 0x04 1 0x00 0])

/-- ECC_UNCORRECTABLE (R521), by its storage. -/
def eccUncorrectableAct (site : MemSite) : Act := .look fun s =>
  match site with
  | .hotStratum st n i => hotFault st n i
  | .queueItem q i => queueFault q i
  | .nearBuffer i => nearFault i
  | .rule active r => Act.when (decide (r < 4096) && s.has 0) (Act.all [
      count F.SUP_ECC_UNCORRECTABLE_C,
      .units (fun u => { u with badRules := (active, r) :: u.badRules.filter (· ≠ (active, r)) }),
      logFault (s.ruleOwner active r) 0x05 1 0x0C r])
  | .retention ring port n =>
    let p := if ring then 32 + port else port
    match (s.retainedOn p)[n]? with
    | some (e, r) => .seq (count F.SUP_ECC_UNCORRECTABLE_C) (divertRetained .retention p e [r])
    | none => .skip
  | .key e => .seq (Act.when (decide (e < 256) && s.is (F.SIG_KEY_INFO_VALID e)) (count F.SUP_ECC_UNCORRECTABLE_C)) (keyFaultAct e)
  | .flash a => .seq (count F.SUP_ECC_UNCORRECTABLE_C)
      (.keep fun k => { k with flashBad := a :: k.flashBad.filter (· ≠ a) })
  -- triplicated and voted at every read: one upset leaves no uncorrectable word
  | .register _ => .skip

def execEccUncorrectable (site : MemSite) (s : State) : Host.Outcome State Fault Refusal :=
  .next ((eccUncorrectableAct site).run s)

/-- CORRECTED_MEMORY_ERROR (R515, R521): code 0x02 is counted only. -/
def correctedMemoryErrorAct (_site : MemSite) : Act := count F.SUP_ECC_CORRECTED_C

def execCorrectedMemoryError (site : MemSite) (s : State) : Host.Outcome State Fault Refusal :=
  .next ((correctedMemoryErrorAct site).run s)

/-! ## The supervisor's copies (R522, R523) -/

/-- Runs a change of the supervisor's copies, with the pins that show it (R52, R450). -/
def withVote (a : Act) : Act := withUtl 28 (withIlk a)

/-- Copy `c` votes. -/
def State.voting (s : State) (c : Nat) : Bool := (s.get F.SUP_STATUS_COPIES).testBit c

/-- SUPERVISOR_MISMATCH (R522): the two other copies agree against one; a second time within 1 s of its reload it is
excluded. -/
def supervisorMismatchAct (c : Nat) : Act := .look fun s =>
  let u := s.units.sup
  let again := u.reloads.any (fun r => r.1 = c && decide (s.keep.elapsed ≤ r.2 + tickS))
  Act.when (decide (c < 3) && s.up && s.get F.SUP_STATUS_COPIES = 7 && u.outvoted.isEmpty && !u.voteFailed)
    (withVote (Act.all [
      onSup (fun x => { x with outvoted := [c] }),
      event F.SUP_STATUS_OUTVOTED,
      count F.SUP_OUTVOTES_C,
      Act.when again (.seq (put F.SUP_STATUS_COPIES (7 - 2 ^ c)) (event F.SUP_STATUS_COPY_FAILED)),
      logFault 0 0x0B 5 0x0A c]))

def execSupervisorMismatch (c : Nat) (s : State) : Host.Outcome State Fault Refusal := .next ((supervisorMismatchAct c).run s)

/-- SUPERVISOR_RESYNC (R522): an outvoted copy that still votes is loaded with the others' state. -/
def supervisorResyncAct : Act := .look fun s =>
  let back := s.units.sup.outvoted.filter s.voting
  Act.when (!back.isEmpty && !s.units.sup.voteFailed) (withVote (onSup (fun x => { x with
    outvoted := x.outvoted.filter (fun c => !back.contains c)
    reloads := back.map (fun c => (c, s.keep.elapsed)) ++ x.reloads.filter (fun r => !back.contains r.1) })))

def execSupervisorResync (s : State) : Host.Outcome State Fault Refusal := .next (supervisorResyncAct.run s)

/-- VOTE_FAILURE (R523): no voted output is left, and every heartbeat stops. -/
def voteFailureAct : Act := .look fun s => Act.when s.up (withVote (onSup (fun x => { x with voteFailed := true })))

def execVoteFailure (s : State) : Host.Outcome State Fault Refusal := .next (voteFailureAct.run s)

end Sys2Proof.Machine
end

