-- ==== Sys2Proof/Machine/Recovery.lean ====
section
/-! DEFINITION. Recovery: sentinels, unit resets, isolation and release, the remote reset word and readmission
(R518 to R520, R529 to R531, R539, R540). -/

namespace Sys2Proof.Machine

/-! ## Reset domains (R519) -/

/-- The part has the instance of a reset domain. -/
def State.hasDomain (s : State) (dom idx : Nat) : Bool :=
  match dom with
  | 1 => decide (idx < s.part.lanes)
  | 2 => decide (idx < 16)
  | 3 => decide (idx < 2176) && s.queuePresent idx
  | 4 => decide (idx < s.part.listenerPorts)
  | 5 => decide (idx < 8)
  | 6 => decide (idx < s.part.storePorts)
  | 7 | 9 => idx = 0
  | 8 => idx = 0 && s.has 2
  | _ => false

/-- The tenants other than T0 that own an instance in a domain (R515; log entry 61). -/
def State.domainTenants (s : State) (dom idx : Nat) : List Nat :=
  let endpoints := fun (p t : Nat) => (List.range 256).any (fun e =>
    s.liveIs (epF p e F.LSN_ENDPOINT_W0_VALID) && s.live (epF p e F.LSN_ENDPOINT_W0_OWNER) = t)
  s.tenantList.filter (fun t => match dom with
    | 2 | 7 => decide ((s.tenant t).streamCount ≠ 0)
    | 3 => s.queueOwner idx = t
    | 4 => endpoints idx t || (List.range 8).any (fun j => s.linkOwner (8 * idx + j) = t)
    | 5 => endpoints (32 + idx) t
    | 8 => (List.range 64).any (fun p => s.get (F.GEY_PROG_OWNER_TENANT p) = t)
    | _ => false)

/-- A link of a port reset goes down and trains again (R348, R519). -/
def retrain (l : Nat) : Act := .look fun s =>
  Act.when (s.linkMade l && s.linkEnabled l) (linkLost l 1 (s.linkIsUp l))

/-- The links of a listener port or ring port. -/
def linksOf (dom idx : Nat) : List Nat := if dom = 4 then (List.range 8).map (fun j => 8 * idx + j) else [256 + idx]

/-- Copies in a region's segmentation and Caldera stages; which region serves a stream the manual leaves open, so a
free value decides (log entry 62). -/
def regionReset (idx : Nat) : Act := .look fun s =>
  let streams := once (Sparse.keys s.units.seg (fun _ g => !g.copies.isEmpty) ++ Sparse.keys s.units.cal (fun _ c => !c.late.isEmpty))
  Act.each streams (fun st => .draw fun w => Act.when (w.toNat % 16 = idx) (.look fun s => Act.all [
    countBy (F.STR_OVERLOAD_DROPPED_C st) ((s.seg st).copies.length + (s.cal st).late.length),
    onSeg st (fun g => { g with copies := [] }),
    onCal st (fun c => { c with late := [] })]))

/-- Counts of the intervals still open are cleared (R254, R519). -/
def geyserReset : Act := .look fun s =>
  let first := s.get F.GEY_OPEN_START / s.interval
  .units fun u => { u with counts := u.counts.filter (fun e => decide (e.1 < first)) }

/-- Tokens and locks are released, and what is in progress is not answered. -/
def claspReset : Act := onClasp (fun x => { x with
  tokens := [], lock := none, farLocks := [], unsent := [], doubted := [], endToEnd := [] })

/-- The effect of a unit reset (R519). -/
def unitReset (dom idx : Nat) : Act :=
  match dom with
  | 1 => restartLane idx
  | 2 => regionReset idx
  | 3 => queueReset idx
  | 4 => Act.each (linksOf 4 idx) retrain
  | 5 => .seq (Act.each (linksOf 5 idx) retrain) (sourcePortLost idx)
  | 6 => storePortReset idx
  | 7 => signetReset
  | 8 => geyserReset
  | 9 => claspReset
  | _ => .skip

/-- Logs a code of a reset domain to T0 and to every tenant that owns an instance in it (R515). -/
def logDomain (code dom idx : Nat) : Act := .look fun s =>
  Act.each (0 :: s.domainTenants dom idx) (fun t => logFault t code 3 dom idx)

/-- The first free entry of SUP_ISOLATION. -/
def State.freeIsolation (s : State) : Option Nat := (List.range 64).find? (fun e => !s.is (F.SUP_ISOLATION_VALID e))

/-- Gives an instance up (R519, R520); a unit the device cannot run without takes a device reset. -/
def isolate (dom idx : Nat) (run : StartRun) : Act := .seq (logDomain 0x08 dom idx) (.look fun s =>
  match if dom = 2 ∨ 7 ≤ dom then none else s.freeIsolation with
  | none => deviceReset run
  | some e => Act.all [
    count F.SUP_ISOLATIONS_C,
    event F.SUP_STATUS_ISOLATED,
    (match dom with
      | 1 => .seq (moveLane idx 8) (put (F.TLK_EVENTS_ISOLATED idx) 1)
      | 4 | 5 => Act.each ((linksOf dom idx).filter (fun l => s.linkMade l && s.linkEnabled l))
          (fun l => linkLost l 3 (s.linkIsUp l))
      | 6 => removePort idx
      | _ => .skip),
    put (F.SUP_ISOLATION_DOMAIN e) dom,
    put (F.SUP_ISOLATION_INDEX e) idx,
    put (F.SUP_ISOLATION_VALID e) 1])

/-- A sentinel event of a ring of a domain (R518, R519, R540). -/
def sentinelEvent (dom idx ring : Nat) (run : StartRun) : Act := .look fun s =>
  let now := s.keep.elapsed
  let recent := s.units.sup.events.filter (fun e => decide (now ≤ e.2.2.2 + tickS))
  let mine := recent.filter (fun e => e.1 = dom && e.2.1 = idx && e.2.2.1 = ring)
  let third := decide (mine.length ≥ 2)
  let inProgress := s.units.sup.resets.contains (dom, idx, now)
  let resets := s.units.sup.resets.filter (fun e => decide (now ≤ e.2.2 + 10 * tickS))
  let before := (resets.filter (fun e => e.1 = dom && e.2.1 = idx)).length
  Act.when (s.up && s.hasDomain dom idx) (.seq (count F.SUP_SENTINEL_EVENTS_C) (
    if s.isolated dom idx then .skip
    else if !third || inProgress then onSup (fun x => { x with events := (dom, idx, ring, now) :: recent, resets := resets })
    else Act.all [
      onSup (fun x => { x with
        events := recent.filter (fun e => !(e.1 = dom && e.2.1 = idx))
        resets := (dom, idx, now) :: resets }),
      count F.SUP_UNIT_RESETS_C,
      logDomain 0x07 dom idx,
      unitReset dom idx,
      Act.when (decide (before ≥ 2)) (isolate dom idx run)]))

/-- SENTINEL_STALL (R518): the sentinel re-issues the missing acknowledge. -/
def sentinelStallAct (dom idx ring : Nat) (run : StartRun) : Act := sentinelEvent dom idx ring run

def execSentinelStall (dom idx ring : Nat) (run : StartRun) (s : State) : Host.Outcome State Fault Refusal :=
  .next ((sentinelStallAct dom idx ring run).run s)

/-- DUPLICATE_TOKEN (R518): the receiving stage discards it. -/
def duplicateTokenAct (dom idx ring : Nat) (run : StartRun) : Act := sentinelEvent dom idx ring run

def execDuplicateToken (dom idx ring : Nat) (run : StartRun) (s : State) : Host.Outcome State Fault Refusal :=
  .next ((duplicateTokenAct dom idx ring run).run s)

/-- ISOLATION_RELEASE (R520): the instance is reset, its counts are cleared, and it returns to service. -/
def isolationReleaseAct (e writer : Nat) (value : Word) : Act := .look fun s =>
  let dom := s.get (F.SUP_ISOLATION_DOMAIN e)
  let idx := s.get (F.SUP_ISOLATION_INDEX e)
  if 64 ≤ e || getBits value 62 62 = 0 then .skip
  else if writer ≠ 0 then writeLost F.SUP_STATUS_WRITE_LOST
  else Act.when (s.is (F.SUP_ISOLATION_VALID e)) (Act.all [
    put (F.SUP_ISOLATION_VALID e) 0,
    put (F.SUP_ISOLATION_DOMAIN e) 0,
    put (F.SUP_ISOLATION_INDEX e) 0,
    onSup (fun x => { x with
      events := x.events.filter (fun y => !(y.1 = dom && y.2.1 = idx))
      resets := x.resets.filter (fun y => !(y.1 = dom && y.2.1 = idx)) }),
    Act.when (dom = 1) (put (F.TLK_EVENTS_ISOLATED idx) 0),
    unitReset dom idx])

def execIsolationRelease (e writer : Nat) (value : Word) (s : State) : Host.Outcome State Fault Refusal :=
  .next ((adjusts writer (F.SUP_ISOLATION_RELEASE e) (isolationReleaseAct e writer value)).run s)

/-! ## Remote reset (R529 to R531) and readmission (R539) -/

/-- A fence notice of this window that fences the device (R540). -/
def State.fencePending (s : State) : Option (List Byte) := s.coming.findSome? (fun c => match c with
  | .fenceNoticeReceived r m => if s.ringUp r && s.noticeFences m then some m else none
  | _ => none)

/-- A remote reset word this device obeys (R531). -/
def State.resetWordOk (s : State) (msg : List Byte) : Bool :=
  msg.length = 48 && s.ringTag 4 (msg.take 32) = some (msg.drop 32) && num msg 2 2 % 16384 = s.device
    && num msg 4 4 = s.incarnation && num msg 8 8 = s.bootId

/-- RESET_WORD_RECEIVED (R531, R540): a notice of the same window fences the device first. -/
def resetWordReceivedAct (r : Nat) (msg : List Byte) (run : StartRun) : Act := .look fun s =>
  Act.when (decide (r < 8) && s.ringUp r) (
    if !s.resetWordOk msg then .seq (count F.SUP_RESET_WORDS_REFUSED_C)
      (Act.when (msg.length ≠ 48 || s.ringTag 4 (msg.take 32) ≠ some (msg.drop 32)) (count F.SIG_DEVICE_RING_TAG_FAIL_C))
    else .seq (match s.fencePending with | some m => enterFenced (slice m 1 27) | none => .skip)
      (resetInto 3 (num msg 16 2 % 16384) run))

def execResetWordReceived (r : Nat) (msg : List Byte) (run : StartRun) (s : State) : Host.Outcome State Fault Refusal :=
  .next ((resetWordReceivedAct r msg run).run s)

/-- A notice of this window that names this device at a later incarnation (R540). -/
def State.newFencePending (s : State) : Option (List Byte) := s.coming.findSome? (fun c => match c with
  | .fenceNoticeReceived r m =>
    if s.ringUp r && num m 2 2 % 16384 = s.device && decide (num m 4 4 > s.incarnation) && s.noticeOk m
      && s.noticeSigned m = some true then some m else none
  | _ => none)

/-- READMIT (R539, R540): a write of SUP_FENCE_CTRL by T0 with its key, while fenced. -/
def readmitAct (writer : Nat) (value : Word) (run : StartRun) : Act := .look fun s =>
  let role := s.get F.SUP_ROLE_ROLE_ID
  if getBits value 0 0 = 0 then .skip
  else if writer ≠ 0 then writeLost F.SUP_STATUS_WRITE_LOST
  else Act.when (s.fenced && getBits value 31 16 = 0xA5C3) (Act.all [
    writeRole 3 s.device role s.incarnation,
    chronicle 0x09 none 0 [],
    (match s.newFencePending with
      | some m => .seq (writeRole 2 s.device role (num m 4 4)) (chronicle 0x08 none 0 (slice m 1 27))
      | none => .skip),
    deviceReset run])

def execReadmit (writer : Nat) (value : Word) (run : StartRun) (s : State) : Host.Outcome State Fault Refusal :=
  .next ((adjusts writer F.SUP_FENCE_CTRL_READMIT (readmitAct writer value run)).run s)

end Sys2Proof.Machine
end

