-- ==== Sys2Proof/Machine/Regs.lean ====
section
/-! DEFINITION. Reads and writes of registers by software (R485 to R491 as far as they concern registers, R569 to R586):
what a read returns, what a write does field by field, the rights of tenants, WRITE_LOST, snapshots and data windows, and
the registers of DEV_. -/

namespace Sys2Proof.Machine

/-! ## What software reads (R569, R576) -/

/-- A number as a register word. -/
def word (v : Nat) : Word := BitVec.ofNat 64 v

/-- A register with a field as computed. -/
def shows (w : Word) (f : Field) (v : Nat) : Word := putBits w f.msb f.lsb v

/-- The freeze in a slot (R277). -/
def State.freezeAt (s : State) (slot : Nat) : Option Freeze := s.units.freezes.find? (fun f => f.slot = some slot)

/-- A word of NBF_FREEZE. -/
def State.freezeWord (s : State) (slot : Nat) (k : Freeze → Nat) : Word :=
  match s.freezeAt slot with | some f => word (k f) | none => 0

/-- Slot of the freeze that a freeze joined. -/
def State.joinedSlot (s : State) (f : Freeze) : Nat :=
  match f.joined with
  | some n => ((s.units.freezes.find? (fun x => x.id = n)).bind (·.slot)).getD 0
  | none => 0

/-- The present word of a register: what its fields read, save the captures of R576. Fields that follow other state of
the device are computed from it. -/
def State.view (s : State) (r : Reg) (is : List Nat) (a : Nat) : Word :=
  let w := s.rd a
  let i := is.headD 0
  let j := (is.drop 1).headD 0
  match r with
  | .DEV_ID => word ((match s.part with
      | .iav4810 => 0x4810 | .iav4610 => 0x4610 | .iav4410 => 0x4410 | .iav4010 => 0x4010) * 65536 + (1 + b2n s.stepB) * 4096)
  | .DEV_SERIAL => Config.serial
  | .DEV_CAPS => s.part.caps
  | .DEV_BEHAVIOUR_LEVEL => word Config.behaviourLevel.toNat
  | .DEV_ROLE => word (s.incarnation * 2 ^ 32 + s.get F.SUP_ROLE_STATUS_KIND * 2 ^ 29 + s.device)
  | .DEV_ROLE_ID => word (s.get F.SUP_ROLE_ROLE_ID)
  | .IMG_CONFIRM_LEFT => match s.units.imgDeadline with
    | some t => word ((t - s.keep.elapsed + tickS - 1) / tickS)
    | none => 0
  | .TLK_STATUS => shows w (F.TLK_STATUS_FENCED i) (b2n (s.fenced && s.get (F.TLK_STATUS_STATE i) = 7))
  | .UTL_STATUS => shows w (F.UTL_STATUS_LEVEL i) (b2n (s.utlLand i))
  | .CAL_DEVICE_WM => word s.deviceWm
  | .CAL_TENANT_STATUS => word (s.cellsInUse i * 2 ^ 32 + s.backlogCells i)
  | .CAL_STREAM_HOLDER => match (if (s.cal i).closing.isSome then s.holder i else none) with
    | some h => word h.1
    | none => 0xFFFFFFFF
  | .CAL_STREAM_HOLD => match (if (s.cal i).closing.isSome then s.holder i else none) with
    | some h => word h.2
    | none => 0
  | .GEY_CTRL => w &&& rowsMask (s.fieldsOf r is)
  | .GEY_GROUP_COUNT => word (s.groupCount (enc 64 ((s.get F.GEY_OPEN_START : Int) - ((j + 1) * s.interval : Nat))) i)
  | .NBF_FREEZE_W0 => s.freezeWord i (fun f => f.state * 2 ^ 60 + f.program * 2 ^ 54 + f.channel * 2 ^ 46 + f.rflags * 2 ^ 30
      + f.origin * 65536 + f.seq)
  | .NBF_FREEZE_W1 => s.freezeWord i (·.t)
  | .NBF_FREEZE_W2 => s.freezeWord i (·.start)
  | .NBF_FREEZE_W3 => s.freezeWord i (·.stop)
  | .NBF_FREEZE_W4 => s.freezeWord i (·.launch)
  | .NBF_FREEZE_W5 => s.freezeWord i (·.records)
  | .NBF_FREEZE_W6 => s.freezeWord i s.joinedSlot
  | .SIG_IDENTITY_HASH => word (num identityHash (8 * i) 8)
  | .TIM_TIME_SEC => word ((s.domainNow i / (tickS : Nat)).toNat % 2 ^ 48)
  | .TIM_PORT_STATUS =>
    shows (shows (shows w (F.TIM_PORT_STATUS_STATE_D0 i) (s.ptpState i 0)) (F.TIM_PORT_STATUS_STATE_D1 i) (s.ptpState i 1))
      (F.TIM_PORT_STATUS_SYNCE_LOCK i) (b2n (s.synceLock i))
  | .CLP_STATUS => shows (shows w F.CLP_STATUS_TOKENS
      (s.units.clasp.tokens.filter (fun k => !k.posted && k.watch.isNone)).length) F.CLP_STATUS_LOCKS_HELD
      (b2n s.units.clasp.lock.isSome + b2n (!s.units.clasp.farLocks.isEmpty))
  | .SUP_WATCH_W0 => shows w (F.SUP_WATCH_W0_INCARNATION i) (s.get (F.SUP_INCARNATION_INCARNATION (s.get (F.SUP_WATCH_W0_DEVICE i))))
  | .SUP_WATCH_W1 => word (Sparse.get (fun _ => ({} : HbPeer)) s.units.hb (s.get (F.SUP_WATCH_W0_DEVICE i))).stamp
  | _ => w

/-- Key of a tenant's capture of a register (R576). -/
def snapKey (reader a : Nat) : Nat := reader * 2 ^ 32 + a

/-- What a tenant reads in a register: of the shadow bank, while it is being copied, each word as it was or as copied
(R187). -/
def State.readWord (s : State) (reader : Nat) (r : Reg) (is : List Nat) (a : Nat) : Word :=
  match r with
  | .TIM_TIME_SEC | .TIM_TIME_FRAC | .TIM_TIME_TICKS | .EDG_START | .EDG_INTERVAL =>
    Sparse.get (fun _ => 0) s.units.snaps (snapKey reader a)
  | .FLT_RULE =>
    if s.is F.FLT_BANK_STATUS_COPYING && (Config.freeValue s.free).getLsbD (a / 8 % 64) then s.view r is (a + 0x00100000)
    else s.view r is a
  | _ => s.view r is a

/-- Holds a value as a tenant's capture of a register. -/
def hold (reader a v : Nat) : Act := .units fun u => { u with
  snaps := Sparse.set (fun _ => (0 : Word)) u.snaps (snapKey reader a) (word v) }

/-- A read of a SNAP register captures its snapshot for the reader (R420, R576). -/
def capture (reader : Nat) (r : Reg) (is : List Nat) : Act := .look fun s =>
  let i := is.headD 0
  match r with
  | .TIM_TIME_SEC =>
    let t := (s.domainNow i).toNat
    Act.all [
      hold reader (F.TIM_TIME_SEC_SECONDS i).addr (t / tickS % 2 ^ 48),
      hold reader (F.TIM_TIME_FRAC_SUBNS i).addr (t % tickS / tickNs * 2 ^ 32 + t % tickNs * 64 * 65536),
      hold reader (F.TIM_TIME_TICKS_TICKS i).addr (t % 2 ^ 64)]
  | .EDG_START => .seq (hold reader (F.EDG_START_STAMP i).addr (s.edge i).lastStart)
      (hold reader (F.EDG_INTERVAL_INTERVAL i).addr (s.edge i).lastInterval)
  | _ => .skip

/-! ## The address space (R488 to R491, R581, R586) -/

/-- The blocks of the address map: each from its base to the end of its last register or window. -/
def blocks : List (Nat × Nat) := [
  (0x0, 0x40), (0x10000, 0x10024), (0x10100, 0x102EC), (0x20000, 0x20060), (0x20100, 0x20200),
  (0x40000, 0x40080), (0x40100, 0x40418), (0x40500, 0x40608), (0x40700, 0x40770), (0x41000, 0x41788), (0x48000, 0x4C000),
  (0x80000, 0x80F60), (0x82000, 0x83004), (0x84000, 0x841E8), (0x85000, 0x85400),
  (0xC0000, 0xC0188), (0xC8000, 0xCC000), (0xD0000, 0xD0188), (0xD8000, 0xDC000),
  (0x100000, 0x1017F0), (0x104000, 0x106000), (0x108000, 0x108800), (0x110000, 0x110148),
  (0x200000, 0x202200), (0x203000, 0x203080), (0x204000, 0x204340), (0x208000, 0x218000), (0x1000000, 0x1400000),
  (0x2000000, 0x2040000), (0x2100000, 0x2308000), (0x2800000, 0x297FFE8),
  (0x3000000, 0x3001400), (0x3010000, 0x308FFF0), (0x3100000, 0x3280000),
  (0x4000000, 0x4001400), (0x4010000, 0x4050000), (0x4080000, 0x4088FE0), (0x4200000, 0x4200140), (0x4210000, 0x421FFF8),
  (0x5000000, 0x5000158), (0x5001000, 0x5001F70), (0x5002000, 0x50021E8), (0x5010000, 0x504FFFC), (0x5060000, 0x509FFF4),
  (0x50C0000, 0x5100000), (0x6000000, 0x61FC000), (0x6800000, 0x6820000), (0x7000000, 0x707C800), (0x8000000, 0x8100008),
  (0x9000000, 0x9000130), (0x9001000, 0x9001800), (0x9010000, 0x9011B88), (0x9020000, 0x90221F8), (0x9100000, 0x913FFF8),
  (0x9180000, 0x91C0000), (0xA000000, 0xA1F1400)]

/-- The address lies in a block (R586). -/
def inBlock (a : Nat) : Bool := blocks.any (fun b => decide (b.1 ≤ a) && decide (a < b.2))

/-- The data windows (R9). -/
inductive Window where
  | imgData | notify (queue : Nat) | chronicle | identity | owner
  deriving DecidableEq, Repr

/-- The window that holds a byte, and the byte's offset in it. -/
def windowAt (a : Nat) : Option (Window × Nat) :=
  if 0x20100 ≤ a ∧ a < 0x20200 then some (.imgData, a - 0x20100)
  else if 0x203040 ≤ a ∧ a < 0x203080 then some (.chronicle, a - 0x203040)
  else if 0x9010000 ≤ a ∧ a < 0x9011B88 then some (.identity, a - 0x9010000)
  else if 0x9020000 ≤ a ∧ a < 0x90221F8 then some (.owner, a - 0x9020000)
  else if 0x8000000 ≤ a ∧ a < 0x8100000 ∧ 0xE0 ≤ a % 0x100 then some (.notify ((a - 0x8000000) / 0x100), a % 0x100 - 0xE0)
  else none

/-- The registers an access touches, in increasing address: register, indices, base address. -/
def touched (a size : Nat) : List (Reg × List Nat × Nat) :=
  let places := if size < 4 then [a] else (List.range (size / 4)).map (fun k => a + 4 * k)
  let bases := places.filterMap (fun b => if (windowAt b).isSome then none else (locate b).map (fun x => b - x.2.2))
  (once bases).filterMap (fun b => (locate b).map (fun x => (x.1, x.2.1, b)))

/-- SIZE and alignment are right (R488). -/
def sizeOk (a size most : Nat) : Bool :=
  [1, 2, 4, 8, 16, 32, 64, 128, 256].contains size && decide (size ≤ most) && a % size = 0

/-- An access touches an absent register (R581). -/
def State.touchesAbsent (s : State) (a size : Nat) : Bool := (touched a size).any (fun x => !s.present x.1 x.2.1)

/-- The tenant may read a register: the notification queues and the fault logs are their tenants' (R245, R546). -/
def State.mayRead (reader : Nat) (r : Reg) (is : List Nat) : Bool :=
  let i := is.headD 0
  reader = 0 || (match r with
    | .Q_CFG | .Q_QUOTA | .Q_THRESHOLD | .Q_CTRL | .Q_STATUS | .Q_DEPTH | .Q_POINTERS | .Q_SEGMENT | .Q_COUNTER =>
      !(decide (2112 ≤ i) && decide (i < 2144)) || reader = i - 2112
    | .TEN_LOG => reader = i
    | _ => true)

/-- STATUS of a read of registers (R490, R491, R581): the first of 0x3, 0x5, 0x4 and 0x2. -/
def State.readStatus (s : State) (reader a size most : Nat) : Nat :=
  let windowOk := match windowAt a with
    | some (.notify q, _) => !(decide (2112 ≤ q) && decide (q < 2144)) || mayReadNotify reader q
    | _ => true
  if !sizeOk a size most then 3
  else if !inBlock a then 5
  else if !windowOk || (touched a size).any (fun x => !State.mayRead reader x.1 x.2.1) then 4
  else if s.touchesAbsent a size then 2
  else 0

/-- STATUS of a write of registers. -/
def State.writeStatus (s : State) (writer a size most : Nat) : Nat :=
  let windowOk := match windowAt a with
    | some (.imgData, _) => writer = 0
    | some _ => s.hasRight writer a
    | none => true
  if !sizeOk a size most then 3
  else if !inBlock a then 5
  else if !windowOk || (touched a size).any (fun x => !s.mayWrite writer x.2.2) then 4
  else if s.touchesAbsent a size then 2
  else 0

/-! ## Reading -/

/-- Byte `a` as a tenant reads it; gaps, reserved fields, absent registers and write-only windows read zero. -/
def State.readByte (s : State) (reader a : Nat) : Byte :=
  match windowAt a with
  | some (.notify q, o) => if mayReadNotify reader q then (s.notifyBytes q o 1).headD 0 else 0
  | some (.chronicle, o) => (s.chronRead reader).getD o 0
  | some (.identity, o) => identityByte o
  | some _ => 0
  | none => match locate a with
    | some (r, is, o) =>
      if s.present r is then
        BitVec.ofNat 8 ((s.readWord reader r is (a - o)).toNat >>> (8 * (r.row.bytes - 1 - o)))
      else 0
    | none => 0

/-- The bytes of an access (R489). -/
def State.readBytes (s : State) (reader a size : Nat) : List Byte := (List.range size).map (fun i => s.readByte reader (a + i))

/-- The queue whose Q_NOTIFY_DATA an access reads from its first byte on (R243); an access reaches one queue at most. -/
def notifyIn (a size : Nat) : Option Nat :=
  let b := a / 0x100 * 0x100 + 0xE0
  match windowAt b with
  | some (.notify q, _) => if a ≤ b ∧ b < a + size then some q else none
  | _ => none

/-- The effects of a read: captures, the pop of a notification (R243, R576), and a fresh free value for the next read of
a shadow bank that is being copied (R187). -/
def readEffects (reader a size : Nat) : Act := .look fun s => .seq
  (match notifyIn a size with
    | some q => Act.when (mayReadNotify reader q) (notifyPop q)
    | none => Act.when (s.is F.FLT_BANK_STATUS_COPYING && 0x02100000 ≤ a && decide (a < 0x02200000)) (.draw fun _ => .skip))
  (Act.each ((touched a size).filter (fun x => s.present x.1 x.2.1)) (fun x => capture reader x.1 x.2.1))

/-- A read with its effects: registers in increasing address, so those of a queue come before the pop of its window, and
captures before what they capture (R489). -/
def readAccess (reader a size : Nat) (k : List Byte → Act) : Act := .look fun s => .seq (readEffects reader a size) (.look fun t =>
  k ((List.range size).map (fun i =>
    if (notifyIn a size).isSome && decide ((a + i) % 0x100 < 0xE0) then s.readByte reader (a + i) else t.readByte reader (a + i))))

/-- SNAP_READ (R576): an 8-byte read of a SNAP register. -/
def snapReadAct (reader address : Nat) : Act := .look fun s =>
  match locate address with
  | some (r, is, 0) =>
    Act.when (s.up && s.present r is && r.row.fields.any (fun f => f.acc = .snap) && (s.tenant reader).enabled)
      (.seq (capture reader r is) (.look fun s => .emit (.readData reader (s.readBytes reader address 8))))
  | _ => .skip

def execSnapRead (reader address : Nat) (s : State) : Host.Outcome State Fault Refusal :=
  .next ((snapReadAct reader address).run s)

/-! ## DEV_ registers (R584, R585) -/

/-- PACE_LOW_CLEAR (R585): a write of DEV_CTRL by T0. -/
def paceLowClearAct (writer : Nat) (value : Word) : Act :=
  if getBits value 0 0 = 0 then .skip
  else if writer ≠ 0 then writeLost F.DEV_STATUS_WRITE_LOST
  else .seq (put F.DEV_PACE_LOW_PACE 0xFFFF) (put F.DEV_PACE_LOW_REGION 0)

def execPaceLowClear (writer : Nat) (value : Word) (s : State) : Host.Outcome State Fault Refusal :=
  .next ((adjusts writer F.DEV_CTRL_PACE_LOW_CLEAR (paceLowClearAct writer value)).run s)

/-! ## Writing -/

/-- The WRITE_LOST bit of the most specific instance that holds a register (R580); PWR_, EMB_, IMG_ and the streams of
LSN_ have none. -/
def lostField (a : Nat) (is : List Nat) : Option Field :=
  let i := is.headD 0
  let j := (is.drop 1).headD 0
  match regionOf a with
  | 0 => some F.DEV_STATUS_WRITE_LOST
  | 3 => some (if 0x41000 ≤ a ∧ a < 0x48000 then F.TIM_PORT_STATUS_WRITE_LOST i else F.TIM_STATUS_WRITE_LOST)
  | 4 => some (if a < 0x82000 then F.EDG_STATUS_WRITE_LOST i else if a < 0x84000 then F.ENV_SCAN_WRITE_LOST
      else if a < 0x85000 then F.ILK_FAULT_WRITE_LOST i else F.UTL_STATUS_WRITE_LOST i)
  | 5 => some (if a % 0x10000 ≥ 0x8000 then F.FBUS_OBJ_STATUS_WRITE_LOST i j else F.FBUS_STATUS_WRITE_LOST i)
  | 6 => some (if a < 0x110000 then F.CLP_STATUS_WRITE_LOST else F.SVC_STATUS_WRITE_LOST)
  | 7 => some (if 0x204000 ≤ a ∧ a < 0x208000 then F.SUP_ROLE_STATUS_WRITE_LOST else F.SUP_STATUS_WRITE_LOST)
  | 8 => some (F.TLK_EVENTS_WRITE_LOST i)
  | 9 => some (if a < 0x02800000 then F.FLT_BANK_STATUS_WRITE_LOST else F.STR_STATUS_WRITE_LOST i)
  | 10 => some (if a < 0x03010000 then F.CAL_STATUS_WRITE_LOST else F.CAL_STREAM_STATUS_WRITE_LOST i)
  | 11 => some (if a < 0x04080000 then F.GEY_STATUS_WRITE_LOST
      else if a < 0x04200000 then F.GEY_PROG_STATUS_WRITE_LOST i else F.NBF_STATUS_WRITE_LOST)
  | 12 => some (if 0x05001000 ≤ a ∧ a < 0x05002000 then F.LKT_PORT_STATUS_WRITE_LOST i else F.LKT_STATUS_WRITE_LOST)
  | 13 => if a ≥ 0x06800000 then none
    else some (if a % 0x10000 ≥ 0x8000 then F.LSN_ENDPOINT_STATUS_WRITE_LOST i j
      else if a % 0x10000 ≥ 0x1000 then F.LSN_LINK_STATUS_WRITE_LOST i j else F.LSN_PORT_STATUS_WRITE_LOST i)
  | 14 => some (if 0x8000 ≤ a % 0x10000 ∧ a % 0x10000 < 0xC000 then F.RNG_ENDPOINT_STATUS_WRITE_LOST i j
      else F.RNG_STATUS_WRITE_LOST i)
  | 15 => if a ≥ 0x08100000 then none else some (F.Q_STATUS_WRITE_LOST i)
  | 16 => some (if a ≥ 0x09100000 then F.SIG_STREAM_STATUS_WRITE_LOST i else F.SIG_STATUS_WRITE_LOST)
  | 17 => some (F.TEN_STATUS_WRITE_LOST i)
  | _ => none

/-- The owning chapter reserves the field to T0, or to a tenant other than the writer (R571). -/
def State.reserved (s : State) (writer : Nat) (r : Reg) (is : List Nat) (a : Nat) (f : FieldRow) : Bool :=
  let i := is.headD 0
  writer ≠ 0 && (match regionOf a with
    | 0 => r = .DEV_CTRL
    | 1 => r = .PWR_RESET
    | 3 => !(writer = s.get F.TIM_CTRL_D3_OWNER && i = 3
        && [Reg.TIM_SET_SEC, .TIM_SET_FRAC, .TIM_SET_CTRL, .TIM_SET_STATUS, .TIM_DOMAIN_RATE].contains r)
    | 4 => r = .UTL_CFG || (decide (0x84000 ≤ a) && decide (a < 0x85000))
    | 5 => r = .FBUS_TUNNEL
    | 6 => r ≠ .CLP_TENANT_CFG
    | 7 => true
    | 9 => [Reg.FLT_TENANT_RULES, .FLT_TENANT_SCOPE, .FLT_SOURCE_DEFAULT].contains r
    | 10 => [Reg.CAL_TENANT_CFG, .CAL_TENANT_QUOTA].contains r
    | 11 => r = .GEY_PROG_OWNER
    | 13 => r = .LSN_ENDPOINT_W0 && [63, 61, 60, 48].contains f.lsb
    | 14 => r = .RNG_RELAY || (r = .RNG_ENDPOINT_W0 && [63, 61, 60, 48].contains f.lsb)
    | 15 => !((r = .Q_THRESHOLD || r = .Q_CTRL) && mayCommandQueue i writer)
    | 16 => r ≠ .SIG_STREAM_CFG
    | _ => false)

/-- The field is frozen after local ready (R213, R228, R247, R277). -/
def frozenField (r : Reg) (f : FieldRow) : Bool :=
  match r with
  | .CAL_NB_REGION | .Q_QUOTA => true
  | .GEY_CTRL => f.lsb = 24 || f.lsb = 16
  | .NBF_CTRL => f.lsb = 24
  | _ => false

/-- Writes to the register are discarded now: a commit covers it and is pending (R577), or its chapter says so. -/
def State.locked (s : State) (r : Reg) (is : List Nat) : Bool :=
  let i := is.headD 0
  let j := (is.drop 1).headD 0
  match r with
  | .EMB_SLOT_WINDOW | .EMB_SLOT_CHECK | .EMB_SLOT_CTRL => s.is F.EMB_STATUS_COMMIT_PENDING
  | .STR_CFG | .STR_DEST | .CAL_STREAM_CFG | .CAL_STREAM_VENT | .CAL_STREAM_LANES => s.is (F.STR_STATUS_PENDING i)
  | .GEY_PROG => s.is (F.GEY_PROG_STATUS_PENDING i)
  | .LSN_ENDPOINT_W0 | .LSN_ENDPOINT_W1 | .LSN_ENDPOINT_W2 | .LSN_ENDPOINT_W3 | .LSN_ENDPOINT_W4 | .LSN_ENDPOINT_W5 =>
    s.is (F.LSN_ENDPOINT_CTRL_COMMIT i j)
  | .RNG_ENDPOINT_W0 | .RNG_ENDPOINT_W1 | .RNG_ENDPOINT_W2 | .RNG_ENDPOINT_W3 | .RNG_ENDPOINT_W4 | .RNG_ENDPOINT_W5 =>
    s.is (F.RNG_ENDPOINT_CTRL_COMMIT i j)
  | .TIM_SET_SEC | .TIM_SET_FRAC => s.is (F.TIM_SET_STATUS_PENDING i)
  | .TIM_FOUT_CFG => s.is (F.TIM_FOUT_STATUS_PENDING i)
  | .FBUS_NBT | .FBUS_DBT => s.is (F.FBUS_CFG_ENABLE i)
  | .FBUS_OBJ_DATA => !s.is (F.FBUS_OBJ_CFG_DIR i j)
  | _ => false

/-- The field of the write is discarded for what the written word would produce: PFC with preemption (R337), and a relay
entry without a ring target on a part without listener ports (R355). -/
def State.clashes (s : State) (r : Reg) (a : Nat) (m : Word) (f : FieldRow) : Bool :=
  match r with
  | .LSN_LINK_CFG => getBits m 27 27 = 1 && getBits m 30 30 = 1 && f.lsb = (if getBits (s.rd a) 27 27 = 0 then 20 else 30)
  | .RNG_RELAY => s.part = .iav4010 && getBits m 63 63 = 1 && getBits m 62 62 = 0
  | _ => false

/-- The RW fields of these registers are written by their command (R147, R240, R321, R405, R437, R450, R454, R464). -/
def commandWrites (r : Reg) : Bool :=
  [Reg.PWR_CTRL, .IMG_WRITE_CMD, .TLK_CFG, .TLK_TIMERS, .Q_CFG, .LKT_STREAM_CFG, .LKT_WINDOW_W0, .LSN_PORT_CFG, .TIM_CTRL,
    .EDG_CFG, .ILK_CFG, .UTL_CFG, .UTL_CTRL, .FBUS_CFG, .SUP_WAKE_CTRL].contains r

/-- The word of a register as the window found it, before any hardware update in it; fields that follow other state of the
device, as they stand (R580). -/
def State.found (s : State) (r : Reg) (is : List Nat) (a : Nat) : Word :=
  match s.win.base with
  | some b => Sparse.get resetWord b a ^^^ s.view r is a ^^^ s.rd a
  | none => s.view r is a

/-- What a write does to one field. -/
inductive FieldFate where
  | takes | clears | loads | ignored | lost
  deriving DecidableEq, Repr

/-- The fate of a field that the written bytes touch, when the register would be `m` (R569, R571, R577, R580). -/
def State.fate (s : State) (writer : Nat) (r : Reg) (is : List Nat) (a : Nat) (m : Word) (f : FieldRow) : FieldFate :=
  let kept := s.reserved writer r is a f
  match f.acc with
  | .ro | .wo | .rw1s => .ignored
  | .hwo | .snap => if getBits m f.msb f.lsb = getBits (s.found r is a) f.msb f.lsb then .ignored else .lost
  | .rw1c => if kept then (if getBits m f.msb f.lsb = 0 then .ignored else .lost) else .clears
  | .cnt => if kept then .lost else .loads
  | .rw | .stg => if commandWrites r then .ignored
      else if kept || frozenField r f || s.locked r is || s.clashes r a m f then .lost else .takes

/-- The word after the fields that take the write. -/
def State.taken (s : State) (writer : Nat) (r : Reg) (is : List Nat) (a : Nat) (m : Word) (w : Word) (f : FieldRow) : Word :=
  match s.fate writer r is a m f with
  | .takes => putBits w f.msb f.lsb (f.take (getBits m f.msb f.lsb))
  | .clears =>
    let set := bits (s.win.setMask a) f.msb f.lsb
    let one := getBits m f.msb f.lsb
    putBits w f.msb f.lsb ((getBits w f.msb f.lsb &&& (2 ^ (f.msb + 1 - f.lsb) - 1 - one)) ||| (set &&& one))
  | _ => w

/-- Loads a counter: increments of the same window are kept, and R575 is judged on them (R579). -/
def loadCounter (f : Field) (v : Nat) : Act := .look fun s =>
  let k := s.win.counted f.addr
  let new := (v + k) % 2 ^ f.width
  .seq (put f new) (Act.when (v.testBit (f.width - 1) != new.testBit (f.width - 1)) (notify (s.ownerOf f.addr) 0x02 f.addr []))

/-- The field rows of a register that a byte mask touches. -/
def State.writtenFields (s : State) (r : Reg) (is : List Nat) (mask : Word) : List FieldRow :=
  (s.fieldsOf r is).filter (fun f => decide (fieldMask f.msb f.lsb &&& mask ≠ 0))

/-- The word a write would produce: bits outside the written bytes keep what they read, save those that act by a 1
(R489). -/
def State.merged (s : State) (r : Reg) (is : List Nat) (a : Nat) (mask v : Word) : Word :=
  let acting := rowsMask (r.row.fields.filter (fun f => f.acc = .rw1c || f.acc = .rw1s || f.acc = .wo))
  (v &&& mask) ||| (s.view r is a &&& ~~~ mask &&& ~~~ acting)

/-- A write of fields (R569 to R580). -/
def writeFields (writer : Nat) (r : Reg) (is : List Nat) (a : Nat) (mask m : Word) : Act := .look fun s =>
  let l := s.writtenFields r is mask
  let fates := l.map (fun f => s.fate writer r is a m f)
  let w := l.foldl (s.taken writer r is a m) (s.rd a)
  Act.all [
    Act.when (r = .FBUS_OBJ_CFG || r = .FBUS_OBJ_MASK) (.win fun x => { x with
      old := if x.old.any (fun e => e.1 = a) then x.old else (a, (s.rd a).toNat) :: x.old }),
    .reg a w,
    Act.each (l.filter (fun f => s.fate writer r is a m f = .loads)) (fun f =>
      loadCounter ⟨a, f.msb, f.lsb⟩ (getBits m f.msb f.lsb)),
    Act.when (fates.contains .lost) (match lostField a is with | some f => writeLost f | none => .skip)]

/-- The enable of a ring port has changed. -/
def trainRing (r : Nat) : Act := .look fun s =>
  let l := 256 + r
  let on := s.linkMade l && s.linkEnabled l
  if on && s.get (linkState l) = 0 then .seq (put (linkState l) 1) (onLink l (fun x => { x with downSince := s.keep.elapsed }))
  else Act.when (!on && s.get (linkState l) ≠ 0) (linkLost l 0 (s.linkIsUp l))

/-- What follows a write of some plain registers at once; `old` is the word before it. -/
def afterWrite (r : Reg) (is : List Nat) (old : Word) : Act := .look fun s =>
  let i := is.headD 0
  let settle := fun a : Nat => Act.reg a (settleWord r (s.rd a))
  match r with
  | .TIM_LANE_ASYM => showLaneAsym i
  | .TIM_LANE_CFG => .seq (settle (F.TIM_LANE_CFG_ENV_CHANNEL i).addr) (showLaneAsym i)
  | .LSN_LINK_CFG => trainPort i
  | .RNG_CFG => trainRing i
  | .Q_THRESHOLD => settle (F.Q_THRESHOLD_LEVEL i).addr
  | .RNG_PFC => settle (F.RNG_PFC_XON_KIB i).addr
  | .RNG_RELAY => settle (F.RNG_RELAY_TARGET i ((is.drop 1).headD 0)).addr
  | .SIG_STREAM_CFG => settle (F.SIG_STREAM_CFG_CP_INTERVAL i).addr
  | .TIM_PTP_CFG => settle F.TIM_PTP_CFG_LOG_SYNC_INTERVAL.addr
  | .TIM_PULSE_SHAPE => settle (F.TIM_PULSE_SHAPE_WIDTH_NS i).addr
  | .EDG_OUT_SHAPE => settle (F.EDG_OUT_SHAPE_WIDTH_NS i).addr
  | .TIM_PORT_CFG => .seq (settle (F.TIM_PORT_CFG_ENV_CHANNEL i).addr) refreshTq
  | .TIM_HOLDOVER => refreshTq
  | .SUP_TIMERS => settle F.SUP_TIMERS_DEAD_MS.addr
  | .UTL_PARAM => put (F.UTL_PARAM_PARAM i) (clampParam (s.get (F.UTL_CFG_FUNCTION i)) (s.get (F.UTL_PARAM_PARAM i)))
  | .ENV_CFG | .ENV_COEF | .ENV_SCAN => restage
  | .SVC_CFG => Act.when (!s.is F.SVC_CFG_ENABLE || !s.is F.SVC_CFG_PLCA_EN) (put F.SVC_STATUS_PLCA_STATUS 0)
  | .CLP_WATCH_CFG => Act.when (s.is (F.CLP_WATCH_CFG_ENABLE i) && getBits old 63 63 = 0)
      (onClasp (fun c => { c with watches := Sparse.set (fun _ => ({} : WatchUnit)) c.watches i {} }))
  | _ => .skip

/-- The command of a register: what its RW1S bits, or a write of it, start. Of two bits set in one write the first named
in the arm acts first: FLT_COMMIT runs SWAP and then refuses COPY as busy, RESULT 5 (R185): DESIGN CHOICE, log entry
127. -/
def command (writer : Nat) (r : Reg) (is : List Nat) (m : Word) (run : StartRun) : Act :=
  let i := is.headD 0
  let j := (is.drop 1).headD 0
  match r with
  | .PWR_CTRL => dormancyRequestAct writer m
  | .PWR_RESET => .seq (deviceResetAct writer m run) (fullResetAct writer m run)
  | .EMB_CTRL => slotCommitAct writer m
  | .IMG_CTRL => imgConfirmAct writer m
  | .IMG_WRITE_CMD => imgCommand writer m
  | .TLK_CFG => tlkCfgWriteAct i writer m
  | .TLK_TIMERS => tlkTimersWriteAct i writer m
  | .TLK_CTRL => Act.all [restartAct i writer m, remeasureAct i writer m, rediscoverAct i writer m]
  | .TLK_CMD_CTRL => hostMessage i writer m
  | .FLT_COMMIT => .seq (swapAct writer m) (copyAct writer m)
  | .STR_CTRL => strCommitAct i writer m
  | .Q_CFG => queueDisableAct i writer m
  | .Q_CTRL => flushAct i writer m
  | .GEY_PROG_CTRL => .seq (progCommitAct i writer m) (softInputAct i writer m)
  | .LKT_CTRL => .seq (lktCompactAct writer m) (formatAct writer m)
  | .LKT_PORT_CTRL => adoptAct i writer m
  | .LKT_REPLAY_CTRL => .seq (replayStartAct i writer m) (replayAbortAct i writer m)
  | .LKT_STREAM_CFG => storeQuota i writer m
  | .LKT_WINDOW_W0 => lockWindow i (getBits m 61 61)
  | .LKT_WINDOW_CTRL => windowReleaseAct i writer m
  | .LSN_PORT_CFG => portEnableAct i writer m
  | .LSN_ENDPOINT_CTRL => endpointCommitAct i j writer m
  | .RNG_ENDPOINT_CTRL => endpointCommitAct (32 + i) j writer m
  | .SIG_OWNER_CMD => ownerPackageAct writer m true
  | .TIM_CTRL => timCtrlWrite writer m
  | .TIM_SET_CTRL => timSetCommitAct i writer m
  | .TIM_CAL_CTRL => calibrationStartAct writer m
  | .TIM_PULSE_CTRL => .seq (pulseArmAct i writer m) (pulseCancelAct i writer m)
  | .TIM_FOUT_CTRL => foutCommitAct i writer m
  | .EDG_CFG => edgCfgWriteAct i writer m
  | .EDG_CTRL => Act.all [edgArmAct i writer m, edgDisarmAct i writer m, outArmAct i writer m]
  | .ILK_CFG => ilkCfgWriteAct i writer m
  | .ILK_CTRL => ilkClearAct i writer m
  | .UTL_CFG => utlFunctionChangeAct i writer m
  | .UTL_CTRL => utlClearAct i writer m
  | .FBUS_CFG => fbusEnableAct i writer m
  | .FBUS_CTRL => .seq (fbusRecoverAct i writer m) (abdStartAct i writer m)
  | .FBUS_OBJ_CTRL => .seq (fbusRequestAct i j writer m) (fbusAbortAct i j writer m)
  | .SUP_FENCE_CTRL => readmitAct writer m run
  | .SUP_ISOLATION => isolationReleaseAct i writer m
  | .SUP_WAKE_CTRL => wakeSendAct writer m
  | .TEN_CTRL => tenantResetAct i writer m
  | .DEV_CTRL => paceLowClearAct writer m
  | _ => .skip

/-- An environment configuration whose KIND its channel does not have (R442). -/
def envRefused (r : Reg) (is : List Nat) (m : Word) : Bool := r = .ENV_CFG && !envKindOk (is.headD 0) m

/-- The registers that a filter commit or copy keeps from being written (R185). -/
def shadowReg (r : Reg) : Bool := [Reg.FLT_RULE, .FLT_TENANT_RULES, .FLT_TENANT_SCOPE, .FLT_SOURCE_DEFAULT].contains r

/-- An accepted write of some bytes of a present register. -/
def writeReg (writer : Nat) (x : Reg × List Nat × Nat) (mask v : Word) (run : StartRun) : Act := .look fun s =>
  let r := x.1
  let is := x.2.1
  let a := x.2.2
  let m := s.merged r is a mask v
  if regionOf a = 17 && !(s.tenant (is.headD 0)).enabled then .skip
  else if shadowReg r && s.bankBusy then event F.FLT_BANK_STATUS_REFUSED
  else if envRefused r is m then event (F.ENV_CFG_CFG_REFUSED (is.headD 0))
  else Act.all [writeFields writer r is a mask m, afterWrite r is (s.rd a), command writer r is m run]

/-- The bytes of a register, from `base` on and `n` of them, that an access from `a` on writes: their mask and their
bits. -/
def writtenBits (base n a : Nat) (data : List Byte) : Word × Word :=
  (List.range n).foldl (fun w j =>
    if a ≤ base + j ∧ base + j < a + data.length then
      let sh := 8 * (n - 1 - j)
      (w.1 ||| word (0xFF <<< sh), w.2 ||| word ((data.getD (base + j - a) 0).toNat <<< sh))
    else w) (0, 0)

/-- An accepted write of a data window (R9, R108, R364): which bytes of a package came by another way than the service port
is noted. -/
def writeWindow (writer : Nat) (w : Window) (offset : Nat) (data : List Byte) (viaService : Bool) : Act :=
  match w with
  | .imgData => imgPageWriteAct writer offset data
  | .owner => if writer ≠ 0 then writeLost F.SIG_STATUS_WRITE_LOST
    else
      let places := ((List.range data.length).map (offset + ·)).filter (fun i => decide (i < 8696))
      .units fun u => { u with
        ownerData := (places.zip data).foldl (fun d e => Sparse.set (fun _ => (0 : Byte)) d e.1 e.2) u.ownerData
        ownerFar := u.ownerFar.filter (fun i => !places.contains i) ++ (if viaService then [] else places) }
  | _ => .skip

/-- An accepted write: its registers in increasing address (R489). It is counted (R107), unless all it touches is absent
(R581). -/
def writeBytes (writer a : Nat) (data : List Byte) (run : StartRun) (viaService : Bool) : Act := .look fun s =>
  let there := (touched a data.length).filter (fun x => s.present x.1 x.2.1)
  .seq (Act.when ((windowAt a).isSome || !there.isEmpty) (count F.IMG_VOLATILE_WRITES_COUNT))
    (match windowAt a with
      | some (w, o) => writeWindow writer w o data viaService
      | none => Act.each there (fun x =>
          let b := writtenBits x.2.2 x.1.row.bytes a data
          writeReg writer x b.1 b.2 run))

/-- REGISTER_WRITE (R569): 1, 2, 4 or 8 bytes, when its tenant may write there; a tenant in reset may not (R513). -/
def registerWriteAct (writer a size : Nat) (value : Word) (run : StartRun) : Act := .look fun s =>
  let st := s.writeStatus writer a size 8
  Act.when (s.up && (st = 0 || st = 2) && s.get (F.TEN_STATUS_STATE writer) ≠ 2)
    (writeBytes writer a (be size value.toNat) run false)

def execRegisterWrite (writer a size : Nat) (value : Word) (run : StartRun) (s : State) : Host.Outcome State Fault Refusal :=
  .next ((registerWriteAct writer a size value run).run s)

end Sys2Proof.Machine
end

