-- ==== Sys2Proof/Machine/Clasp.lean ====
section
/-! DEFINITION. Executing a management transaction: its fields, replay windows, the near operations, locks, tokens, and
the sending of bridge transactions (R483 to R503). -/

namespace Sys2Proof.Machine

/-- Header of the answer to a message: STATUS and TOKEN. -/
def answerHeader (m : List Byte) (status token : Nat) : List Byte :=
  m.take 1 ++ be 1 (opOf m % 128 + 128) ++ slice m 2 1 ++ be 1 status ++ slice m 4 20 ++ be 4 token ++ slice m 28 4

/-- A message with another SOURCE_DEVICE and HOPS_LEFT. -/
def rerouted (source hops : Nat) (m : List Byte) : List Byte := m.take 6 ++ be 2 source ++ be 1 hops ++ m.drop 9

/-! ## Replay windows (R486) -/

/-- The window after a sequence number, when it accepts that: the greatest accepted, and the marks of the 64 below. -/
def windowTakes (w : Option (Nat × Nat)) (seq : Nat) : Option (Nat × Nat) :=
  match w with
  | none => some (seq, 0)
  | some (top, b) =>
    if seq > top then
      let d := seq - top
      some (seq, if d ≤ 64 then ((b <<< d) ||| 2 ^ (d - 1)) % 2 ^ 64 else 0)
    else if seq < top && decide (top - seq ≤ 64) && !b.testBit (top - seq - 1) then some (top, b ||| 2 ^ (top - seq - 1))
    else none

/-! ## Calls -/

/-- A transaction to be executed here: its SOURCE_DEVICE (this device for a host's), tenant and HOST, the operation with
its operands, and whether it came by the service port. -/
structure Call where
  source : Nat
  tenant : Nat
  host : Nat
  op : Nat
  size : Nat
  address : Nat
  data : List Byte
  service : Bool := false
  deriving DecidableEq, Repr

/-- The call a message makes. -/
def callOf (source host op : Nat) (m data : List Byte) (service : Bool) : Call :=
  { source := source, tenant := tenantOf m, host := host, op := op, size := sizeOf_ m, address := addressOf m
    data := data, service := service }

/-- The registers a device in the Unconfigured state serves (R100): DEV_, PWR_, EMB_, IMG_ and the chronicle. -/
def State.serves (s : State) (a : Nat) : Bool :=
  !s.unconfigured || decide (a < 0x40000) || (decide (0x203000 ≤ a) && decide (a < 0x203080))

/-- STATUS of a call that reads or writes registers. -/
def State.readable (s : State) (c : Call) (most : Nat) : Nat :=
  let st := s.readStatus c.tenant c.address c.size most
  if (st = 0 || st = 2) && !s.serves c.address then 4 else st

def State.writable (s : State) (c : Call) (most : Nat) : Nat :=
  let st := s.writeStatus c.tenant c.address c.size most
  if c.data.length ≠ c.size then 3 else if (st = 0 || st = 2) && !s.serves c.address then 4 else st

/-- Ticks for which a lock is held (R501). -/
def lockTicks : Nat := 50 * tickUs

/-- The lock is held, as others find it; in the window of its expiry it is not. -/
def State.lockHeld (s : State) : Bool := match s.units.clasp.lock with
  | some l => decide (s.keep.elapsed < l.since + lockTicks)
  | none => false

/-- The caller holds the lock; in the window of its expiry it still does (R503). -/
def State.holds (s : State) (c : Call) : Bool := match s.units.clasp.lock with
  | some l => l.source = c.source && l.tenant = c.tenant && l.host = c.host && decide (s.keep.elapsed ≤ l.since + lockTicks)
  | none => false

/-- Drops a lock whose time is over. -/
def dropLock : Act := .look fun s => Act.when (s.units.clasp.lock.isSome && !s.lockHeld)
  (.seq (onClasp (fun x => { x with lock := none })) (count F.CLP_DEVICE_LOCK_EXPIRED_C))

/-- The bytes of a WRITE_UNLOCK lie within the range of its LOCK_READ (R500). -/
def State.inLock (s : State) (c : Call) : Bool := match s.units.clasp.lock with
  | some l => decide (l.address ≤ c.address) && decide (c.address + c.size ≤ l.address + l.size)
  | none => false

/-- Executes a read and hands on its STATUS and bytes. -/
def readCall (c : Call) (most : Nat) (k : Nat → List Byte → Act) : Act := .look fun s =>
  let st := s.readable c most
  if st = 0 || st = 2 then readAccess c.tenant c.address c.size (k st)
  else k st (if st = 4 then zeros c.size else [])

/-- Executes a write and hands on its STATUS. -/
def writeCall (c : Call) (most : Nat) (run : StartRun) (k : Nat → List Byte → Act) : Act := .look fun s =>
  let st := s.writable c most
  .seq (Act.when (st = 0 || st = 2) (writeBytes c.tenant c.address c.data run c.service)) (k st [])

/-- The lock that a call is granted. -/
def Call.lockFrom (c : Call) (now : Nat) : MgmtLock :=
  { source := c.source, tenant := c.tenant, host := c.host, address := c.address, size := c.size, since := now }

/-- LOCK_READ here (R500): the lock is granted with the data. -/
def lockCall (c : Call) (k : Nat → List Byte → Act) : Act := readCall c 64 (fun st d => .seq
  (Act.when (st = 0 || st = 2) (.look fun s => onClasp (fun x => { x with lock := some (c.lockFrom s.keep.elapsed) })))
  (k st d))

/-- WRITE_UNLOCK here (R500): outside the range of the lock nothing is written, and the lock stays. -/
def unlockCall (c : Call) (run : StartRun) (k : Nat → List Byte → Act) : Act := .look fun s =>
  if !s.holds c then .seq dropLock (k 8 [])
  else if s.writable c 64 ≠ 0 && s.writable c 64 ≠ 2 then k (s.writable c 64) []
  else if !s.inLock c then k 3 []
  else .seq (onClasp (fun x => { x with lock := none })) (writeCall c 64 run k)

/-- UNLOCK here (R500). -/
def releaseCall (c : Call) (k : Nat → List Byte → Act) : Act := .look fun s =>
  if !s.holds c then .seq dropLock (k 8 []) else .seq (onClasp (fun x => { x with lock := none })) (k 0 [])

/-- TUNNEL_TX here (R504). -/
def tunnelCall (c : Call) (k : Nat → List Byte → Act) : Act := .look fun s =>
  if s.unconfigured then k 4 []
  else if s.tunnelTakes (c.address % 2) c.tenant c.data then .seq (tunnelQueue (c.address % 2) c.data) (k 0 []) else k 0xC []

/-- Executes a call on this device, and hands on its STATUS and data. `lower`: a request for the lock from a lower device
falls in the same window (R503). -/
def runCall (c : Call) (lower : Bool) (run : StartRun) (k : Nat → List Byte → Act) : Act := .look fun s =>
  if c.op ≠ 5 && c.op ≠ 6 && (s.lockHeld || (c.op = 4 && lower)) then k 7 []
  else match c.op with
    | 1 => readCall c 256 k
    | 2 | 3 => writeCall c 256 run k
    | 4 => .seq dropLock (lockCall c k)
    | 5 => unlockCall c run k
    | 6 => releaseCall c k
    | _ => tunnelCall c k

/-- STATUS with which a tenant's calls are turned away before they are looked at: not served (R487), or in reset, save
reads of its own TEN_ block (R513). -/
def State.turnedAway (s : State) (here : Bool) (t op a : Nat) : Option Nat :=
  if t ≠ 0 && (s.unconfigured || s.units.silent) then some 0xA
  else if s.get (F.TEN_STATUS_STATE t) = 2
      && !(here && op = 1 && decide (0xA000000 + 65536 * t ≤ a) && decide (a < 0xA000000 + 65536 * (t + 1))) then some 9
  else none

/-! ## Bridge messages (R496) -/

/-- Holds a nonce. -/
def holdNonce (i : Nat) (n : List Byte) : Act := onClasp (fun x => { x with nonces := Sparse.set (fun _ => ([] : List Byte)) x.nonces i n })

/-- The ring port that CLP_ROUTE names for a device, when the entry is valid and the port's link up. -/
def State.route (s : State) (d : Nat) : Option Nat :=
  let e := s.get (F.CLP_ROUTE_ENTRIES (d / 16)) / 2 ^ (4 * (d % 16)) % 16
  if e.testBit 3 && s.linkIsUp (256 + e % 8) then some (e % 8) else none

/-- Sends a message toward a device, or counts it lost. -/
def launch (d : Nat) (m : List Byte) : Act := .look fun s => match s.route d with
  | some r => sendBridge r m
  | none => count F.CLP_DEVICE_ROUTE_MISS_C

/-- Forwards a message toward a device with one hop less (R496). -/
def forward (d : Nat) (m : List Byte) : Act := .look fun s => match s.route d with
  | some r => if hopsOf m = 0 then count F.CLP_DEVICE_ROUTE_MISS_C
    else .seq (sendBridge r (rerouted (sourceOf m) (hopsOf m - 1) m)) (count F.CLP_DEVICE_RELAYED_C)
  | none => count F.CLP_DEVICE_ROUTE_MISS_C

/-- The next MSEQ of this device's bridge transactions: HOST 0xF. -/
def State.nextBridge (s : State) : Nat := 15 * 2 ^ 60 + s.units.clasp.bridgeSeq % 2 ^ 60

/-- Takes that MSEQ. -/
def takeBridge : Act := onClasp (fun x => { x with bridgeSeq := x.bridgeSeq + 1 })

/-- Sends a HELLO to a device. -/
def hello (d : Nat) : Act := .look fun s => .seq takeBridge
  (launch d (mgmtHeader 0 0 0 d s.device 16 0 0 0 s.nextBridge 0 0))

/-! ## Tokens (R495) -/

/-- A token. -/
def State.token (s : State) (id : Nat) : Option Token := s.units.clasp.tokens.find? (fun k => k.id = id)

/-- Changes a token. -/
def onToken (id : Nat) (f : Token → Token) : Act := onClasp (fun x => { x with
  tokens := x.tokens.map (fun k => if k.id = id then f k else k) })

/-- Releases a token. -/
def freeToken (id : Nat) : Act := onClasp (fun x => { x with
  tokens := x.tokens.filter (fun k => k.id ≠ id), unsent := x.unsent.filter (fun e => e.2 ≠ id) })

/-- A posted write has failed (R498, R499). -/
def postedFail (m : List Byte) (status : Nat) : Act :=
  let t := tenantOf m
  Act.all [
    put (F.CLP_TENANT_ERR_ADDRESS t) (addressOf m),
    put (F.CLP_TENANT_ERR_TARGET_DEVICE t) (targetOf m),
    put (F.CLP_TENANT_ERR_STATUS t) status,
    count (F.CLP_TENANT_POSTED_ERRORS_C t),
    notify t 0x10 (addressOf m) (be 2 (targetOf m) ++ be 1 status ++ be 1 (opOf m) ++ zeros 4 ++ be 8 (mseqOf m))]

/-! ## Watches (R505) -/

/-- A watch's unit. -/
def State.watch (s : State) (w : Nat) : WatchUnit := Sparse.get (fun _ => ({} : WatchUnit)) s.units.clasp.watches w

/-- Changes it. -/
def onWatch (w : Nat) (f : WatchUnit → WatchUnit) : Act := .look fun s =>
  let v := f (s.watch w)
  onClasp (fun x => { x with watches := Sparse.set (fun _ => ({} : WatchUnit)) x.watches w v })

/-- Bytes a watch reads. -/
def State.watchSize (s : State) (w : Nat) : Nat := if s.is (F.CLP_WATCH_CFG_WIDTH64 w) then 8 else 4

/-- A reading of a watch has come. -/
def watchResult (w : Nat) (m : List Byte) (status : Nat) (data : List Byte) : Act := .look fun s =>
  let t := s.get (F.CLP_WATCH_CFG_TENANT w)
  let n := s.watchSize w
  if !s.is (F.CLP_WATCH_CFG_ENABLE w) then .skip
  else if status ≠ 0 || data.length ≠ n then Act.all [
    event (F.CLP_WATCH_CFG_WATCH_FAULT w),
    Act.when (!(s.watch w).failed) (notify t 0x10 (addressOf m)
      (be 2 (targetOf m) ++ be 1 status ++ be 1 1 ++ zeros 4 ++ be 8 (mseqOf m))),
    onWatch w (fun u => { u with failed := true })]
  else
    let old := s.get (F.CLP_WATCH_LAST_VALUE w)
    let new := ofBe data &&& (s.get (F.CLP_WATCH_MASK_MASK w) % 2 ^ (8 * n))
    Act.all [
      Act.when ((s.watch w).primed && old ≠ new) (notify t 0x11 (addressOf m)
        (be 2 (targetOf m) ++ zeros 6 ++ be 8 old ++ be 8 new)),
      put (F.CLP_WATCH_LAST_VALUE w) new,
      onWatch w (fun u => { u with primed := true, failed := false })]

/-! ## Far operations (R494 to R498, R501, R502) -/

/-- A far operation has ended: its answer is held for the host, or taken up by whoever has no host. -/
def complete (id status token : Nat) (data : List Byte) : Act := .look fun s => match s.token id with
  | none => .skip
  | some k => .seq (Act.when (status = 6) (count F.CLP_DEVICE_FAR_ERRORS_C)) (match k.watch with
    | some w => .seq (freeToken id) (watchResult w k.request status data)
    | none => if k.posted then .seq (freeToken id) (Act.when (status ≠ 0) (postedFail k.request status))
      else onToken id (fun k => { k with answer := some (status, token, data, s.keep.elapsed) }))

/-- OP of the bridge transaction that carries a request: a posted write goes as a write (R498). -/
def bridgeOp (op : Nat) : Nat := if op = 3 then 2 else op

/-- Sends the bridge transaction of a token. -/
def bridgeSend (id : Nat) : Act := .look fun s => match s.token id with
  | none => .skip
  | some k =>
    let m := k.request
    let d := targetOf m
    let h := mgmtHeader (bridgeOp (opOf m)) (tenantOf m) 0 d s.device 16 0 (sizeOf_ m) (addressOf m) s.nextBridge 0 (num m 28 4)
    match s.bridgeKey labelMbq (s.targetNonce d) s.units.clasp.nonce with
    | none => complete id 6 0 []
    | some key => Act.all [
        takeBridge,
        onToken id (fun k => { k with bridge := (match k.bridge with
          | some (_, _, t) => some (s.nextBridge, d, t) | none => some (s.nextBridge, d, s.keep.elapsed)) }),
        launch d (sealMgmt key (bridgeIv h) h (m.drop 32))]

/-- Begins the bridge transaction of a token: the target's nonce is learned first when none is held. -/
def bridgeStart (id : Nat) : Act := .look fun s => match s.token id with
  | none => .skip
  | some k =>
    let d := targetOf k.request
    if (s.route d).isNone then .seq (count F.CLP_DEVICE_ROUTE_MISS_C) (complete id 6 0 [])
    else if s.targetNonce d = [] then Act.all [
      onToken id (fun k => { k with bridge := some (0, d, s.keep.elapsed) }),
      onClasp (fun x => { x with unsent := x.unsent ++ [(d, id)] }),
      hello d]
    else bridgeSend id

/-- Tokens that hosts hold. -/
def State.hostTokens (s : State) : List Token := s.units.clasp.tokens.filter (fun k => !k.posted && k.watch.isNone)

/-- A token is free for a tenant. -/
def State.tokenFree (s : State) (t : Nat) : Bool :=
  decide (s.hostTokens.length < 256) && decide ((s.hostTokens.filter (fun k => k.tenant = t)).length < 16)

/-- Number of the next token: never zero. -/
def State.newToken (s : State) : Nat := s.units.clasp.nextToken

/-- A token for a request: header and plaintext data. -/
def tokenFor (id : Nat) (m data : List Byte) (posted : Bool) (watch : Option Nat) : Token :=
  { id := id, tenant := tenantOf m, host := hostOf m, request := m.take 32 ++ data, posted := posted, watch := watch }

/-- Takes it. -/
def takeToken (m data : List Byte) (posted : Bool) (watch : Option Nat) : Act := onClasp (fun x => { x with
  tokens := x.tokens ++ [tokenFor x.nextToken m data posted watch],
  nextToken := x.nextToken % (2 ^ 32 - 1) + 1 })

/-- A far lock is held or requested for a host (R501). -/
def State.farBusy (s : State) : Bool := !s.units.clasp.farLocks.isEmpty ||
  s.units.clasp.tokens.any (fun k => opOf k.request = 4 && targetOf k.request ≠ s.device && k.answer.isNone)

/-- This device's bridge holds the lock here for a host and waits for a far lock of that host (R502). -/
def State.waits (s : State) : Bool := match s.units.clasp.lock with
  | some l => l.source = s.device && s.units.clasp.tokens.any (fun k => opOf k.request = 4 && k.tenant = l.tenant
      && k.host = l.host && targetOf k.request ≠ s.device && k.answer.isNone)
  | none => false

end Sys2Proof.Machine
end

