-- ==== Sys2Proof/Machine/Hosts.lean ====
section
/-! DEFINITION. A host's management transaction: authentication, replay, near and far execution, its answer (R484 to
R501). -/

namespace Sys2Proof.Machine

/-- The replay window of a tenant and HOST, after a request's sequence (R486). -/
def State.hostWindow (s : State) (m : List Byte) : Option (Nat × Nat) :=
  windowTakes (Sparse.get (fun _ => none) s.units.clasp.seen (tenantOf m * 16 + hostOf m)) (mseqOf m % 2 ^ 60)

/-- The replay window of a source device and tenant, after a request's sequence. -/
def State.bridgeWindow (s : State) (m : List Byte) : Option (Nat × Nat) :=
  windowTakes (Sparse.get (fun _ => none) s.units.clasp.bridgeSeen (sourceOf m * 32 + tenantOf m)) (mseqOf m % 2 ^ 60)

/-- The lock would be granted to a LOCK_READ, were it free. -/
def State.lockable (s : State) (c : Call) : Bool :=
  (s.readable c 64 = 0 || s.readable c 64 = 2) && (s.turnedAway true c.tenant 4 c.address).isNone

/-- A command asks for this device's lock: its SOURCE_DEVICE. -/
def State.lockWanted (s : State) (i : Instr) : Option Nat :=
  match i with
  | .mgmtLockRead o m =>
    if isMgmt m && opOf m = 4 && !endToEnd m && !bridged o m && targetOf m = s.device && (s.hostOpen o m).isSome
        && (s.hostWindow m).isSome && s.lockable (callOf s.device (hostOf m) 4 m [] false) then some s.device else none
  | .bridgeRequest o m _ =>
    if isMgmt m && opOf m = 4 && !endToEnd m && bridged o m && targetOf m = s.device && (s.bridgeOpen m).isSome
        && (s.bridgeWindow m).isSome && s.lockable (callOf (sourceOf m) 15 4 m [] false) then some (sourceOf m) else none
  | _ => none

/-- A lower device asks for the lock in the same window (R503). -/
def State.lowerAsks (s : State) (source : Nat) : Bool :=
  s.coming.any (fun i => (s.lockWanted i).any (fun d => decide (d < source)))

/-- Sends the answer to a request; an end-to-end answer on a ring port goes to its SOURCE_DEVICE (R497). -/
def answerTo (o : Origin) (m key : List Byte) (status token : Nat) (data : List Byte) : Act :=
  let h := answerHeader m status token
  sendMgmt o (sealMgmt key (hostIv m) (if endToEnd m && onRing o then rerouted (sourceOf m) 16 h else h) data)

/-- Answers a host's request: retries are counted, a failed posted write is recorded (R498), and `silent` ones are not
answered. -/
def finish (o : Origin) (m key : List Byte) (silent : Bool) (status token : Nat) (data : List Byte) : Act :=
  Act.all [
    Act.when (status = 1) (count F.CLP_DEVICE_RETRIES_ISSUED_C),
    Act.when (opOf m = 3 && decide (status ≥ 2)) (postedFail m status),
    Act.when (!silent) (.look fun s => Act.when s.units.clasp.busy (answerTo o m key status token data))]

/-- An access outside a tenant's rights is counted (R491). -/
def denied (t status : Nat) : Act := Act.when (status = 4) (count (F.CLP_TENANT_DENIED_C t))

/-- The request repeats that of a token (R495). -/
def Token.repeats (k : Token) (m : List Byte) : Bool :=
  k.tenant = tenantOf m && k.host = hostOf m && !k.posted && k.watch.isNone && opOf k.request = opOf m
    && targetOf k.request = targetOf m && sizeOf_ k.request = sizeOf_ m && addressOf k.request = addressOf m

/-- A request with a TOKEN: its result, once there is one (R495). A far-side error of a posted write is a status, and not
recorded (R498). -/
def repeatCall (o : Origin) (m key : List Byte) : Act := .look fun s =>
  let answer := answerTo o m key
  match (s.token (tokenOf m)).filter (fun k => k.repeats m) with
  | none => .seq (count F.CLP_DEVICE_TOKEN_UNKNOWN_C) (answer 0xE 0 [])
  | some k => match k.answer with
    | none => .seq (count F.CLP_DEVICE_RETRIES_ISSUED_C) (answer 1 k.id [])
    | some (st, tok, d, _) => .seq (freeToken k.id) (answer st (if st = 0xD then tok else k.id) d)

/-- The far targets of this device itself (R494). -/
def farHere (a : Nat) : Bool :=
  (decide (0xC8000 ≤ a) && decide (a < 0xCC000)) || (decide (0xD8000 ≤ a) && decide (a < 0xDC000))
    || (decide (0x5010000 ≤ a) && decide (a < 0x6000000))

/-- Carries out a far operation: this device's own at once, a peer's by a bridge transaction. -/
def carry (here : Bool) (c : Call) (id : Nat) (run : StartRun) : Act := .look fun s =>
  if here then runCall c (s.lowerAsks c.source) run (fun st d => .seq (denied c.tenant st) (complete id st 0 d))
  else bridgeStart id

/-- A request that names a far target (R495, R498, R501). -/
def farCall (o : Origin) (m key : List Byte) (here : Bool) (c : Call) (run : StartRun) : Act := .look fun s =>
  let op := opOf m
  let id := s.newToken
  let quiet := op = 3 && s.is (F.CLP_TENANT_CFG_ERR_MODE c.tenant)
  if decide (op ≤ 5) && (!sizeOk c.address c.size (if op ≥ 4 then 64 else 256)
      || ([2, 3, 5].contains op && c.data.length ≠ c.size)) then finish o m key quiet 3 0 []
  else if quiet then .seq (takeToken m c.data true none) (carry here c id run)
  else if !s.tokenFree c.tenant then finish o m key false 9 0 []
  else if op = 4 && !here && s.farBusy then finish o m key false 7 0 []
  else Act.all [takeToken m c.data false none, finish o m key false 1 id [], carry here c id run]

/-- Executes an accepted request; `here`: this device is its target. -/
def hostServe (o : Origin) (m key data : List Byte) (here : Bool) (run : StartRun) : Act := .look fun s =>
  let t := tenantOf m
  let op := opOf m
  let c := callOf s.device (hostOf m) op m data (o.link = 512)
  match s.turnedAway here t op c.address with
  | some st => finish o m key false st 0 []
  | none =>
    if op = 0 || decide (op ≥ 8) then finish o m key false 0xB 0 []
    else if tokenOf m ≠ 0 then repeatCall o m key
    else if !here || ([1, 2, 3, 4].contains op && farHere c.address) then farCall o m key here c run
    else runCall c (s.lowerAsks c.source) run (fun st d => .seq (denied t st) (finish o m key (op = 3) st 0 d))

/-- A host's request (R486). An unconfigured device takes management on the ring only end to end (R497). -/
def hostOne (o : Origin) (m : List Byte) (run : StartRun) : Act := .look fun s =>
  let t := tenantOf m
  if !(s.up && isMgmt m && (endToEnd m || !(s.unconfigured && onRing o))) then .skip
  else match s.hostOpen o m, s.hostKey labelMgr t with
    | some data, some key => match s.hostWindow m with
      | none => count F.CLP_DEVICE_REPLAY_C
      | some w => Act.all [
          onClasp (fun x => { x with
            seen := Sparse.set (fun _ => none) x.seen (t * 16 + hostOf m) (some w)
            homes := Sparse.set (fun _ => none) x.homes t (some o)
            busy := true }),
          count F.CLP_DEVICE_TRANSACTIONS_C,
          count (F.CLP_TENANT_TRANSACTIONS_C t),
          hostServe o m key data (endToEnd m || targetOf m = s.device) run,
          onClasp (fun x => { x with busy := false })]
    | _, _ => count F.CLP_DEVICE_AUTH_FAIL_C

/-- A HELLO is answered to anyone (R484). -/
def hostHello (o : Origin) (m : List Byte) : Act := .look fun s =>
  let h := answerHeader m 0 0
  Act.when (s.up && isMgmt m && opOf m = 0 && (endToEnd m || !(s.unconfigured && onRing o)))
    (sendMgmt o ((if endToEnd m && onRing o then rerouted (sourceOf m) 16 h else h)
      ++ s.units.clasp.nonce ++ be 4 s.incarnation))

end Sys2Proof.Machine
end

