-- ==== Sys2Proof/Machine/Bridge.lean ====
section
/-! DEFINITION. The rows of Clasp: hosts' transactions in their order, bridge requests and responses, END_TO_END
messages, timeouts, locks and watches (R482 to R505). -/

namespace Sys2Proof.Machine

/-! ## The target of a bridge transaction (R496) -/

/-- TOKEN of an answer 0x07: the lock is held by the bridge of the device in it, which itself waits for a lock (R502). -/
def State.waitToken (s : State) : Nat := if s.waits then 2 ^ 31 + s.device else 0

/-- Answers a bridge request. -/
def bridgeAnswer (m : List Byte) (key : Option (List Byte)) (status token : Nat) (data : List Byte) : Act :=
  match key with
  | some k => .look fun s => Act.when s.units.clasp.busy
      (launch (sourceOf m) (sealMgmt k (bridgeIv m) (rerouted (sourceOf m) 16 (answerHeader m status token)) data))
  | none => .skip

/-- Executes an accepted bridge request. -/
def bridgeServe (m data : List Byte) (run : StartRun) : Act := .look fun s =>
  let t := tenantOf m
  let op := opOf m
  let key := s.bridgeKey labelMbr s.units.clasp.nonce (s.entryNonce (sourceOf m))
  match s.turnedAway true t op (addressOf m) with
  | some st => bridgeAnswer m key st 0 []
  | none =>
    if op = 0 || decide (op ≥ 8) then bridgeAnswer m key 0xB 0 []
    else runCall (callOf (sourceOf m) 15 op m data false) (s.lowerAsks (sourceOf m)) run (fun st d =>
      .seq (denied t st) (bridgeAnswer m key st (if st = 7 then s.waitToken else 0) d))

/-- An authentic bridge request for this device. -/
def bridgeTake (m data : List Byte) (run : StartRun) : Act := .look fun s =>
  let t := tenantOf m
  match s.bridgeWindow m with
  | none => count F.CLP_DEVICE_REPLAY_C
  | some w => Act.all [
      onClasp (fun x => { x with
        bridgeSeen := Sparse.set (fun _ => none) x.bridgeSeen (sourceOf m * 32 + t) (some w)
        busy := true }),
      count F.CLP_DEVICE_TRANSACTIONS_C,
      count (F.CLP_TENANT_TRANSACTIONS_C t),
      bridgeServe m data run,
      onClasp (fun x => { x with busy := false })]

/-- Bridge requests of a device that wait for its nonce. -/
def State.doubts (s : State) (d : Nat) : List (Origin × List Byte) := Sparse.get (fun _ => []) s.units.clasp.doubted d

/-- Replaces them. -/
def setDoubts (d : Nat) (l : List (Origin × List Byte)) : Act := onClasp (fun x => { x with
  doubted := Sparse.set (fun _ => ([] : List (Origin × List Byte))) x.doubted d l })

/-- A bridge request for this device: one that fails its TAG waits for the nonce of a HELLO. -/
def bridgeOne (o : Origin) (m : List Byte) (run : StartRun) : Act := .look fun s =>
  let d := sourceOf m
  if opOf m = 0 then
    launch d (rerouted d 16 (answerHeader m 0 0) ++ s.units.clasp.nonce ++ be 4 s.incarnation)
  else if !(s.tenant (tenantOf m)).enabled then count F.CLP_DEVICE_AUTH_FAIL_C
  else match s.bridgeOpen m with
    | some data => bridgeTake m data run
    | none => .seq (setDoubts d (s.doubts d ++ [(o, m)])) (hello d)

/-! ## The order of a window (R492) -/

/-- TENANT, HOST and sequence of a message, as one number. -/
def orderOf (host : Nat) (m : List Byte) : Nat := (tenantOf m * 16 + host) * 2 ^ 60 + mseqOf m % 2 ^ 60

/-- The transaction of a host on this device that a command brings, when it is of the command's row. -/
def hostRow (op : Nat) (o : Origin) (m : List Byte) : Bool :=
  isMgmt m && opOf m = op && !endToEnd m && !bridged o m

/-- A bridge request for this device. -/
def State.bridgeRow (s : State) (o : Origin) (m : List Byte) : Bool :=
  isMgmt m && decide (opOf m < 128) && !endToEnd m && bridged o m && targetOf m = s.device && s.up && !s.unconfigured

/-- The run of a command that asks for none. -/
def noRun : StartRun := { micros := 0 }

/-- The transaction that a waiting command brings: its place in the order, its message, and its execution. -/
def State.transaction (s : State) (i : Instr) : Option (Nat × List Byte × Act) :=
  let host := fun (op : Nat) (o : Origin) (m : List Byte) (run : StartRun) =>
    if hostRow op o m then some (orderOf (hostOf m) m, m, hostOne o m run) else none
  match i with
  | .mgmtRead o m => host 1 o m noRun
  | .mgmtWrite o m run => host 2 o m run
  | .mgmtWritePosted o m run => host 3 o m run
  | .mgmtLockRead o m => host 4 o m noRun
  | .mgmtWriteUnlock o m run => host 5 o m run
  | .mgmtUnlock o m => host 6 o m noRun
  | .mgmtTunnelTx o m => host 7 o m noRun
  | .bridgeRequest o m run => if s.bridgeRow o m && opOf m ≠ 0 then some (orderOf 15 m, m, bridgeOne o m run) else none
  | .endToEndMessage o m run =>
    if isMgmt m && endToEnd m && tenantOf m = 0 && decide (0 < opOf m) && decide (opOf m < 128) && s.endToEndHere o m
    then some (orderOf (hostOf m) m, m, hostOne o m run) else none
  | _ => none

/-- Puts a transaction in its place. -/
def inOrder (x : Nat × List Byte × Act) : List (Nat × List Byte × Act) → List (Nat × List Byte × Act)
  | [] => [x]
  | y :: ys => if x.1 < y.1 then x :: y :: ys else y :: inOrder x ys

/-- The transactions of the window that come before one of a given place, rising; those done already are left out. -/
def State.before (s : State) (place : Nat) : List (Nat × List Byte × Act) :=
  ((s.coming.filterMap s.transaction).filter (fun x => decide (x.1 < place) && !s.win.early.contains x.2.1)).foldl
    (fun l x => inOrder x l) []

/-- Executes a transaction after those of its window that precede it, unless it has been executed before its turn. -/
def ordered (place : Nat) (m : List Byte) (a : Act) : Act := .look fun s =>
  if s.win.early.contains m then .win (fun w => { w with early := w.early.erase m })
  else .seq
    (Act.each (s.before place) (fun x => .seq x.2.2 (.win fun w => { w with early := x.2.1 :: w.early })))
    a

/-- A host's transaction of a row. -/
def hostAct (op : Nat) (o : Origin) (m : List Byte) (run : StartRun) : Act :=
  Act.when (hostRow op o m) (ordered (orderOf (hostOf m) m) m (hostOne o m run))

/-! ## Hosts' rows -/

/-- MGMT_HELLO (R484). -/
def mgmtHelloAct (o : Origin) (m : List Byte) : Act := Act.when (hostRow 0 o m) (hostHello o m)

def execMgmtHello (origin : Origin) (msg : List Byte) (s : State) : Host.Outcome State Fault Refusal :=
  .next ((mgmtHelloAct origin msg).run s)

/-- MGMT_READ (R489, R495). -/
def mgmtReadAct (o : Origin) (m : List Byte) : Act := hostAct 1 o m noRun

def execMgmtRead (origin : Origin) (msg : List Byte) (s : State) : Host.Outcome State Fault Refusal :=
  .next ((mgmtReadAct origin msg).run s)

/-- MGMT_WRITE (R489, R495). -/
def mgmtWriteAct (o : Origin) (m : List Byte) (run : StartRun) : Act := hostAct 2 o m run

def execMgmtWrite (origin : Origin) (msg : List Byte) (run : StartRun) (s : State) : Host.Outcome State Fault Refusal :=
  .next ((mgmtWriteAct origin msg run).run s)

/-- MGMT_WRITE_POSTED (R498). -/
def mgmtWritePostedAct (o : Origin) (m : List Byte) (run : StartRun) : Act := hostAct 3 o m run

def execMgmtWritePosted (origin : Origin) (msg : List Byte) (run : StartRun) (s : State) : Host.Outcome State Fault Refusal :=
  .next ((mgmtWritePostedAct origin msg run).run s)

/-- MGMT_LOCK_READ (R500). -/
def mgmtLockReadAct (o : Origin) (m : List Byte) : Act := hostAct 4 o m noRun

def execMgmtLockRead (origin : Origin) (msg : List Byte) (s : State) : Host.Outcome State Fault Refusal :=
  .next ((mgmtLockReadAct origin msg).run s)

/-- MGMT_WRITE_UNLOCK (R500). -/
def mgmtWriteUnlockAct (o : Origin) (m : List Byte) (run : StartRun) : Act := hostAct 5 o m run

def execMgmtWriteUnlock (origin : Origin) (msg : List Byte) (run : StartRun) (s : State) : Host.Outcome State Fault Refusal :=
  .next ((mgmtWriteUnlockAct origin msg run).run s)

/-- MGMT_UNLOCK (R500). -/
def mgmtUnlockAct (o : Origin) (m : List Byte) : Act := hostAct 6 o m noRun

def execMgmtUnlock (origin : Origin) (msg : List Byte) (s : State) : Host.Outcome State Fault Refusal :=
  .next ((mgmtUnlockAct origin msg).run s)

/-- MGMT_TUNNEL_TX (R504). -/
def mgmtTunnelTxAct (o : Origin) (m : List Byte) : Act := hostAct 7 o m noRun

def execMgmtTunnelTx (origin : Origin) (msg : List Byte) (s : State) : Host.Outcome State Fault Refusal :=
  .next ((mgmtTunnelTxAct origin msg).run s)

/-! ## Bridge rows -/

/-- BRIDGE_REQUEST (R496): for this device, or to be forwarded. -/
def bridgeRequestAct (o : Origin) (m : List Byte) (run : StartRun) : Act := .look fun s =>
  if !(isMgmt m && decide (opOf m < 128) && !endToEnd m && bridged o m && s.up && !s.unconfigured) then .skip
  else if targetOf m ≠ s.device then forward (targetOf m) m
  else if opOf m = 0 then bridgeOne o m run
  else ordered (orderOf 15 m) m (bridgeOne o m run)

def execBridgeRequest (origin : Origin) (msg : List Byte) (run : StartRun) (s : State) : Host.Outcome State Fault Refusal :=
  .next ((bridgeRequestAct origin msg run).run s)

/-- A nonce has come from a device: the requests that wait for it are judged again, and with the first authentic one the
nonce is taken and its replay windows begin anew; the transactions bound for the device leave. -/
def nonceReceived (d : Nat) (n : List Byte) (run : StartRun) : Act := .look fun s =>
  let old := s.entryNonce d
  let waiting := s.units.clasp.unsent.filter (fun e => e.1 = d)
  Act.all [
    holdNonce d n,
    onClasp (fun x => { x with unsent := x.unsent.filter (fun e => e.1 ≠ d) }),
    Act.each waiting (fun e => bridgeSend e.2),
    Act.when (!(s.doubts d).isEmpty) (Act.all [
      holdNonce (16384 + d) n,
      .look fun s1 =>
        if (s.doubts d).any (fun e => (s1.bridgeOpen e.2).isSome) then
          Act.when (old ≠ n) (onClasp (fun x => { x with
            bridgeSeen := x.bridgeSeen.filter (fun e => e.1 / 32 ≠ d) }))
        else holdNonce (16384 + d) old,
      setDoubts d [],
      Act.each (s.doubts d) (fun e => .look fun s2 => match s2.bridgeOpen e.2 with
        | some data => bridgeTake e.2 data run
        | none => count F.CLP_DEVICE_AUTH_FAIL_C)])]

/-- What the answer to a far request says of the far locks held for hosts (R501). -/
def farLockNoted (k : Token) (status : Nat) : Act := .look fun s =>
  let d := targetOf k.request
  match opOf k.request with
  | 4 => Act.when (status = 0 || status = 2) (onClasp (fun x => { x with
      farLocks := x.farLocks ++ [(k.tenant, k.host, d, s.keep.elapsed)] }))
  | 5 | 6 => Act.when (status = 0 || status = 2 || status = 8) (onClasp (fun x => { x with
      farLocks := x.farLocks.filter (fun l => !(l.1 = k.tenant && l.2.1 = k.host && l.2.2.1 = d)) }))
  | _ => .skip

/-- This device's bridge holds its own lock for the host of a token. -/
def State.ownLockOf (s : State) (k : Token) : Bool := match s.units.clasp.lock with
  | some l => l.source = s.device && l.tenant = k.tenant && l.host = k.host && decide (s.keep.elapsed < l.since + lockTicks)
  | none => false

/-- A far lock is held by the bridge of a waiting device `d` (R502): the higher of the two gives its own lock up and tells
its host a delay, the lower asks again while its lock lasts. -/
def circularWait (k : Token) (d : Nat) : Act := .look fun s =>
  if !s.ownLockOf k then complete k.id 8 0 []
  else if s.device > d then Act.all [
    onClasp (fun x => { x with lock := none }),
    count F.CLP_DEVICE_BACKOFFS_C,
    .draw (fun r => complete k.id 0xD (r.toNat % 16) [])]
  else bridgeSend k.id

/-- BRIDGE_RESPONSE (R496): the answer to a token of this device, a nonce, or to be forwarded. -/
def bridgeResponseAct (o : Origin) (m : List Byte) (run : StartRun) : Act := .look fun s =>
  let d := targetOf m
  if !(isMgmt m && decide (opOf m ≥ 128) && !endToEnd m && onRing o && s.up && !s.unconfigured) then .skip
  else if sourceOf m ≠ s.device then forward (sourceOf m) m
  else if opOf m = 128 then Act.when (decide (m.length ≥ 44)) (nonceReceived d (slice m 32 12) run)
  else match s.units.clasp.tokens.find? (fun k => k.answer.isNone && k.bridge.any (fun b => b.1 = mseqOf m && b.2.1 = d)) with
    | none => .skip
    | some k => match (s.bridgeKey labelMbr (s.targetNonce d) s.units.clasp.nonce).bind (fun key => openMgmt key (bridgeIv m) m) with
      | none => count F.CLP_DEVICE_AUTH_FAIL_C
      | some data =>
        let st := num m 3 1
        if st = 7 && opOf k.request = 4 && decide (tokenOf m ≥ 2 ^ 31) then circularWait k (tokenOf m % 16384)
        else .seq (farLockNoted k st) (complete k.id st 0 data)

def execBridgeResponse (origin : Origin) (msg : List Byte) (run : StartRun) (s : State) : Host.Outcome State Fault Refusal :=
  .next ((bridgeResponseAct origin msg run).run s)

/-! ## END_TO_END (R497) -/

/-- Ticks a host's address is kept, and a far operation waits (R496, R497). -/
def State.farTicks (s : State) : Nat := s.get F.CLP_CFG_FAR_TIMEOUT_US * tickUs

/-- Sends a message on a ring port to whatever lies beyond. -/
def sendBeyond (r : Nat) (m : List Byte) : Act := .look fun s =>
  if s.linkIsUp (256 + r) then .seq (sendBridge r m) (count F.CLP_DEVICE_RELAYED_C) else count F.CLP_DEVICE_ROUTE_MISS_C

/-- An END_TO_END request that a host sends to this device for another: the host's address is kept. -/
def endToEndEntry (o : Origin) (m : List Byte) : Act := .look fun s =>
  let x := rerouted s.device 16 m
  .seq
    (onClasp (fun c => { c with endToEnd :=
      (c.endToEnd.filter (fun e => decide (s.keep.elapsed < e.2.2 + s.farTicks) && e.1 ≠ mseqOf m)) ++ [(mseqOf m, o, s.keep.elapsed)] }))
    (if targetOf m = s.device then
      let r := routingOf m / 4 % 8
      if s.linkIsUp (256 + r) then sendBridge r x else count F.CLP_DEVICE_ROUTE_MISS_C
    else launch (targetOf m) x)

/-- END_TO_END_MESSAGE (R497). -/
def endToEndAct (o : Origin) (m : List Byte) (run : StartRun) : Act := .look fun s =>
  if !(isMgmt m && endToEnd m && s.up) then .skip
  else if tenantOf m ≠ 0 then count F.CLP_DEVICE_AUTH_FAIL_C
  else if opOf m ≥ 128 then
    if !onRing o || s.unconfigured then .skip
    else if sourceOf m ≠ s.device then forward (sourceOf m) m
    else match s.units.clasp.endToEnd.find? (fun e => e.1 = mseqOf m && decide (s.keep.elapsed < e.2.2 + s.farTicks)) with
      | some (_, host, _) => .seq
          (onClasp (fun c => { c with endToEnd := c.endToEnd.filter (fun e => e.1 ≠ mseqOf m) })) (sendMgmt host m)
      | none => .skip
  else if s.endToEndHere o m then (if opOf m = 0 then hostHello o m else ordered (orderOf (hostOf m) m) m (hostOne o m run))
  else if s.unconfigured && onRing o then .skip
  else if !bridged o m then endToEndEntry o m
  else if targetOf m ≠ s.device then forward (targetOf m) m
  else if hopsOf m = 0 then count F.CLP_DEVICE_ROUTE_MISS_C
  else sendBeyond (routingOf m / 4 % 8) (rerouted (sourceOf m) (hopsOf m - 1) m)

def execEndToEndMessage (origin : Origin) (msg : List Byte) (run : StartRun) (s : State) : Host.Outcome State Fault Refusal :=
  .next ((endToEndAct origin msg run).run s)

/-! ## Timeouts -/

/-- FAR_TIMEOUT (R496): no answer has come; the target's nonce is learned anew. -/
def farTimeoutAct (token : Nat) : Act := .look fun s =>
  match s.token token with
  | none => .skip
  | some k => match k.bridge with
    | none => .skip
    | some (_, d, sent) => Act.when (k.answer.isNone && decide (s.keep.elapsed ≥ sent + s.farTicks)) (Act.all [
        onClasp (fun x => { x with unsent := x.unsent.filter (fun e => e.2 ≠ token) }),
        holdNonce d [],
        complete token 6 0 [],
        hello d])

def execFarTimeout (token : Nat) (s : State) : Host.Outcome State Fault Refusal := .next ((farTimeoutAct token).run s)

/-- TOKEN_EXPIRY (R495): a result that no host has collected within 1 ms. -/
def tokenExpiryAct (token : Nat) : Act := .look fun s =>
  match (s.token token).bind (·.answer) with
  | some (_, _, _, t) => Act.when (decide (s.keep.elapsed ≥ t + tickMs)) (freeToken token)
  | none => .skip

def execTokenExpiry (token : Nat) (s : State) : Host.Outcome State Fault Refusal := .next ((tokenExpiryAct token).run s)

/-- A later command of the window is the WRITE_UNLOCK of the lock's holder (R503). -/
def State.unlockPending (s : State) : Bool := s.coming.any (fun i => match i with
  | .mgmtWriteUnlock o m _ => hostRow 5 o m && targetOf m = s.device && (s.hostOpen o m).isSome && (s.hostWindow m).isSome
      && s.holds (callOf s.device (hostOf m) 5 m [] false)
  | .bridgeRequest o m _ => s.bridgeRow o m && opOf m = 5 && (s.bridgeOpen m).isSome && (s.bridgeWindow m).isSome
      && s.holds (callOf (sourceOf m) 15 5 m [] false)
  | _ => false)

/-- LOCK_EXPIRY (R501, R503): after 50 µs; a WRITE_UNLOCK of the same window is still applied. -/
def lockExpiryAct : Act := .look fun s => .seq
  (Act.when (!s.unlockPending) dropLock)
  (onClasp (fun x => { x with farLocks := x.farLocks.filter (fun l => decide (s.keep.elapsed < l.2.2.2 + lockTicks)) }))

def execLockExpiry (s : State) : Host.Outcome State Fault Refusal := .next (lockExpiryAct.run s)

/-! ## Watches (R505) -/

/-- The READ of a watch. -/
def State.watchRequest (s : State) (w : Nat) : List Byte :=
  mgmtHeader 1 (s.get (F.CLP_WATCH_CFG_TENANT w)) 0 (s.get (F.CLP_WATCH_CFG_TARGET_DEVICE w)) 0 0 0 (s.watchSize w)
    (s.get (F.CLP_WATCH_ADDRESS_ADDRESS w)) 0 0 0

/-- A watch reads its register: here at once, in a peer by a bridge transaction, one at a time. -/
def watchRead (w : Nat) : Act := .look fun s =>
  let m := s.watchRequest w
  let t := tenantOf m
  let c := callOf s.device 0 1 m [] false
  .seq (onWatch w (fun u => { u with at_ := some s.keep.elapsed }))
    (if targetOf m = s.device then
      (if (s.tenant t).enabled then readCall c 256 (watchResult w m) else watchResult w m 4 [])
    else if s.units.clasp.tokens.any (fun k => k.watch = some w) then .skip
    else .seq (takeToken m [] false (some w)) (bridgeStart s.newToken))

/-- A watch's period has passed. -/
def State.watchDue (s : State) (w : Nat) : Bool := s.up && decide (w < 64) && s.is (F.CLP_WATCH_CFG_ENABLE w)
  && (match (s.watch w).at_ with
    | some t => decide (s.keep.elapsed ≥ t + s.get (F.CLP_WATCH_CFG_PERIOD_US w) * tickUs)
    | none => true)

/-- WATCH_POLL (R505): the reading sees every change of its window, so it waits while commands of the window do. -/
def watchPollAct (w : Nat) : Act := .look fun s => Act.when (s.watchDue w)
  (if s.pending.isEmpty then watchRead w
   else .win fun x => { x with marks := if x.marks.contains (7, w) then x.marks else (7, w) :: x.marks })

def execWatchPoll (watch : Nat) (s : State) : Host.Outcome State Fault Refusal := .next ((watchPollAct watch).run s)

/-- The readings that waited for the end of the window. -/
def watchesRead : Act := .look fun s =>
  Act.each ((List.range 64).filter (fun w => s.win.marks.contains (7, w) && s.watchDue w)) watchRead

/-! ## Datagrams (R482, R484) -/

/-- A management datagram, from any of the three places. -/
def mgmtReceived (o : Origin) (m : List Byte) (run : StartRun) : Act :=
  if endToEnd m then endToEndAct o m run
  else if onRing o && opOf m ≥ 128 then bridgeResponseAct o m run
  else if bridged o m then bridgeRequestAct o m run
  else if opOf m = 0 then mgmtHelloAct o m
  else Act.when (decide (opOf m < 128)) (ordered (orderOf (hostOf m) m) m (hostOne o m run))

end Sys2Proof.Machine
end

