-- ==== Sys2Proof/Machine/Service.lean ====
section
/-! DEFINITION. The service port (R506 to R509). -/

namespace Sys2Proof.Machine

/-! ## Receiving on the service port (R508) -/

/-- Passes a good frame to Clasp, when it is addressed to it. -/
def svcPass (f : List Byte) (run : StartRun) : Act := .look fun s =>
  let miss := count F.SVC_RX_NOT_ADDRESSED_C
  if num f 0 6 ≠ s.get F.SVC_MAC_MAC then miss
  else match ipOf f with
    | none => miss
    | some p => match p.udp with
      | none => miss
      | some (src, dst, data) =>
        if p.odd || dst ≠ s.get F.SVC_UDP_MGMT_PORT then miss
        else mgmtReceived { link := 512, addr := { mac := num f 6 6, v4 := p.v4, ip := p.src, port := src }, localIp := p.dst } data run

/-- SVC_FRAME_RECEIVED (R508, R74): a frame with its FCS. In Listening dormant only Ember hears it. -/
def svcFrameReceivedAct (frame : List Byte) (fcsOk : Bool) (run : StartRun) : Act := .look fun s =>
  let f := frame.take (frame.length - 4)
  if !s.up then Act.when (s.ember = embListening) (svcWakeFrameAct f fcsOk)
  else if !s.is F.SVC_CFG_ENABLE then .skip
  else if frame.length < 64 then count F.SVC_RX_RUNTS_C
  else if !fcsOk then count F.SVC_RX_FCS_ERRORS_C
  else Act.all [count F.SVC_RX_FRAMES_C, svcWakeFrameAct f true, svcPass f run]

def execSvcFrameReceived (frame : List Byte) (fcsOk : Bool) (run : StartRun) (s : State) : Host.Outcome State Fault Refusal :=
  .next ((svcFrameReceivedAct frame fcsOk run).run s)

/-! ## Sending on the service port (R506, R507) -/

/-- Ticks of a bit at 10 Mbit/s. -/
def svcBit : Nat := 102400

/-- Elapsed time at which the frame on the wire has left: its octets with preamble and FCS. -/
def State.svcEnd (s : State) : Option Nat :=
  match s.units.svc.sentAt, s.units.svc.frames with
  | some t, f :: _ => some (t + (f.length + 12) * 8 * svcBit)
  | _, _ => none

/-- The frame at the head has gone, sent or dropped. -/
def svcDrop : Act := onSvc (fun p => { p with frames := p.frames.drop 1, attempts := 0, waitTo := none, sentAt := none })

/-- A frame whose last octet has left the port is done. -/
def svcSettle : Act := .look fun s =>
  Act.when (s.svcEnd.any (fun t => decide (s.keep.elapsed ≥ t))) (.seq svcDrop (count F.SVC_TX_FRAMES_C))

/-- PLCA is used (R506). -/
def State.plca (s : State) : Bool := s.is F.SVC_CFG_PLCA_EN && s.get F.SVC_PLCA_NODE_ID ≠ 0xFF

/-- The port may send. -/
def State.svcOn (s : State) : Bool := s.up && s.is F.SVC_CFG_ENABLE

/-- Begins the head frame, when none is on the wire. -/
def svcStart : Act := .look fun s => match s.units.svc.frames with
  | f :: _ => Act.when s.units.svc.sentAt.isNone
      (.seq (onSvc (fun p => { p with waitTo := none, sentAt := some s.keep.elapsed })) (.emit (.svcFrame f)))
  | [] => .skip

/-- SVC_TRANSMIT_OPPORTUNITY (R506, R507): the medium is free, or PLCA gives this node its turn. -/
def svcTransmitOpportunityAct : Act := .seq svcSettle (.look fun s => Act.when s.svcOn (.seq
  (Act.when s.plca (put F.SVC_STATUS_PLCA_STATUS 1))
  (Act.when s.units.svc.waitTo.isNone svcStart)))

def execSvcTransmitOpportunity (s : State) : Host.Outcome State Fault Refusal := .next (svcTransmitOpportunityAct.run s)

/-- A collision while the head frame is sent: jam, back-off, and the end of a frame's attempts (R507). -/
def svcCollide (late : Bool) : Act := .look fun s =>
  let n := s.units.svc.attempts + 1
  if s.plca then .seq (count F.SVC_COLLISIONS_C) (onSvc (fun p => { p with sentAt := none }))
  else Act.all [
    .emit .svcJam,
    count F.SVC_COLLISIONS_C,
    if late then .seq (count F.SVC_LATE_COLLISIONS_C) svcDrop
    else if n ≥ 16 then .seq (count F.SVC_EXCESS_COLLISIONS_C) svcDrop
    else .draw fun r => onSvc (fun p => { p with
      attempts := n, sentAt := none, waitTo := some (s.keep.elapsed + r.toNat % 2 ^ min n 10 * 512 * svcBit) })]

/-- SVC_COLLISION (R507): while a frame is received, or while the head frame is sent. -/
def svcCollisionAct (sending late : Bool) : Act := .seq svcSettle (.look fun s => Act.when s.svcOn
  (if !sending then count F.SVC_RX_RUNTS_C
   else Act.when s.units.svc.sentAt.isSome (svcCollide late)))

def execSvcCollision (sending late : Bool) (s : State) : Host.Outcome State Fault Refusal :=
  .next ((svcCollisionAct sending late).run s)

/-- SVC_BACKOFF_EXPIRY (R507): the frame is attempted again. -/
def svcBackoffExpiryAct : Act := .look fun s =>
  Act.when (s.svcOn && s.units.svc.waitTo.any (fun t => decide (s.keep.elapsed ≥ t))) svcStart

def execSvcBackoffExpiry (s : State) : Host.Outcome State Fault Refusal := .next (svcBackoffExpiryAct.run s)

end Sys2Proof.Machine
end

