-- ==== Sys2Proof/Machine/Receive.lean ====
section
/-! DEFINITION. Frames received on links, the ring relay, and links that come up (R343, R353 to R355, R556). -/

namespace Sys2Proof.Machine

/-! ## Ring relay (R355) -/

/-- A relayed peer stream's unit. -/
def relayKey (r origin stream : Nat) : Nat := (r * 16384 + origin) * 8192 + stream
def State.relay (s : State) (k : Nat) : RelayUnit := Sparse.get (fun _ => ({} : RelayUnit)) s.units.relays k
def setRelay (k : Nat) (x : RelayUnit) : Act :=
  .units fun u => { u with relays := Sparse.set (fun _ => ({} : RelayUnit)) u.relays k x }

/-- The open frame of a chain: its first frame, with the statement that carries the CHAIN_NONCE (R368, R374). -/
def opensChain (m : List Byte) : Bool :=
  num m 2 1 = 4 && num m 16 8 = 0 && num m 48 4 = 0x4941564B && num m 52 1 = 1

/-- The numbers received of a relayed stream, after one more: CUM and BITMAP of its acknowledgements (R343, R351). -/
def RelayUnit.takes (u : RelayUnit) (n : Nat) : RelayUnit :=
  let cum := u.cum.getD ((n + 2 ^ 64 - 1) % 2 ^ 64)
  let d := dif n cum
  let b := if 0 < d && d ≤ 64 then u.bitmap ||| 2 ^ (d.toNat - 1) else u.bitmap
  let lead := ((List.range 65).find? (fun i => !b.testBit i)).getD 64
  { u with cum := some ((cum + lead) % 2 ^ 64), bitmap := b >>> lead }

/-- The chain of a received frame: learned from its open frame; before one has been seen it is open. A new chain opens at the
endpoints it is relayed to (R345). -/
def withChain (k : Nat) (m : List Byte) (f : Nat → Act) : Act := .look fun s =>
  let c := num m 68 4
  match opensChain m, (s.relay k).chain with
  | true, some old =>
    if old = c then f c
    else Act.all [setRelay k { chain := some c }, chainOpens { origin := num m 4 2, stream := num m 0 2, chain := c }, f c]
  | true, none => .seq (setRelay k { chain := some c }) (f c)
  | false, some old => f old
  | false, none => .draw fun w => .seq (setRelay k { chain := some (w.toNat % 2 ^ 32) }) (f (w.toNat % 2 ^ 32))

/-- The endpoint of a ring port whose acknowledgements the peer takes: the first that is VALID and RELIABLE with a usable
ACK_KEY. -/
def State.ackPeer (s : State) (r : Nat) : Option (List Byte) :=
  (List.range 256).findSome? (fun e =>
    if s.liveIs (F.RNG_ENDPOINT_W0_VALID r e) && s.liveIs (F.RNG_ENDPOINT_W0_RELIABLE r e) then s.ackKey (32 + r) e else none)

/-- The acknowledgement of a relayed stream (R351). -/
def ackItem (key iv : List Byte) (stream cum bitmap chain : Nat) : Item :=
  let b := be 2 0xFFFE ++ be 1 0x11 ++ be 1 0 ++ be 2 stream ++ be 2 0 ++ be 8 cum ++ be 8 bitmap ++ be 4 chain
  { data := b ++ iv ++ block (gcmTag key iv b []), kind := .control }

/-- Acknowledges a relayed frame to the peer, when its endpoint is reliable (R343, R355). -/
def relayAck (r k stream : Nat) : Act := .look fun s =>
  match s.ackPeer r with
  | none => .skip
  | some key => withIv fun iv =>
      let u := s.relay k
      push (2048 + 8 * r + 7) .relay
        (ackItem key iv stream (u.cum.getD 0) u.bitmap (u.chain.getD 0))

/-- Relays a sealed frame, with the OFLAGS of its prefix, that came with a PCP on ring port `r` (R355). -/
def relayFrame (r pcp oflags : Nat) (m : List Byte) : Act := .look fun s =>
  let origin := num m 4 2
  let stream := num m 0 2
  match (List.range 256).find? (fun e => s.is (F.RNG_RELAY_VALID r e) && s.get (F.RNG_RELAY_ORIGIN_DEVICE r e) = origin
      && s.get (F.RNG_RELAY_STREAM r e) = stream) with
  | none => count (F.RNG_RELAY_MISS_C r)
  | some e =>
    let k := relayKey r origin stream
    let q := if s.is (F.RNG_RELAY_TO_RING r e) then 2048 + 8 * (s.get (F.RNG_RELAY_TARGET r e) % 8) + pcp
      else 8 * s.get (F.RNG_RELAY_TARGET r e) + pcp
    withChain k m (fun chain => Act.all [
      .look (fun s => setRelay k ((s.relay k).takes (num m 16 8))),
      pushFrame q .relay { data := m, kind := .sealed, stream := stream, seq := num m 16 8,
                           endpoint := s.get (F.RNG_RELAY_ENDPOINT r e), oflags := (oflags &&& 2) ||| 4, chain := chain },
      relayAck r k stream])

/-! ## Destinations (R354) -/

/-- A ring control message, to the unit its RTYPE names (R352). -/
def ringControl (r : Nat) (m : List Byte) (run : StartRun) : Act :=
  let b := m.drop 8
  .seq (count (F.RNG_RX_RING_CONTROL_C r)) (match num m 3 1 with
    | 1 => broadcastReceivedAct r b
    | 2 => heartbeatReceivedAct r b
    | 3 => fenceNoticeReceivedAct r b
    | 4 => resetWordReceivedAct r b run
    | 5 => match num b 1 1 with
      | 1 => exchangeOfferAct r b
      | 2 => exchangeAcceptAct r b
      | 3 => exchangeAssignAct r b
      | _ => count F.SUP_EXCHANGE_FAILS_C
    | _ => count (F.RNG_RX_UNKNOWN_C r))

/-- The bytes are a sealed frame (R324): a stream's number, a KIND, and the length that BODY_UNITS gives. -/
def isSealed (m : List Byte) : Bool :=
  num m 0 2 < 8192 && decide (1 ≤ num m 2 1) && decide (num m 2 1 ≤ 5) && decide (num m 4 2 < 16384)
    && decide (num m 6 2 ≤ 1144) && m.length = 64 + 8 * num m 6 2

/-- A datagram to IST_PORT: the prefix, then an acknowledgement, a ring control message or a sealed frame. -/
def istReceived (l : Nat) (src : NetAddr) (pcp : Nat) (d : List Byte) (run : StartRun) : Act :=
  let m := d.drop 8
  let unknown := count (linkF l F.LSN_LINK_RX_UNKNOWN_C F.RNG_RX_UNKNOWN_C)
  if isAck d then .seq (.emit (.passed l 4 m)) (ackReceivedAct l src m)
  else if l < 256 then unknown
  else if d.length ≥ 12 ∧ num m 0 2 = 0xFFFF ∧ num m 2 1 = 0x10 then .seq (.emit (.passed l 4 m)) (ringControl (l - 256) m run)
  else if isSealed m then .seq (.emit (.passed l 5 m)) (relayFrame (l - 256) pcp (num d 1 1) m)
  else unknown

/-- Passes a frame that stands to its one destination, by the first row of R354 that matches. -/
def frameSort (l : Nat) (f : List Byte) (x : RxStatus) : Act := .look fun s =>
  let ring := decide (256 ≤ l)
  let missed := count (linkF l F.LSN_LINK_RX_NOT_ADDRESSED_C F.RNG_RX_NOT_ADDRESSED_C)
  let unknown := count (linkF l F.LSN_LINK_RX_UNKNOWN_C F.RNG_RX_UNKNOWN_C)
  if isPfc f then .seq (.emit (.passed l 0 f)) (pfcReceivedAct l (pfcTimes f))
  else if ring && frameType f = 0x88F7 then
    .seq (.emit (.passed l 1 (frameClient f))) (ptpReceive (l - 256) (frameClient f) x.stamp)
  else if ring && isEsmc f then .seq (.emit (.passed l 1 (f.drop 14))) (esmcReceivedAct (l - 256) (f.drop 14))
  else match ipOf f with
    | none => unknown
    | some p =>
      if p.odd || !s.ownIp l p then missed
      else match p.udp with
        | none => unknown
        | some (src, dst, d) =>
          let from_ : NetAddr := { mac := num f 6 6, v4 := p.v4, ip := p.src, port := src }
          if dst = s.mgmtPort l then Act.all [
            .emit (.passed l 3 d),
            count (linkF l F.LSN_LINK_RX_MGMT_C F.RNG_RX_MGMT_C),
            mgmtReceived { link := l, addr := from_, localIp := p.dst } d x.run]
          else if dst = s.istPort l then istReceived l from_ (framePcp f) d x.run
          else unknown

/-- FRAME_RECEIVED (R334, R353, R354): on a link that is up. A time message that fails R353 is a sample discarded (R398). -/
def frameReceivedAct (l : Nat) (f : List Byte) (x : RxStatus) : Act := .look fun s =>
  if !s.linkIsUp l then .skip
  else Act.all [
    Act.when (decide (x.corrected ≠ 0)) (countBy (linkF l F.LSN_LINK_FEC_CORRECTED_C F.RNG_FEC_CORRECTED_C) x.corrected),
    Act.when (x.reassembled = some true) (count (linkF l F.LSN_LINK_RX_REASSEMBLED_C F.RNG_RX_REASSEMBLED_C)),
    match s.dropped l f x with
      | some c => .seq (count c) (Act.when (decide (256 ≤ l) && frameType f = 0x88F7) (discardPtp (l - 256)))
      | none => Act.all [
          count (linkF l F.LSN_LINK_RX_FRAMES_C F.RNG_RX_FRAMES_C),
          countBy (linkF l F.LSN_LINK_RX_OCTETS_C F.RNG_RX_OCTETS_C) (f.length + 4),
          frameSort l f x]]

def execFrameReceived (link : Nat) (frame : List Byte) (status : RxStatus) (s : State) : Host.Outcome State Fault Refusal :=
  .next ((frameReceivedAct link frame status).run s)

/-- LINK_UP (R556): on a ring port the identity and role exchange begins. -/
def linkUpAct (l : Nat) : Act := .look fun s =>
  Act.when (!s.linkIsUp l) (.seq (linkUpBase l) (.look fun s => Act.when (decide (256 ≤ l) && s.linkIsUp l) (startExchange (l - 256))))

def execLinkUp (link : Nat) (s : State) : Host.Outcome State Fault Refusal := .next ((linkUpAct link).run s)

end Sys2Proof.Machine
end

