-- ==== Sys2Proof/Machine/System.lean ====
section
/-! DEFINITION. The pace of the self-timed fabric (R22 to R24, R515, R585). -/

namespace Sys2Proof.Machine

/-- The region of the lowest of the paces from region `i` on, the first of equals. -/
def lowestPace : Nat → List Nat → Nat × Nat
  | i, [] => (i, 0xFFFF)
  | i, [p] => (i, min p 0xFFFF)
  | i, p :: ps => let r := lowestPace (i + 1) ps; if min p 0xFFFF ≤ r.2 then (i, min p 0xFFFF) else r

/-- PACE_MEASUREMENT (R585): DEV_PACE takes the lowest of the 16 regions; a pace that falls below 1.2 is told to T0 and
entered in its log and the chronicle. -/
def paceMeasurementAct (paces : List Nat) : Act := .look fun s =>
  let r := lowestPace 0 paces
  let old := s.get F.DEV_PACE_PACE
  let low := decide (r.2 ≠ 0) && decide (r.2 ≤ 0x1333)
  Act.when (s.up && paces.length = 16) (Act.all [
    put F.DEV_PACE_PACE r.2,
    put F.DEV_PACE_REGION r.1,
    Act.when (decide (r.2 ≠ 0) && decide (r.2 < s.get F.DEV_PACE_LOW_PACE))
      (.seq (put F.DEV_PACE_LOW_PACE r.2) (put F.DEV_PACE_LOW_REGION r.1)),
    Act.when low (event F.DEV_STATUS_PACE_BELOW),
    Act.when (low && decide (r.2 ≤ 0x0FFF)) (event F.DEV_STATUS_PACE_OVERLOAD),
    Act.when (low && (decide (old = 0) || decide (old > 0x1333))) (.seq
      (notify 0 0x04 (r.1 * 2 ^ 28 + r.2) [])
      (logFault 0 0x0C 5 0x00 0))])

def execPaceMeasurement (paces : List Nat) (s : State) : Host.Outcome State Fault Refusal :=
  .next ((paceMeasurementAct paces).run s)

end Sys2Proof.Machine
end

