-- ==== Sys2Proof/Machine/Dispatch.lean ====
section
/-! DEFINITION. The command of the block to the meaning of its row: one arm per row of the table. -/

namespace Sys2Proof.Machine

/-- The effect of a command on everything but the queue. -/
def exec (i : Instr) (s : State) : Host.Outcome State Fault Refusal :=
  match i with
  | .coldReset => Sys2Proof.Machine.execColdReset s
  | .vaonLoss => Sys2Proof.Machine.execVaonLoss s
  | .start run => Sys2Proof.Machine.execStart run s
  | .startTimeout run => Sys2Proof.Machine.execStartTimeout run s
  | .brownout rail => Sys2Proof.Machine.execBrownout rail s
  | .supplyExcursion rail overVoltage => Sys2Proof.Machine.execSupplyExcursion rail overVoltage s
  | .vfldLoss => Sys2Proof.Machine.execVfldLoss s
  | .pinReset nanos => Sys2Proof.Machine.execPinReset nanos s
  | .rstRelease run => Sys2Proof.Machine.execRstRelease run s
  | .deviceReset writer value run => Sys2Proof.Machine.execDeviceReset writer value run s
  | .fullReset writer value run => Sys2Proof.Machine.execFullReset writer value run s
  | .watchdogReset run => Sys2Proof.Machine.execWatchdogReset run s
  | .dormancyRequest writer value => Sys2Proof.Machine.execDormancyRequest writer value s
  | .mainRailsOff => Sys2Proof.Machine.execMainRailsOff s
  | .railStuck => Sys2Proof.Machine.execRailStuck s
  | .wakeFrame train => Sys2Proof.Machine.execWakeFrame train s
  | .svcWakeFrame frame fcsOk => Sys2Proof.Machine.execSvcWakeFrame frame fcsOk s
  | .wakeRailWaitExpiry => Sys2Proof.Machine.execWakeRailWaitExpiry s
  | .slotCommit writer value => Sys2Proof.Machine.execSlotCommit writer value s
  | .slotCommitApply => Sys2Proof.Machine.execSlotCommitApply s
  | .emberHeartbeat => Sys2Proof.Machine.execEmberHeartbeat s
  | .imgErase writer value => Sys2Proof.Machine.execImgErase writer value s
  | .imgMark writer value => Sys2Proof.Machine.execImgMark writer value s
  | .imgRetire writer value => Sys2Proof.Machine.execImgRetire writer value s
  | .imgPageWrite writer offset data => Sys2Proof.Machine.execImgPageWrite writer offset data s
  | .imgOperationDone flashOk => Sys2Proof.Machine.execImgOperationDone flashOk s
  | .imgConfirm writer value => Sys2Proof.Machine.execImgConfirm writer value s
  | .confirmWindowExpiry run => Sys2Proof.Machine.execConfirmWindowExpiry run s
  | .uplinkDataFrame lane rx load => Sys2Proof.Machine.execUplinkDataFrame lane rx load s
  | .heartbeatFrame lane rx => Sys2Proof.Machine.execHeartbeatFrame lane rx s
  | .rosterFrame lane rx => Sys2Proof.Machine.execRosterFrame lane rx s
  | .replyFrame lane rx => Sys2Proof.Machine.execReplyFrame lane rx s
  | .echoReceived lane mark stamp => Sys2Proof.Machine.execEchoReceived lane mark stamp s
  | .echoReport lane rx => Sys2Proof.Machine.execEchoReport lane rx s
  | .handoverFrame lane rx => Sys2Proof.Machine.execHandoverFrame lane rx s
  | .ackSend lane => Sys2Proof.Machine.execAckSend lane s
  | .markerSend lane => Sys2Proof.Machine.execMarkerSend lane s
  | .echoReportTimeout lane => Sys2Proof.Machine.execEchoReportTimeout lane s
  | .commandTimeout lane host => Sys2Proof.Machine.execCommandTimeout lane host s
  | .discoveryRetry lane => Sys2Proof.Machine.execDiscoveryRetry lane s
  | .tlkCfgWrite lane writer value => Sys2Proof.Machine.execTlkCfgWrite lane writer value s
  | .tlkTimersWrite lane writer value => Sys2Proof.Machine.execTlkTimersWrite lane writer value s
  | .uplinkSignalDetect lane => Sys2Proof.Machine.execUplinkSignalDetect lane s
  | .laneLockHeld lane => Sys2Proof.Machine.execLaneLockHeld lane s
  | .lossOfSignal lane => Sys2Proof.Machine.execLossOfSignal lane s
  | .lossOfLock lane => Sys2Proof.Machine.execLossOfLock lane s
  | .linkTimeout lane => Sys2Proof.Machine.execLinkTimeout lane s
  | .restart lane writer value => Sys2Proof.Machine.execRestart lane writer value s
  | .remeasure lane writer value => Sys2Proof.Machine.execRemeasure lane writer value s
  | .rediscover lane writer value => Sys2Proof.Machine.execRediscover lane writer value s
  | .wmTimeout lane talker => Sys2Proof.Machine.execWmTimeout lane talker s
  | .talkerCommand lane writer value => Sys2Proof.Machine.execTalkerCommand lane writer value s
  | .talkerPulse lane writer value => Sys2Proof.Machine.execTalkerPulse lane writer value s
  | .swap writer value => Sys2Proof.Machine.execSwap writer value s
  | .swapValidationDone => Sys2Proof.Machine.execSwapValidationDone s
  | .tSwapReached => Sys2Proof.Machine.execTSwapReached s
  | .bankRetire => Sys2Proof.Machine.execBankRetire s
  | .copy writer value => Sys2Proof.Machine.execCopy writer value s
  | .copyDone => Sys2Proof.Machine.execCopyDone s
  | .strCommit stream writer value => Sys2Proof.Machine.execStrCommit stream writer value s
  | .streamConfigApply stream => Sys2Proof.Machine.execStreamConfigApply stream s
  | .contributorGraceExpiry lane => Sys2Proof.Machine.execContributorGraceExpiry lane s
  | .stratumCloseByWatermark stream => Sys2Proof.Machine.execStratumCloseByWatermark stream s
  | .stratumCloseByHorizon stream => Sys2Proof.Machine.execStratumCloseByHorizon stream s
  | .stratumEmit tenant => Sys2Proof.Machine.execStratumEmit tenant s
  | .stratumEviction stream denied => Sys2Proof.Machine.execStratumEviction stream denied s
  | .queueCell queue producer start cell => Sys2Proof.Machine.execQueueCell queue producer start cell s
  | .queueEndOfItem queue producer good => Sys2Proof.Machine.execQueueEndOfItem queue producer good s
  | .queuePop queue atHead => Sys2Proof.Machine.execQueuePop queue atHead s
  | .heldPopComplete queue => Sys2Proof.Machine.execHeldPopComplete queue s
  | .flush queue writer value => Sys2Proof.Machine.execFlush queue writer value s
  | .queueDisable queue writer value => Sys2Proof.Machine.execQueueDisable queue writer value s
  | .pointerMismatch queue => Sys2Proof.Machine.execPointerMismatch queue s
  | .notifyRead reader queue offset len => Sys2Proof.Machine.execNotifyRead reader queue offset len s
  | .intervalCloseByWatermark => Sys2Proof.Machine.execIntervalCloseByWatermark s
  | .intervalCloseByHorizon => Sys2Proof.Machine.execIntervalCloseByHorizon s
  | .programEvaluate => Sys2Proof.Machine.execProgramEvaluate s
  | .tokenRefill program => Sys2Proof.Machine.execTokenRefill program s
  | .progCommit program writer value => Sys2Proof.Machine.execProgCommit program writer value s
  | .programApply program => Sys2Proof.Machine.execProgramApply program s
  | .softInput program writer value => Sys2Proof.Machine.execSoftInput program writer value s
  | .broadcastReceived port msg => Sys2Proof.Machine.execBroadcastReceived port msg s
  | .freezeLaunch => Sys2Proof.Machine.execFreezeLaunch s
  | .freezeComplete slot => Sys2Proof.Machine.execFreezeComplete slot s
  | .readoutStart stream => Sys2Proof.Machine.execReadoutStart stream s
  | .readoutEnd stream => Sys2Proof.Machine.execReadoutEnd stream s
  | .storeRecovery millis => Sys2Proof.Machine.execStoreRecovery millis s
  | .drivePresenceChange port => Sys2Proof.Machine.execDrivePresenceChange port s
  | .driveInserted port drive => Sys2Proof.Machine.execDriveInserted port drive s
  | .storeLinkDown port => Sys2Proof.Machine.execStoreLinkDown port s
  | .driveFailed port how => Sys2Proof.Machine.execDriveFailed port how s
  | .storeFrameWrite overload => Sys2Proof.Machine.execStoreFrameWrite overload s
  | .stripeCommitExpiry stream => Sys2Proof.Machine.execStripeCommitExpiry stream s
  | .journalBlockWrite => Sys2Proof.Machine.execJournalBlockWrite s
  | .journalBlockDurable => Sys2Proof.Machine.execJournalBlockDurable s
  | .lktCompact writer value => Sys2Proof.Machine.execLktCompact writer value s
  | .compactionDone => Sys2Proof.Machine.execCompactionDone s
  | .format writer value => Sys2Proof.Machine.execFormat writer value s
  | .formatDone => Sys2Proof.Machine.execFormatDone s
  | .adopt port writer value => Sys2Proof.Machine.execAdopt port writer value s
  | .rebuildStripe port => Sys2Proof.Machine.execRebuildStripe port s
  | .replayStart engine writer value => Sys2Proof.Machine.execReplayStart engine writer value s
  | .replayFrame engine => Sys2Proof.Machine.execReplayFrame engine s
  | .replayAbort engine writer value => Sys2Proof.Machine.execReplayAbort engine writer value s
  | .windowRelease window writer value => Sys2Proof.Machine.execWindowRelease window writer value s
  | .portEnable port writer value => Sys2Proof.Machine.execPortEnable port writer value s
  | .frameTransmit link cuts => Sys2Proof.Machine.execFrameTransmit link cuts s
  | .frameReceived link frame status => Sys2Proof.Machine.execFrameReceived link frame status s
  | .pfcReceived link times => Sys2Proof.Machine.execPfcReceived link times s
  | .pauseExpiry link prio => Sys2Proof.Machine.execPauseExpiry link prio s
  | .pauseWatchdogExpiry link prio => Sys2Proof.Machine.execPauseWatchdogExpiry link prio s
  | .stormClearExpiry link prio => Sys2Proof.Machine.execStormClearExpiry link prio s
  | .pfcSend port prio bytes => Sys2Proof.Machine.execPfcSend port prio bytes s
  | .preemptVerify link answered => Sys2Proof.Machine.execPreemptVerify link answered s
  | .endpointCommit port endpoint writer value => Sys2Proof.Machine.execEndpointCommit port endpoint writer value s
  | .endpointCommitApply port endpoint => Sys2Proof.Machine.execEndpointCommitApply port endpoint s
  | .ackReceived link src msg => Sys2Proof.Machine.execAckReceived link src msg s
  | .retransmitTimeout port endpoint => Sys2Proof.Machine.execRetransmitTimeout port endpoint s
  | .retentionExpiry port endpoint => Sys2Proof.Machine.execRetentionExpiry port endpoint s
  | .linkDown link midFrame => Sys2Proof.Machine.execLinkDown link midFrame s
  | .linkHoldExpiry link => Sys2Proof.Machine.execLinkHoldExpiry link s
  | .linkUp link => Sys2Proof.Machine.execLinkUp link s
  | .spillNoticeSend port endpoint => Sys2Proof.Machine.execSpillNoticeSend port endpoint s
  | .launchTimeReached link prio => Sys2Proof.Machine.execLaunchTimeReached link prio s
  | .progressIdleExpiry stream => Sys2Proof.Machine.execProgressIdleExpiry stream s
  | .checkpointTimer stream => Sys2Proof.Machine.execCheckpointTimer stream s
  | .roundClose => Sys2Proof.Machine.execRoundClose s
  | .checkpointSeal stream => Sys2Proof.Machine.execCheckpointSeal stream s
  | .keyFault entry => Sys2Proof.Machine.execKeyFault entry s
  | .entropyFault => Sys2Proof.Machine.execEntropyFault s
  | .ownerPackage writer value viaService => Sys2Proof.Machine.execOwnerPackage writer value viaService s
  | .ownerRecordWritten flashOk => Sys2Proof.Machine.execOwnerRecordWritten flashOk s
  | .ptpSyncRx port msg stamp => Sys2Proof.Machine.execPtpSyncRx port msg stamp s
  | .ptpFollowUpRx port msg stamp => Sys2Proof.Machine.execPtpFollowUpRx port msg stamp s
  | .ptpDelayReqRx port msg stamp => Sys2Proof.Machine.execPtpDelayReqRx port msg stamp s
  | .ptpDelayRespRx port msg stamp => Sys2Proof.Machine.execPtpDelayRespRx port msg stamp s
  | .ptpAnnounceRx port msg stamp => Sys2Proof.Machine.execPtpAnnounceRx port msg stamp s
  | .ptpSignalingRx port msg stamp => Sys2Proof.Machine.execPtpSignalingRx port msg stamp s
  | .syncSend port domain stamp => Sys2Proof.Machine.execSyncSend port domain stamp s
  | .delayReqSend port domain stamp => Sys2Proof.Machine.execDelayReqSend port domain stamp s
  | .announceSend port domain => Sys2Proof.Machine.execAnnounceSend port domain s
  | .esmcSend port => Sys2Proof.Machine.execEsmcSend port s
  | .esmcReceived port msg => Sys2Proof.Machine.execEsmcReceived port msg s
  | .servoAcquisitionStep => Sys2Proof.Machine.execServoAcquisitionStep s
  | .rootAcquisitionStep => Sys2Proof.Machine.execRootAcquisitionStep s
  | .d0SourceLoss => Sys2Proof.Machine.execD0SourceLoss s
  | .d1SourceLoss => Sys2Proof.Machine.execD1SourceLoss s
  | .holdoverTimer => Sys2Proof.Machine.execHoldoverTimer s
  | .ref10mLoss => Sys2Proof.Machine.execRef10mLoss s
  | .ppsInEdge stamp => Sys2Proof.Machine.execPpsInEdge stamp s
  | .ppsInLoss => Sys2Proof.Machine.execPpsInLoss s
  | .referenceRestored pps => Sys2Proof.Machine.execReferenceRestored pps s
  | .warmUpEnd => Sys2Proof.Machine.execWarmUpEnd s
  | .segmentPublish => Sys2Proof.Machine.execSegmentPublish s
  | .timSetCommit domain writer value => Sys2Proof.Machine.execTimSetCommit domain writer value s
  | .timSetApply domain => Sys2Proof.Machine.execTimSetApply domain s
  | .reacquire writer value => Sys2Proof.Machine.execReacquire writer value s
  | .forceD1 writer value => Sys2Proof.Machine.execForceD1 writer value s
  | .calibrationStart writer value => Sys2Proof.Machine.execCalibrationStart writer value s
  | .calibrationSample interval => Sys2Proof.Machine.execCalibrationSample interval s
  | .calibrationDone => Sys2Proof.Machine.execCalibrationDone s
  | .pulseArm pulse writer value => Sys2Proof.Machine.execPulseArm pulse writer value s
  | .pulseFire pulse => Sys2Proof.Machine.execPulseFire pulse s
  | .pulseCancel pulse writer value => Sys2Proof.Machine.execPulseCancel pulse writer value s
  | .ppsOutput domain => Sys2Proof.Machine.execPpsOutput domain s
  | .foutCommit output writer value => Sys2Proof.Machine.execFoutCommit output writer value s
  | .foutApply output => Sys2Proof.Machine.execFoutApply output s
  | .revert => Sys2Proof.Machine.execRevert s
  | .tempStale port => Sys2Proof.Machine.execTempStale port s
  | .edgeStart port stamp => Sys2Proof.Machine.execEdgeStart port stamp s
  | .edgeStop port stamp => Sys2Proof.Machine.execEdgeStop port stamp s
  | .measurementResult port => Sys2Proof.Machine.execMeasurementResult port s
  | .intervalOverflow port => Sys2Proof.Machine.execIntervalOverflow port s
  | .edgArm port writer value => Sys2Proof.Machine.execEdgArm port writer value s
  | .edgDisarm port writer value => Sys2Proof.Machine.execEdgDisarm port writer value s
  | .outArm port writer value => Sys2Proof.Machine.execOutArm port writer value s
  | .edgeOutputLaunch port => Sys2Proof.Machine.execEdgeOutputLaunch port s
  | .ringCalibration unit => Sys2Proof.Machine.execRingCalibration unit s
  | .edgCfgWrite port writer value => Sys2Proof.Machine.execEdgCfgWrite port writer value s
  | .envScanStart => Sys2Proof.Machine.execEnvScanStart s
  | .envConversionDone channel found stamp => Sys2Proof.Machine.execEnvConversionDone channel found stamp s
  | .ilkTrip output cause => Sys2Proof.Machine.execIlkTrip output cause s
  | .ilkRetry output => Sys2Proof.Machine.execIlkRetry output s
  | .ilkClear output writer value => Sys2Proof.Machine.execIlkClear output writer value s
  | .ilkCfgWrite output writer value => Sys2Proof.Machine.execIlkCfgWrite output writer value s
  | .utlFunctionChange pin writer value => Sys2Proof.Machine.execUtlFunctionChange pin writer value s
  | .utlGuardEnd pin => Sys2Proof.Machine.execUtlGuardEnd pin s
  | .utlTrip pin cause => Sys2Proof.Machine.execUtlTrip pin cause s
  | .utlClear pin writer value => Sys2Proof.Machine.execUtlClear pin writer value s
  | .externalTriggerEdge pin stamp => Sys2Proof.Machine.execExternalTriggerEdge pin stamp s
  | .fbusEnable channel writer value => Sys2Proof.Machine.execFbusEnable channel writer value s
  | .fbusIntegrated channel => Sys2Proof.Machine.execFbusIntegrated channel s
  | .fbusFrameReceived channel frame stamp => Sys2Proof.Machine.execFbusFrameReceived channel frame stamp s
  | .fbusRequest channel object writer value => Sys2Proof.Machine.execFbusRequest channel object writer value s
  | .fbusAbort channel object writer value => Sys2Proof.Machine.execFbusAbort channel object writer value s
  | .fbusAttemptEnd channel outcome => Sys2Proof.Machine.execFbusAttemptEnd channel outcome s
  | .fbusBusError channel sending error => Sys2Proof.Machine.execFbusBusError channel sending error s
  | .fbusRecover channel writer value => Sys2Proof.Machine.execFbusRecover channel writer value s
  | .fbusRecoveryDone channel => Sys2Proof.Machine.execFbusRecoveryDone channel s
  | .fbusModeChange channel => Sys2Proof.Machine.execFbusModeChange channel s
  | .abdStart channel writer value => Sys2Proof.Machine.execAbdStart channel writer value s
  | .abdDone channel found => Sys2Proof.Machine.execAbdDone channel found s
  | .mgmtHello origin msg => Sys2Proof.Machine.execMgmtHello origin msg s
  | .mgmtRead origin msg => Sys2Proof.Machine.execMgmtRead origin msg s
  | .mgmtWrite origin msg run => Sys2Proof.Machine.execMgmtWrite origin msg run s
  | .mgmtWritePosted origin msg run => Sys2Proof.Machine.execMgmtWritePosted origin msg run s
  | .mgmtLockRead origin msg => Sys2Proof.Machine.execMgmtLockRead origin msg s
  | .mgmtWriteUnlock origin msg run => Sys2Proof.Machine.execMgmtWriteUnlock origin msg run s
  | .mgmtUnlock origin msg => Sys2Proof.Machine.execMgmtUnlock origin msg s
  | .mgmtTunnelTx origin msg => Sys2Proof.Machine.execMgmtTunnelTx origin msg s
  | .bridgeRequest origin msg run => Sys2Proof.Machine.execBridgeRequest origin msg run s
  | .bridgeResponse origin msg run => Sys2Proof.Machine.execBridgeResponse origin msg run s
  | .endToEndMessage origin msg run => Sys2Proof.Machine.execEndToEndMessage origin msg run s
  | .farTimeout token => Sys2Proof.Machine.execFarTimeout token s
  | .tokenExpiry token => Sys2Proof.Machine.execTokenExpiry token s
  | .lockExpiry => Sys2Proof.Machine.execLockExpiry s
  | .watchPoll watch => Sys2Proof.Machine.execWatchPoll watch s
  | .svcFrameReceived frame fcsOk run => Sys2Proof.Machine.execSvcFrameReceived frame fcsOk run s
  | .svcCollision sending late => Sys2Proof.Machine.execSvcCollision sending late s
  | .svcBackoffExpiry => Sys2Proof.Machine.execSvcBackoffExpiry s
  | .tenantReset tenant writer value => Sys2Proof.Machine.execTenantReset tenant writer value s
  | .tenantResetDrained tenant => Sys2Proof.Machine.execTenantResetDrained tenant s
  | .sentinelStall domain index ring run => Sys2Proof.Machine.execSentinelStall domain index ring run s
  | .duplicateToken domain index ring run => Sys2Proof.Machine.execDuplicateToken domain index ring run s
  | .isolationRelease entry writer value => Sys2Proof.Machine.execIsolationRelease entry writer value s
  | .eccUncorrectable site => Sys2Proof.Machine.execEccUncorrectable site s
  | .supervisorMismatch copy => Sys2Proof.Machine.execSupervisorMismatch copy s
  | .supervisorResync => Sys2Proof.Machine.execSupervisorResync s
  | .voteFailure => Sys2Proof.Machine.execVoteFailure s
  | .heartbeatSend => Sys2Proof.Machine.execHeartbeatSend s
  | .heartbeatReceived port msg => Sys2Proof.Machine.execHeartbeatReceived port msg s
  | .suspectTimeout entry => Sys2Proof.Machine.execSuspectTimeout entry s
  | .resetWordReceived port msg run => Sys2Proof.Machine.execResetWordReceived port msg run s
  | .deadTimeout entry => Sys2Proof.Machine.execDeadTimeout entry s
  | .fenceNoticeReceived port msg => Sys2Proof.Machine.execFenceNoticeReceived port msg s
  | .readmit writer value run => Sys2Proof.Machine.execReadmit writer value run s
  | .chronicleCoalesceExpiry => Sys2Proof.Machine.execChronicleCoalesceExpiry s
  | .exchangeOffer port msg => Sys2Proof.Machine.execExchangeOffer port msg s
  | .exchangeAccept port msg => Sys2Proof.Machine.execExchangeAccept port msg s
  | .exchangeAssign port msg => Sys2Proof.Machine.execExchangeAssign port msg s
  | .offerRepeat port => Sys2Proof.Machine.execOfferRepeat port s
  | .exchangeRetry port => Sys2Proof.Machine.execExchangeRetry port s
  | .spareDormancyTimer => Sys2Proof.Machine.execSpareDormancyTimer s
  | .wakeFrameRepeat entry => Sys2Proof.Machine.execWakeFrameRepeat entry s
  | .wakeSend writer value => Sys2Proof.Machine.execWakeSend writer value s
  | .paceMeasurement paces => Sys2Proof.Machine.execPaceMeasurement paces s
  | .paceLowClear writer value => Sys2Proof.Machine.execPaceLowClear writer value s
  | .snapRead reader address => Sys2Proof.Machine.execSnapRead reader address s
  | .registerWrite writer address size value run => Sys2Proof.Machine.execRegisterWrite writer address size value run s
  | .vfldReturn => Sys2Proof.Machine.execVfldReturn s
  | .wakeFrameAbandonment => Sys2Proof.Machine.execWakeFrameAbandonment s
  | .thermalRetryThreshold output => Sys2Proof.Machine.execThermalRetryThreshold output s
  | .correctedMemoryError site => Sys2Proof.Machine.execCorrectedMemoryError site s
  | .svcTransmitOpportunity => Sys2Proof.Machine.execSvcTransmitOpportunity s
  | .suppressedEntryWrite => Sys2Proof.Machine.execSuppressedEntryWrite s

end Sys2Proof.Machine
end

