-- ==== Sys2Proof/Machine/Tick.lean ====
section
/-! DEFINITION. One tick: the end of an arbitration window and the passage of 2^-10 ns (R14, R20). -/

namespace Sys2Proof.Machine

/-- The downlink messages of the window leave, in their order (R133). -/
def downlinksLeave : Act := .look fun s => Act.each (sortDown s.win.down) (fun m => .emit (.downlink m.1 m.2.2))

/-- The periods of the full scrubs of R521: hot pool, near buffer, rule banks, retention memory, key store. -/
def State.scrubPeriods (s : State) : List Nat :=
  [100 * tickMs] ++ (if s.part.stacks = 0 then [] else [4 * tickS]) ++ (if s.has 0 then [10 * tickMs] else []) ++ [tickMs, 10 * tickMs]

/-- The full scrubs that end now, counted from local ready (log entry 101). -/
def scrubPasses : Act := .look fun s =>
  let t := s.keep.elapsed - s.units.sup.readyAt
  let n := (s.scrubPeriods.filter (fun p => t % p = 0)).length
  Act.when (s.up && decide (0 < t) && decide (0 < n)) (countBy F.SUP_SCRUB_PASSES_C n)

/-- What the end of a window does: freezes launch in their order (R272), strata close by horizon and the window's closes
settle (R203), replay engines start to read and frames are released (R315, R316), scheduled items that reached L leave (R356),
queues are judged by all their pushes and pops (R237, R239), a round of seals closes (R375), watches read (R505) and downlink
messages leave (R133). Then one tick of D0 time and of the model's own clock passes. What that instant brings of itself:
qualities at the boundary of a second (R418), the pins that follow levels (R52), the retries of utility pins (R452), the end
of a frame on the service port (R507) and the ends of scrubs (R521). -/
def tickAct : Act := Act.all [
  settleLaunches,
  settleCaldera,
  settleStore,
  settleStarts,
  settleQueues,
  settleReleases,
  settleRound,
  watchesRead,
  downlinksLeave,
  .look fun s => .win fun _ => { base := some s.regs },
  .units fun u => { u with d0 := u.d0 + 1 },
  .keep fun k => { k with elapsed := k.elapsed + 1 },
  .look fun s => Act.when (s.up && s.units.d0 % tickS = 0) refreshTq,
  followPins,
  utlRetries,
  svcSettle,
  scrubPasses]

end Sys2Proof.Machine
end

