-- ==== Sys2Proof/Safety.lean ====
section
/-! DEFINITION. What the statements call well kept and safe. -/

namespace Sys2Proof.Machine

/-- The register file, the values in force and the flash stand in their one canonical form. -/
def State.wf (s : State) : Bool :=
  Sparse.wf resetWord s.regs && Sparse.wf resetWord s.force && Sparse.wf (fun _ => (0xFF : Byte)) s.flash

/-- What a run of the start sequence that began at elapsed time `at_` leaves (R57, R59): local ready, or a start that has
not reached it within 1 s. -/
def State.startedBy (t : State) (run : StartRun) (at_ : Nat) : Bool :=
  if run.micros ≤ 1000000 then
    t.up && t.get F.PWR_START_TIME_MICROSECONDS = run.micros && t.ember = embActive && !t.keep.ember.starting
      && t.keep.ember.fails = 0 && t.keep.ember.watchdog = some at_
  else !t.up && t.keep.ember.starting && t.keep.ember.watchdog.isNone

/-- Address `a` lies in the registers of lane `l` (R157). -/
abbrev inLane (l a : Nat) : Prop := 0x01000000 + 0x1000 * l ≤ a ∧ a < 0x01000000 + 0x1000 * (l + 1)

/-- The registers of the queue units and those above them. -/
abbrev inQueueBlocks (a : Nat) : Prop := 0x08000000 ≤ a

/-- The registers of stream `st` in the filter and in Caldera. -/
abbrev inStreamBlocks (st a : Nat) : Prop :=
  (0x02800000 + 0x80 * st ≤ a ∧ a < 0x02800000 + 0x80 * (st + 1)) ∨
  (0x02900000 + 0x40 * st ≤ a ∧ a < 0x02900000 + 0x40 * (st + 1)) ∨
  (0x03010000 + 0x40 * st ≤ a ∧ a < 0x03010000 + 0x40 * (st + 1)) ∨
  (0x03200000 + 0x40 * st ≤ a ∧ a < 0x03200000 + 0x40 * (st + 1))

/-- The registers of the ports, the queues, Signet, time and the regions above them: what sealing a frame may touch. -/
abbrev inOutputBlocks (a : Nat) : Prop := 0x06000000 ≤ a

/-- The registers of queue `q` (R246). -/
abbrev inQueue (q a : Nat) : Prop := 0x08000000 + 0x100 * q ≤ a ∧ a < 0x08000000 + 0x100 * (q + 1)

/-- The registers of the tenants' notification queues: a counter that passes half its range raises one (R575). -/
abbrev inNotify (a : Nat) : Prop := 0x08084000 ≤ a ∧ a < 0x08086000

/-- Signet's registers and the tenants' fault logs, and the chronicle's head. -/
abbrev inSealsAndLogs (a : Nat) : Prop := 0x09000000 ≤ a ∨ a = F.SUP_CHRONICLE_NEWEST_SEQ.addr

/-- The registers of the data path and above: the filter, the merge, triggers, the store, ports, queues and Signet. -/
abbrev inDataBlocks (a : Nat) : Prop := 0x02000000 ≤ a

/-- The store's registers (R317). -/
abbrev inStore (a : Nat) : Prop := 0x05000000 ≤ a ∧ a < 0x06000000

/-- The store's registers and the regions above them. -/
abbrev inStoreUp (a : Nat) : Prop := 0x05000000 ≤ a

/-- The registers of trigger program `p` (R277). -/
abbrev inProgram (p a : Nat) : Prop :=
  (0x04080000 + 0x100 * p ≤ a ∧ a < 0x04080000 + 0x100 * (p + 1)) ∨
  (0x04084000 + 0x40 * p ≤ a ∧ a < 0x04084000 + 0x40 * (p + 1)) ∨
  (0x04088000 + 0x40 * p ≤ a ∧ a < 0x04088000 + 0x40 * (p + 1))

/-- The registers of link `l` (0 to 255 a listener link, 256 + r ring port r) (R357). -/
abbrev inLink (l a : Nat) : Prop :=
  (l < 256 ∧ 0x06001000 + 0x10000 * (l / 8) + 0x800 * (l % 8) ≤ a ∧ a < 0x06001800 + 0x10000 * (l / 8) + 0x800 * (l % 8)) ∨
  (256 ≤ l ∧ 0x07000000 + 0x10000 * (l - 256) ≤ a ∧ a < 0x07008000 + 0x10000 * (l - 256))

/-- The registers of port `p` (0 to 31 a listener port, 32 + r ring port r) (R357). -/
abbrev inPort (p a : Nat) : Prop := portBase p ≤ a ∧ a < portBase p + 0x10000

/-- The time system's registers (R429). -/
abbrev inTime (a : Nat) : Prop := 0x00040000 ≤ a ∧ a < 0x00080000

/-- What an event of the device may touch: its sentence runs through the data path, and the chronicle takes an entry. -/
abbrev inEvents (a : Nat) : Prop := inDataBlocks a ∨ a = F.SUP_CHRONICLE_NEWEST_SEQ.addr

/-- The registers of edge port `p`, environment channel `c`, interlock output `o` and utility pin `u` (R460). -/
abbrev inEdge (p a : Nat) : Prop := 0x00080000 + 0x100 * p ≤ a ∧ a < 0x00080000 + 0x100 * (p + 1)
abbrev inEnv (c a : Nat) : Prop := 0x00082000 + 0x100 * c ≤ a ∧ a < 0x00082000 + 0x100 * (c + 1)
abbrev inIlk (o a : Nat) : Prop := 0x00084000 + 0x40 * o ≤ a ∧ a < 0x00084000 + 0x40 * (o + 1)
abbrev inUtl (u a : Nat) : Prop := 0x00085000 + 0x20 * u ≤ a ∧ a < 0x00085000 + 0x20 * (u + 1)

/-- The interlock outputs' registers that show pin levels and trips. -/
abbrev ilkFault (a : Nat) : Prop := 0x00084000 ≤ a ∧ a < 0x00084200 ∧ a % 64 = 8

/-- The registers of field-bus channel `c` (R481). -/
abbrev inFbus (c a : Nat) : Prop := 0x000C0000 + 0x10000 * c ≤ a ∧ a < 0x000C0000 + 0x10000 * (c + 1)

/-- The registers of Clasp and of the service port (R586). -/
abbrev inClasp (a : Nat) : Prop := 0x00100000 ≤ a ∧ a < 0x00200000

/-- What a management answer may touch: Clasp's and the service port's registers, and the queues. -/
abbrev inMgmt (a : Nat) : Prop := inClasp a ∨ inQueueBlocks a

/-- A request with header `h`, for operation `op`, that came by `o` may be executed here (R482 to R487, R492): its tenant is
served, its sequence is new, it names this device and no token, and no other command waits in its window. -/
def State.hostMay (s : State) (o : Origin) (op : Nat) (h : List Byte) : Bool :=
  s.up && decide (h.length = 32) && hostRow op o h && !(s.unconfigured && onRing o) && (s.tenant (tenantOf h)).enabled
    && (decide (tenantOf h ≠ 0) || s.owned || decide (o.link = 512)) && (s.hostWindow h).isSome && s.pending.isEmpty
    && s.win.early.isEmpty && decide (targetOf h = s.device) && decide (tokenOf h = 0)
    && (s.turnedAway true (tenantOf h) op (addressOf h)).isNone && !farHere (addressOf h)

/-- The request is taken: it is counted, and its sequence cannot come again (R486). -/
def State.hostTook (s t : State) (h : List Byte) : Bool :=
  t.get F.CLP_DEVICE_TRANSACTIONS_C = (s.get F.CLP_DEVICE_TRANSACTIONS_C + 1) % 2 ^ 48
    && t.get (F.CLP_TENANT_TRANSACTIONS_C (tenantOf h)) = (s.get (F.CLP_TENANT_TRANSACTIONS_C (tenantOf h)) + 1) % 2 ^ 48
    && Sparse.get (fun _ => none) t.units.clasp.seen (tenantOf h * 16 + hostOf h) = s.hostWindow h
    && !t.units.clasp.busy

/-- A host's request that came by the service port is answered with a STATUS and data, when the port takes frames (R482,
R483, R507). -/
def State.hostTold (s t : State) (o : Origin) (h k : List Byte) (status : Nat) (data : List Byte) : Bool :=
  if o.link = 512 ∧ s.is F.SVC_CFG_ENABLE = true ∧ s.units.svc.frames.length < 16 then
    t.units.svc.frames = s.units.svc.frames ++ [s.svcFrame o (sealMgmt k (hostIv h) (answerHeader h status 0) data)]
  else true

/-- The access stays below Clasp's registers, or between them and the queues. -/
abbrev offMgmt (a n : Nat) : Prop := a + n ≤ 0x00100000 ∨ (0x00200000 ≤ a ∧ a + n ≤ 0x08000000)

/-- Neither a data window, nor a register that a read captures (R576), nor one of the shadow bank (R187). -/
def plainRead (a n : Nat) : Bool :=
  (windowAt a).isNone && (touched a n).all (fun x => x.1 ≠ .FLT_RULE && x.1.row.fields.all (fun f => f.acc ≠ .snap))
    && (decide (a < 0x02100000) || decide (0x02200000 ≤ a))

/-- A write of the register starts nothing, and nothing else follows it. -/
def quietReg (r : Reg) : Bool :=
  !([Reg.PWR_CTRL, .PWR_RESET, .EMB_CTRL, .IMG_CTRL, .IMG_WRITE_CMD, .TLK_CFG, .TLK_TIMERS, .TLK_CTRL, .TLK_CMD_CTRL,
    .FLT_COMMIT, .STR_CTRL, .Q_CFG, .Q_CTRL, .GEY_PROG_CTRL, .LKT_CTRL, .LKT_PORT_CTRL, .LKT_REPLAY_CTRL, .LKT_STREAM_CFG,
    .LKT_WINDOW_W0, .LKT_WINDOW_CTRL, .LSN_PORT_CFG, .LSN_ENDPOINT_CTRL, .RNG_ENDPOINT_CTRL, .SIG_OWNER_CMD, .TIM_CTRL,
    .TIM_SET_CTRL, .TIM_CAL_CTRL, .TIM_PULSE_CTRL, .TIM_FOUT_CTRL, .EDG_CFG, .EDG_CTRL, .ILK_CFG, .ILK_CTRL, .UTL_CFG,
    .UTL_CTRL, .FBUS_CFG, .FBUS_CTRL, .FBUS_OBJ_CTRL, .SUP_FENCE_CTRL, .SUP_ISOLATION, .SUP_WAKE_CTRL, .TEN_CTRL,
    .DEV_CTRL, .TIM_LANE_ASYM, .TIM_LANE_CFG, .LSN_LINK_CFG, .RNG_CFG, .SUP_TIMERS, .SVC_CFG, .CLP_WATCH_CFG, .ENV_CFG,
    .Q_THRESHOLD, .RNG_PFC, .RNG_RELAY, .SIG_STREAM_CFG, .TIM_PTP_CFG, .TIM_PULSE_SHAPE, .EDG_OUT_SHAPE, .TIM_PORT_CFG,
    .UTL_PARAM, .FLT_RULE, .FLT_TENANT_RULES, .FLT_TENANT_SCOPE, .FLT_SOURCE_DEFAULT] : List Reg).contains r

/-- A write of the `n` bytes at `x`, all of one register that starts nothing. -/
def plainWrite (x : Reg × List Nat × Nat) (n : Nat) : Bool :=
  quietReg x.1 && decide (touched x.2.2 n = [x]) && decide (n = x.1.row.bytes) && (windowAt x.2.2).isNone
    && decide (regionOf x.2.2 ≠ 17)

/-- The fields that take a write of `v` hold it, clamped to their range (R569). -/
def State.tookWrite (s t : State) (w : Nat) (x : Reg × List Nat × Nat) (v : Word) : Bool :=
  x.1.row.fields.all (fun f => s.fate w x.1 x.2.1 x.2.2 v f ≠ .takes
    || getBits (t.rd x.2.2) f.msb f.lsb = f.take (getBits v f.msb f.lsb) % 2 ^ (f.msb + 1 - f.lsb))

/-- Field `f` of register `x` after a write of `v` by tenant `w`, by its access (R569, R571, R577 to R580): a field that
software may write takes the value clamped to its range, or keeps its own where the write is discarded; ones clear a
status bit; a counter is loaded; every other field keeps its value. The instance's WRITE_LOST bit is left to a clause
of its own. -/
def State.wroteField (s t : State) (w : Nat) (x : Reg × List Nat × Nat) (v : Word) (f : FieldRow) : Bool :=
  let old := getBits (s.rd x.2.2) f.msb f.lsb
  let new := getBits (t.rd x.2.2) f.msb f.lsb
  let ask := getBits v f.msb f.lsb
  let kept := s.reserved w x.1 x.2.1 x.2.2 f
  match f.acc with
  | .rw | .stg =>
    if kept || frozenField x.1 f || s.locked x.1 x.2.1 || s.clashes x.1 x.2.2 v f then new = old
    else new = f.take ask % 2 ^ (f.msb + 1 - f.lsb)
  | .rw1c => lostField x.2.2 x.2.1 = some ⟨x.2.2, f.msb, f.lsb⟩
      || new = (if kept then old else old &&& (2 ^ (f.msb + 1 - f.lsb) - 1 - ask))
  | .cnt => new = (if kept then old else ask)
  | _ => new = old

/-- The registers of the interlock outputs and the utility pins, which show the levels of their pins (R460). -/
abbrev inPins (a : Nat) : Prop := 0x00084000 ≤ a ∧ a < 0x00086000

/-- The supervisor's registers (R586). -/
abbrev inSup (a : Nat) : Prop := 0x00200000 ≤ a ∧ a < 0x01000000

/-- A notification queue (R226). -/
abbrev isNotify (q : Nat) : Prop := 2112 ≤ q ∧ q < 2144

/-- A lane listens for frames: it exists, holds lock, and is in ALIGNING or above but not in FAULT (R146, R147). -/
def State.laneListens (s : State) (l : Nat) : Bool :=
  s.hasLane l && decide (2 ≤ s.laneState l) && s.laneState l ≠ 8 && (s.lane l).locked

/-- A received frame carries the right CRC and no uncorrectable codeword (R113, R116). -/
def frameSound (rx : LaneRx) : Bool :=
  rx.uncorrectable = 0 && decide (12 ≤ rx.bytes.length)
    && num rx.bytes (rx.bytes.length - 4) 4 = crc32c (rx.bytes.take (rx.bytes.length - 4))

/-- A well-formed frame of a type in the lane's SESSION, on a lane that has linked (R117 to R119). -/
def State.frameTaken (s : State) (l : Nat) (rx : LaneRx) (ftype : Nat) : Bool :=
  s.laneListens l && decide (3 ≤ s.laneState l) && frameSound rx && frameOk rx.bytes
    && num rx.bytes 0 1 / 16 = ftype && num rx.bytes 6 2 = s.get (F.TLK_STATUS_SESSION l)

/-- The body of a frame. -/
def frameBody (f : List Byte) : List Byte := slice f 8 (f.length - 12)

/-- A step neither faults nor refuses. -/
def State.safe (s : State) : Prop := ∃ t, step s = .next t

end Sys2Proof.Machine
end

