-- ==== Sys2Proof/Certificates/Slice0/Obligations.lean ====
section
/-! DEFINITION. The statements for the provers: what each command does, where it completes, what it leaves alone, and what
every step keeps. -/

open Sys2Proof Sys2Proof.Machine

/-- A rise of VAON puts Ember and every register back to cold values and drives PWR_ON high; its loss clears Ember and lets PWR_ON float. A main supply that falls invalid, which was valid whether or not RAIL_OK showed it yet, clears its RAIL_OK bit and, while Ember is Active or Waking with VAON, resets the core, sets BROWNOUT, counts, and leaves Ember Waking (the state after a brown-out is deduced: log entry 6). An excursion of a valid supply sets its bit of PWR_EVENTS alone. When the rails are off Ember becomes Dormant or Listening dormant by MODE; rails still valid 5 s after PWR_ON went low set RAIL_STUCK. A VFLD, VAON or rail event whose condition does not hold changes nothing (log entry 7). -/
def Obligations.SupplyAndEmberEvents : Prop :=
  (∀ (s : State),
      (s.keep.ember.vaon = false) → 
      ∃ t, exec (.coldReset) s = .next t ∧
        (t.keep.ember.vaon = true) ∧
        (t.keep.ember.pwrOn = Drive.high) ∧
        (t.keep.ember.held = false) ∧
        (t.units = ({} : Units)) ∧
        (t.get F.PWR_STATUS_RAIL_OK = s.get F.PWR_STATUS_RAIL_OK) ∧
        (t.get F.EMB_WAKE_CAUSE_COLD = 1) ∧
        (t.keep.chron = s.keep.chron) ∧
        (∀ a, a ≠ F.PWR_STATUS_RAIL_OK.addr → t.rd a = resetWord a) ∧
        (∀ a, t.rdForce a = resetWord a) ∧
        t.flash = s.flash) ∧
  (∀ (s : State),
      (s.keep.ember.vaon = true) → exec (.coldReset) s = .next s) ∧
  (∀ (s : State),
      
      ∃ t, exec (.vaonLoss) s = .next t ∧
        (t.keep.ember.vaon = false) ∧
        (t.keep.ember.pwrOn = Drive.hiZ) ∧
        (t.keep.ember.held = false) ∧
        (t.keep.ember.rstLow = s.keep.ember.rstLow) ∧
        (t.units = s.units) ∧
        (∀ a, t.rd a = if emberAddr a then resetWord a else s.rd a) ∧
        t.flash = s.flash) ∧
  (∀ (s : State) (rail : Nat),
      (rail < 6) → (s.ember = embActive ∨ s.ember = embWaking) → (s.keep.ember.vaon = true) → 
      ∃ t, exec (.brownout rail) s = .next t ∧
        (t.get F.PWR_STATUS_RAIL_OK = if (s.get F.PWR_STATUS_RAIL_OK).testBit rail then s.get F.PWR_STATUS_RAIL_OK - 2 ^ rail else s.get F.PWR_STATUS_RAIL_OK) ∧
        (t.get F.PWR_STATUS_LOCAL_READY = 0) ∧
        (t.ember = embWaking) ∧
        (t.get F.EMB_WAKE_CAUSE_BROWNOUT = 1) ∧
        (t.get F.EMB_BROWNOUT_CNT_COUNT = (s.get F.EMB_BROWNOUT_CNT_COUNT + 1) % 2 ^ 48) ∧
        (t.keep.ember.watchdog = none) ∧
        (t.keep.chron = s.keep.chron) ∧
        t.flash = s.flash) ∧
  (∀ (s : State) (rail : Nat),
      (rail < 6) → (s.ember ≠ embActive) → (s.ember ≠ embWaking) → 
      ∃ t, exec (.brownout rail) s = .next t ∧
        (t.get F.PWR_STATUS_RAIL_OK = if (s.get F.PWR_STATUS_RAIL_OK).testBit rail then s.get F.PWR_STATUS_RAIL_OK - 2 ^ rail else s.get F.PWR_STATUS_RAIL_OK) ∧
        (t.keep = s.keep) ∧
        (t.units = s.units) ∧
        (∀ a, ¬ (a = F.PWR_STATUS_RAIL_OK.addr) → t.rd a = s.rd a) ∧
        t.flash = s.flash) ∧
  (∀ (s : State) (rail : Nat),
      (6 ≤ rail) → exec (.brownout rail) s = .next s) ∧
  (∀ (s : State) (rail : Nat) (high : Bool),
      (rail < 7) → ((s.get F.PWR_STATUS_RAIL_OK).testBit rail = true) → 
      ∃ t, exec (.supplyExcursion rail high) s = .next t ∧
        (t.keep = s.keep) ∧
        (t.units = s.units) ∧
        (t.out = s.out) ∧
        (∀ i, i < 64 → (t.rd F.PWR_EVENTS_OVER.addr).getLsbD i = ((s.rd F.PWR_EVENTS_OVER.addr).getLsbD i || decide (i = if high then rail + 8 else rail))) ∧
        (∀ a, ¬ (a = F.PWR_EVENTS_OVER.addr) → t.rd a = s.rd a) ∧
        t.flash = s.flash) ∧
  (∀ (s : State) (rail : Nat) (high : Bool),
      (7 ≤ rail ∨ (s.get F.PWR_STATUS_RAIL_OK).testBit rail = false) → exec (.supplyExcursion rail high) s = .next s) ∧
  (∀ (s : State),
      (s.ember = embEntering) → 
      ∃ t, exec (.mainRailsOff) s = .next t ∧
        (t.get F.PWR_STATUS_RAIL_OK = s.get F.PWR_STATUS_RAIL_OK / 64 * 64) ∧
        (t.ember = if s.keep.ember.listening then embListening else embDormant) ∧
        (t.keep.ember.offAt = s.keep.elapsed) ∧
        (t.units = s.units) ∧
        (t.out = s.out) ∧
        (∀ a, ¬ (a = F.PWR_STATUS_RAIL_OK.addr ∨ a = F.EMB_STATUS_STATE.addr) → t.rd a = s.rd a) ∧
        t.flash = s.flash) ∧
  (∀ (s : State),
      (s.ember ≠ embEntering) → exec (.mainRailsOff) s = .next s) ∧
  (∀ (s : State),
      (s.ember = embEntering) → (s.get F.PWR_STATUS_RAIL_OK % 64 ≠ 0) → (s.keep.ember.lowAt + 5 * tickS ≤ s.keep.elapsed) → 
      ∃ t, exec (.railStuck) s = .next t ∧
        (t.get F.EMB_WAKE_CAUSE_RAIL_STUCK = 1) ∧
        (t.keep.ember.stuck = true) ∧
        (t.ember = embEntering) ∧
        (t.units = s.units) ∧
        (∀ a, ¬ (a = F.EMB_WAKE_CAUSE_RAIL_STUCK.addr) → t.rd a = s.rd a) ∧
        t.flash = s.flash) ∧
  (∀ (s : State),
      (s.ember ≠ embEntering ∨ s.get F.PWR_STATUS_RAIL_OK % 64 = 0 ∨ s.keep.elapsed < s.keep.ember.lowAt + 5 * tickS) → exec (.railStuck) s = .next s)

/-- A complete wake frame is counted and compared with the slots: in Dormant and Listening dormant a match sets the cause bits of its slots, leaves Ember Waking and drives PWR_ON high; in the dormancy entry the cause is latched and the wake waits for the rails, and follows 10 ms after they went off. An abandoned frame counts in EMB_WAKE_ERRORS alone. A service-port frame with 32 client bytes and a valid FCS is compared in the same way where the receiver has a supply; one that fails its FCS counts as an error only while Ember listens. Where the main rails never fell (RAIL_STUCK), a match starts the core again. SLOT_COMMIT makes a commit pending (one in the window of the boundary of a pending commit takes the boundary after it), and its application copies each slot into force, checks its CRC and clears the pending bit. A voted supervisor heartbeat restarts an armed watchdog. Ember hears nothing without VAON (log entry 7). -/
def Obligations.WakeFramesAndSlots : Prop :=
  (∀ (s : State) (train : List (Nat × Nat)),
      (s.keep.ember.vaon = true) → (decodeTrain train = [none]) → 
      ∃ t, exec (.wakeFrame train) s = .next t ∧
        (t.get F.EMB_WAKE_ERRORS_COUNT = (s.get F.EMB_WAKE_ERRORS_COUNT + 1) % 2 ^ 48) ∧
        (t.keep = s.keep) ∧
        (t.out = s.out) ∧
        (∀ a, ¬ (a = F.EMB_WAKE_ERRORS_COUNT.addr ∨ 0x08000000 ≤ a) → t.rd a = s.rd a) ∧
        t.flash = s.flash) ∧
  (∀ (s : State) (train : List (Nat × Nat)) (b : List Byte) (sl : Nat),
      (s.keep.ember.vaon = true) → (decodeTrain train = [some b]) → (s.ember = embDormant ∨ s.ember = embListening) → (s.mainsValid = false) → (s.keep.ember.wakeWait = false) → (s.win.woke = false) → (sl < 4) → (s.slotMatches false sl b = true) → 
      ∃ t, exec (.wakeFrame train) s = .next t ∧
        (t.get F.EMB_WAKE_FRAMES_COUNT = (s.get F.EMB_WAKE_FRAMES_COUNT + 1) % 2 ^ 48) ∧
        ((t.get F.EMB_WAKE_CAUSE_PIN_SLOT).testBit sl = true) ∧
        (t.ember = embWaking) ∧
        (t.keep.ember.pwrOn = Drive.high) ∧
        (∀ a, ¬ (a = F.EMB_WAKE_FRAMES_COUNT.addr ∨ a = F.EMB_WAKE_CAUSE_PIN_SLOT.addr ∨ a = F.EMB_STATUS_STATE.addr ∨ 0x08000000 ≤ a) → t.rd a = s.rd a) ∧
        t.flash = s.flash) ∧
  (∀ (s : State) (train : List (Nat × Nat)) (b : List Byte) (sl : Nat),
      (s.keep.ember.vaon = true) → (decodeTrain train = [some b]) → (s.ember = embEntering) → (s.keep.ember.stuck = false) → (s.win.woke = false) → (sl < 4) → (s.slotMatches false sl b = true) → 
      ∃ t, exec (.wakeFrame train) s = .next t ∧
        (t.get F.EMB_WAKE_FRAMES_COUNT = (s.get F.EMB_WAKE_FRAMES_COUNT + 1) % 2 ^ 48) ∧
        ((t.get F.EMB_WAKE_CAUSE_PIN_SLOT).testBit sl = true) ∧
        (t.ember = embEntering) ∧
        (t.keep.ember.pwrOn = s.keep.ember.pwrOn) ∧
        (t.keep.ember.wakeWait = true) ∧
        t.flash = s.flash) ∧
  (∀ (s : State) (train : List (Nat × Nat)) (b : List Byte) (sl : Nat),
      (s.keep.ember.vaon = true) → (decodeTrain train = [some b]) → (s.ember = embEntering) → (s.keep.ember.stuck = true) → (s.mainsValid = true) → (s.keep.ember.held = false) → (s.keep.ember.rstLow = false) → (s.win.woke = false) → (sl < 4) → (s.slotMatches false sl b = true) → 
      ∃ t, exec (.wakeFrame train) s = .next t ∧
        ((t.get F.EMB_WAKE_CAUSE_PIN_SLOT).testBit sl = true) ∧
        (t.keep.ember.pwrOn = Drive.high) ∧
        (t.up = true ∨ t.keep.ember.starting = true)) ∧
  (∀ (s : State) (train : List (Nat × Nat)) (b : List Byte),
      (s.keep.ember.vaon = true) → (decodeTrain train = [some b]) → (s.matching false b = []) → 
      ∃ t, exec (.wakeFrame train) s = .next t ∧
        (t.get F.EMB_WAKE_FRAMES_COUNT = (s.get F.EMB_WAKE_FRAMES_COUNT + 1) % 2 ^ 48) ∧
        (t.keep = s.keep) ∧
        (∀ a, ¬ (a = F.EMB_WAKE_FRAMES_COUNT.addr ∨ 0x08000000 ≤ a) → t.rd a = s.rd a) ∧
        t.flash = s.flash) ∧
  (∀ (s : State) (train : List (Nat × Nat)),
      (s.keep.ember.vaon = false) → exec (.wakeFrame train) s = .next s) ∧
  (∀ (s : State),
      (s.keep.ember.vaon = true) → 
      ∃ t, exec (.wakeFrameAbandonment) s = .next t ∧
        (t.get F.EMB_WAKE_ERRORS_COUNT = (s.get F.EMB_WAKE_ERRORS_COUNT + 1) % 2 ^ 48) ∧
        (t.keep = s.keep) ∧
        (t.out = s.out) ∧
        (∀ a, ¬ (a = F.EMB_WAKE_ERRORS_COUNT.addr ∨ 0x08000000 ≤ a) → t.rd a = s.rd a) ∧
        t.flash = s.flash) ∧
  (∀ (s : State),
      (s.keep.ember.vaon = false) → exec (.wakeFrameAbandonment) s = .next s) ∧
  (∀ (s : State) (frame : List Byte) (sl : Nat),
      (s.keep.ember.vaon = true) → (s.ember = embListening) → (s.mainsValid = false) → (s.keep.ember.wakeWait = false) → (s.win.woke = false) → (46 ≤ frame.length) → (sl < 4) → (s.slotMatches true sl ((frame.drop 14).take 32) = true) → 
      ∃ t, exec (.svcWakeFrame frame true) s = .next t ∧
        (t.get F.EMB_WAKE_FRAMES_COUNT = (s.get F.EMB_WAKE_FRAMES_COUNT + 1) % 2 ^ 48) ∧
        ((t.get F.EMB_WAKE_CAUSE_SVC_SLOT).testBit sl = true) ∧
        (t.ember = embWaking) ∧
        (t.keep.ember.pwrOn = Drive.high) ∧
        t.flash = s.flash) ∧
  (∀ (s : State) (frame : List Byte),
      (s.keep.ember.vaon = true) → (s.ember = embListening) → 
      ∃ t, exec (.svcWakeFrame frame false) s = .next t ∧
        (t.get F.EMB_WAKE_ERRORS_COUNT = (s.get F.EMB_WAKE_ERRORS_COUNT + 1) % 2 ^ 48) ∧
        (t.keep = s.keep) ∧
        (∀ a, ¬ (a = F.EMB_WAKE_ERRORS_COUNT.addr ∨ 0x08000000 ≤ a) → t.rd a = s.rd a) ∧
        t.flash = s.flash) ∧
  (∀ (s : State) (frame : List Byte) (ok : Bool),
      (s.keep.ember.vaon = false ∨ s.ember = embDormant ∨ (ok = false ∧ s.ember ≠ embListening) ∨ (ok = true ∧ frame.length < 46)) → exec (.svcWakeFrame frame ok) s = .next s) ∧
  (∀ (s : State),
      (s.keep.ember.wakeWait = true) → (s.ember = embDormant ∨ s.ember = embListening) → (s.keep.ember.offAt + 10 * tickMs ≤ s.keep.elapsed) → 
      ∃ t, exec (.wakeRailWaitExpiry) s = .next t ∧
        (t.ember = embWaking) ∧
        (t.keep.ember.pwrOn = if s.keep.ember.vaon then Drive.high else Drive.hiZ) ∧
        (t.keep.ember.wakeWait = false) ∧
        (t.units = s.units) ∧
        (∀ a, ¬ (a = F.EMB_STATUS_STATE.addr) → t.rd a = s.rd a) ∧
        t.flash = s.flash) ∧
  (∀ (s : State),
      (s.keep.ember.wakeWait = false ∨ s.keep.elapsed < s.keep.ember.offAt + 10 * tickMs) → exec (.wakeRailWaitExpiry) s = .next s) ∧
  (∀ (s : State) (w : Nat) (v : Word),
      (s.hasRight w F.EMB_CTRL_SLOT_COMMIT.addr = true) → (getBits v 0 0 = 1) → (s.get F.EMB_STATUS_COMMIT_PENDING = 0) → (s.pending = []) → (s.get F.IMG_VOLATILE_WRITES_COUNT + 1 < 2 ^ 47) → 
      ∃ t, exec (.slotCommit w v) s = .next t ∧
        (t.get F.EMB_CTRL_SLOT_COMMIT = 1) ∧
        (t.get F.EMB_STATUS_COMMIT_PENDING = 1) ∧
        (t.keep = s.keep) ∧
        (t.units = s.units) ∧
        (∀ a, ¬ (a = F.EMB_CTRL_SLOT_COMMIT.addr ∨ a = F.EMB_STATUS_COMMIT_PENDING.addr ∨ a = F.IMG_VOLATILE_WRITES_COUNT.addr) → t.rd a = s.rd a) ∧
        t.flash = s.flash) ∧
  (∀ (s : State) (w : Nat) (v : Word),
      (s.hasRight w F.EMB_CTRL_SLOT_COMMIT.addr = false ∨ getBits v 0 0 = 0 ∨ (s.get F.EMB_STATUS_COMMIT_PENDING ≠ 0 ∧ s.pending = [])) → (s.get F.IMG_VOLATILE_WRITES_COUNT + 1 < 2 ^ 47) → 
      ∃ t, exec (.slotCommit w v) s = .next t ∧
        (t.units = s.units) ∧
        (t.keep = s.keep) ∧
        (t.force = s.force) ∧
        (t.out = s.out) ∧
        (∀ a, ¬ (a = F.IMG_VOLATILE_WRITES_COUNT.addr) → t.rd a = s.rd a) ∧
        t.flash = s.flash) ∧
  (∀ (s : State) (w : Nat) (v : Word) (sl : Nat),
      (s.hasRight w F.EMB_CTRL_SLOT_COMMIT.addr = true) → (getBits v 0 0 = 1) → (s.get F.EMB_STATUS_COMMIT_PENDING ≠ 0) → (s.pending = [.slotCommitApply]) → (s.win.marks = []) → (sl < 4) → 
      ∃ t, exec (.slotCommit w v) s = .next t ∧
        (t.get F.EMB_STATUS_COMMIT_PENDING = 1) ∧
        (t.live (F.EMB_SLOT_CHECK_CHECK sl) = s.get (F.EMB_SLOT_CHECK_CHECK sl)) ∧
        t.flash = s.flash) ∧
  (∀ (s : State) (sl : Nat),
      (s.get F.EMB_STATUS_COMMIT_PENDING ≠ 0) → (s.win.marks = []) → (sl < 4) → 
      ∃ t, exec (.slotCommitApply) s = .next t ∧
        (t.get F.EMB_STATUS_COMMIT_PENDING = 0) ∧
        (t.get F.EMB_CTRL_SLOT_COMMIT = 0) ∧
        (t.live (F.EMB_SLOT_CHECK_CHECK sl) = s.get (F.EMB_SLOT_CHECK_CHECK sl)) ∧
        (t.live (F.EMB_SLOT_CHECK_MASK sl) = s.get (F.EMB_SLOT_CHECK_MASK sl)) ∧
        (t.live (F.EMB_SLOT_CTRL_PIN_EN sl) = s.get (F.EMB_SLOT_CTRL_PIN_EN sl)) ∧
        (t.live (F.EMB_SLOT_CTRL_SVC_EN sl) = s.get (F.EMB_SLOT_CTRL_SVC_EN sl)) ∧
        ((t.get F.EMB_STATUS_SLOT_CHECK_FAULT).testBit sl = decide (s.stagedSlotCrc sl ≠ s.get (F.EMB_SLOT_CHECK_CHECK sl))) ∧
        (t.keep = s.keep) ∧
        (t.units = s.units) ∧
        (∀ w, w < 4 → t.live (F.EMB_SLOT_WINDOW_BYTES sl w) = s.get (F.EMB_SLOT_WINDOW_BYTES sl w)) ∧
        (∀ a, ¬ (a = F.EMB_CTRL_SLOT_COMMIT.addr ∨ a = F.EMB_STATUS_COMMIT_PENDING.addr) → t.rd a = s.rd a) ∧
        t.flash = s.flash) ∧
  (∀ (s : State),
      (s.get F.EMB_STATUS_COMMIT_PENDING = 0 ∨ s.win.marks.contains (10, 0) = true) → exec (.slotCommitApply) s = .next s) ∧
  (∀ (s : State),
      (s.up = true) → (s.units.sup.voteFailed = false) → 
      ∃ t, exec (.emberHeartbeat) s = .next t ∧
        (t.keep.ember.watchdog = s.keep.ember.watchdog.map (fun _ => s.keep.elapsed)) ∧
        (t.regs = s.regs) ∧
        (t.units = s.units) ∧
        (t.out = s.out) ∧
        t.flash = s.flash) ∧
  (∀ (s : State),
      (s.up = false ∨ s.units.sup.voteFailed = true) → exec (.emberHeartbeat) s = .next s)

/-- When the last main supply becomes valid and Ember lets the core start, the start sequence runs: at up to 1 s it reaches local ready (LOCAL_READY, PWR_START_TIME, Ember Active, the watchdog armed), beyond it the start is left under way for its timeout. The wake-cause latch and the Ember counters stay. A fresh slot has TRIED marked. Without a slot marked WRITTEN the device ends Unconfigured with role kind 4. A timeout repeats the start, and the third failure in a row holds the core with START_FAIL and PWR_ON high. A low pulse of RST_N under 200 ns does nothing, one of 1 microsecond or more is a pin reset that ends a hold, and one between is one or the other. When RST_N rises the start runs again. How long a start takes is an operand of the command (log entry 8); a start that cannot begin only shows the rails valid. -/
def Obligations.StartSequences : Prop :=
  (∀ (s : State) (run : StartRun),
      (s.keep.ember.vaon = true) → (s.keep.ember.rstLow = false) → (s.keep.ember.held = false) → (s.keep.ember.starting = false) → (s.up = false) → (s.ember = embActive ∨ s.ember = embWaking) → 
      ∃ t, exec (.start run) s = .next t ∧
        (t.startedBy run s.keep.elapsed = true) ∧
        (t.get F.PWR_STATUS_RAIL_OK = s.get F.PWR_STATUS_RAIL_OK / 64 * 64 + 63) ∧
        (t.rd F.EMB_WAKE_CAUSE_COLD.addr = s.rd F.EMB_WAKE_CAUSE_COLD.addr) ∧
        (t.rd F.EMB_WAKE_FRAMES_COUNT.addr = s.rd F.EMB_WAKE_FRAMES_COUNT.addr) ∧
        (t.rd F.EMB_WAKE_ERRORS_COUNT.addr = s.rd F.EMB_WAKE_ERRORS_COUNT.addr) ∧
        (t.rd F.EMB_BROWNOUT_CNT_COUNT.addr = s.rd F.EMB_BROWNOUT_CNT_COUNT.addr) ∧
        (run.micros ≤ 1000000 → s.slotOrder.2 = true → t.marked s.slotOrder.1 1 = true)) ∧
  (∀ (s : State) (run : StartRun),
      (s.keep.ember.vaon = true) → (s.keep.ember.rstLow = false) → (s.keep.ember.held = false) → (s.keep.ember.starting = false) → (s.up = false) → (s.ember = embActive ∨ s.ember = embWaking) → (run.micros ≤ 1000000) → (s.marked 0 0 = false) → (s.marked 1 0 = false) → 
      ∃ t, exec (.start run) s = .next t ∧
        (t.get F.IMG_STATUS_STATE = 3) ∧
        (t.get F.SUP_ROLE_STATUS_KIND = 4) ∧
        t.flash = s.flash) ∧
  (∀ (s : State) (run : StartRun),
      (s.keep.ember.vaon = false ∨ s.up = true ∨ s.keep.ember.starting = true) → exec (.start run) s = .next s) ∧
  (∀ (s : State) (run : StartRun),
      (s.keep.ember.vaon = true) → (s.up = false) → (s.keep.ember.starting = false) → (s.keep.ember.rstLow = true ∨ s.keep.ember.held = true ∨ (s.ember ≠ embActive ∧ s.ember ≠ embWaking)) → 
      ∃ t, exec (.start run) s = .next t ∧
        (t.get F.PWR_STATUS_RAIL_OK = s.get F.PWR_STATUS_RAIL_OK / 64 * 64 + 63) ∧
        (t.keep = s.keep) ∧
        (t.units = s.units) ∧
        (∀ a, ¬ (a = F.PWR_STATUS_RAIL_OK.addr) → t.rd a = s.rd a) ∧
        t.flash = s.flash) ∧
  (∀ (s : State) (run : StartRun),
      (s.keep.ember.starting = true) → (2 ≤ s.keep.ember.fails) → 
      ∃ t, exec (.startTimeout run) s = .next t ∧
        (t.keep.ember.held = true) ∧
        (t.keep.ember.pwrOn = if s.keep.ember.vaon then Drive.high else Drive.hiZ) ∧
        (t.keep.ember.starting = false) ∧
        (t.up = false) ∧
        (t.get F.EMB_WAKE_CAUSE_START_FAIL = 1) ∧
        t.flash = s.flash) ∧
  (∀ (s : State) (run : StartRun),
      (s.keep.ember.starting = true) → (s.keep.ember.fails < 2) → (s.coreMayStart = true) → 
      ∃ t, exec (.startTimeout run) s = .next t ∧
        (t.startedBy run s.keep.elapsed = true) ∧
        (t.keep.ember.held = s.keep.ember.held) ∧
        (1000000 < run.micros → t.keep.ember.fails = s.keep.ember.fails + 1) ∧
        (t.rd F.EMB_WAKE_CAUSE_COLD.addr = s.rd F.EMB_WAKE_CAUSE_COLD.addr) ∧
        (t.rd F.EMB_WAKE_FRAMES_COUNT.addr = s.rd F.EMB_WAKE_FRAMES_COUNT.addr) ∧
        (t.rd F.EMB_WAKE_ERRORS_COUNT.addr = s.rd F.EMB_WAKE_ERRORS_COUNT.addr) ∧
        (t.rd F.EMB_BROWNOUT_CNT_COUNT.addr = s.rd F.EMB_BROWNOUT_CNT_COUNT.addr)) ∧
  (∀ (s : State) (run : StartRun),
      (s.keep.ember.starting = false) → exec (.startTimeout run) s = .next s) ∧
  (∀ (s : State) (n : Nat),
      (s.keep.ember.vaon = true) → (1000 ≤ n) → 
      ∃ t, exec (.pinReset n) s = .next t ∧
        (t.keep.ember.rstLow = true) ∧
        (t.keep.ember.held = false) ∧
        (t.keep.ember.watchdog = none) ∧
        (t.up = false) ∧
        (t.get F.EMB_WAKE_CAUSE_PIN_RESET = 1) ∧
        (t.units = ({} : Units)) ∧
        (t.ember = s.ember) ∧
        (t.keep.chron = s.keep.chron) ∧
        (∀ a, ¬ (emberAddr a = false ∨ a = F.EMB_WAKE_CAUSE_PIN_RESET.addr) → t.rd a = s.rd a) ∧
        t.flash = s.flash) ∧
  (∀ (s : State) (n : Nat),
      (s.keep.ember.vaon = true) → (200 ≤ n) → (n < 1000) → 
      ∃ t, exec (.pinReset n) s = .next t ∧
        (t = { s with free := s.free + 1 } ∨ (t.keep.ember.rstLow = true ∧ t.up = false ∧ t.get F.EMB_WAKE_CAUSE_PIN_RESET = 1 ∧ t.units = ({} : Units))) ∧
        t.flash = s.flash) ∧
  (∀ (s : State) (n : Nat),
      (s.keep.ember.vaon = false ∨ n < 200) → exec (.pinReset n) s = .next s) ∧
  (∀ (s : State) (run : StartRun),
      (s.keep.ember.rstLow = true) → (s.up = false) → (s.keep.ember.vaon = true) → (s.keep.ember.held = false) → (s.mainsValid = true) → (s.ember = embActive ∨ s.ember = embWaking) → (s.keep.ember.watchdog = none) → 
      ∃ t, exec (.rstRelease run) s = .next t ∧
        (t.keep.ember.rstLow = false) ∧
        (t.startedBy run s.keep.elapsed = true) ∧
        (t.rd F.EMB_WAKE_CAUSE_COLD.addr = s.rd F.EMB_WAKE_CAUSE_COLD.addr) ∧
        (t.rd F.EMB_WAKE_FRAMES_COUNT.addr = s.rd F.EMB_WAKE_FRAMES_COUNT.addr) ∧
        (t.rd F.EMB_WAKE_ERRORS_COUNT.addr = s.rd F.EMB_WAKE_ERRORS_COUNT.addr) ∧
        (t.rd F.EMB_BROWNOUT_CNT_COUNT.addr = s.rd F.EMB_BROWNOUT_CNT_COUNT.addr)) ∧
  (∀ (s : State) (run : StartRun),
      (s.keep.ember.rstLow = true) → (s.up = true ∨ s.keep.ember.vaon = false ∨ s.keep.ember.held = true ∨ s.mainsValid = false ∨ (s.ember ≠ embActive ∧ s.ember ≠ embWaking)) → 
      ∃ t, exec (.rstRelease run) s = .next t ∧
        (t.keep.ember.rstLow = false) ∧
        (t.regs = s.regs) ∧
        (t.units = s.units) ∧
        t.flash = s.flash) ∧
  (∀ (s : State) (run : StartRun),
      (s.keep.ember.rstLow = false) → exec (.rstRelease run) s = .next s)

/-- T0 with the key resets the device: the core starts again and Ember keeps its wake causes and counters; a full reset puts Ember back too, with COLD set. The Ember watchdog resets the core with WATCHDOG set 1.9 s or more after the last heartbeat (the tolerance of R63; log entry 9). A trial image not confirmed at its deadline ends in a device reset. A dormancy request of T0 with the key stops the device: Ember enters dormancy with PWR_ON low and the chosen MODE, the core is reset, and the chronicle has an entry of KIND 0x02; a wrong key or another writer only sets RESULT. A spare enters dormancy 1 s after local ready, or 10 s when it waits for an assignment. Commands whose conditions do not hold change nothing (log entry 7). -/
def Obligations.DeviceFullAndWatchdogResets : Prop :=
  (∀ (s : State) (v : Word) (run : StartRun),
      (s.up = true) → (getBits v 31 16 = 0xA5C3) → (getBits v 1 0 = 1) → 
      ∃ t, exec (.deviceReset 0 v run) s = .next t ∧
        (if s.coreMayStart then t.startedBy run s.keep.elapsed = true else t.up = false) ∧
        (t.keep.ember.resetKind = 3) ∧
        (t.rd F.EMB_WAKE_CAUSE_COLD.addr = s.rd F.EMB_WAKE_CAUSE_COLD.addr) ∧
        (t.rd F.EMB_WAKE_FRAMES_COUNT.addr = s.rd F.EMB_WAKE_FRAMES_COUNT.addr) ∧
        (t.rd F.EMB_WAKE_ERRORS_COUNT.addr = s.rd F.EMB_WAKE_ERRORS_COUNT.addr) ∧
        (t.rd F.EMB_BROWNOUT_CNT_COUNT.addr = s.rd F.EMB_BROWNOUT_CNT_COUNT.addr)) ∧
  (∀ (s : State) (w : Nat) (v : Word) (run : StartRun),
      (s.up = false ∨ w ≠ 0 ∨ getBits v 31 16 ≠ 0xA5C3 ∨ getBits v 1 0 ≠ 1) → (s.get F.IMG_VOLATILE_WRITES_COUNT + 1 < 2 ^ 47) → 
      ∃ t, exec (.deviceReset w v run) s = .next t ∧
        (t.units = s.units) ∧
        (t.keep = s.keep) ∧
        (t.force = s.force) ∧
        (t.out = s.out) ∧
        (∀ a, ¬ (a = F.IMG_VOLATILE_WRITES_COUNT.addr) → t.rd a = s.rd a) ∧
        t.flash = s.flash) ∧
  (∀ (s : State) (v : Word) (run : StartRun),
      (s.up = true) → (getBits v 31 16 = 0xA5C3) → (getBits v 1 0 = 2) → 
      ∃ t, exec (.fullReset 0 v run) s = .next t ∧
        (if s.keep.ember.vaon && !s.keep.ember.rstLow && s.mainsValid then t.startedBy run s.keep.elapsed = true else t.up = false) ∧
        (t.keep.ember.resetKind = 4) ∧
        (t.get F.EMB_WAKE_CAUSE_COLD = 1) ∧
        (t.get F.EMB_WAKE_FRAMES_COUNT = 0) ∧
        (t.get F.EMB_BROWNOUT_CNT_COUNT = 0)) ∧
  (∀ (s : State) (w : Nat) (v : Word) (run : StartRun),
      (s.up = false ∨ w ≠ 0 ∨ getBits v 31 16 ≠ 0xA5C3 ∨ getBits v 1 0 ≠ 2) → (s.get F.IMG_VOLATILE_WRITES_COUNT + 1 < 2 ^ 47) → 
      ∃ t, exec (.fullReset w v run) s = .next t ∧
        (t.units = s.units) ∧
        (t.keep = s.keep) ∧
        (t.force = s.force) ∧
        (t.out = s.out) ∧
        (∀ a, ¬ (a = F.IMG_VOLATILE_WRITES_COUNT.addr) → t.rd a = s.rd a) ∧
        t.flash = s.flash) ∧
  (∀ (s : State) (run : StartRun) (at_ : Nat),
      (s.keep.ember.watchdog = some at_) → (at_ + 1900 * tickMs ≤ s.keep.elapsed) → 
      ∃ t, exec (.watchdogReset run) s = .next t ∧
        (if s.coreMayStart then t.startedBy run s.keep.elapsed = true else t.up = false) ∧
        (t.keep.ember.resetKind = 5) ∧
        (t.get F.EMB_WAKE_CAUSE_WATCHDOG = 1) ∧
        (t.rd F.EMB_BROWNOUT_CNT_COUNT.addr = s.rd F.EMB_BROWNOUT_CNT_COUNT.addr)) ∧
  (∀ (s : State) (run : StartRun),
      (∀ at_ ∈ s.keep.ember.watchdog, s.keep.elapsed < at_ + 1900 * tickMs) → exec (.watchdogReset run) s = .next s) ∧
  (∀ (s : State) (run : StartRun) (d : Nat),
      (s.units.imgDeadline = some d) → (s.get F.IMG_STATUS_STATE = 2) → (d ≤ s.keep.elapsed) → (s.pending = []) → 
      ∃ t, exec (.confirmWindowExpiry run) s = .next t ∧
        (if s.coreMayStart then t.startedBy run s.keep.elapsed = true else t.up = false) ∧
        (t.keep.ember.resetKind = 3)) ∧
  (∀ (s : State) (run : StartRun),
      ((∀ d ∈ s.units.imgDeadline, s.keep.elapsed < d) ∨ s.get F.IMG_STATUS_STATE ≠ 2 ∨ (∃ c ∈ s.pending, c = .imgConfirm 0 0xA5C30001)) → exec (.confirmWindowExpiry run) s = .next s) ∧
  (∀ (s : State) (v : Word),
      (s.up = true) → (getBits v 0 0 = 1) → (getBits v 31 16 = 0xA5C3) → (s.get F.IMG_VOLATILE_WRITES_COUNT + 1 < 2 ^ 47) → 
      ∃ t, exec (.dormancyRequest 0 v) s = .next t ∧
        (t.ember = embEntering) ∧
        (t.up = false) ∧
        (t.keep.ember.pwrOn = if s.keep.ember.vaon then Drive.low else Drive.hiZ) ∧
        (t.keep.ember.listening = decide (getBits v 4 4 = 1)) ∧
        (t.keep.ember.lowAt = s.keep.elapsed) ∧
        (t.units = ({} : Units)) ∧
        (t.keep.chronSeq = s.keep.chronSeq + 1) ∧
        ((t.keep.chron.head?.map (fun e => (e.kind, e.seq))) = some (0x02, s.keep.chronSeq + 1)) ∧
        t.flash = s.flash) ∧
  (∀ (s : State) (v : Word),
      (s.up = true) → (getBits v 0 0 = 1) → (getBits v 31 16 ≠ 0xA5C3) → 
      ∃ t, exec (.dormancyRequest 0 v) s = .next t ∧
        (t.get F.PWR_CMD_STATUS_RESULT = 2) ∧
        (t.get F.PWR_CTRL_MODE = getBits v 4 4) ∧
        (t.keep = s.keep) ∧
        (∀ a, ¬ (a = F.PWR_CTRL_MODE.addr ∨ a = F.PWR_CMD_STATUS_RESULT.addr ∨ a = F.IMG_VOLATILE_WRITES_COUNT.addr ∨ 0x08000000 ≤ a) → t.rd a = s.rd a) ∧
        t.flash = s.flash) ∧
  (∀ (s : State) (w : Nat) (v : Word),
      (s.up = true) → (w ≠ 0) → (s.hasRight w F.PWR_CTRL_START.addr = true) → (getBits v 0 0 = 1) → 
      ∃ t, exec (.dormancyRequest w v) s = .next t ∧
        (t.get F.PWR_CMD_STATUS_RESULT = 3) ∧
        (t.get F.PWR_CTRL_MODE = getBits v 4 4) ∧
        (t.keep = s.keep) ∧
        (∀ a, ¬ (a = F.PWR_CTRL_MODE.addr ∨ a = F.PWR_CMD_STATUS_RESULT.addr ∨ a = F.IMG_VOLATILE_WRITES_COUNT.addr ∨ 0x08000000 ≤ a) → t.rd a = s.rd a) ∧
        t.flash = s.flash) ∧
  (∀ (s : State) (w : Nat) (v : Word),
      (s.up = true) → (s.hasRight w F.PWR_CTRL_START.addr = true) → (getBits v 0 0 = 0) → 
      ∃ t, exec (.dormancyRequest w v) s = .next t ∧
        (t.get F.PWR_CTRL_MODE = getBits v 4 4) ∧
        (t.keep = s.keep) ∧
        (∀ a, ¬ (a = F.PWR_CTRL_MODE.addr ∨ a = F.IMG_VOLATILE_WRITES_COUNT.addr ∨ 0x08000000 ≤ a) → t.rd a = s.rd a) ∧
        t.flash = s.flash) ∧
  (∀ (s : State) (w : Nat) (v : Word),
      (s.up = false ∨ s.hasRight w F.PWR_CTRL_START.addr = false) → (s.get F.IMG_VOLATILE_WRITES_COUNT + 1 < 2 ^ 47) → 
      ∃ t, exec (.dormancyRequest w v) s = .next t ∧
        (t.units = s.units) ∧
        (t.keep = s.keep) ∧
        (t.force = s.force) ∧
        (t.out = s.out) ∧
        (∀ a, ¬ (a = F.IMG_VOLATILE_WRITES_COUNT.addr) → t.rd a = s.rd a) ∧
        t.flash = s.flash) ∧
  (∀ (s : State),
      (s.up = true) → (s.get F.SUP_ROLE_STATUS_KIND = 2) → (s.get F.SUP_ROLE_STATUS_ASSIGN_WAIT = 0) → (s.units.sup.readyAt + tickS ≤ s.keep.elapsed) → 
      ∃ t, exec (.spareDormancyTimer) s = .next t ∧
        (t.ember = embEntering) ∧
        (t.up = false) ∧
        (t.keep.ember.pwrOn = if s.keep.ember.vaon then Drive.low else Drive.hiZ) ∧
        (t.units = ({} : Units)) ∧
        t.flash = s.flash) ∧
  (∀ (s : State),
      (s.up = true) → (s.get F.SUP_ROLE_STATUS_KIND = 2) → (s.get F.SUP_ROLE_STATUS_ASSIGN_WAIT = 1) → (s.units.sup.readyAt + 10 * tickS ≤ s.keep.elapsed) → (s.pending = []) → 
      ∃ t, exec (.spareDormancyTimer) s = .next t ∧
        (t.ember = embEntering) ∧
        (t.up = false) ∧
        (t.keep.ember.pwrOn = if s.keep.ember.vaon then Drive.low else Drive.hiZ) ∧
        (t.units = ({} : Units)) ∧
        t.flash = s.flash) ∧
  (∀ (s : State),
      (s.up = false ∨ s.get F.SUP_ROLE_STATUS_KIND ≠ 2 ∨ (s.get F.SUP_ROLE_STATUS_ASSIGN_WAIT = 1 ∧ s.keep.elapsed < s.units.sup.readyAt + 10 * tickS)) → exec (.spareDormancyTimer) s = .next s)

/-- With CMD = erase and START, a write of IMG_WRITE_CMD by T0 with the key, while no operation runs and the slot is not the running one, starts the erase and marks RETIRED of the slot at once; nothing else of the flash changes. Another writer or a wrong key ends with RESULT 0x15, a busy writer with 0x13, the running slot with 0x12, in that order (log entry 20), DONE set and the flash unchanged. With CMD = mark or retire and START, a write of IMG_WRITE_CMD by T0 with the key, while no operation runs and the slot is not the running one, starts the operation; mark leaves the flash alone until it ends, retire marks RETIRED of the slot at once (log entry 21) and nothing else of the flash changes. Another writer or a wrong key ends with RESULT 0x15, a busy writer with 0x13, the running slot, and a mark of a slot that carries WRITTEN and not RETIRED (log entry 116), with 0x12, in that order (log entry 20), DONE set. -/
def Obligations.ImageEraseMarkAndRetire : Prop :=
  (∀ (s : State) (v : Word),
      (s.up = true) → (getBits v 3 1 = 1) → (getBits v 0 0 = 1) → (getBits v 31 16 = 0xA5C3) → (s.get F.IMG_WRITE_STATUS_BUSY = 0) → (s.runningSlot ≠ some (getBits v 8 8)) → (s.get F.IMG_VOLATILE_WRITES_COUNT + 1 < 2 ^ 47) → 
      ∃ t, exec (.imgErase 0 v) s = .next t ∧
        (t.get F.IMG_WRITE_STATUS_BUSY = 1) ∧
        (t.units.imgOp = some (.erase (getBits v 8 8))) ∧
        (t.get F.IMG_WRITE_CMD_SLOT = getBits v 8 8) ∧
        (t.get F.IMG_WRITE_CMD_CMD = getBits v 3 1) ∧
        (t.keep = s.keep) ∧
        (t.out = s.out) ∧
        (t.marked (getBits v 8 8) 3 = true) ∧
        (∀ a, a < stateWord (getBits v 8 8) 3 ∨ stateWord (getBits v 8 8) 3 + 4 ≤ a → t.flashByte a = s.flashByte a) ∧
        (∀ a, ¬ (a = F.IMG_WRITE_CMD_CMD.addr ∨ a = F.IMG_WRITE_STATUS_DONE.addr ∨ a = F.IMG_VOLATILE_WRITES_COUNT.addr ∨ 0x08000000 ≤ a ∨ (0x00020020 ≤ a ∧ a < 0x00020040)) → t.rd a = s.rd a)) ∧
  (∀ (s : State) (w : Nat) (v : Word),
      (s.up = true) → (getBits v 3 1 = 1) → (getBits v 0 0 = 1) → (w ≠ 0 ∨ getBits v 31 16 ≠ 0xA5C3) → 
      ∃ t, exec (.imgErase w v) s = .next t ∧
        (t.get F.IMG_WRITE_STATUS_RESULT = 0x15) ∧
        (t.get F.IMG_WRITE_STATUS_DONE = 1) ∧
        (t.units.imgOp = s.units.imgOp) ∧
        (t.keep = s.keep) ∧
        (∀ a, ¬ (a = F.IMG_WRITE_CMD_CMD.addr ∨ a = F.IMG_WRITE_STATUS_DONE.addr ∨ a = F.IMG_VOLATILE_WRITES_COUNT.addr ∨ 0x08000000 ≤ a) → t.rd a = s.rd a) ∧
        t.flash = s.flash) ∧
  (∀ (s : State) (v : Word),
      (s.up = true) → (getBits v 3 1 = 1) → (getBits v 0 0 = 1) → (getBits v 31 16 = 0xA5C3) → (s.get F.IMG_WRITE_STATUS_BUSY = 1) → 
      ∃ t, exec (.imgErase 0 v) s = .next t ∧
        (t.get F.IMG_WRITE_STATUS_RESULT = 0x13) ∧
        (t.get F.IMG_WRITE_STATUS_DONE = 1) ∧
        (t.units.imgOp = s.units.imgOp) ∧
        (t.keep = s.keep) ∧
        (∀ a, ¬ (a = F.IMG_WRITE_CMD_CMD.addr ∨ a = F.IMG_WRITE_STATUS_DONE.addr ∨ a = F.IMG_VOLATILE_WRITES_COUNT.addr ∨ 0x08000000 ≤ a) → t.rd a = s.rd a) ∧
        t.flash = s.flash) ∧
  (∀ (s : State) (v : Word),
      (s.up = true) → (getBits v 3 1 = 1) → (getBits v 0 0 = 1) → (getBits v 31 16 = 0xA5C3) → (s.get F.IMG_WRITE_STATUS_BUSY = 0) → (s.runningSlot = some (getBits v 8 8)) → 
      ∃ t, exec (.imgErase 0 v) s = .next t ∧
        (t.get F.IMG_WRITE_STATUS_RESULT = 0x12) ∧
        (t.get F.IMG_WRITE_STATUS_DONE = 1) ∧
        (t.units.imgOp = s.units.imgOp) ∧
        (t.keep = s.keep) ∧
        (∀ a, ¬ (a = F.IMG_WRITE_CMD_CMD.addr ∨ a = F.IMG_WRITE_STATUS_DONE.addr ∨ a = F.IMG_VOLATILE_WRITES_COUNT.addr ∨ 0x08000000 ≤ a) → t.rd a = s.rd a) ∧
        t.flash = s.flash) ∧
  (∀ (s : State) (w : Nat) (v : Word),
      (s.up = false) → (s.get F.IMG_VOLATILE_WRITES_COUNT + 1 < 2 ^ 47) → 
      ∃ t, exec (.imgErase w v) s = .next t ∧
        (t.units = s.units) ∧
        (t.keep = s.keep) ∧
        (t.force = s.force) ∧
        (t.out = s.out) ∧
        (∀ a, ¬ (a = F.IMG_VOLATILE_WRITES_COUNT.addr) → t.rd a = s.rd a) ∧
        t.flash = s.flash) ∧
  (∀ (s : State) (v : Word),
      (s.up = true) → (getBits v 3 1 = 2) → (getBits v 0 0 = 1) → (getBits v 31 16 = 0xA5C3) → (s.get F.IMG_WRITE_STATUS_BUSY = 0) → (s.runningSlot ≠ some (getBits v 8 8)) → (s.marked (getBits v 8 8) 0 = false ∨ s.marked (getBits v 8 8) 3 = true) → (s.get F.IMG_VOLATILE_WRITES_COUNT + 1 < 2 ^ 47) → 
      ∃ t, exec (.imgMark 0 v) s = .next t ∧
        (t.get F.IMG_WRITE_STATUS_BUSY = 1) ∧
        (t.units.imgOp = some (.mark (getBits v 8 8))) ∧
        (t.get F.IMG_WRITE_CMD_SLOT = getBits v 8 8) ∧
        (t.get F.IMG_WRITE_CMD_CMD = getBits v 3 1) ∧
        (t.keep = s.keep) ∧
        (t.out = s.out) ∧
        (∀ a, ¬ (a = F.IMG_WRITE_CMD_CMD.addr ∨ a = F.IMG_WRITE_STATUS_DONE.addr ∨ a = F.IMG_VOLATILE_WRITES_COUNT.addr ∨ 0x08000000 ≤ a) → t.rd a = s.rd a) ∧
        t.flash = s.flash) ∧
  (∀ (s : State) (w : Nat) (v : Word),
      (s.up = true) → (getBits v 3 1 = 2) → (getBits v 0 0 = 1) → (w ≠ 0 ∨ getBits v 31 16 ≠ 0xA5C3) → 
      ∃ t, exec (.imgMark w v) s = .next t ∧
        (t.get F.IMG_WRITE_STATUS_RESULT = 0x15) ∧
        (t.get F.IMG_WRITE_STATUS_DONE = 1) ∧
        (t.units.imgOp = s.units.imgOp) ∧
        (t.keep = s.keep) ∧
        (∀ a, ¬ (a = F.IMG_WRITE_CMD_CMD.addr ∨ a = F.IMG_WRITE_STATUS_DONE.addr ∨ a = F.IMG_VOLATILE_WRITES_COUNT.addr ∨ 0x08000000 ≤ a) → t.rd a = s.rd a) ∧
        t.flash = s.flash) ∧
  (∀ (s : State) (v : Word),
      (s.up = true) → (getBits v 3 1 = 2) → (getBits v 0 0 = 1) → (getBits v 31 16 = 0xA5C3) → (s.get F.IMG_WRITE_STATUS_BUSY = 1) → 
      ∃ t, exec (.imgMark 0 v) s = .next t ∧
        (t.get F.IMG_WRITE_STATUS_RESULT = 0x13) ∧
        (t.get F.IMG_WRITE_STATUS_DONE = 1) ∧
        (t.units.imgOp = s.units.imgOp) ∧
        (t.keep = s.keep) ∧
        (∀ a, ¬ (a = F.IMG_WRITE_CMD_CMD.addr ∨ a = F.IMG_WRITE_STATUS_DONE.addr ∨ a = F.IMG_VOLATILE_WRITES_COUNT.addr ∨ 0x08000000 ≤ a) → t.rd a = s.rd a) ∧
        t.flash = s.flash) ∧
  (∀ (s : State) (v : Word),
      (s.up = true) → (getBits v 3 1 = 2) → (getBits v 0 0 = 1) → (getBits v 31 16 = 0xA5C3) → (s.get F.IMG_WRITE_STATUS_BUSY = 0) → (s.runningSlot = some (getBits v 8 8)) → 
      ∃ t, exec (.imgMark 0 v) s = .next t ∧
        (t.get F.IMG_WRITE_STATUS_RESULT = 0x12) ∧
        (t.get F.IMG_WRITE_STATUS_DONE = 1) ∧
        (t.units.imgOp = s.units.imgOp) ∧
        (t.keep = s.keep) ∧
        (∀ a, ¬ (a = F.IMG_WRITE_CMD_CMD.addr ∨ a = F.IMG_WRITE_STATUS_DONE.addr ∨ a = F.IMG_VOLATILE_WRITES_COUNT.addr ∨ 0x08000000 ≤ a) → t.rd a = s.rd a) ∧
        t.flash = s.flash) ∧
  (∀ (s : State) (v : Word),
      (s.up = true) → (getBits v 3 1 = 2) → (getBits v 0 0 = 1) → (getBits v 31 16 = 0xA5C3) → (s.get F.IMG_WRITE_STATUS_BUSY = 0) → (s.marked (getBits v 8 8) 0 = true) → (s.marked (getBits v 8 8) 3 = false) → 
      ∃ t, exec (.imgMark 0 v) s = .next t ∧
        (t.get F.IMG_WRITE_STATUS_RESULT = 0x12) ∧
        (t.get F.IMG_WRITE_STATUS_DONE = 1) ∧
        (t.units.imgOp = s.units.imgOp) ∧
        (t.keep = s.keep) ∧
        (∀ a, ¬ (a = F.IMG_WRITE_CMD_CMD.addr ∨ a = F.IMG_WRITE_STATUS_DONE.addr ∨ a = F.IMG_VOLATILE_WRITES_COUNT.addr ∨ 0x08000000 ≤ a) → t.rd a = s.rd a) ∧
        t.flash = s.flash) ∧
  (∀ (s : State) (w : Nat) (v : Word),
      (s.up = false) → (s.get F.IMG_VOLATILE_WRITES_COUNT + 1 < 2 ^ 47) → 
      ∃ t, exec (.imgMark w v) s = .next t ∧
        (t.units = s.units) ∧
        (t.keep = s.keep) ∧
        (t.force = s.force) ∧
        (t.out = s.out) ∧
        (∀ a, ¬ (a = F.IMG_VOLATILE_WRITES_COUNT.addr) → t.rd a = s.rd a) ∧
        t.flash = s.flash) ∧
  (∀ (s : State) (v : Word),
      (s.up = true) → (getBits v 3 1 = 3) → (getBits v 0 0 = 1) → (getBits v 31 16 = 0xA5C3) → (s.get F.IMG_WRITE_STATUS_BUSY = 0) → (s.runningSlot ≠ some (getBits v 8 8)) → (s.get F.IMG_VOLATILE_WRITES_COUNT + 1 < 2 ^ 47) → 
      ∃ t, exec (.imgRetire 0 v) s = .next t ∧
        (t.get F.IMG_WRITE_STATUS_BUSY = 1) ∧
        (t.units.imgOp = some (.retire (getBits v 8 8))) ∧
        (t.get F.IMG_WRITE_CMD_SLOT = getBits v 8 8) ∧
        (t.get F.IMG_WRITE_CMD_CMD = getBits v 3 1) ∧
        (t.keep = s.keep) ∧
        (t.out = s.out) ∧
        (t.marked (getBits v 8 8) 3 = true) ∧
        (∀ a, a < stateWord (getBits v 8 8) 3 ∨ stateWord (getBits v 8 8) 3 + 4 ≤ a → t.flashByte a = s.flashByte a) ∧
        (∀ a, ¬ (a = F.IMG_WRITE_CMD_CMD.addr ∨ a = F.IMG_WRITE_STATUS_DONE.addr ∨ a = F.IMG_VOLATILE_WRITES_COUNT.addr ∨ 0x08000000 ≤ a ∨ (0x00020020 ≤ a ∧ a < 0x00020040)) → t.rd a = s.rd a)) ∧
  (∀ (s : State) (w : Nat) (v : Word),
      (s.up = true) → (getBits v 3 1 = 3) → (getBits v 0 0 = 1) → (w ≠ 0 ∨ getBits v 31 16 ≠ 0xA5C3) → 
      ∃ t, exec (.imgRetire w v) s = .next t ∧
        (t.get F.IMG_WRITE_STATUS_RESULT = 0x15) ∧
        (t.get F.IMG_WRITE_STATUS_DONE = 1) ∧
        (t.units.imgOp = s.units.imgOp) ∧
        (t.keep = s.keep) ∧
        (∀ a, ¬ (a = F.IMG_WRITE_CMD_CMD.addr ∨ a = F.IMG_WRITE_STATUS_DONE.addr ∨ a = F.IMG_VOLATILE_WRITES_COUNT.addr ∨ 0x08000000 ≤ a) → t.rd a = s.rd a) ∧
        t.flash = s.flash) ∧
  (∀ (s : State) (v : Word),
      (s.up = true) → (getBits v 3 1 = 3) → (getBits v 0 0 = 1) → (getBits v 31 16 = 0xA5C3) → (s.get F.IMG_WRITE_STATUS_BUSY = 1) → 
      ∃ t, exec (.imgRetire 0 v) s = .next t ∧
        (t.get F.IMG_WRITE_STATUS_RESULT = 0x13) ∧
        (t.get F.IMG_WRITE_STATUS_DONE = 1) ∧
        (t.units.imgOp = s.units.imgOp) ∧
        (t.keep = s.keep) ∧
        (∀ a, ¬ (a = F.IMG_WRITE_CMD_CMD.addr ∨ a = F.IMG_WRITE_STATUS_DONE.addr ∨ a = F.IMG_VOLATILE_WRITES_COUNT.addr ∨ 0x08000000 ≤ a) → t.rd a = s.rd a) ∧
        t.flash = s.flash) ∧
  (∀ (s : State) (v : Word),
      (s.up = true) → (getBits v 3 1 = 3) → (getBits v 0 0 = 1) → (getBits v 31 16 = 0xA5C3) → (s.get F.IMG_WRITE_STATUS_BUSY = 0) → (s.runningSlot = some (getBits v 8 8)) → 
      ∃ t, exec (.imgRetire 0 v) s = .next t ∧
        (t.get F.IMG_WRITE_STATUS_RESULT = 0x12) ∧
        (t.get F.IMG_WRITE_STATUS_DONE = 1) ∧
        (t.units.imgOp = s.units.imgOp) ∧
        (t.keep = s.keep) ∧
        (∀ a, ¬ (a = F.IMG_WRITE_CMD_CMD.addr ∨ a = F.IMG_WRITE_STATUS_DONE.addr ∨ a = F.IMG_VOLATILE_WRITES_COUNT.addr ∨ 0x08000000 ≤ a) → t.rd a = s.rd a) ∧
        t.flash = s.flash) ∧
  (∀ (s : State) (w : Nat) (v : Word),
      (s.up = false) → (s.get F.IMG_VOLATILE_WRITES_COUNT + 1 < 2 ^ 47) → 
      ∃ t, exec (.imgRetire w v) s = .next t ∧
        (t.units = s.units) ∧
        (t.keep = s.keep) ∧
        (t.force = s.force) ∧
        (t.out = s.out) ∧
        (∀ a, ¬ (a = F.IMG_VOLATILE_WRITES_COUNT.addr) → t.rd a = s.rd a) ∧
        t.flash = s.flash)

/-- A burst of 256 bytes by T0 into an erased slot that does not run starts a page; every other burst is refused with 0x15, 0x13, 0x14 or 0x12. When an operation ends, a page has cleared bits of its 256 bytes and of no other, an erased slot reads 0xFF throughout, a mark has set WRITTEN exactly when its RESULT is 0, a retired slot has RETIRED marked; DONE is set and BUSY cleared, and a failed operation leaves RESULT 0x11 and the flash as it was (log entry 21). A confirmation by T0 with the key of a running trial marks CONFIRMED and ends the trial; otherwise it is ignored. -/
def Obligations.ImagePagesAndCompletion : Prop :=
  (∀ (s : State) (data : List Byte),
      (s.up = true) → (s.get F.IMG_WRITE_STATUS_BUSY = 0) → (data.length = 256) → (s.runningSlot ≠ some (s.get F.IMG_WRITE_CMD_SLOT)) → (s.slotErased (s.get F.IMG_WRITE_CMD_SLOT) = true) → 
      ∃ t, exec (.imgPageWrite 0 0 data) s = .next t ∧
        (t.get F.IMG_WRITE_STATUS_BUSY = 1) ∧
        (t.units.imgOp = some (.page (s.get F.IMG_WRITE_CMD_SLOT) (256 * s.get F.IMG_WRITE_OFFSET_PAGE) data)) ∧
        (t.keep = s.keep) ∧
        (∀ a, ¬ (a = F.IMG_WRITE_STATUS_BUSY.addr ∨ a = F.IMG_VOLATILE_WRITES_COUNT.addr ∨ 0x08000000 ≤ a) → t.rd a = s.rd a) ∧
        t.flash = s.flash) ∧
  (∀ (s : State) (w o : Nat) (data : List Byte),
      (s.up = true) → (w ≠ 0 ∨ s.get F.IMG_WRITE_STATUS_BUSY = 1 ∨ o ≠ 0 ∨ data.length ≠ 256 ∨ s.runningSlot = some (s.get F.IMG_WRITE_CMD_SLOT) ∨ s.slotErased (s.get F.IMG_WRITE_CMD_SLOT) = false) → 
      ∃ t, exec (.imgPageWrite w o data) s = .next t ∧
        (t.get F.IMG_WRITE_STATUS_DONE = 1) ∧
        (t.get F.IMG_WRITE_STATUS_RESULT = if w ≠ 0 then 0x15 else if s.get F.IMG_WRITE_STATUS_BUSY = 1 then 0x13 else if o ≠ 0 ∨ data.length ≠ 256 then 0x14 else 0x12) ∧
        (t.units.imgOp = s.units.imgOp) ∧
        (t.keep = s.keep) ∧
        (∀ a, ¬ (a = F.IMG_WRITE_STATUS_BUSY.addr ∨ a = F.IMG_VOLATILE_WRITES_COUNT.addr ∨ 0x08000000 ≤ a) → t.rd a = s.rd a) ∧
        t.flash = s.flash) ∧
  (∀ (s : State) (w o : Nat) (data : List Byte),
      (s.up = false) → exec (.imgPageWrite w o data) s = .next s) ∧
  (∀ (s : State) (slot off : Nat) (data : List Byte),
      (s.units.imgOp = some (.page slot off data)) → 
      ∃ t, exec (.imgOperationDone true) s = .next t ∧
        (t.units.imgOp = none) ∧
        (t.get F.IMG_WRITE_STATUS_BUSY = 0) ∧
        (t.get F.IMG_WRITE_STATUS_DONE = 1) ∧
        (t.get F.IMG_WRITE_STATUS_RESULT = 0) ∧
        (∀ i, i < data.length → t.flashByte (slotBase slot + off + i) = data.getD i 0 &&& s.flashByte (slotBase slot + off + i)) ∧
        (∀ a, a < slotBase slot + off ∨ slotBase slot + off + data.length ≤ a → t.flashByte a = s.flashByte a)) ∧
  (∀ (s : State) (slot : Nat),
      (s.units.imgOp = some (.erase slot)) → 
      ∃ t, exec (.imgOperationDone true) s = .next t ∧
        (t.units.imgOp = none) ∧
        (t.get F.IMG_WRITE_STATUS_BUSY = 0) ∧
        (t.get F.IMG_WRITE_STATUS_DONE = 1) ∧
        (t.get F.IMG_WRITE_STATUS_RESULT = 0) ∧
        (∀ a, t.flashByte a = if (slotBase slot ≤ a ∧ a < slotBase slot + 0x04000000) ∨ (stateWord slot 0 ≤ a ∧ a < stateWord slot 0 + 0x1000) then 0xFF else s.flashByte a)) ∧
  (∀ (s : State) (slot : Nat),
      (s.units.imgOp = some (.mark slot)) → 
      ∃ t, exec (.imgOperationDone true) s = .next t ∧
        (t.units.imgOp = none) ∧
        (t.get F.IMG_WRITE_STATUS_BUSY = 0) ∧
        (t.get F.IMG_WRITE_STATUS_DONE = 1) ∧
        (if t.get F.IMG_WRITE_STATUS_RESULT = 0 then t.marked slot 0 = true else t.flash = s.flash)) ∧
  (∀ (s : State) (slot : Nat),
      (s.units.imgOp = some (.retire slot)) → 
      ∃ t, exec (.imgOperationDone true) s = .next t ∧
        (t.units.imgOp = none) ∧
        (t.get F.IMG_WRITE_STATUS_BUSY = 0) ∧
        (t.get F.IMG_WRITE_STATUS_DONE = 1) ∧
        (t.get F.IMG_WRITE_STATUS_RESULT = 0) ∧
        (t.marked slot 3 = true) ∧
        (∀ a, a < stateWord slot 3 ∨ stateWord slot 3 + 4 ≤ a → t.flashByte a = s.flashByte a)) ∧
  (∀ (s : State) (op : ImgOp),
      (s.units.imgOp = some op) → 
      ∃ t, exec (.imgOperationDone false) s = .next t ∧
        (t.units.imgOp = none) ∧
        (t.get F.IMG_WRITE_STATUS_BUSY = 0) ∧
        (t.get F.IMG_WRITE_STATUS_DONE = 1) ∧
        (t.get F.IMG_WRITE_STATUS_RESULT = 0x11) ∧
        t.flash = s.flash) ∧
  (∀ (s : State) (ok : Bool),
      (s.units.imgOp = none) → exec (.imgOperationDone ok) s = .next s) ∧
  (∀ (s : State) (v : Word),
      (s.up = true) → (getBits v 0 0 = 1) → (getBits v 31 16 = 0xA5C3) → (s.get F.IMG_STATUS_STATE = 2) → 
      ∃ t, exec (.imgConfirm 0 v) s = .next t ∧
        (t.get F.IMG_STATUS_STATE = 1) ∧
        (t.marked (s.get F.IMG_STATUS_RUNNING_SLOT) 2 = true) ∧
        (t.units.imgDeadline = none) ∧
        (t.keep.floor = match s.units.imgRaise with | some v => (if s.keep.floor < v ∧ s.keep.raises < 64 then v else s.keep.floor) | none => s.keep.floor) ∧
        (∀ a, a < stateWord (s.get F.IMG_STATUS_RUNNING_SLOT) 2 ∨ stateWord (s.get F.IMG_STATUS_RUNNING_SLOT) 2 + 4 ≤ a → t.flashByte a = s.flashByte a) ∧
        (∀ a, ¬ (0x00020000 ≤ a ∧ a < 0x00020040 ∨ a = F.IMG_VOLATILE_WRITES_COUNT.addr ∨ 0x08000000 ≤ a) → t.rd a = s.rd a)) ∧
  (∀ (s : State) (w : Nat) (v : Word),
      (s.up = false ∨ w ≠ 0 ∨ getBits v 0 0 = 0 ∨ getBits v 31 16 ≠ 0xA5C3 ∨ s.get F.IMG_STATUS_STATE ≠ 2) → (s.get F.IMG_VOLATILE_WRITES_COUNT + 1 < 2 ^ 47) → 
      ∃ t, exec (.imgConfirm w v) s = .next t ∧
        (t.units = s.units) ∧
        (t.keep = s.keep) ∧
        (t.force = s.force) ∧
        (t.out = s.out) ∧
        (∀ a, ¬ (a = F.IMG_VOLATILE_WRITES_COUNT.addr) → t.rd a = s.rd a) ∧
        t.flash = s.flash)

/-- On an ACTIVE lane a sound data frame in its SESSION with ACTIVE_PATH is classified against CUM and B: accepted, it moves CUM and B as the rule says and is counted; a duplicate or a frame out of window is only counted, and CUM and B stay. With ACTIVE_PATH 0 the lane enters STANDBY with DEMOTED. Before ACTIVE the frame is discarded and counted, in STANDBY it is counted. A frame that fails its CRC or overlaps an uncorrectable codeword, or breaks the format, is counted and changes no lane state. A lane without light or lock ignores it. Every other lane and unit outside the lane registers and queues keeps its registers where nothing is delivered. -/
def Obligations.UplinkDataFrames : Prop :=
  (∀ (s : State) (l : Nat) (rx : LaneRx) (load : Load),
      (s.frameTaken l rx 1 = true) → (s.laneState l = 6) → (bit (num rx.bytes 1 1) 7 = true) → (classify (s.get (F.TLK_SEQ_CUM l)) (s.lane l).bitmap (num rx.bytes 2 2) = .accept) → 
      ∃ t, exec (.uplinkDataFrame l rx load) s = .next t ∧
        (t.get (F.TLK_SEQ_CUM l) = (accept (s.get (F.TLK_SEQ_CUM l)) (s.lane l).bitmap (num rx.bytes 2 2)).1 % 65536) ∧
        ((t.lane l).bitmap = (accept (s.get (F.TLK_SEQ_CUM l)) (s.lane l).bitmap (num rx.bytes 2 2)).2) ∧
        (t.get (F.TLK_FRAMES_ACCEPTED_C l) = (s.get (F.TLK_FRAMES_ACCEPTED_C l) + 1) % 2 ^ 48) ∧
        (t.laneState l = 6) ∧
        t.flash = s.flash) ∧
  (∀ (s : State) (l : Nat) (rx : LaneRx) (load : Load),
      (s.frameTaken l rx 1 = true) → (s.laneState l = 6) → (bit (num rx.bytes 1 1) 7 = true) → (s.has 0 = false) → ((s.lane l).pending = []) → (classify (s.get (F.TLK_SEQ_CUM l)) (s.lane l).bitmap (num rx.bytes 2 2) = .accept) → 
      ∃ t, exec (.uplinkDataFrame l rx load) s = .next t ∧
        (t.get (F.TLK_DATA_DISCARDED_C l) = (s.get (F.TLK_DATA_DISCARDED_C l) + 1) % 2 ^ 48) ∧
        (t.get (F.TLK_FRAMES_ACCEPTED_C l) = (s.get (F.TLK_FRAMES_ACCEPTED_C l) + 1) % 2 ^ 48) ∧
        (∀ a, ¬ (inLane l a ∨ inQueueBlocks a) → t.rd a = s.rd a) ∧
        t.flash = s.flash) ∧
  (∀ (s : State) (l : Nat) (rx : LaneRx) (load : Load),
      (s.frameTaken l rx 1 = true) → (s.laneState l = 6) → (bit (num rx.bytes 1 1) 7 = true) → (classify (s.get (F.TLK_SEQ_CUM l)) (s.lane l).bitmap (num rx.bytes 2 2) ≠ .accept) → 
      ∃ t, exec (.uplinkDataFrame l rx load) s = .next t ∧
        (if classify (s.get (F.TLK_SEQ_CUM l)) (s.lane l).bitmap (num rx.bytes 2 2) = .duplicate then t.get (F.TLK_DUPLICATES_C l) = (s.get (F.TLK_DUPLICATES_C l) + 1) % 2 ^ 48 else t.get (F.TLK_OUT_OF_WINDOW_C l) = (s.get (F.TLK_OUT_OF_WINDOW_C l) + 1) % 2 ^ 48) ∧
        (t.get (F.TLK_SEQ_CUM l) = s.get (F.TLK_SEQ_CUM l)) ∧
        ((t.lane l).bitmap = (s.lane l).bitmap) ∧
        (t.laneState l = 6) ∧
        (t.units.cal = s.units.cal) ∧
        (∀ a, ¬ (inLane l a ∨ inQueueBlocks a) → t.rd a = s.rd a) ∧
        t.flash = s.flash) ∧
  (∀ (s : State) (l : Nat) (rx : LaneRx) (load : Load),
      (s.frameTaken l rx 1 = true) → (s.laneState l = 6) → (bit (num rx.bytes 1 1) 7 = false) → (s.fenced = false) → (s.pending = []) → 
      ∃ t, exec (.uplinkDataFrame l rx load) s = .next t ∧
        (t.laneState l = 7) ∧
        (t.get (F.TLK_EVENTS_DEMOTED l) = 1) ∧
        (t.get (F.TLK_SEQ_CUM l) = s.get (F.TLK_SEQ_CUM l)) ∧
        (t.units.cal = s.units.cal) ∧
        (∀ a, ¬ (inLane l a ∨ inQueueBlocks a) → t.rd a = s.rd a) ∧
        t.flash = s.flash) ∧
  (∀ (s : State) (l : Nat) (rx : LaneRx) (load : Load),
      (s.frameTaken l rx 1 = true) → (s.laneState l < 6) → 
      ∃ t, exec (.uplinkDataFrame l rx load) s = .next t ∧
        (t.get (F.TLK_DATA_DISCARDED_C l) = (s.get (F.TLK_DATA_DISCARDED_C l) + 1) % 2 ^ 48) ∧
        (t.get (F.TLK_SEQ_CUM l) = s.get (F.TLK_SEQ_CUM l)) ∧
        (t.laneState l = s.laneState l) ∧
        (t.units.cal = s.units.cal) ∧
        (∀ a, ¬ (inLane l a ∨ inQueueBlocks a) → t.rd a = s.rd a) ∧
        t.flash = s.flash) ∧
  (∀ (s : State) (l : Nat) (rx : LaneRx) (load : Load),
      (s.frameTaken l rx 1 = true) → (s.laneState l = 7) → 
      ∃ t, exec (.uplinkDataFrame l rx load) s = .next t ∧
        (t.get (F.TLK_STANDBY_FRAMES_C l) = (s.get (F.TLK_STANDBY_FRAMES_C l) + 1) % 2 ^ 48) ∧
        (t.get (F.TLK_SEQ_CUM l) = s.get (F.TLK_SEQ_CUM l)) ∧
        (t.laneState l = 7) ∧
        (t.units.cal = s.units.cal) ∧
        (∀ a, ¬ (inLane l a ∨ inQueueBlocks a) → t.rd a = s.rd a) ∧
        t.flash = s.flash) ∧
  (∀ (s : State) (l : Nat) (rx : LaneRx) (load : Load),
      (s.laneListens l = true) → (frameSound rx = false) → 
      ∃ t, exec (.uplinkDataFrame l rx load) s = .next t ∧
        (t.get (F.TLK_CRC_ERRORS_C l) = (s.get (F.TLK_CRC_ERRORS_C l) + 1) % 2 ^ 48) ∧
        (t.units.lanes = s.units.lanes) ∧
        (t.laneState l = s.laneState l) ∧
        (t.get (F.TLK_SEQ_CUM l) = s.get (F.TLK_SEQ_CUM l)) ∧
        (∀ a, ¬ (inLane l a ∨ inQueueBlocks a) → t.rd a = s.rd a) ∧
        t.flash = s.flash) ∧
  (∀ (s : State) (l : Nat) (rx : LaneRx) (load : Load),
      (s.laneListens l = true) → (frameSound rx = true) → (frameOk rx.bytes = false) → 
      ∃ t, exec (.uplinkDataFrame l rx load) s = .next t ∧
        (t.get (F.TLK_FORMAT_ERRORS_C l) = (s.get (F.TLK_FORMAT_ERRORS_C l) + 1) % 2 ^ 48) ∧
        (t.units.lanes = s.units.lanes) ∧
        (t.laneState l = s.laneState l) ∧
        (t.get (F.TLK_SEQ_CUM l) = s.get (F.TLK_SEQ_CUM l)) ∧
        (∀ a, ¬ (inLane l a ∨ inQueueBlocks a) → t.rd a = s.rd a) ∧
        t.flash = s.flash) ∧
  (∀ (s : State) (l : Nat) (rx : LaneRx) (load : Load),
      (s.laneListens l = false) → exec (.uplinkDataFrame l rx load) s = .next s)

/-- On an ACTIVE lane a heartbeat whose COVER_SEQ CUM covers applies each entry of a PRESENT talker that is not below its watermark: the corrected watermark is held and STALLED clears; one not covered waits, and so does one before ACTIVE. A roster sets PRESENT exactly for the talkers it lists, with the count in TALKERS and ROSTER_MISMATCH where it differs from the expected set. A reply whose TAG is the host command's ends that command with its STATUS as RESULT; one that answers ENABLE with success in DISCOVERING makes the lane ACTIVE, and with a failure sets ENABLE_REFUSED. Unsound frames are counted and change no lane state. -/
def Obligations.HeartbeatRosterAndReplyFrames : Prop :=
  (∀ (s : State) (l : Nat) (rx : LaneRx),
      (s.frameTaken l rx 2 = true) → (s.laneState l = 6) → (bit (num rx.bytes 1 1) 7 = true) → ((s.lane l).pending = []) → ((s.get (F.TLK_SEQ_CUM l) + 65536 - num rx.bytes 2 2) % 65536 < 32768) → 
      ∃ t, exec (.heartbeatFrame l rx) s = .next t ∧
        (t.get (F.TLK_SEQ_PENDING_HB l) = 0) ∧
        ((t.lane l).pending = []) ∧
        (∀ e ∈ entriesOf 8 (frameBody rx.bytes), s.get (F.TLK_TALKER_STATE_PRESENT l (num e 0 1)) = 1 → (∀ w ∈ (s.talker l (num e 0 1)).wm, (s.talker l (num e 0 1)).heard = true → 0 ≤ dif (s.correct l (num e 0 1) (bit (num rx.bytes 1 1) 5) (num e 2 6)) w) → (t.talker l (num e 0 1)).wm = some (s.correct l (num e 0 1) (bit (num rx.bytes 1 1) 5) (num e 2 6)) ∧ t.get (F.TLK_TALKER_STATE_STALLED l (num e 0 1)) = 0) ∧
        (∀ a, ¬ (inLane l a ∨ inQueueBlocks a) → t.rd a = s.rd a) ∧
        t.flash = s.flash) ∧
  (∀ (s : State) (l : Nat) (rx : LaneRx),
      (s.frameTaken l rx 2 = true) → (s.laneState l = 6) → (bit (num rx.bytes 1 1) 7 = true) → ((s.lane l).pending = []) → (32768 ≤ (s.get (F.TLK_SEQ_CUM l) + 65536 - num rx.bytes 2 2) % 65536) → 
      ∃ t, exec (.heartbeatFrame l rx) s = .next t ∧
        (t.get (F.TLK_SEQ_PENDING_HB l) = 1) ∧
        ((t.lane l).pending = [({ cover := num rx.bytes 2 2, follows := bit (num rx.bytes 1 1) 5, body := frameBody rx.bytes } : PendingHb)]) ∧
        (t.units.talkers = s.units.talkers) ∧
        (∀ a, ¬ (inLane l a ∨ inQueueBlocks a) → t.rd a = s.rd a) ∧
        t.flash = s.flash) ∧
  (∀ (s : State) (l : Nat) (rx : LaneRx),
      (s.frameTaken l rx 2 = true) → (s.laneState l < 6) → ((s.lane l).pending.length < 4) → 
      ∃ t, exec (.heartbeatFrame l rx) s = .next t ∧
        ((t.lane l).pending = (s.lane l).pending ++ [({ cover := num rx.bytes 2 2, follows := bit (num rx.bytes 1 1) 5, body := frameBody rx.bytes } : PendingHb)]) ∧
        (t.get (F.TLK_SEQ_PENDING_HB l) = (s.lane l).pending.length + 1) ∧
        (t.units.talkers = s.units.talkers) ∧
        (t.laneState l = s.laneState l) ∧
        (∀ a, ¬ (inLane l a ∨ inQueueBlocks a) → t.rd a = s.rd a) ∧
        t.flash = s.flash) ∧
  (∀ (s : State) (l : Nat) (rx : LaneRx),
      (s.frameTaken l rx 2 = true) → (s.laneState l = 7) → 
      ∃ t, exec (.heartbeatFrame l rx) s = .next t ∧
        (t.units.talkers = s.units.talkers) ∧
        ((t.lane l).pending = (s.lane l).pending) ∧
        (t.laneState l = 7) ∧
        (∀ a, ¬ (inLane l a ∨ inQueueBlocks a) → t.rd a = s.rd a) ∧
        t.flash = s.flash) ∧
  (∀ (s : State) (l : Nat) (rx : LaneRx),
      (s.frameTaken l rx 3 = true) → (s.laneState l ≠ 5) → 
      ∃ t, exec (.rosterFrame l rx) s = .next t ∧
        (t.get (F.TLK_STATUS_TALKERS l) = ((List.range 128).filter (fun k => (entriesOf 16 (frameBody rx.bytes)).any (fun e => num e 0 1 = k))).length) ∧
        (t.laneState l = s.laneState l) ∧
        (∀ k < 128, t.get (F.TLK_TALKER_STATE_PRESENT l k) = b2n ((entriesOf 16 (frameBody rx.bytes)).any (fun e => num e 0 1 = k))) ∧
        ((∃ k < 128, (entriesOf 16 (frameBody rx.bytes)).any (fun e => num e 0 1 = k) ≠ (s.get (F.TLK_ROSTER_EXPECT_EXPECT l (k / 64))).testBit (k % 64)) → t.get (F.TLK_EVENTS_ROSTER_MISMATCH l) = 1) ∧
        (∀ a, ¬ (inLane l a ∨ inQueueBlocks a) → t.rd a = s.rd a) ∧
        t.flash = s.flash) ∧
  (∀ (s : State) (l : Nat) (rx : LaneRx) (c : LaneCmd),
      (s.frameTaken l rx 4 = true) → ((s.lane l).own = none) → ((s.lane l).host = some c) → (c.tag = num rx.bytes 3 1) → 
      ∃ t, exec (.replyFrame l rx) s = .next t ∧
        ((t.lane l).host = none) ∧
        (t.get (F.TLK_CMD_STATUS_DONE l) = 1) ∧
        (t.get (F.TLK_CMD_STATUS_BUSY l) = 0) ∧
        (t.get (F.TLK_CMD_STATUS_TALKER_STATUS l) = num rx.bytes 8 1) ∧
        (t.get (F.TLK_CMD_STATUS_RESULT l) = if num rx.bytes 8 1 = 0 then 0 else 2) ∧
        (t.laneState l = s.laneState l) ∧
        (∀ a, ¬ (inLane l a ∨ inQueueBlocks a) → t.rd a = s.rd a) ∧
        t.flash = s.flash) ∧
  (∀ (s : State) (l : Nat) (rx : LaneRx) (c : LaneCmd),
      (s.frameTaken l rx 4 = true) → (s.laneState l = 5) → ((s.lane l).own = some c) → (c.tag = num rx.bytes 3 1) → (bits (c.words.headD 0) 47 40 = 2) → (s.fenced = false) → (s.pending = []) → ((s.lane l).pending = []) → 
      ∃ t, exec (.replyFrame l rx) s = .next t ∧
        (if num rx.bytes 8 1 = 0 then t.laneState l = 6 else t.laneState l = 5 ∧ t.get (F.TLK_EVENTS_ENABLE_REFUSED l) = 1) ∧
        ((t.lane l).own = none) ∧
        (∀ a, ¬ (inLane l a ∨ inQueueBlocks a) → t.rd a = s.rd a) ∧
        t.flash = s.flash) ∧
  (∀ (s : State) (l : Nat) (rx : LaneRx),
      (s.frameTaken l rx 4 = true) → ((s.lane l).own = none) → ((s.lane l).host = none) → 
      ∃ t, exec (.replyFrame l rx) s = .next t ∧
        ((t.lane l).host = none) ∧
        (t.laneState l = s.laneState l) ∧
        (t.rd (F.TLK_CMD_STATUS_DONE l).addr = s.rd (F.TLK_CMD_STATUS_DONE l).addr) ∧
        (∀ a, ¬ (inLane l a ∨ inQueueBlocks a) → t.rd a = s.rd a) ∧
        t.flash = s.flash) ∧
  (∀ (s : State) (l : Nat) (rx : LaneRx),
      (s.laneListens l = true) → (frameSound rx = false) → 
      ∃ t, exec (.heartbeatFrame l rx) s = .next t ∧
        (t.get (F.TLK_CRC_ERRORS_C l) = (s.get (F.TLK_CRC_ERRORS_C l) + 1) % 2 ^ 48) ∧
        (t.units.lanes = s.units.lanes) ∧
        (t.laneState l = s.laneState l) ∧
        (t.get (F.TLK_SEQ_CUM l) = s.get (F.TLK_SEQ_CUM l)) ∧
        (∀ a, ¬ (inLane l a ∨ inQueueBlocks a) → t.rd a = s.rd a) ∧
        t.flash = s.flash) ∧
  (∀ (s : State) (l : Nat) (rx : LaneRx),
      (s.laneListens l = true) → (frameSound rx = true) → (frameOk rx.bytes = false) → 
      ∃ t, exec (.heartbeatFrame l rx) s = .next t ∧
        (t.get (F.TLK_FORMAT_ERRORS_C l) = (s.get (F.TLK_FORMAT_ERRORS_C l) + 1) % 2 ^ 48) ∧
        (t.units.lanes = s.units.lanes) ∧
        (t.laneState l = s.laneState l) ∧
        (t.get (F.TLK_SEQ_CUM l) = s.get (F.TLK_SEQ_CUM l)) ∧
        (∀ a, ¬ (inLane l a ∨ inQueueBlocks a) → t.rd a = s.rd a) ∧
        t.flash = s.flash) ∧
  (∀ (s : State) (l : Nat) (rx : LaneRx),
      (s.laneListens l = false) → exec (.heartbeatFrame l rx) s = .next s) ∧
  (∀ (s : State) (l : Nat) (rx : LaneRx),
      (s.laneListens l = true) → (frameSound rx = false) → 
      ∃ t, exec (.rosterFrame l rx) s = .next t ∧
        (t.get (F.TLK_CRC_ERRORS_C l) = (s.get (F.TLK_CRC_ERRORS_C l) + 1) % 2 ^ 48) ∧
        (t.units.lanes = s.units.lanes) ∧
        (t.laneState l = s.laneState l) ∧
        (t.get (F.TLK_SEQ_CUM l) = s.get (F.TLK_SEQ_CUM l)) ∧
        (∀ a, ¬ (inLane l a ∨ inQueueBlocks a) → t.rd a = s.rd a) ∧
        t.flash = s.flash) ∧
  (∀ (s : State) (l : Nat) (rx : LaneRx),
      (s.laneListens l = true) → (frameSound rx = true) → (frameOk rx.bytes = false) → 
      ∃ t, exec (.rosterFrame l rx) s = .next t ∧
        (t.get (F.TLK_FORMAT_ERRORS_C l) = (s.get (F.TLK_FORMAT_ERRORS_C l) + 1) % 2 ^ 48) ∧
        (t.units.lanes = s.units.lanes) ∧
        (t.laneState l = s.laneState l) ∧
        (t.get (F.TLK_SEQ_CUM l) = s.get (F.TLK_SEQ_CUM l)) ∧
        (∀ a, ¬ (inLane l a ∨ inQueueBlocks a) → t.rd a = s.rd a) ∧
        t.flash = s.flash) ∧
  (∀ (s : State) (l : Nat) (rx : LaneRx),
      (s.laneListens l = false) → exec (.rosterFrame l rx) s = .next s) ∧
  (∀ (s : State) (l : Nat) (rx : LaneRx),
      (s.laneListens l = true) → (frameSound rx = false) → 
      ∃ t, exec (.replyFrame l rx) s = .next t ∧
        (t.get (F.TLK_CRC_ERRORS_C l) = (s.get (F.TLK_CRC_ERRORS_C l) + 1) % 2 ^ 48) ∧
        (t.units.lanes = s.units.lanes) ∧
        (t.laneState l = s.laneState l) ∧
        (t.get (F.TLK_SEQ_CUM l) = s.get (F.TLK_SEQ_CUM l)) ∧
        (∀ a, ¬ (inLane l a ∨ inQueueBlocks a) → t.rd a = s.rd a) ∧
        t.flash = s.flash) ∧
  (∀ (s : State) (l : Nat) (rx : LaneRx),
      (s.laneListens l = true) → (frameSound rx = true) → (frameOk rx.bytes = false) → 
      ∃ t, exec (.replyFrame l rx) s = .next t ∧
        (t.get (F.TLK_FORMAT_ERRORS_C l) = (s.get (F.TLK_FORMAT_ERRORS_C l) + 1) % 2 ^ 48) ∧
        (t.units.lanes = s.units.lanes) ∧
        (t.laneState l = s.laneState l) ∧
        (t.get (F.TLK_SEQ_CUM l) = s.get (F.TLK_SEQ_CUM l)) ∧
        (∀ a, ¬ (inLane l a ∨ inQueueBlocks a) → t.rd a = s.rd a) ∧
        t.flash = s.flash) ∧
  (∀ (s : State) (l : Nat) (rx : LaneRx),
      (s.laneListens l = false) → exec (.replyFrame l rx) s = .next s)

/-- An echo of a remembered marker on a lane from MEASURING to STANDBY is kept with its raw round trip; an echo whose report is more than 100 microseconds late is dropped. The report of a kept echo counts it, shows its turnaround and round trip, and in ACTIVE or STANDBY moves the applied delay toward the mean. On a STANDBY lane of a device that is not fenced a handover with ACTIVE_PATH sets CUM to BASE_SEQ, clears B and makes the lane ACTIVE with PROMOTED and a count. An ACTIVE lane acknowledges with CUM and B as they stood before the frames accepted in the same window; a marker, 10 microseconds after the last one in MEASURING, carries the next MARK_ID and is followed by its departure time. Where a condition does not hold nothing changes (log entry 7). -/
def Obligations.EchoesMarkersAndHandovers : Prop :=
  (∀ (s : State) (l mark stamp : Nat) (m : Nat × Nat),
      ((s.lane l).markers.find? (fun m => m.1 = mark) = some m) → (s.hasLane l = true) → (4 ≤ s.laneState l) → (s.laneState l ≤ 7) → 
      ∃ t, exec (.echoReceived l mark stamp) s = .next t ∧
        ((t.lane l).echoes = (s.lane l).echoes ++ [({ mark := mark, departure := m.2, trip := dif stamp m.2, at_ := s.keep.elapsed } : LaneEcho)]) ∧
        ((t.lane l).markers = (s.lane l).markers.filter (fun x => x.1 ≠ mark)) ∧
        (t.regs = s.regs) ∧
        (t.out = s.out) ∧
        t.flash = s.flash) ∧
  (∀ (s : State) (l mark stamp : Nat),
      ((s.lane l).markers.find? (fun m => m.1 = mark) = none ∨ s.hasLane l = false ∨ s.laneState l < 4 ∨ 7 < s.laneState l) → exec (.echoReceived l mark stamp) s = .next s) ∧
  (∀ (s : State) (l : Nat) (rx : LaneRx) (e : LaneEcho),
      (s.frameTaken l rx 5 = true) → (s.laneState l = 6 ∨ s.laneState l = 7) → ((s.lane l).echoes.find? (fun e => e.mark = num rx.bytes 2 2 && decide (s.keep.elapsed ≤ e.at_ + 100 * tickUs)) = some e) → 
      ∃ t, exec (.echoReport l rx) s = .next t ∧
        (t.get (F.TLK_DELAY_ECHOES l) = min 65535 (s.get (F.TLK_DELAY_ECHOES l) + 1)) ∧
        (t.get (F.TLK_ECHO_LAST_TURNAROUND l) = num rx.bytes 8 4) ∧
        (t.get (F.TLK_ECHO_LAST_ROUND_TRIP l) = enc 32 e.trip) ∧
        ((t.lane l).delays = ((e.trip - num rx.bytes 8 4) :: (s.lane l).delays).take 16) ∧
        (t.laneState l = s.laneState l) ∧
        (match meanOf (((e.trip - num rx.bytes 8 4) :: (s.lane l).delays).take 16) (2 * (((e.trip - num rx.bytes 8 4) :: (s.lane l).delays).take 16).length), (s.get (F.TLK_DELAY_CABLE_DELAY l) : Int) with | m, c => if m - c > 1024 ∨ c - m > 1024 then t.get (F.TLK_EVENTS_DELAY_JUMP l) = 1 ∧ t.get (F.TLK_DELAY_CABLE_DELAY l) = m.toNat % 2 ^ 40 else c < 2 ^ 40 - 1 → t.get (F.TLK_DELAY_CABLE_DELAY l) = (if m > c then c + 1 else if m < c then c - 1 else c).toNat) ∧
        (∀ a, ¬ (inLane l a ∨ inQueueBlocks a) → t.rd a = s.rd a) ∧
        t.flash = s.flash) ∧
  (∀ (s : State) (l : Nat),
      
      ∃ t, exec (.echoReportTimeout l) s = .next t ∧
        ((t.lane l).echoes = (s.lane l).echoes.filter (fun e => decide (s.keep.elapsed < e.at_ + 100 * tickUs))) ∧
        (t.regs = s.regs) ∧
        (t.out = s.out) ∧
        (t.keep = s.keep) ∧
        t.flash = s.flash) ∧
  (∀ (s : State) (l : Nat) (rx : LaneRx),
      (s.frameTaken l rx 6 = true) → (s.laneState l = 7) → (bit (num rx.bytes 1 1) 7 = true) → (s.fenced = false) → (s.pending = []) → ((s.lane l).pending = []) → 
      ∃ t, exec (.handoverFrame l rx) s = .next t ∧
        (t.get (F.TLK_SEQ_CUM l) = num rx.bytes 2 2) ∧
        ((t.lane l).bitmap = 0) ∧
        ((t.lane l).promoted = true) ∧
        (t.laneState l = 6) ∧
        (t.get (F.TLK_EVENTS_PROMOTED l) = 1) ∧
        (t.get (F.TLK_HANDOVERS_C l) = (s.get (F.TLK_HANDOVERS_C l) + 1) % 2 ^ 48) ∧
        (t.get (F.TLK_SEQ_PENDING_HB l) = s.get (F.TLK_SEQ_PENDING_HB l)) ∧
        (∀ a, ¬ (inLane l a ∨ inQueueBlocks a) → t.rd a = s.rd a) ∧
        t.flash = s.flash) ∧
  (∀ (s : State) (l : Nat) (rx : LaneRx),
      (s.frameTaken l rx 6 = true) → (s.laneState l ≠ 7 ∨ bit (num rx.bytes 1 1) 7 = false ∨ s.fenced = true) → 
      ∃ t, exec (.handoverFrame l rx) s = .next t ∧
        (t.get (F.TLK_SEQ_CUM l) = s.get (F.TLK_SEQ_CUM l)) ∧
        (t.laneState l = s.laneState l) ∧
        ((t.lane l).bitmap = (s.lane l).bitmap) ∧
        (∀ a, ¬ (inLane l a ∨ inQueueBlocks a) → t.rd a = s.rd a) ∧
        t.flash = s.flash) ∧
  (∀ (s : State) (l : Nat),
      (s.hasLane l = true) → (s.up = true) → (s.laneState l = 6) → (s.fenced = false) → (s.win.acked = []) → 
      ∃ t, exec (.ackSend l) s = .next t ∧
        (t.win.down = s.win.down ++ [(l, 2, be 8 (2 * 2 ^ 60 + 2 ^ 58 + s.get (F.TLK_SEQ_CUM l)) ++ be 8 (s.lane l).bitmap)]) ∧
        (t.get (F.TLK_ACKS_SENT_C l) = (s.get (F.TLK_ACKS_SENT_C l) + 1) % 2 ^ 48) ∧
        (t.units.lanes = s.units.lanes) ∧
        (∀ a, ¬ (a = (F.TLK_ACKS_SENT_C l).addr ∨ inQueueBlocks a) → t.rd a = s.rd a) ∧
        t.flash = s.flash) ∧
  (∀ (s : State) (l cum bm : Nat) (rest : List (Nat × Nat × Nat)),
      (s.hasLane l = true) → (s.up = true) → (s.laneState l = 6) → (s.fenced = false) → (s.win.acked = (l, cum, bm) :: rest) → 
      ∃ t, exec (.ackSend l) s = .next t ∧
        (t.win.down = s.win.down ++ [(l, 2, be 8 (2 * 2 ^ 60 + 2 ^ 58 + cum) ++ be 8 bm)]) ∧
        (t.get (F.TLK_ACKS_SENT_C l) = (s.get (F.TLK_ACKS_SENT_C l) + 1) % 2 ^ 48) ∧
        (t.units.lanes = s.units.lanes) ∧
        (∀ a, ¬ (a = (F.TLK_ACKS_SENT_C l).addr ∨ inQueueBlocks a) → t.rd a = s.rd a) ∧
        t.flash = s.flash) ∧
  (∀ (s : State) (l : Nat),
      (s.hasLane l = false ∨ s.laneState l ≠ 6 ∨ s.fenced = true) → exec (.ackSend l) s = .next s) ∧
  (∀ (s : State) (l : Nat),
      (s.hasLane l = true) → (s.up = true) → (1 ≤ s.laneState l) → (s.laneState l ≤ 7) → (s.fenced = false) → (s.laneState l = 4 ∨ s.units.d0 % (2 ^ s.get (F.TLK_TIMERS_MARKER_EXP l) * tickUs) = 0) → (∀ k ∈ (s.lane l).markedAt, k + (if s.laneState l = 4 then 10 * tickUs else 1) ≤ s.keep.elapsed) → 
      ∃ t, exec (.markerSend l) s = .next t ∧
        (t.win.down = s.win.down ++ [(l, 0, be 8 (0x4B6D * 2 ^ 48 + (s.lane l).mark * 2 ^ 32)), (l, 1, be 8 (2 ^ 60 + 2 ^ 58 + s.get F.TIM_STATUS_TQ_D0 * 2 ^ 16 + (s.lane l).mark) ++ be 8 s.now)]) ∧
        ((t.lane l).mark = ((s.lane l).mark + 1) % 65536) ∧
        ((t.lane l).markers = (((s.lane l).mark, s.now) :: (s.lane l).markers).take 64) ∧
        ((t.lane l).markedAt = some s.keep.elapsed) ∧
        (t.regs = s.regs) ∧
        t.flash = s.flash) ∧
  (∀ (s : State) (l : Nat),
      (s.hasLane l = false ∨ s.up = false ∨ s.laneState l = 0 ∨ 7 < s.laneState l ∨ s.fenced = true ∨ (s.laneState l = 4 ∧ ∃ k ∈ (s.lane l).markedAt, s.keep.elapsed < k + 10 * tickUs) ∨ (s.laneState l ≠ 4 ∧ s.units.d0 % (2 ^ s.get (F.TLK_TIMERS_MARKER_EXP l) * tickUs) ≠ 0)) → exec (.markerSend l) s = .next s) ∧
  (∀ (s : State) (l : Nat) (rx : LaneRx),
      (s.laneListens l = true) → (frameSound rx = false) → 
      ∃ t, exec (.echoReport l rx) s = .next t ∧
        (t.get (F.TLK_CRC_ERRORS_C l) = (s.get (F.TLK_CRC_ERRORS_C l) + 1) % 2 ^ 48) ∧
        (t.units.lanes = s.units.lanes) ∧
        (t.laneState l = s.laneState l) ∧
        (t.get (F.TLK_SEQ_CUM l) = s.get (F.TLK_SEQ_CUM l)) ∧
        (∀ a, ¬ (inLane l a ∨ inQueueBlocks a) → t.rd a = s.rd a) ∧
        t.flash = s.flash) ∧
  (∀ (s : State) (l : Nat) (rx : LaneRx),
      (s.laneListens l = true) → (frameSound rx = true) → (frameOk rx.bytes = false) → 
      ∃ t, exec (.echoReport l rx) s = .next t ∧
        (t.get (F.TLK_FORMAT_ERRORS_C l) = (s.get (F.TLK_FORMAT_ERRORS_C l) + 1) % 2 ^ 48) ∧
        (t.units.lanes = s.units.lanes) ∧
        (t.laneState l = s.laneState l) ∧
        (t.get (F.TLK_SEQ_CUM l) = s.get (F.TLK_SEQ_CUM l)) ∧
        (∀ a, ¬ (inLane l a ∨ inQueueBlocks a) → t.rd a = s.rd a) ∧
        t.flash = s.flash) ∧
  (∀ (s : State) (l : Nat) (rx : LaneRx),
      (s.laneListens l = false) → exec (.echoReport l rx) s = .next s) ∧
  (∀ (s : State) (l : Nat) (rx : LaneRx),
      (s.laneListens l = true) → (frameSound rx = false) → 
      ∃ t, exec (.handoverFrame l rx) s = .next t ∧
        (t.get (F.TLK_CRC_ERRORS_C l) = (s.get (F.TLK_CRC_ERRORS_C l) + 1) % 2 ^ 48) ∧
        (t.units.lanes = s.units.lanes) ∧
        (t.laneState l = s.laneState l) ∧
        (t.get (F.TLK_SEQ_CUM l) = s.get (F.TLK_SEQ_CUM l)) ∧
        (∀ a, ¬ (inLane l a ∨ inQueueBlocks a) → t.rd a = s.rd a) ∧
        t.flash = s.flash) ∧
  (∀ (s : State) (l : Nat) (rx : LaneRx),
      (s.laneListens l = true) → (frameSound rx = true) → (frameOk rx.bytes = false) → 
      ∃ t, exec (.handoverFrame l rx) s = .next t ∧
        (t.get (F.TLK_FORMAT_ERRORS_C l) = (s.get (F.TLK_FORMAT_ERRORS_C l) + 1) % 2 ^ 48) ∧
        (t.units.lanes = s.units.lanes) ∧
        (t.laneState l = s.laneState l) ∧
        (t.get (F.TLK_SEQ_CUM l) = s.get (F.TLK_SEQ_CUM l)) ∧
        (∀ a, ¬ (inLane l a ∨ inQueueBlocks a) → t.rd a = s.rd a) ∧
        t.flash = s.flash) ∧
  (∀ (s : State) (l : Nat) (rx : LaneRx),
      (s.laneListens l = false) → exec (.handoverFrame l rx) s = .next s)

/-- A host command with a talker-defined OPCODE goes out on an ACTIVE lane under the next TAG and leaves BUSY set; a pulse far enough ahead goes out with its launch time less the cable delay and asymmetry and ends with RESULT 0. A busy lane refuses with 5, one that is not ACTIVE with 4, a pulse too near with 3, anything else with 6. A command unanswered for 100 microseconds and the round trip is repeated with its TAG three times; then a host command ends with RESULT 1 and one of the device sets NO_ANSWER. In DISCOVERING a retry that is due sends the command again. A PRESENT talker without an applied entry for WM_TIMEOUT is STALLED. -/
def Obligations.LaneCommandsAndTimeouts : Prop :=
  (∀ (s : State) (l w : Nat) (v : Word),
      (getBits v 0 0 = 1) → (s.hasRight w (F.TLK_CMD_CTRL_START l).addr = true) → (s.hasLane l = true) → (s.up = true) → ((s.lane l).host = none) → (s.laneState l = 6) → (s.fenced = false) → (bits (s.get (F.TLK_CMD_WORD_WORD l 0)) 63 60 = 3) → (0x80 ≤ bits (s.get (F.TLK_CMD_WORD_WORD l 0)) 47 40) → 
      ∃ t, exec (.talkerCommand l w v) s = .next t ∧
        ((t.lane l).tag = nextTag (s.lane l).tag (s.lane l).own) ∧
        (((t.lane l).host.map (fun c => (c.tag, c.sentAt, c.repeats))) = some (nextTag (s.lane l).tag (s.lane l).own, s.keep.elapsed, 0)) ∧
        (t.get (F.TLK_CMD_STATUS_BUSY l) = 1) ∧
        (t.win.down = s.win.down ++ [(l, 5, (withTag (s.get (F.TLK_CMD_WORD_WORD l 0)) (nextTag (s.lane l).tag (s.lane l).own) :: ((List.range (bits (s.get (F.TLK_CMD_WORD_WORD l 0)) 59 58)).map (fun i => s.get (F.TLK_CMD_WORD_WORD l (i + 1))))).flatMap (be 8))]) ∧
        (∀ a, ¬ (a = (F.TLK_CMD_STATUS_BUSY l).addr ∨ a = F.IMG_VOLATILE_WRITES_COUNT.addr ∨ 0x08000000 ≤ a) → t.rd a = s.rd a) ∧
        t.flash = s.flash) ∧
  (∀ (s : State) (l w : Nat) (v : Word),
      (getBits v 0 0 = 1) → (s.hasRight w (F.TLK_CMD_CTRL_START l).addr = true) → (s.hasLane l = true) → (bits (s.get (F.TLK_CMD_WORD_WORD l 0)) 63 60 = 3) → ((s.lane l).host.isSome = true ∨ bits (s.get (F.TLK_CMD_WORD_WORD l 0)) 47 40 < 0x80 ∨ s.laneState l ≠ 6 ∨ s.fenced = true) → (s.get F.IMG_VOLATILE_WRITES_COUNT + 1 < 2 ^ 47) → 
      ∃ t, exec (.talkerCommand l w v) s = .next t ∧
        (t.get (F.TLK_CMD_STATUS_RESULT l) = if (s.lane l).host.isSome then 5 else if bits (s.get (F.TLK_CMD_WORD_WORD l 0)) 47 40 < 0x80 then 6 else 4) ∧
        (t.get (F.TLK_CMD_STATUS_DONE l) = 1) ∧
        (t.units = s.units) ∧
        (t.win.down = s.win.down) ∧
        (∀ a, ¬ (a = (F.TLK_CMD_STATUS_BUSY l).addr ∨ a = F.IMG_VOLATILE_WRITES_COUNT.addr) → t.rd a = s.rd a) ∧
        t.flash = s.flash) ∧
  (∀ (s : State) (l w : Nat) (v : Word),
      (getBits v 0 0 = 1) → (s.hasRight w (F.TLK_CMD_CTRL_START l).addr = true) → (s.hasLane l = true) → (s.up = true) → ((s.lane l).host = none) → (s.laneState l = 6) → (s.fenced = false) → (bits (s.get (F.TLK_CMD_WORD_WORD l 0)) 63 58 = 0x11) → (((s.get (F.TLK_DELAY_CABLE_DELAY l) + 10 * tickUs : Nat) : Int) ≤ dif (s.get (F.TLK_CMD_WORD_WORD l 1)) s.now) → 
      ∃ t, exec (.talkerPulse l w v) s = .next t ∧
        (t.get (F.TLK_CMD_STATUS_RESULT l) = 0) ∧
        (t.get (F.TLK_CMD_STATUS_DONE l) = 1) ∧
        ((t.lane l).tag = nextTag (s.lane l).tag (s.lane l).own) ∧
        (t.win.down = s.win.down ++ [(l, 3, be 8 (withTag (s.get (F.TLK_CMD_WORD_WORD l 0)) (nextTag (s.lane l).tag (s.lane l).own)) ++ be 8 (enc 48 ((s.get (F.TLK_CMD_WORD_WORD l 1) : Int) - ((s.get (F.TLK_DELAY_CABLE_DELAY l) : Int) + s.laneAsym l))))]) ∧
        (∀ a, ¬ (a = (F.TLK_CMD_STATUS_BUSY l).addr ∨ a = F.IMG_VOLATILE_WRITES_COUNT.addr ∨ 0x08000000 ≤ a) → t.rd a = s.rd a) ∧
        t.flash = s.flash) ∧
  (∀ (s : State) (l w : Nat) (v : Word),
      (getBits v 0 0 = 1) → (s.hasRight w (F.TLK_CMD_CTRL_START l).addr = true) → (s.hasLane l = true) → (bits (s.get (F.TLK_CMD_WORD_WORD l 0)) 63 58 = 0x11) → ((s.lane l).host.isSome = true ∨ s.laneState l ≠ 6 ∨ s.fenced = true ∨ dif (s.get (F.TLK_CMD_WORD_WORD l 1)) s.now < ((s.get (F.TLK_DELAY_CABLE_DELAY l) + 10 * tickUs : Nat) : Int)) → (s.get F.IMG_VOLATILE_WRITES_COUNT + 1 < 2 ^ 47) → 
      ∃ t, exec (.talkerPulse l w v) s = .next t ∧
        (t.get (F.TLK_CMD_STATUS_RESULT l) = if (s.lane l).host.isSome then 5 else if s.laneState l ≠ 6 ∨ s.fenced = true then 4 else 3) ∧
        (t.get (F.TLK_CMD_STATUS_DONE l) = 1) ∧
        (t.units = s.units) ∧
        (t.win.down = s.win.down) ∧
        (∀ a, ¬ (a = (F.TLK_CMD_STATUS_BUSY l).addr ∨ a = F.IMG_VOLATILE_WRITES_COUNT.addr) → t.rd a = s.rd a) ∧
        t.flash = s.flash) ∧
  (∀ (s : State) (l w : Nat) (v : Word),
      (getBits v 0 0 = 0 ∨ s.hasRight w (F.TLK_CMD_CTRL_START l).addr = false ∨ s.hasLane l = false) → (s.get F.IMG_VOLATILE_WRITES_COUNT + 1 < 2 ^ 47) → 
      ∃ t, exec (.talkerCommand l w v) s = .next t ∧
        (t.units = s.units) ∧
        (t.keep = s.keep) ∧
        (t.force = s.force) ∧
        (t.out = s.out) ∧
        (∀ a, ¬ (a = F.IMG_VOLATILE_WRITES_COUNT.addr) → t.rd a = s.rd a) ∧
        t.flash = s.flash) ∧
  (∀ (s : State) (l w : Nat) (v : Word),
      (getBits v 0 0 = 0 ∨ s.hasRight w (F.TLK_CMD_CTRL_START l).addr = false ∨ s.hasLane l = false) → (s.get F.IMG_VOLATILE_WRITES_COUNT + 1 < 2 ^ 47) → 
      ∃ t, exec (.talkerPulse l w v) s = .next t ∧
        (t.units = s.units) ∧
        (t.keep = s.keep) ∧
        (t.force = s.force) ∧
        (t.out = s.out) ∧
        (∀ a, ¬ (a = F.IMG_VOLATILE_WRITES_COUNT.addr) → t.rd a = s.rd a) ∧
        t.flash = s.flash) ∧
  (∀ (s : State) (l : Nat) (c : LaneCmd),
      ((s.lane l).host = some c) → (c.sentAt + 100 * tickUs + (s.lane l).trip ≤ s.keep.elapsed) → 
      ∃ t, exec (.commandTimeout l true) s = .next t ∧
        (if c.repeats < 3 then (t.lane l).host = some { c with repeats := c.repeats + 1, sentAt := s.keep.elapsed } ∧ (s.laneState l = 6 → s.fenced = false → s.up = true → t.win.down = s.win.down ++ [(l, 5, c.words.flatMap (be 8))]) else (t.lane l).host = none ∧ t.get (F.TLK_CMD_STATUS_RESULT l) = 1 ∧ t.get (F.TLK_CMD_STATUS_DONE l) = 1 ∧ t.get (F.TLK_CMD_STATUS_BUSY l) = 0) ∧
        (∀ a, ¬ (a = (F.TLK_CMD_STATUS_BUSY l).addr) → t.rd a = s.rd a) ∧
        t.flash = s.flash) ∧
  (∀ (s : State) (l : Nat) (c : LaneCmd),
      ((s.lane l).own = some c) → (c.sentAt + 100 * tickUs + (s.lane l).trip ≤ s.keep.elapsed) → 
      ∃ t, exec (.commandTimeout l false) s = .next t ∧
        (if c.repeats < 3 then (t.lane l).own = some { c with repeats := c.repeats + 1, sentAt := s.keep.elapsed } else (t.lane l).own = none ∧ t.get (F.TLK_EVENTS_NO_ANSWER l) = 1 ∧ (s.laneState l = 5 → (t.lane l).retryAt = some (s.keep.elapsed + tickMs))) ∧
        (∀ a, ¬ (a = (F.TLK_EVENTS_NO_ANSWER l).addr) → t.rd a = s.rd a) ∧
        t.flash = s.flash) ∧
  (∀ (s : State) (l : Nat) (h : Bool),
      (∀ c ∈ (if h then (s.lane l).host else (s.lane l).own), s.keep.elapsed < c.sentAt + 100 * tickUs + (s.lane l).trip) → exec (.commandTimeout l h) s = .next s) ∧
  (∀ (s : State) (l r : Nat),
      ((s.lane l).retryAt = some r) → (r ≤ s.keep.elapsed) → (s.laneState l = 5) → 
      ∃ t, exec (.discoveryRetry l) s = .next t ∧
        ((t.lane l).retryAt = none) ∧
        ((t.lane l).tag = nextTag (s.lane l).tag (s.lane l).host) ∧
        (((t.lane l).own.map (fun c => (bits (c.words.headD 0) 47 40, c.tag))) = some (if (s.lane l).roster then 2 else 1, nextTag (s.lane l).tag (s.lane l).host)) ∧
        (t.regs = s.regs) ∧
        t.flash = s.flash) ∧
  (∀ (s : State) (l : Nat),
      ((∀ r ∈ (s.lane l).retryAt, s.keep.elapsed < r) ∨ s.laneState l ≠ 5) → exec (.discoveryRetry l) s = .next s) ∧
  (∀ (s : State) (l k : Nat),
      (s.hasLane l = true) → (k < 128) → (s.get (F.TLK_TALKER_STATE_PRESENT l k) = 1) → ((s.talker l k).heardAt + s.get (F.TLK_TIMERS_WM_TIMEOUT_US l) * tickUs ≤ s.keep.elapsed) → 
      ∃ t, exec (.wmTimeout l k) s = .next t ∧
        (t.get (F.TLK_TALKER_STATE_STALLED l k) = 1) ∧
        (t.units = s.units) ∧
        (t.keep = s.keep) ∧
        (t.win = s.win) ∧
        (∀ a, ¬ (a = (F.TLK_TALKER_STATE_STALLED l k).addr) → t.rd a = s.rd a) ∧
        t.flash = s.flash) ∧
  (∀ (s : State) (l k : Nat),
      (s.hasLane l = false ∨ 128 ≤ k ∨ s.get (F.TLK_TALKER_STATE_PRESENT l k) = 0 ∨ s.keep.elapsed < (s.talker l k).heardAt + s.get (F.TLK_TIMERS_WM_TIMEOUT_US l) * tickUs) → exec (.wmTimeout l k) s = .next s)

/-- A write of TLK_CFG takes DATA_EN and MODE and moves the lane: a new MODE of primary or standby to DARK, any other value to DISABLED. A write of TLK_TIMERS clamps each field. Light moves DARK to ALIGNING, and lock held is noted there; loss of signal leads to DARK and loss of lock or LINK_TIMEOUT without a frame to ALIGNING, from the states above them other than FAULT. RESTART leads a lane to DARK from any state, REMEASURE and REDISCOVER lead an ACTIVE or STANDBY lane to MEASURING and DISCOVERING. On an isolated lane these writes only set WRITE_LOST. Fewer than seven entries into DARK or ALIGNING within the last second and an empty rest of the window are assumed where a lane moves; an eighth leads to FAULT with FLAP_FAULT. -/
def Obligations.LaneStates : Prop :=
  (∀ (s : State) (l w : Nat) (v : Word),
      (s.hasRight w (F.TLK_CFG_MODE l).addr = true) → (s.hasLane l = true) → (s.laneIsolated l = false) → (s.fenced = false) → (s.pending = []) → (getBits v 1 0 = 1 ∨ getBits v 1 0 = 2) → (s.laneState l = 0) → (((s.lane l).flaps.filter (fun t => decide (s.keep.elapsed < t + tickS))).length < 7) → 
      ∃ t, exec (.tlkCfgWrite l w v) s = .next t ∧
        (t.laneState l = 1) ∧
        (t.get (F.TLK_CFG_MODE l) = getBits v 1 0) ∧
        (t.get (F.TLK_CFG_DATA_EN l) = getBits v 2 2) ∧
        (∀ a, ¬ (inLane l a ∨ inQueueBlocks a ∨ a = F.IMG_VOLATILE_WRITES_COUNT.addr) → t.rd a = s.rd a) ∧
        t.flash = s.flash) ∧
  (∀ (s : State) (l w : Nat) (v : Word),
      (s.hasRight w (F.TLK_CFG_MODE l).addr = true) → (s.hasLane l = true) → (s.laneIsolated l = false) → (s.fenced = false) → (s.pending = []) → (getBits v 1 0 = 0 ∨ getBits v 1 0 = 3) → 
      ∃ t, exec (.tlkCfgWrite l w v) s = .next t ∧
        (t.laneState l = 0) ∧
        (t.get (F.TLK_CFG_MODE l) = getBits v 1 0) ∧
        (t.get (F.TLK_CFG_DATA_EN l) = getBits v 2 2) ∧
        (∀ a, ¬ (inLane l a ∨ inQueueBlocks a ∨ a = F.IMG_VOLATILE_WRITES_COUNT.addr) → t.rd a = s.rd a) ∧
        t.flash = s.flash) ∧
  (∀ (s : State) (l w : Nat) (v : Word),
      (s.hasRight w (F.TLK_CFG_MODE l).addr = true) → (s.hasLane l = true) → (s.laneIsolated l = true) → 
      ∃ t, exec (.tlkCfgWrite l w v) s = .next t ∧
        (t.get (F.TLK_EVENTS_WRITE_LOST l) = 1) ∧
        (t.get (F.TLK_CFG_MODE l) = s.get (F.TLK_CFG_MODE l)) ∧
        (t.laneState l = s.laneState l) ∧
        (t.get (F.TLK_CFG_DATA_EN l) = getBits v 2 2) ∧
        (∀ a, ¬ (inLane l a ∨ inQueueBlocks a ∨ a = F.IMG_VOLATILE_WRITES_COUNT.addr) → t.rd a = s.rd a) ∧
        t.flash = s.flash) ∧
  (∀ (s : State) (l w : Nat) (v : Word),
      (s.hasRight w (F.TLK_TIMERS_RTO_US l).addr = true) → (s.hasLane l = true) → 
      ∃ t, exec (.tlkTimersWrite l w v) s = .next t ∧
        (t.get (F.TLK_TIMERS_RTO_US l) = max 2 (min 64 (getBits v 31 25))) ∧
        (t.get (F.TLK_TIMERS_LINK_TIMEOUT_US l) = max 5 (min 1000 (getBits v 24 15))) ∧
        (t.get (F.TLK_TIMERS_WM_TIMEOUT_US l) = max 2 (min 1000 (getBits v 14 5))) ∧
        (t.get (F.TLK_TIMERS_MARKER_EXP l) = max 7 (min 20 (getBits v 4 0))) ∧
        (t.laneState l = s.laneState l) ∧
        (s.laneState l = 6 → max 2 (min 64 (getBits v 31 25)) ≠ s.get (F.TLK_TIMERS_RTO_US l) → ((t.lane l).own.map (fun c => bits (c.words.headD 0) 47 40)) = some 2) ∧
        (∀ a, ¬ (inLane l a ∨ inQueueBlocks a ∨ a = F.IMG_VOLATILE_WRITES_COUNT.addr) → t.rd a = s.rd a) ∧
        t.flash = s.flash) ∧
  (∀ (s : State) (l : Nat),
      (s.laneState l = 1) → (s.fenced = false) → (s.pending = []) → (((s.lane l).flaps.filter (fun t => decide (s.keep.elapsed < t + tickS))).length < 7) → 
      ∃ t, exec (.uplinkSignalDetect l) s = .next t ∧
        (t.laneState l = 2) ∧
        (t.keep = s.keep) ∧
        (∀ a, ¬ (inLane l a ∨ inQueueBlocks a) → t.rd a = s.rd a) ∧
        t.flash = s.flash) ∧
  (∀ (s : State) (l : Nat),
      (s.laneState l = 1) → (s.fenced = false) → (s.pending = []) → (7 ≤ ((s.lane l).flaps.filter (fun t => decide (s.keep.elapsed < t + tickS))).length) → 
      ∃ t, exec (.uplinkSignalDetect l) s = .next t ∧
        (t.laneState l = 8) ∧
        (t.get (F.TLK_EVENTS_FLAP_FAULT l) = 1) ∧
        (∀ a, ¬ (inLane l a ∨ inQueueBlocks a) → t.rd a = s.rd a) ∧
        t.flash = s.flash) ∧
  (∀ (s : State) (l : Nat),
      (s.laneState l ≠ 1) → exec (.uplinkSignalDetect l) s = .next s) ∧
  (∀ (s : State) (l : Nat),
      (s.laneState l = 2) → 
      ∃ t, exec (.laneLockHeld l) s = .next t ∧
        ((t.lane l).locked = true) ∧
        (t.regs = s.regs) ∧
        (t.keep = s.keep) ∧
        t.flash = s.flash) ∧
  (∀ (s : State) (l : Nat),
      (s.laneState l ≠ 2) → exec (.laneLockHeld l) s = .next s) ∧
  (∀ (s : State) (l : Nat),
      (1 < s.laneState l) → (s.laneState l ≠ 8) → (s.fenced = false) → (s.pending = []) → (((s.lane l).flaps.filter (fun t => decide (s.keep.elapsed < t + tickS))).length < 7) → 
      ∃ t, exec (.lossOfSignal l) s = .next t ∧
        (t.laneState l = 1) ∧
        ((t.lane l).locked = false) ∧
        (t.get (F.TLK_STATUS_TIME_VALID l) = 0) ∧
        (s.laneState l = 6 ∨ s.laneState l = 7 → t.get (F.TLK_EVENTS_LINK_DOWN l) = 1) ∧
        (∀ a, ¬ (inLane l a ∨ inQueueBlocks a) → t.rd a = s.rd a) ∧
        t.flash = s.flash) ∧
  (∀ (s : State) (l : Nat),
      (s.laneState l ≤ 1 ∨ s.laneState l = 8 ∨ s.fenced = true) → exec (.lossOfSignal l) s = .next s) ∧
  (∀ (s : State) (l : Nat),
      (2 < s.laneState l) → (s.laneState l ≠ 8) → (s.fenced = false) → (s.pending = []) → (((s.lane l).flaps.filter (fun t => decide (s.keep.elapsed < t + tickS))).length < 7) → 
      ∃ t, exec (.lossOfLock l) s = .next t ∧
        (t.laneState l = 2) ∧
        ((t.lane l).locked = false) ∧
        (s.laneState l = 6 ∨ s.laneState l = 7 → t.get (F.TLK_EVENTS_LINK_DOWN l) = 1) ∧
        (∀ a, ¬ (inLane l a ∨ inQueueBlocks a) → t.rd a = s.rd a) ∧
        t.flash = s.flash) ∧
  (∀ (s : State) (l : Nat),
      (s.laneState l < 2 ∨ s.laneState l = 8) → exec (.lossOfLock l) s = .next s) ∧
  (∀ (s : State) (l : Nat),
      (2 < s.laneState l) → (s.laneState l ≠ 8) → (s.fenced = false) → (s.pending = []) → (((s.lane l).flaps.filter (fun t => decide (s.keep.elapsed < t + tickS))).length < 7) → ((s.lane l).frameAt + s.get (F.TLK_TIMERS_LINK_TIMEOUT_US l) * tickUs ≤ s.keep.elapsed) → 
      ∃ t, exec (.linkTimeout l) s = .next t ∧
        (t.laneState l = 2) ∧
        ((t.lane l).locked = false) ∧
        (∀ a, ¬ (inLane l a ∨ inQueueBlocks a) → t.rd a = s.rd a) ∧
        t.flash = s.flash) ∧
  (∀ (s : State) (l : Nat),
      (s.laneState l ≤ 2 ∨ s.laneState l = 8 ∨ s.keep.elapsed < (s.lane l).frameAt + s.get (F.TLK_TIMERS_LINK_TIMEOUT_US l) * tickUs) → exec (.linkTimeout l) s = .next s) ∧
  (∀ (s : State) (l w : Nat) (v : Word),
      (getBits v 0 0 = 1) → (s.hasRight w (F.TLK_CTRL_RESTART l).addr = true) → (s.hasLane l = true) → (s.laneIsolated l = false) → (s.fenced = false) → (s.pending = []) → (((s.lane l).flaps.filter (fun t => decide (s.keep.elapsed < t + tickS))).length < 7) → 
      ∃ t, exec (.restart l w v) s = .next t ∧
        (t.laneState l = 1) ∧
        ((t.lane l).locked = false) ∧
        (∀ a, ¬ (inLane l a ∨ inQueueBlocks a ∨ a = F.IMG_VOLATILE_WRITES_COUNT.addr ∨ 0x08000000 ≤ a) → t.rd a = s.rd a) ∧
        t.flash = s.flash) ∧
  (∀ (s : State) (l w : Nat) (v : Word),
      (getBits v 0 0 = 1) → (s.hasRight w (F.TLK_CTRL_RESTART l).addr = true) → (s.hasLane l = true) → (s.laneIsolated l = true) → (s.get F.IMG_VOLATILE_WRITES_COUNT + 1 < 2 ^ 47) → 
      ∃ t, exec (.restart l w v) s = .next t ∧
        (t.get (F.TLK_EVENTS_WRITE_LOST l) = 1) ∧
        (t.units = s.units) ∧
        (t.laneState l = s.laneState l) ∧
        (∀ a, ¬ (a = (F.TLK_EVENTS_WRITE_LOST l).addr ∨ a = F.IMG_VOLATILE_WRITES_COUNT.addr) → t.rd a = s.rd a) ∧
        t.flash = s.flash) ∧
  (∀ (s : State) (l w : Nat) (v : Word),
      (getBits v 0 0 = 0 ∨ s.hasRight w (F.TLK_CTRL_RESTART l).addr = false ∨ s.hasLane l = false) → (s.get F.IMG_VOLATILE_WRITES_COUNT + 1 < 2 ^ 47) → 
      ∃ t, exec (.restart l w v) s = .next t ∧
        (t.units = s.units) ∧
        (t.keep = s.keep) ∧
        (t.force = s.force) ∧
        (t.out = s.out) ∧
        (∀ a, ¬ (a = F.IMG_VOLATILE_WRITES_COUNT.addr) → t.rd a = s.rd a) ∧
        t.flash = s.flash) ∧
  (∀ (s : State) (l w : Nat) (v : Word),
      (getBits v 1 1 = 1) → (s.hasRight w (F.TLK_CTRL_RESTART l).addr = true) → (s.hasLane l = true) → (s.laneIsolated l = false) → (s.fenced = false) → (s.pending = []) → (s.laneState l = 6 ∨ s.laneState l = 7) → 
      ∃ t, exec (.remeasure l w v) s = .next t ∧
        (t.laneState l = 4) ∧
        ((t.lane l).delays = []) ∧
        ((t.lane l).valid = 0) ∧
        (((t.lane l).resume.map (·.1)) = some (s.laneState l)) ∧
        (t.get (F.TLK_SEQ_CUM l) = s.get (F.TLK_SEQ_CUM l)) ∧
        (∀ a, ¬ (inLane l a ∨ inQueueBlocks a ∨ a = F.IMG_VOLATILE_WRITES_COUNT.addr ∨ 0x08000000 ≤ a) → t.rd a = s.rd a) ∧
        t.flash = s.flash) ∧
  (∀ (s : State) (l w : Nat) (v : Word),
      (getBits v 1 1 = 1) → (s.hasRight w (F.TLK_CTRL_RESTART l).addr = true) → (s.hasLane l = true) → (s.laneIsolated l = true) → (s.get F.IMG_VOLATILE_WRITES_COUNT + 1 < 2 ^ 47) → 
      ∃ t, exec (.remeasure l w v) s = .next t ∧
        (t.get (F.TLK_EVENTS_WRITE_LOST l) = 1) ∧
        (t.units = s.units) ∧
        (t.laneState l = s.laneState l) ∧
        (∀ a, ¬ (a = (F.TLK_EVENTS_WRITE_LOST l).addr ∨ a = F.IMG_VOLATILE_WRITES_COUNT.addr) → t.rd a = s.rd a) ∧
        t.flash = s.flash) ∧
  (∀ (s : State) (l w : Nat) (v : Word),
      (getBits v 1 1 = 0 ∨ s.hasRight w (F.TLK_CTRL_RESTART l).addr = false ∨ s.hasLane l = false) → (s.get F.IMG_VOLATILE_WRITES_COUNT + 1 < 2 ^ 47) → 
      ∃ t, exec (.remeasure l w v) s = .next t ∧
        (t.units = s.units) ∧
        (t.keep = s.keep) ∧
        (t.force = s.force) ∧
        (t.out = s.out) ∧
        (∀ a, ¬ (a = F.IMG_VOLATILE_WRITES_COUNT.addr) → t.rd a = s.rd a) ∧
        t.flash = s.flash) ∧
  (∀ (s : State) (l w : Nat) (v : Word),
      (getBits v 2 2 = 1) → (s.hasRight w (F.TLK_CTRL_RESTART l).addr = true) → (s.hasLane l = true) → (s.laneIsolated l = false) → (s.fenced = false) → (s.pending = []) → (s.laneState l = 6 ∨ s.laneState l = 7) → 
      ∃ t, exec (.rediscover l w v) s = .next t ∧
        (t.laneState l = 5) ∧
        ((t.lane l).roster = false) ∧
        (((t.lane l).own.map (fun c => bits (c.words.headD 0) 47 40)) = some 1) ∧
        (∀ a, ¬ (inLane l a ∨ inQueueBlocks a ∨ a = F.IMG_VOLATILE_WRITES_COUNT.addr ∨ 0x08000000 ≤ a) → t.rd a = s.rd a) ∧
        t.flash = s.flash) ∧
  (∀ (s : State) (l w : Nat) (v : Word),
      (getBits v 2 2 = 1) → (s.hasRight w (F.TLK_CTRL_RESTART l).addr = true) → (s.hasLane l = true) → (s.laneIsolated l = true) → (s.get F.IMG_VOLATILE_WRITES_COUNT + 1 < 2 ^ 47) → 
      ∃ t, exec (.rediscover l w v) s = .next t ∧
        (t.get (F.TLK_EVENTS_WRITE_LOST l) = 1) ∧
        (t.units = s.units) ∧
        (t.laneState l = s.laneState l) ∧
        (∀ a, ¬ (a = (F.TLK_EVENTS_WRITE_LOST l).addr ∨ a = F.IMG_VOLATILE_WRITES_COUNT.addr) → t.rd a = s.rd a) ∧
        t.flash = s.flash) ∧
  (∀ (s : State) (l w : Nat) (v : Word),
      (getBits v 2 2 = 0 ∨ s.hasRight w (F.TLK_CTRL_RESTART l).addr = false ∨ s.hasLane l = false) → (s.get F.IMG_VOLATILE_WRITES_COUNT + 1 < 2 ^ 47) → 
      ∃ t, exec (.rediscover l w v) s = .next t ∧
        (t.units = s.units) ∧
        (t.keep = s.keep) ∧
        (t.force = s.force) ∧
        (t.out = s.out) ∧
        (∀ a, ¬ (a = F.IMG_VOLATILE_WRITES_COUNT.addr) → t.rd a = s.rd a) ∧
        t.flash = s.flash)

/-- A SWAP by T0 with the key while the bank logic is not busy sets STATE to 3; a COPY so written sets COPYING. While STATE is not 0 or COPYING is 1, any SWAP or COPY by any writer sets REFUSED, RESULT 5 and DONE and leaves the swap or copy in progress alone; otherwise a wrong key or another writer gets RESULT 4 and DONE without WRITE_LOST. Nothing else changes but the count of adjustments (R107): no other register, no value in force, no unit, no flash. A write without the bit is no such command. A validation that finds a fault ends with its RESULT and BAD_RULE, DONE set and STATE 0; one that passes sets T_SWAP to the first multiple of 2^SWAP_K strictly after current D0 time, STATE 1 and the other ACTIVE_BANK. Once D0 time has reached T_SWAP the words of the two bank views change places and STATE is 2. Once it has reached T_SWAP + 2^34 the staged tenant ranges, scopes and source defaults are in force and no other value in force changes, STATE is 0, DONE set with RESULT 0. At the end of a copy each word of the shadow view reads as the active view, COPYING is 0 and DONE is set with RESULT 0. Each of these leaves every other register alone, and does nothing when its condition does not hold (log entry 7). -/
def Obligations.FilterSwapsAndCopies : Prop :=
  (∀ (s : State) (v : Word),
      (s.has 0 = true) → (getBits v 0 0 = 1) → (getBits v 31 16 = 0xA5C3) → (s.bankBusy = false) → (s.get F.IMG_VOLATILE_WRITES_COUNT + 1 < 2 ^ 47) → 
      ∃ t, exec (.swap 0 v) s = .next t ∧
        (t.get F.FLT_BANK_STATUS_STATE = 3) ∧
        (t.get F.FLT_COMMIT_SWAP = 1) ∧
        (t.get F.FLT_BANK_STATUS_COPYING = 0) ∧
        (t.units = s.units) ∧
        (t.keep = s.keep) ∧
        (t.out = s.out) ∧
        (t.get F.FLT_BANK_STATUS_ACTIVE_BANK = s.get F.FLT_BANK_STATUS_ACTIVE_BANK) ∧
        (t.get F.FLT_BANK_STATUS_WRITE_LOST = s.get F.FLT_BANK_STATUS_WRITE_LOST) ∧
        (t.get F.FLT_BANK_STATUS_RESULT = s.get F.FLT_BANK_STATUS_RESULT) ∧
        (∀ a, ¬ (a = F.FLT_BANK_STATUS_STATE.addr ∨ a = F.FLT_COMMIT_SWAP.addr ∨ a = F.IMG_VOLATILE_WRITES_COUNT.addr) → t.rd a = s.rd a) ∧
        t.force = s.force ∧
        t.flash = s.flash) ∧
  (∀ (s : State) (w : Nat) (v : Word),
      (s.has 0 = true) → (getBits v 0 0 = 1) → (s.bankBusy = true) → (s.get F.IMG_VOLATILE_WRITES_COUNT + 1 < 2 ^ 47) → 
      ∃ t, exec (.swap w v) s = .next t ∧
        (t.get F.FLT_BANK_STATUS_REFUSED = 1) ∧
        (t.get F.FLT_BANK_STATUS_RESULT = 5) ∧
        (t.get F.FLT_BANK_STATUS_DONE = 1) ∧
        (t.get F.FLT_BANK_STATUS_STATE = s.get F.FLT_BANK_STATUS_STATE) ∧
        (t.get F.FLT_BANK_STATUS_COPYING = s.get F.FLT_BANK_STATUS_COPYING) ∧
        (t.units = s.units) ∧
        (t.keep = s.keep) ∧
        (t.out = s.out) ∧
        (t.get F.FLT_BANK_STATUS_ACTIVE_BANK = s.get F.FLT_BANK_STATUS_ACTIVE_BANK) ∧
        (t.get F.FLT_BANK_STATUS_WRITE_LOST = s.get F.FLT_BANK_STATUS_WRITE_LOST) ∧
        (∀ a, ¬ (a = F.FLT_BANK_STATUS_STATE.addr ∨ a = F.IMG_VOLATILE_WRITES_COUNT.addr) → t.rd a = s.rd a) ∧
        t.force = s.force ∧
        t.flash = s.flash) ∧
  (∀ (s : State) (w : Nat) (v : Word),
      (s.has 0 = true) → (getBits v 0 0 = 1) → (s.bankBusy = false) → (w ≠ 0 ∨ getBits v 31 16 ≠ 0xA5C3) → (s.get F.IMG_VOLATILE_WRITES_COUNT + 1 < 2 ^ 47) → 
      ∃ t, exec (.swap w v) s = .next t ∧
        (t.get F.FLT_BANK_STATUS_RESULT = 4) ∧
        (t.get F.FLT_BANK_STATUS_DONE = 1) ∧
        (t.get F.FLT_BANK_STATUS_REFUSED = s.get F.FLT_BANK_STATUS_REFUSED) ∧
        (t.get F.FLT_BANK_STATUS_STATE = s.get F.FLT_BANK_STATUS_STATE) ∧
        (t.get F.FLT_BANK_STATUS_COPYING = s.get F.FLT_BANK_STATUS_COPYING) ∧
        (t.units = s.units) ∧
        (t.keep = s.keep) ∧
        (t.out = s.out) ∧
        (t.get F.FLT_BANK_STATUS_ACTIVE_BANK = s.get F.FLT_BANK_STATUS_ACTIVE_BANK) ∧
        (t.get F.FLT_BANK_STATUS_WRITE_LOST = s.get F.FLT_BANK_STATUS_WRITE_LOST) ∧
        (∀ a, ¬ (a = F.FLT_BANK_STATUS_STATE.addr ∨ a = F.IMG_VOLATILE_WRITES_COUNT.addr) → t.rd a = s.rd a) ∧
        t.force = s.force ∧
        t.flash = s.flash) ∧
  (∀ (s : State) (w : Nat) (v : Word),
      (getBits v 0 0 = 0 ∨ s.has 0 = false) → (s.get F.IMG_VOLATILE_WRITES_COUNT + 1 < 2 ^ 47) → 
      ∃ t, exec (.swap w v) s = .next t ∧
        (t.units = s.units) ∧
        (t.keep = s.keep) ∧
        (t.force = s.force) ∧
        (t.out = s.out) ∧
        (∀ a, ¬ (a = F.IMG_VOLATILE_WRITES_COUNT.addr) → t.rd a = s.rd a) ∧
        t.flash = s.flash) ∧
  (∀ (s : State) (v : Word),
      (s.has 0 = true) → (getBits v 1 1 = 1) → (getBits v 31 16 = 0xA5C3) → (s.bankBusy = false) → (s.get F.IMG_VOLATILE_WRITES_COUNT + 1 < 2 ^ 47) → 
      ∃ t, exec (.copy 0 v) s = .next t ∧
        (t.get F.FLT_BANK_STATUS_COPYING = 1) ∧
        (t.get F.FLT_COMMIT_COPY = 1) ∧
        (t.get F.FLT_BANK_STATUS_STATE = 0) ∧
        (t.units = s.units) ∧
        (t.keep = s.keep) ∧
        (t.out = s.out) ∧
        (t.get F.FLT_BANK_STATUS_ACTIVE_BANK = s.get F.FLT_BANK_STATUS_ACTIVE_BANK) ∧
        (t.get F.FLT_BANK_STATUS_WRITE_LOST = s.get F.FLT_BANK_STATUS_WRITE_LOST) ∧
        (t.get F.FLT_BANK_STATUS_RESULT = s.get F.FLT_BANK_STATUS_RESULT) ∧
        (∀ a, ¬ (a = F.FLT_BANK_STATUS_STATE.addr ∨ a = F.FLT_COMMIT_COPY.addr ∨ a = F.IMG_VOLATILE_WRITES_COUNT.addr) → t.rd a = s.rd a) ∧
        t.force = s.force ∧
        t.flash = s.flash) ∧
  (∀ (s : State) (w : Nat) (v : Word),
      (s.has 0 = true) → (getBits v 1 1 = 1) → (s.bankBusy = true) → (s.get F.IMG_VOLATILE_WRITES_COUNT + 1 < 2 ^ 47) → 
      ∃ t, exec (.copy w v) s = .next t ∧
        (t.get F.FLT_BANK_STATUS_REFUSED = 1) ∧
        (t.get F.FLT_BANK_STATUS_RESULT = 5) ∧
        (t.get F.FLT_BANK_STATUS_DONE = 1) ∧
        (t.get F.FLT_BANK_STATUS_STATE = s.get F.FLT_BANK_STATUS_STATE) ∧
        (t.get F.FLT_BANK_STATUS_COPYING = s.get F.FLT_BANK_STATUS_COPYING) ∧
        (t.units = s.units) ∧
        (t.keep = s.keep) ∧
        (t.out = s.out) ∧
        (t.get F.FLT_BANK_STATUS_ACTIVE_BANK = s.get F.FLT_BANK_STATUS_ACTIVE_BANK) ∧
        (t.get F.FLT_BANK_STATUS_WRITE_LOST = s.get F.FLT_BANK_STATUS_WRITE_LOST) ∧
        (∀ a, ¬ (a = F.FLT_BANK_STATUS_STATE.addr ∨ a = F.IMG_VOLATILE_WRITES_COUNT.addr) → t.rd a = s.rd a) ∧
        t.force = s.force ∧
        t.flash = s.flash) ∧
  (∀ (s : State) (w : Nat) (v : Word),
      (s.has 0 = true) → (getBits v 1 1 = 1) → (s.bankBusy = false) → (w ≠ 0 ∨ getBits v 31 16 ≠ 0xA5C3) → (s.get F.IMG_VOLATILE_WRITES_COUNT + 1 < 2 ^ 47) → 
      ∃ t, exec (.copy w v) s = .next t ∧
        (t.get F.FLT_BANK_STATUS_RESULT = 4) ∧
        (t.get F.FLT_BANK_STATUS_DONE = 1) ∧
        (t.get F.FLT_BANK_STATUS_REFUSED = s.get F.FLT_BANK_STATUS_REFUSED) ∧
        (t.get F.FLT_BANK_STATUS_STATE = s.get F.FLT_BANK_STATUS_STATE) ∧
        (t.get F.FLT_BANK_STATUS_COPYING = s.get F.FLT_BANK_STATUS_COPYING) ∧
        (t.units = s.units) ∧
        (t.keep = s.keep) ∧
        (t.out = s.out) ∧
        (t.get F.FLT_BANK_STATUS_ACTIVE_BANK = s.get F.FLT_BANK_STATUS_ACTIVE_BANK) ∧
        (t.get F.FLT_BANK_STATUS_WRITE_LOST = s.get F.FLT_BANK_STATUS_WRITE_LOST) ∧
        (∀ a, ¬ (a = F.FLT_BANK_STATUS_STATE.addr ∨ a = F.IMG_VOLATILE_WRITES_COUNT.addr) → t.rd a = s.rd a) ∧
        t.force = s.force ∧
        t.flash = s.flash) ∧
  (∀ (s : State) (w : Nat) (v : Word),
      (getBits v 1 1 = 0 ∨ s.has 0 = false) → (s.get F.IMG_VOLATILE_WRITES_COUNT + 1 < 2 ^ 47) → 
      ∃ t, exec (.copy w v) s = .next t ∧
        (t.units = s.units) ∧
        (t.keep = s.keep) ∧
        (t.force = s.force) ∧
        (t.out = s.out) ∧
        (∀ a, ¬ (a = F.IMG_VOLATILE_WRITES_COUNT.addr) → t.rd a = s.rd a) ∧
        t.flash = s.flash) ∧
  (∀ (s : State),
      (s.get F.FLT_BANK_STATUS_STATE = 3) → (s.bankResult.1 ≠ 0) → 
      ∃ t, exec (.swapValidationDone) s = .next t ∧
        (t.get F.FLT_BANK_STATUS_STATE = 0) ∧
        (t.get F.FLT_BANK_STATUS_RESULT = s.bankResult.1) ∧
        (t.get F.FLT_BANK_STATUS_DONE = 1) ∧
        (t.get F.FLT_BANK_STATUS_BAD_RULE = s.bankResult.2 % 4096) ∧
        (t.get F.FLT_COMMIT_SWAP = 0) ∧
        (t.get F.FLT_BANK_STATUS_ACTIVE_BANK = s.get F.FLT_BANK_STATUS_ACTIVE_BANK) ∧
        (t.units = s.units) ∧
        (∀ a, ¬ (a = F.FLT_BANK_STATUS_STATE.addr ∨ a = F.FLT_COMMIT_SWAP.addr) → t.rd a = s.rd a) ∧
        t.force = s.force ∧
        t.flash = s.flash) ∧
  (∀ (s : State),
      (s.get F.FLT_BANK_STATUS_STATE = 3) → (s.bankResult.1 = 0) → 
      ∃ t, exec (.swapValidationDone) s = .next t ∧
        (t.get F.FLT_BANK_STATUS_STATE = 1) ∧
        (t.get F.FLT_SWAP_TIME_T_SWAP = nextMultiple s.now (s.get F.FLT_CTRL_SWAP_K)) ∧
        (t.get F.FLT_BANK_STATUS_ACTIVE_BANK = 1 - s.get F.FLT_BANK_STATUS_ACTIVE_BANK) ∧
        (t.get F.FLT_BANK_STATUS_BAD_RULE = 0) ∧
        (t.get F.FLT_COMMIT_SWAP = 0) ∧
        (t.get F.FLT_BANK_STATUS_DONE = s.get F.FLT_BANK_STATUS_DONE) ∧
        (t.units.tenants = s.units.tenants) ∧
        (∀ a, ¬ (a = F.FLT_BANK_STATUS_STATE.addr ∨ a = F.FLT_COMMIT_SWAP.addr ∨ a = F.FLT_SWAP_TIME_T_SWAP.addr) → t.rd a = s.rd a) ∧
        t.force = s.force ∧
        t.flash = s.flash) ∧
  (∀ (s : State),
      (s.get F.FLT_BANK_STATUS_STATE ≠ 3) → exec (.swapValidationDone) s = .next s) ∧
  (∀ (s : State),
      (s.get F.FLT_BANK_STATUS_STATE = 1) → (0 ≤ dif s.now (s.get F.FLT_SWAP_TIME_T_SWAP)) → 
      ∃ t, exec (.tSwapReached) s = .next t ∧
        (t.get F.FLT_BANK_STATUS_STATE = 2) ∧
        (t.get F.FLT_BANK_STATUS_ACTIVE_BANK = s.get F.FLT_BANK_STATUS_ACTIVE_BANK) ∧
        (∀ o, o < 0x100000 → t.rd (0x02100000 + o) = s.rd (0x02200000 + o) ∧ t.rd (0x02200000 + o) = s.rd (0x02100000 + o)) ∧
        (∀ a, ¬ (a = F.FLT_BANK_STATUS_STATE.addr ∨ (0x02100000 ≤ a ∧ a < 0x02300000)) → t.rd a = s.rd a) ∧
        t.force = s.force ∧
        t.flash = s.flash) ∧
  (∀ (s : State),
      (s.get F.FLT_BANK_STATUS_STATE ≠ 1 ∨ dif s.now (s.get F.FLT_SWAP_TIME_T_SWAP) < 0) → exec (.tSwapReached) s = .next s) ∧
  (∀ (s : State),
      (s.get F.FLT_BANK_STATUS_STATE = 2) → (2 ^ 34 ≤ dif s.now (s.get F.FLT_SWAP_TIME_T_SWAP)) → 
      ∃ t, exec (.bankRetire) s = .next t ∧
        (t.get F.FLT_BANK_STATUS_STATE = 0) ∧
        (t.get F.FLT_BANK_STATUS_DONE = 1) ∧
        (t.get F.FLT_BANK_STATUS_RESULT = 0) ∧
        (t.units = s.units) ∧
        (∀ a, t.rdForce a = if (0x02001000 ≤ a ∧ a < 0x02001400) ∨ (0x02010000 ≤ a ∧ a < 0x02012030) then s.rd a else s.rdForce a) ∧
        (∀ a, ¬ (a = F.FLT_BANK_STATUS_STATE.addr) → t.rd a = s.rd a) ∧
        t.flash = s.flash) ∧
  (∀ (s : State),
      (s.get F.FLT_BANK_STATUS_STATE ≠ 2 ∨ dif s.now (s.get F.FLT_SWAP_TIME_T_SWAP) < 2 ^ 34) → exec (.bankRetire) s = .next s) ∧
  (∀ (s : State),
      (s.get F.FLT_BANK_STATUS_COPYING = 1) → 
      ∃ t, exec (.copyDone) s = .next t ∧
        (t.get F.FLT_BANK_STATUS_COPYING = 0) ∧
        (t.get F.FLT_COMMIT_COPY = 0) ∧
        (t.get F.FLT_BANK_STATUS_DONE = 1) ∧
        (t.get F.FLT_BANK_STATUS_RESULT = 0) ∧
        (t.get F.FLT_BANK_STATUS_STATE = s.get F.FLT_BANK_STATUS_STATE) ∧
        (∀ o, o < 0x100000 → t.rd (0x02100000 + o) = s.rd (0x02200000 + o)) ∧
        (∀ a, ¬ (a = F.FLT_BANK_STATUS_STATE.addr ∨ a = F.FLT_COMMIT_COPY.addr ∨ (0x02100000 ≤ a ∧ a < 0x02200000)) → t.rd a = s.rd a) ∧
        t.force = s.force ∧
        t.flash = s.flash) ∧
  (∀ (s : State),
      (s.get F.FLT_BANK_STATUS_COPYING = 0) → exec (.copyDone) s = .next s)

/-- When the oldest stratum of the life of a stream that closes strata is covered by the least guarded watermark and its own end has passed, it closes by watermark; when its horizon has passed without that, by horizon, and a watermark that covers it by then closes it by watermark. A close by horizon waits for the end of its window while the window has commands to come. The close counts CLOSED_WM or CLOSED_HORIZON, sets LAST_BY_HORIZON, moves OLDEST_START to the end of the stratum, and marks the stratum. A life whose disable the close reaches is over: the next life goes on from its own start. No register outside the stream, the ports, the queues and Signet changes. A close that is not ready does nothing. A second after a lane left ACTIVE its talkers stop contributing, and only that lane's unit changes. -/
def Obligations.StratumCloses : Prop :=
  (∀ (s : State) (st : Nat) (l : Life),
      (st < 8192) → (s.closeReady st = some false) → ((s.cal st).closing = some l) → (∀ b ∈ l.stop, dif ((s.get (F.CAL_STREAM_OLDEST_START st) + 2 ^ s.atOldest st (F.CAL_STREAM_CFG_STRATUM_K st)) % 2 ^ 64) b < 0) → 
      ∃ t, exec (.stratumCloseByWatermark st) s = .next t ∧
        (t.get (F.CAL_STREAM_OLDEST_START st) = (s.get (F.CAL_STREAM_OLDEST_START st) + 2 ^ s.atOldest st (F.CAL_STREAM_CFG_STRATUM_K st)) % 2 ^ 64) ∧
        (t.get (F.CAL_STREAM_CLOSED_WM_C st) = (s.get (F.CAL_STREAM_CLOSED_WM_C st) + 1) % 2 ^ 48) ∧
        (t.get (F.CAL_STREAM_STATUS_LAST_BY_HORIZON st) = 0) ∧
        (∃ m ∈ (t.cal st).lives, m.start = l.start ∧ m.domain = l.domain ∧ m.isOver = false ∧ m.edge = ((s.get (F.CAL_STREAM_OLDEST_START st) + 2 ^ s.atOldest st (F.CAL_STREAM_CFG_STRATUM_K st)) % 2 ^ 64, false) ∧ ∃ x ∈ m.strata, x.start = s.get (F.CAL_STREAM_OLDEST_START st) ∧ x.closed = some false ∧ x.closedAt = s.keep.elapsed) ∧
        (∀ a, ¬ (inStreamBlocks st a ∨ inOutputBlocks a) → t.rd a = s.rd a) ∧
        t.flash = s.flash) ∧
  (∀ (s : State) (st : Nat),
      (s.closeReady st ≠ some false) → exec (.stratumCloseByWatermark st) s = .next s) ∧
  (∀ (s : State) (st : Nat) (l : Life),
      (st < 8192) → (s.closeReady st = some true) → (s.pending = []) → ((s.cal st).closing = some l) → (∀ b ∈ l.stop, dif ((s.get (F.CAL_STREAM_OLDEST_START st) + 2 ^ s.atOldest st (F.CAL_STREAM_CFG_STRATUM_K st)) % 2 ^ 64) b < 0) → 
      ∃ t, exec (.stratumCloseByHorizon st) s = .next t ∧
        (t.get (F.CAL_STREAM_OLDEST_START st) = (s.get (F.CAL_STREAM_OLDEST_START st) + 2 ^ s.atOldest st (F.CAL_STREAM_CFG_STRATUM_K st)) % 2 ^ 64) ∧
        (t.get (F.CAL_STREAM_CLOSED_HORIZON_C st) = (s.get (F.CAL_STREAM_CLOSED_HORIZON_C st) + 1) % 2 ^ 48) ∧
        (t.get (F.CAL_STREAM_STATUS_LAST_BY_HORIZON st) = 1) ∧
        (∃ m ∈ (t.cal st).lives, m.start = l.start ∧ m.domain = l.domain ∧ m.isOver = false ∧ m.edge = ((s.get (F.CAL_STREAM_OLDEST_START st) + 2 ^ s.atOldest st (F.CAL_STREAM_CFG_STRATUM_K st)) % 2 ^ 64, true) ∧ ∃ x ∈ m.strata, x.start = s.get (F.CAL_STREAM_OLDEST_START st) ∧ x.closed = some true ∧ x.closedAt = s.keep.elapsed) ∧
        (∀ a, ¬ (inStreamBlocks st a ∨ inOutputBlocks a) → t.rd a = s.rd a) ∧
        t.flash = s.flash) ∧
  (∀ (s : State) (st : Nat),
      (st < 8192) → (s.closeReady st = some true) → (s.pending ≠ []) → 
      ∃ t, exec (.stratumCloseByHorizon st) s = .next t ∧
        (t = { s with win := { s.win with horizons := s.win.horizons ++ [st] } })) ∧
  (∀ (s : State) (st : Nat) (l : Life),
      (st < 8192) → (s.closeReady st = some false) → ((s.cal st).closing = some l) → (∀ b ∈ l.stop, dif ((s.get (F.CAL_STREAM_OLDEST_START st) + 2 ^ s.atOldest st (F.CAL_STREAM_CFG_STRATUM_K st)) % 2 ^ 64) b < 0) → 
      ∃ t, exec (.stratumCloseByHorizon st) s = .next t ∧
        (t.get (F.CAL_STREAM_OLDEST_START st) = (s.get (F.CAL_STREAM_OLDEST_START st) + 2 ^ s.atOldest st (F.CAL_STREAM_CFG_STRATUM_K st)) % 2 ^ 64) ∧
        (t.get (F.CAL_STREAM_CLOSED_WM_C st) = (s.get (F.CAL_STREAM_CLOSED_WM_C st) + 1) % 2 ^ 48) ∧
        (t.get (F.CAL_STREAM_STATUS_LAST_BY_HORIZON st) = 0) ∧
        (∃ m ∈ (t.cal st).lives, m.start = l.start ∧ m.domain = l.domain ∧ m.isOver = false ∧ m.edge = ((s.get (F.CAL_STREAM_OLDEST_START st) + 2 ^ s.atOldest st (F.CAL_STREAM_CFG_STRATUM_K st)) % 2 ^ 64, false) ∧ ∃ x ∈ m.strata, x.start = s.get (F.CAL_STREAM_OLDEST_START st) ∧ x.closed = some false ∧ x.closedAt = s.keep.elapsed) ∧
        (∀ a, ¬ (inStreamBlocks st a ∨ inOutputBlocks a) → t.rd a = s.rd a) ∧
        t.flash = s.flash) ∧
  (∀ (s : State) (st b : Nat) (l : Life),
      (st < 8192) → (s.closeReady st = some false) → ((s.cal st).lives = [l]) → (l.isOver = false) → (l.stop = some b) → (0 ≤ dif ((s.get (F.CAL_STREAM_OLDEST_START st) + 2 ^ s.atOldest st (F.CAL_STREAM_CFG_STRATUM_K st)) % 2 ^ 64) b) → 
      ∃ t, exec (.stratumCloseByWatermark st) s = .next t ∧
        (t.get (F.CAL_STREAM_OLDEST_START st) = (s.get (F.CAL_STREAM_OLDEST_START st) + 2 ^ s.atOldest st (F.CAL_STREAM_CFG_STRATUM_K st)) % 2 ^ 64) ∧
        (t.get (F.CAL_STREAM_CLOSED_WM_C st) = (s.get (F.CAL_STREAM_CLOSED_WM_C st) + 1) % 2 ^ 48) ∧
        (t.get (F.CAL_STREAM_STATUS_LAST_BY_HORIZON st) = 0) ∧
        (∃ m ∈ (t.cal st).lives, m.start = l.start ∧ m.domain = l.domain ∧ m.isOver = true ∧ m.edge = ((s.get (F.CAL_STREAM_OLDEST_START st) + 2 ^ s.atOldest st (F.CAL_STREAM_CFG_STRATUM_K st)) % 2 ^ 64, false) ∧ ∃ x ∈ m.strata, x.start = s.get (F.CAL_STREAM_OLDEST_START st) ∧ x.closed = some false ∧ x.closedAt = s.keep.elapsed) ∧
        ((t.cal st).closing = none) ∧
        (∀ a, ¬ (inStreamBlocks st a ∨ inOutputBlocks a) → t.rd a = s.rd a) ∧
        t.flash = s.flash) ∧
  (∀ (s : State) (st b : Nat) (l n : Life),
      (st < 8192) → (s.closeReady st = some true) → (s.pending = []) → ((s.cal st).lives = [l, n]) → (l.isOver = false) → (n.isOver = false) → (l.stop = some b) → (0 ≤ dif ((s.get (F.CAL_STREAM_OLDEST_START st) + 2 ^ s.atOldest st (F.CAL_STREAM_CFG_STRATUM_K st)) % 2 ^ 64) b) → (n.start < 2 ^ 64) → 
      ∃ t, exec (.stratumCloseByHorizon st) s = .next t ∧
        (t.get (F.CAL_STREAM_OLDEST_START st) = n.start) ∧
        (t.get (F.CAL_STREAM_CLOSED_HORIZON_C st) = (s.get (F.CAL_STREAM_CLOSED_HORIZON_C st) + 1) % 2 ^ 48) ∧
        (t.get (F.CAL_STREAM_STATUS_LAST_BY_HORIZON st) = 1) ∧
        (∃ m ∈ (t.cal st).lives, m.start = l.start ∧ m.domain = l.domain ∧ m.isOver = true ∧ m.edge = ((s.get (F.CAL_STREAM_OLDEST_START st) + 2 ^ s.atOldest st (F.CAL_STREAM_CFG_STRATUM_K st)) % 2 ^ 64, true) ∧ ∃ x ∈ m.strata, x.start = s.get (F.CAL_STREAM_OLDEST_START st) ∧ x.closed = some true ∧ x.closedAt = s.keep.elapsed) ∧
        ((t.cal st).closing = some n) ∧
        (∀ a, ¬ (inStreamBlocks st a ∨ inOutputBlocks a) → t.rd a = s.rd a) ∧
        t.flash = s.flash) ∧
  (∀ (s : State) (st : Nat),
      (s.closeReady st = none) → exec (.stratumCloseByHorizon st) s = .next s) ∧
  (∀ (s : State) (l at_ : Nat),
      ((s.lane l).leftActive = some at_) → (at_ + tickS ≤ s.keep.elapsed) → 
      ∃ t, exec (.contributorGraceExpiry l) s = .next t ∧
        (t.lane l = { s.lane l with leftActive := none }) ∧
        (t.regs = s.regs) ∧
        (t.keep = s.keep) ∧
        (t.units.talkers = s.units.talkers) ∧
        (t.units.cal = s.units.cal) ∧
        (∀ m, m ≠ l → t.lane m = s.lane m) ∧
        t.force = s.force ∧
        t.flash = s.flash) ∧
  (∀ (s : State) (l : Nat),
      (∀ at_ ∈ (s.lane l).leftActive, s.keep.elapsed < at_ + tickS) → exec (.contributorGraceExpiry l) s = .next s)

/-- STRATUM_EMIT of a tenant has its effect when weighted deficit round robin gives that tenant the turn: of its strata with copies that closed in an earlier window the one that closed first, of the lower stream among equals: its copies and the late copies waiting leave for segmentation, both are counted in SENTENCES_EMITTED and OCTETS_EMITTED, and the stratum is gone. When it is not that tenant's turn, or it has no such stratum, nothing is emitted. STRATUM_EVICTION moves the hot copies of the stream's oldest open stratum past its hot age behind those it has in the near-buffer region and counts the eviction; a region that is full or denied only counts EVICT_DENIED, and without a region or a stratum of that age nothing happens. No register outside the stream, the ports, the queues and Signet changes. -/
def Obligations.StratumEmissionAndEviction : Prop :=
  (∀ (s : State) (k st : Nat) (x : Stratum),
      (st < 8192) → ((nextWaiter s.waiters).map (fun w => (w.tenant, w.stream, w.stratum)) = some (k, st, x)) → 
      ∃ t, exec (.stratumEmit k) s = .next t ∧
        (t.get (F.CAL_STREAM_SENTENCES_EMITTED_C st) = (s.get (F.CAL_STREAM_SENTENCES_EMITTED_C st) + (x.hot ++ x.near).length + (s.cal st).late.length) % 2 ^ 48) ∧
        (t.get (F.CAL_STREAM_OCTETS_EMITTED_C st) = (s.get (F.CAL_STREAM_OCTETS_EMITTED_C st) + copyBytes (x.hot ++ x.near) + copyBytes (s.cal st).late) % 2 ^ 48) ∧
        (t.units.shares.turn = k) ∧
        ((t.cal st).late = []) ∧
        ((t.cal st).strata.length < (s.cal st).strata.length) ∧
        (t.units.tenants = s.units.tenants) ∧
        (∀ m, m ≠ st → t.cal m = s.cal m) ∧
        (∀ a, ¬ (inStreamBlocks st a ∨ inOutputBlocks a) → t.rd a = s.rd a) ∧
        t.flash = s.flash) ∧
  (∀ (s : State) (k : Nat),
      (∀ w ∈ nextWaiter s.waiters, w.tenant ≠ k) → exec (.stratumEmit k) s = .next s) ∧
  (∀ (s : State) (st : Nat) (l : Life) (x : Stratum),
      (st < 8192) → (s.evictable st = some (l, x)) → (s.regionSize ≠ 0) → (s.regionBytes + copyBytes x.hot ≤ s.regionSize) → 
      ∃ t, exec (.stratumEviction st false) s = .next t ∧
        (t.get (F.CAL_STREAM_EVICTIONS_C st) = (s.get (F.CAL_STREAM_EVICTIONS_C st) + 1) % 2 ^ 48) ∧
        ((t.cal st).lives = (s.cal st).lives.map (fun m => if m.start = l.start ∧ m.domain = l.domain then { m with strata := m.strata.map (fun y => if y.start = x.start then { y with near := y.near ++ y.hot, hot := [], evicted := true } else y) } else m)) ∧
        ((t.cal st).late = (s.cal st).late) ∧
        (∀ m, m ≠ st → t.cal m = s.cal m) ∧
        (∀ a, ¬ (a = (F.CAL_STREAM_EVICTIONS_C st).addr ∨ inQueueBlocks a) → t.rd a = s.rd a) ∧
        t.force = s.force ∧
        t.flash = s.flash) ∧
  (∀ (s : State) (st : Nat) (denied : Bool) (l : Life) (x : Stratum),
      (st < 8192) → (s.evictable st = some (l, x)) → (s.regionSize ≠ 0) → (denied = true ∨ s.regionSize < s.regionBytes + copyBytes x.hot) → 
      ∃ t, exec (.stratumEviction st denied) s = .next t ∧
        (t.get F.CAL_DEVICE_EVICT_DENIED_C = (s.get F.CAL_DEVICE_EVICT_DENIED_C + 1) % 2 ^ 48) ∧
        (t.units.cal = s.units.cal) ∧
        (∀ a, ¬ (a = F.CAL_DEVICE_EVICT_DENIED_C.addr ∨ inQueueBlocks a) → t.rd a = s.rd a) ∧
        t.force = s.force ∧
        t.flash = s.flash) ∧
  (∀ (s : State) (st : Nat) (denied : Bool),
      (s.evictable st = none ∨ s.regionSize = 0) → exec (.stratumEviction st denied) s = .next s)

/-- A COMMIT by T0 or the owner, with none pending and no reset of the tenant, is checked: a faulty entry gets its RESULT, and Caldera's, and nothing else. An entry that enables, disables or keeps an enabled stream sets T_APPLY, PENDING and RESULT 0 and stays out of force until then: a disable ends the stream's life at T_APPLY, an enable begins a life there, with its oldest stratum where no other closes strata. A disabled entry of an idle stream is in force at once; while the stream still emits it waits. A COMMIT while one is pending only sets WRITE_LOST; another tenant's gets RESULT 5. Once the stream's time has reached T_APPLY the staged entry is in force and PENDING clears; before that the apply does nothing. Registers outside the stream, the ports, the queues and Signet stay. -/
def Obligations.StreamCommits : Prop :=
  (∀ (s : State) (st w : Nat) (v : Word),
      (st < 8192) → (s.has 0 = true) → (getBits v 0 0 = 1) → (s.get (F.STR_STATUS_PENDING st) = 1) → (∀ c ∈ s.pending, c ≠ .streamConfigApply st) → (s.get F.IMG_VOLATILE_WRITES_COUNT + 1 < 2 ^ 47) → 
      ∃ t, exec (.strCommit st w v) s = .next t ∧
        (t.get (F.STR_STATUS_WRITE_LOST st) = 1) ∧
        (t.get (F.STR_STATUS_PENDING st) = 1) ∧
        (t.get (F.STR_STATUS_RESULT st) = s.get (F.STR_STATUS_RESULT st)) ∧
        (t.units = s.units) ∧
        (∀ a, ¬ (a = (F.STR_STATUS_RESULT st).addr ∨ a = F.IMG_VOLATILE_WRITES_COUNT.addr) → t.rd a = s.rd a) ∧
        t.force = s.force ∧
        t.flash = s.flash) ∧
  (∀ (s : State) (st w : Nat) (v : Word),
      (st < 8192) → (s.has 0 = true) → (getBits v 0 0 = 1) → (s.get (F.STR_STATUS_PENDING st) = 0) → (w ≠ 0) → (w ≠ s.streamOwner st) → (s.get F.IMG_VOLATILE_WRITES_COUNT + 1 < 2 ^ 47) → 
      ∃ t, exec (.strCommit st w v) s = .next t ∧
        (t.get (F.STR_STATUS_RESULT st) = 5) ∧
        (t.get (F.STR_STATUS_PENDING st) = 0) ∧
        (t.units = s.units) ∧
        (∀ a, ¬ (a = (F.STR_STATUS_RESULT st).addr ∨ a = F.IMG_VOLATILE_WRITES_COUNT.addr) → t.rd a = s.rd a) ∧
        t.force = s.force ∧
        t.flash = s.flash) ∧
  (∀ (s : State) (st w : Nat) (v : Word),
      (st < 8192) → (s.has 0 = true) → (getBits v 0 0 = 1) → (s.get (F.STR_STATUS_PENDING st) = 0) → (w = 0 ∨ w = s.streamOwner st) → (s.resetting (s.streamOwner st) = true) → (s.get F.IMG_VOLATILE_WRITES_COUNT + 1 < 2 ^ 47) → 
      ∃ t, exec (.strCommit st w v) s = .next t ∧
        (t.get (F.STR_STATUS_WRITE_LOST st) = if w = 0 then 1 else s.get (F.STR_STATUS_WRITE_LOST st)) ∧
        (t.get (F.STR_STATUS_RESULT st) = s.get (F.STR_STATUS_RESULT st)) ∧
        (t.units = s.units) ∧
        (∀ a, ¬ (a = (F.STR_STATUS_RESULT st).addr ∨ a = F.IMG_VOLATILE_WRITES_COUNT.addr) → t.rd a = s.rd a) ∧
        t.force = s.force ∧
        t.flash = s.flash) ∧
  (∀ (s : State) (st w : Nat) (v : Word),
      (st < 8192) → (s.has 0 = true) → (getBits v 0 0 = 1) → (s.get (F.STR_STATUS_PENDING st) = 0) → (w = 0 ∨ w = s.streamOwner st) → (s.resetting (s.streamOwner st) = false) → (s.streamResult st ≠ 0) → (s.get F.IMG_VOLATILE_WRITES_COUNT + 1 < 2 ^ 47) → 
      ∃ t, exec (.strCommit st w v) s = .next t ∧
        (t.get (F.STR_STATUS_RESULT st) = s.streamResult st) ∧
        (t.get (F.CAL_STREAM_STATUS_RESULT st) = s.calResult st) ∧
        (t.get (F.STR_STATUS_PENDING st) = 0) ∧
        (t.units = s.units) ∧
        (∀ a, ¬ (a = (F.STR_STATUS_RESULT st).addr ∨ a = (F.CAL_STREAM_STATUS_RESULT st).addr ∨ a = F.IMG_VOLATILE_WRITES_COUNT.addr) → t.rd a = s.rd a) ∧
        t.force = s.force ∧
        t.flash = s.flash) ∧
  (∀ (s : State) (st w : Nat) (v : Word),
      (st < 8192) → (s.has 0 = true) → (getBits v 0 0 = 1) → (s.get (F.STR_STATUS_PENDING st) = 0) → (w = 0 ∨ w = s.streamOwner st) → (s.resetting (s.streamOwner st) = false) → (s.streamResult st = 0) → (s.liveIs (F.STR_CFG_ENABLED st) = true ∨ s.is (F.STR_CFG_ENABLED st) = true) → (s.get F.IMG_VOLATILE_WRITES_COUNT + 1 < 2 ^ 47) → 
      ∃ t, exec (.strCommit st w v) s = .next t ∧
        (t.get (F.CAL_STREAM_APPLY_T_APPLY st) = s.applyTime st) ∧
        (t.get (F.STR_STATUS_PENDING st) = 1) ∧
        (t.get (F.STR_STATUS_RESULT st) = 0) ∧
        (t.get (F.STR_CTRL_COMMIT st) = 1) ∧
        (t.get (F.CAL_STREAM_STATUS_RESULT st) = 0) ∧
        (s.is (F.STR_CFG_ENABLED st) = false → (s.cal st).lives ≠ [] → (t.cal st).lives.getLast?.bind (·.stop) = some (s.applyTime st)) ∧
        (s.liveIs (F.STR_CFG_ENABLED st) = false → (t.cal st).lives.getLast?.map (fun l => (l.start, l.domain, l.stop)) = some (s.applyTime st, s.get (F.STR_CFG_DOMAIN st), none) ∧ ((s.cal st).closing = none → t.get (F.CAL_STREAM_OLDEST_START st) = s.applyTime st)) ∧
        (s.liveIs (F.STR_CFG_ENABLED st) = true → s.is (F.STR_CFG_ENABLED st) = true → t.units = s.units) ∧
        (∀ a, ¬ (inStreamBlocks st a ∨ a = F.IMG_VOLATILE_WRITES_COUNT.addr) → t.rd a = s.rd a) ∧
        t.force = s.force ∧
        t.flash = s.flash) ∧
  (∀ (s : State) (st w : Nat) (v : Word),
      (st < 8192) → (s.has 0 = true) → (getBits v 0 0 = 1) → (s.get (F.STR_STATUS_PENDING st) = 0) → (w = 0 ∨ w = s.streamOwner st) → (s.resetting (s.streamOwner st) = false) → (s.streamResult st = 0) → (s.liveIs (F.STR_CFG_ENABLED st) = false) → (s.is (F.STR_CFG_ENABLED st) = false) → (s.streamIdle st = true) → (s.get F.IMG_VOLATILE_WRITES_COUNT + 1 < 2 ^ 47) → 
      ∃ t, exec (.strCommit st w v) s = .next t ∧
        (t.get (F.STR_STATUS_PENDING st) = 0) ∧
        (t.get (F.STR_STATUS_RESULT st) = 0) ∧
        (t.units = s.units) ∧
        (∀ a ∈ streamRegs st, t.rdForce a = s.rd a) ∧
        (∀ a, a ∉ streamRegs st → t.rdForce a = s.rdForce a) ∧
        (∀ a, ¬ (a = (F.STR_STATUS_RESULT st).addr ∨ a = (F.CAL_STREAM_STATUS_RESULT st).addr ∨ a = (F.STR_CTRL_COMMIT st).addr ∨ a = F.IMG_VOLATILE_WRITES_COUNT.addr) → t.rd a = s.rd a) ∧
        t.flash = s.flash) ∧
  (∀ (s : State) (st w : Nat) (v : Word),
      (st < 8192) → (s.has 0 = true) → (getBits v 0 0 = 1) → (s.get (F.STR_STATUS_PENDING st) = 0) → (w = 0 ∨ w = s.streamOwner st) → (s.resetting (s.streamOwner st) = false) → (s.streamResult st = 0) → (s.liveIs (F.STR_CFG_ENABLED st) = false) → (s.is (F.STR_CFG_ENABLED st) = false) → (s.streamIdle st = false) → 
      ∃ t, exec (.strCommit st w v) s = .next t ∧
        (t.get (F.STR_STATUS_PENDING st) = 1) ∧
        ((t.cal st).deferred = true) ∧
        (∀ a, ¬ (inStreamBlocks st a ∨ a = F.IMG_VOLATILE_WRITES_COUNT.addr ∨ 0x08000000 ≤ a) → t.rd a = s.rd a) ∧
        t.force = s.force ∧
        t.flash = s.flash) ∧
  (∀ (s : State) (st w : Nat) (v : Word),
      (getBits v 0 0 = 0 ∨ s.has 0 = false) → (s.get F.IMG_VOLATILE_WRITES_COUNT + 1 < 2 ^ 47) → 
      ∃ t, exec (.strCommit st w v) s = .next t ∧
        (t.units = s.units) ∧
        (t.keep = s.keep) ∧
        (t.force = s.force) ∧
        (t.out = s.out) ∧
        (∀ a, ¬ (a = F.IMG_VOLATILE_WRITES_COUNT.addr) → t.rd a = s.rd a) ∧
        t.flash = s.flash) ∧
  (∀ (s : State) (st : Nat),
      (st < 8192) → (s.get (F.STR_STATUS_PENDING st) = 1) → ((s.cal st).deferred = false) → ((s.cal st).byReset = false) → (0 ≤ dif (s.nowIn (s.get (F.STR_CFG_DOMAIN st))) (s.get (F.CAL_STREAM_APPLY_T_APPLY st))) → 
      ∃ t, exec (.streamConfigApply st) s = .next t ∧
        (t.get (F.STR_STATUS_PENDING st) = 0) ∧
        (t.get (F.STR_CTRL_COMMIT st) = 0) ∧
        (∀ a ∈ streamRegs st, t.rdForce a = s.rd a) ∧
        (t.get (F.STR_CFG_ENABLED st) = s.get (F.STR_CFG_ENABLED st)) ∧
        (∀ a, ¬ (inStreamBlocks st a ∨ inOutputBlocks a) → t.rd a = s.rd a) ∧
        t.flash = s.flash) ∧
  (∀ (s : State) (st : Nat),
      (st < 8192) → (s.get (F.STR_STATUS_PENDING st) = 1) → ((s.cal st).deferred = false) → ((s.cal st).byReset = true) → (0 ≤ dif (s.nowIn (s.live (F.STR_CFG_DOMAIN st))) (s.get (F.CAL_STREAM_APPLY_T_APPLY st))) → 
      ∃ t, exec (.streamConfigApply st) s = .next t ∧
        (t.get (F.STR_STATUS_PENDING st) = 0) ∧
        (t.live (F.STR_CFG_ENABLED st) = 0) ∧
        ((t.cal st).byReset = false) ∧
        (∀ d ∈ List.range 16, t.live (F.STR_DEST_KIND st d) = s.live (F.STR_DEST_KIND st d)) ∧
        (∀ a, ¬ (inStreamBlocks st a ∨ inOutputBlocks a) → t.rd a = s.rd a) ∧
        t.flash = s.flash) ∧
  (∀ (s : State) (st : Nat),
      (s.get (F.STR_STATUS_PENDING st) = 0 ∨ (s.cal st).deferred = true ∨ ((s.cal st).byReset = false ∧ dif (s.nowIn (s.get (F.STR_CFG_DOMAIN st))) (s.get (F.CAL_STREAM_APPLY_T_APPLY st)) < 0)) → exec (.streamConfigApply st) s = .next s)

/-- At an enabled queue a start-of-item with room, from a producer that feeds the queue, opens its item of one cell, and each further cell joins it. The first cell beyond MAX_ITEM_CELLS rewinds the item and counts BAD_ITEMS, one beyond CELL_QUOTA rewinds it with OVERRUN and OVERRUNS, and the rest of the item is discarded and counted until its end or the next start-of-item. Another producer that starts meanwhile waits. A good end commits the item behind those committed: depth grows by one and ITEMS_PUSHED and OCTETS_PUSHED count it. A bad end rewinds it and counts BAD_ITEMS; an end at full rewinds it and sets OVERRUN, and while the window has commands to come it waits for a pop. The end of a discarded item ends a flush. The first producer to arrive is then granted the input. A disabled queue ignores a new item. No register but the queue's and the notification queues' changes, save where a sealed frame is diverted. -/
def Obligations.QueueInput : Prop :=
  (∀ (s : State) (q : Nat) (p : Producer) (start : Bool) (cell : List Byte),
      (q < 4096) → (s.mismatched q = false) → (s.is (F.Q_CFG_ENABLE q) = true) → ((producersOf q).contains p = true) → ((s.queue q).partial_ = none) → (1 ≤ s.get (F.Q_CFG_MAX_ITEM_CELLS q)) → ((s.queue q).cells + 1 ≤ s.get (F.Q_QUOTA_CELL_QUOTA q)) → 
      ∃ t, exec (.queueCell q p true cell) s = .next t ∧
        (t.queue q = { s.queue q with partial_ := some { s.newItem q p { data := cell } with cells := 1, bodyCells := if (s.queue q).cells < 16 then 0 else 1 } }) ∧
        (t.get (F.Q_STATUS_PARTIAL q) = 1) ∧
        (t.get (F.Q_DEPTH_ITEMS q) = (s.queue q).items.length % 65536) ∧
        (t.get (F.Q_POINTERS_TAIL q) = (s.get (F.Q_POINTERS_TAIL q) + (if (s.queue q).cells < 16 then 0 else 1)) % s.get (F.Q_QUOTA_CELL_QUOTA q)) ∧
        (∀ a, ¬ (inQueue q a) → t.rd a = s.rd a) ∧
        t.force = s.force ∧
        t.flash = s.flash) ∧
  (∀ (s : State) (q : Nat) (p : Producer) (start : Bool) (cell : List Byte) (x : PartialItem),
      (q < 4096) → (s.mismatched q = false) → (s.is (F.Q_CFG_ENABLE q) = true) → ((producersOf q).contains p = true) → ((s.queue q).partial_ = some x) → (x.producer = p) → (x.discarding = false) → (x.cells < x.maxCells) → ((s.queue q).cells + 1 ≤ s.get (F.Q_QUOTA_CELL_QUOTA q)) → 
      ∃ t, exec (.queueCell q p start cell) s = .next t ∧
        (t.queue q = { s.queue q with partial_ := some { x with cells := x.cells + 1, bodyCells := x.bodyCells + (if (s.queue q).cells < 16 then 0 else 1), item := { x.item with data := x.item.data ++ cell } } }) ∧
        (t.get (F.Q_POINTERS_TAIL q) = (s.get (F.Q_POINTERS_TAIL q) + (if (s.queue q).cells < 16 then 0 else 1)) % s.get (F.Q_QUOTA_CELL_QUOTA q)) ∧
        (∀ a, ¬ (inQueue q a) → t.rd a = s.rd a) ∧
        t.force = s.force ∧
        t.flash = s.flash) ∧
  (∀ (s : State) (q : Nat) (p : Producer) (start : Bool) (cell : List Byte) (x : PartialItem),
      (q < 4096) → (s.mismatched q = false) → (s.is (F.Q_CFG_ENABLE q) = true) → ((producersOf q).contains p = true) → ((s.queue q).partial_ = some x) → (x.producer = p) → (x.discarding = false) → (x.maxCells ≤ x.cells) → 
      ∃ t, exec (.queueCell q p start cell) s = .next t ∧
        ((t.queue q).partial_ = some { x with discarding := true, cells := 0, bodyCells := 0 }) ∧
        (¬ isNotify q → (t.queue q).items = (s.queue q).items) ∧
        (¬ isNotify q → t.get (F.Q_BAD_ITEMS_C q) = (s.get (F.Q_BAD_ITEMS_C q) + 1) % 2 ^ 48) ∧
        (¬ isNotify q → t.get (F.Q_DISCARDED_CELLS_C q) = (s.get (F.Q_DISCARDED_CELLS_C q) + x.cells + 1) % 2 ^ 48) ∧
        (t.get (F.Q_STATUS_OVERRUN q) = s.get (F.Q_STATUS_OVERRUN q) ∨ isNotify q) ∧
        (t.get (F.Q_STATUS_DISCARDING q) = 1) ∧
        (∀ a, ¬ (inQueue q a ∨ inNotify a) → t.rd a = s.rd a) ∧
        t.force = s.force ∧
        t.flash = s.flash) ∧
  (∀ (s : State) (q : Nat) (p : Producer) (start : Bool) (cell : List Byte) (x : PartialItem),
      (q < 4096) → (s.mismatched q = false) → (s.is (F.Q_CFG_ENABLE q) = true) → ((producersOf q).contains p = true) → ((s.queue q).partial_ = some x) → (x.producer = p) → (x.discarding = false) → (x.cells < x.maxCells) → (s.get (F.Q_QUOTA_CELL_QUOTA q) < (s.queue q).cells + 1) → 
      ∃ t, exec (.queueCell q p start cell) s = .next t ∧
        ((t.queue q).partial_ = some { x with discarding := true, cells := 0, bodyCells := 0 }) ∧
        (¬ isNotify q → (t.queue q).items = (s.queue q).items) ∧
        (t.get (F.Q_STATUS_OVERRUN q) = 1) ∧
        (¬ isNotify q → t.get (F.Q_OVERRUNS_C q) = (s.get (F.Q_OVERRUNS_C q) + 1) % 2 ^ 48) ∧
        (¬ isNotify q → t.get (F.Q_DISCARDED_CELLS_C q) = (s.get (F.Q_DISCARDED_CELLS_C q) + x.cells + 1) % 2 ^ 48) ∧
        (t.get (F.Q_STATUS_DISCARDING q) = 1) ∧
        (∀ a, ¬ (inQueue q a ∨ inNotify a) → t.rd a = s.rd a) ∧
        t.force = s.force ∧
        t.flash = s.flash) ∧
  (∀ (s : State) (q : Nat) (p : Producer) (start : Bool) (cell : List Byte) (x : PartialItem),
      (q < 4096) → (s.mismatched q = false) → ((producersOf q).contains p = true) → ((s.queue q).partial_ = some x) → (x.producer = p) → (x.discarding = true) → 
      ∃ t, exec (.queueCell q p false cell) s = .next t ∧
        (¬ isNotify q → t.queue q = s.queue q) ∧
        (¬ isNotify q → t.get (F.Q_DISCARDED_CELLS_C q) = (s.get (F.Q_DISCARDED_CELLS_C q) + 1) % 2 ^ 48) ∧
        (∀ a, ¬ (inQueue q a ∨ inNotify a) → t.rd a = s.rd a) ∧
        t.force = s.force ∧
        t.flash = s.flash) ∧
  (∀ (s : State) (q : Nat) (p : Producer) (start : Bool) (cell : List Byte) (x : PartialItem),
      (q < 4096) → (s.mismatched q = false) → (s.is (F.Q_CFG_ENABLE q) = true) → (¬ isNotify q) → ((producersOf q).contains p = true) → ((s.queue q).partial_ = some x) → (x.producer = p) → (x.discarding = true) → ((s.queue q).waiting = []) → (1 ≤ cell.length) → (cell.length ≤ 64) → (1 ≤ s.get (F.Q_CFG_MAX_ITEM_CELLS q)) → ((s.queue q).cells + 1 ≤ s.get (F.Q_QUOTA_CELL_QUOTA q)) → 
      ∃ t, exec (.queueCell q p true cell) s = .next t ∧
        ((t.queue q).partial_.map (fun y => (y.producer, y.cells, y.item.data, y.discarding)) = some (p, 1, cell, false)) ∧
        ((t.queue q).items = (s.queue q).items) ∧
        ((t.queue q).waiting = []) ∧
        (t.get (F.Q_STATUS_DISCARDING q) = 0) ∧
        (t.get (F.Q_STATUS_FLUSHING q) = 0) ∧
        (∀ a, ¬ (inQueue q a ∨ inNotify a) → t.rd a = s.rd a) ∧
        t.force = s.force ∧
        t.flash = s.flash) ∧
  (∀ (s : State) (q : Nat) (p : Producer) (start : Bool) (cell : List Byte) (x : PartialItem),
      (q < 4096) → (s.mismatched q = false) → (s.is (F.Q_CFG_ENABLE q) = true) → ((producersOf q).contains p = true) → ((s.queue q).partial_ = some x) → (x.producer ≠ p) → ((s.queue q).waiting.any (fun w => w.producer = p) = false) → 
      ∃ t, exec (.queueCell q p true cell) s = .next t ∧
        (t.queue q = { s.queue q with waiting := (s.queue q).waiting ++ [{ producer := p, item := { data := cell }, since := s.keep.elapsed }] }) ∧
        (t.regs = s.regs) ∧
        (t.out = s.out) ∧
        t.force = s.force ∧
        t.flash = s.flash) ∧
  (∀ (s : State) (q : Nat) (p : Producer) (start : Bool) (cell : List Byte),
      (s.mismatched q = true ∨ (producersOf q).contains p = false ∨ ((s.queue q).partial_ = none ∧ (s.taking q = false ∨ start = false))) → exec (.queueCell q p start cell) s = .next s) ∧
  (∀ (s : State) (q : Nat) (p : PartialItem),
      (q < 4096) → ((s.queue q).waiting = []) → (s.mismatched q = false) → ((s.queue q).partial_ = some p) → (p.discarding = false) → (s.is (F.Q_CFG_ENABLE q) = true) → ((s.queue q).items.length + (s.queue q).late.length < p.limit) → (s.isolated 3 q = false) → 
      ∃ t, exec (.queueEndOfItem q p.producer true) s = .next t ∧
        ((t.queue q).items.take ((s.queue q).items.length + 1) = (s.queue q).items ++ [(p.item, p.bodyCells)]) ∧
        (¬ isNotify q → (t.queue q).items.length = (s.queue q).items.length + 1) ∧
        (¬ isNotify q → (t.queue q).partial_ = none) ∧
        (¬ isNotify q → t.get (F.Q_DEPTH_ITEMS q) = ((s.queue q).items.length + 1) % 65536) ∧
        (¬ isNotify q → t.get (F.Q_STATUS_EMPTY q) = 0) ∧
        (¬ isNotify q → t.get (F.Q_ITEMS_PUSHED_C q) = (s.get (F.Q_ITEMS_PUSHED_C q) + 1) % 2 ^ 48) ∧
        (¬ isNotify q → t.get (F.Q_OCTETS_PUSHED_C q) = (s.get (F.Q_OCTETS_PUSHED_C q) + p.item.data.length) % 2 ^ 64) ∧
        (∀ a, ¬ (inQueue q a ∨ inNotify a) → t.rd a = s.rd a) ∧
        t.force = s.force ∧
        t.flash = s.flash) ∧
  (∀ (s : State) (q : Nat) (p : PartialItem),
      (q < 4096) → ((s.queue q).waiting = []) → (s.mismatched q = false) → ((s.queue q).partial_ = some p) → (p.discarding = false) → 
      ∃ t, exec (.queueEndOfItem q p.producer false) s = .next t ∧
        (¬ isNotify q → (t.queue q).items = (s.queue q).items) ∧
        (¬ isNotify q → (t.queue q).partial_ = none) ∧
        (¬ isNotify q → t.get (F.Q_BAD_ITEMS_C q) = (s.get (F.Q_BAD_ITEMS_C q) + 1) % 2 ^ 48) ∧
        (¬ isNotify q → t.get (F.Q_DISCARDED_CELLS_C q) = (s.get (F.Q_DISCARDED_CELLS_C q) + p.cells) % 2 ^ 48) ∧
        (t.get (F.Q_POINTERS_TAIL q) = (s.get (F.Q_POINTERS_TAIL q) + s.get (F.Q_QUOTA_CELL_QUOTA q) - p.bodyCells % s.get (F.Q_QUOTA_CELL_QUOTA q)) % s.get (F.Q_QUOTA_CELL_QUOTA q) % 2 ^ 20 ∨ isNotify q) ∧
        (∀ a, ¬ (inQueue q a ∨ inNotify a) → t.rd a = s.rd a) ∧
        t.force = s.force ∧
        t.flash = s.flash) ∧
  (∀ (s : State) (q : Nat) (p : PartialItem),
      (q < 4096) → ((s.queue q).waiting = []) → (s.mismatched q = false) → ((s.queue q).partial_ = some p) → (p.discarding = false) → (s.is (F.Q_CFG_ENABLE q) = true) → (s.isolated 3 q = true ∨ (p.limit ≤ (s.queue q).items.length + (s.queue q).late.length ∧ s.pending = [])) → 
      ∃ t, exec (.queueEndOfItem q p.producer true) s = .next t ∧
        (¬ isNotify q → (t.queue q).items = (s.queue q).items) ∧
        (¬ isNotify q → (t.queue q).partial_ = none) ∧
        (t.get (F.Q_STATUS_OVERRUN q) = 1) ∧
        (¬ isNotify q → t.get (F.Q_OVERRUNS_C q) = (s.get (F.Q_OVERRUNS_C q) + 1) % 2 ^ 48) ∧
        (¬ isNotify q → t.get (F.Q_DISCARDED_CELLS_C q) = (s.get (F.Q_DISCARDED_CELLS_C q) + p.cells) % 2 ^ 48) ∧
        (p.item.kind ≠ .sealed → t.units.storeIn = s.units.storeIn) ∧
        (∀ a, ¬ (inOutputBlocks a) → t.rd a = s.rd a) ∧
        t.flash = s.flash) ∧
  (∀ (s : State) (q : Nat) (p : PartialItem),
      (q < 4096) → ((s.queue q).waiting = []) → (s.mismatched q = false) → ((s.queue q).partial_ = some p) → (p.discarding = false) → (s.is (F.Q_CFG_ENABLE q) = true) → (s.isolated 3 q = false) → (p.limit ≤ (s.queue q).items.length + (s.queue q).late.length) → (s.pending ≠ []) → 
      ∃ t, exec (.queueEndOfItem q p.producer true) s = .next t ∧
        ((t.queue q).late = (s.queue q).late ++ [(p.item, p.bodyCells, p.limit)]) ∧
        ((t.queue q).items = (s.queue q).items) ∧
        ((t.queue q).partial_ = none) ∧
        (t.get (F.Q_STATUS_OVERRUN q) = s.get (F.Q_STATUS_OVERRUN q)) ∧
        (t.win.touched.contains q = true) ∧
        (∀ a, ¬ (inQueue q a) → t.rd a = s.rd a) ∧
        t.force = s.force ∧
        t.flash = s.flash) ∧
  (∀ (s : State) (q : Nat) (p : PartialItem),
      (q < 4096) → ((s.queue q).waiting = []) → (s.mismatched q = false) → ((s.queue q).partial_ = some p) → (p.discarding = true) → (s.is (F.Q_STATUS_FLUSHING q) = true) → 
      ∃ t, exec (.queueEndOfItem q p.producer true) s = .next t ∧
        (¬ isNotify q → (t.queue q).items = (s.queue q).items) ∧
        (t.get (F.Q_STATUS_FLUSHING q) = 0) ∧
        (t.get (F.Q_STATUS_FLUSH_DONE q) = 1) ∧
        (¬ isNotify q → (t.queue q).partial_ = none) ∧
        (∀ a, ¬ (inQueue q a ∨ inNotify a) → t.rd a = s.rd a) ∧
        t.force = s.force ∧
        t.flash = s.flash) ∧
  (∀ (s : State) (q : Nat) (p : PartialItem) (w : Waiting),
      (q < 4096) → (¬ isNotify q) → (s.mismatched q = false) → (s.is (F.Q_CFG_ENABLE q) = true) → ((s.queue q).partial_ = some p) → ((s.queue q).waiting.all (fun x => x.producer ≠ p.producer) = true) → (nextWaiting q (s.queue q).waiting = some w) → (w.ended = none) → 
      ∃ t, exec (.queueEndOfItem q p.producer true) s = .next t ∧
        ((t.queue q).partial_.map (·.producer) = some w.producer) ∧
        ((t.queue q).waiting = arrive w.producer s.keep.elapsed ((s.queue q).waiting.erase w)) ∧
        (∀ a, ¬ (inOutputBlocks a) → t.rd a = s.rd a) ∧
        t.flash = s.flash) ∧
  (∀ (s : State) (q : Nat) (p : Producer) (good : Bool) (x : PartialItem),
      (q < 4096) → (s.mismatched q = false) → ((s.queue q).partial_ = some x) → (x.producer ≠ p) → 
      ∃ t, exec (.queueEndOfItem q p good) s = .next t ∧
        (t.queue q = { s.queue q with waiting := (s.queue q).waiting.map (fun w => if w.producer = p && w.ended.isNone then { w with ended := some good } else w) }) ∧
        (t.regs = s.regs) ∧
        (t.out = s.out) ∧
        t.force = s.force ∧
        t.flash = s.flash) ∧
  (∀ (s : State) (q : Nat) (p : Producer) (good : Bool),
      (s.mismatched q = true ∨ (s.queue q).partial_ = none) → exec (.queueEndOfItem q p good) s = .next s)

/-- A pop of an item that has reached stage 0 takes it whole: it leaves the depth, is counted in ITEMS_POPPED and goes to its consumer; an item with an uncorrectable word is dropped and counted in BAD_ITEMS. An item that found the queue full in the window of the pop is then committed. A pop of an item that has not reached stage 0 is held and takes it when it has. A pop that sees depth 0 takes nothing and sets and counts UNDERRUN; it does not see a push of its own window. A pointer mismatch of the window makes a pop void. A read of Q_NOTIFY_DATA by the owner or T0 that includes byte 0 pops one item and returns its bytes, at depth 0 it returns the last item again with UNDERRUN; a read without byte 0 returns bytes of the item last read and pops nothing; any other reader gets zeros. -/
def Obligations.QueueOutput : Prop :=
  (∀ (s : State) (q : Nat) (i : Item) (b : Nat) (rest : List (Item × Nat)),
      (q < 4096) → (s.mismatched q = false) → ((s.queue q).items = (i, b) :: rest) → (s.poppable q ≠ 0) → ((s.queue q).late = []) → 
      ∃ t, exec (.queuePop q true) s = .next t ∧
        (¬ isNotify q → (t.queue q).items = rest) ∧
        ((t.queue q).heldPop = false) ∧
        (t.out = s.out ++ (if i.faulty then [] else [.popped q i])) ∧
        (¬ isNotify q → t.get (F.Q_ITEMS_POPPED_C q) = (s.get (F.Q_ITEMS_POPPED_C q) + 1) % 2 ^ 48) ∧
        (i.faulty = true → ¬ isNotify q → t.get (F.Q_BAD_ITEMS_C q) = (s.get (F.Q_BAD_ITEMS_C q) + 1) % 2 ^ 48) ∧
        ((t.queue q).last = i.data) ∧
        (¬ isNotify q → t.get (F.Q_DEPTH_ITEMS q) = rest.length % 65536) ∧
        ((t.queue q).partial_ = (s.queue q).partial_) ∧
        (∀ a, ¬ (inQueue q a ∨ inNotify a) → t.rd a = s.rd a) ∧
        t.force = s.force ∧
        t.flash = s.flash) ∧
  (∀ (s : State) (q : Nat) (i : Item) (b : Nat) (rest : List (Item × Nat)) (j : Item) (jb n : Nat),
      (q < 4096) → (s.mismatched q = false) → (¬ isNotify q) → ((s.queue q).items = (i, b) :: rest) → (s.poppable q ≠ 0) → ((s.queue q).late = [(j, jb, n)]) → (rest.length < n) → 
      ∃ t, exec (.queuePop q true) s = .next t ∧
        ((t.queue q).items = rest ++ [(j, jb)]) ∧
        ((t.queue q).late = []) ∧
        (t.get (F.Q_ITEMS_POPPED_C q) = (s.get (F.Q_ITEMS_POPPED_C q) + 1) % 2 ^ 48) ∧
        (t.get (F.Q_ITEMS_PUSHED_C q) = (s.get (F.Q_ITEMS_PUSHED_C q) + 1) % 2 ^ 48) ∧
        (t.get (F.Q_STATUS_OVERRUN q) = s.get (F.Q_STATUS_OVERRUN q)) ∧
        (∀ a, ¬ (inQueue q a ∨ inNotify a) → t.rd a = s.rd a) ∧
        t.force = s.force ∧
        t.flash = s.flash) ∧
  (∀ (s : State) (q : Nat) (i : Item) (b : Nat) (rest : List (Item × Nat)),
      (q < 4096) → (s.mismatched q = false) → ((s.queue q).items = (i, b) :: rest) → (s.poppable q ≠ 0) → 
      ∃ t, exec (.queuePop q false) s = .next t ∧
        (t.queue q = { s.queue q with heldPop := true }) ∧
        (t.regs = s.regs) ∧
        (t.out = s.out) ∧
        t.force = s.force ∧
        t.flash = s.flash) ∧
  (∀ (s : State) (q : Nat) (atHead : Bool),
      (q < 4096) → (s.mismatched q = false) → ((s.queue q).items = [] ∨ s.poppable q = 0) → 
      ∃ t, exec (.queuePop q atHead) s = .next t ∧
        (t.get (F.Q_STATUS_UNDERRUN q) = 1) ∧
        (¬ isNotify q → t.get (F.Q_UNDERRUNS_C q) = (s.get (F.Q_UNDERRUNS_C q) + 1) % 2 ^ 48) ∧
        (¬ isNotify q → t.queue q = s.queue q) ∧
        (t.out = s.out) ∧
        (∀ a, ¬ (inQueue q a ∨ inNotify a) → t.rd a = s.rd a) ∧
        t.force = s.force ∧
        t.flash = s.flash) ∧
  (∀ (s : State) (q : Nat) (atHead : Bool),
      (s.mismatched q = true) → exec (.queuePop q atHead) s = .next s) ∧
  (∀ (s : State) (q : Nat) (i : Item) (b : Nat) (rest : List (Item × Nat)),
      (q < 4096) → (s.mismatched q = false) → ((s.queue q).heldPop = true) → ((s.queue q).items = (i, b) :: rest) → ((s.queue q).late = []) → 
      ∃ t, exec (.heldPopComplete q) s = .next t ∧
        (¬ isNotify q → (t.queue q).items = rest) ∧
        ((t.queue q).heldPop = false) ∧
        (t.out = s.out ++ (if i.faulty then [] else [.popped q i])) ∧
        (¬ isNotify q → t.get (F.Q_ITEMS_POPPED_C q) = (s.get (F.Q_ITEMS_POPPED_C q) + 1) % 2 ^ 48) ∧
        (i.faulty = true → ¬ isNotify q → t.get (F.Q_BAD_ITEMS_C q) = (s.get (F.Q_BAD_ITEMS_C q) + 1) % 2 ^ 48) ∧
        ((t.queue q).last = i.data) ∧
        (¬ isNotify q → t.get (F.Q_DEPTH_ITEMS q) = rest.length % 65536) ∧
        ((t.queue q).partial_ = (s.queue q).partial_) ∧
        (∀ a, ¬ (inQueue q a ∨ inNotify a) → t.rd a = s.rd a) ∧
        t.force = s.force ∧
        t.flash = s.flash) ∧
  (∀ (s : State) (q : Nat),
      (s.mismatched q = true ∨ (s.queue q).heldPop = false ∨ (s.queue q).items = []) → exec (.heldPopComplete q) s = .next s) ∧
  (∀ (s : State) (reader q offset len : Nat),
      (q < 4096) → (mayReadNotify reader q = false) → 
      ∃ t, exec (.notifyRead reader q offset len) s = .next t ∧
        (t = { s with out := s.out ++ [.readData reader (zeros len)] }) ∧
        t.flash = s.flash) ∧
  (∀ (s : State) (reader q offset len : Nat),
      (q < 4096) → (mayReadNotify reader q = true) → (offset ≠ 0 ∨ len = 0 ∨ s.mismatched q = true) → 
      ∃ t, exec (.notifyRead reader q offset len) s = .next t ∧
        (t = { s with out := s.out ++ [.readData reader (s.notifyBytes q offset len)] }) ∧
        t.flash = s.flash) ∧
  (∀ (s : State) (reader q offset len : Nat) (i : Item) (b : Nat) (rest : List (Item × Nat)),
      (q < 4096) → (mayReadNotify reader q = true) → (s.mismatched q = false) → (len ≠ 0) → ((s.queue q).items = (i, b) :: rest) → (s.poppable q ≠ 0) → ((s.queue q).late = []) → 
      ∃ t, exec (.notifyRead reader q 0 len) s = .next t ∧
        (t.out = s.out ++ [.readData reader (slice (fit 32 i.data) 0 len)]) ∧
        ((t.queue q).items.take rest.length = rest) ∧
        ((t.queue q).lastRead = i.data) ∧
        (t.get (F.Q_ITEMS_POPPED_C q) = (s.get (F.Q_ITEMS_POPPED_C q) + 1) % 2 ^ 48) ∧
        (∀ a, ¬ (inNotify a) → t.rd a = s.rd a) ∧
        t.force = s.force ∧
        t.flash = s.flash) ∧
  (∀ (s : State) (reader q offset len : Nat),
      (q < 4096) → (mayReadNotify reader q = true) → (s.mismatched q = false) → (len ≠ 0) → ((s.queue q).items = [] ∨ s.poppable q = 0) → 
      ∃ t, exec (.notifyRead reader q 0 len) s = .next t ∧
        (t.out = s.out ++ [.readData reader (s.notifyBytes q 0 len)]) ∧
        (t.get (F.Q_STATUS_UNDERRUN q) = 1) ∧
        (t.get (F.Q_UNDERRUNS_C q) = (s.get (F.Q_UNDERRUNS_C q) + 1) % 2 ^ 48) ∧
        ((t.queue q).lastRead = (s.queue q).lastRead) ∧
        (∀ a, ¬ (inNotify a) → t.rd a = s.rd a) ∧
        t.force = s.force ∧
        t.flash = s.flash)

/-- A FLUSH by T0, or by the owner of a notification queue, releases every committed item and counts it, rewinds the partial item and discards its remainder, and with no producer mid-item ends at once: FLUSHING 0 and FLUSH_DONE 1. While FLUSHING it has no further effect, and while its window has commands to come it waits for the end of the window, after every push and pop. A pointer mismatch of the window makes it void. Others only set WRITE_LOST. QUEUE_DISABLE writes Q_CFG with its clamping and flushes a queue whose ENABLE it clears. A pointer mismatch empties the queue, counts the items flushed, reloads the pointers, sets POINTER_MISMATCH and is counted and logged. A queue that the part does not have ignores the writes. -/
def Obligations.QueueFlushDisableAndReset : Prop :=
  (∀ (s : State) (q w : Nat) (v : Word),
      (q < 4096) → (s.queuePresent q = true) → (getBits v 0 0 = 1) → (mayCommandQueue q w = true) → (s.is (F.Q_STATUS_FLUSHING q) = false) → (s.pending = []) → (s.mismatched q = false) → ((s.queue q).partial_ = none) → 
      ∃ t, exec (.flush q w v) s = .next t ∧
        (¬ isNotify q → (t.queue q).items = []) ∧
        (t.get (F.Q_STATUS_FLUSHING q) = 0) ∧
        (t.get (F.Q_STATUS_FLUSH_DONE q) = 1) ∧
        (t.get (F.Q_CTRL_FLUSH q) = 0) ∧
        (¬ isNotify q → t.get (F.Q_FLUSHED_ITEMS_C q) = (s.get (F.Q_FLUSHED_ITEMS_C q) + (s.queue q).items.length) % 2 ^ 48) ∧
        (¬ isNotify q → t.get (F.Q_STATUS_EMPTY q) = 1) ∧
        (¬ isNotify q → t.get (F.Q_POINTERS_HEAD q) = t.get (F.Q_POINTERS_TAIL q)) ∧
        (∀ a, ¬ (inQueue q a ∨ inNotify a ∨ inSealsAndLogs a ∨ a = F.IMG_VOLATILE_WRITES_COUNT.addr ∨ 0x08000000 ≤ a) → t.rd a = s.rd a) ∧
        t.force = s.force ∧
        t.flash = s.flash) ∧
  (∀ (s : State) (q w : Nat) (v : Word) (p : PartialItem),
      (q < 4096) → (s.queuePresent q = true) → (getBits v 0 0 = 1) → (mayCommandQueue q w = true) → (s.is (F.Q_STATUS_FLUSHING q) = false) → (s.pending = []) → (s.mismatched q = false) → ((s.queue q).partial_ = some p) → (p.discarding = false) → 
      ∃ t, exec (.flush q w v) s = .next t ∧
        (¬ isNotify q → (t.queue q).items = []) ∧
        (t.get (F.Q_STATUS_FLUSHING q) = 1) ∧
        (t.get (F.Q_STATUS_DISCARDING q) = 1) ∧
        (t.get (F.Q_CTRL_FLUSH q) = 0) ∧
        ((t.queue q).partial_ = some { p with discarding := true, cells := 0, bodyCells := 0 }) ∧
        (¬ isNotify q → t.get (F.Q_FLUSHED_ITEMS_C q) = (s.get (F.Q_FLUSHED_ITEMS_C q) + (s.queue q).items.length) % 2 ^ 48) ∧
        (¬ isNotify q → t.get (F.Q_DISCARDED_CELLS_C q) = (s.get (F.Q_DISCARDED_CELLS_C q) + p.cells) % 2 ^ 48) ∧
        (∀ a, ¬ (inQueue q a ∨ inNotify a ∨ inSealsAndLogs a ∨ a = F.IMG_VOLATILE_WRITES_COUNT.addr ∨ 0x08000000 ≤ a) → t.rd a = s.rd a) ∧
        t.force = s.force ∧
        t.flash = s.flash) ∧
  (∀ (s : State) (q w : Nat) (v : Word),
      (q < 4096) → (s.queuePresent q = true) → (getBits v 0 0 = 1) → (mayCommandQueue q w = true) → (s.mismatched q = false) → (s.is (F.Q_STATUS_FLUSHING q) = true) → (s.get F.IMG_VOLATILE_WRITES_COUNT + 1 < 2 ^ 47) → 
      ∃ t, exec (.flush q w v) s = .next t ∧
        (t.units = s.units) ∧
        (t.get (F.Q_CTRL_FLUSH q) = 0) ∧
        (∀ a, ¬ (a = (F.Q_CTRL_FLUSH q).addr ∨ a = F.IMG_VOLATILE_WRITES_COUNT.addr) → t.rd a = s.rd a) ∧
        t.force = s.force ∧
        t.flash = s.flash) ∧
  (∀ (s : State) (q w : Nat) (v : Word),
      (q < 4096) → (s.queuePresent q = true) → (getBits v 0 0 = 1) → (mayCommandQueue q w = true) → (s.mismatched q = false) → (s.is (F.Q_STATUS_FLUSHING q) = false) → (s.pending ≠ []) → 
      ∃ t, exec (.flush q w v) s = .next t ∧
        (¬ isNotify q → t.queue q = { s.queue q with flushDue := true }) ∧
        (t.get (F.Q_CTRL_FLUSH q) = 1) ∧
        (t.win.touched.contains q = true) ∧
        (∀ a, ¬ (a = (F.Q_CTRL_FLUSH q).addr ∨ a = F.IMG_VOLATILE_WRITES_COUNT.addr ∨ 0x08000000 ≤ a) → t.rd a = s.rd a) ∧
        t.force = s.force ∧
        t.flash = s.flash) ∧
  (∀ (s : State) (q w : Nat) (v : Word),
      (q < 4096) → (s.queuePresent q = true) → (getBits v 0 0 = 1) → (mayCommandQueue q w = false) → (s.get F.IMG_VOLATILE_WRITES_COUNT + 1 < 2 ^ 47) → 
      ∃ t, exec (.flush q w v) s = .next t ∧
        (t.get (F.Q_STATUS_WRITE_LOST q) = 1) ∧
        (t.units = s.units) ∧
        (∀ a, ¬ (a = (F.Q_STATUS_WRITE_LOST q).addr ∨ a = F.IMG_VOLATILE_WRITES_COUNT.addr) → t.rd a = s.rd a) ∧
        t.force = s.force ∧
        t.flash = s.flash) ∧
  (∀ (s : State) (q w : Nat) (v : Word),
      (s.queuePresent q = false ∨ getBits v 0 0 = 0 ∨ (mayCommandQueue q w = true ∧ s.mismatched q = true)) → (s.get F.IMG_VOLATILE_WRITES_COUNT + 1 < 2 ^ 47) → 
      ∃ t, exec (.flush q w v) s = .next t ∧
        (t.units = s.units) ∧
        (t.keep = s.keep) ∧
        (t.force = s.force) ∧
        (t.out = s.out) ∧
        (∀ a, ¬ (a = F.IMG_VOLATILE_WRITES_COUNT.addr) → t.rd a = s.rd a) ∧
        t.flash = s.flash) ∧
  (∀ (s : State) (q w : Nat) (v : Word),
      (q < 4096) → (s.queuePresent q = true) → 
      ∃ t, exec (.queueDisable q 0 v) s = .next t ∧
        (t.get (F.Q_CFG_ENABLE q) = getBits v 31 31) ∧
        (t.get (F.Q_CFG_MAX_ITEM_CELLS q) = max 1 (min 256 (getBits v 24 16))) ∧
        (t.get (F.Q_CFG_ITEM_LIMIT q) = max 1 (getBits v 15 0)) ∧
        (s.is (F.Q_CFG_ENABLE q) = false ∨ getBits v 31 31 = 1 → ¬ isNotify q → t.queue q = s.queue q) ∧
        (s.is (F.Q_CFG_ENABLE q) = true → getBits v 31 31 = 0 → s.is (F.Q_STATUS_FLUSHING q) = false → s.pending = [] → s.mismatched q = false → ¬ isNotify q → (t.queue q).items = []) ∧
        (∀ a, ¬ (inQueue q a ∨ inNotify a ∨ inSealsAndLogs a ∨ a = F.IMG_VOLATILE_WRITES_COUNT.addr) → t.rd a = s.rd a) ∧
        t.force = s.force ∧
        t.flash = s.flash) ∧
  (∀ (s : State) (q w : Nat) (v : Word),
      (q < 4096) → (s.queuePresent q = true) → (w ≠ 0) → 
      ∃ t, exec (.queueDisable q w v) s = .next t ∧
        (t.get (F.Q_STATUS_WRITE_LOST q) = 1) ∧
        (t.get (F.Q_CFG_ENABLE q) = s.get (F.Q_CFG_ENABLE q)) ∧
        (¬ isNotify q → t.queue q = s.queue q) ∧
        (∀ a, ¬ (inQueue q a ∨ inNotify a ∨ a = F.IMG_VOLATILE_WRITES_COUNT.addr) → t.rd a = s.rd a) ∧
        t.force = s.force ∧
        t.flash = s.flash) ∧
  (∀ (s : State) (q w : Nat) (v : Word),
      (s.queuePresent q = false) → (s.get F.IMG_VOLATILE_WRITES_COUNT + 1 < 2 ^ 47) → 
      ∃ t, exec (.queueDisable q w v) s = .next t ∧
        (t.units = s.units) ∧
        (t.keep = s.keep) ∧
        (t.force = s.force) ∧
        (t.out = s.out) ∧
        (∀ a, ¬ (a = F.IMG_VOLATILE_WRITES_COUNT.addr) → t.rd a = s.rd a) ∧
        t.flash = s.flash) ∧
  (∀ (s : State) (q : Nat),
      (q < 4096) → 
      ∃ t, exec (.pointerMismatch q) s = .next t ∧
        (¬ isNotify q → (t.queue q).items = []) ∧
        (t.get (F.Q_POINTERS_HEAD q) = 0) ∧
        (t.get (F.Q_POINTERS_TAIL q) = 0) ∧
        (t.get (F.Q_STATUS_POINTER_MISMATCH q) = 1) ∧
        (¬ isNotify q → t.get (F.Q_MISMATCH_RESETS_C q) = (s.get (F.Q_MISMATCH_RESETS_C q) + 1) % 2 ^ 48) ∧
        (¬ isNotify q → t.get (F.Q_FLUSHED_ITEMS_C q) = (s.get (F.Q_FLUSHED_ITEMS_C q) + (s.queue q).items.length) % 2 ^ 48) ∧
        (t.mismatched q = true) ∧
        (¬ isNotify q → t.get (F.Q_STATUS_EMPTY q) = 1) ∧
        ((t.queue q).partial_.all (·.discarding) = true) ∧
        (t.keep.chron = s.keep.chron) ∧
        (∀ a, ¬ (inQueue q a ∨ inNotify a ∨ inSealsAndLogs a) → t.rd a = s.rd a) ∧
        t.force = s.force ∧
        t.flash = s.flash)

/-- An interval whose end has passed closes by watermark once the device watermark covers it, else by horizon with CLOSED_HORIZON counted; GEY_OPEN moves to its end and LAST_BY_HORIZON says which it was. Of the programs ready to evaluate, the lowest evaluates its earliest interval: the interval is the newest of the program's history, a firing sets FIRED, counts FIRED and takes a token, and without a firing no freeze is made and no register but the program's changes. A fenced device and a tenant under reset fire nothing. A token returns every 1 / RATE_PER_S s up to BURST. Without its condition each event does nothing (log entry 7). -/
def Obligations.GeyserIntervalsAndEvaluation : Prop :=
  (∀ (s : State),
      (s.intervalReady = some false) → 
      ∃ t, exec (.intervalCloseByWatermark) s = .next t ∧
        (t.get F.GEY_OPEN_START = (s.get F.GEY_OPEN_START + s.interval) % 2 ^ 64) ∧
        (t.get F.GEY_STATUS_LAST_BY_HORIZON = 0) ∧
        (t.get F.GEY_DEVICE_CLOSED_HORIZON_C = s.get F.GEY_DEVICE_CLOSED_HORIZON_C) ∧
        (t.units.programs = s.units.programs) ∧
        (∀ a, ¬ (a = F.GEY_OPEN_START.addr ∨ a = F.GEY_STATUS_LAST_BY_HORIZON.addr) → t.rd a = s.rd a) ∧
        t.force = s.force ∧
        t.flash = s.flash) ∧
  (∀ (s : State),
      (s.intervalReady ≠ some false) → exec (.intervalCloseByWatermark) s = .next s) ∧
  (∀ (s : State),
      (s.intervalReady = some true) → 
      ∃ t, exec (.intervalCloseByHorizon) s = .next t ∧
        (t.get F.GEY_OPEN_START = (s.get F.GEY_OPEN_START + s.interval) % 2 ^ 64) ∧
        (t.get F.GEY_STATUS_LAST_BY_HORIZON = 1) ∧
        (t.get F.GEY_DEVICE_CLOSED_HORIZON_C = (s.get F.GEY_DEVICE_CLOSED_HORIZON_C + 1) % 2 ^ 48) ∧
        (t.units.programs = s.units.programs) ∧
        (∀ a, ¬ (a = F.GEY_OPEN_START.addr ∨ a = F.GEY_STATUS_LAST_BY_HORIZON.addr ∨ a = F.GEY_DEVICE_CLOSED_HORIZON_C.addr ∨ inNotify a) → t.rd a = s.rd a) ∧
        t.force = s.force ∧
        t.flash = s.flash) ∧
  (∀ (s : State),
      (s.intervalReady = some false) → 
      ∃ t, exec (.intervalCloseByHorizon) s = .next t ∧
        (t.get F.GEY_OPEN_START = (s.get F.GEY_OPEN_START + s.interval) % 2 ^ 64) ∧
        (t.get F.GEY_STATUS_LAST_BY_HORIZON = 0) ∧
        (∀ a, ¬ (a = F.GEY_OPEN_START.addr ∨ a = F.GEY_STATUS_LAST_BY_HORIZON.addr) → t.rd a = s.rd a) ∧
        t.force = s.force ∧
        t.flash = s.flash) ∧
  (∀ (s : State),
      (s.intervalReady = none) → exec (.intervalCloseByHorizon) s = .next s) ∧
  (∀ (s : State) (p n : Nat),
      (s.has 2 = true) → (s.nextEval = some (p, n)) → 
      ∃ t, exec (.programEvaluate) s = .next t ∧
        ((t.prog p).next = (n + s.interval) % 2 ^ 64) ∧
        ((t.prog p).history.head?.map (·.1) = some n) ∧
        (∀ h ∈ (t.prog p).history.head?, h.2.2.2 = true → t.get (F.GEY_PROG_STATUS_FIRED p) = 1 ∧ t.get (F.GEY_PROG_FIRED_C p) = (s.get (F.GEY_PROG_FIRED_C p) + 1) % 2 ^ 48 ∧ s.fenced = false ∧ s.get (F.TEN_STATUS_STATE (s.get (F.GEY_PROG_OWNER_TENANT p))) ≠ 2 ∧ (num (s.progAt p n) 28 2 ≠ 0 → t.get (F.GEY_PROG_STATUS_TOKENS p) + 1 = s.get (F.GEY_PROG_STATUS_TOKENS p))) ∧
        (∀ h ∈ (t.prog p).history.head?, h.2.2.2 = false → t.get (F.GEY_PROG_FIRED_C p) = s.get (F.GEY_PROG_FIRED_C p) ∧ t.units.freezes = s.units.freezes ∧ t.out = s.out) ∧
        (∀ h ∈ (t.prog p).history.head?, h.2.2.2 = false → ∀ a, ¬ (inProgram p a ∨ inNotify a) → t.rd a = s.rd a) ∧
        (∀ a, ¬ (inDataBlocks a) → t.rd a = s.rd a) ∧
        t.flash = s.flash) ∧
  (∀ (s : State),
      (s.has 2 = false ∨ s.nextEval = none) → exec (.programEvaluate) s = .next s) ∧
  (∀ (s : State) (p : Nat),
      (p < 64) → (num (s.liveProg p) 28 2 ≠ 0) → ((s.prog p).tokenAt + tickS / num (s.liveProg p) 28 2 ≤ s.keep.elapsed) → 
      ∃ t, exec (.tokenRefill p) s = .next t ∧
        (t.get (F.GEY_PROG_STATUS_TOKENS p) = min (num (s.liveProg p) 30 1) (s.get (F.GEY_PROG_STATUS_TOKENS p) + 1)) ∧
        (t.prog p = { s.prog p with tokenAt := (s.prog p).tokenAt + tickS / num (s.liveProg p) 28 2 }) ∧
        (∀ m, m ≠ p → t.prog m = s.prog m) ∧
        (∀ a, ¬ (a = (F.GEY_PROG_STATUS_TOKENS p).addr) → t.rd a = s.rd a) ∧
        t.force = s.force ∧
        t.flash = s.flash) ∧
  (∀ (s : State) (p : Nat),
      (64 ≤ p ∨ num (s.liveProg p) 28 2 = 0 ∨ s.keep.elapsed < (s.prog p).tokenAt + tickS / num (s.liveProg p) 28 2) → exec (.tokenRefill p) s = .next s)

/-- A COMMIT of a program by its owner or T0, with none pending, gives its RESULT when the staged program is at fault, and otherwise waits for the next interval boundary as BOUNDARY; one while pending only sets WRITE_LOST, and one in the window of that boundary is taken as written after it. At the boundary the staged words are in force, TOKENS is BURST and PENDING clears. A soft input is counted and enters at its time, or is counted late; from another tenant it sets WRITE_LOST. A broadcast whose TAG fails, from a lower incarnation, or already seen is counted and dropped, one of the device's own is dropped, and any other is counted as received and marked seen; a primitive then enters as an external input of its channel unless it is late, and an unmapped freeze is counted. -/
def Obligations.GeyserCommitsAndInputs : Prop :=
  (∀ (s : State) (p w : Nat) (v : Word),
      (p < 64) → (s.has 2 = true) → (getBits v 0 0 = 1) → (s.is (F.GEY_PROG_STATUS_PENDING p) = true) → (dif s.now (s.get (F.GEY_PROG_APPLY_BOUNDARY p)) < 0) → (s.get F.IMG_VOLATILE_WRITES_COUNT + 1 < 2 ^ 47) → 
      ∃ t, exec (.progCommit p w v) s = .next t ∧
        (t.get (F.GEY_PROG_STATUS_WRITE_LOST p) = 1) ∧
        (t.get (F.GEY_PROG_STATUS_PENDING p) = 1) ∧
        (t.get (F.GEY_PROG_APPLY_BOUNDARY p) = s.get (F.GEY_PROG_APPLY_BOUNDARY p)) ∧
        (t.units = s.units) ∧
        (∀ a, ¬ (a = (F.GEY_PROG_STATUS_RESULT p).addr ∨ a = F.IMG_VOLATILE_WRITES_COUNT.addr) → t.rd a = s.rd a) ∧
        t.force = s.force ∧
        t.flash = s.flash) ∧
  (∀ (s : State) (p w : Nat) (v : Word),
      (p < 64) → (s.has 2 = true) → (getBits v 0 0 = 1) → (s.is (F.GEY_PROG_STATUS_PENDING p) = true) → (0 ≤ dif s.now (s.get (F.GEY_PROG_APPLY_BOUNDARY p))) → (s.progResult p w = 0) → 
      ∃ t, exec (.progCommit p w v) s = .next t ∧
        (∀ i ∈ List.range 32, t.rdForce (F.GEY_PROG_WORD p i).addr = s.rd (F.GEY_PROG_WORD p i).addr) ∧
        (t.get (F.GEY_PROG_STATUS_PENDING p) = 1) ∧
        (t.get (F.GEY_PROG_STATUS_RESULT p) = 0) ∧
        (t.get (F.GEY_PROG_STATUS_WRITE_LOST p) = s.get (F.GEY_PROG_STATUS_WRITE_LOST p)) ∧
        (t.get (F.GEY_PROG_APPLY_BOUNDARY p) = nextMultiple s.now (s.get F.GEY_CTRL_INTERVAL_K)) ∧
        (∀ a, ¬ (inProgram p a ∨ a = F.IMG_VOLATILE_WRITES_COUNT.addr ∨ inNotify a) → t.rd a = s.rd a) ∧
        t.flash = s.flash) ∧
  (∀ (s : State) (p w : Nat) (v : Word),
      (p < 64) → (s.has 2 = true) → (getBits v 0 0 = 1) → (s.is (F.GEY_PROG_STATUS_PENDING p) = false) → (s.progResult p w ≠ 0) → (s.get F.IMG_VOLATILE_WRITES_COUNT + 1 < 2 ^ 47) → 
      ∃ t, exec (.progCommit p w v) s = .next t ∧
        (t.get (F.GEY_PROG_STATUS_RESULT p) = s.progResult p w) ∧
        (t.get (F.GEY_PROG_STATUS_PENDING p) = 0) ∧
        (t.units = s.units) ∧
        (∀ a, ¬ (a = (F.GEY_PROG_STATUS_RESULT p).addr ∨ a = F.IMG_VOLATILE_WRITES_COUNT.addr) → t.rd a = s.rd a) ∧
        t.force = s.force ∧
        t.flash = s.flash) ∧
  (∀ (s : State) (p w : Nat) (v : Word),
      (p < 64) → (s.has 2 = true) → (getBits v 0 0 = 1) → (s.is (F.GEY_PROG_STATUS_PENDING p) = false) → (s.progResult p w = 0) → (s.get F.IMG_VOLATILE_WRITES_COUNT + 1 < 2 ^ 47) → 
      ∃ t, exec (.progCommit p w v) s = .next t ∧
        (t.get (F.GEY_PROG_APPLY_BOUNDARY p) = nextMultiple s.now (s.get F.GEY_CTRL_INTERVAL_K)) ∧
        (t.get (F.GEY_PROG_STATUS_PENDING p) = 1) ∧
        (t.get (F.GEY_PROG_CTRL_COMMIT p) = 1) ∧
        (t.units = s.units) ∧
        (∀ a, ¬ (inProgram p a ∨ a = F.IMG_VOLATILE_WRITES_COUNT.addr) → t.rd a = s.rd a) ∧
        t.force = s.force ∧
        t.flash = s.flash) ∧
  (∀ (s : State) (p w : Nat) (v : Word),
      (64 ≤ p ∨ s.has 2 = false ∨ getBits v 0 0 = 0) → (s.get F.IMG_VOLATILE_WRITES_COUNT + 1 < 2 ^ 47) → 
      ∃ t, exec (.progCommit p w v) s = .next t ∧
        (t.units = s.units) ∧
        (t.keep = s.keep) ∧
        (t.force = s.force) ∧
        (t.out = s.out) ∧
        (∀ a, ¬ (a = F.IMG_VOLATILE_WRITES_COUNT.addr) → t.rd a = s.rd a) ∧
        t.flash = s.flash) ∧
  (∀ (s : State) (p : Nat),
      (p < 64) → (s.is (F.GEY_PROG_STATUS_PENDING p) = true) → (0 ≤ dif s.now (s.get (F.GEY_PROG_APPLY_BOUNDARY p))) → 
      ∃ t, exec (.programApply p) s = .next t ∧
        (t.get (F.GEY_PROG_STATUS_PENDING p) = 0) ∧
        (t.get (F.GEY_PROG_STATUS_RESULT p) = 0) ∧
        (t.get (F.GEY_PROG_CTRL_COMMIT p) = 0) ∧
        (t.get (F.GEY_PROG_STATUS_TOKENS p) = num (s.stagedProg p) 30 1 % 256) ∧
        ((t.prog p).next = (s.prog p).next) ∧
        ((t.prog p).tokenAt = s.keep.elapsed) ∧
        (∀ i ∈ List.range 32, t.rdForce (F.GEY_PROG_WORD p i).addr = s.rd (F.GEY_PROG_WORD p i).addr) ∧
        (∀ a, (∀ i, i < 32 → a ≠ (F.GEY_PROG_WORD p i).addr) → t.rdForce a = s.rdForce a) ∧
        (∀ a, ¬ (inProgram p a) → t.rd a = s.rd a) ∧
        t.flash = s.flash) ∧
  (∀ (s : State) (p : Nat),
      (s.is (F.GEY_PROG_STATUS_PENDING p) = false ∨ dif s.now (s.get (F.GEY_PROG_APPLY_BOUNDARY p)) < 0) → exec (.programApply p) s = .next s) ∧
  (∀ (s : State) (p w : Nat) (v : Word),
      (p < 64) → (s.has 2 = true) → (getBits v 1 1 = 1) → (w = 0 ∨ w = s.get (F.GEY_PROG_OWNER_TENANT p)) → (s.testedLate 0x200 p (s.get (F.GEY_PROG_SOFT_TIME_TIME p)) = false) → 
      ∃ t, exec (.softInput p w v) s = .next t ∧
        (t.get (F.GEY_PROG_SOFT_INPUTS_C p) = (s.get (F.GEY_PROG_SOFT_INPUTS_C p) + 1) % 2 ^ 48) ∧
        (({ sel := 0x200, program := p, time := s.get (F.GEY_PROG_SOFT_TIME_TIME p) } : ExtInput) ∈ t.units.ext) ∧
        (t.units.programs = s.units.programs) ∧
        (∀ a, ¬ (a = (F.GEY_PROG_SOFT_INPUTS_C p).addr ∨ inNotify a ∨ a = F.IMG_VOLATILE_WRITES_COUNT.addr ∨ 0x08000000 ≤ a) → t.rd a = s.rd a) ∧
        t.force = s.force ∧
        t.flash = s.flash) ∧
  (∀ (s : State) (p w : Nat) (v : Word),
      (p < 64) → (s.has 2 = true) → (getBits v 1 1 = 1) → (w = 0 ∨ w = s.get (F.GEY_PROG_OWNER_TENANT p)) → (s.testedLate 0x200 p (s.get (F.GEY_PROG_SOFT_TIME_TIME p)) = true) → (s.get F.IMG_VOLATILE_WRITES_COUNT + 1 < 2 ^ 47) → 
      ∃ t, exec (.softInput p w v) s = .next t ∧
        (t.get (F.GEY_PROG_SOFT_INPUTS_C p) = (s.get (F.GEY_PROG_SOFT_INPUTS_C p) + 1) % 2 ^ 48) ∧
        (t.get F.GEY_DEVICE_EXT_LATE_C = (s.get F.GEY_DEVICE_EXT_LATE_C + 1) % 2 ^ 48) ∧
        (t.units.ext = s.units.ext) ∧
        (∀ a, ¬ (a = (F.GEY_PROG_SOFT_INPUTS_C p).addr ∨ a = F.GEY_DEVICE_EXT_LATE_C.addr ∨ inNotify a ∨ a = F.IMG_VOLATILE_WRITES_COUNT.addr) → t.rd a = s.rd a) ∧
        t.force = s.force ∧
        t.flash = s.flash) ∧
  (∀ (s : State) (p w : Nat) (v : Word),
      (p < 64) → (s.has 2 = true) → (getBits v 1 1 = 1) → (w ≠ 0) → (w ≠ s.get (F.GEY_PROG_OWNER_TENANT p)) → (s.get F.IMG_VOLATILE_WRITES_COUNT + 1 < 2 ^ 47) → 
      ∃ t, exec (.softInput p w v) s = .next t ∧
        (t.get (F.GEY_PROG_STATUS_WRITE_LOST p) = 1) ∧
        (t.units = s.units) ∧
        (∀ a, ¬ (a = (F.GEY_PROG_STATUS_WRITE_LOST p).addr ∨ a = F.IMG_VOLATILE_WRITES_COUNT.addr) → t.rd a = s.rd a) ∧
        t.force = s.force ∧
        t.flash = s.flash) ∧
  (∀ (s : State) (p w : Nat) (v : Word),
      (64 ≤ p ∨ s.has 2 = false ∨ getBits v 1 1 = 0) → (s.get F.IMG_VOLATILE_WRITES_COUNT + 1 < 2 ^ 47) → 
      ∃ t, exec (.softInput p w v) s = .next t ∧
        (t.units = s.units) ∧
        (t.keep = s.keep) ∧
        (t.force = s.force) ∧
        (t.out = s.out) ∧
        (∀ a, ¬ (a = F.IMG_VOLATILE_WRITES_COUNT.addr) → t.rd a = s.rd a) ∧
        t.flash = s.flash) ∧
  (∀ (s : State) (port : Nat) (msg : List Byte),
      (s.floodTag 1 ((fit 64 msg).take 48) ≠ some ((fit 64 msg).drop 48)) → 
      ∃ t, exec (.broadcastReceived port msg) s = .next t ∧
        (t.get F.GEY_DEVICE_BCAST_AUTH_FAIL_C = (s.get F.GEY_DEVICE_BCAST_AUTH_FAIL_C + 1) % 2 ^ 48) ∧
        (t.units.bcastSeen = s.units.bcastSeen) ∧
        (t.units.freezes = s.units.freezes) ∧
        (t.units.ext = s.units.ext) ∧
        (∀ a, ¬ (a = F.GEY_DEVICE_BCAST_AUTH_FAIL_C.addr ∨ inNotify a) → t.rd a = s.rd a) ∧
        t.force = s.force ∧
        t.flash = s.flash) ∧
  (∀ (s : State) (port : Nat) (m tag : List Byte),
      (m.length = 48) → (s.floodTag 1 m = some tag) → (num m 32 4 < s.heldIncarnation (num m 4 2 % 16384)) → 
      ∃ t, exec (.broadcastReceived port (m ++ tag)) s = .next t ∧
        (t.get F.GEY_DEVICE_BCAST_FENCED_C = (s.get F.GEY_DEVICE_BCAST_FENCED_C + 1) % 2 ^ 48) ∧
        (t.units.bcastSeen = s.units.bcastSeen) ∧
        (∀ a, ¬ (a = F.GEY_DEVICE_BCAST_FENCED_C.addr ∨ inNotify a) → t.rd a = s.rd a) ∧
        t.force = s.force ∧
        t.flash = s.flash) ∧
  (∀ (s : State) (port : Nat) (m tag : List Byte),
      (m.length = 48) → (s.floodTag 1 m = some tag) → (s.heldIncarnation (num m 4 2 % 16384) ≤ num m 32 4) → (num m 4 2 % 16384 = s.device) → 
      ∃ t, exec (.broadcastReceived port (m ++ tag)) s = .next t ∧
        (t = s) ∧
        t.flash = s.flash) ∧
  (∀ (s : State) (port : Nat) (m tag : List Byte),
      (m.length = 48) → (s.floodTag 1 m = some tag) → (s.heldIncarnation (num m 4 2 % 16384) ≤ num m 32 4) → (num m 4 2 % 16384 ≠ s.device) → ((Sparse.get (fun _ => (65536, 0)) s.units.bcastSeen (num m 4 2 % 16384)).1 ≠ 65536) → (classify (Sparse.get (fun _ => (65536, 0)) s.units.bcastSeen (num m 4 2 % 16384)).1 (Sparse.get (fun _ => (65536, 0)) s.units.bcastSeen (num m 4 2 % 16384)).2 (num m 6 2) = .duplicate) → 
      ∃ t, exec (.broadcastReceived port (m ++ tag)) s = .next t ∧
        (t.get F.GEY_DEVICE_BCAST_DUPLICATE_C = (s.get F.GEY_DEVICE_BCAST_DUPLICATE_C + 1) % 2 ^ 48) ∧
        (t.units.bcastSeen = s.units.bcastSeen) ∧
        (t.units.freezes = s.units.freezes) ∧
        (∀ a, ¬ (a = F.GEY_DEVICE_BCAST_DUPLICATE_C.addr ∨ inNotify a) → t.rd a = s.rd a) ∧
        t.force = s.force ∧
        t.flash = s.flash) ∧
  (∀ (s : State) (port : Nat) (m tag : List Byte),
      (m.length = 48) → (s.floodTag 1 m = some tag) → (s.heldIncarnation (num m 4 2 % 16384) ≤ num m 32 4) → (num m 4 2 % 16384 ≠ s.device) → ((Sparse.get (fun _ => (65536, 0)) s.units.bcastSeen (num m 4 2 % 16384)).1 = 65536) → (num m 0 1 = 1) → (s.is (F.GEY_CHANNEL_MAP_ENABLE (num m 3 1)) = false) → 
      ∃ t, exec (.broadcastReceived port (m ++ tag)) s = .next t ∧
        (t.get F.GEY_DEVICE_BCAST_RECEIVED_C = (s.get F.GEY_DEVICE_BCAST_RECEIVED_C + 1) % 2 ^ 48) ∧
        (t.get F.GEY_DEVICE_BCAST_UNMAPPED_C = (s.get F.GEY_DEVICE_BCAST_UNMAPPED_C + 1) % 2 ^ 48) ∧
        ((Sparse.get (fun _ => (65536, 0)) t.units.bcastSeen (num m 4 2 % 16384)).1 = num m 6 2) ∧
        (t.units.freezes = s.units.freezes) ∧
        (t.units.ext = s.units.ext) ∧
        (∀ a, ¬ (inDataBlocks a) → t.rd a = s.rd a) ∧
        t.force = s.force ∧
        t.flash = s.flash) ∧
  (∀ (s : State) (port : Nat) (m tag : List Byte),
      (m.length = 48) → (s.floodTag 1 m = some tag) → (s.heldIncarnation (num m 4 2 % 16384) ≤ num m 32 4) → (num m 4 2 % 16384 ≠ s.device) → ((Sparse.get (fun _ => (65536, 0)) s.units.bcastSeen (num m 4 2 % 16384)).1 = 65536) → (num m 0 1 = 2) → (s.has 2 = true) → ((List.range 64).all (fun p => !s.testedLate (0x100 + num m 3 1) p (num m 8 8)) = true) → 
      ∃ t, exec (.broadcastReceived port (m ++ tag)) s = .next t ∧
        (t.get F.GEY_DEVICE_BCAST_RECEIVED_C = (s.get F.GEY_DEVICE_BCAST_RECEIVED_C + 1) % 2 ^ 48) ∧
        (({ sel := 0x100 + num m 3 1, program := 64, time := num m 8 8 } : ExtInput) ∈ t.units.ext) ∧
        (t.units.freezes = s.units.freezes) ∧
        (∀ a, ¬ (inDataBlocks a) → t.rd a = s.rd a) ∧
        t.force = s.force ∧
        t.flash = s.flash) ∧
  (∀ (s : State) (port : Nat) (m tag : List Byte),
      (m.length = 48) → (s.floodTag 1 m = some tag) → (s.heldIncarnation (num m 4 2 % 16384) ≤ num m 32 4) → (num m 4 2 % 16384 ≠ s.device) → ((Sparse.get (fun _ => (65536, 0)) s.units.bcastSeen (num m 4 2 % 16384)).1 = 65536) → (num m 0 1 = 1) → (s.is (F.GEY_CHANNEL_MAP_ENABLE (num m 3 1)) = true) → (dif s.now (num m 16 8) ≤ 0) → 
      ∃ t, exec (.broadcastReceived port (m ++ tag)) s = .next t ∧
        (t.get F.GEY_DEVICE_BCAST_RECEIVED_C = (s.get F.GEY_DEVICE_BCAST_RECEIVED_C + 1) % 2 ^ 48) ∧
        (t.units.freezeCount = s.units.freezeCount + 1) ∧
        ((t.units.freezes.getLast?.map (fun f => (f.state, f.t, f.launch, f.channel, bit f.rflags 0))) = some (1, num m 8 8, num m 16 8, num m 3 1, true)) ∧
        (∀ a, ¬ (inDataBlocks a) → t.rd a = s.rd a) ∧
        t.force = s.force ∧
        t.flash = s.flash)

/-- The freeze due first, by launch time, origin and sequence, is launched: it leaves SCHEDULED, and one without a slot ends there. While the window has commands to come, that may bring an earlier freeze, the launch waits for its end. A freeze that has reached its launch and its watermark or its wait completes: it is WAITING with its time of completion, and holds only segments that meet its window. The next freeze of a readout stream that waits is READING. At the end of a readout WINDOWS_READ counts it, its window is recorded as read, and the freeze, its joined freezes and their holds are gone. Registers below the data path stay, and without a freeze in the right state nothing happens. -/
def Obligations.FreezesAndReadouts : Prop :=
  (∀ (s : State) (f : Freeze),
      (s.dueFreeze = some f) → (s.pending = []) → (f.slot = none) → 
      ∃ t, exec (.freezeLaunch) s = .next t ∧
        (t.units.freezes.all (fun x => decide (x.id ≠ f.id)) = true) ∧
        (t.units.launches = s.units.launches + 1) ∧
        (∀ a, ¬ (inDataBlocks a) → t.rd a = s.rd a) ∧
        t.flash = s.flash) ∧
  (∀ (s : State) (f : Freeze),
      (s.dueFreeze = some f) → (s.pending = []) → (f.slot.isSome = true) → ((s.units.freezes.filter (fun g => g.id = f.id)).length = 1) → 
      ∃ t, exec (.freezeLaunch) s = .next t ∧
        (t.units.freezes.all (fun x => x.id ≠ f.id || x.state ≠ 1) = true) ∧
        (t.units.launches = s.units.launches + 1) ∧
        (∀ a, ¬ (inDataBlocks a) → t.rd a = s.rd a) ∧
        t.flash = s.flash) ∧
  (∀ (s : State),
      (s.dueFreeze.isSome = true) → (s.pending ≠ []) → 
      ∃ t, exec (.freezeLaunch) s = .next t ∧
        (t = { s with win := { s.win with launches := s.win.launches + 1 } })) ∧
  (∀ (s : State),
      (s.dueFreeze = none) → exec (.freezeLaunch) s = .next s) ∧
  (∀ (s : State) (slot : Nat) (f : Freeze),
      (s.freezeIn slot = some f) → (s.freezeDone f = true) → 
      ∃ t, exec (.freezeComplete slot) s = .next t ∧
        (t.units.freezes = s.units.freezes.map (fun x => if x.id = f.id then { x with state := 3, doneAt := some s.keep.elapsed } else x)) ∧
        (t.units.ring.all (fun g => !g.holds.contains f.id || (!g.records.isEmpty && decide (0 ≤ dif g.timeMax f.start) && decide (dif g.timeMin f.stop < 0))) = true) ∧
        (t.units.ring.map (·.records) = s.units.ring.map (·.records)) ∧
        (t.out = s.out) ∧
        (∀ a, ¬ (a = F.NBF_OLDEST_ARRIVAL.addr ∨ a = F.NBF_STATUS_HELD_GIB.addr) → t.rd a = s.rd a) ∧
        t.force = s.force ∧
        t.flash = s.flash) ∧
  (∀ (s : State) (slot : Nat),
      (∀ f ∈ s.freezeIn slot, s.freezeDone f = false) → exec (.freezeComplete slot) s = .next s) ∧
  (∀ (s : State) (st : Nat) (f : Freeze),
      (st < 8192) → (s.nextReadout st = some f) → 
      ∃ t, exec (.readoutStart st) s = .next t ∧
        (t.units.freezes.map (fun x => (x.id, x.state)) = s.units.freezes.map (fun x => (x.id, if x.id = f.id then 4 else x.state))) ∧
        (t.units.ring = s.units.ring) ∧
        (∀ a, ¬ (inOutputBlocks a ∨ inStreamBlocks st a ∨ a = F.FLT_DEVICE_OLD_SEGMENT_C.addr) → t.rd a = s.rd a) ∧
        t.flash = s.flash) ∧
  (∀ (s : State) (st : Nat),
      (s.nextReadout st = none) → exec (.readoutStart st) s = .next s) ∧
  (∀ (s : State) (st : Nat) (f : Freeze),
      (st < 8192) → (s.units.freezes.find? (fun f => f.state = 4 && f.stream = st) = some f) → 
      ∃ t, exec (.readoutEnd st) s = .next t ∧
        (t.units.freezes = s.units.freezes.filter (fun x => !((s.joined f.id).map (·.id)).contains x.id)) ∧
        (t.units.ring.all (fun g => !g.holds.contains f.id) = true) ∧
        (t.units.windowsRead = s.units.windowsRead ++ [(st, f.start, f.stop)]) ∧
        (t.get F.NBF_WINDOWS_READ_C = (s.get F.NBF_WINDOWS_READ_C + 1) % 2 ^ 48) ∧
        (t.units.ring.map (·.records) = s.units.ring.map (·.records)) ∧
        (∀ a, ¬ (inDataBlocks a) → t.rd a = s.rd a) ∧
        t.flash = s.flash) ∧
  (∀ (s : State) (st : Nat),
      (s.units.freezes.find? (fun f => f.state = 4 && f.stream = st) = none) → exec (.readoutEnd st) s = .next s)

/-- Recovery in STATE 1 shows the drive of every port of the part. Without a label it ends in STATE 0; with a label whose key is missing or does not match KEY_CHECK it ends in STATE 6; with the key and a valid snapshot of the set it takes the index and ends in STATE 3, 4 or 5 with the label's values and the time taken. A drive taken out, or a link that goes down, is a removal: STQ_PERST_N low, REMOVALS counted, a member MISSING and any other port empty. A drive put in stands in the bay, and once the store has started a port that is not isolated shows it. A working member that fails is FAILED, with its timeout or errors counted. Registers outside the store and the notification queues stay. Ports that the part lacks and events whose condition does not hold change nothing (log entry 7). -/
def Obligations.StorePorts : Prop :=
  (∀ (s : State) (n : Nat),
      (s.part.storePorts ≠ 0) → (s.storeState = 1) → (s.setLabel = none) → 
      ∃ t, exec (.storeRecovery n) s = .next t ∧
        (t.storeState = 0) ∧
        (t.get F.LKT_RECOVERY_MILLISECONDS = s.get F.LKT_RECOVERY_MILLISECONDS) ∧
        (t.units.store.refclk = true) ∧
        (t.units.store.perstHigh = (List.range 16).filter (fun q => (s.driveAt q).isSome)) ∧
        (∀ q ∈ List.range s.part.storePorts, t.get (F.LKT_PORT_STATUS_PRESENT q) = b2n (s.driveAt q).isSome) ∧
        (t.keep = s.keep) ∧
        (∀ a, ¬ (inStore a ∨ inNotify a) → t.rd a = s.rd a) ∧
        t.force = s.force ∧
        t.flash = s.flash) ∧
  (∀ (s : State) (n : Nat) (l : DriveLabel),
      (s.part.storePorts ≠ 0) → (s.storeState = 1) → (s.setLabel = some l) → (s.usable l.keyIndex 4 0 = none) → 
      ∃ t, exec (.storeRecovery n) s = .next t ∧
        (t.storeState = 6) ∧
        (t.get F.LKT_SET_ID_SET_ID = l.setId % 2 ^ 64) ∧
        (t.get F.LKT_GEOMETRY_ROWS = l.rows % 2 ^ 32) ∧
        (t.units.store.label = s.units.store.label) ∧
        (t.keep = s.keep) ∧
        (∀ a, ¬ (inStore a ∨ inNotify a) → t.rd a = s.rd a) ∧
        t.force = s.force ∧
        t.flash = s.flash) ∧
  (∀ (s : State) (n : Nat) (l : DriveLabel) (k : List Byte),
      (s.part.storePorts ≠ 0) → (s.storeState = 1) → (s.setLabel = some l) → (s.usable l.keyIndex 4 0 = some k) → (keyCheck k = l.keyCheck) → ((List.range 16).any (fun q => (s.driveAt q).any (fun d => ownMember l.setId q d && l.mask.testBit q && (snapshotsOf d).any (fun x => x.1.setId = l.setId))) = true) → 
      ∃ t, exec (.storeRecovery n) s = .next t ∧
        (3 ≤ t.storeState ∧ t.storeState ≤ 5) ∧
        (t.units.store.label = some l) ∧
        (t.units.store.key = k) ∧
        (t.get F.LKT_RECOVERY_MILLISECONDS = n % 2 ^ 32) ∧
        (t.get F.LKT_SET_ID_SET_ID = l.setId % 2 ^ 64) ∧
        (∀ a, ¬ (inStoreUp a) → t.rd a = s.rd a) ∧
        t.flash = s.flash) ∧
  (∀ (s : State) (n : Nat),
      (s.part.storePorts = 0 ∨ s.storeState ≠ 1) → exec (.storeRecovery n) s = .next s) ∧
  (∀ (s : State) (q : Nat),
      (s.hasStore q = true) → ((s.bay q).present = true) → (s.storeStarted = true) → 
      ∃ t, exec (.drivePresenceChange q) s = .next t ∧
        ((t.bay q).present = false) ∧
        (t.get (F.LKT_PORT_STATUS_PRESENT q) = 0) ∧
        ((t.bay q).drive = (s.bay q).drive) ∧
        (t.get (F.LKT_PORT_REMOVALS_C q) = (s.get (F.LKT_PORT_REMOVALS_C q) + 1) % 2 ^ 48) ∧
        (t.portState q = if s.members.contains q then 3 else 0) ∧
        (t.get (F.LKT_PORT_STATUS_SPEED q) = 0) ∧
        (t.get (F.LKT_PORT_STATUS_WIDTH q) = 0) ∧
        (t.units.store.perstHigh.contains q = false) ∧
        (∀ p, p ≠ q → t.bay p = s.bay p) ∧
        (∀ a, ¬ (inStore a ∨ inNotify a) → t.rd a = s.rd a) ∧
        t.force = s.force ∧
        t.flash = s.flash) ∧
  (∀ (s : State) (q : Nat),
      (s.hasStore q = true) → ((s.bay q).present = true) → (s.storeStarted = false) → 
      ∃ t, exec (.drivePresenceChange q) s = .next t ∧
        ((t.bay q).present = false) ∧
        ((t.bay q).drive = (s.bay q).drive) ∧
        (t.regs = s.regs) ∧
        (t.units = s.units) ∧
        (∀ p, p ≠ q → t.bay p = s.bay p) ∧
        t.force = s.force ∧
        t.flash = s.flash) ∧
  (∀ (s : State) (q : Nat),
      (s.hasStore q = false ∨ (s.bay q).present = false) → exec (.drivePresenceChange q) s = .next s) ∧
  (∀ (s : State) (q : Nat) (d : Option StoreDrive),
      (s.hasStore q = true) → (s.storeStarted = true) → (s.isolated 6 q = false) → 
      ∃ t, exec (.driveInserted q d) s = .next t ∧
        ((t.bay q).present = true) ∧
        ((t.bay q).drive.map (·.lbas) = ((d <|> (s.bay q).drive).map (·.lbas))) ∧
        (t.units.store.perstHigh.contains q = true) ∧
        (t.get (F.LKT_PORT_STATUS_PRESENT q) = b2n (d <|> (s.bay q).drive).isSome) ∧
        (∀ p, p ≠ q → t.bay p = s.bay p) ∧
        (∀ a, ¬ (inStore a ∨ inNotify a) → t.rd a = s.rd a) ∧
        t.force = s.force ∧
        t.flash = s.flash) ∧
  (∀ (s : State) (q : Nat) (d : Option StoreDrive),
      (s.hasStore q = true) → (s.storeStarted = false ∨ s.isolated 6 q = true) → 
      ∃ t, exec (.driveInserted q d) s = .next t ∧
        ((t.bay q).present = true) ∧
        ((t.bay q).drive = (d <|> (s.bay q).drive)) ∧
        (t.regs = s.regs) ∧
        (t.units = s.units) ∧
        (∀ p, p ≠ q → t.bay p = s.bay p) ∧
        t.force = s.force ∧
        t.flash = s.flash) ∧
  (∀ (s : State) (q : Nat) (d : Option StoreDrive),
      (s.hasStore q = false) → exec (.driveInserted q d) s = .next s) ∧
  (∀ (s : State) (q : Nat),
      (s.hasStore q = true) → (s.storeStarted = true) → (s.units.store.perstHigh.contains q = true) → 
      ∃ t, exec (.storeLinkDown q) s = .next t ∧
        ((t.bay q).present = (s.bay q).present) ∧
        ((t.bay q).drive = (s.bay q).drive) ∧
        (t.get (F.LKT_PORT_REMOVALS_C q) = (s.get (F.LKT_PORT_REMOVALS_C q) + 1) % 2 ^ 48) ∧
        (t.portState q = if s.members.contains q then 3 else 0) ∧
        (t.get (F.LKT_PORT_STATUS_SPEED q) = 0) ∧
        (t.get (F.LKT_PORT_STATUS_WIDTH q) = 0) ∧
        (t.units.store.perstHigh.contains q = false) ∧
        (∀ a, ¬ (inStore a ∨ inNotify a) → t.rd a = s.rd a) ∧
        t.force = s.force ∧
        t.flash = s.flash) ∧
  (∀ (s : State) (q : Nat),
      (s.hasStore q = false ∨ s.storeStarted = false ∨ s.units.store.perstHigh.contains q = false) → exec (.storeLinkDown q) s = .next s) ∧
  (∀ (s : State) (q : Nat) (how : DriveFailure),
      (s.hasStore q = true) → (s.members.contains q = true) → (s.working q = true) → 
      ∃ t, exec (.driveFailed q how) s = .next t ∧
        (t.portState q = 4) ∧
        (how = .timeout → t.get (F.LKT_PORT_TIMEOUTS_C q) = (s.get (F.LKT_PORT_TIMEOUTS_C q) + 1) % 2 ^ 48) ∧
        (how = .repeatedError → t.get (F.LKT_PORT_CMD_ERRORS_C q) = (s.get (F.LKT_PORT_CMD_ERRORS_C q) + 2) % 2 ^ 48) ∧
        (t.keep = s.keep) ∧
        (∀ a, ¬ (inStore a ∨ inNotify a) → t.rd a = s.rd a) ∧
        t.force = s.force ∧
        t.flash = s.flash) ∧
  (∀ (s : State) (q : Nat) (how : DriveFailure),
      (s.hasStore q = false ∨ s.members.contains q = false ∨ s.working q = false) → exec (.driveFailed q how) s = .next s)

/-- The oldest frame that waits for the store is taken, and only it. In no running state it is dropped and counted NOT_READY, in STATE 5 or under overload OVERLOAD_DROPPED, and for a stream without ring stripes NO_RING; a ring frame that fits the stripe being filled joins it, and a spilled frame grows its object or is dropped with its gap marked. A stripe left open for COMMIT_MS is closed. A journal block takes up to 63 records in order under the next number and goes to the drives of the working members; once durable it leaves the flight and stands in their journals. A release of a closed window by its owner or T0 frees its entry with a journal record, once the stripe that it refers to is written. No register below the store changes. -/
def Obligations.StoreWrites : Prop :=
  (∀ (s : State) (o : Bool) (f : StoreFrame) (rest : List StoreFrame),
      (s.units.storeIn = f :: rest) → (s.part.storePorts = 0) → 
      ∃ t, exec (.storeFrameWrite o) s = .next t ∧
        (t = { s with units := { s.units with storeIn := rest } }) ∧
        t.flash = s.flash) ∧
  (∀ (s : State) (o : Bool) (f : StoreFrame) (rest : List StoreFrame),
      (s.units.storeIn = f :: rest) → (s.part.storePorts ≠ 0) → (s.storeState < 3 ∨ 5 < s.storeState) → 
      ∃ t, exec (.storeFrameWrite o) s = .next t ∧
        (t.units.storeIn = rest) ∧
        (t.get F.LKT_DEVICE_NOT_READY_C = (s.get F.LKT_DEVICE_NOT_READY_C + 1) % 2 ^ 48) ∧
        (f.item.stream < 8192 → t.get (F.LKT_STREAM_FRAMES_DROPPED_C f.item.stream) = (s.get (F.LKT_STREAM_FRAMES_DROPPED_C f.item.stream) + 1) % 2 ^ 48) ∧
        (t.units.store = s.units.store) ∧
        (∀ a, ¬ (inStore a ∨ inNotify a) → t.rd a = s.rd a) ∧
        t.force = s.force ∧
        t.flash = s.flash) ∧
  (∀ (s : State) (o : Bool) (f : StoreFrame) (rest : List StoreFrame),
      (s.units.storeIn = f :: rest) → (s.part.storePorts ≠ 0) → (s.storeState = 5 ∨ (o = true ∧ (s.storeState = 3 ∨ s.storeState = 4) ∧ s.units.store.nextBlock - s.units.store.snapNext < 1048576)) → 
      ∃ t, exec (.storeFrameWrite o) s = .next t ∧
        (t.units.storeIn = rest) ∧
        (t.get F.LKT_DEVICE_OVERLOAD_DROPPED_C = (s.get F.LKT_DEVICE_OVERLOAD_DROPPED_C + 1) % 2 ^ 48) ∧
        (f.item.stream < 8192 → t.get (F.LKT_STREAM_FRAMES_DROPPED_C f.item.stream) = (s.get (F.LKT_STREAM_FRAMES_DROPPED_C f.item.stream) + 1) % 2 ^ 48) ∧
        (t.units.store = s.units.store) ∧
        (∀ a, ¬ (inStore a ∨ inNotify a) → t.rd a = s.rd a) ∧
        t.force = s.force ∧
        t.flash = s.flash) ∧
  (∀ (s : State) (f : StoreFrame) (rest : List StoreFrame),
      (s.units.storeIn = f :: rest) → (s.part.storePorts ≠ 0) → (s.storeState = 3 ∨ s.storeState = 4) → (s.units.store.nextBlock - s.units.store.snapNext < 1048576) → (f.spill = none) → (s.readoutStream f.item.stream = false) → (f.item.stream < 8192) → (s.get (F.LKT_STREAM_CFG_RING_STRIPES f.item.stream) = 0) → 
      ∃ t, exec (.storeFrameWrite false) s = .next t ∧
        (t.units.storeIn = rest) ∧
        (t.get F.LKT_DEVICE_NO_RING_C = (s.get F.LKT_DEVICE_NO_RING_C + 1) % 2 ^ 48) ∧
        (t.get (F.LKT_STREAM_FRAMES_DROPPED_C f.item.stream) = (s.get (F.LKT_STREAM_FRAMES_DROPPED_C f.item.stream) + 1) % 2 ^ 48) ∧
        (t.units.store = s.units.store) ∧
        (∀ a, ¬ (inStore a ∨ inNotify a) → t.rd a = s.rd a) ∧
        t.force = s.force ∧
        t.flash = s.flash) ∧
  (∀ (s : State) (f : StoreFrame) (rest : List StoreFrame) (o n : OpenStripe),
      (s.units.storeIn = f :: rest) → (s.part.storePorts ≠ 0) → (s.storeState = 3 ∨ s.storeState = 4) → (s.units.store.nextBlock - s.units.store.snapNext < 1048576) → (f.spill = none) → (s.readoutStream f.item.stream = false) → (s.get (F.LKT_STREAM_CFG_RING_STRIPES f.item.stream) ≠ 0) → (s.units.store.openFor 0 f.item.stream = some o) → (o.add { rkind := 1, prio := f.prio, item := f.item } = some n) → 
      ∃ t, exec (.storeFrameWrite false) s = .next t ∧
        (t.units.storeIn = rest) ∧
        (t.units.store.openFor 0 f.item.stream = some n) ∧
        (t.regs = s.regs) ∧
        (t.units.store.records = s.units.store.records) ∧
        t.force = s.force ∧
        t.flash = s.flash) ∧
  (∀ (s : State) (f : StoreFrame) (rest : List StoreFrame) (l n : Nat),
      (s.units.storeIn = f :: rest) → (s.part.storePorts ≠ 0) → (s.storeState = 3 ∨ s.storeState = 4) → (s.units.store.nextBlock - s.units.store.snapNext < 1048576) → (f.spill = some (l, n)) → 
      ∃ t, exec (.storeFrameWrite false) s = .next t ∧
        (t.units.storeIn = rest) ∧
        ((t.units.store.object (l * 32 + n)).total = (s.units.store.object (l * 32 + n)).total + 1 ∨ ((t.units.store.object (l * 32 + n)).gap = true ∧ t.get F.LKT_DEVICE_SPILL_DROPPED_C = (s.get F.LKT_DEVICE_SPILL_DROPPED_C + 1) % 2 ^ 48)) ∧
        (∀ a, ¬ (inStore a ∨ inNotify a) → t.rd a = s.rd a) ∧
        t.force = s.force ∧
        t.flash = s.flash) ∧
  (∀ (s : State) (o : Bool) (f : StoreFrame) (rest : List StoreFrame),
      (s.units.storeIn = f :: rest) → 
      ∃ t, exec (.storeFrameWrite o) s = .next t ∧
        (t.units.storeIn = rest) ∧
        (∀ a, ¬ (inStoreUp a) → t.rd a = s.rd a) ∧
        t.flash = s.flash) ∧
  (∀ (s : State) (o : Bool),
      (s.units.storeIn = []) → exec (.storeFrameWrite o) s = .next s) ∧
  (∀ (s : State) (st : Nat) (o : OpenStripe),
      (st < 8192) → (s.units.store.openFor 0 st = some o) → (s.get (F.LKT_STREAM_CFG_COMMIT_MS st) ≠ 0) → (o.since + s.get (F.LKT_STREAM_CFG_COMMIT_MS st) * tickMs ≤ s.keep.elapsed) → 
      ∃ t, exec (.stripeCommitExpiry st) s = .next t ∧
        (t.units.store.opens = s.units.store.opens.erase o) ∧
        (s.units.store.releasing o.stripe = false → s.units.store.closing = [] → o.chunks ≠ [] → t.units.store.live.any (fun l => l.stripe = o.stripe && l.subject = o.subject) = true) ∧
        (s.units.store.releasing o.stripe = true → o.chunks ≠ [] → o ∈ t.units.store.closing) ∧
        (∀ a, ¬ (inStore a ∨ inNotify a) → t.rd a = s.rd a) ∧
        t.force = s.force ∧
        t.flash = s.flash) ∧
  (∀ (s : State) (st : Nat),
      (s.units.store.openFor 0 st = none ∨ s.get (F.LKT_STREAM_CFG_COMMIT_MS st) = 0 ∨ (∀ o ∈ s.units.store.openFor 0 st, s.keep.elapsed < o.since + s.get (F.LKT_STREAM_CFG_COMMIT_MS st) * tickMs)) → exec (.stripeCommitExpiry st) s = .next s) ∧
  (∀ (s : State),
      (s.units.store.records ≠ []) → 
      ∃ t, exec (.journalBlockWrite) s = .next t ∧
        (t.units.store.records = s.units.store.records.drop 63) ∧
        (t.units.store.nextBlock = s.units.store.nextBlock + 1) ∧
        (t.units.store.flight.length = s.units.store.flight.length + 1) ∧
        (t.units.store.flight.getLast?.map (fun b => (b.number, b.recs)) = some (s.units.store.nextBlock, s.units.store.records.take 63)) ∧
        (t.get F.LKT_JOURNAL_LIVE_BLOCKS = min 1048576 (s.units.store.nextBlock + 1 - s.units.store.snapNext)) ∧
        (t.keep = s.keep) ∧
        (∀ a, ¬ (inStore a ∨ inNotify a) → t.rd a = s.rd a) ∧
        t.force = s.force ∧
        t.flash = s.flash) ∧
  (∀ (s : State),
      (s.units.store.records = []) → exec (.journalBlockWrite) s = .next s) ∧
  (∀ (s : State) (b : JournalBlock) (rest : List JournalBlock),
      (s.units.store.flight = b :: rest) → 
      ∃ t, exec (.journalBlockDurable) s = .next t ∧
        (t.units.store.flight.take rest.length = rest) ∧
        (∀ q ∈ s.workers, ∀ d ∈ (t.bay q).drive, Sparse.get (fun _ => ({} : JournalBlock)) d.journal (b.number % 1048576) = b) ∧
        (∀ a, ¬ (inStoreUp a) → t.rd a = s.rd a) ∧
        t.flash = s.flash) ∧
  (∀ (s : State),
      (s.units.store.flight = []) → exec (.journalBlockDurable) s = .next s) ∧
  (∀ (s : State) (n w : Nat) (v : Word),
      (s.part.storePorts ≠ 0) → (n < 4096) → (getBits v 0 0 = 1) → (s.ownsWrite w (F.LKT_WINDOW_CTRL_RELEASE n).addr = true) → (s.get (F.LKT_WINDOW_W0_STATE n) = 2) → 
      ∃ t, exec (.windowRelease n w v) s = .next t ∧
        (t.get (F.LKT_WINDOW_W0_STATE n) = 0) ∧
        (t.units.store.window n = none) ∧
        (∀ x ∈ s.units.store.window n, (s.units.store.opens ++ s.units.store.closing).any (fun o => o.stripe = x.last.1) = false → t.units.store.records.getLast?.map (fun r => (r.kind, r.subject, r.aux)) = some (7, n, 2)) ∧
        (∀ a, ¬ (0x05060000 + 0x40 * n ≤ a ∧ a < 0x05060000 + 0x40 * n + 0x30 ∨ a = F.IMG_VOLATILE_WRITES_COUNT.addr ∨ 0x08000000 ≤ a) → t.rd a = s.rd a) ∧
        t.force = s.force ∧
        t.flash = s.flash) ∧
  (∀ (s : State) (n w : Nat) (v : Word),
      (s.part.storePorts ≠ 0) → (n < 4096) → (getBits v 0 0 = 1) → (s.ownsWrite w (F.LKT_WINDOW_CTRL_RELEASE n).addr = false) → (s.get F.IMG_VOLATILE_WRITES_COUNT + 1 < 2 ^ 47) → 
      ∃ t, exec (.windowRelease n w v) s = .next t ∧
        (t.get F.LKT_STATUS_WRITE_LOST = 1) ∧
        (t.units = s.units) ∧
        (∀ a, ¬ (a = F.LKT_STATUS_WRITE_LOST.addr ∨ a = F.IMG_VOLATILE_WRITES_COUNT.addr) → t.rd a = s.rd a) ∧
        t.force = s.force ∧
        t.flash = s.flash) ∧
  (∀ (s : State) (n w : Nat) (v : Word),
      (s.part.storePorts = 0 ∨ 4096 ≤ n ∨ getBits v 0 0 = 0 ∨ (s.ownsWrite w (F.LKT_WINDOW_CTRL_RELEASE n).addr = true ∧ s.get (F.LKT_WINDOW_W0_STATE n) ≠ 2)) → (s.get F.IMG_VOLATILE_WRITES_COUNT + 1 < 2 ^ 47) → 
      ∃ t, exec (.windowRelease n w v) s = .next t ∧
        (t.units = s.units) ∧
        (t.keep = s.keep) ∧
        (t.force = s.force) ∧
        (t.out = s.out) ∧
        (∀ a, ¬ (a = F.IMG_VOLATILE_WRITES_COUNT.addr) → t.rd a = s.rd a) ∧
        t.flash = s.flash)

/-- Each of the commands of LKT_CTRL and LKT_PORT_CTRL ends at once with its RESULT where it is refused: without the key or not by T0, while the store is busy or does not run, or for the set it would make; a tenant without the right sets WRITE_LOST. A compaction takes the index as a snapshot with the next GENERATION, and when it is done the other slot holds it, COMPACTIONS counts it and DONE is set. A format sets STATE 8 and ends in STATE 3 with an empty index, GENERATION 1 and the drives taken and still present as members; where those are too few it ends refused in STATE 0. An adopted drive gets the set's label and its member returns. A rebuilt stripe stands in the map of the index again and is counted; a rebuild with nothing left ends ONLINE. No register below the store changes. -/
def Obligations.StoreCommands : Prop :=
  (∀ (s : State) (w : Nat) (v : Word),
      (s.part.storePorts ≠ 0) → (getBits v 1 1 = 1) → (s.hasRight w 0x05000000 = true) → (w ≠ 0 ∨ getBits v 31 16 ≠ 0xA5C3) → (s.get F.IMG_VOLATILE_WRITES_COUNT + 1 < 2 ^ 47) → 
      ∃ t, exec (.lktCompact w v) s = .next t ∧
        (t.get F.LKT_STATUS_RESULT = 4) ∧
        (t.get F.LKT_STATUS_DONE = 1) ∧
        (t.storeState = s.storeState) ∧
        (t.units = s.units) ∧
        (∀ a, ¬ (a = F.LKT_STATUS_RESULT.addr ∨ a = F.IMG_VOLATILE_WRITES_COUNT.addr) → t.rd a = s.rd a) ∧
        t.force = s.force ∧
        t.flash = s.flash) ∧
  (∀ (s : State) (w : Nat) (v : Word),
      (s.part.storePorts ≠ 0) → (getBits v 1 1 = 1) → (getBits v 31 16 = 0xA5C3) → (s.storeBusy = true ∨ s.storeState < 3 ∨ 5 < s.storeState) → (s.get F.IMG_VOLATILE_WRITES_COUNT + 1 < 2 ^ 47) → 
      ∃ t, exec (.lktCompact 0 v) s = .next t ∧
        (t.get F.LKT_STATUS_RESULT = 5) ∧
        (t.get F.LKT_STATUS_DONE = 1) ∧
        (t.storeState = s.storeState) ∧
        (t.units = s.units) ∧
        (∀ a, ¬ (a = F.LKT_STATUS_RESULT.addr ∨ a = F.IMG_VOLATILE_WRITES_COUNT.addr) → t.rd a = s.rd a) ∧
        t.force = s.force ∧
        t.flash = s.flash) ∧
  (∀ (s : State) (w : Nat) (v : Word),
      (s.part.storePorts ≠ 0) → (getBits v 1 1 = 1) → (getBits v 31 16 = 0xA5C3) → (s.storeBusy = false) → (3 ≤ s.storeState) → (s.storeState ≤ 5) → 
      ∃ t, exec (.lktCompact 0 v) s = .next t ∧
        (t.units.store.compaction.map (fun c => (c.1.generation, c.2)) = some (s.units.store.generation + 1, true)) ∧
        (t.units.store.records = []) ∧
        (t.storeState = s.storeState) ∧
        (t.get F.LKT_STATUS_DONE = s.get F.LKT_STATUS_DONE) ∧
        (t.keep = s.keep) ∧
        (∀ a, ¬ (inStore a ∨ inNotify a ∨ a = F.IMG_VOLATILE_WRITES_COUNT.addr ∨ 0x08000000 ≤ a) → t.rd a = s.rd a) ∧
        t.force = s.force ∧
        t.flash = s.flash) ∧
  (∀ (s : State) (w : Nat) (v : Word),
      (s.part.storePorts ≠ 0) → (getBits v 1 1 = 1) → (s.hasRight w 0x05000000 = false) → (s.get F.IMG_VOLATILE_WRITES_COUNT + 1 < 2 ^ 47) → 
      ∃ t, exec (.lktCompact w v) s = .next t ∧
        (t.get (F.LKT_STATUS_WRITE_LOST) = 1) ∧
        (t.units = s.units) ∧
        (t.keep = s.keep) ∧
        (∀ a, ¬ (a = (F.LKT_STATUS_WRITE_LOST).addr ∨ a = F.IMG_VOLATILE_WRITES_COUNT.addr) → t.rd a = s.rd a) ∧
        t.force = s.force ∧
        t.flash = s.flash) ∧
  (∀ (s : State) (w : Nat) (v : Word),
      (s.part.storePorts = 0 ∨ getBits v 1 1 = 0) → (s.get F.IMG_VOLATILE_WRITES_COUNT + 1 < 2 ^ 47) → 
      ∃ t, exec (.lktCompact w v) s = .next t ∧
        (t.units = s.units) ∧
        (t.keep = s.keep) ∧
        (t.force = s.force) ∧
        (t.out = s.out) ∧
        (∀ a, ¬ (a = F.IMG_VOLATILE_WRITES_COUNT.addr) → t.rd a = s.rd a) ∧
        t.flash = s.flash) ∧
  (∀ (s : State) (x : Snapshot) (forced : Bool),
      (s.units.store.compaction = some (x, forced)) → 
      ∃ t, exec (.compactionDone) s = .next t ∧
        (t.units.store.compaction = none) ∧
        (t.units.store.generation = x.generation) ∧
        (t.units.store.snapNext = x.next) ∧
        (t.get F.LKT_JOURNAL_SLOT = if s.get F.LKT_JOURNAL_SLOT = 0 then 1 else 0) ∧
        (t.get F.LKT_STATUS_DONE = 1) ∧
        (forced = true → t.get F.LKT_STATUS_RESULT = 0) ∧
        (t.get F.LKT_DEVICE_COMPACTIONS_C = (s.get F.LKT_DEVICE_COMPACTIONS_C + 1) % 2 ^ 48) ∧
        (∀ q ∈ s.workers, ∀ d ∈ (t.bay q).drive, (if s.get F.LKT_JOURNAL_SLOT = 0 then d.slotB else d.slotA) = some x) ∧
        (∀ a, ¬ (inStore a ∨ inNotify a) → t.rd a = s.rd a) ∧
        t.force = s.force ∧
        t.flash = s.flash) ∧
  (∀ (s : State),
      (s.units.store.compaction = none) → exec (.compactionDone) s = .next s) ∧
  (∀ (s : State) (w : Nat) (v : Word),
      (s.part.storePorts ≠ 0) → (getBits v 0 0 = 1) → (s.hasRight w 0x05000000 = true) → (s.formatResult w v ≠ 0) → (s.get F.IMG_VOLATILE_WRITES_COUNT + 1 < 2 ^ 47) → 
      ∃ t, exec (.format w v) s = .next t ∧
        (t.get F.LKT_STATUS_RESULT = s.formatResult w v) ∧
        (t.get F.LKT_STATUS_DONE = 1) ∧
        (t.storeState = s.storeState) ∧
        (t.units = s.units) ∧
        (∀ a, ¬ (a = F.LKT_STATUS_RESULT.addr ∨ a = F.IMG_VOLATILE_WRITES_COUNT.addr) → t.rd a = s.rd a) ∧
        t.force = s.force ∧
        t.flash = s.flash) ∧
  (∀ (s : State) (w : Nat) (v : Word),
      (s.part.storePorts ≠ 0) → (getBits v 0 0 = 1) → (s.hasRight w 0x05000000 = true) → (s.formatResult w v = 0) → (s.get F.IMG_VOLATILE_WRITES_COUNT + 1 < 2 ^ 47) → 
      ∃ t, exec (.format w v) s = .next t ∧
        (t.storeState = 8) ∧
        (t.units.store.formatting.isSome = true) ∧
        (t.units.store.opens = []) ∧
        (t.units.store.flight = []) ∧
        (t.keep = s.keep) ∧
        (∀ a, ¬ (a = F.LKT_STATUS_STATE.addr ∨ a = F.IMG_VOLATILE_WRITES_COUNT.addr) → t.rd a = s.rd a) ∧
        t.force = s.force ∧
        t.flash = s.flash) ∧
  (∀ (s : State) (w : Nat) (v : Word),
      (s.part.storePorts ≠ 0) → (getBits v 0 0 = 1) → (s.hasRight w 0x05000000 = false) → (s.get F.IMG_VOLATILE_WRITES_COUNT + 1 < 2 ^ 47) → 
      ∃ t, exec (.format w v) s = .next t ∧
        (t.get (F.LKT_STATUS_WRITE_LOST) = 1) ∧
        (t.units = s.units) ∧
        (t.keep = s.keep) ∧
        (∀ a, ¬ (a = (F.LKT_STATUS_WRITE_LOST).addr ∨ a = F.IMG_VOLATILE_WRITES_COUNT.addr) → t.rd a = s.rd a) ∧
        t.force = s.force ∧
        t.flash = s.flash) ∧
  (∀ (s : State) (w : Nat) (v : Word),
      (s.part.storePorts = 0 ∨ getBits v 0 0 = 0) → (s.get F.IMG_VOLATILE_WRITES_COUNT + 1 < 2 ^ 47) → 
      ∃ t, exec (.format w v) s = .next t ∧
        (t.units = s.units) ∧
        (t.keep = s.keep) ∧
        (t.force = s.force) ∧
        (t.out = s.out) ∧
        (∀ a, ¬ (a = F.IMG_VOLATILE_WRITES_COUNT.addr) → t.rd a = s.rd a) ∧
        t.flash = s.flash) ∧
  (∀ (s : State) (x : FormatRun),
      (s.units.store.formatting = some x) → (x.guarded = false ∨ 16 ≤ (s.formatPorts.filter x.ports.contains).length) → ((s.formatPorts.filter x.ports.contains) ≠ []) → 
      ∃ t, exec (.formatDone) s = .next t ∧
        (t.storeState = 3) ∧
        (t.get F.LKT_STATUS_DONE = 1) ∧
        (t.get F.LKT_STATUS_RESULT = 0) ∧
        (t.units.store.live = []) ∧
        (t.units.store.windows = []) ∧
        (t.units.store.generation = 1) ∧
        (t.units.store.formatting = none) ∧
        (t.members = (s.formatPorts.filter x.ports.contains)) ∧
        (t.free = s.free + 1) ∧
        (∀ a, ¬ (inStoreUp a) → t.rd a = s.rd a) ∧
        t.flash = s.flash) ∧
  (∀ (s : State) (x : FormatRun),
      (s.units.store.formatting = some x) → ((x.guarded = true ∧ (s.formatPorts.filter x.ports.contains).length < 16) ∨ (s.formatPorts.filter x.ports.contains) = []) → 
      ∃ t, exec (.formatDone) s = .next t ∧
        (t.storeState = 0) ∧
        (t.get F.LKT_STATUS_DONE = 1) ∧
        (t.get F.LKT_STATUS_RESULT = (if x.guarded then 1 else 2)) ∧
        (t.units.store.formatting = none) ∧
        (t.keep = s.keep) ∧
        (∀ a, ¬ (a = F.LKT_STATUS_RESULT.addr) → t.rd a = s.rd a) ∧
        t.force = s.force ∧
        t.flash = s.flash) ∧
  (∀ (s : State),
      (s.units.store.formatting = none) → exec (.formatDone) s = .next s) ∧
  (∀ (s : State) (q w : Nat) (v : Word),
      (s.hasStore q = true) → (getBits v 0 0 = 1) → (s.hasRight w 0x05000000 = true) → (w ≠ 0 ∨ getBits v 31 16 ≠ 0xA5C3) → (s.get F.IMG_VOLATILE_WRITES_COUNT + 1 < 2 ^ 47) → 
      ∃ t, exec (.adopt q w v) s = .next t ∧
        (t.get F.LKT_STATUS_RESULT = 4) ∧
        (t.units = s.units) ∧
        (t.keep = s.keep) ∧
        (∀ a, ¬ (a = F.LKT_STATUS_RESULT.addr ∨ a = F.IMG_VOLATILE_WRITES_COUNT.addr) → t.rd a = s.rd a) ∧
        t.force = s.force ∧
        t.flash = s.flash) ∧
  (∀ (s : State) (q : Nat) (v : Word),
      (s.hasStore q = true) → (getBits v 0 0 = 1) → (getBits v 31 16 = 0xA5C3) → (s.storeBusy = true ∨ s.storeState < 3 ∨ 5 < s.storeState) → (s.get F.IMG_VOLATILE_WRITES_COUNT + 1 < 2 ^ 47) → 
      ∃ t, exec (.adopt q 0 v) s = .next t ∧
        (t.get F.LKT_STATUS_RESULT = 5) ∧
        (t.units = s.units) ∧
        (t.keep = s.keep) ∧
        (∀ a, ¬ (a = F.LKT_STATUS_RESULT.addr ∨ a = F.IMG_VOLATILE_WRITES_COUNT.addr) → t.rd a = s.rd a) ∧
        t.force = s.force ∧
        t.flash = s.flash) ∧
  (∀ (s : State) (q : Nat) (v : Word),
      (s.hasStore q = true) → (getBits v 0 0 = 1) → (getBits v 31 16 = 0xA5C3) → (s.storeBusy = false) → (3 ≤ s.storeState) → (s.storeState ≤ 5) → (s.portState q ≠ 5 ∨ s.members.contains q = false ∨ s.units.store.label = none ∨ s.driveAt q = none) → (s.get F.IMG_VOLATILE_WRITES_COUNT + 1 < 2 ^ 47) → 
      ∃ t, exec (.adopt q 0 v) s = .next t ∧
        (t.get F.LKT_STATUS_RESULT = 2) ∧
        (t.units = s.units) ∧
        (t.keep = s.keep) ∧
        (∀ a, ¬ (a = F.LKT_STATUS_RESULT.addr ∨ a = F.IMG_VOLATILE_WRITES_COUNT.addr) → t.rd a = s.rd a) ∧
        t.force = s.force ∧
        t.flash = s.flash) ∧
  (∀ (s : State) (q : Nat) (v : Word) (l : DriveLabel) (d : StoreDrive),
      (s.hasStore q = true) → (getBits v 0 0 = 1) → (getBits v 31 16 = 0xA5C3) → (s.storeBusy = false) → (3 ≤ s.storeState) → (s.storeState ≤ 5) → (s.portState q = 5) → (s.members.contains q = true) → (s.units.store.label = some l) → (s.driveAt q = some d) → (1573120 + 512 * l.rows ≤ d.lbas) → 
      ∃ t, exec (.adopt q 0 v) s = .next t ∧
        (t.get F.LKT_STATUS_RESULT = 0) ∧
        ((t.bay q).drive.map (·.label) = some (some { l with member := q })) ∧
        ((t.bay q).drive.map (·.chunks) = some []) ∧
        (t.portState q = 2 ∨ t.portState q = 7) ∧
        (s.units.store.guarded = true → t.units.store.live.all (fun e => !e.map.testBit q) = true) ∧
        (∀ p, p ≠ q → t.bay p = s.bay p) ∧
        (∀ a, ¬ (inStore a ∨ inNotify a ∨ a = F.IMG_VOLATILE_WRITES_COUNT.addr ∨ 0x08000000 ≤ a) → t.rd a = s.rd a) ∧
        t.force = s.force ∧
        t.flash = s.flash) ∧
  (∀ (s : State) (q : Nat) (w : Nat) (v : Word),
      (s.hasStore q = true) → (getBits v 0 0 = 1) → (s.hasRight w 0x05000000 = false) → (s.get F.IMG_VOLATILE_WRITES_COUNT + 1 < 2 ^ 47) → 
      ∃ t, exec (.adopt q w v) s = .next t ∧
        (t.get (F.LKT_PORT_STATUS_WRITE_LOST q) = 1) ∧
        (t.units = s.units) ∧
        (t.keep = s.keep) ∧
        (∀ a, ¬ (a = (F.LKT_PORT_STATUS_WRITE_LOST q).addr ∨ a = F.IMG_VOLATILE_WRITES_COUNT.addr) → t.rd a = s.rd a) ∧
        t.force = s.force ∧
        t.flash = s.flash) ∧
  (∀ (s : State) (q w : Nat) (v : Word),
      (s.hasStore q = false ∨ getBits v 0 0 = 0) → (s.get F.IMG_VOLATILE_WRITES_COUNT + 1 < 2 ^ 47) → 
      ∃ t, exec (.adopt q w v) s = .next t ∧
        (t.units = s.units) ∧
        (t.keep = s.keep) ∧
        (t.force = s.force) ∧
        (t.out = s.out) ∧
        (∀ a, ¬ (a = F.IMG_VOLATILE_WRITES_COUNT.addr) → t.rd a = s.rd a) ∧
        t.flash = s.flash) ∧
  (∀ (s : State) (q : Nat) (l : LiveStripe) (c : List (List StoredRec)),
      (q < 16) → (s.portState q = 7) → (s.nextRebuild q = some (l, c)) → 
      ∃ t, exec (.rebuildStripe q) s = .next t ∧
        (t.get (F.LKT_PORT_REBUILD_STRIPES_DONE q) = (s.get (F.LKT_PORT_REBUILD_STRIPES_DONE q) + 1) % 2 ^ 32) ∧
        (t.get F.LKT_DEVICE_CHUNKS_RECONSTRUCTED_C = (s.get F.LKT_DEVICE_CHUNKS_RECONSTRUCTED_C + 1) % 2 ^ 48) ∧
        (t.units.store.live.any (fun e => e.stripe = l.stripe && e.map = l.map + 2 ^ q) = true) ∧
        (s.units.store.records.length < t.units.store.records.length) ∧
        (∀ p, p ≠ q → t.bay p = s.bay p) ∧
        (∀ a, ¬ (inStore a ∨ inNotify a) → t.rd a = s.rd a) ∧
        t.force = s.force ∧
        t.flash = s.flash) ∧
  (∀ (s : State) (q : Nat),
      (q < 16) → (s.portState q = 7) → (s.members.contains q = true) → (s.nextRebuild q = none) → 
      ∃ t, exec (.rebuildStripe q) s = .next t ∧
        (t.portState q = (if s.units.store.live.any (s.units.store.toRebuild q) then 7 else 2)) ∧
        (t.get (F.LKT_PORT_REBUILD_STRIPES_LEFT q) = (s.units.store.live.filter (s.units.store.toRebuild q)).length % 2 ^ 32) ∧
        (t.units.store.live = s.units.store.live) ∧
        (t.keep = s.keep) ∧
        (∀ a, ¬ (inStore a) → t.rd a = s.rd a) ∧
        t.force = s.force ∧
        t.flash = s.flash) ∧
  (∀ (s : State) (q : Nat),
      (s.portState q ≠ 7) → exec (.rebuildStripe q) s = .next s)

/-- A START of an idle engine by a tenant with the right is refused with its RESULT and DONE, or sets BUSY and OWNER and starts the engine on the index as it stands; a busy engine gets RESULT 4. The next frame of an engine goes into its queue and is counted in FRAMES; while the queue reads FULL it waits, and a frame that the queue refuses for another reason is passed over. While the window has commands to come, an engine starts to read a stripe at its end. An engine with nothing left ends with BUSY 0, RESULT 0 and DONE, but for one that follows a spill object. An ABORT of a busy engine ends it with RESULT 5 and DONE. Without the right a write sets WRITE_LOST only. No register below the store changes, and where a frame is accepted only the store's, the engine's queue's and the notification queues' do. -/
def Obligations.StoreReplay : Prop :=
  (∀ (s : State) (e w : Nat) (v : Word),
      (s.part.storePorts ≠ 0) → (e < 8) → (getBits v 0 0 = 1) → (s.hasRight w 0x05000000 = true) → (s.is (F.LKT_REPLAY_STATUS_BUSY e) = true) → (s.get F.IMG_VOLATILE_WRITES_COUNT + 1 < 2 ^ 47) → 
      ∃ t, exec (.replayStart e w v) s = .next t ∧
        (t.get (F.LKT_REPLAY_STATUS_RESULT e) = 4) ∧
        (t.get (F.LKT_REPLAY_STATUS_BUSY e) = 1) ∧
        (t.units = s.units) ∧
        (∀ a, ¬ (a = (F.LKT_REPLAY_STATUS_RESULT e).addr ∨ a = F.IMG_VOLATILE_WRITES_COUNT.addr) → t.rd a = s.rd a) ∧
        t.force = s.force ∧
        t.flash = s.flash) ∧
  (∀ (s : State) (e w : Nat) (v : Word),
      (s.part.storePorts ≠ 0) → (e < 8) → (getBits v 0 0 = 1) → (s.hasRight w 0x05000000 = true) → (s.is (F.LKT_REPLAY_STATUS_BUSY e) = false) → (s.replayResult e w ≠ 0) → (s.get F.IMG_VOLATILE_WRITES_COUNT + 1 < 2 ^ 47) → 
      ∃ t, exec (.replayStart e w v) s = .next t ∧
        (t.get (F.LKT_REPLAY_STATUS_RESULT e) = s.replayResult e w) ∧
        (t.get (F.LKT_REPLAY_STATUS_DONE e) = 1) ∧
        (t.get (F.LKT_REPLAY_STATUS_BUSY e) = 0) ∧
        (t.units = s.units) ∧
        (∀ a, ¬ (a = (F.LKT_REPLAY_STATUS_RESULT e).addr ∨ a = F.IMG_VOLATILE_WRITES_COUNT.addr) → t.rd a = s.rd a) ∧
        t.force = s.force ∧
        t.flash = s.flash) ∧
  (∀ (s : State) (e w : Nat) (v : Word),
      (s.part.storePorts ≠ 0) → (e < 8) → (w < 32) → (getBits v 0 0 = 1) → (s.hasRight w 0x05000000 = true) → (s.is (F.LKT_REPLAY_STATUS_BUSY e) = false) → (s.replayResult e w = 0) → 
      ∃ t, exec (.replayStart e w v) s = .next t ∧
        (t.engine e = some (s.newEngine e)) ∧
        (t.get (F.LKT_REPLAY_STATUS_BUSY e) = 1) ∧
        (t.get (F.LKT_REPLAY_STATUS_OWNER e) = w) ∧
        (t.get (F.LKT_REPLAY_PROGRESS_FRAMES e) = 0) ∧
        (t.get (F.LKT_REPLAY_PROGRESS_SKIPPED_STRIPES e) = 0) ∧
        (∀ n, n ≠ e → t.engine n = s.engine n) ∧
        (∀ a, ¬ (a = (F.LKT_REPLAY_STATUS_RESULT e).addr ∨ a = (F.LKT_REPLAY_PROGRESS_FRAMES e).addr ∨ a = F.IMG_VOLATILE_WRITES_COUNT.addr ∨ 0x08000000 ≤ a) → t.rd a = s.rd a) ∧
        t.force = s.force ∧
        t.flash = s.flash) ∧
  (∀ (s : State) (e : Nat) (w : Nat) (v : Word),
      (s.part.storePorts ≠ 0) → (e < 8) → (getBits v 0 0 = 1) → (s.hasRight w 0x05000000 = false) → (s.get F.IMG_VOLATILE_WRITES_COUNT + 1 < 2 ^ 47) → 
      ∃ t, exec (.replayStart e w v) s = .next t ∧
        (t.get (F.LKT_STATUS_WRITE_LOST) = 1) ∧
        (t.units = s.units) ∧
        (t.keep = s.keep) ∧
        (∀ a, ¬ (a = (F.LKT_STATUS_WRITE_LOST).addr ∨ a = F.IMG_VOLATILE_WRITES_COUNT.addr) → t.rd a = s.rd a) ∧
        t.force = s.force ∧
        t.flash = s.flash) ∧
  (∀ (s : State) (e w : Nat) (v : Word),
      (s.part.storePorts = 0 ∨ 8 ≤ e ∨ getBits v 0 0 = 0) → (s.get F.IMG_VOLATILE_WRITES_COUNT + 1 < 2 ^ 47) → 
      ∃ t, exec (.replayStart e w v) s = .next t ∧
        (t.units = s.units) ∧
        (t.keep = s.keep) ∧
        (t.force = s.force) ∧
        (t.out = s.out) ∧
        (∀ a, ¬ (a = F.IMG_VOLATILE_WRITES_COUNT.addr) → t.rd a = s.rd a) ∧
        t.flash = s.flash) ∧
  (∀ (s : State) (e : Nat) (g : Engine),
      (e < 8) → (s.pending = []) → (s.engine e = some g) → ((s.advanceEngine g).1.frames = []) → ((g.source = 3 ∧ g.follow = true) = false) → 
      ∃ t, exec (.replayFrame e) s = .next t ∧
        (t.engine e = none) ∧
        (t.get (F.LKT_REPLAY_STATUS_BUSY e) = 0) ∧
        (t.get (F.LKT_REPLAY_STATUS_RESULT e) = 0) ∧
        (t.get (F.LKT_REPLAY_STATUS_DONE e) = 1) ∧
        (t.get (F.LKT_REPLAY_PROGRESS_FRAMES e) = s.get (F.LKT_REPLAY_PROGRESS_FRAMES e)) ∧
        (∀ a, ¬ (inStore a ∨ inNotify a) → t.rd a = s.rd a) ∧
        t.force = s.force ∧
        t.flash = s.flash) ∧
  (∀ (s : State) (e : Nat) (g : Engine),
      (e < 8) → (s.pending = []) → (s.engine e = some g) → ((s.advanceEngine g).1.frames = []) → (g.source = 3) → (g.follow = true) → 
      ∃ t, exec (.replayFrame e) s = .next t ∧
        (t.engine e = some (s.advanceEngine g).1) ∧
        (t.get (F.LKT_REPLAY_STATUS_BUSY e) = s.get (F.LKT_REPLAY_STATUS_BUSY e)) ∧
        (∀ a, ¬ (inStore a ∨ inNotify a) → t.rd a = s.rd a) ∧
        t.force = s.force ∧
        t.flash = s.flash) ∧
  (∀ (s : State) (e : Nat) (g : Engine) (n : Nat) (i : Item) (rest : List (Nat × Item)),
      (e < 8) → (g.frames ≠ [] ∨ s.pending = []) → (s.engine e = some g) → (g.queue < 2048) → ((s.advanceEngine g).1.frames = (n, i) :: rest) → (g.source ≠ 3 ∨ g.follow = true ∨ (s.advanceEngine g).1.next < g.limit) → (s.is (F.Q_STATUS_FULL g.queue) = false) → (s.pushFate g.queue i = .accepted) → 
      ∃ t, exec (.replayFrame e) s = .next t ∧
        ((t.queue g.queue).items.length = (s.queue g.queue).items.length + 1) ∧
        (t.get (F.LKT_REPLAY_PROGRESS_FRAMES e) = (s.get (F.LKT_REPLAY_PROGRESS_FRAMES e) + 1) % 2 ^ 48) ∧
        ((t.engine e).map (·.frames) = some rest) ∧
        ((t.queue g.queue).items.getLast?.map (fun x => x.1.data) = some i.data) ∧
        (∀ a, ¬ (inStore a ∨ inNotify a ∨ inQueue g.queue a) → t.rd a = s.rd a) ∧
        t.force = s.force ∧
        t.flash = s.flash) ∧
  (∀ (s : State) (e : Nat) (g : Engine) (n : Nat) (i : Item) (rest : List (Nat × Item)),
      (e < 8) → (g.frames ≠ [] ∨ s.pending = []) → (s.engine e = some g) → (g.queue < 2048) → ((s.advanceEngine g).1.frames = (n, i) :: rest) → (g.source ≠ 3 ∨ g.follow = true ∨ (s.advanceEngine g).1.next < g.limit) → (s.is (F.Q_STATUS_FULL g.queue) = true) → 
      ∃ t, exec (.replayFrame e) s = .next t ∧
        (t.engine e = some (s.advanceEngine g).1) ∧
        (t.get (F.LKT_REPLAY_PROGRESS_FRAMES e) = s.get (F.LKT_REPLAY_PROGRESS_FRAMES e)) ∧
        (t.queue g.queue = s.queue g.queue) ∧
        (∀ a, ¬ (inStore a ∨ inNotify a) → t.rd a = s.rd a) ∧
        t.force = s.force ∧
        t.flash = s.flash) ∧
  (∀ (s : State) (e : Nat) (g : Engine) (n : Nat) (i : Item) (rest : List (Nat × Item)),
      (e < 8) → (g.frames ≠ [] ∨ s.pending = []) → (s.engine e = some g) → (g.queue < 2048) → ((s.advanceEngine g).1.frames = (n, i) :: rest) → (g.source ≠ 3 ∨ g.follow = true ∨ (s.advanceEngine g).1.next < g.limit) → (s.is (F.Q_STATUS_FULL g.queue) = false) → s.pushFate g.queue i ∈ [PushFate.ignored, .tooBig, .noCells, .full] → 
      ∃ t, exec (.replayFrame e) s = .next t ∧
        ((t.engine e).map (·.frames) = some rest) ∧
        (t.get (F.LKT_REPLAY_PROGRESS_FRAMES e) = s.get (F.LKT_REPLAY_PROGRESS_FRAMES e)) ∧
        ((t.queue g.queue).items = (s.queue g.queue).items) ∧
        (∀ a, ¬ (inStoreUp a) → t.rd a = s.rd a) ∧
        t.force = s.force ∧
        t.flash = s.flash) ∧
  (∀ (s : State) (e : Nat) (g : Engine),
      (s.engine e = some g) → (g.frames = []) → (s.pending ≠ []) → 
      ∃ t, exec (.replayFrame e) s = .next t ∧
        (t = { s with win := { s.win with replays := s.win.replays ++ [e] } })) ∧
  (∀ (s : State) (e : Nat),
      (s.engine e = none) → exec (.replayFrame e) s = .next s) ∧
  (∀ (s : State) (e w : Nat) (v : Word),
      (s.part.storePorts ≠ 0) → (e < 8) → (getBits v 1 1 = 1) → (s.hasRight w 0x05000000 = true) → (s.is (F.LKT_REPLAY_STATUS_BUSY e) = true) → 
      ∃ t, exec (.replayAbort e w v) s = .next t ∧
        (t.engine e = none) ∧
        (t.get (F.LKT_REPLAY_STATUS_BUSY e) = 0) ∧
        (t.get (F.LKT_REPLAY_STATUS_RESULT e) = 5) ∧
        (t.get (F.LKT_REPLAY_STATUS_DONE e) = 1) ∧
        (∀ n, n ≠ e → t.engine n = s.engine n) ∧
        (∀ a, ¬ (a = (F.LKT_REPLAY_STATUS_RESULT e).addr ∨ a = F.IMG_VOLATILE_WRITES_COUNT.addr ∨ 0x08000000 ≤ a) → t.rd a = s.rd a) ∧
        t.force = s.force ∧
        t.flash = s.flash) ∧
  (∀ (s : State) (e : Nat) (w : Nat) (v : Word),
      (s.part.storePorts ≠ 0) → (e < 8) → (getBits v 1 1 = 1) → (s.hasRight w 0x05000000 = false) → (s.get F.IMG_VOLATILE_WRITES_COUNT + 1 < 2 ^ 47) → 
      ∃ t, exec (.replayAbort e w v) s = .next t ∧
        (t.get (F.LKT_STATUS_WRITE_LOST) = 1) ∧
        (t.units = s.units) ∧
        (t.keep = s.keep) ∧
        (∀ a, ¬ (a = (F.LKT_STATUS_WRITE_LOST).addr ∨ a = F.IMG_VOLATILE_WRITES_COUNT.addr) → t.rd a = s.rd a) ∧
        t.force = s.force ∧
        t.flash = s.flash) ∧
  (∀ (s : State) (e w : Nat) (v : Word),
      (s.part.storePorts = 0 ∨ 8 ≤ e ∨ getBits v 1 1 = 0 ∨ (s.hasRight w 0x05000000 = true ∧ s.is (F.LKT_REPLAY_STATUS_BUSY e) = false)) → (s.get F.IMG_VOLATILE_WRITES_COUNT + 1 < 2 ^ 47) → 
      ∃ t, exec (.replayAbort e w v) s = .next t ∧
        (t.units = s.units) ∧
        (t.keep = s.keep) ∧
        (t.force = s.force) ∧
        (t.out = s.out) ∧
        (∀ a, ¬ (a = F.IMG_VOLATILE_WRITES_COUNT.addr) → t.rd a = s.rd a) ∧
        t.flash = s.flash)

/-- On a link that is up each priority a PFC frame names is counted; with PFC_EN a time other than 0 pauses it and renews its deadline, and 0 or the deadline ends the pause and adds its length to PAUSED_US. A pause older than PAUSE_WD_US is a storm, and STORM_CLEAR_US without pause ends it. A ring port sends a pause of 65,535 quanta above XOFF_KIB and a zero time once at or below XON_KIB. A verification that is answered sets PREEMPT_ACTIVE. A link that goes down sets LINK_DOWN_EVENT and counts a frame it cut. A link that its port created and enabled comes up. PORT_ENABLE gives the port its REACH, SPLIT and ENABLE, but a changed SPLIT or REACH of an enabled port sets WRITE_LOST alone. Other registers stay, and events whose condition does not hold do nothing (log entry 7). -/
def Obligations.LinkPausesAndStates : Prop :=
  (∀ (s : State) (l p : Nat) (n : Nat),
      (s.linkIsUp l = true) → (p < 8) → (s.pfcOn l p = true) → (n % 65536 ≠ 0) → 
      ∃ t, exec (.pfcReceived l [(p, n)]) s = .next t ∧
        (t.is (pausedBit l p) = true) ∧
        (t.get ((linkF l (fun a b => F.LSN_LINK_PRIO_PAUSE_RX_C a b p) (fun r => F.RNG_PRIO_PAUSE_RX_C r p))) = (s.get ((linkF l (fun a b => F.LSN_LINK_PRIO_PAUSE_RX_C a b p) (fun r => F.RNG_PRIO_PAUSE_RX_C r p))) + 1) % 2 ^ 48) ∧
        ((t.pause l p).until_ = s.keep.elapsed + n % 65536 * 512 * 1024 / s.linkRate l) ∧
        ((t.pause l p).since = if s.is (pausedBit l p) then (s.pause l p).since else s.keep.elapsed) ∧
        (t.out = s.out) ∧
        (∀ a, ¬ (inLink l a ∨ inNotify a) → t.rd a = s.rd a) ∧
        t.force = s.force ∧
        t.flash = s.flash) ∧
  (∀ (s : State) (l p : Nat) (n : Nat),
      (s.linkIsUp l = true) → (p < 8) → (s.pfcOn l p = true) → (n % 65536 = 0) → (s.is (pausedBit l p) = true) → 
      ∃ t, exec (.pfcReceived l [(p, n)]) s = .next t ∧
        (t.is (pausedBit l p) = false) ∧
        (t.get ((linkF l (fun a b => F.LSN_LINK_PRIO_PAUSE_RX_C a b p) (fun r => F.RNG_PRIO_PAUSE_RX_C r p))) = (s.get ((linkF l (fun a b => F.LSN_LINK_PRIO_PAUSE_RX_C a b p) (fun r => F.RNG_PRIO_PAUSE_RX_C r p))) + 1) % 2 ^ 48) ∧
        (t.get ((linkF l (fun a b => F.LSN_LINK_PRIO_PAUSED_US_C a b p) (fun r => F.RNG_PRIO_PAUSED_US_C r p))) = (s.get ((linkF l (fun a b => F.LSN_LINK_PRIO_PAUSED_US_C a b p) (fun r => F.RNG_PRIO_PAUSED_US_C r p))) + (s.keep.elapsed - (s.pause l p).since) / tickUs) % 2 ^ 48) ∧
        ((t.pause l p).freeSince = s.keep.elapsed) ∧
        (∀ a, ¬ (inLink l a ∨ inNotify a) → t.rd a = s.rd a) ∧
        t.force = s.force ∧
        t.flash = s.flash) ∧
  (∀ (s : State) (l p : Nat) (n : Nat),
      (s.linkIsUp l = true) → (p < 8) → (s.pfcOn l p = false) → 
      ∃ t, exec (.pfcReceived l [(p, n)]) s = .next t ∧
        (t.get ((linkF l (fun a b => F.LSN_LINK_PRIO_PAUSE_RX_C a b p) (fun r => F.RNG_PRIO_PAUSE_RX_C r p))) = (s.get ((linkF l (fun a b => F.LSN_LINK_PRIO_PAUSE_RX_C a b p) (fun r => F.RNG_PRIO_PAUSE_RX_C r p))) + 1) % 2 ^ 48) ∧
        (t.units.pauses = s.units.pauses) ∧
        (t.out = s.out) ∧
        (∀ a, ¬ (a = (linkF l (fun a b => F.LSN_LINK_PRIO_PAUSE_RX_C a b p) (fun r => F.RNG_PRIO_PAUSE_RX_C r p)).addr ∨ inNotify a) → t.rd a = s.rd a) ∧
        t.force = s.force ∧
        t.flash = s.flash) ∧
  (∀ (s : State) (l : Nat) (x : List (Nat × Nat)),
      
      ∃ t, exec (.pfcReceived l x) s = .next t ∧
        (t.out = s.out) ∧
        (t.units.links = s.units.links) ∧
        (t.units.endpoints = s.units.endpoints) ∧
        (∀ a, ¬ (inLink l a ∨ inNotify a) → t.rd a = s.rd a) ∧
        t.force = s.force ∧
        t.flash = s.flash) ∧
  (∀ (s : State) (l : Nat) (x : List (Nat × Nat)),
      (s.linkIsUp l = false ∨ (x.all (fun y => decide (8 ≤ y.1)) = true)) → exec (.pfcReceived l x) s = .next s) ∧
  (∀ (s : State) (l p : Nat),
      (l < 264) → (p < 8) → (s.is (pausedBit l p) = true) → ((s.pause l p).until_ ≤ s.keep.elapsed) → 
      ∃ t, exec (.pauseExpiry l p) s = .next t ∧
        (t.is (pausedBit l p) = false) ∧
        (t.get ((linkF l (fun a b => F.LSN_LINK_PRIO_PAUSED_US_C a b p) (fun r => F.RNG_PRIO_PAUSED_US_C r p))) = (s.get ((linkF l (fun a b => F.LSN_LINK_PRIO_PAUSED_US_C a b p) (fun r => F.RNG_PRIO_PAUSED_US_C r p))) + (s.keep.elapsed - (s.pause l p).since) / tickUs) % 2 ^ 48) ∧
        ((t.pause l p).freeSince = s.keep.elapsed) ∧
        (t.out = s.out) ∧
        (∀ a, ¬ (inLink l a ∨ inNotify a) → t.rd a = s.rd a) ∧
        t.force = s.force ∧
        t.flash = s.flash) ∧
  (∀ (s : State) (l p : Nat),
      (264 ≤ l ∨ 8 ≤ p ∨ s.is (pausedBit l p) = false ∨ s.keep.elapsed < (s.pause l p).until_) → exec (.pauseExpiry l p) s = .next s) ∧
  (∀ (s : State) (l p : Nat),
      (l < 264) → (p < 8) → (s.is (pausedBit l p) = true) → (s.is (stormBit l p) = false) → (s.releasePending l p = false) → ((s.pause l p).since + s.get (linkF l F.LSN_LINK_TIMERS_PAUSE_WD_US F.RNG_TIMERS_PAUSE_WD_US) * tickUs ≤ s.keep.elapsed) → 
      ∃ t, exec (.pauseWatchdogExpiry l p) s = .next t ∧
        (t.is (stormBit l p) = true) ∧
        (t.is (pausedBit l p) = true) ∧
        (t.get ((linkF l (fun a b => F.LSN_LINK_PRIO_STORMS_C a b p) (fun r => F.RNG_PRIO_STORMS_C r p))) = (s.get ((linkF l (fun a b => F.LSN_LINK_PRIO_STORMS_C a b p) (fun r => F.RNG_PRIO_STORMS_C r p))) + 1) % 2 ^ 48) ∧
        (t.units.pauses = s.units.pauses) ∧
        (∀ a, ¬ (inLink l a ∨ inNotify a) → t.rd a = s.rd a) ∧
        t.force = s.force ∧
        t.flash = s.flash) ∧
  (∀ (s : State) (l p : Nat),
      (264 ≤ l ∨ 8 ≤ p ∨ s.is (pausedBit l p) = false ∨ s.is (stormBit l p) = true ∨ s.keep.elapsed < (s.pause l p).since + s.get (linkF l F.LSN_LINK_TIMERS_PAUSE_WD_US F.RNG_TIMERS_PAUSE_WD_US) * tickUs) → exec (.pauseWatchdogExpiry l p) s = .next s) ∧
  (∀ (s : State) (l p : Nat),
      (l < 264) → (p < 8) → (s.is (stormBit l p) = true) → (s.is (pausedBit l p) = false) → ((s.pause l p).freeSince + s.get (linkF l F.LSN_LINK_TIMERS_STORM_CLEAR_US F.RNG_TIMERS_STORM_CLEAR_US) * tickUs ≤ s.keep.elapsed) → 
      ∃ t, exec (.stormClearExpiry l p) s = .next t ∧
        (t.is (stormBit l p) = false) ∧
        (t.is (pausedBit l p) = false) ∧
        (t.units = s.units) ∧
        (∀ a, ¬ (a = (linkF l F.LSN_LINK_STATUS_STORM F.RNG_STATUS_STORM).addr) → t.rd a = s.rd a) ∧
        t.force = s.force ∧
        t.flash = s.flash) ∧
  (∀ (s : State) (l p : Nat),
      (264 ≤ l ∨ 8 ≤ p ∨ s.is (stormBit l p) = false ∨ s.is (pausedBit l p) = true ∨ s.keep.elapsed < (s.pause l p).freeSince + s.get (linkF l F.LSN_LINK_TIMERS_STORM_CLEAR_US F.RNG_TIMERS_STORM_CLEAR_US) * tickUs) → exec (.stormClearExpiry l p) s = .next s) ∧
  (∀ (s : State) (r p n : Nat),
      (r < 8) → (p < 7) → (s.pfcOn (256 + r) p = true) → (s.linkIsUp (256 + r) = true) → ((s.link (256 + r)).xoff.find? (fun x => x.1 = p) = none) → (1024 * s.get (F.RNG_PFC_XOFF_KIB r) < n) → 
      ∃ t, exec (.pfcSend r p n) s = .next t ∧
        (t.out = s.out ++ [.pfc r p 65535]) ∧
        (t.get (F.RNG_TX_PAUSE_C r) = (s.get (F.RNG_TX_PAUSE_C r) + 1) % 2 ^ 48) ∧
        (p, s.keep.elapsed) ∈ (t.link (256 + r)).xoff ∧
        (∀ a, ¬ (a = (F.RNG_TX_PAUSE_C r).addr ∨ inNotify a) → t.rd a = s.rd a) ∧
        t.force = s.force ∧
        t.flash = s.flash) ∧
  (∀ (s : State) (r p n k : Nat),
      (r < 8) → (p < 7) → (s.pfcOn (256 + r) p = true) → (s.linkIsUp (256 + r) = true) → ((s.link (256 + r)).xoff.find? (fun x => x.1 = p) = some (p, k)) → (n ≤ 1024 * s.get (F.RNG_PFC_XON_KIB r)) → 
      ∃ t, exec (.pfcSend r p n) s = .next t ∧
        (t.out = s.out ++ [.pfc r p 0]) ∧
        (t.get (F.RNG_TX_PAUSE_C r) = (s.get (F.RNG_TX_PAUSE_C r) + 1) % 2 ^ 48) ∧
        ((t.link (256 + r)).xoff = (s.link (256 + r)).xoff.filter (fun x => x.1 ≠ p)) ∧
        (∀ a, ¬ (a = (F.RNG_TX_PAUSE_C r).addr ∨ inNotify a) → t.rd a = s.rd a) ∧
        t.force = s.force ∧
        t.flash = s.flash) ∧
  (∀ (s : State) (r p n : Nat),
      (8 ≤ r ∨ 7 ≤ p ∨ s.pfcOn (256 + r) p = false ∨ s.linkIsUp (256 + r) = false ∨ ((s.link (256 + r)).xoff.find? (fun x => x.1 = p) = none ∧ n ≤ 1024 * s.get (F.RNG_PFC_XOFF_KIB r))) → exec (.pfcSend r p n) s = .next s) ∧
  (∀ (s : State) (l : Nat) (ok : Bool),
      (s.linkIsUp l = true) → (s.is (preemptActive l) = false) → (256 ≤ l ∨ s.is (F.LSN_LINK_CFG_PREEMPT_EN (l / 8) (l % 8)) = true) → (256 ≤ l → ∀ k ∈ (s.link l).verifiedAt, k + 10 * tickMs ≤ s.keep.elapsed) → 
      ∃ t, exec (.preemptVerify l ok) s = .next t ∧
        (t.is (preemptActive l) = ok) ∧
        (t.out = s.out ++ [.verify l]) ∧
        ((t.link l).verifiedAt = some s.keep.elapsed) ∧
        ((t.link l).downSince = (s.link l).downSince) ∧
        (t.units.pauses = s.units.pauses) ∧
        (t.units.endpoints = s.units.endpoints) ∧
        (∀ a, ¬ (a = (preemptActive l).addr) → t.rd a = s.rd a) ∧
        t.force = s.force ∧
        t.flash = s.flash) ∧
  (∀ (s : State) (l : Nat) (ok : Bool),
      (s.linkIsUp l = false ∨ s.is (preemptActive l) = true ∨ (l < 256 ∧ s.is (F.LSN_LINK_CFG_PREEMPT_EN (l / 8) (l % 8)) = false) ∨ (256 ≤ l ∧ ∃ k, (s.link l).verifiedAt = some k ∧ s.keep.elapsed < k + 10 * tickMs)) → exec (.preemptVerify l ok) s = .next s) ∧
  (∀ (s : State) (l : Nat) (mid : Bool),
      (s.linkIsUp l = true) → 
      ∃ t, exec (.linkDown l mid) s = .next t ∧
        (t.get (linkState l) = 3) ∧
        (t.is (preemptActive l) = false) ∧
        (t.is (linkF l F.LSN_LINK_STATUS_LINK_DOWN_EVENT F.RNG_STATUS_LINK_DOWN_EVENT) = true) ∧
        (l < 256 → (t.get (F.LSN_PORT_STATUS_LINK_UP (l / 8))).testBit (l % 8) = false) ∧
        (t.get (linkF l F.LSN_LINK_TX_ABORTED_C F.RNG_TX_ABORTED_C) = (s.get (linkF l F.LSN_LINK_TX_ABORTED_C F.RNG_TX_ABORTED_C) + b2n mid) % 2 ^ 48) ∧
        ((t.link l).downSince = s.keep.elapsed) ∧
        (t.out = s.out) ∧
        (∀ a, ¬ (inLink l a ∨ inNotify a ∨ (l < 256 ∧ a = (F.LSN_PORT_STATUS_LINK_UP (l / 8)).addr)) → t.rd a = s.rd a) ∧
        t.force = s.force ∧
        t.flash = s.flash) ∧
  (∀ (s : State) (l : Nat) (mid : Bool),
      (s.linkIsUp l = false) → exec (.linkDown l mid) s = .next s) ∧
  (∀ (s : State) (l : Nat),
      (l < 256) → (s.linkIsUp l = false) → (s.linkMade l = true) → (s.linkEnabled l = true) → (s.up = true) → 
      ∃ t, exec (.linkUp l) s = .next t ∧
        (t.linkIsUp l = true) ∧
        ((t.get (F.LSN_PORT_STATUS_LINK_UP (l / 8))).testBit (l % 8) = true) ∧
        (t.units = s.units) ∧
        (∀ a, ¬ (a = (linkState l).addr ∨ a = (F.LSN_PORT_STATUS_LINK_UP (l / 8)).addr) → t.rd a = s.rd a) ∧
        t.force = s.force ∧
        t.flash = s.flash) ∧
  (∀ (s : State) (l : Nat),
      (256 ≤ l) → (l < 264) → (s.linkIsUp l = false) → (s.linkMade l = true) → (s.linkEnabled l = true) → (s.up = true) → 
      ∃ t, exec (.linkUp l) s = .next t ∧
        (t.linkIsUp l = true) ∧
        (s.exchanges (l - 256) = true → (t.exch (l - 256)).active = true ∧ t.get (F.SUP_PEER_W0_EXCHANGED (l - 256)) = 0) ∧
        (∀ a, ¬ (0x00200000 ≤ a) → t.rd a = s.rd a) ∧
        t.flash = s.flash) ∧
  (∀ (s : State) (l : Nat),
      (264 ≤ l ∨ s.linkIsUp l = true ∨ s.linkMade l = false ∨ s.linkEnabled l = false ∨ s.up = false) → exec (.linkUp l) s = .next s) ∧
  (∀ (s : State) (p w : Nat) (v : Word),
      (s.hasRight w (F.LSN_PORT_CFG_ENABLE p).addr = true) → (p < s.part.listenerPorts) → (s.is (F.LSN_PORT_CFG_ENABLE p) = true → getBits v 1 0 = s.get (F.LSN_PORT_CFG_SPLIT p) ∧ getBits v 3 3 = s.get (F.LSN_PORT_CFG_REACH p)) → 
      ∃ t, exec (.portEnable p w v) s = .next t ∧
        (t.get (F.LSN_PORT_CFG_REACH p) = getBits v 3 3) ∧
        (t.get (F.LSN_PORT_CFG_SPLIT p) = getBits v 1 0) ∧
        (t.get (F.LSN_PORT_CFG_ENABLE p) = getBits v 2 2) ∧
        (getBits v 2 2 = 0 → ∀ j ∈ List.range 8, t.get (linkState (8 * p + j)) = 0) ∧
        ((getBits v 2 2 = 1 ∧ s.isolated 4 p = false) → (List.range (2 ^ getBits v 1 0)).all (fun j => !s.linkEnabled (8 * p + j) || t.get (linkState (8 * p + j)) = max 1 (s.get (linkState (8 * p + j)))) = true) ∧
        (∀ a, ¬ (inPort p a ∨ inNotify a ∨ a = F.IMG_VOLATILE_WRITES_COUNT.addr) → t.rd a = s.rd a) ∧
        t.force = s.force ∧
        t.flash = s.flash) ∧
  (∀ (s : State) (p w : Nat) (v : Word),
      (s.hasRight w (F.LSN_PORT_CFG_ENABLE p).addr = true) → (p < s.part.listenerPorts) → (s.is (F.LSN_PORT_CFG_ENABLE p) = true) → (getBits v 1 0 ≠ s.get (F.LSN_PORT_CFG_SPLIT p) ∨ getBits v 3 3 ≠ s.get (F.LSN_PORT_CFG_REACH p)) → 
      ∃ t, exec (.portEnable p w v) s = .next t ∧
        (t.get (F.LSN_PORT_STATUS_WRITE_LOST p) = 1) ∧
        (t.get (F.LSN_PORT_STATUS_LINK_UP p) = s.get (F.LSN_PORT_STATUS_LINK_UP p)) ∧
        (∀ a, ¬ (a = (F.LSN_PORT_STATUS_WRITE_LOST p).addr ∨ a = F.IMG_VOLATILE_WRITES_COUNT.addr ∨ inNotify a) → t.rd a = s.rd a) ∧
        t.force = s.force ∧
        t.flash = s.flash)

/-- A COMMIT of an endpoint by its owner or T0 with legal words becomes pending; with a fault it leaves its RESULT alone, and while one is pending it sets WRITE_LOST alone. At its application the six words are in force, COMMIT and RESULT are 0 and the acknowledged numbers start again. An acknowledgement that fails its check counts in RX_ACK_AUTH_FAIL alone, a stale one does nothing, an accepted one frees what it covers and marks the endpoint live. The oldest retained frame whose RTO has passed is due to be sent again, or is diverted when its RETRIES are spent; RETENTION_US without an acknowledgement makes the endpoint SILENT and diverts what it retains. A notice names the first run that has grown, if the key is usable. A link dead for LINK_HOLD_US holds no frame for it. Registers below the store stay. -/
def Obligations.EndpointsAndRetention : Prop :=
  (∀ (s : State) (p e w : Nat) (v : Word),
      (getBits v 0 0 = 1) → (p < 40) → (e < 256) → ((p < 32 → p < s.part.listenerPorts)) → (s.is (epF p e F.LSN_ENDPOINT_CTRL_COMMIT) = false) → (s.endpointResult p e w = 0) → (s.get F.IMG_VOLATILE_WRITES_COUNT + 1 < 2 ^ 47) → 
      ∃ t, exec (.endpointCommit p e w v) s = .next t ∧
        (t.is (epF p e F.LSN_ENDPOINT_CTRL_COMMIT) = true) ∧
        (t.units = s.units) ∧
        (∀ a, ¬ (a = (epF p e F.LSN_ENDPOINT_CTRL_COMMIT).addr ∨ a = F.IMG_VOLATILE_WRITES_COUNT.addr) → t.rd a = s.rd a) ∧
        t.force = s.force ∧
        t.flash = s.flash) ∧
  (∀ (s : State) (p e w : Nat) (v : Word),
      (getBits v 0 0 = 1) → (p < 40) → (e < 256) → ((p < 32 → p < s.part.listenerPorts)) → (s.is (epF p e F.LSN_ENDPOINT_CTRL_COMMIT) = false) → (s.endpointResult p e w ≠ 0) → (s.get F.IMG_VOLATILE_WRITES_COUNT + 1 < 2 ^ 47) → 
      ∃ t, exec (.endpointCommit p e w v) s = .next t ∧
        (t.get (epF p e F.LSN_ENDPOINT_STATUS_RESULT) = s.endpointResult p e w) ∧
        (t.units = s.units) ∧
        (∀ a, ¬ (a = (epF p e F.LSN_ENDPOINT_STATUS_RESULT).addr ∨ a = F.IMG_VOLATILE_WRITES_COUNT.addr) → t.rd a = s.rd a) ∧
        t.force = s.force ∧
        t.flash = s.flash) ∧
  (∀ (s : State) (p e w : Nat) (v : Word),
      (getBits v 0 0 = 1) → (p < 40) → (e < 256) → ((p < 32 → p < s.part.listenerPorts)) → (s.is (epF p e F.LSN_ENDPOINT_CTRL_COMMIT) = true) → (∀ c ∈ s.pending, c ≠ .endpointCommitApply p e) → (s.get F.IMG_VOLATILE_WRITES_COUNT + 1 < 2 ^ 47) → 
      ∃ t, exec (.endpointCommit p e w v) s = .next t ∧
        (t.get (epF p e F.LSN_ENDPOINT_STATUS_WRITE_LOST) = 1) ∧
        (t.units = s.units) ∧
        (∀ a, ¬ (a = (epF p e F.LSN_ENDPOINT_STATUS_WRITE_LOST).addr ∨ a = F.IMG_VOLATILE_WRITES_COUNT.addr) → t.rd a = s.rd a) ∧
        t.force = s.force ∧
        t.flash = s.flash) ∧
  (∀ (s : State) (p e w : Nat) (v : Word),
      (getBits v 0 0 = 0 ∨ 40 ≤ p ∨ 256 ≤ e ∨ (p < 32 ∧ s.part.listenerPorts ≤ p)) → (s.get F.IMG_VOLATILE_WRITES_COUNT + 1 < 2 ^ 47) → 
      ∃ t, exec (.endpointCommit p e w v) s = .next t ∧
        (t.units = s.units) ∧
        (t.keep = s.keep) ∧
        (t.force = s.force) ∧
        (t.out = s.out) ∧
        (∀ a, ¬ (a = F.IMG_VOLATILE_WRITES_COUNT.addr) → t.rd a = s.rd a) ∧
        t.flash = s.flash) ∧
  (∀ (s : State) (p e : Nat),
      (p < 40) → (e < 256) → (s.is (epF p e F.LSN_ENDPOINT_CTRL_COMMIT) = true) → (s.win.marks = []) → 
      ∃ t, exec (.endpointCommitApply p e) s = .next t ∧
        (t.is (epF p e F.LSN_ENDPOINT_CTRL_COMMIT) = false) ∧
        (t.get (epF p e F.LSN_ENDPOINT_STATUS_RESULT) = 0) ∧
        (∀ a ∈ endpointRegs p e, t.rdForce a = s.rd a) ∧
        ((t.endpoint p e).cums = []) ∧
        ((t.endpoint p e).retained = (s.endpoint p e).retained) ∧
        (s.is (epF p e F.LSN_ENDPOINT_W0_RELIABLE) = false → t.get (epF p e F.LSN_ENDPOINT_STATUS_STATE) = 0) ∧
        (∀ a, a ∉ endpointRegs p e → t.rdForce a = s.rdForce a) ∧
        (∀ a, ¬ (a = (epF p e F.LSN_ENDPOINT_CTRL_COMMIT).addr ∨ a = (epF p e F.LSN_ENDPOINT_STATUS_RESULT).addr) → t.rd a = s.rd a) ∧
        t.flash = s.flash) ∧
  (∀ (s : State) (p e : Nat),
      (40 ≤ p ∨ 256 ≤ e ∨ s.is (epF p e F.LSN_ENDPOINT_CTRL_COMMIT) = false ∨ s.win.marks.contains (4, p * 256 + e) = true) → exec (.endpointCommitApply p e) s = .next s) ∧
  (∀ (s : State) (l : Nat) (x : NetAddr) (m : List Byte),
      (s.ackTarget l x m = none) → 
      ∃ t, exec (.ackReceived l x m) s = .next t ∧
        (t.get ((linkF l F.LSN_LINK_RX_ACK_AUTH_FAIL_C F.RNG_RX_ACK_AUTH_FAIL_C)) = (s.get ((linkF l F.LSN_LINK_RX_ACK_AUTH_FAIL_C F.RNG_RX_ACK_AUTH_FAIL_C)) + 1) % 2 ^ 48) ∧
        (t.units.endpoints = s.units.endpoints) ∧
        (t.out = s.out) ∧
        (∀ a, ¬ (a = (linkF l F.LSN_LINK_RX_ACK_AUTH_FAIL_C F.RNG_RX_ACK_AUTH_FAIL_C).addr ∨ inNotify a) → t.rd a = s.rd a) ∧
        t.force = s.force ∧
        t.flash = s.flash) ∧
  (∀ (s : State) (l e : Nat) (x : NetAddr) (b : List Byte) (k : List Byte),
      (l < 264) → (b.length = 40) → (ackFormat (b ++ zeros 16) = true) → (e < 256) → (∀ n ∈ List.range e, s.live (epF (portOf l) n F.LSN_ENDPOINT_W0_VALID) = 0) → (s.live (epF (portOf l) e F.LSN_ENDPOINT_W0_VALID) = 1) → (s.live (epF (portOf l) e F.LSN_ENDPOINT_W0_RELIABLE) = 1) → (s.fromEndpoint l e x = true) → (s.ackKey (portOf l) e = some k) → (((s.endpoint (portOf l) e).chains ++ (s.endpoint (portOf l) e).replayed).any (fun c => c.stream = num b 4 2 && c.chain = num b 24 4) = true) → ((s.endpoint (portOf l) e).cums = []) → 
      ∃ t, exec (.ackReceived l x (b ++ block (gcmTag k (slice b 28 12) (b.take 28) []))) s = .next t ∧
        (t.get ((linkF l F.LSN_LINK_RX_ACKS_C F.RNG_RX_ACKS_C)) = (s.get ((linkF l F.LSN_LINK_RX_ACKS_C F.RNG_RX_ACKS_C)) + 1) % 2 ^ 48) ∧
        ((t.endpoint (portOf l) e).retained.all (fun r => !(r.item.stream = num b 4 2 && r.item.chain = num b 24 4 && ackCovers b r.item.seq)) = true) ∧
        ((t.endpoint (portOf l) e).cums = [(num b 4 2, num b 24 4, num b 8 8)]) ∧
        ((t.endpoint (portOf l) e).lastAck = s.keep.elapsed) ∧
        (∀ a, ¬ (inStoreUp a) → t.rd a = s.rd a) ∧
        t.flash = s.flash) ∧
  (∀ (s : State) (p e : Nat) (r : Retained),
      ((s.endpoint p e).retained.find? (fun r => r.due.isNone && decide (r.sentAt + s.live (epF p e F.LSN_ENDPOINT_W4_RTO_US) * tickUs ≤ s.keep.elapsed)) = some r) → ((s.acksComing p e).any (fun m => ackTakes m r) = false) → (r.sends ≤ s.live (epF p e F.LSN_ENDPOINT_W4_RETRIES)) → 
      ∃ t, exec (.retransmitTimeout p e) s = .next t ∧
        ((t.endpoint p e).retained = (s.endpoint p e).retained.map (fun y => if y = r then { r with due := some s.keep.elapsed } else y)) ∧
        (t.regs = s.regs) ∧
        (t.out = s.out) ∧
        t.force = s.force ∧
        t.flash = s.flash) ∧
  (∀ (s : State) (p e : Nat) (r : Retained),
      ((s.endpoint p e).retained.find? (fun r => r.due.isNone && decide (r.sentAt + s.live (epF p e F.LSN_ENDPOINT_W4_RTO_US) * tickUs ≤ s.keep.elapsed)) = some r) → ((s.acksComing p e).any (fun m => ackTakes m r) = false) → (s.live (epF p e F.LSN_ENDPOINT_W4_RETRIES) < r.sends) → 
      ∃ t, exec (.retransmitTimeout p e) s = .next t ∧
        ((t.endpoint p e).retained = (s.endpoint p e).retained.filter (fun x => x ≠ r)) ∧
        (∀ a, ¬ (inStoreUp a) → t.rd a = s.rd a) ∧
        t.flash = s.flash) ∧
  (∀ (s : State) (p e : Nat),
      (∀ r ∈ (s.endpoint p e).retained, r.due.isSome = true ∨ s.keep.elapsed < r.sentAt + s.live (epF p e F.LSN_ENDPOINT_W4_RTO_US) * tickUs ∨ (s.acksComing p e).any (fun m => ackTakes m r) = true) → exec (.retransmitTimeout p e) s = .next s) ∧
  (∀ (s : State) (p e : Nat),
      ((s.endpoint p e).retained ≠ []) → (s.live (epF p e F.LSN_ENDPOINT_W0_RELIABLE) = 1) → (s.get (epF p e F.LSN_ENDPOINT_STATUS_STATE) ≠ 2) → (s.acksComing p e = []) → (max ((s.endpoint p e).retained.foldl (fun a r => min a r.firstAt) s.keep.elapsed) (s.endpoint p e).lastAck + s.live (epF p e F.LSN_ENDPOINT_W4_RETENTION_US) * tickUs ≤ s.keep.elapsed) → 
      ∃ t, exec (.retentionExpiry p e) s = .next t ∧
        (t.get (epF p e F.LSN_ENDPOINT_STATUS_STATE) = 2) ∧
        ((t.endpoint p e).retained = []) ∧
        (∀ a, ¬ (inStoreUp a) → t.rd a = s.rd a) ∧
        t.flash = s.flash) ∧
  (∀ (s : State) (p e : Nat),
      ((s.endpoint p e).retained = [] ∨ s.get (epF p e F.LSN_ENDPOINT_STATUS_STATE) = 2 ∨ s.live (epF p e F.LSN_ENDPOINT_W0_RELIABLE) = 0 ∨ s.acksComing p e ≠ []) → exec (.retentionExpiry p e) s = .next s) ∧
  (∀ (s : State) (p e : Nat),
      ((s.endpoint p e).runs.all (fun r => decide (r.count ≤ r.noticed)) = true ∨ s.ackKey p e = none) → exec (.spillNoticeSend p e) s = .next s) ∧
  (∀ (s : State) (p e : Nat) (r : SpillRun) (k : List Byte),
      ((s.endpoint p e).runs.find? (fun r => decide (r.noticed < r.count)) = some r) → (s.ackKey p e = some k) → (r.noticedAt = none) → 
      ∃ t, exec (.spillNoticeSend p e) s = .next t ∧
        ((t.endpoint p e).runs = (s.endpoint p e).runs.map (fun y => if y = r then { r with noticed := r.count, noticedAt := some s.keep.elapsed } else y)) ∧
        (∀ a, ¬ (inOutputBlocks a) → t.rd a = s.rd a) ∧
        t.flash = s.flash) ∧
  (∀ (s : State) (l : Nat),
      (l < 264) → (s.linkDead l = true) → 
      ∃ t, exec (.linkHoldExpiry l) s = .next t ∧
        (∀ e ∈ List.range 256, (t.endpoint (portOf l) e).retained.all (fun r => r.link ≠ l) = true) ∧
        (∀ a, ¬ (inStoreUp a) → t.rd a = s.rd a) ∧
        t.flash = s.flash) ∧
  (∀ (s : State) (l : Nat),
      (264 ≤ l ∨ s.linkDead l = false) → exec (.linkHoldExpiry l) s = .next s)

/-- FRAME_TRANSMIT serves the highest priority that offers something: a resend puts the retained frame on the wire again and counts it, a queued item goes on the wire and leaves its queue, and a frame its link cannot take leaves the queue without being sent; with nothing to offer it does nothing. At its launch time a head that wins its link is transmitted, and one that a higher priority passes is counted late once. A received frame on a link that is up counts in the first check of R353 it fails and does nothing else; one that passes is counted with its octets before it is sorted. A link that is down receives nothing. Registers below the store stay. -/
def Obligations.FramesOnLinks : Prop :=
  (∀ (s : State) (l p : Nat) (c : Bool) (i : Item) (rest : List (Item × Nat)),
      (l < 264) → (s.pick l = some (p, .send i rest)) → (i.kind = .sealed → 256 ≤ i.endpoint ∨ s.epAt (portOf l) i.endpoint F.LSN_ENDPOINT_W0_RELIABLE ≠ 1) → (i.faulty = false) → ((s.queue (queueOf l p)).late = []) → 
      ∃ t, exec (.frameTransmit l c) s = .next t ∧
        ((t.queue (queueOf l p)).items = rest) ∧
        (t.out = s.out ++ [if l < 256 then .linkFrame l p (s.frameOf l p i i.oflags i.attempt) else .ringFrame (l - 256) p (s.frameOf l p i i.oflags i.attempt)]) ∧
        (t.get ((linkF l F.LSN_LINK_TX_FRAMES_C F.RNG_TX_FRAMES_C)) = (s.get ((linkF l F.LSN_LINK_TX_FRAMES_C F.RNG_TX_FRAMES_C)) + 1) % 2 ^ 48) ∧
        (t.get ((linkF l F.LSN_LINK_TX_OCTETS_C F.RNG_TX_OCTETS_C)) = (s.get ((linkF l F.LSN_LINK_TX_OCTETS_C F.RNG_TX_OCTETS_C)) + ((s.frameOf l p i i.oflags i.attempt).length + 4)) % 2 ^ 64) ∧
        (∀ a, ¬ (inLink l a ∨ inQueueBlocks a) → t.rd a = s.rd a) ∧
        t.flash = s.flash) ∧
  (∀ (s : State) (l p : Nat) (c : Bool) (i : Item) (rest : List (Item × Nat)),
      (l < 264) → (s.pick l = some (p, .send i rest)) → (i.kind = .sealed) → (i.endpoint < 256) → (s.epAt (portOf l) i.endpoint F.LSN_ENDPOINT_W0_RELIABLE = 1) → (s.retainedOn (portOf l) = []) → (i.data.length ≤ retention (portOf l)) → (i.faulty = false) → ((s.queue (queueOf l p)).late = []) → 
      ∃ t, exec (.frameTransmit l c) s = .next t ∧
        ((t.queue (queueOf l p)).items = rest) ∧
        (t.out = s.out ++ [if l < 256 then .linkFrame l p (s.frameOf l p i i.oflags i.attempt) else .ringFrame (l - 256) p (s.frameOf l p i i.oflags i.attempt)]) ∧
        (t.get ((linkF l F.LSN_LINK_TX_FRAMES_C F.RNG_TX_FRAMES_C)) = (s.get ((linkF l F.LSN_LINK_TX_FRAMES_C F.RNG_TX_FRAMES_C)) + 1) % 2 ^ 48) ∧
        ((t.endpoint (portOf l) i.endpoint).retained.any (fun r => r.item = i && r.link = l && r.prio = p && r.sentAt = s.keep.elapsed) = true) ∧
        (∀ a, ¬ (inStoreUp a) → t.rd a = s.rd a) ∧
        t.flash = s.flash) ∧
  (∀ (s : State) (l p e : Nat) (c : Bool) (r : Retained),
      (l < 264) → (s.pick l = some (p, .resend e r)) → 
      ∃ t, exec (.frameTransmit l c) s = .next t ∧
        (t.out = s.out ++ [if l < 256 then .linkFrame l p (s.frameOf l p r.item (r.item.oflags ||| 1) r.sends) else .ringFrame (l - 256) p (s.frameOf l p r.item (r.item.oflags ||| 1) r.sends)]) ∧
        (t.get ((linkF l F.LSN_LINK_TX_FRAMES_C F.RNG_TX_FRAMES_C)) = (s.get ((linkF l F.LSN_LINK_TX_FRAMES_C F.RNG_TX_FRAMES_C)) + 1) % 2 ^ 48) ∧
        (t.get ((linkF l F.LSN_LINK_RETRANSMITS_C F.RNG_RETRANSMITS_C)) = (s.get ((linkF l F.LSN_LINK_RETRANSMITS_C F.RNG_RETRANSMITS_C)) + 1) % 2 ^ 48) ∧
        ((t.endpoint (portOf l) e).retained.length = (s.endpoint (portOf l) e).retained.length) ∧
        (∀ a, ¬ (inLink l a ∨ inNotify a) → t.rd a = s.rd a) ∧
        t.force = s.force ∧
        t.flash = s.flash) ∧
  (∀ (s : State) (l p : Nat) (c : Bool) (y : Diverted) (i : Item) (rest : List (Item × Nat)),
      (l < 264) → (s.pick l = some (p, .divert y i rest)) → 
      ∃ t, exec (.frameTransmit l c) s = .next t ∧
        ((t.queue (queueOf l p)).items.length ≤ rest.length) ∧
        (t.out = s.out) ∧
        (¬ i.faulty = true → t.get (y.counter l) = (s.get (y.counter l) + 1) % 2 ^ 48) ∧
        (∀ a, ¬ (inStoreUp a) → t.rd a = s.rd a) ∧
        t.flash = s.flash) ∧
  (∀ (s : State) (l : Nat) (c : Bool),
      (s.pick l = none) → exec (.frameTransmit l c) s = .next s) ∧
  (∀ (s : State) (l p : Nat) (t0 : Nat) (i : Item) (rest : List (Item × Nat)),
      (l < 264) → (s.headOf l p = some (i, rest)) → (s.launchOf l i = some t0) → (0 ≤ dif s.now t0) → (s.pending = []) → (256 ≤ l ∨ s.fenced = false) → ((List.range 8).any (fun h => decide (p < h) && (s.pickAt l h true).isSome) = false) → (s.pickAt l p = some (.send i rest)) → (i.kind = .sealed → 256 ≤ i.endpoint ∨ s.epAt (portOf l) i.endpoint F.LSN_ENDPOINT_W0_RELIABLE ≠ 1) → (i.faulty = false) → ((s.queue (queueOf l p)).late = []) → 
      ∃ t, exec (.launchTimeReached l p) s = .next t ∧
        ((t.queue (queueOf l p)).items = rest) ∧
        (t.out = s.out ++ [if l < 256 then .linkFrame l p (s.frameOf l p i i.oflags i.attempt) else .ringFrame (l - 256) p (s.frameOf l p i i.oflags i.attempt)]) ∧
        (t.get ((linkF l F.LSN_LINK_TX_FRAMES_C F.RNG_TX_FRAMES_C)) = (s.get ((linkF l F.LSN_LINK_TX_FRAMES_C F.RNG_TX_FRAMES_C)) + 1) % 2 ^ 48) ∧
        (∀ a, ¬ (inLink l a ∨ inQueueBlocks a) → t.rd a = s.rd a) ∧
        t.flash = s.flash) ∧
  (∀ (s : State) (l p : Nat) (t0 : Nat) (i : Item) (rest : List (Item × Nat)),
      (l < 264) → (s.headOf l p = some (i, rest)) → (s.launchOf l i = some t0) → (0 ≤ dif s.now t0) → (s.pending = []) → (256 ≤ l ∨ s.fenced = false) → ((List.range 8).any (fun h => decide (p < h) && (s.pickAt l h true).isSome) = true) → 
      ∃ t, exec (.launchTimeReached l p) s = .next t ∧
        (t.get ((linkF l F.LSN_LINK_LAUNCH_LATE_C F.RNG_LAUNCH_LATE_C)) = (s.get ((linkF l F.LSN_LINK_LAUNCH_LATE_C F.RNG_LAUNCH_LATE_C)) + 1) % 2 ^ 48) ∧
        (t.out = s.out) ∧
        ((t.queue (queueOf l p)).items.head?.map (·.1) = some { i with late := true }) ∧
        ((t.queue (queueOf l p)).items.drop 1 = rest) ∧
        (∀ a, ¬ (inLink l a ∨ inNotify a) → t.rd a = s.rd a) ∧
        t.force = s.force ∧
        t.flash = s.flash) ∧
  (∀ (s : State) (l p : Nat),
      (s.pending = []) → (s.headOf l p = none ∨ (∀ y ∈ s.headOf l p, ∀ u ∈ s.launchOf l y.1, dif s.now u < 0) ∨ (l < 256 ∧ s.fenced = true) ∨ ((List.range 8).any (fun h => decide (p < h) && (s.pickAt l h true).isSome) = false ∧ s.pickAt l p = none)) → exec (.launchTimeReached l p) s = .next s) ∧
  (∀ (s : State) (l p : Nat),
      (s.pending ≠ []) → 
      ∃ t, exec (.launchTimeReached l p) s = .next t ∧
        (t = { s with win := { s.win with starts := s.win.starts ++ [(l, p)] } }) ∧
        t.flash = s.flash) ∧
  (∀ (s : State) (l : Nat) (f : List Byte) (x : RxStatus),
      (s.linkIsUp l = true) → (x.corrected = 0) → (x.reassembled ≠ some true) → (l < 256 ∨ frameType f ≠ 0x88F7) → (x.reassembled = some false) → 
      ∃ t, exec (.frameReceived l f x) s = .next t ∧
        (t.get ((linkF l F.LSN_LINK_RX_REASSEMBLY_ERRORS_C F.RNG_RX_REASSEMBLY_ERRORS_C)) = (s.get ((linkF l F.LSN_LINK_RX_REASSEMBLY_ERRORS_C F.RNG_RX_REASSEMBLY_ERRORS_C)) + 1) % 2 ^ 48) ∧
        (t.out = s.out) ∧
        (t.keep = s.keep) ∧
        (∀ a, ¬ (a = (linkF l F.LSN_LINK_RX_REASSEMBLY_ERRORS_C F.RNG_RX_REASSEMBLY_ERRORS_C).addr ∨ inNotify a) → t.rd a = s.rd a) ∧
        t.force = s.force ∧
        t.flash = s.flash) ∧
  (∀ (s : State) (l : Nat) (f : List Byte) (x : RxStatus),
      (s.linkIsUp l = true) → (x.corrected = 0) → (x.reassembled ≠ some true) → (x.reassembled ≠ some false) → (256 ≤ l) → (l < 264) → (frameType f = 0x88F7) → (64 ≤ f.length + 4) → (x.fcsOk = false) → 
      ∃ t, exec (.frameReceived l f x) s = .next t ∧
        (t.get (F.RNG_RX_FCS_ERRORS_C (l - 256)) = (s.get (F.RNG_RX_FCS_ERRORS_C (l - 256)) + 1) % 2 ^ 48) ∧
        (t.get (F.TIM_MSG_DISCARDED_C) = (s.get (F.TIM_MSG_DISCARDED_C) + 1) % 2 ^ 48) ∧
        (t.get (F.TIM_PORT_DISCARDED_C (l - 256)) = (s.get (F.TIM_PORT_DISCARDED_C (l - 256)) + 1) % 2 ^ 48) ∧
        (t.out = s.out) ∧
        (t.keep = s.keep) ∧
        (∀ a, ¬ (a = (F.RNG_RX_FCS_ERRORS_C (l - 256)).addr ∨ a = F.TIM_MSG_DISCARDED_C.addr ∨ a = (F.TIM_PORT_DISCARDED_C (l - 256)).addr ∨ inNotify a) → t.rd a = s.rd a) ∧
        t.force = s.force ∧
        t.flash = s.flash) ∧
  (∀ (s : State) (l : Nat) (f : List Byte) (x : RxStatus),
      (s.linkIsUp l = true) → (x.corrected = 0) → (x.reassembled ≠ some true) → (l < 256 ∨ frameType f ≠ 0x88F7) → (x.reassembled ≠ some false) → (f.length + 4 < 64) → 
      ∃ t, exec (.frameReceived l f x) s = .next t ∧
        (t.get ((linkF l F.LSN_LINK_RX_RUNTS_C F.RNG_RX_RUNTS_C)) = (s.get ((linkF l F.LSN_LINK_RX_RUNTS_C F.RNG_RX_RUNTS_C)) + 1) % 2 ^ 48) ∧
        (t.out = s.out) ∧
        (t.keep = s.keep) ∧
        (∀ a, ¬ (a = (linkF l F.LSN_LINK_RX_RUNTS_C F.RNG_RX_RUNTS_C).addr ∨ inNotify a) → t.rd a = s.rd a) ∧
        t.force = s.force ∧
        t.flash = s.flash) ∧
  (∀ (s : State) (l : Nat) (f : List Byte) (x : RxStatus),
      (s.linkIsUp l = true) → (x.corrected = 0) → (x.reassembled ≠ some true) → (l < 256 ∨ frameType f ≠ 0x88F7) → (x.reassembled ≠ some false) → (64 ≤ f.length + 4) → (x.fcsOk = false) → 
      ∃ t, exec (.frameReceived l f x) s = .next t ∧
        (t.get ((linkF l F.LSN_LINK_RX_FCS_ERRORS_C F.RNG_RX_FCS_ERRORS_C)) = (s.get ((linkF l F.LSN_LINK_RX_FCS_ERRORS_C F.RNG_RX_FCS_ERRORS_C)) + 1) % 2 ^ 48) ∧
        (t.out = s.out) ∧
        (t.keep = s.keep) ∧
        (∀ a, ¬ (a = (linkF l F.LSN_LINK_RX_FCS_ERRORS_C F.RNG_RX_FCS_ERRORS_C).addr ∨ inNotify a) → t.rd a = s.rd a) ∧
        t.force = s.force ∧
        t.flash = s.flash) ∧
  (∀ (s : State) (l : Nat) (f : List Byte) (x : RxStatus),
      (s.linkIsUp l = true) → (x.corrected = 0) → (x.reassembled ≠ some true) → (l < 256 ∨ frameType f ≠ 0x88F7) → (x.reassembled ≠ some false) → (x.fcsOk = true) → (9320 < f.length + 4) → 
      ∃ t, exec (.frameReceived l f x) s = .next t ∧
        (t.get ((linkF l F.LSN_LINK_RX_OVERSIZE_C F.RNG_RX_OVERSIZE_C)) = (s.get ((linkF l F.LSN_LINK_RX_OVERSIZE_C F.RNG_RX_OVERSIZE_C)) + 1) % 2 ^ 48) ∧
        (t.out = s.out) ∧
        (t.keep = s.keep) ∧
        (∀ a, ¬ (a = (linkF l F.LSN_LINK_RX_OVERSIZE_C F.RNG_RX_OVERSIZE_C).addr ∨ inNotify a) → t.rd a = s.rd a) ∧
        t.force = s.force ∧
        t.flash = s.flash) ∧
  (∀ (s : State) (l : Nat) (f : List Byte) (x : RxStatus),
      (s.linkIsUp l = true) → (x.corrected = 0) → (x.reassembled ≠ some true) → (l < 256 ∨ frameType f ≠ 0x88F7) → (x.reassembled ≠ some false) → (64 ≤ f.length + 4) → (x.fcsOk = true) → (f.length + 4 ≤ 9320) → (x.fecOk = false) → 
      ∃ t, exec (.frameReceived l f x) s = .next t ∧
        (t.get ((linkF l F.LSN_LINK_FEC_UNCORRECTABLE_C F.RNG_FEC_UNCORRECTABLE_C)) = (s.get ((linkF l F.LSN_LINK_FEC_UNCORRECTABLE_C F.RNG_FEC_UNCORRECTABLE_C)) + 1) % 2 ^ 48) ∧
        (t.out = s.out) ∧
        (t.keep = s.keep) ∧
        (∀ a, ¬ (a = (linkF l F.LSN_LINK_FEC_UNCORRECTABLE_C F.RNG_FEC_UNCORRECTABLE_C).addr ∨ inNotify a) → t.rd a = s.rd a) ∧
        t.force = s.force ∧
        t.flash = s.flash) ∧
  (∀ (s : State) (l : Nat) (f : List Byte) (x : RxStatus),
      (s.linkIsUp l = true) → (x.corrected = 0) → (x.reassembled ≠ some true) → (l < 256 ∨ frameType f ≠ 0x88F7) → (x.reassembled ≠ some false) → (64 ≤ f.length + 4) → (x.fcsOk = true) → (f.length + 4 ≤ 9320) → (x.fecOk = true) → (s.addressed l f = false) → 
      ∃ t, exec (.frameReceived l f x) s = .next t ∧
        (t.get ((linkF l F.LSN_LINK_RX_NOT_ADDRESSED_C F.RNG_RX_NOT_ADDRESSED_C)) = (s.get ((linkF l F.LSN_LINK_RX_NOT_ADDRESSED_C F.RNG_RX_NOT_ADDRESSED_C)) + 1) % 2 ^ 48) ∧
        (t.out = s.out) ∧
        (t.keep = s.keep) ∧
        (∀ a, ¬ (a = (linkF l F.LSN_LINK_RX_NOT_ADDRESSED_C F.RNG_RX_NOT_ADDRESSED_C).addr ∨ inNotify a) → t.rd a = s.rd a) ∧
        t.force = s.force ∧
        t.flash = s.flash) ∧
  (∀ (s : State) (l : Nat) (f : List Byte) (x : RxStatus),
      (s.linkIsUp l = true) → (x.corrected = 0) → (x.reassembled ≠ some true) → (x.reassembled ≠ some false) → (64 ≤ f.length + 4) → (x.fcsOk = true) → (f.length + 4 ≤ 9320) → (x.fecOk = true) → (s.addressed l f = true) → (isPfc f = false) → (l < 256) → (ipOf f = none) → 
      ∃ t, exec (.frameReceived l f x) s = .next t ∧
        (t.get ((linkF l F.LSN_LINK_RX_FRAMES_C F.RNG_RX_FRAMES_C)) = (s.get ((linkF l F.LSN_LINK_RX_FRAMES_C F.RNG_RX_FRAMES_C)) + 1) % 2 ^ 48) ∧
        (t.get ((linkF l F.LSN_LINK_RX_OCTETS_C F.RNG_RX_OCTETS_C)) = (s.get ((linkF l F.LSN_LINK_RX_OCTETS_C F.RNG_RX_OCTETS_C)) + (f.length + 4)) % 2 ^ 64) ∧
        (t.get ((linkF l F.LSN_LINK_RX_UNKNOWN_C F.RNG_RX_UNKNOWN_C)) = (s.get ((linkF l F.LSN_LINK_RX_UNKNOWN_C F.RNG_RX_UNKNOWN_C)) + 1) % 2 ^ 48) ∧
        (t.out = s.out) ∧
        (t.keep = s.keep) ∧
        (∀ a, ¬ (inLink l a ∨ inNotify a) → t.rd a = s.rd a) ∧
        t.force = s.force ∧
        t.flash = s.flash) ∧
  (∀ (s : State) (l : Nat) (f : List Byte) (x : RxStatus),
      (s.linkIsUp l = true) → (x.corrected = 0) → (x.reassembled ≠ some true) → (x.reassembled ≠ some false) → (64 ≤ f.length + 4) → (x.fcsOk = true) → (f.length + 4 ≤ 9320) → (x.fecOk = true) → (s.addressed l f = true) → (isPfc f = true) → 
      ∃ t, exec (.frameReceived l f x) s = .next t ∧
        (t.get ((linkF l F.LSN_LINK_RX_FRAMES_C F.RNG_RX_FRAMES_C)) = (s.get ((linkF l F.LSN_LINK_RX_FRAMES_C F.RNG_RX_FRAMES_C)) + 1) % 2 ^ 48) ∧
        (t.out = s.out ++ [.passed l 0 f]) ∧
        (t.units.endpoints = s.units.endpoints) ∧
        (∀ a, ¬ (inLink l a ∨ inNotify a) → t.rd a = s.rd a) ∧
        t.force = s.force ∧
        t.flash = s.flash) ∧
  (∀ (s : State) (l : Nat) (f : List Byte) (x : RxStatus),
      (s.linkIsUp l = false) → exec (.frameReceived l f x) s = .next s)

/-- A stream whose mark has advanced and that has sent no frame for PROGRESS_IDLE_US seals an empty frame: with an open chain and usable keys it takes the next FRAME_SEQ and is counted as sealed, and otherwise it is counted as dropped. CP_INTERVAL after the last one a periodic checkpoint of an open chain falls due over the frame last sealed, and a second one before its round is coalesced. A round that has statements due takes them all, at most 8,192, advances ROUND, counts itself and lowers PENDING; an empty round is none, and with commands of its window still to come the round closes at the window end (log entry 16). A checkpoint frame is sealed with its statement and proof, counted, and COVERED_SEQ shows what it covers. Registers below the ports stay; an event whose condition does not hold does nothing (log entry 7). -/
def Obligations.SealsAndRounds : Prop :=
  (∀ (s : State) (st : Nat),
      (st < 8192) → ((s.seg st).due = true) → ((s.chain st).ending = false) → ((s.seg st).sentAt + s.get (F.LSN_STREAM_SEG_PROGRESS_IDLE_US st) * tickUs ≤ s.keep.elapsed) → ((s.chain st).isOpen = true) → (s.chainKeysGood (s.chain st) = true) → 
      ∃ t, exec (.progressIdleExpiry st) s = .next t ∧
        ((t.chain st).seq = (s.chain st).seq + 1) ∧
        (t.get (F.LSN_STREAM_FRAME_SEQ_NEXT st) = ((s.chain st).seq + 1) % 2 ^ 64) ∧
        (t.get (F.SIG_STREAM_FRAMES_SEALED_C st) = (s.get (F.SIG_STREAM_FRAMES_SEALED_C st) + 1) % 2 ^ 48) ∧
        ((t.seg st).due = false) ∧
        ((t.seg st).sentAt = s.keep.elapsed) ∧
        ((t.chain st).isOpen = true) ∧
        (∀ a, ¬ (inOutputBlocks a) → t.rd a = s.rd a) ∧
        t.flash = s.flash) ∧
  (∀ (s : State) (st : Nat),
      (st < 8192) → ((s.seg st).due = true) → ((s.chain st).ending = false) → ((s.seg st).sentAt + s.get (F.LSN_STREAM_SEG_PROGRESS_IDLE_US st) * tickUs ≤ s.keep.elapsed) → ((s.chain st).isOpen = false) → 
      ∃ t, exec (.progressIdleExpiry st) s = .next t ∧
        (t.get (F.SIG_STREAM_UNSEALED_DROPPED_C st) = (s.get (F.SIG_STREAM_UNSEALED_DROPPED_C st) + 1) % 2 ^ 48) ∧
        ((t.seg st).due = false) ∧
        (t.units.chains = s.units.chains) ∧
        (t.out = s.out) ∧
        (∀ a, ¬ (a = (F.SIG_STREAM_UNSEALED_DROPPED_C st).addr ∨ inNotify a) → t.rd a = s.rd a) ∧
        t.force = s.force ∧
        t.flash = s.flash) ∧
  (∀ (s : State) (st : Nat),
      (st < 8192) → ((s.seg st).due = true) → ((s.chain st).ending = false) → ((s.seg st).sentAt + s.get (F.LSN_STREAM_SEG_PROGRESS_IDLE_US st) * tickUs ≤ s.keep.elapsed) → ((s.chain st).isOpen = true) → (s.chainKeysGood (s.chain st) = false) → 
      ∃ t, exec (.progressIdleExpiry st) s = .next t ∧
        (t.get (F.SIG_STREAM_UNSEALED_DROPPED_C st) = (s.get (F.SIG_STREAM_UNSEALED_DROPPED_C st) + 1) % 2 ^ 48) ∧
        (t.get (F.SIG_STREAM_STATUS_RESULT st) = 4) ∧
        (t.units.chains = s.units.chains) ∧
        (t.out = s.out) ∧
        (∀ a, ¬ (a = (F.SIG_STREAM_UNSEALED_DROPPED_C st).addr ∨ a = (F.SIG_STREAM_STATUS_RESULT st).addr ∨ inNotify a) → t.rd a = s.rd a) ∧
        t.force = s.force ∧
        t.flash = s.flash) ∧
  (∀ (s : State) (st : Nat),
      ((s.seg st).due = false ∨ (s.chain st).ending = true ∨ s.keep.elapsed < (s.seg st).sentAt + s.get (F.LSN_STREAM_SEG_PROGRESS_IDLE_US st) * tickUs) → exec (.progressIdleExpiry st) s = .next s) ∧
  (∀ (s : State) (st : Nat),
      (st < 8192) → ((s.chain st).isOpen = true) → ((s.chain st).ending = false) → (bit (s.chain st).cfg 62 = false) → (bits (s.chain st).cfg 55 32 ≠ 0) → (dif s.now (s.chain st).lastCp < 0 ∨ (bits (s.chain st).cfg 55 32 * tickMs : Nat) ≤ dif s.now (s.chain st).lastCp) → ((s.chain st).seq ≠ 0) → ((s.chain st).due = none) → 
      ∃ t, exec (.checkpointTimer st) s = .next t ∧
        ((t.chain st).due = some ((s.chain st).seq - 1, s.headStatement st 2)) ∧
        (t.get F.SIG_STATUS_PENDING = min 8192 (s.get F.SIG_STATUS_PENDING + 1) % 16384) ∧
        ((t.chain st).lastCp = s.now) ∧
        (t.out = s.out) ∧
        (∀ a, ¬ (a = F.SIG_STATUS_PENDING.addr) → t.rd a = s.rd a) ∧
        t.force = s.force ∧
        t.flash = s.flash) ∧
  (∀ (s : State) (st : Nat),
      (st < 8192) → ((s.chain st).isOpen = true) → ((s.chain st).ending = false) → (bit (s.chain st).cfg 62 = false) → (bits (s.chain st).cfg 55 32 ≠ 0) → (dif s.now (s.chain st).lastCp < 0 ∨ (bits (s.chain st).cfg 55 32 * tickMs : Nat) ≤ dif s.now (s.chain st).lastCp) → ((s.chain st).seq ≠ 0) → ((s.chain st).due.isSome = true) → 
      ∃ t, exec (.checkpointTimer st) s = .next t ∧
        (t.get (F.SIG_DEVICE_COALESCED_C) = (s.get (F.SIG_DEVICE_COALESCED_C) + 1) % 2 ^ 48) ∧
        ((t.chain st).due.map (·.1) = some ((s.chain st).seq - 1)) ∧
        ((t.chain st).lastCp = s.now) ∧
        (t.out = s.out) ∧
        (∀ a, ¬ (a = F.SIG_DEVICE_COALESCED_C.addr ∨ inNotify a) → t.rd a = s.rd a) ∧
        t.force = s.force ∧
        t.flash = s.flash) ∧
  (∀ (s : State) (st : Nat),
      ((s.chain st).isOpen = false ∨ (s.chain st).ending = true ∨ bit (s.chain st).cfg 62 = true ∨ bits (s.chain st).cfg 55 32 = 0 ∨ (0 ≤ dif s.now (s.chain st).lastCp ∧ dif s.now (s.chain st).lastCp < (bits (s.chain st).cfg 55 32 * tickMs : Nat))) → exec (.checkpointTimer st) s = .next s) ∧
  (∀ (s : State),
      (dif s.now s.units.roundAt < 0 ∨ (s.get F.SIG_CTRL_ROUND_US * tickUs : Nat) ≤ dif s.now s.units.roundAt) → (s.pending = []) → (s.win.touched = []) → ((Sparse.keys s.units.chains (fun _ c => c.due.isSome)) ≠ []) → 
      ∃ t, exec (.roundClose) s = .next t ∧
        (t.get F.SIG_ROUND_ROUND = (s.get F.SIG_ROUND_ROUND + 1) % 2 ^ 64) ∧
        (t.get (F.SIG_DEVICE_ROUNDS_C) = (s.get (F.SIG_DEVICE_ROUNDS_C) + 1) % 2 ^ 48) ∧
        (∀ x ∈ (Sparse.keys s.units.chains (fun _ c => c.due.isSome)).take 8192, (t.chain x).due = none) ∧
        (t.get F.SIG_STATUS_PENDING = (s.get F.SIG_STATUS_PENDING - ((Sparse.keys s.units.chains (fun _ c => c.due.isSome)).take 8192).length)) ∧
        (t.units.roundAt = s.now) ∧
        ((t.units.checkpoints.map (fun c => (c.stream, c.statement))) = (s.units.checkpoints.map (fun c => (c.stream, c.statement))) ++ ((Sparse.keys s.units.chains (fun _ c => c.due.isSome)).take 8192).map (fun x => (x, ((s.chain x).due.getD (0, [])).2))) ∧
        (∀ a, ¬ (a = F.SIG_ROUND_ROUND.addr ∨ a = F.SIG_DEVICE_ROUNDS_C.addr ∨ a = F.SIG_STATUS_PENDING.addr ∨ inNotify a) → t.rd a = s.rd a) ∧
        t.force = s.force ∧
        t.flash = s.flash) ∧
  (∀ (s : State),
      (dif s.now s.units.roundAt < 0 ∨ (s.get F.SIG_CTRL_ROUND_US * tickUs : Nat) ≤ dif s.now s.units.roundAt) → (s.pending = []) → (s.win.touched = []) → (Sparse.keys s.units.chains (fun _ c => c.due.isSome) = []) → 
      ∃ t, exec (.roundClose) s = .next t ∧
        (t = { s with units := { s.units with roundAt := s.now } }) ∧
        t.flash = s.flash) ∧
  (∀ (s : State),
      (dif s.now s.units.roundAt < 0 ∨ (s.get F.SIG_CTRL_ROUND_US * tickUs : Nat) ≤ dif s.now s.units.roundAt) → (s.pending ≠ [] ∨ s.win.touched ≠ []) → 
      ∃ t, exec (.roundClose) s = .next t ∧
        (t = { s with units := { s.units with roundAt := s.now }, win := { s.win with round := true } }) ∧
        t.flash = s.flash) ∧
  (∀ (s : State),
      (0 ≤ dif s.now s.units.roundAt) → (dif s.now s.units.roundAt < (s.get F.SIG_CTRL_ROUND_US * tickUs : Nat)) → exec (.roundClose) s = .next s) ∧
  (∀ (s : State) (st : Nat) (c : Checkpoint),
      (st < 8192) → (s.units.checkpoints.find? (fun c => c.stream = st) = some c) → ((s.chain st).isOpen = true) → (s.chainKeysGood (s.chain st) = true) → (c.kind ≠ 3 ∨ (s.chain st).ending = false) → 
      ∃ t, exec (.checkpointSeal st) s = .next t ∧
        (t.units.checkpoints = s.units.checkpoints.erase c) ∧
        ((t.chain st).seq = (s.chain st).seq + 1) ∧
        (t.get (F.SIG_STREAM_FRAMES_SEALED_C st) = (s.get (F.SIG_STREAM_FRAMES_SEALED_C st) + 1) % 2 ^ 48) ∧
        (t.get (F.SIG_STREAM_CHECKPOINTS_C st) = (s.get (F.SIG_STREAM_CHECKPOINTS_C st) + 1) % 2 ^ 48) ∧
        (t.get (F.SIG_DEVICE_CHECKPOINTS_C) = (s.get (F.SIG_DEVICE_CHECKPOINTS_C) + 1) % 2 ^ 48) ∧
        (t.get (F.SIG_STREAM_COVERED_COVERED_SEQ st) = c.covered % 2 ^ 64) ∧
        (∀ a, ¬ (inOutputBlocks a) → t.rd a = s.rd a) ∧
        t.flash = s.flash) ∧
  (∀ (s : State) (st : Nat) (c : Checkpoint),
      (st < 8192) → (s.units.checkpoints.find? (fun c => c.stream = st) = some c) → ((s.chain st).isOpen = false) → 
      ∃ t, exec (.checkpointSeal st) s = .next t ∧
        (t.units.checkpoints = s.units.checkpoints.erase c) ∧
        (t.get (F.SIG_STREAM_UNSEALED_DROPPED_C st) = (s.get (F.SIG_STREAM_UNSEALED_DROPPED_C st) + (if c.kind = 3 ∧ (s.chain st).ending = true then 2 else 1)) % 2 ^ 48) ∧
        (t.get (F.SIG_STREAM_COVERED_COVERED_SEQ st) = s.get (F.SIG_STREAM_COVERED_COVERED_SEQ st)) ∧
        (∀ a, ¬ (inStreamBlocks st a ∨ inOutputBlocks a) → t.rd a = s.rd a) ∧
        t.flash = s.flash) ∧
  (∀ (s : State) (st : Nat),
      (s.units.checkpoints.find? (fun c => c.stream = st) = none) → exec (.checkpointSeal st) s = .next s)

/-- A fault of a VALID key entry sets its FAULT bit and KEY_FAULT; an entropy fault sets ENTROPY_FAULT, after which no chain opens. An owner package by another writer than T0, or with a wrong key in bits 31..16, ends with RESULT 6, one that the rules refuse ends with its RESULT, and both set DONE; one accepted keeps BUSY high until its record is written. A record written without a flash error is in force: EPOCH, OWNERSHIP and the hash show it, RESULT 0; with an error RESULT is 7 and no copy changes. A write with START 0, or while BUSY, does nothing (log entry 7). No other register changes but the fault log and notifications of a key fault. -/
def Obligations.KeysAndOwnership : Prop :=
  (∀ (s : State) (e : Nat),
      (e < 256) → (s.is (F.SIG_KEY_INFO_VALID e) = true) → (s.is (F.SIG_KEY_INFO_FAULT e) = false) → 
      ∃ t, exec (.keyFault e) s = .next t ∧
        (t.is (F.SIG_KEY_INFO_FAULT e) = true) ∧
        (t.is F.SIG_STATUS_KEY_FAULT = true) ∧
        (t.units.keys = s.units.keys) ∧
        (t.units.chains = s.units.chains) ∧
        (∀ a, ¬ (inSealsAndLogs a ∨ inNotify a) → t.rd a = s.rd a) ∧
        t.force = s.force ∧
        t.flash = s.flash) ∧
  (∀ (s : State) (e : Nat),
      (256 ≤ e ∨ s.is (F.SIG_KEY_INFO_VALID e) = false ∨ s.is (F.SIG_KEY_INFO_FAULT e) = true) → exec (.keyFault e) s = .next s) ∧
  (∀ (s : State),
      
      ∃ t, exec (.entropyFault) s = .next t ∧
        (t.units = { s.units with entropyBad := true }) ∧
        (t.is F.SIG_STATUS_ENTROPY_FAULT = true) ∧
        (t.keep = s.keep) ∧
        (t.out = s.out) ∧
        (∀ a, ¬ (a = F.SIG_STATUS_ENTROPY_FAULT.addr) → t.rd a = s.rd a) ∧
        t.force = s.force ∧
        t.flash = s.flash) ∧
  (∀ (s : State) (w : Nat) (v : Word) (via : Bool),
      (getBits v 0 0 = 1) → (s.is F.SIG_OWNER_STATUS_BUSY = false) → (w ≠ 0 ∨ getBits v 31 16 ≠ 0xA5C3) → (s.get F.IMG_VOLATILE_WRITES_COUNT + 1 < 2 ^ 47) → 
      ∃ t, exec (.ownerPackage w v via) s = .next t ∧
        (t.get F.SIG_OWNER_STATUS_RESULT = 6) ∧
        (t.is F.SIG_OWNER_STATUS_DONE = true) ∧
        (t.is F.SIG_OWNER_CMD_START = false) ∧
        (t.units = s.units) ∧
        (t.keep = s.keep) ∧
        (∀ a, ¬ (a = F.SIG_OWNER_STATUS_RESULT.addr ∨ a = F.SIG_OWNER_CMD_START.addr ∨ a = F.IMG_VOLATILE_WRITES_COUNT.addr) → t.rd a = s.rd a) ∧
        t.force = s.force ∧
        t.flash = s.flash) ∧
  (∀ (s : State) (w : Nat) (v : Word) (via : Bool),
      (getBits v 0 0 = 1) → (s.is F.SIG_OWNER_STATUS_BUSY = false) → (w = 0) → (getBits v 31 16 = 0xA5C3) → 
      ∃ t, exec (.ownerPackage w v via) s = .next t ∧
        (t.units = { s.units with ownerPending := (s.judgePackage via).2.or s.units.ownerPending }) ∧
        (t.keep = s.keep) ∧
        (t.is F.SIG_OWNER_STATUS_BUSY = (s.judgePackage via).2.isSome) ∧
        (t.is F.SIG_OWNER_CMD_START = (s.judgePackage via).2.isSome) ∧
        ((s.judgePackage via).2 = none → t.get F.SIG_OWNER_STATUS_RESULT = (s.judgePackage via).1 ∧ t.is F.SIG_OWNER_STATUS_DONE = true) ∧
        (∀ a, ¬ (a = F.SIG_OWNER_STATUS_RESULT.addr ∨ a = F.SIG_OWNER_CMD_START.addr ∨ a = F.IMG_VOLATILE_WRITES_COUNT.addr ∨ 0x08000000 ≤ a) → t.rd a = s.rd a) ∧
        t.force = s.force ∧
        t.flash = s.flash) ∧
  (∀ (s : State) (w : Nat) (v : Word) (via : Bool),
      (getBits v 0 0 = 0 ∨ s.is F.SIG_OWNER_STATUS_BUSY = true) → (s.get F.IMG_VOLATILE_WRITES_COUNT + 1 < 2 ^ 47) → 
      ∃ t, exec (.ownerPackage w v via) s = .next t ∧
        (t.units = s.units) ∧
        (t.keep = s.keep) ∧
        (t.force = s.force) ∧
        (t.out = s.out) ∧
        (∀ a, ¬ (a = F.IMG_VOLATILE_WRITES_COUNT.addr) → t.rd a = s.rd a) ∧
        t.flash = s.flash) ∧
  (∀ (s : State) (o : OwnerCopy),
      (s.units.ownerPending = some o) → (∀ x ∈ s.owner, x.epoch < o.epoch) → 
      ∃ t, exec (.ownerRecordWritten true) s = .next t ∧
        (t.owner = some o) ∧
        (t.units.ownerPending = none) ∧
        (t.get F.SIG_OWNER_EPOCH_EPOCH = o.epoch % 2 ^ 64) ∧
        (t.get F.SIG_STATUS_OWNERSHIP = b2n t.owned) ∧
        (∀ x ∈ List.range 6, t.get (F.SIG_OWNER_HASH_HASH x) = num (be 48 o.keyHash.toNat) (8 * x) 8) ∧
        (t.get F.SIG_OWNER_STATUS_RESULT = 0) ∧
        (t.is F.SIG_OWNER_STATUS_DONE = true) ∧
        (t.is F.SIG_OWNER_STATUS_BUSY = false) ∧
        (t.is F.SIG_OWNER_CMD_START = false) ∧
        (∀ a, ¬ (0x09000000 ≤ a ∧ a < 0x09001000) → t.rd a = s.rd a) ∧
        t.force = s.force ∧
        t.flash = s.flash) ∧
  (∀ (s : State) (o : OwnerCopy),
      (s.units.ownerPending = some o) → 
      ∃ t, exec (.ownerRecordWritten false) s = .next t ∧
        (t.keep = s.keep) ∧
        (t.units = { s.units with ownerPending := none }) ∧
        (t.get F.SIG_OWNER_STATUS_RESULT = 7) ∧
        (t.is F.SIG_OWNER_STATUS_DONE = true) ∧
        (t.is F.SIG_OWNER_STATUS_BUSY = false) ∧
        (t.is F.SIG_OWNER_CMD_START = false) ∧
        (∀ a, ¬ (a = F.SIG_OWNER_STATUS_RESULT.addr ∨ a = F.SIG_OWNER_CMD_START.addr) → t.rd a = s.rd a) ∧
        t.force = s.force ∧
        t.flash = s.flash) ∧
  (∀ (s : State) (ok : Bool),
      (s.units.ownerPending = none) → exec (.ownerRecordWritten ok) s = .next s)

/-- On a ring port that carries no time, or for a message of another type than its row, nothing happens. With PTP_AUTH a message that fails its tag, or its sequence, is counted as such and as discarded and used for nothing. One that is not of the profile counts in TIM_PORT_UNSUPPORTED alone. A Sync, Delay_Req, Delay_Resp and Announce count on their port; Sync, Follow_Up and Announce show the peer's time quality; a Sync waits with its arrival for the Follow_Up of its number, which gives t1; a Delay_Resp of the outstanding request shows the mean delay of R397; an Announce names the grandmaster. A signaling message leaves no state. An ESMC PDU is counted and its QL shown. Registers below the time system, and those of edge, field bus and management, stay (frame). -/
def Obligations.TimeMessagesReceived : Prop :=
  (∀ (s : State) (r : Nat) (m : List Byte) (x : Nat) (i : Instr) (ty : Nat),
      (i, ty) ∈ [((.ptpSyncRx r m x : Instr), 0), (.ptpDelayReqRx r m x, 1), (.ptpFollowUpRx r m x, 8), (.ptpDelayRespRx r m x, 9), (.ptpAnnounceRx r m x, 11), (.ptpSignalingRx r m x, 12)] → (num m 0 1 % 16 ≠ ty ∨ s.timePort r = false) → exec (i) s = .next s) ∧
  (∀ (s : State) (r : Nat) (m : List Byte) (x : Nat) (i : Instr) (ty : Nat),
      (i, ty) ∈ [((.ptpSyncRx r m x : Instr), 0), (.ptpDelayReqRx r m x, 1), (.ptpFollowUpRx r m x, 8), (.ptpDelayRespRx r m x, 9), (.ptpAnnounceRx r m x, 11), (.ptpSignalingRx r m x, 12)] → (num m 0 1 % 16 = ty) → (s.timePort r = true) → (s.is F.SIG_CTRL_PTP_AUTH = true) → (s.ptpCheck r m = 1) → 
      ∃ t, exec (i) s = .next t ∧
        (t.get (F.SIG_DEVICE_PTP_AUTH_FAIL_C) = (s.get (F.SIG_DEVICE_PTP_AUTH_FAIL_C) + 1) % 2 ^ 48) ∧
        (t.get (F.TIM_MSG_DISCARDED_C) = (s.get (F.TIM_MSG_DISCARDED_C) + 1) % 2 ^ 48) ∧
        (t.get (F.TIM_PORT_DISCARDED_C r) = (s.get (F.TIM_PORT_DISCARDED_C r) + 1) % 2 ^ 48) ∧
        (t.units.time = s.units.time) ∧
        (t.out = s.out) ∧
        (∀ a, ¬ (a = F.SIG_DEVICE_PTP_AUTH_FAIL_C.addr ∨ a = F.TIM_MSG_DISCARDED_C.addr ∨ a = (F.TIM_PORT_DISCARDED_C r).addr ∨ inNotify a) → t.rd a = s.rd a) ∧
        t.force = s.force ∧
        t.flash = s.flash) ∧
  (∀ (s : State) (r : Nat) (m : List Byte) (x : Nat) (i : Instr) (ty : Nat),
      (i, ty) ∈ [((.ptpSyncRx r m x : Instr), 0), (.ptpDelayReqRx r m x, 1), (.ptpFollowUpRx r m x, 8), (.ptpDelayRespRx r m x, 9), (.ptpAnnounceRx r m x, 11), (.ptpSignalingRx r m x, 12)] → (num m 0 1 % 16 = ty) → (s.timePort r = true) → (s.is F.SIG_CTRL_PTP_AUTH = false) → (s.ptpKnown false m = false) → 
      ∃ t, exec (i) s = .next t ∧
        (t.get (F.TIM_PORT_UNSUPPORTED_C r) = (s.get (F.TIM_PORT_UNSUPPORTED_C r) + 1) % 2 ^ 48) ∧
        (t.units.time = s.units.time) ∧
        (t.out = s.out) ∧
        (∀ a, ¬ (a = (F.TIM_PORT_UNSUPPORTED_C r).addr ∨ inNotify a) → t.rd a = s.rd a) ∧
        t.force = s.force ∧
        t.flash = s.flash) ∧
  (∀ (s : State) (r : Nat) (m : List Byte) (x : Nat),
      (num m 0 1 = 0) → (s.timePort r = true) → (s.is F.SIG_CTRL_PTP_AUTH = false) → (s.ptpKnown false m = true) → (num m 4 1 = s.units.time.number0) → 
      ∃ t, exec (.ptpSyncRx r m x) s = .next t ∧
        (t.get (F.TIM_PORT_SYNC_RX_C r) = (s.get (F.TIM_PORT_SYNC_RX_C r) + 1) % 2 ^ 48) ∧
        (t.get (F.TIM_PORT_STATUS_PEER_TQ_D0 r) = messageTq m) ∧
        (0 ∈ s.instances r 0 → t.units.time.inst0.sync = some (num m 30 2, s.instTime 0 x, readCorr m, s.keep.elapsed) ∧ t.units.time.inst0.syncAt = s.keep.elapsed) ∧
        (∀ a, ¬ (inTime a ∨ inEvents a) → t.rd a = s.rd a) ∧
        t.flash = s.flash) ∧
  (∀ (s : State) (r : Nat) (m : List Byte) (x : Nat) (t2 corr : Int) (w : Nat),
      (num m 0 1 = 8) → (s.timePort r = true) → (s.is F.SIG_CTRL_PTP_AUTH = false) → (s.ptpKnown false m = true) → (num m 4 1 = s.units.time.number0) → 0 ∈ s.instances r 0 → 1 ∉ s.instances r 0 → (s.units.time.inst0.sync = some (num m 30 2, t2, corr, w)) → (s.keep.elapsed ≤ w + s.syncInterval) → 
      ∃ t, exec (.ptpFollowUpRx r m x) s = .next t ∧
        (t.get (F.TIM_PORT_STATUS_PEER_TQ_D0 r) = messageTq m) ∧
        (t.units.time.inst0.pair = some (readStamp m 34 + readCorr m + corr, t2)) ∧
        (t.units.time.inst0.sync = none) ∧
        (∀ a, ¬ (inTime a ∨ inEvents a) → t.rd a = s.rd a) ∧
        t.flash = s.flash) ∧
  (∀ (s : State) (r : Nat) (m : List Byte) (x : Nat),
      (num m 0 1 = 1) → (s.timePort r = true) → (s.is F.SIG_CTRL_PTP_AUTH = false) → (s.ptpKnown false m = true) → (num m 4 1 = s.units.time.number0) → 
      ∃ t, exec (.ptpDelayReqRx r m x) s = .next t ∧
        (t.get (F.TIM_PORT_DELAY_REQ_RX_C r) = (s.get (F.TIM_PORT_DELAY_REQ_RX_C r) + 1) % 2 ^ 48) ∧
        (t.units.time = s.units.time) ∧
        (s.ptpState r 0 ≠ 6 → t.out = s.out) ∧
        (∀ a, ¬ (inTime a ∨ inQueueBlocks a) → t.rd a = s.rd a) ∧
        t.force = s.force ∧
        t.flash = s.flash) ∧
  (∀ (s : State) (r : Nat) (m : List Byte) (x : Nat) (t1 t2 t3 : Int),
      (num m 0 1 = 9) → (s.timePort r = true) → (s.is F.SIG_CTRL_PTP_AUTH = false) → (s.ptpKnown false m = true) → (num m 4 1 = s.units.time.number0) → (s.instances r 0 = [0]) → (s.units.time.inst0.req = some (num m 30 2, t3)) → (s.units.time.inst0.pair = some (t1, t2)) → (slice m 44 10 = s.portIdentity r) → 
      ∃ t, exec (.ptpDelayRespRx r m x) s = .next t ∧
        (t.get (F.TIM_PORT_DELAY_RESP_RX_C r) = (s.get (F.TIM_PORT_DELAY_RESP_RX_C r) + 1) % 2 ^ 48) ∧
        (t.units.time.inst0.req = none) ∧
        (t.units.time.inst0.pair = none) ∧
        (t.get (F.TIM_PORT_DELAY_MEAN r) = enc 64 (((t2 - t1) + (readStamp m 34 - readCorr m - t3)) / 2)) ∧
        (∀ a, ¬ (inTime a ∨ inEvents a) → t.rd a = s.rd a) ∧
        t.flash = s.flash) ∧
  (∀ (s : State) (r : Nat) (m : List Byte) (x : Nat),
      (num m 0 1 = 11) → (s.timePort r = true) → (s.is F.SIG_CTRL_PTP_AUTH = false) → (s.ptpKnown false m = true) → (num m 4 1 = s.units.time.number0) → 
      ∃ t, exec (.ptpAnnounceRx r m x) s = .next t ∧
        (t.get (F.TIM_PORT_ANNOUNCE_RX_C r) = (s.get (F.TIM_PORT_ANNOUNCE_RX_C r) + 1) % 2 ^ 48) ∧
        (t.get (F.TIM_PORT_STATUS_PEER_TQ_D0 r) = messageTq m) ∧
        (0 ∈ s.instances r 0 → t.units.time.inst0.master = some (num m 53 8, num m 61 2)) ∧
        (∀ a, ¬ (inTime a ∨ inEvents a) → t.rd a = s.rd a) ∧
        t.flash = s.flash) ∧
  (∀ (s : State) (r : Nat) (m : List Byte) (x : Nat),
      (num m 0 1 = 12) → (s.timePort r = true) → (s.is F.SIG_CTRL_PTP_AUTH = false) → (s.ptpKnown false m = true) → (num m 4 1 = s.units.time.number0) → exec (.ptpSignalingRx r m x) s = .next s) ∧
  (∀ (s : State) (r : Nat) (m : List Byte),
      (s.timePort r = true) → (num m 0 1 = 0x0A) → (num m 1 3 = 0x0019A7) → 
      ∃ t, exec (.esmcReceived r m) s = .next t ∧
        (t.get (F.TIM_PORT_ESMC_RX_C r) = (s.get (F.TIM_PORT_ESMC_RX_C r) + 1) % 2 ^ 48) ∧
        (num m 10 1 = 1 → t.get (F.TIM_PORT_STATUS_PEER_QL r) = num m 13 1 % 16) ∧
        (t.units.time = s.units.time) ∧
        (t.out = s.out) ∧
        (∀ a, ¬ (a = (F.TIM_PORT_ESMC_RX_C r).addr ∨ a = (F.TIM_PORT_STATUS_PEER_QL r).addr ∨ inNotify a) → t.rd a = s.rd a) ∧
        t.force = s.force ∧
        t.flash = s.flash) ∧
  (∀ (s : State) (r : Nat) (m : List Byte),
      (s.timePort r = false ∨ num m 0 1 ≠ 0x0A ∨ num m 1 3 ≠ 0x0019A7) → exec (.esmcReceived r m) s = .next s)

/-- A master port of a domain sends one Sync for each multiple of the sync interval: it is counted and takes the next sequenceId. A slave port sends one Delay_Req a delay request interval, counts it and keeps its number and departure for the answer. Once an announce interval a port that carries time sends its L1Sync message, and a master port its Announce, each with the next sequenceId of its kind. Once a second, and when its quality level changes, a port sends an ESMC PDU. Each goes to the queue of priority 7 of its port; registers below the queues stay except those of the time system. Ports that carry no time, and sends before their interval, do nothing (log entry 7). -/
def Obligations.TimeMessagesSent : Prop :=
  (∀ (s : State) (r k x : Nat),
      (k < 2) → (s.timePort r = true) → (s.ptpState r k = 6) → (Sparse.get (fun _ => 0) s.units.time.syncSent (8 * k + r) ≠ ((s.domainNow k).toNat + s.syncInterval - (if k = 1 then s.syncInterval / 2 else 0)) / s.syncInterval + 1) → 
      ∃ t, exec (.syncSend r k x) s = .next t ∧
        (t.get (F.TIM_PORT_SYNC_TX_C r) = (s.get (F.TIM_PORT_SYNC_TX_C r) + 1) % 2 ^ 48) ∧
        (t.nextSeq 0 k r = (s.nextSeq 0 k r + 1) % 65536) ∧
        (Sparse.get (fun _ => 0) t.units.time.syncSent (8 * k + r) = ((s.domainNow k).toNat + s.syncInterval - (if k = 1 then s.syncInterval / 2 else 0)) / s.syncInterval + 1) ∧
        (∀ a, ¬ (a = (F.TIM_PORT_SYNC_TX_C r).addr ∨ inQueueBlocks a) → t.rd a = s.rd a) ∧
        t.force = s.force ∧
        t.flash = s.flash) ∧
  (∀ (s : State) (r k x : Nat),
      (2 ≤ k ∨ s.timePort r = false ∨ s.ptpState r k ≠ 6) → exec (.syncSend r k x) s = .next s) ∧
  (∀ (s : State) (r x : Nat),
      (s.timePort r = true) → (8 ≤ s.ptpState r 0) → (s.sinceAt s.units.time.reqAt r s.syncInterval = true) → (s.instances r 0 = [0]) → 
      ∃ t, exec (.delayReqSend r 0 x) s = .next t ∧
        (t.get (F.TIM_PORT_DELAY_REQ_TX_C r) = (s.get (F.TIM_PORT_DELAY_REQ_TX_C r) + 1) % 2 ^ 48) ∧
        (t.nextSeq 1 0 r = (s.nextSeq 1 0 r + 1) % 65536) ∧
        (t.units.time.inst0.req = some (s.nextSeq 1 0 r, s.instTime 0 x)) ∧
        (Sparse.get (fun _ => none) t.units.time.reqAt r = some s.keep.elapsed) ∧
        (∀ a, ¬ (a = (F.TIM_PORT_DELAY_REQ_TX_C r).addr ∨ inQueueBlocks a) → t.rd a = s.rd a) ∧
        t.force = s.force ∧
        t.flash = s.flash) ∧
  (∀ (s : State) (r k x : Nat),
      (2 ≤ k ∨ s.timePort r = false ∨ s.ptpState r k < 8 ∨ s.sinceAt s.units.time.reqAt (8 * k + r) s.syncInterval = false) → exec (.delayReqSend r k x) s = .next s) ∧
  (∀ (s : State) (r k : Nat),
      (k < 2) → (s.timePort r = true) → (s.sinceAt s.units.time.announceAt (8 * k + r) s.announceInterval = true) → 
      ∃ t, exec (.announceSend r k) s = .next t ∧
        (t.nextSeq 3 k r = (s.nextSeq 3 k r + 1) % 65536) ∧
        (t.nextSeq 2 k r = if s.ptpState r k = 6 then (s.nextSeq 2 k r + 1) % 65536 else s.nextSeq 2 k r) ∧
        (Sparse.get (fun _ => none) t.units.time.announceAt (8 * k + r) = some s.keep.elapsed) ∧
        (∀ a, ¬ (inQueueBlocks a) → t.rd a = s.rd a) ∧
        t.force = s.force ∧
        t.flash = s.flash) ∧
  (∀ (s : State) (r k : Nat),
      (2 ≤ k ∨ s.timePort r = false ∨ s.sinceAt s.units.time.announceAt (8 * k + r) s.announceInterval = false) → exec (.announceSend r k) s = .next s) ∧
  (∀ (s : State) (r : Nat),
      (s.timePort r = true) → (∀ y ∈ Sparse.get (fun _ => none) s.units.time.esmc r, y.1 ≠ s.ql r ∨ y.2 + tickS ≤ s.keep.elapsed) → 
      ∃ t, exec (.esmcSend r) s = .next t ∧
        (Sparse.get (fun _ => none) t.units.time.esmc r = some (s.ql r, s.keep.elapsed)) ∧
        (t.out = s.out) ∧
        (∀ a, ¬ (inQueueBlocks a) → t.rd a = s.rd a) ∧
        t.force = s.force ∧
        t.flash = s.flash) ∧
  (∀ (s : State) (r : Nat),
      (s.timePort r = false ∨ Sparse.get (fun _ => none) s.units.time.esmc r = some (s.ql r, s.keep.elapsed)) → exec (.esmcSend r) s = .next s)

/-- A device with a D0 parent goes from no lock to FREQUENCY on it, after 100 ms to PHASE, steps D0 once by the mean of 8 offsets, and tracks after 4 offsets within 1 ns. A lost source ends an acquisition; a tracking device with D1 of TQ 2 or better switches to the D1 parent with its difference held, and else enters HOLDOVER without a source. A lost D1 source sets NO_REDUNDANCY and restarts its estimate. REVERT returns to the D0 parent that has held TQ 3 for 60 s. WARM is set once. After a holdover timer the shown qualities are those that stand. SEGMENT_PUBLISH shows the segments of the next second once. A channel silent for 10 s marks its port TEMP_STALE. Only the time registers and what an event touches change. Without its condition each row does nothing (log entry 7). -/
def Obligations.ServoAndSources : Prop :=
  (∀ (s : State),
      (s.rootLike = false) → (s.up = true) → (s.servo = 0) → (s.timePort (s.parent 0) = true) → 
      ∃ t, exec (.servoAcquisitionStep) s = .next t ∧
        (t.servo = 1) ∧
        (t.source 0 = s.parent 0) ∧
        (t.units.time.since = s.keep.elapsed) ∧
        (∀ a, ¬ (inTime a ∨ inEvents a) → t.rd a = s.rd a) ∧
        t.flash = s.flash) ∧
  (∀ (s : State),
      (s.rootLike = false) → (s.up = true) → (s.servo = 1) → (s.timePort (s.parent 0) = true) → (s.units.time.since + 100 * tickMs ≤ s.keep.elapsed) → 
      ∃ t, exec (.servoAcquisitionStep) s = .next t ∧
        (t.servo = 2) ∧
        (t.source 0 = s.parent 0) ∧
        (t.units.time.inst0.fresh = []) ∧
        (∀ a, ¬ (inTime a ∨ inEvents a) → t.rd a = s.rd a) ∧
        t.flash = s.flash) ∧
  (∀ (s : State),
      (s.rootLike = false) → (s.up = true) → (s.servo = 2) → (s.units.time.stepped = false) → (2 ≤ s.peerTq (s.parent 0) 0) → (s.units.time.inst0.fresh.length = 8) → 
      ∃ t, exec (.servoAcquisitionStep) s = .next t ∧
        (t.units.d0 = ((s.units.d0 : Int) + -(mean s.units.time.inst0.fresh) / 256).toNat) ∧
        (t.units.time.stepped = true) ∧
        (t.is F.TIM_STATUS_STEPPED = true) ∧
        (t.get (F.TIM_STEPS_C) = (s.get (F.TIM_STEPS_C) + 1) % 2 ^ 48) ∧
        (t.servo = 2) ∧
        (t.units.time.inst0.fresh = []) ∧
        (∀ a, ¬ (inTime a ∨ inEvents a) → t.rd a = s.rd a) ∧
        t.flash = s.flash) ∧
  (∀ (s : State),
      (s.rootLike = false) → (s.up = true) → (s.servo = 2) → (s.units.time.stepped = true) → (4 ≤ s.units.time.inst0.fresh.length) → (((s.units.time.inst0.fresh.take 4).all (fun x => decide (-262144 ≤ x) && decide (x ≤ 262144))) = true) → 
      ∃ t, exec (.servoAcquisitionStep) s = .next t ∧
        (t.servo = 3) ∧
        (t.units.d0 = s.units.d0) ∧
        (∀ a, ¬ (inTime a ∨ inEvents a) → t.rd a = s.rd a) ∧
        t.flash = s.flash) ∧
  (∀ (s : State),
      (s.rootLike = false) → (s.up = true) → (s.servo = 4) → (s.timePort (s.parent 0) = true) → (2 ≤ s.peerTq (s.parent 0) 0) → (s.units.time.inst0.fresh ≠ []) → 
      ∃ t, exec (.servoAcquisitionStep) s = .next t ∧
        (t.servo = 3) ∧
        (t.source 0 = s.parent 0) ∧
        (t.is F.TIM_STATUS_D0_FROM_D1 = false) ∧
        (t.units.d0 = s.units.d0) ∧
        (∀ a, ¬ (inTime a ∨ inEvents a) → t.rd a = s.rd a) ∧
        t.flash = s.flash) ∧
  (∀ (s : State),
      (s.rootLike = true ∨ s.up = false ∨ (s.servo ≤ 1 ∧ s.timePort (s.parent 0) = false)) → exec (.servoAcquisitionStep) s = .next s) ∧
  (∀ (s : State),
      (s.rootLike = true) → (s.up = true) → (s.unconfigured = false) → (s.servo ≤ 1) → (s.names 0 = false ∨ s.is F.TIM_REF_STATUS_REF10M_VALID = true) → 
      ∃ t, exec (.rootAcquisitionStep) s = .next t ∧
        (t.servo = s.servo + 1) ∧
        (t.units.d0 = s.units.d0) ∧
        (∀ a, ¬ (inTime a ∨ inEvents a) → t.rd a = s.rd a) ∧
        t.flash = s.flash) ∧
  (∀ (s : State),
      (s.rootLike = true) → (s.up = true) → (s.unconfigured = false) → (s.servo = 4) → (s.refsGone = false) → 
      ∃ t, exec (.rootAcquisitionStep) s = .next t ∧
        (t.servo = 3) ∧
        (t.source 0 = 255) ∧
        (t.units.d0 = s.units.d0) ∧
        (∀ a, ¬ (inTime a ∨ inEvents a) → t.rd a = s.rd a) ∧
        t.flash = s.flash) ∧
  (∀ (s : State),
      (s.rootLike = false ∨ s.up = false ∨ s.unconfigured = true) → exec (.rootAcquisitionStep) s = .next s) ∧
  (∀ (s : State),
      (s.source 0 < 8) → (s.servo = 1 ∨ s.servo = 2) → (s.timePort (s.source 0) = false) → (s.reacquires = false) → 
      ∃ t, exec (.d0SourceLoss) s = .next t ∧
        (t.servo = 0) ∧
        (t.source 0 = 255) ∧
        (t.units.d0 = s.units.d0) ∧
        (∀ a, ¬ (inTime a ∨ inEvents a) → t.rd a = s.rd a) ∧
        t.flash = s.flash) ∧
  (∀ (s : State),
      (s.source 0 < 8) → (s.servo = 3) → (s.portLost (s.source 0) s.units.time.inst0 s.sourceTq = true) → (s.reacquires = false) → (s.source 1 < 8) → (2 ≤ s.tq 1) → (s.d1LossPending = false) → 
      ∃ t, exec (.d0SourceLoss) s = .next t ∧
        (t.servo = 5) ∧
        (t.source 0 = s.source 1) ∧
        (t.get F.TIM_DELTA_DELTA = enc 64 (s.delta s.units.time.inst0.sampleAt)) ∧
        (t.is F.TIM_STATUS_D0_FROM_D1 = true) ∧
        (t.is F.TIM_STATUS_SWITCHED = true) ∧
        (t.get (F.TIM_SWITCHES_C) = (s.get (F.TIM_SWITCHES_C) + 1) % 2 ^ 48) ∧
        (t.units.d0 = s.units.d0) ∧
        (∀ a, ¬ (inTime a ∨ inEvents a) → t.rd a = s.rd a) ∧
        t.flash = s.flash) ∧
  (∀ (s : State),
      (s.source 0 < 8) → (s.servo = 3 ∨ s.servo = 5) → (s.portLost (s.source 0) s.units.time.inst0 s.sourceTq = true) → (s.reacquires = false) → (s.servo = 5 ∨ 8 ≤ s.source 1 ∨ s.tq 1 < 2) → 
      ∃ t, exec (.d0SourceLoss) s = .next t ∧
        (t.servo = 4) ∧
        (t.source 0 = 255) ∧
        (t.is F.TIM_STATUS_HOLDOVER_ENTERED = true) ∧
        (t.get (F.TIM_HOLDOVERS_C) = (s.get (F.TIM_HOLDOVERS_C) + 1) % 2 ^ 48) ∧
        (t.units.time.since = s.keep.elapsed) ∧
        (t.units.d0 = s.units.d0) ∧
        (∀ a, ¬ (inTime a ∨ inEvents a) → t.rd a = s.rd a) ∧
        t.flash = s.flash) ∧
  (∀ (s : State),
      (8 ≤ s.source 0 ∨ s.reacquires = true ∨ (s.servo ≠ 1 ∧ s.servo ≠ 2 ∧ s.portLost (s.source 0) s.units.time.inst0 s.sourceTq = false)) → exec (.d0SourceLoss) s = .next s) ∧
  (∀ (s : State),
      (s.d1Lost = true) → 
      ∃ t, exec (.d1SourceLoss) s = .next t ∧
        (t.is F.TIM_STATUS_NO_REDUNDANCY = true) ∧
        (t.units.time.inst1.phase = 0) ∧
        (t.units.time.inst1.offsets = []) ∧
        (t.servo = s.servo) ∧
        (t.source 0 = s.source 0) ∧
        (t.units.d0 = s.units.d0) ∧
        (∀ a, ¬ (inTime a ∨ inEvents a) → t.rd a = s.rd a) ∧
        t.flash = s.flash) ∧
  (∀ (s : State),
      (s.d1Lost = false) → exec (.d1SourceLoss) s = .next s) ∧
  (∀ (s : State),
      (s.is F.TIM_CTRL_REVERT = true) → (s.servo = 5) → (s.timePort (s.parent 0) = true) → (∃ x ∈ s.units.time.tq3Since, s.passed x.1 60 = true ∧ s.keep.elapsed < x.2 + s.lossTime) → 
      ∃ t, exec (.revert) s = .next t ∧
        (t.servo = 3) ∧
        (t.source 0 = s.parent 0) ∧
        (t.is F.TIM_STATUS_D0_FROM_D1 = false) ∧
        (t.units.d0 = s.units.d0) ∧
        (∀ a, ¬ (inTime a ∨ inEvents a) → t.rd a = s.rd a) ∧
        t.flash = s.flash) ∧
  (∀ (s : State),
      (s.is F.TIM_CTRL_REVERT = false ∨ s.servo ≠ 5 ∨ s.timePort (s.parent 0) = false ∨ s.units.time.tq3Since = none) → exec (.revert) s = .next s) ∧
  (∀ (s : State),
      
      ∃ t, exec (.holdoverTimer) s = .next t ∧
        (∀ k ∈ List.range 4, t.domainTq k = t.tq k) ∧
        (t.servo = s.servo) ∧
        (t.source 0 = s.source 0) ∧
        (t.units.d0 = s.units.d0) ∧
        ((List.range 4).all (fun k => s.domainTq k = s.tq k) = true → t.out = s.out) ∧
        (∀ a, ¬ (inTime a ∨ inEvents a) → t.rd a = s.rd a) ∧
        t.flash = s.flash) ∧
  (∀ (s : State),
      (s.up = true) → (s.is F.TIM_STATUS_WARM = false) → 
      ∃ t, exec (.warmUpEnd) s = .next t ∧
        (t.is F.TIM_STATUS_WARM = true) ∧
        (∀ k ∈ List.range 4, t.domainTq k = t.tq k) ∧
        (t.servo = s.servo) ∧
        (∀ a, ¬ (inTime a ∨ inEvents a) → t.rd a = s.rd a) ∧
        t.flash = s.flash) ∧
  (∀ (s : State),
      (s.up = false ∨ s.is F.TIM_STATUS_WARM = true) → exec (.warmUpEnd) s = .next s) ∧
  (∀ (s : State),
      (s.up = true) → (s.units.time.published ≠ some ((s.units.d0 / tickS + 1) * tickS)) → 
      ∃ t, exec (.segmentPublish) s = .next t ∧
        (t.units.time.published = some ((s.units.d0 / tickS + 1) * tickS)) ∧
        (([1, 2, 3] : List Nat).all (fun d => t.get (F.TIM_SEGMENT_VALUE d 0) = (s.units.d0 / tickS + 1) * tickS % 2 ^ 64) = true) ∧
        (t.get (F.TIM_SEGMENT_VALUE 3 2) = enc 32 (sgn 32 (s.get (F.TIM_DOMAIN_RATE_RATE 3)))) ∧
        (([1, 2, 3] : List Nat).all (fun d => (Sparse.get (fun _ => []) t.units.segs d).head?.map (·.ref) = some ((s.units.d0 / tickS + 1) * tickS % 2 ^ 64)) = true) ∧
        (t.units.d0 = s.units.d0) ∧
        (∀ a, ¬ (inTime a ∨ inEvents a) → t.rd a = s.rd a) ∧
        t.flash = s.flash) ∧
  (∀ (s : State),
      (s.up = false ∨ s.units.time.published = some ((s.units.d0 / tickS + 1) * tickS)) → exec (.segmentPublish) s = .next s) ∧
  (∀ (s : State) (r : Nat),
      (r < 8) → (s.up = true) → (s.get (F.TIM_PORT_CFG_ENV_CHANNEL r) < 16) → (s.passed ((s.temperature (s.get (F.TIM_PORT_CFG_ENV_CHANNEL r))).elim s.units.sup.readyAt (·.1)) 10 = true) → 
      ∃ t, exec (.tempStale r) s = .next t ∧
        (t.get (F.TIM_PORT_STATUS_TEMP_STALE r) = 1) ∧
        (t.units = s.units) ∧
        (t.out = s.out) ∧
        (∀ a, ¬ (a = (F.TIM_PORT_STATUS_TEMP_STALE r).addr) → t.rd a = s.rd a) ∧
        t.force = s.force ∧
        t.flash = s.flash) ∧
  (∀ (s : State) (r : Nat),
      (8 ≤ r ∨ s.up = false ∨ 16 ≤ s.get (F.TIM_PORT_CFG_ENV_CHANNEL r)) → exec (.tempStale r) s = .next s)

/-- A lost REF10M or PPS_IN clears its valid bit, sets REF_LOST and is counted; a tracking root without a reference it names enters HOLDOVER. A PPS_IN edge where it is accepted is recorded with its time, one elsewhere is counted as rejected and the third in a row is the loss. A reference comes back after 10 s of validity. A TIM_SET_COMMIT that the rules refuse gives its RESULT and DONE and changes no time; at a domain that may take it at once it is applied, and otherwise it waits as PENDING. When applied, D2 or D3 has the value from that instant, D0 is stepped by the difference and tracks, and RESULT 0 and DONE are set. A write of TIM_CTRL by another tenant than T0 sets WRITE_LOST alone; T0's write sets REVERT and D3_OWNER, and with the key REACQUIRE returns the servo to FREQUENCY (a command without KEY has no effect: log entry 40). Only the time registers and what an event touches change. -/
def Obligations.ReferencesAndTimeCommands : Prop :=
  (∀ (s : State),
      (s.is F.TIM_REF_STATUS_REF10M_VALID = true) → 
      ∃ t, exec (.ref10mLoss) s = .next t ∧
        (t.is F.TIM_REF_STATUS_REF10M_VALID = false) ∧
        (t.is F.TIM_STATUS_REF_LOST = true) ∧
        (t.get (F.TIM_REF_LOSSES_C) = (s.get (F.TIM_REF_LOSSES_C) + 1) % 2 ^ 48) ∧
        (t.units.time.refLostAt = some s.keep.elapsed) ∧
        (s.servo ≠ 1 → s.servo ≠ 2 → s.servo ≠ 3 → t.servo = s.servo) ∧
        (∀ a, ¬ (inTime a ∨ inEvents a) → t.rd a = s.rd a) ∧
        t.flash = s.flash) ∧
  (∀ (s : State),
      (s.rootLike = true) → (s.topology.kind = 1) → (s.topology.rootRef = 1) → (s.servo = 3) → (s.is F.TIM_REF_STATUS_REF10M_VALID = true) → 
      ∃ t, exec (.ref10mLoss) s = .next t ∧
        (t.servo = 4) ∧
        (t.source 0 = 255) ∧
        (t.get (F.TIM_HOLDOVERS_C) = (s.get (F.TIM_HOLDOVERS_C) + 1) % 2 ^ 48) ∧
        (∀ a, ¬ (inTime a ∨ inEvents a) → t.rd a = s.rd a) ∧
        t.flash = s.flash) ∧
  (∀ (s : State),
      (s.rootLike = true) → (s.topology.kind = 1) → (s.topology.rootRef = 1) → (s.servo = 1 ∨ s.servo = 2) → (s.is F.TIM_REF_STATUS_REF10M_VALID = true) → 
      ∃ t, exec (.ref10mLoss) s = .next t ∧
        (t.servo = 0) ∧
        (t.units.d0 = s.units.d0) ∧
        (∀ a, ¬ (inTime a ∨ inEvents a) → t.rd a = s.rd a) ∧
        t.flash = s.flash) ∧
  (∀ (s : State),
      (s.is F.TIM_REF_STATUS_REF10M_VALID = false) → exec (.ref10mLoss) s = .next s) ∧
  (∀ (s : State) (x : Nat),
      (s.up = true) → (s.ppsGood x = true) → 
      ∃ t, exec (.ppsInEdge x) s = .next t ∧
        (t.get F.TIM_REF_PPS_LAST_TIME = x % 2 ^ 64) ∧
        (t.units.time.ppsAt = some s.keep.elapsed) ∧
        (t.units.time.rejects = 0) ∧
        (s.units.time.ppsLostAt = none → t.is F.TIM_REF_STATUS_PPS_VALID = true) ∧
        (∀ a, ¬ (inTime a ∨ inEvents a) → t.rd a = s.rd a) ∧
        t.flash = s.flash) ∧
  (∀ (s : State) (x : Nat),
      (s.up = true) → (s.ppsGood x = false) → (s.units.time.rejects < 2 ∨ s.is F.TIM_REF_STATUS_PPS_VALID = false) → 
      ∃ t, exec (.ppsInEdge x) s = .next t ∧
        (t.get (F.TIM_PPS_REJECTED_C) = (s.get (F.TIM_PPS_REJECTED_C) + 1) % 2 ^ 48) ∧
        (t.units.time.rejects = s.units.time.rejects + 1) ∧
        (t.servo = s.servo) ∧
        (∀ a, ¬ (a = F.TIM_PPS_REJECTED_C.addr ∨ inNotify a) → t.rd a = s.rd a) ∧
        t.force = s.force ∧
        t.flash = s.flash) ∧
  (∀ (s : State) (x : Nat),
      (s.up = true) → (s.ppsGood x = false) → (2 ≤ s.units.time.rejects) → (s.is F.TIM_REF_STATUS_PPS_VALID = true) → 
      ∃ t, exec (.ppsInEdge x) s = .next t ∧
        (t.get (F.TIM_PPS_REJECTED_C) = (s.get (F.TIM_PPS_REJECTED_C) + 1) % 2 ^ 48) ∧
        (t.get (F.TIM_REF_LOSSES_C) = (s.get (F.TIM_REF_LOSSES_C) + 1) % 2 ^ 48) ∧
        (t.is F.TIM_REF_STATUS_PPS_VALID = false) ∧
        (∀ a, ¬ (inTime a ∨ inEvents a) → t.rd a = s.rd a) ∧
        t.flash = s.flash) ∧
  (∀ (s : State) (x : Nat),
      (s.up = false) → exec (.ppsInEdge x) s = .next s) ∧
  (∀ (s : State) (x : Nat),
      (s.is F.TIM_REF_STATUS_PPS_VALID = true) → (s.units.time.ppsAt = some x) → (3 * tickS ≤ 2 * (s.keep.elapsed - x)) → 
      ∃ t, exec (.ppsInLoss) s = .next t ∧
        (t.is F.TIM_REF_STATUS_PPS_VALID = false) ∧
        (t.is F.TIM_STATUS_REF_LOST = true) ∧
        (t.get (F.TIM_REF_LOSSES_C) = (s.get (F.TIM_REF_LOSSES_C) + 1) % 2 ^ 48) ∧
        (t.units.time.ppsLostAt = some s.keep.elapsed) ∧
        (∀ a, ¬ (inTime a ∨ inEvents a) → t.rd a = s.rd a) ∧
        t.flash = s.flash) ∧
  (∀ (s : State),
      (s.is F.TIM_REF_STATUS_PPS_VALID = false ∨ (∃ x ∈ s.units.time.ppsAt, 2 * (s.keep.elapsed - x) < 3 * tickS)) → exec (.ppsInLoss) s = .next s) ∧
  (∀ (s : State) (x : Nat),
      (s.up = true) → (s.is F.TIM_REF_STATUS_REF10M_VALID = false) → (s.units.time.refLostAt = some x) → (s.passed x 10 = true) → 
      ∃ t, exec (.referenceRestored false) s = .next t ∧
        (t.is F.TIM_REF_STATUS_REF10M_VALID = true) ∧
        (t.units.time.refLostAt = none) ∧
        (t.servo = s.servo) ∧
        (∀ a, ¬ (inTime a ∨ inEvents a) → t.rd a = s.rd a) ∧
        t.flash = s.flash) ∧
  (∀ (s : State) (x y : Nat),
      (s.up = true) → (s.is F.TIM_REF_STATUS_PPS_VALID = false) → (s.units.time.ppsLostAt = some y) → (s.units.time.ppsSince = some x) → (s.passed x 10 = true) → (s.ppsSilent = false) → 
      ∃ t, exec (.referenceRestored true) s = .next t ∧
        (t.is F.TIM_REF_STATUS_PPS_VALID = true) ∧
        (t.units.time.ppsLostAt = none) ∧
        (t.servo = s.servo) ∧
        (∀ a, ¬ (inTime a ∨ inEvents a) → t.rd a = s.rd a) ∧
        t.flash = s.flash) ∧
  (∀ (s : State) (pps : Bool),
      (s.up = false ∨ s.is (if pps then F.TIM_REF_STATUS_PPS_VALID else F.TIM_REF_STATUS_REF10M_VALID) = true) → exec (.referenceRestored pps) s = .next s) ∧
  (∀ (s : State) (d w : Nat) (v : Word),
      (d < 4) → (getBits v 0 0 = 1) → (s.timeSet d = none) → (s.setResult d w v ≠ 0) → 
      ∃ t, exec (.timSetCommit d w v) s = .next t ∧
        (t.get (F.TIM_SET_STATUS_RESULT d) = s.setResult d w v) ∧
        (t.is (F.TIM_SET_STATUS_DONE d) = true) ∧
        (t.get (F.TIM_SET_CTRL_AT_SECOND d) = if s.maySet d w && !s.is (F.TIM_SET_STATUS_PENDING d) then getBits v 1 1 else s.get (F.TIM_SET_CTRL_AT_SECOND d)) ∧
        (t.units.time = s.units.time) ∧
        (t.units.d0 = s.units.d0) ∧
        (∀ a, ¬ (a = (F.TIM_SET_STATUS_RESULT d).addr ∨ a = (F.TIM_SET_CTRL_AT_SECOND d).addr ∨ a = F.IMG_VOLATILE_WRITES_COUNT.addr ∨ inNotify a) → t.rd a = s.rd a) ∧
        t.force = s.force ∧
        t.flash = s.flash) ∧
  (∀ (s : State) (d w : Nat) (v : Word),
      (d < 4) → (getBits v 0 0 = 1) → (s.timeSet d = none) → (s.setResult d w v = 0) → (getBits v 1 1 = 1 ∨ s.takesSeconds d = false) → 
      ∃ t, exec (.timSetCommit d w v) s = .next t ∧
        (t.is (F.TIM_SET_STATUS_PENDING d) = true) ∧
        ((t.timeSet d).map (·.value) = some (s.stagedTime d)) ∧
        (t.units.d0 = s.units.d0) ∧
        (t.get (F.TIM_SET_CTRL_AT_SECOND d) = getBits v 1 1) ∧
        (∀ a, ¬ ((inTime a) ∨ a = F.IMG_VOLATILE_WRITES_COUNT.addr ∨ inNotify a) → t.rd a = s.rd a) ∧
        t.force = s.force ∧
        t.flash = s.flash) ∧
  (∀ (s : State) (d w : Nat) (v : Word),
      (d = 2 ∨ d = 3) → (getBits v 0 0 = 1) → (getBits v 1 1 = 0) → (s.timeSet d = none) → (s.setResult d w v = 0) → 
      ∃ t, exec (.timSetCommit d w v) s = .next t ∧
        (t.domainNow d = s.stagedTime d) ∧
        (t.is (F.TIM_SET_STATUS_PENDING d) = false) ∧
        (t.get (F.TIM_SET_STATUS_RESULT d) = 0) ∧
        (t.is (F.TIM_SET_STATUS_DONE d) = true) ∧
        (t.units.d0 = s.units.d0) ∧
        (∀ a, ¬ (inTime a ∨ inEvents a ∨ a = F.IMG_VOLATILE_WRITES_COUNT.addr) → t.rd a = s.rd a) ∧
        t.flash = s.flash) ∧
  (∀ (s : State) (d w : Nat) (v : Word),
      (getBits v 0 0 = 1) → (getBits v 1 1 = 0) → (s.timeSet 0 = none) → (s.setResult 0 w v = 0) → (s.takesSeconds 0 = true) → 
      ∃ t, exec (.timSetCommit 0 w v) s = .next t ∧
        (t.units.d0 = s.stagedTime 0) ∧
        (t.is F.TIM_STATUS_SECONDS_SET = true) ∧
        (t.servo = 3) ∧
        (t.is (F.TIM_SET_STATUS_DONE 0) = true) ∧
        (∀ a, ¬ (inTime a ∨ inEvents a ∨ a = F.IMG_VOLATILE_WRITES_COUNT.addr) → t.rd a = s.rd a) ∧
        t.flash = s.flash) ∧
  (∀ (s : State) (d : Nat) (c : TimeSet),
      (s.timeSet d = some c) → (d = 2 ∨ d = 3) → (c.edge = false) → ((c.at_ : Int) ≤ s.domainNow d) → (s.domainNow d - c.at_ ≤ s.units.d0) → 
      ∃ t, exec (.timSetApply d) s = .next t ∧
        (t.timeSet d = none) ∧
        (t.is (F.TIM_SET_STATUS_PENDING d) = false) ∧
        (t.get (F.TIM_SET_STATUS_RESULT d) = 0) ∧
        (t.is (F.TIM_SET_STATUS_DONE d) = true) ∧
        (t.domainOff d (s.units.d0 - (s.domainNow d - c.at_).toNat) = c.value - (s.units.d0 - (s.domainNow d - c.at_))) ∧
        (∀ a, ¬ (inTime a ∨ inEvents a) → t.rd a = s.rd a) ∧
        t.flash = s.flash) ∧
  (∀ (s : State) (d : Nat) (c : TimeSet) (e : Int),
      (s.timeSet d = some c) → (d = 2 ∨ d = 3) → (c.edge = true) → (c.met = some e) → 
      ∃ t, exec (.timSetApply d) s = .next t ∧
        (t.timeSet d = none) ∧
        (t.is (F.TIM_SET_STATUS_PENDING d) = false) ∧
        (t.get (F.TIM_SET_STATUS_RESULT d) = 0) ∧
        (t.is (F.TIM_SET_STATUS_DONE d) = true) ∧
        (∀ a, ¬ (inTime a ∨ inEvents a) → t.rd a = s.rd a) ∧
        t.flash = s.flash) ∧
  (∀ (s : State) (d w : Nat) (v : Word),
      (4 ≤ d ∨ getBits v 0 0 = 0) → (s.get F.IMG_VOLATILE_WRITES_COUNT + 1 < 2 ^ 47) → 
      ∃ t, exec (.timSetCommit d w v) s = .next t ∧
        (t.units = s.units) ∧
        (t.keep = s.keep) ∧
        (t.force = s.force) ∧
        (t.out = s.out) ∧
        (∀ a, ¬ (a = F.IMG_VOLATILE_WRITES_COUNT.addr) → t.rd a = s.rd a) ∧
        t.flash = s.flash) ∧
  (∀ (s : State) (d : Nat),
      (s.timeSet d = none) → exec (.timSetApply d) s = .next s) ∧
  (∀ (s : State) (w : Nat) (v : Word),
      (getBits v 0 0 = 1) → (w ≠ 0) → 
      ∃ t, exec (.reacquire w v) s = .next t ∧
        (t.is F.TIM_STATUS_WRITE_LOST = true) ∧
        (t.units.time = s.units.time) ∧
        (∀ a, ¬ (a = F.TIM_STATUS_WRITE_LOST.addr ∨ a = F.IMG_VOLATILE_WRITES_COUNT.addr ∨ inNotify a) → t.rd a = s.rd a) ∧
        t.force = s.force ∧
        t.flash = s.flash) ∧
  (∀ (s : State) (w : Nat) (v : Word),
      (getBits v 0 0 = 1) → (w = 0) → (getBits v 31 16 = 0xA5C3) → (s.up = true) → 
      ∃ t, exec (.reacquire w v) s = .next t ∧
        (t.servo = 1) ∧
        (t.source 0 = if s.timePort (s.parent 0) then s.parent 0 else 255) ∧
        (t.is F.TIM_STATUS_D0_FROM_D1 = false) ∧
        (t.units.time.inst0.offsets = []) ∧
        (t.is F.TIM_CTRL_REVERT = (getBits v 2 2 == 1)) ∧
        (t.units.d0 = s.units.d0) ∧
        (∀ a, ¬ (inTime a ∨ inEvents a ∨ a = F.IMG_VOLATILE_WRITES_COUNT.addr) → t.rd a = s.rd a) ∧
        t.flash = s.flash) ∧
  (∀ (s : State) (w : Nat) (v : Word),
      (getBits v 0 0 = 0) → (s.up = false) → (s.get F.IMG_VOLATILE_WRITES_COUNT + 1 < 2 ^ 47) → 
      ∃ t, exec (.reacquire w v) s = .next t ∧
        (t.units = s.units) ∧
        (t.keep = s.keep) ∧
        (t.force = s.force) ∧
        (t.out = s.out) ∧
        (∀ a, ¬ (a = F.IMG_VOLATILE_WRITES_COUNT.addr) → t.rd a = s.rd a) ∧
        t.flash = s.flash) ∧
  (∀ (s : State) (w : Nat) (v : Word),
      (getBits v 1 1 = 1) → (w = 0) → (getBits v 31 16 = 0xA5C3) → (getBits v 0 0 = 0) → (s.servo = 3) → (s.source 0 < 8) → (s.reacquires = false) → (s.source 1 < 8) → (2 ≤ s.tq 1) → (s.d1LossPending = false) → 
      ∃ t, exec (.forceD1 w v) s = .next t ∧
        (t.servo = 5) ∧
        (t.source 0 = s.source 1) ∧
        (t.is F.TIM_STATUS_D0_FROM_D1 = true) ∧
        (t.get (F.TIM_SWITCHES_C) = (s.get (F.TIM_SWITCHES_C) + 1) % 2 ^ 48) ∧
        (∀ a, ¬ (inTime a ∨ inEvents a ∨ a = F.IMG_VOLATILE_WRITES_COUNT.addr) → t.rd a = s.rd a) ∧
        t.flash = s.flash) ∧
  (∀ (s : State) (w : Nat) (v : Word),
      (getBits v 1 1 = 1) → (w = 0) → (getBits v 31 16 ≠ 0xA5C3) → 
      ∃ t, exec (.forceD1 w v) s = .next t ∧
        (t.servo = s.servo) ∧
        (t.units.time = s.units.time) ∧
        (t.get F.TIM_CTRL_D3_OWNER = getBits v 12 8) ∧
        (∀ a, ¬ (inTime a ∨ a = F.IMG_VOLATILE_WRITES_COUNT.addr ∨ inNotify a) → t.rd a = s.rd a) ∧
        t.force = s.force ∧
        t.flash = s.flash)

/-- CALIBRATION_START by T0 with the key and a legal target sets BUSY there and at its edge port and begins; refused, it gives RESULT and DONE; while BUSY it sets WRITE_LOST alone. One sample a second is taken until SAMPLES, and without them SAMPLES + 5 s after the start RESULT is 4. PULSE_ARM at least 1 µs ahead arms the pulse for its target; a later one sets LATE, fires at once and stays armed only with a period. A pulse that is due fires, and the next is one period on, or none. CANCEL disarms it. A PPS pin is served once a second of its domain, and pulses unless its TQ is 0. A frequency commit from 1 kHz to 650 MHz waits for the next D0 second, when the output starts or stops; any other gives RESULT 1, and one while another is pending sets WRITE_LOST. Writers other than T0 set WRITE_LOST. Registers outside the time block stay. -/
def Obligations.CalibrationsPulsesAndOutputs : Prop :=
  (∀ (s : State) (w : Nat) (v : Word),
      (getBits v 0 0 = 1) → (s.is F.TIM_CAL_STATUS_BUSY = false) → (s.calibrationResult w v = 0) → 
      ∃ t, exec (.calibrationStart w v) s = .next t ∧
        (t.is F.TIM_CAL_STATUS_BUSY = true) ∧
        (t.is (F.EDG_STATUS_CAL_BUSY (s.get F.TIM_CAL_CFG_EDGE_STOP)) = true) ∧
        (t.units.time.calibration = some { since := s.keep.elapsed, cfg := s.rd F.TIM_CAL_CFG_TARGET.addr }) ∧
        (t.get F.TIM_CAL_CTRL_APPLY = getBits v 1 1) ∧
        (∀ a, ¬ (a = F.TIM_CAL_CTRL_APPLY.addr ∨ a = F.TIM_CAL_STATUS_BUSY.addr ∨ a = (F.EDG_STATUS_CAL_BUSY (s.get F.TIM_CAL_CFG_EDGE_STOP)).addr ∨ a = F.IMG_VOLATILE_WRITES_COUNT.addr ∨ inNotify a) → t.rd a = s.rd a) ∧
        t.force = s.force ∧
        t.flash = s.flash) ∧
  (∀ (s : State) (w : Nat) (v : Word),
      (getBits v 0 0 = 1) → (s.is F.TIM_CAL_STATUS_BUSY = false) → (s.calibrationResult w v ≠ 0) → 
      ∃ t, exec (.calibrationStart w v) s = .next t ∧
        (t.get F.TIM_CAL_STATUS_RESULT = s.calibrationResult w v) ∧
        (t.is F.TIM_CAL_STATUS_DONE = true) ∧
        (t.units.time = s.units.time) ∧
        (∀ a, ¬ (a = F.TIM_CAL_STATUS_RESULT.addr ∨ a = F.IMG_VOLATILE_WRITES_COUNT.addr ∨ inNotify a) → t.rd a = s.rd a) ∧
        t.force = s.force ∧
        t.flash = s.flash) ∧
  (∀ (s : State) (w : Nat) (v : Word),
      (getBits v 0 0 = 1) → (s.is F.TIM_CAL_STATUS_BUSY = true) → 
      ∃ t, exec (.calibrationStart w v) s = .next t ∧
        (t.is F.TIM_STATUS_WRITE_LOST = true) ∧
        (t.units.time = s.units.time) ∧
        (∀ a, ¬ (a = F.TIM_STATUS_WRITE_LOST.addr ∨ a = F.IMG_VOLATILE_WRITES_COUNT.addr ∨ inNotify a) → t.rd a = s.rd a) ∧
        t.force = s.force ∧
        t.flash = s.flash) ∧
  (∀ (s : State) (n : Nat) (c : Calibration),
      (s.units.time.calibration = some c) → (s.is F.TIM_CAL_STATUS_BUSY = true) → (c.samples.length < c.at F.TIM_CAL_CFG_SAMPLES) → (c.last ≠ some (s.units.d0 / tickS)) → 
      ∃ t, exec (.calibrationSample n) s = .next t ∧
        (t.units.time.calibration = some { c with samples := c.theta n :: c.samples, last := some (s.units.d0 / tickS) }) ∧
        (t.regs = s.regs) ∧
        (t.out = s.out) ∧
        t.force = s.force ∧
        t.flash = s.flash) ∧
  (∀ (s : State) (n : Nat),
      (s.units.time.calibration = none ∨ s.is F.TIM_CAL_STATUS_BUSY = false) → exec (.calibrationSample n) s = .next s) ∧
  (∀ (s : State) (c : Calibration),
      (s.units.time.calibration = some c) → (c.samples.length < c.at F.TIM_CAL_CFG_SAMPLES) → (s.passed c.since (c.at F.TIM_CAL_CFG_SAMPLES + 5) = true) → 
      ∃ t, exec (.calibrationDone) s = .next t ∧
        (t.get F.TIM_CAL_STATUS_RESULT = 4) ∧
        (t.is F.TIM_CAL_STATUS_BUSY = false) ∧
        (t.is F.TIM_CAL_STATUS_DONE = true) ∧
        (t.units.time.calibration = none) ∧
        (∀ a, ¬ (a = F.TIM_CAL_STATUS_BUSY.addr ∨ a = (F.EDG_STATUS_CAL_BUSY (c.at F.TIM_CAL_CFG_EDGE_STOP)).addr) → t.rd a = s.rd a) ∧
        t.force = s.force ∧
        t.flash = s.flash) ∧
  (∀ (s : State) (c : Calibration),
      (s.units.time.calibration = some c) → (c.at F.TIM_CAL_CFG_SAMPLES ≤ c.samples.length) → (-2147483648 ≤ mean c.samples) → (mean c.samples < 2147483648) → (spread c.samples * 1000 ≤ 5 * 262144) → (s.is F.TIM_CAL_CTRL_APPLY = false) → 
      ∃ t, exec (.calibrationDone) s = .next t ∧
        (t.get F.TIM_CAL_STATUS_RESULT = 0) ∧
        (t.get F.TIM_CAL_RESULT_THETA = enc 32 (mean c.samples)) ∧
        (t.get F.TIM_CAL_RESULT_SPREAD = spread c.samples) ∧
        (t.is F.TIM_CAL_STATUS_DONE = true) ∧
        (t.units.time.calibration = none) ∧
        (∀ a, ¬ (inTime a ∨ a = (F.EDG_STATUS_CAL_BUSY (c.at F.TIM_CAL_CFG_EDGE_STOP)).addr) → t.rd a = s.rd a) ∧
        t.force = s.force ∧
        t.flash = s.flash) ∧
  (∀ (s : State),
      (s.units.time.calibration = none) → exec (.calibrationDone) s = .next s) ∧
  (∀ (s : State) (k w : Nat) (v : Word),
      (k < 4) → (s.up = true) → (getBits v 0 0 = 1) → (w = 0) → ((tickUs : Int) ≤ dif (s.get (F.TIM_PULSE_TARGET_TARGET k)) s.now) → (s.get F.IMG_VOLATILE_WRITES_COUNT + 1 < 2 ^ 47) → 
      ∃ t, exec (.pulseArm k w v) s = .next t ∧
        (t.is (F.TIM_PULSE_STATUS_ARMED k) = true) ∧
        (t.pulseNext k = s.get (F.TIM_PULSE_TARGET_TARGET k)) ∧
        (t.out = s.out) ∧
        (∀ a, ¬ (a = (F.TIM_PULSE_STATUS_ARMED k).addr ∨ a = F.IMG_VOLATILE_WRITES_COUNT.addr) → t.rd a = s.rd a) ∧
        t.force = s.force ∧
        t.flash = s.flash) ∧
  (∀ (s : State) (k w : Nat) (v : Word),
      (k < 4) → (s.up = true) → (getBits v 0 0 = 1) → (w = 0) → (dif (s.get (F.TIM_PULSE_TARGET_TARGET k)) s.now < (tickUs : Int)) → 
      ∃ t, exec (.pulseArm k w v) s = .next t ∧
        (t.is (F.TIM_PULSE_STATUS_ARMED k) = (s.get (F.TIM_PULSE_SHAPE_PERIOD_NS k) != 0)) ∧
        (t.is (F.TIM_PULSE_STATUS_LATE k) = true) ∧
        (t.is (F.TIM_PULSE_STATUS_FIRED k) = true) ∧
        (∀ a, ¬ (a = (F.TIM_PULSE_STATUS_ARMED k).addr ∨ a = F.IMG_VOLATILE_WRITES_COUNT.addr ∨ 0x08000000 ≤ a) → t.rd a = s.rd a) ∧
        t.force = s.force ∧
        t.flash = s.flash) ∧
  (∀ (s : State) (k w : Nat) (v : Word),
      (k < 4) → (s.up = true) → (getBits v 0 0 = 1) → (w ≠ 0) → (s.get F.IMG_VOLATILE_WRITES_COUNT + 1 < 2 ^ 47) → 
      ∃ t, exec (.pulseArm k w v) s = .next t ∧
        (t.is F.TIM_STATUS_WRITE_LOST = true) ∧
        (t.units = s.units) ∧
        (t.out = s.out) ∧
        (∀ a, ¬ (a = F.TIM_STATUS_WRITE_LOST.addr ∨ a = F.IMG_VOLATILE_WRITES_COUNT.addr) → t.rd a = s.rd a) ∧
        t.force = s.force ∧
        t.flash = s.flash) ∧
  (∀ (s : State) (k w : Nat) (v : Word),
      (4 ≤ k ∨ s.up = false ∨ getBits v 0 0 = 0) → (s.get F.IMG_VOLATILE_WRITES_COUNT + 1 < 2 ^ 47) → 
      ∃ t, exec (.pulseArm k w v) s = .next t ∧
        (t.units = s.units) ∧
        (t.keep = s.keep) ∧
        (t.force = s.force) ∧
        (t.out = s.out) ∧
        (∀ a, ¬ (a = F.IMG_VOLATILE_WRITES_COUNT.addr) → t.rd a = s.rd a) ∧
        t.flash = s.flash) ∧
  (∀ (s : State) (k : Nat),
      (k < 4) → (s.is (F.TIM_PULSE_STATUS_ARMED k) = true) → (0 ≤ dif s.now (s.pulseNext k)) → 
      ∃ t, exec (.pulseFire k) s = .next t ∧
        (t.is (F.TIM_PULSE_STATUS_FIRED k) = true) ∧
        (t.is (F.TIM_PULSE_STATUS_ARMED k) = (s.get (F.TIM_PULSE_SHAPE_PERIOD_NS k) != 0)) ∧
        (s.get (F.TIM_PULSE_SHAPE_PERIOD_NS k) ≠ 0 → t.pulseNext k = (s.pulseNext k + s.get (F.TIM_PULSE_SHAPE_PERIOD_NS k) * tickNs) % 2 ^ 64) ∧
        (t.out = s.out ++ (if s.up && s.get (F.UTL_CFG_FUNCTION (12 + k)) = 5 && !s.is (F.UTL_STATUS_GUARD (12 + k)) && !s.is (F.UTL_STATUS_TRIPPED (12 + k)) && !s.is (F.UTL_STATUS_LATCHED (12 + k)) then [.pin 1 (12 + k) .high (s.get (F.TIM_PULSE_SHAPE_WIDTH_NS k))] else [])) ∧
        (∀ a, ¬ (a = (F.TIM_PULSE_STATUS_ARMED k).addr) → t.rd a = s.rd a) ∧
        t.force = s.force ∧
        t.flash = s.flash) ∧
  (∀ (s : State) (k : Nat),
      (4 ≤ k ∨ s.is (F.TIM_PULSE_STATUS_ARMED k) = false ∨ dif s.now (s.pulseNext k) < 0) → exec (.pulseFire k) s = .next s) ∧
  (∀ (s : State) (k w : Nat) (v : Word),
      (k < 4) → (getBits v 1 1 = 1) → (w = 0) → (s.get F.IMG_VOLATILE_WRITES_COUNT + 1 < 2 ^ 47) → 
      ∃ t, exec (.pulseCancel k w v) s = .next t ∧
        (t.is (F.TIM_PULSE_STATUS_ARMED k) = false) ∧
        (t.units = s.units) ∧
        (t.out = s.out) ∧
        (∀ a, ¬ (a = (F.TIM_PULSE_STATUS_ARMED k).addr ∨ a = F.IMG_VOLATILE_WRITES_COUNT.addr) → t.rd a = s.rd a) ∧
        t.force = s.force ∧
        t.flash = s.flash) ∧
  (∀ (s : State) (k w : Nat) (v : Word),
      (4 ≤ k ∨ getBits v 1 1 = 0) → (s.get F.IMG_VOLATILE_WRITES_COUNT + 1 < 2 ^ 47) → 
      ∃ t, exec (.pulseCancel k w v) s = .next t ∧
        (t.units = s.units) ∧
        (t.keep = s.keep) ∧
        (t.force = s.force) ∧
        (t.out = s.out) ∧
        (∀ a, ¬ (a = F.IMG_VOLATILE_WRITES_COUNT.addr) → t.rd a = s.rd a) ∧
        t.flash = s.flash) ∧
  (∀ (s : State) (d : Nat),
      (d < 4) → (s.up = true) → (Sparse.get (fun _ => 0) s.units.time.ppsOut d ≠ (s.domainNow d / (tickS : Nat)).toNat + 1) → 
      ∃ t, exec (.ppsOutput d) s = .next t ∧
        (Sparse.get (fun _ => 0) t.units.time.ppsOut d = (s.domainNow d / (tickS : Nat)).toNat + 1) ∧
        (t.regs = s.regs) ∧
        (t.out = s.out ++ (if s.domainTq d ≠ 0 && s.get (F.UTL_CFG_FUNCTION (8 + d)) = 4 && !s.is (F.UTL_STATUS_GUARD (8 + d)) && !s.is (F.UTL_STATUS_TRIPPED (8 + d)) && !s.is (F.UTL_STATUS_LATCHED (8 + d)) then [.pin 1 (8 + d) .high (1000 * s.get F.TIM_PPS_CFG_WIDTH_US)] else [])) ∧
        t.force = s.force ∧
        t.flash = s.flash) ∧
  (∀ (s : State) (d : Nat),
      (4 ≤ d ∨ s.up = false ∨ Sparse.get (fun _ => 0) s.units.time.ppsOut d = (s.domainNow d / (tickS : Nat)).toNat + 1) → exec (.ppsOutput d) s = .next s) ∧
  (∀ (s : State) (k w : Nat) (v : Word),
      (k < 4) → (s.up = true) → (getBits v 0 0 = 1) → (w = 0) → (s.is (F.TIM_FOUT_STATUS_PENDING k) = false) → (foutOk (s.get (F.TIM_FOUT_CFG_FREQ k)) = true) → (s.get F.IMG_VOLATILE_WRITES_COUNT + 1 < 2 ^ 47) → 
      ∃ t, exec (.foutCommit k w v) s = .next t ∧
        (t.is (F.TIM_FOUT_STATUS_PENDING k) = true) ∧
        (t.is (F.TIM_FOUT_CTRL_COMMIT k) = true) ∧
        (Sparse.get (fun _ => 0) t.units.time.foutDue k = s.units.d0 / tickS + 1) ∧
        (t.out = s.out) ∧
        (∀ a, ¬ (a = (F.TIM_FOUT_CTRL_COMMIT k).addr ∨ a = (F.TIM_FOUT_STATUS_PENDING k).addr ∨ a = F.IMG_VOLATILE_WRITES_COUNT.addr) → t.rd a = s.rd a) ∧
        t.force = s.force ∧
        t.flash = s.flash) ∧
  (∀ (s : State) (k w : Nat) (v : Word),
      (k < 4) → (s.up = true) → (getBits v 0 0 = 1) → (w = 0) → (s.is (F.TIM_FOUT_STATUS_PENDING k) = false) → (foutOk (s.get (F.TIM_FOUT_CFG_FREQ k)) = false) → (s.get F.IMG_VOLATILE_WRITES_COUNT + 1 < 2 ^ 47) → 
      ∃ t, exec (.foutCommit k w v) s = .next t ∧
        (t.get (F.TIM_FOUT_STATUS_RESULT k) = 1) ∧
        (t.units = s.units) ∧
        (∀ a, ¬ (a = (F.TIM_FOUT_STATUS_RESULT k).addr ∨ a = F.IMG_VOLATILE_WRITES_COUNT.addr) → t.rd a = s.rd a) ∧
        t.force = s.force ∧
        t.flash = s.flash) ∧
  (∀ (s : State) (k w : Nat) (v : Word),
      (k < 4) → (s.up = true) → (getBits v 0 0 = 1) → (w ≠ 0 ∨ s.is (F.TIM_FOUT_STATUS_PENDING k) = true) → (s.is (F.TIM_FOUT_STATUS_PENDING k) = true → s.units.d0 / tickS < Sparse.get (fun _ => 0) s.units.time.foutDue k) → (s.get F.IMG_VOLATILE_WRITES_COUNT + 1 < 2 ^ 47) → 
      ∃ t, exec (.foutCommit k w v) s = .next t ∧
        (t.is F.TIM_STATUS_WRITE_LOST = true) ∧
        (t.units = s.units) ∧
        (∀ a, ¬ (a = F.TIM_STATUS_WRITE_LOST.addr ∨ a = F.IMG_VOLATILE_WRITES_COUNT.addr) → t.rd a = s.rd a) ∧
        t.force = s.force ∧
        t.flash = s.flash) ∧
  (∀ (s : State) (k w : Nat) (v : Word),
      (4 ≤ k ∨ (s.up = false ∧ s.is (F.TIM_FOUT_STATUS_PENDING k) = false) ∨ getBits v 0 0 = 0) → (s.get F.IMG_VOLATILE_WRITES_COUNT + 1 < 2 ^ 47) → 
      ∃ t, exec (.foutCommit k w v) s = .next t ∧
        (t.units = s.units) ∧
        (t.keep = s.keep) ∧
        (t.force = s.force) ∧
        (t.out = s.out) ∧
        (∀ a, ¬ (a = F.IMG_VOLATILE_WRITES_COUNT.addr) → t.rd a = s.rd a) ∧
        t.flash = s.flash) ∧
  (∀ (s : State) (k : Nat),
      (k < 4) → (s.is (F.TIM_FOUT_STATUS_PENDING k) = true) → (Sparse.get (fun _ => 0) s.units.time.foutDue k ≤ s.units.d0 / tickS) → 
      ∃ t, exec (.foutApply k) s = .next t ∧
        (t.is (F.TIM_FOUT_STATUS_PENDING k) = false) ∧
        (t.is (F.TIM_FOUT_CTRL_COMMIT k) = false) ∧
        (t.get (F.TIM_FOUT_STATUS_RESULT k) = 0) ∧
        (t.get (F.TIM_FOUT_STATUS_ACTIVE k) = s.get (F.TIM_FOUT_CFG_ENABLE k)) ∧
        (t.rdForce (F.TIM_FOUT_CFG_ENABLE k).addr = s.rd (F.TIM_FOUT_CFG_ENABLE k).addr) ∧
        (t.out = s.out ++ [if s.is (F.TIM_FOUT_CFG_ENABLE k) then .pin 3 k .high (s.get (F.TIM_FOUT_CFG_FREQ k)) else .pin 3 k .low 0]) ∧
        (∀ a, ¬ (a = (F.TIM_FOUT_CTRL_COMMIT k).addr ∨ a = (F.TIM_FOUT_STATUS_PENDING k).addr) → t.rd a = s.rd a) ∧
        t.flash = s.flash) ∧
  (∀ (s : State) (k : Nat),
      (4 ≤ k ∨ s.is (F.TIM_FOUT_STATUS_PENDING k) = false ∨ s.units.d0 / tickS < Sparse.get (fun _ => 0) s.units.time.foutDue k) → exec (.foutApply k) s = .next s)

/-- A start edge of an armed unit is taken with its time, an unarmed or calibrating one counts as missed; a stop edge ends a started measurement at or after its start. 600 ns after the stop the result is shown: start stamp, interval (0 without a stop selector), RESULT_NEW, RESULTS, and ARMED only with CONTINUOUS; 2^40 cycles of 0.8 ns without a stop give interval 0 and OVERFLOW. ARM, DISARM and OUT_ARM by a tenant with the right set their bits, others set WRITE_LOST; an output due now gives its pulse. A legal EDG_CFG is taken, an illegal one is refused whole. A scan at its second boundary converts the enabled channels in order; a conversion stores its reading and time, a noisy one is repeated once (the end of a measurement at its dead time is deduced: log entry 70). Registers outside the port or channel stay, but for what an event touches. A row without its condition does nothing (log entry 7). -/
def Obligations.EdgeUnitsAndChannels : Prop :=
  (∀ (s : State) (p x : Nat),
      (p < 16) → (s.edgeLive (s.get (F.EDG_CFG_START_SEL p)) = true) → (s.is (F.EDG_STATUS_CAL_BUSY p) = false) → (s.is (F.EDG_STATUS_ARMED p) = true) → (s.win.stops.find? (fun e => e.1 = p) = none ∨ s.get (F.EDG_CFG_STOP_SEL p) = 0xFF) → 
      ∃ t, exec (.edgeStart p x) s = .next t ∧
        ((t.edge p).start = x) ∧
        ((t.edge p).stop = x) ∧
        (t.is (F.EDG_STATUS_ARMED p) = false) ∧
        (t.is (F.EDG_STATUS_STARTED p) = (s.get (F.EDG_CFG_STOP_SEL p) != 0xFF || s.is (F.EDG_STATUS_STARTED p))) ∧
        (s.get (F.EDG_CFG_STOP_SEL p) = 0xFF → (t.edge p).resultAt = some (s.keep.elapsed + deadTime)) ∧
        (∀ a, ¬ (a = (F.EDG_STATUS_ARMED p).addr ∨ a = F.GEY_DEVICE_EXT_LATE_C.addr ∨ inNotify a) → t.rd a = s.rd a) ∧
        t.force = s.force ∧
        t.flash = s.flash) ∧
  (∀ (s : State) (p x : Nat) (y : Nat × Nat),
      (p < 16) → (s.edgeLive (s.get (F.EDG_CFG_START_SEL p)) = true) → (s.is (F.EDG_STATUS_CAL_BUSY p) = false) → (s.is (F.EDG_STATUS_ARMED p) = true) → (s.win.stops.find? (fun e => e.1 = p) = some y) → (s.get (F.EDG_CFG_STOP_SEL p) ≠ 0xFF) → 
      ∃ t, exec (.edgeStart p x) s = .next t ∧
        ((t.edge p).start = x) ∧
        ((t.edge p).stop = max x y.2) ∧
        (t.is (F.EDG_STATUS_ARMED p) = false) ∧
        (t.is (F.EDG_STATUS_STARTED p) = false) ∧
        ((t.edge p).resultAt = some (s.keep.elapsed + deadTime)) ∧
        (∀ a, ¬ (a = (F.EDG_STATUS_ARMED p).addr ∨ a = F.GEY_DEVICE_EXT_LATE_C.addr ∨ inNotify a) → t.rd a = s.rd a) ∧
        t.force = s.force ∧
        t.flash = s.flash) ∧
  (∀ (s : State) (p x : Nat),
      (p < 16) → (s.edgeLive (s.get (F.EDG_CFG_START_SEL p)) = true) → (s.is (F.EDG_STATUS_CAL_BUSY p) = true ∨ (s.is (F.EDG_STATUS_ARMED p) = false ∧ s.is (F.EDG_STATUS_STARTED p) = false ∧ s.rearmPending p = false ∧ s.armPending p = false)) → 
      ∃ t, exec (.edgeStart p x) s = .next t ∧
        (t.get (F.EDG_MISSED_C p) = (s.get (F.EDG_MISSED_C p) + 1) % 2 ^ 48) ∧
        (t.units.edges = s.units.edges) ∧
        (∀ a, ¬ (a = (F.EDG_MISSED_C p).addr ∨ inNotify a) → t.rd a = s.rd a) ∧
        t.force = s.force ∧
        t.flash = s.flash) ∧
  (∀ (s : State) (p x : Nat),
      (16 ≤ p ∨ s.edgeLive (s.get (F.EDG_CFG_START_SEL p)) = false) → exec (.edgeStart p x) s = .next s) ∧
  (∀ (s : State) (p x : Nat),
      (p < 16) → (s.get (F.EDG_CFG_STOP_SEL p) ≠ 0xFF) → (s.edgeLive (s.get (F.EDG_CFG_STOP_SEL p)) = true) → (s.is (F.EDG_STATUS_CAL_BUSY p) = false) → (s.is (F.EDG_STATUS_STARTED p) = true) → 
      ∃ t, exec (.edgeStop p x) s = .next t ∧
        ((t.edge p).stop = max (s.edge p).start x) ∧
        ((t.edge p).resultAt = some (s.keep.elapsed + deadTime)) ∧
        (t.is (F.EDG_STATUS_STARTED p) = false) ∧
        (∀ a, ¬ (a = (F.EDG_STATUS_STARTED p).addr) → t.rd a = s.rd a) ∧
        t.force = s.force ∧
        t.flash = s.flash) ∧
  (∀ (s : State) (p x : Nat),
      (p < 16) → (s.get (F.EDG_CFG_STOP_SEL p) ≠ 0xFF) → (s.edgeLive (s.get (F.EDG_CFG_STOP_SEL p)) = true) → (s.is (F.EDG_STATUS_CAL_BUSY p) = true ∨ (s.is (F.EDG_STATUS_STARTED p) = false ∧ s.is (F.EDG_STATUS_ARMED p) = false ∧ s.rearmPending p = false ∧ s.armPending p = false)) → 
      ∃ t, exec (.edgeStop p x) s = .next t ∧
        (t.get (F.EDG_MISSED_C p) = (s.get (F.EDG_MISSED_C p) + 1) % 2 ^ 48) ∧
        (t.units.edges = s.units.edges) ∧
        (∀ a, ¬ (a = (F.EDG_MISSED_C p).addr ∨ inNotify a) → t.rd a = s.rd a) ∧
        t.force = s.force ∧
        t.flash = s.flash) ∧
  (∀ (s : State) (p x : Nat),
      (p < 16) → (s.get (F.EDG_CFG_STOP_SEL p) ≠ 0xFF) → (s.edgeLive (s.get (F.EDG_CFG_STOP_SEL p)) = true) → (s.is (F.EDG_STATUS_CAL_BUSY p) = false) → (s.is (F.EDG_STATUS_STARTED p) = false) → (s.is (F.EDG_STATUS_ARMED p) = true) → 
      ∃ t, exec (.edgeStop p x) s = .next t ∧
        (t = { s with win := { s.win with stops := (p, x) :: s.win.stops } }) ∧
        t.flash = s.flash) ∧
  (∀ (s : State) (p x : Nat),
      (16 ≤ p ∨ s.get (F.EDG_CFG_STOP_SEL p) = 0xFF ∨ s.edgeLive (s.get (F.EDG_CFG_STOP_SEL p)) = false) → exec (.edgeStop p x) s = .next s) ∧
  (∀ (s : State) (p : Nat),
      (p < 16) → (s.resultDue p = true) → 
      ∃ t, exec (.measurementResult p) s = .next t ∧
        (t.get (F.EDG_START_STAMP p) = ((s.edge p).start + 128) / 256 % 2 ^ 64) ∧
        (t.is (F.EDG_STATUS_RESULT_NEW p) = true) ∧
        (t.get (F.EDG_RESULTS_C p) = (s.get (F.EDG_RESULTS_C p) + 1) % 2 ^ 48) ∧
        (t.is (F.EDG_STATUS_STARTED p) = false) ∧
        (t.is (F.EDG_STATUS_ARMED p) = s.is (F.EDG_CFG_CONTINUOUS p)) ∧
        ((t.edge p).resultAt = none) ∧
        (t.get (F.EDG_INTERVAL_INTERVAL p) = (if s.get (F.EDG_CFG_STOP_SEL p) = 0xFF then 0 else (s.edge p).stop - (s.edge p).start) % 2 ^ 64) ∧
        (∀ a, ¬ (inEdge p a ∨ inEvents a) → t.rd a = s.rd a) ∧
        t.flash = s.flash) ∧
  (∀ (s : State) (p : Nat),
      (s.resultDue p = false) → exec (.measurementResult p) s = .next s) ∧
  (∀ (s : State) (p : Nat),
      (p < 16) → (s.is (F.EDG_STATUS_STARTED p) = true) → (4 * 2 ^ 40 * tickNs ≤ 5 * (s.keep.elapsed - (s.edge p).startedAt)) → 
      ∃ t, exec (.intervalOverflow p) s = .next t ∧
        (t.get (F.EDG_START_STAMP p) = ((s.edge p).start + 128) / 256 % 2 ^ 64) ∧
        (t.is (F.EDG_STATUS_RESULT_NEW p) = true) ∧
        (t.get (F.EDG_RESULTS_C p) = (s.get (F.EDG_RESULTS_C p) + 1) % 2 ^ 48) ∧
        (t.is (F.EDG_STATUS_STARTED p) = false) ∧
        (t.is (F.EDG_STATUS_ARMED p) = s.is (F.EDG_CFG_CONTINUOUS p)) ∧
        ((t.edge p).resultAt = none) ∧
        (t.get (F.EDG_INTERVAL_INTERVAL p) = 0) ∧
        (t.is (F.EDG_STATUS_OVERFLOW p) = true) ∧
        (t.get (F.EDG_OVERFLOWS_C p) = (s.get (F.EDG_OVERFLOWS_C p) + 1) % 2 ^ 48) ∧
        (∀ a, ¬ (inEdge p a ∨ inEvents a) → t.rd a = s.rd a) ∧
        t.flash = s.flash) ∧
  (∀ (s : State) (p : Nat),
      (16 ≤ p ∨ s.is (F.EDG_STATUS_STARTED p) = false ∨ 5 * (s.keep.elapsed - (s.edge p).startedAt) < 4 * 2 ^ 40 * tickNs) → exec (.intervalOverflow p) s = .next s) ∧
  (∀ (s : State) (p w : Nat) (v : Word),
      (p < 16) → (getBits v 0 0 = 1) → (s.hasRight w 0x00080000 = true) → (s.is (F.EDG_STATUS_STARTED p) = false) → ((s.edge p).resultAt = none) → (s.get F.IMG_VOLATILE_WRITES_COUNT + 1 < 2 ^ 47) → 
      ∃ t, exec (.edgArm p w v) s = .next t ∧
        (t.is (F.EDG_STATUS_ARMED p) = true) ∧
        (t.units = s.units) ∧
        (∀ a, ¬ ((a = (F.EDG_STATUS_ARMED p).addr) ∨ a = F.IMG_VOLATILE_WRITES_COUNT.addr) → t.rd a = s.rd a) ∧
        t.force = s.force ∧
        t.flash = s.flash) ∧
  (∀ (s : State) (p w : Nat) (v : Word),
      (p < 16) → (getBits v 0 0 = 1) → (s.hasRight w 0x00080000 = false) → (s.get F.IMG_VOLATILE_WRITES_COUNT + 1 < 2 ^ 47) → 
      ∃ t, exec (.edgArm p w v) s = .next t ∧
        (t.is (F.EDG_STATUS_WRITE_LOST p) = true) ∧
        (t.is (F.EDG_STATUS_ARMED p) = s.is (F.EDG_STATUS_ARMED p)) ∧
        (t.units = s.units) ∧
        (∀ a, ¬ ((a = (F.EDG_STATUS_ARMED p).addr) ∨ a = F.IMG_VOLATILE_WRITES_COUNT.addr) → t.rd a = s.rd a) ∧
        t.force = s.force ∧
        t.flash = s.flash) ∧
  (∀ (s : State) (p w : Nat) (v : Word),
      (16 ≤ p ∨ getBits v 0 0 = 0) → (s.get F.IMG_VOLATILE_WRITES_COUNT + 1 < 2 ^ 47) → 
      ∃ t, exec (.edgArm p w v) s = .next t ∧
        (t.units = s.units) ∧
        (t.keep = s.keep) ∧
        (t.force = s.force) ∧
        (t.out = s.out) ∧
        (∀ a, ¬ (a = F.IMG_VOLATILE_WRITES_COUNT.addr) → t.rd a = s.rd a) ∧
        t.flash = s.flash) ∧
  (∀ (s : State) (p w : Nat) (v : Word),
      (p < 16) → (getBits v 1 1 = 1) → (s.hasRight w 0x00080000 = true) → (s.get F.IMG_VOLATILE_WRITES_COUNT + 1 < 2 ^ 47) → 
      ∃ t, exec (.edgDisarm p w v) s = .next t ∧
        (t.is (F.EDG_STATUS_ARMED p) = false) ∧
        (t.is (F.EDG_STATUS_STARTED p) = false) ∧
        (t.is (F.EDG_STATUS_OUT_ARMED p) = false) ∧
        ((t.edge p).resultAt = none) ∧
        (∀ a, ¬ ((a = (F.EDG_STATUS_ARMED p).addr) ∨ a = F.IMG_VOLATILE_WRITES_COUNT.addr) → t.rd a = s.rd a) ∧
        t.force = s.force ∧
        t.flash = s.flash) ∧
  (∀ (s : State) (p w : Nat) (v : Word),
      (16 ≤ p ∨ getBits v 1 1 = 0) → (s.get F.IMG_VOLATILE_WRITES_COUNT + 1 < 2 ^ 47) → 
      ∃ t, exec (.edgDisarm p w v) s = .next t ∧
        (t.units = s.units) ∧
        (t.keep = s.keep) ∧
        (t.force = s.force) ∧
        (t.out = s.out) ∧
        (∀ a, ¬ (a = F.IMG_VOLATILE_WRITES_COUNT.addr) → t.rd a = s.rd a) ∧
        t.flash = s.flash) ∧
  (∀ (s : State) (p w : Nat) (v : Word),
      (p < 16) → (getBits v 2 2 = 1) → (s.hasRight w 0x00080000 = true) → (s.get (F.EDG_CFG_IO p) = 3) → ((tickUs : Int) ≤ dif (s.get (F.EDG_OUT_TIME_TIME p)) s.now) → (s.get F.IMG_VOLATILE_WRITES_COUNT + 1 < 2 ^ 47) → 
      ∃ t, exec (.outArm p w v) s = .next t ∧
        (t.is (F.EDG_STATUS_OUT_ARMED p) = true) ∧
        ((t.edge p).nextOut = s.get (F.EDG_OUT_TIME_TIME p)) ∧
        (t.out = s.out) ∧
        (∀ a, ¬ ((a = (F.EDG_STATUS_ARMED p).addr) ∨ a = F.IMG_VOLATILE_WRITES_COUNT.addr) → t.rd a = s.rd a) ∧
        t.force = s.force ∧
        t.flash = s.flash) ∧
  (∀ (s : State) (p w : Nat) (v : Word),
      (p < 16) → (getBits v 2 2 = 1) → (s.hasRight w 0x00080000 = true) → (s.get (F.EDG_CFG_IO p) = 3) → (dif (s.get (F.EDG_OUT_TIME_TIME p)) s.now < (tickUs : Int)) → (s.get F.IMG_VOLATILE_WRITES_COUNT + 1 < 2 ^ 47) → 
      ∃ t, exec (.outArm p w v) s = .next t ∧
        (t.is (F.EDG_STATUS_OUT_LATE p) = true) ∧
        (t.is (F.EDG_STATUS_OUT_ARMED p) = (s.get (F.EDG_OUT_SHAPE_PERIOD_NS p) != 0)) ∧
        (t.out = s.out) ∧
        (∀ a, ¬ ((a = (F.EDG_STATUS_ARMED p).addr) ∨ a = F.IMG_VOLATILE_WRITES_COUNT.addr) → t.rd a = s.rd a) ∧
        t.force = s.force ∧
        t.flash = s.flash) ∧
  (∀ (s : State) (p w : Nat) (v : Word),
      (16 ≤ p ∨ getBits v 2 2 = 0 ∨ (s.hasRight w 0x00080000 = true ∧ s.get (F.EDG_CFG_IO p) ≠ 3)) → (s.get F.IMG_VOLATILE_WRITES_COUNT + 1 < 2 ^ 47) → 
      ∃ t, exec (.outArm p w v) s = .next t ∧
        (t.units = s.units) ∧
        (t.keep = s.keep) ∧
        (t.force = s.force) ∧
        (t.out = s.out) ∧
        (∀ a, ¬ (a = F.IMG_VOLATILE_WRITES_COUNT.addr) → t.rd a = s.rd a) ∧
        t.flash = s.flash) ∧
  (∀ (s : State) (p : Nat),
      (p < 16) → (s.up = true) → (s.is (F.EDG_STATUS_OUT_ARMED p) = true) → (s.get (F.EDG_CFG_IO p) = 3) → (0 ≤ dif s.now (s.edge p).nextOut) → 
      ∃ t, exec (.edgeOutputLaunch p) s = .next t ∧
        (t.out = s.out ++ [.pin 0 p .high (s.get (F.EDG_OUT_SHAPE_WIDTH_NS p))]) ∧
        (t.is (F.EDG_STATUS_OUT_ARMED p) = (s.get (F.EDG_OUT_SHAPE_PERIOD_NS p) != 0)) ∧
        (s.get (F.EDG_OUT_SHAPE_PERIOD_NS p) ≠ 0 → (t.edge p).nextOut = ((s.edge p).nextOut + s.get (F.EDG_OUT_SHAPE_PERIOD_NS p) * tickNs) % 2 ^ 64) ∧
        (∀ a, ¬ ((a = (F.EDG_STATUS_ARMED p).addr)) → t.rd a = s.rd a) ∧
        t.force = s.force ∧
        t.flash = s.flash) ∧
  (∀ (s : State) (p : Nat),
      (16 ≤ p ∨ s.up = false ∨ s.is (F.EDG_STATUS_OUT_ARMED p) = false ∨ s.get (F.EDG_CFG_IO p) ≠ 3 ∨ dif s.now (s.edge p).nextOut < 0) → exec (.edgeOutputLaunch p) s = .next s) ∧
  (∀ (s : State) (u : Nat),
      (u < 21) → (16 ≤ u ∨ (s.is (F.EDG_STATUS_ARMED u) = false ∧ s.is (F.EDG_STATUS_STARTED u) = false ∧ (s.edge u).resultAt = none)) → 
      ∃ t, exec (.ringCalibration u) s = .next t ∧
        (t.edge u = { s.edge u with calAt := s.keep.elapsed }) ∧
        (t.regs = s.regs) ∧
        (t.out = s.out) ∧
        t.force = s.force ∧
        t.flash = s.flash) ∧
  (∀ (s : State) (u : Nat),
      (21 ≤ u ∨ (u < 16 ∧ (s.is (F.EDG_STATUS_ARMED u) = true ∨ s.is (F.EDG_STATUS_STARTED u) = true ∨ (s.edge u).resultAt ≠ none))) → exec (.ringCalibration u) s = .next s) ∧
  (∀ (s : State) (p w : Nat) (v : Word),
      (p < 16) → (s.hasRight w 0x00080000 = true) → (edgeSelector (getBits v 23 16) = true) → (edgeSelector (getBits v 15 8) = true ∨ getBits v 15 8 = 0xFF) → 
      ∃ t, exec (.edgCfgWrite p w v) s = .next t ∧
        (t.get (F.EDG_CFG_IO p) = getBits v 31 30) ∧
        (t.get (F.EDG_CFG_INVERT p) = getBits v 29 29) ∧
        (t.get (F.EDG_CFG_CONTINUOUS p) = getBits v 28 28) ∧
        (t.get (F.EDG_CFG_EVENT_EN p) = getBits v 27 27) ∧
        (t.get (F.EDG_CFG_START_SEL p) = getBits v 23 16) ∧
        (t.get (F.EDG_CFG_STOP_SEL p) = getBits v 15 8) ∧
        (t.units.edges = s.units.edges) ∧
        (∀ a, ¬ (a = (F.EDG_CFG_IO p).addr ∨ a = F.IMG_VOLATILE_WRITES_COUNT.addr ∨ inNotify a) → t.rd a = s.rd a) ∧
        t.force = s.force ∧
        t.flash = s.flash) ∧
  (∀ (s : State) (p w : Nat) (v : Word),
      (p < 16) → (s.hasRight w 0x00080000 = true) → (edgeSelector (getBits v 23 16) = false ∨ (edgeSelector (getBits v 15 8) = false ∧ getBits v 15 8 ≠ 0xFF)) → 
      ∃ t, exec (.edgCfgWrite p w v) s = .next t ∧
        (t.is (F.EDG_STATUS_CFG_REFUSED p) = true) ∧
        (t.units.edges = s.units.edges) ∧
        (∀ a, ¬ (a = (F.EDG_STATUS_CFG_REFUSED p).addr ∨ a = F.IMG_VOLATILE_WRITES_COUNT.addr ∨ inNotify a) → t.rd a = s.rd a) ∧
        t.force = s.force ∧
        t.flash = s.flash) ∧
  (∀ (s : State),
      (s.up = true) → (s.units.env.lastScan ≠ some (s.units.d0 / tickS)) → (s.units.d0 / tickS % max 1 (s.live F.ENV_SCAN_SCAN_S) = 0) → (s.units.env.todo = []) → 
      ∃ t, exec (.envScanStart) s = .next t ∧
        (t.units.env.todo = (List.range 16).filter (fun c => (s.rd (F.ENV_CFG_ENABLE c).addr).getLsbD 31)) ∧
        (t.units.env.lastScan = some (s.units.d0 / tickS)) ∧
        (t.regs = s.regs) ∧
        (t.out = s.out) ∧
        t.flash = s.flash) ∧
  (∀ (s : State),
      (s.up = true) → (s.units.env.lastScan ≠ some (s.units.d0 / tickS)) → (s.units.d0 / tickS % max 1 (s.live F.ENV_SCAN_SCAN_S) = 0) → (s.units.env.todo ≠ []) → 
      ∃ t, exec (.envScanStart) s = .next t ∧
        (t.is F.ENV_SCAN_SCAN_OVERRUN = true) ∧
        (t.units.env.todo = s.units.env.todo) ∧
        (t.units.env.waiting = true) ∧
        (∀ a, ¬ (a = F.ENV_SCAN_SCAN_OVERRUN.addr) → t.rd a = s.rd a) ∧
        t.force = s.force ∧
        t.flash = s.flash) ∧
  (∀ (s : State),
      (s.up = false ∨ s.units.env.lastScan = some (s.units.d0 / tickS) ∨ s.units.d0 / tickS % max 1 (s.live F.ENV_SCAN_SCAN_S) ≠ 0) → exec (.envScanStart) s = .next s) ∧
  (∀ (s : State) (c x : Nat) (f : Conversion),
      (c < 16) → (s.converting c = true) → (-32768 ≤ s.envValue c f.raw) → (s.envValue c f.raw ≤ 32767) → 
      ∃ t, exec (.envConversionDone c f x) s = .next t ∧
        (t.get (F.ENV_READING_RAW c) = enc 32 f.raw) ∧
        (t.get (F.ENV_READING_VALUE c) = enc 16 (s.envValue c f.raw)) ∧
        (t.get (F.ENV_READING_TIME_TIME c) = x % 2 ^ 64) ∧
        (t.get (F.ENV_READINGS_C c) = (s.get (F.ENV_READINGS_C c) + 1) % 2 ^ 48) ∧
        (f.noise = true → s.units.env.repeats.contains c = false → t.units.env.repeats.contains c = true ∧ t.units.env.todo = s.units.env.todo) ∧
        (f.noise = false → s.units.env.waiting = false → t.units.env.todo = s.units.env.todo.erase c) ∧
        (∀ a, ¬ (inEnv c a ∨ inTime a ∨ inEvents a) → t.rd a = s.rd a) ∧
        t.flash = s.flash) ∧
  (∀ (s : State) (c x : Nat) (f : Conversion),
      (s.converting c = false) → exec (.envConversionDone c f x) s = .next s)

/-- A trip of a driven interlock output opens it with its TYPE (contention flags both) and is counted; at its RETRY_LIMIT it is latched. 100 ms after a trip that has cooled it is driven again, with one more retry. CLEAR and the configuration are T0's; another writer sets WRITE_LOST alone. VFLD lost or back clears or sets its RAIL_OK bit and shows VFLD_OFF. PIN_HIGH follows what each output drives. A utility pin takes a function it offers and guards it for 2 µs, and refuses another; a trip of a driving pin flags and counts it; a write with the right sets OUT, and CLEAR releases the trip. An accepted trigger edge is recorded; one within the guard or the hold-off counts as discarded. Other registers stay, and a row without its condition does nothing (log entry 7). -/
def Obligations.InterlocksAndUtilityPins : Prop :=
  (∀ (s : State) (o : Nat),
      (o < 8) → (s.ilkHeld o ≠ Drive.hiZ) → 
      ∃ t, exec (.ilkTrip o .thermal) s = .next t ∧
        (t.is (F.ILK_FAULT_TRIPPED o) = true) ∧
        (t.get (F.ILK_FAULT_TYPE o) = 4) ∧
        (t.get (F.ILK_TRIPS_C o) = (s.get (F.ILK_TRIPS_C o) + 1) % 2 ^ 48) ∧
        (t.get (F.ILK_THERMAL_C o) = (s.get (F.ILK_THERMAL_C o) + 1) % 2 ^ 48) ∧
        (t.ilkPin o = Drive.hiZ) ∧
        ((t.ilk o).cooled = false) ∧
        (s.get (F.ILK_CFG_RETRY_LIMIT o) ≤ s.get (F.ILK_FAULT_RETRIES o) → t.is (F.ILK_FAULT_LATCHED o) = true) ∧
        (∀ k ∈ List.range 8, t.is (F.ILK_FAULT_PIN_HIGH k) = (t.ilkPin k == Drive.high)) ∧
        (∀ a, ¬ (inIlk o a ∨ ilkFault a ∨ inNotify a) → t.rd a = s.rd a) ∧
        t.force = s.force ∧
        t.flash = s.flash) ∧
  (∀ (s : State) (o : Nat),
      (o < 8) → (s.ilkHeld o ≠ Drive.hiZ) → 
      ∃ t, exec (.ilkTrip o .mismatch) s = .next t ∧
        (t.is (F.ILK_FAULT_TRIPPED o) = true) ∧
        (t.get (F.ILK_FAULT_TYPE o) = if s.ilkHeld o = Drive.low then 1 else 2) ∧
        (t.get (F.ILK_TRIPS_C o) = (s.get (F.ILK_TRIPS_C o) + 1) % 2 ^ 48) ∧
        (t.ilkPin o = Drive.hiZ) ∧
        (∀ k ∈ List.range 8, t.is (F.ILK_FAULT_PIN_HIGH k) = (t.ilkPin k == Drive.high)) ∧
        (∀ a, ¬ (inIlk o a ∨ ilkFault a ∨ inNotify a) → t.rd a = s.rd a) ∧
        t.force = s.force ∧
        t.flash = s.flash) ∧
  (∀ (s : State) (o q : Nat),
      (o < 8) → (q < 8) → (q ≠ o) → (s.ilkHeld o ≠ Drive.hiZ) → (s.ilkHeld q ≠ Drive.hiZ) → (s.ilkHeld q ≠ s.ilkHeld o) → 
      ∃ t, exec (.ilkTrip o (.contention q)) s = .next t ∧
        (t.get (F.ILK_FAULT_TYPE o) = 3) ∧
        (t.get (F.ILK_FAULT_TYPE q) = 3) ∧
        (t.ilkPin o = Drive.hiZ) ∧
        (t.ilkPin q = Drive.hiZ) ∧
        (t.get (F.ILK_TRIPS_C o) = (s.get (F.ILK_TRIPS_C o) + 1) % 2 ^ 48) ∧
        (t.get (F.ILK_TRIPS_C q) = (s.get (F.ILK_TRIPS_C q) + 1) % 2 ^ 48) ∧
        (∀ k ∈ List.range 8, t.is (F.ILK_FAULT_PIN_HIGH k) = (t.ilkPin k == Drive.high)) ∧
        (∀ a, ¬ (inIlk o a ∨ inIlk q a ∨ ilkFault a ∨ inNotify a) → t.rd a = s.rd a) ∧
        t.force = s.force ∧
        t.flash = s.flash) ∧
  (∀ (s : State) (o : Nat) (y : TripCause),
      (8 ≤ o ∨ s.ilkHeld o = Drive.hiZ) → exec (.ilkTrip o y) s = .next s) ∧
  (∀ (s : State) (o : Nat),
      (o < 8) → (s.is (F.ILK_FAULT_TRIPPED o) = true) → (s.is (F.ILK_FAULT_LATCHED o) = false) → ((s.ilk o).cooled = true) → ((s.ilk o).trippedAt + 100 * tickMs ≤ s.keep.elapsed) → (s.get (F.ILK_CFG_SOURCE o) = 1 ∨ s.ilkWants o ≠ 0) → 
      ∃ t, exec (.ilkRetry o) s = .next t ∧
        (t.is (F.ILK_FAULT_TRIPPED o) = false) ∧
        (t.get (F.ILK_FAULT_RETRIES o) = min 15 (s.get (F.ILK_FAULT_RETRIES o) + 1)) ∧
        (t.get (F.ILK_RETRIES_C o) = (s.get (F.ILK_RETRIES_C o) + 1) % 2 ^ 48) ∧
        (∀ k ∈ List.range 8, t.is (F.ILK_FAULT_PIN_HIGH k) = (t.ilkPin k == Drive.high)) ∧
        (∀ a, ¬ (inIlk o a ∨ ilkFault a ∨ inNotify a) → t.rd a = s.rd a) ∧
        t.force = s.force ∧
        t.flash = s.flash) ∧
  (∀ (s : State) (o : Nat),
      (8 ≤ o ∨ s.is (F.ILK_FAULT_TRIPPED o) = false ∨ s.is (F.ILK_FAULT_LATCHED o) = true ∨ (s.ilk o).cooled = false ∨ s.keep.elapsed < (s.ilk o).trippedAt + 100 * tickMs ∨ (s.get (F.ILK_CFG_SOURCE o) ≠ 1 ∧ s.ilkWants o = 0)) → exec (.ilkRetry o) s = .next s) ∧
  (∀ (s : State) (o : Nat),
      (o < 8) → 
      ∃ t, exec (.thermalRetryThreshold o) s = .next t ∧
        (t.ilk o = { s.ilk o with cooled := true }) ∧
        (t.regs = s.regs) ∧
        (t.out = s.out) ∧
        t.force = s.force ∧
        t.flash = s.flash) ∧
  (∀ (s : State) (o w : Nat) (v : Word),
      (o < 8) → (getBits v 0 0 = 1) → (w = 0) → 
      ∃ t, exec (.ilkClear o w v) s = .next t ∧
        (t.is (F.ILK_FAULT_TRIPPED o) = false) ∧
        (t.is (F.ILK_FAULT_LATCHED o) = false) ∧
        (t.get (F.ILK_FAULT_RETRIES o) = 0) ∧
        (t.get (F.ILK_FAULT_TYPE o) = 0) ∧
        (∀ k ∈ List.range 8, t.is (F.ILK_FAULT_PIN_HIGH k) = (t.ilkPin k == Drive.high)) ∧
        (∀ a, ¬ (ilkFault a ∨ a = F.IMG_VOLATILE_WRITES_COUNT.addr ∨ 0x08000000 ≤ a) → t.rd a = s.rd a) ∧
        t.force = s.force ∧
        t.flash = s.flash) ∧
  (∀ (s : State) (o w : Nat) (v : Word),
      (o < 8) → (getBits v 0 0 = 1) → (w ≠ 0) → (s.get F.IMG_VOLATILE_WRITES_COUNT + 1 < 2 ^ 47) → 
      ∃ t, exec (.ilkClear o w v) s = .next t ∧
        (t.is (F.ILK_FAULT_WRITE_LOST o) = true) ∧
        (t.is (F.ILK_FAULT_TRIPPED o) = s.is (F.ILK_FAULT_TRIPPED o)) ∧
        (t.units = s.units) ∧
        (t.out = s.out) ∧
        (∀ a, ¬ (a = (F.ILK_FAULT_WRITE_LOST o).addr ∨ a = F.IMG_VOLATILE_WRITES_COUNT.addr) → t.rd a = s.rd a) ∧
        t.force = s.force ∧
        t.flash = s.flash) ∧
  (∀ (s : State) (o w : Nat) (v : Word),
      (8 ≤ o ∨ getBits v 0 0 = 0) → (s.get F.IMG_VOLATILE_WRITES_COUNT + 1 < 2 ^ 47) → 
      ∃ t, exec (.ilkClear o w v) s = .next t ∧
        (t.units = s.units) ∧
        (t.keep = s.keep) ∧
        (t.force = s.force) ∧
        (t.out = s.out) ∧
        (∀ a, ¬ (a = F.IMG_VOLATILE_WRITES_COUNT.addr) → t.rd a = s.rd a) ∧
        t.flash = s.flash) ∧
  (∀ (s : State) (o w : Nat) (v : Word),
      (o < 8) → (w = 0) → 
      ∃ t, exec (.ilkCfgWrite o w v) s = .next t ∧
        (t.get (F.ILK_CFG_RETRY_LIMIT o) = getBits v 31 28) ∧
        (t.get (F.ILK_CFG_SOURCE o) = getBits v 27 26) ∧
        (t.get (F.ILK_CFG_STATE o) = getBits v 1 0) ∧
        (∀ k ∈ List.range 8, t.is (F.ILK_FAULT_PIN_HIGH k) = (t.ilkPin k == Drive.high)) ∧
        (∀ a, ¬ (a = (F.ILK_CFG_STATE o).addr ∨ ilkFault a ∨ a = F.IMG_VOLATILE_WRITES_COUNT.addr ∨ inNotify a) → t.rd a = s.rd a) ∧
        t.force = s.force ∧
        t.flash = s.flash) ∧
  (∀ (s : State) (o w : Nat) (v : Word),
      (o < 8) → (w ≠ 0) → (s.get F.IMG_VOLATILE_WRITES_COUNT + 1 < 2 ^ 47) → 
      ∃ t, exec (.ilkCfgWrite o w v) s = .next t ∧
        (t.is (F.ILK_FAULT_WRITE_LOST o) = true) ∧
        (t.out = s.out) ∧
        (t.get (F.ILK_CFG_STATE o) = s.get (F.ILK_CFG_STATE o)) ∧
        (∀ a, ¬ (a = (F.ILK_FAULT_WRITE_LOST o).addr ∨ a = F.IMG_VOLATILE_WRITES_COUNT.addr ∨ inNotify a) → t.rd a = s.rd a) ∧
        t.force = s.force ∧
        t.flash = s.flash) ∧
  (∀ (s : State),
      ((s.get F.PWR_STATUS_RAIL_OK).testBit 6 = true) → 
      ∃ t, exec (.vfldLoss) s = .next t ∧
        (t.get F.PWR_STATUS_RAIL_OK = s.get F.PWR_STATUS_RAIL_OK - 64) ∧
        (∀ k ∈ List.range 8, t.ilkPin k = Drive.hiZ) ∧
        (s.up = true → (List.range 8).all (fun k => t.is (F.ILK_FAULT_VFLD_OFF k)) = true) ∧
        (∀ k ∈ List.range 8, t.is (F.ILK_FAULT_PIN_HIGH k) = (t.ilkPin k == Drive.high)) ∧
        (t.units = s.units) ∧
        (∀ a, ¬ (a = F.PWR_STATUS_RAIL_OK.addr ∨ ilkFault a) → t.rd a = s.rd a) ∧
        t.force = s.force ∧
        t.flash = s.flash) ∧
  (∀ (s : State),
      ((s.get F.PWR_STATUS_RAIL_OK).testBit 6 = false) → exec (.vfldLoss) s = .next s) ∧
  (∀ (s : State),
      ((s.get F.PWR_STATUS_RAIL_OK).testBit 6 = false) → 
      ∃ t, exec (.vfldReturn) s = .next t ∧
        (t.get F.PWR_STATUS_RAIL_OK = s.get F.PWR_STATUS_RAIL_OK + 64) ∧
        ((List.range 8).all (fun k => !t.is (F.ILK_FAULT_VFLD_OFF k)) = true) ∧
        (∀ k ∈ List.range 8, t.is (F.ILK_FAULT_PIN_HIGH k) = (t.ilkPin k == Drive.high)) ∧
        (t.units = s.units) ∧
        (∀ a, ¬ (a = F.PWR_STATUS_RAIL_OK.addr ∨ ilkFault a) → t.rd a = s.rd a) ∧
        t.force = s.force ∧
        t.flash = s.flash) ∧
  (∀ (s : State),
      ((s.get F.PWR_STATUS_RAIL_OK).testBit 6 = true) → exec (.vfldReturn) s = .next s) ∧
  (∀ (s : State) (p w : Nat) (v : Word),
      (p < 32) → (w = 0) → (utlOffers p (getBits v 31 28) = true) → (getBits v 31 28 ≠ s.get (F.UTL_CFG_FUNCTION p)) → 
      ∃ t, exec (.utlFunctionChange p w v) s = .next t ∧
        (t.get (F.UTL_CFG_FUNCTION p) = getBits v 31 28) ∧
        (t.is (F.UTL_CFG_OPEN_DRAIN p) = (getBits v 27 27 == 1)) ∧
        (t.is (F.UTL_CFG_INVERT p) = (getBits v 26 26 == 1)) ∧
        (t.get (F.UTL_CFG_RETRY_LIMIT p) = getBits v 25 22) ∧
        (t.is (F.UTL_STATUS_GUARD p) = true) ∧
        (t.is (F.UTL_STATUS_TRIPPED p) = false) ∧
        ((t.utl p).guardEnd = s.keep.elapsed + 2 * tickUs) ∧
        (t.utlPin p = Drive.hiZ) ∧
        (∀ a, ¬ (inUtl p a ∨ a = F.IMG_VOLATILE_WRITES_COUNT.addr ∨ inNotify a) → t.rd a = s.rd a) ∧
        t.force = s.force ∧
        t.flash = s.flash) ∧
  (∀ (s : State) (p w : Nat) (v : Word),
      (p < 32) → (w = 0) → (utlOffers p (getBits v 31 28) = false) → 
      ∃ t, exec (.utlFunctionChange p w v) s = .next t ∧
        (t.is (F.UTL_STATUS_FUNC_REFUSED p) = true) ∧
        (t.get (F.UTL_CFG_FUNCTION p) = s.get (F.UTL_CFG_FUNCTION p)) ∧
        (t.is (F.UTL_STATUS_GUARD p) = s.is (F.UTL_STATUS_GUARD p)) ∧
        (∀ a, ¬ (inUtl p a ∨ a = F.IMG_VOLATILE_WRITES_COUNT.addr ∨ inNotify a) → t.rd a = s.rd a) ∧
        t.force = s.force ∧
        t.flash = s.flash) ∧
  (∀ (s : State) (p w : Nat) (v : Word),
      (p < 32) → (w ≠ 0) → (s.get F.IMG_VOLATILE_WRITES_COUNT + 1 < 2 ^ 47) → 
      ∃ t, exec (.utlFunctionChange p w v) s = .next t ∧
        (t.is (F.UTL_STATUS_WRITE_LOST p) = true) ∧
        (t.get (F.UTL_CFG_FUNCTION p) = s.get (F.UTL_CFG_FUNCTION p)) ∧
        (t.out = s.out) ∧
        (∀ a, ¬ (a = (F.UTL_STATUS_WRITE_LOST p).addr ∨ a = F.IMG_VOLATILE_WRITES_COUNT.addr ∨ inNotify a) → t.rd a = s.rd a) ∧
        t.force = s.force ∧
        t.flash = s.flash) ∧
  (∀ (s : State) (p : Nat),
      (p < 32) → (s.is (F.UTL_STATUS_GUARD p) = true) → ((s.utl p).guardEnd ≤ s.keep.elapsed) → 
      ∃ t, exec (.utlGuardEnd p) s = .next t ∧
        (t.is (F.UTL_STATUS_GUARD p) = false) ∧
        (t.units = { s.units with driven := t.units.driven }) ∧
        (t.driven p = t.utlPin p) ∧
        (t.out = s.out ++ (if t.utlPin p = s.driven p then [] else [.pin 1 p (t.utlPin p) 0])) ∧
        (∀ a, ¬ (a = (F.UTL_STATUS_GUARD p).addr) → t.rd a = s.rd a) ∧
        t.force = s.force ∧
        t.flash = s.flash) ∧
  (∀ (s : State) (p : Nat),
      (32 ≤ p ∨ s.is (F.UTL_STATUS_GUARD p) = false ∨ s.keep.elapsed < (s.utl p).guardEnd) → exec (.utlGuardEnd p) s = .next s) ∧
  (∀ (s : State) (p : Nat),
      (p < 32) → (s.utlCleared p = false) → (s.utlPin p ≠ Drive.hiZ) → 
      ∃ t, exec (.utlTrip p .mismatch) s = .next t ∧
        (t.is (F.UTL_STATUS_TRIPPED p) = true) ∧
        (t.get (F.UTL_STATUS_TYPE p) = if s.utlPin p = Drive.low then 1 else 2) ∧
        (t.get (F.UTL_TRIPS_C p) = (s.get (F.UTL_TRIPS_C p) + 1) % 2 ^ 48) ∧
        (t.utlPin p = Drive.hiZ) ∧
        ((t.utl p).trippedAt = s.keep.elapsed) ∧
        (s.get (F.UTL_CFG_RETRY_LIMIT p) ≤ s.get (F.UTL_STATUS_RETRIES p) → t.is (F.UTL_STATUS_LATCHED p) = true) ∧
        (∀ a, ¬ (inUtl p a ∨ inNotify a) → t.rd a = s.rd a) ∧
        t.force = s.force ∧
        t.flash = s.flash) ∧
  (∀ (s : State) (p q : Nat),
      (p < 32) → (q < 32) → (q ≠ p) → (s.utlCleared p = false) → (s.utlPin p ≠ Drive.hiZ) → (s.utlPin q ≠ Drive.hiZ) → (s.utlPin q ≠ s.utlPin p) → 
      ∃ t, exec (.utlTrip p (.contention q)) s = .next t ∧
        (t.get (F.UTL_STATUS_TYPE p) = 3) ∧
        (t.get (F.UTL_STATUS_TYPE q) = 3) ∧
        (t.utlPin p = Drive.hiZ) ∧
        (t.utlPin q = Drive.hiZ) ∧
        (t.get (F.UTL_TRIPS_C p) = (s.get (F.UTL_TRIPS_C p) + 1) % 2 ^ 48) ∧
        (t.get (F.UTL_TRIPS_C q) = (s.get (F.UTL_TRIPS_C q) + 1) % 2 ^ 48) ∧
        (∀ a, ¬ (inUtl p a ∨ inUtl q a ∨ inNotify a) → t.rd a = s.rd a) ∧
        t.force = s.force ∧
        t.flash = s.flash) ∧
  (∀ (s : State) (p : Nat) (y : TripCause),
      (32 ≤ p ∨ s.utlCleared p = true ∨ s.utlPin p = Drive.hiZ) → exec (.utlTrip p y) s = .next s) ∧
  (∀ (s : State) (p w : Nat) (v : Word),
      (p < 32) → (s.hasRight w 0x00085000 = true) → (getBits v 1 1 = 1) → 
      ∃ t, exec (.utlClear p w v) s = .next t ∧
        (t.get (F.UTL_CTRL_OUT p) = getBits v 0 0) ∧
        (t.is (F.UTL_STATUS_TRIPPED p) = false) ∧
        (t.is (F.UTL_STATUS_LATCHED p) = false) ∧
        (t.get (F.UTL_STATUS_RETRIES p) = 0) ∧
        (t.get (F.UTL_STATUS_TYPE p) = 0) ∧
        (∀ a, ¬ (inUtl p a ∨ a = F.IMG_VOLATILE_WRITES_COUNT.addr ∨ inNotify a) → t.rd a = s.rd a) ∧
        t.force = s.force ∧
        t.flash = s.flash) ∧
  (∀ (s : State) (p w : Nat) (v : Word),
      (p < 32) → (s.hasRight w 0x00085000 = false) → (s.get F.IMG_VOLATILE_WRITES_COUNT + 1 < 2 ^ 47) → 
      ∃ t, exec (.utlClear p w v) s = .next t ∧
        (t.is (F.UTL_STATUS_WRITE_LOST p) = true) ∧
        (t.out = s.out) ∧
        (t.get (F.UTL_CTRL_OUT p) = s.get (F.UTL_CTRL_OUT p)) ∧
        (∀ a, ¬ (inUtl p a ∨ a = F.IMG_VOLATILE_WRITES_COUNT.addr ∨ inNotify a) → t.rd a = s.rd a) ∧
        t.force = s.force ∧
        t.flash = s.flash) ∧
  (∀ (s : State) (p x : Nat),
      (p < 32) → (s.pending = []) → (s.is (F.UTL_STATUS_GUARD p) = false) → (s.get (F.UTL_CFG_FUNCTION p) = 6) → (∀ y ∈ (s.utl p).lastEdge, (clampParam 6 (s.get (F.UTL_PARAM_PARAM p)) * tickNs : Nat) ≤ dif x y) → 
      ∃ t, exec (.externalTriggerEdge p x) s = .next t ∧
        ((t.utl p).lastEdge = some x) ∧
        (t.out = s.out) ∧
        (∀ a, ¬ (a = F.GEY_DEVICE_EXT_LATE_C.addr ∨ inNotify a) → t.rd a = s.rd a) ∧
        t.force = s.force ∧
        t.flash = s.flash) ∧
  (∀ (s : State) (p x : Nat) (y : Nat),
      (p < 32) → (s.is (F.UTL_STATUS_GUARD p) = true ∨ (s.get (F.UTL_CFG_FUNCTION p) = 6 ∧ (s.utl p).lastEdge = some y ∧ dif x y < (clampParam 6 (s.get (F.UTL_PARAM_PARAM p)) * tickNs : Nat))) → 
      ∃ t, exec (.externalTriggerEdge p x) s = .next t ∧
        (t.get (F.UTL_DISCARDED_C p) = (s.get (F.UTL_DISCARDED_C p) + 1) % 2 ^ 48) ∧
        (t.units.utl = s.units.utl) ∧
        (t.units.ext = s.units.ext) ∧
        (∀ a, ¬ (a = (F.UTL_DISCARDED_C p).addr ∨ inNotify a) → t.rd a = s.rd a) ∧
        t.force = s.force ∧
        t.flash = s.flash) ∧
  (∀ (s : State) (p x : Nat),
      (32 ≤ p ∨ (s.pending = [] ∧ s.is (F.UTL_STATUS_GUARD p) = false ∧ s.get (F.UTL_CFG_FUNCTION p) ≠ 6)) → exec (.externalTriggerEdge p x) s = .next s)

/-- FBUS_CFG by a tenant with the right is taken; a channel enabled anew starts with TEC and REC 0 and integrates, one disabled with nothing on the bus stops. After integration it is error active, or as its counters say. A change of MODE is in force at bus idle. RECOVER starts the recovery of a channel in bus-off, whose end clears both counters. A detection needs a disabled or enabled channel in a passive mode, or gives RESULT 2; it ends with 1 after 2 s without a frame, 3 without a candidate, or 0 and the rates. A received frame is counted, moves REC, updates the first object that matches or counts as unmatched; an FD frame without FD_EN is a protocol exception and the channel integrates again. A write without the right sets WRITE_LOST alone. Registers outside the channel stay, but for what a sentence and a tunnelled copy touch. A row without its condition does nothing (log entry 7). -/
def Obligations.FieldBusChannels : Prop :=
  (∀ (s : State) (c w : Nat) (v : Word),
      (c < 2) → (s.hasRight w 0x000C0000 = true) → (s.up = true) → (s.is (F.FBUS_CFG_ENABLE c) = false) → (getBits v 31 31 = 1) → (s.get F.IMG_VOLATILE_WRITES_COUNT + 1 < 2 ^ 47) → 
      ∃ t, exec (.fbusEnable c w v) s = .next t ∧
        (t.is (F.FBUS_CFG_ENABLE c) = true) ∧
        (t.get (F.FBUS_CFG_MODE c) = getBits v 30 29) ∧
        (t.get (F.FBUS_CFG_RETRY_LIMIT c) = getBits v 23 20) ∧
        ((t.fb c).mode = getBits v 30 29) ∧
        (t.get (F.FBUS_STATUS_TEC c) = 0) ∧
        (t.get (F.FBUS_STATUS_REC c) = 0) ∧
        (t.get (F.FBUS_STATUS_STATE c) = 1) ∧
        (t.out = s.out) ∧
        (∀ a, ¬ (inFbus c a ∨ inNotify a ∨ a = F.IMG_VOLATILE_WRITES_COUNT.addr) → t.rd a = s.rd a) ∧
        t.force = s.force ∧
        t.flash = s.flash) ∧
  (∀ (s : State) (c w : Nat) (v : Word),
      (c < 2) → (s.hasRight w 0x000C0000 = true) → (s.is (F.FBUS_CFG_ENABLE c) = true) → (getBits v 31 31 = 0) → ((s.fb c).sending = none) → 
      ∃ t, exec (.fbusEnable c w v) s = .next t ∧
        (t.is (F.FBUS_CFG_ENABLE c) = false) ∧
        (t.get (F.FBUS_STATUS_STATE c) = 0) ∧
        ((List.range 128).all (fun o => s.is (F.FBUS_OBJ_STATUS_PENDING c o) = false || (s.fb c).again.contains o || (!t.is (F.FBUS_OBJ_STATUS_PENDING c o) && t.get (F.FBUS_OBJ_STATUS_RESULT c o) = 5)) = true) ∧
        (∀ a, ¬ (inFbus c a ∨ inNotify a ∨ a = F.IMG_VOLATILE_WRITES_COUNT.addr) → t.rd a = s.rd a) ∧
        t.force = s.force ∧
        t.flash = s.flash) ∧
  (∀ (s : State) (c w : Nat) (v : Word),
      (c < 2) → (s.hasRight w 0x000C0000 = false) → (s.get F.IMG_VOLATILE_WRITES_COUNT + 1 < 2 ^ 47) → 
      ∃ t, exec (.fbusEnable c w v) s = .next t ∧
        (t.is (F.FBUS_STATUS_WRITE_LOST c) = true) ∧
        (t.units = s.units) ∧
        (t.out = s.out) ∧
        (t.is (F.FBUS_CFG_ENABLE c) = s.is (F.FBUS_CFG_ENABLE c)) ∧
        (∀ a, ¬ (a = (F.FBUS_STATUS_WRITE_LOST c).addr ∨ a = F.IMG_VOLATILE_WRITES_COUNT.addr) → t.rd a = s.rd a) ∧
        t.force = s.force ∧
        t.flash = s.flash) ∧
  (∀ (s : State) (c w : Nat) (v : Word),
      (2 ≤ c) → (s.up = false) → (s.get F.IMG_VOLATILE_WRITES_COUNT + 1 < 2 ^ 47) → 
      ∃ t, exec (.fbusEnable c w v) s = .next t ∧
        (t.units = s.units) ∧
        (t.keep = s.keep) ∧
        (t.force = s.force) ∧
        (t.out = s.out) ∧
        (∀ a, ¬ (a = F.IMG_VOLATILE_WRITES_COUNT.addr) → t.rd a = s.rd a) ∧
        t.flash = s.flash) ∧
  (∀ (s : State) (c : Nat),
      (c < 2) → (s.get (F.FBUS_STATUS_STATE c) = 1) → 
      ∃ t, exec (.fbusIntegrated c) s = .next t ∧
        (t.get (F.FBUS_STATUS_STATE c) = if 128 ≤ s.get (F.FBUS_STATUS_TEC c) ∨ 128 ≤ s.get (F.FBUS_STATUS_REC c) then 3 else 2) ∧
        (t.is (F.FBUS_STATUS_STATE_CHANGE c) = true) ∧
        ((t.fb c).mode = (s.fb c).mode) ∧
        (∀ a, ¬ (inFbus c a ∨ inNotify a) → t.rd a = s.rd a) ∧
        t.force = s.force ∧
        t.flash = s.flash) ∧
  (∀ (s : State) (c : Nat),
      (2 ≤ c ∨ s.get (F.FBUS_STATUS_STATE c) ≠ 1) → exec (.fbusIntegrated c) s = .next s) ∧
  (∀ (s : State) (c : Nat),
      (c < 2) → ((s.fb c).mode ≠ s.get (F.FBUS_CFG_MODE c)) → 
      ∃ t, exec (.fbusModeChange c) s = .next t ∧
        ((t.fb c).mode = s.get (F.FBUS_CFG_MODE c)) ∧
        (s.get (F.FBUS_CFG_MODE c) ≠ 0 → (t.fb c).sending = none) ∧
        (t.get (F.FBUS_STATUS_STATE c) = s.get (F.FBUS_STATUS_STATE c)) ∧
        (∀ a, ¬ (inFbus c a ∨ inNotify a) → t.rd a = s.rd a) ∧
        t.force = s.force ∧
        t.flash = s.flash) ∧
  (∀ (s : State) (c : Nat),
      (2 ≤ c ∨ (s.fb c).mode = s.get (F.FBUS_CFG_MODE c)) → exec (.fbusModeChange c) s = .next s) ∧
  (∀ (s : State) (c w : Nat) (v : Word),
      (c < 2) → (getBits v 0 0 = 1) → (s.hasRight w 0x000C0000 = true) → (s.get (F.FBUS_STATUS_STATE c) = 4) → 
      ∃ t, exec (.fbusRecover c w v) s = .next t ∧
        (t.get (F.FBUS_STATUS_STATE c) = 5) ∧
        (t.is (F.FBUS_STATUS_STATE_CHANGE c) = true) ∧
        (t.get (F.FBUS_STATUS_TEC c) = s.get (F.FBUS_STATUS_TEC c)) ∧
        (t.units.fbus = s.units.fbus) ∧
        (∀ a, ¬ (inFbus c a ∨ inNotify a ∨ a = F.IMG_VOLATILE_WRITES_COUNT.addr) → t.rd a = s.rd a) ∧
        t.force = s.force ∧
        t.flash = s.flash) ∧
  (∀ (s : State) (c w : Nat) (v : Word),
      (c < 2) → (getBits v 0 0 = 1) → (s.hasRight w 0x000C0000 = false) → (s.get F.IMG_VOLATILE_WRITES_COUNT + 1 < 2 ^ 47) → 
      ∃ t, exec (.fbusRecover c w v) s = .next t ∧
        (t.is (F.FBUS_STATUS_WRITE_LOST c) = true) ∧
        (t.units = s.units) ∧
        (t.out = s.out) ∧
        (∀ a, ¬ (a = (F.FBUS_STATUS_WRITE_LOST c).addr ∨ a = F.IMG_VOLATILE_WRITES_COUNT.addr) → t.rd a = s.rd a) ∧
        t.force = s.force ∧
        t.flash = s.flash) ∧
  (∀ (s : State) (c w : Nat) (v : Word),
      (s.up = false) → (2 ≤ c ∨ getBits v 0 0 = 0 ∨ (s.hasRight w 0x000C0000 = true ∧ s.get (F.FBUS_STATUS_STATE c) ≠ 4)) → (s.get F.IMG_VOLATILE_WRITES_COUNT + 1 < 2 ^ 47) → 
      ∃ t, exec (.fbusRecover c w v) s = .next t ∧
        (t.units = s.units) ∧
        (t.keep = s.keep) ∧
        (t.force = s.force) ∧
        (t.out = s.out) ∧
        (∀ a, ¬ (a = F.IMG_VOLATILE_WRITES_COUNT.addr) → t.rd a = s.rd a) ∧
        t.flash = s.flash) ∧
  (∀ (s : State) (c : Nat),
      (c < 2) → (s.get (F.FBUS_STATUS_STATE c) = 5) → 
      ∃ t, exec (.fbusRecoveryDone c) s = .next t ∧
        (t.get (F.FBUS_STATUS_STATE c) = 2) ∧
        (t.get (F.FBUS_STATUS_TEC c) = 0) ∧
        (t.get (F.FBUS_STATUS_REC c) = 0) ∧
        (∀ a, ¬ (inFbus c a ∨ inNotify a) → t.rd a = s.rd a) ∧
        t.force = s.force ∧
        t.flash = s.flash) ∧
  (∀ (s : State) (c : Nat),
      (2 ≤ c ∨ s.get (F.FBUS_STATUS_STATE c) ≠ 5) → exec (.fbusRecoveryDone c) s = .next s) ∧
  (∀ (s : State) (c w : Nat) (v : Word),
      (c < 2) → (getBits v 1 1 = 1) → (s.hasRight w 0x000C0000 = true) → (s.is (F.FBUS_CFG_ENABLE c) = true) → (2 ≤ s.get (F.FBUS_CFG_MODE c)) → (s.is (F.FBUS_ABD_BUSY c) = false) → (s.get F.IMG_VOLATILE_WRITES_COUNT + 1 < 2 ^ 47) → 
      ∃ t, exec (.abdStart c w v) s = .next t ∧
        (t.is (F.FBUS_ABD_BUSY c) = true) ∧
        ((t.fb c).abdAt = s.keep.elapsed) ∧
        (t.get (F.FBUS_CTRL_ABD_ADOPT c) = getBits v 2 2) ∧
        (∀ a, ¬ (inFbus c a ∨ inNotify a ∨ a = F.IMG_VOLATILE_WRITES_COUNT.addr) → t.rd a = s.rd a) ∧
        t.force = s.force ∧
        t.flash = s.flash) ∧
  (∀ (s : State) (c w : Nat) (v : Word),
      (c < 2) → (getBits v 1 1 = 1) → (s.hasRight w 0x000C0000 = true) → (s.is (F.FBUS_CFG_ENABLE c) = false ∨ s.get (F.FBUS_CFG_MODE c) < 2) → 
      ∃ t, exec (.abdStart c w v) s = .next t ∧
        (t.get (F.FBUS_ABD_RESULT c) = 2) ∧
        (t.is (F.FBUS_ABD_DONE c) = true) ∧
        (t.units.fbus = s.units.fbus) ∧
        (∀ a, ¬ (inFbus c a ∨ inNotify a ∨ a = F.IMG_VOLATILE_WRITES_COUNT.addr) → t.rd a = s.rd a) ∧
        t.force = s.force ∧
        t.flash = s.flash) ∧
  (∀ (s : State) (c w : Nat) (v : Word),
      (c < 2) → (getBits v 1 1 = 1) → (s.hasRight w 0x000C0000 = false) → (s.get F.IMG_VOLATILE_WRITES_COUNT + 1 < 2 ^ 47) → 
      ∃ t, exec (.abdStart c w v) s = .next t ∧
        (t.is (F.FBUS_STATUS_WRITE_LOST c) = true) ∧
        (t.units = s.units) ∧
        (t.out = s.out) ∧
        (∀ a, ¬ (a = (F.FBUS_STATUS_WRITE_LOST c).addr ∨ a = F.IMG_VOLATILE_WRITES_COUNT.addr) → t.rd a = s.rd a) ∧
        t.force = s.force ∧
        t.flash = s.flash) ∧
  (∀ (s : State) (c : Nat),
      (c < 2) → (s.is (F.FBUS_ABD_BUSY c) = true) → ((s.fb c).abdAt + 2 * tickS ≤ s.keep.elapsed) → 
      ∃ t, exec (.abdDone c .noFrame) s = .next t ∧
        (t.is (F.FBUS_ABD_BUSY c) = false) ∧
        (t.get (F.FBUS_ABD_RESULT c) = 1) ∧
        (t.is (F.FBUS_ABD_DONE c) = true) ∧
        (t.units.fbus = s.units.fbus) ∧
        (∀ a, ¬ (a = (F.FBUS_ABD_DONE c).addr) → t.rd a = s.rd a) ∧
        t.force = s.force ∧
        t.flash = s.flash) ∧
  (∀ (s : State) (c : Nat),
      (c < 2) → (s.is (F.FBUS_ABD_BUSY c) = true) → 
      ∃ t, exec (.abdDone c .noCandidate) s = .next t ∧
        (t.is (F.FBUS_ABD_BUSY c) = false) ∧
        (t.get (F.FBUS_ABD_RESULT c) = 3) ∧
        (t.is (F.FBUS_ABD_DONE c) = true) ∧
        (t.units.fbus = s.units.fbus) ∧
        (∀ a, ¬ (a = (F.FBUS_ABD_DONE c).addr) → t.rd a = s.rd a) ∧
        t.force = s.force ∧
        t.flash = s.flash) ∧
  (∀ (s : State) (c n d : Nat),
      (c < 2) → (s.is (F.FBUS_ABD_BUSY c) = true) → (1 ≤ n) → (n ≤ 5) → (d ≤ 5) → 
      ∃ t, exec (.abdDone c (.rate n d)) s = .next t ∧
        (t.is (F.FBUS_ABD_BUSY c) = false) ∧
        (t.get (F.FBUS_ABD_RESULT c) = 0) ∧
        (t.get (F.FBUS_ABD_NOMINAL_RATE c) = n) ∧
        (t.get (F.FBUS_ABD_DATA_RATE c) = d) ∧
        (t.is (F.FBUS_ABD_DONE c) = true) ∧
        (s.is (F.FBUS_CTRL_ABD_ADOPT c) = true → s.is (F.FBUS_CFG_ENABLE c) = true → t.get (F.FBUS_STATUS_STATE c) = 1 ∧ t.get (F.FBUS_STATUS_TEC c) = 0) ∧
        (s.is (F.FBUS_CTRL_ABD_ADOPT c) = true → (t.get (F.FBUS_NBT_NTSEG1 c) + t.get (F.FBUS_NBT_NTSEG2 c) + 3) * (t.get (F.FBUS_NBT_NBRP c) + 1) = 80000 / nominalRate n) ∧
        (∀ a, ¬ (inFbus c a ∨ inNotify a) → t.rd a = s.rd a) ∧
        t.force = s.force ∧
        t.flash = s.flash) ∧
  (∀ (s : State) (c : Nat) (y : AbdFound),
      (s.is (F.FBUS_ABD_BUSY c) = false) → exec (.abdDone c y) s = .next s) ∧
  (∀ (s : State) (c x : Nat) (f : CanFrame),
      (s.onBus c = true) → (f.fdf = true) → (s.is (F.FBUS_CFG_FD_EN c) = false) → 
      ∃ t, exec (.fbusFrameReceived c f x) s = .next t ∧
        (t.is (F.FBUS_STATUS_PROTOCOL_EXCEPTION c) = true) ∧
        (t.get (F.FBUS_PROTOCOL_EXCEPTIONS_C c) = (s.get (F.FBUS_PROTOCOL_EXCEPTIONS_C c) + 1) % 2 ^ 48) ∧
        (t.get (F.FBUS_STATUS_STATE c) = 1) ∧
        ((t.fb c).sending = none) ∧
        (t.out = s.out) ∧
        (∀ a, ¬ (inFbus c a ∨ inNotify a) → t.rd a = s.rd a) ∧
        t.force = s.force ∧
        t.flash = s.flash) ∧
  (∀ (s : State) (c x : Nat) (f : CanFrame) (o : Nat),
      (s.onBus c = true) → (f.fdf = false) → ((s.fb c).mode ≠ 0) → (s.canMatch c f = some o) → 
      ∃ t, exec (.fbusFrameReceived c f x) s = .next t ∧
        (t.get (F.FBUS_RX_FRAMES_C c) = (s.get (F.FBUS_RX_FRAMES_C c) + 1) % 2 ^ 48) ∧
        (t.get (F.FBUS_OBJ_RX_ID_ID c o) = f.ident % 2 ^ 29) ∧
        (t.get (F.FBUS_OBJ_TIME_TIME c o) = x % 2 ^ 64) ∧
        (t.get (F.FBUS_OBJ_STATUS_LENGTH c o) = CanFrame_len f) ∧
        (t.is (F.FBUS_OBJ_STATUS_NEW_DATA c o) = true) ∧
        (s.is (F.FBUS_OBJ_STATUS_NEW_DATA c o) = true → t.is (F.FBUS_OBJ_STATUS_MSG_LOST c o) = true ∧ t.get (F.FBUS_MSG_LOST_C c) = (s.get (F.FBUS_MSG_LOST_C c) + 1) % 2 ^ 48) ∧
        ((List.range 8).all (fun k => t.get (F.FBUS_OBJ_DATA_BYTES c o k) = num (fit 64 (f.data.take (CanFrame_len f))) (8 * k) 8) = true) ∧
        (∀ a, ¬ (inFbus c a ∨ inClasp a ∨ inEvents a) → t.rd a = s.rd a) ∧
        t.flash = s.flash) ∧
  (∀ (s : State) (c x : Nat) (f : CanFrame),
      (s.onBus c = true) → (f.fdf = false) → ((s.fb c).mode = 0) → (s.canMatch c f = none) → (s.get (F.FBUS_STATUS_REC c) ≤ 127) → (s.get (F.FBUS_STATUS_TEC c) < 128) → 
      ∃ t, exec (.fbusFrameReceived c f x) s = .next t ∧
        (t.get (F.FBUS_RX_FRAMES_C c) = (s.get (F.FBUS_RX_FRAMES_C c) + 1) % 2 ^ 48) ∧
        (t.get (F.FBUS_RX_UNMATCHED_C c) = (s.get (F.FBUS_RX_UNMATCHED_C c) + 1) % 2 ^ 48) ∧
        (t.get (F.FBUS_STATUS_REC c) = s.get (F.FBUS_STATUS_REC c) - 1) ∧
        (t.get (F.FBUS_STATUS_STATE c) = 2) ∧
        (∀ a, ¬ (inFbus c a ∨ inClasp a ∨ inEvents a) → t.rd a = s.rd a) ∧
        t.flash = s.flash) ∧
  (∀ (s : State) (c x : Nat) (f : CanFrame),
      (s.onBus c = false) → exec (.fbusFrameReceived c f x) s = .next s)

/-- A request of an enabled send object is pending, or ends at once: RESULT 3 for an FD frame without FD_EN, 4 in bus-off or recovery, 5 on a disabled channel. An abort ends a request that is not on the bus with RESULT 1. A frame sent is put out and counted, lowers TEC by 1 and ends its request with RESULT 0 and its time. A lost arbitration is counted and the request stays, or ends with RESULT 2 when its RETRY_LIMIT is spent. A failed attempt counts its error, puts out an error frame and raises TEC by 8 unless spared; above 255 the channel is bus-off. An error of a received frame raises REC by 1 or 8 in mode 0, makes a mode 1 channel integrate again, and is only counted in the others. A write without the right sets WRITE_LOST alone. Registers outside the channel stay, but for what a sentence touches. -/
def Obligations.FieldBusSends : Prop :=
  (∀ (s : State) (c o w : Nat) (v : Word),
      (c < 2) → (o < 128) → (getBits v 0 0 = 1) → (s.hasRight w 0x000C0000 = true) → (s.is (F.FBUS_OBJ_CFG_ENABLE c o) = true) → (s.is (F.FBUS_OBJ_CFG_DIR c o) = true) → (s.is (F.FBUS_OBJ_STATUS_PENDING c o) = false) → (s.is (F.FBUS_OBJ_TX_FDF c o) = false ∨ s.is (F.FBUS_CFG_FD_EN c) = true) → (s.get (F.FBUS_STATUS_STATE c) ≠ 4) → (s.get (F.FBUS_STATUS_STATE c) ≠ 5) → (s.is (F.FBUS_CFG_ENABLE c) = true) → (s.get F.IMG_VOLATILE_WRITES_COUNT + 1 < 2 ^ 47) → 
      ∃ t, exec (.fbusRequest c o w v) s = .next t ∧
        (t.is (F.FBUS_OBJ_STATUS_PENDING c o) = true) ∧
        ((s.fb c).sending ≠ none → t.get (F.FBUS_OBJ_STATUS_ATTEMPTS c o) = 0 ∧ t.units.fbus = s.units.fbus) ∧
        (t.out = s.out) ∧
        (∀ a, ¬ (inFbus c a ∨ inNotify a ∨ a = F.IMG_VOLATILE_WRITES_COUNT.addr) → t.rd a = s.rd a) ∧
        t.force = s.force ∧
        t.flash = s.flash) ∧
  (∀ (s : State) (c o w : Nat) (v : Word) (r : Nat),
      (c < 2) → (o < 128) → (getBits v 0 0 = 1) → (s.hasRight w 0x000C0000 = true) → (s.is (F.FBUS_OBJ_CFG_ENABLE c o) = true) → (s.is (F.FBUS_OBJ_CFG_DIR c o) = true) → (s.is (F.FBUS_OBJ_STATUS_PENDING c o) = false) → ((s.fb c).again = []) → (r = if s.is (F.FBUS_OBJ_TX_FDF c o) = true ∧ s.is (F.FBUS_CFG_FD_EN c) = false then 3 else if s.get (F.FBUS_STATUS_STATE c) = 4 ∨ s.get (F.FBUS_STATUS_STATE c) = 5 then 4 else if s.is (F.FBUS_CFG_ENABLE c) = false then 5 else 0) → (r ≠ 0) → (s.get F.IMG_VOLATILE_WRITES_COUNT + 1 < 2 ^ 47) → 
      ∃ t, exec (.fbusRequest c o w v) s = .next t ∧
        (t.get (F.FBUS_OBJ_STATUS_RESULT c o) = r) ∧
        (t.is (F.FBUS_OBJ_STATUS_DONE c o) = true) ∧
        (t.is (F.FBUS_OBJ_STATUS_PENDING c o) = false) ∧
        (t.out = s.out) ∧
        (∀ a, ¬ (a = (F.FBUS_OBJ_STATUS_DONE c o).addr ∨ a = F.IMG_VOLATILE_WRITES_COUNT.addr) → t.rd a = s.rd a) ∧
        t.force = s.force ∧
        t.flash = s.flash) ∧
  (∀ (s : State) (c o w : Nat) (v : Word),
      (c < 2) → (o < 128) → (getBits v 0 0 = 1) → (s.hasRight w 0x000C0000 = false) → (s.get F.IMG_VOLATILE_WRITES_COUNT + 1 < 2 ^ 47) → 
      ∃ t, exec (.fbusRequest c o w v) s = .next t ∧
        (t.is (F.FBUS_STATUS_WRITE_LOST c) = true) ∧
        (t.units = s.units) ∧
        (t.out = s.out) ∧
        (∀ a, ¬ (a = (F.FBUS_STATUS_WRITE_LOST c).addr ∨ a = F.IMG_VOLATILE_WRITES_COUNT.addr) → t.rd a = s.rd a) ∧
        t.force = s.force ∧
        t.flash = s.flash) ∧
  (∀ (s : State) (c o w : Nat) (v : Word),
      (2 ≤ c ∨ 128 ≤ o ∨ getBits v 0 0 = 0 ∨ (s.hasRight w 0x000C0000 = true ∧ (s.is (F.FBUS_OBJ_CFG_ENABLE c o) = false ∨ s.is (F.FBUS_OBJ_CFG_DIR c o) = false))) → (s.get F.IMG_VOLATILE_WRITES_COUNT + 1 < 2 ^ 47) → 
      ∃ t, exec (.fbusRequest c o w v) s = .next t ∧
        (t.units = s.units) ∧
        (t.keep = s.keep) ∧
        (t.force = s.force) ∧
        (t.out = s.out) ∧
        (∀ a, ¬ (a = F.IMG_VOLATILE_WRITES_COUNT.addr) → t.rd a = s.rd a) ∧
        t.flash = s.flash) ∧
  (∀ (s : State) (c o w : Nat) (v : Word),
      (c < 2) → (o < 128) → (getBits v 1 1 = 1) → (s.hasRight w 0x000C0000 = true) → (s.is (F.FBUS_OBJ_STATUS_TRANSMITTING c o) = false) → (s.is (F.FBUS_OBJ_STATUS_PENDING c o) = true) → ((s.fb c).again = []) → (s.get F.IMG_VOLATILE_WRITES_COUNT + 1 < 2 ^ 47) → 
      ∃ t, exec (.fbusAbort c o w v) s = .next t ∧
        (t.get (F.FBUS_OBJ_STATUS_RESULT c o) = 1) ∧
        (t.is (F.FBUS_OBJ_STATUS_DONE c o) = true) ∧
        (t.is (F.FBUS_OBJ_STATUS_PENDING c o) = false) ∧
        (t.out = s.out) ∧
        (∀ a, ¬ (a = (F.FBUS_OBJ_STATUS_DONE c o).addr ∨ a = F.IMG_VOLATILE_WRITES_COUNT.addr) → t.rd a = s.rd a) ∧
        t.force = s.force ∧
        t.flash = s.flash) ∧
  (∀ (s : State) (c o w : Nat) (v : Word),
      (c < 2) → (o < 128) → (getBits v 1 1 = 1) → (s.hasRight w 0x000C0000 = true) → (s.is (F.FBUS_OBJ_STATUS_TRANSMITTING c o) = true) → (s.get F.IMG_VOLATILE_WRITES_COUNT + 1 < 2 ^ 47) → 
      ∃ t, exec (.fbusAbort c o w v) s = .next t ∧
        ((t.fb c).sending = (s.fb c).sending.map (fun x => { x with aborted := true })) ∧
        (t.out = s.out) ∧
        (∀ a, ¬ (a = F.IMG_VOLATILE_WRITES_COUNT.addr) → t.rd a = s.rd a) ∧
        t.force = s.force ∧
        t.flash = s.flash) ∧
  (∀ (s : State) (c o w : Nat) (v : Word),
      (c < 2) → (o < 128) → (getBits v 1 1 = 1) → (s.hasRight w 0x000C0000 = false) → (s.get F.IMG_VOLATILE_WRITES_COUNT + 1 < 2 ^ 47) → 
      ∃ t, exec (.fbusAbort c o w v) s = .next t ∧
        (t.is (F.FBUS_STATUS_WRITE_LOST c) = true) ∧
        (t.units = s.units) ∧
        (t.out = s.out) ∧
        (∀ a, ¬ (a = (F.FBUS_STATUS_WRITE_LOST c).addr ∨ a = F.IMG_VOLATILE_WRITES_COUNT.addr) → t.rd a = s.rd a) ∧
        t.force = s.force ∧
        t.flash = s.flash) ∧
  (∀ (s : State) (c o w : Nat) (v : Word),
      (2 ≤ c ∨ 128 ≤ o ∨ getBits v 1 1 = 0 ∨ (s.hasRight w 0x000C0000 = true ∧ s.is (F.FBUS_OBJ_STATUS_TRANSMITTING c o) = false ∧ s.is (F.FBUS_OBJ_STATUS_PENDING c o) = false)) → (s.get F.IMG_VOLATILE_WRITES_COUNT + 1 < 2 ^ 47) → 
      ∃ t, exec (.fbusAbort c o w v) s = .next t ∧
        (t.units = s.units) ∧
        (t.keep = s.keep) ∧
        (t.force = s.force) ∧
        (t.out = s.out) ∧
        (∀ a, ¬ (a = F.IMG_VOLATILE_WRITES_COUNT.addr) → t.rd a = s.rd a) ∧
        t.flash = s.flash) ∧
  (∀ (s : State) (c x : Nat) (n : CanSend),
      (c < 2) → ((s.fb c).sending = some n) → (n.object < 128) → ((s.fb c).again = []) → 
      ∃ t, exec (.fbusAttemptEnd c (.sent x)) s = .next t ∧
        (∃ y ∈ t.out, y = .canFrame c n.frame.ident (b2n n.frame.ide * 16 + b2n n.frame.fdf * 8 + b2n n.frame.brs * 4 + b2n n.frame.esi * 2 + b2n n.frame.rtr) n.frame.data) ∧
        (t.get (F.FBUS_TX_FRAMES_C c) = (s.get (F.FBUS_TX_FRAMES_C c) + 1) % 2 ^ 48) ∧
        (t.get (F.FBUS_STATUS_TEC c) = s.get (F.FBUS_STATUS_TEC c) - 1 ∨ t.get (F.FBUS_STATUS_STATE c) = 5) ∧
        (t.get (F.FBUS_OBJ_TIME_TIME c n.object) = x % 2 ^ 64) ∧
        (t.is (F.FBUS_OBJ_STATUS_PENDING c n.object) = false) ∧
        (t.get (F.FBUS_OBJ_STATUS_RESULT c n.object) = 0) ∧
        (t.is (F.FBUS_OBJ_STATUS_DONE c n.object) = true) ∧
        (∀ a, ¬ (inFbus c a ∨ inEvents a) → t.rd a = s.rd a) ∧
        t.flash = s.flash) ∧
  (∀ (s : State) (c : Nat) (n : CanSend),
      (c < 2) → ((s.fb c).sending = some n) → (n.object < 128) → (n.aborted = false) → (s.is (F.FBUS_CFG_ENABLE c) = true) → (s.get (F.FBUS_CFG_RETRY_LIMIT c) ≠ 15) → (s.get (F.FBUS_CFG_RETRY_LIMIT c) ≤ n.retries) → ((s.fb c).again = []) → 
      ∃ t, exec (.fbusAttemptEnd c .lost) s = .next t ∧
        (t.get (F.FBUS_ARB_LOST_C c) = (s.get (F.FBUS_ARB_LOST_C c) + 1) % 2 ^ 48) ∧
        (t.get (F.FBUS_RETRY_EXHAUSTED_C c) = (s.get (F.FBUS_RETRY_EXHAUSTED_C c) + 1) % 2 ^ 48) ∧
        (t.is (F.FBUS_OBJ_STATUS_PENDING c n.object) = false) ∧
        (t.get (F.FBUS_OBJ_STATUS_RESULT c n.object) = 2) ∧
        (t.is (F.FBUS_OBJ_STATUS_DONE c n.object) = true) ∧
        (t.out = s.out) ∧
        (∀ a, ¬ (inFbus c a ∨ inNotify a) → t.rd a = s.rd a) ∧
        t.force = s.force ∧
        t.flash = s.flash) ∧
  (∀ (s : State) (c : Nat) (n : CanSend),
      (c < 2) → ((s.fb c).sending = some n) → (n.object < 128) → (n.aborted = false) → (s.is (F.FBUS_CFG_ENABLE c) = true) → (s.get (F.FBUS_CFG_RETRY_LIMIT c) = 15 ∨ n.retries < s.get (F.FBUS_CFG_RETRY_LIMIT c)) → 
      ∃ t, exec (.fbusAttemptEnd c .lost) s = .next t ∧
        (t.get (F.FBUS_ARB_LOST_C c) = (s.get (F.FBUS_ARB_LOST_C c) + 1) % 2 ^ 48) ∧
        (t.is (F.FBUS_OBJ_STATUS_PENDING c n.object) = s.is (F.FBUS_OBJ_STATUS_PENDING c n.object)) ∧
        (t.get (F.FBUS_RETRY_EXHAUSTED_C c) = s.get (F.FBUS_RETRY_EXHAUSTED_C c)) ∧
        (t.out = s.out) ∧
        (∀ a, ¬ (inFbus c a ∨ inNotify a) → t.rd a = s.rd a) ∧
        t.force = s.force ∧
        t.flash = s.flash) ∧
  (∀ (s : State) (c : Nat) (n : CanSend) (e : CanError),
      (c < 2) → ((s.fb c).sending = some n) → (s.get (F.FBUS_STATUS_TEC c) < 248) → (e.spared = false) → 
      ∃ t, exec (.fbusAttemptEnd c (.failed e)) s = .next t ∧
        (t.get (F.FBUS_STATUS_TEC c) = s.get (F.FBUS_STATUS_TEC c) + 8) ∧
        (t.out = s.out ++ [.canError c]) ∧
        (e.kind = .ack → t.get (F.FBUS_ACK_ERRORS_C c) = (s.get (F.FBUS_ACK_ERRORS_C c) + 1) % 2 ^ 48) ∧
        (∀ a, ¬ (inFbus c a ∨ inNotify a) → t.rd a = s.rd a) ∧
        t.force = s.force ∧
        t.flash = s.flash) ∧
  (∀ (s : State) (c : Nat) (n : CanSend) (e : CanError),
      (c < 2) → ((s.fb c).sending = some n) → (s.get (F.FBUS_STATUS_STATE c) = 2 ∨ s.get (F.FBUS_STATUS_STATE c) = 3) → (s.is (F.FBUS_CFG_ENABLE c) = true) → (s.is (F.FBUS_CFG_AUTO_RECOVER c) = false) → (248 ≤ s.get (F.FBUS_STATUS_TEC c)) → (e.spared = false) → 
      ∃ t, exec (.fbusAttemptEnd c (.failed e)) s = .next t ∧
        (t.get (F.FBUS_STATUS_STATE c) = 4) ∧
        (t.get (F.FBUS_BUS_OFF_C c) = (s.get (F.FBUS_BUS_OFF_C c) + 1) % 2 ^ 48) ∧
        ((t.fb c).sending = none) ∧
        (∀ a, ¬ (inFbus c a ∨ inNotify a) → t.rd a = s.rd a) ∧
        t.force = s.force ∧
        t.flash = s.flash) ∧
  (∀ (s : State) (c : Nat) (y : CanOutcome),
      ((s.fb c).sending = none) → exec (.fbusAttemptEnd c y) s = .next s) ∧
  (∀ (s : State) (c : Nat) (e : CanError),
      (s.onBus c = true) → ((s.fb c).mode = 0) → 
      ∃ t, exec (.fbusBusError c false e) s = .next t ∧
        (t.get (F.FBUS_STATUS_REC c) = min 255 (s.get (F.FBUS_STATUS_REC c) + if e.heavy then 8 else 1)) ∧
        (t.get (F.FBUS_STATUS_TEC c) = s.get (F.FBUS_STATUS_TEC c)) ∧
        (t.out = s.out ++ [.canError c]) ∧
        (e.kind = .crc → t.get (F.FBUS_CRC_ERRORS_C c) = (s.get (F.FBUS_CRC_ERRORS_C c) + 1) % 2 ^ 48) ∧
        (∀ a, ¬ (inFbus c a ∨ inNotify a) → t.rd a = s.rd a) ∧
        t.force = s.force ∧
        t.flash = s.flash) ∧
  (∀ (s : State) (c : Nat) (b : Bool) (e : CanError),
      (s.onBus c = true) → ((s.fb c).mode = 1) → 
      ∃ t, exec (.fbusBusError c b e) s = .next t ∧
        (t.get (F.FBUS_STATUS_STATE c) = 1) ∧
        ((t.fb c).sending = none) ∧
        (t.get (F.FBUS_STATUS_REC c) = s.get (F.FBUS_STATUS_REC c)) ∧
        (t.out = s.out) ∧
        (e.kind = .stuff → t.get (F.FBUS_STUFF_ERRORS_C c) = (s.get (F.FBUS_STUFF_ERRORS_C c) + 1) % 2 ^ 48) ∧
        (∀ a, ¬ (inFbus c a ∨ inNotify a) → t.rd a = s.rd a) ∧
        t.force = s.force ∧
        t.flash = s.flash) ∧
  (∀ (s : State) (c : Nat) (b : Bool) (e : CanError),
      (s.onBus c = true) → (2 ≤ (s.fb c).mode) → 
      ∃ t, exec (.fbusBusError c b e) s = .next t ∧
        (t.get (F.FBUS_STATUS_STATE c) = s.get (F.FBUS_STATUS_STATE c)) ∧
        (t.units.fbus = s.units.fbus) ∧
        (t.get (F.FBUS_STATUS_REC c) = s.get (F.FBUS_STATUS_REC c)) ∧
        (t.out = s.out) ∧
        (e.kind = .form → t.get (F.FBUS_FORM_ERRORS_C c) = (s.get (F.FBUS_FORM_ERRORS_C c) + 1) % 2 ^ 48) ∧
        (∀ a, ¬ (inFbus c a ∨ inNotify a) → t.rd a = s.rd a) ∧
        t.force = s.force ∧
        t.flash = s.flash) ∧
  (∀ (s : State) (c : Nat) (b : Bool) (e : CanError),
      (s.onBus c = false ∨ ((s.fb c).mode = 0 ∧ b = true ∧ (s.fb c).sending = none)) → exec (.fbusBusError c b e) s = .next s)

/-- A HELLO is answered by anyone with the device nonce and incarnation, and is not counted. An authentic request whose sequence is new is counted for the device and its tenant, and that sequence is taken. READ answers the bytes of the registers; WRITE and WRITE_UNLOCK put the value into the fields that take it; WRITE_POSTED does so without an answer, and LOCK_READ also takes the lock. WRITE_UNLOCK and UNLOCK by the holder release it; by another they answer 0x08 and change nothing else. While the lock is held every other near transaction answers 0x07. TUNNEL_TX queues the record on the channel. A request that is not authentic counts in AUTH_FAIL alone, a repeated sequence in REPLAY alone, and a message of another kind than its row does nothing. Registers outside Clasp, the service port, the queues and the one written stay. -/
def Obligations.ManagementByHosts : Prop :=
  (∀ (s : State) (o : Origin) (m : List Byte),
      (s.up = true) → (hostRow 0 o m = true) → (o.link = 512) → (s.is F.SVC_CFG_ENABLE = true) → (s.units.svc.frames.length < 16) → 
      ∃ t, exec (.mgmtHello o m) s = .next t ∧
        (t.units.svc.frames = s.units.svc.frames ++ [s.svcFrame o (answerHeader m 0 0 ++ s.units.clasp.nonce ++ be 4 s.incarnation)]) ∧
        (t.units.clasp = s.units.clasp) ∧
        (t.get F.CLP_DEVICE_TRANSACTIONS_C = s.get F.CLP_DEVICE_TRANSACTIONS_C) ∧
        (∀ a, ¬ (a = F.SVC_STATUS_TXQ_DEPTH.addr) → t.rd a = s.rd a) ∧
        t.force = s.force ∧
        t.flash = s.flash) ∧
  (∀ (s : State) (o : Origin) (m : List Byte),
      (s.up = false ∨ hostRow 0 o m = false) → exec (.mgmtHello o m) s = .next s) ∧
  (∀ (s : State) (o : Origin) (h kq kr : List Byte),
      (s.hostMay o 1 h = true) → (s.hostKey labelMgq (tenantOf h) = some kq) → (s.hostKey labelMgr (tenantOf h) = some kr) → (s.lockHeld = false) → (plainRead (addressOf h) (sizeOf_ h) = true) → offMgmt (addressOf h) (sizeOf_ h) → (s.readable (callOf s.device (hostOf h) 1 h [] (decide (o.link = 512))) 256 = 0) → 
      ∃ t, exec (.mgmtRead o (sealMgmt kq (hostIv h) h [])) s = .next t ∧
        (s.hostTook t h = true) ∧
        (s.hostTold t o h kr 0 (s.readBytes (tenantOf h) (addressOf h) (sizeOf_ h)) = true) ∧
        (t.units.clasp.lock = s.units.clasp.lock) ∧
        (∀ a, ¬ (inMgmt a) → t.rd a = s.rd a) ∧
        t.force = s.force ∧
        t.flash = s.flash) ∧
  (∀ (s : State) (o : Origin) (h kq kr d : List Byte) (run : StartRun) (x : Reg × List Nat × Nat),
      (s.hostMay o 2 h = true) → (s.hostKey labelMgq (tenantOf h) = some kq) → (s.hostKey labelMgr (tenantOf h) = some kr) → (x.2.2 = addressOf h) → (plainWrite x (sizeOf_ h) = true) → offMgmt (addressOf h) (sizeOf_ h) → (s.writable (callOf s.device (hostOf h) 2 h d (decide (o.link = 512))) 256 = 0) → (s.lockHeld = false) → 
      ∃ t, exec (.mgmtWrite o (sealMgmt kq (hostIv h) h d) run) s = .next t ∧
        (s.hostTook t h = true) ∧
        (s.hostTold t o h kr 0 [] = true) ∧
        (s.tookWrite t (tenantOf h) x (word (ofBe d)) = true) ∧
        (∀ a, ¬ (inMgmt a ∨ a = x.2.2 ∨ a = F.IMG_VOLATILE_WRITES_COUNT.addr ∨ (lostField x.2.2 x.2.1).map (·.addr) = some a) → t.rd a = s.rd a) ∧
        t.force = s.force ∧
        t.flash = s.flash) ∧
  (∀ (s : State) (o : Origin) (h kq kr d : List Byte) (run : StartRun) (x : Reg × List Nat × Nat),
      (s.hostMay o 3 h = true) → (s.hostKey labelMgq (tenantOf h) = some kq) → (s.hostKey labelMgr (tenantOf h) = some kr) → (x.2.2 = addressOf h) → (plainWrite x (sizeOf_ h) = true) → offMgmt (addressOf h) (sizeOf_ h) → (s.writable (callOf s.device (hostOf h) 3 h d (decide (o.link = 512))) 256 = 0) → (s.lockHeld = false) → 
      ∃ t, exec (.mgmtWritePosted o (sealMgmt kq (hostIv h) h d) run) s = .next t ∧
        (s.hostTook t h = true) ∧
        (t.units.svc = s.units.svc) ∧
        (s.tookWrite t (tenantOf h) x (word (ofBe d)) = true) ∧
        (∀ a, ¬ (inMgmt a ∨ a = x.2.2 ∨ a = F.IMG_VOLATILE_WRITES_COUNT.addr ∨ (lostField x.2.2 x.2.1).map (·.addr) = some a) → t.rd a = s.rd a) ∧
        t.force = s.force ∧
        t.flash = s.flash) ∧
  (∀ (s : State) (o : Origin) (h kq kr : List Byte),
      (s.hostMay o 4 h = true) → (s.hostKey labelMgq (tenantOf h) = some kq) → (s.hostKey labelMgr (tenantOf h) = some kr) → (s.lockHeld = false) → (plainRead (addressOf h) (sizeOf_ h) = true) → offMgmt (addressOf h) (sizeOf_ h) → (s.readable (callOf s.device (hostOf h) 4 h [] (decide (o.link = 512))) 64 = 0) → 
      ∃ t, exec (.mgmtLockRead o (sealMgmt kq (hostIv h) h [])) s = .next t ∧
        (s.hostTook t h = true) ∧
        (s.hostTold t o h kr 0 (s.readBytes (tenantOf h) (addressOf h) (sizeOf_ h)) = true) ∧
        (t.units.clasp.lock = some { source := s.device, tenant := tenantOf h, host := hostOf h, address := addressOf h, size := sizeOf_ h, since := s.keep.elapsed }) ∧
        (∀ a, ¬ (inMgmt a) → t.rd a = s.rd a) ∧
        t.force = s.force ∧
        t.flash = s.flash) ∧
  (∀ (s : State) (o : Origin) (h kq kr d : List Byte) (run : StartRun) (x : Reg × List Nat × Nat),
      (s.hostMay o 5 h = true) → (s.hostKey labelMgq (tenantOf h) = some kq) → (s.hostKey labelMgr (tenantOf h) = some kr) → (x.2.2 = addressOf h) → (plainWrite x (sizeOf_ h) = true) → offMgmt (addressOf h) (sizeOf_ h) → (s.writable (callOf s.device (hostOf h) 5 h d (decide (o.link = 512))) 64 = 0) → (s.holds (callOf s.device (hostOf h) 5 h d (decide (o.link = 512))) = true) → (s.inLock (callOf s.device (hostOf h) 5 h d (decide (o.link = 512))) = true) → 
      ∃ t, exec (.mgmtWriteUnlock o (sealMgmt kq (hostIv h) h d) run) s = .next t ∧
        (s.hostTook t h = true) ∧
        (s.hostTold t o h kr 0 [] = true) ∧
        (s.tookWrite t (tenantOf h) x (word (ofBe d)) = true) ∧
        (t.units.clasp.lock = none) ∧
        (∀ a, ¬ (inMgmt a ∨ a = x.2.2 ∨ a = F.IMG_VOLATILE_WRITES_COUNT.addr ∨ (lostField x.2.2 x.2.1).map (·.addr) = some a) → t.rd a = s.rd a) ∧
        t.force = s.force ∧
        t.flash = s.flash) ∧
  (∀ (s : State) (o : Origin) (h kq kr : List Byte),
      (s.hostMay o 6 h = true) → (s.hostKey labelMgq (tenantOf h) = some kq) → (s.hostKey labelMgr (tenantOf h) = some kr) → (s.holds (callOf s.device (hostOf h) 6 h [] (decide (o.link = 512))) = true) → 
      ∃ t, exec (.mgmtUnlock o (sealMgmt kq (hostIv h) h [])) s = .next t ∧
        (s.hostTook t h = true) ∧
        (s.hostTold t o h kr 0 [] = true) ∧
        (t.units.clasp.lock = none) ∧
        (∀ a, ¬ (inMgmt a) → t.rd a = s.rd a) ∧
        t.force = s.force ∧
        t.flash = s.flash) ∧
  (∀ (s : State) (o : Origin) (h kq kr : List Byte) (i : Instr) (run : StartRun) (op : Nat),
      (i, op) ∈ [((.mgmtUnlock o (sealMgmt kq (hostIv h) h []) : Instr), 6), (.mgmtWriteUnlock o (sealMgmt kq (hostIv h) h []) run, 5)] → (s.hostMay o op h = true) → (s.hostKey labelMgq (tenantOf h) = some kq) → (s.hostKey labelMgr (tenantOf h) = some kr) → (s.holds (callOf s.device (hostOf h) op h [] (decide (o.link = 512))) = false) → 
      ∃ t, exec (i) s = .next t ∧
        (s.hostTook t h = true) ∧
        (s.hostTold t o h kr 8 [] = true) ∧
        (t.units.clasp.lock = if s.lockHeld then s.units.clasp.lock else none) ∧
        (∀ a, ¬ (inMgmt a) → t.rd a = s.rd a) ∧
        t.force = s.force ∧
        t.flash = s.flash) ∧
  (∀ (s : State) (o : Origin) (h kq kr : List Byte) (i : Instr) (run : StartRun) (op : Nat),
      (i, op) ∈ [((.mgmtRead o (sealMgmt kq (hostIv h) h []) : Instr), 1), (.mgmtWrite o (sealMgmt kq (hostIv h) h []) run, 2), (.mgmtWritePosted o (sealMgmt kq (hostIv h) h []) run, 3), (.mgmtLockRead o (sealMgmt kq (hostIv h) h []), 4), (.mgmtTunnelTx o (sealMgmt kq (hostIv h) h []), 7)] → (s.hostMay o op h = true) → (s.hostKey labelMgq (tenantOf h) = some kq) → (s.hostKey labelMgr (tenantOf h) = some kr) → (s.lockHeld = true) → 
      ∃ t, exec (i) s = .next t ∧
        (s.hostTook t h = true) ∧
        (s.hostTold t o h kr 7 [] = true) ∧
        (t.units.clasp.lock = s.units.clasp.lock) ∧
        (∀ a, ¬ (inMgmt a) → t.rd a = s.rd a) ∧
        t.force = s.force ∧
        t.flash = s.flash) ∧
  (∀ (s : State) (o : Origin) (h kq kr : List Byte) (d : List Byte),
      (s.hostMay o 7 h = true) → (s.hostKey labelMgq (tenantOf h) = some kq) → (s.hostKey labelMgr (tenantOf h) = some kr) → (s.lockHeld = false) → (s.unconfigured = false) → (s.tunnelTakes (addressOf h % 2) (tenantOf h) d = true) → 
      ∃ t, exec (.mgmtTunnelTx o (sealMgmt kq (hostIv h) h d)) s = .next t ∧
        (s.hostTook t h = true) ∧
        (s.hostTold t o h kr 0 [] = true) ∧
        (s.onBus (addressOf h % 2) = false → (t.fb (addressOf h % 2)).tunnel.map some = (s.fb (addressOf h % 2)).tunnel.map some ++ [canOfRecord d]) ∧
        (∀ a, ¬ (inMgmt a ∨ inFbus (addressOf h % 2) a) → t.rd a = s.rd a) ∧
        t.force = s.force ∧
        t.flash = s.flash) ∧
  (∀ (s : State) (o : Origin) (m : List Byte) (run : StartRun) (i : Instr) (op : Nat),
      (i, op) ∈ [((.mgmtRead o m : Instr), 1), (.mgmtWrite o m run, 2), (.mgmtWritePosted o m run, 3), (.mgmtLockRead o m, 4), (.mgmtWriteUnlock o m run, 5), (.mgmtUnlock o m, 6), (.mgmtTunnelTx o m, 7)] → (s.up = true) → (hostRow op o m = true) → ((s.unconfigured && onRing o) = false) → (s.pending = []) → (s.win.early = []) → (s.hostOpen o m = none) → 
      ∃ t, exec (i) s = .next t ∧
        (t.get (F.CLP_DEVICE_AUTH_FAIL_C) = (s.get (F.CLP_DEVICE_AUTH_FAIL_C) + 1) % 2 ^ 48) ∧
        (t.units.clasp = s.units.clasp) ∧
        (t.units.svc = s.units.svc) ∧
        (t.out = s.out) ∧
        (∀ a, ¬ (a = F.CLP_DEVICE_AUTH_FAIL_C.addr ∨ inNotify a) → t.rd a = s.rd a) ∧
        t.force = s.force ∧
        t.flash = s.flash) ∧
  (∀ (s : State) (o : Origin) (m : List Byte) (run : StartRun) (i : Instr) (op : Nat),
      (i, op) ∈ [((.mgmtRead o m : Instr), 1), (.mgmtWrite o m run, 2), (.mgmtWritePosted o m run, 3), (.mgmtLockRead o m, 4), (.mgmtWriteUnlock o m run, 5), (.mgmtUnlock o m, 6), (.mgmtTunnelTx o m, 7)] → (hostRow op o m = false) → exec (i) s = .next s) ∧
  (∀ (s : State) (o : Origin) (h kq kr : List Byte) (d : List Byte) (i : Instr) (run : StartRun) (op : Nat),
      (i, op) ∈ [((.mgmtRead o (sealMgmt kq (hostIv h) h d) : Instr), 1), (.mgmtWrite o (sealMgmt kq (hostIv h) h d) run, 2), (.mgmtWritePosted o (sealMgmt kq (hostIv h) h d) run, 3), (.mgmtLockRead o (sealMgmt kq (hostIv h) h d), 4), (.mgmtWriteUnlock o (sealMgmt kq (hostIv h) h d) run, 5), (.mgmtUnlock o (sealMgmt kq (hostIv h) h d), 6), (.mgmtTunnelTx o (sealMgmt kq (hostIv h) h d), 7)] → (s.up = true) → (h.length = 32) → (hostRow op o h = true) → ((s.unconfigured && onRing o) = false) → (s.pending = []) → (s.win.early = []) → ((s.tenant (tenantOf h)).enabled = true) → (tenantOf h ≠ 0 ∨ s.owned = true ∨ o.link = 512) → (s.hostKey labelMgq (tenantOf h) = some kq) → (s.hostKey labelMgr (tenantOf h) = some kr) → (s.hostWindow h = none) → 
      ∃ t, exec (i) s = .next t ∧
        (t.get (F.CLP_DEVICE_REPLAY_C) = (s.get (F.CLP_DEVICE_REPLAY_C) + 1) % 2 ^ 48) ∧
        (t.units.clasp = s.units.clasp) ∧
        (t.units.svc = s.units.svc) ∧
        (t.out = s.out) ∧
        (∀ a, ¬ (a = F.CLP_DEVICE_REPLAY_C.addr ∨ inNotify a) → t.rd a = s.rd a) ∧
        t.force = s.force ∧
        t.flash = s.flash)

/-- A bridge message for another device is forwarded with one hop less on the port that CLP_ROUTE names and is counted; without a route or a hop left it counts as a route miss alone. A request for this device whose tag holds is counted, takes its sequence and, on a READ, leaves the registers as they are; a repeated sequence counts as replay alone; of a tenant not enabled it counts as not authentic alone; one whose tag fails waits for the nonce of its source. A response with a nonce is held for its device. The authentic answer to a token is held for its host. An END_TO_END message not of T0 counts as not authentic alone; one that enters here for another device keeps its host; a HELLO to this device is answered. A message of another kind than its row does nothing. Registers outside Clasp, the service port and the queues stay. -/
def Obligations.BridgesAndFarOperations : Prop :=
  (∀ (s : State) (o : Origin) (m : List Byte) (run : StartRun) (r : Nat),
      (isMgmt m = true) → (opOf m < 128) → (endToEnd m = false) → (bridged o m = true) → (s.up = true) → (s.unconfigured = false) → (targetOf m ≠ s.device) → (s.route (targetOf m) = some r) → (hopsOf m ≠ 0) → 
      ∃ t, exec (.bridgeRequest o m run) s = .next t ∧
        (t.get (F.CLP_DEVICE_RELAYED_C) = (s.get (F.CLP_DEVICE_RELAYED_C) + 1) % 2 ^ 48) ∧
        (t.units.clasp = s.units.clasp) ∧
        (t.out = s.out) ∧
        (∀ a, ¬ (inMgmt a) → t.rd a = s.rd a) ∧
        t.force = s.force ∧
        t.flash = s.flash) ∧
  (∀ (s : State) (o : Origin) (m : List Byte) (run : StartRun),
      (isMgmt m = true) → (opOf m < 128) → (endToEnd m = false) → (bridged o m = true) → (s.up = true) → (s.unconfigured = false) → (targetOf m ≠ s.device) → (s.route (targetOf m) = none ∨ hopsOf m = 0) → 
      ∃ t, exec (.bridgeRequest o m run) s = .next t ∧
        (t.get (F.CLP_DEVICE_ROUTE_MISS_C) = (s.get (F.CLP_DEVICE_ROUTE_MISS_C) + 1) % 2 ^ 48) ∧
        (t.units.clasp = s.units.clasp) ∧
        (t.out = s.out) ∧
        (∀ a, ¬ (a = F.CLP_DEVICE_ROUTE_MISS_C.addr ∨ inNotify a) → t.rd a = s.rd a) ∧
        t.force = s.force ∧
        t.flash = s.flash) ∧
  (∀ (s : State) (o : Origin) (m : List Byte) (run : StartRun),
      (isMgmt m = false ∨ 128 ≤ opOf m ∨ endToEnd m = true ∨ bridged o m = false ∨ s.up = false ∨ s.unconfigured = true) → exec (.bridgeRequest o m run) s = .next s) ∧
  (∀ (s : State) (o : Origin) (h k : List Byte) (run : StartRun),
      (opOf h = 1) → (h.length = 32) → (s.up = true) → (s.unconfigured = false) → (isMgmt h = true) → (endToEnd h = false) → (bridged o h = true) → (targetOf h = s.device) → ((s.tenant (tenantOf h)).enabled = true) → (s.pending = []) → (s.win.early = []) → (s.entryNonce (sourceOf h) ≠ []) → (s.bridgeKey labelMbq s.units.clasp.nonce (s.entryNonce (sourceOf h)) = some k) → ((s.bridgeWindow h).isSome = true) → (s.lockHeld = false) → (plainRead (addressOf h) (sizeOf_ h) = true) → ((s.turnedAway true (tenantOf h) 1 (addressOf h)).isNone = true) → 
      ∃ t, exec (.bridgeRequest o (sealMgmt k (bridgeIv h) h []) run) s = .next t ∧
        (t.get (F.CLP_DEVICE_TRANSACTIONS_C) = (s.get (F.CLP_DEVICE_TRANSACTIONS_C) + 1) % 2 ^ 48) ∧
        (t.get (F.CLP_TENANT_TRANSACTIONS_C (tenantOf h)) = (s.get (F.CLP_TENANT_TRANSACTIONS_C (tenantOf h)) + 1) % 2 ^ 48) ∧
        (Sparse.get (fun _ => none) t.units.clasp.bridgeSeen (sourceOf h * 32 + tenantOf h) = s.bridgeWindow h) ∧
        (t.units.clasp.busy = false) ∧
        (t.units.clasp.lock = s.units.clasp.lock) ∧
        (t.units.clasp.tokens = s.units.clasp.tokens) ∧
        (∀ a, ¬ (inMgmt a) → t.rd a = s.rd a) ∧
        t.force = s.force ∧
        t.flash = s.flash) ∧
  (∀ (s : State) (o : Origin) (h k : List Byte) (run : StartRun),
      (opOf h ≠ 0) → (opOf h < 128) → (h.length = 32) → (s.up = true) → (s.unconfigured = false) → (isMgmt h = true) → (endToEnd h = false) → (bridged o h = true) → (targetOf h = s.device) → ((s.tenant (tenantOf h)).enabled = true) → (s.pending = []) → (s.win.early = []) → (s.entryNonce (sourceOf h) ≠ []) → (s.bridgeKey labelMbq s.units.clasp.nonce (s.entryNonce (sourceOf h)) = some k) → (s.bridgeWindow h = none) → 
      ∃ t, exec (.bridgeRequest o (sealMgmt k (bridgeIv h) h []) run) s = .next t ∧
        (t.get (F.CLP_DEVICE_REPLAY_C) = (s.get (F.CLP_DEVICE_REPLAY_C) + 1) % 2 ^ 48) ∧
        (t.units.clasp = s.units.clasp) ∧
        (t.out = s.out) ∧
        (∀ a, ¬ (a = F.CLP_DEVICE_REPLAY_C.addr ∨ inNotify a) → t.rd a = s.rd a) ∧
        t.force = s.force ∧
        t.flash = s.flash) ∧
  (∀ (s : State) (o : Origin) (m : List Byte) (run : StartRun),
      (isMgmt m = true) → (opOf m < 128) → (endToEnd m = false) → (bridged o m = true) → (s.up = true) → (s.unconfigured = false) → (targetOf m = s.device) → (opOf m ≠ 0) → (s.pending = []) → (s.win.early = []) → ((s.tenant (tenantOf m)).enabled = false) → 
      ∃ t, exec (.bridgeRequest o m run) s = .next t ∧
        (t.get (F.CLP_DEVICE_AUTH_FAIL_C) = (s.get (F.CLP_DEVICE_AUTH_FAIL_C) + 1) % 2 ^ 48) ∧
        (t.units.clasp = s.units.clasp) ∧
        (t.out = s.out) ∧
        (∀ a, ¬ (a = F.CLP_DEVICE_AUTH_FAIL_C.addr ∨ inNotify a) → t.rd a = s.rd a) ∧
        t.force = s.force ∧
        t.flash = s.flash) ∧
  (∀ (s : State) (o : Origin) (m : List Byte) (run : StartRun),
      (isMgmt m = true) → (opOf m < 128) → (endToEnd m = false) → (bridged o m = true) → (s.up = true) → (s.unconfigured = false) → (targetOf m = s.device) → (opOf m ≠ 0) → (s.pending = []) → (s.win.early = []) → ((s.tenant (tenantOf m)).enabled = true) → (s.bridgeOpen m = none) → 
      ∃ t, exec (.bridgeRequest o m run) s = .next t ∧
        (t.doubts (sourceOf m) = s.doubts (sourceOf m) ++ [(o, m)]) ∧
        (t.units.clasp.bridgeSeen = s.units.clasp.bridgeSeen) ∧
        (t.get F.CLP_DEVICE_TRANSACTIONS_C = s.get F.CLP_DEVICE_TRANSACTIONS_C) ∧
        (∀ a, ¬ (inMgmt a) → t.rd a = s.rd a) ∧
        t.force = s.force ∧
        t.flash = s.flash) ∧
  (∀ (s : State) (o : Origin) (m : List Byte) (run : StartRun),
      (isMgmt m = true) → (128 ≤ opOf m) → (endToEnd m = false) → (onRing o = true) → (s.up = true) → (s.unconfigured = false) → (sourceOf m = s.device) → (opOf m = 128) → (44 ≤ m.length) → (s.doubts (targetOf m) = []) → (∀ e ∈ s.units.clasp.unsent, e.1 ≠ targetOf m) → 
      ∃ t, exec (.bridgeResponse o m run) s = .next t ∧
        (t.targetNonce (targetOf m) = slice m 32 12) ∧
        (t.regs = s.regs) ∧
        (t.out = s.out) ∧
        (t.units.clasp.unsent = s.units.clasp.unsent) ∧
        (∀ a, ¬ (False) → t.rd a = s.rd a) ∧
        t.force = s.force ∧
        t.flash = s.flash) ∧
  (∀ (s : State) (o : Origin) (h d k : List Byte) (run : StartRun) (x : Token),
      (h.length = 32) → (isMgmt h = true) → (129 ≤ opOf h) → (endToEnd h = false) → (onRing o = true) → (s.up = true) → (s.unconfigured = false) → (sourceOf h = s.device) → (s.units.clasp.tokens = [x]) → (x.answer = none) → ((x.bridge.any (fun b => decide (b.1 = mseqOf h) && decide (b.2.1 = targetOf h))) = true) → (x.watch = none) → (x.posted = false) → (s.bridgeKey labelMbr (s.targetNonce (targetOf h)) s.units.clasp.nonce = some k) → (opOf x.request < 4) → 
      ∃ t, exec (.bridgeResponse o (sealMgmt k (bridgeIv h) h d) run) s = .next t ∧
        (t.units.clasp.tokens = [{ x with answer := some (num h 3 1, 0, d, s.keep.elapsed) }]) ∧
        (num h 3 1 = 6 → t.get (F.CLP_DEVICE_FAR_ERRORS_C) = (s.get (F.CLP_DEVICE_FAR_ERRORS_C) + 1) % 2 ^ 48) ∧
        (t.out = s.out) ∧
        (∀ a, ¬ (a = F.CLP_DEVICE_FAR_ERRORS_C.addr ∨ inNotify a) → t.rd a = s.rd a) ∧
        t.force = s.force ∧
        t.flash = s.flash) ∧
  (∀ (s : State) (o : Origin) (m : List Byte) (run : StartRun),
      (isMgmt m = false ∨ opOf m < 128 ∨ endToEnd m = true ∨ onRing o = false ∨ s.up = false ∨ s.unconfigured = true) → exec (.bridgeResponse o m run) s = .next s) ∧
  (∀ (s : State) (o : Origin) (m : List Byte) (run : StartRun),
      (isMgmt m = true) → (endToEnd m = true) → (s.up = true) → (tenantOf m ≠ 0) → 
      ∃ t, exec (.endToEndMessage o m run) s = .next t ∧
        (t.get (F.CLP_DEVICE_AUTH_FAIL_C) = (s.get (F.CLP_DEVICE_AUTH_FAIL_C) + 1) % 2 ^ 48) ∧
        (t.units.clasp = s.units.clasp) ∧
        (t.out = s.out) ∧
        (∀ a, ¬ (a = F.CLP_DEVICE_AUTH_FAIL_C.addr ∨ inNotify a) → t.rd a = s.rd a) ∧
        t.force = s.force ∧
        t.flash = s.flash) ∧
  (∀ (s : State) (o : Origin) (m : List Byte) (run : StartRun),
      (isMgmt m = true) → (endToEnd m = true) → (s.up = true) → (tenantOf m = 0) → (opOf m = 0) → (targetOf m = s.device) → (adjacent m = false) → (o.link = 512) → (s.is F.SVC_CFG_ENABLE = true) → (s.units.svc.frames.length < 16) → 
      ∃ t, exec (.endToEndMessage o m run) s = .next t ∧
        (t.units.svc.frames = s.units.svc.frames ++ [s.svcFrame o (answerHeader m 0 0 ++ s.units.clasp.nonce ++ be 4 s.incarnation)]) ∧
        (t.units.clasp = s.units.clasp) ∧
        (∀ a, ¬ (a = F.SVC_STATUS_TXQ_DEPTH.addr) → t.rd a = s.rd a) ∧
        t.force = s.force ∧
        t.flash = s.flash) ∧
  (∀ (s : State) (o : Origin) (m : List Byte) (run : StartRun),
      (isMgmt m = true) → (endToEnd m = true) → (s.up = true) → (tenantOf m = 0) → (opOf m < 128) → (onRing o = false) → (adjacent m = false) → (targetOf m ≠ s.device) → 
      ∃ t, exec (.endToEndMessage o m run) s = .next t ∧
        ((t.units.clasp.endToEnd.getLast?) = some (mseqOf m, o, s.keep.elapsed)) ∧
        ((s.route (targetOf m)).isNone = true → t.get (F.CLP_DEVICE_ROUTE_MISS_C) = (s.get (F.CLP_DEVICE_ROUTE_MISS_C) + 1) % 2 ^ 48) ∧
        (t.units.svc = s.units.svc) ∧
        (∀ a, ¬ (inMgmt a) → t.rd a = s.rd a) ∧
        t.force = s.force ∧
        t.flash = s.flash) ∧
  (∀ (s : State) (o : Origin) (m : List Byte) (run : StartRun),
      (isMgmt m = false ∨ endToEnd m = false ∨ s.up = false) → exec (.endToEndMessage o m run) s = .next s)

/-- A far operation that no answer has reached within FAR_TIMEOUT_US ends with STATUS 0x06 for its host, is counted, and the nonce of its target is forgotten; before that, or once answered, nothing happens. A result that no host collects within 1 ms frees its token. A lock older than 50 µs is dropped and counted, and the far locks that old are forgotten; a younger one stays. A watch that is due reads its register here: the first reading is held in LAST_VALUE without a notification, a reading that fails sets WATCH_FAULT and keeps LAST_VALUE; while other commands of the window wait, the reading waits as well. Other registers stay. -/
def Obligations.TokensLocksAndWatches : Prop :=
  (∀ (s : State) (k : Nat) (x : Token) (b : Nat × Nat × Nat),
      (s.token k = some x) → (x.bridge = some b) → (x.answer = none) → (x.watch = none) → (x.posted = false) → (b.2.2 + s.farTicks ≤ s.keep.elapsed) → 
      ∃ t, exec (.farTimeout k) s = .next t ∧
        ((t.token k).bind (·.answer) = some (6, 0, [], s.keep.elapsed)) ∧
        (t.get (F.CLP_DEVICE_FAR_ERRORS_C) = (s.get (F.CLP_DEVICE_FAR_ERRORS_C) + 1) % 2 ^ 48) ∧
        (t.targetNonce b.2.1 = []) ∧
        (t.units.clasp.tokens.length = s.units.clasp.tokens.length) ∧
        (∀ a, ¬ (inMgmt a) → t.rd a = s.rd a) ∧
        t.force = s.force ∧
        t.flash = s.flash) ∧
  (∀ (s : State) (k : Nat),
      (∀ x ∈ s.token k, ∀ b ∈ x.bridge, x.answer ≠ none ∨ s.keep.elapsed < b.2.2 + s.farTicks) → exec (.farTimeout k) s = .next s) ∧
  (∀ (s : State) (k : Nat) (n : Nat × Nat × List Byte × Nat),
      ((s.token k).bind (·.answer) = some n) → (n.2.2.2 + tickMs ≤ s.keep.elapsed) → 
      ∃ t, exec (.tokenExpiry k) s = .next t ∧
        (t.units.clasp.tokens = s.units.clasp.tokens.filter (fun x => x.id ≠ k)) ∧
        (t.regs = s.regs) ∧
        (t.out = s.out) ∧
        t.force = s.force ∧
        t.flash = s.flash) ∧
  (∀ (s : State) (k : Nat),
      (∀ n ∈ (s.token k).bind (·.answer), s.keep.elapsed < n.2.2.2 + tickMs) → exec (.tokenExpiry k) s = .next s) ∧
  (∀ (s : State) (l : MgmtLock),
      (s.units.clasp.lock = some l) → (l.since + lockTicks ≤ s.keep.elapsed) → (s.pending = []) → 
      ∃ t, exec (.lockExpiry) s = .next t ∧
        (t.units.clasp.lock = none) ∧
        (t.get (F.CLP_DEVICE_LOCK_EXPIRED_C) = (s.get (F.CLP_DEVICE_LOCK_EXPIRED_C) + 1) % 2 ^ 48) ∧
        (t.units.clasp.farLocks = s.units.clasp.farLocks.filter (fun y => s.keep.elapsed < y.2.2.2 + lockTicks)) ∧
        (t.out = s.out) ∧
        (∀ a, ¬ (a = F.CLP_DEVICE_LOCK_EXPIRED_C.addr ∨ inNotify a) → t.rd a = s.rd a) ∧
        t.force = s.force ∧
        t.flash = s.flash) ∧
  (∀ (s : State),
      (∀ l ∈ s.units.clasp.lock, s.keep.elapsed < l.since + lockTicks) → 
      ∃ t, exec (.lockExpiry) s = .next t ∧
        (t.units.clasp.lock = s.units.clasp.lock) ∧
        (t.regs = s.regs) ∧
        (t.out = s.out) ∧
        t.force = s.force ∧
        t.flash = s.flash) ∧
  (∀ (s : State) (w : Nat),
      (s.watchDue w = true) → (s.pending = []) → (s.get (F.CLP_WATCH_CFG_TARGET_DEVICE w) = s.device) → ((s.tenant (s.get (F.CLP_WATCH_CFG_TENANT w))).enabled = true) → (s.get (F.CLP_WATCH_CFG_TENANT w) < 32) → ((s.watch w).primed = false) → (s.readStatus (s.get (F.CLP_WATCH_CFG_TENANT w)) (s.get (F.CLP_WATCH_ADDRESS_ADDRESS w)) (s.watchSize w) 256 = 0) → (s.serves (s.get (F.CLP_WATCH_ADDRESS_ADDRESS w)) = true) → (plainRead (s.get (F.CLP_WATCH_ADDRESS_ADDRESS w)) (s.watchSize w) = true) → 
      ∃ t, exec (.watchPoll w) s = .next t ∧
        (t.get (F.CLP_WATCH_LAST_VALUE w) = ofBe (s.readBytes (s.get (F.CLP_WATCH_CFG_TENANT w)) (s.get (F.CLP_WATCH_ADDRESS_ADDRESS w)) (s.watchSize w)) &&& (s.get (F.CLP_WATCH_MASK_MASK w) % 2 ^ (8 * s.watchSize w))) ∧
        ((t.watch w).primed = true) ∧
        ((t.watch w).at_ = some s.keep.elapsed) ∧
        (t.out = s.out) ∧
        (∀ a, ¬ (a = (F.CLP_WATCH_LAST_VALUE w).addr) → t.rd a = s.rd a) ∧
        t.force = s.force ∧
        t.flash = s.flash) ∧
  (∀ (s : State) (w : Nat),
      (s.watchDue w = true) → (s.pending = []) → (s.get (F.CLP_WATCH_CFG_TARGET_DEVICE w) = s.device) → (s.get (F.CLP_WATCH_CFG_TENANT w) < 32) → ((s.tenant (s.get (F.CLP_WATCH_CFG_TENANT w))).enabled = true) → (3 ≤ s.readStatus (s.get (F.CLP_WATCH_CFG_TENANT w)) (s.get (F.CLP_WATCH_ADDRESS_ADDRESS w)) (s.watchSize w) 256) → 
      ∃ t, exec (.watchPoll w) s = .next t ∧
        (t.is (F.CLP_WATCH_CFG_WATCH_FAULT w) = true) ∧
        ((t.watch w).failed = true) ∧
        (t.out = s.out) ∧
        (∀ a, ¬ (a = (F.CLP_WATCH_CFG_WATCH_FAULT w).addr ∨ inNotify a) → t.rd a = s.rd a) ∧
        t.force = s.force ∧
        t.flash = s.flash) ∧
  (∀ (s : State) (w : Nat),
      (s.watchDue w = true) → (s.pending ≠ []) → 
      ∃ t, exec (.watchPoll w) s = .next t ∧
        (7, w) ∈ t.win.marks ∧
        (t.regs = s.regs) ∧
        (t.units = s.units) ∧
        (t.out = s.out) ∧
        t.force = s.force ∧
        t.flash = s.flash) ∧
  (∀ (s : State) (w : Nat),
      (s.watchDue w = false) → exec (.watchPoll w) s = .next s)

/-- On an enabled port a frame shorter than 64 octets is counted as a runt and one with a wrong FCS as such, and neither goes further; a good frame is counted, and one for another address, or that is no management datagram, is counted as not addressed. A port that is off hears nothing but what wakes Ember. At a transmit opportunity the oldest waiting frame goes out whole. A collision while sending is counted, jams, and lets the frame wait a number of 512-bit slots below 2 to the power of its attempts, at most 2^10; the sixteenth drops it, as a late one does. A collision while receiving counts a runt. When its back-off ends the frame is sent again. With PLCA there is neither jam nor back-off. Registers outside the port stay. -/
def Obligations.ServicePort : Prop :=
  (∀ (s : State) (f : List Byte) (ok : Bool) (run : StartRun),
      (s.up = true) → (s.is F.SVC_CFG_ENABLE = true) → (f.length < 64) → 
      ∃ t, exec (.svcFrameReceived f ok run) s = .next t ∧
        (t.get (F.SVC_RX_RUNTS_C) = (s.get (F.SVC_RX_RUNTS_C) + 1) % 2 ^ 48) ∧
        (t.units = s.units) ∧
        (t.out = s.out) ∧
        (∀ a, ¬ (a = F.SVC_RX_RUNTS_C.addr ∨ inNotify a) → t.rd a = s.rd a) ∧
        t.force = s.force ∧
        t.flash = s.flash) ∧
  (∀ (s : State) (f : List Byte) (ok : Bool) (run : StartRun),
      (s.up = true) → (s.is F.SVC_CFG_ENABLE = true) → (64 ≤ f.length) → (ok = false) → 
      ∃ t, exec (.svcFrameReceived f ok run) s = .next t ∧
        (t.get (F.SVC_RX_FCS_ERRORS_C) = (s.get (F.SVC_RX_FCS_ERRORS_C) + 1) % 2 ^ 48) ∧
        (t.units = s.units) ∧
        (t.out = s.out) ∧
        (∀ a, ¬ (a = F.SVC_RX_FCS_ERRORS_C.addr ∨ inNotify a) → t.rd a = s.rd a) ∧
        t.force = s.force ∧
        t.flash = s.flash) ∧
  (∀ (s : State) (f : List Byte) (ok : Bool) (run : StartRun),
      (s.up = true) → (s.is F.SVC_CFG_ENABLE = true) → (64 ≤ f.length) → (ok = true) → (num f 0 6 ≠ s.get F.SVC_MAC_MAC) → (s.ember = embActive) → 
      ∃ t, exec (.svcFrameReceived f ok run) s = .next t ∧
        (t.get (F.SVC_RX_FRAMES_C) = (s.get (F.SVC_RX_FRAMES_C) + 1) % 2 ^ 48) ∧
        (t.get (F.SVC_RX_NOT_ADDRESSED_C) = (s.get (F.SVC_RX_NOT_ADDRESSED_C) + 1) % 2 ^ 48) ∧
        (t.units.svc = s.units.svc) ∧
        (t.units.clasp = s.units.clasp) ∧
        (t.out = s.out) ∧
        (∀ a, ¬ (a = F.SVC_RX_FRAMES_C.addr ∨ a = F.SVC_RX_NOT_ADDRESSED_C.addr ∨ a = F.EMB_WAKE_FRAMES_COUNT.addr ∨ a = F.EMB_WAKE_CAUSE_COLD.addr ∨ inNotify a) → t.rd a = s.rd a) ∧
        t.force = s.force ∧
        t.flash = s.flash) ∧
  (∀ (s : State) (f : List Byte) (ok : Bool) (run : StartRun),
      (s.up = true) → (s.is F.SVC_CFG_ENABLE = false) → exec (.svcFrameReceived f ok run) s = .next s) ∧
  (∀ (s : State) (f : List Byte) (ok : Bool) (run : StartRun),
      (s.up = false) → (s.ember ≠ embListening) → exec (.svcFrameReceived f ok run) s = .next s) ∧
  (∀ (s : State) (f : List Byte) (l : List (List Byte)),
      (s.svcOn = true) → (s.units.svc.frames = f :: l) → (s.units.svc.sentAt = none) → (s.units.svc.waitTo = none) → 
      ∃ t, exec (.svcTransmitOpportunity) s = .next t ∧
        (t.units.svc.sentAt = some s.keep.elapsed) ∧
        (t.units.svc.frames = f :: l) ∧
        (t.out = s.out ++ [.svcFrame f]) ∧
        (s.plca = true → t.get F.SVC_STATUS_PLCA_STATUS = 1) ∧
        (∀ a, ¬ (a = F.SVC_STATUS_TXQ_DEPTH.addr ∨ a = F.SVC_STATUS_PLCA_STATUS.addr) → t.rd a = s.rd a) ∧
        t.force = s.force ∧
        t.flash = s.flash) ∧
  (∀ (s : State),
      (s.svcOn = false) → (s.svcEnd = none) → exec (.svcTransmitOpportunity) s = .next s) ∧
  (∀ (s : State),
      (s.svcOn = true) → (s.svcEnd = none) → 
      ∃ t, exec (.svcCollision false false) s = .next t ∧
        (t.get (F.SVC_RX_RUNTS_C) = (s.get (F.SVC_RX_RUNTS_C) + 1) % 2 ^ 48) ∧
        (t.units = s.units) ∧
        (t.out = s.out) ∧
        (∀ a, ¬ (a = F.SVC_RX_RUNTS_C.addr ∨ inNotify a) → t.rd a = s.rd a) ∧
        t.force = s.force ∧
        t.flash = s.flash) ∧
  (∀ (s : State) (x : Nat) (f : List Byte) (l : List (List Byte)),
      (s.svcOn = true) → (s.plca = false) → (s.units.svc.frames = f :: l) → (s.units.svc.sentAt = some x) → (s.keep.elapsed < x + (f.length + 12) * 8 * svcBit) → (s.units.svc.attempts < 15) → 
      ∃ t, exec (.svcCollision true false) s = .next t ∧
        (t.out = s.out ++ [.svcJam]) ∧
        (t.get (F.SVC_COLLISIONS_C) = (s.get (F.SVC_COLLISIONS_C) + 1) % 2 ^ 48) ∧
        (t.units.svc.attempts = s.units.svc.attempts + 1) ∧
        (t.units.svc.frames = f :: l) ∧
        (t.units.svc.sentAt = none) ∧
        (t.units.svc.waitTo.any (fun y => decide (s.keep.elapsed ≤ y) && decide ((y - s.keep.elapsed) % (512 * svcBit) = 0) && decide ((y - s.keep.elapsed) / (512 * svcBit) < 2 ^ min (s.units.svc.attempts + 1) 10)) = true) ∧
        (∀ a, ¬ (a = F.SVC_COLLISIONS_C.addr ∨ a = F.SVC_STATUS_TXQ_DEPTH.addr ∨ inNotify a) → t.rd a = s.rd a) ∧
        t.force = s.force ∧
        t.flash = s.flash) ∧
  (∀ (s : State) (x : Nat) (f : List Byte) (l : List (List Byte)),
      (s.svcOn = true) → (s.plca = false) → (s.units.svc.frames = f :: l) → (s.units.svc.sentAt = some x) → (s.keep.elapsed < x + (f.length + 12) * 8 * svcBit) → (15 ≤ s.units.svc.attempts) → 
      ∃ t, exec (.svcCollision true false) s = .next t ∧
        (t.out = s.out ++ [.svcJam]) ∧
        (t.get (F.SVC_COLLISIONS_C) = (s.get (F.SVC_COLLISIONS_C) + 1) % 2 ^ 48) ∧
        (t.get (F.SVC_EXCESS_COLLISIONS_C) = (s.get (F.SVC_EXCESS_COLLISIONS_C) + 1) % 2 ^ 48) ∧
        (t.units.svc.frames = l) ∧
        (t.units.svc.attempts = 0) ∧
        (∀ a, ¬ (a = F.SVC_COLLISIONS_C.addr ∨ a = F.SVC_EXCESS_COLLISIONS_C.addr ∨ a = F.SVC_STATUS_TXQ_DEPTH.addr ∨ inNotify a) → t.rd a = s.rd a) ∧
        t.force = s.force ∧
        t.flash = s.flash) ∧
  (∀ (s : State) (x : Nat) (f : List Byte) (l : List (List Byte)),
      (s.svcOn = true) → (s.plca = false) → (s.units.svc.frames = f :: l) → (s.units.svc.sentAt = some x) → (s.keep.elapsed < x + (f.length + 12) * 8 * svcBit) → 
      ∃ t, exec (.svcCollision true true) s = .next t ∧
        (t.out = s.out ++ [.svcJam]) ∧
        (t.get (F.SVC_LATE_COLLISIONS_C) = (s.get (F.SVC_LATE_COLLISIONS_C) + 1) % 2 ^ 48) ∧
        (t.units.svc.frames = l) ∧
        (t.units.svc.sentAt = none) ∧
        (∀ a, ¬ (a = F.SVC_COLLISIONS_C.addr ∨ a = F.SVC_LATE_COLLISIONS_C.addr ∨ a = F.SVC_STATUS_TXQ_DEPTH.addr ∨ inNotify a) → t.rd a = s.rd a) ∧
        t.force = s.force ∧
        t.flash = s.flash) ∧
  (∀ (s : State) (x : Nat) (b : Bool) (f : List Byte) (l : List (List Byte)),
      (s.svcOn = true) → (s.plca = true) → (s.units.svc.frames = f :: l) → (s.units.svc.sentAt = some x) → (s.keep.elapsed < x + (f.length + 12) * 8 * svcBit) → 
      ∃ t, exec (.svcCollision true b) s = .next t ∧
        (t.out = s.out) ∧
        (t.get (F.SVC_COLLISIONS_C) = (s.get (F.SVC_COLLISIONS_C) + 1) % 2 ^ 48) ∧
        (t.units.svc.frames = f :: l) ∧
        (t.units.svc.sentAt = none) ∧
        (t.units.svc.waitTo = s.units.svc.waitTo) ∧
        (∀ a, ¬ (a = F.SVC_COLLISIONS_C.addr ∨ a = F.SVC_STATUS_TXQ_DEPTH.addr ∨ inNotify a) → t.rd a = s.rd a) ∧
        t.force = s.force ∧
        t.flash = s.flash) ∧
  (∀ (s : State) (x : Nat) (f : List Byte) (l : List (List Byte)),
      (s.svcOn = true) → (s.units.svc.frames = f :: l) → (s.units.svc.sentAt = none) → (s.units.svc.waitTo = some x) → (x ≤ s.keep.elapsed) → 
      ∃ t, exec (.svcBackoffExpiry) s = .next t ∧
        (t.units.svc.sentAt = some s.keep.elapsed) ∧
        (t.units.svc.waitTo = none) ∧
        (t.units.svc.attempts = s.units.svc.attempts) ∧
        (t.out = s.out ++ [.svcFrame f]) ∧
        (∀ a, ¬ (a = F.SVC_STATUS_TXQ_DEPTH.addr) → t.rd a = s.rd a) ∧
        t.force = s.force ∧
        t.flash = s.flash) ∧
  (∀ (s : State),
      (s.svcOn = false ∨ ∀ x ∈ s.units.svc.waitTo, s.keep.elapsed < x) → exec (.svcBackoffExpiry) s = .next s)

/-- A write of TEN_CTRL with its key by the tenant or by T0, while the tenant runs, puts the tenant into reset, keeps the moment, and logs the fault; without key, right or that state it does nothing. Once every stream of the tenant has emitted its last frame the reset ends: the tenant runs, RESET_DONE is set, RESETS counted, the duration shown in microseconds, and its tokens, lock and far locks are gone while those of other tenants stay. Before that, or with no reset under way, nothing happens. Registers below the data path stay, but for Clasp's and the chronicle's. -/
def Obligations.TenantResets : Prop :=
  (∀ (s : State) (n w : Nat) (v : Word),
      (s.resetAccepted n w v = true) → 
      ∃ t, exec (.tenantReset n w v) s = .next t ∧
        (t.get (F.TEN_STATUS_STATE n) = 2) ∧
        (t.units.sup.tenantResets = s.units.sup.tenantResets ++ [(n, s.keep.elapsed)]) ∧
        (t.get (F.TEN_FAULTS_C n) = (s.get (F.TEN_FAULTS_C n) + 1) % 2 ^ 48) ∧
        (t.units.clasp = s.units.clasp) ∧
        (∀ a, ¬ (inEvents a ∨ a = F.IMG_VOLATILE_WRITES_COUNT.addr ∨ 0x08000000 ≤ a) → t.rd a = s.rd a) ∧
        t.force = s.force ∧
        t.flash = s.flash) ∧
  (∀ (s : State) (n w : Nat) (v : Word),
      (32 ≤ n ∨ (w ≠ 0 ∧ w ≠ n) ∨ s.get (F.TEN_STATUS_STATE n) ≠ 1 ∨ getBits v 0 0 = 0 ∨ getBits v 31 16 ≠ 0xA5C3) → (s.get F.IMG_VOLATILE_WRITES_COUNT + 1 < 2 ^ 47) → 
      ∃ t, exec (.tenantReset n w v) s = .next t ∧
        (t.units = s.units) ∧
        (t.keep = s.keep) ∧
        (t.force = s.force) ∧
        (t.out = s.out) ∧
        (∀ a, ¬ (a = F.IMG_VOLATILE_WRITES_COUNT.addr) → t.rd a = s.rd a) ∧
        t.flash = s.flash) ∧
  (∀ (s : State) (n : Nat),
      (n < 32) → (s.get (F.TEN_STATUS_STATE n) = 2) → (s.tenantDrained n = true) → 
      ∃ t, exec (.tenantResetDrained n) s = .next t ∧
        (t.get (F.TEN_STATUS_STATE n) = 1) ∧
        (t.is (F.TEN_STATUS_RESET_DONE n) = true) ∧
        (t.get (F.TEN_RESETS_C n) = (s.get (F.TEN_RESETS_C n) + 1) % 2 ^ 48) ∧
        (t.get (F.TEN_RESET_TIME_MICROSECONDS n) = (s.keep.elapsed - (((s.units.sup.tenantResets.find? (fun x => x.1 = n)).map (·.2)).getD s.keep.elapsed)) / tickUs % 2 ^ 32) ∧
        ((t.units.sup.tenantResets.all (fun x => x.1 ≠ n)) = true) ∧
        (t.units.clasp.tokens = s.units.clasp.tokens.filter (fun x => x.tenant ≠ n)) ∧
        (t.units.clasp.lock = s.units.clasp.lock.filter (fun x => x.tenant ≠ n)) ∧
        (∀ a, ¬ (inEvents a ∨ inClasp a) → t.rd a = s.rd a) ∧
        t.flash = s.flash) ∧
  (∀ (s : State) (n : Nat),
      (s.get (F.TEN_STATUS_STATE n) ≠ 2 ∨ s.tenantDrained n = false) → exec (.tenantResetDrained n) s = .next s)

/-- An uncorrectable word is counted and put aside where it lies: copies of the hot cell are gone and counted against their tenant, a queue item or near-buffer record is marked, a rule no longer matches, a retained frame is diverted, a key is faulty, and a flash address reads as uncorrectable. A triplicated register has none. A corrected error is counted and nothing else. A held chronicle entry that has waited 1 s is written under the next SEQ when the rate allows, and is counted as suppressed otherwise; a younger one stays. When entries were suppressed and the rate allows, one entry of KIND 0x0C with their number is written. Other registers stay, but for what a fault log touches. -/
def Obligations.MemoryErrorsAndChronicle : Prop :=
  (∀ (s : State) (st n i : Nat) (y : Stratum),
      (st < 8192) → ((s.cal st).strata[n]? = some y) → (i < y.hot.length) → 
      ∃ t, exec (.eccUncorrectable (.hotStratum st n i)) s = .next t ∧
        (t.get (F.SUP_ECC_UNCORRECTABLE_C) = (s.get (F.SUP_ECC_UNCORRECTABLE_C) + 1) % 2 ^ 48) ∧
        ((t.cal st).strata.length = (s.cal st).strata.length) ∧
        ((∀ z ∈ (t.cal st).strata[n]?, z.hot.length < y.hot.length ∧ z.start = y.start)) ∧
        (t.get (F.TEN_FAULTS_C (s.streamOwner st)) = (s.get (F.TEN_FAULTS_C (s.streamOwner st)) + 1) % 2 ^ 48) ∧
        (∀ a, ¬ (a = F.SUP_ECC_UNCORRECTABLE_C.addr ∨ inEvents a) → t.rd a = s.rd a) ∧
        t.force = s.force ∧
        t.flash = s.flash) ∧
  (∀ (s : State) (q i : Nat),
      (q < 2176) → (i < (s.queue q).items.length) → 
      ∃ t, exec (.eccUncorrectable (.queueItem q i)) s = .next t ∧
        (t.get (F.SUP_ECC_UNCORRECTABLE_C) = (s.get (F.SUP_ECC_UNCORRECTABLE_C) + 1) % 2 ^ 48) ∧
        (¬ isNotify q → (t.queue q).items = (s.queue q).items.mapIdx (fun k e => if k = i then ({ e.1 with faulty := true }, e.2) else e)) ∧
        (t.get (F.TEN_FAULTS_C (s.queueOwner q)) = (s.get (F.TEN_FAULTS_C (s.queueOwner q)) + 1) % 2 ^ 48) ∧
        (∀ a, ¬ (a = F.SUP_ECC_UNCORRECTABLE_C.addr ∨ inEvents a) → t.rd a = s.rd a) ∧
        t.force = s.force ∧
        t.flash = s.flash) ∧
  (∀ (s : State) (i : Nat),
      (i < (s.units.ring.map (fun g => g.records.length)).sum) → 
      ∃ t, exec (.eccUncorrectable (.nearBuffer i)) s = .next t ∧
        (t.get (F.SUP_ECC_UNCORRECTABLE_C) = (s.get (F.SUP_ECC_UNCORRECTABLE_C) + 1) % 2 ^ 48) ∧
        (t.units.ring.map (fun g => g.records.length) = s.units.ring.map (fun g => g.records.length)) ∧
        (t.units.ring.map (fun g => g.records.map (·.payload)) = s.units.ring.map (fun g => g.records.map (·.payload))) ∧
        ((s.units.ring.reverse.flatMap (·.records))[i]?.isSome = true) ∧
        ((t.units.ring.reverse.flatMap (·.records))[i]?.any (·.faulty) = true) ∧
        (t.get (F.TEN_FAULTS_C 0) = (s.get (F.TEN_FAULTS_C 0) + 1) % 2 ^ 48) ∧
        (∀ a, ¬ (a = F.SUP_ECC_UNCORRECTABLE_C.addr ∨ inEvents a) → t.rd a = s.rd a) ∧
        t.force = s.force ∧
        t.flash = s.flash) ∧
  (∀ (s : State) (b : Bool) (r : Nat),
      (r < 4096) → (s.has 0 = true) → 
      ∃ t, exec (.eccUncorrectable (.rule b r)) s = .next t ∧
        (t.get (F.SUP_ECC_UNCORRECTABLE_C) = (s.get (F.SUP_ECC_UNCORRECTABLE_C) + 1) % 2 ^ 48) ∧
        (b, r) ∈ t.units.badRules ∧
        (∀ x ∈ s.units.badRules, x ∈ t.units.badRules) ∧
        (t.get (F.TEN_FAULTS_C (s.ruleOwner b r)) = (s.get (F.TEN_FAULTS_C (s.ruleOwner b r)) + 1) % 2 ^ 48) ∧
        (∀ a, ¬ (a = F.SUP_ECC_UNCORRECTABLE_C.addr ∨ inEvents a) → t.rd a = s.rd a) ∧
        t.force = s.force ∧
        t.flash = s.flash) ∧
  (∀ (s : State) (p n e : Nat) (r : Retained),
      (p < 32) → ((s.retainedOn p)[n]? = some (e, r)) → 
      ∃ t, exec (.eccUncorrectable (.retention false p n)) s = .next t ∧
        (t.get (F.SUP_ECC_UNCORRECTABLE_C) = (s.get (F.SUP_ECC_UNCORRECTABLE_C) + 1) % 2 ^ 48) ∧
        ((t.endpoint p e).retained = (s.endpoint p e).retained.filter (fun x => x ≠ r)) ∧
        (∀ a, ¬ (a = F.SUP_ECC_UNCORRECTABLE_C.addr ∨ inStoreUp a ∨ a = F.SUP_CHRONICLE_NEWEST_SEQ.addr) → t.rd a = s.rd a) ∧
        t.force = s.force ∧
        t.flash = s.flash) ∧
  (∀ (s : State) (e : Nat),
      (e < 256) → (s.is (F.SIG_KEY_INFO_VALID e) = true) → 
      ∃ t, exec (.eccUncorrectable (.key e)) s = .next t ∧
        (t.get (F.SUP_ECC_UNCORRECTABLE_C) = (s.get (F.SUP_ECC_UNCORRECTABLE_C) + 1) % 2 ^ 48) ∧
        (t.is (F.SIG_KEY_INFO_FAULT e) = true) ∧
        (s.is (F.SIG_KEY_INFO_FAULT e) = false → t.is F.SIG_STATUS_KEY_FAULT = true) ∧
        (∀ a, ¬ (a = F.SUP_ECC_UNCORRECTABLE_C.addr ∨ inEvents a) → t.rd a = s.rd a) ∧
        t.force = s.force ∧
        t.flash = s.flash) ∧
  (∀ (s : State) (x : Nat),
      
      ∃ t, exec (.eccUncorrectable (.flash x)) s = .next t ∧
        (t.get (F.SUP_ECC_UNCORRECTABLE_C) = (s.get (F.SUP_ECC_UNCORRECTABLE_C) + 1) % 2 ^ 48) ∧
        x ∈ t.keep.flashBad ∧
        (t.units.cal = s.units.cal) ∧
        (∀ a, ¬ (a = F.SUP_ECC_UNCORRECTABLE_C.addr ∨ inNotify a) → t.rd a = s.rd a) ∧
        t.force = s.force ∧
        t.flash = s.flash) ∧
  (∀ (s : State) (x : Nat),
      exec (.eccUncorrectable (.register x)) s = .next s) ∧
  (∀ (s : State) (x : MemSite),
      
      ∃ t, exec (.correctedMemoryError x) s = .next t ∧
        (t.get (F.SUP_ECC_CORRECTED_C) = (s.get (F.SUP_ECC_CORRECTED_C) + 1) % 2 ^ 48) ∧
        (t.keep = s.keep) ∧
        (t.out = s.out) ∧
        (t.units.cal = s.units.cal) ∧
        (∀ a, ¬ (a = F.SUP_ECC_CORRECTED_C.addr ∨ inNotify a) → t.rd a = s.rd a) ∧
        t.force = s.force ∧
        t.flash = s.flash) ∧
  (∀ (s : State) (h : HeldEntry) (l : List HeldEntry),
      (s.units.sup.chronHeld = h :: l) → (h.since + tickS ≤ s.keep.elapsed) → (chronCost ≤ s.keep.credit) → 
      ∃ t, exec (.chronicleCoalesceExpiry) s = .next t ∧
        (t.units.sup.chronHeld = l) ∧
        (t.keep.chronSeq = s.keep.chronSeq + 1) ∧
        (t.keep.chron = ({ h.entry with seq := s.keep.chronSeq + 1 } :: s.keep.chron).take 4096) ∧
        (t.get F.SUP_CHRONICLE_NEWEST_SEQ = (s.keep.chronSeq + 1) % 2 ^ 64) ∧
        (t.keep.credit = s.keep.credit - chronCost) ∧
        (t.out = s.out) ∧
        (∀ a, ¬ (a = F.SUP_CHRONICLE_NEWEST_SEQ.addr) → t.rd a = s.rd a) ∧
        t.force = s.force ∧
        t.flash = s.flash) ∧
  (∀ (s : State) (h : HeldEntry) (l : List HeldEntry),
      (s.units.sup.chronHeld = h :: l) → (h.since + tickS ≤ s.keep.elapsed) → (s.keep.credit < chronCost) → 
      ∃ t, exec (.chronicleCoalesceExpiry) s = .next t ∧
        (t.units.sup.chronHeld = l) ∧
        (t.keep.chronLost = s.keep.chronLost + 1) ∧
        (t.keep.chron = s.keep.chron) ∧
        (t.get (F.SUP_CHRONICLE_SUPPRESSED_C) = (s.get (F.SUP_CHRONICLE_SUPPRESSED_C) + 1) % 2 ^ 48) ∧
        (∀ a, ¬ (a = F.SUP_CHRONICLE_SUPPRESSED_C.addr ∨ inNotify a) → t.rd a = s.rd a) ∧
        t.force = s.force ∧
        t.flash = s.flash) ∧
  (∀ (s : State),
      (∀ h ∈ s.units.sup.chronHeld.head?, s.keep.elapsed < h.since + tickS) → exec (.chronicleCoalesceExpiry) s = .next s) ∧
  (∀ (s : State),
      (s.keep.chronLost ≠ 0) → (chronCost ≤ s.keep.credit) → 
      ∃ t, exec (.suppressedEntryWrite) s = .next t ∧
        (t.keep.chronLost = 0) ∧
        (t.keep.chronSeq = s.keep.chronSeq + 1) ∧
        (t.keep.chron.head?.any (fun e => e.kind = 0x0C && e.seq = s.keep.chronSeq + 1 && e.tenant = none && e.fclass = 0 && e.rep = 0 && e.info = fit 28 (be 8 s.keep.chronLost)) = true) ∧
        (t.get F.SUP_CHRONICLE_NEWEST_SEQ = (s.keep.chronSeq + 1) % 2 ^ 64) ∧
        (t.units = s.units) ∧
        (∀ a, ¬ (a = F.SUP_CHRONICLE_NEWEST_SEQ.addr) → t.rd a = s.rd a) ∧
        t.force = s.force ∧
        t.flash = s.flash) ∧
  (∀ (s : State),
      (s.keep.chronLost = 0 ∨ s.keep.credit < chronCost) → exec (.suppressedEntryWrite) s = .next s)

/-- A sentinel event of an instance that the part has is counted and kept for a second. The third of one ring within it resets the unit, which is counted, logged and kept; a lane then stands in DARK. The third unit reset of an instance within 10 s isolates it as well: the first free entry of SUP_ISOLATION names it, ISOLATED is set and the isolation counted. An event of an isolated instance is only counted. T0 releases an isolated instance with bit 62: the entry is free, its counts are cleared and the unit is reset; another tenant sets WRITE_LOST alone. A row whose condition does not hold does nothing (log entry 7). Registers below the time system stay. -/
def Obligations.SentinelsAndIsolation : Prop :=
  (∀ (s : State) (d x r : Nat) (run : StartRun) (i : Instr),
      i ∈ [(.sentinelStall d x r run : Instr), .duplicateToken d x r run] → (s.up = true) → (s.hasDomain d x = true) → (s.isolated d x = false) → ((s.units.sup.events.filter (fun e => s.keep.elapsed ≤ e.2.2.2 + tickS && e.1 = d && e.2.1 = x && e.2.2.1 = r)).length < 2) → 
      ∃ t, exec (i) s = .next t ∧
        (t.get (F.SUP_SENTINEL_EVENTS_C) = (s.get (F.SUP_SENTINEL_EVENTS_C) + 1) % 2 ^ 48) ∧
        (t.units.sup.events = (d, x, r, s.keep.elapsed) :: s.units.sup.events.filter (fun e => s.keep.elapsed ≤ e.2.2.2 + tickS)) ∧
        (t.units.lanes = s.units.lanes) ∧
        (t.out = s.out) ∧
        (∀ a, ¬ (a = F.SUP_SENTINEL_EVENTS_C.addr ∨ inNotify a) → t.rd a = s.rd a) ∧
        t.force = s.force ∧
        t.flash = s.flash) ∧
  (∀ (s : State) (d x r : Nat) (run : StartRun) (i : Instr),
      i ∈ [(.sentinelStall d x r run : Instr), .duplicateToken d x r run] → (s.up = true) → (s.hasDomain d x = true) → (s.isolated d x = false) → (2 ≤ (s.units.sup.events.filter (fun e => s.keep.elapsed ≤ e.2.2.2 + tickS && e.1 = d && e.2.1 = x && e.2.2.1 = r)).length) → (d, x, s.keep.elapsed) ∉ s.units.sup.resets → ((s.units.sup.resets.filter (fun e => s.keep.elapsed ≤ e.2.2 + 10 * tickS && e.1 = d && e.2.1 = x)).length < 2) → 
      ∃ t, exec (i) s = .next t ∧
        (t.get (F.SUP_SENTINEL_EVENTS_C) = (s.get (F.SUP_SENTINEL_EVENTS_C) + 1) % 2 ^ 48) ∧
        (t.get (F.SUP_UNIT_RESETS_C) = (s.get (F.SUP_UNIT_RESETS_C) + 1) % 2 ^ 48) ∧
        (d, x, s.keep.elapsed) ∈ t.units.sup.resets ∧
        ((t.units.sup.events.all (fun e => !(e.1 = d && e.2.1 = x))) = true) ∧
        (d = 1 ∧ s.laneState x ≠ 0 ∧ s.fenced = false ∧ s.pending = [] ∧ (s.lane x).flaps.length < 7 → t.laneState x = 1) ∧
        (d = 9 → t.units.clasp.tokens = [] ∧ t.units.clasp.lock = none) ∧
        (∀ a, ¬ (0x00040000 ≤ a) → t.rd a = s.rd a) ∧
        t.flash = s.flash) ∧
  (∀ (s : State) (d x r : Nat) (run : StartRun) (i : Instr) (n : Nat),
      i ∈ [(.sentinelStall d x r run : Instr), .duplicateToken d x r run] → (s.up = true) → (s.hasDomain d x = true) → (s.isolated d x = false) → (2 ≤ (s.units.sup.events.filter (fun e => s.keep.elapsed ≤ e.2.2.2 + tickS && e.1 = d && e.2.1 = x && e.2.2.1 = r)).length) → (d, x, s.keep.elapsed) ∉ s.units.sup.resets → (2 ≤ (s.units.sup.resets.filter (fun e => s.keep.elapsed ≤ e.2.2 + 10 * tickS && e.1 = d && e.2.1 = x)).length) → d ∈ [1, 3, 4, 5, 6] → (s.freeIsolation = some n) → 
      ∃ t, exec (i) s = .next t ∧
        (t.get (F.SUP_SENTINEL_EVENTS_C) = (s.get (F.SUP_SENTINEL_EVENTS_C) + 1) % 2 ^ 48) ∧
        (t.get (F.SUP_UNIT_RESETS_C) = (s.get (F.SUP_UNIT_RESETS_C) + 1) % 2 ^ 48) ∧
        (t.get (F.SUP_ISOLATIONS_C) = (s.get (F.SUP_ISOLATIONS_C) + 1) % 2 ^ 48) ∧
        (t.is F.SUP_STATUS_ISOLATED = true) ∧
        (t.is (F.SUP_ISOLATION_VALID n) = true) ∧
        (t.get (F.SUP_ISOLATION_DOMAIN n) = d) ∧
        (t.get (F.SUP_ISOLATION_INDEX n) = x) ∧
        (d = 1 → t.is (F.TLK_EVENTS_ISOLATED x) = true ∧ (s.fenced = false ∧ s.pending = [] → t.laneState x = 8)) ∧
        (∀ a, ¬ (0x00040000 ≤ a) → t.rd a = s.rd a) ∧
        t.flash = s.flash) ∧
  (∀ (s : State) (d x r : Nat) (run : StartRun) (i : Instr),
      i ∈ [(.sentinelStall d x r run : Instr), .duplicateToken d x r run] → (s.up = true) → (s.hasDomain d x = true) → (s.isolated d x = true) → 
      ∃ t, exec (i) s = .next t ∧
        (t.get (F.SUP_SENTINEL_EVENTS_C) = (s.get (F.SUP_SENTINEL_EVENTS_C) + 1) % 2 ^ 48) ∧
        (t.units.sup = s.units.sup) ∧
        (t.units.lanes = s.units.lanes) ∧
        (t.out = s.out) ∧
        (∀ a, ¬ (a = F.SUP_SENTINEL_EVENTS_C.addr ∨ inNotify a) → t.rd a = s.rd a) ∧
        t.force = s.force ∧
        t.flash = s.flash) ∧
  (∀ (s : State) (d x r : Nat) (run : StartRun) (i : Instr),
      i ∈ [(.sentinelStall d x r run : Instr), .duplicateToken d x r run] → (s.up = false ∨ s.hasDomain d x = false) → exec (i) s = .next s) ∧
  (∀ (s : State) (e : Nat) (v : Word),
      (e < 64) → (getBits v 62 62 = 1) → (s.is (F.SUP_ISOLATION_VALID e) = true) → 
      ∃ t, exec (.isolationRelease e 0 v) s = .next t ∧
        (t.is (F.SUP_ISOLATION_VALID e) = false) ∧
        (t.get (F.SUP_ISOLATION_DOMAIN e) = 0) ∧
        (t.get (F.SUP_ISOLATION_INDEX e) = 0) ∧
        ((t.units.sup.events.all (fun y => !(y.1 = s.get (F.SUP_ISOLATION_DOMAIN e) && y.2.1 = s.get (F.SUP_ISOLATION_INDEX e)))) = true) ∧
        ((t.units.sup.resets.all (fun y => !(y.1 = s.get (F.SUP_ISOLATION_DOMAIN e) && y.2.1 = s.get (F.SUP_ISOLATION_INDEX e)))) = true) ∧
        (∀ a, ¬ (0x00040000 ≤ a ∨ a = F.IMG_VOLATILE_WRITES_COUNT.addr ∨ 0x08000000 ≤ a) → t.rd a = s.rd a) ∧
        t.flash = s.flash) ∧
  (∀ (s : State) (e w : Nat) (v : Word),
      (e < 64) → (getBits v 62 62 = 1) → (w ≠ 0) → (s.get F.IMG_VOLATILE_WRITES_COUNT + 1 < 2 ^ 47) → 
      ∃ t, exec (.isolationRelease e w v) s = .next t ∧
        (t.is F.SUP_STATUS_WRITE_LOST = true) ∧
        (t.units = s.units) ∧
        (t.out = s.out) ∧
        (∀ a, ¬ (a = F.SUP_STATUS_WRITE_LOST.addr ∨ a = F.IMG_VOLATILE_WRITES_COUNT.addr) → t.rd a = s.rd a) ∧
        t.force = s.force ∧
        t.flash = s.flash) ∧
  (∀ (s : State) (e w : Nat) (v : Word),
      (64 ≤ e ∨ getBits v 62 62 = 0 ∨ (w = 0 ∧ s.is (F.SUP_ISOLATION_VALID e) = false)) → (s.get F.IMG_VOLATILE_WRITES_COUNT + 1 < 2 ^ 47) → 
      ∃ t, exec (.isolationRelease e w v) s = .next t ∧
        (t.units = s.units) ∧
        (t.keep = s.keep) ∧
        (t.force = s.force) ∧
        (t.out = s.out) ∧
        (∀ a, ¬ (a = F.IMG_VOLATILE_WRITES_COUNT.addr) → t.rd a = s.rd a) ∧
        t.flash = s.flash)

/-- With three copies that agreed, a copy that differs is outvoted: it waits for its reload, OUTVOTED is set, the vote is counted and logged; within 1 s of its last reload it is excluded for good and COPY_FAILED is set. A resynchronisation reloads an outvoted copy that still votes. After a vote failure none is left. A remote reset word for this device with the right tag, incarnation and BOOT_ID resets it, and Ember keeps the sender; any other is counted as refused and, with a wrong tag, as a failed ring tag. READMIT of a fenced device by T0 with its key ends in a device reset; another tenant sets WRITE_LOST alone. A row whose condition does not hold does nothing (log entry 7). -/
def Obligations.SupervisorAndRemoteReset : Prop :=
  (∀ (s : State) (c : Nat),
      (c < 3) → (s.up = true) → (s.get F.SUP_STATUS_COPIES = 7) → (s.units.sup.outvoted = []) → (s.units.sup.voteFailed = false) → 
      ∃ t, exec (.supervisorMismatch c) s = .next t ∧
        (t.units.sup.outvoted = [c]) ∧
        (t.is F.SUP_STATUS_OUTVOTED = true) ∧
        (t.get (F.SUP_OUTVOTES_C) = (s.get (F.SUP_OUTVOTES_C) + 1) % 2 ^ 48) ∧
        (t.get (F.TEN_FAULTS_C 0) = (s.get (F.TEN_FAULTS_C 0) + 1) % 2 ^ 48) ∧
        (t.get F.SUP_STATUS_COPIES = if (s.units.sup.reloads.any (fun r => r.1 = c && decide (s.keep.elapsed ≤ r.2 + tickS))) = true then 7 - 2 ^ c else 7) ∧
        ((s.units.sup.reloads.any (fun r => r.1 = c && decide (s.keep.elapsed ≤ r.2 + tickS))) = true → t.is F.SUP_STATUS_COPY_FAILED = true) ∧
        (∀ a, ¬ (a = F.SUP_STATUS_OUTVOTED.addr ∨ a = F.SUP_OUTVOTES_C.addr ∨ inPins a ∨ inEvents a) → t.rd a = s.rd a) ∧
        t.force = s.force ∧
        t.flash = s.flash) ∧
  (∀ (s : State) (c : Nat),
      (3 ≤ c ∨ s.up = false ∨ s.get F.SUP_STATUS_COPIES ≠ 7 ∨ s.units.sup.outvoted ≠ [] ∨ s.units.sup.voteFailed = true) → exec (.supervisorMismatch c) s = .next s) ∧
  (∀ (s : State) (c : Nat),
      (s.units.sup.outvoted = [c]) → (s.voting c = true) → (s.units.sup.voteFailed = false) → 
      ∃ t, exec (.supervisorResync) s = .next t ∧
        (t.units.sup.outvoted = []) ∧
        (t.units.sup.reloads.head? = some (c, s.keep.elapsed)) ∧
        (t.get F.SUP_STATUS_COPIES = s.get F.SUP_STATUS_COPIES) ∧
        (∀ a, ¬ (inPins a) → t.rd a = s.rd a) ∧
        t.force = s.force ∧
        t.flash = s.flash) ∧
  (∀ (s : State),
      ((∀ c ∈ s.units.sup.outvoted, s.voting c = false) ∨ s.units.sup.voteFailed = true) → exec (.supervisorResync) s = .next s) ∧
  (∀ (s : State),
      (s.up = true) → 
      ∃ t, exec (.voteFailure) s = .next t ∧
        (t.units.sup.voteFailed = true) ∧
        (t.units.sup.outvoted = s.units.sup.outvoted) ∧
        (∀ a, ¬ (inPins a) → t.rd a = s.rd a) ∧
        t.force = s.force ∧
        t.flash = s.flash) ∧
  (∀ (s : State),
      (s.up = false) → exec (.voteFailure) s = .next s) ∧
  (∀ (s : State) (r : Nat) (b g : List Byte) (run : StartRun),
      (r < 8) → (s.ringUp r = true) → (b.length = 32) → (s.ringTag 4 b = some g) → (num b 2 2 % 16384 = s.device) → (num b 4 4 = s.incarnation) → (num b 8 8 = s.bootId) → (s.pending = []) → 
      ∃ t, exec (.resetWordReceived r (b ++ g) run) s = .next t ∧
        (if s.coreMayStart then t.startedBy run s.keep.elapsed = true else t.up = false) ∧
        (t.keep.ember.resetKind = 3) ∧
        (t.keep.ember.resetSender = num b 16 2 % 16384)) ∧
  (∀ (s : State) (r : Nat) (msg : List Byte) (run : StartRun),
      (r < 8) → (s.ringUp r = true) → (msg.length ≠ 48) → 
      ∃ t, exec (.resetWordReceived r msg run) s = .next t ∧
        (t.get (F.SUP_RESET_WORDS_REFUSED_C) = (s.get (F.SUP_RESET_WORDS_REFUSED_C) + 1) % 2 ^ 48) ∧
        (t.get (F.SIG_DEVICE_RING_TAG_FAIL_C) = (s.get (F.SIG_DEVICE_RING_TAG_FAIL_C) + 1) % 2 ^ 48) ∧
        (t.out = s.out) ∧
        (t.units.lanes = s.units.lanes) ∧
        (∀ a, ¬ (a = F.SUP_RESET_WORDS_REFUSED_C.addr ∨ a = F.SIG_DEVICE_RING_TAG_FAIL_C.addr ∨ inNotify a) → t.rd a = s.rd a) ∧
        t.force = s.force ∧
        t.flash = s.flash) ∧
  (∀ (s : State) (r : Nat) (b g : List Byte) (run : StartRun),
      (r < 8) → (s.ringUp r = true) → (b.length = 32) → (s.ringTag 4 b = some g) → (num b 2 2 % 16384 ≠ s.device ∨ num b 4 4 ≠ s.incarnation ∨ num b 8 8 ≠ s.bootId) → 
      ∃ t, exec (.resetWordReceived r (b ++ g) run) s = .next t ∧
        (t.get (F.SUP_RESET_WORDS_REFUSED_C) = (s.get (F.SUP_RESET_WORDS_REFUSED_C) + 1) % 2 ^ 48) ∧
        (t.out = s.out) ∧
        (t.units.lanes = s.units.lanes) ∧
        (∀ a, ¬ (a = F.SUP_RESET_WORDS_REFUSED_C.addr ∨ inNotify a) → t.rd a = s.rd a) ∧
        t.force = s.force ∧
        t.flash = s.flash) ∧
  (∀ (s : State) (r : Nat) (msg : List Byte) (run : StartRun),
      (8 ≤ r ∨ s.ringUp r = false) → exec (.resetWordReceived r msg run) s = .next s) ∧
  (∀ (s : State) (v : Word) (run : StartRun),
      (s.fenced = true) → (getBits v 0 0 = 1) → (getBits v 31 16 = 0xA5C3) → (s.pending = []) → 
      ∃ t, exec (.readmit 0 v run) s = .next t ∧
        (if s.coreMayStart then t.startedBy run s.keep.elapsed = true else t.up = false) ∧
        (t.keep.ember.resetKind = 3)) ∧
  (∀ (s : State) (w : Nat) (v : Word) (run : StartRun),
      (w ≠ 0) → (getBits v 0 0 = 1) → (s.get F.IMG_VOLATILE_WRITES_COUNT + 1 < 2 ^ 47) → 
      ∃ t, exec (.readmit w v run) s = .next t ∧
        (t.is F.SUP_STATUS_WRITE_LOST = true) ∧
        (t.units = s.units) ∧
        (t.out = s.out) ∧
        (∀ a, ¬ (a = F.SUP_STATUS_WRITE_LOST.addr ∨ a = F.IMG_VOLATILE_WRITES_COUNT.addr) → t.rd a = s.rd a) ∧
        t.force = s.force ∧
        t.flash = s.flash) ∧
  (∀ (s : State) (w : Nat) (v : Word) (run : StartRun),
      (getBits v 0 0 = 0 ∨ (w = 0 ∧ (s.fenced = false ∨ getBits v 31 16 ≠ 0xA5C3))) → (s.get F.IMG_VOLATILE_WRITES_COUNT + 1 < 2 ^ 47) → 
      ∃ t, exec (.readmit w v run) s = .next t ∧
        (t.units = s.units) ∧
        (t.keep = s.keep) ∧
        (t.force = s.force) ∧
        (t.out = s.out) ∧
        (∀ a, ¬ (a = F.IMG_VOLATILE_WRITES_COUNT.addr) → t.rd a = s.rd a) ∧
        t.flash = s.flash)

/-- A due heartbeat is sent while the vote holds: its sequence rises, the moment is kept, and it is counted. A heartbeat whose tag fails counts as such and as a failed ring tag; a repeated HB_SEQ of a BOOT_ID counts as a duplicate alone. A new one of another device is counted and, unless it is of an incarnation below the one held, its sender is heard now, what it says is held, its incarnation is held if greater, and it is no suspect any longer. One that holds this device's role at a later incarnation fences it. A watched device not heard for SUSPECT_MS becomes suspect. A duty's wake frame is repeated after 20 ms for 1 s, over a usable path or else counted as failed. WAKE_SEND by T0 with its key shows its RESULT. A row whose condition does not hold does nothing (log entry 7). Registers below Clasp stay. -/
def Obligations.HeartbeatsAndSuspicion : Prop :=
  (∀ (s : State) (g : List Byte),
      (s.up = true) → (s.units.sup.voteFailed = false) → ((s.units.sup.hbAt.any (fun y => decide (s.keep.elapsed < y + s.get F.SUP_CFG_HB_PERIOD_US * tickUs))) = false) → (s.suspects.length ≤ 2) → (s.hopTag 2 (s.heartbeat (s.get F.SUP_CFG_HB_HOPS) s.suspects[0]? s.suspects[1]?) = some g) → 
      ∃ t, exec (.heartbeatSend) s = .next t ∧
        (t.units.sup.hbSeq = (s.units.sup.hbSeq + 1) % 2 ^ 32) ∧
        (t.units.sup.hbAt = some s.keep.elapsed) ∧
        (t.get (F.SUP_HB_SENT_C) = (s.get (F.SUP_HB_SENT_C) + 1) % 2 ^ 48) ∧
        (t.units.sup.coVotes = s.units.sup.coVotes) ∧
        (∀ a, ¬ (a = F.SUP_HB_SENT_C.addr ∨ inQueueBlocks a ∨ a = F.SUP_CHRONICLE_NEWEST_SEQ.addr) → t.rd a = s.rd a) ∧
        t.flash = s.flash) ∧
  (∀ (s : State),
      (s.up = false ∨ s.units.sup.voteFailed = true ∨ (s.units.sup.hbAt.any (fun y => decide (s.keep.elapsed < y + s.get F.SUP_CFG_HB_PERIOD_US * tickUs))) = true ∨ s.ringKey = none) → exec (.heartbeatSend) s = .next s) ∧
  (∀ (s : State) (r : Nat) (b g : List Byte),
      (r < 8) → (s.ringUp r = true) → (b.length = 48) → (s.hopTag 2 b = some g) → ((num b 2 2 % 16384) ≠ s.device) → (s.isLive = false ∨ num b 8 4 ≠ s.get F.SUP_ROLE_ROLE_ID ∨ num b 4 4 ≤ s.incarnation) → ((s.peer (num b 2 2 % 16384)).boots.find? (fun y => y.1 = num b 16 8) = none) → (s.heldIncarnation (num b 2 2 % 16384) ≤ num b 4 4) → 
      ∃ t, exec (.heartbeatReceived r (b ++ g)) s = .next t ∧
        (t.get (F.SUP_HB_RECEIVED_C) = (s.get (F.SUP_HB_RECEIVED_C) + 1) % 2 ^ 48) ∧
        (t.heldIncarnation (num b 2 2 % 16384) = num b 4 4) ∧
        ((t.peer (num b 2 2 % 16384)).heard = true) ∧
        ((t.peer (num b 2 2 % 16384)).at_ = s.keep.elapsed) ∧
        ((t.peer (num b 2 2 % 16384)).bootId = num b 16 8) ∧
        ((t.peer (num b 2 2 % 16384)).hstate = num b 1 1 % 8) ∧
        ((t.peer (num b 2 2 % 16384)).boots.head? = some (num b 16 8, num b 12 4, 0)) ∧
        ((List.range 16).all (fun e => s.get (F.SUP_WATCH_W0_DEVICE e) ≠ (num b 2 2 % 16384) || !t.is (F.SUP_WATCH_W0_SUSPECT e)) = true) ∧
        (∀ a, ¬ (inSup a ∨ inQueueBlocks a) → t.rd a = s.rd a) ∧
        t.force = s.force ∧
        t.flash = s.flash) ∧
  (∀ (s : State) (r : Nat) (b g : List Byte),
      (r < 8) → (s.ringUp r = true) → (b.length = 48) → (s.hopTag 2 b = some g) → ((num b 2 2 % 16384) ≠ s.device) → (s.isLive = false ∨ num b 8 4 ≠ s.get F.SUP_ROLE_ROLE_ID ∨ num b 4 4 ≤ s.incarnation) → ((s.peer (num b 2 2 % 16384)).boots.find? (fun y => y.1 = num b 16 8) = some (num b 16 8, num b 12 4, 0)) → 
      ∃ t, exec (.heartbeatReceived r (b ++ g)) s = .next t ∧
        (t.get (F.SUP_HB_DUPLICATE_C) = (s.get (F.SUP_HB_DUPLICATE_C) + 1) % 2 ^ 48) ∧
        (t.units.hb = s.units.hb) ∧
        (t.units.sup = s.units.sup) ∧
        (t.out = s.out) ∧
        (∀ a, ¬ (a = F.SUP_HB_DUPLICATE_C.addr ∨ inNotify a) → t.rd a = s.rd a) ∧
        t.force = s.force ∧
        t.flash = s.flash) ∧
  (∀ (s : State) (r : Nat) (b g : List Byte),
      (r < 8) → (s.ringUp r = true) → (b.length = 48) → (s.hopTag 2 b = some g) → ((num b 2 2 % 16384) ≠ s.device) → (s.isLive = false ∨ num b 8 4 ≠ s.get F.SUP_ROLE_ROLE_ID ∨ num b 4 4 ≤ s.incarnation) → ((s.peer (num b 2 2 % 16384)).boots.find? (fun y => y.1 = num b 16 8) = none) → (num b 4 4 < s.heldIncarnation (num b 2 2 % 16384)) → 
      ∃ t, exec (.heartbeatReceived r (b ++ g)) s = .next t ∧
        (t.get (F.SUP_HB_RECEIVED_C) = (s.get (F.SUP_HB_RECEIVED_C) + 1) % 2 ^ 48) ∧
        (t.heldIncarnation (num b 2 2 % 16384) = s.heldIncarnation (num b 2 2 % 16384)) ∧
        ((t.peer (num b 2 2 % 16384)).at_ = (s.peer (num b 2 2 % 16384)).at_) ∧
        (t.units.sup.coVotes = s.units.sup.coVotes) ∧
        (∀ a, ¬ (inSup a ∨ inQueueBlocks a) → t.rd a = s.rd a) ∧
        t.flash = s.flash) ∧
  (∀ (s : State) (r : Nat) (b g : List Byte),
      (r < 8) → (s.ringUp r = true) → (b.length = 48) → (s.hopTag 2 b = some g) → ((num b 2 2 % 16384) ≠ s.device) → (s.isLive = true) → (num b 8 4 = s.get F.SUP_ROLE_ROLE_ID) → (s.incarnation < num b 4 4) → 
      ∃ t, exec (.heartbeatReceived r (b ++ g)) s = .next t ∧
        (t.fenced = true) ∧
        (t.get F.SUP_ROLE_STATUS_KIND = 3) ∧
        (s.keep.chronSeq < t.keep.chronSeq) ∧
        (∀ a, ¬ (0x00040000 ≤ a) → t.rd a = s.rd a)) ∧
  (∀ (s : State) (r : Nat) (x : List Byte),
      (r < 8) → (s.ringUp r = true) → (x.length ≠ 64) → 
      ∃ t, exec (.heartbeatReceived r x) s = .next t ∧
        (t.get (F.SUP_HB_AUTH_FAIL_C) = (s.get (F.SUP_HB_AUTH_FAIL_C) + 1) % 2 ^ 48) ∧
        (t.get (F.SIG_DEVICE_RING_TAG_FAIL_C) = (s.get (F.SIG_DEVICE_RING_TAG_FAIL_C) + 1) % 2 ^ 48) ∧
        (t.units.hb = s.units.hb) ∧
        (t.units.sup = s.units.sup) ∧
        (t.out = s.out) ∧
        (∀ a, ¬ (a = F.SUP_HB_AUTH_FAIL_C.addr ∨ a = F.SIG_DEVICE_RING_TAG_FAIL_C.addr ∨ inNotify a) → t.rd a = s.rd a) ∧
        t.force = s.force ∧
        t.flash = s.flash) ∧
  (∀ (s : State) (r : Nat) (x : List Byte),
      (8 ≤ r ∨ s.ringUp r = false) → exec (.heartbeatReceived r x) s = .next s) ∧
  (∀ (s : State) (e : Nat),
      (e < 16) → (s.up = true) → (s.is (F.SUP_WATCH_W0_VALID e) = true) → (s.is (F.SUP_WATCH_W0_SUSPECT e) = false) → ((s.peer (s.get (F.SUP_WATCH_W0_DEVICE e))).heard = true) → ((s.peer (s.get (F.SUP_WATCH_W0_DEVICE e))).hstate < 2) → (s.declared (s.get (F.SUP_WATCH_W0_DEVICE e)) = false) → ((s.peer (s.get (F.SUP_WATCH_W0_DEVICE e))).at_ + s.get F.SUP_TIMERS_SUSPECT_MS * tickMs ≤ s.keep.elapsed) → 
      ∃ t, exec (.suspectTimeout e) s = .next t ∧
        (t.is (F.SUP_WATCH_W0_SUSPECT e) = true) ∧
        (t.units.hb = s.units.hb) ∧
        (s.is F.SUP_CFG_RESET_EN = false → t.units = s.units ∧ t.out = s.out) ∧
        (∀ a, ¬ (inSup a ∨ inQueueBlocks a) → t.rd a = s.rd a) ∧
        t.force = s.force ∧
        t.flash = s.flash) ∧
  (∀ (s : State) (e : Nat),
      (16 ≤ e ∨ s.up = false ∨ s.is (F.SUP_WATCH_W0_VALID e) = false ∨ s.is (F.SUP_WATCH_W0_SUSPECT e) = true ∨ (s.peer (s.get (F.SUP_WATCH_W0_DEVICE e))).heard = false ∨ 2 ≤ (s.peer (s.get (F.SUP_WATCH_W0_DEVICE e))).hstate ∨ s.declared (s.get (F.SUP_WATCH_W0_DEVICE e)) = true ∨ s.keep.elapsed < (s.peer (s.get (F.SUP_WATCH_W0_DEVICE e))).at_ + s.get F.SUP_TIMERS_SUSPECT_MS * tickMs) → exec (.suspectTimeout e) s = .next s) ∧
  (∀ (s : State) (e x y : Nat),
      (s.units.sup.waking.find? (fun w => w.1 = e) = some (e, x, y)) → (y + 20 * tickMs ≤ s.keep.elapsed) → (s.keep.elapsed ≤ x + tickS) → (s.fenced = false) → 
      ∃ t, exec (.wakeFrameRepeat e) s = .next t ∧
        (t.units.sup.waking = s.units.sup.waking.map (fun w => if w.1 = e then (e, w.2.1, s.keep.elapsed) else w)) ∧
        (if s.wakePathOk (s.get (F.SUP_SPARE_WAKE_SELECT e)) then t.get (F.SUP_WAKES_SENT_C) = (s.get (F.SUP_WAKES_SENT_C) + 1) % 2 ^ 48 else t.get (F.SUP_EXCHANGE_FAILS_C) = (s.get (F.SUP_EXCHANGE_FAILS_C) + 1) % 2 ^ 48) ∧
        (∀ a, ¬ (inSup a ∨ inClasp a ∨ inNotify a) → t.rd a = s.rd a) ∧
        t.force = s.force ∧
        t.flash = s.flash) ∧
  (∀ (s : State) (e : Nat),
      (s.fenced = true ∨ (s.units.sup.waking.find? (fun w => w.1 = e)).all (fun w => decide (s.keep.elapsed < w.2.2 + 20 * tickMs) || decide (w.2.1 + tickS < s.keep.elapsed)) = true) → exec (.wakeFrameRepeat e) s = .next s) ∧
  (∀ (s : State) (v : Word),
      (getBits v 0 0 = 1) → (getBits v 31 16 = 0xA5C3) → (s.is F.SUP_WAKE_STATUS_BUSY = false) → (s.wakePathOk (s.get (F.SUP_SPARE_WAKE_SELECT (getBits v 11 8))) = true) → 
      ∃ t, exec (.wakeSend 0 v) s = .next t ∧
        (t.get F.SUP_WAKE_STATUS_RESULT = 0) ∧
        (t.is F.SUP_WAKE_STATUS_DONE = true) ∧
        (t.get F.SUP_WAKE_CTRL_ENTRY = getBits v 11 8) ∧
        (t.get (F.SUP_WAKES_SENT_C) = (s.get (F.SUP_WAKES_SENT_C) + 1) % 2 ^ 48) ∧
        (∀ a, ¬ (inSup a ∨ inClasp a ∨ a = F.IMG_VOLATILE_WRITES_COUNT.addr ∨ inNotify a) → t.rd a = s.rd a) ∧
        t.force = s.force ∧
        t.flash = s.flash) ∧
  (∀ (s : State) (w x : Nat) (v : Word),
      (s.hasRight w F.SUP_WAKE_CTRL_SEND.addr = true) → (getBits v 0 0 = 1) → (x = if w ≠ 0 ∨ getBits v 31 16 ≠ 0xA5C3 then 3 else if s.is F.SUP_WAKE_STATUS_BUSY = true then 2 else if s.wakePathOk (s.get (F.SUP_SPARE_WAKE_SELECT (getBits v 11 8))) = true then 0 else 1) → (x ≠ 0) → (s.get F.IMG_VOLATILE_WRITES_COUNT + 1 < 2 ^ 47) → 
      ∃ t, exec (.wakeSend w v) s = .next t ∧
        (t.get F.SUP_WAKE_STATUS_RESULT = x) ∧
        (t.is F.SUP_WAKE_STATUS_DONE = true) ∧
        (t.get (F.SUP_EXCHANGE_FAILS_C) = (s.get (F.SUP_EXCHANGE_FAILS_C) + b2n (x = 1)) % 2 ^ 48) ∧
        (t.units.svc = s.units.svc) ∧
        (t.out = s.out) ∧
        (∀ a, ¬ (inSup a ∨ a = F.IMG_VOLATILE_WRITES_COUNT.addr ∨ inNotify a) → t.rd a = s.rd a) ∧
        t.force = s.force ∧
        t.flash = s.flash)

/-- When a suspect of whose QUORUM this device is a member has been silent for DEAD_MS and the wait of its rank, and another member's heartbeat within DEAD_MS names it too, the device declares it dead: the declaration is issued and accepted, the entry is DECLARED and no longer suspect, the notice is held first, and the incarnation held for the subject becomes the one after the declared; without the wait, the vote or the suspicion nothing happens. A fence notice with the wrong length fails its ring tag; a repeated one counts as a duplicate alone; a valid one about another device is accepted in the same way; one about this device and its incarnation fences it when it holds and its declarant is known, and counts as not authentic otherwise. Registers below the time system stay. -/
def Obligations.DeclarationsAndFenceNotices : Prop :=
  (∀ (s : State) (e : Nat) (x : CoVote) (g : List Byte),
      (e < 16) → (s.up = true) → (s.fenced = false) → (s.pending = []) → (s.is (F.SUP_WATCH_W0_VALID e) = true) → (s.is (F.SUP_WATCH_W0_SUSPECT e) = true) → ((s.peer (s.get (F.SUP_WATCH_W0_DEVICE e))).quorum.contains s.device = true) → ((s.peer (s.get (F.SUP_WATCH_W0_DEVICE e))).at_ + (s.get F.SUP_TIMERS_DEAD_MS + ((s.peer (s.get (F.SUP_WATCH_W0_DEVICE e))).quorum.filter (fun q => q < s.device)).length) * tickMs ≤ s.keep.elapsed) → (s.units.sup.accepted.contains ((s.get (F.SUP_WATCH_W0_DEVICE e)), s.heldIncarnation (s.get (F.SUP_WATCH_W0_DEVICE e))) = false) → (s.units.sup.coVotes = [x]) → (x.subject = (s.get (F.SUP_WATCH_W0_DEVICE e))) → (x.incarnation = s.heldIncarnation (s.get (F.SUP_WATCH_W0_DEVICE e))) → (x.voter ≠ s.device) → ((s.peer (s.get (F.SUP_WATCH_W0_DEVICE e))).quorum.contains x.voter = true) → (s.keep.elapsed ≤ x.at_ + s.get F.SUP_TIMERS_DEAD_MS * tickMs) → (x.msg.length = 64) → (s.heldIncarnation (s.get (F.SUP_WATCH_W0_DEVICE e)) + 1 < 2 ^ 32) → (s.hopTag 3 (s.noticeBody (s.get (F.SUP_WATCH_W0_DEVICE e)) (s.heldIncarnation (s.get (F.SUP_WATCH_W0_DEVICE e))) x.msg) = some g) → 
      ∃ t, exec (.deadTimeout e) s = .next t ∧
        (t.get (F.SUP_DECLARATIONS_ISSUED_C) = (s.get (F.SUP_DECLARATIONS_ISSUED_C) + 1) % 2 ^ 48) ∧
        (t.get (F.SUP_DECLARATIONS_ACCEPTED_C) = (s.get (F.SUP_DECLARATIONS_ACCEPTED_C) + 1) % 2 ^ 48) ∧
        (t.is (F.SUP_WATCH_W0_DECLARED e) = true) ∧
        (t.is (F.SUP_WATCH_W0_SUSPECT e) = false) ∧
        (t.heldIncarnation (s.get (F.SUP_WATCH_W0_DEVICE e)) = s.heldIncarnation (s.get (F.SUP_WATCH_W0_DEVICE e)) + 1) ∧
        (t.units.sup.notices.head?.any (fun y => y.subject = (s.get (F.SUP_WATCH_W0_DEVICE e)) && y.incarnation = s.heldIncarnation (s.get (F.SUP_WATCH_W0_DEVICE e))) = true) ∧
        ((s.get (F.SUP_WATCH_W0_DEVICE e)), s.heldIncarnation (s.get (F.SUP_WATCH_W0_DEVICE e))) ∈ t.units.sup.accepted ∧
        (∀ a, ¬ (0x00040000 ≤ a) → t.rd a = s.rd a) ∧
        t.flash = s.flash) ∧
  (∀ (s : State) (e : Nat),
      (16 ≤ e ∨ s.up = false ∨ s.fenced = true ∨ s.is (F.SUP_WATCH_W0_VALID e) = false ∨ s.is (F.SUP_WATCH_W0_SUSPECT e) = false ∨ (s.peer (s.get (F.SUP_WATCH_W0_DEVICE e))).quorum.contains s.device = false ∨ s.keep.elapsed < (s.peer (s.get (F.SUP_WATCH_W0_DEVICE e))).at_ + s.get F.SUP_TIMERS_DEAD_MS * tickMs ∨ s.units.sup.coVotes = []) → exec (.deadTimeout e) s = .next s) ∧
  (∀ (s : State) (r : Nat) (v gv b g : List Byte),
      (r < 8) → (s.ringUp r = true) → (b.length = 3552) → (s.hopTag 3 b = some g) → (slice b 32 64 = v ++ gv) → (v.length = 48) → (s.hopTag 2 v = some gv) → (num b 1 1 = 1) → ((num b 2 2 % 16384) ≠ s.device) → (s.units.sup.notices = []) → (s.units.sup.accepted.contains ((num b 2 2 % 16384), num b 4 4) = false) → (num v 32 1 ≥ 128) → (num v 32 2 % 16384 = (num b 2 2 % 16384)) → (num v 36 4 = num b 4 4) → (num b 12 2 % 16384 ≠ num v 2 2 % 16384) → (s.quorumOf (num b 2 2 % 16384) = [num b 12 2 % 16384, num v 2 2 % 16384]) → (s.identityOf (num b 12 2 % 16384) = none) → (num b 4 4 + 1 < 2 ^ 32) → (s.heldIncarnation (num b 2 2 % 16384) ≤ num b 4 4) → 
      ∃ t, exec (.fenceNoticeReceived r (b ++ g)) s = .next t ∧
        (t.get (F.SUP_DECLARATIONS_ACCEPTED_C) = (s.get (F.SUP_DECLARATIONS_ACCEPTED_C) + 1) % 2 ^ 48) ∧
        (t.heldIncarnation (num b 2 2 % 16384) = num b 4 4 + 1) ∧
        (t.units.sup.notices = [{ subject := (num b 2 2 % 16384), incarnation := num b 4 4, msg := b ++ g }]) ∧
        ((List.range 16).all (fun e => s.get (F.SUP_WATCH_W0_DEVICE e) ≠ (num b 2 2 % 16384) || !s.is (F.SUP_WATCH_W0_VALID e) || (t.is (F.SUP_WATCH_W0_DECLARED e) && !t.is (F.SUP_WATCH_W0_SUSPECT e))) = true) ∧
        (∀ a, ¬ (0x00040000 ≤ a) → t.rd a = s.rd a) ∧
        t.flash = s.flash) ∧
  (∀ (s : State) (r : Nat) (x : List Byte),
      (r < 8) → (s.ringUp r = true) → (x.length ≠ 3568) → 
      ∃ t, exec (.fenceNoticeReceived r x) s = .next t ∧
        (t.get (F.SIG_DEVICE_RING_TAG_FAIL_C) = (s.get (F.SIG_DEVICE_RING_TAG_FAIL_C) + 1) % 2 ^ 48) ∧
        (t.units.sup = s.units.sup) ∧
        (t.out = s.out) ∧
        (∀ a, ¬ (a = F.SIG_DEVICE_RING_TAG_FAIL_C.addr ∨ inNotify a) → t.rd a = s.rd a) ∧
        t.force = s.force ∧
        t.flash = s.flash) ∧
  (∀ (s : State) (r : Nat) (b g : List Byte),
      (r < 8) → (s.ringUp r = true) → (b.length = 3552) → (s.hopTag 3 b = some g) → (s.units.sup.accepted.contains ((num b 2 2 % 16384), num b 4 4) = true) → 
      ∃ t, exec (.fenceNoticeReceived r (b ++ g)) s = .next t ∧
        (t.get (F.SUP_HB_DUPLICATE_C) = (s.get (F.SUP_HB_DUPLICATE_C) + 1) % 2 ^ 48) ∧
        (t.units.sup = s.units.sup) ∧
        (t.out = s.out) ∧
        (∀ a, ¬ (a = F.SUP_HB_DUPLICATE_C.addr ∨ inNotify a) → t.rd a = s.rd a) ∧
        t.force = s.force ∧
        t.flash = s.flash) ∧
  (∀ (s : State) (r : Nat) (b g : List Byte),
      (r < 8) → (s.ringUp r = true) → (b.length = 3552) → (s.hopTag 3 b = some g) → (s.units.sup.accepted.contains ((num b 2 2 % 16384), num b 4 4) = false) → (s.noticeOwn (b ++ g) = true) → (s.fenced = false) → (s.isLive = true) → 
      ∃ t, exec (.fenceNoticeReceived r (b ++ g)) s = .next t ∧
        (if s.noticeFences (b ++ g) = true then t.fenced = true ∧ t.get F.SUP_ROLE_STATUS_KIND = 3 ∧ t.get (F.SUP_DECLARATIONS_ACCEPTED_C) = (s.get (F.SUP_DECLARATIONS_ACCEPTED_C) + 1) % 2 ^ 48 else t.fenced = false ∧ t.get (F.SUP_HB_AUTH_FAIL_C) = (s.get (F.SUP_HB_AUTH_FAIL_C) + 1) % 2 ^ 48) ∧
        (∀ a, ¬ (0x00040000 ≤ a) → t.rd a = s.rd a)) ∧
  (∀ (s : State) (r : Nat) (x : List Byte),
      (8 ≤ r ∨ s.ringUp r = false) → exec (.fenceNoticeReceived r x) s = .next s)

/-- An exchange message that fails a check of R555 counts in EXCHANGE_FAILS and, with a wrong tag, as a failed ring tag, and changes nothing else. A first valid offer is held and answered, and completes the exchange when the own offer was accepted already; a valid accept completes it when an offer is held: the peer's device number, incarnation, state, role, image number and BOOT_ID are shown, its identity is held and the exchange is counted. A valid assign of a member of the quorum on an exchanged port is taken while ASSIGN_WAIT is set: the device holds the assigned number, role and incarnation, and ROLE_TAKEN is set. An offer is repeated after 2 ms, and after 10 ms a new attempt begins, which shows no exchange. A port without link, and a row whose condition does not hold, does nothing (log entry 7). Registers outside the supervisor, time, and the data path stay. -/
def Obligations.ExchangesAndRoles : Prop :=
  (∀ (s : State) (r : Nat) (x : List Byte) (i : Instr) (k : Nat),
      (i, k) ∈ [((.exchangeOffer r x : Instr), 1), (.exchangeAccept r x, 2), (.exchangeAssign r x, 3)] → (r < 8) → (s.ringUp r = true) → (s.exchangeOk r k x = false) → 
      ∃ t, exec (i) s = .next t ∧
        (t.get (F.SUP_EXCHANGE_FAILS_C) = (s.get (F.SUP_EXCHANGE_FAILS_C) + 1) % 2 ^ 48) ∧
        (t.get (F.SIG_DEVICE_RING_TAG_FAIL_C) = (s.get (F.SIG_DEVICE_RING_TAG_FAIL_C) + b2n (!s.authentic 5 7200 x)) % 2 ^ 48) ∧
        (t.units.exch = s.units.exch) ∧
        (t.units.sup = s.units.sup) ∧
        (t.out = s.out) ∧
        (∀ a, ¬ (a = F.SUP_EXCHANGE_FAILS_C.addr ∨ a = F.SIG_DEVICE_RING_TAG_FAIL_C.addr ∨ inNotify a) → t.rd a = s.rd a) ∧
        t.force = s.force ∧
        t.flash = s.flash) ∧
  (∀ (s : State) (r : Nat) (x : List Byte) (i : Instr) (k : Nat),
      (i, k) ∈ [((.exchangeOffer r x : Instr), 1), (.exchangeAccept r x, 2), (.exchangeAssign r x, 3)] → (8 ≤ r ∨ s.ringUp r = false) → exec (i) s = .next s) ∧
  (∀ (s : State) (r : Nat) (x : List Byte),
      (r < 8) → (s.ringUp r = true) → (s.exchanges r = true) → (num x 2 2 % 16384 ≠ s.device) → ((s.exch r).offer = none) → ((s.exch r).acceptOk = false) → 
      ∃ t, exec (.exchangeOffer r x) s = .next t ∧
        (if s.exchangeOk r 1 x = true then (t.exch r).offer = some x ∧ (t.exch r).nonce = (s.exch r).nonce ∧ t.is (F.SUP_PEER_W0_EXCHANGED r) = s.is (F.SUP_PEER_W0_EXCHANGED r) else t.get (F.SUP_EXCHANGE_FAILS_C) = (s.get (F.SUP_EXCHANGE_FAILS_C) + 1) % 2 ^ 48) ∧
        (∀ a, ¬ (inSup a ∨ inTime a ∨ inEvents a) → t.rd a = s.rd a) ∧
        t.force = s.force ∧
        t.flash = s.flash) ∧
  (∀ (s : State) (r : Nat) (x : List Byte),
      (r < 8) → (s.ringUp r = true) → (s.exchanges r = true) → (num x 2 2 % 16384 ≠ s.device) → ((s.exch r).offer = none) → ((s.exch r).acceptOk = true) → (s.units.sup.waking = []) → 
      ∃ t, exec (.exchangeOffer r x) s = .next t ∧
        (if s.exchangeOk r 1 x = true then t.is (F.SUP_PEER_W0_EXCHANGED r) = true ∧ t.get (F.SUP_PEER_W0_DEVICE r) = num x 2 2 % 16384 ∧ t.get (F.SUP_PEER_W0_INCARNATION r) = num x 4 4 ∧ t.get (F.SUP_PEER_W0_HSTATE r) = num x 12 1 % 8 ∧ t.get (F.SUP_PEER_W1_ROLE_ID r) = num x 8 4 ∧ t.get (F.SUP_PEER_W1_IMAGE_DEVICE r) = num x 14 2 % 16384 ∧ t.get (F.SUP_PEER_W2_BOOT_ID r) = num x 16 8 ∧ t.get (F.SUP_EXCHANGES_C) = (s.get (F.SUP_EXCHANGES_C) + 1) % 2 ^ 48 ∧ (t.exch r).active = false ∧ (t.exch r).identity = slice x 128 3640 else t.get (F.SUP_EXCHANGE_FAILS_C) = (s.get (F.SUP_EXCHANGE_FAILS_C) + 1) % 2 ^ 48) ∧
        (∀ a, ¬ (inSup a ∨ inTime a ∨ inEvents a) → t.rd a = s.rd a) ∧
        t.force = s.force ∧
        t.flash = s.flash) ∧
  (∀ (s : State) (r : Nat) (x : List Byte) (y : List Byte),
      (r < 8) → (s.ringUp r = true) → (s.exchanges r = true) → (num x 2 2 % 16384 ≠ s.device) → ((s.exch r).offer = some y) → ((s.exch r).acceptOk = false) → (s.units.sup.waking = []) → 
      ∃ t, exec (.exchangeAccept r x) s = .next t ∧
        (if s.exchangeOk r 2 x = true then t.is (F.SUP_PEER_W0_EXCHANGED r) = true ∧ t.get (F.SUP_PEER_W0_DEVICE r) = num y 2 2 % 16384 ∧ t.get (F.SUP_PEER_W0_INCARNATION r) = num y 4 4 ∧ t.get (F.SUP_PEER_W0_HSTATE r) = num y 12 1 % 8 ∧ t.get (F.SUP_PEER_W1_ROLE_ID r) = num y 8 4 ∧ t.get (F.SUP_PEER_W1_IMAGE_DEVICE r) = num y 14 2 % 16384 ∧ t.get (F.SUP_PEER_W2_BOOT_ID r) = num y 16 8 ∧ t.get (F.SUP_EXCHANGES_C) = (s.get (F.SUP_EXCHANGES_C) + 1) % 2 ^ 48 ∧ (t.exch r).active = false ∧ (t.exch r).identity = slice y 128 3640 else t.get (F.SUP_EXCHANGE_FAILS_C) = (s.get (F.SUP_EXCHANGE_FAILS_C) + 1) % 2 ^ 48) ∧
        (∀ a, ¬ (inSup a ∨ inTime a ∨ inEvents a) → t.rd a = s.rd a) ∧
        t.force = s.force ∧
        t.flash = s.flash) ∧
  (∀ (s : State) (r : Nat) (x : List Byte),
      (r < 8) → (s.ringUp r = true) → (s.exchanges r = true) → (num x 2 2 % 16384 ≠ s.device) → ((s.exch r).offer = none) → 
      ∃ t, exec (.exchangeAccept r x) s = .next t ∧
        (if s.exchangeOk r 2 x = true then (t.exch r).acceptOk = true ∧ t.is (F.SUP_PEER_W0_EXCHANGED r) = s.is (F.SUP_PEER_W0_EXCHANGED r) else t.get (F.SUP_EXCHANGE_FAILS_C) = (s.get (F.SUP_EXCHANGE_FAILS_C) + 1) % 2 ^ 48) ∧
        (∀ a, ¬ (a = F.SUP_EXCHANGE_FAILS_C.addr ∨ a = F.SIG_DEVICE_RING_TAG_FAIL_C.addr ∨ inNotify a) → t.rd a = s.rd a) ∧
        t.force = s.force ∧
        t.flash = s.flash) ∧
  (∀ (s : State) (r : Nat) (x : List Byte),
      (r < 8) → (s.ringUp r = true) → (num x 2 2 % 16384 ≠ s.device) → (s.pending = []) → (s.is (F.SUP_PEER_W0_EXCHANGED r) = true) → (s.get (F.SUP_PEER_W0_DEVICE r) = num x 2 2 % 16384) → (s.topology.quorum.contains (num x 2 2 % 16384) = true) → (s.is F.SUP_ROLE_STATUS_ASSIGN_WAIT = true) → 
      ∃ t, exec (.exchangeAssign r x) s = .next t ∧
        (if s.exchangeOk r 3 x = true then t.device = num x 56 2 % 16384 ∧ t.get F.SUP_ROLE_ROLE_ID = num x 60 4 ∧ t.incarnation = num x 64 4 ∧ t.is F.SUP_ROLE_STATUS_ROLE_TAKEN = true ∧ t.is F.SUP_ROLE_STATUS_ASSIGN_WAIT = false ∧ s.keep.chronSeq < t.keep.chronSeq else t.get (F.SUP_EXCHANGE_FAILS_C) = (s.get (F.SUP_EXCHANGE_FAILS_C) + 1) % 2 ^ 48) ∧
        (∀ a, ¬ (0x00040000 ≤ a) → t.rd a = s.rd a)) ∧
  (∀ (s : State) (r : Nat),
      (s.exchanges r = true) → ((s.exch r).active = true) → ((s.exch r).sentAt + 2 * tickMs ≤ s.keep.elapsed) → (s.keep.elapsed < (s.exch r).since + 10 * tickMs) → 
      ∃ t, exec (.offerRepeat r) s = .next t ∧
        ((t.exch r).sentAt = s.keep.elapsed) ∧
        ((t.exch r).nonce = (s.exch r).nonce) ∧
        ((t.exch r).since = (s.exch r).since) ∧
        (t.free = s.free) ∧
        (∀ a, ¬ (inSup a ∨ inQueueBlocks a) → t.rd a = s.rd a) ∧
        t.force = s.force ∧
        t.flash = s.flash) ∧
  (∀ (s : State) (r : Nat),
      (s.exchanges r = false ∨ (s.exch r).active = false ∨ s.keep.elapsed < (s.exch r).sentAt + 2 * tickMs ∨ (s.exch r).since + 10 * tickMs ≤ s.keep.elapsed) → exec (.offerRepeat r) s = .next s) ∧
  (∀ (s : State) (r : Nat),
      (s.exchanges r = true) → ((s.exch r).active = true) → ((s.exch r).since + 10 * tickMs ≤ s.keep.elapsed) → 
      ∃ t, exec (.exchangeRetry r) s = .next t ∧
        ((t.exch r).since = s.keep.elapsed) ∧
        ((t.exch r).sentAt = s.keep.elapsed) ∧
        ((t.exch r).active = true) ∧
        ((t.exch r).offer = none) ∧
        ((t.exch r).acceptOk = false) ∧
        ((t.exch r).nonce.length = 12) ∧
        (t.is (F.SUP_PEER_W0_EXCHANGED r) = false) ∧
        (∀ a, ¬ (inSup a ∨ inQueueBlocks a) → t.rd a = s.rd a) ∧
        t.force = s.force ∧
        t.flash = s.flash) ∧
  (∀ (s : State) (r : Nat),
      (s.exchanges r = false ∨ (s.exch r).active = false ∨ s.keep.elapsed < (s.exch r).since + 10 * tickMs) → exec (.exchangeRetry r) s = .next s)

/-- A write of all bytes of a register that starts nothing, by a tenant with the right, gives each field its new value by its access: an RW or STG field takes the value clamped to its range, or keeps its own where its chapter reserves, freezes or locks it; ones clear RW1C bits; a counter is loaded; every other field stays. When a field loses its write the WRITE_LOST bit of its instance is set. Every other register stays but for the count of volatile writes. A write that the address map or the tenant's rights turn away, that comes before local ready, or from a tenant in reset, changes nothing. A write of DEV_CTRL by T0 with bit 0 clears the lowest pace; by another tenant it sets WRITE_LOST alone. A read of the seconds of a domain by an enabled tenant captures seconds, fraction and ticks of one instant for that tenant and puts out the seconds read; a read of EDG_START captures stamp and interval in the same way. It changes no register. A read of a register without SNAP fields, before local ready, or by a tenant not enabled, does nothing. A measurement of the 16 regions shows the lowest pace and its first region, keeps the lowest ever but zero, and sets PACE_BELOW from 1.2 down; another number of paces, or one before local ready, does nothing. Registers outside DEV_ and the fault logs stay. -/
def Obligations.RegisterWritesSnapshotsAndPace : Prop :=
  (∀ (s : State) (w n : Nat) (v : Word) (run : StartRun) (x : Reg × List Nat × Nat),
      (s.up = true) → (plainWrite x n = true) → (s.writeStatus w x.2.2 n 8 = 0) → (s.get (F.TEN_STATUS_STATE w) ≠ 2) → (¬ inNotify x.2.2) → (s.win.setMask x.2.2 = 0) → (s.win.counted x.2.2 = 0) → 
      ∃ t, exec (.registerWrite w x.2.2 n v run) s = .next t ∧
        ((s.fieldsOf x.1 x.2.1).all (s.wroteField t w x v) = true) ∧
        ((s.fieldsOf x.1 x.2.1).any (fun f => s.fate w x.1 x.2.1 x.2.2 v f = .lost) = true → (lostField x.2.2 x.2.1).all (fun g => t.is g) = true) ∧
        (t.out = s.out) ∧
        (∀ a, ¬ (a = x.2.2 ∨ a = F.IMG_VOLATILE_WRITES_COUNT.addr ∨ (lostField x.2.2 x.2.1).map (·.addr) = some a ∨ inNotify a) → t.rd a = s.rd a) ∧
        t.force = s.force ∧
        t.flash = s.flash) ∧
  (∀ (s : State) (w a n : Nat) (v : Word) (run : StartRun),
      (s.up = false ∨ s.get (F.TEN_STATUS_STATE w) = 2 ∨ 3 ≤ s.writeStatus w a n 8) → exec (.registerWrite w a n v run) s = .next s) ∧
  (∀ (s : State) (v : Word) (run : StartRun),
      (s.up = true) → (s.get (F.TEN_STATUS_STATE 0) ≠ 2) → (getBits v 0 0 = 1) → (s.get F.IMG_VOLATILE_WRITES_COUNT + 1 < 2 ^ 47) → 
      ∃ t, exec (.registerWrite 0 F.DEV_CTRL_PACE_LOW_CLEAR.addr 4 v run) s = .next t ∧
        (t.get F.DEV_PACE_LOW_PACE = 0xFFFF) ∧
        (t.get F.DEV_PACE_LOW_REGION = 0) ∧
        (t.units = s.units) ∧
        (t.out = s.out) ∧
        (∀ a, ¬ (a = F.DEV_PACE_LOW_PACE.addr ∨ a = F.IMG_VOLATILE_WRITES_COUNT.addr) → t.rd a = s.rd a) ∧
        t.force = s.force ∧
        t.flash = s.flash) ∧
  (∀ (s : State) (v : Word),
      (getBits v 0 0 = 1) → (s.get F.IMG_VOLATILE_WRITES_COUNT + 1 < 2 ^ 47) → 
      ∃ t, exec (.paceLowClear 0 v) s = .next t ∧
        (t.get F.DEV_PACE_LOW_PACE = 0xFFFF) ∧
        (t.get F.DEV_PACE_LOW_REGION = 0) ∧
        (t.units = s.units) ∧
        (t.out = s.out) ∧
        (∀ a, ¬ (a = F.DEV_PACE_LOW_PACE.addr ∨ a = F.IMG_VOLATILE_WRITES_COUNT.addr) → t.rd a = s.rd a) ∧
        t.force = s.force ∧
        t.flash = s.flash) ∧
  (∀ (s : State) (w : Nat) (v : Word),
      (getBits v 0 0 = 1) → (w ≠ 0) → (s.get F.IMG_VOLATILE_WRITES_COUNT + 1 < 2 ^ 47) → 
      ∃ t, exec (.paceLowClear w v) s = .next t ∧
        (t.is F.DEV_STATUS_WRITE_LOST = true) ∧
        (t.units = s.units) ∧
        (t.out = s.out) ∧
        (∀ a, ¬ (a = F.DEV_STATUS_WRITE_LOST.addr ∨ a = F.IMG_VOLATILE_WRITES_COUNT.addr) → t.rd a = s.rd a) ∧
        t.force = s.force ∧
        t.flash = s.flash) ∧
  (∀ (s : State) (w : Nat) (v : Word),
      (getBits v 0 0 = 0) → (s.get F.IMG_VOLATILE_WRITES_COUNT + 1 < 2 ^ 47) → 
      ∃ t, exec (.paceLowClear w v) s = .next t ∧
        (t.units = s.units) ∧
        (t.keep = s.keep) ∧
        (t.force = s.force) ∧
        (t.out = s.out) ∧
        (∀ a, ¬ (a = F.IMG_VOLATILE_WRITES_COUNT.addr) → t.rd a = s.rd a) ∧
        t.flash = s.flash) ∧
  (∀ (s : State) (w i : Nat),
      (i < 4) → (s.up = true) → ((s.tenant w).enabled = true) → 
      ∃ t, exec (.snapRead w (F.TIM_TIME_SEC_SECONDS i).addr) s = .next t ∧
        (Sparse.get (fun _ => (0 : Word)) t.units.snaps (snapKey w (F.TIM_TIME_SEC_SECONDS i).addr) = word ((s.domainNow i).toNat / tickS % 2 ^ 48)) ∧
        (Sparse.get (fun _ => (0 : Word)) t.units.snaps (snapKey w (F.TIM_TIME_TICKS_TICKS i).addr) = word ((s.domainNow i).toNat % 2 ^ 64)) ∧
        (Sparse.get (fun _ => (0 : Word)) t.units.snaps (snapKey w (F.TIM_TIME_FRAC_SUBNS i).addr) = word ((s.domainNow i).toNat % tickS / tickNs * 2 ^ 32 + (s.domainNow i).toNat % tickNs * 64 * 65536)) ∧
        (t.out = s.out ++ [.readData w (be 8 ((s.domainNow i).toNat / tickS % 2 ^ 48))]) ∧
        (t.regs = s.regs) ∧
        t.force = s.force ∧
        t.flash = s.flash) ∧
  (∀ (s : State) (w i : Nat),
      (i < 16) → (s.present .EDG_START [i] = true) → (s.up = true) → ((s.tenant w).enabled = true) → 
      ∃ t, exec (.snapRead w (F.EDG_START_STAMP i).addr) s = .next t ∧
        (Sparse.get (fun _ => (0 : Word)) t.units.snaps (snapKey w (F.EDG_START_STAMP i).addr) = word ((s.edge i).lastStart)) ∧
        (Sparse.get (fun _ => (0 : Word)) t.units.snaps (snapKey w (F.EDG_INTERVAL_INTERVAL i).addr) = word ((s.edge i).lastInterval)) ∧
        (t.out = s.out ++ [.readData w (be 8 ((s.edge i).lastStart % 2 ^ 64))]) ∧
        (t.regs = s.regs) ∧
        t.force = s.force ∧
        t.flash = s.flash) ∧
  (∀ (s : State) (w a : Nat),
      (s.up = false ∨ (s.tenant w).enabled = false ∨ (locate a).isNone = true ∨ (locate a).all (fun x => x.2.2 ≠ 0 || x.1.row.fields.all (fun f => f.acc ≠ .snap)) = true) → exec (.snapRead w a) s = .next s) ∧
  (∀ (s : State) (p : List Nat),
      (s.up = true) → (p.length = 16) → 
      ∃ t, exec (.paceMeasurement p) s = .next t ∧
        (t.get F.DEV_PACE_PACE = (p.foldl min 0xFFFF)) ∧
        ((p.map (min 0xFFFF)).idxOf (p.foldl min 0xFFFF) = t.get F.DEV_PACE_REGION) ∧
        (t.get F.DEV_PACE_LOW_PACE = if (p.foldl min 0xFFFF) ≠ 0 ∧ (p.foldl min 0xFFFF) < s.get F.DEV_PACE_LOW_PACE then (p.foldl min 0xFFFF) else s.get F.DEV_PACE_LOW_PACE) ∧
        (1 ≤ (p.foldl min 0xFFFF) ∧ (p.foldl min 0xFFFF) ≤ 0x1333 → t.is F.DEV_STATUS_PACE_BELOW = true) ∧
        (1 ≤ (p.foldl min 0xFFFF) ∧ (p.foldl min 0xFFFF) ≤ 0x0FFF → t.is F.DEV_STATUS_PACE_OVERLOAD = true) ∧
        ((1 ≤ (p.foldl min 0xFFFF) ∧ (p.foldl min 0xFFFF) ≤ 0x1333 ∧ (s.get F.DEV_PACE_PACE = 0 ∨ 0x1333 < s.get F.DEV_PACE_PACE)) → t.get (F.TEN_FAULTS_C 0) = (s.get (F.TEN_FAULTS_C 0) + 1) % 2 ^ 48) ∧
        (∀ a, ¬ (a < 0x00010000 ∨ inEvents a) → t.rd a = s.rd a) ∧
        t.force = s.force ∧
        t.flash = s.flash) ∧
  (∀ (s : State) (p : List Nat),
      (s.up = false ∨ p.length ≠ 16) → exec (.paceMeasurement p) s = .next s)

/-- For every command, every rest of the queue and every state, a step of the state with the command in front of the rest is exec of the command on the state with the rest. No command is refused and none faults: exec answers a next state for each. The queue and the order of its commands are the model's (log entry 11). -/
def Obligations.StepRunsTheFrontCommand : Prop :=
  (∀ (c : Instr) (rest : List Instr) (s : State), step { s with pending := c :: rest } = exec c { s with pending := rest }) ∧
  (∀ (c : Instr) (s : State), ∃ t, exec c s = .next t)

/-- With no command waiting a step answers a next state in which D0 and the model's own clock have advanced by one tick, a new arbitration window has begun, to which nothing is left of what the one before put off to its end (log entry 16), and the flash, the part and the empty queue are as before. That time passes on an empty queue is the model's choice (log entry 12). -/
def Obligations.EmptyQueueIsOneTick : Prop :=
  ∀ s : State, s.pending = [] → ∃ t, step s = .next t ∧ t.units.d0 = s.units.d0 + 1 ∧ t.keep.elapsed = s.keep.elapsed + 1 ∧ t.win.early = [] ∧ t.win.down = [] ∧ t.win.starts = [] ∧ t.win.stops = [] ∧ t.win.round = false ∧
    t.pending = [] ∧ t.flash = s.flash ∧ t.part = s.part ∧ t.units.time = s.units.time

/-- After reset every register reads the reset value of its table, in both its staged value and the value in force, no command waits, the register file, the values in force and the flash stand in canonical form, VAON is valid, PWR_ON is high, no main supply is valid, the device is not up, and nothing has been put out. Registers to which the manual gives no reset value hold the value named in log entry 13, which is the model's. -/
def Obligations.ResetState : Prop :=
  State.reset.wf = true ∧ (∀ a, State.reset.rd a = resetWord a ∧ State.reset.rdForce a = resetWord a) ∧ State.reset.pending = [] ∧
  State.reset.keep.ember.vaon = true ∧ State.reset.keep.ember.pwrOn = Drive.high ∧ State.reset.up = false ∧ State.reset.out = [] ∧
  State.reset.get F.PWR_STATUS_RAIL_OK = 0

/-- For every state in which the register file, the values in force and the flash stand in their one canonical form (addresses strictly rising, no entry equal to what an unlisted address reads as), whatever command is in front or with none, the state a step answers is of that form too. Equal contents are therefore equal data after any run. -/
def Obligations.EveryStepKeepsTheCanonicalForm : Prop :=
  ∀ s t : State, s.wf = true → step s = .next t → t.wf = true

/-- Whatever the command and the state, exec leaves the commands that wait, the part and its stepping as they are, adds to what has been put out without changing any of it, and never draws a free value twice. -/
def Obligations.WhatNoCommandTouches : Prop :=
  ∀ (c : Instr) (s t : State), exec c s = .next t →
    t.pending = s.pending ∧ t.part = s.part ∧ t.stepB = s.stepB ∧ s.free ≤ t.free ∧ ∃ l, t.out = s.out ++ l

/-- Writing a value into a field whose bits lie within its word gives the field that value modulo 2 to its width; every field of the same register that shares no bit with it keeps its value, every other register keeps its word, the values in force stay, and so does everything else of the machine. -/
def Obligations.FieldWritesAreLocal : Prop :=
  ∀ (s : State) (f g : Field) (v : Nat), f.lsb ≤ f.msb → f.msb < 64 → g.lsb ≤ g.msb → g.msb < 64 →
    ((put f v).run s).get f = v % 2 ^ f.width ∧
    (g.addr = f.addr → (g.msb < f.lsb ∨ f.msb < g.lsb) → ((put f v).run s).get g = s.get g) ∧
    (∀ a, a ≠ f.addr → ((put f v).run s).rd a = s.rd a) ∧ ((put f v).run s).force = s.force ∧ ((put f v).run s).units = s.units ∧
    ((put f v).run s).keep = s.keep ∧ ((put f v).run s).flash = s.flash ∧ ((put f v).run s).out = s.out

/-- Counting k events in a counter outside the queues gives the old value plus k modulo 2 to its width: it wraps and never saturates. No other register below the queues changes. While bit w − 1 stays as it was nothing else changes but the window's own note of the increment. -/
def Obligations.CountersWrap : Prop :=
  ∀ (s : State) (f : Field) (k : Nat), f.lsb ≤ f.msb → f.msb < 64 → f.addr < 0x08000000 →
    ((countBy f k).run s).get f = (s.get f + k) % 2 ^ f.width ∧
    (∀ a, a ≠ f.addr → a < 0x08000000 → ((countBy f k).run s).rd a = s.rd a) ∧
    ((s.get f).testBit (f.width - 1) = ((s.get f + k) % 2 ^ f.width).testBit (f.width - 1) →
      (∀ a, a ≠ f.addr → ((countBy f k).run s).rd a = s.rd a) ∧ ((countBy f k).run s).units = s.units)

/-- While a trial runs, with T0's confirmation with its key waiting in the same window, the expiry of the confirmation window changes nothing, at or after its deadline; the confirmation then runs on that state: the image is confirmed and the device stays up. -/
def Obligations.ConfirmationAtTheDeadline : Prop :=
  ∀ (s : State) (v : Word) (run : StartRun) (rest : List Instr), s.up = true → s.confirms 0 v = true → s.pending = .imgConfirm 0 v :: rest →
    exec (.confirmWindowExpiry run) s = .next s ∧
    ∃ t, exec (.imgConfirm 0 v) { s with pending := rest } = .next t ∧ t.up = true ∧ t.get F.IMG_STATUS_STATE = 1 ∧ t.units.imgDeadline = none

/-- For every D0 time whose seconds fit their 48 bits, the device time value (s, n, f) that the device writes for it has the sentence time ((s × 10^9 + n) × 2^10 + ⌊f ÷ 2^6⌋) mod 2^64, which is that time modulo 2^64 ticks. -/
def Obligations.SentenceTimeOfADeviceTime : Prop :=
  ∀ x : Nat, x < 2 ^ 48 * tickS →
    ((num (deviceTime x) 0 6 * 10 ^ 9 + num (deviceTime x) 6 4) * 2 ^ 10 + num (deviceTime x) 10 2 / 2 ^ 6) % 2 ^ 64 = x % 2 ^ 64 ∧
    (deviceTime x).length = 12
end

