-- ==== Sys2Proof/Laws/Sparse.lean ====
section
/-! SUPPORT. The laws of sparse tables: what a read after a write gives, and that every operation keeps the canonical
form. -/

namespace Sys2Proof.Machine

variable {α : Type}

/-- Every listed index is above `b`. -/
def Sparse.above (b : Nat) (m : Sparse α) : Prop := ∀ e ∈ m, b < e.1

/-- Strictly rising indices, and no entry equal to the unlisted content. -/
def Sparse.good (d : Nat → α) (m : Sparse α) : Prop :=
  List.Pairwise (fun x y : Nat × α => x.1 < y.1) m ∧ ∀ e ∈ m, e.2 ≠ d e.1

theorem Sparse.get_drop_same (d : Nat → α) (m : Sparse α) (k : Nat) : Sparse.get d (m.drop k) k = d k := by
  induction m with
  | nil => rfl
  | cons e m ih =>
    obtain ⟨i, x⟩ := e
    by_cases h : i = k
    · simp [Sparse.drop, h, ih]
    · simp [Sparse.drop, h, Sparse.get, ih]

theorem Sparse.get_drop_other (d : Nat → α) (m : Sparse α) {k j : Nat} (h : j ≠ k) :
    Sparse.get d (m.drop k) j = Sparse.get d m j := by
  induction m with
  | nil => rfl
  | cons e m ih =>
    obtain ⟨i, x⟩ := e
    by_cases hi : i = k
    · have : i ≠ j := fun e => h (e ▸ hi)
      simp [Sparse.drop, hi, Sparse.get, ih, show k ≠ j from fun e => h e.symm]
    · by_cases hj : i = j
      · subst hj; simp [Sparse.drop, hi, Sparse.get]
      · simp [Sparse.drop, hi, Sparse.get, hj, ih]

theorem Sparse.get_insert (d : Nat → α) (m : Sparse α) (k j : Nat) (v : α) (h : ∀ e ∈ m, e.1 ≠ k) :
    Sparse.get d (m.insert k v) j = if j = k then v else Sparse.get d m j := by
  induction m with
  | nil => by_cases hj : k = j <;> simp [Sparse.insert, Sparse.get, hj, eq_comm]
  | cons e m ih =>
    obtain ⟨i, x⟩ := e
    have hi : i ≠ k := h (i, x) List.mem_cons_self
    have ih := ih (fun e he => h e (List.mem_cons_of_mem _ he))
    by_cases hk : k < i
    · by_cases hj : k = j
      · subst hj; simp [Sparse.insert, hk, Sparse.get]
      · simp [Sparse.insert, hk, Sparse.get, hj, show j ≠ k from fun e => hj e.symm]
    · by_cases hj : i = j
      · subst hj; simp [Sparse.insert, hk, Sparse.get, hi]
      · simp [Sparse.insert, hk, Sparse.get, hj, ih]

theorem Sparse.drop_absent (m : Sparse α) (k : Nat) : ∀ e ∈ m.drop k, e.1 ≠ k := by
  induction m with
  | nil => simp [Sparse.drop]
  | cons e m ih =>
    obtain ⟨i, x⟩ := e
    by_cases h : i = k
    · simpa [Sparse.drop, h] using ih
    · intro e he
      rw [Sparse.drop, if_neg h] at he
      rcases List.mem_cons.mp he with rfl | he
      · exact h
      · exact ih e he

/-- Read after write: the value written at its index, everything else as before. -/
theorem Sparse.get_set [DecidableEq α] (d : Nat → α) (m : Sparse α) (k j : Nat) (v : α) :
    Sparse.get d (Sparse.set d m k v) j = if j = k then v else Sparse.get d m j := by
  by_cases hv : v = d k
  · by_cases hj : j = k
    · subst hj; simp [Sparse.set, hv, Sparse.get_drop_same]
    · simp [Sparse.set, hv, hj, Sparse.get_drop_other]
  · rw [Sparse.set, if_neg hv, Sparse.get_insert _ _ _ _ _ (Sparse.drop_absent m k)]
    by_cases hj : j = k
    · simp [hj]
    · simp [hj, Sparse.get_drop_other]

@[simp] theorem Sparse.get_set_same [DecidableEq α] (d : Nat → α) (m : Sparse α) (k : Nat) (v : α) :
    Sparse.get d (Sparse.set d m k v) k = v := by simp [Sparse.get_set]

theorem Sparse.get_set_other [DecidableEq α] (d : Nat → α) (m : Sparse α) {k j : Nat} (v : α) (h : j ≠ k) :
    Sparse.get d (Sparse.set d m k v) j = Sparse.get d m j := by simp [Sparse.get_set, h]

/-! ## The canonical form -/

theorem Sparse.wf_iff [DecidableEq α] (d : Nat → α) (m : Sparse α) : Sparse.wf d m = true ↔ Sparse.good d m := by
  induction m with
  | nil => simp [Sparse.wf, Sparse.good]
  | cons e m ih =>
    obtain ⟨i, x⟩ := e
    cases m with
    | nil => simp [Sparse.wf, Sparse.good]
    | cons f m =>
      obtain ⟨j, y⟩ := f
      simp only [Sparse.wf, Bool.and_eq_true, decide_eq_true_eq, ih]
      constructor
      · rintro ⟨⟨hij, hx⟩, hp, hd⟩
        refine ⟨List.pairwise_cons.mpr ⟨?_, hp⟩, ?_⟩
        · intro e he
          rcases List.mem_cons.mp he with rfl | he
          · exact hij
          · exact Nat.lt_trans hij ((List.pairwise_cons.mp hp).1 e he)
        · intro e he
          rcases List.mem_cons.mp he with rfl | he
          · exact hx
          · exact hd e he
      · rintro ⟨hp, hd⟩
        have hc := List.pairwise_cons.mp hp
        exact ⟨⟨hc.1 (j, y) List.mem_cons_self, hd (i, x) List.mem_cons_self⟩, hc.2, fun e he => hd e (List.mem_cons_of_mem _ he)⟩

theorem Sparse.drop_sub (m : Sparse α) (k : Nat) : (m.drop k).Sublist m := by
  induction m with
  | nil => exact List.Sublist.slnil
  | cons e m ih =>
    obtain ⟨i, x⟩ := e
    by_cases h : i = k
    · simpa [Sparse.drop, h] using ih.cons (i, x)
    · simpa [Sparse.drop, h] using ih.cons_cons (i, x)

theorem Sparse.good_sub (d : Nat → α) {m n : Sparse α} (h : m.Sublist n) (g : Sparse.good d n) : Sparse.good d m :=
  ⟨g.1.sublist h, fun e he => g.2 e (h.subset he)⟩

theorem Sparse.mem_insert (m : Sparse α) (k : Nat) (v : α) (e : Nat × α) :
    e ∈ m.insert k v → e = (k, v) ∨ e ∈ m := by
  induction m with
  | nil => simp [Sparse.insert]
  | cons f m ih =>
    obtain ⟨i, x⟩ := f
    by_cases hk : k < i
    · simp [Sparse.insert, hk]
    · intro he
      rw [Sparse.insert, if_neg hk] at he
      rcases List.mem_cons.mp he with rfl | he
      · exact .inr (by simp)
      · exact (ih he).imp id (List.mem_cons_of_mem _)

theorem Sparse.good_insert (d : Nat → α) (m : Sparse α) (k : Nat) (v : α) (hv : v ≠ d k) (hk : ∀ e ∈ m, e.1 ≠ k)
    (g : Sparse.good d m) : Sparse.good d (m.insert k v) := by
  induction m with
  | nil => simpa [Sparse.insert, Sparse.good] using hv
  | cons f m ih =>
    obtain ⟨i, x⟩ := f
    have hc := List.pairwise_cons.mp g.1
    have ih := ih (fun e he => hk e (List.mem_cons_of_mem _ he)) ⟨hc.2, fun e he => g.2 e (List.mem_cons_of_mem _ he)⟩
    by_cases h : k < i
    · rw [Sparse.insert, if_pos h]
      refine ⟨List.pairwise_cons.mpr ⟨?_, g.1⟩, ?_⟩
      · intro e he
        rcases List.mem_cons.mp he with rfl | he
        · exact h
        · exact Nat.lt_trans h (hc.1 e he)
      · intro e he
        rcases List.mem_cons.mp he with rfl | he
        · exact hv
        · exact g.2 e he
    · have hik : i < k := Nat.lt_of_le_of_ne (Nat.le_of_not_lt h) (hk (i, x) List.mem_cons_self)
      rw [Sparse.insert, if_neg h]
      refine ⟨List.pairwise_cons.mpr ⟨?_, ih.1⟩, ?_⟩
      · intro e he
        rcases Sparse.mem_insert m k v e he with rfl | he
        · exact hik
        · exact hc.1 e he
      · intro e he
        rcases List.mem_cons.mp he with rfl | he
        · exact g.2 _ (by simp)
        · exact ih.2 e he

/-- A write keeps the canonical form. -/
theorem Sparse.wf_set [DecidableEq α] (d : Nat → α) (m : Sparse α) (k : Nat) (v : α) (h : Sparse.wf d m = true) :
    Sparse.wf d (Sparse.set d m k v) = true := by
  rw [Sparse.wf_iff] at *
  have g := Sparse.good_sub d (Sparse.drop_sub m k) h
  by_cases hv : v = d k
  · simpa [Sparse.set, hv] using g
  · simpa [Sparse.set, hv] using Sparse.good_insert d _ k v hv (Sparse.drop_absent m k) g

/-- Leaving entries out keeps it too. -/
theorem Sparse.wf_filter [DecidableEq α] (d : Nat → α) (m : Sparse α) (p : Nat × α → Bool) (h : Sparse.wf d m = true) :
    Sparse.wf d (m.filter p) = true := by
  rw [Sparse.wf_iff] at *
  exact Sparse.good_sub d List.filter_sublist h

@[simp] theorem Sparse.wf_nil [DecidableEq α] (d : Nat → α) : Sparse.wf d ([] : Sparse α) = true := rfl

end Sys2Proof.Machine
end

