-- ==== Sys2Proof/Laws/State.lean ====
section
/-! SUPPORT. What each primitive of a program does to each field of the state. -/

namespace Sys2Proof.Machine

@[simp] theorem run_skip (s : State) : Act.skip.run s = s := rfl
@[simp] theorem run_seq (a b : Act) (s : State) : (Act.seq a b).run s = b.run (a.run s) := rfl
@[simp] theorem run_look (k : State → Act) (s : State) : (Act.look k).run s = (k s).run s := rfl
@[simp] theorem run_draw (k : Word → Act) (s : State) :
    (Act.draw k).run s = (k (Config.freeValue s.free)).run { s with free := s.free + 1 } := rfl
@[simp] theorem run_all_nil (s : State) : (Act.all []).run s = s := rfl
@[simp] theorem run_all_cons (a : Act) (l : List Act) (s : State) : (Act.all (a :: l)).run s = (Act.all l).run (a.run s) := rfl
@[simp] theorem run_each_nil {α : Type} (f : α → Act) (s : State) : (Act.each [] f).run s = s := rfl
@[simp] theorem run_each_cons {α : Type} (x : α) (l : List α) (f : α → Act) (s : State) :
    (Act.each (x :: l) f).run s = (Act.each l f).run ((f x).run s) := rfl
@[simp] theorem run_when_true (a : Act) (s : State) : (Act.when true a).run s = a.run s := rfl
@[simp] theorem run_when_false (a : Act) (s : State) : (Act.when false a).run s = s := rfl

@[simp] theorem run_reg_pending (a : Nat) (v : Word) (s : State) : ((Act.reg a v).run s).pending = s.pending := rfl
@[simp] theorem run_reg_part (a : Nat) (v : Word) (s : State) : ((Act.reg a v).run s).part = s.part := rfl
@[simp] theorem run_reg_stepB (a : Nat) (v : Word) (s : State) : ((Act.reg a v).run s).stepB = s.stepB := rfl
@[simp] theorem run_reg_regs (a : Nat) (v : Word) (s : State) : ((Act.reg a v).run s).regs = Sparse.set resetWord s.regs a v := rfl
@[simp] theorem run_reg_force (a : Nat) (v : Word) (s : State) : ((Act.reg a v).run s).force = s.force := rfl
@[simp] theorem run_reg_flash (a : Nat) (v : Word) (s : State) : ((Act.reg a v).run s).flash = s.flash := rfl
@[simp] theorem run_reg_win (a : Nat) (v : Word) (s : State) : ((Act.reg a v).run s).win = s.win := rfl
@[simp] theorem run_reg_out (a : Nat) (v : Word) (s : State) : ((Act.reg a v).run s).out = s.out := rfl
@[simp] theorem run_reg_free (a : Nat) (v : Word) (s : State) : ((Act.reg a v).run s).free = s.free := rfl
@[simp] theorem run_reg_keep (a : Nat) (v : Word) (s : State) : ((Act.reg a v).run s).keep = s.keep := rfl
@[simp] theorem run_reg_units (a : Nat) (v : Word) (s : State) : ((Act.reg a v).run s).units = s.units := rfl

@[simp] theorem run_inForce_pending (a : Nat) (v : Word) (s : State) : ((Act.inForce a v).run s).pending = s.pending := rfl
@[simp] theorem run_inForce_part (a : Nat) (v : Word) (s : State) : ((Act.inForce a v).run s).part = s.part := rfl
@[simp] theorem run_inForce_stepB (a : Nat) (v : Word) (s : State) : ((Act.inForce a v).run s).stepB = s.stepB := rfl
@[simp] theorem run_inForce_regs (a : Nat) (v : Word) (s : State) : ((Act.inForce a v).run s).regs = s.regs := rfl
@[simp] theorem run_inForce_force (a : Nat) (v : Word) (s : State) : ((Act.inForce a v).run s).force = Sparse.set resetWord s.force a v := rfl
@[simp] theorem run_inForce_flash (a : Nat) (v : Word) (s : State) : ((Act.inForce a v).run s).flash = s.flash := rfl
@[simp] theorem run_inForce_win (a : Nat) (v : Word) (s : State) : ((Act.inForce a v).run s).win = s.win := rfl
@[simp] theorem run_inForce_out (a : Nat) (v : Word) (s : State) : ((Act.inForce a v).run s).out = s.out := rfl
@[simp] theorem run_inForce_free (a : Nat) (v : Word) (s : State) : ((Act.inForce a v).run s).free = s.free := rfl
@[simp] theorem run_inForce_keep (a : Nat) (v : Word) (s : State) : ((Act.inForce a v).run s).keep = s.keep := rfl
@[simp] theorem run_inForce_units (a : Nat) (v : Word) (s : State) : ((Act.inForce a v).run s).units = s.units := rfl

@[simp] theorem run_flash_pending (a : Nat) (b : Byte) (s : State) : ((Act.flash a b).run s).pending = s.pending := rfl
@[simp] theorem run_flash_part (a : Nat) (b : Byte) (s : State) : ((Act.flash a b).run s).part = s.part := rfl
@[simp] theorem run_flash_stepB (a : Nat) (b : Byte) (s : State) : ((Act.flash a b).run s).stepB = s.stepB := rfl
@[simp] theorem run_flash_regs (a : Nat) (b : Byte) (s : State) : ((Act.flash a b).run s).regs = s.regs := rfl
@[simp] theorem run_flash_force (a : Nat) (b : Byte) (s : State) : ((Act.flash a b).run s).force = s.force := rfl
@[simp] theorem run_flash_flash (a : Nat) (b : Byte) (s : State) : ((Act.flash a b).run s).flash = Sparse.set (fun _ => 0xFF) s.flash a b := rfl
@[simp] theorem run_flash_win (a : Nat) (b : Byte) (s : State) : ((Act.flash a b).run s).win = s.win := rfl
@[simp] theorem run_flash_out (a : Nat) (b : Byte) (s : State) : ((Act.flash a b).run s).out = s.out := rfl
@[simp] theorem run_flash_free (a : Nat) (b : Byte) (s : State) : ((Act.flash a b).run s).free = s.free := rfl
@[simp] theorem run_flash_keep (a : Nat) (b : Byte) (s : State) : ((Act.flash a b).run s).keep = s.keep := rfl
@[simp] theorem run_flash_units (a : Nat) (b : Byte) (s : State) : ((Act.flash a b).run s).units = s.units := rfl

@[simp] theorem run_emit_pending (m : Emission) (s : State) : ((Act.emit m).run s).pending = s.pending := rfl
@[simp] theorem run_emit_part (m : Emission) (s : State) : ((Act.emit m).run s).part = s.part := rfl
@[simp] theorem run_emit_stepB (m : Emission) (s : State) : ((Act.emit m).run s).stepB = s.stepB := rfl
@[simp] theorem run_emit_regs (m : Emission) (s : State) : ((Act.emit m).run s).regs = s.regs := rfl
@[simp] theorem run_emit_force (m : Emission) (s : State) : ((Act.emit m).run s).force = s.force := rfl
@[simp] theorem run_emit_flash (m : Emission) (s : State) : ((Act.emit m).run s).flash = s.flash := rfl
@[simp] theorem run_emit_win (m : Emission) (s : State) : ((Act.emit m).run s).win = s.win := rfl
@[simp] theorem run_emit_out (m : Emission) (s : State) : ((Act.emit m).run s).out = s.out ++ [m] := rfl
@[simp] theorem run_emit_free (m : Emission) (s : State) : ((Act.emit m).run s).free = s.free := rfl
@[simp] theorem run_emit_keep (m : Emission) (s : State) : ((Act.emit m).run s).keep = s.keep := rfl
@[simp] theorem run_emit_units (m : Emission) (s : State) : ((Act.emit m).run s).units = s.units := rfl

@[simp] theorem run_units_pending (f : Units → Units) (s : State) : ((Act.units f).run s).pending = s.pending := rfl
@[simp] theorem run_units_part (f : Units → Units) (s : State) : ((Act.units f).run s).part = s.part := rfl
@[simp] theorem run_units_stepB (f : Units → Units) (s : State) : ((Act.units f).run s).stepB = s.stepB := rfl
@[simp] theorem run_units_regs (f : Units → Units) (s : State) : ((Act.units f).run s).regs = s.regs := rfl
@[simp] theorem run_units_force (f : Units → Units) (s : State) : ((Act.units f).run s).force = s.force := rfl
@[simp] theorem run_units_flash (f : Units → Units) (s : State) : ((Act.units f).run s).flash = s.flash := rfl
@[simp] theorem run_units_win (f : Units → Units) (s : State) : ((Act.units f).run s).win = s.win := rfl
@[simp] theorem run_units_out (f : Units → Units) (s : State) : ((Act.units f).run s).out = s.out := rfl
@[simp] theorem run_units_free (f : Units → Units) (s : State) : ((Act.units f).run s).free = s.free := rfl
@[simp] theorem run_units_keep (f : Units → Units) (s : State) : ((Act.units f).run s).keep = s.keep := rfl
@[simp] theorem run_units_units (f : Units → Units) (s : State) : ((Act.units f).run s).units = f s.units := rfl

@[simp] theorem run_keep_pending (f : Keep → Keep) (s : State) : ((Act.keep f).run s).pending = s.pending := rfl
@[simp] theorem run_keep_part (f : Keep → Keep) (s : State) : ((Act.keep f).run s).part = s.part := rfl
@[simp] theorem run_keep_stepB (f : Keep → Keep) (s : State) : ((Act.keep f).run s).stepB = s.stepB := rfl
@[simp] theorem run_keep_regs (f : Keep → Keep) (s : State) : ((Act.keep f).run s).regs = s.regs := rfl
@[simp] theorem run_keep_force (f : Keep → Keep) (s : State) : ((Act.keep f).run s).force = s.force := rfl
@[simp] theorem run_keep_flash (f : Keep → Keep) (s : State) : ((Act.keep f).run s).flash = s.flash := rfl
@[simp] theorem run_keep_win (f : Keep → Keep) (s : State) : ((Act.keep f).run s).win = s.win := rfl
@[simp] theorem run_keep_out (f : Keep → Keep) (s : State) : ((Act.keep f).run s).out = s.out := rfl
@[simp] theorem run_keep_free (f : Keep → Keep) (s : State) : ((Act.keep f).run s).free = s.free := rfl
@[simp] theorem run_keep_keep (f : Keep → Keep) (s : State) : ((Act.keep f).run s).keep = f s.keep := rfl
@[simp] theorem run_keep_units (f : Keep → Keep) (s : State) : ((Act.keep f).run s).units = s.units := rfl

@[simp] theorem run_win_pending (f : Win → Win) (s : State) : ((Act.win f).run s).pending = s.pending := rfl
@[simp] theorem run_win_part (f : Win → Win) (s : State) : ((Act.win f).run s).part = s.part := rfl
@[simp] theorem run_win_stepB (f : Win → Win) (s : State) : ((Act.win f).run s).stepB = s.stepB := rfl
@[simp] theorem run_win_regs (f : Win → Win) (s : State) : ((Act.win f).run s).regs = s.regs := rfl
@[simp] theorem run_win_force (f : Win → Win) (s : State) : ((Act.win f).run s).force = s.force := rfl
@[simp] theorem run_win_flash (f : Win → Win) (s : State) : ((Act.win f).run s).flash = s.flash := rfl
@[simp] theorem run_win_win (f : Win → Win) (s : State) : ((Act.win f).run s).win = f s.win := rfl
@[simp] theorem run_win_out (f : Win → Win) (s : State) : ((Act.win f).run s).out = s.out := rfl
@[simp] theorem run_win_free (f : Win → Win) (s : State) : ((Act.win f).run s).free = s.free := rfl
@[simp] theorem run_win_keep (f : Win → Win) (s : State) : ((Act.win f).run s).keep = s.keep := rfl
@[simp] theorem run_win_units (f : Win → Win) (s : State) : ((Act.win f).run s).units = s.units := rfl

@[simp] theorem run_resetRegs_pending (s : State) : (Act.resetRegs.run s).pending = s.pending := rfl
@[simp] theorem run_resetRegs_part (s : State) : (Act.resetRegs.run s).part = s.part := rfl
@[simp] theorem run_resetRegs_stepB (s : State) : (Act.resetRegs.run s).stepB = s.stepB := rfl
@[simp] theorem run_resetRegs_regs (s : State) : (Act.resetRegs.run s).regs = s.regs.filter (fun e => emberAddr e.1) := rfl
@[simp] theorem run_resetRegs_force (s : State) : (Act.resetRegs.run s).force = s.force.filter (fun e => emberAddr e.1) := rfl
@[simp] theorem run_resetRegs_flash (s : State) : (Act.resetRegs.run s).flash = s.flash := rfl
@[simp] theorem run_resetRegs_win (s : State) : (Act.resetRegs.run s).win = s.win := rfl
@[simp] theorem run_resetRegs_out (s : State) : (Act.resetRegs.run s).out = s.out := rfl
@[simp] theorem run_resetRegs_free (s : State) : (Act.resetRegs.run s).free = s.free := rfl
@[simp] theorem run_resetRegs_keep (s : State) : (Act.resetRegs.run s).keep = s.keep := rfl
@[simp] theorem run_resetRegs_units (s : State) : (Act.resetRegs.run s).units = s.units := rfl

@[simp] theorem run_resetAll_pending (s : State) : (Act.resetAll.run s).pending = s.pending := rfl
@[simp] theorem run_resetAll_part (s : State) : (Act.resetAll.run s).part = s.part := rfl
@[simp] theorem run_resetAll_stepB (s : State) : (Act.resetAll.run s).stepB = s.stepB := rfl
@[simp] theorem run_resetAll_regs (s : State) : (Act.resetAll.run s).regs = [] := rfl
@[simp] theorem run_resetAll_force (s : State) : (Act.resetAll.run s).force = [] := rfl
@[simp] theorem run_resetAll_flash (s : State) : (Act.resetAll.run s).flash = s.flash := rfl
@[simp] theorem run_resetAll_win (s : State) : (Act.resetAll.run s).win = s.win := rfl
@[simp] theorem run_resetAll_out (s : State) : (Act.resetAll.run s).out = s.out := rfl
@[simp] theorem run_resetAll_free (s : State) : (Act.resetAll.run s).free = s.free := rfl
@[simp] theorem run_resetAll_keep (s : State) : (Act.resetAll.run s).keep = s.keep := rfl
@[simp] theorem run_resetAll_units (s : State) : (Act.resetAll.run s).units = s.units := rfl

/-! ## Reading registers after a primitive -/

@[simp] theorem rd_reg (a x : Nat) (v : Word) (s : State) :
    ((Act.reg a v).run s).rd x = if x = a then v else s.rd x := by simp [State.rd, Sparse.get_set]
@[simp] theorem rdForce_inForce (a x : Nat) (v : Word) (s : State) :
    ((Act.inForce a v).run s).rdForce x = if x = a then v else s.rdForce x := by simp [State.rdForce, Sparse.get_set]
@[simp] theorem flashByte_flash (a x : Nat) (b : Byte) (s : State) :
    ((Act.flash a b).run s).flashByte x = if x = a then b else s.flashByte x := by simp [State.flashByte, Sparse.get_set]
@[simp] theorem rdForce_reg (a : Nat) (v : Word) (s : State) (x : Nat) : ((Act.reg a v).run s).rdForce x = s.rdForce x := rfl
@[simp] theorem rd_inForce (a : Nat) (v : Word) (s : State) (x : Nat) : ((Act.inForce a v).run s).rd x = s.rd x := rfl
@[simp] theorem rd_flash (a : Nat) (b : Byte) (s : State) (x : Nat) : ((Act.flash a b).run s).rd x = s.rd x := rfl
@[simp] theorem rdForce_flash (a : Nat) (b : Byte) (s : State) (x : Nat) : ((Act.flash a b).run s).rdForce x = s.rdForce x := rfl
@[simp] theorem rd_emit (m : Emission) (s : State) (x : Nat) : ((Act.emit m).run s).rd x = s.rd x := rfl
@[simp] theorem rdForce_emit (m : Emission) (s : State) (x : Nat) : ((Act.emit m).run s).rdForce x = s.rdForce x := rfl
@[simp] theorem rd_units (f : Units → Units) (s : State) (x : Nat) : ((Act.units f).run s).rd x = s.rd x := rfl
@[simp] theorem rdForce_units (f : Units → Units) (s : State) (x : Nat) : ((Act.units f).run s).rdForce x = s.rdForce x := rfl
@[simp] theorem rd_keep (f : Keep → Keep) (s : State) (x : Nat) : ((Act.keep f).run s).rd x = s.rd x := rfl
@[simp] theorem rdForce_keep (f : Keep → Keep) (s : State) (x : Nat) : ((Act.keep f).run s).rdForce x = s.rdForce x := rfl
@[simp] theorem rd_win (f : Win → Win) (s : State) (x : Nat) : ((Act.win f).run s).rd x = s.rd x := rfl
@[simp] theorem rdForce_win (f : Win → Win) (s : State) (x : Nat) : ((Act.win f).run s).rdForce x = s.rdForce x := rfl

end Sys2Proof.Machine
end

