-- ==== Sys2Proof/Laws/Act.lean ====
section
/-! SUPPORT. What every program keeps, whatever it does: the canonical forms, the queue of commands, the part, the log of
what was put out; and the frame of a program that writes only some registers. -/

namespace Sys2Proof.Machine

theorem run_pending (a : Act) (s : State) : (a.run s).pending = s.pending := by
  induction a generalizing s with
  | seq a b iha ihb => simp [iha, ihb]
  | look k ih => exact ih s s
  | draw k ih => exact ih _ _
  | _ => rfl

theorem run_part (a : Act) (s : State) : (a.run s).part = s.part ∧ (a.run s).stepB = s.stepB := by
  induction a generalizing s with
  | seq a b iha ihb => simp [iha, ihb]
  | look k ih => exact ih s s
  | draw k ih => exact ih _ _
  | _ => exact ⟨rfl, rfl⟩

/-- What was put out stays put out. -/
theorem run_out (a : Act) (s : State) : ∃ l, (a.run s).out = s.out ++ l := by
  induction a generalizing s with
  | seq a b iha ihb =>
    obtain ⟨l, hl⟩ := iha s
    obtain ⟨m, hm⟩ := ihb (a.run s)
    exact ⟨l ++ m, by rw [run_seq, hm, hl, List.append_assoc]⟩
  | look k ih => exact ih s s
  | draw k ih => exact ih _ _
  | emit m => exact ⟨[m], rfl⟩
  | _ => exact ⟨[], (List.append_nil _).symm⟩

/-- No free value is drawn twice. -/
theorem run_free (a : Act) (s : State) : s.free ≤ (a.run s).free := by
  induction a generalizing s with
  | seq a b iha ihb => exact Nat.le_trans (iha s) (ihb _)
  | look k ih => exact ih s s
  | draw k ih =>
    rw [run_draw]
    exact Nat.le_trans (Nat.le_succ _) (ih _ { s with free := s.free + 1 })
  | _ => exact Nat.le_refl _

/-- Every program keeps the canonical forms. -/
theorem run_wf (a : Act) (s : State) (h : s.wf = true) : (a.run s).wf = true := by
  induction a generalizing s with
  | seq a b iha ihb => exact ihb _ (iha s h)
  | look k ih => exact ih s s h
  | draw k ih => exact ih _ _ h
  | reg x v =>
    simp only [State.wf, Bool.and_eq_true] at *
    exact ⟨⟨Sparse.wf_set _ _ _ _ h.1.1, h.1.2⟩, h.2⟩
  | inForce x v =>
    simp only [State.wf, Bool.and_eq_true] at *
    exact ⟨⟨h.1.1, Sparse.wf_set _ _ _ _ h.1.2⟩, h.2⟩
  | flash x b =>
    simp only [State.wf, Bool.and_eq_true] at *
    exact ⟨h.1, Sparse.wf_set _ _ _ _ h.2⟩
  | resetRegs =>
    simp only [State.wf, Bool.and_eq_true] at *
    exact ⟨⟨Sparse.wf_filter _ _ _ h.1.1, Sparse.wf_filter _ _ _ h.1.2⟩, h.2⟩
  | resetAll =>
    simp only [State.wf, Bool.and_eq_true] at *
    exact ⟨⟨rfl, rfl⟩, h.2⟩
  | _ => exact h

/-! ## Frames -/

/-- The program writes current values of registers only where `P` holds. -/
def Act.within (P : Nat → Prop) : Act → Prop
  | .seq a b => a.within P ∧ b.within P
  | .look k => ∀ s, (k s).within P
  | .draw k => ∀ w, (k w).within P
  | .reg a _ => P a
  | .resetRegs | .resetAll => ∀ a, P a
  | _ => True

/-- A register outside keeps its word. -/
theorem rd_within {P : Nat → Prop} {a : Act} (h : a.within P) {x : Nat} (hx : ¬ P x) (s : State) :
    (a.run s).rd x = s.rd x := by
  induction a generalizing s with
  | seq a b iha ihb => rw [run_seq, ihb h.2, iha h.1]
  | look k ih => exact ih s (h s) s
  | draw k ih => exact ih _ (h _) _
  | reg y v =>
    have : x ≠ y := fun e => hx (e ▸ h)
    simp [this]
  | resetRegs => exact absurd (h x) hx
  | resetAll => exact absurd (h x) hx
  | _ => rfl

theorem get_within {P : Nat → Prop} {a : Act} (h : a.within P) {f : Field} (hx : ¬ P f.addr) (s : State) :
    (a.run s).get f = s.get f := by simp [State.get, rd_within h hx]

theorem Act.within_mono {P Q : Nat → Prop} (hPQ : ∀ x, P x → Q x) {a : Act} (h : a.within P) : a.within Q := by
  induction a with
  | seq a b iha ihb => exact ⟨iha h.1, ihb h.2⟩
  | look k ih => exact fun s => ih s (h s)
  | draw k ih => exact fun w => ih w (h w)
  | reg y v => exact hPQ _ h
  | resetRegs => exact fun x => hPQ _ (h x)
  | resetAll => exact fun x => hPQ _ (h x)
  | _ => trivial

theorem Act.within_all {P : Nat → Prop} {l : List Act} (h : ∀ a ∈ l, a.within P) : (Act.all l).within P := by
  induction l with
  | nil => trivial
  | cons a l ih => exact ⟨h a (by simp), ih (fun b hb => h b (by simp [hb]))⟩

theorem Act.within_each {α : Type} {P : Nat → Prop} {l : List α} {f : α → Act} (h : ∀ x ∈ l, (f x).within P) :
    (Act.each l f).within P := by
  apply Act.within_all
  intro a ha
  obtain ⟨x, hx, rfl⟩ := List.mem_map.mp ha
  exact h x hx

theorem Act.within_when {P : Nat → Prop} {c : Bool} {a : Act} (h : c = true → a.within P) : (Act.when c a).within P := by
  cases c
  · trivial
  · exact h rfl

/-- The program leaves the flash alone. -/
def Act.noFlash : Act → Prop
  | .seq a b => a.noFlash ∧ b.noFlash
  | .look k => ∀ s, (k s).noFlash
  | .draw k => ∀ w, (k w).noFlash
  | .flash _ _ => False
  | _ => True

theorem run_noFlash {a : Act} (h : a.noFlash) (s : State) : (a.run s).flash = s.flash := by
  induction a generalizing s with
  | seq a b iha ihb => rw [run_seq, ihb h.2, iha h.1]
  | look k ih => exact ih s (h s) s
  | draw k ih => exact ih _ (h _) _
  | flash y v => exact absurd h (fun x => x)
  | _ => rfl

/-- The program leaves the values in force alone. -/
def Act.noForce : Act → Prop
  | .seq a b => a.noForce ∧ b.noForce
  | .look k => ∀ s, (k s).noForce
  | .draw k => ∀ w, (k w).noForce
  | .inForce _ _ | .resetRegs | .resetAll => False
  | _ => True

theorem run_noForce {a : Act} (h : a.noForce) (s : State) : (a.run s).force = s.force := by
  induction a generalizing s with
  | seq a b iha ihb => rw [run_seq, ihb h.2, iha h.1]
  | look k ih => exact ih s (h s) s
  | draw k ih => exact ih _ (h _) _
  | inForce y v => exact absurd h (fun x => x)
  | resetRegs => exact absurd h (fun x => x)
  | resetAll => exact absurd h (fun x => x)
  | _ => rfl

end Sys2Proof.Machine
end

