-- ==== Sys2Proof/Laws/Bits.lean ====
section
/-! SUPPORT. Fields of words: what reading a field gives after one has been put. -/

namespace Sys2Proof.Machine

theorem testBit_mask (msb lsb i : Nat) (h : i < 64) (hl : lsb ≤ msb) :
    (fieldMask msb lsb).getLsbD i = (decide (lsb ≤ i) && decide (i ≤ msb)) := by
  simp only [fieldMask, BitVec.getLsbD_ofNat, Nat.testBit_shiftLeft, Nat.testBit_two_pow_sub_one]
  by_cases h1 : lsb ≤ i
  · have : (i - lsb < msb + 1 - lsb) ↔ i ≤ msb := by omega
    simp [h, h1, this]
  · simp [h1]

theorem getLsbD_putBits (w : Word) (msb lsb v i : Nat) (h : i < 64) (hl : lsb ≤ msb) :
    (putBits w msb lsb v).getLsbD i =
      if lsb ≤ i ∧ i ≤ msb then v.testBit (i - lsb) else w.getLsbD i := by
  simp only [putBits, BitVec.getLsbD_or, BitVec.getLsbD_and, BitVec.getLsbD_not, testBit_mask msb lsb i h hl,
    BitVec.getLsbD_ofNat, Nat.testBit_shiftLeft]
  by_cases h1 : lsb ≤ i <;> by_cases h2 : i ≤ msb <;> simp [h, h1, h2]

theorem testBit_getBits (w : Word) (msb lsb i : Nat) :
    (getBits w msb lsb).testBit i = (decide (i < msb + 1 - lsb) && w.getLsbD (lsb + i)) := by
  simp only [getBits, bits, Nat.testBit_mod_two_pow, Nat.testBit_shiftRight]
  rfl

/-- A field reads back as what was put, cut to its width. -/
theorem getBits_putBits_same (w : Word) (msb lsb v : Nat) (hl : lsb ≤ msb) (hm : msb < 64) :
    getBits (putBits w msb lsb v) msb lsb = v % 2 ^ (msb + 1 - lsb) := by
  apply Nat.eq_of_testBit_eq
  intro i
  rw [testBit_getBits, Nat.testBit_mod_two_pow]
  by_cases h : i < msb + 1 - lsb
  · rw [getLsbD_putBits _ _ _ _ _ (by omega) hl, if_pos (by omega)]
    simp [h]
  · simp [h]

/-- A field with no bit in common is untouched. -/
theorem getBits_putBits_other (w : Word) (msb lsb v m l : Nat) (hl : lsb ≤ msb) (h : m < lsb ∨ msb < l) (hm : m < 64) :
    getBits (putBits w msb lsb v) m l = getBits w m l := by
  apply Nat.eq_of_testBit_eq
  intro i
  rw [testBit_getBits, testBit_getBits]
  by_cases hi : i < m + 1 - l
  · rw [getLsbD_putBits _ _ _ _ _ (by omega) hl, if_neg (by omega)]
  · simp [hi]

theorem getBits_lt (w : Word) (msb lsb : Nat) : getBits w msb lsb < 2 ^ (msb + 1 - lsb) := by
  unfold getBits bits
  exact Nat.mod_lt _ (Nat.two_pow_pos _)

/-- A value put into a field of its register. -/
theorem get_put_same (s : State) (f : Field) (v : Nat) (hl : f.lsb ≤ f.msb) (hm : f.msb < 64) :
    ((put f v).run s).get f = v % 2 ^ (f.msb + 1 - f.lsb) := by
  simp only [put, Act.run, State.get, State.rd]
  rw [Sparse.get_set_same, getBits_putBits_same _ _ _ _ hl hm]

/-- A field of another register, or with no bit in common. -/
theorem get_put_other (s : State) (f g : Field) (v : Nat) (hl : f.lsb ≤ f.msb) (hm : g.msb < 64)
    (h : f.addr ≠ g.addr ∨ g.msb < f.lsb ∨ f.msb < g.lsb) : ((put f v).run s).get g = s.get g := by
  simp only [put, Act.run, State.get, State.rd]
  by_cases ha : g.addr = f.addr
  · rw [ha, Sparse.get_set_same, getBits_putBits_other _ _ _ _ _ _ hl _ hm]
    rcases h with h | h
    · exact absurd ha.symm h
    · exact h
  · rw [Sparse.get_set_other _ _ _ ha]

end Sys2Proof.Machine
end

