-- ==== Sys2Proof/Laws/Bytes.lean ====
section
/-! SUPPORT. Lengths of the byte strings that the formats and the cryptographic functions give. -/

namespace Sys2Proof.Machine

@[simp] theorem be_length (n v : Nat) : (be n v).length = n := by simp [be]
@[simp] theorem zeros_length (n : Nat) : (zeros n).length = n := by simp [zeros]
@[simp] theorem fit_length (n : Nat) (l : List Byte) : (fit n l).length = n := by simp [fit]; omega
@[simp] theorem block_length (b : BitVec 128) : (block b).length = 16 := by simp [block]
@[simp] theorem xorBytes_length (a b : List Byte) : (xorBytes a b).length = a.length := by simp [xorBytes]
@[simp] theorem gctr_length (key iv : List Byte) (n : Nat) (data : List Byte) : (gctr key iv n data).length = data.length := by
  simp [gctr]
@[simp] theorem sha_length (m : List Byte) : (sha m).length = 48 := by simp [sha]

theorem slice_length (l : List Byte) (off n : Nat) (h : off + n ≤ l.length) : (slice l off n).length = n := by
  simp [slice]; omega

end Sys2Proof.Machine
end

