-- ==== Sys2Proof/Laws/Ops.lean ====
section
/-! SUPPORT. What the shared operations can write: fields, counters, notifications, pushes; and what a counter reads after
it has counted. -/

namespace Sys2Proof.Machine

/-- The queue blocks and what lies above them. -/
def inQueues (a : Nat) : Prop := 0x08000000 ≤ a

theorem put_within (f : Field) (v : Nat) : (put f v).within (fun a => a = f.addr) := fun _ => rfl

theorem event_within (f : Field) : (event f).within (fun a => a = f.addr) := ⟨fun _ => rfl, trivial⟩

theorem put_in {P : Nat → Prop} {f : Field} (v : Nat) (h : P f.addr) : (put f v).within P := fun _ => h
theorem event_in {P : Nat → Prop} {f : Field} (h : P f.addr) : (event f).within P := ⟨fun _ => h, trivial⟩

theorem onQueue_within (P : Nat → Prop) (q : Nat) (f : QueueUnit → QueueUnit) : (onQueue q f).within P := fun _ => trivial

theorem refreshQueue_within (q : Nat) : (refreshQueue q).within inQueues := fun s =>
  Act.within_all (by
    intro a ha
    simp only [List.mem_cons, List.not_mem_nil, or_false] at ha
    rcases ha with rfl | rfl | rfl | rfl | rfl | rfl | rfl <;>
      exact put_in _ (by simp only [inQueues, F.Q_DEPTH_ITEMS, F.Q_DEPTH_CELLS, F.Q_STATUS_HEAD_FILL, F.Q_STATUS_EMPTY,
        F.Q_STATUS_FULL, F.Q_STATUS_PARTIAL, F.Q_STATUS_DISCARDING]; omega))

/-- The hooks of one level write the counter they count and queue blocks, nothing else. -/
structure Hooks.Kept (h : Hooks) : Prop where
  cnt : ∀ f k, (h.cnt f k).within (fun a => a = f.addr ∨ inQueues a)
  note : ∀ t k i b, (h.note t k i b).within inQueues

theorem bump_within (f : Field) (k : Nat) : (bump f k).within (· = f.addr) := fun _ => ⟨fun _ => rfl, trivial⟩

theorem countWith_within {h : Hooks} (H : h.Kept) (f : Field) (k : Nat) :
    (countWith h f k).within (fun a => a = f.addr ∨ inQueues a) := fun _ =>
  ⟨Act.within_mono (fun _ => Or.inl) (bump_within f k),
    Act.within_when fun _ => Act.within_mono (fun _ => Or.inr) (H.note _ _ _ _)⟩

theorem Hooks.Kept.inQ {h : Hooks} (H : h.Kept) {f : Field} (k : Nat) (hf : inQueues f.addr) : (h.cnt f k).within inQueues :=
  Act.within_mono (fun _ ha => ha.elim (fun e => e ▸ hf) id) (H.cnt f k)

theorem touch_within (P : Nat → Prop) (q : Nat) : (touch q).within P := trivial

theorem advance_within (q k : Nat) {f : Field} (h : inQueues f.addr) : (advance q k f).within inQueues := fun _ => put_in _ h

theorem committed_within (P : Nat → Prop) (i : Item) : (committed i).within P := by
  unfold committed
  split <;> trivial

theorem commitWith_within {h : Hooks} (H : h.Kept) (q : Nat) (i : Item) (b : Nat) : (commitWith h q i b).within inQueues :=
  ⟨onQueue_within _ _ _, trivial, H.inQ _ (by simp only [inQueues, F.Q_ITEMS_PUSHED_C]; omega),
    H.inQ _ (by simp only [inQueues, F.Q_OCTETS_PUSHED_C]; omega), refreshQueue_within q, touch_within _ q, committed_within _ i,
    trivial⟩

theorem overrunWith_within {h : Hooks} (H : h.Kept) (q c : Nat) : (overrunWith h q c).within inQueues :=
  ⟨event_in (by simp only [inQueues, F.Q_STATUS_OVERRUN]; omega),
    H.inQ _ (by simp only [inQueues, F.Q_OVERRUNS_C]; omega), H.inQ _ (by simp only [inQueues, F.Q_DISCARDED_CELLS_C]; omega), trivial⟩

theorem pushWith_within {h : Hooks} (H : h.Kept) (q : Nat) (p : Producer) (i : Item) : (pushWith h q p i).within inQueues := by
  intro s
  dsimp only
  split
  · exact ⟨advance_within _ _ (by simp only [inQueues, F.Q_POINTERS_TAIL]; omega), commitWith_within H _ _ _⟩
  · trivial
  · exact ⟨H.inQ _ (by simp only [inQueues, F.Q_BAD_ITEMS_C]; omega), H.inQ _ (by simp only [inQueues, F.Q_DISCARDED_CELLS_C]; omega)⟩
  · exact overrunWith_within H _ _
  · exact overrunWith_within H _ _
  · exact ⟨advance_within _ _ (by simp only [inQueues, F.Q_POINTERS_TAIL]; omega), onQueue_within _ _ _, refreshQueue_within q,
      touch_within _ q, trivial⟩
  · exact onQueue_within _ _ _

theorem noteWith_within {h : Hooks} (H : h.Kept) (t k i : Nat) (b : List Byte) : (noteWith h t k i b).within inQueues := by
  intro s
  refine ⟨onQueue_within _ _ _, ?_⟩
  split
  · exact Act.within_when fun _ =>
      ⟨event_in (by simp only [inQueues, F.Q_STATUS_OVERRUN]; omega), H.inQ _ (by simp only [inQueues, F.Q_OVERRUNS_C]; omega)⟩
  · exact pushWith_within H _ _ _

theorem hooks_kept (n : Nat) : (hooks n).Kept := by
  induction n with
  | zero => exact ⟨fun f k => Act.within_mono (fun _ => Or.inl) (bump_within f k), fun _ _ _ _ => trivial⟩
  | succ n ih => exact ⟨countWith_within ih, noteWith_within ih⟩

/-- Counting writes the counter and queue blocks. -/
theorem countBy_within (f : Field) (k : Nat) : (countBy f k).within (fun a => a = f.addr ∨ inQueues a) := (hooks_kept 4).cnt f k
theorem count_within (f : Field) : (count f).within (fun a => a = f.addr ∨ inQueues a) := countBy_within f 1

/-- A notification and a push write queue blocks. -/
theorem notify_within (t k i : Nat) (b : List Byte) : (notify t k i b).within inQueues := (hooks_kept 4).note t k i b
theorem push_within (q : Nat) (p : Producer) (i : Item) : (push q p i).within inQueues := pushWith_within (hooks_kept 4) q p i

/-- A counter below the queue blocks reads one step more, modulo its width (R574). -/
theorem get_countBy (s : State) (f : Field) (k : Nat) (hl : f.lsb ≤ f.msb) (hm : f.msb < 64) (ha : f.addr < 0x08000000) :
    ((countBy f k).run s).get f = (s.get f + k) % 2 ^ (f.msb + 1 - f.lsb) := by
  have hn : ¬ inQueues f.addr := by simp only [inQueues]; omega
  show ((countWith (hooks 3) f k).run s).get f = _
  unfold countWith
  simp only [run_look, run_seq]
  have hw : ∀ c x, ((Act.when c ((hooks 3).note (s.ownerOf f.addr) 0x02 f.addr [])).run x).get f = x.get f := fun c x =>
    get_within (Act.within_when fun _ => (hooks_kept 3).note _ _ _ _) hn x
  rw [hw]
  unfold bump
  simp only [run_look, run_seq]
  have : ∀ x : State, ((Act.win fun w => { w with counts := (f.addr, k) :: w.counts }).run x).get f = x.get f := fun _ => rfl
  rw [this, get_put_same _ _ _ hl hm]
  simp [Field.width]

theorem get_count (s : State) (f : Field) (hl : f.lsb ≤ f.msb) (hm : f.msb < 64) (ha : f.addr < 0x08000000) :
    ((count f).run s).get f = (s.get f + 1) % 2 ^ (f.msb + 1 - f.lsb) := get_countBy s f 1 hl hm ha

/-- A field of another register, below the queue blocks, is untouched by a count. -/
theorem get_countBy_other (s : State) (f g : Field) (k : Nat) (h : g.addr ≠ f.addr) (ha : g.addr < 0x08000000) :
    ((countBy f k).run s).get g = s.get g :=
  get_within (countBy_within f k) (by simp only [inQueues]; omega) s

theorem get_notify (s : State) (g : Field) (t k i : Nat) (b : List Byte) (ha : g.addr < 0x08000000) :
    ((notify t k i b).run s).get g = s.get g :=
  get_within (notify_within t k i b) (by simp only [inQueues]; omega) s

theorem get_push (s : State) (g : Field) (q : Nat) (p : Producer) (i : Item) (ha : g.addr < 0x08000000) :
    ((push q p i).run s).get g = s.get g :=
  get_within (push_within q p i) (by simp only [inQueues]; omega) s

/-- Hardware sets a status field. -/
theorem get_event_same (s : State) (f : Field) (hl : f.lsb ≤ f.msb) (hm : f.msb < 64) :
    ((event f).run s).get f = 2 ^ (f.msb + 1 - f.lsb) - 1 := by
  show ((put f (2 ^ f.width - 1)).run s).get f = _
  rw [get_put_same _ _ _ hl hm, Field.width, Nat.mod_eq_of_lt (by have := Nat.two_pow_pos (f.msb + 1 - f.lsb); omega)]

theorem get_event_other (s : State) (f g : Field) (hl : f.lsb ≤ f.msb) (hm : g.msb < 64)
    (h : f.addr ≠ g.addr ∨ g.msb < f.lsb ∨ f.msb < g.lsb) : ((event f).run s).get g = s.get g :=
  get_put_other s f g _ hl hm h

/-! ## Looking ahead (R20) -/

/-- With no command waiting there is nothing to look ahead for. -/
@[simp] theorem coming_nil (s : State) (h : s.pending = []) : s.coming = [] := by simp [State.coming, h]

@[simp] theorem asked_nil (s : State) (f : Field) (h : s.pending = []) : s.asked f = [] := by simp [State.asked, h]

/-- The look-ahead reads the queue of commands alone for which commands come: one for each that waits. -/
theorem coming_length (s : State) : s.coming.length = s.pending.length := by simp [State.coming]

end Sys2Proof.Machine
end

