-- ==== Sys2Proof/WellFormed.lean ====
section
/-! DEFINITION. Which commands are well formed: their operands name instances the address map has (R586), cells and
pages that fit, and sizes an access may have. The meanings are total: they take any operand. -/

namespace Sys2Proof

/-- The operands of a command lie in their ranges. -/
def Instr.wf (i : Instr) : Bool :=
  match i with
  | .coldReset => true
  | .vaonLoss => true
  | .start _ => true
  | .startTimeout _ => true
  | .brownout rail => decide (rail < 7)
  | .supplyExcursion rail _ => decide (rail < 7)
  | .vfldLoss => true
  | .pinReset _ => true
  | .rstRelease _ => true
  | .deviceReset writer _ _ => decide (writer < 32)
  | .fullReset writer _ _ => decide (writer < 32)
  | .watchdogReset _ => true
  | .dormancyRequest writer _ => decide (writer < 32)
  | .mainRailsOff => true
  | .railStuck => true
  | .wakeFrame _ => true
  | .svcWakeFrame _ _ => true
  | .wakeRailWaitExpiry => true
  | .slotCommit writer _ => decide (writer < 32)
  | .slotCommitApply => true
  | .emberHeartbeat => true
  | .imgErase writer _ => decide (writer < 32)
  | .imgMark writer _ => decide (writer < 32)
  | .imgRetire writer _ => decide (writer < 32)
  | .imgPageWrite writer offset data => decide (writer < 32) && decide (offset + data.length ≤ 256)
  | .imgOperationDone _ => true
  | .imgConfirm writer _ => decide (writer < 32)
  | .confirmWindowExpiry _ => true
  | .uplinkDataFrame lane _ _ => decide (lane < 1024)
  | .heartbeatFrame lane _ => decide (lane < 1024)
  | .rosterFrame lane _ => decide (lane < 1024)
  | .replyFrame lane _ => decide (lane < 1024)
  | .echoReceived lane _ _ => decide (lane < 1024)
  | .echoReport lane _ => decide (lane < 1024)
  | .handoverFrame lane _ => decide (lane < 1024)
  | .ackSend lane => decide (lane < 1024)
  | .markerSend lane => decide (lane < 1024)
  | .echoReportTimeout lane => decide (lane < 1024)
  | .commandTimeout lane _ => decide (lane < 1024)
  | .discoveryRetry lane => decide (lane < 1024)
  | .tlkCfgWrite lane writer _ => decide (lane < 1024) && decide (writer < 32)
  | .tlkTimersWrite lane writer _ => decide (lane < 1024) && decide (writer < 32)
  | .uplinkSignalDetect lane => decide (lane < 1024)
  | .laneLockHeld lane => decide (lane < 1024)
  | .lossOfSignal lane => decide (lane < 1024)
  | .lossOfLock lane => decide (lane < 1024)
  | .linkTimeout lane => decide (lane < 1024)
  | .restart lane writer _ => decide (lane < 1024) && decide (writer < 32)
  | .remeasure lane writer _ => decide (lane < 1024) && decide (writer < 32)
  | .rediscover lane writer _ => decide (lane < 1024) && decide (writer < 32)
  | .wmTimeout lane talker => decide (lane < 1024) && decide (talker < 128)
  | .talkerCommand lane writer _ => decide (lane < 1024) && decide (writer < 32)
  | .talkerPulse lane writer _ => decide (lane < 1024) && decide (writer < 32)
  | .swap writer _ => decide (writer < 32)
  | .swapValidationDone => true
  | .tSwapReached => true
  | .bankRetire => true
  | .copy writer _ => decide (writer < 32)
  | .copyDone => true
  | .strCommit stream writer _ => decide (stream < 8192) && decide (writer < 32)
  | .streamConfigApply stream => decide (stream < 8192)
  | .contributorGraceExpiry lane => decide (lane < 1024)
  | .stratumCloseByWatermark stream => decide (stream < 8192)
  | .stratumCloseByHorizon stream => decide (stream < 8192)
  | .stratumEmit tenant => decide (tenant < 32)
  | .stratumEviction stream _ => decide (stream < 8192)
  | .queueCell queue _ _ cell => decide (queue < 4096) && decide (cell.length ≤ 64)
  | .queueEndOfItem queue _ _ => decide (queue < 4096)
  | .queuePop queue _ => decide (queue < 4096)
  | .heldPopComplete queue => decide (queue < 4096)
  | .flush queue writer _ => decide (queue < 4096) && decide (writer < 32)
  | .queueDisable queue writer _ => decide (queue < 4096) && decide (writer < 32)
  | .pointerMismatch queue => decide (queue < 4096)
  | .notifyRead reader queue offset len => decide (reader < 32) && decide (queue < 4096) && decide (offset + len ≤ 32)
  | .intervalCloseByWatermark => true
  | .intervalCloseByHorizon => true
  | .programEvaluate => true
  | .tokenRefill program => decide (program < 64)
  | .progCommit program writer _ => decide (program < 64) && decide (writer < 32)
  | .programApply program => decide (program < 64)
  | .softInput program writer _ => decide (program < 64) && decide (writer < 32)
  | .broadcastReceived port _ => decide (port < 8)
  | .freezeLaunch => true
  | .freezeComplete slot => decide (slot < 1024)
  | .readoutStart stream => decide (stream < 8192)
  | .readoutEnd stream => decide (stream < 8192)
  | .storeRecovery _ => true
  | .drivePresenceChange port => decide (port < 16)
  | .driveInserted port _ => decide (port < 16)
  | .storeLinkDown port => decide (port < 16)
  | .driveFailed port _ => decide (port < 16)
  | .storeFrameWrite _ => true
  | .stripeCommitExpiry stream => decide (stream < 8192)
  | .journalBlockWrite => true
  | .journalBlockDurable => true
  | .lktCompact writer _ => decide (writer < 32)
  | .compactionDone => true
  | .format writer _ => decide (writer < 32)
  | .formatDone => true
  | .adopt port writer _ => decide (port < 16) && decide (writer < 32)
  | .rebuildStripe port => decide (port < 16)
  | .replayStart engine writer _ => decide (engine < 8) && decide (writer < 32)
  | .replayFrame engine => decide (engine < 8)
  | .replayAbort engine writer _ => decide (engine < 8) && decide (writer < 32)
  | .windowRelease window writer _ => decide (window < 4096) && decide (writer < 32)
  | .portEnable port writer _ => decide (port < 32) && decide (writer < 32)
  | .frameTransmit link _ => decide (link < 264)
  | .frameReceived link _ _ => decide (link < 264)
  | .pfcReceived link times => decide (link < 264) && times.all (fun t => decide (t.1 < 8) && decide (t.2 < 65536))
  | .pauseExpiry link prio => decide (link < 264) && decide (prio < 8)
  | .pauseWatchdogExpiry link prio => decide (link < 264) && decide (prio < 8)
  | .stormClearExpiry link prio => decide (link < 264) && decide (prio < 8)
  | .pfcSend port prio _ => decide (port < 8) && decide (prio < 8)
  | .preemptVerify link _ => decide (link < 264)
  | .endpointCommit port endpoint writer _ => decide (port < 40) && decide (endpoint < 256) && decide (writer < 32)
  | .endpointCommitApply port endpoint => decide (port < 40) && decide (endpoint < 256)
  | .ackReceived link _ _ => decide (link < 264)
  | .retransmitTimeout port endpoint => decide (port < 40) && decide (endpoint < 256)
  | .retentionExpiry port endpoint => decide (port < 40) && decide (endpoint < 256)
  | .linkDown link _ => decide (link < 264)
  | .linkHoldExpiry link => decide (link < 264)
  | .linkUp link => decide (link < 264)
  | .spillNoticeSend port endpoint => decide (port < 40) && decide (endpoint < 256)
  | .launchTimeReached link prio => decide (link < 264) && decide (prio < 8)
  | .progressIdleExpiry stream => decide (stream < 8192)
  | .checkpointTimer stream => decide (stream < 8192)
  | .roundClose => true
  | .checkpointSeal stream => decide (stream < 8192)
  | .keyFault entry => decide (entry < 256)
  | .entropyFault => true
  | .ownerPackage writer _ _ => decide (writer < 32)
  | .ownerRecordWritten _ => true
  | .ptpSyncRx port _ _ => decide (port < 8)
  | .ptpFollowUpRx port _ _ => decide (port < 8)
  | .ptpDelayReqRx port _ _ => decide (port < 8)
  | .ptpDelayRespRx port _ _ => decide (port < 8)
  | .ptpAnnounceRx port _ _ => decide (port < 8)
  | .ptpSignalingRx port _ _ => decide (port < 8)
  | .syncSend port domain _ => decide (port < 8) && decide (domain < 2)
  | .delayReqSend port domain _ => decide (port < 8) && decide (domain < 2)
  | .announceSend port domain => decide (port < 8) && decide (domain < 2)
  | .esmcSend port => decide (port < 8)
  | .esmcReceived port _ => decide (port < 8)
  | .servoAcquisitionStep => true
  | .rootAcquisitionStep => true
  | .d0SourceLoss => true
  | .d1SourceLoss => true
  | .holdoverTimer => true
  | .ref10mLoss => true
  | .ppsInEdge _ => true
  | .ppsInLoss => true
  | .referenceRestored _ => true
  | .warmUpEnd => true
  | .segmentPublish => true
  | .timSetCommit domain writer _ => decide (domain < 4) && decide (writer < 32)
  | .timSetApply domain => decide (domain < 4)
  | .reacquire writer _ => decide (writer < 32)
  | .forceD1 writer _ => decide (writer < 32)
  | .calibrationStart writer _ => decide (writer < 32)
  | .calibrationSample _ => true
  | .calibrationDone => true
  | .pulseArm pulse writer _ => decide (pulse < 4) && decide (writer < 32)
  | .pulseFire pulse => decide (pulse < 4)
  | .pulseCancel pulse writer _ => decide (pulse < 4) && decide (writer < 32)
  | .ppsOutput domain => decide (domain < 4)
  | .foutCommit output writer _ => decide (output < 4) && decide (writer < 32)
  | .foutApply output => decide (output < 4)
  | .revert => true
  | .tempStale port => decide (port < 8)
  | .edgeStart port _ => decide (port < 16)
  | .edgeStop port _ => decide (port < 16)
  | .measurementResult port => decide (port < 16)
  | .intervalOverflow port => decide (port < 16)
  | .edgArm port writer _ => decide (port < 16) && decide (writer < 32)
  | .edgDisarm port writer _ => decide (port < 16) && decide (writer < 32)
  | .outArm port writer _ => decide (port < 16) && decide (writer < 32)
  | .edgeOutputLaunch port => decide (port < 16)
  | .ringCalibration unit => decide (unit < 21)
  | .edgCfgWrite port writer _ => decide (port < 16) && decide (writer < 32)
  | .envScanStart => true
  | .envConversionDone channel _ _ => decide (channel < 16)
  | .ilkTrip output _ => decide (output < 8)
  | .ilkRetry output => decide (output < 8)
  | .ilkClear output writer _ => decide (output < 8) && decide (writer < 32)
  | .ilkCfgWrite output writer _ => decide (output < 8) && decide (writer < 32)
  | .utlFunctionChange pin writer _ => decide (pin < 32) && decide (writer < 32)
  | .utlGuardEnd pin => decide (pin < 32)
  | .utlTrip pin _ => decide (pin < 32)
  | .utlClear pin writer _ => decide (pin < 32) && decide (writer < 32)
  | .externalTriggerEdge pin _ => decide (pin < 32)
  | .fbusEnable channel writer _ => decide (channel < 2) && decide (writer < 32)
  | .fbusIntegrated channel => decide (channel < 2)
  | .fbusFrameReceived channel _ _ => decide (channel < 2)
  | .fbusRequest channel object writer _ => decide (channel < 2) && decide (object < 128) && decide (writer < 32)
  | .fbusAbort channel object writer _ => decide (channel < 2) && decide (object < 128) && decide (writer < 32)
  | .fbusAttemptEnd channel _ => decide (channel < 2)
  | .fbusBusError channel _ _ => decide (channel < 2)
  | .fbusRecover channel writer _ => decide (channel < 2) && decide (writer < 32)
  | .fbusRecoveryDone channel => decide (channel < 2)
  | .fbusModeChange channel => decide (channel < 2)
  | .abdStart channel writer _ => decide (channel < 2) && decide (writer < 32)
  | .abdDone channel _ => decide (channel < 2)
  | .mgmtHello _ _ => true
  | .mgmtRead _ _ => true
  | .mgmtWrite _ _ _ => true
  | .mgmtWritePosted _ _ _ => true
  | .mgmtLockRead _ _ => true
  | .mgmtWriteUnlock _ _ _ => true
  | .mgmtUnlock _ _ => true
  | .mgmtTunnelTx _ _ => true
  | .bridgeRequest _ _ _ => true
  | .bridgeResponse _ _ _ => true
  | .endToEndMessage _ _ _ => true
  | .farTimeout _ => true
  | .tokenExpiry _ => true
  | .lockExpiry => true
  | .watchPoll watch => decide (watch < 64)
  | .svcFrameReceived _ _ _ => true
  | .svcCollision _ _ => true
  | .svcBackoffExpiry => true
  | .tenantReset tenant writer _ => decide (tenant < 32) && decide (writer < 32)
  | .tenantResetDrained tenant => decide (tenant < 32)
  | .sentinelStall domain _ _ _ => decide (domain < 14)
  | .duplicateToken domain _ _ _ => decide (domain < 14)
  | .isolationRelease entry writer _ => decide (entry < 64) && decide (writer < 32)
  | .eccUncorrectable _ => true
  | .supervisorMismatch copy_ => decide (copy_ < 3)
  | .supervisorResync => true
  | .voteFailure => true
  | .heartbeatSend => true
  | .heartbeatReceived port _ => decide (port < 8)
  | .suspectTimeout entry => decide (entry < 16)
  | .resetWordReceived port _ _ => decide (port < 8)
  | .deadTimeout entry => decide (entry < 16)
  | .fenceNoticeReceived port _ => decide (port < 8)
  | .readmit writer _ _ => decide (writer < 32)
  | .chronicleCoalesceExpiry => true
  | .exchangeOffer port _ => decide (port < 8)
  | .exchangeAccept port _ => decide (port < 8)
  | .exchangeAssign port _ => decide (port < 8)
  | .offerRepeat port => decide (port < 8)
  | .exchangeRetry port => decide (port < 8)
  | .spareDormancyTimer => true
  | .wakeFrameRepeat entry => decide (entry < 16)
  | .wakeSend writer _ => decide (writer < 32)
  | .paceMeasurement paces => decide (paces.length = 16)
  | .paceLowClear writer _ => decide (writer < 32)
  | .snapRead reader address => decide (reader < 32) && decide (address < 0x0B000000)
  | .registerWrite writer address size _ _ => decide (writer < 32) && decide (address < 0x0B000000) && [1, 2, 4, 8].contains size && decide (address % size = 0)
  | .vfldReturn => true
  | .wakeFrameAbandonment => true
  | .thermalRetryThreshold output => decide (output < 8)
  | .correctedMemoryError _ => true
  | .svcTransmitOpportunity => true
  | .suppressedEntryWrite => true

end Sys2Proof
end

