-- ==== Sys2Proof/Tests/Slice0.lean ====
section
/-! SUPPORT. Witnesses of the statements' hypotheses, terms that the well-formedness check refuses, and small tests. -/

set_option Elab.async false

namespace Sys2Proof.Machine

theorem eq_getD {α : Type} {o : Option α} {d : α} (h : o.isSome = true) : o = some (o.getD d) := by
  cases o with
  | none => cases h
  | some x => rfl
/-- Reset with some fields set. -/
def testState (l : List (Field × Nat)) : State := (Act.all (l.map fun e => put e.1 e.2)).run State.reset

/-- The check value of CRC-32C over "123456789" (R7). -/
theorem test_crc32c_check_value : crc32c [0x31, 0x32, 0x33, 0x34, 0x35, 0x36, 0x37, 0x38, 0x39] = 0xE3069283 := by decide +kernel
/-- No row of the table gives bits, so no word spells a command. -/
theorem test_no_row_gives_bits : decodeTableWord 32 0xA5C30001 = none := by decide
/-- Q_STATUS of queue 213 (chapter 08, "flushing a link queue"). -/
theorem test_queue_213_status_address : (F.Q_STATUS_FLUSHING 213).addr = 0x0800D510 := by decide
/-- SENTENCES of lane 612 (chapter 19, "a clear that meets the hardware"). -/
theorem test_lane_612_sentences_address : (F.TLK_SENTENCES_C 612).addr = 0x01264110 := by decide
/-- The corrected time of the sentence from lane 612 (chapter 01, "one sentence from lane 612"). -/
theorem test_lane_612_time_correction :
    { testState [(F.TLK_DELAY_CABLE_DELAY 612, 501760), (F.TIM_LANE_APPLIED_ASYM 612, 37 * 256),
      (F.TLK_TALKER_STATE_REPORTED_LATENCY 612 37, 12288)] with
      units := { State.reset.units with d0 := 0x0000012345780000 } }.correct 612 37 true 0x01234566F000 = 0x00000123456EC825 := by
  decide +kernel
/-- Its SOURCE (chapter 01). -/
theorem test_talker_37_source :
    (testState [(F.SUP_ROLE_STATUS_DEVICE_NUMBER, 5203)]).talkerSource 612 37 = 0x28A73225 := by decide +kernel
/-- The asymmetry of lane 612 at 44 °C (R399). -/
theorem test_lane_asymmetry : asymmetry (31 * 256) 16384 (20 * 256) (some (44 * 256)) = 37 * 256 := by decide
/-- Bytes 8 to 19 of its copy for T3 (chapter 06, "one sentence, two tenants"). -/
theorem test_copy_in_stream_2050 :
    let c : Copy := { time := 0x00000123456EC825, source := 0x28A73225, channel := 0x41A2C, cls := 5, flags := 0x0C4
                      typ := 0x21, payload := List.replicate 40 0, group := 500, domain := 0 }
    slice c.bytes 8 12 = [0x28, 0xA7, 0x32, 0x25, 0x41, 0xA2, 0xCA, 0xC4, 0x21, 0x05, 0x1F, 0x40] := by decide +kernel
/-- Bytes 12 to 19 of its copy for T7 (chapter 06). -/
theorem test_copy_in_stream_6100 :
    let c : Copy := { time := 0x00000003456EC825, source := 0x28A73225, channel := 0x41A2C, cls := 2, flags := 0x0C4
                      typ := 0x21, payload := List.replicate 40 0, group := 0x264, domain := 3 }
    slice c.bytes 12 8 = [0x41, 0xA2, 0xC4, 0xC4, 0x21, 0x05, 0x26, 0x4C] := by decide +kernel
/-- T_SWAP of the swap example (chapter 06, "a swap that a late sentence straddles"). -/
theorem test_swap_boundary : nextMultiple 0x000001234E97C000 20 = 0x000001234EA00000 := by decide
/-- The retransmission after the lost acknowledgement is a duplicate (chapter 05). -/
theorem test_lost_acknowledgement_window : classify 0x7FF3 0 0x7FF1 = .duplicate := by decide
/-- Payload bytes 0 to 7 of frame B (chapter 15, "a frame, its sentence and a racing read"). -/
theorem test_can_frame_b_payload :
    canHead { ident := 0x1A4 * 2 ^ 18, fdf := true, brs := true, dlc := 0xA, data := [] } false false 0x0217
      = [0x66, 0x90, 0x00, 0x00, 0x0A, 0x10, 0x02, 0x17] := by decide +kernel
/-- SOURCE of frame B's sentence (chapter 15). -/
theorem test_can_object_12_source :
    (testState [(F.SUP_ROLE_STATUS_DEVICE_NUMBER, 5203)]).ownSource 1 12 = 0xA8A6008C := by decide +kernel
/-- The cable delay of lane 612 (chapter 05, "bringing up lane 612"). -/
theorem test_cable_delay : meanOf (List.replicate 16 (2283520 - 1280000)) 32 = 501760 := by decide +kernel
/-- A field of the state a command answers. -/
def fieldAfter (o : Host.Outcome State Fault Refusal) (f : Field) : Nat :=
  match o with
  | .next t => t.get f
  | .fault _ => 0
  | .refused _ => 0

/-- The end of the validation of the swap example sets T_SWAP (R183). -/
theorem test_swap_validation_sets_t_swap :
    fieldAfter (exec .swapValidationDone { testState [(F.FLT_BANK_STATUS_STATE, 3), (F.FLT_CTRL_SWAP_K, 20)] with
      units := { State.reset.units with d0 := 0x000001234E97C000 } }) F.FLT_SWAP_TIME_T_SWAP = 0x000001234EA00000 := by
  decide +kernel

/-- A write of zero to SENTENCES in the window of three deliveries leaves 3 (chapter 19, "a clear that meets the hardware"). -/
theorem test_counter_cleared_in_its_window :
    fieldAfter (exec (.registerWrite 0 0x01264110 8 0 ⟨0⟩)
      ((countBy (F.TLK_SENTENCES_C 612) 3).run (testState [(F.PWR_STATUS_LOCAL_READY, 1), (F.TLK_SENTENCES_C 612, 40)])))
      (F.TLK_SENTENCES_C 612) = 3 := by
  decide +kernel

/-- A clear of LINK_UP in the window that sets it leaves it set (chapter 19). -/
theorem test_event_cleared_in_its_window :
    fieldAfter (exec (.registerWrite 0 0x01264014 4 1 ⟨0⟩)
      ((event (F.TLK_EVENTS_LINK_UP 612)).run (testState [(F.PWR_STATUS_LOCAL_READY, 1), (F.TLK_EVENTS_LINK_UP 612, 1)])))
      (F.TLK_EVENTS_LINK_UP 612) = 1 := by
  decide +kernel

/-- A write of a hardware-owned register leaves it (chapter 19; R569). -/
theorem test_status_write_is_lost :
    fieldAfter (exec (.registerWrite 0 0x01264010 4 3 ⟨0⟩) (testState [(F.PWR_STATUS_LOCAL_READY, 1), (F.TLK_STATUS_STATE 612, 6)]))
      (F.TLK_STATUS_STATE 612) = 6 := by
  decide +kernel

/-- The same write sets WRITE_LOST of the lane (chapter 19; R580). -/
theorem test_status_write_sets_write_lost :
    fieldAfter (exec (.registerWrite 0 0x01264010 4 3 ⟨0⟩) (testState [(F.PWR_STATUS_LOCAL_READY, 1), (F.TLK_STATUS_STATE 612, 6)]))
      (F.TLK_EVENTS_WRITE_LOST 612) = 1 := by
  decide +kernel

/-- AES-256 on the example of FIPS 197, appendix C.3. -/
theorem test_aes256_fips197 :
    aes256 ((List.range 32).map (BitVec.ofNat 8)) (be 16 0x00112233445566778899AABBCCDDEEFF)
      = 0x8EA2B7CA516745BFEAFC49904B496089 := by decide +kernel

/-- SHA-384 of "abc" (the example published with FIPS 180-4). -/
theorem test_sha384_abc :
    sha384 [0x61, 0x62, 0x63] = 0xCB00753F45A35E8BB5A03D699AC65007272C32AB0EDED1631A8B605A43FF5BED8086072BA1E7CC2358BAECA134C825A7 := by
  decide +kernel

/-- AES-256-GCM, test case 14 published with the mode's submission. -/
theorem test_gcm_tag : gcmTag (zeros 32) (zeros 12) [] (zeros 16) = 0xD0D1C8A799996BF0265B98B5D48AB919 := by decide +kernel

/-- The first block of the XTS-AES-256 vector 10 of IEEE 1619. -/
theorem test_xts :
    xts (be 32 0x2718281828459045235360287471352662497757247093699959574966967627
      ++ be 32 0x3141592653589793238462643383279502884197169399375105820974944592) 0xFF (be 16 0x000102030405060708090A0B0C0D0E0F)
      = be 16 0x1C3B3A102F770386E4836C99E370CF9B := by decide +kernel

/-- Commands with one operand just out of its range are refused (part 1, in the order of the table). -/
theorem test_wf_refuses_1 (w : Word) (run : StartRun) (b : Bool) (rx : LaneRx) (ld : Load) :
    ([
      .brownout 7, .supplyExcursion 7 b, .deviceReset 32 w run, .fullReset 32 w run, .dormancyRequest 32 w,
      .slotCommit 32 w, .imgErase 32 w, .imgMark 32 w, .imgRetire 32 w, .imgPageWrite 32 255 [0],
      .imgPageWrite 0 256 [0], .imgConfirm 32 w, .uplinkDataFrame 1024 rx ld, .heartbeatFrame 1024 rx,
      .rosterFrame 1024 rx, .replyFrame 1024 rx, .echoReceived 1024 0 0, .echoReport 1024 rx, .handoverFrame 1024 rx,
      .ackSend 1024, .markerSend 1024, .echoReportTimeout 1024, .commandTimeout 1024 b, .discoveryRetry 1024,
      .tlkCfgWrite 1024 0 w, .tlkCfgWrite 0 32 w, .tlkTimersWrite 1024 0 w, .tlkTimersWrite 0 32 w,
      .uplinkSignalDetect 1024, .laneLockHeld 1024, .lossOfSignal 1024, .lossOfLock 1024, .linkTimeout 1024,
      .restart 1024 0 w, .restart 0 32 w, .remeasure 1024 0 w] : List Instr).all (fun i => !i.wf) = true := rfl

/-- Commands with one operand just out of its range are refused (part 2, in the order of the table). -/
theorem test_wf_refuses_2 (w : Word) (b : Bool) (p : Producer) :
    ([
      .remeasure 0 32 w, .rediscover 1024 0 w, .rediscover 0 32 w, .wmTimeout 1024 0, .wmTimeout 0 128,
      .talkerCommand 1024 0 w, .talkerCommand 0 32 w, .talkerPulse 1024 0 w, .talkerPulse 0 32 w, .swap 32 w,
      .copy 32 w, .strCommit 8192 0 w, .strCommit 0 32 w, .streamConfigApply 8192, .contributorGraceExpiry 1024,
      .stratumCloseByWatermark 8192, .stratumCloseByHorizon 8192, .stratumEmit 32, .stratumEviction 8192 b,
      .queueCell 4096 p b [], .queueCell 0 p b (List.replicate 65 0), .queueEndOfItem 4096 p b, .queuePop 4096 b,
      .heldPopComplete 4096, .flush 4096 0 w, .flush 0 32 w, .queueDisable 4096 0 w, .queueDisable 0 32 w,
      .pointerMismatch 4096, .notifyRead 32 0 0 0, .notifyRead 0 4096 0 0, .notifyRead 0 0 0 33, .tokenRefill 64,
      .progCommit 64 0 w, .progCommit 0 32 w, .programApply 64] : List Instr).all (fun i => !i.wf) = true := rfl

/-- Commands with one operand just out of its range are refused (part 3, in the order of the table). -/
theorem test_wf_refuses_3 (w : Word) (b : Bool) (l : List Byte) (od : Option StoreDrive) (df : DriveFailure) (st : RxStatus) :
    ([
      .softInput 64 0 w, .softInput 0 32 w, .broadcastReceived 8 l, .freezeComplete 1024, .readoutStart 8192,
      .readoutEnd 8192, .drivePresenceChange 16, .driveInserted 16 od, .storeLinkDown 16, .driveFailed 16 df,
      .stripeCommitExpiry 8192, .lktCompact 32 w, .format 32 w, .adopt 16 0 w, .adopt 0 32 w, .rebuildStripe 16,
      .replayStart 8 0 w, .replayStart 0 32 w, .replayFrame 8, .replayAbort 8 0 w, .replayAbort 0 32 w,
      .windowRelease 4096 0 w, .windowRelease 0 32 w, .portEnable 32 0 w, .portEnable 0 32 w, .frameTransmit 264 b,
      .frameReceived 264 l st, .pfcReceived 264 [(7, 65535)], .pfcReceived 0 [(8, 0)], .pfcReceived 0 [(0, 65536)],
      .pauseExpiry 264 0, .pauseExpiry 0 8, .pauseWatchdogExpiry 264 0, .pauseWatchdogExpiry 0 8,
      .stormClearExpiry 264 0, .stormClearExpiry 0 8] : List Instr).all (fun i => !i.wf) = true := rfl

/-- Commands with one operand just out of its range are refused (part 4, in the order of the table). -/
theorem test_wf_refuses_4 (w : Word) (b : Bool) (l : List Byte) (na : NetAddr) :
    ([
      .pfcSend 8 0 0, .pfcSend 0 8 0, .preemptVerify 264 b, .endpointCommit 40 0 0 w, .endpointCommit 0 256 0 w,
      .endpointCommit 0 0 32 w, .endpointCommitApply 40 0, .endpointCommitApply 0 256, .ackReceived 264 na l,
      .retransmitTimeout 40 0, .retransmitTimeout 0 256, .retentionExpiry 40 0, .retentionExpiry 0 256,
      .linkDown 264 b, .linkHoldExpiry 264, .linkUp 264, .spillNoticeSend 40 0, .spillNoticeSend 0 256,
      .launchTimeReached 264 0, .launchTimeReached 0 8, .progressIdleExpiry 8192, .checkpointTimer 8192,
      .checkpointSeal 8192, .keyFault 256, .ownerPackage 32 w b, .ptpSyncRx 8 l 0, .ptpFollowUpRx 8 l 0,
      .ptpDelayReqRx 8 l 0, .ptpDelayRespRx 8 l 0, .ptpAnnounceRx 8 l 0, .ptpSignalingRx 8 l 0, .syncSend 8 0 0,
      .syncSend 0 2 0, .delayReqSend 8 0 0, .delayReqSend 0 2 0, .announceSend 8 0] : List Instr).all (fun i => !i.wf) = true := rfl

/-- Commands with one operand just out of its range are refused (part 5, in the order of the table). -/
theorem test_wf_refuses_5 (w : Word) (l : List Byte) (tc : TripCause) (cv : Conversion) :
    ([
      .announceSend 0 2, .esmcSend 8, .esmcReceived 8 l, .timSetCommit 4 0 w, .timSetCommit 0 32 w, .timSetApply 4,
      .reacquire 32 w, .forceD1 32 w, .calibrationStart 32 w, .pulseArm 4 0 w, .pulseArm 0 32 w, .pulseFire 4,
      .pulseCancel 4 0 w, .pulseCancel 0 32 w, .ppsOutput 4, .foutCommit 4 0 w, .foutCommit 0 32 w, .foutApply 4,
      .tempStale 8, .edgeStart 16 0, .edgeStop 16 0, .measurementResult 16, .intervalOverflow 16, .edgArm 16 0 w,
      .edgArm 0 32 w, .edgDisarm 16 0 w, .edgDisarm 0 32 w, .outArm 16 0 w, .outArm 0 32 w, .edgeOutputLaunch 16,
      .ringCalibration 21, .edgCfgWrite 16 0 w, .edgCfgWrite 0 32 w, .envConversionDone 16 cv 0, .ilkTrip 8 tc,
      .ilkRetry 8] : List Instr).all (fun i => !i.wf) = true := rfl

/-- Commands with one operand just out of its range are refused (part 6, in the order of the table). -/
theorem test_wf_refuses_6 (w : Word) (run : StartRun) (b : Bool) (tc : TripCause) (cf : CanFrame) (co : CanOutcome) (ce : CanError) (ab : AbdFound) :
    ([
      .ilkClear 8 0 w, .ilkClear 0 32 w, .ilkCfgWrite 8 0 w, .ilkCfgWrite 0 32 w, .utlFunctionChange 32 0 w,
      .utlFunctionChange 0 32 w, .utlGuardEnd 32, .utlTrip 32 tc, .utlClear 32 0 w, .utlClear 0 32 w,
      .externalTriggerEdge 32 0, .fbusEnable 2 0 w, .fbusEnable 0 32 w, .fbusIntegrated 2, .fbusFrameReceived 2 cf 0,
      .fbusRequest 2 0 0 w, .fbusRequest 0 128 0 w, .fbusRequest 0 0 32 w, .fbusAbort 2 0 0 w, .fbusAbort 0 128 0 w,
      .fbusAbort 0 0 32 w, .fbusAttemptEnd 2 co, .fbusBusError 2 b ce, .fbusRecover 2 0 w, .fbusRecover 0 32 w,
      .fbusRecoveryDone 2, .fbusModeChange 2, .abdStart 2 0 w, .abdStart 0 32 w, .abdDone 2 ab, .watchPoll 64,
      .tenantReset 32 0 w, .tenantReset 0 32 w, .tenantResetDrained 32, .sentinelStall 14 0 0 run,
      .duplicateToken 14 0 0 run] : List Instr).all (fun i => !i.wf) = true := rfl

/-- Commands with one operand just out of its range are refused (part 7, in the order of the table). -/
theorem test_wf_refuses_7 (w : Word) (run : StartRun) (l : List Byte) :
    ([
      .isolationRelease 64 0 w, .isolationRelease 0 32 w, .supervisorMismatch 3, .heartbeatReceived 8 l,
      .suspectTimeout 16, .resetWordReceived 8 l run, .deadTimeout 16, .fenceNoticeReceived 8 l, .readmit 32 w run,
      .exchangeOffer 8 l, .exchangeAccept 8 l, .exchangeAssign 8 l, .offerRepeat 8, .exchangeRetry 8,
      .wakeFrameRepeat 16, .wakeSend 32 w, .paceMeasurement (List.replicate 15 0), .paceLowClear 32 w,
      .snapRead 32 0, .snapRead 0 0x0B000000, .registerWrite 32 0 8 w run, .registerWrite 0 0x0B000000 8 w run,
      .registerWrite 0 0 3 w run, .registerWrite 0 4 8 w run, .thermalRetryThreshold 8] : List Instr).all (fun i => !i.wf) = true := rfl

/-- The same commands with their operands in range are accepted (part 1). -/
theorem test_wf_accepts_1 (w : Word) (run : StartRun) (b : Bool) (rx : LaneRx) (ld : Load) :
    ([
      .brownout 0, .supplyExcursion 0 b, .deviceReset 0 w run, .fullReset 0 w run, .dormancyRequest 0 w,
      .slotCommit 0 w, .imgErase 0 w, .imgMark 0 w, .imgRetire 0 w, .imgPageWrite 0 255 [0], .imgConfirm 0 w,
      .uplinkDataFrame 0 rx ld, .heartbeatFrame 0 rx, .rosterFrame 0 rx, .replyFrame 0 rx, .echoReceived 0 0 0,
      .echoReport 0 rx, .handoverFrame 0 rx, .ackSend 0, .markerSend 0, .echoReportTimeout 0, .commandTimeout 0 b,
      .discoveryRetry 0, .tlkCfgWrite 0 0 w, .tlkTimersWrite 0 0 w, .uplinkSignalDetect 0, .laneLockHeld 0,
      .lossOfSignal 0, .lossOfLock 0, .linkTimeout 0, .restart 0 0 w, .remeasure 0 0 w, .rediscover 0 0 w,
      .wmTimeout 0 0, .talkerCommand 0 0 w, .talkerPulse 0 0 w] : List Instr).all Instr.wf = true := rfl

/-- The same commands with their operands in range are accepted (part 2). -/
theorem test_wf_accepts_2 (w : Word) (b : Bool) (l : List Byte) (p : Producer) (od : Option StoreDrive) (df : DriveFailure) :
    ([
      .swap 0 w, .copy 0 w, .strCommit 0 0 w, .streamConfigApply 0, .contributorGraceExpiry 0,
      .stratumCloseByWatermark 0, .stratumCloseByHorizon 0, .stratumEmit 0, .stratumEviction 0 b,
      .queueCell 0 p b [], .queueEndOfItem 0 p b, .queuePop 0 b, .heldPopComplete 0, .flush 0 0 w,
      .queueDisable 0 0 w, .pointerMismatch 0, .notifyRead 0 0 0 0, .tokenRefill 0, .progCommit 0 0 w,
      .programApply 0, .softInput 0 0 w, .broadcastReceived 0 l, .freezeComplete 0, .readoutStart 0, .readoutEnd 0,
      .drivePresenceChange 0, .driveInserted 0 od, .storeLinkDown 0, .driveFailed 0 df, .stripeCommitExpiry 0,
      .lktCompact 0 w, .format 0 w, .adopt 0 0 w, .rebuildStripe 0, .replayStart 0 0 w, .replayFrame 0] : List Instr).all Instr.wf = true := rfl

/-- The same commands with their operands in range are accepted (part 3). -/
theorem test_wf_accepts_3 (w : Word) (b : Bool) (l : List Byte) (st : RxStatus) (na : NetAddr) :
    ([
      .replayAbort 0 0 w, .windowRelease 0 0 w, .portEnable 0 0 w, .frameTransmit 0 b, .frameReceived 0 l st,
      .pfcReceived 0 [(7, 65535)], .pauseExpiry 0 0, .pauseWatchdogExpiry 0 0, .stormClearExpiry 0 0, .pfcSend 0 0 0,
      .preemptVerify 0 b, .endpointCommit 0 0 0 w, .endpointCommitApply 0 0, .ackReceived 0 na l,
      .retransmitTimeout 0 0, .retentionExpiry 0 0, .linkDown 0 b, .linkHoldExpiry 0, .linkUp 0,
      .spillNoticeSend 0 0, .launchTimeReached 0 0, .progressIdleExpiry 0, .checkpointTimer 0, .checkpointSeal 0,
      .keyFault 0, .ownerPackage 0 w b, .ptpSyncRx 0 l 0, .ptpFollowUpRx 0 l 0, .ptpDelayReqRx 0 l 0,
      .ptpDelayRespRx 0 l 0, .ptpAnnounceRx 0 l 0, .ptpSignalingRx 0 l 0, .syncSend 0 0 0, .delayReqSend 0 0 0,
      .announceSend 0 0, .esmcSend 0] : List Instr).all Instr.wf = true := rfl

/-- The same commands with their operands in range are accepted (part 4). -/
theorem test_wf_accepts_4 (w : Word) (l : List Byte) (tc : TripCause) (cv : Conversion) (cf : CanFrame) :
    ([
      .esmcReceived 0 l, .timSetCommit 0 0 w, .timSetApply 0, .reacquire 0 w, .forceD1 0 w, .calibrationStart 0 w,
      .pulseArm 0 0 w, .pulseFire 0, .pulseCancel 0 0 w, .ppsOutput 0, .foutCommit 0 0 w, .foutApply 0, .tempStale 0,
      .edgeStart 0 0, .edgeStop 0 0, .measurementResult 0, .intervalOverflow 0, .edgArm 0 0 w, .edgDisarm 0 0 w,
      .outArm 0 0 w, .edgeOutputLaunch 0, .ringCalibration 0, .edgCfgWrite 0 0 w, .envConversionDone 0 cv 0,
      .ilkTrip 0 tc, .ilkRetry 0, .ilkClear 0 0 w, .ilkCfgWrite 0 0 w, .utlFunctionChange 0 0 w, .utlGuardEnd 0,
      .utlTrip 0 tc, .utlClear 0 0 w, .externalTriggerEdge 0 0, .fbusEnable 0 0 w, .fbusIntegrated 0,
      .fbusFrameReceived 0 cf 0] : List Instr).all Instr.wf = true := rfl

/-- The same commands with their operands in range are accepted (part 5). -/
theorem test_wf_accepts_5 (w : Word) (run : StartRun) (b : Bool) (l : List Byte) (co : CanOutcome) (ce : CanError) (ab : AbdFound) :
    ([
      .fbusRequest 0 0 0 w, .fbusAbort 0 0 0 w, .fbusAttemptEnd 0 co, .fbusBusError 0 b ce, .fbusRecover 0 0 w,
      .fbusRecoveryDone 0, .fbusModeChange 0, .abdStart 0 0 w, .abdDone 0 ab, .watchPoll 0, .tenantReset 0 0 w,
      .tenantResetDrained 0, .sentinelStall 0 0 0 run, .duplicateToken 0 0 0 run, .isolationRelease 0 0 w,
      .supervisorMismatch 0, .heartbeatReceived 0 l, .suspectTimeout 0, .resetWordReceived 0 l run, .deadTimeout 0,
      .fenceNoticeReceived 0 l, .readmit 0 w run, .exchangeOffer 0 l, .exchangeAccept 0 l, .exchangeAssign 0 l,
      .offerRepeat 0, .exchangeRetry 0, .wakeFrameRepeat 0, .wakeSend 0 w, .paceMeasurement (List.replicate 16 0),
      .paceLowClear 0 w, .snapRead 0 0, .registerWrite 0 0 8 w run, .thermalRetryThreshold 0] : List Instr).all Instr.wf = true := rfl


theorem witness_SupplyAndEmberEvents :
    (∃ s : State, (s.keep.ember.vaon = false)) ∧
    (∃ s : State, (s.keep.ember.vaon = true)) ∧
    (∃ s : State, ∃ rail : Nat, (rail < 6) ∧ (s.ember = embActive ∨ s.ember = embWaking) ∧ (s.keep.ember.vaon = true)) ∧
    (∃ s : State, ∃ rail : Nat, (rail < 6) ∧ (s.ember ≠ embActive) ∧ (s.ember ≠ embWaking)) ∧
    (∃ rail : Nat, (6 ≤ rail)) ∧
    (∃ s : State, ∃ rail : Nat, (rail < 7) ∧ ((s.get F.PWR_STATUS_RAIL_OK).testBit rail = true)) ∧
    (∃ s : State, ∃ rail : Nat, (7 ≤ rail ∨ (s.get F.PWR_STATUS_RAIL_OK).testBit rail = false)) ∧
    (∃ s : State, (s.ember = embEntering)) ∧
    (∃ s : State, (s.ember ≠ embEntering)) ∧
    (∃ s : State, (s.ember = embEntering) ∧ (s.get F.PWR_STATUS_RAIL_OK % 64 ≠ 0) ∧ (s.keep.ember.lowAt + 5 * tickS ≤ s.keep.elapsed)) ∧
    (∃ s : State, (s.ember ≠ embEntering ∨ s.get F.PWR_STATUS_RAIL_OK % 64 = 0 ∨ s.keep.elapsed < s.keep.ember.lowAt + 5 * tickS)) :=
  ⟨⟨{ State.reset with regs := [(0x00010000, 0x40), (0x00010110, 5)], keep := { ember := ({ vaon := false } : Ember) } }, by decide +kernel⟩,
   ⟨State.reset, by decide +kernel⟩,
   ⟨{ State.reset with regs := [(0x00010000, 0x907F)] }, 5, by decide +kernel⟩,
   ⟨{ State.reset with regs := [(0x00010000, 0x3F), (0x00010108, 1)] }, 0, by decide +kernel⟩,
   ⟨6, by decide +kernel⟩,
   ⟨{ State.reset with regs := [(0x00010000, 0x7F)] }, 6, by decide +kernel⟩,
   ⟨State.reset, 6, by decide +kernel⟩,
   ⟨{ State.reset with regs := [(0x00010000, 0x7F), (0x00010108, 1)], keep := { ember := ({ listening := true } : Ember) } }, by decide +kernel⟩,
   ⟨State.reset, by decide +kernel⟩,
   ⟨{ State.reset with regs := [(0x00010000, 1), (0x00010108, 1)], keep := { elapsed := 5 * tickS } }, by decide +kernel⟩,
   ⟨State.reset, by decide +kernel⟩⟩

set_option maxRecDepth 20000 in
theorem witness_WakeFramesAndSlots :
    (∃ s : State, ∃ train : List (Nat × Nat), (s.keep.ember.vaon = true) ∧ (decodeTrain train = [none])) ∧
    (∃ s : State, ∃ train : List (Nat × Nat), ∃ b : List Byte, ∃ sl : Nat, (s.keep.ember.vaon = true) ∧ (decodeTrain train = [some b]) ∧ (s.ember = embDormant ∨ s.ember = embListening) ∧ (s.mainsValid = false) ∧ (s.keep.ember.wakeWait = false) ∧ (s.win.woke = false) ∧ (sl < 4) ∧ (s.slotMatches false sl b = true)) ∧
    (∃ s : State, ∃ train : List (Nat × Nat), ∃ b : List Byte, ∃ sl : Nat, (s.keep.ember.vaon = true) ∧ (decodeTrain train = [some b]) ∧ (s.ember = embEntering) ∧ (s.keep.ember.stuck = false) ∧ (s.win.woke = false) ∧ (sl < 4) ∧ (s.slotMatches false sl b = true)) ∧
    (∃ s : State, ∃ train : List (Nat × Nat), ∃ b : List Byte, ∃ sl : Nat, (s.keep.ember.vaon = true) ∧ (decodeTrain train = [some b]) ∧ (s.ember = embEntering) ∧ (s.keep.ember.stuck = true) ∧ (s.mainsValid = true) ∧ (s.keep.ember.held = false) ∧ (s.keep.ember.rstLow = false) ∧ (s.win.woke = false) ∧ (sl < 4) ∧ (s.slotMatches false sl b = true)) ∧
    (∃ s : State, ∃ train : List (Nat × Nat), ∃ b : List Byte, (s.keep.ember.vaon = true) ∧ (decodeTrain train = [some b]) ∧ (s.matching false b = [])) ∧
    (∃ s : State, (s.keep.ember.vaon = false)) ∧
    (∃ s : State, (s.keep.ember.vaon = true)) ∧
    (∃ s : State, (s.keep.ember.vaon = false)) ∧
    (∃ s : State, ∃ frame : List Byte, ∃ sl : Nat, (s.keep.ember.vaon = true) ∧ (s.ember = embListening) ∧ (s.mainsValid = false) ∧ (s.keep.ember.wakeWait = false) ∧ (s.win.woke = false) ∧ (46 ≤ frame.length) ∧ (sl < 4) ∧ (s.slotMatches true sl ((frame.drop 14).take 32) = true)) ∧
    (∃ s : State, (s.keep.ember.vaon = true) ∧ (s.ember = embListening)) ∧
    (∃ s : State, ∃ frame : List Byte, ∃ ok : Bool, (s.keep.ember.vaon = false ∨ s.ember = embDormant ∨ (ok = false ∧ s.ember ≠ embListening) ∨ (ok = true ∧ frame.length < 46))) ∧
    (∃ s : State, (s.keep.ember.wakeWait = true) ∧ (s.ember = embDormant ∨ s.ember = embListening) ∧ (s.keep.ember.offAt + 10 * tickMs ≤ s.keep.elapsed)) ∧
    (∃ s : State, (s.keep.ember.wakeWait = false ∨ s.keep.elapsed < s.keep.ember.offAt + 10 * tickMs)) ∧
    (∃ s : State, ∃ w : Nat, ∃ v : Word, (s.hasRight w F.EMB_CTRL_SLOT_COMMIT.addr = true) ∧ (getBits v 0 0 = 1) ∧ (s.get F.EMB_STATUS_COMMIT_PENDING = 0) ∧ (s.pending = []) ∧ (s.get F.IMG_VOLATILE_WRITES_COUNT + 1 < 2 ^ 47)) ∧
    (∃ s : State, ∃ w : Nat, ∃ v : Word, (s.hasRight w F.EMB_CTRL_SLOT_COMMIT.addr = false ∨ getBits v 0 0 = 0 ∨ (s.get F.EMB_STATUS_COMMIT_PENDING ≠ 0 ∧ s.pending = [])) ∧ (s.get F.IMG_VOLATILE_WRITES_COUNT + 1 < 2 ^ 47)) ∧
    (∃ s : State, ∃ w : Nat, ∃ v : Word, ∃ sl : Nat, (s.hasRight w F.EMB_CTRL_SLOT_COMMIT.addr = true) ∧ (getBits v 0 0 = 1) ∧ (s.get F.EMB_STATUS_COMMIT_PENDING ≠ 0) ∧ (s.pending = [.slotCommitApply]) ∧ (s.win.marks = []) ∧ (sl < 4)) ∧
    (∃ s : State, ∃ sl : Nat, (s.get F.EMB_STATUS_COMMIT_PENDING ≠ 0) ∧ (s.win.marks = []) ∧ (sl < 4)) ∧
    (∃ s : State, (s.get F.EMB_STATUS_COMMIT_PENDING = 0 ∨ s.win.marks.contains (10, 0) = true)) ∧
    (∃ s : State, (s.up = true) ∧ (s.units.sup.voteFailed = false)) ∧
    (∃ s : State, (s.up = false ∨ s.units.sup.voteFailed = true)) :=
  ⟨⟨State.reset, (List.replicate 8 (5000, 5000)), by decide +kernel⟩,
   ⟨{ State.reset with regs := [(0x00010108, 2)], force := [(0x00010220, 0x100000000 + 0x527D5351), (0x00010228, 1)] }, (List.replicate 8 (5000, 5000) ++ [(20000, 5000)] ++ List.replicate 255 (5000, 5000) ++ [(10000, 5000)]), (List.replicate 31 0 ++ [1]), 0, by decide +kernel⟩,
   ⟨{ State.reset with regs := [(0x00010108, 1)], force := [(0x00010220, 0x100000000 + 0x527D5351), (0x00010228, 1)] }, (List.replicate 8 (5000, 5000) ++ [(20000, 5000)] ++ List.replicate 255 (5000, 5000) ++ [(10000, 5000)]), (List.replicate 31 0 ++ [1]), 0, by decide +kernel⟩,
   ⟨{ State.reset with regs := [(0x00010000, 0x3F), (0x00010108, 1)], force := [(0x00010220, 0x100000000 + 0x527D5351), (0x00010228, 1)], keep := { ember := ({ stuck := true } : Ember) } }, (List.replicate 8 (5000, 5000) ++ [(20000, 5000)] ++ List.replicate 255 (5000, 5000) ++ [(10000, 5000)]), (List.replicate 31 0 ++ [1]), 0, by decide +kernel⟩,
   ⟨State.reset, (List.replicate 8 (5000, 5000) ++ [(20000, 5000)] ++ List.replicate 255 (5000, 5000) ++ [(10000, 5000)]), (List.replicate 31 0 ++ [1]), by decide +kernel⟩,
   ⟨{ State.reset with keep := { ember := ({ vaon := false } : Ember) } }, by decide +kernel⟩,
   ⟨State.reset, by decide +kernel⟩,
   ⟨{ State.reset with keep := { ember := ({ vaon := false } : Ember) } }, by decide +kernel⟩,
   ⟨{ State.reset with regs := [(0x00010108, 3)], force := [(0x000102E0, 0x100000000 + 0x527D5351), (0x000102E8, 2)] }, List.replicate 46 0, 3, by decide +kernel⟩,
   ⟨{ State.reset with regs := [(0x00010108, 3)] }, by decide +kernel⟩,
   ⟨State.reset, List.replicate 45 0, true, by decide +kernel⟩,
   ⟨{ State.reset with regs := [(0x00010108, 2)], keep := { elapsed := 10 * tickMs, ember := ({ wakeWait := true, pwrOn := Drive.low } : Ember) } }, by decide +kernel⟩,
   ⟨State.reset, by decide +kernel⟩,
   ⟨State.reset, 0, 1, by decide +kernel⟩,
   ⟨State.reset, 31, 1, by decide +kernel⟩,
   ⟨{ State.reset with regs := [(0x00010108, 0x100), (0x000102C0, 7), (0x000102E0, 9)], pending := [.slotCommitApply] }, 0, 1, 3, by decide +kernel⟩,
   ⟨{ State.reset with regs := [(0x00010108, 0x100), (0x000102C0, 7), (0x000102E0, 9)] }, 3, by decide +kernel⟩,
   ⟨State.reset, by decide +kernel⟩,
   ⟨{ State.reset with regs := [(0x00010000, 0x9000)] }, by decide +kernel⟩,
   ⟨State.reset, by decide +kernel⟩⟩

theorem witness_StartSequences :
    (∃ s : State, (s.keep.ember.vaon = true) ∧ (s.keep.ember.rstLow = false) ∧ (s.keep.ember.held = false) ∧ (s.keep.ember.starting = false) ∧ (s.up = false) ∧ (s.ember = embActive ∨ s.ember = embWaking)) ∧
    (∃ s : State, ∃ run : StartRun, (s.keep.ember.vaon = true) ∧ (s.keep.ember.rstLow = false) ∧ (s.keep.ember.held = false) ∧ (s.keep.ember.starting = false) ∧ (s.up = false) ∧ (s.ember = embActive ∨ s.ember = embWaking) ∧ (run.micros ≤ 1000000) ∧ (s.marked 0 0 = false) ∧ (s.marked 1 0 = false)) ∧
    (∃ s : State, (s.keep.ember.vaon = false ∨ s.up = true ∨ s.keep.ember.starting = true)) ∧
    (∃ s : State, (s.keep.ember.vaon = true) ∧ (s.up = false) ∧ (s.keep.ember.starting = false) ∧ (s.keep.ember.rstLow = true ∨ s.keep.ember.held = true ∨ (s.ember ≠ embActive ∧ s.ember ≠ embWaking))) ∧
    (∃ s : State, (s.keep.ember.starting = true) ∧ (2 ≤ s.keep.ember.fails)) ∧
    (∃ s : State, (s.keep.ember.starting = true) ∧ (s.keep.ember.fails < 2) ∧ (s.coreMayStart = true)) ∧
    (∃ s : State, (s.keep.ember.starting = false)) ∧
    (∃ s : State, ∃ n : Nat, (s.keep.ember.vaon = true) ∧ (1000 ≤ n)) ∧
    (∃ s : State, ∃ n : Nat, (s.keep.ember.vaon = true) ∧ (200 ≤ n) ∧ (n < 1000)) ∧
    (∃ s : State, ∃ n : Nat, (s.keep.ember.vaon = false ∨ n < 200)) ∧
    (∃ s : State, (s.keep.ember.rstLow = true) ∧ (s.up = false) ∧ (s.keep.ember.vaon = true) ∧ (s.keep.ember.held = false) ∧ (s.mainsValid = true) ∧ (s.ember = embActive ∨ s.ember = embWaking) ∧ (s.keep.ember.watchdog = none)) ∧
    (∃ s : State, (s.keep.ember.rstLow = true) ∧ (s.up = true ∨ s.keep.ember.vaon = false ∨ s.keep.ember.held = true ∨ s.mainsValid = false ∨ (s.ember ≠ embActive ∧ s.ember ≠ embWaking))) ∧
    (∃ s : State, (s.keep.ember.rstLow = false)) :=
  ⟨⟨State.reset, by decide +kernel⟩,
   ⟨State.reset, ({ micros := 150000 } : StartRun), by decide +kernel⟩,
   ⟨{ State.reset with keep := { ember := ({ vaon := false } : Ember) } }, by decide +kernel⟩,
   ⟨{ State.reset with keep := { ember := ({ held := true } : Ember) } }, by decide +kernel⟩,
   ⟨{ State.reset with keep := { ember := ({ starting := true, fails := 2 } : Ember) } }, by decide +kernel⟩,
   ⟨{ State.reset with regs := [(0x00010000, 0x3F)], keep := { ember := ({ starting := true, fails := 1 } : Ember) } }, by decide +kernel⟩,
   ⟨State.reset, by decide +kernel⟩,
   ⟨State.reset, 1000, by decide +kernel⟩,
   ⟨State.reset, 999, by decide +kernel⟩,
   ⟨State.reset, 199, by decide +kernel⟩,
   ⟨{ State.reset with regs := [(0x00010000, 0x3F)], keep := { ember := ({ rstLow := true } : Ember) } }, by decide +kernel⟩,
   ⟨{ State.reset with keep := { ember := ({ rstLow := true } : Ember) } }, by decide +kernel⟩,
   ⟨State.reset, by decide +kernel⟩⟩

theorem witness_DeviceFullAndWatchdogResets :
    (∃ s : State, ∃ v : Word, (s.up = true) ∧ (getBits v 31 16 = 0xA5C3) ∧ (getBits v 1 0 = 1)) ∧
    (∃ s : State, ∃ w : Nat, ∃ v : Word, (s.up = false ∨ w ≠ 0 ∨ getBits v 31 16 ≠ 0xA5C3 ∨ getBits v 1 0 ≠ 1) ∧ (s.get F.IMG_VOLATILE_WRITES_COUNT + 1 < 2 ^ 47)) ∧
    (∃ s : State, ∃ v : Word, (s.up = true) ∧ (getBits v 31 16 = 0xA5C3) ∧ (getBits v 1 0 = 2)) ∧
    (∃ s : State, ∃ w : Nat, ∃ v : Word, (s.up = false ∨ w ≠ 0 ∨ getBits v 31 16 ≠ 0xA5C3 ∨ getBits v 1 0 ≠ 2) ∧ (s.get F.IMG_VOLATILE_WRITES_COUNT + 1 < 2 ^ 47)) ∧
    (∃ s : State, ∃ at_ : Nat, (s.keep.ember.watchdog = some at_) ∧ (at_ + 1900 * tickMs ≤ s.keep.elapsed)) ∧
    (∃ s : State, (∀ at_ ∈ s.keep.ember.watchdog, s.keep.elapsed < at_ + 1900 * tickMs)) ∧
    (∃ s : State, ∃ d : Nat, (s.units.imgDeadline = some d) ∧ (s.get F.IMG_STATUS_STATE = 2) ∧ (d ≤ s.keep.elapsed) ∧ (s.pending = [])) ∧
    (∃ s : State, ((∀ d ∈ s.units.imgDeadline, s.keep.elapsed < d) ∨ s.get F.IMG_STATUS_STATE ≠ 2 ∨ (∃ c ∈ s.pending, c = .imgConfirm 0 0xA5C30001))) ∧
    (∃ s : State, ∃ v : Word, (s.up = true) ∧ (getBits v 0 0 = 1) ∧ (getBits v 31 16 = 0xA5C3) ∧ (s.get F.IMG_VOLATILE_WRITES_COUNT + 1 < 2 ^ 47)) ∧
    (∃ s : State, ∃ v : Word, (s.up = true) ∧ (getBits v 0 0 = 1) ∧ (getBits v 31 16 ≠ 0xA5C3)) ∧
    (∃ s : State, ∃ w : Nat, ∃ v : Word, (s.up = true) ∧ (w ≠ 0) ∧ (s.hasRight w F.PWR_CTRL_START.addr = true) ∧ (getBits v 0 0 = 1)) ∧
    (∃ s : State, ∃ w : Nat, ∃ v : Word, (s.up = true) ∧ (s.hasRight w F.PWR_CTRL_START.addr = true) ∧ (getBits v 0 0 = 0)) ∧
    (∃ s : State, ∃ w : Nat, (s.up = false ∨ s.hasRight w F.PWR_CTRL_START.addr = false) ∧ (s.get F.IMG_VOLATILE_WRITES_COUNT + 1 < 2 ^ 47)) ∧
    (∃ s : State, (s.up = true) ∧ (s.get F.SUP_ROLE_STATUS_KIND = 2) ∧ (s.get F.SUP_ROLE_STATUS_ASSIGN_WAIT = 0) ∧ (s.units.sup.readyAt + tickS ≤ s.keep.elapsed)) ∧
    (∃ s : State, (s.up = true) ∧ (s.get F.SUP_ROLE_STATUS_KIND = 2) ∧ (s.get F.SUP_ROLE_STATUS_ASSIGN_WAIT = 1) ∧ (s.units.sup.readyAt + 10 * tickS ≤ s.keep.elapsed) ∧ (s.pending = [])) ∧
    (∃ s : State, (s.up = false ∨ s.get F.SUP_ROLE_STATUS_KIND ≠ 2 ∨ (s.get F.SUP_ROLE_STATUS_ASSIGN_WAIT = 1 ∧ s.keep.elapsed < s.units.sup.readyAt + 10 * tickS))) :=
  ⟨⟨{ State.reset with regs := [(0x00010000, 0x90FF), (0x00010110, 4)] }, 0xA5C30001, by decide +kernel⟩,
   ⟨{ State.reset with regs := [(0x00010000, 0x90FF)] }, 0, 0xA5C30003, by decide +kernel⟩,
   ⟨{ State.reset with regs := [(0x00010000, 0x90FF), (0x00010110, 4)] }, 0xA5C30002, by decide +kernel⟩,
   ⟨{ State.reset with regs := [(0x00010000, 0x90FF)] }, 1, 0xA5C30002, by decide +kernel⟩,
   ⟨{ State.reset with regs := [(0x00010000, 0x90FF)], keep := { elapsed := 1900 * tickMs, ember := ({ watchdog := some 0 } : Ember) } }, 0, by decide +kernel⟩,
   ⟨State.reset, by decide +kernel⟩,
   ⟨{ State.reset with regs := [(0x00010000, 0x90FF), (0x00020000, 2)], units := { imgDeadline := some 0 } }, 0, by decide +kernel⟩,
   ⟨{ State.reset with regs := [(0x00020000, 2)], units := { imgDeadline := some 0 }, pending := [.imgConfirm 0 0xA5C30001] }, by decide +kernel⟩,
   ⟨{ State.reset with regs := [(0x00010000, 0x90FF)] }, 0xA5C30011, by decide +kernel⟩,
   ⟨{ State.reset with regs := [(0x00010000, 0x90FF)] }, 0xA5C20011, by decide +kernel⟩,
   ⟨{ State.reset with regs := [(0x00010000, 0x90FF)], units := { tenants := [(1, ({ enabled := true, rights := 0x3FFFF } : Tenant))] } }, 1, 0xA5C30001, by decide +kernel⟩,
   ⟨{ State.reset with regs := [(0x00010000, 0x90FF)] }, 0, 0x10, by decide +kernel⟩,
   ⟨{ State.reset with regs := [(0x00010000, 0x90FF)] }, 1, by decide +kernel⟩,
   ⟨{ State.reset with regs := [(0x00010000, 0x90FF), (F.SUP_ROLE_STATUS_KIND.addr, BitVec.ofNat 64 (2 <<< F.SUP_ROLE_STATUS_KIND.lsb))], keep := { elapsed := tickS } }, by decide +kernel⟩,
   ⟨{ State.reset with regs := [(0x00010000, 0x90FF), (F.SUP_ROLE_STATUS_KIND.addr, BitVec.ofNat 64 ((2 <<< F.SUP_ROLE_STATUS_KIND.lsb) ||| (1 <<< F.SUP_ROLE_STATUS_ASSIGN_WAIT.lsb)))], keep := { elapsed := 10 * tickS } }, by decide +kernel⟩,
   ⟨State.reset, by decide +kernel⟩⟩

theorem witness_ImageEraseMarkAndRetire :
    (∃ s : State, ∃ v : Word, (s.up = true) ∧ (getBits v 3 1 = 1) ∧ (getBits v 0 0 = 1) ∧ (getBits v 31 16 = 0xA5C3) ∧ (s.get F.IMG_WRITE_STATUS_BUSY = 0) ∧ (s.runningSlot ≠ some (getBits v 8 8)) ∧ (s.get F.IMG_VOLATILE_WRITES_COUNT + 1 < 2 ^ 47)) ∧
    (∃ s : State, ∃ w : Nat, ∃ v : Word, (s.up = true) ∧ (getBits v 3 1 = 1) ∧ (getBits v 0 0 = 1) ∧ (w ≠ 0 ∨ getBits v 31 16 ≠ 0xA5C3)) ∧
    (∃ s : State, ∃ v : Word, (s.up = true) ∧ (getBits v 3 1 = 1) ∧ (getBits v 0 0 = 1) ∧ (getBits v 31 16 = 0xA5C3) ∧ (s.get F.IMG_WRITE_STATUS_BUSY = 1)) ∧
    (∃ s : State, ∃ v : Word, (s.up = true) ∧ (getBits v 3 1 = 1) ∧ (getBits v 0 0 = 1) ∧ (getBits v 31 16 = 0xA5C3) ∧ (s.get F.IMG_WRITE_STATUS_BUSY = 0) ∧ (s.runningSlot = some (getBits v 8 8))) ∧
    (∃ s : State, (s.up = false) ∧ (s.get F.IMG_VOLATILE_WRITES_COUNT + 1 < 2 ^ 47)) ∧
    (∃ s : State, ∃ v : Word, (s.up = true) ∧ (getBits v 3 1 = 2) ∧ (getBits v 0 0 = 1) ∧ (getBits v 31 16 = 0xA5C3) ∧ (s.get F.IMG_WRITE_STATUS_BUSY = 0) ∧ (s.runningSlot ≠ some (getBits v 8 8)) ∧ (s.marked (getBits v 8 8) 0 = false ∨ s.marked (getBits v 8 8) 3 = true) ∧ (s.get F.IMG_VOLATILE_WRITES_COUNT + 1 < 2 ^ 47)) ∧
    (∃ s : State, ∃ w : Nat, ∃ v : Word, (s.up = true) ∧ (getBits v 3 1 = 2) ∧ (getBits v 0 0 = 1) ∧ (w ≠ 0 ∨ getBits v 31 16 ≠ 0xA5C3)) ∧
    (∃ s : State, ∃ v : Word, (s.up = true) ∧ (getBits v 3 1 = 2) ∧ (getBits v 0 0 = 1) ∧ (getBits v 31 16 = 0xA5C3) ∧ (s.get F.IMG_WRITE_STATUS_BUSY = 1)) ∧
    (∃ s : State, ∃ v : Word, (s.up = true) ∧ (getBits v 3 1 = 2) ∧ (getBits v 0 0 = 1) ∧ (getBits v 31 16 = 0xA5C3) ∧ (s.get F.IMG_WRITE_STATUS_BUSY = 0) ∧ (s.runningSlot = some (getBits v 8 8))) ∧
    (∃ s : State, ∃ v : Word, (s.up = true) ∧ (getBits v 3 1 = 2) ∧ (getBits v 0 0 = 1) ∧ (getBits v 31 16 = 0xA5C3) ∧ (s.get F.IMG_WRITE_STATUS_BUSY = 0) ∧ (s.marked (getBits v 8 8) 0 = true) ∧ (s.marked (getBits v 8 8) 3 = false)) ∧
    (∃ s : State, (s.up = false) ∧ (s.get F.IMG_VOLATILE_WRITES_COUNT + 1 < 2 ^ 47)) ∧
    (∃ s : State, ∃ v : Word, (s.up = true) ∧ (getBits v 3 1 = 3) ∧ (getBits v 0 0 = 1) ∧ (getBits v 31 16 = 0xA5C3) ∧ (s.get F.IMG_WRITE_STATUS_BUSY = 0) ∧ (s.runningSlot ≠ some (getBits v 8 8)) ∧ (s.get F.IMG_VOLATILE_WRITES_COUNT + 1 < 2 ^ 47)) ∧
    (∃ s : State, ∃ w : Nat, ∃ v : Word, (s.up = true) ∧ (getBits v 3 1 = 3) ∧ (getBits v 0 0 = 1) ∧ (w ≠ 0 ∨ getBits v 31 16 ≠ 0xA5C3)) ∧
    (∃ s : State, ∃ v : Word, (s.up = true) ∧ (getBits v 3 1 = 3) ∧ (getBits v 0 0 = 1) ∧ (getBits v 31 16 = 0xA5C3) ∧ (s.get F.IMG_WRITE_STATUS_BUSY = 1)) ∧
    (∃ s : State, ∃ v : Word, (s.up = true) ∧ (getBits v 3 1 = 3) ∧ (getBits v 0 0 = 1) ∧ (getBits v 31 16 = 0xA5C3) ∧ (s.get F.IMG_WRITE_STATUS_BUSY = 0) ∧ (s.runningSlot = some (getBits v 8 8))) ∧
    (∃ s : State, (s.up = false) ∧ (s.get F.IMG_VOLATILE_WRITES_COUNT + 1 < 2 ^ 47)) :=
  ⟨⟨{ State.reset with regs := [(0x00010000, 0x90FF)] }, 0xa5c30103, by decide +kernel⟩,
   ⟨{ State.reset with regs := [(0x00010000, 0x90FF)] }, 1, 0xa5c30003, by decide +kernel⟩,
   ⟨{ State.reset with regs := [(0x00010000, 0x90FF), (0x00020044, 0x40000000)] }, 0xa5c30003, by decide +kernel⟩,
   ⟨{ State.reset with regs := [(0x00010000, 0x90FF), (0x00020000, 0x11)] }, 0xa5c30103, by decide +kernel⟩,
   ⟨State.reset, by decide +kernel⟩,
   ⟨{ State.reset with regs := [(0x00010000, 0x90FF)] }, 0xa5c30105, by decide +kernel⟩,
   ⟨{ State.reset with regs := [(0x00010000, 0x90FF)] }, 1, 0xa5c30005, by decide +kernel⟩,
   ⟨{ State.reset with regs := [(0x00010000, 0x90FF), (0x00020044, 0x40000000)] }, 0xa5c30005, by decide +kernel⟩,
   ⟨{ State.reset with regs := [(0x00010000, 0x90FF), (0x00020000, 0x11)] }, 0xa5c30105, by decide +kernel⟩,
   ⟨{ State.reset with regs := [(0x00010000, 0x90FF)], flash := [(stateWord 1 0, 0), (stateWord 1 0 + 1, 0), (stateWord 1 0 + 2, 0), (stateWord 1 0 + 3, 0)] }, 0xa5c30105, by decide +kernel⟩,
   ⟨State.reset, by decide +kernel⟩,
   ⟨{ State.reset with regs := [(0x00010000, 0x90FF)] }, 0xa5c30107, by decide +kernel⟩,
   ⟨{ State.reset with regs := [(0x00010000, 0x90FF)] }, 1, 0xa5c30007, by decide +kernel⟩,
   ⟨{ State.reset with regs := [(0x00010000, 0x90FF), (0x00020044, 0x40000000)] }, 0xa5c30007, by decide +kernel⟩,
   ⟨{ State.reset with regs := [(0x00010000, 0x90FF), (0x00020000, 0x11)] }, 0xa5c30107, by decide +kernel⟩,
   ⟨State.reset, by decide +kernel⟩⟩

set_option maxRecDepth 20000 in
theorem witness_ImagePagesAndCompletion :
    (∃ s : State, ∃ data : List Byte, (s.up = true) ∧ (s.get F.IMG_WRITE_STATUS_BUSY = 0) ∧ (data.length = 256) ∧ (s.runningSlot ≠ some (s.get F.IMG_WRITE_CMD_SLOT)) ∧ (s.slotErased (s.get F.IMG_WRITE_CMD_SLOT) = true)) ∧
    (∃ s : State, ∃ w : Nat, ∃ o : Nat, ∃ data : List Byte, (s.up = true) ∧ (w ≠ 0 ∨ s.get F.IMG_WRITE_STATUS_BUSY = 1 ∨ o ≠ 0 ∨ data.length ≠ 256 ∨ s.runningSlot = some (s.get F.IMG_WRITE_CMD_SLOT) ∨ s.slotErased (s.get F.IMG_WRITE_CMD_SLOT) = false)) ∧
    (∃ s : State, (s.up = false)) ∧
    (∃ s : State, ∃ slot : Nat, ∃ off : Nat, ∃ data : List Byte, (s.units.imgOp = some (.page slot off data))) ∧
    (∃ s : State, ∃ slot : Nat, (s.units.imgOp = some (.erase slot))) ∧
    (∃ s : State, ∃ slot : Nat, (s.units.imgOp = some (.mark slot))) ∧
    (∃ s : State, ∃ slot : Nat, (s.units.imgOp = some (.retire slot))) ∧
    (∃ s : State, ∃ op : ImgOp, (s.units.imgOp = some op)) ∧
    (∃ s : State, (s.units.imgOp = none)) ∧
    (∃ s : State, ∃ v : Word, (s.up = true) ∧ (getBits v 0 0 = 1) ∧ (getBits v 31 16 = 0xA5C3) ∧ (s.get F.IMG_STATUS_STATE = 2)) ∧
    (∃ s : State, ∃ w : Nat, ∃ v : Word, (s.up = false ∨ w ≠ 0 ∨ getBits v 0 0 = 0 ∨ getBits v 31 16 ≠ 0xA5C3 ∨ s.get F.IMG_STATUS_STATE ≠ 2) ∧ (s.get F.IMG_VOLATILE_WRITES_COUNT + 1 < 2 ^ 47)) :=
  ⟨⟨{ State.reset with regs := [(0x00010000, 0x90FF)] }, List.replicate 256 0x5A, by decide +kernel⟩,
   ⟨{ State.reset with regs := [(0x00010000, 0x90FF)] }, 0, 0, List.replicate 255 0, by decide +kernel⟩,
   ⟨State.reset, by decide +kernel⟩,
   ⟨{ State.reset with regs := [(0x00010000, 0x90FF)], units := { imgOp := some (.page 1 0x200 [0x0F, 0xF0]) } }, 1, 0x200, [0x0F, 0xF0], by decide +kernel⟩,
   ⟨{ State.reset with regs := [(0x00010000, 0x90FF)], units := { imgOp := some (.erase 1) }, flash := [(0x04000001, 3), (0x0800100C, 0)] }, 1, by decide +kernel⟩,
   ⟨{ State.reset with regs := [(0x00010000, 0x90FF)], units := { imgOp := some (.mark 1) }, flash := [(0x04000001, 3), (0x0800100C, 0)] }, 1, by decide +kernel⟩,
   ⟨{ State.reset with regs := [(0x00010000, 0x90FF)], units := { imgOp := some (.retire 0) } }, 0, by decide +kernel⟩,
   ⟨{ State.reset with regs := [(0x00010000, 0x90FF)], units := { imgOp := some (.retire 0) } }, .retire 0, by decide +kernel⟩,
   ⟨State.reset, by decide +kernel⟩,
   ⟨{ State.reset with regs := [(0x00010000, 0x90FF), (0x00020000, 2)], keep := { raises := 63 }, units := { imgRaise := some 7 } }, 0xA5C30001, by decide +kernel⟩,
   ⟨{ State.reset with regs := [(0x00010000, 0x90FF)] }, 0, 0xA5C30001, by decide +kernel⟩⟩

set_option maxRecDepth 20000 in
theorem witness_UplinkDataFrames :
    (∃ s : State, ∃ l : Nat, ∃ rx : LaneRx, (s.frameTaken l rx 1 = true) ∧ (s.laneState l = 6) ∧ (bit (num rx.bytes 1 1) 7 = true) ∧ (classify (s.get (F.TLK_SEQ_CUM l)) (s.lane l).bitmap (num rx.bytes 2 2) = .accept)) ∧
    (∃ s : State, ∃ l : Nat, ∃ rx : LaneRx, (s.frameTaken l rx 1 = true) ∧ (s.laneState l = 6) ∧ (bit (num rx.bytes 1 1) 7 = true) ∧ (s.has 0 = false) ∧ ((s.lane l).pending = []) ∧ (classify (s.get (F.TLK_SEQ_CUM l)) (s.lane l).bitmap (num rx.bytes 2 2) = .accept)) ∧
    (∃ s : State, ∃ l : Nat, ∃ rx : LaneRx, (s.frameTaken l rx 1 = true) ∧ (s.laneState l = 6) ∧ (bit (num rx.bytes 1 1) 7 = true) ∧ (classify (s.get (F.TLK_SEQ_CUM l)) (s.lane l).bitmap (num rx.bytes 2 2) ≠ .accept)) ∧
    (∃ s : State, ∃ l : Nat, ∃ rx : LaneRx, (s.frameTaken l rx 1 = true) ∧ (s.laneState l = 6) ∧ (bit (num rx.bytes 1 1) 7 = false) ∧ (s.fenced = false) ∧ (s.pending = [])) ∧
    (∃ s : State, ∃ l : Nat, ∃ rx : LaneRx, (s.frameTaken l rx 1 = true) ∧ (s.laneState l < 6)) ∧
    (∃ s : State, ∃ l : Nat, ∃ rx : LaneRx, (s.frameTaken l rx 1 = true) ∧ (s.laneState l = 7)) ∧
    (∃ s : State, ∃ l : Nat, ∃ rx : LaneRx, (s.laneListens l = true) ∧ (frameSound rx = false)) ∧
    (∃ s : State, ∃ l : Nat, ∃ rx : LaneRx, (s.laneListens l = true) ∧ (frameSound rx = true) ∧ (frameOk rx.bytes = false)) ∧
    (∃ s : State, ∃ l : Nat, (s.laneListens l = false)) :=
  ⟨⟨{ State.reset with regs := [(0x01000010, 0x60000000), (0x01000018, 0xFFFF0000)], units := { lanes := [(0, ({ locked := true } : LaneUnit))] } }, 0, ((fun b : List Byte => ({ bytes := b ++ be 4 (crc32c b) } : LaneRx)) [0x11, 0x80, 0, 0, 0, 2, 0, 0, 0x21, 2, 0, 0, 0, 0, 0, 0, 0, 0, 0, 0, 0, 0, 0, 0]), by decide +kernel⟩,
   ⟨{ State.reset with regs := [(0x01000010, 0x60000000), (0x01000018, 0xFFFF0000)], units := { lanes := [(0, ({ locked := true } : LaneUnit))] }, part := .iav4010 }, 0, ((fun b : List Byte => ({ bytes := b ++ be 4 (crc32c b) } : LaneRx)) [0x11, 0x80, 0, 0, 0, 2, 0, 0, 0x21, 2, 0, 0, 0, 0, 0, 0, 0, 0, 0, 0, 0, 0, 0, 0]), by decide +kernel⟩,
   ⟨{ State.reset with regs := [(0x01000010, 0x60000000), (0x01000018, 0x00050000)], units := { lanes := [(0, ({ locked := true } : LaneUnit))] } }, 0, ((fun b : List Byte => ({ bytes := b ++ be 4 (crc32c b) } : LaneRx)) [0x11, 0x80, 0, 5, 0, 2, 0, 0, 0x21, 2, 0, 0, 0, 0, 0, 0, 0, 0, 0, 0, 0, 0, 0, 0]), by decide +kernel⟩,
   ⟨{ State.reset with regs := [(0x01000010, 0x60000000)], units := { lanes := [(0, ({ locked := true } : LaneUnit))] } }, 0, ((fun b : List Byte => ({ bytes := b ++ be 4 (crc32c b) } : LaneRx)) [0x11, 0x00, 0, 0, 0, 2, 0, 0, 0x21, 2, 0, 0, 0, 0, 0, 0, 0, 0, 0, 0, 0, 0, 0, 0]), by decide +kernel⟩,
   ⟨{ State.reset with regs := [(0x01000010, 0x50000000)], units := { lanes := [(0, ({ locked := true } : LaneUnit))] } }, 0, ((fun b : List Byte => ({ bytes := b ++ be 4 (crc32c b) } : LaneRx)) [0x11, 0x80, 0, 0, 0, 2, 0, 0, 0x21, 2, 0, 0, 0, 0, 0, 0, 0, 0, 0, 0, 0, 0, 0, 0]), by decide +kernel⟩,
   ⟨{ State.reset with regs := [(0x01000010, 0x70000000)], units := { lanes := [(0, ({ locked := true } : LaneUnit))] } }, 0, ((fun b : List Byte => ({ bytes := b ++ be 4 (crc32c b) } : LaneRx)) [0x11, 0x80, 0, 0, 0, 2, 0, 0, 0x21, 2, 0, 0, 0, 0, 0, 0, 0, 0, 0, 0, 0, 0, 0, 0]), by decide +kernel⟩,
   ⟨{ State.reset with regs := [(0x01000010, 0x60000000)], units := { lanes := [(0, ({ locked := true } : LaneUnit))] } }, 0, ({ bytes := [1, 2] } : LaneRx), by decide +kernel⟩,
   ⟨{ State.reset with regs := [(0x01000010, 0x60000000)], units := { lanes := [(0, ({ locked := true } : LaneUnit))] } }, 0, ((fun b : List Byte => ({ bytes := b ++ be 4 (crc32c b) } : LaneRx)) [0x71, 0, 0, 0, 0, 0, 0, 0]), by decide +kernel⟩,
   ⟨{ State.reset with regs := [(0x01000010, 0x10000000)], units := { lanes := [(0, ({ locked := true } : LaneUnit))] } }, 0, by decide +kernel⟩⟩

set_option maxRecDepth 20000 in
theorem witness_HeartbeatRosterAndReplyFrames :
    (∃ s : State, ∃ l : Nat, ∃ rx : LaneRx, (s.frameTaken l rx 2 = true) ∧ (s.laneState l = 6) ∧ (bit (num rx.bytes 1 1) 7 = true) ∧ ((s.lane l).pending = []) ∧ ((s.get (F.TLK_SEQ_CUM l) + 65536 - num rx.bytes 2 2) % 65536 < 32768)) ∧
    (∃ s : State, ∃ l : Nat, ∃ rx : LaneRx, (s.frameTaken l rx 2 = true) ∧ (s.laneState l = 6) ∧ (bit (num rx.bytes 1 1) 7 = true) ∧ ((s.lane l).pending = []) ∧ (32768 ≤ (s.get (F.TLK_SEQ_CUM l) + 65536 - num rx.bytes 2 2) % 65536)) ∧
    (∃ s : State, ∃ l : Nat, ∃ rx : LaneRx, (s.frameTaken l rx 2 = true) ∧ (s.laneState l < 6) ∧ ((s.lane l).pending.length < 4)) ∧
    (∃ s : State, ∃ l : Nat, ∃ rx : LaneRx, (s.frameTaken l rx 2 = true) ∧ (s.laneState l = 7)) ∧
    (∃ s : State, ∃ l : Nat, ∃ rx : LaneRx, (s.frameTaken l rx 3 = true) ∧ (s.laneState l ≠ 5)) ∧
    (∃ s : State, ∃ l : Nat, ∃ rx : LaneRx, ∃ c : LaneCmd, (s.frameTaken l rx 4 = true) ∧ ((s.lane l).own = none) ∧ ((s.lane l).host = some c) ∧ (c.tag = num rx.bytes 3 1)) ∧
    (∃ s : State, ∃ l : Nat, ∃ rx : LaneRx, ∃ c : LaneCmd, (s.frameTaken l rx 4 = true) ∧ (s.laneState l = 5) ∧ ((s.lane l).own = some c) ∧ (c.tag = num rx.bytes 3 1) ∧ (bits (c.words.headD 0) 47 40 = 2) ∧ (s.fenced = false) ∧ (s.pending = []) ∧ ((s.lane l).pending = [])) ∧
    (∃ s : State, ∃ l : Nat, ∃ rx : LaneRx, (s.frameTaken l rx 4 = true) ∧ ((s.lane l).own = none) ∧ ((s.lane l).host = none)) ∧
    (∃ s : State, ∃ l : Nat, ∃ rx : LaneRx, (s.laneListens l = true) ∧ (frameSound rx = false)) ∧
    (∃ s : State, ∃ l : Nat, ∃ rx : LaneRx, (s.laneListens l = true) ∧ (frameSound rx = true) ∧ (frameOk rx.bytes = false)) ∧
    (∃ s : State, ∃ l : Nat, (s.laneListens l = false)) ∧
    (∃ s : State, ∃ l : Nat, ∃ rx : LaneRx, (s.laneListens l = true) ∧ (frameSound rx = false)) ∧
    (∃ s : State, ∃ l : Nat, ∃ rx : LaneRx, (s.laneListens l = true) ∧ (frameSound rx = true) ∧ (frameOk rx.bytes = false)) ∧
    (∃ s : State, ∃ l : Nat, (s.laneListens l = false)) ∧
    (∃ s : State, ∃ l : Nat, ∃ rx : LaneRx, (s.laneListens l = true) ∧ (frameSound rx = false)) ∧
    (∃ s : State, ∃ l : Nat, ∃ rx : LaneRx, (s.laneListens l = true) ∧ (frameSound rx = true) ∧ (frameOk rx.bytes = false)) ∧
    (∃ s : State, ∃ l : Nat, (s.laneListens l = false)) :=
  ⟨⟨{ State.reset with regs := [(0x01000010, 0x60000000), (0x01000018, 0xFFFF0000)], units := { lanes := [(0, ({ locked := true } : LaneUnit))] } }, 0, ((fun b : List Byte => ({ bytes := b ++ be 4 (crc32c b) } : LaneRx)) [0x21, 0x80, 0xFF, 0xFF, 0, 1, 0, 0, 7, 0, 0, 0, 0, 0, 1, 0]), by decide +kernel⟩,
   ⟨{ State.reset with regs := [(0x01000010, 0x60000000), (0x01000018, 0xFFFF0000)], units := { lanes := [(0, ({ locked := true } : LaneUnit))] } }, 0, ((fun b : List Byte => ({ bytes := b ++ be 4 (crc32c b) } : LaneRx)) [0x21, 0x80, 0, 9, 0, 1, 0, 0, 7, 0, 0, 0, 0, 0, 1, 0]), by decide +kernel⟩,
   ⟨{ State.reset with regs := [(0x01000010, 0x30000000)], units := { lanes := [(0, ({ locked := true } : LaneUnit))] } }, 0, ((fun b : List Byte => ({ bytes := b ++ be 4 (crc32c b) } : LaneRx)) [0x21, 0x80, 0xFF, 0xFF, 0, 1, 0, 0, 7, 0, 0, 0, 0, 0, 1, 0]), by decide +kernel⟩,
   ⟨{ State.reset with regs := [(0x01000010, 0x70000000)], units := { lanes := [(0, ({ locked := true } : LaneUnit))] } }, 0, ((fun b : List Byte => ({ bytes := b ++ be 4 (crc32c b) } : LaneRx)) [0x21, 0x80, 0xFF, 0xFF, 0, 1, 0, 0, 7, 0, 0, 0, 0, 0, 1, 0]), by decide +kernel⟩,
   ⟨{ State.reset with regs := [(0x01000010, 0x60000000)], units := { lanes := [(0, ({ locked := true } : LaneUnit))] } }, 0, ((fun b : List Byte => ({ bytes := b ++ be 4 (crc32c b) } : LaneRx)) [0x31, 0, 0, 1, 0, 2, 0, 0, 7, 0, 0, 3, 0, 0, 0, 0, 1, 2, 3, 4, 5, 6, 7, 8]), by decide +kernel⟩,
   ⟨{ State.reset with regs := [(0x01000010, 0x60000000)], units := { lanes := [(0, ({ locked := true, host := some { words := [0], tag := 1, sentAt := 0 } } : LaneUnit))] } }, 0, ((fun b : List Byte => ({ bytes := b ++ be 4 (crc32c b) } : LaneRx)) [0x41, 0, 0, 1, 0, 1, 0, 0, 3, 0, 0, 0, 0, 0, 0, 0]), ({ words := [0], tag := 1, sentAt := 0 } : LaneCmd), by decide +kernel⟩,
   ⟨{ State.reset with regs := [(0x01000010, 0x50000000)], units := { lanes := [(0, ({ locked := true, own := some { words := [0x20000000000], tag := 1, sentAt := 0 } } : LaneUnit))] } }, 0, ((fun b : List Byte => ({ bytes := b ++ be 4 (crc32c b) } : LaneRx)) [0x41, 0, 0, 1, 0, 1, 0, 0, 0, 0, 0, 0, 0, 0, 0, 0]), ({ words := [0x20000000000], tag := 1, sentAt := 0 } : LaneCmd), by decide +kernel⟩,
   ⟨{ State.reset with regs := [(0x01000010, 0x60000000)], units := { lanes := [(0, ({ locked := true } : LaneUnit))] } }, 0, ((fun b : List Byte => ({ bytes := b ++ be 4 (crc32c b) } : LaneRx)) [0x41, 0, 0, 1, 0, 1, 0, 0, 0, 0, 0, 0, 0, 0, 0, 0]), by decide +kernel⟩,
   ⟨{ State.reset with regs := [(0x01000010, 0x60000000)], units := { lanes := [(0, ({ locked := true } : LaneUnit))] } }, 0, ({ bytes := [1, 2] } : LaneRx), by decide +kernel⟩,
   ⟨{ State.reset with regs := [(0x01000010, 0x60000000)], units := { lanes := [(0, ({ locked := true } : LaneUnit))] } }, 0, ((fun b : List Byte => ({ bytes := b ++ be 4 (crc32c b) } : LaneRx)) [0x71, 0, 0, 0, 0, 0, 0, 0]), by decide +kernel⟩,
   ⟨{ State.reset with regs := [(0x01000010, 0x10000000)], units := { lanes := [(0, ({ locked := true } : LaneUnit))] } }, 0, by decide +kernel⟩,
   ⟨{ State.reset with regs := [(0x01000010, 0x60000000)], units := { lanes := [(0, ({ locked := true } : LaneUnit))] } }, 0, ({ bytes := [1, 2] } : LaneRx), by decide +kernel⟩,
   ⟨{ State.reset with regs := [(0x01000010, 0x60000000)], units := { lanes := [(0, ({ locked := true } : LaneUnit))] } }, 0, ((fun b : List Byte => ({ bytes := b ++ be 4 (crc32c b) } : LaneRx)) [0x71, 0, 0, 0, 0, 0, 0, 0]), by decide +kernel⟩,
   ⟨{ State.reset with regs := [(0x01000010, 0x10000000)], units := { lanes := [(0, ({ locked := true } : LaneUnit))] } }, 0, by decide +kernel⟩,
   ⟨{ State.reset with regs := [(0x01000010, 0x60000000)], units := { lanes := [(0, ({ locked := true } : LaneUnit))] } }, 0, ({ bytes := [1, 2] } : LaneRx), by decide +kernel⟩,
   ⟨{ State.reset with regs := [(0x01000010, 0x60000000)], units := { lanes := [(0, ({ locked := true } : LaneUnit))] } }, 0, ((fun b : List Byte => ({ bytes := b ++ be 4 (crc32c b) } : LaneRx)) [0x71, 0, 0, 0, 0, 0, 0, 0]), by decide +kernel⟩,
   ⟨{ State.reset with regs := [(0x01000010, 0x10000000)], units := { lanes := [(0, ({ locked := true } : LaneUnit))] } }, 0, by decide +kernel⟩⟩

set_option maxRecDepth 20000 in
theorem witness_EchoesMarkersAndHandovers :
    (∃ s : State, ∃ l : Nat, ∃ mark : Nat, ∃ m : Nat × Nat, ((s.lane l).markers.find? (fun m => m.1 = mark) = some m) ∧ (s.hasLane l = true) ∧ (4 ≤ s.laneState l) ∧ (s.laneState l ≤ 7)) ∧
    (∃ s : State, ∃ l : Nat, ∃ mark : Nat, ((s.lane l).markers.find? (fun m => m.1 = mark) = none ∨ s.hasLane l = false ∨ s.laneState l < 4 ∨ 7 < s.laneState l)) ∧
    (∃ s : State, ∃ l : Nat, ∃ rx : LaneRx, ∃ e : LaneEcho, (s.frameTaken l rx 5 = true) ∧ (s.laneState l = 6 ∨ s.laneState l = 7) ∧ ((s.lane l).echoes.find? (fun e => e.mark = num rx.bytes 2 2 && decide (s.keep.elapsed ≤ e.at_ + 100 * tickUs)) = some e)) ∧
    (∃ s : State, ∃ l : Nat, ∃ rx : LaneRx, (s.frameTaken l rx 6 = true) ∧ (s.laneState l = 7) ∧ (bit (num rx.bytes 1 1) 7 = true) ∧ (s.fenced = false) ∧ (s.pending = []) ∧ ((s.lane l).pending = [])) ∧
    (∃ s : State, ∃ l : Nat, ∃ rx : LaneRx, (s.frameTaken l rx 6 = true) ∧ (s.laneState l ≠ 7 ∨ bit (num rx.bytes 1 1) 7 = false ∨ s.fenced = true)) ∧
    (∃ s : State, ∃ l : Nat, (s.hasLane l = true) ∧ (s.up = true) ∧ (s.laneState l = 6) ∧ (s.fenced = false) ∧ (s.win.acked = [])) ∧
    (∃ s : State, ∃ l : Nat, ∃ cum : Nat, ∃ bm : Nat, ∃ rest : List (Nat × Nat × Nat), (s.hasLane l = true) ∧ (s.up = true) ∧ (s.laneState l = 6) ∧ (s.fenced = false) ∧ (s.win.acked = (l, cum, bm) :: rest)) ∧
    (∃ s : State, ∃ l : Nat, (s.hasLane l = false ∨ s.laneState l ≠ 6 ∨ s.fenced = true)) ∧
    (∃ s : State, ∃ l : Nat, (s.hasLane l = true) ∧ (s.up = true) ∧ (1 ≤ s.laneState l) ∧ (s.laneState l ≤ 7) ∧ (s.fenced = false) ∧ (s.laneState l = 4 ∨ s.units.d0 % (2 ^ s.get (F.TLK_TIMERS_MARKER_EXP l) * tickUs) = 0) ∧ (∀ k ∈ (s.lane l).markedAt, k + (if s.laneState l = 4 then 10 * tickUs else 1) ≤ s.keep.elapsed)) ∧
    (∃ s : State, ∃ l : Nat, (s.hasLane l = false ∨ s.up = false ∨ s.laneState l = 0 ∨ 7 < s.laneState l ∨ s.fenced = true ∨ (s.laneState l = 4 ∧ ∃ k ∈ (s.lane l).markedAt, s.keep.elapsed < k + 10 * tickUs) ∨ (s.laneState l ≠ 4 ∧ s.units.d0 % (2 ^ s.get (F.TLK_TIMERS_MARKER_EXP l) * tickUs) ≠ 0))) ∧
    (∃ s : State, ∃ l : Nat, ∃ rx : LaneRx, (s.laneListens l = true) ∧ (frameSound rx = false)) ∧
    (∃ s : State, ∃ l : Nat, ∃ rx : LaneRx, (s.laneListens l = true) ∧ (frameSound rx = true) ∧ (frameOk rx.bytes = false)) ∧
    (∃ s : State, ∃ l : Nat, (s.laneListens l = false)) ∧
    (∃ s : State, ∃ l : Nat, ∃ rx : LaneRx, (s.laneListens l = true) ∧ (frameSound rx = false)) ∧
    (∃ s : State, ∃ l : Nat, ∃ rx : LaneRx, (s.laneListens l = true) ∧ (frameSound rx = true) ∧ (frameOk rx.bytes = false)) ∧
    (∃ s : State, ∃ l : Nat, (s.laneListens l = false)) :=
  ⟨⟨{ State.reset with regs := [(0x01000010, 0x40000000)], units := { lanes := [(0, ({ markers := [(9, 100)] } : LaneUnit))] } }, 0, 9, (9, 100), by decide +kernel⟩,
   ⟨{ State.reset with regs := [(0x01000010, 0x40000000)], units := { lanes := [(0, ({ locked := true } : LaneUnit))] } }, 0, 9, by decide +kernel⟩,
   ⟨{ State.reset with regs := [(0x01000010, 0x60000000)], units := { lanes := [(0, ({ locked := true, echoes := [{ mark := 9, departure := 0, trip := 4000, at_ := 0 }] } : LaneUnit))] } }, 0, ((fun b : List Byte => ({ bytes := b ++ be 4 (crc32c b) } : LaneRx)) [0x51, 0, 0, 9, 0, 2, 0, 0, 0, 0, 0, 5, 1, 0, 0, 0, 0, 0, 0, 0, 0, 0, 0, 0]), ({ mark := 9, departure := 0, trip := 4000, at_ := 0 } : LaneEcho), by decide +kernel⟩,
   ⟨{ State.reset with regs := [(0x01000010, 0x70000000)], units := { lanes := [(0, ({ locked := true } : LaneUnit))] } }, 0, ((fun b : List Byte => ({ bytes := b ++ be 4 (crc32c b) } : LaneRx)) [0x61, 0x80, 0x12, 0x34, 0, 0, 0, 0]), by decide +kernel⟩,
   ⟨{ State.reset with regs := [(0x01000010, 0x60000000)], units := { lanes := [(0, ({ locked := true } : LaneUnit))] } }, 0, ((fun b : List Byte => ({ bytes := b ++ be 4 (crc32c b) } : LaneRx)) [0x61, 0x80, 0x12, 0x34, 0, 0, 0, 0]), by decide +kernel⟩,
   ⟨{ State.reset with regs := [(0x01000010, 0x60000000), (0x01000018, 0x12340000), (0x00010000, 0x8000)], units := { lanes := [(0, ({ locked := true } : LaneUnit))] } }, 0, by decide +kernel⟩,
   ⟨{ State.reset with regs := [(0x01000010, 0x60000000), (0x00010000, 0x8000)], win := ({ acked := [(0, 4, 0)] } : Win) }, 0, 4, 0, [], by decide +kernel⟩,
   ⟨{ State.reset with regs := [(0x01000010, 0x70000000)], units := { lanes := [(0, ({ locked := true } : LaneUnit))] } }, 0, by decide +kernel⟩,
   ⟨{ State.reset with regs := [(0x01000010, 0x40000000), (0x00010000, 0x8000)], units := { lanes := [(0, ({ locked := true } : LaneUnit))] } }, 0, by decide +kernel⟩,
   ⟨State.reset, 0, by decide +kernel⟩,
   ⟨{ State.reset with regs := [(0x01000010, 0x60000000)], units := { lanes := [(0, ({ locked := true } : LaneUnit))] } }, 0, ({ bytes := [1, 2] } : LaneRx), by decide +kernel⟩,
   ⟨{ State.reset with regs := [(0x01000010, 0x60000000)], units := { lanes := [(0, ({ locked := true } : LaneUnit))] } }, 0, ((fun b : List Byte => ({ bytes := b ++ be 4 (crc32c b) } : LaneRx)) [0x71, 0, 0, 0, 0, 0, 0, 0]), by decide +kernel⟩,
   ⟨{ State.reset with regs := [(0x01000010, 0x10000000)], units := { lanes := [(0, ({ locked := true } : LaneUnit))] } }, 0, by decide +kernel⟩,
   ⟨{ State.reset with regs := [(0x01000010, 0x60000000)], units := { lanes := [(0, ({ locked := true } : LaneUnit))] } }, 0, ({ bytes := [1, 2] } : LaneRx), by decide +kernel⟩,
   ⟨{ State.reset with regs := [(0x01000010, 0x60000000)], units := { lanes := [(0, ({ locked := true } : LaneUnit))] } }, 0, ((fun b : List Byte => ({ bytes := b ++ be 4 (crc32c b) } : LaneRx)) [0x71, 0, 0, 0, 0, 0, 0, 0]), by decide +kernel⟩,
   ⟨{ State.reset with regs := [(0x01000010, 0x10000000)], units := { lanes := [(0, ({ locked := true } : LaneUnit))] } }, 0, by decide +kernel⟩⟩

theorem witness_LaneCommandsAndTimeouts :
    (∃ s : State, ∃ l : Nat, ∃ w : Nat, ∃ v : Word, (getBits v 0 0 = 1) ∧ (s.hasRight w (F.TLK_CMD_CTRL_START l).addr = true) ∧ (s.hasLane l = true) ∧ (s.up = true) ∧ ((s.lane l).host = none) ∧ (s.laneState l = 6) ∧ (s.fenced = false) ∧ (bits (s.get (F.TLK_CMD_WORD_WORD l 0)) 63 60 = 3) ∧ (0x80 ≤ bits (s.get (F.TLK_CMD_WORD_WORD l 0)) 47 40)) ∧
    (∃ s : State, ∃ l : Nat, ∃ w : Nat, ∃ v : Word, (getBits v 0 0 = 1) ∧ (s.hasRight w (F.TLK_CMD_CTRL_START l).addr = true) ∧ (s.hasLane l = true) ∧ (bits (s.get (F.TLK_CMD_WORD_WORD l 0)) 63 60 = 3) ∧ ((s.lane l).host.isSome = true ∨ bits (s.get (F.TLK_CMD_WORD_WORD l 0)) 47 40 < 0x80 ∨ s.laneState l ≠ 6 ∨ s.fenced = true) ∧ (s.get F.IMG_VOLATILE_WRITES_COUNT + 1 < 2 ^ 47)) ∧
    (∃ s : State, ∃ l : Nat, ∃ w : Nat, ∃ v : Word, (getBits v 0 0 = 1) ∧ (s.hasRight w (F.TLK_CMD_CTRL_START l).addr = true) ∧ (s.hasLane l = true) ∧ (s.up = true) ∧ ((s.lane l).host = none) ∧ (s.laneState l = 6) ∧ (s.fenced = false) ∧ (bits (s.get (F.TLK_CMD_WORD_WORD l 0)) 63 58 = 0x11) ∧ (((s.get (F.TLK_DELAY_CABLE_DELAY l) + 10 * tickUs : Nat) : Int) ≤ dif (s.get (F.TLK_CMD_WORD_WORD l 1)) s.now)) ∧
    (∃ s : State, ∃ l : Nat, ∃ w : Nat, ∃ v : Word, (getBits v 0 0 = 1) ∧ (s.hasRight w (F.TLK_CMD_CTRL_START l).addr = true) ∧ (s.hasLane l = true) ∧ (bits (s.get (F.TLK_CMD_WORD_WORD l 0)) 63 58 = 0x11) ∧ ((s.lane l).host.isSome = true ∨ s.laneState l ≠ 6 ∨ s.fenced = true ∨ dif (s.get (F.TLK_CMD_WORD_WORD l 1)) s.now < ((s.get (F.TLK_DELAY_CABLE_DELAY l) + 10 * tickUs : Nat) : Int)) ∧ (s.get F.IMG_VOLATILE_WRITES_COUNT + 1 < 2 ^ 47)) ∧
    (∃ s : State, ∃ l : Nat, ∃ w : Nat, ∃ v : Word, (getBits v 0 0 = 0 ∨ s.hasRight w (F.TLK_CMD_CTRL_START l).addr = false ∨ s.hasLane l = false) ∧ (s.get F.IMG_VOLATILE_WRITES_COUNT + 1 < 2 ^ 47)) ∧
    (∃ s : State, ∃ l : Nat, ∃ w : Nat, ∃ v : Word, (getBits v 0 0 = 0 ∨ s.hasRight w (F.TLK_CMD_CTRL_START l).addr = false ∨ s.hasLane l = false) ∧ (s.get F.IMG_VOLATILE_WRITES_COUNT + 1 < 2 ^ 47)) ∧
    (∃ s : State, ∃ l : Nat, ∃ c : LaneCmd, ((s.lane l).host = some c) ∧ (c.sentAt + 100 * tickUs + (s.lane l).trip ≤ s.keep.elapsed)) ∧
    (∃ s : State, ∃ l : Nat, ∃ c : LaneCmd, ((s.lane l).own = some c) ∧ (c.sentAt + 100 * tickUs + (s.lane l).trip ≤ s.keep.elapsed)) ∧
    (∃ s : State, ∃ l : Nat, ∃ h : Bool, (∀ c ∈ (if h then (s.lane l).host else (s.lane l).own), s.keep.elapsed < c.sentAt + 100 * tickUs + (s.lane l).trip)) ∧
    (∃ s : State, ∃ l : Nat, ∃ r : Nat, ((s.lane l).retryAt = some r) ∧ (r ≤ s.keep.elapsed) ∧ (s.laneState l = 5)) ∧
    (∃ s : State, ∃ l : Nat, ((∀ r ∈ (s.lane l).retryAt, s.keep.elapsed < r) ∨ s.laneState l ≠ 5)) ∧
    (∃ s : State, ∃ l : Nat, ∃ k : Nat, (s.hasLane l = true) ∧ (k < 128) ∧ (s.get (F.TLK_TALKER_STATE_PRESENT l k) = 1) ∧ ((s.talker l k).heardAt + s.get (F.TLK_TIMERS_WM_TIMEOUT_US l) * tickUs ≤ s.keep.elapsed)) ∧
    (∃ s : State, ∃ l : Nat, ∃ k : Nat, (s.hasLane l = false ∨ 128 ≤ k ∨ s.get (F.TLK_TALKER_STATE_PRESENT l k) = 0 ∨ s.keep.elapsed < (s.talker l k).heardAt + s.get (F.TLK_TIMERS_WM_TIMEOUT_US l) * tickUs)) :=
  ⟨⟨{ State.reset with regs := [(0x01000010, 0x60000000), (0x01000040, 0x3007800000000005), (0x00010000, 0x8000)], units := { lanes := [(0, ({ locked := true } : LaneUnit))] } }, 0, 0, 1, by decide +kernel⟩,
   ⟨{ State.reset with regs := [(0x01000010, 0x60000000), (0x01000040, 0x30077F0000000005)], units := { lanes := [(0, ({ locked := true } : LaneUnit))] } }, 0, 0, 1, by decide +kernel⟩,
   ⟨{ State.reset with regs := [(0x01000010, 0x60000000), (0x01000040, 0x4407010000000064), (0x01000048, 0x10000000), (0x00010000, 0x8000)], units := { lanes := [(0, ({ locked := true } : LaneUnit))] } }, 0, 0, 1, by decide +kernel⟩,
   ⟨{ State.reset with regs := [(0x01000010, 0x60000000), (0x01000040, 0x4407010000000064), (0x01000048, 0x10)], units := { lanes := [(0, ({ locked := true } : LaneUnit))] } }, 0, 0, 1, by decide +kernel⟩,
   ⟨{ State.reset with regs := [(0x01000010, 0x60000000)], units := { lanes := [(0, ({ locked := true } : LaneUnit))] } }, 0, 1, 1, by decide +kernel⟩,
   ⟨{ State.reset with regs := [(0x01000010, 0x60000000)], units := { lanes := [(0, ({ locked := true } : LaneUnit))] } }, 0, 1, 1, by decide +kernel⟩,
   ⟨{ State.reset with regs := [(0x01000010, 0x60000000)], keep := { elapsed := 100 * tickUs }, units := { lanes := [(0, ({ host := some { words := [7], tag := 1, sentAt := 0, repeats := 3 } } : LaneUnit))] } }, 0, ({ words := [7], tag := 1, sentAt := 0, repeats := 3 } : LaneCmd), by decide +kernel⟩,
   ⟨{ State.reset with regs := [(0x01000010, 0x50000000)], keep := { elapsed := 100 * tickUs }, units := { lanes := [(0, ({ own := some { words := [7], tag := 1, sentAt := 0, repeats := 3 } } : LaneUnit))] } }, 0, ({ words := [7], tag := 1, sentAt := 0, repeats := 3 } : LaneCmd), by decide +kernel⟩,
   ⟨{ State.reset with regs := [(0x01000010, 0x60000000)], units := { lanes := [(0, ({ locked := true } : LaneUnit))] } }, 0, true, by decide +kernel⟩,
   ⟨{ State.reset with regs := [(0x01000010, 0x50000000)], units := { lanes := [(0, ({ retryAt := some 0 } : LaneUnit))] } }, 0, 0, by decide +kernel⟩,
   ⟨{ State.reset with regs := [(0x01000010, 0x50000000)], units := { lanes := [(0, ({ locked := true } : LaneUnit))] } }, 0, by decide +kernel⟩,
   ⟨{ State.reset with regs := [((F.TLK_TALKER_STATE_PRESENT 0 5).addr, BitVec.ofNat 64 (1 <<< (F.TLK_TALKER_STATE_PRESENT 0 5).lsb))], keep := { elapsed := 10 * tickUs } }, 0, 5, by decide +kernel⟩,
   ⟨State.reset, 0, 127, by decide +kernel⟩⟩

theorem witness_LaneStates :
    (∃ s : State, ∃ l : Nat, ∃ w : Nat, ∃ v : Word, (s.hasRight w (F.TLK_CFG_MODE l).addr = true) ∧ (s.hasLane l = true) ∧ (s.laneIsolated l = false) ∧ (s.fenced = false) ∧ (s.pending = []) ∧ (getBits v 1 0 = 1 ∨ getBits v 1 0 = 2) ∧ (s.laneState l = 0) ∧ (((s.lane l).flaps.filter (fun t => decide (s.keep.elapsed < t + tickS))).length < 7)) ∧
    (∃ s : State, ∃ l : Nat, ∃ w : Nat, ∃ v : Word, (s.hasRight w (F.TLK_CFG_MODE l).addr = true) ∧ (s.hasLane l = true) ∧ (s.laneIsolated l = false) ∧ (s.fenced = false) ∧ (s.pending = []) ∧ (getBits v 1 0 = 0 ∨ getBits v 1 0 = 3)) ∧
    (∃ s : State, ∃ l : Nat, ∃ w : Nat, (s.hasRight w (F.TLK_CFG_MODE l).addr = true) ∧ (s.hasLane l = true) ∧ (s.laneIsolated l = true)) ∧
    (∃ s : State, ∃ l : Nat, ∃ w : Nat, (s.hasRight w (F.TLK_TIMERS_RTO_US l).addr = true) ∧ (s.hasLane l = true)) ∧
    (∃ s : State, ∃ l : Nat, (s.laneState l = 1) ∧ (s.fenced = false) ∧ (s.pending = []) ∧ (((s.lane l).flaps.filter (fun t => decide (s.keep.elapsed < t + tickS))).length < 7)) ∧
    (∃ s : State, ∃ l : Nat, (s.laneState l = 1) ∧ (s.fenced = false) ∧ (s.pending = []) ∧ (7 ≤ ((s.lane l).flaps.filter (fun t => decide (s.keep.elapsed < t + tickS))).length)) ∧
    (∃ s : State, ∃ l : Nat, (s.laneState l ≠ 1)) ∧
    (∃ s : State, ∃ l : Nat, (s.laneState l = 2)) ∧
    (∃ s : State, ∃ l : Nat, (s.laneState l ≠ 2)) ∧
    (∃ s : State, ∃ l : Nat, (1 < s.laneState l) ∧ (s.laneState l ≠ 8) ∧ (s.fenced = false) ∧ (s.pending = []) ∧ (((s.lane l).flaps.filter (fun t => decide (s.keep.elapsed < t + tickS))).length < 7)) ∧
    (∃ s : State, ∃ l : Nat, (s.laneState l ≤ 1 ∨ s.laneState l = 8 ∨ s.fenced = true)) ∧
    (∃ s : State, ∃ l : Nat, (2 < s.laneState l) ∧ (s.laneState l ≠ 8) ∧ (s.fenced = false) ∧ (s.pending = []) ∧ (((s.lane l).flaps.filter (fun t => decide (s.keep.elapsed < t + tickS))).length < 7)) ∧
    (∃ s : State, ∃ l : Nat, (s.laneState l < 2 ∨ s.laneState l = 8)) ∧
    (∃ s : State, ∃ l : Nat, (2 < s.laneState l) ∧ (s.laneState l ≠ 8) ∧ (s.fenced = false) ∧ (s.pending = []) ∧ (((s.lane l).flaps.filter (fun t => decide (s.keep.elapsed < t + tickS))).length < 7) ∧ ((s.lane l).frameAt + s.get (F.TLK_TIMERS_LINK_TIMEOUT_US l) * tickUs ≤ s.keep.elapsed)) ∧
    (∃ s : State, ∃ l : Nat, (s.laneState l ≤ 2 ∨ s.laneState l = 8 ∨ s.keep.elapsed < (s.lane l).frameAt + s.get (F.TLK_TIMERS_LINK_TIMEOUT_US l) * tickUs)) ∧
    (∃ s : State, ∃ l : Nat, ∃ w : Nat, ∃ v : Word, (getBits v 0 0 = 1) ∧ (s.hasRight w (F.TLK_CTRL_RESTART l).addr = true) ∧ (s.hasLane l = true) ∧ (s.laneIsolated l = false) ∧ (s.fenced = false) ∧ (s.pending = []) ∧ (((s.lane l).flaps.filter (fun t => decide (s.keep.elapsed < t + tickS))).length < 7)) ∧
    (∃ s : State, ∃ l : Nat, ∃ w : Nat, ∃ v : Word, (getBits v 0 0 = 1) ∧ (s.hasRight w (F.TLK_CTRL_RESTART l).addr = true) ∧ (s.hasLane l = true) ∧ (s.laneIsolated l = true) ∧ (s.get F.IMG_VOLATILE_WRITES_COUNT + 1 < 2 ^ 47)) ∧
    (∃ s : State, ∃ l : Nat, ∃ w : Nat, ∃ v : Word, (getBits v 0 0 = 0 ∨ s.hasRight w (F.TLK_CTRL_RESTART l).addr = false ∨ s.hasLane l = false) ∧ (s.get F.IMG_VOLATILE_WRITES_COUNT + 1 < 2 ^ 47)) ∧
    (∃ s : State, ∃ l : Nat, ∃ w : Nat, ∃ v : Word, (getBits v 1 1 = 1) ∧ (s.hasRight w (F.TLK_CTRL_RESTART l).addr = true) ∧ (s.hasLane l = true) ∧ (s.laneIsolated l = false) ∧ (s.fenced = false) ∧ (s.pending = []) ∧ (s.laneState l = 6 ∨ s.laneState l = 7)) ∧
    (∃ s : State, ∃ l : Nat, ∃ w : Nat, ∃ v : Word, (getBits v 1 1 = 1) ∧ (s.hasRight w (F.TLK_CTRL_RESTART l).addr = true) ∧ (s.hasLane l = true) ∧ (s.laneIsolated l = true) ∧ (s.get F.IMG_VOLATILE_WRITES_COUNT + 1 < 2 ^ 47)) ∧
    (∃ s : State, ∃ l : Nat, ∃ w : Nat, ∃ v : Word, (getBits v 1 1 = 0 ∨ s.hasRight w (F.TLK_CTRL_RESTART l).addr = false ∨ s.hasLane l = false) ∧ (s.get F.IMG_VOLATILE_WRITES_COUNT + 1 < 2 ^ 47)) ∧
    (∃ s : State, ∃ l : Nat, ∃ w : Nat, ∃ v : Word, (getBits v 2 2 = 1) ∧ (s.hasRight w (F.TLK_CTRL_RESTART l).addr = true) ∧ (s.hasLane l = true) ∧ (s.laneIsolated l = false) ∧ (s.fenced = false) ∧ (s.pending = []) ∧ (s.laneState l = 6 ∨ s.laneState l = 7)) ∧
    (∃ s : State, ∃ l : Nat, ∃ w : Nat, ∃ v : Word, (getBits v 2 2 = 1) ∧ (s.hasRight w (F.TLK_CTRL_RESTART l).addr = true) ∧ (s.hasLane l = true) ∧ (s.laneIsolated l = true) ∧ (s.get F.IMG_VOLATILE_WRITES_COUNT + 1 < 2 ^ 47)) ∧
    (∃ s : State, ∃ l : Nat, ∃ w : Nat, ∃ v : Word, (getBits v 2 2 = 0 ∨ s.hasRight w (F.TLK_CTRL_RESTART l).addr = false ∨ s.hasLane l = false) ∧ (s.get F.IMG_VOLATILE_WRITES_COUNT + 1 < 2 ^ 47)) :=
  ⟨⟨State.reset, 0, 0, 5, by decide +kernel⟩,
   ⟨{ State.reset with regs := [(0x01000010, 0x60000000)], units := { lanes := [(0, ({ locked := true } : LaneUnit))] } }, 0, 0, 3, by decide +kernel⟩,
   ⟨{ State.reset with regs := [(0x01000010, 0x80000000), (0x01000014, 0x200)], units := { lanes := [(0, ({ locked := true } : LaneUnit))] } }, 0, 0, by decide +kernel⟩,
   ⟨{ State.reset with regs := [(0x01000010, 0x60000000)], units := { lanes := [(0, ({ locked := true } : LaneUnit))] } }, 0, 0, by decide +kernel⟩,
   ⟨{ State.reset with regs := [(0x01000010, 0x10000000)], units := { lanes := [(0, ({ locked := true } : LaneUnit))] } }, 0, by decide +kernel⟩,
   ⟨{ State.reset with regs := [(0x01000010, 0x10000000)], units := { lanes := [(0, ({ flaps := [0, 0, 0, 0, 0, 0, 0] } : LaneUnit))] } }, 0, by decide +kernel⟩,
   ⟨{ State.reset with regs := [(0x01000010, 0x0)], units := { lanes := [(0, ({ locked := true } : LaneUnit))] } }, 0, by decide +kernel⟩,
   ⟨{ State.reset with regs := [(0x01000010, 0x20000000)], units := { lanes := [(0, ({  } : LaneUnit))] } }, 0, by decide +kernel⟩,
   ⟨{ State.reset with regs := [(0x01000010, 0x30000000)], units := { lanes := [(0, ({ locked := true } : LaneUnit))] } }, 0, by decide +kernel⟩,
   ⟨{ State.reset with regs := [(0x01000010, 0x60000000)], units := { lanes := [(0, ({ locked := true } : LaneUnit))] } }, 0, by decide +kernel⟩,
   ⟨{ State.reset with regs := [(0x01000010, 0x80000000)], units := { lanes := [(0, ({ locked := true } : LaneUnit))] } }, 0, by decide +kernel⟩,
   ⟨{ State.reset with regs := [(0x01000010, 0x70000000)], units := { lanes := [(0, ({ locked := true } : LaneUnit))] } }, 0, by decide +kernel⟩,
   ⟨{ State.reset with regs := [(0x01000010, 0x10000000)], units := { lanes := [(0, ({ locked := true } : LaneUnit))] } }, 0, by decide +kernel⟩,
   ⟨{ State.reset with regs := [(0x01000010, 0x30000000)], keep := { elapsed := 20 * tickUs } }, 0, by decide +kernel⟩,
   ⟨{ State.reset with regs := [(0x01000010, 0x30000000)], units := { lanes := [(0, ({ locked := true } : LaneUnit))] } }, 0, by decide +kernel⟩,
   ⟨{ State.reset with regs := [(0x01000010, 0x80000000)], units := { lanes := [(0, ({ locked := true } : LaneUnit))] } }, 0, 0, 1, by decide +kernel⟩,
   ⟨{ State.reset with regs := [(0x01000010, 0x80000000), (0x01000014, 0x200)], units := { lanes := [(0, ({ locked := true } : LaneUnit))] } }, 0, 0, 1, by decide +kernel⟩,
   ⟨{ State.reset with regs := [(0x01000010, 0x60000000)], units := { lanes := [(0, ({ locked := true } : LaneUnit))] } }, 0, 0, 0, by decide +kernel⟩,
   ⟨{ State.reset with regs := [(0x01000010, 0x60000000)], units := { lanes := [(0, ({ locked := true } : LaneUnit))] } }, 0, 0, 2, by decide +kernel⟩,
   ⟨{ State.reset with regs := [(0x01000010, 0x80000000), (0x01000014, 0x200)], units := { lanes := [(0, ({ locked := true } : LaneUnit))] } }, 0, 0, 2, by decide +kernel⟩,
   ⟨{ State.reset with regs := [(0x01000010, 0x60000000)], units := { lanes := [(0, ({ locked := true } : LaneUnit))] } }, 0, 0, 0, by decide +kernel⟩,
   ⟨{ State.reset with regs := [(0x01000010, 0x70000000)], units := { lanes := [(0, ({ locked := true } : LaneUnit))] } }, 0, 0, 4, by decide +kernel⟩,
   ⟨{ State.reset with regs := [(0x01000010, 0x80000000), (0x01000014, 0x200)], units := { lanes := [(0, ({ locked := true } : LaneUnit))] } }, 0, 0, 4, by decide +kernel⟩,
   ⟨{ State.reset with regs := [(0x01000010, 0x60000000)], units := { lanes := [(0, ({ locked := true } : LaneUnit))] } }, 0, 0, 0, by decide +kernel⟩⟩

set_option maxRecDepth 20000 in
theorem witness_FilterSwapsAndCopies :
    (∃ s : State, ∃ v : Word, (s.has 0 = true) ∧ (getBits v 0 0 = 1) ∧ (getBits v 31 16 = 0xA5C3) ∧ (s.bankBusy = false) ∧ (s.get F.IMG_VOLATILE_WRITES_COUNT + 1 < 2 ^ 47)) ∧
    (∃ s : State, ∃ v : Word, (s.has 0 = true) ∧ (getBits v 0 0 = 1) ∧ (s.bankBusy = true) ∧ (s.get F.IMG_VOLATILE_WRITES_COUNT + 1 < 2 ^ 47)) ∧
    (∃ s : State, ∃ w : Nat, ∃ v : Word, (s.has 0 = true) ∧ (getBits v 0 0 = 1) ∧ (s.bankBusy = false) ∧ (w ≠ 0 ∨ getBits v 31 16 ≠ 0xA5C3) ∧ (s.get F.IMG_VOLATILE_WRITES_COUNT + 1 < 2 ^ 47)) ∧
    (∃ s : State, ∃ v : Word, (getBits v 0 0 = 0 ∨ s.has 0 = false) ∧ (s.get F.IMG_VOLATILE_WRITES_COUNT + 1 < 2 ^ 47)) ∧
    (∃ s : State, ∃ v : Word, (s.has 0 = true) ∧ (getBits v 1 1 = 1) ∧ (getBits v 31 16 = 0xA5C3) ∧ (s.bankBusy = false) ∧ (s.get F.IMG_VOLATILE_WRITES_COUNT + 1 < 2 ^ 47)) ∧
    (∃ s : State, ∃ v : Word, (s.has 0 = true) ∧ (getBits v 1 1 = 1) ∧ (s.bankBusy = true) ∧ (s.get F.IMG_VOLATILE_WRITES_COUNT + 1 < 2 ^ 47)) ∧
    (∃ s : State, ∃ w : Nat, ∃ v : Word, (s.has 0 = true) ∧ (getBits v 1 1 = 1) ∧ (s.bankBusy = false) ∧ (w ≠ 0 ∨ getBits v 31 16 ≠ 0xA5C3) ∧ (s.get F.IMG_VOLATILE_WRITES_COUNT + 1 < 2 ^ 47)) ∧
    (∃ s : State, ∃ v : Word, (getBits v 1 1 = 0 ∨ s.has 0 = false) ∧ (s.get F.IMG_VOLATILE_WRITES_COUNT + 1 < 2 ^ 47)) ∧
    (∃ s : State, (s.get F.FLT_BANK_STATUS_STATE = 3) ∧ (s.bankResult.1 ≠ 0)) ∧
    (∃ s : State, (s.get F.FLT_BANK_STATUS_STATE = 3) ∧ (s.bankResult.1 = 0)) ∧
    (∃ s : State, (s.get F.FLT_BANK_STATUS_STATE ≠ 3)) ∧
    (∃ s : State, (s.get F.FLT_BANK_STATUS_STATE = 1) ∧ (0 ≤ dif s.now (s.get F.FLT_SWAP_TIME_T_SWAP))) ∧
    (∃ s : State, (s.get F.FLT_BANK_STATUS_STATE ≠ 1 ∨ dif s.now (s.get F.FLT_SWAP_TIME_T_SWAP) < 0)) ∧
    (∃ s : State, (s.get F.FLT_BANK_STATUS_STATE = 2) ∧ (2 ^ 34 ≤ dif s.now (s.get F.FLT_SWAP_TIME_T_SWAP))) ∧
    (∃ s : State, (s.get F.FLT_BANK_STATUS_STATE ≠ 2 ∨ dif s.now (s.get F.FLT_SWAP_TIME_T_SWAP) < 2 ^ 34)) ∧
    (∃ s : State, (s.get F.FLT_BANK_STATUS_COPYING = 1)) ∧
    (∃ s : State, (s.get F.FLT_BANK_STATUS_COPYING = 0)) :=
  ⟨⟨State.reset, 0xa5c30001, by decide +kernel⟩,
   ⟨{ State.reset with regs := [(0x02000008, 0x8000000)] }, 0xa5c30001, by decide +kernel⟩,
   ⟨State.reset, 0, 1, by decide +kernel⟩,
   ⟨State.reset, 0xA5C30000, by decide +kernel⟩,
   ⟨State.reset, 0xa5c30002, by decide +kernel⟩,
   ⟨{ State.reset with regs := [(0x02000008, 0x8000000)] }, 0xa5c30002, by decide +kernel⟩,
   ⟨State.reset, 0, 2, by decide +kernel⟩,
   ⟨State.reset, 0xA5C30000, by decide +kernel⟩,
   ⟨{ State.reset with regs := [(0x02000008, 0xc000000), (0x02001000, 0x10010FFF)] }, by decide +kernel⟩,
   ⟨{ State.reset with regs := [(0x02000008, 0xc000000)] }, by decide +kernel⟩,
   ⟨{ State.reset with regs := [(0x02000008, 0x4000000)] }, by decide +kernel⟩,
   ⟨{ State.reset with regs := [(0x02000008, 0x4000000), (0x02000010, 5), (0x02100008, 7), (0x02200010, 9)], units := { d0 := 5 } }, by decide +kernel⟩,
   ⟨{ State.reset with regs := [(0x02000008, 0x4000000), (0x02000010, 5)], units := { d0 := 4 } }, by decide +kernel⟩,
   ⟨{ State.reset with regs := [(0x02000008, 0x8000000), (0x02000010, 5), (0x02001000, 0x20000001)], units := { d0 := 5 + 2 ^ 34 } }, by decide +kernel⟩,
   ⟨{ State.reset with regs := [(0x02000008, 0x8000000), (0x02000010, 5)], units := { d0 := 4 + 2 ^ 34 } }, by decide +kernel⟩,
   ⟨{ State.reset with regs := [(0x02000008, 0x2000000), (0x02100008, 7), (0x02200010, 9)] }, by decide +kernel⟩,
   ⟨{ State.reset with regs := [(0x02000008, 0x4000000)] }, by decide +kernel⟩⟩

set_option maxRecDepth 20000 in
theorem witness_StratumCloses :
    (∃ s : State, ∃ st : Nat, ∃ l : Life, (st < 8192) ∧ (s.closeReady st = some false) ∧ ((s.cal st).closing = some l) ∧ (∀ b ∈ l.stop, dif ((s.get (F.CAL_STREAM_OLDEST_START st) + 2 ^ s.atOldest st (F.CAL_STREAM_CFG_STRATUM_K st)) % 2 ^ 64) b < 0)) ∧
    (∃ s : State, ∃ st : Nat, (s.closeReady st ≠ some false)) ∧
    (∃ s : State, ∃ st : Nat, ∃ l : Life, (st < 8192) ∧ (s.closeReady st = some true) ∧ (s.pending = []) ∧ ((s.cal st).closing = some l) ∧ (∀ b ∈ l.stop, dif ((s.get (F.CAL_STREAM_OLDEST_START st) + 2 ^ s.atOldest st (F.CAL_STREAM_CFG_STRATUM_K st)) % 2 ^ 64) b < 0)) ∧
    (∃ s : State, ∃ st : Nat, (st < 8192) ∧ (s.closeReady st = some true) ∧ (s.pending ≠ [])) ∧
    (∃ s : State, ∃ st : Nat, ∃ l : Life, (st < 8192) ∧ (s.closeReady st = some false) ∧ ((s.cal st).closing = some l) ∧ (∀ b ∈ l.stop, dif ((s.get (F.CAL_STREAM_OLDEST_START st) + 2 ^ s.atOldest st (F.CAL_STREAM_CFG_STRATUM_K st)) % 2 ^ 64) b < 0)) ∧
    (∃ s : State, ∃ st : Nat, ∃ b : Nat, ∃ l : Life, (st < 8192) ∧ (s.closeReady st = some false) ∧ ((s.cal st).lives = [l]) ∧ (l.isOver = false) ∧ (l.stop = some b) ∧ (0 ≤ dif ((s.get (F.CAL_STREAM_OLDEST_START st) + 2 ^ s.atOldest st (F.CAL_STREAM_CFG_STRATUM_K st)) % 2 ^ 64) b)) ∧
    (∃ s : State, ∃ st : Nat, ∃ b : Nat, ∃ l : Life, ∃ n : Life, (st < 8192) ∧ (s.closeReady st = some true) ∧ (s.pending = []) ∧ ((s.cal st).lives = [l, n]) ∧ (l.isOver = false) ∧ (n.isOver = false) ∧ (l.stop = some b) ∧ (0 ≤ dif ((s.get (F.CAL_STREAM_OLDEST_START st) + 2 ^ s.atOldest st (F.CAL_STREAM_CFG_STRATUM_K st)) % 2 ^ 64) b) ∧ (n.start < 2 ^ 64)) ∧
    (∃ s : State, ∃ st : Nat, (s.closeReady st = none)) ∧
    (∃ s : State, ∃ l : Nat, ∃ at_ : Nat, ((s.lane l).leftActive = some at_) ∧ (at_ + tickS ≤ s.keep.elapsed)) ∧
    (∃ s : State, ∃ l : Nat, (∀ at_ ∈ (s.lane l).leftActive, s.keep.elapsed < at_ + tickS)) :=
  ⟨⟨{ State.reset with regs := [(0x3010140, 0x21001000)], units := { cal := [(5, ({ lives := [({ start := 0, domain := 0, edge := (0, false), strata := [({ start := 0, k := 16 } : Stratum)] } : Life)] } : CalStream))], d0 := 5242880 }, force := [(0x3010140, 0x21001000)] }, 5, ({ start := 0, domain := 0, edge := (0, false), strata := [({ start := 0, k := 16 } : Stratum)] } : Life), by decide +kernel⟩,
   ⟨State.reset, 5, by decide +kernel⟩,
   ⟨{ State.reset with regs := [(0x3010140, 0x01000010)], units := { cal := [(5, ({ lives := [({ start := 0, domain := 0, edge := (0, false), strata := [({ start := 0, k := 16 } : Stratum)] } : Life)] } : CalStream))], d0 := 16777216 }, force := [(0x3010140, 0x01000010)] }, 5, ({ start := 0, domain := 0, edge := (0, false), strata := [({ start := 0, k := 16 } : Stratum)] } : Life), by decide +kernel⟩,
   ⟨{ State.reset with regs := [(0x3010140, 0x01000010)], units := { cal := [(5, ({ lives := [({ start := 0, domain := 0, edge := (0, false), strata := [({ start := 0, k := 16 } : Stratum)] } : Life)] } : CalStream))], d0 := 16777216 }, force := [(0x3010140, 0x01000010)], pending := [.stratumEmit 0] }, 5, by decide +kernel⟩,
   ⟨{ State.reset with regs := [(0x3010140, 0x21001000)], units := { cal := [(5, ({ lives := [({ start := 0, domain := 0, edge := (0, false), strata := [({ start := 0, k := 16 } : Stratum)] } : Life)] } : CalStream))], d0 := 5242880 }, force := [(0x3010140, 0x21001000)] }, 5, ({ start := 0, domain := 0, edge := (0, false), strata := [({ start := 0, k := 16 } : Stratum)] } : Life), by decide +kernel⟩,
   ⟨{ State.reset with regs := [(0x3010140, 0x21001000)], units := { cal := [(5, ({ lives := [({ start := 0, domain := 0, edge := (0, false), strata := [({ start := 0, k := 16 } : Stratum)], stop := some 0x10000 } : Life)] } : CalStream))], d0 := 5242880 }, force := [(0x3010140, 0x21001000)] }, 5, 0x10000, ({ start := 0, domain := 0, edge := (0, false), strata := [({ start := 0, k := 16 } : Stratum)], stop := some 0x10000 } : Life), by decide +kernel⟩,
   ⟨{ State.reset with regs := [(0x3010140, 0x01000010)], units := { cal := [(5, ({ lives := [({ start := 0, domain := 0, edge := (0, false), strata := [({ start := 0, k := 16 } : Stratum)], stop := some 0x10000 } : Life), ({ start := 262144, domain := 0, edge := (262144, false), strata := [] } : Life)] } : CalStream))], d0 := 16777216 }, force := [(0x3010140, 0x01000010)] }, 5, 0x10000, ({ start := 0, domain := 0, edge := (0, false), strata := [({ start := 0, k := 16 } : Stratum)], stop := some 0x10000 } : Life), ({ start := 262144, domain := 0, edge := (262144, false), strata := [] } : Life), by decide +kernel⟩,
   ⟨State.reset, 5, by decide +kernel⟩,
   ⟨{ State.reset with regs := [], keep := { elapsed := tickS }, units := { lanes := [(3, ({ leftActive := some 0 } : LaneUnit))] } }, 3, 0, by decide +kernel⟩,
   ⟨State.reset, 3, by decide +kernel⟩⟩

set_option maxRecDepth 20000 in
theorem witness_StratumEmissionAndEviction :
    (∃ s : State, ∃ k : Nat, ∃ st : Nat, ∃ x : Stratum, (st < 8192) ∧ ((nextWaiter s.waiters).map (fun w => (w.tenant, w.stream, w.stratum)) = some (k, st, x))) ∧
    (∃ s : State, ∃ k : Nat, (∀ w ∈ nextWaiter s.waiters, w.tenant ≠ k)) ∧
    (∃ s : State, ∃ st : Nat, ∃ l : Life, ∃ x : Stratum, (st < 8192) ∧ (s.evictable st = some (l, x)) ∧ (s.regionSize ≠ 0) ∧ (s.regionBytes + copyBytes x.hot ≤ s.regionSize)) ∧
    (∃ s : State, ∃ st : Nat, ∃ denied : Bool, ∃ l : Life, ∃ x : Stratum, (st < 8192) ∧ (s.evictable st = some (l, x)) ∧ (s.regionSize ≠ 0) ∧ (denied = true ∨ s.regionSize < s.regionBytes + copyBytes x.hot)) ∧
    (∃ s : State, ∃ st : Nat, (s.evictable st = none ∨ s.regionSize = 0)) :=
  ⟨⟨{ State.reset with regs := [], keep := { elapsed := 1 }, units := { cal := [(5, ({ lives := [({ start := 0, domain := 0, edge := (0, false), strata := [({ start := 0, k := 16, closed := some false, hot := [({ time := 1, source := 2, channel := 3, cls := 4, flags := 0, typ := 5, payload := [], group := 0, domain := 0 } : Copy)] } : Stratum)] } : Life)] } : CalStream))] } }, 0, 5, ({ start := 0, k := 16, closed := some false, hot := [({ time := 1, source := 2, channel := 3, cls := 4, flags := 0, typ := 5, payload := [], group := 0, domain := 0 } : Copy)] } : Stratum), by decide +kernel⟩,
   ⟨State.reset, 0, by decide +kernel⟩,
   ⟨{ State.reset with regs := [], units := { cal := [(5, ({ lives := [({ start := 0, domain := 0, edge := (0, false), strata := [({ start := 0, k := 16, hot := [({ time := 1, source := 2, channel := 3, cls := 4, flags := 0, typ := 5, payload := [], group := 0, domain := 0 } : Copy)] } : Stratum)] } : Life)] } : CalStream))], d0 := 1073741824 }, force := [(0x03000004, 1)] }, 5, ({ start := 0, domain := 0, edge := (0, false), strata := [({ start := 0, k := 16, hot := [({ time := 1, source := 2, channel := 3, cls := 4, flags := 0, typ := 5, payload := [], group := 0, domain := 0 } : Copy)] } : Stratum)] } : Life), ({ start := 0, k := 16, hot := [({ time := 1, source := 2, channel := 3, cls := 4, flags := 0, typ := 5, payload := [], group := 0, domain := 0 } : Copy)] } : Stratum), by decide +kernel⟩,
   ⟨{ State.reset with regs := [], units := { cal := [(5, ({ lives := [({ start := 0, domain := 0, edge := (0, false), strata := [({ start := 0, k := 16, hot := [({ time := 1, source := 2, channel := 3, cls := 4, flags := 0, typ := 5, payload := [], group := 0, domain := 0 } : Copy)] } : Stratum)] } : Life)] } : CalStream))], d0 := 1073741824 }, force := [(0x03000004, 1)] }, 5, true, ({ start := 0, domain := 0, edge := (0, false), strata := [({ start := 0, k := 16, hot := [({ time := 1, source := 2, channel := 3, cls := 4, flags := 0, typ := 5, payload := [], group := 0, domain := 0 } : Copy)] } : Stratum)] } : Life), ({ start := 0, k := 16, hot := [({ time := 1, source := 2, channel := 3, cls := 4, flags := 0, typ := 5, payload := [], group := 0, domain := 0 } : Copy)] } : Stratum), by decide +kernel⟩,
   ⟨State.reset, 5, by decide +kernel⟩⟩

set_option maxRecDepth 20000 in
theorem witness_StreamCommits :
    (∃ s : State, ∃ st : Nat, ∃ v : Word, (st < 8192) ∧ (s.has 0 = true) ∧ (getBits v 0 0 = 1) ∧ (s.get (F.STR_STATUS_PENDING st) = 1) ∧ (∀ c ∈ s.pending, c ≠ .streamConfigApply st) ∧ (s.get F.IMG_VOLATILE_WRITES_COUNT + 1 < 2 ^ 47)) ∧
    (∃ s : State, ∃ st : Nat, ∃ w : Nat, ∃ v : Word, (st < 8192) ∧ (s.has 0 = true) ∧ (getBits v 0 0 = 1) ∧ (s.get (F.STR_STATUS_PENDING st) = 0) ∧ (w ≠ 0) ∧ (w ≠ s.streamOwner st) ∧ (s.get F.IMG_VOLATILE_WRITES_COUNT + 1 < 2 ^ 47)) ∧
    (∃ s : State, ∃ st : Nat, ∃ w : Nat, ∃ v : Word, (st < 8192) ∧ (s.has 0 = true) ∧ (getBits v 0 0 = 1) ∧ (s.get (F.STR_STATUS_PENDING st) = 0) ∧ (w = 0 ∨ w = s.streamOwner st) ∧ (s.resetting (s.streamOwner st) = true) ∧ (s.get F.IMG_VOLATILE_WRITES_COUNT + 1 < 2 ^ 47)) ∧
    (∃ s : State, ∃ st : Nat, ∃ w : Nat, ∃ v : Word, (st < 8192) ∧ (s.has 0 = true) ∧ (getBits v 0 0 = 1) ∧ (s.get (F.STR_STATUS_PENDING st) = 0) ∧ (w = 0 ∨ w = s.streamOwner st) ∧ (s.resetting (s.streamOwner st) = false) ∧ (s.streamResult st ≠ 0) ∧ (s.get F.IMG_VOLATILE_WRITES_COUNT + 1 < 2 ^ 47)) ∧
    (∃ s : State, ∃ st : Nat, ∃ w : Nat, ∃ v : Word, (st < 8192) ∧ (s.has 0 = true) ∧ (getBits v 0 0 = 1) ∧ (s.get (F.STR_STATUS_PENDING st) = 0) ∧ (w = 0 ∨ w = s.streamOwner st) ∧ (s.resetting (s.streamOwner st) = false) ∧ (s.streamResult st = 0) ∧ (s.liveIs (F.STR_CFG_ENABLED st) = true ∨ s.is (F.STR_CFG_ENABLED st) = true) ∧ (s.get F.IMG_VOLATILE_WRITES_COUNT + 1 < 2 ^ 47)) ∧
    (∃ s : State, ∃ st : Nat, ∃ w : Nat, ∃ v : Word, (st < 8192) ∧ (s.has 0 = true) ∧ (getBits v 0 0 = 1) ∧ (s.get (F.STR_STATUS_PENDING st) = 0) ∧ (w = 0 ∨ w = s.streamOwner st) ∧ (s.resetting (s.streamOwner st) = false) ∧ (s.streamResult st = 0) ∧ (s.liveIs (F.STR_CFG_ENABLED st) = false) ∧ (s.is (F.STR_CFG_ENABLED st) = false) ∧ (s.streamIdle st = true) ∧ (s.get F.IMG_VOLATILE_WRITES_COUNT + 1 < 2 ^ 47)) ∧
    (∃ s : State, ∃ st : Nat, ∃ w : Nat, ∃ v : Word, (st < 8192) ∧ (s.has 0 = true) ∧ (getBits v 0 0 = 1) ∧ (s.get (F.STR_STATUS_PENDING st) = 0) ∧ (w = 0 ∨ w = s.streamOwner st) ∧ (s.resetting (s.streamOwner st) = false) ∧ (s.streamResult st = 0) ∧ (s.liveIs (F.STR_CFG_ENABLED st) = false) ∧ (s.is (F.STR_CFG_ENABLED st) = false) ∧ (s.streamIdle st = false)) ∧
    (∃ s : State, ∃ v : Word, (getBits v 0 0 = 0 ∨ s.has 0 = false) ∧ (s.get F.IMG_VOLATILE_WRITES_COUNT + 1 < 2 ^ 47)) ∧
    (∃ s : State, ∃ st : Nat, (st < 8192) ∧ (s.get (F.STR_STATUS_PENDING st) = 1) ∧ ((s.cal st).deferred = false) ∧ ((s.cal st).byReset = false) ∧ (0 ≤ dif (s.nowIn (s.get (F.STR_CFG_DOMAIN st))) (s.get (F.CAL_STREAM_APPLY_T_APPLY st)))) ∧
    (∃ s : State, ∃ st : Nat, (st < 8192) ∧ (s.get (F.STR_STATUS_PENDING st) = 1) ∧ ((s.cal st).deferred = false) ∧ ((s.cal st).byReset = true) ∧ (0 ≤ dif (s.nowIn (s.live (F.STR_CFG_DOMAIN st))) (s.get (F.CAL_STREAM_APPLY_T_APPLY st)))) ∧
    (∃ s : State, ∃ st : Nat, (s.get (F.STR_STATUS_PENDING st) = 0 ∨ (s.cal st).deferred = true ∨ ((s.cal st).byReset = false ∧ dif (s.nowIn (s.get (F.STR_CFG_DOMAIN st))) (s.get (F.CAL_STREAM_APPLY_T_APPLY st)) < 0))) :=
  ⟨⟨{ State.reset with regs := [(0x2800288, 0x80000000)] }, 5, 1, by decide +kernel⟩,
   ⟨State.reset, 5, 3, 1, by decide +kernel⟩,
   ⟨{ State.reset with regs := [((F.TEN_STATUS_STATE 0).addr, BitVec.ofNat 64 (2 <<< (F.TEN_STATUS_STATE 0).lsb))], pending := [.tenantReset 0 0 0xA5C30001] }, 5, 0, 1, by decide +kernel⟩,
   ⟨{ State.reset with regs := [(0x2800280, 0x80000000)] }, 5, 0, 1, by decide +kernel⟩,
   ⟨{ State.reset with regs := [(0x2800280, 0x80000001), (0x3010140, 0x01000010)] }, 5, 0, 1, by decide +kernel⟩,
   ⟨{ State.reset with regs := [(0x3010140, 0x01000010)] }, 5, 0, 1, by decide +kernel⟩,
   ⟨{ State.reset with regs := [(0x3010140, 0x01000010)], units := { cal := [(5, ({ lives := [({ start := 0, domain := 0, edge := (0, false), strata := [] } : Life)] } : CalStream))] } }, 5, 0, 1, by decide +kernel⟩,
   ⟨State.reset, 2, by decide +kernel⟩,
   ⟨{ State.reset with regs := [(0x2800280, 0x80000001), (0x2800288, 0x80000000), (0x3010140, 0x01000010), (0x3010160, 7)], units := { cal := [(5, ({ lives := [({ start := 0, domain := 0, edge := (0, false), strata := [] } : Life)] } : CalStream))], d0 := 7 } }, 5, by decide +kernel⟩,
   ⟨{ State.reset with regs := [(0x2800280, 0x80000001), (0x2800288, 0x80000000), (0x3010160, 7)], units := { cal := [(5, ({ byReset := true } : CalStream))], d0 := 7 }, force := [(0x2800280, 0x80000001)] }, 5, by decide +kernel⟩,
   ⟨State.reset, 5, by decide +kernel⟩⟩

set_option maxRecDepth 20000 in
theorem witness_QueueInput :
    (∃ s : State, ∃ q : Nat, ∃ p : Producer, (q < 4096) ∧ (s.mismatched q = false) ∧ (s.is (F.Q_CFG_ENABLE q) = true) ∧ ((producersOf q).contains p = true) ∧ ((s.queue q).partial_ = none) ∧ (1 ≤ s.get (F.Q_CFG_MAX_ITEM_CELLS q)) ∧ ((s.queue q).cells + 1 ≤ s.get (F.Q_QUOTA_CELL_QUOTA q))) ∧
    (∃ s : State, ∃ q : Nat, ∃ p : Producer, ∃ x : PartialItem, (q < 4096) ∧ (s.mismatched q = false) ∧ (s.is (F.Q_CFG_ENABLE q) = true) ∧ ((producersOf q).contains p = true) ∧ ((s.queue q).partial_ = some x) ∧ (x.producer = p) ∧ (x.discarding = false) ∧ (x.cells < x.maxCells) ∧ ((s.queue q).cells + 1 ≤ s.get (F.Q_QUOTA_CELL_QUOTA q))) ∧
    (∃ s : State, ∃ q : Nat, ∃ p : Producer, ∃ x : PartialItem, (q < 4096) ∧ (s.mismatched q = false) ∧ (s.is (F.Q_CFG_ENABLE q) = true) ∧ ((producersOf q).contains p = true) ∧ ((s.queue q).partial_ = some x) ∧ (x.producer = p) ∧ (x.discarding = false) ∧ (x.maxCells ≤ x.cells)) ∧
    (∃ s : State, ∃ q : Nat, ∃ p : Producer, ∃ x : PartialItem, (q < 4096) ∧ (s.mismatched q = false) ∧ (s.is (F.Q_CFG_ENABLE q) = true) ∧ ((producersOf q).contains p = true) ∧ ((s.queue q).partial_ = some x) ∧ (x.producer = p) ∧ (x.discarding = false) ∧ (x.cells < x.maxCells) ∧ (s.get (F.Q_QUOTA_CELL_QUOTA q) < (s.queue q).cells + 1)) ∧
    (∃ s : State, ∃ q : Nat, ∃ p : Producer, ∃ x : PartialItem, (q < 4096) ∧ (s.mismatched q = false) ∧ ((producersOf q).contains p = true) ∧ ((s.queue q).partial_ = some x) ∧ (x.producer = p) ∧ (x.discarding = true)) ∧
    (∃ s : State, ∃ q : Nat, ∃ p : Producer, ∃ cell : List Byte, ∃ x : PartialItem, (q < 4096) ∧ (s.mismatched q = false) ∧ (s.is (F.Q_CFG_ENABLE q) = true) ∧ (¬ isNotify q) ∧ ((producersOf q).contains p = true) ∧ ((s.queue q).partial_ = some x) ∧ (x.producer = p) ∧ (x.discarding = true) ∧ ((s.queue q).waiting = []) ∧ (1 ≤ cell.length) ∧ (cell.length ≤ 64) ∧ (1 ≤ s.get (F.Q_CFG_MAX_ITEM_CELLS q)) ∧ ((s.queue q).cells + 1 ≤ s.get (F.Q_QUOTA_CELL_QUOTA q))) ∧
    (∃ s : State, ∃ q : Nat, ∃ p : Producer, ∃ x : PartialItem, (q < 4096) ∧ (s.mismatched q = false) ∧ (s.is (F.Q_CFG_ENABLE q) = true) ∧ ((producersOf q).contains p = true) ∧ ((s.queue q).partial_ = some x) ∧ (x.producer ≠ p) ∧ ((s.queue q).waiting.any (fun w => w.producer = p) = false)) ∧
    (∃ s : State, ∃ q : Nat, ∃ p : Producer, ∃ start : Bool, (s.mismatched q = true ∨ (producersOf q).contains p = false ∨ ((s.queue q).partial_ = none ∧ (s.taking q = false ∨ start = false)))) ∧
    (∃ s : State, ∃ q : Nat, ∃ p : PartialItem, (q < 4096) ∧ ((s.queue q).waiting = []) ∧ (s.mismatched q = false) ∧ ((s.queue q).partial_ = some p) ∧ (p.discarding = false) ∧ (s.is (F.Q_CFG_ENABLE q) = true) ∧ ((s.queue q).items.length + (s.queue q).late.length < p.limit) ∧ (s.isolated 3 q = false)) ∧
    (∃ s : State, ∃ q : Nat, ∃ p : PartialItem, (q < 4096) ∧ ((s.queue q).waiting = []) ∧ (s.mismatched q = false) ∧ ((s.queue q).partial_ = some p) ∧ (p.discarding = false)) ∧
    (∃ s : State, ∃ q : Nat, ∃ p : PartialItem, (q < 4096) ∧ ((s.queue q).waiting = []) ∧ (s.mismatched q = false) ∧ ((s.queue q).partial_ = some p) ∧ (p.discarding = false) ∧ (s.is (F.Q_CFG_ENABLE q) = true) ∧ (s.isolated 3 q = true ∨ (p.limit ≤ (s.queue q).items.length + (s.queue q).late.length ∧ s.pending = []))) ∧
    (∃ s : State, ∃ q : Nat, ∃ p : PartialItem, (q < 4096) ∧ ((s.queue q).waiting = []) ∧ (s.mismatched q = false) ∧ ((s.queue q).partial_ = some p) ∧ (p.discarding = false) ∧ (s.is (F.Q_CFG_ENABLE q) = true) ∧ (s.isolated 3 q = false) ∧ (p.limit ≤ (s.queue q).items.length + (s.queue q).late.length) ∧ (s.pending ≠ [])) ∧
    (∃ s : State, ∃ q : Nat, ∃ p : PartialItem, (q < 4096) ∧ ((s.queue q).waiting = []) ∧ (s.mismatched q = false) ∧ ((s.queue q).partial_ = some p) ∧ (p.discarding = true) ∧ (s.is (F.Q_STATUS_FLUSHING q) = true)) ∧
    (∃ s : State, ∃ q : Nat, ∃ p : PartialItem, ∃ w : Waiting, (q < 4096) ∧ (¬ isNotify q) ∧ (s.mismatched q = false) ∧ (s.is (F.Q_CFG_ENABLE q) = true) ∧ ((s.queue q).partial_ = some p) ∧ ((s.queue q).waiting.all (fun x => x.producer ≠ p.producer) = true) ∧ (nextWaiting q (s.queue q).waiting = some w) ∧ (w.ended = none)) ∧
    (∃ s : State, ∃ q : Nat, ∃ p : Producer, ∃ x : PartialItem, (q < 4096) ∧ (s.mismatched q = false) ∧ ((s.queue q).partial_ = some x) ∧ (x.producer ≠ p)) ∧
    (∃ s : State, ∃ q : Nat, (s.mismatched q = true ∨ (s.queue q).partial_ = none)) :=
  ⟨⟨{ State.reset with regs := [(0x8000500, 0x80900400), (0x8000504, 0x400)] }, 5, .signet, by decide +kernel⟩,
   ⟨{ State.reset with regs := [(0x8000500, 0x80900400), (0x8000504, 0x400)], units := { queues := [(5, ({ partial_ := some ({ producer := .signet, item := { data := [] }, cells := 1, maxCells := 2, limit := 4 } : PartialItem) } : QueueUnit))] } }, 5, .signet, ({ producer := .signet, item := { data := [] }, cells := 1, maxCells := 2, limit := 4 } : PartialItem), by decide +kernel⟩,
   ⟨{ State.reset with regs := [(0x8000500, 0x80900400), (0x8000504, 0x400)], units := { queues := [(5, ({ partial_ := some ({ producer := .signet, item := { data := [] }, cells := 2, maxCells := 2, limit := 4 } : PartialItem) } : QueueUnit))] } }, 5, .signet, ({ producer := .signet, item := { data := [] }, cells := 2, maxCells := 2, limit := 4 } : PartialItem), by decide +kernel⟩,
   ⟨{ State.reset with regs := [(0x8000500, 0x80900400), (0x8000504, 1)], units := { queues := [(5, ({ partial_ := some ({ producer := .signet, item := { data := [] }, cells := 1, maxCells := 2, limit := 4 } : PartialItem) } : QueueUnit))] } }, 5, .signet, ({ producer := .signet, item := { data := [] }, cells := 1, maxCells := 2, limit := 4 } : PartialItem), by decide +kernel⟩,
   ⟨{ State.reset with regs := [(0x8000500, 0x80900400), (0x8000504, 0x400)], units := { queues := [(5, ({ partial_ := some ({ producer := .signet, item := { data := [] }, maxCells := 2, limit := 4, discarding := true } : PartialItem) } : QueueUnit))] } }, 5, .signet, ({ producer := .signet, item := { data := [] }, maxCells := 2, limit := 4, discarding := true } : PartialItem), by decide +kernel⟩,
   ⟨{ State.reset with regs := [(0x8000500, 0x80900400), (0x8000504, 0x400)], units := { queues := [(5, ({ partial_ := some ({ producer := .signet, item := { data := [] }, maxCells := 2, limit := 4, discarding := true } : PartialItem) } : QueueUnit))] } }, 5, .signet, [1], ({ producer := .signet, item := { data := [] }, maxCells := 2, limit := 4, discarding := true } : PartialItem), by decide +kernel⟩,
   ⟨{ State.reset with regs := [(0x8000500, 0x80900400), (0x8000504, 0x400)], units := { queues := [(5, ({ partial_ := some ({ producer := .signet, item := { data := [] }, cells := 1, maxCells := 2, limit := 4 } : PartialItem) } : QueueUnit))] } }, 5, .clasp, ({ producer := .signet, item := { data := [] }, cells := 1, maxCells := 2, limit := 4 } : PartialItem), by decide +kernel⟩,
   ⟨State.reset, 5, .signet, true, by decide +kernel⟩,
   ⟨{ State.reset with regs := [(0x8000500, 0x80900400), (0x8000504, 0x400)], units := { queues := [(5, ({ partial_ := some ({ producer := .signet, item := { data := [] }, cells := 1, maxCells := 2, limit := 4 } : PartialItem) } : QueueUnit))] } }, 5, ({ producer := .signet, item := { data := [] }, cells := 1, maxCells := 2, limit := 4 } : PartialItem), by decide +kernel⟩,
   ⟨{ State.reset with regs := [(0x8000500, 0x80900400), (0x8000504, 0x400)], units := { queues := [(5, ({ partial_ := some ({ producer := .signet, item := { data := [] }, cells := 1, maxCells := 2, limit := 4 } : PartialItem) } : QueueUnit))] } }, 5, ({ producer := .signet, item := { data := [] }, cells := 1, maxCells := 2, limit := 4 } : PartialItem), by decide +kernel⟩,
   ⟨{ State.reset with regs := [(0x8000500, 0x80900400), (0x8000504, 0x400)], units := { queues := [(5, ({ partial_ := some ({ producer := .signet, item := { data := [] }, cells := 1, maxCells := 2, limit := 0 } : PartialItem) } : QueueUnit))] } }, 5, ({ producer := .signet, item := { data := [] }, cells := 1, maxCells := 2, limit := 0 } : PartialItem), by decide +kernel⟩,
   ⟨{ State.reset with regs := [(0x8000500, 0x80900400), (0x8000504, 0x400)], units := { queues := [(5, ({ partial_ := some ({ producer := .signet, item := { data := [] }, cells := 1, maxCells := 2, limit := 0 } : PartialItem) } : QueueUnit))] }, pending := [.queuePop 5 true] }, 5, ({ producer := .signet, item := { data := [] }, cells := 1, maxCells := 2, limit := 0 } : PartialItem), by decide +kernel⟩,
   ⟨{ State.reset with regs := [(0x8000500, 0x80900400), (0x8000504, 0x400), (0x08000510, 0x40000)], units := { queues := [(5, ({ partial_ := some ({ producer := .signet, item := { data := [] }, maxCells := 2, limit := 4, discarding := true } : PartialItem) } : QueueUnit))] } }, 5, ({ producer := .signet, item := { data := [] }, maxCells := 2, limit := 4, discarding := true } : PartialItem), by decide +kernel⟩,
   ⟨{ State.reset with regs := [(0x8000500, 0x80900400), (0x8000504, 0x400)], units := { queues := [(5, ({ partial_ := some ({ producer := .signet, item := { data := [] }, cells := 1, maxCells := 2, limit := 4 } : PartialItem), waiting := [{ producer := .clasp, item := { data := [1] }, since := 0 }] } : QueueUnit))] } }, 5, ({ producer := .signet, item := { data := [] }, cells := 1, maxCells := 2, limit := 4 } : PartialItem), { producer := .clasp, item := { data := [1] }, since := 0 }, by decide +kernel⟩,
   ⟨{ State.reset with regs := [(0x8000500, 0x80900400), (0x8000504, 0x400)], units := { queues := [(5, ({ partial_ := some ({ producer := .signet, item := { data := [] }, cells := 1, maxCells := 2, limit := 4 } : PartialItem), waiting := [{ producer := .clasp, item := { data := [1] }, since := 0 }] } : QueueUnit))] } }, 5, .clasp, ({ producer := .signet, item := { data := [] }, cells := 1, maxCells := 2, limit := 4 } : PartialItem), by decide +kernel⟩,
   ⟨State.reset, 5, by decide +kernel⟩⟩

set_option maxRecDepth 20000 in
theorem witness_QueueOutput :
    (∃ s : State, ∃ q : Nat, ∃ i : Item, ∃ b : Nat, ∃ rest : List (Item × Nat), (q < 4096) ∧ (s.mismatched q = false) ∧ ((s.queue q).items = (i, b) :: rest) ∧ (s.poppable q ≠ 0) ∧ ((s.queue q).late = [])) ∧
    (∃ s : State, ∃ q : Nat, ∃ i : Item, ∃ b : Nat, ∃ rest : List (Item × Nat), ∃ j : Item, ∃ jb : Nat, ∃ n : Nat, (q < 4096) ∧ (s.mismatched q = false) ∧ (¬ isNotify q) ∧ ((s.queue q).items = (i, b) :: rest) ∧ (s.poppable q ≠ 0) ∧ ((s.queue q).late = [(j, jb, n)]) ∧ (rest.length < n)) ∧
    (∃ s : State, ∃ q : Nat, ∃ i : Item, ∃ b : Nat, ∃ rest : List (Item × Nat), (q < 4096) ∧ (s.mismatched q = false) ∧ ((s.queue q).items = (i, b) :: rest) ∧ (s.poppable q ≠ 0)) ∧
    (∃ s : State, ∃ q : Nat, (q < 4096) ∧ (s.mismatched q = false) ∧ ((s.queue q).items = [] ∨ s.poppable q = 0)) ∧
    (∃ s : State, ∃ q : Nat, (s.mismatched q = true)) ∧
    (∃ s : State, ∃ q : Nat, ∃ i : Item, ∃ b : Nat, ∃ rest : List (Item × Nat), (q < 4096) ∧ (s.mismatched q = false) ∧ ((s.queue q).heldPop = true) ∧ ((s.queue q).items = (i, b) :: rest) ∧ ((s.queue q).late = [])) ∧
    (∃ s : State, ∃ q : Nat, (s.mismatched q = true ∨ (s.queue q).heldPop = false ∨ (s.queue q).items = [])) ∧
    (∃ reader : Nat, ∃ q : Nat, (q < 4096) ∧ (mayReadNotify reader q = false)) ∧
    (∃ s : State, ∃ reader : Nat, ∃ q : Nat, ∃ offset : Nat, ∃ len : Nat, (q < 4096) ∧ (mayReadNotify reader q = true) ∧ (offset ≠ 0 ∨ len = 0 ∨ s.mismatched q = true)) ∧
    (∃ s : State, ∃ reader : Nat, ∃ q : Nat, ∃ len : Nat, ∃ i : Item, ∃ b : Nat, ∃ rest : List (Item × Nat), (q < 4096) ∧ (mayReadNotify reader q = true) ∧ (s.mismatched q = false) ∧ (len ≠ 0) ∧ ((s.queue q).items = (i, b) :: rest) ∧ (s.poppable q ≠ 0) ∧ ((s.queue q).late = [])) ∧
    (∃ s : State, ∃ reader : Nat, ∃ q : Nat, ∃ len : Nat, (q < 4096) ∧ (mayReadNotify reader q = true) ∧ (s.mismatched q = false) ∧ (len ≠ 0) ∧ ((s.queue q).items = [] ∨ s.poppable q = 0)) :=
  ⟨⟨{ State.reset with regs := [(0x8000500, 0x80900400), (0x8000504, 0x400)], units := { queues := [(5, ({ items := [(({ data := [1, 2, 3] } : Item), 0)] } : QueueUnit))] } }, 5, ({ data := [1, 2, 3] } : Item), 0, [], by decide +kernel⟩,
   ⟨{ State.reset with regs := [(0x8000500, 0x80900400), (0x8000504, 0x400)], units := { queues := [(5, ({ items := [(({ data := [1, 2, 3] } : Item), 0)], late := [(({ data := [1, 2, 3] } : Item), 0, 1)] } : QueueUnit))] } }, 5, ({ data := [1, 2, 3] } : Item), 0, [], ({ data := [1, 2, 3] } : Item), 0, 1, by decide +kernel⟩,
   ⟨{ State.reset with regs := [(0x8000500, 0x80900400), (0x8000504, 0x400)], units := { queues := [(5, ({ items := [(({ data := [1, 2, 3] } : Item), 0)] } : QueueUnit))] } }, 5, ({ data := [1, 2, 3] } : Item), 0, [], by decide +kernel⟩,
   ⟨{ State.reset with regs := [(0x8000500, 0x80900400), (0x8000504, 0x400)] }, 5, by decide +kernel⟩,
   ⟨{ State.reset with regs := [(0x8000500, 0x80900400), (0x8000504, 0x400)], pending := [.pointerMismatch 5] }, 5, by decide +kernel⟩,
   ⟨{ State.reset with regs := [(0x8000500, 0x80900400), (0x8000504, 0x400)], units := { queues := [(5, ({ items := [(({ data := [1, 2, 3] } : Item), 0)], heldPop := true } : QueueUnit))] } }, 5, ({ data := [1, 2, 3] } : Item), 0, [], by decide +kernel⟩,
   ⟨{ State.reset with regs := [(0x8000500, 0x80900400), (0x8000504, 0x400)] }, 5, by decide +kernel⟩,
   ⟨3, 2112, by decide +kernel⟩,
   ⟨State.reset, 0, 2112, 8, 8, by decide +kernel⟩,
   ⟨{ State.reset with regs := [], units := { queues := [(2112, ({ items := [(({ data := [1, 2, 3] } : Item), 0)] } : QueueUnit))] } }, 0, 2112, 32, ({ data := [1, 2, 3] } : Item), 0, [], by decide +kernel⟩,
   ⟨State.reset, 3, 2115, 32, by decide +kernel⟩⟩

set_option maxRecDepth 20000 in
theorem witness_QueueFlushDisableAndReset :
    (∃ s : State, ∃ q : Nat, ∃ w : Nat, ∃ v : Word, (q < 4096) ∧ (s.queuePresent q = true) ∧ (getBits v 0 0 = 1) ∧ (mayCommandQueue q w = true) ∧ (s.is (F.Q_STATUS_FLUSHING q) = false) ∧ (s.pending = []) ∧ (s.mismatched q = false) ∧ ((s.queue q).partial_ = none)) ∧
    (∃ s : State, ∃ q : Nat, ∃ w : Nat, ∃ v : Word, ∃ p : PartialItem, (q < 4096) ∧ (s.queuePresent q = true) ∧ (getBits v 0 0 = 1) ∧ (mayCommandQueue q w = true) ∧ (s.is (F.Q_STATUS_FLUSHING q) = false) ∧ (s.pending = []) ∧ (s.mismatched q = false) ∧ ((s.queue q).partial_ = some p) ∧ (p.discarding = false)) ∧
    (∃ s : State, ∃ q : Nat, ∃ w : Nat, ∃ v : Word, (q < 4096) ∧ (s.queuePresent q = true) ∧ (getBits v 0 0 = 1) ∧ (mayCommandQueue q w = true) ∧ (s.mismatched q = false) ∧ (s.is (F.Q_STATUS_FLUSHING q) = true) ∧ (s.get F.IMG_VOLATILE_WRITES_COUNT + 1 < 2 ^ 47)) ∧
    (∃ s : State, ∃ q : Nat, ∃ w : Nat, ∃ v : Word, (q < 4096) ∧ (s.queuePresent q = true) ∧ (getBits v 0 0 = 1) ∧ (mayCommandQueue q w = true) ∧ (s.mismatched q = false) ∧ (s.is (F.Q_STATUS_FLUSHING q) = false) ∧ (s.pending ≠ [])) ∧
    (∃ s : State, ∃ q : Nat, ∃ w : Nat, ∃ v : Word, (q < 4096) ∧ (s.queuePresent q = true) ∧ (getBits v 0 0 = 1) ∧ (mayCommandQueue q w = false) ∧ (s.get F.IMG_VOLATILE_WRITES_COUNT + 1 < 2 ^ 47)) ∧
    (∃ s : State, ∃ q : Nat, ∃ w : Nat, ∃ v : Word, (s.queuePresent q = false ∨ getBits v 0 0 = 0 ∨ (mayCommandQueue q w = true ∧ s.mismatched q = true)) ∧ (s.get F.IMG_VOLATILE_WRITES_COUNT + 1 < 2 ^ 47)) ∧
    (∃ s : State, ∃ q : Nat, (q < 4096) ∧ (s.queuePresent q = true)) ∧
    (∃ s : State, ∃ q : Nat, ∃ w : Nat, (q < 4096) ∧ (s.queuePresent q = true) ∧ (w ≠ 0)) ∧
    (∃ s : State, ∃ q : Nat, (s.queuePresent q = false) ∧ (s.get F.IMG_VOLATILE_WRITES_COUNT + 1 < 2 ^ 47)) ∧
    (∃ q : Nat, (q < 4096)) :=
  ⟨⟨{ State.reset with regs := [(0x8000500, 0x80900400), (0x8000504, 0x400)], units := { queues := [(5, ({ items := [(({ data := [1, 2, 3] } : Item), 0)] } : QueueUnit))] } }, 5, 0, 1, by decide +kernel⟩,
   ⟨{ State.reset with regs := [(0x8000500, 0x80900400), (0x8000504, 0x400)], units := { queues := [(5, ({ items := [(({ data := [1, 2, 3] } : Item), 0)], partial_ := some ({ producer := .signet, item := { data := [] }, cells := 1, maxCells := 2, limit := 4 } : PartialItem) } : QueueUnit))] } }, 5, 0, 1, ({ producer := .signet, item := { data := [] }, cells := 1, maxCells := 2, limit := 4 } : PartialItem), by decide +kernel⟩,
   ⟨{ State.reset with regs := [(0x8000500, 0x80900400), (0x8000504, 0x400), (0x08000510, 0x40000)] }, 5, 0, 1, by decide +kernel⟩,
   ⟨{ State.reset with regs := [(0x8000500, 0x80900400), (0x8000504, 0x400)], pending := [.queuePop 5 true] }, 5, 0, 1, by decide +kernel⟩,
   ⟨{ State.reset with regs := [(0x8000500, 0x80900400), (0x8000504, 0x400)] }, 5, 3, 1, by decide +kernel⟩,
   ⟨{ State.reset with regs := [(0x8000500, 0x80900400), (0x8000504, 0x400)], part := .iav4010 }, 5, 0, 1, by decide +kernel⟩,
   ⟨{ State.reset with regs := [(0x8000500, 0x80900400), (0x8000504, 0x400)], units := { queues := [(5, ({ items := [(({ data := [1, 2, 3] } : Item), 0)] } : QueueUnit))] } }, 5, by decide +kernel⟩,
   ⟨{ State.reset with regs := [(0x8000500, 0x80900400), (0x8000504, 0x400)] }, 5, 3, by decide +kernel⟩,
   ⟨{ State.reset with regs := [(0x8000500, 0x80900400), (0x8000504, 0x400)], part := .iav4010 }, 5, by decide +kernel⟩,
   ⟨5, by decide +kernel⟩⟩

set_option maxRecDepth 20000 in
theorem witness_GeyserIntervalsAndEvaluation :
    (∃ s : State, (s.intervalReady = some false)) ∧
    (∃ s : State, (s.intervalReady ≠ some false)) ∧
    (∃ s : State, (s.intervalReady = some true)) ∧
    (∃ s : State, (s.intervalReady = some false)) ∧
    (∃ s : State, (s.intervalReady = none)) ∧
    (∃ s : State, ∃ p : Nat, ∃ n : Nat, (s.has 2 = true) ∧ (s.nextEval = some (p, n))) ∧
    (∃ s : State, (s.has 2 = false ∨ s.nextEval = none)) ∧
    (∃ s : State, ∃ p : Nat, (p < 64) ∧ (num (s.liveProg p) 28 2 ≠ 0) ∧ ((s.prog p).tokenAt + tickS / num (s.liveProg p) 28 2 ≤ s.keep.elapsed)) ∧
    (∃ s : State, ∃ p : Nat, (64 ≤ p ∨ num (s.liveProg p) 28 2 = 0 ∨ s.keep.elapsed < (s.prog p).tokenAt + tickS / num (s.liveProg p) 28 2)) :=
  ⟨⟨{ State.reset with regs := [], units := { d0 := 0x1000000 } }, by decide +kernel⟩,
   ⟨State.reset, by decide +kernel⟩,
   ⟨{ State.reset with regs := [((F.TLK_TALKER_STATE_PRESENT 0 1).addr, 0xFFFFFFFFFFFFFFFF), ((F.TLK_STATUS_STATE 0).addr, 0x60000000)], units := { d0 := 0x1000000, talkers := [(1, ({ wm := some 0, heard := true } : TalkerUnit))], lanes := [(0, ({ locked := true } : LaneUnit))] } }, by decide +kernel⟩,
   ⟨{ State.reset with regs := [], units := { d0 := 0x1000000 } }, by decide +kernel⟩,
   ⟨State.reset, by decide +kernel⟩,
   ⟨{ State.reset with regs := [(0x04000008, 0x200000)], units := { d0 := 0x200000 }, force := [(0x04080300, 0x8001010000000000), (0x04080318, 0x0000000000000100), (0x04080340, 0x2000000000000005)] }, 3, 0, by decide +kernel⟩,
   ⟨State.reset, by decide +kernel⟩,
   ⟨{ State.reset with regs := [], keep := { elapsed := tickS }, force := [(0x04080018, 0x0000000000020500)] }, 0, by decide +kernel⟩,
   ⟨State.reset, 0, by decide +kernel⟩⟩

set_option maxRecDepth 20000 in
theorem witness_GeyserCommitsAndInputs :
    (∃ s : State, ∃ p : Nat, ∃ v : Word, (p < 64) ∧ (s.has 2 = true) ∧ (getBits v 0 0 = 1) ∧ (s.is (F.GEY_PROG_STATUS_PENDING p) = true) ∧ (dif s.now (s.get (F.GEY_PROG_APPLY_BOUNDARY p)) < 0) ∧ (s.get F.IMG_VOLATILE_WRITES_COUNT + 1 < 2 ^ 47)) ∧
    (∃ s : State, ∃ p : Nat, ∃ w : Nat, ∃ v : Word, (p < 64) ∧ (s.has 2 = true) ∧ (getBits v 0 0 = 1) ∧ (s.is (F.GEY_PROG_STATUS_PENDING p) = true) ∧ (0 ≤ dif s.now (s.get (F.GEY_PROG_APPLY_BOUNDARY p))) ∧ (s.progResult p w = 0)) ∧
    (∃ s : State, ∃ p : Nat, ∃ w : Nat, ∃ v : Word, (p < 64) ∧ (s.has 2 = true) ∧ (getBits v 0 0 = 1) ∧ (s.is (F.GEY_PROG_STATUS_PENDING p) = false) ∧ (s.progResult p w ≠ 0) ∧ (s.get F.IMG_VOLATILE_WRITES_COUNT + 1 < 2 ^ 47)) ∧
    (∃ s : State, ∃ p : Nat, ∃ w : Nat, ∃ v : Word, (p < 64) ∧ (s.has 2 = true) ∧ (getBits v 0 0 = 1) ∧ (s.is (F.GEY_PROG_STATUS_PENDING p) = false) ∧ (s.progResult p w = 0) ∧ (s.get F.IMG_VOLATILE_WRITES_COUNT + 1 < 2 ^ 47)) ∧
    (∃ s : State, ∃ p : Nat, ∃ v : Word, (64 ≤ p ∨ s.has 2 = false ∨ getBits v 0 0 = 0) ∧ (s.get F.IMG_VOLATILE_WRITES_COUNT + 1 < 2 ^ 47)) ∧
    (∃ s : State, ∃ p : Nat, (p < 64) ∧ (s.is (F.GEY_PROG_STATUS_PENDING p) = true) ∧ (0 ≤ dif s.now (s.get (F.GEY_PROG_APPLY_BOUNDARY p)))) ∧
    (∃ s : State, ∃ p : Nat, (s.is (F.GEY_PROG_STATUS_PENDING p) = false ∨ dif s.now (s.get (F.GEY_PROG_APPLY_BOUNDARY p)) < 0)) ∧
    (∃ s : State, ∃ p : Nat, ∃ w : Nat, ∃ v : Word, (p < 64) ∧ (s.has 2 = true) ∧ (getBits v 1 1 = 1) ∧ (w = 0 ∨ w = s.get (F.GEY_PROG_OWNER_TENANT p)) ∧ (s.testedLate 0x200 p (s.get (F.GEY_PROG_SOFT_TIME_TIME p)) = false)) ∧
    (∃ s : State, ∃ p : Nat, ∃ w : Nat, ∃ v : Word, (p < 64) ∧ (s.has 2 = true) ∧ (getBits v 1 1 = 1) ∧ (w = 0 ∨ w = s.get (F.GEY_PROG_OWNER_TENANT p)) ∧ (s.testedLate 0x200 p (s.get (F.GEY_PROG_SOFT_TIME_TIME p)) = true) ∧ (s.get F.IMG_VOLATILE_WRITES_COUNT + 1 < 2 ^ 47)) ∧
    (∃ s : State, ∃ p : Nat, ∃ w : Nat, ∃ v : Word, (p < 64) ∧ (s.has 2 = true) ∧ (getBits v 1 1 = 1) ∧ (w ≠ 0) ∧ (w ≠ s.get (F.GEY_PROG_OWNER_TENANT p)) ∧ (s.get F.IMG_VOLATILE_WRITES_COUNT + 1 < 2 ^ 47)) ∧
    (∃ s : State, ∃ p : Nat, ∃ v : Word, (64 ≤ p ∨ s.has 2 = false ∨ getBits v 1 1 = 0) ∧ (s.get F.IMG_VOLATILE_WRITES_COUNT + 1 < 2 ^ 47)) ∧
    (∃ s : State, ∃ msg : List Byte, (s.floodTag 1 ((fit 64 msg).take 48) ≠ some ((fit 64 msg).drop 48))) ∧
    (∃ s : State, ∃ m : List Byte, ∃ tag : List Byte, (m.length = 48) ∧ (s.floodTag 1 m = some tag) ∧ (num m 32 4 < s.heldIncarnation (num m 4 2 % 16384))) ∧
    (∃ s : State, ∃ m : List Byte, ∃ tag : List Byte, (m.length = 48) ∧ (s.floodTag 1 m = some tag) ∧ (s.heldIncarnation (num m 4 2 % 16384) ≤ num m 32 4) ∧ (num m 4 2 % 16384 = s.device)) ∧
    (∃ s : State, ∃ m : List Byte, ∃ tag : List Byte, (m.length = 48) ∧ (s.floodTag 1 m = some tag) ∧ (s.heldIncarnation (num m 4 2 % 16384) ≤ num m 32 4) ∧ (num m 4 2 % 16384 ≠ s.device) ∧ ((Sparse.get (fun _ => (65536, 0)) s.units.bcastSeen (num m 4 2 % 16384)).1 ≠ 65536) ∧ (classify (Sparse.get (fun _ => (65536, 0)) s.units.bcastSeen (num m 4 2 % 16384)).1 (Sparse.get (fun _ => (65536, 0)) s.units.bcastSeen (num m 4 2 % 16384)).2 (num m 6 2) = .duplicate)) ∧
    (∃ s : State, ∃ m : List Byte, ∃ tag : List Byte, (m.length = 48) ∧ (s.floodTag 1 m = some tag) ∧ (s.heldIncarnation (num m 4 2 % 16384) ≤ num m 32 4) ∧ (num m 4 2 % 16384 ≠ s.device) ∧ ((Sparse.get (fun _ => (65536, 0)) s.units.bcastSeen (num m 4 2 % 16384)).1 = 65536) ∧ (num m 0 1 = 1) ∧ (s.is (F.GEY_CHANNEL_MAP_ENABLE (num m 3 1)) = false)) ∧
    (∃ s : State, ∃ m : List Byte, ∃ tag : List Byte, (m.length = 48) ∧ (s.floodTag 1 m = some tag) ∧ (s.heldIncarnation (num m 4 2 % 16384) ≤ num m 32 4) ∧ (num m 4 2 % 16384 ≠ s.device) ∧ ((Sparse.get (fun _ => (65536, 0)) s.units.bcastSeen (num m 4 2 % 16384)).1 = 65536) ∧ (num m 0 1 = 2) ∧ (s.has 2 = true) ∧ ((List.range 64).all (fun p => !s.testedLate (0x100 + num m 3 1) p (num m 8 8)) = true)) ∧
    (∃ s : State, ∃ m : List Byte, ∃ tag : List Byte, (m.length = 48) ∧ (s.floodTag 1 m = some tag) ∧ (s.heldIncarnation (num m 4 2 % 16384) ≤ num m 32 4) ∧ (num m 4 2 % 16384 ≠ s.device) ∧ ((Sparse.get (fun _ => (65536, 0)) s.units.bcastSeen (num m 4 2 % 16384)).1 = 65536) ∧ (num m 0 1 = 1) ∧ (s.is (F.GEY_CHANNEL_MAP_ENABLE (num m 3 1)) = true) ∧ (dif s.now (num m 16 8) ≤ 0)) :=
  ⟨⟨{ State.reset with regs := [(0x04084004, 0x20000000), ((F.GEY_PROG_APPLY_BOUNDARY 0).addr, 5)] }, 0, 1, by decide +kernel⟩,
   ⟨{ State.reset with regs := [(0x04084004, 0x20000000)] }, 0, 0, 1, by decide +kernel⟩,
   ⟨{ State.reset with regs := [(0x04080000, 0x8000000000000000)] }, 0, 0, 1, by decide +kernel⟩,
   ⟨State.reset, 0, 0, 1, by decide +kernel⟩,
   ⟨State.reset, 0, 2, by decide +kernel⟩,
   ⟨{ State.reset with regs := [(0x04084004, 0x20000000), (0x04080018, 0x0000000000020500)] }, 0, by decide +kernel⟩,
   ⟨State.reset, 0, by decide +kernel⟩,
   ⟨State.reset, 0, 0, 2, by decide +kernel⟩,
   ⟨{ State.reset with regs := [], units := { programs := [(0, ({ next := 0x200000 } : ProgUnit))] }, force := [(0x04080000, 0x8001010000000000), (0x04080040, 0x4000020000000001)] }, 0, 0, 2, by decide +kernel⟩,
   ⟨State.reset, 0, 3, 2, by decide +kernel⟩,
   ⟨State.reset, 0, 1, by decide +kernel⟩,
   ⟨State.reset, [], by decide +kernel⟩,
   by
    refine ⟨{ State.reset with regs := [((F.SIG_KEY_INFO_VALID 0).addr, BitVec.ofNat 64 ((1 <<< (F.SIG_KEY_INFO_VALID 0).lsb) + (5 <<< (F.SIG_KEY_INFO_USAGE 0).lsb))), ((F.SUP_INCARNATION_INCARNATION 0).addr, 0xFFFFFFFFFFFFFFFF)] }, zeros 48, (State.floodTag ({ State.reset with regs := [((F.SIG_KEY_INFO_VALID 0).addr, BitVec.ofNat 64 ((1 <<< (F.SIG_KEY_INFO_VALID 0).lsb) + (5 <<< (F.SIG_KEY_INFO_USAGE 0).lsb))), ((F.SUP_INCARNATION_INCARNATION 0).addr, 0xFFFFFFFFFFFFFFFF)] }) 1 (zeros 48)).getD [], ?_⟩
    and_intros
    all_goals first | exact (eq_getD (by decide +kernel)) | decide +kernel,
   by
    refine ⟨{ State.reset with regs := [((F.SIG_KEY_INFO_VALID 0).addr, BitVec.ofNat 64 ((1 <<< (F.SIG_KEY_INFO_VALID 0).lsb) + (5 <<< (F.SIG_KEY_INFO_USAGE 0).lsb)))] }, zeros 48, (State.floodTag ({ State.reset with regs := [((F.SIG_KEY_INFO_VALID 0).addr, BitVec.ofNat 64 ((1 <<< (F.SIG_KEY_INFO_VALID 0).lsb) + (5 <<< (F.SIG_KEY_INFO_USAGE 0).lsb)))] }) 1 (zeros 48)).getD [], ?_⟩
    and_intros
    all_goals first | exact (eq_getD (by decide +kernel)) | decide +kernel,
   by
    refine ⟨{ State.reset with regs := [((F.SIG_KEY_INFO_VALID 0).addr, BitVec.ofNat 64 ((1 <<< (F.SIG_KEY_INFO_VALID 0).lsb) + (5 <<< (F.SIG_KEY_INFO_USAGE 0).lsb)))], units := { bcastSeen := [(1, (0, 0))] } }, zeros 5 ++ [1] ++ zeros 42, (State.floodTag ({ State.reset with regs := [((F.SIG_KEY_INFO_VALID 0).addr, BitVec.ofNat 64 ((1 <<< (F.SIG_KEY_INFO_VALID 0).lsb) + (5 <<< (F.SIG_KEY_INFO_USAGE 0).lsb)))], units := { bcastSeen := [(1, (0, 0))] } }) 1 (zeros 5 ++ [1] ++ zeros 42)).getD [], ?_⟩
    and_intros
    all_goals first | exact (eq_getD (by decide +kernel)) | decide +kernel,
   by
    refine ⟨{ State.reset with regs := [((F.SIG_KEY_INFO_VALID 0).addr, BitVec.ofNat 64 ((1 <<< (F.SIG_KEY_INFO_VALID 0).lsb) + (5 <<< (F.SIG_KEY_INFO_USAGE 0).lsb)))] }, [1] ++ zeros 4 ++ [1] ++ zeros 42, (State.floodTag ({ State.reset with regs := [((F.SIG_KEY_INFO_VALID 0).addr, BitVec.ofNat 64 ((1 <<< (F.SIG_KEY_INFO_VALID 0).lsb) + (5 <<< (F.SIG_KEY_INFO_USAGE 0).lsb)))] }) 1 ([1] ++ zeros 4 ++ [1] ++ zeros 42)).getD [], ?_⟩
    and_intros
    all_goals first | exact (eq_getD (by decide +kernel)) | decide +kernel,
   by
    refine ⟨{ State.reset with regs := [((F.SIG_KEY_INFO_VALID 0).addr, BitVec.ofNat 64 ((1 <<< (F.SIG_KEY_INFO_VALID 0).lsb) + (5 <<< (F.SIG_KEY_INFO_USAGE 0).lsb)))] }, [2] ++ zeros 4 ++ [1] ++ zeros 42, (State.floodTag ({ State.reset with regs := [((F.SIG_KEY_INFO_VALID 0).addr, BitVec.ofNat 64 ((1 <<< (F.SIG_KEY_INFO_VALID 0).lsb) + (5 <<< (F.SIG_KEY_INFO_USAGE 0).lsb)))] }) 1 ([2] ++ zeros 4 ++ [1] ++ zeros 42)).getD [], ?_⟩
    and_intros
    all_goals first | exact (eq_getD (by decide +kernel)) | decide +kernel,
   by
    refine ⟨{ State.reset with regs := [((F.SIG_KEY_INFO_VALID 0).addr, BitVec.ofNat 64 ((1 <<< (F.SIG_KEY_INFO_VALID 0).lsb) + (5 <<< (F.SIG_KEY_INFO_USAGE 0).lsb))), (0x04001000, 0x80000000)] }, [1] ++ zeros 4 ++ [1] ++ zeros 42, (State.floodTag ({ State.reset with regs := [((F.SIG_KEY_INFO_VALID 0).addr, BitVec.ofNat 64 ((1 <<< (F.SIG_KEY_INFO_VALID 0).lsb) + (5 <<< (F.SIG_KEY_INFO_USAGE 0).lsb))), (0x04001000, 0x80000000)] }) 1 ([1] ++ zeros 4 ++ [1] ++ zeros 42)).getD [], ?_⟩
    and_intros
    all_goals first | exact (eq_getD (by decide +kernel)) | decide +kernel⟩

set_option maxRecDepth 20000 in
theorem witness_FreezesAndReadouts :
    (∃ s : State, ∃ f : Freeze, (s.dueFreeze = some f) ∧ (s.pending = []) ∧ (f.slot = none)) ∧
    (∃ s : State, ∃ f : Freeze, (s.dueFreeze = some f) ∧ (s.pending = []) ∧ (f.slot.isSome = true) ∧ ((s.units.freezes.filter (fun g => g.id = f.id)).length = 1)) ∧
    (∃ s : State, (s.dueFreeze.isSome = true) ∧ (s.pending ≠ [])) ∧
    (∃ s : State, (s.dueFreeze = none)) ∧
    (∃ s : State, ∃ slot : Nat, ∃ f : Freeze, (s.freezeIn slot = some f) ∧ (s.freezeDone f = true)) ∧
    (∃ s : State, ∃ slot : Nat, (∀ f ∈ s.freezeIn slot, s.freezeDone f = false)) ∧
    (∃ s : State, ∃ st : Nat, ∃ f : Freeze, (st < 8192) ∧ (s.nextReadout st = some f)) ∧
    (∃ s : State, ∃ st : Nat, (s.nextReadout st = none)) ∧
    (∃ s : State, ∃ st : Nat, ∃ f : Freeze, (st < 8192) ∧ (s.units.freezes.find? (fun f => f.state = 4 && f.stream = st) = some f)) ∧
    (∃ s : State, ∃ st : Nat, (s.units.freezes.find? (fun f => f.state = 4 && f.stream = st) = none)) :=
  ⟨⟨{ State.reset with regs := [], units := { d0 := 9, freezeCount := 4, freezes := [({ id := 3, slot := none, state := 1, program := 1, channel := 0, rflags := 0, origin := 0, seq := 0, incarnation := 0, t := 0, launch := 0, preNs := 0, postNs := 0, start := 0, stop := 5, terms := 0, stream := 9, scopeValue := 0, scopeMask := 0, group := 0, outMask := 0, owner := 0 } : Freeze)] } }, ({ id := 3, slot := none, state := 1, program := 1, channel := 0, rflags := 0, origin := 0, seq := 0, incarnation := 0, t := 0, launch := 0, preNs := 0, postNs := 0, start := 0, stop := 5, terms := 0, stream := 9, scopeValue := 0, scopeMask := 0, group := 0, outMask := 0, owner := 0 } : Freeze), by decide +kernel⟩,
   ⟨{ State.reset with regs := [], units := { d0 := 9, freezeCount := 4, freezes := [({ id := 3, slot := some 7, state := 1, program := 1, channel := 0, rflags := 0, origin := 0, seq := 0, incarnation := 0, t := 0, launch := 0, preNs := 0, postNs := 0, start := 0, stop := 5, terms := 0, stream := 9, scopeValue := 0, scopeMask := 0, group := 0, outMask := 0, owner := 0 } : Freeze)] } }, ({ id := 3, slot := some 7, state := 1, program := 1, channel := 0, rflags := 0, origin := 0, seq := 0, incarnation := 0, t := 0, launch := 0, preNs := 0, postNs := 0, start := 0, stop := 5, terms := 0, stream := 9, scopeValue := 0, scopeMask := 0, group := 0, outMask := 0, owner := 0 } : Freeze), by decide +kernel⟩,
   ⟨{ State.reset with regs := [], units := { d0 := 9, freezeCount := 4, freezes := [({ id := 3, slot := some 7, state := 1, program := 1, channel := 0, rflags := 0, origin := 0, seq := 0, incarnation := 0, t := 0, launch := 0, preNs := 0, postNs := 0, start := 0, stop := 5, terms := 0, stream := 9, scopeValue := 0, scopeMask := 0, group := 0, outMask := 0, owner := 0 } : Freeze)] }, pending := [.stratumEmit 0] }, by decide +kernel⟩,
   ⟨State.reset, by decide +kernel⟩,
   ⟨{ State.reset with regs := [], units := { d0 := 0x10000000000, freezes := [({ id := 3, slot := some 7, state := 2, program := 1, channel := 0, rflags := 0, origin := 0, seq := 0, incarnation := 0, t := 0, launch := 0, preNs := 0, postNs := 0, start := 0, stop := 5, terms := 0, stream := 9, scopeValue := 0, scopeMask := 0, group := 0, outMask := 0, owner := 0 } : Freeze)], ring := [{ holds := [3] }] } }, 7, ({ id := 3, slot := some 7, state := 2, program := 1, channel := 0, rflags := 0, origin := 0, seq := 0, incarnation := 0, t := 0, launch := 0, preNs := 0, postNs := 0, start := 0, stop := 5, terms := 0, stream := 9, scopeValue := 0, scopeMask := 0, group := 0, outMask := 0, owner := 0 } : Freeze), by decide +kernel⟩,
   ⟨State.reset, 7, by decide +kernel⟩,
   ⟨{ State.reset with regs := [], units := { d0 := 9, freezes := [({ id := 3, slot := some 7, state := 3, program := 1, channel := 0, rflags := 0, origin := 0, seq := 0, incarnation := 0, t := 0, launch := 0, preNs := 0, postNs := 0, start := 0, stop := 5, terms := 0, stream := 9, scopeValue := 0, scopeMask := 0, group := 0, outMask := 0, owner := 0 } : Freeze)] } }, 9, ({ id := 3, slot := some 7, state := 3, program := 1, channel := 0, rflags := 0, origin := 0, seq := 0, incarnation := 0, t := 0, launch := 0, preNs := 0, postNs := 0, start := 0, stop := 5, terms := 0, stream := 9, scopeValue := 0, scopeMask := 0, group := 0, outMask := 0, owner := 0 } : Freeze), by decide +kernel⟩,
   ⟨State.reset, 9, by decide +kernel⟩,
   ⟨{ State.reset with regs := [], units := { d0 := 9, freezes := [({ id := 3, slot := some 7, state := 4, program := 1, channel := 0, rflags := 0, origin := 0, seq := 0, incarnation := 0, t := 0, launch := 0, preNs := 0, postNs := 0, start := 0, stop := 5, terms := 0, stream := 9, scopeValue := 0, scopeMask := 0, group := 0, outMask := 0, owner := 0 } : Freeze)], ring := [{ holds := [3] }] } }, 9, ({ id := 3, slot := some 7, state := 4, program := 1, channel := 0, rflags := 0, origin := 0, seq := 0, incarnation := 0, t := 0, launch := 0, preNs := 0, postNs := 0, start := 0, stop := 5, terms := 0, stream := 9, scopeValue := 0, scopeMask := 0, group := 0, outMask := 0, owner := 0 } : Freeze), by decide +kernel⟩,
   ⟨State.reset, 9, by decide +kernel⟩⟩

set_option maxRecDepth 20000 in
theorem witness_StorePorts :
    (∃ s : State, (s.part.storePorts ≠ 0) ∧ (s.storeState = 1) ∧ (s.setLabel = none)) ∧
    (∃ s : State, ∃ l : DriveLabel, (s.part.storePorts ≠ 0) ∧ (s.storeState = 1) ∧ (s.setLabel = some l) ∧ (s.usable l.keyIndex 4 0 = none)) ∧
    (∃ s : State, ∃ l : DriveLabel, ∃ k : List Byte, (s.part.storePorts ≠ 0) ∧ (s.storeState = 1) ∧ (s.setLabel = some l) ∧ (s.usable l.keyIndex 4 0 = some k) ∧ (keyCheck k = l.keyCheck) ∧ ((List.range 16).any (fun q => (s.driveAt q).any (fun d => ownMember l.setId q d && l.mask.testBit q && (snapshotsOf d).any (fun x => x.1.setId = l.setId))) = true)) ∧
    (∃ s : State, (s.part.storePorts = 0 ∨ s.storeState ≠ 1)) ∧
    (∃ s : State, ∃ q : Nat, (s.hasStore q = true) ∧ ((s.bay q).present = true) ∧ (s.storeStarted = true)) ∧
    (∃ s : State, ∃ q : Nat, (s.hasStore q = true) ∧ ((s.bay q).present = true) ∧ (s.storeStarted = false)) ∧
    (∃ s : State, ∃ q : Nat, (s.hasStore q = false ∨ (s.bay q).present = false)) ∧
    (∃ s : State, ∃ q : Nat, (s.hasStore q = true) ∧ (s.storeStarted = true) ∧ (s.isolated 6 q = false)) ∧
    (∃ s : State, ∃ q : Nat, (s.hasStore q = true) ∧ (s.storeStarted = false ∨ s.isolated 6 q = true)) ∧
    (∃ s : State, ∃ q : Nat, (s.hasStore q = false)) ∧
    (∃ s : State, ∃ q : Nat, (s.hasStore q = true) ∧ (s.storeStarted = true) ∧ (s.units.store.perstHigh.contains q = true)) ∧
    (∃ s : State, ∃ q : Nat, (s.hasStore q = false ∨ s.storeStarted = false ∨ s.units.store.perstHigh.contains q = false)) ∧
    (∃ s : State, ∃ q : Nat, (s.hasStore q = true) ∧ (s.members.contains q = true) ∧ (s.working q = true)) ∧
    (∃ s : State, ∃ q : Nat, (s.hasStore q = false ∨ s.members.contains q = false ∨ s.working q = false)) :=
  ⟨⟨{ State.reset with regs := [((F.LKT_STATUS_STATE).addr, BitVec.ofNat 64 (1 <<< (F.LKT_STATUS_STATE).lsb))], keep := { bays := [(0, ({ drive := some ({ lbas := 2097152 } : StoreDrive), present := true } : Bay))] } }, by decide +kernel⟩,
   by
    refine ⟨{ State.reset with regs := [((F.LKT_STATUS_STATE).addr, BitVec.ofNat 64 (1 <<< (F.LKT_STATUS_STATE).lsb))], keep := { bays := [(0, ({ drive := some ({ lbas := 2097152, label := some ({ guarded := false, member := 0, setId := 7, mask := 1, keyIndex := 0, rows := 4, windows := 1, spills := 1, keyCheck := [], created := 0, device := 0 } : DriveLabel), slotA := some ({ generation := 1, point := 0, next := 0, setId := 7, recs := [] } : Snapshot) } : StoreDrive), present := true } : Bay))] } }, ({ guarded := false, member := 0, setId := 7, mask := 1, keyIndex := 0, rows := 4, windows := 1, spills := 1, keyCheck := [], created := 0, device := 0 } : DriveLabel), ?_⟩
    and_intros
    all_goals first | exact (rfl) | decide +kernel,
   by
    refine ⟨{ State.reset with regs := [((F.LKT_STATUS_STATE).addr, BitVec.ofNat 64 (1 <<< (F.LKT_STATUS_STATE).lsb)), ((F.SIG_KEY_INFO_VALID 0).addr, BitVec.ofNat 64 ((1 <<< (F.SIG_KEY_INFO_VALID 0).lsb) + (4 <<< (F.SIG_KEY_INFO_USAGE 0).lsb)))], keep := { bays := [(0, ({ drive := some ({ lbas := 2097152, label := some ({ guarded := false, member := 0, setId := 7, mask := 1, keyIndex := 0, rows := 4, windows := 1, spills := 1, keyCheck := keyCheck [], created := 0, device := 0 } : DriveLabel), slotA := some ({ generation := 1, point := 0, next := 0, setId := 7, recs := [] } : Snapshot) } : StoreDrive), present := true } : Bay))] } }, ({ guarded := false, member := 0, setId := 7, mask := 1, keyIndex := 0, rows := 4, windows := 1, spills := 1, keyCheck := keyCheck [], created := 0, device := 0 } : DriveLabel), [], ?_⟩
    and_intros
    all_goals first | exact (rfl) | decide +kernel,
   ⟨{ State.reset with regs := [((F.LKT_STATUS_STATE).addr, BitVec.ofNat 64 (3 <<< (F.LKT_STATUS_STATE).lsb))] }, by decide +kernel⟩,
   ⟨{ State.reset with regs := [((F.PWR_STATUS_LOCAL_READY).addr, BitVec.ofNat 64 (1 <<< (F.PWR_STATUS_LOCAL_READY).lsb)), ((F.LKT_GEOMETRY_MEMBER_MASK).addr, BitVec.ofNat 64 (1 <<< (F.LKT_GEOMETRY_MEMBER_MASK).lsb))], keep := { bays := [(0, ({ drive := some ({ lbas := 2097152 } : StoreDrive), present := true } : Bay))] }, units := { store := ({ refclk := true, perstHigh := [0] } : Store) } }, 0, by decide +kernel⟩,
   ⟨{ State.reset with regs := [], keep := { bays := [(0, ({ drive := some ({ lbas := 2097152 } : StoreDrive), present := true } : Bay))] } }, 0, by decide +kernel⟩,
   ⟨State.reset, 0, by decide +kernel⟩,
   ⟨{ State.reset with regs := [((F.PWR_STATUS_LOCAL_READY).addr, BitVec.ofNat 64 (1 <<< (F.PWR_STATUS_LOCAL_READY).lsb)), ((F.LKT_GEOMETRY_MEMBER_MASK).addr, BitVec.ofNat 64 (1 <<< (F.LKT_GEOMETRY_MEMBER_MASK).lsb))], units := { store := ({ refclk := true } : Store) } }, 0, by decide +kernel⟩,
   ⟨State.reset, 0, by decide +kernel⟩,
   ⟨State.reset, 16, by decide +kernel⟩,
   ⟨{ State.reset with regs := [((F.PWR_STATUS_LOCAL_READY).addr, BitVec.ofNat 64 (1 <<< (F.PWR_STATUS_LOCAL_READY).lsb))], keep := { bays := [(0, ({ drive := some ({ lbas := 2097152 } : StoreDrive), present := true } : Bay))] }, units := { store := ({ refclk := true, perstHigh := [0] } : Store) } }, 0, by decide +kernel⟩,
   ⟨State.reset, 0, by decide +kernel⟩,
   ⟨{ State.reset with regs := [((F.LKT_GEOMETRY_MEMBER_MASK).addr, BitVec.ofNat 64 (1 <<< (F.LKT_GEOMETRY_MEMBER_MASK).lsb)), ((F.LKT_PORT_STATUS_STATE 0).addr, BitVec.ofNat 64 (2 <<< (F.LKT_PORT_STATUS_STATE 0).lsb))], keep := { bays := [(0, ({ drive := some ({ lbas := 2097152 } : StoreDrive), present := true } : Bay))] } }, 0, by decide +kernel⟩,
   ⟨State.reset, 0, by decide +kernel⟩⟩

set_option maxRecDepth 20000 in
theorem witness_StoreWrites :
    (∃ s : State, ∃ f : StoreFrame, ∃ rest : List StoreFrame, (s.units.storeIn = f :: rest) ∧ (s.part.storePorts = 0)) ∧
    (∃ s : State, ∃ f : StoreFrame, ∃ rest : List StoreFrame, (s.units.storeIn = f :: rest) ∧ (s.part.storePorts ≠ 0) ∧ (s.storeState < 3 ∨ 5 < s.storeState)) ∧
    (∃ s : State, ∃ o : Bool, ∃ f : StoreFrame, ∃ rest : List StoreFrame, (s.units.storeIn = f :: rest) ∧ (s.part.storePorts ≠ 0) ∧ (s.storeState = 5 ∨ (o = true ∧ (s.storeState = 3 ∨ s.storeState = 4) ∧ s.units.store.nextBlock - s.units.store.snapNext < 1048576))) ∧
    (∃ s : State, ∃ f : StoreFrame, ∃ rest : List StoreFrame, (s.units.storeIn = f :: rest) ∧ (s.part.storePorts ≠ 0) ∧ (s.storeState = 3 ∨ s.storeState = 4) ∧ (s.units.store.nextBlock - s.units.store.snapNext < 1048576) ∧ (f.spill = none) ∧ (s.readoutStream f.item.stream = false) ∧ (f.item.stream < 8192) ∧ (s.get (F.LKT_STREAM_CFG_RING_STRIPES f.item.stream) = 0)) ∧
    (∃ s : State, ∃ f : StoreFrame, ∃ rest : List StoreFrame, ∃ o : OpenStripe, ∃ n : OpenStripe, (s.units.storeIn = f :: rest) ∧ (s.part.storePorts ≠ 0) ∧ (s.storeState = 3 ∨ s.storeState = 4) ∧ (s.units.store.nextBlock - s.units.store.snapNext < 1048576) ∧ (f.spill = none) ∧ (s.readoutStream f.item.stream = false) ∧ (s.get (F.LKT_STREAM_CFG_RING_STRIPES f.item.stream) ≠ 0) ∧ (s.units.store.openFor 0 f.item.stream = some o) ∧ (o.add { rkind := 1, prio := f.prio, item := f.item } = some n)) ∧
    (∃ s : State, ∃ f : StoreFrame, ∃ rest : List StoreFrame, ∃ l : Nat, ∃ n : Nat, (s.units.storeIn = f :: rest) ∧ (s.part.storePorts ≠ 0) ∧ (s.storeState = 3 ∨ s.storeState = 4) ∧ (s.units.store.nextBlock - s.units.store.snapNext < 1048576) ∧ (f.spill = some (l, n))) ∧
    (∃ s : State, ∃ f : StoreFrame, ∃ rest : List StoreFrame, (s.units.storeIn = f :: rest)) ∧
    (∃ s : State, (s.units.storeIn = [])) ∧
    (∃ s : State, ∃ st : Nat, ∃ o : OpenStripe, (st < 8192) ∧ (s.units.store.openFor 0 st = some o) ∧ (s.get (F.LKT_STREAM_CFG_COMMIT_MS st) ≠ 0) ∧ (o.since + s.get (F.LKT_STREAM_CFG_COMMIT_MS st) * tickMs ≤ s.keep.elapsed)) ∧
    (∃ s : State, ∃ st : Nat, (s.units.store.openFor 0 st = none ∨ s.get (F.LKT_STREAM_CFG_COMMIT_MS st) = 0 ∨ (∀ o ∈ s.units.store.openFor 0 st, s.keep.elapsed < o.since + s.get (F.LKT_STREAM_CFG_COMMIT_MS st) * tickMs))) ∧
    (∃ s : State, (s.units.store.records ≠ [])) ∧
    (∃ s : State, (s.units.store.records = [])) ∧
    (∃ s : State, ∃ b : JournalBlock, ∃ rest : List JournalBlock, (s.units.store.flight = b :: rest)) ∧
    (∃ s : State, (s.units.store.flight = [])) ∧
    (∃ s : State, ∃ n : Nat, ∃ w : Nat, ∃ v : Word, (s.part.storePorts ≠ 0) ∧ (n < 4096) ∧ (getBits v 0 0 = 1) ∧ (s.ownsWrite w (F.LKT_WINDOW_CTRL_RELEASE n).addr = true) ∧ (s.get (F.LKT_WINDOW_W0_STATE n) = 2)) ∧
    (∃ s : State, ∃ n : Nat, ∃ w : Nat, ∃ v : Word, (s.part.storePorts ≠ 0) ∧ (n < 4096) ∧ (getBits v 0 0 = 1) ∧ (s.ownsWrite w (F.LKT_WINDOW_CTRL_RELEASE n).addr = false) ∧ (s.get F.IMG_VOLATILE_WRITES_COUNT + 1 < 2 ^ 47)) ∧
    (∃ s : State, ∃ n : Nat, ∃ w : Nat, ∃ v : Word, (s.part.storePorts = 0 ∨ 4096 ≤ n ∨ getBits v 0 0 = 0 ∨ (s.ownsWrite w (F.LKT_WINDOW_CTRL_RELEASE n).addr = true ∧ s.get (F.LKT_WINDOW_W0_STATE n) ≠ 2)) ∧ (s.get F.IMG_VOLATILE_WRITES_COUNT + 1 < 2 ^ 47)) :=
  ⟨⟨{ State.reset with regs := [], units := { storeIn := [({ spill := none, item := ({ data := zeros 48, kind := .sealed, stream := 5 } : Item) } : StoreFrame)] }, part := .iav4410 }, ({ spill := none, item := ({ data := zeros 48, kind := .sealed, stream := 5 } : Item) } : StoreFrame), [], by decide +kernel⟩,
   ⟨{ State.reset with regs := [], units := { storeIn := [({ spill := none, item := ({ data := zeros 48, kind := .sealed, stream := 5 } : Item) } : StoreFrame)] } }, ({ spill := none, item := ({ data := zeros 48, kind := .sealed, stream := 5 } : Item) } : StoreFrame), [], by decide +kernel⟩,
   ⟨{ State.reset with regs := [((F.LKT_STATUS_STATE).addr, BitVec.ofNat 64 (3 <<< (F.LKT_STATUS_STATE).lsb))], units := { storeIn := [({ spill := none, item := ({ data := zeros 48, kind := .sealed, stream := 5 } : Item) } : StoreFrame)] } }, true, ({ spill := none, item := ({ data := zeros 48, kind := .sealed, stream := 5 } : Item) } : StoreFrame), [], by decide +kernel⟩,
   ⟨{ State.reset with regs := [((F.LKT_STATUS_STATE).addr, BitVec.ofNat 64 (3 <<< (F.LKT_STATUS_STATE).lsb))], units := { storeIn := [({ spill := none, item := ({ data := zeros 48, kind := .sealed, stream := 5 } : Item) } : StoreFrame)] } }, ({ spill := none, item := ({ data := zeros 48, kind := .sealed, stream := 5 } : Item) } : StoreFrame), [], by decide +kernel⟩,
   ⟨{ State.reset with regs := [((F.LKT_STATUS_STATE).addr, BitVec.ofNat 64 (3 <<< (F.LKT_STATUS_STATE).lsb)), ((F.LKT_STREAM_CFG_RING_STRIPES 5).addr, BitVec.ofNat 64 (4 <<< (F.LKT_STREAM_CFG_RING_STRIPES 5).lsb))], units := { store := ({ opens := [({ stripe := 2, pool := 0, subject := 5, ports := [0], chunks := [[({ rkind := 1, prio := 0, item := ({ data := zeros 48, kind := .sealed, stream := 5 } : Item) } : StoredRec)]], since := 0 } : OpenStripe)] } : Store), storeIn := [({ spill := none, item := ({ data := zeros 48, kind := .sealed, stream := 5 } : Item) } : StoreFrame)] } }, ({ spill := none, item := ({ data := zeros 48, kind := .sealed, stream := 5 } : Item) } : StoreFrame), [], ({ stripe := 2, pool := 0, subject := 5, ports := [0], chunks := [[({ rkind := 1, prio := 0, item := ({ data := zeros 48, kind := .sealed, stream := 5 } : Item) } : StoredRec)]], since := 0 } : OpenStripe), (OpenStripe.add ({ stripe := 2, pool := 0, subject := 5, ports := [0], chunks := [[({ rkind := 1, prio := 0, item := ({ data := zeros 48, kind := .sealed, stream := 5 } : Item) } : StoredRec)]], since := 0 } : OpenStripe) ({ rkind := 1, prio := 0, item := ({ data := zeros 48, kind := .sealed, stream := 5 } : Item) } : StoredRec)).getD ({ stripe := 2, pool := 0, subject := 5, ports := [0], chunks := [[({ rkind := 1, prio := 0, item := ({ data := zeros 48, kind := .sealed, stream := 5 } : Item) } : StoredRec)]], since := 0 } : OpenStripe), by decide +kernel⟩,
   ⟨{ State.reset with regs := [((F.LKT_STATUS_STATE).addr, BitVec.ofNat 64 (3 <<< (F.LKT_STATUS_STATE).lsb))], units := { storeIn := [({ spill := some (3, 0), item := ({ data := zeros 48, kind := .sealed, stream := 5 } : Item) } : StoreFrame)] } }, ({ spill := some (3, 0), item := ({ data := zeros 48, kind := .sealed, stream := 5 } : Item) } : StoreFrame), [], 3, 0, by decide +kernel⟩,
   ⟨{ State.reset with regs := [], units := { storeIn := [({ spill := none, item := ({ data := zeros 48, kind := .sealed, stream := 5 } : Item) } : StoreFrame)] } }, ({ spill := none, item := ({ data := zeros 48, kind := .sealed, stream := 5 } : Item) } : StoreFrame), [], by decide +kernel⟩,
   ⟨State.reset, by decide +kernel⟩,
   ⟨{ State.reset with regs := [((F.LKT_STREAM_CFG_COMMIT_MS 5).addr, BitVec.ofNat 64 (1 <<< (F.LKT_STREAM_CFG_COMMIT_MS 5).lsb))], keep := { elapsed := tickMs }, units := { store := ({ opens := [({ stripe := 2, pool := 0, subject := 5, ports := [0], chunks := [[({ rkind := 1, prio := 0, item := ({ data := zeros 48, kind := .sealed, stream := 5 } : Item) } : StoredRec)]], since := 0 } : OpenStripe)] } : Store) } }, 5, ({ stripe := 2, pool := 0, subject := 5, ports := [0], chunks := [[({ rkind := 1, prio := 0, item := ({ data := zeros 48, kind := .sealed, stream := 5 } : Item) } : StoredRec)]], since := 0 } : OpenStripe), by decide +kernel⟩,
   ⟨State.reset, 5, by decide +kernel⟩,
   ⟨{ State.reset with regs := [], units := { store := ({ records := [({ jseq := 1, kind := 2 } : JournalRec)] } : Store) } }, by decide +kernel⟩,
   ⟨State.reset, by decide +kernel⟩,
   ⟨{ State.reset with regs := [((F.LKT_GEOMETRY_MEMBER_MASK).addr, BitVec.ofNat 64 (1 <<< (F.LKT_GEOMETRY_MEMBER_MASK).lsb)), ((F.LKT_PORT_STATUS_STATE 0).addr, BitVec.ofNat 64 (2 <<< (F.LKT_PORT_STATUS_STATE 0).lsb))], keep := { bays := [(0, ({ drive := some ({ lbas := 2097152 } : StoreDrive), present := true } : Bay))] }, units := { store := ({ flight := [({ number := 3, first := 1, recs := [({ jseq := 1, kind := 2 } : JournalRec)] } : JournalBlock)] } : Store) } }, ({ number := 3, first := 1, recs := [({ jseq := 1, kind := 2 } : JournalRec)] } : JournalBlock), [], by decide +kernel⟩,
   ⟨State.reset, by decide +kernel⟩,
   ⟨{ State.reset with regs := [((F.LKT_WINDOW_W0_STATE 9).addr, BitVec.ofNat 64 (2 <<< (F.LKT_WINDOW_W0_STATE 9).lsb))], units := { store := ({ windows := [(9, some { first := (1, 0), last := (1, 9), stripes := [1], order := 0 })] } : Store) } }, 9, 0, 1, by decide +kernel⟩,
   ⟨State.reset, 9, 3, 1, by decide +kernel⟩,
   ⟨State.reset, 9, 0, 1, by decide +kernel⟩⟩

set_option maxRecDepth 20000 in
theorem witness_StoreCommands :
    (∃ s : State, ∃ w : Nat, ∃ v : Word, (s.part.storePorts ≠ 0) ∧ (getBits v 1 1 = 1) ∧ (s.hasRight w 0x05000000 = true) ∧ (w ≠ 0 ∨ getBits v 31 16 ≠ 0xA5C3) ∧ (s.get F.IMG_VOLATILE_WRITES_COUNT + 1 < 2 ^ 47)) ∧
    (∃ s : State, ∃ v : Word, (s.part.storePorts ≠ 0) ∧ (getBits v 1 1 = 1) ∧ (getBits v 31 16 = 0xA5C3) ∧ (s.storeBusy = true ∨ s.storeState < 3 ∨ 5 < s.storeState) ∧ (s.get F.IMG_VOLATILE_WRITES_COUNT + 1 < 2 ^ 47)) ∧
    (∃ s : State, ∃ v : Word, (s.part.storePorts ≠ 0) ∧ (getBits v 1 1 = 1) ∧ (getBits v 31 16 = 0xA5C3) ∧ (s.storeBusy = false) ∧ (3 ≤ s.storeState) ∧ (s.storeState ≤ 5)) ∧
    (∃ s : State, ∃ w : Nat, ∃ v : Word, (s.part.storePorts ≠ 0) ∧ (getBits v 1 1 = 1) ∧ (s.hasRight w 0x05000000 = false) ∧ (s.get F.IMG_VOLATILE_WRITES_COUNT + 1 < 2 ^ 47)) ∧
    (∃ s : State, ∃ v : Word, (s.part.storePorts = 0 ∨ getBits v 1 1 = 0) ∧ (s.get F.IMG_VOLATILE_WRITES_COUNT + 1 < 2 ^ 47)) ∧
    (∃ s : State, ∃ x : Snapshot, ∃ forced : Bool, (s.units.store.compaction = some (x, forced))) ∧
    (∃ s : State, (s.units.store.compaction = none)) ∧
    (∃ s : State, ∃ w : Nat, ∃ v : Word, (s.part.storePorts ≠ 0) ∧ (getBits v 0 0 = 1) ∧ (s.hasRight w 0x05000000 = true) ∧ (s.formatResult w v ≠ 0) ∧ (s.get F.IMG_VOLATILE_WRITES_COUNT + 1 < 2 ^ 47)) ∧
    (∃ s : State, ∃ w : Nat, ∃ v : Word, (s.part.storePorts ≠ 0) ∧ (getBits v 0 0 = 1) ∧ (s.hasRight w 0x05000000 = true) ∧ (s.formatResult w v = 0) ∧ (s.get F.IMG_VOLATILE_WRITES_COUNT + 1 < 2 ^ 47)) ∧
    (∃ s : State, ∃ w : Nat, ∃ v : Word, (s.part.storePorts ≠ 0) ∧ (getBits v 0 0 = 1) ∧ (s.hasRight w 0x05000000 = false) ∧ (s.get F.IMG_VOLATILE_WRITES_COUNT + 1 < 2 ^ 47)) ∧
    (∃ s : State, ∃ v : Word, (s.part.storePorts = 0 ∨ getBits v 0 0 = 0) ∧ (s.get F.IMG_VOLATILE_WRITES_COUNT + 1 < 2 ^ 47)) ∧
    (∃ s : State, ∃ x : FormatRun, (s.units.store.formatting = some x) ∧ (x.guarded = false ∨ 16 ≤ (s.formatPorts.filter x.ports.contains).length) ∧ ((s.formatPorts.filter x.ports.contains) ≠ [])) ∧
    (∃ s : State, ∃ x : FormatRun, (s.units.store.formatting = some x) ∧ ((x.guarded = true ∧ (s.formatPorts.filter x.ports.contains).length < 16) ∨ (s.formatPorts.filter x.ports.contains) = [])) ∧
    (∃ s : State, (s.units.store.formatting = none)) ∧
    (∃ s : State, ∃ q : Nat, ∃ w : Nat, ∃ v : Word, (s.hasStore q = true) ∧ (getBits v 0 0 = 1) ∧ (s.hasRight w 0x05000000 = true) ∧ (w ≠ 0 ∨ getBits v 31 16 ≠ 0xA5C3) ∧ (s.get F.IMG_VOLATILE_WRITES_COUNT + 1 < 2 ^ 47)) ∧
    (∃ s : State, ∃ q : Nat, ∃ v : Word, (s.hasStore q = true) ∧ (getBits v 0 0 = 1) ∧ (getBits v 31 16 = 0xA5C3) ∧ (s.storeBusy = true ∨ s.storeState < 3 ∨ 5 < s.storeState) ∧ (s.get F.IMG_VOLATILE_WRITES_COUNT + 1 < 2 ^ 47)) ∧
    (∃ s : State, ∃ q : Nat, ∃ v : Word, (s.hasStore q = true) ∧ (getBits v 0 0 = 1) ∧ (getBits v 31 16 = 0xA5C3) ∧ (s.storeBusy = false) ∧ (3 ≤ s.storeState) ∧ (s.storeState ≤ 5) ∧ (s.portState q ≠ 5 ∨ s.members.contains q = false ∨ s.units.store.label = none ∨ s.driveAt q = none) ∧ (s.get F.IMG_VOLATILE_WRITES_COUNT + 1 < 2 ^ 47)) ∧
    (∃ s : State, ∃ q : Nat, ∃ v : Word, ∃ l : DriveLabel, ∃ d : StoreDrive, (s.hasStore q = true) ∧ (getBits v 0 0 = 1) ∧ (getBits v 31 16 = 0xA5C3) ∧ (s.storeBusy = false) ∧ (3 ≤ s.storeState) ∧ (s.storeState ≤ 5) ∧ (s.portState q = 5) ∧ (s.members.contains q = true) ∧ (s.units.store.label = some l) ∧ (s.driveAt q = some d) ∧ (1573120 + 512 * l.rows ≤ d.lbas)) ∧
    (∃ s : State, ∃ q : Nat, ∃ w : Nat, ∃ v : Word, (s.hasStore q = true) ∧ (getBits v 0 0 = 1) ∧ (s.hasRight w 0x05000000 = false) ∧ (s.get F.IMG_VOLATILE_WRITES_COUNT + 1 < 2 ^ 47)) ∧
    (∃ s : State, ∃ q : Nat, ∃ v : Word, (s.hasStore q = false ∨ getBits v 0 0 = 0) ∧ (s.get F.IMG_VOLATILE_WRITES_COUNT + 1 < 2 ^ 47)) ∧
    (∃ s : State, ∃ q : Nat, ∃ l : LiveStripe, ∃ c : List (List StoredRec), (q < 16) ∧ (s.portState q = 7) ∧ (s.nextRebuild q = some (l, c))) ∧
    (∃ s : State, ∃ q : Nat, (q < 16) ∧ (s.portState q = 7) ∧ (s.members.contains q = true) ∧ (s.nextRebuild q = none)) ∧
    (∃ s : State, ∃ q : Nat, (s.portState q ≠ 7)) :=
  ⟨⟨State.reset, 0, 2, by decide +kernel⟩,
   ⟨State.reset, 0xA5C30002, by decide +kernel⟩,
   ⟨{ State.reset with regs := [((F.LKT_STATUS_STATE).addr, BitVec.ofNat 64 (3 <<< (F.LKT_STATUS_STATE).lsb))], units := { store := ({ records := [({ jseq := 1, kind := 2 } : JournalRec)] } : Store) } }, 0xA5C30002, by decide +kernel⟩,
   ⟨State.reset, 3, 2, by decide +kernel⟩,
   ⟨State.reset, 1, by decide +kernel⟩,
   ⟨{ State.reset with regs := [((F.LKT_GEOMETRY_MEMBER_MASK).addr, BitVec.ofNat 64 (1 <<< (F.LKT_GEOMETRY_MEMBER_MASK).lsb)), ((F.LKT_PORT_STATUS_STATE 0).addr, BitVec.ofNat 64 (2 <<< (F.LKT_PORT_STATUS_STATE 0).lsb))], keep := { bays := [(0, ({ drive := some ({ lbas := 2097152 } : StoreDrive), present := true } : Bay))] }, units := { store := ({ compaction := some (({ generation := 1, point := 0, next := 0, setId := 7, recs := [] } : Snapshot), true) } : Store) } }, ({ generation := 1, point := 0, next := 0, setId := 7, recs := [] } : Snapshot), true, by decide +kernel⟩,
   ⟨State.reset, by decide +kernel⟩,
   ⟨State.reset, 0, 1, by decide +kernel⟩,
   ⟨{ State.reset with regs := [((F.SIG_KEY_INFO_VALID 0).addr, BitVec.ofNat 64 ((1 <<< (F.SIG_KEY_INFO_VALID 0).lsb) + (4 <<< (F.SIG_KEY_INFO_USAGE 0).lsb)))], keep := { bays := [(0, ({ drive := some ({ lbas := 2097152 } : StoreDrive), present := true } : Bay))] }, units := { store := ({ perstHigh := [0] } : Store) } }, 0, 0xA5C30001, by decide +kernel⟩,
   ⟨State.reset, 3, 1, by decide +kernel⟩,
   ⟨State.reset, 2, by decide +kernel⟩,
   ⟨{ State.reset with regs := [((F.SIG_KEY_INFO_VALID 0).addr, BitVec.ofNat 64 ((1 <<< (F.SIG_KEY_INFO_VALID 0).lsb) + (4 <<< (F.SIG_KEY_INFO_USAGE 0).lsb)))], keep := { bays := [(0, ({ drive := some ({ lbas := 2097152 } : StoreDrive), present := true } : Bay))] }, units := { store := ({ perstHigh := [0], formatting := some ({ guarded := false, keyIndex := 0, windows := 1, spills := 1, ports := [0] } : FormatRun) } : Store) } }, ({ guarded := false, keyIndex := 0, windows := 1, spills := 1, ports := [0] } : FormatRun), by decide +kernel⟩,
   ⟨{ State.reset with regs := [((F.SIG_KEY_INFO_VALID 0).addr, BitVec.ofNat 64 ((1 <<< (F.SIG_KEY_INFO_VALID 0).lsb) + (4 <<< (F.SIG_KEY_INFO_USAGE 0).lsb)))], keep := { bays := [(0, ({ drive := some ({ lbas := 2097152 } : StoreDrive), present := true } : Bay))] }, units := { store := ({ formatting := some ({ guarded := false, keyIndex := 0, windows := 1, spills := 1, ports := [0] } : FormatRun) } : Store) } }, ({ guarded := false, keyIndex := 0, windows := 1, spills := 1, ports := [0] } : FormatRun), by decide +kernel⟩,
   ⟨State.reset, by decide +kernel⟩,
   ⟨State.reset, 0, 0, 1, by decide +kernel⟩,
   ⟨State.reset, 0, 0xA5C30001, by decide +kernel⟩,
   ⟨{ State.reset with regs := [((F.LKT_STATUS_STATE).addr, BitVec.ofNat 64 (3 <<< (F.LKT_STATUS_STATE).lsb))] }, 0, 0xA5C30001, by decide +kernel⟩,
   ⟨{ State.reset with regs := [((F.LKT_STATUS_STATE).addr, BitVec.ofNat 64 (3 <<< (F.LKT_STATUS_STATE).lsb)), ((F.LKT_GEOMETRY_MEMBER_MASK).addr, BitVec.ofNat 64 (1 <<< (F.LKT_GEOMETRY_MEMBER_MASK).lsb)), ((F.LKT_PORT_STATUS_STATE 0).addr, BitVec.ofNat 64 (5 <<< (F.LKT_PORT_STATUS_STATE 0).lsb))], keep := { bays := [(0, ({ drive := some ({ lbas := 2097152 } : StoreDrive), present := true } : Bay))] }, units := { store := ({ label := some ({ guarded := false, member := 0, setId := 7, mask := 1, keyIndex := 0, rows := 4, windows := 1, spills := 1, keyCheck := [], created := 0, device := 0 } : DriveLabel) } : Store) } }, 0, 0xA5C30001, ({ guarded := false, member := 0, setId := 7, mask := 1, keyIndex := 0, rows := 4, windows := 1, spills := 1, keyCheck := [], created := 0, device := 0 } : DriveLabel), ({ lbas := 2097152 } : StoreDrive), by decide +kernel⟩,
   ⟨State.reset, 0, 3, 1, by decide +kernel⟩,
   ⟨State.reset, 0, 2, by decide +kernel⟩,
   ⟨{ State.reset with regs := [((F.LKT_PORT_STATUS_STATE 0).addr, BitVec.ofNat 64 (7 <<< (F.LKT_PORT_STATUS_STATE 0).lsb)), ((F.LKT_PORT_STATUS_STATE 2).addr, BitVec.ofNat 64 (2 <<< (F.LKT_PORT_STATUS_STATE 2).lsb))], keep := { bays := [(2, ({ drive := some { lbas := 2097152, chunks := [(0, some (.data []))] }, present := true } : Bay))] }, units := { store := ({ guarded := true, live := [({ stripe := 0, pool := 0, subject := 5, chunks := 1, map := 12, count := 1, a := 0, b := 0, octets := 72 } : LiveStripe)] } : Store) } }, 0, ({ stripe := 0, pool := 0, subject := 5, chunks := 1, map := 12, count := 1, a := 0, b := 0, octets := 72 } : LiveStripe), [[]], by decide +kernel⟩,
   ⟨{ State.reset with regs := [((F.LKT_GEOMETRY_MEMBER_MASK).addr, BitVec.ofNat 64 (1 <<< (F.LKT_GEOMETRY_MEMBER_MASK).lsb)), ((F.LKT_PORT_STATUS_STATE 0).addr, BitVec.ofNat 64 (7 <<< (F.LKT_PORT_STATUS_STATE 0).lsb))], keep := { bays := [(0, ({ drive := some ({ lbas := 2097152 } : StoreDrive), present := true } : Bay))] } }, 0, by decide +kernel⟩,
   ⟨State.reset, 0, by decide +kernel⟩⟩

set_option maxRecDepth 20000 in
theorem witness_StoreReplay :
    (∃ s : State, ∃ e : Nat, ∃ w : Nat, ∃ v : Word, (s.part.storePorts ≠ 0) ∧ (e < 8) ∧ (getBits v 0 0 = 1) ∧ (s.hasRight w 0x05000000 = true) ∧ (s.is (F.LKT_REPLAY_STATUS_BUSY e) = true) ∧ (s.get F.IMG_VOLATILE_WRITES_COUNT + 1 < 2 ^ 47)) ∧
    (∃ s : State, ∃ e : Nat, ∃ w : Nat, ∃ v : Word, (s.part.storePorts ≠ 0) ∧ (e < 8) ∧ (getBits v 0 0 = 1) ∧ (s.hasRight w 0x05000000 = true) ∧ (s.is (F.LKT_REPLAY_STATUS_BUSY e) = false) ∧ (s.replayResult e w ≠ 0) ∧ (s.get F.IMG_VOLATILE_WRITES_COUNT + 1 < 2 ^ 47)) ∧
    (∃ s : State, ∃ e : Nat, ∃ w : Nat, ∃ v : Word, (s.part.storePorts ≠ 0) ∧ (e < 8) ∧ (w < 32) ∧ (getBits v 0 0 = 1) ∧ (s.hasRight w 0x05000000 = true) ∧ (s.is (F.LKT_REPLAY_STATUS_BUSY e) = false) ∧ (s.replayResult e w = 0)) ∧
    (∃ s : State, ∃ e : Nat, ∃ w : Nat, ∃ v : Word, (s.part.storePorts ≠ 0) ∧ (e < 8) ∧ (getBits v 0 0 = 1) ∧ (s.hasRight w 0x05000000 = false) ∧ (s.get F.IMG_VOLATILE_WRITES_COUNT + 1 < 2 ^ 47)) ∧
    (∃ s : State, ∃ e : Nat, ∃ v : Word, (s.part.storePorts = 0 ∨ 8 ≤ e ∨ getBits v 0 0 = 0) ∧ (s.get F.IMG_VOLATILE_WRITES_COUNT + 1 < 2 ^ 47)) ∧
    (∃ s : State, ∃ e : Nat, ∃ g : Engine, (e < 8) ∧ (s.pending = []) ∧ (s.engine e = some g) ∧ ((s.advanceEngine g).1.frames = []) ∧ ((g.source = 3 ∧ g.follow = true) = false)) ∧
    (∃ s : State, ∃ e : Nat, ∃ g : Engine, (e < 8) ∧ (s.pending = []) ∧ (s.engine e = some g) ∧ ((s.advanceEngine g).1.frames = []) ∧ (g.source = 3) ∧ (g.follow = true)) ∧
    (∃ s : State, ∃ e : Nat, ∃ g : Engine, ∃ n : Nat, ∃ i : Item, ∃ rest : List (Nat × Item), (e < 8) ∧ (g.frames ≠ [] ∨ s.pending = []) ∧ (s.engine e = some g) ∧ (g.queue < 2048) ∧ ((s.advanceEngine g).1.frames = (n, i) :: rest) ∧ (g.source ≠ 3 ∨ g.follow = true ∨ (s.advanceEngine g).1.next < g.limit) ∧ (s.is (F.Q_STATUS_FULL g.queue) = false) ∧ (s.pushFate g.queue i = .accepted)) ∧
    (∃ s : State, ∃ e : Nat, ∃ g : Engine, ∃ n : Nat, ∃ i : Item, ∃ rest : List (Nat × Item), (e < 8) ∧ (g.frames ≠ [] ∨ s.pending = []) ∧ (s.engine e = some g) ∧ (g.queue < 2048) ∧ ((s.advanceEngine g).1.frames = (n, i) :: rest) ∧ (g.source ≠ 3 ∨ g.follow = true ∨ (s.advanceEngine g).1.next < g.limit) ∧ (s.is (F.Q_STATUS_FULL g.queue) = true)) ∧
    (∃ s : State, ∃ e : Nat, ∃ g : Engine, ∃ n : Nat, ∃ i : Item, ∃ rest : List (Nat × Item), (e < 8) ∧ (g.frames ≠ [] ∨ s.pending = []) ∧ (s.engine e = some g) ∧ (g.queue < 2048) ∧ ((s.advanceEngine g).1.frames = (n, i) :: rest) ∧ (g.source ≠ 3 ∨ g.follow = true ∨ (s.advanceEngine g).1.next < g.limit) ∧ (s.is (F.Q_STATUS_FULL g.queue) = false) ∧ s.pushFate g.queue i ∈ [PushFate.ignored, .tooBig, .noCells, .full]) ∧
    (∃ s : State, ∃ e : Nat, ∃ g : Engine, (s.engine e = some g) ∧ (g.frames = []) ∧ (s.pending ≠ [])) ∧
    (∃ s : State, ∃ e : Nat, (s.engine e = none)) ∧
    (∃ s : State, ∃ e : Nat, ∃ w : Nat, ∃ v : Word, (s.part.storePorts ≠ 0) ∧ (e < 8) ∧ (getBits v 1 1 = 1) ∧ (s.hasRight w 0x05000000 = true) ∧ (s.is (F.LKT_REPLAY_STATUS_BUSY e) = true)) ∧
    (∃ s : State, ∃ e : Nat, ∃ w : Nat, ∃ v : Word, (s.part.storePorts ≠ 0) ∧ (e < 8) ∧ (getBits v 1 1 = 1) ∧ (s.hasRight w 0x05000000 = false) ∧ (s.get F.IMG_VOLATILE_WRITES_COUNT + 1 < 2 ^ 47)) ∧
    (∃ s : State, ∃ e : Nat, ∃ w : Nat, ∃ v : Word, (s.part.storePorts = 0 ∨ 8 ≤ e ∨ getBits v 1 1 = 0 ∨ (s.hasRight w 0x05000000 = true ∧ s.is (F.LKT_REPLAY_STATUS_BUSY e) = false)) ∧ (s.get F.IMG_VOLATILE_WRITES_COUNT + 1 < 2 ^ 47)) :=
  ⟨⟨{ State.reset with regs := [((F.LKT_REPLAY_STATUS_BUSY 1).addr, BitVec.ofNat 64 (1 <<< (F.LKT_REPLAY_STATUS_BUSY 1).lsb))] }, 1, 0, 1, by decide +kernel⟩,
   ⟨State.reset, 1, 0, 1, by decide +kernel⟩,
   ⟨{ State.reset with regs := [((F.LKT_STATUS_STATE).addr, BitVec.ofNat 64 (3 <<< (F.LKT_STATUS_STATE).lsb)), ((F.LKT_REPLAY_CFG_SOURCE 1).addr, BitVec.ofNat 64 (1 + 3 <<< (F.LKT_REPLAY_CFG_SOURCE 1).lsb))] }, 1, 0, 1, by decide +kernel⟩,
   ⟨State.reset, 0, 3, 1, by decide +kernel⟩,
   ⟨State.reset, 1, 2, by decide +kernel⟩,
   ⟨{ State.reset with regs := [], units := { store := ({ engines := [(1, some ({ source := 1, subject := 5, queue := 9, endpoint := 0, release := false, follow := false, reliable := false, from_ := 0, to_ := 9 } : Engine))] } : Store) } }, 1, ({ source := 1, subject := 5, queue := 9, endpoint := 0, release := false, follow := false, reliable := false, from_ := 0, to_ := 9 } : Engine), by decide +kernel⟩,
   ⟨{ State.reset with regs := [], units := { store := ({ engines := [(1, some ({ source := 3, subject := 5, queue := 9, endpoint := 0, release := false, follow := true, reliable := false, from_ := 0, to_ := 9 } : Engine))] } : Store) } }, 1, ({ source := 3, subject := 5, queue := 9, endpoint := 0, release := false, follow := true, reliable := false, from_ := 0, to_ := 9 } : Engine), by decide +kernel⟩,
   ⟨{ State.reset with regs := [(0x08000900, 0x80900400), (0x08000904, 0x400)], units := { store := ({ engines := [(1, some ({ source := 1, subject := 5, queue := 9, endpoint := 0, release := false, follow := false, reliable := false, from_ := 0, to_ := 9, frames := [(3, ({ data := zeros 48, kind := .sealed, stream := 5 } : Item))] } : Engine))] } : Store) } }, 1, ({ source := 1, subject := 5, queue := 9, endpoint := 0, release := false, follow := false, reliable := false, from_ := 0, to_ := 9, frames := [(3, ({ data := zeros 48, kind := .sealed, stream := 5 } : Item))] } : Engine), 3, ({ data := zeros 48, kind := .sealed, stream := 5 } : Item), [], by decide +kernel⟩,
   ⟨{ State.reset with regs := [((F.Q_STATUS_FULL 9).addr, BitVec.ofNat 64 (1 <<< (F.Q_STATUS_FULL 9).lsb))], units := { store := ({ engines := [(1, some ({ source := 1, subject := 5, queue := 9, endpoint := 0, release := false, follow := false, reliable := false, from_ := 0, to_ := 9, frames := [(3, ({ data := zeros 48, kind := .sealed, stream := 5 } : Item))] } : Engine))] } : Store) } }, 1, ({ source := 1, subject := 5, queue := 9, endpoint := 0, release := false, follow := false, reliable := false, from_ := 0, to_ := 9, frames := [(3, ({ data := zeros 48, kind := .sealed, stream := 5 } : Item))] } : Engine), 3, ({ data := zeros 48, kind := .sealed, stream := 5 } : Item), [], by decide +kernel⟩,
   ⟨{ State.reset with regs := [], units := { store := ({ engines := [(1, some ({ source := 1, subject := 5, queue := 9, endpoint := 0, release := false, follow := false, reliable := false, from_ := 0, to_ := 9, frames := [(3, ({ data := zeros 48, kind := .sealed, stream := 5 } : Item))] } : Engine))] } : Store) } }, 1, ({ source := 1, subject := 5, queue := 9, endpoint := 0, release := false, follow := false, reliable := false, from_ := 0, to_ := 9, frames := [(3, ({ data := zeros 48, kind := .sealed, stream := 5 } : Item))] } : Engine), 3, ({ data := zeros 48, kind := .sealed, stream := 5 } : Item), [], by decide +kernel⟩,
   ⟨{ State.reset with regs := [], units := { store := ({ engines := [(1, some ({ source := 1, subject := 5, queue := 9, endpoint := 0, release := false, follow := false, reliable := false, from_ := 0, to_ := 9 } : Engine))] } : Store) }, pending := [.formatDone] }, 1, ({ source := 1, subject := 5, queue := 9, endpoint := 0, release := false, follow := false, reliable := false, from_ := 0, to_ := 9 } : Engine), by decide +kernel⟩,
   ⟨State.reset, 1, by decide +kernel⟩,
   ⟨{ State.reset with regs := [((F.LKT_REPLAY_STATUS_BUSY 1).addr, BitVec.ofNat 64 (1 <<< (F.LKT_REPLAY_STATUS_BUSY 1).lsb))] }, 1, 0, 2, by decide +kernel⟩,
   ⟨State.reset, 0, 3, 2, by decide +kernel⟩,
   ⟨State.reset, 1, 0, 2, by decide +kernel⟩⟩

set_option maxRecDepth 20000 in
theorem witness_LinkPausesAndStates :
    (∃ s : State, ∃ l : Nat, ∃ p : Nat, ∃ n : Nat, (s.linkIsUp l = true) ∧ (p < 8) ∧ (s.pfcOn l p = true) ∧ (n % 65536 ≠ 0)) ∧
    (∃ s : State, ∃ l : Nat, ∃ p : Nat, ∃ n : Nat, (s.linkIsUp l = true) ∧ (p < 8) ∧ (s.pfcOn l p = true) ∧ (n % 65536 = 0) ∧ (s.is (pausedBit l p) = true)) ∧
    (∃ s : State, ∃ l : Nat, ∃ p : Nat, (s.linkIsUp l = true) ∧ (p < 8) ∧ (s.pfcOn l p = false)) ∧
    (∃ s : State, ∃ l : Nat, ∃ x : List (Nat × Nat), (s.linkIsUp l = false ∨ (x.all (fun y => decide (8 ≤ y.1)) = true))) ∧
    (∃ s : State, ∃ l : Nat, ∃ p : Nat, (l < 264) ∧ (p < 8) ∧ (s.is (pausedBit l p) = true) ∧ ((s.pause l p).until_ ≤ s.keep.elapsed)) ∧
    (∃ s : State, ∃ l : Nat, ∃ p : Nat, (264 ≤ l ∨ 8 ≤ p ∨ s.is (pausedBit l p) = false ∨ s.keep.elapsed < (s.pause l p).until_)) ∧
    (∃ s : State, ∃ l : Nat, ∃ p : Nat, (l < 264) ∧ (p < 8) ∧ (s.is (pausedBit l p) = true) ∧ (s.is (stormBit l p) = false) ∧ (s.releasePending l p = false) ∧ ((s.pause l p).since + s.get (linkF l F.LSN_LINK_TIMERS_PAUSE_WD_US F.RNG_TIMERS_PAUSE_WD_US) * tickUs ≤ s.keep.elapsed)) ∧
    (∃ s : State, ∃ l : Nat, ∃ p : Nat, (264 ≤ l ∨ 8 ≤ p ∨ s.is (pausedBit l p) = false ∨ s.is (stormBit l p) = true ∨ s.keep.elapsed < (s.pause l p).since + s.get (linkF l F.LSN_LINK_TIMERS_PAUSE_WD_US F.RNG_TIMERS_PAUSE_WD_US) * tickUs)) ∧
    (∃ s : State, ∃ l : Nat, ∃ p : Nat, (l < 264) ∧ (p < 8) ∧ (s.is (stormBit l p) = true) ∧ (s.is (pausedBit l p) = false) ∧ ((s.pause l p).freeSince + s.get (linkF l F.LSN_LINK_TIMERS_STORM_CLEAR_US F.RNG_TIMERS_STORM_CLEAR_US) * tickUs ≤ s.keep.elapsed)) ∧
    (∃ s : State, ∃ l : Nat, ∃ p : Nat, (264 ≤ l ∨ 8 ≤ p ∨ s.is (stormBit l p) = false ∨ s.is (pausedBit l p) = true ∨ s.keep.elapsed < (s.pause l p).freeSince + s.get (linkF l F.LSN_LINK_TIMERS_STORM_CLEAR_US F.RNG_TIMERS_STORM_CLEAR_US) * tickUs)) ∧
    (∃ s : State, ∃ r : Nat, ∃ p : Nat, ∃ n : Nat, (r < 8) ∧ (p < 7) ∧ (s.pfcOn (256 + r) p = true) ∧ (s.linkIsUp (256 + r) = true) ∧ ((s.link (256 + r)).xoff.find? (fun x => x.1 = p) = none) ∧ (1024 * s.get (F.RNG_PFC_XOFF_KIB r) < n)) ∧
    (∃ s : State, ∃ r : Nat, ∃ p : Nat, ∃ n : Nat, ∃ k : Nat, (r < 8) ∧ (p < 7) ∧ (s.pfcOn (256 + r) p = true) ∧ (s.linkIsUp (256 + r) = true) ∧ ((s.link (256 + r)).xoff.find? (fun x => x.1 = p) = some (p, k)) ∧ (n ≤ 1024 * s.get (F.RNG_PFC_XON_KIB r))) ∧
    (∃ s : State, ∃ r : Nat, ∃ p : Nat, ∃ n : Nat, (8 ≤ r ∨ 7 ≤ p ∨ s.pfcOn (256 + r) p = false ∨ s.linkIsUp (256 + r) = false ∨ ((s.link (256 + r)).xoff.find? (fun x => x.1 = p) = none ∧ n ≤ 1024 * s.get (F.RNG_PFC_XOFF_KIB r)))) ∧
    (∃ s : State, ∃ l : Nat, (s.linkIsUp l = true) ∧ (s.is (preemptActive l) = false) ∧ (256 ≤ l ∨ s.is (F.LSN_LINK_CFG_PREEMPT_EN (l / 8) (l % 8)) = true) ∧ (256 ≤ l → ∀ k ∈ (s.link l).verifiedAt, k + 10 * tickMs ≤ s.keep.elapsed)) ∧
    (∃ s : State, ∃ l : Nat, (s.linkIsUp l = false ∨ s.is (preemptActive l) = true ∨ (l < 256 ∧ s.is (F.LSN_LINK_CFG_PREEMPT_EN (l / 8) (l % 8)) = false) ∨ (256 ≤ l ∧ ∃ k, (s.link l).verifiedAt = some k ∧ s.keep.elapsed < k + 10 * tickMs))) ∧
    (∃ s : State, ∃ l : Nat, (s.linkIsUp l = true)) ∧
    (∃ s : State, ∃ l : Nat, (s.linkIsUp l = false)) ∧
    (∃ s : State, ∃ l : Nat, (l < 256) ∧ (s.linkIsUp l = false) ∧ (s.linkMade l = true) ∧ (s.linkEnabled l = true) ∧ (s.up = true)) ∧
    (∃ s : State, ∃ l : Nat, (256 ≤ l) ∧ (l < 264) ∧ (s.linkIsUp l = false) ∧ (s.linkMade l = true) ∧ (s.linkEnabled l = true) ∧ (s.up = true)) ∧
    (∃ s : State, ∃ l : Nat, (264 ≤ l ∨ s.linkIsUp l = true ∨ s.linkMade l = false ∨ s.linkEnabled l = false ∨ s.up = false)) ∧
    (∃ s : State, ∃ p : Nat, ∃ w : Nat, ∃ v : Word, (s.hasRight w (F.LSN_PORT_CFG_ENABLE p).addr = true) ∧ (p < s.part.listenerPorts) ∧ (s.is (F.LSN_PORT_CFG_ENABLE p) = true → getBits v 1 0 = s.get (F.LSN_PORT_CFG_SPLIT p) ∧ getBits v 3 3 = s.get (F.LSN_PORT_CFG_REACH p))) ∧
    (∃ s : State, ∃ p : Nat, ∃ w : Nat, ∃ v : Word, (s.hasRight w (F.LSN_PORT_CFG_ENABLE p).addr = true) ∧ (p < s.part.listenerPorts) ∧ (s.is (F.LSN_PORT_CFG_ENABLE p) = true) ∧ (getBits v 1 0 ≠ s.get (F.LSN_PORT_CFG_SPLIT p) ∨ getBits v 3 3 ≠ s.get (F.LSN_PORT_CFG_REACH p))) :=
  ⟨⟨{ State.reset with regs := [((F.LSN_LINK_CFG_PFC_EN 0 0).addr, BitVec.ofNat 64 ((8 <<< (F.LSN_LINK_CFG_PFC_EN 0 0).lsb))), ((F.LSN_LINK_STATUS_STATE 0 0).addr, BitVec.ofNat 64 ((2 <<< (F.LSN_LINK_STATUS_STATE 0 0).lsb)))] }, 0, 3, 65535, by decide +kernel⟩,
   ⟨{ State.reset with regs := [((F.LSN_LINK_CFG_PFC_EN 0 0).addr, BitVec.ofNat 64 ((8 <<< (F.LSN_LINK_CFG_PFC_EN 0 0).lsb))), ((F.LSN_LINK_STATUS_STATE 0 0).addr, BitVec.ofNat 64 ((2 <<< (F.LSN_LINK_STATUS_STATE 0 0).lsb) + (8 <<< (F.LSN_LINK_STATUS_PAUSED 0 0).lsb)))] }, 0, 3, 0, by decide +kernel⟩,
   ⟨{ State.reset with regs := [((F.LSN_LINK_STATUS_STATE 0 0).addr, BitVec.ofNat 64 ((2 <<< (F.LSN_LINK_STATUS_STATE 0 0).lsb)))] }, 0, 3, by decide +kernel⟩,
   ⟨State.reset, 0, [(1, 1)], by decide +kernel⟩,
   ⟨{ State.reset with regs := [((F.LSN_LINK_STATUS_STATE 0 0).addr, BitVec.ofNat 64 ((2 <<< (F.LSN_LINK_STATUS_STATE 0 0).lsb) + (8 <<< (F.LSN_LINK_STATUS_PAUSED 0 0).lsb)))] }, 0, 3, by decide +kernel⟩,
   ⟨State.reset, 0, 3, by decide +kernel⟩,
   ⟨{ State.reset with regs := [((F.LSN_LINK_STATUS_STATE 0 0).addr, BitVec.ofNat 64 ((2 <<< (F.LSN_LINK_STATUS_STATE 0 0).lsb) + (8 <<< (F.LSN_LINK_STATUS_PAUSED 0 0).lsb)))], keep := { elapsed := 100 * tickMs } }, 0, 3, by decide +kernel⟩,
   ⟨State.reset, 0, 3, by decide +kernel⟩,
   ⟨{ State.reset with regs := [((F.LSN_LINK_STATUS_STATE 0 0).addr, BitVec.ofNat 64 ((2 <<< (F.LSN_LINK_STATUS_STATE 0 0).lsb) + (8 <<< (F.LSN_LINK_STATUS_STORM 0 0).lsb)))], keep := { elapsed := 100 * tickMs } }, 0, 3, by decide +kernel⟩,
   ⟨State.reset, 0, 3, by decide +kernel⟩,
   ⟨{ State.reset with regs := [((F.RNG_CFG_PFC_EN 0).addr, BitVec.ofNat 64 ((8 <<< (F.RNG_CFG_PFC_EN 0).lsb))), ((F.RNG_STATUS_STATE 0).addr, BitVec.ofNat 64 ((2 <<< (F.RNG_STATUS_STATE 0).lsb)))] }, 0, 3, 99999999, by decide +kernel⟩,
   ⟨{ State.reset with regs := [((F.RNG_CFG_PFC_EN 0).addr, BitVec.ofNat 64 ((8 <<< (F.RNG_CFG_PFC_EN 0).lsb))), ((F.RNG_STATUS_STATE 0).addr, BitVec.ofNat 64 ((2 <<< (F.RNG_STATUS_STATE 0).lsb)))], units := { links := [(256, ({ xoff := [(3, 0)] } : LinkUnit))] } }, 0, 3, 0, 0, by decide +kernel⟩,
   ⟨State.reset, 0, 3, 0, by decide +kernel⟩,
   ⟨{ State.reset with regs := [((F.RNG_STATUS_STATE 0).addr, BitVec.ofNat 64 ((2 <<< (F.RNG_STATUS_STATE 0).lsb)))] }, 256, by decide +kernel⟩,
   ⟨State.reset, 256, by decide +kernel⟩,
   ⟨{ State.reset with regs := [((F.LSN_PORT_STATUS_LINK_UP 0).addr, BitVec.ofNat 64 ((1 <<< (F.LSN_PORT_STATUS_LINK_UP 0).lsb))), ((F.LSN_LINK_STATUS_STATE 0 0).addr, BitVec.ofNat 64 ((2 <<< (F.LSN_LINK_STATUS_STATE 0 0).lsb)))] }, 0, by decide +kernel⟩,
   ⟨State.reset, 0, by decide +kernel⟩,
   ⟨{ State.reset with regs := [((F.PWR_STATUS_LOCAL_READY).addr, BitVec.ofNat 64 ((1 <<< (F.PWR_STATUS_LOCAL_READY).lsb))), ((F.LSN_PORT_CFG_ENABLE 0).addr, BitVec.ofNat 64 ((1 <<< (F.LSN_PORT_CFG_ENABLE 0).lsb))), ((F.LSN_LINK_CFG_ENABLE 0 0).addr, BitVec.ofNat 64 ((1 <<< (F.LSN_LINK_CFG_ENABLE 0 0).lsb)))] }, 0, by decide +kernel⟩,
   ⟨{ State.reset with regs := [((F.PWR_STATUS_LOCAL_READY).addr, BitVec.ofNat 64 ((1 <<< (F.PWR_STATUS_LOCAL_READY).lsb))), ((F.RNG_CFG_ENABLE 0).addr, BitVec.ofNat 64 ((1 <<< (F.RNG_CFG_ENABLE 0).lsb)))] }, 256, by decide +kernel⟩,
   ⟨State.reset, 0, by decide +kernel⟩,
   ⟨{ State.reset with regs := [((F.PWR_STATUS_LOCAL_READY).addr, BitVec.ofNat 64 ((1 <<< (F.PWR_STATUS_LOCAL_READY).lsb))), ((F.LSN_PORT_CFG_SPLIT 0).addr, BitVec.ofNat 64 ((1 <<< (F.LSN_PORT_CFG_SPLIT 0).lsb))), ((F.LSN_LINK_CFG_ENABLE 0 0).addr, BitVec.ofNat 64 ((1 <<< (F.LSN_LINK_CFG_ENABLE 0 0).lsb)))] }, 0, 0, 5, by decide +kernel⟩,
   ⟨{ State.reset with regs := [((F.LSN_PORT_CFG_ENABLE 0).addr, BitVec.ofNat 64 ((1 <<< (F.LSN_PORT_CFG_ENABLE 0).lsb)))] }, 0, 0, 5, by decide +kernel⟩⟩

set_option maxRecDepth 20000 in
theorem witness_EndpointsAndRetention :
    (∃ s : State, ∃ p : Nat, ∃ e : Nat, ∃ w : Nat, ∃ v : Word, (getBits v 0 0 = 1) ∧ (p < 40) ∧ (e < 256) ∧ ((p < 32 → p < s.part.listenerPorts)) ∧ (s.is (epF p e F.LSN_ENDPOINT_CTRL_COMMIT) = false) ∧ (s.endpointResult p e w = 0) ∧ (s.get F.IMG_VOLATILE_WRITES_COUNT + 1 < 2 ^ 47)) ∧
    (∃ s : State, ∃ p : Nat, ∃ e : Nat, ∃ w : Nat, ∃ v : Word, (getBits v 0 0 = 1) ∧ (p < 40) ∧ (e < 256) ∧ ((p < 32 → p < s.part.listenerPorts)) ∧ (s.is (epF p e F.LSN_ENDPOINT_CTRL_COMMIT) = false) ∧ (s.endpointResult p e w ≠ 0) ∧ (s.get F.IMG_VOLATILE_WRITES_COUNT + 1 < 2 ^ 47)) ∧
    (∃ s : State, ∃ p : Nat, ∃ e : Nat, ∃ v : Word, (getBits v 0 0 = 1) ∧ (p < 40) ∧ (e < 256) ∧ ((p < 32 → p < s.part.listenerPorts)) ∧ (s.is (epF p e F.LSN_ENDPOINT_CTRL_COMMIT) = true) ∧ (∀ c ∈ s.pending, c ≠ .endpointCommitApply p e) ∧ (s.get F.IMG_VOLATILE_WRITES_COUNT + 1 < 2 ^ 47)) ∧
    (∃ s : State, ∃ p : Nat, ∃ e : Nat, ∃ v : Word, (getBits v 0 0 = 0 ∨ 40 ≤ p ∨ 256 ≤ e ∨ (p < 32 ∧ s.part.listenerPorts ≤ p)) ∧ (s.get F.IMG_VOLATILE_WRITES_COUNT + 1 < 2 ^ 47)) ∧
    (∃ s : State, ∃ p : Nat, ∃ e : Nat, (p < 40) ∧ (e < 256) ∧ (s.is (epF p e F.LSN_ENDPOINT_CTRL_COMMIT) = true) ∧ (s.win.marks = [])) ∧
    (∃ s : State, ∃ p : Nat, ∃ e : Nat, (40 ≤ p ∨ 256 ≤ e ∨ s.is (epF p e F.LSN_ENDPOINT_CTRL_COMMIT) = false ∨ s.win.marks.contains (4, p * 256 + e) = true)) ∧
    (∃ s : State, ∃ l : Nat, ∃ x : NetAddr, ∃ m : List Byte, (s.ackTarget l x m = none)) ∧
    (∃ s : State, ∃ l : Nat, ∃ e : Nat, ∃ x : NetAddr, ∃ b : List Byte, ∃ k : List Byte, (l < 264) ∧ (b.length = 40) ∧ (ackFormat (b ++ zeros 16) = true) ∧ (e < 256) ∧ (∀ n ∈ List.range e, s.live (epF (portOf l) n F.LSN_ENDPOINT_W0_VALID) = 0) ∧ (s.live (epF (portOf l) e F.LSN_ENDPOINT_W0_VALID) = 1) ∧ (s.live (epF (portOf l) e F.LSN_ENDPOINT_W0_RELIABLE) = 1) ∧ (s.fromEndpoint l e x = true) ∧ (s.ackKey (portOf l) e = some k) ∧ (((s.endpoint (portOf l) e).chains ++ (s.endpoint (portOf l) e).replayed).any (fun c => c.stream = num b 4 2 && c.chain = num b 24 4) = true) ∧ ((s.endpoint (portOf l) e).cums = [])) ∧
    (∃ s : State, ∃ p : Nat, ∃ e : Nat, ∃ r : Retained, ((s.endpoint p e).retained.find? (fun r => r.due.isNone && decide (r.sentAt + s.live (epF p e F.LSN_ENDPOINT_W4_RTO_US) * tickUs ≤ s.keep.elapsed)) = some r) ∧ ((s.acksComing p e).any (fun m => ackTakes m r) = false) ∧ (r.sends ≤ s.live (epF p e F.LSN_ENDPOINT_W4_RETRIES))) ∧
    (∃ s : State, ∃ p : Nat, ∃ e : Nat, ∃ r : Retained, ((s.endpoint p e).retained.find? (fun r => r.due.isNone && decide (r.sentAt + s.live (epF p e F.LSN_ENDPOINT_W4_RTO_US) * tickUs ≤ s.keep.elapsed)) = some r) ∧ ((s.acksComing p e).any (fun m => ackTakes m r) = false) ∧ (s.live (epF p e F.LSN_ENDPOINT_W4_RETRIES) < r.sends)) ∧
    (∃ s : State, ∃ p : Nat, ∃ e : Nat, (∀ r ∈ (s.endpoint p e).retained, r.due.isSome = true ∨ s.keep.elapsed < r.sentAt + s.live (epF p e F.LSN_ENDPOINT_W4_RTO_US) * tickUs ∨ (s.acksComing p e).any (fun m => ackTakes m r) = true)) ∧
    (∃ s : State, ∃ p : Nat, ∃ e : Nat, ((s.endpoint p e).retained ≠ []) ∧ (s.live (epF p e F.LSN_ENDPOINT_W0_RELIABLE) = 1) ∧ (s.get (epF p e F.LSN_ENDPOINT_STATUS_STATE) ≠ 2) ∧ (s.acksComing p e = []) ∧ (max ((s.endpoint p e).retained.foldl (fun a r => min a r.firstAt) s.keep.elapsed) (s.endpoint p e).lastAck + s.live (epF p e F.LSN_ENDPOINT_W4_RETENTION_US) * tickUs ≤ s.keep.elapsed)) ∧
    (∃ s : State, ∃ p : Nat, ∃ e : Nat, ((s.endpoint p e).retained = [] ∨ s.get (epF p e F.LSN_ENDPOINT_STATUS_STATE) = 2 ∨ s.live (epF p e F.LSN_ENDPOINT_W0_RELIABLE) = 0 ∨ s.acksComing p e ≠ [])) ∧
    (∃ s : State, ∃ p : Nat, ∃ e : Nat, ((s.endpoint p e).runs.all (fun r => decide (r.count ≤ r.noticed)) = true ∨ s.ackKey p e = none)) ∧
    (∃ s : State, ∃ p : Nat, ∃ e : Nat, ∃ r : SpillRun, ∃ k : List Byte, ((s.endpoint p e).runs.find? (fun r => decide (r.noticed < r.count)) = some r) ∧ (s.ackKey p e = some k) ∧ (r.noticedAt = none)) ∧
    (∃ s : State, ∃ l : Nat, (l < 264) ∧ (s.linkDead l = true)) ∧
    (∃ s : State, ∃ l : Nat, (264 ≤ l ∨ s.linkDead l = false)) :=
  ⟨⟨{ State.reset with regs := [((epF 0 0 F.LSN_ENDPOINT_W4_RETENTION_US).addr, BitVec.ofNat 64 ((100 <<< (epF 0 0 F.LSN_ENDPOINT_W4_RETENTION_US).lsb) + (50 <<< (epF 0 0 F.LSN_ENDPOINT_W4_RTO_US).lsb)))] }, 0, 0, 0, 1, by decide +kernel⟩,
   ⟨State.reset, 0, 0, 3, 1, by decide +kernel⟩,
   ⟨{ State.reset with regs := [((epF 0 0 F.LSN_ENDPOINT_CTRL_COMMIT).addr, BitVec.ofNat 64 ((1 <<< (epF 0 0 F.LSN_ENDPOINT_CTRL_COMMIT).lsb)))] }, 0, 0, 1, by decide +kernel⟩,
   ⟨State.reset, 0, 0, 0, by decide +kernel⟩,
   ⟨{ State.reset with regs := [((epF 0 0 F.LSN_ENDPOINT_W0_VALID).addr, BitVec.ofNat 64 ((1 <<< (epF 0 0 F.LSN_ENDPOINT_W0_VALID).lsb))), ((epF 0 0 F.LSN_ENDPOINT_CTRL_COMMIT).addr, BitVec.ofNat 64 ((1 <<< (epF 0 0 F.LSN_ENDPOINT_CTRL_COMMIT).lsb)))] }, 0, 0, by decide +kernel⟩,
   ⟨State.reset, 0, 0, by decide +kernel⟩,
   ⟨State.reset, 0, { mac := 0, v4 := false, ip := 0, port := 0 }, [], by decide +kernel⟩,
   ⟨{ State.reset with regs := [((F.SIG_KEY_INFO_VALID 0).addr, BitVec.ofNat 64 ((1 <<< (F.SIG_KEY_INFO_VALID 0).lsb) + (6 <<< (F.SIG_KEY_INFO_USAGE 0).lsb)))], units := { endpoints := [(0, ({ chains := [{ origin := 3, stream := 5, chain := 1 }], retained := [({ item := { data := [1, 2], kind := .sealed, stream := 5, seq := 7, endpoint := 0, chain := 1 }, prio := 3, link := 0, firstAt := 0, sentAt := 0, order := 0 } : Retained)] } : EndpointUnit))] }, force := [((epF 0 0 F.LSN_ENDPOINT_W0_VALID).addr, BitVec.ofNat 64 ((1 <<< (epF 0 0 F.LSN_ENDPOINT_W0_VALID).lsb) + (1 <<< (epF 0 0 F.LSN_ENDPOINT_W0_RELIABLE).lsb)))] }, 0, 0, { mac := 0, v4 := (({ State.reset with regs := [((F.SIG_KEY_INFO_VALID 0).addr, BitVec.ofNat 64 ((1 <<< (F.SIG_KEY_INFO_VALID 0).lsb) + (6 <<< (F.SIG_KEY_INFO_USAGE 0).lsb)))], units := { endpoints := [(0, ({ chains := [{ origin := 3, stream := 5, chain := 1 }], retained := [({ item := { data := [1, 2], kind := .sealed, stream := 5, seq := 7, endpoint := 0, chain := 1 }, prio := 3, link := 0, firstAt := 0, sentAt := 0, order := 0 } : Retained)] } : EndpointUnit))] }, force := [((epF 0 0 F.LSN_ENDPOINT_W0_VALID).addr, BitVec.ofNat 64 ((1 <<< (epF 0 0 F.LSN_ENDPOINT_W0_VALID).lsb) + (1 <<< (epF 0 0 F.LSN_ENDPOINT_W0_RELIABLE).lsb)))] }).istEnvelope 0 0 8192).v4, ip := (({ State.reset with regs := [((F.SIG_KEY_INFO_VALID 0).addr, BitVec.ofNat 64 ((1 <<< (F.SIG_KEY_INFO_VALID 0).lsb) + (6 <<< (F.SIG_KEY_INFO_USAGE 0).lsb)))], units := { endpoints := [(0, ({ chains := [{ origin := 3, stream := 5, chain := 1 }], retained := [({ item := { data := [1, 2], kind := .sealed, stream := 5, seq := 7, endpoint := 0, chain := 1 }, prio := 3, link := 0, firstAt := 0, sentAt := 0, order := 0 } : Retained)] } : EndpointUnit))] }, force := [((epF 0 0 F.LSN_ENDPOINT_W0_VALID).addr, BitVec.ofNat 64 ((1 <<< (epF 0 0 F.LSN_ENDPOINT_W0_VALID).lsb) + (1 <<< (epF 0 0 F.LSN_ENDPOINT_W0_RELIABLE).lsb)))] }).istEnvelope 0 0 8192).dstIp, port := (({ State.reset with regs := [((F.SIG_KEY_INFO_VALID 0).addr, BitVec.ofNat 64 ((1 <<< (F.SIG_KEY_INFO_VALID 0).lsb) + (6 <<< (F.SIG_KEY_INFO_USAGE 0).lsb)))], units := { endpoints := [(0, ({ chains := [{ origin := 3, stream := 5, chain := 1 }], retained := [({ item := { data := [1, 2], kind := .sealed, stream := 5, seq := 7, endpoint := 0, chain := 1 }, prio := 3, link := 0, firstAt := 0, sentAt := 0, order := 0 } : Retained)] } : EndpointUnit))] }, force := [((epF 0 0 F.LSN_ENDPOINT_W0_VALID).addr, BitVec.ofNat 64 ((1 <<< (epF 0 0 F.LSN_ENDPOINT_W0_VALID).lsb) + (1 <<< (epF 0 0 F.LSN_ENDPOINT_W0_RELIABLE).lsb)))] }).istEnvelope 0 0 8192).dstPort }, (be 2 0xFFFE ++ be 1 0x11 ++ be 1 0 ++ be 2 5 ++ be 2 0 ++ be 8 7 ++ be 8 0 ++ be 4 1 ++ zeros 12), (({ State.reset with regs := [((F.SIG_KEY_INFO_VALID 0).addr, BitVec.ofNat 64 ((1 <<< (F.SIG_KEY_INFO_VALID 0).lsb) + (6 <<< (F.SIG_KEY_INFO_USAGE 0).lsb)))], units := { endpoints := [(0, ({ chains := [{ origin := 3, stream := 5, chain := 1 }], retained := [({ item := { data := [1, 2], kind := .sealed, stream := 5, seq := 7, endpoint := 0, chain := 1 }, prio := 3, link := 0, firstAt := 0, sentAt := 0, order := 0 } : Retained)] } : EndpointUnit))] }, force := [((epF 0 0 F.LSN_ENDPOINT_W0_VALID).addr, BitVec.ofNat 64 ((1 <<< (epF 0 0 F.LSN_ENDPOINT_W0_VALID).lsb) + (1 <<< (epF 0 0 F.LSN_ENDPOINT_W0_RELIABLE).lsb)))] }).ackKey 0 0).getD [], by decide +kernel⟩,
   ⟨{ State.reset with keep := { elapsed := 70000 * tickUs }, units := { endpoints := [(0, ({ retained := [({ item := { data := [1, 2], kind := .sealed, stream := 5, seq := 7, endpoint := 0, chain := 1 }, prio := 3, link := 0, firstAt := 0, sentAt := 0, order := 0 } : Retained)] } : EndpointUnit))] }, force := [((epF 0 0 F.LSN_ENDPOINT_W4_RETRIES).addr, 0xFFFF)] }, 0, 0, ({ item := { data := [1, 2], kind := .sealed, stream := 5, seq := 7, endpoint := 0, chain := 1 }, prio := 3, link := 0, firstAt := 0, sentAt := 0, order := 0 } : Retained), by decide +kernel⟩,
   ⟨{ State.reset with keep := { elapsed := 70000 * tickUs }, units := { endpoints := [(0, ({ retained := [({ item := { data := [1, 2], kind := .sealed, stream := 5, seq := 7, endpoint := 0, chain := 1 }, prio := 3, link := 0, firstAt := 0, sentAt := 0, order := 0, sends := 99 } : Retained)] } : EndpointUnit))] } }, 0, 0, ({ item := { data := [1, 2], kind := .sealed, stream := 5, seq := 7, endpoint := 0, chain := 1 }, prio := 3, link := 0, firstAt := 0, sentAt := 0, order := 0, sends := 99 } : Retained), by decide +kernel⟩,
   ⟨State.reset, 0, 0, by decide +kernel⟩,
   ⟨{ State.reset with keep := { elapsed := 2000 * tickMs }, units := { endpoints := [(0, ({ retained := [({ item := { data := [1, 2], kind := .sealed, stream := 5, seq := 7, endpoint := 0, chain := 1 }, prio := 3, link := 0, firstAt := 0, sentAt := 0, order := 0 } : Retained)] } : EndpointUnit))] }, force := [((epF 0 0 F.LSN_ENDPOINT_W0_RELIABLE).addr, BitVec.ofNat 64 (1 <<< (epF 0 0 F.LSN_ENDPOINT_W0_RELIABLE).lsb))] }, 0, 0, by decide +kernel⟩,
   ⟨State.reset, 0, 0, by decide +kernel⟩,
   ⟨State.reset, 0, 0, by decide +kernel⟩,
   by
    refine ⟨{ State.reset with regs := [((F.SIG_KEY_INFO_VALID 0).addr, BitVec.ofNat 64 ((1 <<< (F.SIG_KEY_INFO_VALID 0).lsb) + (6 <<< (F.SIG_KEY_INFO_USAGE 0).lsb)))], units := { endpoints := [(0, ({ runs := [{ link := 0, stream := 5, chain := 1, first := 4, count := 2 }] } : EndpointUnit))] } }, 0, 0, { link := 0, stream := 5, chain := 1, first := 4, count := 2 }, (({ State.reset with regs := [((F.SIG_KEY_INFO_VALID 0).addr, BitVec.ofNat 64 ((1 <<< (F.SIG_KEY_INFO_VALID 0).lsb) + (6 <<< (F.SIG_KEY_INFO_USAGE 0).lsb)))], units := { endpoints := [(0, ({ runs := [{ link := 0, stream := 5, chain := 1, first := 4, count := 2 }] } : EndpointUnit))] } }).ackKey 0 0).getD [], ?_⟩
    and_intros
    all_goals first | exact (rfl) | decide +kernel,
   ⟨{ State.reset with units := { endpoints := [(0, ({ retained := [({ item := { data := [1, 2], kind := .sealed, stream := 5, seq := 7, endpoint := 0, chain := 1 }, prio := 3, link := 0, firstAt := 0, sentAt := 0, order := 0 } : Retained)] } : EndpointUnit))] } }, 0, by decide +kernel⟩,
   ⟨State.reset, 264, by decide +kernel⟩⟩

set_option maxRecDepth 20000 in
theorem witness_FramesOnLinks :
    (∃ s : State, ∃ l : Nat, ∃ p : Nat, ∃ i : Item, ∃ rest : List (Item × Nat), (l < 264) ∧ (s.pick l = some (p, .send i rest)) ∧ (i.kind = .sealed → 256 ≤ i.endpoint ∨ s.epAt (portOf l) i.endpoint F.LSN_ENDPOINT_W0_RELIABLE ≠ 1) ∧ (i.faulty = false) ∧ ((s.queue (queueOf l p)).late = [])) ∧
    (∃ s : State, ∃ l : Nat, ∃ p : Nat, ∃ i : Item, ∃ rest : List (Item × Nat), (l < 264) ∧ (s.pick l = some (p, .send i rest)) ∧ (i.kind = .sealed) ∧ (i.endpoint < 256) ∧ (s.epAt (portOf l) i.endpoint F.LSN_ENDPOINT_W0_RELIABLE = 1) ∧ (s.retainedOn (portOf l) = []) ∧ (i.data.length ≤ retention (portOf l)) ∧ (i.faulty = false) ∧ ((s.queue (queueOf l p)).late = [])) ∧
    (∃ s : State, ∃ l : Nat, ∃ p : Nat, ∃ e : Nat, ∃ r : Retained, (l < 264) ∧ (s.pick l = some (p, .resend e r))) ∧
    (∃ s : State, ∃ l : Nat, ∃ p : Nat, ∃ y : Diverted, ∃ i : Item, ∃ rest : List (Item × Nat), (l < 264) ∧ (s.pick l = some (p, .divert y i rest))) ∧
    (∃ s : State, ∃ l : Nat, (s.pick l = none)) ∧
    (∃ s : State, ∃ l : Nat, ∃ p : Nat, ∃ t0 : Nat, ∃ i : Item, ∃ rest : List (Item × Nat), (l < 264) ∧ (s.headOf l p = some (i, rest)) ∧ (s.launchOf l i = some t0) ∧ (0 ≤ dif s.now t0) ∧ (s.pending = []) ∧ (256 ≤ l ∨ s.fenced = false) ∧ ((List.range 8).any (fun h => decide (p < h) && (s.pickAt l h true).isSome) = false) ∧ (s.pickAt l p = some (.send i rest)) ∧ (i.kind = .sealed → 256 ≤ i.endpoint ∨ s.epAt (portOf l) i.endpoint F.LSN_ENDPOINT_W0_RELIABLE ≠ 1) ∧ (i.faulty = false) ∧ ((s.queue (queueOf l p)).late = [])) ∧
    (∃ s : State, ∃ l : Nat, ∃ p : Nat, ∃ t0 : Nat, ∃ i : Item, ∃ rest : List (Item × Nat), (l < 264) ∧ (s.headOf l p = some (i, rest)) ∧ (s.launchOf l i = some t0) ∧ (0 ≤ dif s.now t0) ∧ (s.pending = []) ∧ (256 ≤ l ∨ s.fenced = false) ∧ ((List.range 8).any (fun h => decide (p < h) && (s.pickAt l h true).isSome) = true)) ∧
    (∃ s : State, ∃ l : Nat, ∃ p : Nat, (s.pending = []) ∧ (s.headOf l p = none ∨ (∀ y ∈ s.headOf l p, ∀ u ∈ s.launchOf l y.1, dif s.now u < 0) ∨ (l < 256 ∧ s.fenced = true) ∨ ((List.range 8).any (fun h => decide (p < h) && (s.pickAt l h true).isSome) = false ∧ s.pickAt l p = none))) ∧
    (∃ s : State, (s.pending ≠ [])) ∧
    (∃ s : State, ∃ l : Nat, ∃ f : List Byte, ∃ x : RxStatus, (s.linkIsUp l = true) ∧ (x.corrected = 0) ∧ (x.reassembled ≠ some true) ∧ (l < 256 ∨ frameType f ≠ 0x88F7) ∧ (x.reassembled = some false)) ∧
    (∃ s : State, ∃ l : Nat, ∃ f : List Byte, ∃ x : RxStatus, (s.linkIsUp l = true) ∧ (x.corrected = 0) ∧ (x.reassembled ≠ some true) ∧ (x.reassembled ≠ some false) ∧ (256 ≤ l) ∧ (l < 264) ∧ (frameType f = 0x88F7) ∧ (64 ≤ f.length + 4) ∧ (x.fcsOk = false)) ∧
    (∃ s : State, ∃ l : Nat, ∃ f : List Byte, ∃ x : RxStatus, (s.linkIsUp l = true) ∧ (x.corrected = 0) ∧ (x.reassembled ≠ some true) ∧ (l < 256 ∨ frameType f ≠ 0x88F7) ∧ (x.reassembled ≠ some false) ∧ (f.length + 4 < 64)) ∧
    (∃ s : State, ∃ l : Nat, ∃ f : List Byte, ∃ x : RxStatus, (s.linkIsUp l = true) ∧ (x.corrected = 0) ∧ (x.reassembled ≠ some true) ∧ (l < 256 ∨ frameType f ≠ 0x88F7) ∧ (x.reassembled ≠ some false) ∧ (64 ≤ f.length + 4) ∧ (x.fcsOk = false)) ∧
    (∃ s : State, ∃ l : Nat, ∃ f : List Byte, ∃ x : RxStatus, (s.linkIsUp l = true) ∧ (x.corrected = 0) ∧ (x.reassembled ≠ some true) ∧ (l < 256 ∨ frameType f ≠ 0x88F7) ∧ (x.reassembled ≠ some false) ∧ (x.fcsOk = true) ∧ (9320 < f.length + 4)) ∧
    (∃ s : State, ∃ l : Nat, ∃ f : List Byte, ∃ x : RxStatus, (s.linkIsUp l = true) ∧ (x.corrected = 0) ∧ (x.reassembled ≠ some true) ∧ (l < 256 ∨ frameType f ≠ 0x88F7) ∧ (x.reassembled ≠ some false) ∧ (64 ≤ f.length + 4) ∧ (x.fcsOk = true) ∧ (f.length + 4 ≤ 9320) ∧ (x.fecOk = false)) ∧
    (∃ s : State, ∃ l : Nat, ∃ f : List Byte, ∃ x : RxStatus, (s.linkIsUp l = true) ∧ (x.corrected = 0) ∧ (x.reassembled ≠ some true) ∧ (l < 256 ∨ frameType f ≠ 0x88F7) ∧ (x.reassembled ≠ some false) ∧ (64 ≤ f.length + 4) ∧ (x.fcsOk = true) ∧ (f.length + 4 ≤ 9320) ∧ (x.fecOk = true) ∧ (s.addressed l f = false)) ∧
    (∃ s : State, ∃ l : Nat, ∃ f : List Byte, ∃ x : RxStatus, (s.linkIsUp l = true) ∧ (x.corrected = 0) ∧ (x.reassembled ≠ some true) ∧ (x.reassembled ≠ some false) ∧ (64 ≤ f.length + 4) ∧ (x.fcsOk = true) ∧ (f.length + 4 ≤ 9320) ∧ (x.fecOk = true) ∧ (s.addressed l f = true) ∧ (isPfc f = false) ∧ (l < 256) ∧ (ipOf f = none)) ∧
    (∃ s : State, ∃ l : Nat, ∃ f : List Byte, ∃ x : RxStatus, (s.linkIsUp l = true) ∧ (x.corrected = 0) ∧ (x.reassembled ≠ some true) ∧ (x.reassembled ≠ some false) ∧ (64 ≤ f.length + 4) ∧ (x.fcsOk = true) ∧ (f.length + 4 ≤ 9320) ∧ (x.fecOk = true) ∧ (s.addressed l f = true) ∧ (isPfc f = true)) ∧
    (∃ s : State, ∃ l : Nat, (s.linkIsUp l = false)) :=
  ⟨⟨{ State.reset with regs := [((F.LSN_LINK_STATUS_STATE 0 0).addr, BitVec.ofNat 64 ((2 <<< (F.LSN_LINK_STATUS_STATE 0 0).lsb))), (134219520, 0x80900400), (134219524, 0x400)], units := { queues := [(7, ({ items := [({ data := zeros 40 }, 0)] } : QueueUnit))] } }, 0, 7, { data := zeros 40 }, [], by decide +kernel⟩,
   ⟨{ State.reset with regs := [((F.LSN_LINK_STATUS_STATE 0 0).addr, BitVec.ofNat 64 ((2 <<< (F.LSN_LINK_STATUS_STATE 0 0).lsb))), (134219520, 0x80900400), (134219524, 0x400)], units := { queues := [(7, ({ items := [({ data := zeros 40, kind := .sealed, endpoint := 0 }, 0)] } : QueueUnit))] }, force := [((epF 0 0 F.LSN_ENDPOINT_W0_RELIABLE).addr, BitVec.ofNat 64 (1 <<< (epF 0 0 F.LSN_ENDPOINT_W0_RELIABLE).lsb))] }, 0, 7, { data := zeros 40, kind := .sealed, endpoint := 0 }, [], by decide +kernel⟩,
   ⟨{ State.reset with regs := [((F.LSN_LINK_STATUS_STATE 0 0).addr, BitVec.ofNat 64 ((2 <<< (F.LSN_LINK_STATUS_STATE 0 0).lsb)))], keep := { elapsed := 5 }, units := { endpoints := [(0, ({ retained := [({ item := { data := [1, 2], kind := .sealed, stream := 5, seq := 7, endpoint := 0, chain := 1 }, prio := 3, link := 0, firstAt := 0, sentAt := 0, order := 0, due := some 0 } : Retained)] } : EndpointUnit))] } }, 0, 3, 0, ({ item := { data := [1, 2], kind := .sealed, stream := 5, seq := 7, endpoint := 0, chain := 1 }, prio := 3, link := 0, firstAt := 0, sentAt := 0, order := 0, due := some 0 } : Retained), by decide +kernel⟩,
   ⟨{ State.reset with regs := [(134219520, 0x80900400), (134219524, 0x400)], units := { queues := [(7, ({ items := [({ data := zeros 40 }, 0)] } : QueueUnit))] } }, 0, 7, .linkDown, { data := zeros 40 }, [], by decide +kernel⟩,
   ⟨State.reset, 0, by decide +kernel⟩,
   ⟨{ State.reset with regs := [((F.LSN_LINK_STATUS_STATE 0 0).addr, BitVec.ofNat 64 ((2 <<< (F.LSN_LINK_STATUS_STATE 0 0).lsb))), (134219520, 0x80900400), (134219524, 0x400)], units := { queues := [(7, ({ items := [({ data := zeros 40, launch := some 0 }, 0)] } : QueueUnit))] } }, 0, 7, 0, { data := zeros 40, launch := some 0 }, [], by decide +kernel⟩,
   ⟨{ State.reset with regs := [((F.LSN_LINK_STATUS_STATE 0 0).addr, BitVec.ofNat 64 ((2 <<< (F.LSN_LINK_STATUS_STATE 0 0).lsb))), (134219264, 0x80900400), (134219268, 0x400), (134219520, 0x80900400), (134219524, 0x400)], units := { queues := [(6, ({ items := [({ data := zeros 40, launch := some 0 }, 0)] } : QueueUnit)), (7, ({ items := [({ data := zeros 40 }, 0)] } : QueueUnit))] } }, 0, 6, 0, { data := zeros 40, launch := some 0 }, [], by decide +kernel⟩,
   ⟨State.reset, 0, 7, by decide +kernel⟩,
   ⟨{ State.reset with pending := [.pauseExpiry 0 0] }, by decide +kernel⟩,
   ⟨{ State.reset with regs := [((F.LSN_LINK_STATUS_STATE 0 0).addr, BitVec.ofNat 64 ((2 <<< (F.LSN_LINK_STATUS_STATE 0 0).lsb)))] }, 0, [], { reassembled := some false }, by decide +kernel⟩,
   ⟨{ State.reset with regs := [((F.RNG_STATUS_STATE 0).addr, BitVec.ofNat 64 ((2 <<< (F.RNG_STATUS_STATE 0).lsb)))] }, 256, (zeros 12 ++ be 2 0x88F7 ++ zeros 46), { fcsOk := false }, by decide +kernel⟩,
   ⟨{ State.reset with regs := [((F.LSN_LINK_STATUS_STATE 0 0).addr, BitVec.ofNat 64 ((2 <<< (F.LSN_LINK_STATUS_STATE 0 0).lsb)))] }, 0, [], { }, by decide +kernel⟩,
   ⟨{ State.reset with regs := [((F.LSN_LINK_STATUS_STATE 0 0).addr, BitVec.ofNat 64 ((2 <<< (F.LSN_LINK_STATUS_STATE 0 0).lsb)))] }, 0, (fit 60 (be 6 7 ++ be 6 1 ++ be 2 0x86DD)), { fcsOk := false }, by decide +kernel⟩,
   ⟨{ State.reset with regs := [((F.LSN_LINK_STATUS_STATE 0 0).addr, BitVec.ofNat 64 ((2 <<< (F.LSN_LINK_STATUS_STATE 0 0).lsb)))] }, 0, zeros 9317, { }, by decide +kernel⟩,
   ⟨{ State.reset with regs := [((F.LSN_LINK_STATUS_STATE 0 0).addr, BitVec.ofNat 64 ((2 <<< (F.LSN_LINK_STATUS_STATE 0 0).lsb)))] }, 0, (fit 60 (be 6 7 ++ be 6 1 ++ be 2 0x86DD)), { fecOk := false }, by decide +kernel⟩,
   ⟨{ State.reset with regs := [((F.LSN_LINK_STATUS_STATE 0 0).addr, BitVec.ofNat 64 ((2 <<< (F.LSN_LINK_STATUS_STATE 0 0).lsb)))] }, 0, (fit 60 (be 6 7 ++ be 6 1 ++ be 2 0x86DD)), { }, by decide +kernel⟩,
   ⟨{ State.reset with regs := [((F.LSN_LINK_STATUS_STATE 0 0).addr, BitVec.ofNat 64 ((2 <<< (F.LSN_LINK_STATUS_STATE 0 0).lsb)))] }, 0, zeros 60, { }, by decide +kernel⟩,
   ⟨{ State.reset with regs := [((F.LSN_LINK_STATUS_STATE 0 0).addr, BitVec.ofNat 64 ((2 <<< (F.LSN_LINK_STATUS_STATE 0 0).lsb)))] }, 0, (zeros 12 ++ be 2 0x8808 ++ be 2 0x0101 ++ zeros 44), { }, by decide +kernel⟩,
   ⟨State.reset, 0, by decide +kernel⟩⟩

set_option maxRecDepth 20000 in
theorem witness_SealsAndRounds :
    (∃ s : State, ∃ st : Nat, (st < 8192) ∧ ((s.seg st).due = true) ∧ ((s.chain st).ending = false) ∧ ((s.seg st).sentAt + s.get (F.LSN_STREAM_SEG_PROGRESS_IDLE_US st) * tickUs ≤ s.keep.elapsed) ∧ ((s.chain st).isOpen = true) ∧ (s.chainKeysGood (s.chain st) = true)) ∧
    (∃ s : State, ∃ st : Nat, (st < 8192) ∧ ((s.seg st).due = true) ∧ ((s.chain st).ending = false) ∧ ((s.seg st).sentAt + s.get (F.LSN_STREAM_SEG_PROGRESS_IDLE_US st) * tickUs ≤ s.keep.elapsed) ∧ ((s.chain st).isOpen = false)) ∧
    (∃ s : State, ∃ st : Nat, (st < 8192) ∧ ((s.seg st).due = true) ∧ ((s.chain st).ending = false) ∧ ((s.seg st).sentAt + s.get (F.LSN_STREAM_SEG_PROGRESS_IDLE_US st) * tickUs ≤ s.keep.elapsed) ∧ ((s.chain st).isOpen = true) ∧ (s.chainKeysGood (s.chain st) = false)) ∧
    (∃ s : State, ∃ st : Nat, ((s.seg st).due = false ∨ (s.chain st).ending = true ∨ s.keep.elapsed < (s.seg st).sentAt + s.get (F.LSN_STREAM_SEG_PROGRESS_IDLE_US st) * tickUs)) ∧
    (∃ s : State, ∃ st : Nat, (st < 8192) ∧ ((s.chain st).isOpen = true) ∧ ((s.chain st).ending = false) ∧ (bit (s.chain st).cfg 62 = false) ∧ (bits (s.chain st).cfg 55 32 ≠ 0) ∧ (dif s.now (s.chain st).lastCp < 0 ∨ (bits (s.chain st).cfg 55 32 * tickMs : Nat) ≤ dif s.now (s.chain st).lastCp) ∧ ((s.chain st).seq ≠ 0) ∧ ((s.chain st).due = none)) ∧
    (∃ s : State, ∃ st : Nat, (st < 8192) ∧ ((s.chain st).isOpen = true) ∧ ((s.chain st).ending = false) ∧ (bit (s.chain st).cfg 62 = false) ∧ (bits (s.chain st).cfg 55 32 ≠ 0) ∧ (dif s.now (s.chain st).lastCp < 0 ∨ (bits (s.chain st).cfg 55 32 * tickMs : Nat) ≤ dif s.now (s.chain st).lastCp) ∧ ((s.chain st).seq ≠ 0) ∧ ((s.chain st).due.isSome = true)) ∧
    (∃ s : State, ∃ st : Nat, ((s.chain st).isOpen = false ∨ (s.chain st).ending = true ∨ bit (s.chain st).cfg 62 = true ∨ bits (s.chain st).cfg 55 32 = 0 ∨ (0 ≤ dif s.now (s.chain st).lastCp ∧ dif s.now (s.chain st).lastCp < (bits (s.chain st).cfg 55 32 * tickMs : Nat)))) ∧
    (∃ s : State, (dif s.now s.units.roundAt < 0 ∨ (s.get F.SIG_CTRL_ROUND_US * tickUs : Nat) ≤ dif s.now s.units.roundAt) ∧ (s.pending = []) ∧ (s.win.touched = []) ∧ ((Sparse.keys s.units.chains (fun _ c => c.due.isSome)) ≠ [])) ∧
    (∃ s : State, (dif s.now s.units.roundAt < 0 ∨ (s.get F.SIG_CTRL_ROUND_US * tickUs : Nat) ≤ dif s.now s.units.roundAt) ∧ (s.pending = []) ∧ (s.win.touched = []) ∧ (Sparse.keys s.units.chains (fun _ c => c.due.isSome) = [])) ∧
    (∃ s : State, (dif s.now s.units.roundAt < 0 ∨ (s.get F.SIG_CTRL_ROUND_US * tickUs : Nat) ≤ dif s.now s.units.roundAt) ∧ (s.pending ≠ [] ∨ s.win.touched ≠ [])) ∧
    (∃ s : State, (0 ≤ dif s.now s.units.roundAt) ∧ (dif s.now s.units.roundAt < (s.get F.SIG_CTRL_ROUND_US * tickUs : Nat))) ∧
    (∃ s : State, ∃ st : Nat, ∃ c : Checkpoint, (st < 8192) ∧ (s.units.checkpoints.find? (fun c => c.stream = st) = some c) ∧ ((s.chain st).isOpen = true) ∧ (s.chainKeysGood (s.chain st) = true) ∧ (c.kind ≠ 3 ∨ (s.chain st).ending = false)) ∧
    (∃ s : State, ∃ st : Nat, ∃ c : Checkpoint, (st < 8192) ∧ (s.units.checkpoints.find? (fun c => c.stream = st) = some c) ∧ ((s.chain st).isOpen = false)) ∧
    (∃ s : State, ∃ st : Nat, (s.units.checkpoints.find? (fun c => c.stream = st) = none)) :=
  ⟨⟨{ State.reset with regs := [((F.SIG_KEY_INFO_VALID 0).addr, BitVec.ofNat 64 ((1 <<< (F.SIG_KEY_INFO_VALID 0).lsb) + (1 <<< (F.SIG_KEY_INFO_USAGE 0).lsb)))], keep := { elapsed := 70000 * tickUs }, units := { seg := [(5, ({ due := true } : SegUnit))], chains := [(5, ({ isOpen := true, seq := 3 } : Chain))] } }, 5, by decide +kernel⟩,
   ⟨{ State.reset with keep := { elapsed := 70000 * tickUs }, units := { seg := [(5, ({ due := true } : SegUnit))] } }, 5, by decide +kernel⟩,
   ⟨{ State.reset with keep := { elapsed := 70000 * tickUs }, units := { seg := [(5, ({ due := true } : SegUnit))], chains := [(5, ({ isOpen := true, seq := 3 } : Chain))] } }, 5, by decide +kernel⟩,
   ⟨State.reset, 5, by decide +kernel⟩,
   ⟨{ State.reset with units := { d0 := 0x10000000000, chains := [(5, ({ isOpen := true, seq := 3, cfg := 1 <<< 32 } : Chain))] } }, 5, by decide +kernel⟩,
   ⟨{ State.reset with units := { d0 := 0x10000000000, chains := [(5, ({ isOpen := true, seq := 3, cfg := 1 <<< 32, due := some (1, zeros 144) } : Chain))] } }, 5, by decide +kernel⟩,
   ⟨State.reset, 5, by decide +kernel⟩,
   ⟨{ State.reset with units := { d0 := 0x10000000000, chains := [(5, ({ isOpen := true, seq := 3, due := some (1, zeros 144) } : Chain))] } }, by decide +kernel⟩,
   ⟨{ State.reset with units := { d0 := 0x10000000000 } }, by decide +kernel⟩,
   ⟨{ State.reset with units := { d0 := 0x10000000000 }, pending := [.entropyFault] }, by decide +kernel⟩,
   ⟨{ State.reset with units := { d0 := 3000, roundAt := 0 } }, by decide +kernel⟩,
   ⟨{ State.reset with regs := [((F.SIG_KEY_INFO_VALID 0).addr, BitVec.ofNat 64 ((1 <<< (F.SIG_KEY_INFO_VALID 0).lsb) + (1 <<< (F.SIG_KEY_INFO_USAGE 0).lsb)))], units := { chains := [(5, ({ isOpen := true, seq := 3 } : Chain))], checkpoints := [({ stream := 5, kind := 2, covered := 2, statement := zeros 144, proof := [], signed := true } : Checkpoint)] } }, 5, ({ stream := 5, kind := 2, covered := 2, statement := zeros 144, proof := [], signed := true } : Checkpoint), by decide +kernel⟩,
   ⟨{ State.reset with units := { checkpoints := [({ stream := 5, kind := 2, covered := 2, statement := zeros 144, proof := [], signed := true } : Checkpoint)] } }, 5, ({ stream := 5, kind := 2, covered := 2, statement := zeros 144, proof := [], signed := true } : Checkpoint), by decide +kernel⟩,
   ⟨State.reset, 5, by decide +kernel⟩⟩

set_option maxRecDepth 20000 in
theorem witness_KeysAndOwnership :
    (∃ s : State, ∃ e : Nat, (e < 256) ∧ (s.is (F.SIG_KEY_INFO_VALID e) = true) ∧ (s.is (F.SIG_KEY_INFO_FAULT e) = false)) ∧
    (∃ s : State, ∃ e : Nat, (256 ≤ e ∨ s.is (F.SIG_KEY_INFO_VALID e) = false ∨ s.is (F.SIG_KEY_INFO_FAULT e) = true)) ∧
    (∃ s : State, ∃ w : Nat, ∃ v : Word, (getBits v 0 0 = 1) ∧ (s.is F.SIG_OWNER_STATUS_BUSY = false) ∧ (w ≠ 0 ∨ getBits v 31 16 ≠ 0xA5C3) ∧ (s.get F.IMG_VOLATILE_WRITES_COUNT + 1 < 2 ^ 47)) ∧
    (∃ s : State, ∃ w : Nat, ∃ v : Word, (getBits v 0 0 = 1) ∧ (s.is F.SIG_OWNER_STATUS_BUSY = false) ∧ (w = 0) ∧ (getBits v 31 16 = 0xA5C3)) ∧
    (∃ s : State, ∃ v : Word, (getBits v 0 0 = 0 ∨ s.is F.SIG_OWNER_STATUS_BUSY = true) ∧ (s.get F.IMG_VOLATILE_WRITES_COUNT + 1 < 2 ^ 47)) ∧
    (∃ s : State, ∃ o : OwnerCopy, (s.units.ownerPending = some o) ∧ (∀ x ∈ s.owner, x.epoch < o.epoch)) ∧
    (∃ s : State, ∃ o : OwnerCopy, (s.units.ownerPending = some o)) ∧
    (∃ s : State, (s.units.ownerPending = none)) :=
  ⟨⟨{ State.reset with regs := [((F.SIG_KEY_INFO_VALID 0).addr, BitVec.ofNat 64 ((1 <<< (F.SIG_KEY_INFO_VALID 0).lsb) + (1 <<< (F.SIG_KEY_INFO_USAGE 0).lsb)))] }, 0, by decide +kernel⟩,
   ⟨State.reset, 0, by decide +kernel⟩,
   ⟨State.reset, 3, 1, by decide +kernel⟩,
   ⟨State.reset, 0, 0xA5C30001, by decide +kernel⟩,
   ⟨State.reset, 0, by decide +kernel⟩,
   ⟨{ State.reset with units := { ownerPending := some ({ epoch := 1, keyHash := 5, enrolKey := 7 } : OwnerCopy) } }, ({ epoch := 1, keyHash := 5, enrolKey := 7 } : OwnerCopy), by decide +kernel⟩,
   ⟨{ State.reset with units := { ownerPending := some ({ epoch := 1, keyHash := 5, enrolKey := 7 } : OwnerCopy) } }, ({ epoch := 1, keyHash := 5, enrolKey := 7 } : OwnerCopy), by decide +kernel⟩,
   ⟨State.reset, by decide +kernel⟩⟩

set_option maxRecDepth 20000 in
theorem witness_TimeMessagesReceived :
    (∃ s : State, ∃ r : Nat, ∃ m : List Byte, ∃ x : Nat, ∃ i : Instr, ∃ ty : Nat, (i, ty) ∈ [((.ptpSyncRx r m x : Instr), 0), (.ptpDelayReqRx r m x, 1), (.ptpFollowUpRx r m x, 8), (.ptpDelayRespRx r m x, 9), (.ptpAnnounceRx r m x, 11), (.ptpSignalingRx r m x, 12)] ∧ (num m 0 1 % 16 ≠ ty ∨ s.timePort r = false)) ∧
    (∃ s : State, ∃ r : Nat, ∃ m : List Byte, ∃ x : Nat, ∃ i : Instr, ∃ ty : Nat, (i, ty) ∈ [((.ptpSyncRx r m x : Instr), 0), (.ptpDelayReqRx r m x, 1), (.ptpFollowUpRx r m x, 8), (.ptpDelayRespRx r m x, 9), (.ptpAnnounceRx r m x, 11), (.ptpSignalingRx r m x, 12)] ∧ (num m 0 1 % 16 = ty) ∧ (s.timePort r = true) ∧ (s.is F.SIG_CTRL_PTP_AUTH = true) ∧ (s.ptpCheck r m = 1)) ∧
    (∃ s : State, ∃ r : Nat, ∃ m : List Byte, ∃ x : Nat, ∃ i : Instr, ∃ ty : Nat, (i, ty) ∈ [((.ptpSyncRx r m x : Instr), 0), (.ptpDelayReqRx r m x, 1), (.ptpFollowUpRx r m x, 8), (.ptpDelayRespRx r m x, 9), (.ptpAnnounceRx r m x, 11), (.ptpSignalingRx r m x, 12)] ∧ (num m 0 1 % 16 = ty) ∧ (s.timePort r = true) ∧ (s.is F.SIG_CTRL_PTP_AUTH = false) ∧ (s.ptpKnown false m = false)) ∧
    (∃ s : State, ∃ r : Nat, ∃ m : List Byte, (num m 0 1 = 0) ∧ (s.timePort r = true) ∧ (s.is F.SIG_CTRL_PTP_AUTH = false) ∧ (s.ptpKnown false m = true) ∧ (num m 4 1 = s.units.time.number0)) ∧
    (∃ s : State, ∃ r : Nat, ∃ m : List Byte, ∃ t2 : Int, ∃ corr : Int, ∃ w : Nat, (num m 0 1 = 8) ∧ (s.timePort r = true) ∧ (s.is F.SIG_CTRL_PTP_AUTH = false) ∧ (s.ptpKnown false m = true) ∧ (num m 4 1 = s.units.time.number0) ∧ 0 ∈ s.instances r 0 ∧ 1 ∉ s.instances r 0 ∧ (s.units.time.inst0.sync = some (num m 30 2, t2, corr, w)) ∧ (s.keep.elapsed ≤ w + s.syncInterval)) ∧
    (∃ s : State, ∃ r : Nat, ∃ m : List Byte, (num m 0 1 = 1) ∧ (s.timePort r = true) ∧ (s.is F.SIG_CTRL_PTP_AUTH = false) ∧ (s.ptpKnown false m = true) ∧ (num m 4 1 = s.units.time.number0)) ∧
    (∃ s : State, ∃ r : Nat, ∃ m : List Byte, ∃ t1 : Int, ∃ t2 : Int, ∃ t3 : Int, (num m 0 1 = 9) ∧ (s.timePort r = true) ∧ (s.is F.SIG_CTRL_PTP_AUTH = false) ∧ (s.ptpKnown false m = true) ∧ (num m 4 1 = s.units.time.number0) ∧ (s.instances r 0 = [0]) ∧ (s.units.time.inst0.req = some (num m 30 2, t3)) ∧ (s.units.time.inst0.pair = some (t1, t2)) ∧ (slice m 44 10 = s.portIdentity r)) ∧
    (∃ s : State, ∃ r : Nat, ∃ m : List Byte, (num m 0 1 = 11) ∧ (s.timePort r = true) ∧ (s.is F.SIG_CTRL_PTP_AUTH = false) ∧ (s.ptpKnown false m = true) ∧ (num m 4 1 = s.units.time.number0)) ∧
    (∃ s : State, ∃ r : Nat, ∃ m : List Byte, (num m 0 1 = 12) ∧ (s.timePort r = true) ∧ (s.is F.SIG_CTRL_PTP_AUTH = false) ∧ (s.ptpKnown false m = true) ∧ (num m 4 1 = s.units.time.number0)) ∧
    (∃ s : State, ∃ r : Nat, ∃ m : List Byte, (s.timePort r = true) ∧ (num m 0 1 = 0x0A) ∧ (num m 1 3 = 0x0019A7)) ∧
    (∃ s : State, ∃ r : Nat, ∃ m : List Byte, (s.timePort r = false ∨ num m 0 1 ≠ 0x0A ∨ num m 1 3 ≠ 0x0019A7)) :=
  ⟨⟨State.reset, 0, [], 5, .ptpAnnounceRx 0 [] 5, 11, by decide +kernel⟩,
   ⟨{ State.reset with regs := [((F.PWR_STATUS_LOCAL_READY).addr, BitVec.ofNat 64 ((1 <<< (F.PWR_STATUS_LOCAL_READY).lsb))), ((F.SUP_PEER_W0_EXCHANGED 0).addr, BitVec.ofNat 64 ((1 <<< (F.SUP_PEER_W0_EXCHANGED 0).lsb))), ((F.RNG_STATUS_STATE 0).addr, BitVec.ofNat 64 ((2 <<< (F.RNG_STATUS_STATE 0).lsb))), ((F.SIG_CTRL_PTP_AUTH).addr, BitVec.ofNat 64 ((1 <<< (F.SIG_CTRL_PTP_AUTH).lsb)))] }, 0, [0], 5, .ptpSyncRx 0 [0] 5, 0, by decide +kernel⟩,
   ⟨{ State.reset with regs := [((F.PWR_STATUS_LOCAL_READY).addr, BitVec.ofNat 64 ((1 <<< (F.PWR_STATUS_LOCAL_READY).lsb))), ((F.SUP_PEER_W0_EXCHANGED 0).addr, BitVec.ofNat 64 ((1 <<< (F.SUP_PEER_W0_EXCHANGED 0).lsb))), ((F.RNG_STATUS_STATE 0).addr, BitVec.ofNat 64 ((2 <<< (F.RNG_STATUS_STATE 0).lsb)))] }, 0, [1], 5, .ptpDelayReqRx 0 [1] 5, 1, by decide +kernel⟩,
   ⟨{ State.reset with regs := [((F.PWR_STATUS_LOCAL_READY).addr, BitVec.ofNat 64 ((1 <<< (F.PWR_STATUS_LOCAL_READY).lsb))), ((F.SUP_PEER_W0_EXCHANGED 0).addr, BitVec.ofNat 64 ((1 <<< (F.SUP_PEER_W0_EXCHANGED 0).lsb))), ((F.RNG_STATUS_STATE 0).addr, BitVec.ofNat 64 ((2 <<< (F.RNG_STATUS_STATE 0).lsb)))], units := { topo := some ({ kind := 0, parentD0 := 0 } : Topology) } }, 0, (be 1 0 ++ be 1 0x12 ++ be 2 44 ++ be 1 0 ++ be 1 0 ++ be 1 2 ++ be 1 8 ++ zeros 8 ++ be 4 0 ++ zeros 10 ++ be 2 0 ++ be 1 0 ++ be 1 0 ++ zeros 10), by decide +kernel⟩,
   ⟨{ State.reset with regs := [((F.PWR_STATUS_LOCAL_READY).addr, BitVec.ofNat 64 ((1 <<< (F.PWR_STATUS_LOCAL_READY).lsb))), ((F.SUP_PEER_W0_EXCHANGED 0).addr, BitVec.ofNat 64 ((1 <<< (F.SUP_PEER_W0_EXCHANGED 0).lsb))), ((F.RNG_STATUS_STATE 0).addr, BitVec.ofNat 64 ((2 <<< (F.RNG_STATUS_STATE 0).lsb)))], units := { topo := some ({ kind := 0, parentD0 := 0 } : Topology), time := ({ inst0 := { sync := some (0, 5, 6, 0) } } : TimeUnit) } }, 0, (be 1 8 ++ be 1 0x12 ++ be 2 44 ++ be 1 0 ++ be 1 0 ++ be 1 2 ++ be 1 8 ++ zeros 8 ++ be 4 0 ++ zeros 10 ++ be 2 0 ++ be 1 0 ++ be 1 0 ++ zeros 10), 5, 6, 0, by decide +kernel⟩,
   ⟨{ State.reset with regs := [((F.PWR_STATUS_LOCAL_READY).addr, BitVec.ofNat 64 ((1 <<< (F.PWR_STATUS_LOCAL_READY).lsb))), ((F.SUP_PEER_W0_EXCHANGED 0).addr, BitVec.ofNat 64 ((1 <<< (F.SUP_PEER_W0_EXCHANGED 0).lsb))), ((F.RNG_STATUS_STATE 0).addr, BitVec.ofNat 64 ((2 <<< (F.RNG_STATUS_STATE 0).lsb)))] }, 0, (be 1 1 ++ be 1 0x12 ++ be 2 44 ++ be 1 0 ++ be 1 0 ++ be 1 2 ++ be 1 8 ++ zeros 8 ++ be 4 0 ++ zeros 10 ++ be 2 0 ++ be 1 0 ++ be 1 0 ++ zeros 10), by decide +kernel⟩,
   ⟨{ State.reset with regs := [((F.PWR_STATUS_LOCAL_READY).addr, BitVec.ofNat 64 ((1 <<< (F.PWR_STATUS_LOCAL_READY).lsb))), ((F.SUP_PEER_W0_EXCHANGED 0).addr, BitVec.ofNat 64 ((1 <<< (F.SUP_PEER_W0_EXCHANGED 0).lsb))), ((F.RNG_STATUS_STATE 0).addr, BitVec.ofNat 64 ((2 <<< (F.RNG_STATUS_STATE 0).lsb)))], units := { topo := some ({ kind := 0, parentD0 := 0 } : Topology), time := ({ inst0 := { req := some (0, 7), pair := some (5, 6) } } : TimeUnit) } }, 0, (be 1 9 ++ be 1 0x12 ++ be 2 54 ++ be 1 0 ++ be 1 0 ++ be 1 2 ++ be 1 8 ++ zeros 8 ++ be 4 0 ++ zeros 10 ++ be 2 0 ++ be 1 0 ++ be 1 0 ++ zeros 10 ++ (({ State.reset with regs := [((F.PWR_STATUS_LOCAL_READY).addr, BitVec.ofNat 64 ((1 <<< (F.PWR_STATUS_LOCAL_READY).lsb))), ((F.SUP_PEER_W0_EXCHANGED 0).addr, BitVec.ofNat 64 ((1 <<< (F.SUP_PEER_W0_EXCHANGED 0).lsb))), ((F.RNG_STATUS_STATE 0).addr, BitVec.ofNat 64 ((2 <<< (F.RNG_STATUS_STATE 0).lsb)))], units := { topo := some ({ kind := 0, parentD0 := 0 } : Topology), time := ({ inst0 := { req := some (0, 7), pair := some (5, 6) } } : TimeUnit) } }).portIdentity 0)), 5, 6, 7, by decide +kernel⟩,
   ⟨{ State.reset with regs := [((F.PWR_STATUS_LOCAL_READY).addr, BitVec.ofNat 64 ((1 <<< (F.PWR_STATUS_LOCAL_READY).lsb))), ((F.SUP_PEER_W0_EXCHANGED 0).addr, BitVec.ofNat 64 ((1 <<< (F.SUP_PEER_W0_EXCHANGED 0).lsb))), ((F.RNG_STATUS_STATE 0).addr, BitVec.ofNat 64 ((2 <<< (F.RNG_STATUS_STATE 0).lsb)))], units := { topo := some ({ kind := 0, parentD0 := 0 } : Topology) } }, 0, (be 1 11 ++ be 1 0x12 ++ be 2 64 ++ be 1 0 ++ be 1 0 ++ be 1 2 ++ be 1 8 ++ zeros 8 ++ be 4 0 ++ zeros 10 ++ be 2 0 ++ be 1 0 ++ be 1 0 ++ zeros 30), by decide +kernel⟩,
   ⟨{ State.reset with regs := [((F.PWR_STATUS_LOCAL_READY).addr, BitVec.ofNat 64 ((1 <<< (F.PWR_STATUS_LOCAL_READY).lsb))), ((F.SUP_PEER_W0_EXCHANGED 0).addr, BitVec.ofNat 64 ((1 <<< (F.SUP_PEER_W0_EXCHANGED 0).lsb))), ((F.RNG_STATUS_STATE 0).addr, BitVec.ofNat 64 ((2 <<< (F.RNG_STATUS_STATE 0).lsb)))] }, 0, (be 1 12 ++ be 1 0x12 ++ be 2 50 ++ be 1 0 ++ be 1 0 ++ be 1 2 ++ be 1 8 ++ zeros 8 ++ be 4 0 ++ zeros 10 ++ be 2 0 ++ be 1 0 ++ be 1 0 ++ List.replicate 10 0xFF ++ be 2 0x8001 ++ be 2 2 ++ be 2 0x0701), by decide +kernel⟩,
   ⟨{ State.reset with regs := [((F.PWR_STATUS_LOCAL_READY).addr, BitVec.ofNat 64 ((1 <<< (F.PWR_STATUS_LOCAL_READY).lsb))), ((F.SUP_PEER_W0_EXCHANGED 0).addr, BitVec.ofNat 64 ((1 <<< (F.SUP_PEER_W0_EXCHANGED 0).lsb))), ((F.RNG_STATUS_STATE 0).addr, BitVec.ofNat 64 ((2 <<< (F.RNG_STATUS_STATE 0).lsb)))] }, 0, ([0x0A, 0x00, 0x19, 0xA7, 0, 0, 0, 0, 0, 0, 1, 0, 0, 2]), by decide +kernel⟩,
   ⟨State.reset, 0, [], by decide +kernel⟩⟩

set_option maxRecDepth 20000 in
theorem witness_TimeMessagesSent :
    (∃ s : State, ∃ r : Nat, ∃ k : Nat, (k < 2) ∧ (s.timePort r = true) ∧ (s.ptpState r k = 6) ∧ (Sparse.get (fun _ => 0) s.units.time.syncSent (8 * k + r) ≠ ((s.domainNow k).toNat + s.syncInterval - (if k = 1 then s.syncInterval / 2 else 0)) / s.syncInterval + 1)) ∧
    (∃ s : State, ∃ r : Nat, ∃ k : Nat, (2 ≤ k ∨ s.timePort r = false ∨ s.ptpState r k ≠ 6)) ∧
    (∃ s : State, ∃ r : Nat, (s.timePort r = true) ∧ (8 ≤ s.ptpState r 0) ∧ (s.sinceAt s.units.time.reqAt r s.syncInterval = true) ∧ (s.instances r 0 = [0])) ∧
    (∃ s : State, ∃ r : Nat, ∃ k : Nat, (2 ≤ k ∨ s.timePort r = false ∨ s.ptpState r k < 8 ∨ s.sinceAt s.units.time.reqAt (8 * k + r) s.syncInterval = false)) ∧
    (∃ s : State, ∃ r : Nat, ∃ k : Nat, (k < 2) ∧ (s.timePort r = true) ∧ (s.sinceAt s.units.time.announceAt (8 * k + r) s.announceInterval = true)) ∧
    (∃ s : State, ∃ r : Nat, ∃ k : Nat, (2 ≤ k ∨ s.timePort r = false ∨ s.sinceAt s.units.time.announceAt (8 * k + r) s.announceInterval = false)) ∧
    (∃ s : State, ∃ r : Nat, (s.timePort r = true) ∧ (∀ y ∈ Sparse.get (fun _ => none) s.units.time.esmc r, y.1 ≠ s.ql r ∨ y.2 + tickS ≤ s.keep.elapsed)) ∧
    (∃ s : State, ∃ r : Nat, (s.timePort r = false ∨ Sparse.get (fun _ => none) s.units.time.esmc r = some (s.ql r, s.keep.elapsed))) :=
  ⟨⟨{ State.reset with regs := [((F.PWR_STATUS_LOCAL_READY).addr, BitVec.ofNat 64 ((1 <<< (F.PWR_STATUS_LOCAL_READY).lsb))), ((F.SUP_PEER_W0_EXCHANGED 0).addr, BitVec.ofNat 64 ((1 <<< (F.SUP_PEER_W0_EXCHANGED 0).lsb))), ((F.RNG_STATUS_STATE 0).addr, BitVec.ofNat 64 ((2 <<< (F.RNG_STATUS_STATE 0).lsb)))] }, 0, 0, by decide +kernel⟩,
   ⟨State.reset, 0, 0, by decide +kernel⟩,
   ⟨{ State.reset with regs := [((F.PWR_STATUS_LOCAL_READY).addr, BitVec.ofNat 64 ((1 <<< (F.PWR_STATUS_LOCAL_READY).lsb))), ((F.SUP_PEER_W0_EXCHANGED 0).addr, BitVec.ofNat 64 ((1 <<< (F.SUP_PEER_W0_EXCHANGED 0).lsb))), ((F.RNG_STATUS_STATE 0).addr, BitVec.ofNat 64 ((2 <<< (F.RNG_STATUS_STATE 0).lsb)))], units := { topo := some ({ kind := 0, parentD0 := 0 } : Topology) } }, 0, by decide +kernel⟩,
   ⟨State.reset, 0, 0, by decide +kernel⟩,
   ⟨{ State.reset with regs := [((F.PWR_STATUS_LOCAL_READY).addr, BitVec.ofNat 64 ((1 <<< (F.PWR_STATUS_LOCAL_READY).lsb))), ((F.SUP_PEER_W0_EXCHANGED 0).addr, BitVec.ofNat 64 ((1 <<< (F.SUP_PEER_W0_EXCHANGED 0).lsb))), ((F.RNG_STATUS_STATE 0).addr, BitVec.ofNat 64 ((2 <<< (F.RNG_STATUS_STATE 0).lsb)))] }, 0, 0, by decide +kernel⟩,
   ⟨State.reset, 0, 0, by decide +kernel⟩,
   ⟨{ State.reset with regs := [((F.PWR_STATUS_LOCAL_READY).addr, BitVec.ofNat 64 ((1 <<< (F.PWR_STATUS_LOCAL_READY).lsb))), ((F.SUP_PEER_W0_EXCHANGED 0).addr, BitVec.ofNat 64 ((1 <<< (F.SUP_PEER_W0_EXCHANGED 0).lsb))), ((F.RNG_STATUS_STATE 0).addr, BitVec.ofNat 64 ((2 <<< (F.RNG_STATUS_STATE 0).lsb)))] }, 0, by decide +kernel⟩,
   ⟨State.reset, 0, by decide +kernel⟩⟩

set_option maxRecDepth 20000 in
theorem witness_ServoAndSources :
    (∃ s : State, (s.rootLike = false) ∧ (s.up = true) ∧ (s.servo = 0) ∧ (s.timePort (s.parent 0) = true)) ∧
    (∃ s : State, (s.rootLike = false) ∧ (s.up = true) ∧ (s.servo = 1) ∧ (s.timePort (s.parent 0) = true) ∧ (s.units.time.since + 100 * tickMs ≤ s.keep.elapsed)) ∧
    (∃ s : State, (s.rootLike = false) ∧ (s.up = true) ∧ (s.servo = 2) ∧ (s.units.time.stepped = false) ∧ (2 ≤ s.peerTq (s.parent 0) 0) ∧ (s.units.time.inst0.fresh.length = 8)) ∧
    (∃ s : State, (s.rootLike = false) ∧ (s.up = true) ∧ (s.servo = 2) ∧ (s.units.time.stepped = true) ∧ (4 ≤ s.units.time.inst0.fresh.length) ∧ (((s.units.time.inst0.fresh.take 4).all (fun x => decide (-262144 ≤ x) && decide (x ≤ 262144))) = true)) ∧
    (∃ s : State, (s.rootLike = false) ∧ (s.up = true) ∧ (s.servo = 4) ∧ (s.timePort (s.parent 0) = true) ∧ (2 ≤ s.peerTq (s.parent 0) 0) ∧ (s.units.time.inst0.fresh ≠ [])) ∧
    (∃ s : State, (s.rootLike = true ∨ s.up = false ∨ (s.servo ≤ 1 ∧ s.timePort (s.parent 0) = false))) ∧
    (∃ s : State, (s.rootLike = true) ∧ (s.up = true) ∧ (s.unconfigured = false) ∧ (s.servo ≤ 1) ∧ (s.names 0 = false ∨ s.is F.TIM_REF_STATUS_REF10M_VALID = true)) ∧
    (∃ s : State, (s.rootLike = true) ∧ (s.up = true) ∧ (s.unconfigured = false) ∧ (s.servo = 4) ∧ (s.refsGone = false)) ∧
    (∃ s : State, (s.rootLike = false ∨ s.up = false ∨ s.unconfigured = true)) ∧
    (∃ s : State, (s.source 0 < 8) ∧ (s.servo = 1 ∨ s.servo = 2) ∧ (s.timePort (s.source 0) = false) ∧ (s.reacquires = false)) ∧
    (∃ s : State, (s.source 0 < 8) ∧ (s.servo = 3) ∧ (s.portLost (s.source 0) s.units.time.inst0 s.sourceTq = true) ∧ (s.reacquires = false) ∧ (s.source 1 < 8) ∧ (2 ≤ s.tq 1) ∧ (s.d1LossPending = false)) ∧
    (∃ s : State, (s.source 0 < 8) ∧ (s.servo = 3 ∨ s.servo = 5) ∧ (s.portLost (s.source 0) s.units.time.inst0 s.sourceTq = true) ∧ (s.reacquires = false) ∧ (s.servo = 5 ∨ 8 ≤ s.source 1 ∨ s.tq 1 < 2)) ∧
    (∃ s : State, (8 ≤ s.source 0 ∨ s.reacquires = true ∨ (s.servo ≠ 1 ∧ s.servo ≠ 2 ∧ s.portLost (s.source 0) s.units.time.inst0 s.sourceTq = false))) ∧
    (∃ s : State, (s.d1Lost = true)) ∧
    (∃ s : State, (s.d1Lost = false)) ∧
    (∃ s : State, (s.is F.TIM_CTRL_REVERT = true) ∧ (s.servo = 5) ∧ (s.timePort (s.parent 0) = true) ∧ (∃ x ∈ s.units.time.tq3Since, s.passed x.1 60 = true ∧ s.keep.elapsed < x.2 + s.lossTime)) ∧
    (∃ s : State, (s.is F.TIM_CTRL_REVERT = false ∨ s.servo ≠ 5 ∨ s.timePort (s.parent 0) = false ∨ s.units.time.tq3Since = none)) ∧
    (∃ s : State, (s.up = true) ∧ (s.is F.TIM_STATUS_WARM = false)) ∧
    (∃ s : State, (s.up = false ∨ s.is F.TIM_STATUS_WARM = true)) ∧
    (∃ s : State, (s.up = true) ∧ (s.units.time.published ≠ some ((s.units.d0 / tickS + 1) * tickS))) ∧
    (∃ s : State, (s.up = false ∨ s.units.time.published = some ((s.units.d0 / tickS + 1) * tickS))) ∧
    (∃ s : State, ∃ r : Nat, (r < 8) ∧ (s.up = true) ∧ (s.get (F.TIM_PORT_CFG_ENV_CHANNEL r) < 16) ∧ (s.passed ((s.temperature (s.get (F.TIM_PORT_CFG_ENV_CHANNEL r))).elim s.units.sup.readyAt (·.1)) 10 = true)) ∧
    (∃ s : State, ∃ r : Nat, (8 ≤ r ∨ s.up = false ∨ 16 ≤ s.get (F.TIM_PORT_CFG_ENV_CHANNEL r))) :=
  ⟨⟨{ State.reset with regs := [((F.PWR_STATUS_LOCAL_READY).addr, BitVec.ofNat 64 ((1 <<< (F.PWR_STATUS_LOCAL_READY).lsb))), ((F.SUP_PEER_W0_EXCHANGED 0).addr, BitVec.ofNat 64 ((1 <<< (F.SUP_PEER_W0_EXCHANGED 0).lsb))), ((F.RNG_STATUS_STATE 0).addr, BitVec.ofNat 64 ((2 <<< (F.RNG_STATUS_STATE 0).lsb)))], units := { topo := some ({ kind := 0, parentD0 := 0, parentD1 := 0 } : Topology) } }, by decide +kernel⟩,
   ⟨{ State.reset with regs := [((F.PWR_STATUS_LOCAL_READY).addr, BitVec.ofNat 64 ((1 <<< (F.PWR_STATUS_LOCAL_READY).lsb))), ((F.TIM_STATUS_SERVO_STATE).addr, BitVec.ofNat 64 ((1 <<< (F.TIM_STATUS_SERVO_STATE).lsb))), ((F.SUP_PEER_W0_EXCHANGED 0).addr, BitVec.ofNat 64 ((1 <<< (F.SUP_PEER_W0_EXCHANGED 0).lsb))), ((F.RNG_STATUS_STATE 0).addr, BitVec.ofNat 64 ((2 <<< (F.RNG_STATUS_STATE 0).lsb)))], keep := { elapsed := 100 * tickMs }, units := { topo := some ({ kind := 0, parentD0 := 0, parentD1 := 0 } : Topology) } }, by decide +kernel⟩,
   ⟨{ State.reset with regs := [((F.PWR_STATUS_LOCAL_READY).addr, BitVec.ofNat 64 ((1 <<< (F.PWR_STATUS_LOCAL_READY).lsb))), ((F.TIM_STATUS_SERVO_STATE).addr, BitVec.ofNat 64 ((2 <<< (F.TIM_STATUS_SERVO_STATE).lsb))), ((F.TIM_PORT_STATUS_PEER_TQ_D0 0).addr, BitVec.ofNat 64 ((2 <<< (F.TIM_PORT_STATUS_PEER_TQ_D0 0).lsb) + (0 <<< (F.TIM_PORT_STATUS_PEER_TQ_D1 0).lsb))), ((F.SUP_PEER_W0_EXCHANGED 0).addr, BitVec.ofNat 64 ((1 <<< (F.SUP_PEER_W0_EXCHANGED 0).lsb))), ((F.RNG_STATUS_STATE 0).addr, BitVec.ofNat 64 ((2 <<< (F.RNG_STATUS_STATE 0).lsb)))], units := { topo := some ({ kind := 0, parentD0 := 0, parentD1 := 0 } : Topology), time := ({ inst0 := { fresh := [1, 2, 3, 4, 5, 6, 7, 8] } } : TimeUnit) } }, by decide +kernel⟩,
   ⟨{ State.reset with regs := [((F.PWR_STATUS_LOCAL_READY).addr, BitVec.ofNat 64 ((1 <<< (F.PWR_STATUS_LOCAL_READY).lsb))), ((F.TIM_STATUS_SERVO_STATE).addr, BitVec.ofNat 64 ((2 <<< (F.TIM_STATUS_SERVO_STATE).lsb))), ((F.TIM_PORT_STATUS_PEER_TQ_D0 0).addr, BitVec.ofNat 64 ((2 <<< (F.TIM_PORT_STATUS_PEER_TQ_D0 0).lsb) + (0 <<< (F.TIM_PORT_STATUS_PEER_TQ_D1 0).lsb))), ((F.SUP_PEER_W0_EXCHANGED 0).addr, BitVec.ofNat 64 ((1 <<< (F.SUP_PEER_W0_EXCHANGED 0).lsb))), ((F.RNG_STATUS_STATE 0).addr, BitVec.ofNat 64 ((2 <<< (F.RNG_STATUS_STATE 0).lsb)))], units := { topo := some ({ kind := 0, parentD0 := 0, parentD1 := 0 } : Topology), time := ({ stepped := true, inst0 := { fresh := [1, 2, 3, 4, 5, 6, 7, 8] } } : TimeUnit) } }, by decide +kernel⟩,
   ⟨{ State.reset with regs := [((F.PWR_STATUS_LOCAL_READY).addr, BitVec.ofNat 64 ((1 <<< (F.PWR_STATUS_LOCAL_READY).lsb))), ((F.TIM_STATUS_SERVO_STATE).addr, BitVec.ofNat 64 ((4 <<< (F.TIM_STATUS_SERVO_STATE).lsb))), ((F.TIM_PORT_STATUS_PEER_TQ_D0 0).addr, BitVec.ofNat 64 ((2 <<< (F.TIM_PORT_STATUS_PEER_TQ_D0 0).lsb) + (0 <<< (F.TIM_PORT_STATUS_PEER_TQ_D1 0).lsb))), ((F.SUP_PEER_W0_EXCHANGED 0).addr, BitVec.ofNat 64 ((1 <<< (F.SUP_PEER_W0_EXCHANGED 0).lsb))), ((F.RNG_STATUS_STATE 0).addr, BitVec.ofNat 64 ((2 <<< (F.RNG_STATUS_STATE 0).lsb)))], units := { topo := some ({ kind := 0, parentD0 := 0, parentD1 := 0 } : Topology), time := ({ inst0 := { fresh := [1, 2, 3, 4, 5, 6, 7, 8] } } : TimeUnit) } }, by decide +kernel⟩,
   ⟨State.reset, by decide +kernel⟩,
   ⟨{ State.reset with regs := [((F.PWR_STATUS_LOCAL_READY).addr, BitVec.ofNat 64 ((1 <<< (F.PWR_STATUS_LOCAL_READY).lsb))), ((F.SUP_PEER_W0_EXCHANGED 0).addr, BitVec.ofNat 64 ((1 <<< (F.SUP_PEER_W0_EXCHANGED 0).lsb))), ((F.RNG_STATUS_STATE 0).addr, BitVec.ofNat 64 ((2 <<< (F.RNG_STATUS_STATE 0).lsb)))], units := { topo := some ({ kind := 1, rootRef := 0 } : Topology) } }, by decide +kernel⟩,
   ⟨{ State.reset with regs := [((F.PWR_STATUS_LOCAL_READY).addr, BitVec.ofNat 64 ((1 <<< (F.PWR_STATUS_LOCAL_READY).lsb))), ((F.TIM_STATUS_SERVO_STATE).addr, BitVec.ofNat 64 ((4 <<< (F.TIM_STATUS_SERVO_STATE).lsb))), ((F.SUP_PEER_W0_EXCHANGED 0).addr, BitVec.ofNat 64 ((1 <<< (F.SUP_PEER_W0_EXCHANGED 0).lsb))), ((F.RNG_STATUS_STATE 0).addr, BitVec.ofNat 64 ((2 <<< (F.RNG_STATUS_STATE 0).lsb)))], units := { topo := some ({ kind := 1, rootRef := 0 } : Topology) } }, by decide +kernel⟩,
   ⟨State.reset, by decide +kernel⟩,
   ⟨{ State.reset with regs := [((F.PWR_STATUS_LOCAL_READY).addr, BitVec.ofNat 64 ((1 <<< (F.PWR_STATUS_LOCAL_READY).lsb))), ((F.TIM_STATUS_SERVO_STATE).addr, BitVec.ofNat 64 ((1 <<< (F.TIM_STATUS_SERVO_STATE).lsb))), ((F.TIM_PARENT_SOURCE_D0).addr, BitVec.ofNat 64 ((0 <<< (F.TIM_PARENT_SOURCE_D0).lsb) + (255 <<< (F.TIM_PARENT_SOURCE_D1).lsb)))], units := { topo := some ({ kind := 0, parentD0 := 0, parentD1 := 0 } : Topology) } }, by decide +kernel⟩,
   ⟨{ State.reset with regs := [((F.PWR_STATUS_LOCAL_READY).addr, BitVec.ofNat 64 ((1 <<< (F.PWR_STATUS_LOCAL_READY).lsb))), ((F.TIM_STATUS_SERVO_STATE).addr, BitVec.ofNat 64 ((3 <<< (F.TIM_STATUS_SERVO_STATE).lsb))), ((F.TIM_PARENT_SOURCE_D0).addr, BitVec.ofNat 64 ((1 <<< (F.TIM_PARENT_SOURCE_D0).lsb) + (0 <<< (F.TIM_PARENT_SOURCE_D1).lsb))), ((F.TIM_PORT_STATUS_PEER_TQ_D0 0).addr, BitVec.ofNat 64 ((3 <<< (F.TIM_PORT_STATUS_PEER_TQ_D0 0).lsb) + (3 <<< (F.TIM_PORT_STATUS_PEER_TQ_D1 0).lsb))), ((F.SUP_PEER_W0_EXCHANGED 0).addr, BitVec.ofNat 64 ((1 <<< (F.SUP_PEER_W0_EXCHANGED 0).lsb))), ((F.RNG_STATUS_STATE 0).addr, BitVec.ofNat 64 ((2 <<< (F.RNG_STATUS_STATE 0).lsb)))], units := { topo := some ({ kind := 0, parentD0 := 0, parentD1 := 0 } : Topology), time := ({ inst1 := { phase := 3 } } : TimeUnit) } }, by decide +kernel⟩,
   ⟨{ State.reset with regs := [((F.PWR_STATUS_LOCAL_READY).addr, BitVec.ofNat 64 ((1 <<< (F.PWR_STATUS_LOCAL_READY).lsb))), ((F.TIM_STATUS_SERVO_STATE).addr, BitVec.ofNat 64 ((3 <<< (F.TIM_STATUS_SERVO_STATE).lsb))), ((F.TIM_PARENT_SOURCE_D0).addr, BitVec.ofNat 64 ((1 <<< (F.TIM_PARENT_SOURCE_D0).lsb) + (255 <<< (F.TIM_PARENT_SOURCE_D1).lsb))), ((F.SUP_PEER_W0_EXCHANGED 0).addr, BitVec.ofNat 64 ((1 <<< (F.SUP_PEER_W0_EXCHANGED 0).lsb))), ((F.RNG_STATUS_STATE 0).addr, BitVec.ofNat 64 ((2 <<< (F.RNG_STATUS_STATE 0).lsb)))], units := { topo := some ({ kind := 0, parentD0 := 0, parentD1 := 0 } : Topology) } }, by decide +kernel⟩,
   ⟨{ State.reset with regs := [((F.TIM_PARENT_SOURCE_D0).addr, BitVec.ofNat 64 ((255 <<< (F.TIM_PARENT_SOURCE_D0).lsb) + (255 <<< (F.TIM_PARENT_SOURCE_D1).lsb)))] }, by decide +kernel⟩,
   ⟨{ State.reset with regs := [((F.PWR_STATUS_LOCAL_READY).addr, BitVec.ofNat 64 ((1 <<< (F.PWR_STATUS_LOCAL_READY).lsb))), ((F.TIM_STATUS_SERVO_STATE).addr, BitVec.ofNat 64 ((3 <<< (F.TIM_STATUS_SERVO_STATE).lsb))), ((F.TIM_PARENT_SOURCE_D0).addr, BitVec.ofNat 64 ((1 <<< (F.TIM_PARENT_SOURCE_D0).lsb) + (1 <<< (F.TIM_PARENT_SOURCE_D1).lsb))), ((F.SUP_PEER_W0_EXCHANGED 0).addr, BitVec.ofNat 64 ((1 <<< (F.SUP_PEER_W0_EXCHANGED 0).lsb))), ((F.RNG_STATUS_STATE 0).addr, BitVec.ofNat 64 ((2 <<< (F.RNG_STATUS_STATE 0).lsb)))], units := { topo := some ({ kind := 0, parentD0 := 0, parentD1 := 0 } : Topology), time := ({ inst1 := { phase := 3 } } : TimeUnit) } }, by decide +kernel⟩,
   ⟨State.reset, by decide +kernel⟩,
   ⟨{ State.reset with regs := [((F.PWR_STATUS_LOCAL_READY).addr, BitVec.ofNat 64 ((1 <<< (F.PWR_STATUS_LOCAL_READY).lsb))), ((F.TIM_CTRL_REVERT).addr, BitVec.ofNat 64 ((1 <<< (F.TIM_CTRL_REVERT).lsb))), ((F.TIM_STATUS_SERVO_STATE).addr, BitVec.ofNat 64 ((5 <<< (F.TIM_STATUS_SERVO_STATE).lsb))), ((F.SUP_PEER_W0_EXCHANGED 0).addr, BitVec.ofNat 64 ((1 <<< (F.SUP_PEER_W0_EXCHANGED 0).lsb))), ((F.RNG_STATUS_STATE 0).addr, BitVec.ofNat 64 ((2 <<< (F.RNG_STATUS_STATE 0).lsb)))], keep := { elapsed := 60 * tickS }, units := { topo := some ({ kind := 0, parentD0 := 0, parentD1 := 0 } : Topology), time := ({ tq3Since := some (0, 60 * tickS) } : TimeUnit) } }, by decide +kernel⟩,
   ⟨State.reset, by decide +kernel⟩,
   ⟨{ State.reset with regs := [((F.PWR_STATUS_LOCAL_READY).addr, BitVec.ofNat 64 ((1 <<< (F.PWR_STATUS_LOCAL_READY).lsb))), ((F.SUP_PEER_W0_EXCHANGED 0).addr, BitVec.ofNat 64 ((1 <<< (F.SUP_PEER_W0_EXCHANGED 0).lsb))), ((F.RNG_STATUS_STATE 0).addr, BitVec.ofNat 64 ((2 <<< (F.RNG_STATUS_STATE 0).lsb)))], units := { topo := some ({ kind := 0, parentD0 := 0, parentD1 := 0 } : Topology) } }, by decide +kernel⟩,
   ⟨State.reset, by decide +kernel⟩,
   ⟨{ State.reset with regs := [((F.PWR_STATUS_LOCAL_READY).addr, BitVec.ofNat 64 ((1 <<< (F.PWR_STATUS_LOCAL_READY).lsb))), ((F.SUP_PEER_W0_EXCHANGED 0).addr, BitVec.ofNat 64 ((1 <<< (F.SUP_PEER_W0_EXCHANGED 0).lsb))), ((F.RNG_STATUS_STATE 0).addr, BitVec.ofNat 64 ((2 <<< (F.RNG_STATUS_STATE 0).lsb)))], units := { topo := some ({ kind := 0, parentD0 := 0, parentD1 := 0 } : Topology) } }, by decide +kernel⟩,
   ⟨State.reset, by decide +kernel⟩,
   ⟨{ State.reset with regs := [((F.PWR_STATUS_LOCAL_READY).addr, BitVec.ofNat 64 ((1 <<< (F.PWR_STATUS_LOCAL_READY).lsb))), ((F.TIM_PORT_CFG_ENV_CHANNEL 0).addr, BitVec.ofNat 64 ((3 <<< (F.TIM_PORT_CFG_ENV_CHANNEL 0).lsb))), ((F.SUP_PEER_W0_EXCHANGED 0).addr, BitVec.ofNat 64 ((1 <<< (F.SUP_PEER_W0_EXCHANGED 0).lsb))), ((F.RNG_STATUS_STATE 0).addr, BitVec.ofNat 64 ((2 <<< (F.RNG_STATUS_STATE 0).lsb)))], keep := { elapsed := 10 * tickS }, units := { topo := some ({ kind := 0, parentD0 := 0, parentD1 := 0 } : Topology) } }, 0, by decide +kernel⟩,
   ⟨State.reset, 0, by decide +kernel⟩⟩

set_option maxRecDepth 20000 in
theorem witness_ReferencesAndTimeCommands :
    (∃ s : State, (s.is F.TIM_REF_STATUS_REF10M_VALID = true)) ∧
    (∃ s : State, (s.rootLike = true) ∧ (s.topology.kind = 1) ∧ (s.topology.rootRef = 1) ∧ (s.servo = 3) ∧ (s.is F.TIM_REF_STATUS_REF10M_VALID = true)) ∧
    (∃ s : State, (s.rootLike = true) ∧ (s.topology.kind = 1) ∧ (s.topology.rootRef = 1) ∧ (s.servo = 1 ∨ s.servo = 2) ∧ (s.is F.TIM_REF_STATUS_REF10M_VALID = true)) ∧
    (∃ s : State, (s.is F.TIM_REF_STATUS_REF10M_VALID = false)) ∧
    (∃ s : State, ∃ x : Nat, (s.up = true) ∧ (s.ppsGood x = true)) ∧
    (∃ s : State, ∃ x : Nat, (s.up = true) ∧ (s.ppsGood x = false) ∧ (s.units.time.rejects < 2 ∨ s.is F.TIM_REF_STATUS_PPS_VALID = false)) ∧
    (∃ s : State, ∃ x : Nat, (s.up = true) ∧ (s.ppsGood x = false) ∧ (2 ≤ s.units.time.rejects) ∧ (s.is F.TIM_REF_STATUS_PPS_VALID = true)) ∧
    (∃ s : State, (s.up = false)) ∧
    (∃ s : State, ∃ x : Nat, (s.is F.TIM_REF_STATUS_PPS_VALID = true) ∧ (s.units.time.ppsAt = some x) ∧ (3 * tickS ≤ 2 * (s.keep.elapsed - x))) ∧
    (∃ s : State, (s.is F.TIM_REF_STATUS_PPS_VALID = false ∨ (∃ x ∈ s.units.time.ppsAt, 2 * (s.keep.elapsed - x) < 3 * tickS))) ∧
    (∃ s : State, ∃ x : Nat, (s.up = true) ∧ (s.is F.TIM_REF_STATUS_REF10M_VALID = false) ∧ (s.units.time.refLostAt = some x) ∧ (s.passed x 10 = true)) ∧
    (∃ s : State, ∃ x : Nat, ∃ y : Nat, (s.up = true) ∧ (s.is F.TIM_REF_STATUS_PPS_VALID = false) ∧ (s.units.time.ppsLostAt = some y) ∧ (s.units.time.ppsSince = some x) ∧ (s.passed x 10 = true) ∧ (s.ppsSilent = false)) ∧
    (∃ s : State, ∃ pps : Bool, (s.up = false ∨ s.is (if pps then F.TIM_REF_STATUS_PPS_VALID else F.TIM_REF_STATUS_REF10M_VALID) = true)) ∧
    (∃ s : State, ∃ d : Nat, ∃ w : Nat, ∃ v : Word, (d < 4) ∧ (getBits v 0 0 = 1) ∧ (s.timeSet d = none) ∧ (s.setResult d w v ≠ 0)) ∧
    (∃ s : State, ∃ d : Nat, ∃ w : Nat, ∃ v : Word, (d < 4) ∧ (getBits v 0 0 = 1) ∧ (s.timeSet d = none) ∧ (s.setResult d w v = 0) ∧ (getBits v 1 1 = 1 ∨ s.takesSeconds d = false)) ∧
    (∃ s : State, ∃ d : Nat, ∃ w : Nat, ∃ v : Word, (d = 2 ∨ d = 3) ∧ (getBits v 0 0 = 1) ∧ (getBits v 1 1 = 0) ∧ (s.timeSet d = none) ∧ (s.setResult d w v = 0)) ∧
    (∃ s : State, ∃ w : Nat, ∃ v : Word, (getBits v 0 0 = 1) ∧ (getBits v 1 1 = 0) ∧ (s.timeSet 0 = none) ∧ (s.setResult 0 w v = 0) ∧ (s.takesSeconds 0 = true)) ∧
    (∃ s : State, ∃ d : Nat, ∃ c : TimeSet, (s.timeSet d = some c) ∧ (d = 2 ∨ d = 3) ∧ (c.edge = false) ∧ ((c.at_ : Int) ≤ s.domainNow d) ∧ (s.domainNow d - c.at_ ≤ s.units.d0)) ∧
    (∃ s : State, ∃ d : Nat, ∃ c : TimeSet, ∃ e : Int, (s.timeSet d = some c) ∧ (d = 2 ∨ d = 3) ∧ (c.edge = true) ∧ (c.met = some e)) ∧
    (∃ s : State, ∃ d : Nat, ∃ v : Word, (4 ≤ d ∨ getBits v 0 0 = 0) ∧ (s.get F.IMG_VOLATILE_WRITES_COUNT + 1 < 2 ^ 47)) ∧
    (∃ s : State, ∃ d : Nat, (s.timeSet d = none)) ∧
    (∃ w : Nat, ∃ v : Word, (getBits v 0 0 = 1) ∧ (w ≠ 0)) ∧
    (∃ s : State, ∃ w : Nat, ∃ v : Word, (getBits v 0 0 = 1) ∧ (w = 0) ∧ (getBits v 31 16 = 0xA5C3) ∧ (s.up = true)) ∧
    (∃ s : State, ∃ v : Word, (getBits v 0 0 = 0) ∧ (s.up = false) ∧ (s.get F.IMG_VOLATILE_WRITES_COUNT + 1 < 2 ^ 47)) ∧
    (∃ s : State, ∃ w : Nat, ∃ v : Word, (getBits v 1 1 = 1) ∧ (w = 0) ∧ (getBits v 31 16 = 0xA5C3) ∧ (getBits v 0 0 = 0) ∧ (s.servo = 3) ∧ (s.source 0 < 8) ∧ (s.reacquires = false) ∧ (s.source 1 < 8) ∧ (2 ≤ s.tq 1) ∧ (s.d1LossPending = false)) ∧
    (∃ w : Nat, ∃ v : Word, (getBits v 1 1 = 1) ∧ (w = 0) ∧ (getBits v 31 16 ≠ 0xA5C3)) :=
  ⟨⟨{ State.reset with regs := [((F.PWR_STATUS_LOCAL_READY).addr, BitVec.ofNat 64 ((1 <<< (F.PWR_STATUS_LOCAL_READY).lsb))), ((F.TIM_REF_STATUS_REF10M_VALID).addr, BitVec.ofNat 64 ((1 <<< (F.TIM_REF_STATUS_REF10M_VALID).lsb))), ((F.SUP_PEER_W0_EXCHANGED 0).addr, BitVec.ofNat 64 ((1 <<< (F.SUP_PEER_W0_EXCHANGED 0).lsb))), ((F.RNG_STATUS_STATE 0).addr, BitVec.ofNat 64 ((2 <<< (F.RNG_STATUS_STATE 0).lsb)))], units := { topo := some ({ kind := 1, rootRef := 1 } : Topology) } }, by decide +kernel⟩,
   ⟨{ State.reset with regs := [((F.PWR_STATUS_LOCAL_READY).addr, BitVec.ofNat 64 ((1 <<< (F.PWR_STATUS_LOCAL_READY).lsb))), ((F.TIM_STATUS_SERVO_STATE).addr, BitVec.ofNat 64 ((3 <<< (F.TIM_STATUS_SERVO_STATE).lsb))), ((F.TIM_REF_STATUS_REF10M_VALID).addr, BitVec.ofNat 64 ((1 <<< (F.TIM_REF_STATUS_REF10M_VALID).lsb))), ((F.SUP_PEER_W0_EXCHANGED 0).addr, BitVec.ofNat 64 ((1 <<< (F.SUP_PEER_W0_EXCHANGED 0).lsb))), ((F.RNG_STATUS_STATE 0).addr, BitVec.ofNat 64 ((2 <<< (F.RNG_STATUS_STATE 0).lsb)))], units := { topo := some ({ kind := 1, rootRef := 1 } : Topology) } }, by decide +kernel⟩,
   ⟨{ State.reset with regs := [((F.PWR_STATUS_LOCAL_READY).addr, BitVec.ofNat 64 ((1 <<< (F.PWR_STATUS_LOCAL_READY).lsb))), ((F.TIM_STATUS_SERVO_STATE).addr, BitVec.ofNat 64 ((2 <<< (F.TIM_STATUS_SERVO_STATE).lsb))), ((F.TIM_REF_STATUS_REF10M_VALID).addr, BitVec.ofNat 64 ((1 <<< (F.TIM_REF_STATUS_REF10M_VALID).lsb))), ((F.SUP_PEER_W0_EXCHANGED 0).addr, BitVec.ofNat 64 ((1 <<< (F.SUP_PEER_W0_EXCHANGED 0).lsb))), ((F.RNG_STATUS_STATE 0).addr, BitVec.ofNat 64 ((2 <<< (F.RNG_STATUS_STATE 0).lsb)))], units := { topo := some ({ kind := 1, rootRef := 1 } : Topology) } }, by decide +kernel⟩,
   ⟨State.reset, by decide +kernel⟩,
   ⟨{ State.reset with regs := [((F.PWR_STATUS_LOCAL_READY).addr, BitVec.ofNat 64 ((1 <<< (F.PWR_STATUS_LOCAL_READY).lsb))), ((F.SUP_PEER_W0_EXCHANGED 0).addr, BitVec.ofNat 64 ((1 <<< (F.SUP_PEER_W0_EXCHANGED 0).lsb))), ((F.RNG_STATUS_STATE 0).addr, BitVec.ofNat 64 ((2 <<< (F.RNG_STATUS_STATE 0).lsb)))], units := { topo := some ({ kind := 0, parentD0 := 0, parentD1 := 0 } : Topology) } }, 5, by decide +kernel⟩,
   ⟨{ State.reset with regs := [((F.PWR_STATUS_LOCAL_READY).addr, BitVec.ofNat 64 ((1 <<< (F.PWR_STATUS_LOCAL_READY).lsb))), ((F.TIM_STATUS_SERVO_STATE).addr, BitVec.ofNat 64 ((3 <<< (F.TIM_STATUS_SERVO_STATE).lsb))), ((F.SUP_PEER_W0_EXCHANGED 0).addr, BitVec.ofNat 64 ((1 <<< (F.SUP_PEER_W0_EXCHANGED 0).lsb))), ((F.RNG_STATUS_STATE 0).addr, BitVec.ofNat 64 ((2 <<< (F.RNG_STATUS_STATE 0).lsb)))], units := { topo := some ({ kind := 0, parentD0 := 0, parentD1 := 0 } : Topology) } }, 0x10000000, by decide +kernel⟩,
   ⟨{ State.reset with regs := [((F.PWR_STATUS_LOCAL_READY).addr, BitVec.ofNat 64 ((1 <<< (F.PWR_STATUS_LOCAL_READY).lsb))), ((F.TIM_STATUS_SERVO_STATE).addr, BitVec.ofNat 64 ((3 <<< (F.TIM_STATUS_SERVO_STATE).lsb))), ((F.TIM_REF_STATUS_PPS_VALID).addr, BitVec.ofNat 64 ((1 <<< (F.TIM_REF_STATUS_PPS_VALID).lsb))), ((F.SUP_PEER_W0_EXCHANGED 0).addr, BitVec.ofNat 64 ((1 <<< (F.SUP_PEER_W0_EXCHANGED 0).lsb))), ((F.RNG_STATUS_STATE 0).addr, BitVec.ofNat 64 ((2 <<< (F.RNG_STATUS_STATE 0).lsb)))], units := { topo := some ({ kind := 0, parentD0 := 0, parentD1 := 0 } : Topology), time := ({ rejects := 2 } : TimeUnit) } }, 0x10000000, by decide +kernel⟩,
   ⟨State.reset, by decide +kernel⟩,
   ⟨{ State.reset with regs := [((F.PWR_STATUS_LOCAL_READY).addr, BitVec.ofNat 64 ((1 <<< (F.PWR_STATUS_LOCAL_READY).lsb))), ((F.TIM_REF_STATUS_PPS_VALID).addr, BitVec.ofNat 64 ((1 <<< (F.TIM_REF_STATUS_PPS_VALID).lsb))), ((F.SUP_PEER_W0_EXCHANGED 0).addr, BitVec.ofNat 64 ((1 <<< (F.SUP_PEER_W0_EXCHANGED 0).lsb))), ((F.RNG_STATUS_STATE 0).addr, BitVec.ofNat 64 ((2 <<< (F.RNG_STATUS_STATE 0).lsb)))], keep := { elapsed := 3 * tickS }, units := { topo := some ({ kind := 0, parentD0 := 0, parentD1 := 0 } : Topology), time := ({ ppsAt := some 0 } : TimeUnit) } }, 0, by decide +kernel⟩,
   ⟨State.reset, by decide +kernel⟩,
   ⟨{ State.reset with regs := [((F.PWR_STATUS_LOCAL_READY).addr, BitVec.ofNat 64 ((1 <<< (F.PWR_STATUS_LOCAL_READY).lsb))), ((F.SUP_PEER_W0_EXCHANGED 0).addr, BitVec.ofNat 64 ((1 <<< (F.SUP_PEER_W0_EXCHANGED 0).lsb))), ((F.RNG_STATUS_STATE 0).addr, BitVec.ofNat 64 ((2 <<< (F.RNG_STATUS_STATE 0).lsb)))], keep := { elapsed := 10 * tickS }, units := { topo := some ({ kind := 0, parentD0 := 0, parentD1 := 0 } : Topology), time := ({ refLostAt := some 0 } : TimeUnit) } }, 0, by decide +kernel⟩,
   ⟨{ State.reset with regs := [((F.PWR_STATUS_LOCAL_READY).addr, BitVec.ofNat 64 ((1 <<< (F.PWR_STATUS_LOCAL_READY).lsb))), ((F.SUP_PEER_W0_EXCHANGED 0).addr, BitVec.ofNat 64 ((1 <<< (F.SUP_PEER_W0_EXCHANGED 0).lsb))), ((F.RNG_STATUS_STATE 0).addr, BitVec.ofNat 64 ((2 <<< (F.RNG_STATUS_STATE 0).lsb)))], keep := { elapsed := 10 * tickS }, units := { topo := some ({ kind := 0, parentD0 := 0, parentD1 := 0 } : Topology), time := ({ ppsLostAt := some 0, ppsSince := some 0, ppsAt := some (10 * tickS) } : TimeUnit) } }, 0, 0, by decide +kernel⟩,
   ⟨State.reset, true, by decide +kernel⟩,
   ⟨{ State.reset with regs := [((F.PWR_STATUS_LOCAL_READY).addr, BitVec.ofNat 64 ((1 <<< (F.PWR_STATUS_LOCAL_READY).lsb))), ((F.SUP_PEER_W0_EXCHANGED 0).addr, BitVec.ofNat 64 ((1 <<< (F.SUP_PEER_W0_EXCHANGED 0).lsb))), ((F.RNG_STATUS_STATE 0).addr, BitVec.ofNat 64 ((2 <<< (F.RNG_STATUS_STATE 0).lsb)))], units := { topo := some ({ kind := 0, parentD0 := 0, parentD1 := 0 } : Topology) } }, 0, 3, 1, by decide +kernel⟩,
   ⟨{ State.reset with regs := [((F.PWR_STATUS_LOCAL_READY).addr, BitVec.ofNat 64 ((1 <<< (F.PWR_STATUS_LOCAL_READY).lsb))), ((F.SUP_PEER_W0_EXCHANGED 0).addr, BitVec.ofNat 64 ((1 <<< (F.SUP_PEER_W0_EXCHANGED 0).lsb))), ((F.RNG_STATUS_STATE 0).addr, BitVec.ofNat 64 ((2 <<< (F.RNG_STATUS_STATE 0).lsb)))], units := { topo := some ({ kind := 0, parentD0 := 0, parentD1 := 0 } : Topology) } }, 2, 0, 0xA5C30003, by decide +kernel⟩,
   ⟨{ State.reset with regs := [((F.PWR_STATUS_LOCAL_READY).addr, BitVec.ofNat 64 ((1 <<< (F.PWR_STATUS_LOCAL_READY).lsb))), ((F.SUP_PEER_W0_EXCHANGED 0).addr, BitVec.ofNat 64 ((1 <<< (F.SUP_PEER_W0_EXCHANGED 0).lsb))), ((F.RNG_STATUS_STATE 0).addr, BitVec.ofNat 64 ((2 <<< (F.RNG_STATUS_STATE 0).lsb)))], units := { topo := some ({ kind := 0, parentD0 := 0, parentD1 := 0 } : Topology) } }, 2, 0, 0xA5C30001, by decide +kernel⟩,
   ⟨{ State.reset with regs := [((F.PWR_STATUS_LOCAL_READY).addr, BitVec.ofNat 64 ((1 <<< (F.PWR_STATUS_LOCAL_READY).lsb))), ((F.TIM_STATUS_SERVO_STATE).addr, BitVec.ofNat 64 ((2 <<< (F.TIM_STATUS_SERVO_STATE).lsb))), ((F.SUP_PEER_W0_EXCHANGED 0).addr, BitVec.ofNat 64 ((1 <<< (F.SUP_PEER_W0_EXCHANGED 0).lsb))), ((F.RNG_STATUS_STATE 0).addr, BitVec.ofNat 64 ((2 <<< (F.RNG_STATUS_STATE 0).lsb)))], units := { topo := some ({ kind := 1, rootRef := 0 } : Topology) } }, 0, 0xA5C30001, by decide +kernel⟩,
   ⟨{ State.reset with regs := [((F.PWR_STATUS_LOCAL_READY).addr, BitVec.ofNat 64 ((1 <<< (F.PWR_STATUS_LOCAL_READY).lsb))), ((F.SUP_PEER_W0_EXCHANGED 0).addr, BitVec.ofNat 64 ((1 <<< (F.SUP_PEER_W0_EXCHANGED 0).lsb))), ((F.RNG_STATUS_STATE 0).addr, BitVec.ofNat 64 ((2 <<< (F.RNG_STATUS_STATE 0).lsb)))], units := { topo := some ({ kind := 0, parentD0 := 0, parentD1 := 0 } : Topology), time := ({ sets := [(2, some ({ value := 7, at_ := 0, edge := false } : TimeSet))] } : TimeUnit) } }, 2, ({ value := 7, at_ := 0, edge := false } : TimeSet), by decide +kernel⟩,
   ⟨{ State.reset with regs := [((F.PWR_STATUS_LOCAL_READY).addr, BitVec.ofNat 64 ((1 <<< (F.PWR_STATUS_LOCAL_READY).lsb))), ((F.SUP_PEER_W0_EXCHANGED 0).addr, BitVec.ofNat 64 ((1 <<< (F.SUP_PEER_W0_EXCHANGED 0).lsb))), ((F.RNG_STATUS_STATE 0).addr, BitVec.ofNat 64 ((2 <<< (F.RNG_STATUS_STATE 0).lsb)))], units := { topo := some ({ kind := 0, parentD0 := 0, parentD1 := 0 } : Topology), time := ({ sets := [(2, some { value := 7, at_ := 0, edge := true, met := some 5 })] } : TimeUnit) } }, 2, { value := 7, at_ := 0, edge := true, met := some 5 }, 5, by decide +kernel⟩,
   ⟨State.reset, 0, 0, by decide +kernel⟩,
   ⟨State.reset, 2, by decide +kernel⟩,
   ⟨3, 1, by decide +kernel⟩,
   ⟨{ State.reset with regs := [((F.PWR_STATUS_LOCAL_READY).addr, BitVec.ofNat 64 ((1 <<< (F.PWR_STATUS_LOCAL_READY).lsb))), ((F.TIM_STATUS_SERVO_STATE).addr, BitVec.ofNat 64 ((3 <<< (F.TIM_STATUS_SERVO_STATE).lsb))), ((F.SUP_PEER_W0_EXCHANGED 0).addr, BitVec.ofNat 64 ((1 <<< (F.SUP_PEER_W0_EXCHANGED 0).lsb))), ((F.RNG_STATUS_STATE 0).addr, BitVec.ofNat 64 ((2 <<< (F.RNG_STATUS_STATE 0).lsb)))], units := { topo := some ({ kind := 0, parentD0 := 0, parentD1 := 0 } : Topology) } }, 0, 0xA5C30001, by decide +kernel⟩,
   ⟨State.reset, 0, by decide +kernel⟩,
   ⟨{ State.reset with regs := [((F.PWR_STATUS_LOCAL_READY).addr, BitVec.ofNat 64 ((1 <<< (F.PWR_STATUS_LOCAL_READY).lsb))), ((F.TIM_STATUS_SERVO_STATE).addr, BitVec.ofNat 64 ((3 <<< (F.TIM_STATUS_SERVO_STATE).lsb))), ((F.TIM_PARENT_SOURCE_D0).addr, BitVec.ofNat 64 ((1 <<< (F.TIM_PARENT_SOURCE_D0).lsb) + (0 <<< (F.TIM_PARENT_SOURCE_D1).lsb))), ((F.TIM_PORT_STATUS_PEER_TQ_D0 0).addr, BitVec.ofNat 64 ((3 <<< (F.TIM_PORT_STATUS_PEER_TQ_D0 0).lsb) + (3 <<< (F.TIM_PORT_STATUS_PEER_TQ_D1 0).lsb))), ((F.SUP_PEER_W0_EXCHANGED 0).addr, BitVec.ofNat 64 ((1 <<< (F.SUP_PEER_W0_EXCHANGED 0).lsb))), ((F.RNG_STATUS_STATE 0).addr, BitVec.ofNat 64 ((2 <<< (F.RNG_STATUS_STATE 0).lsb)))], units := { topo := some ({ kind := 0, parentD0 := 0, parentD1 := 0 } : Topology), time := ({ inst1 := { phase := 3 } } : TimeUnit) } }, 0, 0xA5C30002, by decide +kernel⟩,
   ⟨0, 2, by decide +kernel⟩⟩

set_option maxRecDepth 20000 in
theorem witness_CalibrationsPulsesAndOutputs :
    (∃ s : State, ∃ w : Nat, ∃ v : Word, (getBits v 0 0 = 1) ∧ (s.is F.TIM_CAL_STATUS_BUSY = false) ∧ (s.calibrationResult w v = 0)) ∧
    (∃ s : State, ∃ w : Nat, ∃ v : Word, (getBits v 0 0 = 1) ∧ (s.is F.TIM_CAL_STATUS_BUSY = false) ∧ (s.calibrationResult w v ≠ 0)) ∧
    (∃ s : State, ∃ v : Word, (getBits v 0 0 = 1) ∧ (s.is F.TIM_CAL_STATUS_BUSY = true)) ∧
    (∃ s : State, ∃ c : Calibration, (s.units.time.calibration = some c) ∧ (s.is F.TIM_CAL_STATUS_BUSY = true) ∧ (c.samples.length < c.at F.TIM_CAL_CFG_SAMPLES) ∧ (c.last ≠ some (s.units.d0 / tickS))) ∧
    (∃ s : State, (s.units.time.calibration = none ∨ s.is F.TIM_CAL_STATUS_BUSY = false)) ∧
    (∃ s : State, ∃ c : Calibration, (s.units.time.calibration = some c) ∧ (c.samples.length < c.at F.TIM_CAL_CFG_SAMPLES) ∧ (s.passed c.since (c.at F.TIM_CAL_CFG_SAMPLES + 5) = true)) ∧
    (∃ s : State, ∃ c : Calibration, (s.units.time.calibration = some c) ∧ (c.at F.TIM_CAL_CFG_SAMPLES ≤ c.samples.length) ∧ (-2147483648 ≤ mean c.samples) ∧ (mean c.samples < 2147483648) ∧ (spread c.samples * 1000 ≤ 5 * 262144) ∧ (s.is F.TIM_CAL_CTRL_APPLY = false)) ∧
    (∃ s : State, (s.units.time.calibration = none)) ∧
    (∃ s : State, ∃ k : Nat, ∃ w : Nat, ∃ v : Word, (k < 4) ∧ (s.up = true) ∧ (getBits v 0 0 = 1) ∧ (w = 0) ∧ ((tickUs : Int) ≤ dif (s.get (F.TIM_PULSE_TARGET_TARGET k)) s.now) ∧ (s.get F.IMG_VOLATILE_WRITES_COUNT + 1 < 2 ^ 47)) ∧
    (∃ s : State, ∃ k : Nat, ∃ w : Nat, ∃ v : Word, (k < 4) ∧ (s.up = true) ∧ (getBits v 0 0 = 1) ∧ (w = 0) ∧ (dif (s.get (F.TIM_PULSE_TARGET_TARGET k)) s.now < (tickUs : Int))) ∧
    (∃ s : State, ∃ k : Nat, ∃ w : Nat, ∃ v : Word, (k < 4) ∧ (s.up = true) ∧ (getBits v 0 0 = 1) ∧ (w ≠ 0) ∧ (s.get F.IMG_VOLATILE_WRITES_COUNT + 1 < 2 ^ 47)) ∧
    (∃ s : State, ∃ k : Nat, ∃ v : Word, (4 ≤ k ∨ s.up = false ∨ getBits v 0 0 = 0) ∧ (s.get F.IMG_VOLATILE_WRITES_COUNT + 1 < 2 ^ 47)) ∧
    (∃ s : State, ∃ k : Nat, (k < 4) ∧ (s.is (F.TIM_PULSE_STATUS_ARMED k) = true) ∧ (0 ≤ dif s.now (s.pulseNext k))) ∧
    (∃ s : State, ∃ k : Nat, (4 ≤ k ∨ s.is (F.TIM_PULSE_STATUS_ARMED k) = false ∨ dif s.now (s.pulseNext k) < 0)) ∧
    (∃ s : State, ∃ k : Nat, ∃ w : Nat, ∃ v : Word, (k < 4) ∧ (getBits v 1 1 = 1) ∧ (w = 0) ∧ (s.get F.IMG_VOLATILE_WRITES_COUNT + 1 < 2 ^ 47)) ∧
    (∃ s : State, ∃ k : Nat, ∃ v : Word, (4 ≤ k ∨ getBits v 1 1 = 0) ∧ (s.get F.IMG_VOLATILE_WRITES_COUNT + 1 < 2 ^ 47)) ∧
    (∃ s : State, ∃ d : Nat, (d < 4) ∧ (s.up = true) ∧ (Sparse.get (fun _ => 0) s.units.time.ppsOut d ≠ (s.domainNow d / (tickS : Nat)).toNat + 1)) ∧
    (∃ s : State, ∃ d : Nat, (4 ≤ d ∨ s.up = false ∨ Sparse.get (fun _ => 0) s.units.time.ppsOut d = (s.domainNow d / (tickS : Nat)).toNat + 1)) ∧
    (∃ s : State, ∃ k : Nat, ∃ w : Nat, ∃ v : Word, (k < 4) ∧ (s.up = true) ∧ (getBits v 0 0 = 1) ∧ (w = 0) ∧ (s.is (F.TIM_FOUT_STATUS_PENDING k) = false) ∧ (foutOk (s.get (F.TIM_FOUT_CFG_FREQ k)) = true) ∧ (s.get F.IMG_VOLATILE_WRITES_COUNT + 1 < 2 ^ 47)) ∧
    (∃ s : State, ∃ k : Nat, ∃ w : Nat, ∃ v : Word, (k < 4) ∧ (s.up = true) ∧ (getBits v 0 0 = 1) ∧ (w = 0) ∧ (s.is (F.TIM_FOUT_STATUS_PENDING k) = false) ∧ (foutOk (s.get (F.TIM_FOUT_CFG_FREQ k)) = false) ∧ (s.get F.IMG_VOLATILE_WRITES_COUNT + 1 < 2 ^ 47)) ∧
    (∃ s : State, ∃ k : Nat, ∃ w : Nat, ∃ v : Word, (k < 4) ∧ (s.up = true) ∧ (getBits v 0 0 = 1) ∧ (w ≠ 0 ∨ s.is (F.TIM_FOUT_STATUS_PENDING k) = true) ∧ (s.is (F.TIM_FOUT_STATUS_PENDING k) = true → s.units.d0 / tickS < Sparse.get (fun _ => 0) s.units.time.foutDue k) ∧ (s.get F.IMG_VOLATILE_WRITES_COUNT + 1 < 2 ^ 47)) ∧
    (∃ s : State, ∃ k : Nat, ∃ v : Word, (4 ≤ k ∨ (s.up = false ∧ s.is (F.TIM_FOUT_STATUS_PENDING k) = false) ∨ getBits v 0 0 = 0) ∧ (s.get F.IMG_VOLATILE_WRITES_COUNT + 1 < 2 ^ 47)) ∧
    (∃ s : State, ∃ k : Nat, (k < 4) ∧ (s.is (F.TIM_FOUT_STATUS_PENDING k) = true) ∧ (Sparse.get (fun _ => 0) s.units.time.foutDue k ≤ s.units.d0 / tickS)) ∧
    (∃ s : State, ∃ k : Nat, (4 ≤ k ∨ s.is (F.TIM_FOUT_STATUS_PENDING k) = false ∨ s.units.d0 / tickS < Sparse.get (fun _ => 0) s.units.time.foutDue k)) :=
  ⟨⟨{ State.reset with regs := [((F.PWR_STATUS_LOCAL_READY).addr, BitVec.ofNat 64 ((1 <<< (F.PWR_STATUS_LOCAL_READY).lsb))), ((F.TIM_CAL_CFG_SAMPLES).addr, BitVec.ofNat 64 ((5 <<< (F.TIM_CAL_CFG_SAMPLES).lsb))), ((F.SUP_PEER_W0_EXCHANGED 0).addr, BitVec.ofNat 64 ((1 <<< (F.SUP_PEER_W0_EXCHANGED 0).lsb))), ((F.RNG_STATUS_STATE 0).addr, BitVec.ofNat 64 ((2 <<< (F.RNG_STATUS_STATE 0).lsb)))], units := { topo := some ({ kind := 0, parentD0 := 0, parentD1 := 0 } : Topology) } }, 0, 0xA5C30003, by decide +kernel⟩,
   ⟨{ State.reset with regs := [((F.PWR_STATUS_LOCAL_READY).addr, BitVec.ofNat 64 ((1 <<< (F.PWR_STATUS_LOCAL_READY).lsb))), ((F.SUP_PEER_W0_EXCHANGED 0).addr, BitVec.ofNat 64 ((1 <<< (F.SUP_PEER_W0_EXCHANGED 0).lsb))), ((F.RNG_STATUS_STATE 0).addr, BitVec.ofNat 64 ((2 <<< (F.RNG_STATUS_STATE 0).lsb)))], units := { topo := some ({ kind := 0, parentD0 := 0, parentD1 := 0 } : Topology) } }, 3, 1, by decide +kernel⟩,
   ⟨{ State.reset with regs := [((F.PWR_STATUS_LOCAL_READY).addr, BitVec.ofNat 64 ((1 <<< (F.PWR_STATUS_LOCAL_READY).lsb))), ((F.TIM_CAL_STATUS_BUSY).addr, BitVec.ofNat 64 ((1 <<< (F.TIM_CAL_STATUS_BUSY).lsb))), ((F.SUP_PEER_W0_EXCHANGED 0).addr, BitVec.ofNat 64 ((1 <<< (F.SUP_PEER_W0_EXCHANGED 0).lsb))), ((F.RNG_STATUS_STATE 0).addr, BitVec.ofNat 64 ((2 <<< (F.RNG_STATUS_STATE 0).lsb)))], units := { topo := some ({ kind := 0, parentD0 := 0, parentD1 := 0 } : Topology) } }, 1, by decide +kernel⟩,
   ⟨{ State.reset with regs := [((F.PWR_STATUS_LOCAL_READY).addr, BitVec.ofNat 64 ((1 <<< (F.PWR_STATUS_LOCAL_READY).lsb))), ((F.TIM_CAL_STATUS_BUSY).addr, BitVec.ofNat 64 ((1 <<< (F.TIM_CAL_STATUS_BUSY).lsb))), ((F.SUP_PEER_W0_EXCHANGED 0).addr, BitVec.ofNat 64 ((1 <<< (F.SUP_PEER_W0_EXCHANGED 0).lsb))), ((F.RNG_STATUS_STATE 0).addr, BitVec.ofNat 64 ((2 <<< (F.RNG_STATUS_STATE 0).lsb)))], units := { topo := some ({ kind := 0, parentD0 := 0, parentD1 := 0 } : Topology), time := ({ calibration := some { since := 0, cfg := 5 <<< F.TIM_CAL_CFG_SAMPLES.lsb } } : TimeUnit) } }, { since := 0, cfg := 5 <<< F.TIM_CAL_CFG_SAMPLES.lsb }, by decide +kernel⟩,
   ⟨State.reset, by decide +kernel⟩,
   ⟨{ State.reset with regs := [((F.PWR_STATUS_LOCAL_READY).addr, BitVec.ofNat 64 ((1 <<< (F.PWR_STATUS_LOCAL_READY).lsb))), ((F.SUP_PEER_W0_EXCHANGED 0).addr, BitVec.ofNat 64 ((1 <<< (F.SUP_PEER_W0_EXCHANGED 0).lsb))), ((F.RNG_STATUS_STATE 0).addr, BitVec.ofNat 64 ((2 <<< (F.RNG_STATUS_STATE 0).lsb)))], keep := { elapsed := 10 * tickS }, units := { topo := some ({ kind := 0, parentD0 := 0, parentD1 := 0 } : Topology), time := ({ calibration := some { since := 0, cfg := 5 <<< F.TIM_CAL_CFG_SAMPLES.lsb } } : TimeUnit) } }, { since := 0, cfg := 5 <<< F.TIM_CAL_CFG_SAMPLES.lsb }, by decide +kernel⟩,
   ⟨{ State.reset with regs := [((F.PWR_STATUS_LOCAL_READY).addr, BitVec.ofNat 64 ((1 <<< (F.PWR_STATUS_LOCAL_READY).lsb))), ((F.SUP_PEER_W0_EXCHANGED 0).addr, BitVec.ofNat 64 ((1 <<< (F.SUP_PEER_W0_EXCHANGED 0).lsb))), ((F.RNG_STATUS_STATE 0).addr, BitVec.ofNat 64 ((2 <<< (F.RNG_STATUS_STATE 0).lsb)))], units := { topo := some ({ kind := 0, parentD0 := 0, parentD1 := 0 } : Topology), time := ({ calibration := some { since := 0, cfg := 1 <<< F.TIM_CAL_CFG_SAMPLES.lsb, samples := [9] } } : TimeUnit) } }, { since := 0, cfg := 1 <<< F.TIM_CAL_CFG_SAMPLES.lsb, samples := [9] }, by decide +kernel⟩,
   ⟨State.reset, by decide +kernel⟩,
   ⟨{ State.reset with regs := [((F.PWR_STATUS_LOCAL_READY).addr, BitVec.ofNat 64 ((1 <<< (F.PWR_STATUS_LOCAL_READY).lsb))), ((F.TIM_PULSE_TARGET_TARGET 0).addr, BitVec.ofNat 64 ((0x1000000 <<< (F.TIM_PULSE_TARGET_TARGET 0).lsb))), ((F.SUP_PEER_W0_EXCHANGED 0).addr, BitVec.ofNat 64 ((1 <<< (F.SUP_PEER_W0_EXCHANGED 0).lsb))), ((F.RNG_STATUS_STATE 0).addr, BitVec.ofNat 64 ((2 <<< (F.RNG_STATUS_STATE 0).lsb)))], units := { topo := some ({ kind := 0, parentD0 := 0, parentD1 := 0 } : Topology) } }, 0, 0, 1, by decide +kernel⟩,
   ⟨{ State.reset with regs := [((F.PWR_STATUS_LOCAL_READY).addr, BitVec.ofNat 64 ((1 <<< (F.PWR_STATUS_LOCAL_READY).lsb))), ((F.SUP_PEER_W0_EXCHANGED 0).addr, BitVec.ofNat 64 ((1 <<< (F.SUP_PEER_W0_EXCHANGED 0).lsb))), ((F.RNG_STATUS_STATE 0).addr, BitVec.ofNat 64 ((2 <<< (F.RNG_STATUS_STATE 0).lsb)))], units := { topo := some ({ kind := 0, parentD0 := 0, parentD1 := 0 } : Topology) } }, 0, 0, 1, by decide +kernel⟩,
   ⟨{ State.reset with regs := [((F.PWR_STATUS_LOCAL_READY).addr, BitVec.ofNat 64 ((1 <<< (F.PWR_STATUS_LOCAL_READY).lsb))), ((F.SUP_PEER_W0_EXCHANGED 0).addr, BitVec.ofNat 64 ((1 <<< (F.SUP_PEER_W0_EXCHANGED 0).lsb))), ((F.RNG_STATUS_STATE 0).addr, BitVec.ofNat 64 ((2 <<< (F.RNG_STATUS_STATE 0).lsb)))], units := { topo := some ({ kind := 0, parentD0 := 0, parentD1 := 0 } : Topology) } }, 0, 3, 1, by decide +kernel⟩,
   ⟨State.reset, 0, 1, by decide +kernel⟩,
   ⟨{ State.reset with regs := [((F.PWR_STATUS_LOCAL_READY).addr, BitVec.ofNat 64 ((1 <<< (F.PWR_STATUS_LOCAL_READY).lsb))), ((F.TIM_PULSE_STATUS_ARMED 0).addr, BitVec.ofNat 64 ((1 <<< (F.TIM_PULSE_STATUS_ARMED 0).lsb))), ((F.SUP_PEER_W0_EXCHANGED 0).addr, BitVec.ofNat 64 ((1 <<< (F.SUP_PEER_W0_EXCHANGED 0).lsb))), ((F.RNG_STATUS_STATE 0).addr, BitVec.ofNat 64 ((2 <<< (F.RNG_STATUS_STATE 0).lsb)))], units := { topo := some ({ kind := 0, parentD0 := 0, parentD1 := 0 } : Topology) } }, 0, by decide +kernel⟩,
   ⟨State.reset, 0, by decide +kernel⟩,
   ⟨State.reset, 0, 0, 2, by decide +kernel⟩,
   ⟨State.reset, 0, 1, by decide +kernel⟩,
   ⟨{ State.reset with regs := [((F.PWR_STATUS_LOCAL_READY).addr, BitVec.ofNat 64 ((1 <<< (F.PWR_STATUS_LOCAL_READY).lsb))), ((F.SUP_PEER_W0_EXCHANGED 0).addr, BitVec.ofNat 64 ((1 <<< (F.SUP_PEER_W0_EXCHANGED 0).lsb))), ((F.RNG_STATUS_STATE 0).addr, BitVec.ofNat 64 ((2 <<< (F.RNG_STATUS_STATE 0).lsb)))], units := { topo := some ({ kind := 0, parentD0 := 0, parentD1 := 0 } : Topology) } }, 0, by decide +kernel⟩,
   ⟨State.reset, 0, by decide +kernel⟩,
   ⟨{ State.reset with regs := [((F.PWR_STATUS_LOCAL_READY).addr, BitVec.ofNat 64 ((1 <<< (F.PWR_STATUS_LOCAL_READY).lsb))), ((F.TIM_FOUT_CFG_FREQ 0).addr, BitVec.ofNat 64 ((650000000 * 65536 <<< (F.TIM_FOUT_CFG_FREQ 0).lsb))), ((F.SUP_PEER_W0_EXCHANGED 0).addr, BitVec.ofNat 64 ((1 <<< (F.SUP_PEER_W0_EXCHANGED 0).lsb))), ((F.RNG_STATUS_STATE 0).addr, BitVec.ofNat 64 ((2 <<< (F.RNG_STATUS_STATE 0).lsb)))], units := { topo := some ({ kind := 0, parentD0 := 0, parentD1 := 0 } : Topology) } }, 0, 0, 1, by decide +kernel⟩,
   ⟨{ State.reset with regs := [((F.PWR_STATUS_LOCAL_READY).addr, BitVec.ofNat 64 ((1 <<< (F.PWR_STATUS_LOCAL_READY).lsb))), ((F.TIM_FOUT_CFG_FREQ 0).addr, BitVec.ofNat 64 ((650000000 * 65536 + 1 <<< (F.TIM_FOUT_CFG_FREQ 0).lsb))), ((F.SUP_PEER_W0_EXCHANGED 0).addr, BitVec.ofNat 64 ((1 <<< (F.SUP_PEER_W0_EXCHANGED 0).lsb))), ((F.RNG_STATUS_STATE 0).addr, BitVec.ofNat 64 ((2 <<< (F.RNG_STATUS_STATE 0).lsb)))], units := { topo := some ({ kind := 0, parentD0 := 0, parentD1 := 0 } : Topology) } }, 0, 0, 1, by decide +kernel⟩,
   ⟨{ State.reset with regs := [((F.PWR_STATUS_LOCAL_READY).addr, BitVec.ofNat 64 ((1 <<< (F.PWR_STATUS_LOCAL_READY).lsb))), ((F.SUP_PEER_W0_EXCHANGED 0).addr, BitVec.ofNat 64 ((1 <<< (F.SUP_PEER_W0_EXCHANGED 0).lsb))), ((F.RNG_STATUS_STATE 0).addr, BitVec.ofNat 64 ((2 <<< (F.RNG_STATUS_STATE 0).lsb)))], units := { topo := some ({ kind := 0, parentD0 := 0, parentD1 := 0 } : Topology) } }, 0, 3, 1, by decide +kernel⟩,
   ⟨State.reset, 0, 1, by decide +kernel⟩,
   ⟨{ State.reset with regs := [((F.PWR_STATUS_LOCAL_READY).addr, BitVec.ofNat 64 ((1 <<< (F.PWR_STATUS_LOCAL_READY).lsb))), ((F.TIM_FOUT_STATUS_PENDING 0).addr, BitVec.ofNat 64 ((1 <<< (F.TIM_FOUT_STATUS_PENDING 0).lsb))), ((F.SUP_PEER_W0_EXCHANGED 0).addr, BitVec.ofNat 64 ((1 <<< (F.SUP_PEER_W0_EXCHANGED 0).lsb))), ((F.RNG_STATUS_STATE 0).addr, BitVec.ofNat 64 ((2 <<< (F.RNG_STATUS_STATE 0).lsb)))], units := { topo := some ({ kind := 0, parentD0 := 0, parentD1 := 0 } : Topology) } }, 0, by decide +kernel⟩,
   ⟨State.reset, 0, by decide +kernel⟩⟩

set_option maxRecDepth 20000 in
theorem witness_EdgeUnitsAndChannels :
    (∃ s : State, ∃ p : Nat, (p < 16) ∧ (s.edgeLive (s.get (F.EDG_CFG_START_SEL p)) = true) ∧ (s.is (F.EDG_STATUS_CAL_BUSY p) = false) ∧ (s.is (F.EDG_STATUS_ARMED p) = true) ∧ (s.win.stops.find? (fun e => e.1 = p) = none ∨ s.get (F.EDG_CFG_STOP_SEL p) = 0xFF)) ∧
    (∃ s : State, ∃ p : Nat, ∃ y : Nat × Nat, (p < 16) ∧ (s.edgeLive (s.get (F.EDG_CFG_START_SEL p)) = true) ∧ (s.is (F.EDG_STATUS_CAL_BUSY p) = false) ∧ (s.is (F.EDG_STATUS_ARMED p) = true) ∧ (s.win.stops.find? (fun e => e.1 = p) = some y) ∧ (s.get (F.EDG_CFG_STOP_SEL p) ≠ 0xFF)) ∧
    (∃ s : State, ∃ p : Nat, (p < 16) ∧ (s.edgeLive (s.get (F.EDG_CFG_START_SEL p)) = true) ∧ (s.is (F.EDG_STATUS_CAL_BUSY p) = true ∨ (s.is (F.EDG_STATUS_ARMED p) = false ∧ s.is (F.EDG_STATUS_STARTED p) = false ∧ s.rearmPending p = false ∧ s.armPending p = false))) ∧
    (∃ s : State, ∃ p : Nat, (16 ≤ p ∨ s.edgeLive (s.get (F.EDG_CFG_START_SEL p)) = false)) ∧
    (∃ s : State, ∃ p : Nat, (p < 16) ∧ (s.get (F.EDG_CFG_STOP_SEL p) ≠ 0xFF) ∧ (s.edgeLive (s.get (F.EDG_CFG_STOP_SEL p)) = true) ∧ (s.is (F.EDG_STATUS_CAL_BUSY p) = false) ∧ (s.is (F.EDG_STATUS_STARTED p) = true)) ∧
    (∃ s : State, ∃ p : Nat, (p < 16) ∧ (s.get (F.EDG_CFG_STOP_SEL p) ≠ 0xFF) ∧ (s.edgeLive (s.get (F.EDG_CFG_STOP_SEL p)) = true) ∧ (s.is (F.EDG_STATUS_CAL_BUSY p) = true ∨ (s.is (F.EDG_STATUS_STARTED p) = false ∧ s.is (F.EDG_STATUS_ARMED p) = false ∧ s.rearmPending p = false ∧ s.armPending p = false))) ∧
    (∃ s : State, ∃ p : Nat, (p < 16) ∧ (s.get (F.EDG_CFG_STOP_SEL p) ≠ 0xFF) ∧ (s.edgeLive (s.get (F.EDG_CFG_STOP_SEL p)) = true) ∧ (s.is (F.EDG_STATUS_CAL_BUSY p) = false) ∧ (s.is (F.EDG_STATUS_STARTED p) = false) ∧ (s.is (F.EDG_STATUS_ARMED p) = true)) ∧
    (∃ s : State, ∃ p : Nat, (16 ≤ p ∨ s.get (F.EDG_CFG_STOP_SEL p) = 0xFF ∨ s.edgeLive (s.get (F.EDG_CFG_STOP_SEL p)) = false)) ∧
    (∃ s : State, ∃ p : Nat, (p < 16) ∧ (s.resultDue p = true)) ∧
    (∃ s : State, ∃ p : Nat, (s.resultDue p = false)) ∧
    (∃ s : State, ∃ p : Nat, (p < 16) ∧ (s.is (F.EDG_STATUS_STARTED p) = true) ∧ (4 * 2 ^ 40 * tickNs ≤ 5 * (s.keep.elapsed - (s.edge p).startedAt))) ∧
    (∃ s : State, ∃ p : Nat, (16 ≤ p ∨ s.is (F.EDG_STATUS_STARTED p) = false ∨ 5 * (s.keep.elapsed - (s.edge p).startedAt) < 4 * 2 ^ 40 * tickNs)) ∧
    (∃ s : State, ∃ p : Nat, ∃ w : Nat, ∃ v : Word, (p < 16) ∧ (getBits v 0 0 = 1) ∧ (s.hasRight w 0x00080000 = true) ∧ (s.is (F.EDG_STATUS_STARTED p) = false) ∧ ((s.edge p).resultAt = none) ∧ (s.get F.IMG_VOLATILE_WRITES_COUNT + 1 < 2 ^ 47)) ∧
    (∃ s : State, ∃ p : Nat, ∃ w : Nat, ∃ v : Word, (p < 16) ∧ (getBits v 0 0 = 1) ∧ (s.hasRight w 0x00080000 = false) ∧ (s.get F.IMG_VOLATILE_WRITES_COUNT + 1 < 2 ^ 47)) ∧
    (∃ s : State, ∃ p : Nat, ∃ v : Word, (16 ≤ p ∨ getBits v 0 0 = 0) ∧ (s.get F.IMG_VOLATILE_WRITES_COUNT + 1 < 2 ^ 47)) ∧
    (∃ s : State, ∃ p : Nat, ∃ w : Nat, ∃ v : Word, (p < 16) ∧ (getBits v 1 1 = 1) ∧ (s.hasRight w 0x00080000 = true) ∧ (s.get F.IMG_VOLATILE_WRITES_COUNT + 1 < 2 ^ 47)) ∧
    (∃ s : State, ∃ p : Nat, ∃ v : Word, (16 ≤ p ∨ getBits v 1 1 = 0) ∧ (s.get F.IMG_VOLATILE_WRITES_COUNT + 1 < 2 ^ 47)) ∧
    (∃ s : State, ∃ p : Nat, ∃ w : Nat, ∃ v : Word, (p < 16) ∧ (getBits v 2 2 = 1) ∧ (s.hasRight w 0x00080000 = true) ∧ (s.get (F.EDG_CFG_IO p) = 3) ∧ ((tickUs : Int) ≤ dif (s.get (F.EDG_OUT_TIME_TIME p)) s.now) ∧ (s.get F.IMG_VOLATILE_WRITES_COUNT + 1 < 2 ^ 47)) ∧
    (∃ s : State, ∃ p : Nat, ∃ w : Nat, ∃ v : Word, (p < 16) ∧ (getBits v 2 2 = 1) ∧ (s.hasRight w 0x00080000 = true) ∧ (s.get (F.EDG_CFG_IO p) = 3) ∧ (dif (s.get (F.EDG_OUT_TIME_TIME p)) s.now < (tickUs : Int)) ∧ (s.get F.IMG_VOLATILE_WRITES_COUNT + 1 < 2 ^ 47)) ∧
    (∃ s : State, ∃ p : Nat, ∃ w : Nat, ∃ v : Word, (16 ≤ p ∨ getBits v 2 2 = 0 ∨ (s.hasRight w 0x00080000 = true ∧ s.get (F.EDG_CFG_IO p) ≠ 3)) ∧ (s.get F.IMG_VOLATILE_WRITES_COUNT + 1 < 2 ^ 47)) ∧
    (∃ s : State, ∃ p : Nat, (p < 16) ∧ (s.up = true) ∧ (s.is (F.EDG_STATUS_OUT_ARMED p) = true) ∧ (s.get (F.EDG_CFG_IO p) = 3) ∧ (0 ≤ dif s.now (s.edge p).nextOut)) ∧
    (∃ s : State, ∃ p : Nat, (16 ≤ p ∨ s.up = false ∨ s.is (F.EDG_STATUS_OUT_ARMED p) = false ∨ s.get (F.EDG_CFG_IO p) ≠ 3 ∨ dif s.now (s.edge p).nextOut < 0)) ∧
    (∃ s : State, ∃ u : Nat, (u < 21) ∧ (16 ≤ u ∨ (s.is (F.EDG_STATUS_ARMED u) = false ∧ s.is (F.EDG_STATUS_STARTED u) = false ∧ (s.edge u).resultAt = none))) ∧
    (∃ s : State, ∃ u : Nat, (21 ≤ u ∨ (u < 16 ∧ (s.is (F.EDG_STATUS_ARMED u) = true ∨ s.is (F.EDG_STATUS_STARTED u) = true ∨ (s.edge u).resultAt ≠ none)))) ∧
    (∃ s : State, ∃ p : Nat, ∃ w : Nat, ∃ v : Word, (p < 16) ∧ (s.hasRight w 0x00080000 = true) ∧ (edgeSelector (getBits v 23 16) = true) ∧ (edgeSelector (getBits v 15 8) = true ∨ getBits v 15 8 = 0xFF)) ∧
    (∃ s : State, ∃ p : Nat, ∃ w : Nat, ∃ v : Word, (p < 16) ∧ (s.hasRight w 0x00080000 = true) ∧ (edgeSelector (getBits v 23 16) = false ∨ (edgeSelector (getBits v 15 8) = false ∧ getBits v 15 8 ≠ 0xFF))) ∧
    (∃ s : State, (s.up = true) ∧ (s.units.env.lastScan ≠ some (s.units.d0 / tickS)) ∧ (s.units.d0 / tickS % max 1 (s.live F.ENV_SCAN_SCAN_S) = 0) ∧ (s.units.env.todo = [])) ∧
    (∃ s : State, (s.up = true) ∧ (s.units.env.lastScan ≠ some (s.units.d0 / tickS)) ∧ (s.units.d0 / tickS % max 1 (s.live F.ENV_SCAN_SCAN_S) = 0) ∧ (s.units.env.todo ≠ [])) ∧
    (∃ s : State, (s.up = false ∨ s.units.env.lastScan = some (s.units.d0 / tickS) ∨ s.units.d0 / tickS % max 1 (s.live F.ENV_SCAN_SCAN_S) ≠ 0)) ∧
    (∃ s : State, ∃ c : Nat, ∃ f : Conversion, (c < 16) ∧ (s.converting c = true) ∧ (-32768 ≤ s.envValue c f.raw) ∧ (s.envValue c f.raw ≤ 32767)) ∧
    (∃ s : State, ∃ c : Nat, (s.converting c = false)) :=
  ⟨⟨{ State.reset with regs := [((F.EDG_CFG_START_SEL 0).addr, BitVec.ofNat 64 ((0x20 <<< (F.EDG_CFG_START_SEL 0).lsb) + (0xFF <<< (F.EDG_CFG_STOP_SEL 0).lsb))), ((F.EDG_STATUS_ARMED 0).addr, BitVec.ofNat 64 ((1 <<< (F.EDG_STATUS_ARMED 0).lsb)))] }, 0, by decide +kernel⟩,
   ⟨{ State.reset with regs := [((F.EDG_CFG_START_SEL 0).addr, BitVec.ofNat 64 ((0x20 <<< (F.EDG_CFG_START_SEL 0).lsb) + (0x20 <<< (F.EDG_CFG_STOP_SEL 0).lsb))), ((F.EDG_STATUS_ARMED 0).addr, BitVec.ofNat 64 ((1 <<< (F.EDG_STATUS_ARMED 0).lsb)))], win := { stops := [(0, 7)] } }, 0, (0, 7), by decide +kernel⟩,
   ⟨{ State.reset with regs := [((F.EDG_CFG_START_SEL 0).addr, BitVec.ofNat 64 ((0x20 <<< (F.EDG_CFG_START_SEL 0).lsb)))] }, 0, by decide +kernel⟩,
   ⟨State.reset, 0, by decide +kernel⟩,
   ⟨{ State.reset with regs := [((F.EDG_CFG_STOP_SEL 0).addr, BitVec.ofNat 64 ((0x20 <<< (F.EDG_CFG_STOP_SEL 0).lsb))), ((F.EDG_STATUS_STARTED 0).addr, BitVec.ofNat 64 ((1 <<< (F.EDG_STATUS_STARTED 0).lsb)))] }, 0, by decide +kernel⟩,
   ⟨{ State.reset with regs := [((F.EDG_CFG_STOP_SEL 0).addr, BitVec.ofNat 64 ((0x20 <<< (F.EDG_CFG_STOP_SEL 0).lsb)))] }, 0, by decide +kernel⟩,
   ⟨{ State.reset with regs := [((F.EDG_CFG_STOP_SEL 0).addr, BitVec.ofNat 64 ((0x20 <<< (F.EDG_CFG_STOP_SEL 0).lsb))), ((F.EDG_STATUS_ARMED 0).addr, BitVec.ofNat 64 ((1 <<< (F.EDG_STATUS_ARMED 0).lsb)))] }, 0, by decide +kernel⟩,
   ⟨State.reset, 0, by decide +kernel⟩,
   ⟨{ State.reset with units := { edges := [(0, ({ start := 300, stop := 900, resultAt := some 0 } : EdgeUnit))] } }, 0, by decide +kernel⟩,
   ⟨State.reset, 0, by decide +kernel⟩,
   ⟨{ State.reset with regs := [((F.EDG_STATUS_STARTED 0).addr, BitVec.ofNat 64 ((1 <<< (F.EDG_STATUS_STARTED 0).lsb)))], keep := { elapsed := 4 * 2 ^ 40 * tickNs }, units := { edges := [(0, ({ start := 300 } : EdgeUnit))] } }, 0, by decide +kernel⟩,
   ⟨State.reset, 0, by decide +kernel⟩,
   ⟨State.reset, 0, 0, 1, by decide +kernel⟩,
   ⟨State.reset, 0, 3, 1, by decide +kernel⟩,
   ⟨State.reset, 0, 2, by decide +kernel⟩,
   ⟨State.reset, 0, 0, 2, by decide +kernel⟩,
   ⟨State.reset, 0, 1, by decide +kernel⟩,
   ⟨{ State.reset with regs := [((F.EDG_CFG_IO 0).addr, BitVec.ofNat 64 ((3 <<< (F.EDG_CFG_IO 0).lsb))), ((F.EDG_OUT_TIME_TIME 0).addr, BitVec.ofNat 64 ((0x1000000 <<< (F.EDG_OUT_TIME_TIME 0).lsb)))] }, 0, 0, 4, by decide +kernel⟩,
   ⟨{ State.reset with regs := [((F.EDG_CFG_IO 0).addr, BitVec.ofNat 64 ((3 <<< (F.EDG_CFG_IO 0).lsb)))] }, 0, 0, 4, by decide +kernel⟩,
   ⟨State.reset, 0, 0, 4, by decide +kernel⟩,
   ⟨{ State.reset with regs := [((F.PWR_STATUS_LOCAL_READY).addr, BitVec.ofNat 64 ((1 <<< (F.PWR_STATUS_LOCAL_READY).lsb) + (0x7F <<< (F.PWR_STATUS_RAIL_OK).lsb))), ((F.EDG_CFG_IO 0).addr, BitVec.ofNat 64 ((3 <<< (F.EDG_CFG_IO 0).lsb))), ((F.EDG_STATUS_OUT_ARMED 0).addr, BitVec.ofNat 64 ((1 <<< (F.EDG_STATUS_OUT_ARMED 0).lsb)))] }, 0, by decide +kernel⟩,
   ⟨State.reset, 0, by decide +kernel⟩,
   ⟨State.reset, 0, by decide +kernel⟩,
   ⟨State.reset, 21, by decide +kernel⟩,
   ⟨State.reset, 0, 0, 0xC820FF00, by decide +kernel⟩,
   ⟨State.reset, 0, 0, 0xC821FF00, by decide +kernel⟩,
   ⟨{ State.reset with regs := [((F.PWR_STATUS_LOCAL_READY).addr, BitVec.ofNat 64 ((1 <<< (F.PWR_STATUS_LOCAL_READY).lsb) + (0x7F <<< (F.PWR_STATUS_RAIL_OK).lsb))), ((F.ENV_CFG_ENABLE 3).addr, BitVec.ofNat 64 ((1 <<< (F.ENV_CFG_ENABLE 3).lsb)))] }, by decide +kernel⟩,
   ⟨{ State.reset with regs := [((F.PWR_STATUS_LOCAL_READY).addr, BitVec.ofNat 64 ((1 <<< (F.PWR_STATUS_LOCAL_READY).lsb) + (0x7F <<< (F.PWR_STATUS_RAIL_OK).lsb)))], units := { env := { todo := [3] } } }, by decide +kernel⟩,
   ⟨State.reset, by decide +kernel⟩,
   ⟨{ State.reset with units := { env := { todo := [3] } } }, 3, { raw := 100 }, by decide +kernel⟩,
   ⟨State.reset, 3, by decide +kernel⟩⟩

set_option maxRecDepth 20000 in
theorem witness_InterlocksAndUtilityPins :
    (∃ s : State, ∃ o : Nat, (o < 8) ∧ (s.ilkHeld o ≠ Drive.hiZ)) ∧
    (∃ s : State, ∃ o : Nat, (o < 8) ∧ (s.ilkHeld o ≠ Drive.hiZ)) ∧
    (∃ s : State, ∃ o : Nat, ∃ q : Nat, (o < 8) ∧ (q < 8) ∧ (q ≠ o) ∧ (s.ilkHeld o ≠ Drive.hiZ) ∧ (s.ilkHeld q ≠ Drive.hiZ) ∧ (s.ilkHeld q ≠ s.ilkHeld o)) ∧
    (∃ s : State, ∃ o : Nat, (8 ≤ o ∨ s.ilkHeld o = Drive.hiZ)) ∧
    (∃ s : State, ∃ o : Nat, (o < 8) ∧ (s.is (F.ILK_FAULT_TRIPPED o) = true) ∧ (s.is (F.ILK_FAULT_LATCHED o) = false) ∧ ((s.ilk o).cooled = true) ∧ ((s.ilk o).trippedAt + 100 * tickMs ≤ s.keep.elapsed) ∧ (s.get (F.ILK_CFG_SOURCE o) = 1 ∨ s.ilkWants o ≠ 0)) ∧
    (∃ s : State, ∃ o : Nat, (8 ≤ o ∨ s.is (F.ILK_FAULT_TRIPPED o) = false ∨ s.is (F.ILK_FAULT_LATCHED o) = true ∨ (s.ilk o).cooled = false ∨ s.keep.elapsed < (s.ilk o).trippedAt + 100 * tickMs ∨ (s.get (F.ILK_CFG_SOURCE o) ≠ 1 ∧ s.ilkWants o = 0))) ∧
    (∃ o : Nat, (o < 8)) ∧
    (∃ o : Nat, ∃ w : Nat, ∃ v : Word, (o < 8) ∧ (getBits v 0 0 = 1) ∧ (w = 0)) ∧
    (∃ s : State, ∃ o : Nat, ∃ w : Nat, ∃ v : Word, (o < 8) ∧ (getBits v 0 0 = 1) ∧ (w ≠ 0) ∧ (s.get F.IMG_VOLATILE_WRITES_COUNT + 1 < 2 ^ 47)) ∧
    (∃ s : State, ∃ o : Nat, ∃ v : Word, (8 ≤ o ∨ getBits v 0 0 = 0) ∧ (s.get F.IMG_VOLATILE_WRITES_COUNT + 1 < 2 ^ 47)) ∧
    (∃ o : Nat, ∃ w : Nat, (o < 8) ∧ (w = 0)) ∧
    (∃ s : State, ∃ o : Nat, ∃ w : Nat, (o < 8) ∧ (w ≠ 0) ∧ (s.get F.IMG_VOLATILE_WRITES_COUNT + 1 < 2 ^ 47)) ∧
    (∃ s : State, ((s.get F.PWR_STATUS_RAIL_OK).testBit 6 = true)) ∧
    (∃ s : State, ((s.get F.PWR_STATUS_RAIL_OK).testBit 6 = false)) ∧
    (∃ s : State, ((s.get F.PWR_STATUS_RAIL_OK).testBit 6 = false)) ∧
    (∃ s : State, ((s.get F.PWR_STATUS_RAIL_OK).testBit 6 = true)) ∧
    (∃ s : State, ∃ p : Nat, ∃ w : Nat, ∃ v : Word, (p < 32) ∧ (w = 0) ∧ (utlOffers p (getBits v 31 28) = true) ∧ (getBits v 31 28 ≠ s.get (F.UTL_CFG_FUNCTION p))) ∧
    (∃ p : Nat, ∃ w : Nat, ∃ v : Word, (p < 32) ∧ (w = 0) ∧ (utlOffers p (getBits v 31 28) = false)) ∧
    (∃ s : State, ∃ p : Nat, ∃ w : Nat, (p < 32) ∧ (w ≠ 0) ∧ (s.get F.IMG_VOLATILE_WRITES_COUNT + 1 < 2 ^ 47)) ∧
    (∃ s : State, ∃ p : Nat, (p < 32) ∧ (s.is (F.UTL_STATUS_GUARD p) = true) ∧ ((s.utl p).guardEnd ≤ s.keep.elapsed)) ∧
    (∃ s : State, ∃ p : Nat, (32 ≤ p ∨ s.is (F.UTL_STATUS_GUARD p) = false ∨ s.keep.elapsed < (s.utl p).guardEnd)) ∧
    (∃ s : State, ∃ p : Nat, (p < 32) ∧ (s.utlCleared p = false) ∧ (s.utlPin p ≠ Drive.hiZ)) ∧
    (∃ s : State, ∃ p : Nat, ∃ q : Nat, (p < 32) ∧ (q < 32) ∧ (q ≠ p) ∧ (s.utlCleared p = false) ∧ (s.utlPin p ≠ Drive.hiZ) ∧ (s.utlPin q ≠ Drive.hiZ) ∧ (s.utlPin q ≠ s.utlPin p)) ∧
    (∃ s : State, ∃ p : Nat, (32 ≤ p ∨ s.utlCleared p = true ∨ s.utlPin p = Drive.hiZ)) ∧
    (∃ s : State, ∃ p : Nat, ∃ w : Nat, ∃ v : Word, (p < 32) ∧ (s.hasRight w 0x00085000 = true) ∧ (getBits v 1 1 = 1)) ∧
    (∃ s : State, ∃ p : Nat, ∃ w : Nat, (p < 32) ∧ (s.hasRight w 0x00085000 = false) ∧ (s.get F.IMG_VOLATILE_WRITES_COUNT + 1 < 2 ^ 47)) ∧
    (∃ s : State, ∃ p : Nat, ∃ x : Nat, (p < 32) ∧ (s.pending = []) ∧ (s.is (F.UTL_STATUS_GUARD p) = false) ∧ (s.get (F.UTL_CFG_FUNCTION p) = 6) ∧ (∀ y ∈ (s.utl p).lastEdge, (clampParam 6 (s.get (F.UTL_PARAM_PARAM p)) * tickNs : Nat) ≤ dif x y)) ∧
    (∃ s : State, ∃ p : Nat, ∃ x : Nat, ∃ y : Nat, (p < 32) ∧ (s.is (F.UTL_STATUS_GUARD p) = true ∨ (s.get (F.UTL_CFG_FUNCTION p) = 6 ∧ (s.utl p).lastEdge = some y ∧ dif x y < (clampParam 6 (s.get (F.UTL_PARAM_PARAM p)) * tickNs : Nat)))) ∧
    (∃ s : State, ∃ p : Nat, (32 ≤ p ∨ (s.pending = [] ∧ s.is (F.UTL_STATUS_GUARD p) = false ∧ s.get (F.UTL_CFG_FUNCTION p) ≠ 6))) :=
  ⟨⟨{ State.reset with regs := [((F.PWR_STATUS_LOCAL_READY).addr, BitVec.ofNat 64 ((1 <<< (F.PWR_STATUS_LOCAL_READY).lsb) + (0x7F <<< (F.PWR_STATUS_RAIL_OK).lsb))), ((F.ILK_CFG_STATE 0).addr, BitVec.ofNat 64 ((1 <<< (F.ILK_CFG_STATE 0).lsb)))] }, 0, by decide +kernel⟩,
   ⟨{ State.reset with regs := [((F.PWR_STATUS_LOCAL_READY).addr, BitVec.ofNat 64 ((1 <<< (F.PWR_STATUS_LOCAL_READY).lsb) + (0x7F <<< (F.PWR_STATUS_RAIL_OK).lsb))), ((F.ILK_CFG_STATE 0).addr, BitVec.ofNat 64 ((2 <<< (F.ILK_CFG_STATE 0).lsb)))] }, 0, by decide +kernel⟩,
   ⟨{ State.reset with regs := [((F.PWR_STATUS_LOCAL_READY).addr, BitVec.ofNat 64 ((1 <<< (F.PWR_STATUS_LOCAL_READY).lsb) + (0x7F <<< (F.PWR_STATUS_RAIL_OK).lsb))), ((F.ILK_CFG_STATE 0).addr, BitVec.ofNat 64 ((1 <<< (F.ILK_CFG_STATE 0).lsb))), ((F.ILK_CFG_STATE 1).addr, BitVec.ofNat 64 ((2 <<< (F.ILK_CFG_STATE 1).lsb)))] }, 0, 1, by decide +kernel⟩,
   ⟨State.reset, 0, by decide +kernel⟩,
   ⟨{ State.reset with regs := [((F.PWR_STATUS_LOCAL_READY).addr, BitVec.ofNat 64 ((1 <<< (F.PWR_STATUS_LOCAL_READY).lsb) + (0x7F <<< (F.PWR_STATUS_RAIL_OK).lsb))), ((F.ILK_CFG_STATE 0).addr, BitVec.ofNat 64 ((1 <<< (F.ILK_CFG_STATE 0).lsb))), ((F.ILK_FAULT_TRIPPED 0).addr, BitVec.ofNat 64 ((1 <<< (F.ILK_FAULT_TRIPPED 0).lsb)))], keep := { elapsed := 100 * tickMs } }, 0, by decide +kernel⟩,
   ⟨State.reset, 0, by decide +kernel⟩,
   ⟨0, by decide +kernel⟩,
   ⟨0, 0, 1, by decide +kernel⟩,
   ⟨State.reset, 0, 3, 1, by decide +kernel⟩,
   ⟨State.reset, 8, 1, by decide +kernel⟩,
   ⟨0, 0, by decide +kernel⟩,
   ⟨State.reset, 0, 3, by decide +kernel⟩,
   ⟨{ State.reset with regs := [((F.PWR_STATUS_LOCAL_READY).addr, BitVec.ofNat 64 ((1 <<< (F.PWR_STATUS_LOCAL_READY).lsb) + (0x7F <<< (F.PWR_STATUS_RAIL_OK).lsb))), ((F.ILK_CFG_STATE 0).addr, BitVec.ofNat 64 ((1 <<< (F.ILK_CFG_STATE 0).lsb)))] }, by decide +kernel⟩,
   ⟨{ State.reset with regs := [(0x00010000, 0x00)] }, by decide +kernel⟩,
   ⟨{ State.reset with regs := [(0x00010000, 0x3F)] }, by decide +kernel⟩,
   ⟨{ State.reset with regs := [((F.PWR_STATUS_LOCAL_READY).addr, BitVec.ofNat 64 ((1 <<< (F.PWR_STATUS_LOCAL_READY).lsb) + (0x7F <<< (F.PWR_STATUS_RAIL_OK).lsb)))] }, by decide +kernel⟩,
   ⟨{ State.reset with regs := [((F.PWR_STATUS_LOCAL_READY).addr, BitVec.ofNat 64 ((1 <<< (F.PWR_STATUS_LOCAL_READY).lsb) + (0x7F <<< (F.PWR_STATUS_RAIL_OK).lsb)))] }, 16, 0, 0x60000000, by decide +kernel⟩,
   ⟨16, 0, 0x90000000, by decide +kernel⟩,
   ⟨State.reset, 16, 3, by decide +kernel⟩,
   ⟨{ State.reset with regs := [((F.PWR_STATUS_LOCAL_READY).addr, BitVec.ofNat 64 ((1 <<< (F.PWR_STATUS_LOCAL_READY).lsb) + (0x7F <<< (F.PWR_STATUS_RAIL_OK).lsb))), ((F.UTL_STATUS_GUARD 16).addr, BitVec.ofNat 64 ((1 <<< (F.UTL_STATUS_GUARD 16).lsb)))] }, 16, by decide +kernel⟩,
   ⟨State.reset, 16, by decide +kernel⟩,
   ⟨{ State.reset with regs := [((F.PWR_STATUS_LOCAL_READY).addr, BitVec.ofNat 64 ((1 <<< (F.PWR_STATUS_LOCAL_READY).lsb) + (0x7F <<< (F.PWR_STATUS_RAIL_OK).lsb))), ((F.UTL_CFG_FUNCTION 16).addr, BitVec.ofNat 64 ((2 <<< (F.UTL_CFG_FUNCTION 16).lsb)))] }, 16, by decide +kernel⟩,
   ⟨{ State.reset with regs := [((F.PWR_STATUS_LOCAL_READY).addr, BitVec.ofNat 64 ((1 <<< (F.PWR_STATUS_LOCAL_READY).lsb) + (0x7F <<< (F.PWR_STATUS_RAIL_OK).lsb))), ((F.UTL_CFG_FUNCTION 16).addr, BitVec.ofNat 64 ((2 <<< (F.UTL_CFG_FUNCTION 16).lsb))), ((F.UTL_CFG_FUNCTION 17).addr, BitVec.ofNat 64 ((2 <<< (F.UTL_CFG_FUNCTION 17).lsb) + (1 <<< (F.UTL_CFG_INVERT 17).lsb)))] }, 16, 17, by decide +kernel⟩,
   ⟨State.reset, 16, by decide +kernel⟩,
   ⟨{ State.reset with regs := [((F.PWR_STATUS_LOCAL_READY).addr, BitVec.ofNat 64 ((1 <<< (F.PWR_STATUS_LOCAL_READY).lsb) + (0x7F <<< (F.PWR_STATUS_RAIL_OK).lsb)))] }, 16, 0, 3, by decide +kernel⟩,
   ⟨State.reset, 16, 3, by decide +kernel⟩,
   ⟨{ State.reset with regs := [((F.PWR_STATUS_LOCAL_READY).addr, BitVec.ofNat 64 ((1 <<< (F.PWR_STATUS_LOCAL_READY).lsb) + (0x7F <<< (F.PWR_STATUS_RAIL_OK).lsb))), ((F.UTL_CFG_FUNCTION 16).addr, BitVec.ofNat 64 ((6 <<< (F.UTL_CFG_FUNCTION 16).lsb)))] }, 16, 5, by decide +kernel⟩,
   ⟨{ State.reset with regs := [((F.PWR_STATUS_LOCAL_READY).addr, BitVec.ofNat 64 ((1 <<< (F.PWR_STATUS_LOCAL_READY).lsb) + (0x7F <<< (F.PWR_STATUS_RAIL_OK).lsb))), ((F.UTL_CFG_FUNCTION 16).addr, BitVec.ofNat 64 ((6 <<< (F.UTL_CFG_FUNCTION 16).lsb))), ((F.UTL_STATUS_GUARD 16).addr, BitVec.ofNat 64 ((1 <<< (F.UTL_STATUS_GUARD 16).lsb)))] }, 16, 5, 0, by decide +kernel⟩,
   ⟨State.reset, 16, by decide +kernel⟩⟩

set_option maxRecDepth 20000 in
theorem witness_FieldBusChannels :
    (∃ s : State, ∃ c : Nat, ∃ w : Nat, ∃ v : Word, (c < 2) ∧ (s.hasRight w 0x000C0000 = true) ∧ (s.up = true) ∧ (s.is (F.FBUS_CFG_ENABLE c) = false) ∧ (getBits v 31 31 = 1) ∧ (s.get F.IMG_VOLATILE_WRITES_COUNT + 1 < 2 ^ 47)) ∧
    (∃ s : State, ∃ c : Nat, ∃ w : Nat, ∃ v : Word, (c < 2) ∧ (s.hasRight w 0x000C0000 = true) ∧ (s.is (F.FBUS_CFG_ENABLE c) = true) ∧ (getBits v 31 31 = 0) ∧ ((s.fb c).sending = none)) ∧
    (∃ s : State, ∃ c : Nat, ∃ w : Nat, (c < 2) ∧ (s.hasRight w 0x000C0000 = false) ∧ (s.get F.IMG_VOLATILE_WRITES_COUNT + 1 < 2 ^ 47)) ∧
    (∃ s : State, ∃ c : Nat, (2 ≤ c) ∧ (s.up = false) ∧ (s.get F.IMG_VOLATILE_WRITES_COUNT + 1 < 2 ^ 47)) ∧
    (∃ s : State, ∃ c : Nat, (c < 2) ∧ (s.get (F.FBUS_STATUS_STATE c) = 1)) ∧
    (∃ s : State, ∃ c : Nat, (2 ≤ c ∨ s.get (F.FBUS_STATUS_STATE c) ≠ 1)) ∧
    (∃ s : State, ∃ c : Nat, (c < 2) ∧ ((s.fb c).mode ≠ s.get (F.FBUS_CFG_MODE c))) ∧
    (∃ s : State, ∃ c : Nat, (2 ≤ c ∨ (s.fb c).mode = s.get (F.FBUS_CFG_MODE c))) ∧
    (∃ s : State, ∃ c : Nat, ∃ w : Nat, ∃ v : Word, (c < 2) ∧ (getBits v 0 0 = 1) ∧ (s.hasRight w 0x000C0000 = true) ∧ (s.get (F.FBUS_STATUS_STATE c) = 4)) ∧
    (∃ s : State, ∃ c : Nat, ∃ w : Nat, ∃ v : Word, (c < 2) ∧ (getBits v 0 0 = 1) ∧ (s.hasRight w 0x000C0000 = false) ∧ (s.get F.IMG_VOLATILE_WRITES_COUNT + 1 < 2 ^ 47)) ∧
    (∃ s : State, ∃ c : Nat, ∃ w : Nat, ∃ v : Word, (s.up = false) ∧ (2 ≤ c ∨ getBits v 0 0 = 0 ∨ (s.hasRight w 0x000C0000 = true ∧ s.get (F.FBUS_STATUS_STATE c) ≠ 4)) ∧ (s.get F.IMG_VOLATILE_WRITES_COUNT + 1 < 2 ^ 47)) ∧
    (∃ s : State, ∃ c : Nat, (c < 2) ∧ (s.get (F.FBUS_STATUS_STATE c) = 5)) ∧
    (∃ s : State, ∃ c : Nat, (2 ≤ c ∨ s.get (F.FBUS_STATUS_STATE c) ≠ 5)) ∧
    (∃ s : State, ∃ c : Nat, ∃ w : Nat, ∃ v : Word, (c < 2) ∧ (getBits v 1 1 = 1) ∧ (s.hasRight w 0x000C0000 = true) ∧ (s.is (F.FBUS_CFG_ENABLE c) = true) ∧ (2 ≤ s.get (F.FBUS_CFG_MODE c)) ∧ (s.is (F.FBUS_ABD_BUSY c) = false) ∧ (s.get F.IMG_VOLATILE_WRITES_COUNT + 1 < 2 ^ 47)) ∧
    (∃ s : State, ∃ c : Nat, ∃ w : Nat, ∃ v : Word, (c < 2) ∧ (getBits v 1 1 = 1) ∧ (s.hasRight w 0x000C0000 = true) ∧ (s.is (F.FBUS_CFG_ENABLE c) = false ∨ s.get (F.FBUS_CFG_MODE c) < 2)) ∧
    (∃ s : State, ∃ c : Nat, ∃ w : Nat, ∃ v : Word, (c < 2) ∧ (getBits v 1 1 = 1) ∧ (s.hasRight w 0x000C0000 = false) ∧ (s.get F.IMG_VOLATILE_WRITES_COUNT + 1 < 2 ^ 47)) ∧
    (∃ s : State, ∃ c : Nat, (c < 2) ∧ (s.is (F.FBUS_ABD_BUSY c) = true) ∧ ((s.fb c).abdAt + 2 * tickS ≤ s.keep.elapsed)) ∧
    (∃ s : State, ∃ c : Nat, (c < 2) ∧ (s.is (F.FBUS_ABD_BUSY c) = true)) ∧
    (∃ s : State, ∃ c : Nat, ∃ n : Nat, ∃ d : Nat, (c < 2) ∧ (s.is (F.FBUS_ABD_BUSY c) = true) ∧ (1 ≤ n) ∧ (n ≤ 5) ∧ (d ≤ 5)) ∧
    (∃ s : State, ∃ c : Nat, (s.is (F.FBUS_ABD_BUSY c) = false)) ∧
    (∃ s : State, ∃ c : Nat, ∃ f : CanFrame, (s.onBus c = true) ∧ (f.fdf = true) ∧ (s.is (F.FBUS_CFG_FD_EN c) = false)) ∧
    (∃ s : State, ∃ c : Nat, ∃ f : CanFrame, ∃ o : Nat, (s.onBus c = true) ∧ (f.fdf = false) ∧ ((s.fb c).mode ≠ 0) ∧ (s.canMatch c f = some o)) ∧
    (∃ s : State, ∃ c : Nat, ∃ f : CanFrame, (s.onBus c = true) ∧ (f.fdf = false) ∧ ((s.fb c).mode = 0) ∧ (s.canMatch c f = none) ∧ (s.get (F.FBUS_STATUS_REC c) ≤ 127) ∧ (s.get (F.FBUS_STATUS_TEC c) < 128)) ∧
    (∃ s : State, ∃ c : Nat, (s.onBus c = false)) :=
  ⟨⟨{ State.reset with regs := [((F.PWR_STATUS_LOCAL_READY).addr, BitVec.ofNat 64 ((1 <<< (F.PWR_STATUS_LOCAL_READY).lsb)))] }, 0, 0, 0x80000000, by decide +kernel⟩,
   ⟨{ State.reset with regs := [((F.PWR_STATUS_LOCAL_READY).addr, BitVec.ofNat 64 ((1 <<< (F.PWR_STATUS_LOCAL_READY).lsb))), ((F.FBUS_CFG_ENABLE 0).addr, BitVec.ofNat 64 ((1 <<< (F.FBUS_CFG_ENABLE 0).lsb))), ((F.FBUS_STATUS_STATE 0).addr, BitVec.ofNat 64 ((2 <<< (F.FBUS_STATUS_STATE 0).lsb))), ((F.FBUS_OBJ_STATUS_PENDING 0 3).addr, BitVec.ofNat 64 ((1 <<< (F.FBUS_OBJ_STATUS_PENDING 0 3).lsb)))] }, 0, 0, 0, by decide +kernel⟩,
   ⟨State.reset, 0, 3, by decide +kernel⟩,
   ⟨State.reset, 2, by decide +kernel⟩,
   ⟨{ State.reset with regs := [((F.PWR_STATUS_LOCAL_READY).addr, BitVec.ofNat 64 ((1 <<< (F.PWR_STATUS_LOCAL_READY).lsb))), ((F.FBUS_CFG_ENABLE 0).addr, BitVec.ofNat 64 ((1 <<< (F.FBUS_CFG_ENABLE 0).lsb))), ((F.FBUS_STATUS_STATE 0).addr, BitVec.ofNat 64 ((1 <<< (F.FBUS_STATUS_STATE 0).lsb)))] }, 0, by decide +kernel⟩,
   ⟨State.reset, 0, by decide +kernel⟩,
   ⟨{ State.reset with regs := [((F.PWR_STATUS_LOCAL_READY).addr, BitVec.ofNat 64 ((1 <<< (F.PWR_STATUS_LOCAL_READY).lsb))), ((F.FBUS_CFG_MODE 0).addr, BitVec.ofNat 64 ((2 <<< (F.FBUS_CFG_MODE 0).lsb)))] }, 0, by decide +kernel⟩,
   ⟨State.reset, 0, by decide +kernel⟩,
   ⟨{ State.reset with regs := [((F.PWR_STATUS_LOCAL_READY).addr, BitVec.ofNat 64 ((1 <<< (F.PWR_STATUS_LOCAL_READY).lsb))), ((F.FBUS_STATUS_STATE 0).addr, BitVec.ofNat 64 ((4 <<< (F.FBUS_STATUS_STATE 0).lsb)))] }, 0, 0, 1, by decide +kernel⟩,
   ⟨State.reset, 0, 3, 1, by decide +kernel⟩,
   ⟨State.reset, 0, 0, 1, by decide +kernel⟩,
   ⟨{ State.reset with regs := [((F.PWR_STATUS_LOCAL_READY).addr, BitVec.ofNat 64 ((1 <<< (F.PWR_STATUS_LOCAL_READY).lsb))), ((F.FBUS_STATUS_STATE 0).addr, BitVec.ofNat 64 ((5 <<< (F.FBUS_STATUS_STATE 0).lsb) + (256 <<< (F.FBUS_STATUS_TEC 0).lsb)))] }, 0, by decide +kernel⟩,
   ⟨State.reset, 0, by decide +kernel⟩,
   ⟨{ State.reset with regs := [((F.PWR_STATUS_LOCAL_READY).addr, BitVec.ofNat 64 ((1 <<< (F.PWR_STATUS_LOCAL_READY).lsb))), ((F.FBUS_CFG_ENABLE 0).addr, BitVec.ofNat 64 ((1 <<< (F.FBUS_CFG_ENABLE 0).lsb) + (2 <<< (F.FBUS_CFG_MODE 0).lsb)))] }, 0, 0, 2, by decide +kernel⟩,
   ⟨State.reset, 0, 0, 2, by decide +kernel⟩,
   ⟨State.reset, 0, 3, 2, by decide +kernel⟩,
   ⟨{ State.reset with regs := [((F.FBUS_ABD_BUSY 0).addr, BitVec.ofNat 64 ((1 <<< (F.FBUS_ABD_BUSY 0).lsb)))], keep := { elapsed := 2 * tickS } }, 0, by decide +kernel⟩,
   ⟨{ State.reset with regs := [((F.FBUS_ABD_BUSY 0).addr, BitVec.ofNat 64 ((1 <<< (F.FBUS_ABD_BUSY 0).lsb)))] }, 0, by decide +kernel⟩,
   ⟨{ State.reset with regs := [((F.FBUS_CTRL_ABD_ADOPT 0).addr, BitVec.ofNat 64 ((1 <<< (F.FBUS_CTRL_ABD_ADOPT 0).lsb))), ((F.FBUS_ABD_BUSY 0).addr, BitVec.ofNat 64 ((1 <<< (F.FBUS_ABD_BUSY 0).lsb)))] }, 0, 5, 0, by decide +kernel⟩,
   ⟨State.reset, 0, by decide +kernel⟩,
   ⟨{ State.reset with regs := [((F.PWR_STATUS_LOCAL_READY).addr, BitVec.ofNat 64 ((1 <<< (F.PWR_STATUS_LOCAL_READY).lsb))), ((F.FBUS_CFG_FD_EN 0).addr, BitVec.ofNat 64 ((0 <<< (F.FBUS_CFG_FD_EN 0).lsb))), ((F.FBUS_STATUS_STATE 0).addr, BitVec.ofNat 64 ((2 <<< (F.FBUS_STATUS_STATE 0).lsb)))] }, 0, ({ ident := 5 <<< 18, fdf := true, dlc := 2, data := [1, 2] } : CanFrame), by decide +kernel⟩,
   ⟨{ State.reset with regs := [((F.PWR_STATUS_LOCAL_READY).addr, BitVec.ofNat 64 ((1 <<< (F.PWR_STATUS_LOCAL_READY).lsb))), ((F.FBUS_STATUS_STATE 0).addr, BitVec.ofNat 64 ((2 <<< (F.FBUS_STATUS_STATE 0).lsb))), ((F.FBUS_OBJ_CFG_ENABLE 0 3).addr, BitVec.ofNat 64 ((1 <<< (F.FBUS_OBJ_CFG_ENABLE 0 3).lsb) + (5 <<< 18 <<< (F.FBUS_OBJ_CFG_ID 0 3).lsb)))], units := { fbus := [(0, ({ mode := 2 } : FbusUnit))] } }, 0, ({ ident := 5 <<< 18, dlc := 2, data := [1, 2] } : CanFrame), 3, by decide +kernel⟩,
   ⟨{ State.reset with regs := [((F.PWR_STATUS_LOCAL_READY).addr, BitVec.ofNat 64 ((1 <<< (F.PWR_STATUS_LOCAL_READY).lsb))), ((F.FBUS_STATUS_STATE 0).addr, BitVec.ofNat 64 ((3 <<< (F.FBUS_STATUS_STATE 0).lsb) + (9 <<< (F.FBUS_STATUS_REC 0).lsb)))] }, 0, ({ ident := 5 <<< 18, dlc := 2, data := [1, 2] } : CanFrame), by decide +kernel⟩,
   ⟨State.reset, 0, by decide +kernel⟩⟩

set_option maxRecDepth 20000 in
theorem witness_FieldBusSends :
    (∃ s : State, ∃ c : Nat, ∃ o : Nat, ∃ w : Nat, ∃ v : Word, (c < 2) ∧ (o < 128) ∧ (getBits v 0 0 = 1) ∧ (s.hasRight w 0x000C0000 = true) ∧ (s.is (F.FBUS_OBJ_CFG_ENABLE c o) = true) ∧ (s.is (F.FBUS_OBJ_CFG_DIR c o) = true) ∧ (s.is (F.FBUS_OBJ_STATUS_PENDING c o) = false) ∧ (s.is (F.FBUS_OBJ_TX_FDF c o) = false ∨ s.is (F.FBUS_CFG_FD_EN c) = true) ∧ (s.get (F.FBUS_STATUS_STATE c) ≠ 4) ∧ (s.get (F.FBUS_STATUS_STATE c) ≠ 5) ∧ (s.is (F.FBUS_CFG_ENABLE c) = true) ∧ (s.get F.IMG_VOLATILE_WRITES_COUNT + 1 < 2 ^ 47)) ∧
    (∃ s : State, ∃ c : Nat, ∃ o : Nat, ∃ w : Nat, ∃ v : Word, ∃ r : Nat, (c < 2) ∧ (o < 128) ∧ (getBits v 0 0 = 1) ∧ (s.hasRight w 0x000C0000 = true) ∧ (s.is (F.FBUS_OBJ_CFG_ENABLE c o) = true) ∧ (s.is (F.FBUS_OBJ_CFG_DIR c o) = true) ∧ (s.is (F.FBUS_OBJ_STATUS_PENDING c o) = false) ∧ ((s.fb c).again = []) ∧ (r = if s.is (F.FBUS_OBJ_TX_FDF c o) = true ∧ s.is (F.FBUS_CFG_FD_EN c) = false then 3 else if s.get (F.FBUS_STATUS_STATE c) = 4 ∨ s.get (F.FBUS_STATUS_STATE c) = 5 then 4 else if s.is (F.FBUS_CFG_ENABLE c) = false then 5 else 0) ∧ (r ≠ 0) ∧ (s.get F.IMG_VOLATILE_WRITES_COUNT + 1 < 2 ^ 47)) ∧
    (∃ s : State, ∃ c : Nat, ∃ o : Nat, ∃ w : Nat, ∃ v : Word, (c < 2) ∧ (o < 128) ∧ (getBits v 0 0 = 1) ∧ (s.hasRight w 0x000C0000 = false) ∧ (s.get F.IMG_VOLATILE_WRITES_COUNT + 1 < 2 ^ 47)) ∧
    (∃ s : State, ∃ c : Nat, ∃ o : Nat, ∃ w : Nat, ∃ v : Word, (2 ≤ c ∨ 128 ≤ o ∨ getBits v 0 0 = 0 ∨ (s.hasRight w 0x000C0000 = true ∧ (s.is (F.FBUS_OBJ_CFG_ENABLE c o) = false ∨ s.is (F.FBUS_OBJ_CFG_DIR c o) = false))) ∧ (s.get F.IMG_VOLATILE_WRITES_COUNT + 1 < 2 ^ 47)) ∧
    (∃ s : State, ∃ c : Nat, ∃ o : Nat, ∃ w : Nat, ∃ v : Word, (c < 2) ∧ (o < 128) ∧ (getBits v 1 1 = 1) ∧ (s.hasRight w 0x000C0000 = true) ∧ (s.is (F.FBUS_OBJ_STATUS_TRANSMITTING c o) = false) ∧ (s.is (F.FBUS_OBJ_STATUS_PENDING c o) = true) ∧ ((s.fb c).again = []) ∧ (s.get F.IMG_VOLATILE_WRITES_COUNT + 1 < 2 ^ 47)) ∧
    (∃ s : State, ∃ c : Nat, ∃ o : Nat, ∃ w : Nat, ∃ v : Word, (c < 2) ∧ (o < 128) ∧ (getBits v 1 1 = 1) ∧ (s.hasRight w 0x000C0000 = true) ∧ (s.is (F.FBUS_OBJ_STATUS_TRANSMITTING c o) = true) ∧ (s.get F.IMG_VOLATILE_WRITES_COUNT + 1 < 2 ^ 47)) ∧
    (∃ s : State, ∃ c : Nat, ∃ o : Nat, ∃ w : Nat, ∃ v : Word, (c < 2) ∧ (o < 128) ∧ (getBits v 1 1 = 1) ∧ (s.hasRight w 0x000C0000 = false) ∧ (s.get F.IMG_VOLATILE_WRITES_COUNT + 1 < 2 ^ 47)) ∧
    (∃ s : State, ∃ c : Nat, ∃ o : Nat, ∃ w : Nat, ∃ v : Word, (2 ≤ c ∨ 128 ≤ o ∨ getBits v 1 1 = 0 ∨ (s.hasRight w 0x000C0000 = true ∧ s.is (F.FBUS_OBJ_STATUS_TRANSMITTING c o) = false ∧ s.is (F.FBUS_OBJ_STATUS_PENDING c o) = false)) ∧ (s.get F.IMG_VOLATILE_WRITES_COUNT + 1 < 2 ^ 47)) ∧
    (∃ s : State, ∃ c : Nat, ∃ n : CanSend, (c < 2) ∧ ((s.fb c).sending = some n) ∧ (n.object < 128) ∧ ((s.fb c).again = [])) ∧
    (∃ s : State, ∃ c : Nat, ∃ n : CanSend, (c < 2) ∧ ((s.fb c).sending = some n) ∧ (n.object < 128) ∧ (n.aborted = false) ∧ (s.is (F.FBUS_CFG_ENABLE c) = true) ∧ (s.get (F.FBUS_CFG_RETRY_LIMIT c) ≠ 15) ∧ (s.get (F.FBUS_CFG_RETRY_LIMIT c) ≤ n.retries) ∧ ((s.fb c).again = [])) ∧
    (∃ s : State, ∃ c : Nat, ∃ n : CanSend, (c < 2) ∧ ((s.fb c).sending = some n) ∧ (n.object < 128) ∧ (n.aborted = false) ∧ (s.is (F.FBUS_CFG_ENABLE c) = true) ∧ (s.get (F.FBUS_CFG_RETRY_LIMIT c) = 15 ∨ n.retries < s.get (F.FBUS_CFG_RETRY_LIMIT c))) ∧
    (∃ s : State, ∃ c : Nat, ∃ n : CanSend, ∃ e : CanError, (c < 2) ∧ ((s.fb c).sending = some n) ∧ (s.get (F.FBUS_STATUS_TEC c) < 248) ∧ (e.spared = false)) ∧
    (∃ s : State, ∃ c : Nat, ∃ n : CanSend, ∃ e : CanError, (c < 2) ∧ ((s.fb c).sending = some n) ∧ (s.get (F.FBUS_STATUS_STATE c) = 2 ∨ s.get (F.FBUS_STATUS_STATE c) = 3) ∧ (s.is (F.FBUS_CFG_ENABLE c) = true) ∧ (s.is (F.FBUS_CFG_AUTO_RECOVER c) = false) ∧ (248 ≤ s.get (F.FBUS_STATUS_TEC c)) ∧ (e.spared = false)) ∧
    (∃ s : State, ∃ c : Nat, ((s.fb c).sending = none)) ∧
    (∃ s : State, ∃ c : Nat, (s.onBus c = true) ∧ ((s.fb c).mode = 0)) ∧
    (∃ s : State, ∃ c : Nat, (s.onBus c = true) ∧ ((s.fb c).mode = 1)) ∧
    (∃ s : State, ∃ c : Nat, (s.onBus c = true) ∧ (2 ≤ (s.fb c).mode)) ∧
    (∃ s : State, ∃ c : Nat, ∃ b : Bool, (s.onBus c = false ∨ ((s.fb c).mode = 0 ∧ b = true ∧ (s.fb c).sending = none))) :=
  ⟨⟨{ State.reset with regs := [((F.PWR_STATUS_LOCAL_READY).addr, BitVec.ofNat 64 ((1 <<< (F.PWR_STATUS_LOCAL_READY).lsb))), ((F.FBUS_CFG_ENABLE 0).addr, BitVec.ofNat 64 ((1 <<< (F.FBUS_CFG_ENABLE 0).lsb))), ((F.FBUS_STATUS_STATE 0).addr, BitVec.ofNat 64 ((2 <<< (F.FBUS_STATUS_STATE 0).lsb))), ((F.FBUS_OBJ_CFG_ENABLE 0 3).addr, BitVec.ofNat 64 ((1 <<< (F.FBUS_OBJ_CFG_ENABLE 0 3).lsb) + (1 <<< (F.FBUS_OBJ_CFG_DIR 0 3).lsb)))] }, 0, 3, 0, 1, by decide +kernel⟩,
   ⟨{ State.reset with regs := [((F.FBUS_OBJ_CFG_ENABLE 0 3).addr, BitVec.ofNat 64 ((1 <<< (F.FBUS_OBJ_CFG_ENABLE 0 3).lsb) + (1 <<< (F.FBUS_OBJ_CFG_DIR 0 3).lsb)))] }, 0, 3, 0, 1, 5, by decide +kernel⟩,
   ⟨State.reset, 0, 3, 3, 1, by decide +kernel⟩,
   ⟨State.reset, 0, 3, 0, 1, by decide +kernel⟩,
   ⟨{ State.reset with regs := [((F.FBUS_OBJ_STATUS_PENDING 0 3).addr, BitVec.ofNat 64 ((1 <<< (F.FBUS_OBJ_STATUS_PENDING 0 3).lsb)))] }, 0, 3, 0, 2, by decide +kernel⟩,
   ⟨{ State.reset with regs := [((F.FBUS_OBJ_STATUS_PENDING 0 3).addr, BitVec.ofNat 64 ((1 <<< (F.FBUS_OBJ_STATUS_PENDING 0 3).lsb) + (1 <<< (F.FBUS_OBJ_STATUS_TRANSMITTING 0 3).lsb)))], units := { fbus := [(0, ({ sending := some ({ object := 3, frame := ({ ident := 5 <<< 18, dlc := 2, data := [1, 2] } : CanFrame) } : CanSend) } : FbusUnit))] } }, 0, 3, 0, 2, by decide +kernel⟩,
   ⟨State.reset, 0, 3, 3, 2, by decide +kernel⟩,
   ⟨State.reset, 0, 3, 0, 2, by decide +kernel⟩,
   ⟨{ State.reset with regs := [((F.PWR_STATUS_LOCAL_READY).addr, BitVec.ofNat 64 ((1 <<< (F.PWR_STATUS_LOCAL_READY).lsb))), ((F.FBUS_CFG_ENABLE 0).addr, BitVec.ofNat 64 ((1 <<< (F.FBUS_CFG_ENABLE 0).lsb))), ((F.FBUS_STATUS_STATE 0).addr, BitVec.ofNat 64 ((2 <<< (F.FBUS_STATUS_STATE 0).lsb) + (5 <<< (F.FBUS_STATUS_TEC 0).lsb))), ((F.FBUS_OBJ_STATUS_PENDING 0 3).addr, BitVec.ofNat 64 ((1 <<< (F.FBUS_OBJ_STATUS_PENDING 0 3).lsb) + (1 <<< (F.FBUS_OBJ_STATUS_TRANSMITTING 0 3).lsb)))], units := { fbus := [(0, ({ sending := some ({ object := 3, frame := ({ ident := 5 <<< 18, dlc := 2, data := [1, 2] } : CanFrame) } : CanSend) } : FbusUnit))] } }, 0, ({ object := 3, frame := ({ ident := 5 <<< 18, dlc := 2, data := [1, 2] } : CanFrame) } : CanSend), by decide +kernel⟩,
   ⟨{ State.reset with regs := [((F.PWR_STATUS_LOCAL_READY).addr, BitVec.ofNat 64 ((1 <<< (F.PWR_STATUS_LOCAL_READY).lsb))), ((F.FBUS_CFG_ENABLE 0).addr, BitVec.ofNat 64 ((1 <<< (F.FBUS_CFG_ENABLE 0).lsb) + (0 <<< (F.FBUS_CFG_RETRY_LIMIT 0).lsb))), ((F.FBUS_STATUS_STATE 0).addr, BitVec.ofNat 64 ((2 <<< (F.FBUS_STATUS_STATE 0).lsb))), ((F.FBUS_OBJ_STATUS_PENDING 0 3).addr, BitVec.ofNat 64 ((1 <<< (F.FBUS_OBJ_STATUS_PENDING 0 3).lsb) + (1 <<< (F.FBUS_OBJ_STATUS_TRANSMITTING 0 3).lsb)))], units := { fbus := [(0, ({ sending := some ({ object := 3, frame := ({ ident := 5 <<< 18, dlc := 2, data := [1, 2] } : CanFrame) } : CanSend) } : FbusUnit))] } }, 0, ({ object := 3, frame := ({ ident := 5 <<< 18, dlc := 2, data := [1, 2] } : CanFrame) } : CanSend), by decide +kernel⟩,
   ⟨{ State.reset with regs := [((F.PWR_STATUS_LOCAL_READY).addr, BitVec.ofNat 64 ((1 <<< (F.PWR_STATUS_LOCAL_READY).lsb))), ((F.FBUS_CFG_ENABLE 0).addr, BitVec.ofNat 64 ((1 <<< (F.FBUS_CFG_ENABLE 0).lsb) + (15 <<< (F.FBUS_CFG_RETRY_LIMIT 0).lsb))), ((F.FBUS_STATUS_STATE 0).addr, BitVec.ofNat 64 ((2 <<< (F.FBUS_STATUS_STATE 0).lsb))), ((F.FBUS_OBJ_STATUS_PENDING 0 3).addr, BitVec.ofNat 64 ((1 <<< (F.FBUS_OBJ_STATUS_PENDING 0 3).lsb) + (1 <<< (F.FBUS_OBJ_STATUS_TRANSMITTING 0 3).lsb)))], units := { fbus := [(0, ({ sending := some ({ object := 3, frame := ({ ident := 5 <<< 18, dlc := 2, data := [1, 2] } : CanFrame) } : CanSend) } : FbusUnit))] } }, 0, ({ object := 3, frame := ({ ident := 5 <<< 18, dlc := 2, data := [1, 2] } : CanFrame) } : CanSend), by decide +kernel⟩,
   ⟨{ State.reset with regs := [((F.PWR_STATUS_LOCAL_READY).addr, BitVec.ofNat 64 ((1 <<< (F.PWR_STATUS_LOCAL_READY).lsb))), ((F.FBUS_CFG_ENABLE 0).addr, BitVec.ofNat 64 ((1 <<< (F.FBUS_CFG_ENABLE 0).lsb) + (15 <<< (F.FBUS_CFG_RETRY_LIMIT 0).lsb))), ((F.FBUS_STATUS_STATE 0).addr, BitVec.ofNat 64 ((2 <<< (F.FBUS_STATUS_STATE 0).lsb))), ((F.FBUS_OBJ_STATUS_PENDING 0 3).addr, BitVec.ofNat 64 ((1 <<< (F.FBUS_OBJ_STATUS_PENDING 0 3).lsb) + (1 <<< (F.FBUS_OBJ_STATUS_TRANSMITTING 0 3).lsb)))], units := { fbus := [(0, ({ sending := some ({ object := 3, frame := ({ ident := 5 <<< 18, dlc := 2, data := [1, 2] } : CanFrame) } : CanSend) } : FbusUnit))] } }, 0, ({ object := 3, frame := ({ ident := 5 <<< 18, dlc := 2, data := [1, 2] } : CanFrame) } : CanSend), { kind := .ack }, by decide +kernel⟩,
   ⟨{ State.reset with regs := [((F.PWR_STATUS_LOCAL_READY).addr, BitVec.ofNat 64 ((1 <<< (F.PWR_STATUS_LOCAL_READY).lsb))), ((F.FBUS_CFG_ENABLE 0).addr, BitVec.ofNat 64 ((1 <<< (F.FBUS_CFG_ENABLE 0).lsb) + (15 <<< (F.FBUS_CFG_RETRY_LIMIT 0).lsb))), ((F.FBUS_STATUS_STATE 0).addr, BitVec.ofNat 64 ((3 <<< (F.FBUS_STATUS_STATE 0).lsb) + (250 <<< (F.FBUS_STATUS_TEC 0).lsb))), ((F.FBUS_OBJ_STATUS_PENDING 0 3).addr, BitVec.ofNat 64 ((1 <<< (F.FBUS_OBJ_STATUS_PENDING 0 3).lsb) + (1 <<< (F.FBUS_OBJ_STATUS_TRANSMITTING 0 3).lsb)))], units := { fbus := [(0, ({ sending := some ({ object := 3, frame := ({ ident := 5 <<< 18, dlc := 2, data := [1, 2] } : CanFrame) } : CanSend) } : FbusUnit))] } }, 0, ({ object := 3, frame := ({ ident := 5 <<< 18, dlc := 2, data := [1, 2] } : CanFrame) } : CanSend), { kind := .ack }, by decide +kernel⟩,
   ⟨State.reset, 0, by decide +kernel⟩,
   ⟨{ State.reset with regs := [((F.PWR_STATUS_LOCAL_READY).addr, BitVec.ofNat 64 ((1 <<< (F.PWR_STATUS_LOCAL_READY).lsb))), ((F.FBUS_STATUS_STATE 0).addr, BitVec.ofNat 64 ((2 <<< (F.FBUS_STATUS_STATE 0).lsb)))] }, 0, by decide +kernel⟩,
   ⟨{ State.reset with regs := [((F.PWR_STATUS_LOCAL_READY).addr, BitVec.ofNat 64 ((1 <<< (F.PWR_STATUS_LOCAL_READY).lsb))), ((F.FBUS_STATUS_STATE 0).addr, BitVec.ofNat 64 ((2 <<< (F.FBUS_STATUS_STATE 0).lsb)))], units := { fbus := [(0, ({ mode := 1 } : FbusUnit))] } }, 0, by decide +kernel⟩,
   ⟨{ State.reset with regs := [((F.PWR_STATUS_LOCAL_READY).addr, BitVec.ofNat 64 ((1 <<< (F.PWR_STATUS_LOCAL_READY).lsb))), ((F.FBUS_STATUS_STATE 0).addr, BitVec.ofNat 64 ((2 <<< (F.FBUS_STATUS_STATE 0).lsb)))], units := { fbus := [(0, ({ mode := 2 } : FbusUnit))] } }, 0, by decide +kernel⟩,
   ⟨State.reset, 0, true, by decide +kernel⟩⟩

set_option maxRecDepth 20000 in
theorem witness_ManagementByHosts :
    (∃ s : State, ∃ o : Origin, ∃ m : List Byte, (s.up = true) ∧ (hostRow 0 o m = true) ∧ (o.link = 512) ∧ (s.is F.SVC_CFG_ENABLE = true) ∧ (s.units.svc.frames.length < 16)) ∧
    (∃ s : State, ∃ o : Origin, ∃ m : List Byte, (s.up = false ∨ hostRow 0 o m = false)) ∧
    (∃ s : State, ∃ o : Origin, ∃ h : List Byte, ∃ kq : List Byte, ∃ kr : List Byte, (s.hostMay o 1 h = true) ∧ (s.hostKey labelMgq (tenantOf h) = some kq) ∧ (s.hostKey labelMgr (tenantOf h) = some kr) ∧ (s.lockHeld = false) ∧ (plainRead (addressOf h) (sizeOf_ h) = true) ∧ offMgmt (addressOf h) (sizeOf_ h) ∧ (s.readable (callOf s.device (hostOf h) 1 h [] (decide (o.link = 512))) 256 = 0)) ∧
    (∃ s : State, ∃ o : Origin, ∃ h : List Byte, ∃ kq : List Byte, ∃ kr : List Byte, ∃ d : List Byte, ∃ x : Reg × List Nat × Nat, (s.hostMay o 2 h = true) ∧ (s.hostKey labelMgq (tenantOf h) = some kq) ∧ (s.hostKey labelMgr (tenantOf h) = some kr) ∧ (x.2.2 = addressOf h) ∧ (plainWrite x (sizeOf_ h) = true) ∧ offMgmt (addressOf h) (sizeOf_ h) ∧ (s.writable (callOf s.device (hostOf h) 2 h d (decide (o.link = 512))) 256 = 0) ∧ (s.lockHeld = false)) ∧
    (∃ s : State, ∃ o : Origin, ∃ h : List Byte, ∃ kq : List Byte, ∃ kr : List Byte, ∃ d : List Byte, ∃ x : Reg × List Nat × Nat, (s.hostMay o 3 h = true) ∧ (s.hostKey labelMgq (tenantOf h) = some kq) ∧ (s.hostKey labelMgr (tenantOf h) = some kr) ∧ (x.2.2 = addressOf h) ∧ (plainWrite x (sizeOf_ h) = true) ∧ offMgmt (addressOf h) (sizeOf_ h) ∧ (s.writable (callOf s.device (hostOf h) 3 h d (decide (o.link = 512))) 256 = 0) ∧ (s.lockHeld = false)) ∧
    (∃ s : State, ∃ o : Origin, ∃ h : List Byte, ∃ kq : List Byte, ∃ kr : List Byte, (s.hostMay o 4 h = true) ∧ (s.hostKey labelMgq (tenantOf h) = some kq) ∧ (s.hostKey labelMgr (tenantOf h) = some kr) ∧ (s.lockHeld = false) ∧ (plainRead (addressOf h) (sizeOf_ h) = true) ∧ offMgmt (addressOf h) (sizeOf_ h) ∧ (s.readable (callOf s.device (hostOf h) 4 h [] (decide (o.link = 512))) 64 = 0)) ∧
    (∃ s : State, ∃ o : Origin, ∃ h : List Byte, ∃ kq : List Byte, ∃ kr : List Byte, ∃ d : List Byte, ∃ x : Reg × List Nat × Nat, (s.hostMay o 5 h = true) ∧ (s.hostKey labelMgq (tenantOf h) = some kq) ∧ (s.hostKey labelMgr (tenantOf h) = some kr) ∧ (x.2.2 = addressOf h) ∧ (plainWrite x (sizeOf_ h) = true) ∧ offMgmt (addressOf h) (sizeOf_ h) ∧ (s.writable (callOf s.device (hostOf h) 5 h d (decide (o.link = 512))) 64 = 0) ∧ (s.holds (callOf s.device (hostOf h) 5 h d (decide (o.link = 512))) = true) ∧ (s.inLock (callOf s.device (hostOf h) 5 h d (decide (o.link = 512))) = true)) ∧
    (∃ s : State, ∃ o : Origin, ∃ h : List Byte, ∃ kq : List Byte, ∃ kr : List Byte, (s.hostMay o 6 h = true) ∧ (s.hostKey labelMgq (tenantOf h) = some kq) ∧ (s.hostKey labelMgr (tenantOf h) = some kr) ∧ (s.holds (callOf s.device (hostOf h) 6 h [] (decide (o.link = 512))) = true)) ∧
    (∃ s : State, ∃ o : Origin, ∃ h : List Byte, ∃ kq : List Byte, ∃ kr : List Byte, ∃ i : Instr, ∃ run : StartRun, ∃ op : Nat, (i, op) ∈ [((.mgmtUnlock o (sealMgmt kq (hostIv h) h []) : Instr), 6), (.mgmtWriteUnlock o (sealMgmt kq (hostIv h) h []) run, 5)] ∧ (s.hostMay o op h = true) ∧ (s.hostKey labelMgq (tenantOf h) = some kq) ∧ (s.hostKey labelMgr (tenantOf h) = some kr) ∧ (s.holds (callOf s.device (hostOf h) op h [] (decide (o.link = 512))) = false)) ∧
    (∃ s : State, ∃ o : Origin, ∃ h : List Byte, ∃ kq : List Byte, ∃ kr : List Byte, ∃ i : Instr, ∃ run : StartRun, ∃ op : Nat, (i, op) ∈ [((.mgmtRead o (sealMgmt kq (hostIv h) h []) : Instr), 1), (.mgmtWrite o (sealMgmt kq (hostIv h) h []) run, 2), (.mgmtWritePosted o (sealMgmt kq (hostIv h) h []) run, 3), (.mgmtLockRead o (sealMgmt kq (hostIv h) h []), 4), (.mgmtTunnelTx o (sealMgmt kq (hostIv h) h []), 7)] ∧ (s.hostMay o op h = true) ∧ (s.hostKey labelMgq (tenantOf h) = some kq) ∧ (s.hostKey labelMgr (tenantOf h) = some kr) ∧ (s.lockHeld = true)) ∧
    (∃ s : State, ∃ o : Origin, ∃ h : List Byte, ∃ kq : List Byte, ∃ kr : List Byte, ∃ d : List Byte, (s.hostMay o 7 h = true) ∧ (s.hostKey labelMgq (tenantOf h) = some kq) ∧ (s.hostKey labelMgr (tenantOf h) = some kr) ∧ (s.lockHeld = false) ∧ (s.unconfigured = false) ∧ (s.tunnelTakes (addressOf h % 2) (tenantOf h) d = true)) ∧
    (∃ s : State, ∃ o : Origin, ∃ m : List Byte, ∃ run : StartRun, ∃ i : Instr, ∃ op : Nat, (i, op) ∈ [((.mgmtRead o m : Instr), 1), (.mgmtWrite o m run, 2), (.mgmtWritePosted o m run, 3), (.mgmtLockRead o m, 4), (.mgmtWriteUnlock o m run, 5), (.mgmtUnlock o m, 6), (.mgmtTunnelTx o m, 7)] ∧ (s.up = true) ∧ (hostRow op o m = true) ∧ ((s.unconfigured && onRing o) = false) ∧ (s.pending = []) ∧ (s.win.early = []) ∧ (s.hostOpen o m = none)) ∧
    (∃ o : Origin, ∃ m : List Byte, ∃ run : StartRun, ∃ i : Instr, ∃ op : Nat, (i, op) ∈ [((.mgmtRead o m : Instr), 1), (.mgmtWrite o m run, 2), (.mgmtWritePosted o m run, 3), (.mgmtLockRead o m, 4), (.mgmtWriteUnlock o m run, 5), (.mgmtUnlock o m, 6), (.mgmtTunnelTx o m, 7)] ∧ (hostRow op o m = false)) ∧
    (∃ s : State, ∃ o : Origin, ∃ h : List Byte, ∃ kq : List Byte, ∃ kr : List Byte, ∃ d : List Byte, ∃ i : Instr, ∃ run : StartRun, ∃ op : Nat, (i, op) ∈ [((.mgmtRead o (sealMgmt kq (hostIv h) h d) : Instr), 1), (.mgmtWrite o (sealMgmt kq (hostIv h) h d) run, 2), (.mgmtWritePosted o (sealMgmt kq (hostIv h) h d) run, 3), (.mgmtLockRead o (sealMgmt kq (hostIv h) h d), 4), (.mgmtWriteUnlock o (sealMgmt kq (hostIv h) h d) run, 5), (.mgmtUnlock o (sealMgmt kq (hostIv h) h d), 6), (.mgmtTunnelTx o (sealMgmt kq (hostIv h) h d), 7)] ∧ (s.up = true) ∧ (h.length = 32) ∧ (hostRow op o h = true) ∧ ((s.unconfigured && onRing o) = false) ∧ (s.pending = []) ∧ (s.win.early = []) ∧ ((s.tenant (tenantOf h)).enabled = true) ∧ (tenantOf h ≠ 0 ∨ s.owned = true ∨ o.link = 512) ∧ (s.hostKey labelMgq (tenantOf h) = some kq) ∧ (s.hostKey labelMgr (tenantOf h) = some kr) ∧ (s.hostWindow h = none)) :=
  ⟨⟨{ State.reset with regs := [((F.PWR_STATUS_LOCAL_READY).addr, BitVec.ofNat 64 ((1 <<< (F.PWR_STATUS_LOCAL_READY).lsb))), ((F.SVC_CFG_ENABLE).addr, BitVec.ofNat 64 ((1 <<< (F.SVC_CFG_ENABLE).lsb)))] }, { link := 512, addr := { mac := 1, v4 := true, ip := 2, port := 3 } }, (mgmtHeader 0 0 0 0 0 0 0 0 0x00010100 5 0 0), by decide +kernel⟩,
   ⟨State.reset, { link := 512, addr := { mac := 1, v4 := true, ip := 2, port := 3 } }, (mgmtHeader 0 0 0 0 0 0 0 0 0x00010100 5 0 0), by decide +kernel⟩,
   by
    refine ⟨{ State.reset with regs := [((F.PWR_STATUS_LOCAL_READY).addr, BitVec.ofNat 64 ((1 <<< (F.PWR_STATUS_LOCAL_READY).lsb))), ((F.SVC_CFG_ENABLE).addr, BitVec.ofNat 64 ((1 <<< (F.SVC_CFG_ENABLE).lsb)))] }, { link := 512, addr := { mac := 1, v4 := true, ip := 2, port := 3 } }, (mgmtHeader 1 0 0 0 0 0 0 8 0x00010100 5 0 0), (({ State.reset with regs := [((F.PWR_STATUS_LOCAL_READY).addr, BitVec.ofNat 64 ((1 <<< (F.PWR_STATUS_LOCAL_READY).lsb))), ((F.SVC_CFG_ENABLE).addr, BitVec.ofNat 64 ((1 <<< (F.SVC_CFG_ENABLE).lsb)))] }).hostKey labelMgq (tenantOf ((mgmtHeader 1 0 0 0 0 0 0 8 0x00010100 5 0 0)))).getD [], (({ State.reset with regs := [((F.PWR_STATUS_LOCAL_READY).addr, BitVec.ofNat 64 ((1 <<< (F.PWR_STATUS_LOCAL_READY).lsb))), ((F.SVC_CFG_ENABLE).addr, BitVec.ofNat 64 ((1 <<< (F.SVC_CFG_ENABLE).lsb)))] }).hostKey labelMgr (tenantOf ((mgmtHeader 1 0 0 0 0 0 0 8 0x00010100 5 0 0)))).getD [], ?_⟩
    and_intros
    all_goals first | exact (eq_getD (by decide +kernel)) | decide +kernel,
   by
    refine ⟨{ State.reset with regs := [((F.PWR_STATUS_LOCAL_READY).addr, BitVec.ofNat 64 ((1 <<< (F.PWR_STATUS_LOCAL_READY).lsb))), ((F.SVC_CFG_ENABLE).addr, BitVec.ofNat 64 ((1 <<< (F.SVC_CFG_ENABLE).lsb)))] }, { link := 512, addr := { mac := 1, v4 := true, ip := 2, port := 3 } }, (mgmtHeader 2 0 0 0 0 0 0 8 0x00010200 5 0 0), (({ State.reset with regs := [((F.PWR_STATUS_LOCAL_READY).addr, BitVec.ofNat 64 ((1 <<< (F.PWR_STATUS_LOCAL_READY).lsb))), ((F.SVC_CFG_ENABLE).addr, BitVec.ofNat 64 ((1 <<< (F.SVC_CFG_ENABLE).lsb)))] }).hostKey labelMgq (tenantOf ((mgmtHeader 2 0 0 0 0 0 0 8 0x00010200 5 0 0)))).getD [], (({ State.reset with regs := [((F.PWR_STATUS_LOCAL_READY).addr, BitVec.ofNat 64 ((1 <<< (F.PWR_STATUS_LOCAL_READY).lsb))), ((F.SVC_CFG_ENABLE).addr, BitVec.ofNat 64 ((1 <<< (F.SVC_CFG_ENABLE).lsb)))] }).hostKey labelMgr (tenantOf ((mgmtHeader 2 0 0 0 0 0 0 8 0x00010200 5 0 0)))).getD [], be 8 0x0102030405060708, (.EMB_SLOT_WINDOW, [0, 0], 0x00010200), ?_⟩
    and_intros
    all_goals first | exact (eq_getD (by decide +kernel)) | decide +kernel,
   by
    refine ⟨{ State.reset with regs := [((F.PWR_STATUS_LOCAL_READY).addr, BitVec.ofNat 64 ((1 <<< (F.PWR_STATUS_LOCAL_READY).lsb))), ((F.SVC_CFG_ENABLE).addr, BitVec.ofNat 64 ((1 <<< (F.SVC_CFG_ENABLE).lsb)))] }, { link := 512, addr := { mac := 1, v4 := true, ip := 2, port := 3 } }, (mgmtHeader 3 0 0 0 0 0 0 8 0x00010200 5 0 0), (({ State.reset with regs := [((F.PWR_STATUS_LOCAL_READY).addr, BitVec.ofNat 64 ((1 <<< (F.PWR_STATUS_LOCAL_READY).lsb))), ((F.SVC_CFG_ENABLE).addr, BitVec.ofNat 64 ((1 <<< (F.SVC_CFG_ENABLE).lsb)))] }).hostKey labelMgq (tenantOf ((mgmtHeader 3 0 0 0 0 0 0 8 0x00010200 5 0 0)))).getD [], (({ State.reset with regs := [((F.PWR_STATUS_LOCAL_READY).addr, BitVec.ofNat 64 ((1 <<< (F.PWR_STATUS_LOCAL_READY).lsb))), ((F.SVC_CFG_ENABLE).addr, BitVec.ofNat 64 ((1 <<< (F.SVC_CFG_ENABLE).lsb)))] }).hostKey labelMgr (tenantOf ((mgmtHeader 3 0 0 0 0 0 0 8 0x00010200 5 0 0)))).getD [], be 8 0x0102030405060708, (.EMB_SLOT_WINDOW, [0, 0], 0x00010200), ?_⟩
    and_intros
    all_goals first | exact (eq_getD (by decide +kernel)) | decide +kernel,
   by
    refine ⟨{ State.reset with regs := [((F.PWR_STATUS_LOCAL_READY).addr, BitVec.ofNat 64 ((1 <<< (F.PWR_STATUS_LOCAL_READY).lsb))), ((F.SVC_CFG_ENABLE).addr, BitVec.ofNat 64 ((1 <<< (F.SVC_CFG_ENABLE).lsb)))] }, { link := 512, addr := { mac := 1, v4 := true, ip := 2, port := 3 } }, (mgmtHeader 4 0 0 0 0 0 0 8 0x00010100 5 0 0), (({ State.reset with regs := [((F.PWR_STATUS_LOCAL_READY).addr, BitVec.ofNat 64 ((1 <<< (F.PWR_STATUS_LOCAL_READY).lsb))), ((F.SVC_CFG_ENABLE).addr, BitVec.ofNat 64 ((1 <<< (F.SVC_CFG_ENABLE).lsb)))] }).hostKey labelMgq (tenantOf ((mgmtHeader 4 0 0 0 0 0 0 8 0x00010100 5 0 0)))).getD [], (({ State.reset with regs := [((F.PWR_STATUS_LOCAL_READY).addr, BitVec.ofNat 64 ((1 <<< (F.PWR_STATUS_LOCAL_READY).lsb))), ((F.SVC_CFG_ENABLE).addr, BitVec.ofNat 64 ((1 <<< (F.SVC_CFG_ENABLE).lsb)))] }).hostKey labelMgr (tenantOf ((mgmtHeader 4 0 0 0 0 0 0 8 0x00010100 5 0 0)))).getD [], ?_⟩
    and_intros
    all_goals first | exact (eq_getD (by decide +kernel)) | decide +kernel,
   by
    refine ⟨{ State.reset with regs := [((F.PWR_STATUS_LOCAL_READY).addr, BitVec.ofNat 64 ((1 <<< (F.PWR_STATUS_LOCAL_READY).lsb))), ((F.SVC_CFG_ENABLE).addr, BitVec.ofNat 64 ((1 <<< (F.SVC_CFG_ENABLE).lsb)))], units := { clasp := { lock := some { source := 0, tenant := 0, host := 0, address := 0x00010200, size := 8, since := 0 } } } }, { link := 512, addr := { mac := 1, v4 := true, ip := 2, port := 3 } }, (mgmtHeader 5 0 0 0 0 0 0 8 0x00010200 5 0 0), (({ State.reset with regs := [((F.PWR_STATUS_LOCAL_READY).addr, BitVec.ofNat 64 ((1 <<< (F.PWR_STATUS_LOCAL_READY).lsb))), ((F.SVC_CFG_ENABLE).addr, BitVec.ofNat 64 ((1 <<< (F.SVC_CFG_ENABLE).lsb)))], units := { clasp := { lock := some { source := 0, tenant := 0, host := 0, address := 0x00010200, size := 8, since := 0 } } } }).hostKey labelMgq (tenantOf ((mgmtHeader 5 0 0 0 0 0 0 8 0x00010200 5 0 0)))).getD [], (({ State.reset with regs := [((F.PWR_STATUS_LOCAL_READY).addr, BitVec.ofNat 64 ((1 <<< (F.PWR_STATUS_LOCAL_READY).lsb))), ((F.SVC_CFG_ENABLE).addr, BitVec.ofNat 64 ((1 <<< (F.SVC_CFG_ENABLE).lsb)))], units := { clasp := { lock := some { source := 0, tenant := 0, host := 0, address := 0x00010200, size := 8, since := 0 } } } }).hostKey labelMgr (tenantOf ((mgmtHeader 5 0 0 0 0 0 0 8 0x00010200 5 0 0)))).getD [], be 8 0x0102030405060708, (.EMB_SLOT_WINDOW, [0, 0], 0x00010200), ?_⟩
    and_intros
    all_goals first | exact (eq_getD (by decide +kernel)) | decide +kernel,
   by
    refine ⟨{ State.reset with regs := [((F.PWR_STATUS_LOCAL_READY).addr, BitVec.ofNat 64 ((1 <<< (F.PWR_STATUS_LOCAL_READY).lsb))), ((F.SVC_CFG_ENABLE).addr, BitVec.ofNat 64 ((1 <<< (F.SVC_CFG_ENABLE).lsb)))], units := { clasp := { lock := some { source := 0, tenant := 0, host := 0, address := 0x00010100, size := 8, since := 0 } } } }, { link := 512, addr := { mac := 1, v4 := true, ip := 2, port := 3 } }, (mgmtHeader 6 0 0 0 0 0 0 8 0x00010100 5 0 0), (({ State.reset with regs := [((F.PWR_STATUS_LOCAL_READY).addr, BitVec.ofNat 64 ((1 <<< (F.PWR_STATUS_LOCAL_READY).lsb))), ((F.SVC_CFG_ENABLE).addr, BitVec.ofNat 64 ((1 <<< (F.SVC_CFG_ENABLE).lsb)))], units := { clasp := { lock := some { source := 0, tenant := 0, host := 0, address := 0x00010100, size := 8, since := 0 } } } }).hostKey labelMgq (tenantOf ((mgmtHeader 6 0 0 0 0 0 0 8 0x00010100 5 0 0)))).getD [], (({ State.reset with regs := [((F.PWR_STATUS_LOCAL_READY).addr, BitVec.ofNat 64 ((1 <<< (F.PWR_STATUS_LOCAL_READY).lsb))), ((F.SVC_CFG_ENABLE).addr, BitVec.ofNat 64 ((1 <<< (F.SVC_CFG_ENABLE).lsb)))], units := { clasp := { lock := some { source := 0, tenant := 0, host := 0, address := 0x00010100, size := 8, since := 0 } } } }).hostKey labelMgr (tenantOf ((mgmtHeader 6 0 0 0 0 0 0 8 0x00010100 5 0 0)))).getD [], ?_⟩
    and_intros
    all_goals first | exact (eq_getD (by decide +kernel)) | decide +kernel,
   by
    refine ⟨{ State.reset with regs := [((F.PWR_STATUS_LOCAL_READY).addr, BitVec.ofNat 64 ((1 <<< (F.PWR_STATUS_LOCAL_READY).lsb))), ((F.SVC_CFG_ENABLE).addr, BitVec.ofNat 64 ((1 <<< (F.SVC_CFG_ENABLE).lsb)))] }, { link := 512, addr := { mac := 1, v4 := true, ip := 2, port := 3 } }, (mgmtHeader 6 0 0 0 0 0 0 8 0x00010100 5 0 0), (({ State.reset with regs := [((F.PWR_STATUS_LOCAL_READY).addr, BitVec.ofNat 64 ((1 <<< (F.PWR_STATUS_LOCAL_READY).lsb))), ((F.SVC_CFG_ENABLE).addr, BitVec.ofNat 64 ((1 <<< (F.SVC_CFG_ENABLE).lsb)))] }).hostKey labelMgq (tenantOf ((mgmtHeader 6 0 0 0 0 0 0 8 0x00010100 5 0 0)))).getD [], (({ State.reset with regs := [((F.PWR_STATUS_LOCAL_READY).addr, BitVec.ofNat 64 ((1 <<< (F.PWR_STATUS_LOCAL_READY).lsb))), ((F.SVC_CFG_ENABLE).addr, BitVec.ofNat 64 ((1 <<< (F.SVC_CFG_ENABLE).lsb)))] }).hostKey labelMgr (tenantOf ((mgmtHeader 6 0 0 0 0 0 0 8 0x00010100 5 0 0)))).getD [], .mgmtUnlock ({ link := 512, addr := { mac := 1, v4 := true, ip := 2, port := 3 } }) (sealMgmt ((({ State.reset with regs := [((F.PWR_STATUS_LOCAL_READY).addr, BitVec.ofNat 64 ((1 <<< (F.PWR_STATUS_LOCAL_READY).lsb))), ((F.SVC_CFG_ENABLE).addr, BitVec.ofNat 64 ((1 <<< (F.SVC_CFG_ENABLE).lsb)))] }).hostKey labelMgq (tenantOf ((mgmtHeader 6 0 0 0 0 0 0 8 0x00010100 5 0 0)))).getD []) (hostIv ((mgmtHeader 6 0 0 0 0 0 0 8 0x00010100 5 0 0))) ((mgmtHeader 6 0 0 0 0 0 0 8 0x00010100 5 0 0)) []), { micros := 0 }, 6, ?_⟩
    and_intros
    all_goals first | (simp; done) | exact (eq_getD (by decide +kernel)) | decide +kernel,
   by
    refine ⟨{ State.reset with regs := [((F.PWR_STATUS_LOCAL_READY).addr, BitVec.ofNat 64 ((1 <<< (F.PWR_STATUS_LOCAL_READY).lsb))), ((F.SVC_CFG_ENABLE).addr, BitVec.ofNat 64 ((1 <<< (F.SVC_CFG_ENABLE).lsb)))], units := { clasp := { lock := some { source := 0, tenant := 0, host := 0, address := 0x00010100, size := 8, since := 0 } } } }, { link := 512, addr := { mac := 1, v4 := true, ip := 2, port := 3 } }, (mgmtHeader 1 0 0 0 0 0 0 8 0x00010100 5 0 0), (({ State.reset with regs := [((F.PWR_STATUS_LOCAL_READY).addr, BitVec.ofNat 64 ((1 <<< (F.PWR_STATUS_LOCAL_READY).lsb))), ((F.SVC_CFG_ENABLE).addr, BitVec.ofNat 64 ((1 <<< (F.SVC_CFG_ENABLE).lsb)))], units := { clasp := { lock := some { source := 0, tenant := 0, host := 0, address := 0x00010100, size := 8, since := 0 } } } }).hostKey labelMgq (tenantOf ((mgmtHeader 1 0 0 0 0 0 0 8 0x00010100 5 0 0)))).getD [], (({ State.reset with regs := [((F.PWR_STATUS_LOCAL_READY).addr, BitVec.ofNat 64 ((1 <<< (F.PWR_STATUS_LOCAL_READY).lsb))), ((F.SVC_CFG_ENABLE).addr, BitVec.ofNat 64 ((1 <<< (F.SVC_CFG_ENABLE).lsb)))], units := { clasp := { lock := some { source := 0, tenant := 0, host := 0, address := 0x00010100, size := 8, since := 0 } } } }).hostKey labelMgr (tenantOf ((mgmtHeader 1 0 0 0 0 0 0 8 0x00010100 5 0 0)))).getD [], .mgmtRead ({ link := 512, addr := { mac := 1, v4 := true, ip := 2, port := 3 } }) (sealMgmt ((({ State.reset with regs := [((F.PWR_STATUS_LOCAL_READY).addr, BitVec.ofNat 64 ((1 <<< (F.PWR_STATUS_LOCAL_READY).lsb))), ((F.SVC_CFG_ENABLE).addr, BitVec.ofNat 64 ((1 <<< (F.SVC_CFG_ENABLE).lsb)))], units := { clasp := { lock := some { source := 0, tenant := 0, host := 0, address := 0x00010100, size := 8, since := 0 } } } }).hostKey labelMgq (tenantOf ((mgmtHeader 1 0 0 0 0 0 0 8 0x00010100 5 0 0)))).getD []) (hostIv ((mgmtHeader 1 0 0 0 0 0 0 8 0x00010100 5 0 0))) ((mgmtHeader 1 0 0 0 0 0 0 8 0x00010100 5 0 0)) []), { micros := 0 }, 1, ?_⟩
    and_intros
    all_goals first | (simp; done) | exact (eq_getD (by decide +kernel)) | decide +kernel,
   by
    refine ⟨{ State.reset with regs := [((F.PWR_STATUS_LOCAL_READY).addr, BitVec.ofNat 64 ((1 <<< (F.PWR_STATUS_LOCAL_READY).lsb))), ((F.FBUS_CFG_TUNNEL_TX_EN 0).addr, BitVec.ofNat 64 ((1 <<< (F.FBUS_CFG_TUNNEL_TX_EN 0).lsb))), ((F.SVC_CFG_ENABLE).addr, BitVec.ofNat 64 ((1 <<< (F.SVC_CFG_ENABLE).lsb)))] }, { link := 512, addr := { mac := 1, v4 := true, ip := 2, port := 3 } }, (mgmtHeader 7 0 0 0 0 0 0 0 0 5 0 0), (({ State.reset with regs := [((F.PWR_STATUS_LOCAL_READY).addr, BitVec.ofNat 64 ((1 <<< (F.PWR_STATUS_LOCAL_READY).lsb))), ((F.FBUS_CFG_TUNNEL_TX_EN 0).addr, BitVec.ofNat 64 ((1 <<< (F.FBUS_CFG_TUNNEL_TX_EN 0).lsb))), ((F.SVC_CFG_ENABLE).addr, BitVec.ofNat 64 ((1 <<< (F.SVC_CFG_ENABLE).lsb)))] }).hostKey labelMgq (tenantOf ((mgmtHeader 7 0 0 0 0 0 0 0 0 5 0 0)))).getD [], (({ State.reset with regs := [((F.PWR_STATUS_LOCAL_READY).addr, BitVec.ofNat 64 ((1 <<< (F.PWR_STATUS_LOCAL_READY).lsb))), ((F.FBUS_CFG_TUNNEL_TX_EN 0).addr, BitVec.ofNat 64 ((1 <<< (F.FBUS_CFG_TUNNEL_TX_EN 0).lsb))), ((F.SVC_CFG_ENABLE).addr, BitVec.ofNat 64 ((1 <<< (F.SVC_CFG_ENABLE).lsb)))] }).hostKey labelMgr (tenantOf ((mgmtHeader 7 0 0 0 0 0 0 0 0 5 0 0)))).getD [], (zeros 16), ?_⟩
    and_intros
    all_goals first | exact (eq_getD (by decide +kernel)) | decide +kernel,
   ⟨{ State.reset with regs := [((F.PWR_STATUS_LOCAL_READY).addr, BitVec.ofNat 64 ((1 <<< (F.PWR_STATUS_LOCAL_READY).lsb))), ((F.SVC_CFG_ENABLE).addr, BitVec.ofNat 64 ((1 <<< (F.SVC_CFG_ENABLE).lsb)))] }, { link := 512, addr := { mac := 1, v4 := true, ip := 2, port := 3 } }, (mgmtHeader 1 0 0 0 0 0 0 8 0x00010100 5 0 0), { micros := 0 }, .mgmtRead { link := 512, addr := { mac := 1, v4 := true, ip := 2, port := 3 } } (mgmtHeader 1 0 0 0 0 0 0 8 0x00010100 5 0 0), 1, by decide +kernel⟩,
   ⟨{ link := 512, addr := { mac := 1, v4 := true, ip := 2, port := 3 } }, (mgmtHeader 2 0 0 0 0 0 0 8 0x00010100 5 0 0), { micros := 0 }, .mgmtRead { link := 512, addr := { mac := 1, v4 := true, ip := 2, port := 3 } } (mgmtHeader 2 0 0 0 0 0 0 8 0x00010100 5 0 0), 1, by decide +kernel⟩,
   by
    refine ⟨{ State.reset with regs := [((F.PWR_STATUS_LOCAL_READY).addr, BitVec.ofNat 64 ((1 <<< (F.PWR_STATUS_LOCAL_READY).lsb))), ((F.SVC_CFG_ENABLE).addr, BitVec.ofNat 64 ((1 <<< (F.SVC_CFG_ENABLE).lsb)))], units := { clasp := { seen := [(0, some (9, 0xFFFFFFFFFFFFFFFF))] } } }, { link := 512, addr := { mac := 1, v4 := true, ip := 2, port := 3 } }, (mgmtHeader 1 0 0 0 0 0 0 8 0x00010100 5 0 0), (({ State.reset with regs := [((F.PWR_STATUS_LOCAL_READY).addr, BitVec.ofNat 64 ((1 <<< (F.PWR_STATUS_LOCAL_READY).lsb))), ((F.SVC_CFG_ENABLE).addr, BitVec.ofNat 64 ((1 <<< (F.SVC_CFG_ENABLE).lsb)))], units := { clasp := { seen := [(0, some (9, 0xFFFFFFFFFFFFFFFF))] } } }).hostKey labelMgq (tenantOf ((mgmtHeader 1 0 0 0 0 0 0 8 0x00010100 5 0 0)))).getD [], (({ State.reset with regs := [((F.PWR_STATUS_LOCAL_READY).addr, BitVec.ofNat 64 ((1 <<< (F.PWR_STATUS_LOCAL_READY).lsb))), ((F.SVC_CFG_ENABLE).addr, BitVec.ofNat 64 ((1 <<< (F.SVC_CFG_ENABLE).lsb)))], units := { clasp := { seen := [(0, some (9, 0xFFFFFFFFFFFFFFFF))] } } }).hostKey labelMgr (tenantOf ((mgmtHeader 1 0 0 0 0 0 0 8 0x00010100 5 0 0)))).getD [], [], .mgmtRead ({ link := 512, addr := { mac := 1, v4 := true, ip := 2, port := 3 } }) (sealMgmt ((({ State.reset with regs := [((F.PWR_STATUS_LOCAL_READY).addr, BitVec.ofNat 64 ((1 <<< (F.PWR_STATUS_LOCAL_READY).lsb))), ((F.SVC_CFG_ENABLE).addr, BitVec.ofNat 64 ((1 <<< (F.SVC_CFG_ENABLE).lsb)))], units := { clasp := { seen := [(0, some (9, 0xFFFFFFFFFFFFFFFF))] } } }).hostKey labelMgq (tenantOf ((mgmtHeader 1 0 0 0 0 0 0 8 0x00010100 5 0 0)))).getD []) (hostIv ((mgmtHeader 1 0 0 0 0 0 0 8 0x00010100 5 0 0))) ((mgmtHeader 1 0 0 0 0 0 0 8 0x00010100 5 0 0)) []), { micros := 0 }, 1, ?_⟩
    and_intros
    all_goals first | (simp; done) | exact (eq_getD (by decide +kernel)) | decide +kernel⟩

set_option maxRecDepth 20000 in
theorem witness_BridgesAndFarOperations :
    (∃ s : State, ∃ o : Origin, ∃ m : List Byte, ∃ r : Nat, (isMgmt m = true) ∧ (opOf m < 128) ∧ (endToEnd m = false) ∧ (bridged o m = true) ∧ (s.up = true) ∧ (s.unconfigured = false) ∧ (targetOf m ≠ s.device) ∧ (s.route (targetOf m) = some r) ∧ (hopsOf m ≠ 0)) ∧
    (∃ s : State, ∃ o : Origin, ∃ m : List Byte, (isMgmt m = true) ∧ (opOf m < 128) ∧ (endToEnd m = false) ∧ (bridged o m = true) ∧ (s.up = true) ∧ (s.unconfigured = false) ∧ (targetOf m ≠ s.device) ∧ (s.route (targetOf m) = none ∨ hopsOf m = 0)) ∧
    (∃ s : State, ∃ o : Origin, ∃ m : List Byte, (isMgmt m = false ∨ 128 ≤ opOf m ∨ endToEnd m = true ∨ bridged o m = false ∨ s.up = false ∨ s.unconfigured = true)) ∧
    (∃ s : State, ∃ o : Origin, ∃ h : List Byte, ∃ k : List Byte, (opOf h = 1) ∧ (h.length = 32) ∧ (s.up = true) ∧ (s.unconfigured = false) ∧ (isMgmt h = true) ∧ (endToEnd h = false) ∧ (bridged o h = true) ∧ (targetOf h = s.device) ∧ ((s.tenant (tenantOf h)).enabled = true) ∧ (s.pending = []) ∧ (s.win.early = []) ∧ (s.entryNonce (sourceOf h) ≠ []) ∧ (s.bridgeKey labelMbq s.units.clasp.nonce (s.entryNonce (sourceOf h)) = some k) ∧ ((s.bridgeWindow h).isSome = true) ∧ (s.lockHeld = false) ∧ (plainRead (addressOf h) (sizeOf_ h) = true) ∧ ((s.turnedAway true (tenantOf h) 1 (addressOf h)).isNone = true)) ∧
    (∃ s : State, ∃ o : Origin, ∃ h : List Byte, ∃ k : List Byte, (opOf h ≠ 0) ∧ (opOf h < 128) ∧ (h.length = 32) ∧ (s.up = true) ∧ (s.unconfigured = false) ∧ (isMgmt h = true) ∧ (endToEnd h = false) ∧ (bridged o h = true) ∧ (targetOf h = s.device) ∧ ((s.tenant (tenantOf h)).enabled = true) ∧ (s.pending = []) ∧ (s.win.early = []) ∧ (s.entryNonce (sourceOf h) ≠ []) ∧ (s.bridgeKey labelMbq s.units.clasp.nonce (s.entryNonce (sourceOf h)) = some k) ∧ (s.bridgeWindow h = none)) ∧
    (∃ s : State, ∃ o : Origin, ∃ m : List Byte, (isMgmt m = true) ∧ (opOf m < 128) ∧ (endToEnd m = false) ∧ (bridged o m = true) ∧ (s.up = true) ∧ (s.unconfigured = false) ∧ (targetOf m = s.device) ∧ (opOf m ≠ 0) ∧ (s.pending = []) ∧ (s.win.early = []) ∧ ((s.tenant (tenantOf m)).enabled = false)) ∧
    (∃ s : State, ∃ o : Origin, ∃ m : List Byte, (isMgmt m = true) ∧ (opOf m < 128) ∧ (endToEnd m = false) ∧ (bridged o m = true) ∧ (s.up = true) ∧ (s.unconfigured = false) ∧ (targetOf m = s.device) ∧ (opOf m ≠ 0) ∧ (s.pending = []) ∧ (s.win.early = []) ∧ ((s.tenant (tenantOf m)).enabled = true) ∧ (s.bridgeOpen m = none)) ∧
    (∃ s : State, ∃ o : Origin, ∃ m : List Byte, (isMgmt m = true) ∧ (128 ≤ opOf m) ∧ (endToEnd m = false) ∧ (onRing o = true) ∧ (s.up = true) ∧ (s.unconfigured = false) ∧ (sourceOf m = s.device) ∧ (opOf m = 128) ∧ (44 ≤ m.length) ∧ (s.doubts (targetOf m) = []) ∧ (∀ e ∈ s.units.clasp.unsent, e.1 ≠ targetOf m)) ∧
    (∃ s : State, ∃ o : Origin, ∃ h : List Byte, ∃ k : List Byte, ∃ x : Token, (h.length = 32) ∧ (isMgmt h = true) ∧ (129 ≤ opOf h) ∧ (endToEnd h = false) ∧ (onRing o = true) ∧ (s.up = true) ∧ (s.unconfigured = false) ∧ (sourceOf h = s.device) ∧ (s.units.clasp.tokens = [x]) ∧ (x.answer = none) ∧ ((x.bridge.any (fun b => decide (b.1 = mseqOf h) && decide (b.2.1 = targetOf h))) = true) ∧ (x.watch = none) ∧ (x.posted = false) ∧ (s.bridgeKey labelMbr (s.targetNonce (targetOf h)) s.units.clasp.nonce = some k) ∧ (opOf x.request < 4)) ∧
    (∃ s : State, ∃ o : Origin, ∃ m : List Byte, (isMgmt m = false ∨ opOf m < 128 ∨ endToEnd m = true ∨ onRing o = false ∨ s.up = false ∨ s.unconfigured = true)) ∧
    (∃ s : State, ∃ m : List Byte, (isMgmt m = true) ∧ (endToEnd m = true) ∧ (s.up = true) ∧ (tenantOf m ≠ 0)) ∧
    (∃ s : State, ∃ o : Origin, ∃ m : List Byte, (isMgmt m = true) ∧ (endToEnd m = true) ∧ (s.up = true) ∧ (tenantOf m = 0) ∧ (opOf m = 0) ∧ (targetOf m = s.device) ∧ (adjacent m = false) ∧ (o.link = 512) ∧ (s.is F.SVC_CFG_ENABLE = true) ∧ (s.units.svc.frames.length < 16)) ∧
    (∃ s : State, ∃ o : Origin, ∃ m : List Byte, (isMgmt m = true) ∧ (endToEnd m = true) ∧ (s.up = true) ∧ (tenantOf m = 0) ∧ (opOf m < 128) ∧ (onRing o = false) ∧ (adjacent m = false) ∧ (targetOf m ≠ s.device)) ∧
    (∃ s : State, ∃ m : List Byte, (isMgmt m = false ∨ endToEnd m = false ∨ s.up = false)) :=
  ⟨⟨{ State.reset with regs := [((F.PWR_STATUS_LOCAL_READY).addr, BitVec.ofNat 64 ((1 <<< (F.PWR_STATUS_LOCAL_READY).lsb))), ((F.CLP_ROUTE_ENTRIES 0).addr, 32768), ((F.RNG_STATUS_STATE 0).addr, BitVec.ofNat 64 ((2 <<< (F.RNG_STATUS_STATE 0).lsb)))] }, { link := 256, addr := { mac := 1, v4 := false, ip := 2, port := 3 } }, (mgmtHeader 1 0 0 3 7 16 0 8 0x00010100 5 0 0), 0, by decide +kernel⟩,
   ⟨{ State.reset with regs := [((F.PWR_STATUS_LOCAL_READY).addr, BitVec.ofNat 64 ((1 <<< (F.PWR_STATUS_LOCAL_READY).lsb)))] }, { link := 256, addr := { mac := 1, v4 := false, ip := 2, port := 3 } }, (mgmtHeader 1 0 0 3 7 16 0 8 0x00010100 5 0 0), by decide +kernel⟩,
   ⟨State.reset, { link := 256, addr := { mac := 1, v4 := false, ip := 2, port := 3 } }, (mgmtHeader 1 0 0 3 7 16 0 8 0x00010100 5 0 0), by decide +kernel⟩,
   by
    refine ⟨{ State.reset with regs := [((F.PWR_STATUS_LOCAL_READY).addr, BitVec.ofNat 64 ((1 <<< (F.PWR_STATUS_LOCAL_READY).lsb))), ((F.SIG_KEY_INFO_VALID 0).addr, BitVec.ofNat 64 ((1 <<< (F.SIG_KEY_INFO_VALID 0).lsb) + (5 <<< (F.SIG_KEY_INFO_USAGE 0).lsb)))], units := { clasp := { nonce := [1], nonces := [(7, [3]), (16384 + 7, [2])] } } }, { link := 256, addr := { mac := 1, v4 := false, ip := 2, port := 3 } }, (mgmtHeader 1 0 0 0 7 16 0 8 0x00010100 5 0 0), (({ State.reset with regs := [((F.PWR_STATUS_LOCAL_READY).addr, BitVec.ofNat 64 ((1 <<< (F.PWR_STATUS_LOCAL_READY).lsb))), ((F.SIG_KEY_INFO_VALID 0).addr, BitVec.ofNat 64 ((1 <<< (F.SIG_KEY_INFO_VALID 0).lsb) + (5 <<< (F.SIG_KEY_INFO_USAGE 0).lsb)))], units := { clasp := { nonce := [1], nonces := [(7, [3]), (16384 + 7, [2])] } } }).bridgeKey labelMbq ({ State.reset with regs := [((F.PWR_STATUS_LOCAL_READY).addr, BitVec.ofNat 64 ((1 <<< (F.PWR_STATUS_LOCAL_READY).lsb))), ((F.SIG_KEY_INFO_VALID 0).addr, BitVec.ofNat 64 ((1 <<< (F.SIG_KEY_INFO_VALID 0).lsb) + (5 <<< (F.SIG_KEY_INFO_USAGE 0).lsb)))], units := { clasp := { nonce := [1], nonces := [(7, [3]), (16384 + 7, [2])] } } }).units.clasp.nonce (({ State.reset with regs := [((F.PWR_STATUS_LOCAL_READY).addr, BitVec.ofNat 64 ((1 <<< (F.PWR_STATUS_LOCAL_READY).lsb))), ((F.SIG_KEY_INFO_VALID 0).addr, BitVec.ofNat 64 ((1 <<< (F.SIG_KEY_INFO_VALID 0).lsb) + (5 <<< (F.SIG_KEY_INFO_USAGE 0).lsb)))], units := { clasp := { nonce := [1], nonces := [(7, [3]), (16384 + 7, [2])] } } }).entryNonce (sourceOf ((mgmtHeader 1 0 0 0 7 16 0 8 0x00010100 5 0 0))))).getD [], ?_⟩
    and_intros
    all_goals first | exact (eq_getD (by decide +kernel)) | decide +kernel,
   by
    refine ⟨{ State.reset with regs := [((F.PWR_STATUS_LOCAL_READY).addr, BitVec.ofNat 64 ((1 <<< (F.PWR_STATUS_LOCAL_READY).lsb))), ((F.SIG_KEY_INFO_VALID 0).addr, BitVec.ofNat 64 ((1 <<< (F.SIG_KEY_INFO_VALID 0).lsb) + (5 <<< (F.SIG_KEY_INFO_USAGE 0).lsb)))], units := { clasp := { nonce := [1], bridgeSeen := [(7 * 32, some (99, 0))], nonces := [(7, [3]), (16384 + 7, [2])] } } }, { link := 256, addr := { mac := 1, v4 := false, ip := 2, port := 3 } }, (mgmtHeader 1 0 0 0 7 16 0 8 0x00010100 5 0 0), (({ State.reset with regs := [((F.PWR_STATUS_LOCAL_READY).addr, BitVec.ofNat 64 ((1 <<< (F.PWR_STATUS_LOCAL_READY).lsb))), ((F.SIG_KEY_INFO_VALID 0).addr, BitVec.ofNat 64 ((1 <<< (F.SIG_KEY_INFO_VALID 0).lsb) + (5 <<< (F.SIG_KEY_INFO_USAGE 0).lsb)))], units := { clasp := { nonce := [1], bridgeSeen := [(7 * 32, some (99, 0))], nonces := [(7, [3]), (16384 + 7, [2])] } } }).bridgeKey labelMbq ({ State.reset with regs := [((F.PWR_STATUS_LOCAL_READY).addr, BitVec.ofNat 64 ((1 <<< (F.PWR_STATUS_LOCAL_READY).lsb))), ((F.SIG_KEY_INFO_VALID 0).addr, BitVec.ofNat 64 ((1 <<< (F.SIG_KEY_INFO_VALID 0).lsb) + (5 <<< (F.SIG_KEY_INFO_USAGE 0).lsb)))], units := { clasp := { nonce := [1], bridgeSeen := [(7 * 32, some (99, 0))], nonces := [(7, [3]), (16384 + 7, [2])] } } }).units.clasp.nonce (({ State.reset with regs := [((F.PWR_STATUS_LOCAL_READY).addr, BitVec.ofNat 64 ((1 <<< (F.PWR_STATUS_LOCAL_READY).lsb))), ((F.SIG_KEY_INFO_VALID 0).addr, BitVec.ofNat 64 ((1 <<< (F.SIG_KEY_INFO_VALID 0).lsb) + (5 <<< (F.SIG_KEY_INFO_USAGE 0).lsb)))], units := { clasp := { nonce := [1], bridgeSeen := [(7 * 32, some (99, 0))], nonces := [(7, [3]), (16384 + 7, [2])] } } }).entryNonce (sourceOf ((mgmtHeader 1 0 0 0 7 16 0 8 0x00010100 5 0 0))))).getD [], ?_⟩
    and_intros
    all_goals first | exact (eq_getD (by decide +kernel)) | decide +kernel,
   ⟨{ State.reset with regs := [((F.PWR_STATUS_LOCAL_READY).addr, BitVec.ofNat 64 ((1 <<< (F.PWR_STATUS_LOCAL_READY).lsb)))] }, { link := 256, addr := { mac := 1, v4 := false, ip := 2, port := 3 } }, (mgmtHeader 1 3 0 0 7 16 0 8 0x00010100 5 0 0), by decide +kernel⟩,
   ⟨{ State.reset with regs := [((F.PWR_STATUS_LOCAL_READY).addr, BitVec.ofNat 64 ((1 <<< (F.PWR_STATUS_LOCAL_READY).lsb)))] }, { link := 256, addr := { mac := 1, v4 := false, ip := 2, port := 3 } }, (mgmtHeader 1 0 0 0 7 16 0 8 0x00010100 5 0 0), by decide +kernel⟩,
   ⟨{ State.reset with regs := [((F.PWR_STATUS_LOCAL_READY).addr, BitVec.ofNat 64 ((1 <<< (F.PWR_STATUS_LOCAL_READY).lsb)))] }, { link := 256, addr := { mac := 1, v4 := false, ip := 2, port := 3 } }, (mgmtHeader 128 0 0 7 0 16 0 8 0x00010100 5 0 0) ++ zeros 12, by decide +kernel⟩,
   by
    refine ⟨{ State.reset with regs := [((F.PWR_STATUS_LOCAL_READY).addr, BitVec.ofNat 64 ((1 <<< (F.PWR_STATUS_LOCAL_READY).lsb))), ((F.SIG_KEY_INFO_VALID 0).addr, BitVec.ofNat 64 ((1 <<< (F.SIG_KEY_INFO_VALID 0).lsb) + (5 <<< (F.SIG_KEY_INFO_USAGE 0).lsb)))], units := { clasp := { nonce := [1], tokens := [{ id := 9, tenant := 0, host := 0, request := (mgmtHeader 1 0 0 7 0 0 0 8 0x00010100 5 0 0), bridge := some (5, 7, 0) }], nonces := [(7, [3])] } } }, { link := 256, addr := { mac := 1, v4 := false, ip := 2, port := 3 } }, (mgmtHeader 129 0 0 7 0 16 0 8 0x00010100 5 0 0), (({ State.reset with regs := [((F.PWR_STATUS_LOCAL_READY).addr, BitVec.ofNat 64 ((1 <<< (F.PWR_STATUS_LOCAL_READY).lsb))), ((F.SIG_KEY_INFO_VALID 0).addr, BitVec.ofNat 64 ((1 <<< (F.SIG_KEY_INFO_VALID 0).lsb) + (5 <<< (F.SIG_KEY_INFO_USAGE 0).lsb)))], units := { clasp := { nonce := [1], tokens := [{ id := 9, tenant := 0, host := 0, request := (mgmtHeader 1 0 0 7 0 0 0 8 0x00010100 5 0 0), bridge := some (5, 7, 0) }], nonces := [(7, [3])] } } }).bridgeKey labelMbr (({ State.reset with regs := [((F.PWR_STATUS_LOCAL_READY).addr, BitVec.ofNat 64 ((1 <<< (F.PWR_STATUS_LOCAL_READY).lsb))), ((F.SIG_KEY_INFO_VALID 0).addr, BitVec.ofNat 64 ((1 <<< (F.SIG_KEY_INFO_VALID 0).lsb) + (5 <<< (F.SIG_KEY_INFO_USAGE 0).lsb)))], units := { clasp := { nonce := [1], tokens := [{ id := 9, tenant := 0, host := 0, request := (mgmtHeader 1 0 0 7 0 0 0 8 0x00010100 5 0 0), bridge := some (5, 7, 0) }], nonces := [(7, [3])] } } }).targetNonce (targetOf ((mgmtHeader 129 0 0 7 0 16 0 8 0x00010100 5 0 0)))) ({ State.reset with regs := [((F.PWR_STATUS_LOCAL_READY).addr, BitVec.ofNat 64 ((1 <<< (F.PWR_STATUS_LOCAL_READY).lsb))), ((F.SIG_KEY_INFO_VALID 0).addr, BitVec.ofNat 64 ((1 <<< (F.SIG_KEY_INFO_VALID 0).lsb) + (5 <<< (F.SIG_KEY_INFO_USAGE 0).lsb)))], units := { clasp := { nonce := [1], tokens := [{ id := 9, tenant := 0, host := 0, request := (mgmtHeader 1 0 0 7 0 0 0 8 0x00010100 5 0 0), bridge := some (5, 7, 0) }], nonces := [(7, [3])] } } }).units.clasp.nonce).getD [], ({ id := 9, tenant := 0, host := 0, request := (mgmtHeader 1 0 0 7 0 0 0 8 0x00010100 5 0 0), bridge := some (5, 7, 0) } : Token), ?_⟩
    and_intros
    all_goals first | exact (eq_getD (by decide +kernel)) | decide +kernel,
   ⟨State.reset, { link := 256, addr := { mac := 1, v4 := false, ip := 2, port := 3 } }, (mgmtHeader 128 0 0 0 7 16 0 8 0x00010100 5 0 0), by decide +kernel⟩,
   ⟨{ State.reset with regs := [((F.PWR_STATUS_LOCAL_READY).addr, BitVec.ofNat 64 ((1 <<< (F.PWR_STATUS_LOCAL_READY).lsb)))] }, (mgmtHeader 1 3 0 0 7 16 1 8 0x00010100 5 0 0), by decide +kernel⟩,
   ⟨{ State.reset with regs := [((F.PWR_STATUS_LOCAL_READY).addr, BitVec.ofNat 64 ((1 <<< (F.PWR_STATUS_LOCAL_READY).lsb))), ((F.SVC_CFG_ENABLE).addr, BitVec.ofNat 64 ((1 <<< (F.SVC_CFG_ENABLE).lsb)))] }, { link := 512, addr := { mac := 1, v4 := true, ip := 2, port := 3 } }, (mgmtHeader 0 0 0 0 0 0 1 8 0x00010100 5 0 0), by decide +kernel⟩,
   ⟨{ State.reset with regs := [((F.PWR_STATUS_LOCAL_READY).addr, BitVec.ofNat 64 ((1 <<< (F.PWR_STATUS_LOCAL_READY).lsb)))] }, { link := 512, addr := { mac := 1, v4 := true, ip := 2, port := 3 } }, (mgmtHeader 1 0 0 3 0 0 1 8 0x00010100 5 0 0), by decide +kernel⟩,
   ⟨State.reset, (mgmtHeader 1 0 0 0 7 16 1 8 0x00010100 5 0 0), by decide +kernel⟩⟩

set_option maxRecDepth 20000 in
theorem witness_TokensLocksAndWatches :
    (∃ s : State, ∃ k : Nat, ∃ x : Token, ∃ b : Nat × Nat × Nat, (s.token k = some x) ∧ (x.bridge = some b) ∧ (x.answer = none) ∧ (x.watch = none) ∧ (x.posted = false) ∧ (b.2.2 + s.farTicks ≤ s.keep.elapsed)) ∧
    (∃ s : State, ∃ k : Nat, (∀ x ∈ s.token k, ∀ b ∈ x.bridge, x.answer ≠ none ∨ s.keep.elapsed < b.2.2 + s.farTicks)) ∧
    (∃ s : State, ∃ k : Nat, ∃ n : Nat × Nat × List Byte × Nat, ((s.token k).bind (·.answer) = some n) ∧ (n.2.2.2 + tickMs ≤ s.keep.elapsed)) ∧
    (∃ s : State, ∃ k : Nat, (∀ n ∈ (s.token k).bind (·.answer), s.keep.elapsed < n.2.2.2 + tickMs)) ∧
    (∃ s : State, ∃ l : MgmtLock, (s.units.clasp.lock = some l) ∧ (l.since + lockTicks ≤ s.keep.elapsed) ∧ (s.pending = [])) ∧
    (∃ s : State, (∀ l ∈ s.units.clasp.lock, s.keep.elapsed < l.since + lockTicks)) ∧
    (∃ s : State, ∃ w : Nat, (s.watchDue w = true) ∧ (s.pending = []) ∧ (s.get (F.CLP_WATCH_CFG_TARGET_DEVICE w) = s.device) ∧ ((s.tenant (s.get (F.CLP_WATCH_CFG_TENANT w))).enabled = true) ∧ (s.get (F.CLP_WATCH_CFG_TENANT w) < 32) ∧ ((s.watch w).primed = false) ∧ (s.readStatus (s.get (F.CLP_WATCH_CFG_TENANT w)) (s.get (F.CLP_WATCH_ADDRESS_ADDRESS w)) (s.watchSize w) 256 = 0) ∧ (s.serves (s.get (F.CLP_WATCH_ADDRESS_ADDRESS w)) = true) ∧ (plainRead (s.get (F.CLP_WATCH_ADDRESS_ADDRESS w)) (s.watchSize w) = true)) ∧
    (∃ s : State, ∃ w : Nat, (s.watchDue w = true) ∧ (s.pending = []) ∧ (s.get (F.CLP_WATCH_CFG_TARGET_DEVICE w) = s.device) ∧ (s.get (F.CLP_WATCH_CFG_TENANT w) < 32) ∧ ((s.tenant (s.get (F.CLP_WATCH_CFG_TENANT w))).enabled = true) ∧ (3 ≤ s.readStatus (s.get (F.CLP_WATCH_CFG_TENANT w)) (s.get (F.CLP_WATCH_ADDRESS_ADDRESS w)) (s.watchSize w) 256)) ∧
    (∃ s : State, ∃ w : Nat, (s.watchDue w = true) ∧ (s.pending ≠ [])) ∧
    (∃ s : State, ∃ w : Nat, (s.watchDue w = false)) :=
  ⟨⟨{ State.reset with regs := [((F.PWR_STATUS_LOCAL_READY).addr, BitVec.ofNat 64 ((1 <<< (F.PWR_STATUS_LOCAL_READY).lsb)))], keep := { elapsed := tickS }, units := { clasp := { nonce := [1], tokens := [{ id := 9, tenant := 0, host := 0, request := (mgmtHeader 1 0 0 7 0 0 0 8 0x00010100 5 0 0), bridge := some (5, 7, 0) }], nonces := [(7, [3])] } } }, 9, ({ id := 9, tenant := 0, host := 0, request := (mgmtHeader 1 0 0 7 0 0 0 8 0x00010100 5 0 0), bridge := some (5, 7, 0) } : Token), (5, 7, 0), by decide +kernel⟩,
   ⟨State.reset, 9, by decide +kernel⟩,
   ⟨{ State.reset with regs := [((F.PWR_STATUS_LOCAL_READY).addr, BitVec.ofNat 64 ((1 <<< (F.PWR_STATUS_LOCAL_READY).lsb)))], keep := { elapsed := tickS }, units := { clasp := { nonce := [1], tokens := [{ id := 9, tenant := 0, host := 0, request := (mgmtHeader 1 0 0 7 0 0 0 8 0x00010100 5 0 0), bridge := some (5, 7, 0), answer := some (0, 0, [], 0) }] } } }, 9, (0, 0, [], 0), by decide +kernel⟩,
   ⟨State.reset, 9, by decide +kernel⟩,
   ⟨{ State.reset with regs := [((F.PWR_STATUS_LOCAL_READY).addr, BitVec.ofNat 64 ((1 <<< (F.PWR_STATUS_LOCAL_READY).lsb)))], keep := { elapsed := tickMs }, units := { clasp := { lock := some { source := 0, tenant := 0, host := 0, address := 0, size := 8, since := 0 } } } }, { source := 0, tenant := 0, host := 0, address := 0, size := 8, since := 0 }, by decide +kernel⟩,
   ⟨{ State.reset with regs := [((F.PWR_STATUS_LOCAL_READY).addr, BitVec.ofNat 64 ((1 <<< (F.PWR_STATUS_LOCAL_READY).lsb)))], units := { clasp := { lock := some { source := 0, tenant := 0, host := 0, address := 0, size := 8, since := 0 } } } }, by decide +kernel⟩,
   ⟨{ State.reset with regs := [((F.PWR_STATUS_LOCAL_READY).addr, BitVec.ofNat 64 ((1 <<< (F.PWR_STATUS_LOCAL_READY).lsb))), ((F.CLP_WATCH_CFG_ENABLE 0).addr, BitVec.ofNat 64 ((1 <<< (F.CLP_WATCH_CFG_ENABLE 0).lsb) + (1 <<< (F.CLP_WATCH_CFG_WIDTH64 0).lsb))), ((F.CLP_WATCH_ADDRESS_ADDRESS 0).addr, 0x00010200), ((F.CLP_WATCH_MASK_MASK 0).addr, 0xFF)] }, 0, by decide +kernel⟩,
   ⟨{ State.reset with regs := [((F.PWR_STATUS_LOCAL_READY).addr, BitVec.ofNat 64 ((1 <<< (F.PWR_STATUS_LOCAL_READY).lsb))), ((F.CLP_WATCH_CFG_ENABLE 0).addr, BitVec.ofNat 64 ((1 <<< (F.CLP_WATCH_CFG_ENABLE 0).lsb))), ((F.CLP_WATCH_ADDRESS_ADDRESS 0).addr, 1)] }, 0, by decide +kernel⟩,
   ⟨{ State.reset with regs := [((F.PWR_STATUS_LOCAL_READY).addr, BitVec.ofNat 64 ((1 <<< (F.PWR_STATUS_LOCAL_READY).lsb))), ((F.CLP_WATCH_CFG_ENABLE 0).addr, BitVec.ofNat 64 ((1 <<< (F.CLP_WATCH_CFG_ENABLE 0).lsb)))], pending := [.coldReset] }, 0, by decide +kernel⟩,
   ⟨State.reset, 0, by decide +kernel⟩⟩

set_option maxRecDepth 20000 in
theorem witness_ServicePort :
    (∃ s : State, ∃ f : List Byte, (s.up = true) ∧ (s.is F.SVC_CFG_ENABLE = true) ∧ (f.length < 64)) ∧
    (∃ s : State, ∃ f : List Byte, ∃ ok : Bool, (s.up = true) ∧ (s.is F.SVC_CFG_ENABLE = true) ∧ (64 ≤ f.length) ∧ (ok = false)) ∧
    (∃ s : State, ∃ f : List Byte, ∃ ok : Bool, (s.up = true) ∧ (s.is F.SVC_CFG_ENABLE = true) ∧ (64 ≤ f.length) ∧ (ok = true) ∧ (num f 0 6 ≠ s.get F.SVC_MAC_MAC) ∧ (s.ember = embActive)) ∧
    (∃ s : State, (s.up = true) ∧ (s.is F.SVC_CFG_ENABLE = false)) ∧
    (∃ s : State, (s.up = false) ∧ (s.ember ≠ embListening)) ∧
    (∃ s : State, ∃ f : List Byte, ∃ l : List (List Byte), (s.svcOn = true) ∧ (s.units.svc.frames = f :: l) ∧ (s.units.svc.sentAt = none) ∧ (s.units.svc.waitTo = none)) ∧
    (∃ s : State, (s.svcOn = false) ∧ (s.svcEnd = none)) ∧
    (∃ s : State, (s.svcOn = true) ∧ (s.svcEnd = none)) ∧
    (∃ s : State, ∃ x : Nat, ∃ f : List Byte, ∃ l : List (List Byte), (s.svcOn = true) ∧ (s.plca = false) ∧ (s.units.svc.frames = f :: l) ∧ (s.units.svc.sentAt = some x) ∧ (s.keep.elapsed < x + (f.length + 12) * 8 * svcBit) ∧ (s.units.svc.attempts < 15)) ∧
    (∃ s : State, ∃ x : Nat, ∃ f : List Byte, ∃ l : List (List Byte), (s.svcOn = true) ∧ (s.plca = false) ∧ (s.units.svc.frames = f :: l) ∧ (s.units.svc.sentAt = some x) ∧ (s.keep.elapsed < x + (f.length + 12) * 8 * svcBit) ∧ (15 ≤ s.units.svc.attempts)) ∧
    (∃ s : State, ∃ x : Nat, ∃ f : List Byte, ∃ l : List (List Byte), (s.svcOn = true) ∧ (s.plca = false) ∧ (s.units.svc.frames = f :: l) ∧ (s.units.svc.sentAt = some x) ∧ (s.keep.elapsed < x + (f.length + 12) * 8 * svcBit)) ∧
    (∃ s : State, ∃ x : Nat, ∃ f : List Byte, ∃ l : List (List Byte), (s.svcOn = true) ∧ (s.plca = true) ∧ (s.units.svc.frames = f :: l) ∧ (s.units.svc.sentAt = some x) ∧ (s.keep.elapsed < x + (f.length + 12) * 8 * svcBit)) ∧
    (∃ s : State, ∃ x : Nat, ∃ f : List Byte, ∃ l : List (List Byte), (s.svcOn = true) ∧ (s.units.svc.frames = f :: l) ∧ (s.units.svc.sentAt = none) ∧ (s.units.svc.waitTo = some x) ∧ (x ≤ s.keep.elapsed)) ∧
    (∃ s : State, (s.svcOn = false ∨ ∀ x ∈ s.units.svc.waitTo, s.keep.elapsed < x)) :=
  ⟨⟨{ State.reset with regs := [((F.PWR_STATUS_LOCAL_READY).addr, BitVec.ofNat 64 ((1 <<< (F.PWR_STATUS_LOCAL_READY).lsb))), ((F.SVC_CFG_ENABLE).addr, BitVec.ofNat 64 ((1 <<< (F.SVC_CFG_ENABLE).lsb)))] }, zeros 63, by decide +kernel⟩,
   ⟨{ State.reset with regs := [((F.PWR_STATUS_LOCAL_READY).addr, BitVec.ofNat 64 ((1 <<< (F.PWR_STATUS_LOCAL_READY).lsb))), ((F.SVC_CFG_ENABLE).addr, BitVec.ofNat 64 ((1 <<< (F.SVC_CFG_ENABLE).lsb)))] }, (fit 64 (be 6 0x024942000000 ++ be 6 9 ++ be 2 0x88B6)), false, by decide +kernel⟩,
   ⟨{ State.reset with regs := [((F.PWR_STATUS_LOCAL_READY).addr, BitVec.ofNat 64 ((1 <<< (F.PWR_STATUS_LOCAL_READY).lsb))), (F.EMB_STATUS_STATE.addr, 0), ((F.SVC_CFG_ENABLE).addr, BitVec.ofNat 64 ((1 <<< (F.SVC_CFG_ENABLE).lsb))), ((F.SVC_MAC_MAC).addr, 5)] }, zeros 64, true, by decide +kernel⟩,
   ⟨{ State.reset with regs := [((F.PWR_STATUS_LOCAL_READY).addr, BitVec.ofNat 64 ((1 <<< (F.PWR_STATUS_LOCAL_READY).lsb))), (F.SVC_CFG_ENABLE.addr, 0)] }, by decide +kernel⟩,
   ⟨State.reset, by decide +kernel⟩,
   ⟨{ State.reset with regs := [((F.PWR_STATUS_LOCAL_READY).addr, BitVec.ofNat 64 ((1 <<< (F.PWR_STATUS_LOCAL_READY).lsb))), ((F.SVC_CFG_ENABLE).addr, BitVec.ofNat 64 ((1 <<< (F.SVC_CFG_ENABLE).lsb)))], units := { svc := ({ frames := [[1]] } : SvcPort) } }, [1], [], by decide +kernel⟩,
   ⟨State.reset, by decide +kernel⟩,
   ⟨{ State.reset with regs := [((F.PWR_STATUS_LOCAL_READY).addr, BitVec.ofNat 64 ((1 <<< (F.PWR_STATUS_LOCAL_READY).lsb))), ((F.SVC_CFG_ENABLE).addr, BitVec.ofNat 64 ((1 <<< (F.SVC_CFG_ENABLE).lsb)))] }, by decide +kernel⟩,
   ⟨{ State.reset with regs := [((F.PWR_STATUS_LOCAL_READY).addr, BitVec.ofNat 64 ((1 <<< (F.PWR_STATUS_LOCAL_READY).lsb))), ((F.SVC_CFG_ENABLE).addr, BitVec.ofNat 64 ((1 <<< (F.SVC_CFG_ENABLE).lsb)))], units := { svc := ({ frames := [[1]], sentAt := some 0 } : SvcPort) } }, 0, [1], [], by decide +kernel⟩,
   ⟨{ State.reset with regs := [((F.PWR_STATUS_LOCAL_READY).addr, BitVec.ofNat 64 ((1 <<< (F.PWR_STATUS_LOCAL_READY).lsb))), ((F.SVC_CFG_ENABLE).addr, BitVec.ofNat 64 ((1 <<< (F.SVC_CFG_ENABLE).lsb)))], units := { svc := ({ frames := [[1]], sentAt := some 0, attempts := 15 } : SvcPort) } }, 0, [1], [], by decide +kernel⟩,
   ⟨{ State.reset with regs := [((F.PWR_STATUS_LOCAL_READY).addr, BitVec.ofNat 64 ((1 <<< (F.PWR_STATUS_LOCAL_READY).lsb))), ((F.SVC_CFG_ENABLE).addr, BitVec.ofNat 64 ((1 <<< (F.SVC_CFG_ENABLE).lsb)))], units := { svc := ({ frames := [[1]], sentAt := some 0 } : SvcPort) } }, 0, [1], [], by decide +kernel⟩,
   ⟨{ State.reset with regs := [((F.PWR_STATUS_LOCAL_READY).addr, BitVec.ofNat 64 ((1 <<< (F.PWR_STATUS_LOCAL_READY).lsb))), ((F.SVC_CFG_ENABLE).addr, BitVec.ofNat 64 ((1 <<< (F.SVC_CFG_ENABLE).lsb) + (1 <<< (F.SVC_CFG_PLCA_EN).lsb))), (F.SVC_PLCA_NODE_ID.addr, 0)], units := { svc := ({ frames := [[1]], sentAt := some 0 } : SvcPort) } }, 0, [1], [], by decide +kernel⟩,
   ⟨{ State.reset with regs := [((F.PWR_STATUS_LOCAL_READY).addr, BitVec.ofNat 64 ((1 <<< (F.PWR_STATUS_LOCAL_READY).lsb))), ((F.SVC_CFG_ENABLE).addr, BitVec.ofNat 64 ((1 <<< (F.SVC_CFG_ENABLE).lsb)))], units := { svc := ({ frames := [[1]], waitTo := some 0, attempts := 1 } : SvcPort) } }, 0, [1], [], by decide +kernel⟩,
   ⟨State.reset, by decide +kernel⟩⟩

set_option maxRecDepth 20000 in
theorem witness_TenantResets :
    (∃ s : State, ∃ n : Nat, ∃ w : Nat, ∃ v : Word, (s.resetAccepted n w v = true)) ∧
    (∃ s : State, ∃ n : Nat, ∃ w : Nat, ∃ v : Word, (32 ≤ n ∨ (w ≠ 0 ∧ w ≠ n) ∨ s.get (F.TEN_STATUS_STATE n) ≠ 1 ∨ getBits v 0 0 = 0 ∨ getBits v 31 16 ≠ 0xA5C3) ∧ (s.get F.IMG_VOLATILE_WRITES_COUNT + 1 < 2 ^ 47)) ∧
    (∃ s : State, ∃ n : Nat, (n < 32) ∧ (s.get (F.TEN_STATUS_STATE n) = 2) ∧ (s.tenantDrained n = true)) ∧
    (∃ s : State, ∃ n : Nat, (s.get (F.TEN_STATUS_STATE n) ≠ 2 ∨ s.tenantDrained n = false)) :=
  ⟨⟨{ State.reset with regs := [((F.PWR_STATUS_LOCAL_READY).addr, BitVec.ofNat 64 ((1 <<< (F.PWR_STATUS_LOCAL_READY).lsb))), ((F.TEN_STATUS_STATE 3).addr, BitVec.ofNat 64 ((1 <<< (F.TEN_STATUS_STATE 3).lsb)))] }, 3, 0, 0xA5C30001, by decide +kernel⟩,
   ⟨State.reset, 3, 2, 0, by decide +kernel⟩,
   ⟨{ State.reset with regs := [((F.PWR_STATUS_LOCAL_READY).addr, BitVec.ofNat 64 ((1 <<< (F.PWR_STATUS_LOCAL_READY).lsb))), ((F.TEN_STATUS_STATE 3).addr, BitVec.ofNat 64 ((2 <<< (F.TEN_STATUS_STATE 3).lsb)))], keep := { elapsed := tickMs }, units := { sup := { tenantResets := [(3, 0)] } } }, 3, by decide +kernel⟩,
   ⟨State.reset, 3, by decide +kernel⟩⟩

set_option maxRecDepth 20000 in
theorem witness_MemoryErrorsAndChronicle :
    (∃ s : State, ∃ st : Nat, ∃ n : Nat, ∃ i : Nat, ∃ y : Stratum, (st < 8192) ∧ ((s.cal st).strata[n]? = some y) ∧ (i < y.hot.length)) ∧
    (∃ s : State, ∃ q : Nat, ∃ i : Nat, (q < 2176) ∧ (i < (s.queue q).items.length)) ∧
    (∃ s : State, ∃ i : Nat, (i < (s.units.ring.map (fun g => g.records.length)).sum)) ∧
    (∃ s : State, ∃ r : Nat, (r < 4096) ∧ (s.has 0 = true)) ∧
    (∃ s : State, ∃ p : Nat, ∃ n : Nat, ∃ e : Nat, ∃ r : Retained, (p < 32) ∧ ((s.retainedOn p)[n]? = some (e, r))) ∧
    (∃ s : State, ∃ e : Nat, (e < 256) ∧ (s.is (F.SIG_KEY_INFO_VALID e) = true)) ∧
    (∃ s : State, ∃ h : HeldEntry, ∃ l : List HeldEntry, (s.units.sup.chronHeld = h :: l) ∧ (h.since + tickS ≤ s.keep.elapsed) ∧ (chronCost ≤ s.keep.credit)) ∧
    (∃ s : State, ∃ h : HeldEntry, ∃ l : List HeldEntry, (s.units.sup.chronHeld = h :: l) ∧ (h.since + tickS ≤ s.keep.elapsed) ∧ (s.keep.credit < chronCost)) ∧
    (∃ s : State, (∀ h ∈ s.units.sup.chronHeld.head?, s.keep.elapsed < h.since + tickS)) ∧
    (∃ s : State, (s.keep.chronLost ≠ 0) ∧ (chronCost ≤ s.keep.credit)) ∧
    (∃ s : State, (s.keep.chronLost = 0 ∨ s.keep.credit < chronCost)) :=
  ⟨⟨{ State.reset with regs := [((F.PWR_STATUS_LOCAL_READY).addr, BitVec.ofNat 64 ((1 <<< (F.PWR_STATUS_LOCAL_READY).lsb)))], units := { cal := [(5, ({ lives := [{ start := 0, domain := 0, edge := (0, false), strata := [{ start := 0, k := 10, hot := [{ time := 5, source := 1, channel := 0, cls := 0, flags := 0, typ := 0, payload := [], group := 0, domain := 0 }] }] }] } : CalStream))] } }, 5, 0, 0, { start := 0, k := 10, hot := [{ time := 5, source := 1, channel := 0, cls := 0, flags := 0, typ := 0, payload := [], group := 0, domain := 0 }] }, by decide +kernel⟩,
   ⟨{ State.reset with regs := [((F.PWR_STATUS_LOCAL_READY).addr, BitVec.ofNat 64 ((1 <<< (F.PWR_STATUS_LOCAL_READY).lsb)))], units := { queues := [(7, ({ items := [({ data := [1] }, 0)] } : QueueUnit))] } }, 7, 0, by decide +kernel⟩,
   ⟨{ State.reset with regs := [((F.PWR_STATUS_LOCAL_READY).addr, BitVec.ofNat 64 ((1 <<< (F.PWR_STATUS_LOCAL_READY).lsb)))], units := { ring := [{ records := [{ time := 5, tq := 0, typ := 0, source := 1, channel := 0, tflags := 0, payload := [] }] }] } }, 0, by decide +kernel⟩,
   ⟨{ State.reset with regs := [((F.PWR_STATUS_LOCAL_READY).addr, BitVec.ofNat 64 ((1 <<< (F.PWR_STATUS_LOCAL_READY).lsb)))] }, 9, by decide +kernel⟩,
   ⟨{ State.reset with regs := [((F.PWR_STATUS_LOCAL_READY).addr, BitVec.ofNat 64 ((1 <<< (F.PWR_STATUS_LOCAL_READY).lsb)))], units := { endpoints := [(0, ({ retained := [({ item := { data := [1, 2], kind := .sealed, stream := 5, seq := 7, endpoint := 0, chain := 1 }, prio := 3, link := 0, firstAt := 0, sentAt := 0, order := 0 } : Retained)] } : EndpointUnit))] } }, 0, 0, 0, ({ item := { data := [1, 2], kind := .sealed, stream := 5, seq := 7, endpoint := 0, chain := 1 }, prio := 3, link := 0, firstAt := 0, sentAt := 0, order := 0 } : Retained), by decide +kernel⟩,
   ⟨{ State.reset with regs := [((F.PWR_STATUS_LOCAL_READY).addr, BitVec.ofNat 64 ((1 <<< (F.PWR_STATUS_LOCAL_READY).lsb))), ((F.SIG_KEY_INFO_VALID 4).addr, BitVec.ofNat 64 ((1 <<< (F.SIG_KEY_INFO_VALID 4).lsb)))] }, 4, by decide +kernel⟩,
   ⟨{ State.reset with regs := [((F.PWR_STATUS_LOCAL_READY).addr, BitVec.ofNat 64 ((1 <<< (F.PWR_STATUS_LOCAL_READY).lsb)))], keep := { elapsed := tickS }, units := { sup := { chronHeld := [({ entry := { seq := 0, time := [], tq := 0, kind := 4, tenant := some 3, fclass := 1, incarnation := 0, rep := 2, info := zeros 28 }, since := 0 } : HeldEntry)] } } }, ({ entry := { seq := 0, time := [], tq := 0, kind := 4, tenant := some 3, fclass := 1, incarnation := 0, rep := 2, info := zeros 28 }, since := 0 } : HeldEntry), [], by decide +kernel⟩,
   ⟨{ State.reset with regs := [((F.PWR_STATUS_LOCAL_READY).addr, BitVec.ofNat 64 ((1 <<< (F.PWR_STATUS_LOCAL_READY).lsb)))], keep := { elapsed := tickS, chronCredit := 0, chronAt := tickS }, units := { sup := { chronHeld := [({ entry := { seq := 0, time := [], tq := 0, kind := 4, tenant := some 3, fclass := 1, incarnation := 0, rep := 2, info := zeros 28 }, since := 0 } : HeldEntry)] } } }, ({ entry := { seq := 0, time := [], tq := 0, kind := 4, tenant := some 3, fclass := 1, incarnation := 0, rep := 2, info := zeros 28 }, since := 0 } : HeldEntry), [], by decide +kernel⟩,
   ⟨State.reset, by decide +kernel⟩,
   ⟨{ State.reset with regs := [((F.PWR_STATUS_LOCAL_READY).addr, BitVec.ofNat 64 ((1 <<< (F.PWR_STATUS_LOCAL_READY).lsb)))], keep := { chronLost := 3 } }, by decide +kernel⟩,
   ⟨State.reset, by decide +kernel⟩⟩

set_option maxRecDepth 20000 in
theorem witness_SentinelsAndIsolation :
    (∃ s : State, ∃ d : Nat, ∃ x : Nat, ∃ r : Nat, ∃ run : StartRun, ∃ i : Instr, i ∈ [(.sentinelStall d x r run : Instr), .duplicateToken d x r run] ∧ (s.up = true) ∧ (s.hasDomain d x = true) ∧ (s.isolated d x = false) ∧ ((s.units.sup.events.filter (fun e => s.keep.elapsed ≤ e.2.2.2 + tickS && e.1 = d && e.2.1 = x && e.2.2.1 = r)).length < 2)) ∧
    (∃ s : State, ∃ d : Nat, ∃ x : Nat, ∃ r : Nat, ∃ run : StartRun, ∃ i : Instr, i ∈ [(.sentinelStall d x r run : Instr), .duplicateToken d x r run] ∧ (s.up = true) ∧ (s.hasDomain d x = true) ∧ (s.isolated d x = false) ∧ (2 ≤ (s.units.sup.events.filter (fun e => s.keep.elapsed ≤ e.2.2.2 + tickS && e.1 = d && e.2.1 = x && e.2.2.1 = r)).length) ∧ (d, x, s.keep.elapsed) ∉ s.units.sup.resets ∧ ((s.units.sup.resets.filter (fun e => s.keep.elapsed ≤ e.2.2 + 10 * tickS && e.1 = d && e.2.1 = x)).length < 2)) ∧
    (∃ s : State, ∃ d : Nat, ∃ x : Nat, ∃ r : Nat, ∃ run : StartRun, ∃ i : Instr, ∃ n : Nat, i ∈ [(.sentinelStall d x r run : Instr), .duplicateToken d x r run] ∧ (s.up = true) ∧ (s.hasDomain d x = true) ∧ (s.isolated d x = false) ∧ (2 ≤ (s.units.sup.events.filter (fun e => s.keep.elapsed ≤ e.2.2.2 + tickS && e.1 = d && e.2.1 = x && e.2.2.1 = r)).length) ∧ (d, x, s.keep.elapsed) ∉ s.units.sup.resets ∧ (2 ≤ (s.units.sup.resets.filter (fun e => s.keep.elapsed ≤ e.2.2 + 10 * tickS && e.1 = d && e.2.1 = x)).length) ∧ d ∈ [1, 3, 4, 5, 6] ∧ (s.freeIsolation = some n)) ∧
    (∃ s : State, ∃ d : Nat, ∃ x : Nat, ∃ r : Nat, ∃ run : StartRun, ∃ i : Instr, i ∈ [(.sentinelStall d x r run : Instr), .duplicateToken d x r run] ∧ (s.up = true) ∧ (s.hasDomain d x = true) ∧ (s.isolated d x = true)) ∧
    (∃ s : State, ∃ d : Nat, ∃ x : Nat, ∃ r : Nat, ∃ run : StartRun, ∃ i : Instr, i ∈ [(.sentinelStall d x r run : Instr), .duplicateToken d x r run] ∧ (s.up = false ∨ s.hasDomain d x = false)) ∧
    (∃ s : State, ∃ e : Nat, ∃ v : Word, (e < 64) ∧ (getBits v 62 62 = 1) ∧ (s.is (F.SUP_ISOLATION_VALID e) = true)) ∧
    (∃ s : State, ∃ e : Nat, ∃ w : Nat, ∃ v : Word, (e < 64) ∧ (getBits v 62 62 = 1) ∧ (w ≠ 0) ∧ (s.get F.IMG_VOLATILE_WRITES_COUNT + 1 < 2 ^ 47)) ∧
    (∃ s : State, ∃ e : Nat, ∃ w : Nat, ∃ v : Word, (64 ≤ e ∨ getBits v 62 62 = 0 ∨ (w = 0 ∧ s.is (F.SUP_ISOLATION_VALID e) = false)) ∧ (s.get F.IMG_VOLATILE_WRITES_COUNT + 1 < 2 ^ 47)) :=
  ⟨⟨{ State.reset with regs := [((F.PWR_STATUS_LOCAL_READY).addr, BitVec.ofNat 64 ((1 <<< (F.PWR_STATUS_LOCAL_READY).lsb)))] }, 1, 5, 0, { micros := 0 }, .sentinelStall 1 5 0 { micros := 0 }, by decide +kernel⟩,
   ⟨{ State.reset with regs := [((F.PWR_STATUS_LOCAL_READY).addr, BitVec.ofNat 64 ((1 <<< (F.PWR_STATUS_LOCAL_READY).lsb)))], units := { sup := ({ events := [(1, 5, 0, 0), (1, 5, 0, 0)] } : Supervisor) } }, 1, 5, 0, { micros := 0 }, .duplicateToken 1 5 0 { micros := 0 }, by decide +kernel⟩,
   ⟨{ State.reset with regs := [((F.PWR_STATUS_LOCAL_READY).addr, BitVec.ofNat 64 ((1 <<< (F.PWR_STATUS_LOCAL_READY).lsb)))], keep := { elapsed := 2 }, units := { sup := ({ events := [(1, 5, 0, 0), (1, 5, 0, 0)], resets := [(1, 5, 0), (1, 5, 1)] } : Supervisor) } }, 1, 5, 0, { micros := 0 }, .sentinelStall 1 5 0 { micros := 0 }, 0, by decide +kernel⟩,
   ⟨{ State.reset with regs := [((F.PWR_STATUS_LOCAL_READY).addr, BitVec.ofNat 64 ((1 <<< (F.PWR_STATUS_LOCAL_READY).lsb))), ((F.SUP_ISOLATION_VALID 0).addr, BitVec.ofNat 64 ((1 <<< (F.SUP_ISOLATION_VALID 0).lsb) + (1 <<< (F.SUP_ISOLATION_DOMAIN 0).lsb) + (5 <<< (F.SUP_ISOLATION_INDEX 0).lsb)))] }, 1, 5, 0, { micros := 0 }, .duplicateToken 1 5 0 { micros := 0 }, by decide +kernel⟩,
   ⟨State.reset, 1, 5, 0, { micros := 0 }, .duplicateToken 1 5 0 { micros := 0 }, by decide +kernel⟩,
   ⟨{ State.reset with regs := [((F.PWR_STATUS_LOCAL_READY).addr, BitVec.ofNat 64 ((1 <<< (F.PWR_STATUS_LOCAL_READY).lsb))), ((F.SUP_ISOLATION_VALID 0).addr, BitVec.ofNat 64 ((1 <<< (F.SUP_ISOLATION_VALID 0).lsb) + (1 <<< (F.SUP_ISOLATION_DOMAIN 0).lsb) + (5 <<< (F.SUP_ISOLATION_INDEX 0).lsb)))] }, 0, 1 <<< 62, by decide +kernel⟩,
   ⟨State.reset, 0, 3, 1 <<< 62, by decide +kernel⟩,
   ⟨State.reset, 0, 0, 0, by decide +kernel⟩⟩

set_option maxRecDepth 20000 in
theorem witness_SupervisorAndRemoteReset :
    (∃ s : State, ∃ c : Nat, (c < 3) ∧ (s.up = true) ∧ (s.get F.SUP_STATUS_COPIES = 7) ∧ (s.units.sup.outvoted = []) ∧ (s.units.sup.voteFailed = false)) ∧
    (∃ s : State, ∃ c : Nat, (3 ≤ c ∨ s.up = false ∨ s.get F.SUP_STATUS_COPIES ≠ 7 ∨ s.units.sup.outvoted ≠ [] ∨ s.units.sup.voteFailed = true)) ∧
    (∃ s : State, ∃ c : Nat, (s.units.sup.outvoted = [c]) ∧ (s.voting c = true) ∧ (s.units.sup.voteFailed = false)) ∧
    (∃ s : State, ((∀ c ∈ s.units.sup.outvoted, s.voting c = false) ∨ s.units.sup.voteFailed = true)) ∧
    (∃ s : State, (s.up = true)) ∧
    (∃ s : State, (s.up = false)) ∧
    (∃ s : State, ∃ r : Nat, ∃ b : List Byte, ∃ g : List Byte, (r < 8) ∧ (s.ringUp r = true) ∧ (b.length = 32) ∧ (s.ringTag 4 b = some g) ∧ (num b 2 2 % 16384 = s.device) ∧ (num b 4 4 = s.incarnation) ∧ (num b 8 8 = s.bootId) ∧ (s.pending = [])) ∧
    (∃ s : State, ∃ r : Nat, ∃ msg : List Byte, (r < 8) ∧ (s.ringUp r = true) ∧ (msg.length ≠ 48)) ∧
    (∃ s : State, ∃ r : Nat, ∃ b : List Byte, ∃ g : List Byte, (r < 8) ∧ (s.ringUp r = true) ∧ (b.length = 32) ∧ (s.ringTag 4 b = some g) ∧ (num b 2 2 % 16384 ≠ s.device ∨ num b 4 4 ≠ s.incarnation ∨ num b 8 8 ≠ s.bootId)) ∧
    (∃ s : State, ∃ r : Nat, (8 ≤ r ∨ s.ringUp r = false)) ∧
    (∃ s : State, ∃ v : Word, (s.fenced = true) ∧ (getBits v 0 0 = 1) ∧ (getBits v 31 16 = 0xA5C3) ∧ (s.pending = [])) ∧
    (∃ s : State, ∃ w : Nat, ∃ v : Word, (w ≠ 0) ∧ (getBits v 0 0 = 1) ∧ (s.get F.IMG_VOLATILE_WRITES_COUNT + 1 < 2 ^ 47)) ∧
    (∃ s : State, ∃ w : Nat, ∃ v : Word, (getBits v 0 0 = 0 ∨ (w = 0 ∧ (s.fenced = false ∨ getBits v 31 16 ≠ 0xA5C3))) ∧ (s.get F.IMG_VOLATILE_WRITES_COUNT + 1 < 2 ^ 47)) :=
  ⟨⟨{ State.reset with regs := [((F.PWR_STATUS_LOCAL_READY).addr, BitVec.ofNat 64 ((1 <<< (F.PWR_STATUS_LOCAL_READY).lsb))), ((F.SUP_STATUS_COPIES).addr, BitVec.ofNat 64 ((7 <<< (F.SUP_STATUS_COPIES).lsb)))], units := { sup := ({ reloads := [(1, 0)] } : Supervisor) } }, 1, by decide +kernel⟩,
   ⟨State.reset, 1, by decide +kernel⟩,
   ⟨{ State.reset with regs := [((F.PWR_STATUS_LOCAL_READY).addr, BitVec.ofNat 64 ((1 <<< (F.PWR_STATUS_LOCAL_READY).lsb))), ((F.SUP_STATUS_COPIES).addr, BitVec.ofNat 64 ((7 <<< (F.SUP_STATUS_COPIES).lsb)))], units := { sup := ({ outvoted := [1] } : Supervisor) } }, 1, by decide +kernel⟩,
   ⟨State.reset, by decide +kernel⟩,
   ⟨{ State.reset with regs := [((F.PWR_STATUS_LOCAL_READY).addr, BitVec.ofNat 64 ((1 <<< (F.PWR_STATUS_LOCAL_READY).lsb)))] }, by decide +kernel⟩,
   ⟨State.reset, by decide +kernel⟩,
   by
    refine ⟨{ State.reset with regs := [((F.PWR_STATUS_LOCAL_READY).addr, BitVec.ofNat 64 ((1 <<< (F.PWR_STATUS_LOCAL_READY).lsb))), ((F.SIG_KEY_INFO_VALID 0).addr, BitVec.ofNat 64 ((1 <<< (F.SIG_KEY_INFO_VALID 0).lsb) + (5 <<< (F.SIG_KEY_INFO_USAGE 0).lsb))), ((F.RNG_STATUS_STATE 0).addr, BitVec.ofNat 64 ((2 <<< (F.RNG_STATUS_STATE 0).lsb)))] }, 0, zeros 32, (({ State.reset with regs := [((F.PWR_STATUS_LOCAL_READY).addr, BitVec.ofNat 64 ((1 <<< (F.PWR_STATUS_LOCAL_READY).lsb))), ((F.SIG_KEY_INFO_VALID 0).addr, BitVec.ofNat 64 ((1 <<< (F.SIG_KEY_INFO_VALID 0).lsb) + (5 <<< (F.SIG_KEY_INFO_USAGE 0).lsb))), ((F.RNG_STATUS_STATE 0).addr, BitVec.ofNat 64 ((2 <<< (F.RNG_STATUS_STATE 0).lsb)))] }).ringTag 4 (zeros 32)).getD [], ?_⟩
    and_intros
    all_goals first | exact (eq_getD (by decide +kernel)) | decide +kernel,
   ⟨{ State.reset with regs := [((F.PWR_STATUS_LOCAL_READY).addr, BitVec.ofNat 64 ((1 <<< (F.PWR_STATUS_LOCAL_READY).lsb))), ((F.RNG_STATUS_STATE 0).addr, BitVec.ofNat 64 ((2 <<< (F.RNG_STATUS_STATE 0).lsb)))] }, 0, [], by decide +kernel⟩,
   by
    refine ⟨{ State.reset with regs := [((F.PWR_STATUS_LOCAL_READY).addr, BitVec.ofNat 64 ((1 <<< (F.PWR_STATUS_LOCAL_READY).lsb))), ((F.SIG_KEY_INFO_VALID 0).addr, BitVec.ofNat 64 ((1 <<< (F.SIG_KEY_INFO_VALID 0).lsb) + (5 <<< (F.SIG_KEY_INFO_USAGE 0).lsb))), ((F.RNG_STATUS_STATE 0).addr, BitVec.ofNat 64 ((2 <<< (F.RNG_STATUS_STATE 0).lsb)))] }, 0, (be 4 5 ++ zeros 28), (({ State.reset with regs := [((F.PWR_STATUS_LOCAL_READY).addr, BitVec.ofNat 64 ((1 <<< (F.PWR_STATUS_LOCAL_READY).lsb))), ((F.SIG_KEY_INFO_VALID 0).addr, BitVec.ofNat 64 ((1 <<< (F.SIG_KEY_INFO_VALID 0).lsb) + (5 <<< (F.SIG_KEY_INFO_USAGE 0).lsb))), ((F.RNG_STATUS_STATE 0).addr, BitVec.ofNat 64 ((2 <<< (F.RNG_STATUS_STATE 0).lsb)))] }).ringTag 4 (be 4 5 ++ zeros 28)).getD [], ?_⟩
    and_intros
    all_goals first | exact (eq_getD (by decide +kernel)) | decide +kernel,
   ⟨State.reset, 0, by decide +kernel⟩,
   ⟨{ State.reset with regs := [((F.PWR_STATUS_LOCAL_READY).addr, BitVec.ofNat 64 ((1 <<< (F.PWR_STATUS_LOCAL_READY).lsb))), ((F.SUP_STATUS_FENCED).addr, BitVec.ofNat 64 ((1 <<< (F.SUP_STATUS_FENCED).lsb)))] }, 0xA5C30001, by decide +kernel⟩,
   ⟨State.reset, 3, 1, by decide +kernel⟩,
   ⟨State.reset, 0, 1, by decide +kernel⟩⟩

set_option maxRecDepth 20000 in
theorem witness_HeartbeatsAndSuspicion :
    (∃ s : State, ∃ g : List Byte, (s.up = true) ∧ (s.units.sup.voteFailed = false) ∧ ((s.units.sup.hbAt.any (fun y => decide (s.keep.elapsed < y + s.get F.SUP_CFG_HB_PERIOD_US * tickUs))) = false) ∧ (s.suspects.length ≤ 2) ∧ (s.hopTag 2 (s.heartbeat (s.get F.SUP_CFG_HB_HOPS) s.suspects[0]? s.suspects[1]?) = some g)) ∧
    (∃ s : State, (s.up = false ∨ s.units.sup.voteFailed = true ∨ (s.units.sup.hbAt.any (fun y => decide (s.keep.elapsed < y + s.get F.SUP_CFG_HB_PERIOD_US * tickUs))) = true ∨ s.ringKey = none)) ∧
    (∃ s : State, ∃ r : Nat, ∃ b : List Byte, ∃ g : List Byte, (r < 8) ∧ (s.ringUp r = true) ∧ (b.length = 48) ∧ (s.hopTag 2 b = some g) ∧ ((num b 2 2 % 16384) ≠ s.device) ∧ (s.isLive = false ∨ num b 8 4 ≠ s.get F.SUP_ROLE_ROLE_ID ∨ num b 4 4 ≤ s.incarnation) ∧ ((s.peer (num b 2 2 % 16384)).boots.find? (fun y => y.1 = num b 16 8) = none) ∧ (s.heldIncarnation (num b 2 2 % 16384) ≤ num b 4 4)) ∧
    (∃ s : State, ∃ r : Nat, ∃ b : List Byte, ∃ g : List Byte, (r < 8) ∧ (s.ringUp r = true) ∧ (b.length = 48) ∧ (s.hopTag 2 b = some g) ∧ ((num b 2 2 % 16384) ≠ s.device) ∧ (s.isLive = false ∨ num b 8 4 ≠ s.get F.SUP_ROLE_ROLE_ID ∨ num b 4 4 ≤ s.incarnation) ∧ ((s.peer (num b 2 2 % 16384)).boots.find? (fun y => y.1 = num b 16 8) = some (num b 16 8, num b 12 4, 0))) ∧
    (∃ s : State, ∃ r : Nat, ∃ b : List Byte, ∃ g : List Byte, (r < 8) ∧ (s.ringUp r = true) ∧ (b.length = 48) ∧ (s.hopTag 2 b = some g) ∧ ((num b 2 2 % 16384) ≠ s.device) ∧ (s.isLive = false ∨ num b 8 4 ≠ s.get F.SUP_ROLE_ROLE_ID ∨ num b 4 4 ≤ s.incarnation) ∧ ((s.peer (num b 2 2 % 16384)).boots.find? (fun y => y.1 = num b 16 8) = none) ∧ (num b 4 4 < s.heldIncarnation (num b 2 2 % 16384))) ∧
    (∃ s : State, ∃ r : Nat, ∃ b : List Byte, ∃ g : List Byte, (r < 8) ∧ (s.ringUp r = true) ∧ (b.length = 48) ∧ (s.hopTag 2 b = some g) ∧ ((num b 2 2 % 16384) ≠ s.device) ∧ (s.isLive = true) ∧ (num b 8 4 = s.get F.SUP_ROLE_ROLE_ID) ∧ (s.incarnation < num b 4 4)) ∧
    (∃ s : State, ∃ r : Nat, ∃ x : List Byte, (r < 8) ∧ (s.ringUp r = true) ∧ (x.length ≠ 64)) ∧
    (∃ s : State, ∃ r : Nat, (8 ≤ r ∨ s.ringUp r = false)) ∧
    (∃ s : State, ∃ e : Nat, (e < 16) ∧ (s.up = true) ∧ (s.is (F.SUP_WATCH_W0_VALID e) = true) ∧ (s.is (F.SUP_WATCH_W0_SUSPECT e) = false) ∧ ((s.peer (s.get (F.SUP_WATCH_W0_DEVICE e))).heard = true) ∧ ((s.peer (s.get (F.SUP_WATCH_W0_DEVICE e))).hstate < 2) ∧ (s.declared (s.get (F.SUP_WATCH_W0_DEVICE e)) = false) ∧ ((s.peer (s.get (F.SUP_WATCH_W0_DEVICE e))).at_ + s.get F.SUP_TIMERS_SUSPECT_MS * tickMs ≤ s.keep.elapsed)) ∧
    (∃ s : State, ∃ e : Nat, (16 ≤ e ∨ s.up = false ∨ s.is (F.SUP_WATCH_W0_VALID e) = false ∨ s.is (F.SUP_WATCH_W0_SUSPECT e) = true ∨ (s.peer (s.get (F.SUP_WATCH_W0_DEVICE e))).heard = false ∨ 2 ≤ (s.peer (s.get (F.SUP_WATCH_W0_DEVICE e))).hstate ∨ s.declared (s.get (F.SUP_WATCH_W0_DEVICE e)) = true ∨ s.keep.elapsed < (s.peer (s.get (F.SUP_WATCH_W0_DEVICE e))).at_ + s.get F.SUP_TIMERS_SUSPECT_MS * tickMs)) ∧
    (∃ s : State, ∃ e : Nat, ∃ x : Nat, ∃ y : Nat, (s.units.sup.waking.find? (fun w => w.1 = e) = some (e, x, y)) ∧ (y + 20 * tickMs ≤ s.keep.elapsed) ∧ (s.keep.elapsed ≤ x + tickS) ∧ (s.fenced = false)) ∧
    (∃ s : State, ∃ e : Nat, (s.fenced = true ∨ (s.units.sup.waking.find? (fun w => w.1 = e)).all (fun w => decide (s.keep.elapsed < w.2.2 + 20 * tickMs) || decide (w.2.1 + tickS < s.keep.elapsed)) = true)) ∧
    (∃ s : State, ∃ v : Word, (getBits v 0 0 = 1) ∧ (getBits v 31 16 = 0xA5C3) ∧ (s.is F.SUP_WAKE_STATUS_BUSY = false) ∧ (s.wakePathOk (s.get (F.SUP_SPARE_WAKE_SELECT (getBits v 11 8))) = true)) ∧
    (∃ s : State, ∃ w : Nat, ∃ x : Nat, ∃ v : Word, (s.hasRight w F.SUP_WAKE_CTRL_SEND.addr = true) ∧ (getBits v 0 0 = 1) ∧ (x = if w ≠ 0 ∨ getBits v 31 16 ≠ 0xA5C3 then 3 else if s.is F.SUP_WAKE_STATUS_BUSY = true then 2 else if s.wakePathOk (s.get (F.SUP_SPARE_WAKE_SELECT (getBits v 11 8))) = true then 0 else 1) ∧ (x ≠ 0) ∧ (s.get F.IMG_VOLATILE_WRITES_COUNT + 1 < 2 ^ 47)) :=
  ⟨by
    refine ⟨{ State.reset with regs := [((F.PWR_STATUS_LOCAL_READY).addr, BitVec.ofNat 64 ((1 <<< (F.PWR_STATUS_LOCAL_READY).lsb))), ((F.SIG_KEY_INFO_VALID 0).addr, BitVec.ofNat 64 ((1 <<< (F.SIG_KEY_INFO_VALID 0).lsb) + (5 <<< (F.SIG_KEY_INFO_USAGE 0).lsb))), ((F.RNG_STATUS_STATE 0).addr, BitVec.ofNat 64 ((2 <<< (F.RNG_STATUS_STATE 0).lsb)))] }, (({ State.reset with regs := [((F.PWR_STATUS_LOCAL_READY).addr, BitVec.ofNat 64 ((1 <<< (F.PWR_STATUS_LOCAL_READY).lsb))), ((F.SIG_KEY_INFO_VALID 0).addr, BitVec.ofNat 64 ((1 <<< (F.SIG_KEY_INFO_VALID 0).lsb) + (5 <<< (F.SIG_KEY_INFO_USAGE 0).lsb))), ((F.RNG_STATUS_STATE 0).addr, BitVec.ofNat 64 ((2 <<< (F.RNG_STATUS_STATE 0).lsb)))] }).hopTag 2 (({ State.reset with regs := [((F.PWR_STATUS_LOCAL_READY).addr, BitVec.ofNat 64 ((1 <<< (F.PWR_STATUS_LOCAL_READY).lsb))), ((F.SIG_KEY_INFO_VALID 0).addr, BitVec.ofNat 64 ((1 <<< (F.SIG_KEY_INFO_VALID 0).lsb) + (5 <<< (F.SIG_KEY_INFO_USAGE 0).lsb))), ((F.RNG_STATUS_STATE 0).addr, BitVec.ofNat 64 ((2 <<< (F.RNG_STATUS_STATE 0).lsb)))] }).heartbeat (({ State.reset with regs := [((F.PWR_STATUS_LOCAL_READY).addr, BitVec.ofNat 64 ((1 <<< (F.PWR_STATUS_LOCAL_READY).lsb))), ((F.SIG_KEY_INFO_VALID 0).addr, BitVec.ofNat 64 ((1 <<< (F.SIG_KEY_INFO_VALID 0).lsb) + (5 <<< (F.SIG_KEY_INFO_USAGE 0).lsb))), ((F.RNG_STATUS_STATE 0).addr, BitVec.ofNat 64 ((2 <<< (F.RNG_STATUS_STATE 0).lsb)))] }).get F.SUP_CFG_HB_HOPS) ({ State.reset with regs := [((F.PWR_STATUS_LOCAL_READY).addr, BitVec.ofNat 64 ((1 <<< (F.PWR_STATUS_LOCAL_READY).lsb))), ((F.SIG_KEY_INFO_VALID 0).addr, BitVec.ofNat 64 ((1 <<< (F.SIG_KEY_INFO_VALID 0).lsb) + (5 <<< (F.SIG_KEY_INFO_USAGE 0).lsb))), ((F.RNG_STATUS_STATE 0).addr, BitVec.ofNat 64 ((2 <<< (F.RNG_STATUS_STATE 0).lsb)))] }).suspects[0]? ({ State.reset with regs := [((F.PWR_STATUS_LOCAL_READY).addr, BitVec.ofNat 64 ((1 <<< (F.PWR_STATUS_LOCAL_READY).lsb))), ((F.SIG_KEY_INFO_VALID 0).addr, BitVec.ofNat 64 ((1 <<< (F.SIG_KEY_INFO_VALID 0).lsb) + (5 <<< (F.SIG_KEY_INFO_USAGE 0).lsb))), ((F.RNG_STATUS_STATE 0).addr, BitVec.ofNat 64 ((2 <<< (F.RNG_STATUS_STATE 0).lsb)))] }).suspects[1]?)).getD [], ?_⟩
    and_intros
    all_goals first | exact (eq_getD (by decide +kernel)) | decide +kernel,
   ⟨State.reset, by decide +kernel⟩,
   by
    refine ⟨{ State.reset with regs := [((F.PWR_STATUS_LOCAL_READY).addr, BitVec.ofNat 64 ((1 <<< (F.PWR_STATUS_LOCAL_READY).lsb))), ((F.RNG_STATUS_STATE 0).addr, BitVec.ofNat 64 ((2 <<< (F.RNG_STATUS_STATE 0).lsb))), ((F.SUP_WATCH_W0_VALID 2).addr, BitVec.ofNat 64 ((1 <<< (F.SUP_WATCH_W0_VALID 2).lsb) + (1 <<< (F.SUP_WATCH_W0_SUSPECT 2).lsb) + (7 <<< (F.SUP_WATCH_W0_DEVICE 2).lsb))), ((F.SIG_KEY_INFO_VALID 0).addr, BitVec.ofNat 64 ((1 <<< (F.SIG_KEY_INFO_VALID 0).lsb) + (5 <<< (F.SIG_KEY_INFO_USAGE 0).lsb)))] }, 0, (be 1 0 ++ be 1 0 ++ be 2 7 ++ be 4 1 ++ be 4 9 ++ be 4 5 ++ be 8 3 ++ zeros 24), (({ State.reset with regs := [((F.PWR_STATUS_LOCAL_READY).addr, BitVec.ofNat 64 ((1 <<< (F.PWR_STATUS_LOCAL_READY).lsb))), ((F.RNG_STATUS_STATE 0).addr, BitVec.ofNat 64 ((2 <<< (F.RNG_STATUS_STATE 0).lsb))), ((F.SUP_WATCH_W0_VALID 2).addr, BitVec.ofNat 64 ((1 <<< (F.SUP_WATCH_W0_VALID 2).lsb) + (1 <<< (F.SUP_WATCH_W0_SUSPECT 2).lsb) + (7 <<< (F.SUP_WATCH_W0_DEVICE 2).lsb))), ((F.SIG_KEY_INFO_VALID 0).addr, BitVec.ofNat 64 ((1 <<< (F.SIG_KEY_INFO_VALID 0).lsb) + (5 <<< (F.SIG_KEY_INFO_USAGE 0).lsb)))] }).hopTag 2 ((be 1 0 ++ be 1 0 ++ be 2 7 ++ be 4 1 ++ be 4 9 ++ be 4 5 ++ be 8 3 ++ zeros 24))).getD [], ?_⟩
    and_intros
    all_goals first | exact (eq_getD (by decide +kernel)) | decide +kernel,
   by
    refine ⟨{ State.reset with regs := [((F.PWR_STATUS_LOCAL_READY).addr, BitVec.ofNat 64 ((1 <<< (F.PWR_STATUS_LOCAL_READY).lsb))), ((F.SIG_KEY_INFO_VALID 0).addr, BitVec.ofNat 64 ((1 <<< (F.SIG_KEY_INFO_VALID 0).lsb) + (5 <<< (F.SIG_KEY_INFO_USAGE 0).lsb))), ((F.RNG_STATUS_STATE 0).addr, BitVec.ofNat 64 ((2 <<< (F.RNG_STATUS_STATE 0).lsb)))], units := { hb := [(7, ({ boots := [(3, 5, 0)] } : HbPeer))] } }, 0, (be 1 0 ++ be 1 0 ++ be 2 7 ++ be 4 1 ++ be 4 9 ++ be 4 5 ++ be 8 3 ++ zeros 24), (({ State.reset with regs := [((F.PWR_STATUS_LOCAL_READY).addr, BitVec.ofNat 64 ((1 <<< (F.PWR_STATUS_LOCAL_READY).lsb))), ((F.SIG_KEY_INFO_VALID 0).addr, BitVec.ofNat 64 ((1 <<< (F.SIG_KEY_INFO_VALID 0).lsb) + (5 <<< (F.SIG_KEY_INFO_USAGE 0).lsb))), ((F.RNG_STATUS_STATE 0).addr, BitVec.ofNat 64 ((2 <<< (F.RNG_STATUS_STATE 0).lsb)))], units := { hb := [(7, ({ boots := [(3, 5, 0)] } : HbPeer))] } }).hopTag 2 ((be 1 0 ++ be 1 0 ++ be 2 7 ++ be 4 1 ++ be 4 9 ++ be 4 5 ++ be 8 3 ++ zeros 24))).getD [], ?_⟩
    and_intros
    all_goals first | exact (eq_getD (by decide +kernel)) | decide +kernel,
   by
    refine ⟨{ State.reset with regs := [((F.PWR_STATUS_LOCAL_READY).addr, BitVec.ofNat 64 ((1 <<< (F.PWR_STATUS_LOCAL_READY).lsb))), ((F.SUP_INCARNATION_INCARNATION 7).addr, 5), ((F.SIG_KEY_INFO_VALID 0).addr, BitVec.ofNat 64 ((1 <<< (F.SIG_KEY_INFO_VALID 0).lsb) + (5 <<< (F.SIG_KEY_INFO_USAGE 0).lsb))), ((F.RNG_STATUS_STATE 0).addr, BitVec.ofNat 64 ((2 <<< (F.RNG_STATUS_STATE 0).lsb)))] }, 0, (be 1 0 ++ be 1 0 ++ be 2 7 ++ be 4 1 ++ be 4 9 ++ be 4 5 ++ be 8 3 ++ zeros 24), (({ State.reset with regs := [((F.PWR_STATUS_LOCAL_READY).addr, BitVec.ofNat 64 ((1 <<< (F.PWR_STATUS_LOCAL_READY).lsb))), ((F.SUP_INCARNATION_INCARNATION 7).addr, 5), ((F.SIG_KEY_INFO_VALID 0).addr, BitVec.ofNat 64 ((1 <<< (F.SIG_KEY_INFO_VALID 0).lsb) + (5 <<< (F.SIG_KEY_INFO_USAGE 0).lsb))), ((F.RNG_STATUS_STATE 0).addr, BitVec.ofNat 64 ((2 <<< (F.RNG_STATUS_STATE 0).lsb)))] }).hopTag 2 ((be 1 0 ++ be 1 0 ++ be 2 7 ++ be 4 1 ++ be 4 9 ++ be 4 5 ++ be 8 3 ++ zeros 24))).getD [], ?_⟩
    and_intros
    all_goals first | exact (eq_getD (by decide +kernel)) | decide +kernel,
   by
    refine ⟨{ State.reset with regs := [((F.PWR_STATUS_LOCAL_READY).addr, BitVec.ofNat 64 ((1 <<< (F.PWR_STATUS_LOCAL_READY).lsb))), ((F.SUP_ROLE_ROLE_ID).addr, BitVec.ofNat 64 ((9 <<< (F.SUP_ROLE_ROLE_ID).lsb))), ((F.SIG_KEY_INFO_VALID 0).addr, BitVec.ofNat 64 ((1 <<< (F.SIG_KEY_INFO_VALID 0).lsb) + (5 <<< (F.SIG_KEY_INFO_USAGE 0).lsb))), ((F.RNG_STATUS_STATE 0).addr, BitVec.ofNat 64 ((2 <<< (F.RNG_STATUS_STATE 0).lsb)))] }, 0, (be 1 0 ++ be 1 0 ++ be 2 7 ++ be 4 1 ++ be 4 9 ++ be 4 5 ++ be 8 3 ++ zeros 24), (({ State.reset with regs := [((F.PWR_STATUS_LOCAL_READY).addr, BitVec.ofNat 64 ((1 <<< (F.PWR_STATUS_LOCAL_READY).lsb))), ((F.SUP_ROLE_ROLE_ID).addr, BitVec.ofNat 64 ((9 <<< (F.SUP_ROLE_ROLE_ID).lsb))), ((F.SIG_KEY_INFO_VALID 0).addr, BitVec.ofNat 64 ((1 <<< (F.SIG_KEY_INFO_VALID 0).lsb) + (5 <<< (F.SIG_KEY_INFO_USAGE 0).lsb))), ((F.RNG_STATUS_STATE 0).addr, BitVec.ofNat 64 ((2 <<< (F.RNG_STATUS_STATE 0).lsb)))] }).hopTag 2 ((be 1 0 ++ be 1 0 ++ be 2 7 ++ be 4 1 ++ be 4 9 ++ be 4 5 ++ be 8 3 ++ zeros 24))).getD [], ?_⟩
    and_intros
    all_goals first | exact (eq_getD (by decide +kernel)) | decide +kernel,
   ⟨{ State.reset with regs := [((F.PWR_STATUS_LOCAL_READY).addr, BitVec.ofNat 64 ((1 <<< (F.PWR_STATUS_LOCAL_READY).lsb))), ((F.RNG_STATUS_STATE 0).addr, BitVec.ofNat 64 ((2 <<< (F.RNG_STATUS_STATE 0).lsb)))] }, 0, [], by decide +kernel⟩,
   ⟨State.reset, 0, by decide +kernel⟩,
   ⟨{ State.reset with regs := [((F.PWR_STATUS_LOCAL_READY).addr, BitVec.ofNat 64 ((1 <<< (F.PWR_STATUS_LOCAL_READY).lsb))), ((F.SUP_WATCH_W0_VALID 2).addr, BitVec.ofNat 64 ((1 <<< (F.SUP_WATCH_W0_VALID 2).lsb) + (7 <<< (F.SUP_WATCH_W0_DEVICE 2).lsb)))], keep := { elapsed := tickS }, units := { hb := [(7, ({ bootId := 3, hstate := 0, roleId := 9, incarnation := 1, quorum := [0, 8], heard := true } : HbPeer))] } }, 2, by decide +kernel⟩,
   ⟨State.reset, 2, by decide +kernel⟩,
   ⟨{ State.reset with regs := [((F.PWR_STATUS_LOCAL_READY).addr, BitVec.ofNat 64 ((1 <<< (F.PWR_STATUS_LOCAL_READY).lsb)))], keep := { elapsed := tickMs * 20 }, units := { sup := ({ waking := [(2, 0, 0)] } : Supervisor) } }, 2, 0, 0, by decide +kernel⟩,
   ⟨State.reset, 2, by decide +kernel⟩,
   ⟨{ State.reset with regs := [((F.PWR_STATUS_LOCAL_READY).addr, BitVec.ofNat 64 ((1 <<< (F.PWR_STATUS_LOCAL_READY).lsb))), ((F.SVC_CFG_ENABLE).addr, BitVec.ofNat 64 ((1 <<< (F.SVC_CFG_ENABLE).lsb))), ((F.SUP_SPARE_WAKE_SELECT 1).addr, 16)] }, 0xA5C30101, by decide +kernel⟩,
   ⟨State.reset, 0, 3, 1, by decide +kernel⟩⟩

set_option maxRecDepth 20000 in
theorem witness_DeclarationsAndFenceNotices :
    (∃ s : State, ∃ e : Nat, ∃ x : CoVote, ∃ g : List Byte, (e < 16) ∧ (s.up = true) ∧ (s.fenced = false) ∧ (s.pending = []) ∧ (s.is (F.SUP_WATCH_W0_VALID e) = true) ∧ (s.is (F.SUP_WATCH_W0_SUSPECT e) = true) ∧ ((s.peer (s.get (F.SUP_WATCH_W0_DEVICE e))).quorum.contains s.device = true) ∧ ((s.peer (s.get (F.SUP_WATCH_W0_DEVICE e))).at_ + (s.get F.SUP_TIMERS_DEAD_MS + ((s.peer (s.get (F.SUP_WATCH_W0_DEVICE e))).quorum.filter (fun q => q < s.device)).length) * tickMs ≤ s.keep.elapsed) ∧ (s.units.sup.accepted.contains ((s.get (F.SUP_WATCH_W0_DEVICE e)), s.heldIncarnation (s.get (F.SUP_WATCH_W0_DEVICE e))) = false) ∧ (s.units.sup.coVotes = [x]) ∧ (x.subject = (s.get (F.SUP_WATCH_W0_DEVICE e))) ∧ (x.incarnation = s.heldIncarnation (s.get (F.SUP_WATCH_W0_DEVICE e))) ∧ (x.voter ≠ s.device) ∧ ((s.peer (s.get (F.SUP_WATCH_W0_DEVICE e))).quorum.contains x.voter = true) ∧ (s.keep.elapsed ≤ x.at_ + s.get F.SUP_TIMERS_DEAD_MS * tickMs) ∧ (x.msg.length = 64) ∧ (s.heldIncarnation (s.get (F.SUP_WATCH_W0_DEVICE e)) + 1 < 2 ^ 32) ∧ (s.hopTag 3 (s.noticeBody (s.get (F.SUP_WATCH_W0_DEVICE e)) (s.heldIncarnation (s.get (F.SUP_WATCH_W0_DEVICE e))) x.msg) = some g)) ∧
    (∃ s : State, ∃ e : Nat, (16 ≤ e ∨ s.up = false ∨ s.fenced = true ∨ s.is (F.SUP_WATCH_W0_VALID e) = false ∨ s.is (F.SUP_WATCH_W0_SUSPECT e) = false ∨ (s.peer (s.get (F.SUP_WATCH_W0_DEVICE e))).quorum.contains s.device = false ∨ s.keep.elapsed < (s.peer (s.get (F.SUP_WATCH_W0_DEVICE e))).at_ + s.get F.SUP_TIMERS_DEAD_MS * tickMs ∨ s.units.sup.coVotes = [])) ∧
    (∃ s : State, ∃ r : Nat, ∃ v : List Byte, ∃ gv : List Byte, ∃ b : List Byte, ∃ g : List Byte, (r < 8) ∧ (s.ringUp r = true) ∧ (b.length = 3552) ∧ (s.hopTag 3 b = some g) ∧ (slice b 32 64 = v ++ gv) ∧ (v.length = 48) ∧ (s.hopTag 2 v = some gv) ∧ (num b 1 1 = 1) ∧ ((num b 2 2 % 16384) ≠ s.device) ∧ (s.units.sup.notices = []) ∧ (s.units.sup.accepted.contains ((num b 2 2 % 16384), num b 4 4) = false) ∧ (num v 32 1 ≥ 128) ∧ (num v 32 2 % 16384 = (num b 2 2 % 16384)) ∧ (num v 36 4 = num b 4 4) ∧ (num b 12 2 % 16384 ≠ num v 2 2 % 16384) ∧ (s.quorumOf (num b 2 2 % 16384) = [num b 12 2 % 16384, num v 2 2 % 16384]) ∧ (s.identityOf (num b 12 2 % 16384) = none) ∧ (num b 4 4 + 1 < 2 ^ 32) ∧ (s.heldIncarnation (num b 2 2 % 16384) ≤ num b 4 4)) ∧
    (∃ s : State, ∃ r : Nat, ∃ x : List Byte, (r < 8) ∧ (s.ringUp r = true) ∧ (x.length ≠ 3568)) ∧
    (∃ s : State, ∃ r : Nat, ∃ b : List Byte, ∃ g : List Byte, (r < 8) ∧ (s.ringUp r = true) ∧ (b.length = 3552) ∧ (s.hopTag 3 b = some g) ∧ (s.units.sup.accepted.contains ((num b 2 2 % 16384), num b 4 4) = true)) ∧
    (∃ s : State, ∃ r : Nat, ∃ b : List Byte, ∃ g : List Byte, (r < 8) ∧ (s.ringUp r = true) ∧ (b.length = 3552) ∧ (s.hopTag 3 b = some g) ∧ (s.units.sup.accepted.contains ((num b 2 2 % 16384), num b 4 4) = false) ∧ (s.noticeOwn (b ++ g) = true) ∧ (s.fenced = false) ∧ (s.isLive = true)) ∧
    (∃ s : State, ∃ r : Nat, (8 ≤ r ∨ s.ringUp r = false)) :=
  ⟨by
    refine ⟨{ State.reset with regs := [((F.PWR_STATUS_LOCAL_READY).addr, BitVec.ofNat 64 ((1 <<< (F.PWR_STATUS_LOCAL_READY).lsb))), ((F.RNG_STATUS_STATE 0).addr, BitVec.ofNat 64 ((2 <<< (F.RNG_STATUS_STATE 0).lsb))), ((F.SUP_WATCH_W0_VALID 2).addr, BitVec.ofNat 64 ((1 <<< (F.SUP_WATCH_W0_VALID 2).lsb) + (1 <<< (F.SUP_WATCH_W0_SUSPECT 2).lsb) + (7 <<< (F.SUP_WATCH_W0_DEVICE 2).lsb))), ((F.SIG_KEY_INFO_VALID 0).addr, BitVec.ofNat 64 ((1 <<< (F.SIG_KEY_INFO_VALID 0).lsb) + (5 <<< (F.SIG_KEY_INFO_USAGE 0).lsb)))], keep := { elapsed := tickS }, units := { hb := [(7, ({ bootId := 3, hstate := 0, roleId := 9, incarnation := 1, quorum := [0, 8], heard := true } : HbPeer))], sup := ({ coVotes := [{ voter := 8, subject := 7, incarnation := 0, at_ := tickS, msg := zeros 64 }] } : Supervisor) } }, 2, { voter := 8, subject := 7, incarnation := 0, at_ := tickS, msg := zeros 64 }, (({ State.reset with regs := [((F.PWR_STATUS_LOCAL_READY).addr, BitVec.ofNat 64 ((1 <<< (F.PWR_STATUS_LOCAL_READY).lsb))), ((F.RNG_STATUS_STATE 0).addr, BitVec.ofNat 64 ((2 <<< (F.RNG_STATUS_STATE 0).lsb))), ((F.SUP_WATCH_W0_VALID 2).addr, BitVec.ofNat 64 ((1 <<< (F.SUP_WATCH_W0_VALID 2).lsb) + (1 <<< (F.SUP_WATCH_W0_SUSPECT 2).lsb) + (7 <<< (F.SUP_WATCH_W0_DEVICE 2).lsb))), ((F.SIG_KEY_INFO_VALID 0).addr, BitVec.ofNat 64 ((1 <<< (F.SIG_KEY_INFO_VALID 0).lsb) + (5 <<< (F.SIG_KEY_INFO_USAGE 0).lsb)))], keep := { elapsed := tickS }, units := { hb := [(7, ({ bootId := 3, hstate := 0, roleId := 9, incarnation := 1, quorum := [0, 8], heard := true } : HbPeer))], sup := ({ coVotes := [{ voter := 8, subject := 7, incarnation := 0, at_ := tickS, msg := zeros 64 }] } : Supervisor) } }).hopTag 3 (({ State.reset with regs := [((F.PWR_STATUS_LOCAL_READY).addr, BitVec.ofNat 64 ((1 <<< (F.PWR_STATUS_LOCAL_READY).lsb))), ((F.RNG_STATUS_STATE 0).addr, BitVec.ofNat 64 ((2 <<< (F.RNG_STATUS_STATE 0).lsb))), ((F.SUP_WATCH_W0_VALID 2).addr, BitVec.ofNat 64 ((1 <<< (F.SUP_WATCH_W0_VALID 2).lsb) + (1 <<< (F.SUP_WATCH_W0_SUSPECT 2).lsb) + (7 <<< (F.SUP_WATCH_W0_DEVICE 2).lsb))), ((F.SIG_KEY_INFO_VALID 0).addr, BitVec.ofNat 64 ((1 <<< (F.SIG_KEY_INFO_VALID 0).lsb) + (5 <<< (F.SIG_KEY_INFO_USAGE 0).lsb)))], keep := { elapsed := tickS }, units := { hb := [(7, ({ bootId := 3, hstate := 0, roleId := 9, incarnation := 1, quorum := [0, 8], heard := true } : HbPeer))], sup := ({ coVotes := [{ voter := 8, subject := 7, incarnation := 0, at_ := tickS, msg := zeros 64 }] } : Supervisor) } }).noticeBody 7 0 (zeros 64))).getD [], ?_⟩
    and_intros
    all_goals first | exact (eq_getD (by decide +kernel)) | decide +kernel,
   ⟨State.reset, 2, by decide +kernel⟩,
   by
    refine ⟨{ State.reset with regs := [((F.PWR_STATUS_LOCAL_READY).addr, BitVec.ofNat 64 ((1 <<< (F.PWR_STATUS_LOCAL_READY).lsb))), ((F.SUP_WATCH_W0_VALID 2).addr, BitVec.ofNat 64 ((1 <<< (F.SUP_WATCH_W0_VALID 2).lsb) + (1 <<< (F.SUP_WATCH_W0_SUSPECT 2).lsb) + (7 <<< (F.SUP_WATCH_W0_DEVICE 2).lsb))), ((F.SIG_KEY_INFO_VALID 0).addr, BitVec.ofNat 64 ((1 <<< (F.SIG_KEY_INFO_VALID 0).lsb) + (5 <<< (F.SIG_KEY_INFO_USAGE 0).lsb))), ((F.RNG_STATUS_STATE 0).addr, BitVec.ofNat 64 ((2 <<< (F.RNG_STATUS_STATE 0).lsb)))], units := { hb := [(7, ({ bootId := 3, hstate := 0, roleId := 9, incarnation := 1, quorum := [6, 8], heard := true } : HbPeer))] } }, 0, (be 1 0 ++ be 1 0 ++ be 2 8 ++ zeros 28 ++ (be 2 (32768 + 7) ++ be 2 0 ++ be 4 1) ++ zeros 8), (({ State.reset with regs := [((F.PWR_STATUS_LOCAL_READY).addr, BitVec.ofNat 64 ((1 <<< (F.PWR_STATUS_LOCAL_READY).lsb))), ((F.SUP_WATCH_W0_VALID 2).addr, BitVec.ofNat 64 ((1 <<< (F.SUP_WATCH_W0_VALID 2).lsb) + (1 <<< (F.SUP_WATCH_W0_SUSPECT 2).lsb) + (7 <<< (F.SUP_WATCH_W0_DEVICE 2).lsb))), ((F.SIG_KEY_INFO_VALID 0).addr, BitVec.ofNat 64 ((1 <<< (F.SIG_KEY_INFO_VALID 0).lsb) + (5 <<< (F.SIG_KEY_INFO_USAGE 0).lsb))), ((F.RNG_STATUS_STATE 0).addr, BitVec.ofNat 64 ((2 <<< (F.RNG_STATUS_STATE 0).lsb)))], units := { hb := [(7, ({ bootId := 3, hstate := 0, roleId := 9, incarnation := 1, quorum := [6, 8], heard := true } : HbPeer))] } }).hopTag 2 ((be 1 0 ++ be 1 0 ++ be 2 8 ++ zeros 28 ++ (be 2 (32768 + 7) ++ be 2 0 ++ be 4 1) ++ zeros 8))).getD [], (be 1 0 ++ be 1 1 ++ be 2 7 ++ be 4 1 ++ zeros 4 ++ be 2 6 ++ zeros 18 ++ (((be 1 0 ++ be 1 0 ++ be 2 8 ++ zeros 28 ++ (be 2 (32768 + 7) ++ be 2 0 ++ be 4 1) ++ zeros 8)) ++ ((({ State.reset with regs := [((F.PWR_STATUS_LOCAL_READY).addr, BitVec.ofNat 64 ((1 <<< (F.PWR_STATUS_LOCAL_READY).lsb))), ((F.SUP_WATCH_W0_VALID 2).addr, BitVec.ofNat 64 ((1 <<< (F.SUP_WATCH_W0_VALID 2).lsb) + (1 <<< (F.SUP_WATCH_W0_SUSPECT 2).lsb) + (7 <<< (F.SUP_WATCH_W0_DEVICE 2).lsb))), ((F.SIG_KEY_INFO_VALID 0).addr, BitVec.ofNat 64 ((1 <<< (F.SIG_KEY_INFO_VALID 0).lsb) + (5 <<< (F.SIG_KEY_INFO_USAGE 0).lsb))), ((F.RNG_STATUS_STATE 0).addr, BitVec.ofNat 64 ((2 <<< (F.RNG_STATUS_STATE 0).lsb)))], units := { hb := [(7, ({ bootId := 3, hstate := 0, roleId := 9, incarnation := 1, quorum := [6, 8], heard := true } : HbPeer))] } }).hopTag 2 ((be 1 0 ++ be 1 0 ++ be 2 8 ++ zeros 28 ++ (be 2 (32768 + 7) ++ be 2 0 ++ be 4 1) ++ zeros 8))).getD [])) ++ zeros 3456), (({ State.reset with regs := [((F.PWR_STATUS_LOCAL_READY).addr, BitVec.ofNat 64 ((1 <<< (F.PWR_STATUS_LOCAL_READY).lsb))), ((F.SUP_WATCH_W0_VALID 2).addr, BitVec.ofNat 64 ((1 <<< (F.SUP_WATCH_W0_VALID 2).lsb) + (1 <<< (F.SUP_WATCH_W0_SUSPECT 2).lsb) + (7 <<< (F.SUP_WATCH_W0_DEVICE 2).lsb))), ((F.SIG_KEY_INFO_VALID 0).addr, BitVec.ofNat 64 ((1 <<< (F.SIG_KEY_INFO_VALID 0).lsb) + (5 <<< (F.SIG_KEY_INFO_USAGE 0).lsb))), ((F.RNG_STATUS_STATE 0).addr, BitVec.ofNat 64 ((2 <<< (F.RNG_STATUS_STATE 0).lsb)))], units := { hb := [(7, ({ bootId := 3, hstate := 0, roleId := 9, incarnation := 1, quorum := [6, 8], heard := true } : HbPeer))] } }).hopTag 3 ((be 1 0 ++ be 1 1 ++ be 2 7 ++ be 4 1 ++ zeros 4 ++ be 2 6 ++ zeros 18 ++ (((be 1 0 ++ be 1 0 ++ be 2 8 ++ zeros 28 ++ (be 2 (32768 + 7) ++ be 2 0 ++ be 4 1) ++ zeros 8)) ++ ((({ State.reset with regs := [((F.PWR_STATUS_LOCAL_READY).addr, BitVec.ofNat 64 ((1 <<< (F.PWR_STATUS_LOCAL_READY).lsb))), ((F.SUP_WATCH_W0_VALID 2).addr, BitVec.ofNat 64 ((1 <<< (F.SUP_WATCH_W0_VALID 2).lsb) + (1 <<< (F.SUP_WATCH_W0_SUSPECT 2).lsb) + (7 <<< (F.SUP_WATCH_W0_DEVICE 2).lsb))), ((F.SIG_KEY_INFO_VALID 0).addr, BitVec.ofNat 64 ((1 <<< (F.SIG_KEY_INFO_VALID 0).lsb) + (5 <<< (F.SIG_KEY_INFO_USAGE 0).lsb))), ((F.RNG_STATUS_STATE 0).addr, BitVec.ofNat 64 ((2 <<< (F.RNG_STATUS_STATE 0).lsb)))], units := { hb := [(7, ({ bootId := 3, hstate := 0, roleId := 9, incarnation := 1, quorum := [6, 8], heard := true } : HbPeer))] } }).hopTag 2 ((be 1 0 ++ be 1 0 ++ be 2 8 ++ zeros 28 ++ (be 2 (32768 + 7) ++ be 2 0 ++ be 4 1) ++ zeros 8))).getD [])) ++ zeros 3456))).getD [], ?_⟩
    and_intros
    all_goals first | exact (eq_getD (by decide +kernel)) | exact (rfl) | decide +kernel,
   ⟨{ State.reset with regs := [((F.PWR_STATUS_LOCAL_READY).addr, BitVec.ofNat 64 ((1 <<< (F.PWR_STATUS_LOCAL_READY).lsb))), ((F.RNG_STATUS_STATE 0).addr, BitVec.ofNat 64 ((2 <<< (F.RNG_STATUS_STATE 0).lsb)))] }, 0, [], by decide +kernel⟩,
   by
    refine ⟨{ State.reset with regs := [((F.PWR_STATUS_LOCAL_READY).addr, BitVec.ofNat 64 ((1 <<< (F.PWR_STATUS_LOCAL_READY).lsb))), ((F.SIG_KEY_INFO_VALID 0).addr, BitVec.ofNat 64 ((1 <<< (F.SIG_KEY_INFO_VALID 0).lsb) + (5 <<< (F.SIG_KEY_INFO_USAGE 0).lsb))), ((F.RNG_STATUS_STATE 0).addr, BitVec.ofNat 64 ((2 <<< (F.RNG_STATUS_STATE 0).lsb)))], units := { sup := ({ accepted := [(0, 0)] } : Supervisor) } }, 0, (zeros 3552), (({ State.reset with regs := [((F.PWR_STATUS_LOCAL_READY).addr, BitVec.ofNat 64 ((1 <<< (F.PWR_STATUS_LOCAL_READY).lsb))), ((F.SIG_KEY_INFO_VALID 0).addr, BitVec.ofNat 64 ((1 <<< (F.SIG_KEY_INFO_VALID 0).lsb) + (5 <<< (F.SIG_KEY_INFO_USAGE 0).lsb))), ((F.RNG_STATUS_STATE 0).addr, BitVec.ofNat 64 ((2 <<< (F.RNG_STATUS_STATE 0).lsb)))], units := { sup := ({ accepted := [(0, 0)] } : Supervisor) } }).hopTag 3 ((zeros 3552))).getD [], ?_⟩
    and_intros
    all_goals first | exact (eq_getD (by decide +kernel)) | decide +kernel,
   by
    refine ⟨{ State.reset with regs := [((F.PWR_STATUS_LOCAL_READY).addr, BitVec.ofNat 64 ((1 <<< (F.PWR_STATUS_LOCAL_READY).lsb))), ((F.SIG_KEY_INFO_VALID 0).addr, BitVec.ofNat 64 ((1 <<< (F.SIG_KEY_INFO_VALID 0).lsb) + (5 <<< (F.SIG_KEY_INFO_USAGE 0).lsb))), ((F.RNG_STATUS_STATE 0).addr, BitVec.ofNat 64 ((2 <<< (F.RNG_STATUS_STATE 0).lsb)))] }, 0, (zeros 3552), (({ State.reset with regs := [((F.PWR_STATUS_LOCAL_READY).addr, BitVec.ofNat 64 ((1 <<< (F.PWR_STATUS_LOCAL_READY).lsb))), ((F.SIG_KEY_INFO_VALID 0).addr, BitVec.ofNat 64 ((1 <<< (F.SIG_KEY_INFO_VALID 0).lsb) + (5 <<< (F.SIG_KEY_INFO_USAGE 0).lsb))), ((F.RNG_STATUS_STATE 0).addr, BitVec.ofNat 64 ((2 <<< (F.RNG_STATUS_STATE 0).lsb)))] }).hopTag 3 ((zeros 3552))).getD [], ?_⟩
    and_intros
    all_goals first | exact (eq_getD (by decide +kernel)) | decide +kernel,
   ⟨State.reset, 0, by decide +kernel⟩⟩

set_option maxRecDepth 20000 in
theorem witness_ExchangesAndRoles :
    (∃ s : State, ∃ r : Nat, ∃ x : List Byte, ∃ i : Instr, ∃ k : Nat, (i, k) ∈ [((.exchangeOffer r x : Instr), 1), (.exchangeAccept r x, 2), (.exchangeAssign r x, 3)] ∧ (r < 8) ∧ (s.ringUp r = true) ∧ (s.exchangeOk r k x = false)) ∧
    (∃ s : State, ∃ r : Nat, ∃ x : List Byte, ∃ i : Instr, ∃ k : Nat, (i, k) ∈ [((.exchangeOffer r x : Instr), 1), (.exchangeAccept r x, 2), (.exchangeAssign r x, 3)] ∧ (8 ≤ r ∨ s.ringUp r = false)) ∧
    (∃ s : State, ∃ r : Nat, ∃ x : List Byte, (r < 8) ∧ (s.ringUp r = true) ∧ (s.exchanges r = true) ∧ (num x 2 2 % 16384 ≠ s.device) ∧ ((s.exch r).offer = none) ∧ ((s.exch r).acceptOk = false)) ∧
    (∃ s : State, ∃ r : Nat, ∃ x : List Byte, (r < 8) ∧ (s.ringUp r = true) ∧ (s.exchanges r = true) ∧ (num x 2 2 % 16384 ≠ s.device) ∧ ((s.exch r).offer = none) ∧ ((s.exch r).acceptOk = true) ∧ (s.units.sup.waking = [])) ∧
    (∃ s : State, ∃ r : Nat, ∃ x : List Byte, ∃ y : List Byte, (r < 8) ∧ (s.ringUp r = true) ∧ (s.exchanges r = true) ∧ (num x 2 2 % 16384 ≠ s.device) ∧ ((s.exch r).offer = some y) ∧ ((s.exch r).acceptOk = false) ∧ (s.units.sup.waking = [])) ∧
    (∃ s : State, ∃ r : Nat, ∃ x : List Byte, (r < 8) ∧ (s.ringUp r = true) ∧ (s.exchanges r = true) ∧ (num x 2 2 % 16384 ≠ s.device) ∧ ((s.exch r).offer = none)) ∧
    (∃ s : State, ∃ r : Nat, ∃ x : List Byte, (r < 8) ∧ (s.ringUp r = true) ∧ (num x 2 2 % 16384 ≠ s.device) ∧ (s.pending = []) ∧ (s.is (F.SUP_PEER_W0_EXCHANGED r) = true) ∧ (s.get (F.SUP_PEER_W0_DEVICE r) = num x 2 2 % 16384) ∧ (s.topology.quorum.contains (num x 2 2 % 16384) = true) ∧ (s.is F.SUP_ROLE_STATUS_ASSIGN_WAIT = true)) ∧
    (∃ s : State, ∃ r : Nat, (s.exchanges r = true) ∧ ((s.exch r).active = true) ∧ ((s.exch r).sentAt + 2 * tickMs ≤ s.keep.elapsed) ∧ (s.keep.elapsed < (s.exch r).since + 10 * tickMs)) ∧
    (∃ s : State, ∃ r : Nat, (s.exchanges r = false ∨ (s.exch r).active = false ∨ s.keep.elapsed < (s.exch r).sentAt + 2 * tickMs ∨ (s.exch r).since + 10 * tickMs ≤ s.keep.elapsed)) ∧
    (∃ s : State, ∃ r : Nat, (s.exchanges r = true) ∧ ((s.exch r).active = true) ∧ ((s.exch r).since + 10 * tickMs ≤ s.keep.elapsed)) ∧
    (∃ s : State, ∃ r : Nat, (s.exchanges r = false ∨ (s.exch r).active = false ∨ s.keep.elapsed < (s.exch r).since + 10 * tickMs)) :=
  ⟨⟨{ State.reset with regs := [((F.PWR_STATUS_LOCAL_READY).addr, BitVec.ofNat 64 ((1 <<< (F.PWR_STATUS_LOCAL_READY).lsb))), ((F.RNG_STATUS_STATE 0).addr, BitVec.ofNat 64 ((2 <<< (F.RNG_STATUS_STATE 0).lsb))), ((F.SIG_KEY_INFO_VALID 0).addr, BitVec.ofNat 64 ((1 <<< (F.SIG_KEY_INFO_VALID 0).lsb) + (5 <<< (F.SIG_KEY_INFO_USAGE 0).lsb)))] }, 0, [], .exchangeOffer 0 [], 1, by decide +kernel⟩,
   ⟨State.reset, 0, [], .exchangeOffer 0 [], 1, by decide +kernel⟩,
   ⟨{ State.reset with regs := [((F.PWR_STATUS_LOCAL_READY).addr, BitVec.ofNat 64 ((1 <<< (F.PWR_STATUS_LOCAL_READY).lsb))), ((F.RNG_STATUS_STATE 0).addr, BitVec.ofNat 64 ((2 <<< (F.RNG_STATUS_STATE 0).lsb))), ((F.SIG_KEY_INFO_VALID 0).addr, BitVec.ofNat 64 ((1 <<< (F.SIG_KEY_INFO_VALID 0).lsb) + (5 <<< (F.SIG_KEY_INFO_USAGE 0).lsb)))] }, 0, (be 2 1 ++ be 2 7 ++ zeros 7196), by decide +kernel⟩,
   ⟨{ State.reset with regs := [((F.PWR_STATUS_LOCAL_READY).addr, BitVec.ofNat 64 ((1 <<< (F.PWR_STATUS_LOCAL_READY).lsb))), ((F.RNG_STATUS_STATE 0).addr, BitVec.ofNat 64 ((2 <<< (F.RNG_STATUS_STATE 0).lsb))), ((F.SIG_KEY_INFO_VALID 0).addr, BitVec.ofNat 64 ((1 <<< (F.SIG_KEY_INFO_VALID 0).lsb) + (5 <<< (F.SIG_KEY_INFO_USAGE 0).lsb)))], units := { exch := [(0, ({ acceptOk := true, nonce := zeros 12 } : Exchange))] } }, 0, (be 2 1 ++ be 2 7 ++ zeros 7196), by decide +kernel⟩,
   ⟨{ State.reset with regs := [((F.PWR_STATUS_LOCAL_READY).addr, BitVec.ofNat 64 ((1 <<< (F.PWR_STATUS_LOCAL_READY).lsb))), ((F.RNG_STATUS_STATE 0).addr, BitVec.ofNat 64 ((2 <<< (F.RNG_STATUS_STATE 0).lsb))), ((F.SIG_KEY_INFO_VALID 0).addr, BitVec.ofNat 64 ((1 <<< (F.SIG_KEY_INFO_VALID 0).lsb) + (5 <<< (F.SIG_KEY_INFO_USAGE 0).lsb)))], units := { exch := [(0, ({ offer := some [], nonce := zeros 12 } : Exchange))] } }, 0, (be 2 2 ++ be 2 7 ++ zeros 7196), [], by decide +kernel⟩,
   ⟨{ State.reset with regs := [((F.PWR_STATUS_LOCAL_READY).addr, BitVec.ofNat 64 ((1 <<< (F.PWR_STATUS_LOCAL_READY).lsb))), ((F.RNG_STATUS_STATE 0).addr, BitVec.ofNat 64 ((2 <<< (F.RNG_STATUS_STATE 0).lsb))), ((F.SIG_KEY_INFO_VALID 0).addr, BitVec.ofNat 64 ((1 <<< (F.SIG_KEY_INFO_VALID 0).lsb) + (5 <<< (F.SIG_KEY_INFO_USAGE 0).lsb)))], units := { exch := [(0, ({ nonce := zeros 12 } : Exchange))] } }, 0, (be 2 2 ++ be 2 7 ++ zeros 7196), by decide +kernel⟩,
   ⟨{ State.reset with regs := [((F.PWR_STATUS_LOCAL_READY).addr, BitVec.ofNat 64 ((1 <<< (F.PWR_STATUS_LOCAL_READY).lsb))), ((F.SUP_PEER_W0_EXCHANGED 0).addr, BitVec.ofNat 64 ((1 <<< (F.SUP_PEER_W0_EXCHANGED 0).lsb) + (7 <<< (F.SUP_PEER_W0_DEVICE 0).lsb))), ((F.SUP_ROLE_STATUS_ASSIGN_WAIT).addr, BitVec.ofNat 64 ((1 <<< (F.SUP_ROLE_STATUS_ASSIGN_WAIT).lsb))), ((F.RNG_STATUS_STATE 0).addr, BitVec.ofNat 64 ((2 <<< (F.RNG_STATUS_STATE 0).lsb))), ((F.SIG_KEY_INFO_VALID 0).addr, BitVec.ofNat 64 ((1 <<< (F.SIG_KEY_INFO_VALID 0).lsb) + (5 <<< (F.SIG_KEY_INFO_USAGE 0).lsb)))], units := { topo := some ({ quorum := [7] } : Topology), exch := [(0, ({ nonce := zeros 12 } : Exchange))] } }, 0, (be 2 3 ++ be 2 7 ++ zeros 7196), by decide +kernel⟩,
   ⟨{ State.reset with regs := [((F.PWR_STATUS_LOCAL_READY).addr, BitVec.ofNat 64 ((1 <<< (F.PWR_STATUS_LOCAL_READY).lsb))), ((F.RNG_STATUS_STATE 0).addr, BitVec.ofNat 64 ((2 <<< (F.RNG_STATUS_STATE 0).lsb))), ((F.SIG_KEY_INFO_VALID 0).addr, BitVec.ofNat 64 ((1 <<< (F.SIG_KEY_INFO_VALID 0).lsb) + (5 <<< (F.SIG_KEY_INFO_USAGE 0).lsb)))], keep := { elapsed := 2 * tickMs }, units := { exch := [(0, ({ active := true } : Exchange))] } }, 0, by decide +kernel⟩,
   ⟨State.reset, 0, by decide +kernel⟩,
   ⟨{ State.reset with regs := [((F.PWR_STATUS_LOCAL_READY).addr, BitVec.ofNat 64 ((1 <<< (F.PWR_STATUS_LOCAL_READY).lsb))), ((F.RNG_STATUS_STATE 0).addr, BitVec.ofNat 64 ((2 <<< (F.RNG_STATUS_STATE 0).lsb))), ((F.SIG_KEY_INFO_VALID 0).addr, BitVec.ofNat 64 ((1 <<< (F.SIG_KEY_INFO_VALID 0).lsb) + (5 <<< (F.SIG_KEY_INFO_USAGE 0).lsb)))], keep := { elapsed := 10 * tickMs }, units := { exch := [(0, ({ active := true } : Exchange))] } }, 0, by decide +kernel⟩,
   ⟨State.reset, 0, by decide +kernel⟩⟩

set_option maxRecDepth 20000 in
theorem witness_RegisterWritesSnapshotsAndPace :
    (∃ s : State, ∃ w : Nat, ∃ n : Nat, ∃ x : Reg × List Nat × Nat, (s.up = true) ∧ (plainWrite x n = true) ∧ (s.writeStatus w x.2.2 n 8 = 0) ∧ (s.get (F.TEN_STATUS_STATE w) ≠ 2) ∧ (¬ inNotify x.2.2) ∧ (s.win.setMask x.2.2 = 0) ∧ (s.win.counted x.2.2 = 0)) ∧
    (∃ s : State, ∃ w : Nat, ∃ a : Nat, ∃ n : Nat, (s.up = false ∨ s.get (F.TEN_STATUS_STATE w) = 2 ∨ 3 ≤ s.writeStatus w a n 8)) ∧
    (∃ s : State, ∃ v : Word, (s.up = true) ∧ (s.get (F.TEN_STATUS_STATE 0) ≠ 2) ∧ (getBits v 0 0 = 1) ∧ (s.get F.IMG_VOLATILE_WRITES_COUNT + 1 < 2 ^ 47)) ∧
    (∃ s : State, ∃ v : Word, (getBits v 0 0 = 1) ∧ (s.get F.IMG_VOLATILE_WRITES_COUNT + 1 < 2 ^ 47)) ∧
    (∃ s : State, ∃ w : Nat, ∃ v : Word, (getBits v 0 0 = 1) ∧ (w ≠ 0) ∧ (s.get F.IMG_VOLATILE_WRITES_COUNT + 1 < 2 ^ 47)) ∧
    (∃ s : State, ∃ v : Word, (getBits v 0 0 = 0) ∧ (s.get F.IMG_VOLATILE_WRITES_COUNT + 1 < 2 ^ 47)) ∧
    (∃ s : State, ∃ w : Nat, ∃ i : Nat, (i < 4) ∧ (s.up = true) ∧ ((s.tenant w).enabled = true)) ∧
    (∃ s : State, ∃ w : Nat, ∃ i : Nat, (i < 16) ∧ (s.present .EDG_START [i] = true) ∧ (s.up = true) ∧ ((s.tenant w).enabled = true)) ∧
    (∃ s : State, ∃ w : Nat, ∃ a : Nat, (s.up = false ∨ (s.tenant w).enabled = false ∨ (locate a).isNone = true ∨ (locate a).all (fun x => x.2.2 ≠ 0 || x.1.row.fields.all (fun f => f.acc ≠ .snap)) = true)) ∧
    (∃ s : State, ∃ p : List Nat, (s.up = true) ∧ (p.length = 16)) ∧
    (∃ s : State, ∃ p : List Nat, (s.up = false ∨ p.length ≠ 16)) :=
  ⟨⟨{ State.reset with regs := [((F.PWR_STATUS_LOCAL_READY).addr, BitVec.ofNat 64 ((1 <<< (F.PWR_STATUS_LOCAL_READY).lsb)))] }, 0, 8, (.EMB_SLOT_WINDOW, [0, 0], 0x00010200), by decide +kernel⟩,
   ⟨State.reset, 0, 1, 8, by decide +kernel⟩,
   ⟨{ State.reset with regs := [((F.PWR_STATUS_LOCAL_READY).addr, BitVec.ofNat 64 ((1 <<< (F.PWR_STATUS_LOCAL_READY).lsb))), (F.DEV_PACE_LOW_PACE.addr, 5)] }, 1, by decide +kernel⟩,
   ⟨{ State.reset with regs := [((F.PWR_STATUS_LOCAL_READY).addr, BitVec.ofNat 64 ((1 <<< (F.PWR_STATUS_LOCAL_READY).lsb))), (F.DEV_PACE_LOW_PACE.addr, 5)] }, 1, by decide +kernel⟩,
   ⟨State.reset, 3, 1, by decide +kernel⟩,
   ⟨State.reset, 0, by decide +kernel⟩,
   ⟨{ State.reset with regs := [((F.PWR_STATUS_LOCAL_READY).addr, BitVec.ofNat 64 ((1 <<< (F.PWR_STATUS_LOCAL_READY).lsb)))] }, 0, 2, by decide +kernel⟩,
   ⟨{ State.reset with regs := [((F.PWR_STATUS_LOCAL_READY).addr, BitVec.ofNat 64 ((1 <<< (F.PWR_STATUS_LOCAL_READY).lsb)))] }, 0, 2, by decide +kernel⟩,
   ⟨State.reset, 0, 0, by decide +kernel⟩,
   ⟨{ State.reset with regs := [((F.PWR_STATUS_LOCAL_READY).addr, BitVec.ofNat 64 ((1 <<< (F.PWR_STATUS_LOCAL_READY).lsb)))] }, (0x1300 :: List.replicate 15 0x2000), by decide +kernel⟩,
   ⟨State.reset, [], by decide +kernel⟩⟩

theorem witness_EmptyQueueIsOneTick :
    ∃ s : State, s.pending = [] :=
  ⟨State.reset, rfl⟩

theorem witness_EveryStepKeepsTheCanonicalForm :
    ∃ s t : State, s.wf = true ∧ step s = .next t :=
  ⟨{ State.reset with pending := [.vaonLoss] }, _, by decide +kernel, rfl⟩

theorem witness_WhatNoCommandTouches :
    ∃ (c : Instr) (s t : State), exec c s = .next t :=
  ⟨.vaonLoss, State.reset, _, rfl⟩

theorem witness_FieldWritesAreLocal :
    ∃ f g : Field, f.lsb ≤ f.msb ∧ f.msb < 64 ∧ g.lsb ≤ g.msb ∧ g.msb < 64 ∧ g.addr = f.addr ∧ (g.msb < f.lsb ∨ f.msb < g.lsb) :=
  ⟨F.SUP_ROLE_STATUS_KIND, F.SUP_ROLE_STATUS_DEVICE_NUMBER, by decide +kernel⟩

theorem witness_CountersWrap :
    ∃ (s : State) (f : Field) (k : Nat), f.lsb ≤ f.msb ∧ f.msb < 64 ∧ f.addr < 0x08000000 ∧ (s.get f).testBit (f.width - 1) = ((s.get f + k) % 2 ^ f.width).testBit (f.width - 1) :=
  ⟨State.reset, F.SUP_HB_SENT_C, 1, by decide +kernel⟩

theorem witness_ConfirmationAtTheDeadline :
    ∃ (s : State) (v : Word) (rest : List Instr), s.up = true ∧ s.confirms 0 v = true ∧ s.pending = .imgConfirm 0 v :: rest :=
  ⟨{ State.reset with regs := [((F.PWR_STATUS_LOCAL_READY).addr, BitVec.ofNat 64 ((1 <<< (F.PWR_STATUS_LOCAL_READY).lsb))), ((F.IMG_STATUS_STATE).addr, BitVec.ofNat 64 ((2 <<< (F.IMG_STATUS_STATE).lsb)))], units := { imgDeadline := some 0 }, pending := [.imgConfirm 0 0xA5C30001] }, 0xA5C30001, [], by decide +kernel⟩

theorem witness_SentenceTimeOfADeviceTime :
    ∃ x : Nat, x < 2 ^ 48 * tickS :=
  ⟨5, by decide +kernel⟩

end Sys2Proof.Machine
end

section
/-! A hardware write of one field (R5, R569): its frame, and the statement that it is local. -/

namespace Sys2Proof.Machine

/-! ## What a field write leaves unchanged -/

@[simp] theorem run_put_force (f : Field) (v : Nat) (s : State) : ((put f v).run s).force = s.force := rfl
@[simp] theorem run_put_flash (f : Field) (v : Nat) (s : State) : ((put f v).run s).flash = s.flash := rfl
@[simp] theorem run_put_out (f : Field) (v : Nat) (s : State) : ((put f v).run s).out = s.out := rfl
@[simp] theorem run_put_keep (f : Field) (v : Nat) (s : State) : ((put f v).run s).keep = s.keep := rfl
@[simp] theorem run_put_units (f : Field) (v : Nat) (s : State) : ((put f v).run s).units = s.units := rfl

theorem rd_put_other (s : State) (f : Field) (v : Nat) {a : Nat} (h : a ≠ f.addr) :
    ((put f v).run s).rd a = s.rd a :=
  rd_within (put_within f v) h s

/-- Settles O57: the field by the laws of words, the other registers by the frame of `put`. -/
theorem fieldWritesAreLocal : Obligations.FieldWritesAreLocal := by
  intro s f g v hf hf64 _ hg64
  have hsame : ((put f v).run s).get f = v % 2 ^ f.width := get_put_same s f v hf hf64
  have hfields : (g.msb < f.lsb ∨ f.msb < g.lsb) → ((put f v).run s).get g = s.get g := fun hdisjoint =>
    get_put_other s f g v hf hg64 (.inr hdisjoint)
  have hregs : ∀ a, a ≠ f.addr → ((put f v).run s).rd a = s.rd a := fun _ ha => rd_put_other s f v ha
  exact ⟨hsame, fun _ => hfields, hregs, run_put_force f v s, run_put_units f v s, run_put_keep f v s,
    run_put_flash f v s, run_put_out f v s⟩

end Sys2Proof.Machine
end

section
/-! The tick (R14, R20). What an instant is made of; the programs that leave it as it is, operation by operation; and the
statement that on an empty queue one tick passes. -/

namespace Sys2Proof.Machine

/-! ## Programs that leave the instant as it is -/

/-- What a window has put off to its end (log entry 16). -/
structure PutOff where
  early : List (List Byte)
  down : List (Nat × Nat × List Byte)
  starts : List (Nat × Nat)
  stops : List (Nat × Nat)
  round : Bool

def Win.putOff (w : Win) : PutOff :=
  { early := w.early, down := w.down, starts := w.starts, stops := w.stops, round := w.round }

/-- The part of the state that a tick changes as time passes, and no other program of the tick does. -/
structure Instant where
  d0 : Nat
  elapsed : Nat
  putOff : PutOff
  time : TimeUnit
  flash : Sparse Byte

def State.instant (s : State) : Instant :=
  { d0 := s.units.d0, elapsed := s.keep.elapsed, putOff := s.win.putOff, time := s.units.time, flash := s.flash }

/-- The program moves neither clock nor the time unit, writes no flash, and neither adds to nor takes from what the window has
put off. -/
def Act.timeless : Act → Prop
  | .seq a b => a.timeless ∧ b.timeless
  | .look k => ∀ s, (k s).timeless
  | .draw k => ∀ w, (k w).timeless
  | .flash _ _ => False
  | .units f => ∀ u, (f u).d0 = u.d0 ∧ (f u).time = u.time
  | .keep f => ∀ k, (f k).elapsed = k.elapsed
  | .win f => ∀ w, (f w).putOff = w.putOff
  | _ => True

theorem run_timeless {a : Act} (h : a.timeless) (s : State) : (a.run s).instant = s.instant := by
  induction a generalizing s with
  | seq a b iha ihb => rw [run_seq, ihb h.2, iha h.1]
  | look k ih => exact ih s (h s) s
  | draw k ih => exact ih _ (h _) _
  | flash x b => exact absurd h id
  | units f =>
    obtain ⟨hd0, htime⟩ := h s.units
    simp [State.instant, hd0, htime]
  | keep f => simp [State.instant, h s.keep]
  | win f => simp [State.instant, h s.win]
  | _ => rfl

@[simp] theorem timeless_skip : Act.skip.timeless := trivial
@[simp] theorem timeless_seq (a b : Act) : (Act.seq a b).timeless ↔ a.timeless ∧ b.timeless := Iff.rfl
@[simp] theorem timeless_look (k : State → Act) : (Act.look k).timeless ↔ ∀ s, (k s).timeless := Iff.rfl
@[simp] theorem timeless_draw (k : Word → Act) : (Act.draw k).timeless ↔ ∀ w, (k w).timeless := Iff.rfl
@[simp] theorem timeless_reg (a : Nat) (v : Word) : (Act.reg a v).timeless := trivial
@[simp] theorem timeless_inForce (a : Nat) (v : Word) : (Act.inForce a v).timeless := trivial
@[simp] theorem timeless_emit (m : Emission) : (Act.emit m).timeless := trivial
@[simp] theorem timeless_units (f : Units → Units) :
    (Act.units f).timeless ↔ ∀ u, (f u).d0 = u.d0 ∧ (f u).time = u.time := Iff.rfl
@[simp] theorem timeless_keep (f : Keep → Keep) : (Act.keep f).timeless ↔ ∀ k, (f k).elapsed = k.elapsed := Iff.rfl
@[simp] theorem timeless_win (f : Win → Win) : (Act.win f).timeless ↔ ∀ w, (f w).putOff = w.putOff := Iff.rfl
@[simp] theorem timeless_all_nil : (Act.all []).timeless := trivial
@[simp] theorem timeless_all_cons (a : Act) (l : List Act) :
    (Act.all (a :: l)).timeless ↔ a.timeless ∧ (Act.all l).timeless := Iff.rfl

@[simp] theorem timeless_ite (c : Prop) [Decidable c] (a b : Act) :
    (if c then a else b).timeless ↔ (c → a.timeless) ∧ (¬ c → b.timeless) := by
  split <;> simp [*]

@[simp] theorem timeless_when (c : Bool) (a : Act) : (Act.when c a).timeless ↔ (c = true → a.timeless) := by
  simp [Act.when]

@[simp] theorem timeless_each {α : Type} (l : List α) (f : α → Act) :
    (Act.each l f).timeless ↔ ∀ x ∈ l, (f x).timeless := by
  induction l with
  | nil => simp [Act.each]
  | cons x l ih => simpa [Act.each] using fun _ => ih

/-! ## Registers, counters and notifications -/

@[simp] theorem put_timeless (f : Field) (v : Nat) : (put f v).timeless := fun _ => trivial
@[simp] theorem commitWord_timeless (a : Nat) : (commitWord a).timeless := fun _ => trivial
@[simp] theorem event_timeless (f : Field) : (event f).timeless := ⟨put_timeless _ _, fun _ => rfl⟩
@[simp] theorem bump_timeless (f : Field) (k : Nat) : (bump f k).timeless := fun _ => ⟨put_timeless _ _, fun _ => rfl⟩
@[simp] theorem onQueue_timeless (q : Nat) (f : QueueUnit → QueueUnit) : (onQueue q f).timeless := fun _ _ => ⟨rfl, rfl⟩
@[simp] theorem touch_timeless (q : Nat) : (touch q).timeless := fun _ => rfl
@[simp] theorem advance_timeless (q k : Nat) (f : Field) : (advance q k f).timeless := fun _ => put_timeless _ _
@[simp] theorem retreat_timeless (q k : Nat) (f : Field) : (retreat q k f).timeless := fun _ => put_timeless _ _
@[simp] theorem refreshQueue_timeless (q : Nat) : (refreshQueue q).timeless := by simp [refreshQueue]

@[simp] theorem committed_timeless (i : Item) : (committed i).timeless := by
  unfold committed
  split <;> simp

/-- The hooks of one level count and notify in no time. -/
structure Hooks.Timeless (h : Hooks) : Prop where
  cnt : ∀ f k, (h.cnt f k).timeless
  note : ∀ t k i b, (h.note t k i b).timeless

section
variable {h : Hooks} (H : h.Timeless)
include H

theorem countWith_timeless (f : Field) (k : Nat) : (countWith h f k).timeless := by simp [countWith, H.note]

theorem commitWith_timeless (q : Nat) (i : Item) (b : Nat) : (commitWith h q i b).timeless := by
  simp [commitWith, H.cnt, Win.putOff]

theorem overrunWith_timeless (q c : Nat) : (overrunWith h q c).timeless := by simp [overrunWith, H.cnt]

theorem pushWith_timeless (q : Nat) (p : Producer) (i : Item) : (pushWith h q p i).timeless := by
  intro s
  dsimp only
  split <;> simp [H.cnt, commitWith_timeless H, overrunWith_timeless H]

theorem noteWith_timeless (t k i : Nat) (b : List Byte) : (noteWith h t k i b).timeless := by
  intro s
  refine ⟨onQueue_timeless _ _, ?_⟩
  split
  · simp [H.cnt]
  · exact pushWith_timeless H _ _ _

end

theorem hooks_timeless (n : Nat) : (hooks n).Timeless := by
  induction n with
  | zero => exact ⟨bump_timeless, fun _ _ _ _ => trivial⟩
  | succ n ih => exact ⟨countWith_timeless ih, noteWith_timeless ih⟩

@[simp] theorem countBy_timeless (f : Field) (k : Nat) : (countBy f k).timeless := (hooks_timeless 4).cnt f k
@[simp] theorem count_timeless (f : Field) : (count f).timeless := countBy_timeless f 1
@[simp] theorem notify_timeless (t k i : Nat) (b : List Byte) : (notify t k i b).timeless := (hooks_timeless 4).note t k i b
@[simp] theorem push_timeless (q : Nat) (p : Producer) (i : Item) : (push q p i).timeless :=
  pushWith_timeless (hooks_timeless 4) q p i
@[simp] theorem commitWith_std_timeless (q : Nat) (i : Item) (b : Nat) : (commitWith std q i b).timeless :=
  commitWith_timeless (hooks_timeless 4) q i b
@[simp] theorem overrunWith_std_timeless (q c : Nat) : (overrunWith std q c).timeless :=
  overrunWith_timeless (hooks_timeless 4) q c

/-! ## Checkpoints, diversion and frames pushed -/

@[simp] theorem onCal_timeless (st : Nat) (f : CalStream → CalStream) : (onCal st f).timeless := fun _ _ => ⟨rfl, rfl⟩
@[simp] theorem onEndpoint_timeless (p e : Nat) (f : EndpointUnit → EndpointUnit) : (onEndpoint p e f).timeless :=
  fun _ _ => ⟨rfl, rfl⟩
@[simp] theorem setChain_timeless (st : Nat) (c : Chain) : (setChain st c).timeless := fun _ => ⟨rfl, rfl⟩
@[simp] theorem onChain_timeless (st : Nat) (f : Chain → Chain) : (onChain st f).timeless := fun _ => setChain_timeless _ _
@[simp] theorem onSeg_timeless (st : Nat) (f : SegUnit → SegUnit) : (onSeg st f).timeless := fun _ _ => ⟨rfl, rfl⟩

@[simp] theorem checkpointDueAs_timeless (k st : Nat) : (checkpointDueAs k st).timeless := by
  simp [checkpointDueAs, Win.putOff]
@[simp] theorem checkpointDue_timeless (st : Nat) : (checkpointDue st).timeless := checkpointDueAs_timeless 2 st
@[simp] theorem gapCheckpoint_timeless (st : Nat) : (gapCheckpoint st).timeless := by simp [gapCheckpoint]
@[simp] theorem gapCheckpoints_timeless (q : Nat) : (gapCheckpoints q).timeless := by simp [gapCheckpoints]
@[simp] theorem divert_timeless (why : Diverted) (l p : Nat) (i : Item) : (divert why l p i).timeless := by simp [divert]
@[simp] theorem divertRefused_timeless (q : Nat) (i : Item) : (divertRefused q i).timeless := by simp [divertRefused]
@[simp] theorem refreshRetained_timeless (p e : Nat) : (refreshRetained p e).timeless := by simp [refreshRetained]
@[simp] theorem divertRetained_timeless (why : Diverted) (p e : Nat) (rs : List Retained) :
    (divertRetained why p e rs).timeless := by simp [divertRetained]
@[simp] theorem holdChain_timeless (p e : Nat) (c : HeldChain) : (holdChain p e c).timeless := by simp [holdChain]
@[simp] theorem chainOpens_timeless (c : HeldChain) : (chainOpens c).timeless := by simp [chainOpens]

@[simp] theorem pushFrame_timeless (q : Nat) (p : Producer) (i : Item) : (pushFrame q p i).timeless := by
  intro s
  refine ⟨push_timeless _ _ _, ?_⟩
  split <;> simp

/-! ## Queues at the end of a window -/

@[simp] theorem rewind_timeless (q : Nat) (p : PartialItem) (n : Nat) (x : Option PartialItem) : (rewind q p n x).timeless := by
  simp [rewind]
@[simp] theorem flushDone_timeless (q : Nat) : (flushDone q).timeless := by simp [flushDone]
@[simp] theorem thresholdEvent_timeless (q : Nat) : (thresholdEvent q).timeless := by simp [thresholdEvent]
@[simp] theorem rearm_timeless (q : Nat) : (rearm q).timeless := by simp [rearm]

@[simp] theorem flushStep1_timeless (q : Nat) : (flushStep1 q).timeless := by
  intro s
  simp only [timeless_all_cons]
  split <;> simp

@[simp] theorem admitLate_timeless (q n : Nat) : (admitLate q n).timeless := by
  induction n with
  | zero => trivial
  | succ n ih =>
    intro s
    dsimp only
    split <;> simp [ih]

@[simp] theorem refuseLate_timeless (q : Nat) : (refuseLate q).timeless := by simp [refuseLate]
@[simp] theorem settleQueue_timeless (q : Nat) : (settleQueue q).timeless := by simp [settleQueue]
theorem settleQueues_timeless : settleQueues.timeless := by simp [settleQueues]

theorem unqueue_timeless {out : Act} (h : out.timeless) (q : Nat) (i : Item) (rest : List (Item × Nat)) :
    (unqueue q i rest out).timeless := by simp [unqueue, h]

@[simp] theorem emptyPop_timeless (q : Nat) : (emptyPop q).timeless := by simp [emptyPop]

@[simp] theorem notifyPop_timeless (q : Nat) : (notifyPop q).timeless := by
  intro s
  simp only [timeless_ite]
  refine ⟨fun _ => trivial, fun _ => ?_⟩
  split <;> simp

/-! ## Sealing -/

@[simp] theorem distribute_timeless (st ref prio : Nat) (i : Item) : (distribute st ref prio i).timeless := by simp [distribute]

@[simp] theorem sealFrame_timeless (st : Nat) (r : FrameReq) : (sealFrame st r).timeless := by
  intro s
  simp only [timeless_ite]
  refine ⟨fun _ => by simp, fun _ => ⟨fun _ => by simp, fun _ => ?_⟩⟩
  simp only [timeless_all_cons, timeless_look]
  refine ⟨setChain_timeless _ _, onSeg_timeless _ _, put_timeless _ _, count_timeless _, distribute_timeless _ _ _ _,
    fun t => ?_, ?_, trivial⟩
  · split <;> simp
  · simp

@[simp] theorem settleLater_timeless (st : Nat) : (settleLater st).timeless := fun _ => rfl
@[simp] theorem openChain_timeless (st : Nat) : (openChain st).timeless := by simp [openChain]

@[simp] theorem beginChain_timeless (st : Nat) : (beginChain st).timeless := by
  intro s
  dsimp only
  split <;> simp

@[simp] theorem applyStream_timeless (st : Nat) : (applyStream st).timeless := by simp [applyStream]
@[simp] theorem finishChain_timeless (st : Nat) : (finishChain st).timeless := by simp [finishChain]
@[simp] theorem endOfStream_timeless (st : Nat) : (endOfStream st).timeless := by simp [endOfStream]
@[simp] theorem endStream_timeless (st : Nat) : (endStream st).timeless := by simp [endStream]

@[simp] theorem segClose_timeless (st : Nat) : (segClose st).timeless := by
  intro s
  dsimp only
  split <;> simp

@[simp] theorem segAppend_timeless (st : Nat) (close : Bool) (c : Copy) : (segAppend st close c).timeless := by simp [segAppend]
@[simp] theorem segMark_timeless (st : Nat) : (segMark st).timeless := by simp [segMark]
@[simp] theorem closeRound_timeless : closeRound.timeless := by simp [closeRound]
theorem settleRound_timeless : settleRound.timeless := by simp [settleRound]

/-! ## Caldera -/

@[simp] theorem emitted_timeless (st : Nat) (l : List Copy) : (emitted st l).timeless := by simp [emitted]
@[simp] theorem lateCopy_timeless (st t : Nat) (c : Copy) : (lateCopy st t c).timeless := by simp [lateCopy]
@[simp] theorem admitCopy_timeless (src st : Nat) (c : Copy) : (admitCopy src st c).timeless := by simp [admitCopy, Win.putOff]

@[simp] theorem checkDrained_timeless (st : Nat) : (checkDrained st).timeless := by
  intro s
  dsimp only
  split <;> simp

@[simp] theorem passMarks_timeless (st n : Nat) : (passMarks st n).timeless := by
  intro s
  dsimp only
  split <;> simp

@[simp] theorem settleStream_timeless (st : Nat) : (settleStream st).timeless := by simp [settleStream]

@[simp] theorem closeStratum_timeless (st : Nat) (b : Bool) : (closeStratum st b).timeless := by
  intro s
  dsimp only
  split <;> simp

@[simp] theorem closeIfReady_timeless (st : Nat) : (closeIfReady st).timeless := by
  intro s
  dsimp only
  split <;> simp

theorem settleCaldera_timeless : settleCaldera.timeless := by simp [settleCaldera]

/-! ## Sentences delivered and freezes launched -/

@[simp] theorem refreshRing_timeless : refreshRing.timeless := by simp [refreshRing]
@[simp] theorem openSegment_timeless (l : List Segment) : (openSegment l).timeless := fun _ _ => ⟨rfl, rfl⟩

@[simp] theorem record_timeless (r : Record) : (record r).timeless := by
  intro s
  simp only [timeless_ite, timeless_seq]
  refine ⟨fun _ => trivial, fun _ => ⟨⟨fun _ => trivial, fun _ => ?_⟩, ?_⟩⟩
  · split <;> simp
  · simp

@[simp] theorem countGroups_timeless (t : Nat) (l : List Nat) : (countGroups t l).timeless := by simp [countGroups]

@[simp] theorem markRule_timeless (x : Sentence) (t : Nat) (v : Verdict) (r n : Nat) : (markRule x t v r n).timeless := by
  simp [markRule]

@[simp] theorem deliver_timeless (x : Sentence) : (deliver x).timeless := by
  intro s
  simp only [timeless_when, timeless_all_cons, timeless_each]
  refine fun _ => ⟨by simp, by simp, by simp, by simp, by simp, by simp, fun f _ => ?_, by simp, fun _ => rfl, by simp, trivial⟩
  split <;> simp

@[simp] theorem originate_timeless (k i c ty : Nat) (b : List Byte) (t : Nat) (tr : Bool) :
    (originate k i c ty b t tr).timeless := by
  simp [originate]

@[simp] theorem onFreeze_timeless (id : Nat) (f : Freeze → Freeze) : (onFreeze id f).timeless := fun _ => ⟨rfl, rfl⟩
@[simp] theorem dropFreezes_timeless (l : List Nat) : (dropFreezes l).timeless := by simp [dropFreezes]

@[simp] theorem holdFreeze_timeless (id : Nat) : (holdFreeze id).timeless := by
  intro s
  dsimp only
  split
  · trivial
  · simp only [timeless_ite, timeless_seq]
    refine ⟨fun _ => by simp, fun _ => ⟨fun _ => ⟨rfl, rfl⟩, ?_⟩⟩
    split <;> simp

@[simp] theorem launchFreeze_timeless (id : Nat) : (launchFreeze id).timeless := by
  intro s
  dsimp only
  split
  · trivial
  · refine ⟨by simp, by simp, fun t => ?_, trivial⟩
    dsimp only
    split <;> simp

@[simp] theorem launchNext_timeless : launchNext.timeless := by
  intro s
  dsimp only
  split <;> simp

theorem settleLaunches_timeless : settleLaunches.timeless := by simp [settleLaunches]

/-! ## The store -/

@[simp] theorem onStore_timeless (f : Store → Store) : (onStore f).timeless := fun _ => ⟨rfl, rfl⟩
@[simp] theorem refreshState_timeless : refreshState.timeless := by simp [refreshState]
@[simp] theorem journal_timeless (r : JournalRec) : (journal r).timeless := fun _ => onStore_timeless _
@[simp] theorem memberState_timeless (q n : Nat) : (memberState q n).timeless := by simp [memberState]
@[simp] theorem refreshRebuild_timeless (q : Nat) : (refreshRebuild q).timeless := by simp [refreshRebuild]
@[simp] theorem finishRebuild_timeless (q : Nat) : (finishRebuild q).timeless := by simp [finishRebuild]
@[simp] theorem refreshRebuilds_timeless : refreshRebuilds.timeless := by simp [refreshRebuilds]
@[simp] theorem dropLive_timeless (l : LiveStripe) : (dropLive l).timeless := by simp [dropLive]
@[simp] theorem freeSpill_timeless : freeSpill.timeless := by simp [freeSpill]
@[simp] theorem refer_timeless (n : Nat) (r : JournalRec) : (refer n r).timeless := by simp [refer]
@[simp] theorem onObject_timeless (ob : Nat) (f : SpillObject → SpillObject) : (onObject ob f).timeless := onStore_timeless _
@[simp] theorem releaseRun_timeless (ob : Nat) (l : List Nat) : (releaseRun ob l).timeless := by simp [releaseRun]
@[simp] theorem releaseRuns_timeless (l : List (Nat × Nat)) : (releaseRuns l).timeless := by simp [releaseRuns]
@[simp] theorem settleReleases_timeless : settleReleases.timeless := by simp [settleReleases]
@[simp] theorem endEngine_timeless (e r : Nat) : (endEngine e r).timeless := by simp [endEngine]
@[simp] theorem setEngine_timeless (e : Nat) (g : Option Engine) : (setEngine e g).timeless := onStore_timeless _

@[simp] theorem replayPush_timeless (e : Nat) (g : Engine) (q : Nat) (i : Item) (l : List (Nat × Item)) :
    (replayPush e g q i l).timeless := by simp [replayPush]

@[simp] theorem replayNext_timeless (e : Nat) : (replayNext e).timeless := by
  intro s
  dsimp only
  split
  · trivial
  · simp only [timeless_all_cons]
    refine ⟨put_timeless _ _, countBy_timeless _ _, countBy_timeless _ _, by simp, ?_, trivial⟩
    split <;> simp

theorem settleStore_timeless : settleStore.timeless := by simp [settleStore]

/-! ## Scheduled items -/

@[simp] theorem sendOn_timeless (l p : Nat) (cuts : Bool) (i : Item) (f n : Nat) : (sendOn l p cuts i f n).timeless := by
  simp [sendOn]
@[simp] theorem retain_timeless (l p : Nat) (i : Item) : (retain l p i).timeless := by simp [retain]
@[simp] theorem divertItem_timeless (why : Diverted) (l p : Nat) (i : Item) : (divertItem why l p i).timeless := by
  simp [divertItem]

@[simp] theorem transmit_timeless (l p : Nat) (cuts : Bool) (x : TxPick) : (transmit l p cuts x).timeless := by
  intro s
  cases x with
  | resend e r => simp
  | send i rest => exact unqueue_timeless (by simp) _ _ _
  | divert why i rest => exact unqueue_timeless (by simp) _ _ _

@[simp] theorem launchAtTime_timeless (l p : Nat) : (launchAtTime l p).timeless := by
  intro s
  dsimp only
  split
  · trivial
  · split
    · trivial
    · simp only [timeless_ite]
      refine ⟨fun _ => trivial, fun _ => ⟨fun _ => by simp, fun _ => ?_⟩⟩
      split <;> simp

theorem settleStarts_timeless : settleStarts.timeless := by simp [settleStarts]

/-! ## Watches -/

@[simp] theorem onClasp_timeless (f : Clasp → Clasp) : (onClasp f).timeless := fun _ => ⟨rfl, rfl⟩
@[simp] theorem onWatch_timeless (w : Nat) (f : WatchUnit → WatchUnit) : (onWatch w f).timeless := fun _ => onClasp_timeless _
@[simp] theorem onToken_timeless (id : Nat) (f : Token → Token) : (onToken id f).timeless := onClasp_timeless _
@[simp] theorem freeToken_timeless (id : Nat) : (freeToken id).timeless := onClasp_timeless _
@[simp] theorem takeToken_timeless (m d : List Byte) (p : Bool) (w : Option Nat) : (takeToken m d p w).timeless :=
  onClasp_timeless _
@[simp] theorem takeBridge_timeless : takeBridge.timeless := onClasp_timeless _
@[simp] theorem sendBridge_timeless (r : Nat) (m : List Byte) : (sendBridge r m).timeless := push_timeless _ _ _

@[simp] theorem launch_timeless (d : Nat) (m : List Byte) : (launch d m).timeless := by
  intro s
  dsimp only
  split <;> simp

@[simp] theorem hello_timeless (d : Nat) : (hello d).timeless := by simp [hello]
@[simp] theorem postedFail_timeless (m : List Byte) (n : Nat) : (postedFail m n).timeless := by simp [postedFail]
@[simp] theorem watchResult_timeless (w : Nat) (m : List Byte) (n : Nat) (d : List Byte) : (watchResult w m n d).timeless := by
  simp [watchResult]

@[simp] theorem complete_timeless (id n t : Nat) (d : List Byte) : (complete id n t d).timeless := by
  intro s
  dsimp only
  split
  · trivial
  · refine ⟨by simp, ?_⟩
    split <;> simp

@[simp] theorem bridgeSend_timeless (id : Nat) : (bridgeSend id).timeless := by
  intro s
  dsimp only
  split
  · trivial
  · split <;> simp

@[simp] theorem bridgeStart_timeless (id : Nat) : (bridgeStart id).timeless := by
  intro s
  dsimp only
  split <;> simp

@[simp] theorem hold_timeless (r a v : Nat) : (hold r a v).timeless := fun _ => ⟨rfl, rfl⟩

@[simp] theorem capture_timeless (reader : Nat) (r : Reg) (l : List Nat) : (capture reader r l).timeless := by
  intro s
  dsimp only
  split <;> simp

@[simp] theorem readEffects_timeless (reader a n : Nat) : (readEffects reader a n).timeless := by
  intro s
  refine ⟨?_, by simp⟩
  split <;> simp

theorem readCall_timeless {k : Nat → List Byte → Act} (h : ∀ n d, (k n d).timeless) (c : Call) (n : Nat) :
    (readCall c n k).timeless := by simp [readCall, readAccess, h]

@[simp] theorem watchRead_timeless (w : Nat) : (watchRead w).timeless := by
  simp [watchRead, readCall_timeless]

theorem watchesRead_timeless : watchesRead.timeless := by simp [watchesRead]
theorem downlinksLeave_timeless : downlinksLeave.timeless := by simp [downlinksLeave]

/-! ## What an instant brings of itself -/

@[simp] theorem chronAppend_timeless (e : ChronEntry) : (chronAppend e).timeless := by simp [chronAppend]
@[simp] theorem chronicle_timeless (k : Nat) (t : Option Nat) (c : Nat) (b : List Byte) : (chronicle k t c b).timeless := by
  simp [chronicle]
@[simp] theorem timeEvent_timeless (c d : Nat) (v : Int) (old new p : Nat) : (timeEvent c d v old new p).timeless := by
  simp [timeEvent]
@[simp] theorem refreshTq_timeless : refreshTq.timeless := by simp [refreshTq]
@[simp] theorem driveUtl_timeless (p : Nat) : (driveUtl p).timeless := by simp [driveUtl]
theorem followPins_timeless : followPins.timeless := by simp [followPins]
theorem utlRetries_timeless : utlRetries.timeless := by simp [utlRetries, utlRetry, withUtl]
@[simp] theorem onSvc_timeless (f : SvcPort → SvcPort) : (onSvc f).timeless := by simp [onSvc]
theorem svcSettle_timeless : svcSettle.timeless := by simp [svcSettle, svcDrop]
theorem scrubPasses_timeless : scrubPasses.timeless := by simp [scrubPasses]

/-! ## One tick -/

/-- A window to which nothing is left of what another put off. -/
def PutOff.none : PutOff := { early := [], down := [], starts := [], stops := [], round := false }

/-- What the end of a window does with the whole of it. -/
def windowEnd : Act := Act.all [settleLaunches, settleCaldera, settleStore, settleStarts, settleQueues, settleReleases, settleRound,
  watchesRead, downlinksLeave]

/-- A new window begins, one tick later. -/
def tickPasses : Act := Act.all [
  .look fun s => .win fun _ => { base := some s.regs },
  .units fun u => { u with d0 := u.d0 + 1 },
  .keep fun k => { k with elapsed := k.elapsed + 1 }]

/-- What the new instant brings of itself. -/
def instantBrings : Act := Act.all [
  .look fun s => Act.when (s.up && s.units.d0 % tickS = 0) refreshTq,
  followPins,
  utlRetries,
  svcSettle,
  scrubPasses]

theorem run_tickAct (s : State) : tickAct.run s = instantBrings.run (tickPasses.run (windowEnd.run s)) := by
  simp only [tickAct, windowEnd, tickPasses, instantBrings, run_all_cons, run_all_nil]

theorem windowEnd_timeless : windowEnd.timeless :=
  ⟨settleLaunches_timeless, settleCaldera_timeless, settleStore_timeless, settleStarts_timeless, settleQueues_timeless,
    settleReleases_timeless, settleRound_timeless, watchesRead_timeless, downlinksLeave_timeless, trivial⟩

theorem instantBrings_timeless : instantBrings.timeless :=
  ⟨by simp, followPins_timeless, utlRetries_timeless, svcSettle_timeless, scrubPasses_timeless, trivial⟩

theorem tickPasses_instant (s : State) : (tickPasses.run s).instant =
    { s.instant with d0 := s.units.d0 + 1, elapsed := s.keep.elapsed + 1, putOff := PutOff.none } := rfl

theorem tickAct_instant (s : State) : (tickAct.run s).instant =
    { s.instant with d0 := s.units.d0 + 1, elapsed := s.keep.elapsed + 1, putOff := PutOff.none } := by
  have hend : (windowEnd.run s).instant = s.instant := run_timeless windowEnd_timeless s
  obtain ⟨hd0, helapsed, -, -, -⟩ := Instant.mk.inj hend
  rw [run_tickAct, run_timeless instantBrings_timeless, tickPasses_instant, hend, hd0, helapsed]

theorem step_of_empty {s : State} (h : s.pending = []) : step s = .next (tickAct.run s) := by simp [step, h]

/-- Settles O53: of the tick's programs only the passage of time itself changes the instant; the queue and the part are kept by
every program. -/
theorem emptyQueueIsOneTick : Obligations.EmptyQueueIsOneTick := by
  intro s hempty
  obtain ⟨hd0, helapsed, hputOff, htime, hflash⟩ := Instant.mk.inj (tickAct_instant s)
  obtain ⟨hearly, hdown, hstarts, hstops, hround⟩ := PutOff.mk.inj hputOff
  have hpending : (tickAct.run s).pending = [] := (run_pending tickAct s).trans hempty
  have hpart : (tickAct.run s).part = s.part := (run_part tickAct s).1
  exact ⟨tickAct.run s, step_of_empty hempty, hd0, helapsed, hearly, hdown, hstarts, hstops, hround,
    hpending, hflash, hpart, htime⟩

end Sys2Proof.Machine
end

section
/-! The tenant that owns a register (R511) is one of the 32: what a counter's half-range notification reaches (R575). -/

namespace Sys2Proof.Machine

theorem indices_head_lt {x : Axis} {xs : List Axis} {off o : Nat} {is : List Nat}
    (h : indices (x :: xs) off = some (is, o)) : is.headD 0 < x.count := by
  simp only [indices] at h
  split at h
  case isTrue hlt =>
    obtain ⟨r, -, hr⟩ := Option.map_eq_some_iff.mp h
    obtain ⟨rfl, rfl⟩ := Prod.mk.inj hr
    simpa using hlt
  case isFalse => cases h

theorem find_head_lt {row : RegRow} {a o : Nat} {is : List Nat} (h : row.find a = some (is, o)) {x : Axis} {xs : List Axis}
    (hx : row.axes = x :: xs) : is.headD 0 < x.count := by
  unfold RegRow.find at h
  rw [hx] at h
  split at h
  · cases h
  · split at h
    case h_1 i p hi =>
      split at h
      · obtain ⟨rfl, rfl⟩ := Prod.mk.inj (Option.some.inj h)
        exact indices_head_lt hi
      · cases h
    case h_2 => cases h

theorem find_of_findIn {rs : List Reg} {a o : Nat} {r : Reg} {is : List Nat} (h : findIn rs a = some (r, is, o)) :
    r.row.find a = some (is, o) := by
  induction rs with
  | nil => cases h
  | cons q rs ih =>
    simp only [findIn] at h
    split at h
    case h_1 i p hq =>
      obtain ⟨rfl, he⟩ := Prod.mk.inj (Option.some.inj h)
      obtain ⟨rfl, rfl⟩ := Prod.mk.inj he
      exact hq
    case h_2 => exact ih h

/-- The first index of a located register is below the number of its instances. -/
theorem locate_head_lt {a o : Nat} {r : Reg} {is : List Nat} (h : locate a = some (r, is, o)) {x : Axis} {xs : List Axis}
    (hx : r.row.axes = x :: xs) : is.headD 0 < x.count :=
  find_head_lt (find_of_findIn h) hx

theorem tenantList_lt {s : State} {t : Nat} (h : t ∈ s.tenantList) : t < 32 := by
  simp only [State.tenantList, List.mem_filter, List.mem_range] at h
  exact h.1

theorem getD_find_tenantList_lt (s : State) (p : Nat → Bool) : (s.tenantList.find? p).getD 0 < 32 := by
  cases h : s.tenantList.find? p with
  | none => simp
  | some t => exact tenantList_lt (List.mem_of_find?_eq_some h)

theorem streamOwner_lt (s : State) (st : Nat) : s.streamOwner st < 32 := getD_find_tenantList_lt s _
theorem ruleOwner_lt (s : State) (b : Bool) (r : Nat) : s.ruleOwner b r < 32 := getD_find_tenantList_lt s _

theorem linkOwner_lt (s : State) (l : Nat) : s.linkOwner l < 32 := by
  unfold State.linkOwner
  split
  case h_1 t h =>
    have ht : t ∈ s.tenantList.filter (fun t => (s.tenant t).links.testBit l) := by simp [h]
    exact tenantList_lt (List.mem_of_mem_filter ht)
  case h_2 => decide

theorem queueOwner_lt (s : State) (q : Nat) : s.queueOwner q < 32 := by
  unfold State.queueOwner
  split
  · exact linkOwner_lt s _
  · split <;> omega

/-- A field of five bits, as an owner has, is below 32. -/
theorem get_lt_32 (s : State) (f : Field) (h : f.msb + 1 - f.lsb = 5) : s.get f < 32 := by
  have := getBits_lt (s.rd f.addr) f.msb f.lsb
  rwa [h] at this
theorem live_lt_32 (s : State) (f : Field) (h : f.msb + 1 - f.lsb = 5) : s.live f < 32 := by
  have := getBits_lt (s.rdForce f.addr) f.msb f.lsb
  rwa [h] at this

theorem namedOwner_lt {s : State} {a t : Nat} (h : s.namedOwner a = some t) : t < 32 := by
  unfold State.namedOwner at h
  split at h
  case h_1 => cases h
  case h_2 r is o hloc =>
    have hhead : ∀ {x : Axis} {xs : List Axis}, r.row.axes = x :: xs → is.headD 0 < x.count := locate_head_lt hloc
    dsimp only at h
    split at h
    all_goals first
      | (cases h; exact streamOwner_lt s _)
      | (cases h; exact ruleOwner_lt s _ _)
      | (cases h; exact queueOwner_lt s _)
      | (cases h; exact live_lt_32 s _ rfl)
      | (cases h; exact get_lt_32 s _ rfl)
      | (cases h; exact hhead rfl)
      | cases h

theorem ownerOf_lt (s : State) (a : Nat) : s.ownerOf a < 32 := by
  unfold State.ownerOf
  cases h : s.namedOwner a with
  | none => simp
  | some t => exact namedOwner_lt h

end Sys2Proof.Machine
end

section
/-! Counting and notifying (R242, R574, R575): what the operations of Flags.lean leave as it was, in one relation between the
state before and the state after. -/

namespace Sys2Proof.Machine

/-! ## Tallies -/

/-- The state without what counting and notifying may change: registers, queue units, the store, and the window's notes of
counts, bits set and pushes. -/
def State.untallied (s : State) : State :=
  { s with
    regs := []
    units := { s.units with queues := [], store := {} }
    win := { s.win with sets := [], counts := [], pushes := [], touched := [] } }

/-- From `s` to `t` nothing but tallies: of the registers only those where `P` holds. -/
structure Tallied (P : Nat → Prop) (s t : State) : Prop where
  rest : t.untallied = s.untallied
  rd : ∀ a, ¬ P a → t.rd a = s.rd a

/-- The program does nothing but tally, in registers where `P` holds. -/
def Act.tally (P : Nat → Prop) : Act → Prop
  | .skip => True
  | .seq a b => a.tally P ∧ b.tally P
  | .look k => ∀ s, (k s).tally P
  | .reg a _ => P a
  | .units f => ∀ u, { f u with queues := [], store := {} } = { u with queues := [], store := {} }
  | .win f => ∀ w, { f w with sets := [], counts := [], pushes := [], touched := [] } =
      { w with sets := [], counts := [], pushes := [], touched := [] }
  | _ => False

namespace Tallied

variable {P Q : Nat → Prop} {s t u : State}

theorem refl (P : Nat → Prop) (s : State) : Tallied P s s := ⟨rfl, fun _ _ => rfl⟩
theorem trans (h : Tallied P s t) (g : Tallied P t u) : Tallied P s u :=
  ⟨g.rest.trans h.rest, fun a ha => (g.rd a ha).trans (h.rd a ha)⟩
theorem mono (hPQ : ∀ a, P a → Q a) (h : Tallied P s t) : Tallied Q s t := ⟨h.rest, fun a ha => h.rd a (fun hp => ha (hPQ a hp))⟩

theorem pending (h : Tallied P s t) : t.pending = s.pending := congrArg (fun x => x.pending) h.rest
theorem part (h : Tallied P s t) : t.part = s.part := congrArg (fun x => x.part) h.rest
theorem force (h : Tallied P s t) : t.force = s.force := congrArg (fun x => x.force) h.rest
theorem flash (h : Tallied P s t) : t.flash = s.flash := congrArg (fun x => x.flash) h.rest
theorem out (h : Tallied P s t) : t.out = s.out := congrArg (fun x => x.out) h.rest
theorem keep (h : Tallied P s t) : t.keep = s.keep := congrArg (fun x => x.keep) h.rest
theorem woke (h : Tallied P s t) : t.win.woke = s.win.woke := congrArg (·.win.woke) h.rest
theorem marks (h : Tallied P s t) : t.win.marks = s.win.marks := congrArg (·.win.marks) h.rest
theorem tenants (h : Tallied P s t) : t.units.tenants = s.units.tenants := congrArg (·.units.tenants) h.rest
theorem ilk (h : Tallied P s t) : t.units.ilk = s.units.ilk := congrArg (·.units.ilk) h.rest
theorem utl (h : Tallied P s t) : t.units.utl = s.units.utl := congrArg (·.units.utl) h.rest
theorem driven (h : Tallied P s t) : t.units.driven = s.units.driven := congrArg (·.units.driven) h.rest
theorem ext (h : Tallied P s t) : t.units.ext = s.units.ext := congrArg (·.units.ext) h.rest
theorem sup (h : Tallied P s t) : t.units.sup = s.units.sup := congrArg (·.units.sup) h.rest
theorem imgDeadline (h : Tallied P s t) : t.units.imgDeadline = s.units.imgDeadline := congrArg (·.units.imgDeadline) h.rest

theorem get (h : Tallied P s t) {f : Field} (hf : ¬ P f.addr) : t.get f = s.get f := by rw [State.get, h.rd _ hf]; rfl
theorem is (h : Tallied P s t) {f : Field} (hf : ¬ P f.addr) : t.is f = s.is f := by rw [State.is, h.get hf]; rfl
theorem live (h : Tallied P s t) (f : Field) : t.live f = s.live f := by
  simp only [State.live, State.rdForce, h.force]
theorem tenant (h : Tallied P s t) (n : Nat) : t.tenant n = s.tenant n := by simp only [State.tenant, h.tenants]
theorem hasRight (h : Tallied P s t) (n a : Nat) : t.hasRight n a = s.hasRight n a := by simp only [State.hasRight, h.tenant]

end Tallied

theorem run_tally {P : Nat → Prop} {a : Act} (h : a.tally P) (s : State) : Tallied P s (a.run s) := by
  induction a generalizing s with
  | skip => exact .refl P s
  | seq a b iha ihb => exact (iha h.1 s).trans (ihb h.2 _)
  | look k ih => exact ih s (h s) s
  | reg x v =>
    refine ⟨rfl, fun a ha => ?_⟩
    have hax : a ≠ x := fun e => ha (e ▸ h)
    simp [hax]
  | units f => exact ⟨congrArg (fun u => { s.untallied with units := u }) (h s.units), fun _ _ => rfl⟩
  | win f => exact ⟨congrArg (fun w => { s.untallied with win := w }) (h s.win), fun _ _ => rfl⟩
  | _ => exact h.elim

namespace Act

variable {P Q : Nat → Prop}

@[simp] theorem tally_skip : Act.skip.tally P := trivial
@[simp] theorem tally_seq (a b : Act) : (Act.seq a b).tally P ↔ a.tally P ∧ b.tally P := Iff.rfl
@[simp] theorem tally_look (k : State → Act) : (Act.look k).tally P ↔ ∀ s, (k s).tally P := Iff.rfl
@[simp] theorem tally_reg (a : Nat) (v : Word) : (Act.reg a v).tally P ↔ P a := Iff.rfl
@[simp] theorem tally_all_nil : (Act.all []).tally P := trivial
@[simp] theorem tally_all_cons (a : Act) (l : List Act) : (Act.all (a :: l)).tally P ↔ a.tally P ∧ (Act.all l).tally P := Iff.rfl
@[simp] theorem tally_when (c : Bool) (a : Act) : (Act.when c a).tally P ↔ (c = true → a.tally P) := by
  cases c <;> simp [Act.when]

theorem tally_mono (hPQ : ∀ a, P a → Q a) {a : Act} (h : a.tally P) : a.tally Q := by
  induction a with
  | seq a b iha ihb => exact ⟨iha h.1, ihb h.2⟩
  | look k ih => exact fun s => ih s (h s)
  | reg x v => exact hPQ _ h
  | skip => trivial
  | units f => exact h
  | win f => exact h
  | _ => exact h.elim

end Act

@[simp] theorem put_tally {P : Nat → Prop} (f : Field) (v : Nat) : (put f v).tally P ↔ P f.addr :=
  ⟨fun h => h State.reset, fun h _ => h⟩
@[simp] theorem event_tally {P : Nat → Prop} (f : Field) : (event f).tally P ↔ P f.addr := by
  simp only [event, Act.tally_seq, put_tally]
  exact and_iff_left fun _ => rfl
@[simp] theorem bump_tally {P : Nat → Prop} (f : Field) (k : Nat) : (bump f k).tally P ↔ P f.addr := by
  simp only [bump, Act.tally_look, Act.tally_seq, put_tally]
  exact ⟨fun h => (h State.reset).1, fun h _ => ⟨h, fun _ => rfl⟩⟩

/-! ## Pushing into a notification queue -/

theorem onQueue_tally (P : Nat → Prop) (q : Nat) (f : QueueUnit → QueueUnit) : (onQueue q f).tally P := fun _ _ => rfl
theorem touch_tally (P : Nat → Prop) (q : Nat) : (touch q).tally P := fun _ => rfl

theorem committed_tally (P : Nat → Prop) (i : Item) : (committed i).tally P := by
  unfold committed
  split
  · exact fun _ => rfl
  · trivial

/-- The registers of a queue that takes notifications lie among those of the notification queues. -/
theorem inNotify_of_block {q o : Nat} (hq : isNotify q) (ho : o < 0x100) : inNotify (0x08000000 + o + 0x100 * q) := by
  simp only [isNotify, inNotify] at *
  omega

section
variable {q : Nat} (hq : isNotify q)
include hq

theorem refreshQueue_tally : (refreshQueue q).tally inNotify := by
  intro s
  simp only [Act.tally_all_cons, Act.tally_all_nil, put_tally, and_true]
  exact ⟨inNotify_of_block hq (o := 0x18) (by decide), inNotify_of_block hq (o := 0x18) (by decide),
    inNotify_of_block hq (o := 0x10) (by decide), inNotify_of_block hq (o := 0x10) (by decide),
    inNotify_of_block hq (o := 0x10) (by decide), inNotify_of_block hq (o := 0x10) (by decide),
    inNotify_of_block hq (o := 0x10) (by decide)⟩

theorem overrun_tally : (event (F.Q_STATUS_OVERRUN q)).tally inNotify :=
  (event_tally _).mpr (inNotify_of_block hq (o := 0x10) (by decide))

theorem advance_tail_tally (k : Nat) : (advance q k (F.Q_POINTERS_TAIL q)).tally inNotify := fun _ =>
  (put_tally _ _).mpr (inNotify_of_block hq (o := 0x20) (by decide))

end

/-- The hooks of one level count in the counter they count, notify in the notification queues, and touch nothing else. -/
structure Hooks.Tallies (h : Hooks) : Prop where
  cnt : ∀ f k, (h.cnt f k).tally (fun a => a = f.addr ∨ inNotify a)
  note : ∀ t k i b, t < 32 → (h.note t k i b).tally inNotify

section
variable {h : Hooks} (H : h.Tallies)
include H

theorem Hooks.Tallies.cnt_in {f : Field} (hf : inNotify f.addr) (k : Nat) : (h.cnt f k).tally inNotify :=
  Act.tally_mono (fun _ ha => ha.elim (fun e => e ▸ hf) id) (H.cnt f k)

theorem countWith_tally (f : Field) (k : Nat) : (countWith h f k).tally (fun a => a = f.addr ∨ inNotify a) := by
  intro s
  simp only [Act.tally_seq, bump_tally, Act.tally_when, true_or, true_and]
  exact fun _ => Act.tally_mono (fun _ => Or.inr) (H.note _ _ _ _ (ownerOf_lt s f.addr))

variable {q : Nat} (hq : isNotify q)
include hq

theorem overrunWith_tally (c : Nat) : (overrunWith h q c).tally inNotify :=
  ⟨overrun_tally hq, H.cnt_in (inNotify_of_block hq (o := 0xA0) (by decide)) _,
    H.cnt_in (inNotify_of_block hq (o := 0xB8) (by decide)) _, trivial⟩

theorem commitWith_tally (i : Item) (b : Nat) : (commitWith h q i b).tally inNotify :=
  ⟨onQueue_tally _ _ _, fun _ => rfl, H.cnt_in (inNotify_of_block hq (o := 0x80) (by decide)) _,
    H.cnt_in (inNotify_of_block hq (o := 0x90) (by decide)) _, refreshQueue_tally hq, touch_tally _ q, committed_tally _ i, trivial⟩

theorem pushWith_tally (p : Producer) (i : Item) : (pushWith h q p i).tally inNotify := by
  intro s
  dsimp only
  split
  case h_1 => exact ⟨advance_tail_tally hq _, commitWith_tally H hq _ _⟩
  case h_2 => trivial
  case h_3 => exact ⟨H.cnt_in (inNotify_of_block hq (o := 0x98) (by decide)) _, H.cnt_in (inNotify_of_block hq (o := 0xB8) (by decide)) _⟩
  case h_4 => exact overrunWith_tally H hq _
  case h_5 => exact overrunWith_tally H hq _
  case h_6 => exact ⟨advance_tail_tally hq _, onQueue_tally _ _ _, refreshQueue_tally hq, touch_tally _ q, trivial⟩
  case h_7 => exact onQueue_tally _ _ _

end

theorem noteWith_tally {h : Hooks} (H : h.Tallies) (t k i : Nat) (b : List Byte) (ht : t < 32) :
    (noteWith h t k i b).tally inNotify := by
  have hq : isNotify (2112 + t) := ⟨by omega, by omega⟩
  intro s
  refine ⟨onQueue_tally _ _ _, ?_⟩
  split
  · simp only [Act.tally_when, Act.tally_seq]
    exact fun _ => ⟨overrun_tally hq, H.cnt_in (inNotify_of_block hq (o := 0xA0) (by decide)) _⟩
  · exact pushWith_tally H hq _ _

theorem hooks_tally (n : Nat) : (hooks n).Tallies := by
  induction n with
  | zero => exact ⟨fun f k => (bump_tally f k).mpr (.inl rfl), fun _ _ _ _ _ => trivial⟩
  | succ n ih => exact ⟨countWith_tally ih, noteWith_tally ih⟩

/-! ## Counters and notifications -/

theorem countBy_tally (f : Field) (k : Nat) : (countBy f k).tally (fun a => a = f.addr ∨ inNotify a) := (hooks_tally 4).cnt f k
theorem count_tally (f : Field) : (count f).tally (fun a => a = f.addr ∨ inNotify a) := countBy_tally f 1
theorem notify_tally (t k i : Nat) (b : List Byte) (ht : t < 32) : (notify t k i b).tally inNotify := (hooks_tally 4).note t k i b ht

theorem count_tallied (f : Field) (s : State) : Tallied (fun a => a = f.addr ∨ inNotify a) s ((count f).run s) :=
  run_tally (count_tally f) s
theorem event_tallied (f : Field) (s : State) : Tallied (fun a => a = f.addr) s ((event f).run s) :=
  run_tally (P := fun a => a = f.addr) ((event_tally f).mpr rfl) s

/-- A counter that stays below half its range notifies nobody (R575). -/
theorem count_below_half {s : State} {f : Field} (h : s.get f + 1 < 2 ^ (f.width - 1)) : (count f).run s = (bump f 1).run s := by
  have hpow : 2 ^ (f.width - 1) ≤ 2 ^ f.width := Nat.pow_le_pow_right (by decide) (Nat.sub_le _ _)
  have hold : (s.get f).testBit (f.width - 1) = false := Nat.testBit_lt_two_pow (by omega)
  have hnew : ((s.get f + 1) % 2 ^ f.width).testBit (f.width - 1) = false := by
    rw [Nat.mod_eq_of_lt (by omega)]
    exact Nat.testBit_lt_two_pow h
  show ((countWith (hooks 3) f 1).run s) = _
  simp only [countWith, run_look, run_seq, hold, hnew, bne_self_eq_false, run_when_false]

/-! ## A write that is counted (R107) -/

/-- The registers that the count of a write may change. -/
def ofWriteCount (a : Nat) : Prop := a = F.IMG_VOLATILE_WRITES_COUNT.addr ∨ inNotify a

/-- A write's own program runs behind the count of the write, if it is counted. -/
theorem run_adjusts_eq (w : Nat) (f : Field) (a : Act) (s : State) :
    ∃ c, (adjusts w f a).run s = a.run ((Act.when c (count F.IMG_VOLATILE_WRITES_COUNT)).run s) := ⟨_, rfl⟩

theorem run_adjusts (w : Nat) (f : Field) (a : Act) (s : State) :
    ∃ u, Tallied ofWriteCount s u ∧ (adjusts w f a).run s = a.run u := by
  obtain ⟨c, hc⟩ := run_adjusts_eq w f a s
  refine ⟨_, ?_, hc⟩
  cases c
  · exact .refl _ s
  · exact count_tallied _ s

/-- Below half the range of the count the write's own program finds all but the count as it was. -/
theorem run_adjusts_below_half (w : Nat) (f : Field) (a : Act) {s : State} (h : s.get F.IMG_VOLATILE_WRITES_COUNT + 1 < 2 ^ 47) :
    ∃ u, Tallied (fun a => a = F.IMG_VOLATILE_WRITES_COUNT.addr) s u ∧ u.units = s.units ∧ (adjusts w f a).run s = a.run u := by
  obtain ⟨c, hc⟩ := run_adjusts_eq w f a s
  refine ⟨_, ?_, ?_, hc⟩ <;> cases c
  · exact .refl _ s
  · rw [run_when_true, count_below_half h]
    exact run_tally (P := fun a => a = F.IMG_VOLATILE_WRITES_COUNT.addr) ((bump_tally _ _).mpr rfl) s
  · rfl
  · rw [run_when_true, count_below_half h]
    rfl

end Sys2Proof.Machine
end

section
/-! Supplies, Ember and the core reset (R46, R53 to R80): what each operation of Power.lean leaves. -/

namespace Sys2Proof.Machine

/-- Leaving entries out by their index: an index that is left out reads as unlisted. -/
theorem Sparse.get_filter_index {α : Type} (d : Nat → α) (m : Sparse α) (p : Nat → Bool) (k : Nat) :
    Sparse.get d (m.filter (fun e => p e.1)) k = if p k then Sparse.get d m k else d k := by
  induction m with
  | nil => simp [Sparse.get]
  | cons e m ih =>
    obtain ⟨i, x⟩ := e
    by_cases hi : i = k
    · subst hi
      cases hp : p i <;> simp [hp, Sparse.get, ih]
    · cases hp : p i <;> simp [hp, Sparse.get, hi, ih]

/-! ## Fields after a write, an event and a count -/

section
variable {s : State} {f g : Field}

/-- A field of one bit that hardware has set. -/
theorem get_event_bit (h : f.msb = f.lsb) (hm : f.msb < 64) : ((event f).run s).get f = 1 := by
  rw [get_event_same s f (by omega) hm, h, Nat.add_sub_cancel_left]
  rfl

/-- A counter of 48 bits below the queues. -/
theorem get_count_48 (h : f.msb = 47 ∧ f.lsb = 0) (ha : f.addr < 0x08000000) :
    ((count f).run s).get f = (s.get f + 1) % 2 ^ 48 := by
  obtain ⟨hm, hl⟩ := h
  rw [get_count s f (by omega) (by omega) ha, hm, hl]

theorem get_count_other (h : ¬ (g.addr = f.addr ∨ inNotify g.addr)) : ((count f).run s).get g = s.get g :=
  (count_tallied f s).get h

theorem rd_event_other {a : Nat} (h : a ≠ f.addr) : ((event f).run s).rd a = s.rd a := (event_tallied f s).rd a h

@[simp] theorem run_event_keep : ((event f).run s).keep = s.keep := rfl
@[simp] theorem run_event_units : ((event f).run s).units = s.units := rfl
@[simp] theorem run_event_flash : ((event f).run s).flash = s.flash := rfl
@[simp] theorem run_event_force : ((event f).run s).force = s.force := rfl
@[simp] theorem run_event_out : ((event f).run s).out = s.out := rfl
@[simp] theorem run_count_keep : ((count f).run s).keep = s.keep := (count_tallied f s).keep
@[simp] theorem run_count_flash : ((count f).run s).flash = s.flash := (count_tallied f s).flash
@[simp] theorem run_count_force : ((count f).run s).force = s.force := (count_tallied f s).force
@[simp] theorem run_count_out : ((count f).run s).out = s.out := (count_tallied f s).out

/-- Hardware sets bit `i` of a field and no other bit of its register. -/
theorem getLsbD_eventBit {i j : Nat} (hj : j < 64) :
    (((eventBit f i).run s).rd f.addr).getLsbD j = ((s.rd f.addr).getLsbD j || decide (j = f.lsb + i)) := by
  have hrd : ((eventBit f i).run s).rd f.addr =
      putBits (s.rd f.addr) (f.lsb + i) (f.lsb + i) (2 ^ (Field.width ⟨f.addr, f.lsb + i, f.lsb + i⟩) - 1) := by
    show Sparse.get resetWord (Sparse.set resetWord s.regs f.addr _) f.addr = _
    rw [Sparse.get_set_same]
  rw [hrd, getLsbD_putBits _ _ _ _ _ hj (Nat.le_refl _)]
  by_cases h : j = f.lsb + i
  · simp [h, Field.width]
  · simp [h, show ¬ (f.lsb + i ≤ j ∧ j ≤ f.lsb + i) by omega]

theorem rd_eventBit_other {a i : Nat} (h : a ≠ f.addr) : ((eventBit f i).run s).rd a = s.rd a := rd_event_other h

end

/-! ## Releasing the pins (R46) -/

theorem run_each_emit {α : Type} (l : List α) (f : α → Emission) (s : State) :
    (Act.each l (fun x => .emit (f x))).run s = { s with out := s.out ++ l.map f } := by
  induction l generalizing s with
  | nil => simp
  | cons x l ih => rw [run_each_cons, ih]; simp [Act.run]

/-- Releasing the pins puts out edges and forgets the levels last driven. -/
theorem run_releasePins (s : State) :
    ∃ l, releasePins.run s = { s with out := s.out ++ l, units := { s.units with driven := [] } } := by
  simp only [releasePins, run_look, run_all_cons, run_all_nil, run_each_emit, Act.run, List.append_assoc]
  exact ⟨_, rfl⟩

/-! ## The core reset (R60) -/

/-- What Ember keeps outside its registers at a core reset. -/
def Ember.coreHeld (e : Ember) : Ember := { e with watchdog := none, starting := false }

theorem run_coreReset (s : State) : ∃ l, coreReset.run s =
    (put F.PWR_STATUS_RAIL_OK (s.get F.PWR_STATUS_RAIL_OK)).run { s with
      regs := s.regs.filter (fun e => emberAddr e.1)
      force := s.force.filter (fun e => emberAddr e.1)
      units := {}
      keep := { s.keep with ember := s.keep.ember.coreHeld }
      out := s.out ++ l } := by
  obtain ⟨l, hl⟩ := run_releasePins s
  refine ⟨l, ?_⟩
  simp only [coreReset, run_look, run_all_cons, run_all_nil, hl]
  rfl

@[simp] theorem coreReset_flash (s : State) : (coreReset.run s).flash = s.flash := by
  obtain ⟨l, hl⟩ := run_coreReset s
  rw [hl]; rfl
@[simp] theorem coreReset_units (s : State) : (coreReset.run s).units = {} := by
  obtain ⟨l, hl⟩ := run_coreReset s
  rw [hl]; rfl
@[simp] theorem coreReset_keep (s : State) : (coreReset.run s).keep = { s.keep with ember := s.keep.ember.coreHeld } := by
  obtain ⟨l, hl⟩ := run_coreReset s
  rw [hl]; rfl

/-- A core reset keeps the words of Ember's registers and clears those of all others, but for RAIL_OK. -/
theorem coreReset_rd (s : State) {a : Nat} (h : a ≠ F.PWR_STATUS_RAIL_OK.addr) :
    (coreReset.run s).rd a = if emberAddr a then s.rd a else resetWord a := by
  obtain ⟨l, hl⟩ := run_coreReset s
  rw [hl, rd_put_other _ _ _ h]
  exact Sparse.get_filter_index resetWord s.regs emberAddr a

@[simp] theorem coreReset_railOk (s : State) : (coreReset.run s).get F.PWR_STATUS_RAIL_OK = s.get F.PWR_STATUS_RAIL_OK := by
  obtain ⟨l, hl⟩ := run_coreReset s
  rw [hl, get_put_same _ _ _ (by decide) (by decide)]
  exact Nat.mod_eq_of_lt (getBits_lt _ _ _)

@[simp] theorem coreReset_rd_ember (s : State) {a : Nat} (h : emberAddr a = true) : (coreReset.run s).rd a = s.rd a := by
  rw [coreReset_rd, if_pos h]
  rintro rfl
  exact absurd h (by decide)

@[simp] theorem coreReset_get_ember (s : State) {f : Field} (h : emberAddr f.addr = true) : (coreReset.run s).get f = s.get f := by
  rw [State.get, coreReset_rd_ember s h]; rfl

theorem coreReset_localReady (s : State) : (coreReset.run s).get F.PWR_STATUS_LOCAL_READY = 0 := by
  obtain ⟨l, hl⟩ := run_coreReset s
  rw [hl, get_put_other _ _ _ _ (by decide) (by decide) (by decide), State.get, State.rd,
    Sparse.get_filter_index resetWord s.regs emberAddr, if_neg (by decide)]
  decide +kernel

@[simp] theorem coreReset_up (s : State) : (coreReset.run s).up = false := by
  simp [State.up, State.is, coreReset_localReady]

@[simp] theorem coreReset_ember (s : State) : (coreReset.run s).ember = s.ember := coreReset_get_ember s rfl

@[simp] theorem coreReset_mainsValid (s : State) : (coreReset.run s).mainsValid = s.mainsValid := by
  simp [State.mainsValid]

/-- Whether the core may start does not depend on what a core reset clears. -/
@[simp] theorem coreReset_coreMayStart (s : State) : (coreReset.run s).coreMayStart = s.coreMayStart := by
  simp [State.coreMayStart, Ember.coreHeld]

/-! ## Ember's state outside its registers -/

section
variable {e : Ember → Ember} {s : State}
@[simp] theorem run_onEmber_keep : ((onEmber e).run s).keep = { s.keep with ember := e s.keep.ember } := rfl
@[simp] theorem run_onEmber_units : ((onEmber e).run s).units = s.units := rfl
@[simp] theorem run_onEmber_flash : ((onEmber e).run s).flash = s.flash := rfl
@[simp] theorem run_onEmber_out : ((onEmber e).run s).out = s.out := rfl
@[simp] theorem run_onEmber_regs : ((onEmber e).run s).regs = s.regs := rfl
@[simp] theorem run_onEmber_rd (a : Nat) : ((onEmber e).run s).rd a = s.rd a := rfl
@[simp] theorem run_onEmber_get (f : Field) : ((onEmber e).run s).get f = s.get f := rfl
end

/-- Settles O54: the reset state is the empty register file, with the default unit state. -/
theorem resetState : Obligations.ResetState := by
  refine ⟨rfl, fun a => ⟨rfl, rfl⟩, rfl, rfl, rfl, ?_, rfl, ?_⟩
  · show State.is _ _ = false
    decide +kernel
  · decide +kernel

end Sys2Proof.Machine
end

section
/-! Supplies and Ember (R53, R55, R60, R64 to R67, R78 to R80): the statement on their events. -/

namespace Sys2Proof.Machine

theorem railOk_lt (s : State) : s.get F.PWR_STATUS_RAIL_OK < 128 := getBits_lt _ _ _

/-- RAIL_OK takes a value of its seven bits. -/
theorem railOk_put {s : State} {v : Nat} (h : v < 128) : ((put F.PWR_STATUS_RAIL_OK v).run s).get F.PWR_STATUS_RAIL_OK = v := by
  rw [get_put_same _ _ _ (by decide) (by decide)]
  exact Nat.mod_eq_of_lt h

/-! ## A main supply falls (R78) -/

/-- A valid supply's RAIL_OK bit is cleared. -/
def railFalls (rail : Nat) : Act := .look fun s =>
  Act.when ((s.get F.PWR_STATUS_RAIL_OK).testBit rail) (put F.PWR_STATUS_RAIL_OK (s.get F.PWR_STATUS_RAIL_OK - 2 ^ rail))

theorem railFalls_railOk (rail : Nat) (s : State) : ((railFalls rail).run s).get F.PWR_STATUS_RAIL_OK =
    if (s.get F.PWR_STATUS_RAIL_OK).testBit rail then s.get F.PWR_STATUS_RAIL_OK - 2 ^ rail else s.get F.PWR_STATUS_RAIL_OK := by
  simp only [railFalls, run_look]
  cases (s.get F.PWR_STATUS_RAIL_OK).testBit rail with
  | false => rfl
  | true =>
    rw [run_when_true, railOk_put (Nat.lt_of_le_of_lt (Nat.sub_le _ _) (railOk_lt s)), if_pos rfl]

theorem railFalls_tally (rail : Nat) : (railFalls rail).tally (fun a => a = F.PWR_STATUS_RAIL_OK.addr) := fun _ =>
  (Act.tally_when _ _).mpr fun _ => (put_tally _ _).mpr rfl

theorem railFalls_tallied (rail : Nat) (s : State) :
    Tallied (fun a => a = F.PWR_STATUS_RAIL_OK.addr) s ((railFalls rail).run s) := run_tally (railFalls_tally rail) s

theorem railFalls_units (rail : Nat) (s : State) : ((railFalls rail).run s).units = s.units := by
  simp only [railFalls, run_look]
  cases (s.get F.PWR_STATUS_RAIL_OK).testBit rail <;> rfl

/-- The core is held in reset and Ember records the brown-out. -/
def brownsOut : Act := Act.all [coreReset, onEmber (fun e => { e with resetKind := 1 }), put F.EMB_STATUS_STATE embWaking,
  event F.EMB_WAKE_CAUSE_BROWNOUT, count F.EMB_BROWNOUT_CNT_COUNT]

theorem run_brownout_running {s : State} {rail : Nat} (hrail : rail < 6) (hember : s.ember = embActive ∨ s.ember = embWaking)
    (hvaon : s.keep.ember.vaon = true) : (brownoutAct rail).run s = brownsOut.run ((railFalls rail).run s) := by
  have h : (decide (s.ember = embActive) || decide (s.ember = embWaking)) = true := by simpa using hember
  simp only [brownoutAct, run_look, hrail, hvaon, h, decide_true, run_when_true, run_all_cons, run_all_nil, brownsOut, railFalls]

theorem run_brownout_dormant {s : State} {rail : Nat} (hrail : rail < 6) (hactive : s.ember ≠ embActive) (hwaking : s.ember ≠ embWaking) :
    (brownoutAct rail).run s = (railFalls rail).run s := by
  simp [brownoutAct, hrail, hactive, hwaking, railFalls]

theorem brownsOut_spec (s : State) :
    (brownsOut.run s).get F.PWR_STATUS_RAIL_OK = s.get F.PWR_STATUS_RAIL_OK ∧
    (brownsOut.run s).get F.PWR_STATUS_LOCAL_READY = 0 ∧
    (brownsOut.run s).ember = embWaking ∧
    (brownsOut.run s).get F.EMB_WAKE_CAUSE_BROWNOUT = 1 ∧
    (brownsOut.run s).get F.EMB_BROWNOUT_CNT_COUNT = (s.get F.EMB_BROWNOUT_CNT_COUNT + 1) % 2 ^ 48 ∧
    (brownsOut.run s).keep.ember.watchdog = none ∧
    (brownsOut.run s).keep.chron = s.keep.chron ∧
    (brownsOut.run s).flash = s.flash := by
  simp only [brownsOut, run_all_cons, run_all_nil]
  refine ⟨?_, ?_, ?_, ?_, ?_, ?_, ?_, ?_⟩
  · simp (disch := decide) [get_count_other, get_event_other, get_put_other]
  · simp (disch := decide) [get_count_other, get_event_other, get_put_other, coreReset_localReady]
  · rw [State.ember, get_count_other (by decide), get_event_other _ _ _ (by decide) (by decide) (by decide),
      get_put_same _ _ _ (by decide) (by decide)]
    decide
  · simp (disch := decide) [get_count_other, get_event_bit]
  · simp (disch := decide) [get_count_48, get_event_other, get_put_other]
  · simp [Ember.coreHeld]
  · simp
  · simp

/-- Ember's cold values show the cold reset (R64). -/
theorem cold_of_noRegs {s : State} (h : s.regs = []) : s.get F.EMB_WAKE_CAUSE_COLD = 1 := by
  rw [State.get, State.rd, h]
  decide +kernel

/-! ## VAON comes and goes (R64, R79) -/

theorem run_coldReset {s : State} (h : s.keep.ember.vaon = false) : ∃ l, coldResetAct.run s =
    (put F.PWR_STATUS_RAIL_OK (s.get F.PWR_STATUS_RAIL_OK)).run { s with
      regs := [], force := [], units := {}, out := s.out ++ l
      keep := { s.keep with ember := { vaon := true, pwrOn := .high, rstLow := s.keep.ember.rstLow, resetKind := 0 } } } := by
  obtain ⟨l, hl⟩ := run_releasePins s
  refine ⟨l, ?_⟩
  simp only [coldResetAct, run_look, h, Bool.not_false, run_when_true, run_all_cons, run_all_nil, hl]
  rfl

theorem Sparse.get_unlisted {α : Type} (d : Nat → α) {m : Sparse α} {k : Nat} (h : k ∉ m.map (·.1)) : Sparse.get d m k = d k := by
  induction m with
  | nil => rfl
  | cons e m ih =>
    simp only [List.map_cons, List.mem_cons, not_or] at h
    simp [Sparse.get, Ne.symm h.1, ih h.2]

/-- Listed registers go back to their reset values. -/
theorem run_each_resetReg (l : List (Nat × Word)) (s : State) :
    ∃ r, (Act.each l (fun e => .reg e.1 (resetWord e.1))).run s = { s with regs := r } ∧
      ∀ a, Sparse.get resetWord r a = if a ∈ l.map (·.1) then resetWord a else s.rd a := by
  induction l generalizing s with
  | nil => exact ⟨s.regs, rfl, fun a => rfl⟩
  | cons e l ih =>
    obtain ⟨r, hrun, hget⟩ := ih ((Act.reg e.1 (resetWord e.1)).run s)
    refine ⟨r, hrun, fun a => ?_⟩
    rw [hget a, rd_reg]
    by_cases ha : a = e.1
    · simp [ha]
    · simp [ha]

theorem run_each_resetForce (l : List (Nat × Word)) (s : State) :
    ∃ r, (Act.each l (fun e => .inForce e.1 (resetWord e.1))).run s = { s with force := r } := by
  induction l generalizing s with
  | nil => exact ⟨s.force, rfl⟩
  | cons e l ih => exact ih ((Act.inForce e.1 (resetWord e.1)).run s)

/-- Without VAON every register of Ember is back at its reset value, and every other register as it was. -/
theorem run_vaonLoss (s : State) : ∃ r q, vaonLossAct.run s = { s with
      regs := r, force := q
      keep := { s.keep with ember := { vaon := false, pwrOn := .hiZ, rstLow := s.keep.ember.rstLow } } } ∧
    ∀ a, Sparse.get resetWord r a = if emberAddr a then resetWord a else s.rd a := by
  obtain ⟨r, hr, hget⟩ := run_each_resetReg (s.regs.filter (fun e => emberAddr e.1)) s
  obtain ⟨q, hq⟩ := run_each_resetForce (s.force.filter (fun e => emberAddr e.1)) { s with regs := r }
  refine ⟨r, q, ?_, fun a => ?_⟩
  · simp only [vaonLossAct, run_look, run_all_cons, run_all_nil, hr, hq]
    rfl
  · have hmem : a ∈ (s.regs.filter (fun e => emberAddr e.1)).map (·.1) ↔ a ∈ s.regs.map (·.1) ∧ emberAddr a = true := by
      simp only [List.mem_map, List.mem_filter]
      constructor
      · rintro ⟨e, ⟨he, hb⟩, rfl⟩
        exact ⟨⟨e, he, rfl⟩, hb⟩
      · rintro ⟨⟨e, he, rfl⟩, hb⟩
        exact ⟨e, ⟨he, hb⟩, rfl⟩
    rw [hget a]
    simp only [hmem]
    by_cases hb : emberAddr a = true
    · by_cases hl : a ∈ s.regs.map (·.1)
      · rw [if_pos ⟨hl, hb⟩, if_pos hb]
      · rw [if_neg (fun h => hl h.1), if_pos hb]
        exact Sparse.get_unlisted resetWord hl
    · rw [if_neg (fun h => hb h.2), if_neg hb]

/-! ## Rails off and stuck (R66, R67) -/

theorem run_mainRailsOff {s : State} (h : s.ember = embEntering) : mainRailsOffAct.run s =
    (onEmber (fun e => { e with offAt := s.keep.elapsed, resetKind := 1 })).run
      ((put F.EMB_STATUS_STATE (if s.keep.ember.listening then embListening else embDormant)).run
        ((put F.PWR_STATUS_RAIL_OK (s.get F.PWR_STATUS_RAIL_OK / 64 * 64)).run s)) := by
  simp [mainRailsOffAct, h]

theorem run_railStuck {s : State} (hember : s.ember = embEntering) (hrails : s.get F.PWR_STATUS_RAIL_OK % 64 ≠ 0)
    (htime : s.keep.ember.lowAt + 5 * tickS ≤ s.keep.elapsed) : railStuckAct.run s =
    (onEmber (fun e => { e with stuck := true })).run ((event F.EMB_WAKE_CAUSE_RAIL_STUCK).run s) := by
  simp [railStuckAct, hember, hrails, htime]

/-! ## The statement -/

/-- Settles O1: each event of a supply or of Ember by the equation of its run. -/
theorem supplyAndEmberEvents : Obligations.SupplyAndEmberEvents := by
  unfold Obligations.SupplyAndEmberEvents
  refine ⟨fun s hvaon => ?cold, fun s hvaon => ?coldNot, fun s => ?loss, fun s rail hrail hember hvaon => ?brownout,
    fun s rail hrail hactive hwaking => ?brownoutDormant, fun s rail hrail => ?brownoutNot,
    fun s rail high hrail hok => ?excursion, fun s rail high hnot => ?excursionNot, fun s hember => ?railsOff,
    fun s hember => ?railsOffNot, fun s hember hrails htime => ?stuck, fun s hnot => ?stuckNot⟩
  case cold =>
    obtain ⟨l, hl⟩ := run_coldReset hvaon
    refine ⟨_, congrArg Host.Outcome.next hl, rfl, rfl, rfl, rfl, ?_, ?_, rfl, ?_, fun a => rfl, rfl⟩
    · exact railOk_put (railOk_lt s)
    · rw [get_put_other _ _ _ _ (by decide) (by decide) (by decide)]
      exact cold_of_noRegs rfl
    · exact fun a ha => rd_put_other _ _ _ ha
  case coldNot => simp [exec, execColdReset, coldResetAct, hvaon]
  case loss =>
    obtain ⟨r, q, hrun, hget⟩ := run_vaonLoss s
    exact ⟨_, congrArg Host.Outcome.next hrun, rfl, rfl, rfl, rfl, rfl, hget, rfl⟩
  case brownout =>
    have hfalls := railFalls_tallied rail s
    obtain ⟨hok, hready, hwaking, hbrownout, hcount, hwatchdog, hchron, hflash⟩ := brownsOut_spec ((railFalls rail).run s)
    refine ⟨_, congrArg Host.Outcome.next (run_brownout_running hrail hember hvaon), hok.trans (railFalls_railOk rail s), hready, hwaking,
      hbrownout, ?_, hwatchdog, ?_, hflash.trans hfalls.flash⟩
    · rw [hcount, hfalls.get (by decide)]
    · rw [hchron, hfalls.keep]
  case brownoutDormant =>
    have hfalls := railFalls_tallied rail s
    exact ⟨_, congrArg Host.Outcome.next (run_brownout_dormant hrail hactive hwaking), railFalls_railOk rail s, hfalls.keep,
      railFalls_units rail s, hfalls.rd, hfalls.flash⟩
  case brownoutNot => simp [exec, execBrownout, brownoutAct, Nat.not_lt.mpr hrail]
  case excursion =>
    have hrun : (supplyExcursionAct rail high).run s =
        (eventBit (if high then F.PWR_EVENTS_OVER else F.PWR_EVENTS_UNDER) rail).run s := by
      simp [supplyExcursionAct, hrail, hok]
    refine ⟨_, congrArg Host.Outcome.next hrun, rfl, rfl, rfl, fun i hi => ?_, fun a ha => ?_, rfl⟩ <;> cases high
    · simpa [F.PWR_EVENTS_UNDER, F.PWR_EVENTS_OVER] using getLsbD_eventBit (f := F.PWR_EVENTS_UNDER) (i := rail) (s := s) hi
    · simpa [F.PWR_EVENTS_OVER, Nat.add_comm] using getLsbD_eventBit (f := F.PWR_EVENTS_OVER) (i := rail) (s := s) hi
    · exact rd_eventBit_other ha
    · exact rd_eventBit_other ha
  case excursionNot =>
    have hcond : (decide (rail < 7) && (s.get F.PWR_STATUS_RAIL_OK).testBit rail) = false := by
      rcases hnot with h | h
      · simp [Nat.not_lt.mpr h]
      · simp [h]
    simp [exec, execSupplyExcursion, supplyExcursionAct, hcond]
  case railsOff =>
    have hlt := railOk_lt s
    refine ⟨_, congrArg Host.Outcome.next (run_mainRailsOff hember), ?_, ?_, rfl, rfl, rfl, fun a ha => ?_, rfl⟩
    · rw [run_onEmber_get, get_put_other _ _ _ _ (by decide) (by decide) (by decide), railOk_put (by omega)]
    · rw [State.ember, run_onEmber_get, get_put_same _ _ _ (by decide) (by decide)]
      cases s.keep.ember.listening <;> rfl
    · obtain ⟨hrail, hstate⟩ := not_or.mp ha
      rw [run_onEmber_rd, rd_put_other _ _ _ hstate, rd_put_other _ _ _ hrail]
  case railsOffNot => simp [exec, execMainRailsOff, mainRailsOffAct, hember]
  case stuck =>
    refine ⟨_, congrArg Host.Outcome.next (run_railStuck hember hrails htime), ?_, rfl, ?_, rfl, fun a ha => ?_, rfl⟩
    · rw [run_onEmber_get, get_event_bit rfl (by decide)]
    · rw [State.ember, run_onEmber_get, get_event_other _ _ _ (by decide) (by decide) (by decide)]
      exact hember
    · rw [run_onEmber_rd, rd_event_other ha]
  case stuckNot =>
    have hcond : (decide (s.ember = embEntering) && decide (s.get F.PWR_STATUS_RAIL_OK % 64 ≠ 0) &&
        decide (s.keep.elapsed ≥ s.keep.ember.lowAt + 5 * tickS)) = false := by
      rcases hnot with h | h | h
      · simp [h]
      · simp [h]
      · simp [Nat.not_le.mpr h]
    simp only [exec, execRailStuck, railStuckAct, run_look, hcond, run_when_false]

end Sys2Proof.Machine
end

section
/-! Interlock outputs and utility pins (R52, R56, R450 to R460): what the operations of Pins.lean and Edge.lean leave. -/

namespace Sys2Proof.Machine

/-! ## The fields of a trip unit -/

/-- The hypotheses on fields of the pins' register arrays come down to arithmetic by these definitions. -/
theorem is_eq_true {s : State} {f : Field} : s.is f = true ↔ s.get f ≠ 0 := by simp [State.is]
theorem is_eq_false {s : State} {f : Field} : s.is f = false ↔ s.get f = 0 := by simp [State.is]

/-- A bit that is put at 1 or 0. -/
theorem is_put_bit {s : State} {f : Field} (h : f.msb = f.lsb) (hm : f.msb < 64) (b : Bool) :
    ((put f (b2n b)).run s).is f = b := by
  rw [State.is, get_put_same _ _ _ (by omega) hm, h, Nat.add_sub_cancel_left]
  cases b <;> rfl

/-- A conditional program, field by field (as an equation that is no reduction, which a comparison of runs would unfold). -/
theorem get_when (c : Bool) (a : Act) (s : State) (f : Field) :
    ((Act.when c a).run s).get f = if c = true then (a.run s).get f else s.get f := by
  cases c <;> simp

/-! ## Fields of one row of a register array, at the same offset `k` above the first row -/

section
variable {a b m l m' l' k : Nat} {s : State}

theorem get_put_row (v : Nat) (hl : l ≤ m) (hm : m' < 64) (h : a ≠ b ∨ m' < l ∨ m < l') :
    ((put ⟨a + k, m, l⟩ v).run s).get ⟨b + k, m', l'⟩ = s.get ⟨b + k, m', l'⟩ :=
  get_put_other _ _ _ _ hl hm (h.imp_left fun h e => h (Nat.add_right_cancel e))

theorem get_put_row_same (v : Nat) (hl : l ≤ m) (hm : m < 64) :
    ((put ⟨a + k, m, l⟩ v).run s).get ⟨a + k, m, l⟩ = v % 2 ^ (m + 1 - l) := get_put_same _ _ _ hl hm

theorem get_count_row (hk : k < 0x1000) (h : a ≠ b) (hb : b < 0x08000000) :
    ((count ⟨a + k, m, l⟩).run s).get ⟨b + k, m', l'⟩ = s.get ⟨b + k, m', l'⟩ :=
  get_count_other (by rintro (e | e) <;> simp only [inNotify] at * <;> omega)

theorem get_count_row_same (hk : k < 0x1000) (ha : a < 0x07000000) :
    ((count ⟨a + k, 47, 0⟩).run s).get ⟨a + k, 47, 0⟩ = (s.get ⟨a + k, 47, 0⟩ + 1) % 2 ^ 48 :=
  get_count_48 ⟨rfl, rfl⟩ (by dsimp only; omega)
end

/-! ## Interlock outputs (R450 to R452) -/

/-- From `s` to `t` nothing but edges put out and bits of number `b` in the FAULT registers. -/
structure Shown (b : Nat) (s t : State) : Prop where
  same : ∃ l r, t = { s with regs := r, out := s.out ++ l }
  rd : ∀ a, ¬ ilkFault a → t.rd a = s.rd a
  get : ∀ f : Field, f.msb < 64 → (f.msb < b ∨ b < f.lsb) → t.get f = s.get f

namespace Shown

variable {b : Nat} {s t u : State}

theorem refl (b : Nat) (s : State) : Shown b s s :=
  ⟨⟨[], s.regs, by simp⟩, fun _ _ => rfl, fun _ _ _ => rfl⟩

theorem trans (h : Shown b s t) (g : Shown b t u) : Shown b s u := by
  refine ⟨?_, fun a ha => (g.rd a ha).trans (h.rd a ha), fun f hm hf => (g.get f hm hf).trans (h.get f hm hf)⟩
  obtain ⟨l, r, rfl⟩ := h.same
  obtain ⟨l', r', rfl⟩ := g.same
  exact ⟨l ++ l', r', by simp⟩

theorem force (h : Shown b s t) : t.force = s.force := by obtain ⟨l, r, rfl⟩ := h.same; rfl
theorem flash (h : Shown b s t) : t.flash = s.flash := by obtain ⟨l, r, rfl⟩ := h.same; rfl
theorem units (h : Shown b s t) : t.units = s.units := by obtain ⟨l, r, rfl⟩ := h.same; rfl
theorem keep (h : Shown b s t) : t.keep = s.keep := by obtain ⟨l, r, rfl⟩ := h.same; rfl
theorem is (h : Shown b s t) (f : Field) (hm : f.msb < 64) (hf : f.msb < b ∨ b < f.lsb) : t.is f = s.is f := by
  rw [State.is, h.get f hm hf]; rfl
theorem get_of_addr (h : Shown b s t) {f : Field} (hf : ¬ ilkFault f.addr) : t.get f = s.get f := by
  rw [State.get, h.rd _ hf]; rfl
theorem up (h : Shown b s t) : t.up = s.up := by
  rw [State.up, State.is, h.get_of_addr (by decide)]; rfl

/-- What an interlock output drives hangs neither on PIN_HIGH nor on VFLD_OFF. -/
theorem ilkPin (h : Shown b s t) (hb : b ≤ 28) (hb4 : 4 ≤ b) (o : Nat) : t.ilkPin o = s.ilkPin o := by
  have hsource : t.get (F.ILK_CFG_SOURCE o) = s.get (F.ILK_CFG_SOURCE o) :=
    h.get_of_addr (by simp only [F.ILK_CFG_SOURCE, ilkFault]; omega)
  have hstate : t.get (F.ILK_CFG_STATE o) = s.get (F.ILK_CFG_STATE o) :=
    h.get_of_addr (by simp only [F.ILK_CFG_STATE, ilkFault]; omega)
  have htripped : t.is (F.ILK_FAULT_TRIPPED o) = s.is (F.ILK_FAULT_TRIPPED o) :=
    h.is (F.ILK_FAULT_TRIPPED o) (by simp [F.ILK_FAULT_TRIPPED]) (.inr (by simp only [F.ILK_FAULT_TRIPPED]; omega))
  have hlatched : t.is (F.ILK_FAULT_LATCHED o) = s.is (F.ILK_FAULT_LATCHED o) :=
    h.is (F.ILK_FAULT_LATCHED o) (by simp [F.ILK_FAULT_LATCHED]) (.inr (by simp only [F.ILK_FAULT_LATCHED]; omega))
  have hvfld : t.vfld = s.vfld := by rw [State.vfld, h.get_of_addr (by decide)]; rfl
  have hfenced : t.fenced = s.fenced := by rw [State.fenced, State.is, h.get_of_addr (by decide)]; rfl
  have hunconfigured : t.unconfigured = s.unconfigured := by rw [State.unconfigured, h.get_of_addr (by decide)]; rfl
  have hlive : t.liveRole = s.liveRole := by
    rw [State.liveRole, h.up, hfenced, hunconfigured, h.get_of_addr (by decide)]; rfl
  have hwants : t.ilkWants o = s.ilkWants o := by
    rw [State.ilkWants, hsource, hstate, hlive, State.voteHolds, h.units]; rfl
  simp only [State.ilkPin, h.up, hvfld, htripped, hlatched, hwants, h.keep]

end Shown

/-- Putting the bit of FAULT that `Shown` speaks of. -/
theorem shown_put {b o : Nat} (ho : o < 8) (v : Nat) (s : State) :
    Shown b s ((put ⟨0x00084008 + 0x40 * o, b, b⟩ v).run s) := by
  refine ⟨⟨[], ((put ⟨0x00084008 + 0x40 * o, b, b⟩ v).run s).regs, by simp [put]; rfl⟩, fun a ha => ?_, fun f hm hf => ?_⟩
  · refine rd_put_other _ _ _ fun h => ha ?_
    simp only [ilkFault] at *
    omega
  · exact get_put_other _ _ _ _ (Nat.le_refl _) hm (.inr hf)

/-- Bits of FAULT put for several outputs: each listed output shows its value, the others keep theirs. -/
theorem run_each_faultBit {b : Nat} (hb : b < 64) (v : Bool) {os : List Nat} (hos : ∀ o ∈ os, o < 8) (s : State) :
    Shown b s ((Act.each os (fun o => put ⟨0x00084008 + 0x40 * o, b, b⟩ (b2n v))).run s) ∧
    ∀ k, k ∈ os ∨ s.is ⟨0x00084008 + 0x40 * k, b, b⟩ = v →
      ((Act.each os (fun o => put ⟨0x00084008 + 0x40 * o, b, b⟩ (b2n v))).run s).is ⟨0x00084008 + 0x40 * k, b, b⟩ = v := by
  induction os generalizing s with
  | nil => exact ⟨.refl b s, fun k hk => hk.elim (fun h => absurd h (List.not_mem_nil)) id⟩
  | cons o os ih =>
    obtain ⟨hshown, hset⟩ := ih (fun x hx => hos x (List.mem_cons_of_mem o hx))
      ((put ⟨0x00084008 + 0x40 * o, b, b⟩ (b2n v)).run s)
    refine ⟨(shown_put (hos o List.mem_cons_self) _ s).trans hshown, fun k hk => hset k ?_⟩
    by_cases hko : k = o
    · exact .inr (hko ▸ is_put_bit rfl hb v)
    · refine hk.imp (fun h => (List.mem_cons.mp h).resolve_left hko) fun h => ?_
      rw [State.is, get_put_other _ _ _ _ (Nat.le_refl _) hb (.inl (by dsimp only; omega))]
      exact h

theorem run_when_emit (c : Bool) (m : Emission) (s : State) :
    ∃ l, (Act.when c (.emit m)).run s = { s with out := s.out ++ l } := by
  cases c
  · exact ⟨[], by simp⟩
  · exact ⟨[m], rfl⟩

/-- PIN_HIGH of an output follows what it drives (R450). -/
def State.pinShown (s : State) (o : Nat) : Prop := s.is (F.ILK_FAULT_PIN_HIGH o) = (s.ilkPin o == Drive.high)

theorem run_driveIlk (o : Nat) (d : Drive) (s : State) : ∃ l, (driveIlk o d).run s =
    { (put (F.ILK_FAULT_PIN_HIGH o) (b2n (s.ilkPin o = .high))).run s with out := s.out ++ l } := by
  obtain ⟨between, hbetween⟩ := run_when_emit (s.ilkPin o ≠ d && s.ilkPin o ≠ .hiZ && d ≠ .hiZ) (.pin 2 o .hiZ 1000)
    ((put (F.ILK_FAULT_PIN_HIGH o) (b2n (s.ilkPin o = .high))).run s)
  obtain ⟨l, hl⟩ := run_when_emit (s.ilkPin o ≠ d) (.pin 2 o (s.ilkPin o) 0)
    { (put (F.ILK_FAULT_PIN_HIGH o) (b2n (s.ilkPin o = .high))).run s with out := s.out ++ between }
  refine ⟨between ++ l, ?_⟩
  simp only [driveIlk, run_look, run_all_cons, run_all_nil]
  rw [hbetween]
  exact hl.trans (by rw [List.append_assoc])

theorem shown_driveIlk {o : Nat} (ho : o < 8) (d : Drive) (s : State) :
    Shown 4 s ((driveIlk o d).run s) ∧ ((driveIlk o d).run s).pinShown o ∧
    ∀ k, k ≠ o → s.pinShown k → ((driveIlk o d).run s).pinShown k := by
  obtain ⟨l, hl⟩ := run_driveIlk o d s
  have hput : Shown 4 s ((put (F.ILK_FAULT_PIN_HIGH o) (b2n (s.ilkPin o = .high))).run s) := shown_put ho _ s
  have hshown : Shown 4 s ((driveIlk o d).run s) := by
    rw [hl]
    exact hput.trans ⟨⟨l, _, rfl⟩, fun _ _ => rfl, fun _ _ _ => rfl⟩
  refine ⟨hshown, ?_, fun k hk h => ?_⟩
  · rw [State.pinShown, hshown.ilkPin (by decide) (by decide), hl]
    refine (is_put_bit (f := F.ILK_FAULT_PIN_HIGH o) rfl (by simp [F.ILK_FAULT_PIN_HIGH]) _).trans ?_
    cases s.ilkPin o <;> rfl
  · rw [State.pinShown, hshown.ilkPin (by decide) (by decide), hl]
    refine Eq.trans ?_ h
    show decide (_ ≠ 0) = decide (_ ≠ 0)
    rw [show ∀ t : State, State.get { t with out := s.out ++ l } (F.ILK_FAULT_PIN_HIGH k) = t.get (F.ILK_FAULT_PIN_HIGH k)
      from fun _ => rfl, get_put_other _ _ _ _ (Nat.le_refl _) (by simp [F.ILK_FAULT_PIN_HIGH])
        (.inl (by simp only [F.ILK_FAULT_PIN_HIGH]; omega))]

theorem shown_each_driveIlk (d : Nat → Drive) {os : List Nat} (hos : ∀ o ∈ os, o < 8) (s : State) :
    Shown 4 s ((Act.each os (fun o => driveIlk o (d o))).run s) ∧
    ∀ k, k ∈ os ∨ s.pinShown k → ((Act.each os (fun o => driveIlk o (d o))).run s).pinShown k := by
  induction os generalizing s with
  | nil => exact ⟨.refl 4 s, fun k hk => hk.elim (fun h => absurd h (List.not_mem_nil)) id⟩
  | cons o os ih =>
    obtain ⟨hone, hself, hothers⟩ := shown_driveIlk (hos o List.mem_cons_self) (d o) s
    obtain ⟨hrest, hset⟩ := ih (fun x hx => hos x (List.mem_cons_of_mem o hx)) ((driveIlk o (d o)).run s)
    refine ⟨hone.trans hrest, fun k hk => hset k ?_⟩
    by_cases hko : k = o
    · exact .inr (hko ▸ hself)
    · exact hk.imp (fun h => (List.mem_cons.mp h).resolve_left hko) (hothers k hko)

/-- A change under `withIlk`: what it leaves, with PIN_HIGH shown of every output. -/
theorem withIlk_shown (a : Act) (s : State) :
    Shown 4 (a.run s) ((withIlk a).run s) ∧
    ∀ k ∈ List.range 8, ((withIlk a).run s).is (F.ILK_FAULT_PIN_HIGH k) = (((withIlk a).run s).ilkPin k == Drive.high) := by
  obtain ⟨hshown, hset⟩ := shown_each_driveIlk (fun o => s.ilkPin o) (os := List.range 8) (fun o ho => List.mem_range.mp ho) (a.run s)
  exact ⟨hshown, fun k hk => hset k (.inl hk)⟩

/-- A tripped output is off, and so is one without VFLD. -/
theorem ilkPin_of_tripped {s : State} {o : Nat} (h : s.is (F.ILK_FAULT_TRIPPED o) = true) : s.ilkPin o = .hiZ := by
  simp [State.ilkPin, h]
theorem ilkPin_of_no_vfld {s : State} (o : Nat) (h : s.vfld = false) : s.ilkPin o = .hiZ := by simp [State.ilkPin, h]

/-! ## A trip of an interlock output (R451, R452) -/

section
variable {o : Nat} {f : TripUnit → TripUnit} {s : State}
@[simp] theorem run_onIlk_keep : ((onIlk o f).run s).keep = s.keep := rfl
@[simp] theorem run_onIlk_force : ((onIlk o f).run s).force = s.force := rfl
@[simp] theorem run_onIlk_flash : ((onIlk o f).run s).flash = s.flash := rfl
@[simp] theorem run_onIlk_out : ((onIlk o f).run s).out = s.out := rfl
@[simp] theorem run_onIlk_regs : ((onIlk o f).run s).regs = s.regs := rfl
@[simp] theorem run_onIlk_rd (a : Nat) : ((onIlk o f).run s).rd a = s.rd a := rfl
@[simp] theorem run_onIlk_get (g : Field) : ((onIlk o f).run s).get g = s.get g := rfl
@[simp] theorem run_onIlk_ilk : ((onIlk o f).run s).ilk o = f (s.ilk o) := Sparse.get_set_same ..
end

/-- What a trip flags and counts before it opens the switches. -/
def tripFlags (o ty : Nat) : Act := Act.all [put (F.ILK_FAULT_TRIPPED o) 1, put (F.ILK_FAULT_TYPE o) ty, count (F.ILK_TRIPS_C o),
  Act.when (ty = 4) (count (F.ILK_THERMAL_C o))]

/-- A trip that has used up its retries is latched. -/
def tripLatch (o : Nat) (c : Bool) : Act := Act.when c (put (F.ILK_FAULT_LATCHED o) 1)

theorem run_tripIlk (o ty : Nat) (s : State) : (tripIlk o ty).run s =
    (tripLatch o (decide (s.get (F.ILK_FAULT_RETRIES o) ≥ s.get (F.ILK_CFG_RETRY_LIMIT o)))).run
      ((onIlk o (fun u => { u with trippedAt := s.keep.elapsed, cooled := ty ≠ 4 })).run ((tripFlags o ty).run s)) := rfl

theorem tripFlags_tally (o ty : Nat) : (tripFlags o ty).tally (fun a => inIlk o a ∨ inNotify a) := by
  have hcount : ∀ f : Field, inIlk o f.addr → (count f).tally (fun a => inIlk o a ∨ inNotify a) := fun f hf =>
    Act.tally_mono (fun a ha => ha.imp_left fun (h : a = f.addr) => h ▸ hf) (count_tally f)
  simp only [tripFlags, Act.tally_all_cons, Act.tally_all_nil, put_tally, Act.tally_when, and_true]
  refine ⟨.inl ?_, .inl ?_, hcount _ ?_, fun _ => hcount _ ?_⟩ <;>
    simp only [inIlk, F.ILK_FAULT_TRIPPED, F.ILK_FAULT_TYPE, F.ILK_TRIPS_C, F.ILK_THERMAL_C] <;> omega

theorem run_tripFlags (o ty : Nat) (s : State) : (tripFlags o ty).run s =
    (Act.when (ty = 4) (count (F.ILK_THERMAL_C o))).run ((count (F.ILK_TRIPS_C o)).run
      ((put (F.ILK_FAULT_TYPE o) ty).run ((put (F.ILK_FAULT_TRIPPED o) 1).run s))) := rfl









theorem tripFlags_get {o ty : Nat} (ho : o < 8) (hty : ty < 16) (s : State) :
    ((tripFlags o ty).run s).get (F.ILK_FAULT_TRIPPED o) = 1 ∧ ((tripFlags o ty).run s).get (F.ILK_FAULT_TYPE o) = ty ∧
    ((tripFlags o ty).run s).get (F.ILK_TRIPS_C o) = (s.get (F.ILK_TRIPS_C o) + 1) % 2 ^ 48 ∧
    (ty = 4 → ((tripFlags o ty).run s).get (F.ILK_THERMAL_C o) = (s.get (F.ILK_THERMAL_C o) + 1) % 2 ^ 48) := by
  have hk : 0x40 * o < 0x1000 := by omega
  rw [run_tripFlags]
  simp only [F.ILK_FAULT_TRIPPED, F.ILK_FAULT_TYPE, F.ILK_TRIPS_C, F.ILK_THERMAL_C, get_when]
  simp (disch := decide) only [get_put_row_same, get_count_row_same hk, get_count_row hk, get_put_row, ite_self]
  exact ⟨rfl, Nat.mod_eq_of_lt hty, trivial, fun h => if_pos (decide_eq_true h)⟩

theorem tripLatch_same (o : Nat) (c : Bool) (s : State) : ∃ r, (tripLatch o c).run s = { s with regs := r } := by
  cases c
  · exact ⟨s.regs, rfl⟩
  · exact ⟨_, rfl⟩

theorem tripLatch_units (o : Nat) (c : Bool) (s : State) : ((tripLatch o c).run s).units = s.units := by cases c <;> rfl

theorem ilk_congr {s t : State} (h : t.units = s.units) (o : Nat) : t.ilk o = s.ilk o := by rw [State.ilk, h]; rfl

/-- Between two states: a trip of one output, in what it flags, counts and keeps. -/
structure Tripped (o ty : Nat) (s t : State) : Prop where
  tripped : t.get (F.ILK_FAULT_TRIPPED o) = 1
  type : t.get (F.ILK_FAULT_TYPE o) = ty
  trips : t.get (F.ILK_TRIPS_C o) = (s.get (F.ILK_TRIPS_C o) + 1) % 2 ^ 48
  thermal : ty = 4 → t.get (F.ILK_THERMAL_C o) = (s.get (F.ILK_THERMAL_C o) + 1) % 2 ^ 48
  cooled : (t.ilk o).cooled = decide (ty ≠ 4)
  latched : s.get (F.ILK_CFG_RETRY_LIMIT o) ≤ s.get (F.ILK_FAULT_RETRIES o) → t.get (F.ILK_FAULT_LATCHED o) = 1
  keep : t.keep = s.keep
  force : t.force = s.force
  flash : t.flash = s.flash

theorem tripIlk_rd (o ty : Nat) (s : State) {a : Nat} (ha : ¬ (inIlk o a ∨ inNotify a)) : ((tripIlk o ty).run s).rd a = s.rd a := by
  rw [run_tripIlk]
  refine Eq.trans ?_ ((run_tally (tripFlags_tally o ty) s).rd a ha)
  cases decide (s.get (F.ILK_FAULT_RETRIES o) ≥ s.get (F.ILK_CFG_RETRY_LIMIT o))
  · rfl
  · refine rd_put_other _ _ _ fun h => ha (.inl ?_)
    simp only [F.ILK_FAULT_LATCHED] at h
    simp only [inIlk]
    omega

theorem tripIlk_tripped {o ty : Nat} (ho : o < 8) (hty : ty < 16) (s : State) : Tripped o ty s ((tripIlk o ty).run s) := by
  obtain ⟨htripped, htype, htrips, hthermal⟩ := tripFlags_get ho hty s
  have hflags := run_tally (tripFlags_tally o ty) s
  have hbit : ∀ c u f, f.addr ≠ (F.ILK_FAULT_LATCHED o).addr ∨ f.msb < 30 → f.msb < 64 →
      ((tripLatch o c).run u).get f = State.get u f := fun c u f h hm => by
    rw [tripLatch, get_when, get_put_other _ _ _ _ (Nat.le_refl _) hm (h.imp Ne.symm .inl), ite_self]
  have haddr : ∀ b, b ≠ 0x00084008 → b + 0x40 * o ≠ (F.ILK_FAULT_LATCHED o).addr := fun b hb h => hb (Nat.add_right_cancel h)
  obtain ⟨r, hr⟩ := tripLatch_same o (decide (s.get (F.ILK_FAULT_RETRIES o) ≥ s.get (F.ILK_CFG_RETRY_LIMIT o)))
    ((onIlk o (fun u => { u with trippedAt := s.keep.elapsed, cooled := ty ≠ 4 })).run ((tripFlags o ty).run s))
  rw [run_tripIlk]
  refine ⟨?_, ?_, ?_, fun h => ?_, ?_, fun h => ?_, ?_, ?_, ?_⟩
  · rw [hbit _ _ _ (.inr (by simp [F.ILK_FAULT_TRIPPED])) (by simp [F.ILK_FAULT_TRIPPED])]
    exact htripped
  · rw [hbit _ _ _ (.inr (by simp [F.ILK_FAULT_TYPE])) (by simp [F.ILK_FAULT_TYPE])]
    exact htype
  · rw [hbit _ _ _ (.inl (haddr 0x00084010 (by decide))) (by simp [F.ILK_TRIPS_C])]
    exact htrips
  · rw [hbit _ _ _ (.inl (haddr 0x00084020 (by decide))) (by simp [F.ILK_THERMAL_C])]
    exact hthermal h
  · rw [ilk_congr (tripLatch_units ..), run_onIlk_ilk]
  · rw [tripLatch, decide_eq_true h, run_when_true, get_put_same _ _ _ (Nat.le_refl _) (by simp [F.ILK_FAULT_LATCHED])]
    simp [F.ILK_FAULT_LATCHED]
  · rw [hr]; exact hflags.keep
  · rw [hr]; exact hflags.force
  · rw [hr]; exact hflags.flash

/-- Showing the levels keeps a trip. -/
theorem Shown.of_tripped {o ty : Nat} {s t u : State} (g : Shown 4 t u) (h : Tripped o ty s t) : Tripped o ty s u := by
  have hreg : ∀ f : Field, f.addr % 64 ≠ 8 → u.get f = t.get f := fun f hf => g.get_of_addr fun hfault => hf hfault.2.2
  refine ⟨?_, ?_, ?_, fun h4 => ?_, ?_, fun hl => ?_, ?_, ?_, ?_⟩
  · exact (g.get _ (by simp [F.ILK_FAULT_TRIPPED]) (.inr (by simp [F.ILK_FAULT_TRIPPED]))).trans h.tripped
  · exact (g.get _ (by simp [F.ILK_FAULT_TYPE]) (.inl (by simp [F.ILK_FAULT_TYPE]))).trans h.type
  · exact (hreg _ (by simp only [F.ILK_TRIPS_C]; omega)).trans h.trips
  · exact (hreg _ (by simp only [F.ILK_THERMAL_C]; omega)).trans (h.thermal h4)
  · rw [ilk_congr g.units]; exact h.cooled
  · exact (g.get _ (by simp [F.ILK_FAULT_LATCHED]) (.inr (by simp [F.ILK_FAULT_LATCHED]))).trans (h.latched hl)
  · exact g.keep.trans h.keep
  · exact g.force.trans h.force
  · exact g.flash.trans h.flash

/-- A trip touches no register of another output. -/
theorem tripIlk_get_other {o q : Nat} (ho : o < 8) (hq : q ≠ o) (ty : Nat) (s : State) {f : Field} (hf : inIlk o f.addr) :
    ((tripIlk q ty).run s).get f = s.get f := by
  refine congrArg (fun w => getBits w f.msb f.lsb) (tripIlk_rd q ty s ?_)
  simp only [inIlk, inNotify] at *
  omega

/-! ## Rows of the interlock outputs -/

/-- The level an output has held is `hiZ` unless it is one of a device with VFLD, so a trip finds it driven. -/
theorem run_ilkTrip {s : State} {o : Nat} {why : TripCause} (ho : o < 8) (hheld : s.ilkHeld o ≠ .hiZ) : (ilkTripAct o why).run s =
    (withIlk (match why with
      | .mismatch => tripIlk o (mismatchType (s.ilkHeld o))
      | .thermal => tripIlk o 4
      | .contention p =>
        if decide (p < 8) && p ≠ o && s.ilkHeld p ≠ .hiZ && s.ilkHeld p ≠ s.ilkHeld o then .seq (tripIlk o 3) (tripIlk p 3)
        else tripIlk o (mismatchType (s.ilkHeld o)))).run s := by
  have hcond : (decide (o < 8) && decide (s.ilkHeld o ≠ .hiZ)) = true := by simp [ho, hheld]
  cases why <;> simp only [ilkTripAct, run_look, hcond, run_when_true]

/-- What every row that runs under `withIlk` shows in the end. -/
theorem withIlk_rd {P : Nat → Prop} {a : Act} {s : State} (h : ∀ x, ¬ P x → (a.run s).rd x = s.rd x) {x : Nat}
    (hx : ¬ (P x ∨ ilkFault x)) : ((withIlk a).run s).rd x = s.rd x :=
  ((withIlk_shown a s).1.rd x fun hf => hx (.inr hf)).trans (h x fun hp => hx (.inl hp))

theorem ilkTrip_frame {o ty : Nat} {s : State} {x : Nat} (hx : ¬ (inIlk o x ∨ ilkFault x ∨ inNotify x)) :
    ((withIlk (tripIlk o ty)).run s).rd x = s.rd x :=
  withIlk_rd (P := fun x => inIlk o x ∨ inNotify x) (fun _ => tripIlk_rd o ty s) fun h => hx <| h.elim
    (fun h => h.imp_right .inr) fun h => .inr (.inl h)

/-- One output trips: what ILK_TRIP leaves. -/
theorem ilkTrip_single {o ty : Nat} (ho : o < 8) (hty : ty < 16) (s : State) :
    Tripped o ty s ((withIlk (tripIlk o ty)).run s) ∧ ((withIlk (tripIlk o ty)).run s).is (F.ILK_FAULT_TRIPPED o) = true ∧
    ((withIlk (tripIlk o ty)).run s).ilkPin o = .hiZ := by
  have h := (withIlk_shown (tripIlk o ty) s).1.of_tripped (tripIlk_tripped ho hty s)
  have htripped : ((withIlk (tripIlk o ty)).run s).is (F.ILK_FAULT_TRIPPED o) = true := is_eq_true.mpr (by rw [h.tripped]; decide)
  exact ⟨h, htripped, ilkPin_of_tripped htripped⟩

theorem mismatchType_lt (d : Drive) : mismatchType d < 16 := by cases d <;> decide

end Sys2Proof.Machine
end

section
/-! Rows of the interlock outputs and the field supply (R56, R450 to R452): their programs and what each leaves. -/

namespace Sys2Proof.Machine

/-! ## Retry, CLEAR and configuration (R450, R452, R459) -/

theorem withIlk_get_reg (a : Act) (s : State) {f : Field} (hf : f.addr % 64 ≠ 8) :
    ((withIlk a).run s).get f = (a.run s).get f := (withIlk_shown a s).1.get_of_addr fun h => hf h.2.2

/-- The output is driven again (R452). -/
def ilkRedrive (o retries : Nat) : Act := Act.all [put (F.ILK_FAULT_TRIPPED o) 0, put (F.ILK_FAULT_RETRIES o) retries,
  count (F.ILK_RETRIES_C o)]

theorem ilkRedrive_tally {o : Nat} (n : Nat) : (ilkRedrive o n).tally (fun a => inIlk o a ∨ inNotify a) := by
  have hcount : (count (F.ILK_RETRIES_C o)).tally (fun a => inIlk o a ∨ inNotify a) :=
    Act.tally_mono (fun a ha => ha.imp_left fun (h : a = (F.ILK_RETRIES_C o).addr) => by
      rw [h]; simp only [inIlk, F.ILK_RETRIES_C]; omega) (count_tally _)
  simp only [ilkRedrive, Act.tally_all_cons, Act.tally_all_nil, put_tally, and_true, hcount]
  constructor <;> refine .inl ?_ <;> simp only [inIlk, F.ILK_FAULT_TRIPPED, F.ILK_FAULT_RETRIES] <;> omega

theorem run_ilkRedrive (o n : Nat) (s : State) : (ilkRedrive o n).run s = (count (F.ILK_RETRIES_C o)).run
    ((put (F.ILK_FAULT_RETRIES o) n).run ((put (F.ILK_FAULT_TRIPPED o) 0).run s)) := rfl

theorem ilkRedrive_get {o n : Nat} (ho : o < 8) (hn : n < 16) (s : State) :
    ((ilkRedrive o n).run s).get (F.ILK_FAULT_TRIPPED o) = 0 ∧ ((ilkRedrive o n).run s).get (F.ILK_FAULT_RETRIES o) = n ∧
    ((ilkRedrive o n).run s).get (F.ILK_RETRIES_C o) = (s.get (F.ILK_RETRIES_C o) + 1) % 2 ^ 48 := by
  have hk : 0x40 * o < 0x1000 := by omega
  rw [run_ilkRedrive]
  simp only [F.ILK_FAULT_TRIPPED, F.ILK_FAULT_RETRIES, F.ILK_RETRIES_C]
  simp (disch := decide) only [get_put_row_same, get_count_row_same hk, get_count_row hk, get_put_row]
  exact ⟨rfl, Nat.mod_eq_of_lt hn, trivial⟩

theorem run_ilkRetry {s : State} {o : Nat} (ho : o < 8) (htripped : s.is (F.ILK_FAULT_TRIPPED o) = true)
    (hlatched : s.is (F.ILK_FAULT_LATCHED o) = false) (hcooled : (s.ilk o).cooled = true)
    (htime : (s.ilk o).trippedAt + 100 * tickMs ≤ s.keep.elapsed) (hwants : s.get (F.ILK_CFG_SOURCE o) = 1 ∨ s.ilkWants o ≠ 0) :
    (ilkRetryAct o).run s = (withIlk (ilkRedrive o (min 15 (s.get (F.ILK_FAULT_RETRIES o) + 1)))).run s := by
  have hsource : (decide (s.get (F.ILK_CFG_SOURCE o) = 1) || !decide (s.ilkWants o = 0)) = true := by
    rcases hwants with h | h <;> simp [h]
  simp [ilkRetryAct, ilkRedrive, ho, htripped, hlatched, hcooled, htime, hsource]

theorem run_ilkRetry_not {s : State} {o : Nat} (h : 8 ≤ o ∨ s.is (F.ILK_FAULT_TRIPPED o) = false ∨
      s.is (F.ILK_FAULT_LATCHED o) = true ∨ (s.ilk o).cooled = false ∨ s.keep.elapsed < (s.ilk o).trippedAt + 100 * tickMs ∨
      (s.get (F.ILK_CFG_SOURCE o) ≠ 1 ∧ s.ilkWants o = 0)) : (ilkRetryAct o).run s = s := by
  simp only [ilkRetryAct, run_look]
  rcases h with h | h | h | h | h | ⟨h, h'⟩
  · simp [Nat.not_lt.mpr h]
  · simp [h]
  · simp [h]
  · simp [h]
  · simp [Nat.not_le.mpr h]
  · simp [h, h']

/-- The registers and the unit of an output as CLEAR leaves them (R452). -/
def ilkCleared (o : Nat) : Act := Act.all [
    put (F.ILK_FAULT_RETRIES o) 0, put (F.ILK_FAULT_LATCHED o) 0, put (F.ILK_FAULT_TRIPPED o) 0, put (F.ILK_FAULT_TYPE o) 0]

/-- Behind the registers CLEAR changes the trip unit and notes itself for the window. -/
def ilkClearNoted (o : Nat) : Act := Act.all [onIlk o (fun u => { u with cooled := true }),
  .win (fun w => { w with marks := (8, o) :: w.marks })]

theorem run_ilkClear {o : Nat} {v : Word} (ho : o < 8) (hv : getBits v 0 0 = 1) (s : State) :
    (ilkClearAct o 0 v).run s = (withIlk (.seq (ilkCleared o) (ilkClearNoted o))).run s := by
  simp only [ilkClearAct, hv, Nat.not_le.mpr ho, or_false, one_ne_zero, if_false, ne_eq, not_true_eq_false]
  rfl

theorem run_ilkCleared (o : Nat) (s : State) : (ilkCleared o).run s = (put (F.ILK_FAULT_TYPE o) 0).run
    ((put (F.ILK_FAULT_TRIPPED o) 0).run ((put (F.ILK_FAULT_LATCHED o) 0).run ((put (F.ILK_FAULT_RETRIES o) 0).run s))) := rfl

theorem ilkCleared_get (o : Nat) (s : State) :
    ((ilkCleared o).run s).get (F.ILK_FAULT_TRIPPED o) = 0 ∧ ((ilkCleared o).run s).get (F.ILK_FAULT_LATCHED o) = 0 ∧
    ((ilkCleared o).run s).get (F.ILK_FAULT_RETRIES o) = 0 ∧ ((ilkCleared o).run s).get (F.ILK_FAULT_TYPE o) = 0 := by
  rw [run_ilkCleared]
  simp only [F.ILK_FAULT_TRIPPED, F.ILK_FAULT_RETRIES, F.ILK_FAULT_LATCHED, F.ILK_FAULT_TYPE]
  simp (disch := decide) only [get_put_row_same, get_put_row]
  exact ⟨rfl, rfl, rfl, rfl⟩

theorem ilkCleared_tally {o : Nat} (ho : o < 8) : (ilkCleared o).tally ilkFault := by
  simp only [ilkCleared, Act.tally_all_cons, Act.tally_all_nil, put_tally, and_true, F.ILK_FAULT_TRIPPED, F.ILK_FAULT_RETRIES,
    F.ILK_FAULT_LATCHED, F.ILK_FAULT_TYPE, ilkFault]
  omega

/-- The configuration that T0 writes (R450). -/
def ilkConfigured (o : Nat) (v : Word) : Act := Act.all [put (F.ILK_CFG_RETRY_LIMIT o) (getBits v 31 28),
  put (F.ILK_CFG_SOURCE o) (getBits v 27 26), put (F.ILK_CFG_STATE o) (getBits v 1 0)]

theorem run_ilkConfigured (o : Nat) (v : Word) (s : State) : (ilkConfigured o v).run s = (put (F.ILK_CFG_STATE o) (getBits v 1 0)).run
    ((put (F.ILK_CFG_SOURCE o) (getBits v 27 26)).run ((put (F.ILK_CFG_RETRY_LIMIT o) (getBits v 31 28)).run s)) := rfl

theorem ilkConfigured_get (o : Nat) (v : Word) (s : State) :
    ((ilkConfigured o v).run s).get (F.ILK_CFG_RETRY_LIMIT o) = getBits v 31 28 ∧
    ((ilkConfigured o v).run s).get (F.ILK_CFG_SOURCE o) = getBits v 27 26 ∧
    ((ilkConfigured o v).run s).get (F.ILK_CFG_STATE o) = getBits v 1 0 := by
  rw [run_ilkConfigured]
  simp only [F.ILK_CFG_RETRY_LIMIT, F.ILK_CFG_SOURCE, F.ILK_CFG_STATE]
  simp (disch := decide) only [get_put_row_same, get_put_row]
  exact ⟨Nat.mod_eq_of_lt (getBits_lt v 31 28), Nat.mod_eq_of_lt (getBits_lt v 27 26), Nat.mod_eq_of_lt (getBits_lt v 1 0)⟩

theorem ilkConfigured_tally (o : Nat) (v : Word) : (ilkConfigured o v).tally (fun a => a = (F.ILK_CFG_STATE o).addr) := by
  simp only [ilkConfigured, Act.tally_all_cons, Act.tally_all_nil, put_tally]
  exact ⟨rfl, rfl, trivial, trivial⟩

theorem run_ilkCfgWrite {o : Nat} (ho : o < 8) (v : Word) (s : State) :
    (ilkCfgWriteAct o 0 v).run s = (withIlk (ilkConfigured o v)).run s := by
  simp only [ilkCfgWriteAct, Nat.not_le.mpr ho, if_false, ne_eq, not_true_eq_false]
  rfl

/-- A write of another tenant sets WRITE_LOST alone. -/
theorem run_ilkCfgWrite_lost {o w : Nat} (ho : o < 8) (hw : w ≠ 0) (v : Word) (s : State) :
    (ilkCfgWriteAct o w v).run s = (event (F.ILK_FAULT_WRITE_LOST o)).run s := by
  simp only [ilkCfgWriteAct, Nat.not_le.mpr ho, if_false, ne_eq, hw, not_false_eq_true, if_true]
  rfl

theorem run_ilkClear_lost {o w : Nat} {v : Word} (ho : o < 8) (hv : getBits v 0 0 = 1) (hw : w ≠ 0) (s : State) :
    (ilkClearAct o w v).run s = (event (F.ILK_FAULT_WRITE_LOST o)).run s := by
  simp only [ilkClearAct, hv, Nat.not_le.mpr ho, or_false, one_ne_zero, if_false, ne_eq, hw, not_false_eq_true, if_true]
  rfl

theorem run_ilkClear_none {o w : Nat} {v : Word} (h : 8 ≤ o ∨ getBits v 0 0 = 0) (s : State) : (ilkClearAct o w v).run s = s := by
  rw [ilkClearAct, if_pos h, run_skip]

/-! ## The field supply (R56) -/

/-- VFLD_OFF of every output. -/
def showVfld (off : Bool) : Act := Act.each (List.range 8) (fun o => put (F.ILK_FAULT_VFLD_OFF o) (b2n off))

theorem showVfld_shown (off : Bool) (s : State) : Shown 28 s ((showVfld off).run s) ∧
    ∀ k ∈ List.range 8, ((showVfld off).run s).is (F.ILK_FAULT_VFLD_OFF k) = off := by
  obtain ⟨hshown, hset⟩ := run_each_faultBit (b := 28) (by decide) off (os := List.range 8) (fun o ho => List.mem_range.mp ho) s
  exact ⟨hshown, fun k hk => hset k (.inl hk)⟩

/-- A change of VFLD: its bit of RAIL_OK, and VFLD_OFF where the device shows it. -/
def vfldMoves (ok : Nat) (c off : Bool) : Act := .seq (put F.PWR_STATUS_RAIL_OK ok) (Act.when c (showVfld off))

theorem vfldMoves_shown (ok : Nat) (c off : Bool) (s : State) :
    Shown 28 ((put F.PWR_STATUS_RAIL_OK ok).run s) ((vfldMoves ok c off).run s) ∧
    (c = true → ∀ k ∈ List.range 8, ((vfldMoves ok c off).run s).is (F.ILK_FAULT_VFLD_OFF k) = off) := by
  cases c
  · exact ⟨.refl 28 _, fun h => absurd h (by decide)⟩
  · obtain ⟨hshown, hset⟩ := showVfld_shown off ((put F.PWR_STATUS_RAIL_OK ok).run s)
    exact ⟨hshown, fun _ => hset⟩

theorem withIlk_vfldMoves {ok : Nat} (hok : ok < 128) (c off : Bool) (s : State) :
    ((withIlk (vfldMoves ok c off)).run s).get F.PWR_STATUS_RAIL_OK = ok ∧
    (c = true → ∀ k ∈ List.range 8, ((withIlk (vfldMoves ok c off)).run s).is (F.ILK_FAULT_VFLD_OFF k) = off) ∧
    ((withIlk (vfldMoves ok c off)).run s).units = s.units ∧
    (∀ a, ¬ (a = F.PWR_STATUS_RAIL_OK.addr ∨ ilkFault a) → ((withIlk (vfldMoves ok c off)).run s).rd a = s.rd a) ∧
    ((withIlk (vfldMoves ok c off)).run s).force = s.force ∧ ((withIlk (vfldMoves ok c off)).run s).flash = s.flash := by
  obtain ⟨hoff, hset⟩ := vfldMoves_shown ok c off s
  obtain ⟨hpins, -⟩ := withIlk_shown (vfldMoves ok c off) s
  refine ⟨?_, fun hc k hk => ?_, ?_, fun a ha => ?_, ?_, ?_⟩
  · rw [withIlk_get_reg _ _ (by decide), hoff.get_of_addr (by decide), railOk_put hok]
  · exact (hpins.is _ (by simp [F.ILK_FAULT_VFLD_OFF]) (.inr (by simp [F.ILK_FAULT_VFLD_OFF]))).trans (hset hc k hk)
  · exact hpins.units.trans hoff.units
  · obtain ⟨hrail, hfault⟩ := not_or.mp ha
    rw [hpins.rd a hfault, hoff.rd a hfault, rd_put_other _ _ _ hrail]
  · exact hpins.force.trans hoff.force
  · exact hpins.flash.trans hoff.flash

theorem run_vfldLoss {s : State} (h : (s.get F.PWR_STATUS_RAIL_OK).testBit 6 = true) : vfldLossAct.run s =
    (withIlk (vfldMoves (s.get F.PWR_STATUS_RAIL_OK - 64) s.up true)).run s := by
  simp only [vfldLossAct, run_look, h, run_when_true]
  rfl

theorem run_vfldReturn {s : State} (h : (s.get F.PWR_STATUS_RAIL_OK).testBit 6 = false) : vfldReturnAct.run s =
    (withIlk (vfldMoves (s.get F.PWR_STATUS_RAIL_OK + 64) true false)).run s := by
  simp only [vfldReturnAct, run_look, h, Bool.not_false, run_when_true]
  rfl

/-- Bit 6 of RAIL_OK, as a comparison. -/
theorem testBit_six {n : Nat} (h : n < 128) : n.testBit 6 = decide (64 ≤ n) := by
  have : ∀ m : Fin 128, m.val.testBit 6 = decide (64 ≤ m.val) := by decide
  exact this ⟨n, h⟩

/-! ## Utility pins (R453 to R455) -/

/-- Behind a change the pin's level is put out if it is new. -/
theorem run_driveUtl (p : Nat) (s : State) : (driveUtl p).run s = { s with
    out := s.out ++ (if s.utlPin p = s.driven p then [] else [.pin 1 p (s.utlPin p) 0]),
    units := { s.units with driven := (if s.utlPin p = s.driven p then s.units.driven
      else Sparse.set (fun _ => Drive.hiZ) s.units.driven p (s.utlPin p)) } } := by
  by_cases h : s.utlPin p = s.driven p <;> simp [driveUtl, h, Act.run]

theorem run_withUtl (p : Nat) (a : Act) (s : State) : ∃ l d, (withUtl p a).run s =
    { a.run s with out := (a.run s).out ++ l, units := { (a.run s).units with driven := d } } :=
  ⟨_, _, run_driveUtl p (a.run s)⟩

section
variable (p : Nat) (a : Act) (s : State)
theorem withUtl_force : ((withUtl p a).run s).force = (a.run s).force := by obtain ⟨l, d, h⟩ := run_withUtl p a s; rw [h]
theorem withUtl_flash : ((withUtl p a).run s).flash = (a.run s).flash := by obtain ⟨l, d, h⟩ := run_withUtl p a s; rw [h]
theorem withUtl_rd (x : Nat) : ((withUtl p a).run s).rd x = (a.run s).rd x := by obtain ⟨l, d, h⟩ := run_withUtl p a s; rw [h]; rfl
theorem withUtl_get (f : Field) : ((withUtl p a).run s).get f = (a.run s).get f := by obtain ⟨l, d, h⟩ := run_withUtl p a s; rw [h]; rfl
theorem withUtl_is (f : Field) : ((withUtl p a).run s).is f = (a.run s).is f := by obtain ⟨l, d, h⟩ := run_withUtl p a s; rw [h]; rfl
theorem withUtl_utl (q : Nat) : ((withUtl p a).run s).utl q = (a.run s).utl q := by obtain ⟨l, d, h⟩ := run_withUtl p a s; rw [h]; rfl
theorem withUtl_utlPin (q : Nat) : ((withUtl p a).run s).utlPin q = (a.run s).utlPin q := by
  obtain ⟨l, d, h⟩ := run_withUtl p a s; rw [h]; rfl
end

/-- A pin in its guard, or tripped, drives nothing. -/
theorem utlPin_of_not_drives {s : State} {p : Nat} (h : s.utlDrives p = false) : s.utlPin p = .hiZ := by
  rw [State.utlPin]
  cases s.utlLevel p with
  | none => rfl
  | some b => simp [h]

theorem utlPin_of_guard {s : State} {p : Nat} (h : s.is (F.UTL_STATUS_GUARD p) = true) : s.utlPin p = .hiZ :=
  utlPin_of_not_drives (by simp [State.utlDrives, h])
theorem utlPin_of_tripped {s : State} {p : Nat} (h : s.is (F.UTL_STATUS_TRIPPED p) = true) : s.utlPin p = .hiZ :=
  utlPin_of_not_drives (by simp [State.utlDrives, h])

end Sys2Proof.Machine
end

section
/-! Rows of the utility pins (R52, R453 to R455): their programs and what each leaves. -/

namespace Sys2Proof.Machine

section
variable {p : Nat} {f : TripUnit → TripUnit} {s : State}
@[simp] theorem run_onUtl_keep : ((onUtl p f).run s).keep = s.keep := rfl
@[simp] theorem run_onUtl_force : ((onUtl p f).run s).force = s.force := rfl
@[simp] theorem run_onUtl_flash : ((onUtl p f).run s).flash = s.flash := rfl
@[simp] theorem run_onUtl_out : ((onUtl p f).run s).out = s.out := rfl
@[simp] theorem run_onUtl_rd (a : Nat) : ((onUtl p f).run s).rd a = s.rd a := rfl
@[simp] theorem run_onUtl_get (g : Field) : ((onUtl p f).run s).get g = s.get g := rfl
@[simp] theorem run_onUtl_is (g : Field) : ((onUtl p f).run s).is g = s.is g := rfl
@[simp] theorem run_onUtl_utl : ((onUtl p f).run s).utl p = f (s.utl p) := Sparse.get_set_same ..
end

/-- A bit as the manual writes it: 1 or 0. -/
theorem bit_ne_zero {n : Nat} (h : n < 2) : decide (n ≠ 0) = (n == 1) := by
  have : ∀ m : Fin 2, decide (m.val ≠ 0) = (m.val == 1) := by decide
  exact this ⟨n, h⟩

/-! ## A write of UTL_CFG (R453, R454) -/

/-- OPEN_DRAIN, INVERT and RETRY_LIMIT, which a write of T0 sets whatever the function. -/
def utlModes (p : Nat) (v : Word) : Act := Act.all [put (F.UTL_CFG_OPEN_DRAIN p) (getBits v 27 27),
  put (F.UTL_CFG_INVERT p) (getBits v 26 26), put (F.UTL_CFG_RETRY_LIMIT p) (getBits v 25 22)]

/-- The registers of a pin that takes a new function. -/
def utlTaken (p f : Nat) : Act := Act.all [put (F.UTL_CFG_FUNCTION p) f, put (F.UTL_STATUS_GUARD p) 1, put (F.UTL_STATUS_TYPE p) 0,
  put (F.UTL_STATUS_TRIPPED p) 0, put (F.UTL_STATUS_LATCHED p) 0, put (F.UTL_STATUS_RETRIES p) 0]

theorem run_utlModes (p : Nat) (v : Word) (s : State) : (utlModes p v).run s = (put (F.UTL_CFG_RETRY_LIMIT p) (getBits v 25 22)).run
    ((put (F.UTL_CFG_INVERT p) (getBits v 26 26)).run ((put (F.UTL_CFG_OPEN_DRAIN p) (getBits v 27 27)).run s)) := rfl

theorem run_utlTaken (p f : Nat) (s : State) : (utlTaken p f).run s = (put (F.UTL_STATUS_RETRIES p) 0).run
    ((put (F.UTL_STATUS_LATCHED p) 0).run ((put (F.UTL_STATUS_TRIPPED p) 0).run ((put (F.UTL_STATUS_TYPE p) 0).run
      ((put (F.UTL_STATUS_GUARD p) 1).run ((put (F.UTL_CFG_FUNCTION p) f).run s))))) := rfl

theorem utlModes_get (p : Nat) (v : Word) (s : State) :
    ((utlModes p v).run s).get (F.UTL_CFG_OPEN_DRAIN p) = getBits v 27 27 ∧
    ((utlModes p v).run s).get (F.UTL_CFG_INVERT p) = getBits v 26 26 ∧
    ((utlModes p v).run s).get (F.UTL_CFG_RETRY_LIMIT p) = getBits v 25 22 ∧
    ((utlModes p v).run s).get (F.UTL_CFG_FUNCTION p) = s.get (F.UTL_CFG_FUNCTION p) ∧
    ((utlModes p v).run s).get (F.UTL_STATUS_GUARD p) = s.get (F.UTL_STATUS_GUARD p) := by
  rw [run_utlModes]
  simp only [F.UTL_CFG_RETRY_LIMIT, F.UTL_CFG_INVERT, F.UTL_CFG_OPEN_DRAIN, F.UTL_CFG_FUNCTION, F.UTL_STATUS_GUARD]
  simp (disch := decide) only [get_put_row_same, get_put_row]
  exact ⟨Nat.mod_eq_of_lt (getBits_lt v 27 27), Nat.mod_eq_of_lt (getBits_lt v 26 26), Nat.mod_eq_of_lt (getBits_lt v 25 22), trivial, trivial⟩

theorem utlTaken_get {f : Nat} (hf : f < 16) (p : Nat) (s : State) :
    ((utlTaken p f).run s).get (F.UTL_CFG_FUNCTION p) = f ∧ ((utlTaken p f).run s).get (F.UTL_STATUS_GUARD p) = 1 ∧
    ((utlTaken p f).run s).get (F.UTL_STATUS_TRIPPED p) = 0 ∧
    ((utlTaken p f).run s).get (F.UTL_CFG_OPEN_DRAIN p) = s.get (F.UTL_CFG_OPEN_DRAIN p) ∧
    ((utlTaken p f).run s).get (F.UTL_CFG_INVERT p) = s.get (F.UTL_CFG_INVERT p) ∧
    ((utlTaken p f).run s).get (F.UTL_CFG_RETRY_LIMIT p) = s.get (F.UTL_CFG_RETRY_LIMIT p) := by
  rw [run_utlTaken]
  simp only [F.UTL_CFG_RETRY_LIMIT, F.UTL_CFG_INVERT, F.UTL_CFG_OPEN_DRAIN, F.UTL_CFG_FUNCTION, F.UTL_STATUS_GUARD,
    F.UTL_STATUS_TRIPPED, F.UTL_STATUS_LATCHED, F.UTL_STATUS_TYPE, F.UTL_STATUS_RETRIES]
  simp (disch := decide) only [get_put_row_same, get_put_row]
  exact ⟨Nat.mod_eq_of_lt hf, rfl, rfl, trivial, trivial, trivial⟩

theorem utlModes_tally (p : Nat) (v : Word) : (utlModes p v).tally (inUtl p) := by
  simp only [utlModes, Act.tally_all_cons, Act.tally_all_nil, put_tally, and_true, F.UTL_CFG_RETRY_LIMIT, F.UTL_CFG_INVERT,
    F.UTL_CFG_OPEN_DRAIN, inUtl]
  omega

theorem utlTaken_tally (p f : Nat) : (utlTaken p f).tally (inUtl p) := by
  simp only [utlTaken, Act.tally_all_cons, Act.tally_all_nil, put_tally, and_true, F.UTL_CFG_FUNCTION, F.UTL_STATUS_GUARD,
    F.UTL_STATUS_TRIPPED, F.UTL_STATUS_LATCHED, F.UTL_STATUS_TYPE, F.UTL_STATUS_RETRIES, inUtl]
  omega

theorem run_utlFunctionChange {p : Nat} {v : Word} {s : State} (hp : p < 32) (hoffers : utlOffers p (getBits v 31 28) = true)
    (hnew : getBits v 31 28 ≠ s.get (F.UTL_CFG_FUNCTION p)) : (utlFunctionChangeAct p 0 v).run s =
    (withUtl p (.seq (.seq (utlModes p v) (utlTaken p (getBits v 31 28)))
      (onUtl p (fun _ => { guardEnd := s.keep.elapsed + 2 * tickUs })))).run s := by
  simp only [utlFunctionChangeAct, run_look, Nat.not_le.mpr hp, if_false, ne_eq, not_true_eq_false, hoffers, Bool.not_true,
    Bool.false_eq_true, hnew, not_false_eq_true, decide_true]
  rfl

theorem run_utlFunctionChange_refused {p : Nat} {v : Word} {s : State} (hp : p < 32)
    (hoffers : utlOffers p (getBits v 31 28) = false) : (utlFunctionChangeAct p 0 v).run s =
    (withUtl p (.seq (utlModes p v) (event (F.UTL_STATUS_FUNC_REFUSED p)))).run s := by
  simp only [utlFunctionChangeAct, run_look, Nat.not_le.mpr hp, if_false, ne_eq, not_true_eq_false, hoffers, Bool.not_false,
    if_true]
  rfl

theorem run_utlFunctionChange_lost {p w : Nat} {v : Word} {s : State} (hp : p < 32) (hw : w ≠ 0) :
    (utlFunctionChangeAct p w v).run s = (event (F.UTL_STATUS_WRITE_LOST p)).run s := by
  simp only [utlFunctionChangeAct, run_look, Nat.not_le.mpr hp, if_false, ne_eq, hw, not_false_eq_true, if_true]
  rfl

/-! ## A trip of a utility pin (R455) -/

/-- What a trip flags and counts. -/
def utlTripFlags (p ty : Nat) : Act := Act.all [put (F.UTL_STATUS_TRIPPED p) 1, put (F.UTL_STATUS_TYPE p) ty, count (F.UTL_TRIPS_C p)]

/-- A trip that has used up its retries is latched. -/
def utlTripLatch (p : Nat) (c : Bool) : Act := Act.when c (put (F.UTL_STATUS_LATCHED p) 1)

theorem run_tripUtl (p ty : Nat) (s : State) : (tripUtl p ty).run s =
    (utlTripLatch p (decide (s.get (F.UTL_STATUS_RETRIES p) ≥ s.get (F.UTL_CFG_RETRY_LIMIT p)))).run
      ((onUtl p (fun u => { u with trippedAt := s.keep.elapsed })).run ((utlTripFlags p ty).run s)) := rfl

theorem run_utlTripFlags (p ty : Nat) (s : State) : (utlTripFlags p ty).run s = (count (F.UTL_TRIPS_C p)).run
    ((put (F.UTL_STATUS_TYPE p) ty).run ((put (F.UTL_STATUS_TRIPPED p) 1).run s)) := rfl

theorem utlTripFlags_tally (p ty : Nat) : (utlTripFlags p ty).tally (fun a => inUtl p a ∨ inNotify a) := by
  have hcount : (count (F.UTL_TRIPS_C p)).tally (fun a => inUtl p a ∨ inNotify a) :=
    Act.tally_mono (fun a ha => ha.imp_left fun (h : a = (F.UTL_TRIPS_C p).addr) => by
      rw [h]; simp only [inUtl, F.UTL_TRIPS_C]; omega) (count_tally _)
  simp only [utlTripFlags, Act.tally_all_cons, Act.tally_all_nil, put_tally, and_true, hcount]
  constructor <;> refine .inl ?_ <;> simp only [inUtl, F.UTL_STATUS_TRIPPED, F.UTL_STATUS_TYPE] <;> omega

theorem utlTripFlags_get {p ty : Nat} (hp : p < 32) (hty : ty < 16) (s : State) :
    ((utlTripFlags p ty).run s).get (F.UTL_STATUS_TRIPPED p) = 1 ∧ ((utlTripFlags p ty).run s).get (F.UTL_STATUS_TYPE p) = ty ∧
    ((utlTripFlags p ty).run s).get (F.UTL_TRIPS_C p) = (s.get (F.UTL_TRIPS_C p) + 1) % 2 ^ 48 := by
  have hk : 0x20 * p < 0x1000 := by omega
  rw [run_utlTripFlags]
  simp only [F.UTL_STATUS_TRIPPED, F.UTL_STATUS_TYPE, F.UTL_TRIPS_C]
  simp (disch := decide) only [get_put_row_same, get_count_row_same hk, get_count_row hk, get_put_row]
  exact ⟨rfl, Nat.mod_eq_of_lt hty, trivial⟩

theorem utlTripLatch_same (p : Nat) (c : Bool) (s : State) : ∃ r, (utlTripLatch p c).run s = { s with regs := r } := by
  cases c
  · exact ⟨s.regs, rfl⟩
  · exact ⟨_, rfl⟩
theorem utlTripLatch_units (p : Nat) (c : Bool) (s : State) : ((utlTripLatch p c).run s).units = s.units := by cases c <;> rfl

theorem utl_congr {s t : State} (h : t.units = s.units) (p : Nat) : t.utl p = s.utl p := by rw [State.utl, h]; rfl

/-- Between two states: a trip of one pin, in what it flags, counts and keeps. -/
structure UtlTripped (p ty : Nat) (s t : State) : Prop where
  tripped : t.get (F.UTL_STATUS_TRIPPED p) = 1
  type : t.get (F.UTL_STATUS_TYPE p) = ty
  trips : t.get (F.UTL_TRIPS_C p) = (s.get (F.UTL_TRIPS_C p) + 1) % 2 ^ 48
  time : (t.utl p).trippedAt = s.keep.elapsed
  latched : s.get (F.UTL_CFG_RETRY_LIMIT p) ≤ s.get (F.UTL_STATUS_RETRIES p) → t.get (F.UTL_STATUS_LATCHED p) = 1
  keep : t.keep = s.keep
  force : t.force = s.force
  flash : t.flash = s.flash

theorem tripUtl_rd (p ty : Nat) (s : State) {a : Nat} (ha : ¬ (inUtl p a ∨ inNotify a)) : ((tripUtl p ty).run s).rd a = s.rd a := by
  rw [run_tripUtl]
  refine Eq.trans ?_ ((run_tally (utlTripFlags_tally p ty) s).rd a ha)
  cases decide (s.get (F.UTL_STATUS_RETRIES p) ≥ s.get (F.UTL_CFG_RETRY_LIMIT p))
  · rfl
  · refine rd_put_other _ _ _ fun h => ha (.inl ?_)
    simp only [F.UTL_STATUS_LATCHED] at h
    simp only [inUtl]
    omega

/-- A trip touches no register of another pin. -/
theorem tripUtl_get_other {p q : Nat} (hp : p < 32) (hq : q ≠ p) (ty : Nat) (s : State) {f : Field} (hf : inUtl p f.addr) :
    ((tripUtl q ty).run s).get f = s.get f := by
  refine congrArg (fun w => getBits w f.msb f.lsb) (tripUtl_rd q ty s ?_)
  simp only [inUtl, inNotify] at *
  omega

theorem tripUtl_tripped {p ty : Nat} (hp : p < 32) (hty : ty < 16) (s : State) : UtlTripped p ty s ((tripUtl p ty).run s) := by
  obtain ⟨htripped, htype, htrips⟩ := utlTripFlags_get hp hty s
  have hflags := run_tally (utlTripFlags_tally p ty) s
  have hbit : ∀ c u f, f.addr ≠ (F.UTL_STATUS_LATCHED p).addr ∨ f.msb < 29 → f.msb < 64 →
      ((utlTripLatch p c).run u).get f = State.get u f := fun c u f h hm => by
    rw [utlTripLatch, get_when, get_put_other _ _ _ _ (Nat.le_refl _) hm (h.imp Ne.symm .inl), ite_self]
  have haddr : ∀ b, b ≠ 0x0008500C → b + 0x20 * p ≠ (F.UTL_STATUS_LATCHED p).addr := fun b hb h => hb (Nat.add_right_cancel h)
  obtain ⟨r, hr⟩ := utlTripLatch_same p (decide (s.get (F.UTL_STATUS_RETRIES p) ≥ s.get (F.UTL_CFG_RETRY_LIMIT p)))
    ((onUtl p (fun u => { u with trippedAt := s.keep.elapsed })).run ((utlTripFlags p ty).run s))
  rw [run_tripUtl]
  refine ⟨?_, ?_, ?_, ?_, fun h => ?_, ?_, ?_, ?_⟩
  · rw [hbit _ _ _ (.inr (by simp [F.UTL_STATUS_TRIPPED])) (by simp [F.UTL_STATUS_TRIPPED])]
    exact htripped
  · rw [hbit _ _ _ (.inr (by simp [F.UTL_STATUS_TYPE])) (by simp [F.UTL_STATUS_TYPE])]
    exact htype
  · rw [hbit _ _ _ (.inl (haddr 0x00085010 (by decide))) (by simp [F.UTL_TRIPS_C])]
    exact htrips
  · rw [utl_congr (utlTripLatch_units ..), run_onUtl_utl]
  · rw [utlTripLatch, decide_eq_true h, run_when_true, get_put_same _ _ _ (Nat.le_refl _) (by simp [F.UTL_STATUS_LATCHED])]
    simp [F.UTL_STATUS_LATCHED]
  · rw [hr]; exact hflags.keep
  · rw [hr]; exact hflags.force
  · rw [hr]; exact hflags.flash

theorem run_utlTrip {s : State} {p : Nat} {why : TripCause} (hp : p < 32) (hclear : s.utlCleared p = false) (hpin : s.utlPin p ≠ .hiZ) :
    (utlTripAct p why).run s = (match why with
      | .contention q =>
        if decide (q < 32) && q ≠ p && s.utlPin q ≠ Drive.hiZ && s.utlPin q ≠ s.utlPin p
        then withUtl q (withUtl p (.seq (tripUtl p 3) (tripUtl q 3)))
        else withUtl p (tripUtl p (mismatchType (s.utlPin p)))
      | _ => withUtl p (tripUtl p (mismatchType (s.utlPin p)))).run s := by
  cases why <;> simp only [utlTripAct, run_look, hclear, hp, hpin, ne_eq, not_false_eq_true, decide_true, Bool.and_self,
    Bool.false_eq_true, if_false, run_when_true]

theorem run_utlTrip_not {s : State} {p : Nat} {why : TripCause} (h : 32 ≤ p ∨ s.utlCleared p = true ∨ s.utlPin p = .hiZ) :
    (utlTripAct p why).run s = s := by
  simp only [utlTripAct, run_look]
  rcases h with h | h | h
  · simp [Nat.not_lt.mpr h]
  · simp [h]
  · simp [h]

/-! ## A write of UTL_CTRL (R452, R455) -/

/-- The registers of a pin after OUT with CLEAR. -/
def utlCleared (p out : Nat) : Act := Act.all [put (F.UTL_CTRL_OUT p) out, put (F.UTL_STATUS_RETRIES p) 0,
  put (F.UTL_STATUS_LATCHED p) 0, put (F.UTL_STATUS_TRIPPED p) 0, put (F.UTL_STATUS_TYPE p) 0]

theorem run_utlCleared (p out : Nat) (s : State) : (utlCleared p out).run s = (put (F.UTL_STATUS_TYPE p) 0).run
    ((put (F.UTL_STATUS_TRIPPED p) 0).run ((put (F.UTL_STATUS_LATCHED p) 0).run ((put (F.UTL_STATUS_RETRIES p) 0).run
      ((put (F.UTL_CTRL_OUT p) out).run s)))) := rfl

theorem utlCleared_get {out : Nat} (hout : out < 2) (p : Nat) (s : State) :
    ((utlCleared p out).run s).get (F.UTL_CTRL_OUT p) = out ∧ ((utlCleared p out).run s).get (F.UTL_STATUS_TRIPPED p) = 0 ∧
    ((utlCleared p out).run s).get (F.UTL_STATUS_LATCHED p) = 0 ∧ ((utlCleared p out).run s).get (F.UTL_STATUS_RETRIES p) = 0 ∧
    ((utlCleared p out).run s).get (F.UTL_STATUS_TYPE p) = 0 := by
  rw [run_utlCleared]
  simp only [F.UTL_CTRL_OUT, F.UTL_STATUS_TRIPPED, F.UTL_STATUS_LATCHED, F.UTL_STATUS_TYPE, F.UTL_STATUS_RETRIES]
  simp (disch := decide) only [get_put_row_same, get_put_row]
  exact ⟨Nat.mod_eq_of_lt hout, rfl, rfl, rfl, rfl⟩

theorem utlCleared_tally (p out : Nat) : (utlCleared p out).tally (inUtl p) := by
  simp only [utlCleared, Act.tally_all_cons, Act.tally_all_nil, put_tally, and_true, F.UTL_CTRL_OUT, F.UTL_STATUS_TRIPPED,
    F.UTL_STATUS_LATCHED, F.UTL_STATUS_TYPE, F.UTL_STATUS_RETRIES, inUtl]
  omega

theorem run_utlClear {p w : Nat} {v : Word} {s : State} (hp : p < 32) (hright : s.hasRight w 0x00085000 = true)
    (hv : getBits v 1 1 = 1) : (utlClearAct p w v).run s =
    (withUtl p (.seq (utlCleared p (getBits v 0 0)) (.win (fun w => { w with marks := (9, p) :: w.marks })))).run s := by
  simp only [utlClearAct, run_look, Nat.not_le.mpr hp, if_false, hright, Bool.not_true, Bool.false_eq_true, hv, decide_true]
  rfl

theorem run_utlClear_lost {p w : Nat} {v : Word} {s : State} (hp : p < 32) (hright : s.hasRight w 0x00085000 = false) :
    (utlClearAct p w v).run s = (event (F.UTL_STATUS_WRITE_LOST p)).run s := by
  simp only [utlClearAct, run_look, Nat.not_le.mpr hp, if_false, hright, Bool.not_false, if_true]
  rfl

end Sys2Proof.Machine
end

section
/-! External trigger edges (R456), writes without the right (R460), and the rows of the interlock outputs and utility pins as
they end. -/

namespace Sys2Proof.Machine

/-! ## External trigger edges (R454, R456) -/

/-- An external input is counted as late, recorded, or does nothing where there is no Geyser. -/
theorem run_extInput {sel : Nat} (hsel : sel < 0x100) (owner at_ : Nat) (s : State) :
    (extInput sel owner at_).run s = s ∨ (extInput sel owner at_).run s = (count F.GEY_DEVICE_EXT_LATE_C).run s ∨
    ∃ e, (extInput sel owner at_).run s = { s with units := { s.units with ext := e } } := by
  have hpeer : ¬ (0x100 ≤ sel ∧ sel < 0x200) := fun h => absurd h.1 (Nat.not_le.mpr hsel)
  simp only [extInput, run_look, if_neg hpeer]
  split
  · exact .inl rfl
  · split
    · exact .inr (.inl rfl)
    · exact .inr (.inr ⟨_, rfl⟩)

theorem extInput_leaves {sel : Nat} (hsel : sel < 0x100) (owner at_ : Nat) (s : State) :
    ((extInput sel owner at_).run s).units.utl = s.units.utl ∧ ((extInput sel owner at_).run s).out = s.out ∧
    (∀ a, ¬ (a = F.GEY_DEVICE_EXT_LATE_C.addr ∨ inNotify a) → ((extInput sel owner at_).run s).rd a = s.rd a) ∧
    ((extInput sel owner at_).run s).force = s.force ∧ ((extInput sel owner at_).run s).flash = s.flash := by
  rcases run_extInput hsel owner at_ s with h | h | ⟨e, h⟩
  · rw [h]; exact ⟨rfl, rfl, fun _ _ => rfl, rfl, rfl⟩
  · rw [h]
    have hcount := count_tallied F.GEY_DEVICE_EXT_LATE_C s
    exact ⟨hcount.utl, hcount.out, hcount.rd, hcount.force, hcount.flash⟩
  · rw [h]; exact ⟨rfl, rfl, fun _ _ => rfl, rfl, rfl⟩

/-- The hold-off of an edge (R456), for a function of the pin that takes edges. -/
def State.holdOff (s : State) (p : Nat) : Int := (clampParam 6 (s.get (F.UTL_PARAM_PARAM p)) * tickNs : Nat)

theorem run_trigger_accepted {s : State} {p x : Nat} (hp : p < 32) (hpending : s.pending = [])
    (hguard : s.is (F.UTL_STATUS_GUARD p) = false) (hfn : s.get (F.UTL_CFG_FUNCTION p) = 6)
    (hfar : ∀ y ∈ (s.utl p).lastEdge, s.holdOff p ≤ dif x y) : (externalTriggerEdgeAct p x).run s =
    (extInput (0x10 + p - 16) 64 x).run ((onUtl p (fun u => { u with lastEdge := some x })).run s) := by
  have hnear : ∀ e, (s.utl p).lastEdge = some e → ¬ (dif x e < (clampParam 6 (s.get (F.UTL_PARAM_PARAM p)) * tickNs : Nat)) :=
    fun e he => not_lt.mpr (hfar e (by simp [he]))
  simp only [externalTriggerEdgeAct, run_look, hguard, hpending, asked_nil s _ hpending, List.any_nil, Bool.or_self, Nat.not_le.mpr hp,
    hfn, if_false, Bool.false_eq_true, ne_eq, not_true_eq_false]
  cases he : (s.utl p).lastEdge with
  | none => rfl
  | some e => simp only [hnear e he, decide_false, Bool.false_eq_true, if_false, run_seq]

theorem run_trigger_discarded {s : State} {p x y : Nat} (hp : p < 32) (h : s.is (F.UTL_STATUS_GUARD p) = true ∨
      (s.get (F.UTL_CFG_FUNCTION p) = 6 ∧ (s.utl p).lastEdge = some y ∧ dif x y < s.holdOff p)) :
    (externalTriggerEdgeAct p x).run s = (count (F.UTL_DISCARDED_C p)).run s := by
  simp only [externalTriggerEdgeAct, run_look, Nat.not_le.mpr hp, if_false]
  rcases h with hguard | ⟨hfn, hedge, hnear⟩
  · simp only [hguard, Bool.true_or, if_true]
  · have hnear' : dif x y < (clampParam 6 (s.get (F.UTL_PARAM_PARAM p)) * tickNs : Nat) := hnear
    split
    · rfl
    · simp only [hfn, hedge, hnear', ne_eq, not_true_eq_false, if_false, decide_true, if_true]

theorem run_trigger_none {s : State} {p x : Nat} (h : 32 ≤ p ∨ (s.pending = [] ∧ s.is (F.UTL_STATUS_GUARD p) = false ∧
      s.get (F.UTL_CFG_FUNCTION p) ≠ 6)) : (externalTriggerEdgeAct p x).run s = s := by
  simp only [externalTriggerEdgeAct, run_look]
  by_cases hp : p ≥ 32
  · rw [if_pos hp, run_skip]
  · obtain ⟨hpending, hguard, hfn⟩ := h.resolve_left hp
    simp only [hp, if_false, hguard, hpending, asked_nil s _ hpending, List.any_nil, Bool.or_self, Bool.false_eq_true, ne_eq, hfn,
      not_false_eq_true, if_true, run_skip]

/-! ## A write that only sets WRITE_LOST (R460) -/

/-- The write of a tenant without the right: WRITE_LOST, behind the count of the write. -/
theorem run_adjusts_lost (w : Nat) (f : Field) {a : Act} {lost : Field} {s : State} (hmsb : lost.msb = lost.lsb) (hm : lost.msb < 64)
    (h : s.get F.IMG_VOLATILE_WRITES_COUNT + 1 < 2 ^ 47)
    (ha : ∀ u, Tallied (fun a => a = F.IMG_VOLATILE_WRITES_COUNT.addr) s u → a.run u = (event lost).run u) :
    ((adjusts w f a).run s).is lost = true ∧ ((adjusts w f a).run s).units = s.units ∧ ((adjusts w f a).run s).out = s.out ∧
    (∀ g : Field, g.msb < 64 → g.addr ≠ F.IMG_VOLATILE_WRITES_COUNT.addr → lost.addr ≠ g.addr ∨ g.msb < lost.lsb ∨ lost.msb < g.lsb →
      ((adjusts w f a).run s).get g = s.get g) ∧
    (∀ a', ¬ (a' = lost.addr ∨ a' = F.IMG_VOLATILE_WRITES_COUNT.addr) → ((adjusts w f a).run s).rd a' = s.rd a') ∧
    ((adjusts w f a).run s).force = s.force ∧ ((adjusts w f a).run s).flash = s.flash := by
  obtain ⟨u, hu, hunits, hrun⟩ := run_adjusts_below_half w f a h
  rw [hrun, ha u hu]
  refine ⟨is_eq_true.mpr ?_, hunits, hu.out, fun g hg hne hapart => ?_, fun x hx => ?_, hu.force, hu.flash⟩
  · rw [get_event_bit hmsb hm]; decide
  · rw [get_event_other _ _ _ (Nat.le_of_eq hmsb.symm) hg hapart, hu.get hne]
  · obtain ⟨hlost, hcount⟩ := not_or.mp hx
    rw [rd_event_other hlost, hu.rd x hcount]

/-! ## What each row of the interlock outputs leaves -/

/-- Two outputs in contention trip together. -/
theorem ilkTrip_contention {o q : Nat} (ho : o < 8) (hq : q < 8) (hne : q ≠ o) {s t : State}
    (ht : t = (withIlk (.seq (tripIlk o 3) (tripIlk q 3))).run s) :
    t.get (F.ILK_FAULT_TYPE o) = 3 ∧ t.get (F.ILK_FAULT_TYPE q) = 3 ∧ t.ilkPin o = .hiZ ∧ t.ilkPin q = .hiZ ∧
    t.get (F.ILK_TRIPS_C o) = (s.get (F.ILK_TRIPS_C o) + 1) % 2 ^ 48 ∧
    t.get (F.ILK_TRIPS_C q) = (s.get (F.ILK_TRIPS_C q) + 1) % 2 ^ 48 ∧
    (∀ k ∈ List.range 8, t.is (F.ILK_FAULT_PIN_HIGH k) = (t.ilkPin k == Drive.high)) ∧
    (∀ a, ¬ (inIlk o a ∨ inIlk q a ∨ ilkFault a ∨ inNotify a) → t.rd a = s.rd a) ∧ t.force = s.force ∧ t.flash = s.flash := by
  obtain ⟨hshown, hpins⟩ := withIlk_shown (.seq (tripIlk o 3) (tripIlk q 3)) s
  rw [← ht] at hshown hpins
  rw [run_seq] at hshown
  have hfirst := tripIlk_tripped ho (ty := 3) (by decide) s
  have hsecond := hshown.of_tripped (tripIlk_tripped hq (ty := 3) (by decide) ((tripIlk o 3).run s))
  have hkept : ∀ f : Field, inIlk o f.addr → ((tripIlk q 3).run ((tripIlk o 3).run s)).get f = ((tripIlk o 3).run s).get f :=
    fun f hf => tripIlk_get_other ho hne 3 _ hf
  have htripped : t.is (F.ILK_FAULT_TRIPPED o) = true := is_eq_true.mpr <| by
    rw [hshown.get _ (by simp [F.ILK_FAULT_TRIPPED]) (.inr (by simp [F.ILK_FAULT_TRIPPED])),
      hkept _ (by simp only [inIlk, F.ILK_FAULT_TRIPPED]; omega), hfirst.tripped]
    decide
  refine ⟨?_, hsecond.type, ilkPin_of_tripped htripped, ilkPin_of_tripped (is_eq_true.mpr (by rw [hsecond.tripped]; decide)), ?_, ?_,
    hpins, fun a ha => ?_, ?_, ?_⟩
  · rw [hshown.get _ (by simp [F.ILK_FAULT_TYPE]) (.inl (by simp [F.ILK_FAULT_TYPE])),
      hkept _ (by simp only [inIlk, F.ILK_FAULT_TYPE]; omega), hfirst.type]
  · rw [hshown.get_of_addr (by simp only [F.ILK_TRIPS_C, ilkFault]; omega),
      hkept _ (by simp only [inIlk, F.ILK_TRIPS_C]; omega), hfirst.trips]
  · rw [hsecond.trips, tripIlk_get_other hq hne.symm 3 s (by simp only [inIlk, F.ILK_TRIPS_C]; omega)]
  · obtain ⟨ho', hq', hfault, hnote⟩ : ¬ inIlk o a ∧ ¬ inIlk q a ∧ ¬ ilkFault a ∧ ¬ inNotify a := by simpa only [not_or] using ha
    rw [hshown.rd a hfault, tripIlk_rd _ _ _ (not_or.mpr ⟨hq', hnote⟩), tripIlk_rd _ _ _ (not_or.mpr ⟨ho', hnote⟩)]
  · exact hsecond.force.trans hfirst.force
  · exact hsecond.flash.trans hfirst.flash

theorem ilkRedrive_row {o : Nat} (ho : o < 8) {s t : State}
    (ht : t = (withIlk (ilkRedrive o (min 15 (s.get (F.ILK_FAULT_RETRIES o) + 1)))).run s) :
    t.is (F.ILK_FAULT_TRIPPED o) = false ∧ t.get (F.ILK_FAULT_RETRIES o) = min 15 (s.get (F.ILK_FAULT_RETRIES o) + 1) ∧
    t.get (F.ILK_RETRIES_C o) = (s.get (F.ILK_RETRIES_C o) + 1) % 2 ^ 48 ∧
    (∀ k ∈ List.range 8, t.is (F.ILK_FAULT_PIN_HIGH k) = (t.ilkPin k == Drive.high)) ∧
    (∀ a, ¬ (inIlk o a ∨ ilkFault a ∨ inNotify a) → t.rd a = s.rd a) ∧ t.force = s.force ∧ t.flash = s.flash := by
  obtain ⟨hdriven, hretries, hcount⟩ := ilkRedrive_get (n := min 15 (s.get (F.ILK_FAULT_RETRIES o) + 1)) ho (by omega) s
  have hregs := run_tally (ilkRedrive_tally (o := o) (min 15 (s.get (F.ILK_FAULT_RETRIES o) + 1))) s
  obtain ⟨hshown, hpins⟩ := withIlk_shown (ilkRedrive o (min 15 (s.get (F.ILK_FAULT_RETRIES o) + 1))) s
  rw [← ht] at hshown hpins
  refine ⟨is_eq_false.mpr ?_, ?_, ?_, hpins, fun a ha => ?_, hshown.force.trans hregs.force, hshown.flash.trans hregs.flash⟩
  · rw [hshown.get _ (by simp [F.ILK_FAULT_TRIPPED]) (.inr (by simp [F.ILK_FAULT_TRIPPED])), hdriven]
  · rw [hshown.get _ (by simp [F.ILK_FAULT_RETRIES]) (.inr (by simp [F.ILK_FAULT_RETRIES])), hretries]
  · rw [hshown.get_of_addr (by simp only [F.ILK_RETRIES_C, ilkFault]; omega), hcount]
  · obtain ⟨ho', hfault, hnote⟩ : ¬ inIlk o a ∧ ¬ ilkFault a ∧ ¬ inNotify a := by simpa only [not_or] using ha
    rw [hshown.rd a hfault, hregs.rd a (not_or.mpr ⟨ho', hnote⟩)]

section
variable (o : Nat) (s : State)
theorem ilkClearNoted_rd (a : Nat) : ((ilkClearNoted o).run s).rd a = s.rd a := rfl
theorem ilkClearNoted_get (f : Field) : ((ilkClearNoted o).run s).get f = s.get f := rfl
theorem ilkClearNoted_force : ((ilkClearNoted o).run s).force = s.force := rfl
theorem ilkClearNoted_flash : ((ilkClearNoted o).run s).flash = s.flash := rfl
end

theorem ilkCleared_row {o : Nat} (ho : o < 8) {s t : State} (ht : t = (withIlk (.seq (ilkCleared o) (ilkClearNoted o))).run s) :
    t.is (F.ILK_FAULT_TRIPPED o) = false ∧ t.is (F.ILK_FAULT_LATCHED o) = false ∧ t.get (F.ILK_FAULT_RETRIES o) = 0 ∧
    t.get (F.ILK_FAULT_TYPE o) = 0 ∧
    (∀ k ∈ List.range 8, t.is (F.ILK_FAULT_PIN_HIGH k) = (t.ilkPin k == Drive.high)) ∧
    (∀ a, ¬ ilkFault a → t.rd a = s.rd a) ∧ t.force = s.force ∧ t.flash = s.flash := by
  obtain ⟨hdriven, hlatch, hretries, htype⟩ := ilkCleared_get o s
  have hregs := run_tally (ilkCleared_tally ho) s
  obtain ⟨hshown, hpins⟩ := withIlk_shown (.seq (ilkCleared o) (ilkClearNoted o)) s
  rw [← ht] at hshown hpins
  rw [run_seq] at hshown
  refine ⟨is_eq_false.mpr ?_, is_eq_false.mpr ?_, ?_, ?_, hpins, fun a ha => ?_, ?_, ?_⟩
  · rw [hshown.get _ (by simp [F.ILK_FAULT_TRIPPED]) (.inr (by simp [F.ILK_FAULT_TRIPPED])), ilkClearNoted_get, hdriven]
  · rw [hshown.get _ (by simp [F.ILK_FAULT_LATCHED]) (.inr (by simp [F.ILK_FAULT_LATCHED])), ilkClearNoted_get, hlatch]
  · rw [hshown.get _ (by simp [F.ILK_FAULT_RETRIES]) (.inr (by simp [F.ILK_FAULT_RETRIES])), ilkClearNoted_get, hretries]
  · rw [hshown.get _ (by simp [F.ILK_FAULT_TYPE]) (.inl (by simp [F.ILK_FAULT_TYPE])), ilkClearNoted_get, htype]
  · rw [hshown.rd a ha, ilkClearNoted_rd, hregs.rd a ha]
  · rw [hshown.force, ilkClearNoted_force, hregs.force]
  · rw [hshown.flash, ilkClearNoted_flash, hregs.flash]

theorem ilkConfigured_row {o : Nat} {v : Word} {s t : State} (ht : t = (withIlk (ilkConfigured o v)).run s) :
    t.get (F.ILK_CFG_RETRY_LIMIT o) = getBits v 31 28 ∧ t.get (F.ILK_CFG_SOURCE o) = getBits v 27 26 ∧
    t.get (F.ILK_CFG_STATE o) = getBits v 1 0 ∧
    (∀ k ∈ List.range 8, t.is (F.ILK_FAULT_PIN_HIGH k) = (t.ilkPin k == Drive.high)) ∧
    (∀ a, ¬ (a = (F.ILK_CFG_STATE o).addr ∨ ilkFault a) → t.rd a = s.rd a) ∧ t.force = s.force ∧ t.flash = s.flash := by
  obtain ⟨hlimit, hsource, hstate⟩ := ilkConfigured_get o v s
  have hregs := run_tally (ilkConfigured_tally o v) s
  obtain ⟨hshown, hpins⟩ := withIlk_shown (ilkConfigured o v) s
  rw [← ht] at hshown hpins
  refine ⟨?_, ?_, ?_, hpins, fun a ha => ?_, hshown.force.trans hregs.force, hshown.flash.trans hregs.flash⟩
  · rw [hshown.get_of_addr (by simp only [F.ILK_CFG_RETRY_LIMIT, ilkFault]; omega), hlimit]
  · rw [hshown.get_of_addr (by simp only [F.ILK_CFG_SOURCE, ilkFault]; omega), hsource]
  · rw [hshown.get_of_addr (by simp only [F.ILK_CFG_STATE, ilkFault]; omega), hstate]
  · obtain ⟨hcfg, hfault⟩ := not_or.mp ha
    rw [hshown.rd a hfault, hregs.rd a hcfg]

/-! ## What each row of the utility pins leaves -/

theorem utlTaken_row {p e : Nat} {v : Word} {s t : State} (ht : t = (withUtl p (.seq (.seq (utlModes p v) (utlTaken p (getBits v 31 28)))
      (onUtl p (fun _ => { guardEnd := e })))).run s) :
    t.get (F.UTL_CFG_FUNCTION p) = getBits v 31 28 ∧ t.is (F.UTL_CFG_OPEN_DRAIN p) = (getBits v 27 27 == 1) ∧
    t.is (F.UTL_CFG_INVERT p) = (getBits v 26 26 == 1) ∧ t.get (F.UTL_CFG_RETRY_LIMIT p) = getBits v 25 22 ∧
    t.is (F.UTL_STATUS_GUARD p) = true ∧ t.is (F.UTL_STATUS_TRIPPED p) = false ∧ (t.utl p).guardEnd = e ∧ t.utlPin p = .hiZ ∧
    (∀ a, ¬ inUtl p a → t.rd a = s.rd a) ∧ t.force = s.force ∧ t.flash = s.flash := by
  obtain ⟨hdrain, hinvert, hlimit, -, -⟩ := utlModes_get p v s
  obtain ⟨hfn, hguard, htripped, hdrain', hinvert', hlimit'⟩ := utlTaken_get (getBits_lt v 31 28) p ((utlModes p v).run s)
  have hmodes := run_tally (utlModes_tally p v) s
  have htaken := run_tally (utlTaken_tally p (getBits v 31 28)) ((utlModes p v).run s)
  have hget : ∀ f, t.get f = ((utlTaken p (getBits v 31 28)).run ((utlModes p v).run s)).get f := fun f => by
    rw [ht, withUtl_get, run_seq, run_onUtl_get, run_seq]
  have hguarded : t.is (F.UTL_STATUS_GUARD p) = true := is_eq_true.mpr (by rw [hget, hguard]; decide)
  refine ⟨(hget _).trans hfn, ?_, ?_, ?_, hguarded, is_eq_false.mpr ((hget _).trans htripped), ?_, utlPin_of_guard hguarded,
    fun a ha => ?_, ?_, ?_⟩
  · rw [State.is, hget, hdrain', hdrain, bit_ne_zero (getBits_lt v 27 27)]
  · rw [State.is, hget, hinvert', hinvert, bit_ne_zero (getBits_lt v 26 26)]
  · rw [hget, hlimit', hlimit]
  · rw [ht, withUtl_utl, run_seq, run_onUtl_utl]
  · rw [ht, withUtl_rd, run_seq, run_onUtl_rd, run_seq, htaken.rd a ha, hmodes.rd a ha]
  · rw [ht, withUtl_force, run_seq, run_onUtl_force, run_seq, htaken.force, hmodes.force]
  · rw [ht, withUtl_flash, run_seq, run_onUtl_flash, run_seq, htaken.flash, hmodes.flash]

theorem utlRefused_row {p : Nat} {v : Word} {s t : State}
    (ht : t = (withUtl p (.seq (utlModes p v) (event (F.UTL_STATUS_FUNC_REFUSED p)))).run s) :
    t.is (F.UTL_STATUS_FUNC_REFUSED p) = true ∧ t.get (F.UTL_CFG_FUNCTION p) = s.get (F.UTL_CFG_FUNCTION p) ∧
    t.is (F.UTL_STATUS_GUARD p) = s.is (F.UTL_STATUS_GUARD p) ∧
    (∀ a, ¬ inUtl p a → t.rd a = s.rd a) ∧ t.force = s.force ∧ t.flash = s.flash := by
  obtain ⟨-, -, -, hfn, hguard⟩ := utlModes_get p v s
  have hmodes := run_tally (utlModes_tally p v) s
  refine ⟨?_, ?_, ?_, fun a ha => ?_, ?_, ?_⟩
  · rw [ht, withUtl_is, run_seq, State.is, get_event_bit rfl (by simp [F.UTL_STATUS_FUNC_REFUSED])]; decide
  · rw [ht, withUtl_get, run_seq, get_event_other _ _ _ (Nat.le_refl _) (by simp [F.UTL_CFG_FUNCTION])
      (.inl (by simp only [F.UTL_CFG_FUNCTION, F.UTL_STATUS_FUNC_REFUSED]; omega)), hfn]
  · rw [ht, withUtl_is, run_seq, State.is, get_event_other _ _ _ (Nat.le_refl _) (by simp [F.UTL_STATUS_GUARD])
      (.inr (.inl (by simp [F.UTL_STATUS_GUARD, F.UTL_STATUS_FUNC_REFUSED]))), hguard]
    rfl
  · have hlost : a ≠ (F.UTL_STATUS_FUNC_REFUSED p).addr := fun h => ha (by
      rw [h]; simp only [F.UTL_STATUS_FUNC_REFUSED, inUtl]; omega)
    rw [ht, withUtl_rd, run_seq, rd_event_other hlost, hmodes.rd a ha]
  · rw [ht, withUtl_force, run_seq, run_event_force, hmodes.force]
  · rw [ht, withUtl_flash, run_seq, run_event_flash, hmodes.flash]

/-- One pin trips: what UTL_TRIP leaves. -/
theorem utlTrip_single {p ty : Nat} (hp : p < 32) (hty : ty < 16) {s t : State} (ht : t = (withUtl p (tripUtl p ty)).run s) :
    t.is (F.UTL_STATUS_TRIPPED p) = true ∧ t.get (F.UTL_STATUS_TYPE p) = ty ∧
    t.get (F.UTL_TRIPS_C p) = (s.get (F.UTL_TRIPS_C p) + 1) % 2 ^ 48 ∧ t.utlPin p = .hiZ ∧ (t.utl p).trippedAt = s.keep.elapsed ∧
    (s.get (F.UTL_CFG_RETRY_LIMIT p) ≤ s.get (F.UTL_STATUS_RETRIES p) → t.is (F.UTL_STATUS_LATCHED p) = true) ∧
    (∀ a, ¬ (inUtl p a ∨ inNotify a) → t.rd a = s.rd a) ∧ t.force = s.force ∧ t.flash = s.flash := by
  have h := tripUtl_tripped hp hty s
  have hget : ∀ f, t.get f = ((tripUtl p ty).run s).get f := fun f => by rw [ht, withUtl_get]
  have htripped : t.is (F.UTL_STATUS_TRIPPED p) = true := is_eq_true.mpr (by rw [hget, h.tripped]; decide)
  refine ⟨htripped, (hget _).trans h.type, (hget _).trans h.trips, utlPin_of_tripped htripped, ?_, fun hl => is_eq_true.mpr ?_,
    fun a ha => ?_, ?_, ?_⟩
  · rw [ht, withUtl_utl, h.time]
  · rw [hget, h.latched hl]; decide
  · rw [ht, withUtl_rd, tripUtl_rd _ _ _ ha]
  · rw [ht, withUtl_force, h.force]
  · rw [ht, withUtl_flash, h.flash]

/-- Two pins in contention trip together. -/
theorem utlTrip_contention {p q : Nat} (hp : p < 32) (hq : q < 32) (hne : q ≠ p) {s t : State}
    (ht : t = (withUtl q (withUtl p (.seq (tripUtl p 3) (tripUtl q 3)))).run s) :
    t.get (F.UTL_STATUS_TYPE p) = 3 ∧ t.get (F.UTL_STATUS_TYPE q) = 3 ∧ t.utlPin p = .hiZ ∧ t.utlPin q = .hiZ ∧
    t.get (F.UTL_TRIPS_C p) = (s.get (F.UTL_TRIPS_C p) + 1) % 2 ^ 48 ∧
    t.get (F.UTL_TRIPS_C q) = (s.get (F.UTL_TRIPS_C q) + 1) % 2 ^ 48 ∧
    (∀ a, ¬ (inUtl p a ∨ inUtl q a ∨ inNotify a) → t.rd a = s.rd a) ∧ t.force = s.force ∧ t.flash = s.flash := by
  have hfirst := tripUtl_tripped hp (ty := 3) (by decide) s
  have hsecond := tripUtl_tripped hq (ty := 3) (by decide) ((tripUtl p 3).run s)
  have hget : ∀ f, t.get f = ((tripUtl q 3).run ((tripUtl p 3).run s)).get f := fun f => by
    rw [ht, withUtl_get, withUtl_get, run_seq]
  have hkept : ∀ f : Field, inUtl p f.addr → t.get f = ((tripUtl p 3).run s).get f := fun f hf => by
    rw [hget, tripUtl_get_other hp hne 3 _ hf]
  have htripped : t.is (F.UTL_STATUS_TRIPPED p) = true := is_eq_true.mpr <| by
    rw [hkept _ (by simp only [inUtl, F.UTL_STATUS_TRIPPED]; omega), hfirst.tripped]; decide
  have htrippedq : t.is (F.UTL_STATUS_TRIPPED q) = true := is_eq_true.mpr <| by rw [hget, hsecond.tripped]; decide
  refine ⟨?_, (hget _).trans hsecond.type, utlPin_of_tripped htripped, utlPin_of_tripped htrippedq, ?_, ?_, fun a ha => ?_, ?_, ?_⟩
  · rw [hkept _ (by simp only [inUtl, F.UTL_STATUS_TYPE]; omega), hfirst.type]
  · rw [hkept _ (by simp only [inUtl, F.UTL_TRIPS_C]; omega), hfirst.trips]
  · rw [hget, hsecond.trips, tripUtl_get_other hq hne.symm 3 s (by simp only [inUtl, F.UTL_TRIPS_C]; omega)]
  · obtain ⟨hp', hq', hnote⟩ : ¬ inUtl p a ∧ ¬ inUtl q a ∧ ¬ inNotify a := by simpa only [not_or] using ha
    rw [ht, withUtl_rd, withUtl_rd, run_seq, tripUtl_rd _ _ _ (not_or.mpr ⟨hq', hnote⟩), tripUtl_rd _ _ _ (not_or.mpr ⟨hp', hnote⟩)]
  · rw [ht, withUtl_force, withUtl_force, run_seq, hsecond.force, hfirst.force]
  · rw [ht, withUtl_flash, withUtl_flash, run_seq, hsecond.flash, hfirst.flash]

theorem run_win_get (m : Win → Win) (s : State) (f : Field) : ((Act.win m).run s).get f = s.get f := rfl
theorem run_win_rd (m : Win → Win) (s : State) (a : Nat) : ((Act.win m).run s).rd a = s.rd a := rfl

theorem utlCleared_row {p : Nat} {v : Word} {s t : State} {m : Win → Win}
    (ht : t = (withUtl p (.seq (utlCleared p (getBits v 0 0)) (.win m))).run s) :
    t.get (F.UTL_CTRL_OUT p) = getBits v 0 0 ∧ t.is (F.UTL_STATUS_TRIPPED p) = false ∧ t.is (F.UTL_STATUS_LATCHED p) = false ∧
    t.get (F.UTL_STATUS_RETRIES p) = 0 ∧ t.get (F.UTL_STATUS_TYPE p) = 0 ∧
    (∀ a, ¬ inUtl p a → t.rd a = s.rd a) ∧ t.force = s.force ∧ t.flash = s.flash := by
  obtain ⟨hout, htripped, hlatched, hretries, htype⟩ := utlCleared_get (getBits_lt v 0 0) p s
  have hregs := run_tally (utlCleared_tally p (getBits v 0 0)) s
  have hget : ∀ f, t.get f = ((utlCleared p (getBits v 0 0)).run s).get f := fun f => by rw [ht, withUtl_get, run_seq, run_win_get]
  refine ⟨(hget _).trans hout, is_eq_false.mpr ((hget _).trans htripped), is_eq_false.mpr ((hget _).trans hlatched),
    (hget _).trans hretries, (hget _).trans htype, fun a ha => ?_, ?_, ?_⟩
  · rw [ht, withUtl_rd, run_seq, run_win_rd, hregs.rd a ha]
  · rw [ht, withUtl_force, run_seq, run_win_force, hregs.force]
  · rw [ht, withUtl_flash, run_seq, run_win_flash, hregs.flash]

theorem utlGuardEnd_row {p : Nat} {s t : State} (ht : t = (withUtl p (put (F.UTL_STATUS_GUARD p) 0)).run s) :
    t.is (F.UTL_STATUS_GUARD p) = false ∧ t.units = { s.units with driven := t.units.driven } ∧ t.driven p = t.utlPin p ∧
    t.out = s.out ++ (if t.utlPin p = s.driven p then [] else [.pin 1 p (t.utlPin p) 0]) ∧
    (∀ a, ¬ (a = (F.UTL_STATUS_GUARD p).addr) → t.rd a = s.rd a) ∧ t.force = s.force ∧ t.flash = s.flash := by
  have hpin : t.utlPin p = ((put (F.UTL_STATUS_GUARD p) 0).run s).utlPin p := by rw [ht, withUtl_utlPin]
  have hrun := ht.trans (run_driveUtl p ((put (F.UTL_STATUS_GUARD p) 0).run s))
  rw [← hpin] at hrun
  refine ⟨?_, ?_, ?_, ?_, fun a ha => ?_, ?_, ?_⟩
  · rw [ht, withUtl_is]; exact is_put_bit rfl (by simp [F.UTL_STATUS_GUARD]) false
  · rw [hrun]; rfl
  · generalize t.utlPin p = d at hrun
    rw [hrun]
    show Sparse.get _ (if d = s.driven p then s.units.driven else Sparse.set (fun _ => Drive.hiZ) s.units.driven p d) p = d
    split
    case isTrue h => exact h.symm
    case isFalse => exact Sparse.get_set_same ..
  · generalize t.utlPin p = d at hrun
    rw [hrun]; rfl
  · rw [ht, withUtl_rd, rd_put_other _ _ _ ha]
  · rw [ht, withUtl_force]; rfl
  · rw [ht, withUtl_flash]; rfl

end Sys2Proof.Machine
end

section
/-! Interlock outputs, the field supply and utility pins (R56, R450 to R460): the statement on them. -/

namespace Sys2Proof.Machine

/-- Settles O37: each row by what its change flags and by the levels that `withIlk` and `withUtl` then show. -/
theorem interlocksAndUtilityPins : Obligations.InterlocksAndUtilityPins := by
  unfold Obligations.InterlocksAndUtilityPins
  refine ⟨fun s o ho hheld => ?thermal, fun s o ho hheld => ?mismatch, fun s o q ho hq hne hheld hheldq hdiffer => ?contention,
    fun s o y h => ?tripNot, fun s o ho htripped hlatched hcooled htime hwants => ?retry, fun s o h => ?retryNot,
    fun s o ho => ?cooled, fun s o w v ho hv hw => ?clear, fun s o w v ho hv hw hcount => ?clearLost,
    fun s o w v h hcount => ?clearNone, fun s o w v ho hw => ?cfg, fun s o w v ho hw hcount => ?cfgLost,
    fun s hok => ?vfldLoss, fun s hok => ?vfldLossNot, fun s hok => ?vfldReturn, fun s hok => ?vfldReturnNot,
    fun s p w v hp hw hoffers hnew => ?fn, fun s p w v hp hw hoffers => ?fnRefused, fun s p w v hp hw hcount => ?fnLost,
    fun s p hp hguard htime => ?guardEnd, fun s p h => ?guardEndNot, fun s p hp hclear hpin => ?utlTrip,
    fun s p q hp hq hne hclear hpin hpinq hdiffer => ?utlContention, fun s p y h => ?utlTripNot,
    fun s p w v hp hright hv => ?utlClear, fun s p w v hp hright hcount => ?utlClearLost,
    fun s p x hp hpending hguard hfn hfar => ?edge, fun s p x y hp h => ?edgeDiscarded, fun s p x h => ?edgeNone⟩
  case thermal =>
    obtain ⟨h, htripped, hpin⟩ := ilkTrip_single ho (ty := 4) (by decide) s
    exact ⟨_, congrArg Host.Outcome.next (run_ilkTrip (why := .thermal) ho hheld), htripped, h.type, h.trips, h.thermal rfl, hpin,
      h.cooled, fun hl => is_eq_true.mpr (by rw [h.latched hl]; decide), (withIlk_shown _ s).2, fun a ha => ilkTrip_frame ha,
      h.force, h.flash⟩
  case mismatch =>
    obtain ⟨h, htripped, hpin⟩ := ilkTrip_single ho (mismatchType_lt (s.ilkHeld o)) s
    exact ⟨_, congrArg Host.Outcome.next (run_ilkTrip (why := .mismatch) ho hheld), htripped, h.type, h.trips, hpin,
      (withIlk_shown _ s).2, fun a ha => ilkTrip_frame ha, h.force, h.flash⟩
  case contention =>
    have hrun : (ilkTripAct o (.contention q)).run s = (withIlk (.seq (tripIlk o 3) (tripIlk q 3))).run s := by
      rw [run_ilkTrip ho hheld]
      simp only [hq, hne, hheldq, hdiffer, ne_eq, not_false_eq_true, decide_true, Bool.and_self, if_true]
    exact ⟨_, congrArg Host.Outcome.next hrun, ilkTrip_contention ho hq hne rfl⟩
  case tripNot =>
    have hcond : (decide (o < 8) && decide (s.ilkHeld o ≠ .hiZ)) = false := by
      rcases h with h | h
      · simp [Nat.not_lt.mpr h]
      · simp [h]
    simp only [exec, execIlkTrip, ilkTripAct, run_look, hcond, run_when_false]
  case retry => exact ⟨_, congrArg Host.Outcome.next (run_ilkRetry ho htripped hlatched hcooled htime hwants), ilkRedrive_row ho rfl⟩
  case retryNot => exact congrArg Host.Outcome.next (run_ilkRetry_not h)
  case cooled =>
    have hrun : (thermalRetryThresholdAct o).run s = (onIlk o (fun u => { u with cooled := true })).run s := by
      simp [thermalRetryThresholdAct, ho]
    exact ⟨_, congrArg Host.Outcome.next hrun, run_onIlk_ilk, rfl, rfl, rfl, rfl⟩
  case clear =>
    subst hw
    obtain ⟨u, hu, hrun⟩ := run_adjusts 0 (F.ILK_CTRL_CLEAR o) (ilkClearAct o 0 v) s
    rw [run_ilkClear ho hv] at hrun
    obtain ⟨hdriven, hlatch, hretries, htype, hpins, hrd, hforce, hflash⟩ := ilkCleared_row (s := u) ho rfl
    refine ⟨_, congrArg Host.Outcome.next hrun, hdriven, hlatch, hretries, htype, hpins, fun a ha => ?_, hforce.trans hu.force,
      hflash.trans hu.flash⟩
    obtain ⟨hfault, hcount, hqueue⟩ : ¬ ilkFault a ∧ a ≠ F.IMG_VOLATILE_WRITES_COUNT.addr ∧ ¬ 0x08000000 ≤ a := by
      simpa only [not_or] using ha
    exact (hrd a hfault).trans (hu.rd a fun h => h.elim hcount fun h => hqueue (Nat.le_trans (by decide) h.1))
  case clearLost =>
    obtain ⟨hlost, hunits, hout, hget, hrd, hforce, hflash⟩ := run_adjusts_lost w (F.ILK_CTRL_CLEAR o) (a := ilkClearAct o w v)
      (lost := F.ILK_FAULT_WRITE_LOST o) rfl (by simp [F.ILK_FAULT_WRITE_LOST]) hcount fun u _ => run_ilkClear_lost ho hv hw u
    refine ⟨_, rfl, hlost, congrArg (fun n : Nat => decide (n ≠ 0)) (hget _ ?_ ?_ ?_), hunits, hout, hrd, hforce, hflash⟩
    · simp [F.ILK_FAULT_TRIPPED]
    · simp only [F.ILK_FAULT_TRIPPED, F.IMG_VOLATILE_WRITES_COUNT]; omega
    · simp [F.ILK_FAULT_TRIPPED, F.ILK_FAULT_WRITE_LOST]
  case clearNone =>
    obtain ⟨u, hu, hunits, hrun⟩ := run_adjusts_below_half w (F.ILK_CTRL_CLEAR o) (ilkClearAct o w v) hcount
    rw [run_ilkClear_none h] at hrun
    exact ⟨u, congrArg Host.Outcome.next hrun, hunits, hu.keep, hu.force, hu.out, hu.rd, hu.flash⟩
  case cfg =>
    subst hw
    obtain ⟨u, hu, hrun⟩ := run_adjusts 0 (F.ILK_CFG_STATE o) (ilkCfgWriteAct o 0 v) s
    rw [run_ilkCfgWrite ho] at hrun
    obtain ⟨hlimit, hsource, hstate, hpins, hrd, hforce, hflash⟩ := ilkConfigured_row (o := o) (v := v) (s := u) rfl
    refine ⟨_, congrArg Host.Outcome.next hrun, hlimit, hsource, hstate, hpins, fun a ha => ?_, hforce.trans hu.force,
      hflash.trans hu.flash⟩
    obtain ⟨hcfg, hfault, hcount⟩ : a ≠ (F.ILK_CFG_STATE o).addr ∧ ¬ ilkFault a ∧ ¬ ofWriteCount a := by
      simpa only [not_or, ofWriteCount] using ha
    exact (hrd a (not_or.mpr ⟨hcfg, hfault⟩)).trans (hu.rd a hcount)
  case cfgLost =>
    obtain ⟨hlost, -, hout, hget, hrd, hforce, hflash⟩ := run_adjusts_lost w (F.ILK_CFG_STATE o) (a := ilkCfgWriteAct o w v)
      (lost := F.ILK_FAULT_WRITE_LOST o) rfl (by simp [F.ILK_FAULT_WRITE_LOST]) hcount fun u _ => run_ilkCfgWrite_lost ho hw v u
    refine ⟨_, rfl, hlost, hout, hget _ ?_ ?_ ?_, fun a ha => hrd a fun h => ha (h.imp_right .inl), hforce, hflash⟩
    · simp [F.ILK_CFG_STATE]
    · simp only [F.ILK_CFG_STATE, F.IMG_VOLATILE_WRITES_COUNT]; omega
    · simp [F.ILK_CFG_STATE, F.ILK_FAULT_WRITE_LOST]
  case vfldLoss =>
    have hlt := railOk_lt s
    have hle : 64 ≤ s.get F.PWR_STATUS_RAIL_OK := by simpa [testBit_six hlt] using hok
    obtain ⟨hrail, hoff, hunits, hrd, hforce, hflash⟩ := withIlk_vfldMoves
      (ok := s.get F.PWR_STATUS_RAIL_OK - 64) (by omega) s.up true s
    have hvfld : State.vfld ((withIlk (vfldMoves (s.get F.PWR_STATUS_RAIL_OK - 64) s.up true)).run s) = false := by
      rw [State.vfld, hrail, testBit_six (by omega)]
      simpa using (by omega : s.get F.PWR_STATUS_RAIL_OK - 64 < 64)
    exact ⟨_, congrArg Host.Outcome.next (run_vfldLoss hok), hrail, fun k _ => ilkPin_of_no_vfld k hvfld,
      fun hup => List.all_eq_true.mpr (hoff hup), (withIlk_shown _ s).2, hunits, hrd, hforce, hflash⟩
  case vfldLossNot => simp only [exec, execVfldLoss, vfldLossAct, run_look, hok, run_when_false]
  case vfldReturn =>
    have hlt := railOk_lt s
    have hle : s.get F.PWR_STATUS_RAIL_OK < 64 := by simpa [testBit_six hlt] using hok
    obtain ⟨hrail, hoff, hunits, hrd, hforce, hflash⟩ := withIlk_vfldMoves
      (ok := s.get F.PWR_STATUS_RAIL_OK + 64) (by omega) true false s
    exact ⟨_, congrArg Host.Outcome.next (run_vfldReturn hok), hrail,
      List.all_eq_true.mpr fun k hk => by rw [hoff rfl k hk]; rfl, (withIlk_shown _ s).2, hunits, hrd, hforce, hflash⟩
  case vfldReturnNot => simp only [exec, execVfldReturn, vfldReturnAct, run_look, hok, Bool.not_true, run_when_false]
  case fn =>
    subst hw
    obtain ⟨u, hu, hrun⟩ := run_adjusts 0 (F.UTL_CFG_FUNCTION p) (utlFunctionChangeAct p 0 v) s
    have hfn : ¬ ofWriteCount (F.UTL_CFG_FUNCTION p).addr := by
      simp only [ofWriteCount, F.UTL_CFG_FUNCTION, F.IMG_VOLATILE_WRITES_COUNT, inNotify]; omega
    rw [run_utlFunctionChange hp hoffers (by rw [hu.get hfn]; exact hnew), hu.keep] at hrun
    obtain ⟨hget, hdrain, hinvert, hlimit, hguard, htripped, htime, hpin, hrd, hforce, hflash⟩ := utlTaken_row
      (p := p) (e := s.keep.elapsed + 2 * tickUs) (v := v) (s := u) rfl
    refine ⟨_, congrArg Host.Outcome.next hrun, hget, hdrain, hinvert, hlimit, hguard, htripped, htime, hpin,
      fun a ha => (hrd a fun h => ha (.inl h)).trans (hu.rd a fun h => ha (.inr h)), hforce.trans hu.force, hflash.trans hu.flash⟩
  case fnRefused =>
    subst hw
    obtain ⟨u, hu, hrun⟩ := run_adjusts 0 (F.UTL_CFG_FUNCTION p) (utlFunctionChangeAct p 0 v) s
    rw [run_utlFunctionChange_refused hp hoffers] at hrun
    obtain ⟨hrefused, hfn, hguard, hrd, hforce, hflash⟩ := utlRefused_row (p := p) (v := v) (s := u) rfl
    refine ⟨_, congrArg Host.Outcome.next hrun, hrefused, hfn.trans (hu.get ?_), hguard.trans (hu.is ?_),
      fun a ha => (hrd a fun h => ha (.inl h)).trans (hu.rd a fun h => ha (.inr h)), hforce.trans hu.force, hflash.trans hu.flash⟩
    · simp only [ofWriteCount, F.UTL_CFG_FUNCTION, F.IMG_VOLATILE_WRITES_COUNT, inNotify]; omega
    · simp only [ofWriteCount, F.UTL_STATUS_GUARD, F.IMG_VOLATILE_WRITES_COUNT, inNotify]; omega
  case fnLost =>
    obtain ⟨hlost, -, hout, hget, hrd, hforce, hflash⟩ := run_adjusts_lost w (F.UTL_CFG_FUNCTION p) (a := utlFunctionChangeAct p w v)
      (lost := F.UTL_STATUS_WRITE_LOST p) rfl (by simp [F.UTL_STATUS_WRITE_LOST]) hcount fun u _ => run_utlFunctionChange_lost hp hw
    refine ⟨_, rfl, hlost, hget _ ?_ ?_ ?_, hout, fun a ha => hrd a fun h => ha (h.imp_right .inl), hforce, hflash⟩
    · simp [F.UTL_CFG_FUNCTION]
    · simp only [F.UTL_CFG_FUNCTION, F.IMG_VOLATILE_WRITES_COUNT]; omega
    · simp only [F.UTL_CFG_FUNCTION, F.UTL_STATUS_WRITE_LOST]; omega
  case guardEnd => 
    have hrun : (utlGuardEndAct p).run s = (withUtl p (put (F.UTL_STATUS_GUARD p) 0)).run s := by
      simp [utlGuardEndAct, hp, hguard, htime]
    exact ⟨_, congrArg Host.Outcome.next hrun, utlGuardEnd_row rfl⟩
  case guardEndNot =>
    refine congrArg Host.Outcome.next ?_
    simp only [utlGuardEndAct, run_look]
    rcases h with h | h | h
    · simp [Nat.not_lt.mpr h]
    · simp [h]
    · simp [Nat.not_le.mpr h]
  case utlTrip =>
    exact ⟨_, congrArg Host.Outcome.next (run_utlTrip (why := .mismatch) hp hclear hpin),
      utlTrip_single hp (mismatchType_lt (s.utlPin p)) rfl⟩
  case utlContention =>
    have hrun : (utlTripAct p (.contention q)).run s = (withUtl q (withUtl p (.seq (tripUtl p 3) (tripUtl q 3)))).run s := by
      rw [run_utlTrip hp hclear hpin]
      simp only [hq, hne, hpinq, hdiffer, ne_eq, not_false_eq_true, decide_true, Bool.and_self, if_true]
    exact ⟨_, congrArg Host.Outcome.next hrun, utlTrip_contention hp hq hne rfl⟩
  case utlTripNot => exact congrArg Host.Outcome.next (run_utlTrip_not h)
  case utlClear =>
    obtain ⟨u, hu, hrun⟩ := run_adjusts w (F.UTL_CTRL_OUT p) (utlClearAct p w v) s
    rw [run_utlClear hp ((hu.hasRight w _).trans hright) hv] at hrun
    obtain ⟨hout, htripped, hlatched, hretries, htype, hrd, hforce, hflash⟩ := utlCleared_row (p := p) (v := v) (s := u) rfl
    exact ⟨_, congrArg Host.Outcome.next hrun, hout, htripped, hlatched, hretries, htype,
      fun a ha => (hrd a fun h => ha (.inl h)).trans (hu.rd a fun h => ha (.inr h)), hforce.trans hu.force, hflash.trans hu.flash⟩
  case utlClearLost =>
    obtain ⟨hlost, -, hout, hget, hrd, hforce, hflash⟩ := run_adjusts_lost w (F.UTL_CTRL_OUT p) (a := utlClearAct p w v)
      (lost := F.UTL_STATUS_WRITE_LOST p) rfl (by simp [F.UTL_STATUS_WRITE_LOST]) hcount
      fun u hu => run_utlClear_lost hp ((hu.hasRight w _).trans hright)
    refine ⟨_, rfl, hlost, hout, hget _ ?_ ?_ ?_, fun a ha => hrd a fun h => ha ?_, hforce, hflash⟩
    · simp [F.UTL_CTRL_OUT]
    · simp only [F.UTL_CTRL_OUT, F.IMG_VOLATILE_WRITES_COUNT]; omega
    · simp [F.UTL_CTRL_OUT, F.UTL_STATUS_WRITE_LOST]
    · refine h.imp (fun h => ?_) .inl
      rw [h]; simp only [F.UTL_STATUS_WRITE_LOST, inUtl]; omega
  case edge =>
    obtain ⟨hutl, hout, hrd, hforce, hflash⟩ := extInput_leaves (sel := 0x10 + p - 16) (by omega) 64 x
      ((onUtl p (fun u => { u with lastEdge := some x })).run s)
    refine ⟨_, congrArg Host.Outcome.next (run_trigger_accepted hp hpending hguard hfn hfar), ?_, hout, hrd, hforce, hflash⟩
    rw [State.utl, hutl]
    exact congrArg TripUnit.lastEdge (run_onUtl_utl (p := p) (f := fun u => { u with lastEdge := some x }) (s := s))
  case edgeDiscarded =>
    have hcount := count_tallied (F.UTL_DISCARDED_C p) s
    exact ⟨_, congrArg Host.Outcome.next (run_trigger_discarded hp h),
      get_count_48 ⟨rfl, rfl⟩ (by simp only [F.UTL_DISCARDED_C]; omega), hcount.utl, hcount.ext, hcount.rd, hcount.force, hcount.flash⟩
  case edgeNone => exact congrArg Host.Outcome.next (run_trigger_none h)

end Sys2Proof.Machine
end

section
/-! Programs beside a start (R57, R66): what the units do at local ready and at a shutdown leaves the flash, Ember, the clock
and the chronicle alone, and the registers that the start itself answers for. -/

namespace Sys2Proof.Machine

/-! ## Programs that stay aside -/

/-- The registers of the units: neither those of regions 0 to 2 nor SUP_ROLE_STATUS. -/
def unitReg (a : Nat) : Prop := 0x00040000 ≤ a ∧ a ≠ F.SUP_ROLE_STATUS_KIND.addr

/-- From `s` to `t` the flash stands, of what outlives a core reset only the drives change, and of the registers only
those where `P` holds. -/
structure Aside (P : Nat → Prop) (s t : State) : Prop where
  flash : t.flash = s.flash
  kept : t.keep = { s.keep with bays := t.keep.bays }
  rd : ∀ a, ¬ P a → t.rd a = s.rd a

/-- The program writes no flash, of what outlives a core reset only the drives, and registers only where `P` holds. -/
def Act.aside (P : Nat → Prop) : Act → Prop
  | .seq a b => a.aside P ∧ b.aside P
  | .look k => ∀ s, (k s).aside P
  | .draw k => ∀ w, (k w).aside P
  | .reg a _ => P a
  | .flash _ _ | .resetRegs | .resetAll => False
  | .keep f => ∀ k, f k = { k with bays := (f k).bays }
  | _ => True

namespace Aside

variable {P Q : Nat → Prop} {s t u : State}

theorem refl (P : Nat → Prop) (s : State) : Aside P s s := ⟨rfl, rfl, fun _ _ => rfl⟩
theorem trans (h : Aside P s t) (g : Aside P t u) : Aside P s u :=
  ⟨g.flash.trans h.flash, by rw [g.kept, h.kept], fun a ha => (g.rd a ha).trans (h.rd a ha)⟩
theorem mono (hPQ : ∀ a, P a → Q a) (h : Aside P s t) : Aside Q s t :=
  ⟨h.flash, h.kept, fun a ha => h.rd a (fun hp => ha (hPQ a hp))⟩

theorem ember (h : Aside P s t) : t.keep.ember = s.keep.ember := by rw [h.kept]
theorem elapsed (h : Aside P s t) : t.keep.elapsed = s.keep.elapsed := by rw [h.kept]
theorem chron (h : Aside P s t) : t.keep.chron = s.keep.chron := by rw [h.kept]
theorem chronSeq (h : Aside P s t) : t.keep.chronSeq = s.keep.chronSeq := by rw [h.kept]
theorem get (h : Aside P s t) {f : Field} (hf : ¬ P f.addr) : t.get f = s.get f := by rw [State.get, h.rd _ hf]; rfl

end Aside

theorem run_aside {P : Nat → Prop} {a : Act} (h : a.aside P) (s : State) : Aside P s (a.run s) := by
  induction a generalizing s with
  | seq a b iha ihb => exact (iha h.1 s).trans (ihb h.2 _)
  | look k ih => exact ih s (h s) s
  | draw k ih => exact Aside.trans (t := { s with free := s.free + 1 }) ⟨rfl, rfl, fun _ _ => rfl⟩ (ih _ (h _) _)
  | reg x v =>
    refine ⟨rfl, rfl, fun a ha => ?_⟩
    have hax : a ≠ x := fun e => ha (e ▸ h)
    simp [hax]
  | keep f => exact ⟨rfl, h s.keep, fun _ _ => rfl⟩
  | flash x b => exact h.elim
  | resetRegs => exact h.elim
  | resetAll => exact h.elim
  | _ => exact ⟨rfl, rfl, fun _ _ => rfl⟩

namespace Act

variable {P Q : Nat → Prop}

@[simp] theorem aside_skip : Act.skip.aside P := trivial
@[simp] theorem aside_seq (a b : Act) : (Act.seq a b).aside P ↔ a.aside P ∧ b.aside P := Iff.rfl
@[simp] theorem aside_look (k : State → Act) : (Act.look k).aside P ↔ ∀ s, (k s).aside P := Iff.rfl
@[simp] theorem aside_draw (k : Word → Act) : (Act.draw k).aside P ↔ ∀ w, (k w).aside P := Iff.rfl
@[simp] theorem aside_reg (a : Nat) (v : Word) : (Act.reg a v).aside P ↔ P a := Iff.rfl
@[simp] theorem aside_inForce (a : Nat) (v : Word) : (Act.inForce a v).aside P := trivial
@[simp] theorem aside_emit (m : Emission) : (Act.emit m).aside P := trivial
@[simp] theorem aside_units (f : Units → Units) : (Act.units f).aside P := trivial
@[simp] theorem aside_win (f : Win → Win) : (Act.win f).aside P := trivial
@[simp] theorem aside_all_nil : (Act.all []).aside P := trivial
@[simp] theorem aside_all_cons (a : Act) (l : List Act) : (Act.all (a :: l)).aside P ↔ a.aside P ∧ (Act.all l).aside P := Iff.rfl

@[simp] theorem aside_ite (c : Prop) [Decidable c] (a b : Act) :
    (if c then a else b).aside P ↔ (c → a.aside P) ∧ (¬ c → b.aside P) := by
  split <;> simp [*]

@[simp] theorem aside_when (c : Bool) (a : Act) : (Act.when c a).aside P ↔ (c = true → a.aside P) := by
  cases c <;> simp [Act.when]

@[simp] theorem aside_each {α : Type} (l : List α) (f : α → Act) : (Act.each l f).aside P ↔ ∀ x ∈ l, (f x).aside P := by
  induction l with
  | nil => simp [Act.each]
  | cons x l ih => simpa [Act.each] using fun _ => ih

theorem aside_mono (hPQ : ∀ a, P a → Q a) {a : Act} (h : a.aside P) : a.aside Q := by
  induction a with
  | seq a b iha ihb => exact ⟨iha h.1, ihb h.2⟩
  | look k ih => exact fun s => ih s (h s)
  | draw k ih => exact fun w => ih w (h w)
  | reg x v => exact hPQ _ h
  | keep f => exact h
  | flash x b => exact h.elim
  | resetRegs => exact h.elim
  | resetAll => exact h.elim
  | _ => trivial

theorem aside_of_tally {a : Act} (h : a.tally P) : a.aside P := by
  induction a with
  | seq a b iha ihb => exact ⟨iha h.1, ihb h.2⟩
  | look k ih => exact fun s => ih s (h s)
  | reg x v => exact h
  | skip => trivial
  | units f => trivial
  | win f => trivial
  | _ => exact h.elim

end Act

/-! ## Registers, counters and notifications -/

theorem unitReg_of {a : Nat} (h : 0x00040000 ≤ a ∧ a ≠ F.SUP_ROLE_STATUS_KIND.addr) : unitReg a := h

/-- A register array of the units below the supervisor's registers. -/
theorem unitReg_below {a : Nat} (h : 0x00040000 ≤ a ∧ a < 0x00204000) : unitReg a := by
  simp only [unitReg, F.SUP_ROLE_STATUS_KIND]
  omega

theorem unitReg_of_le {a : Nat} (h : 0x00204001 ≤ a) : unitReg a := by
  simp only [unitReg, F.SUP_ROLE_STATUS_KIND]
  omega

/-- A register array above the supervisor's registers. -/
@[simp] theorem unitReg_add {b k : Nat} (h : 0x00204001 ≤ b) : unitReg (b + k) := unitReg_of_le (Nat.le_add_right_of_le h)

@[simp] theorem put_aside {P : Nat → Prop} (f : Field) (v : Nat) : (put f v).aside P ↔ P f.addr :=
  ⟨fun h => h State.reset, fun h _ => h⟩
@[simp] theorem putForce_aside {P : Nat → Prop} (f : Field) (v : Nat) : (putForce f v).aside P := fun _ => trivial
@[simp] theorem commitWord_aside {P : Nat → Prop} (a : Nat) : (commitWord a).aside P := fun _ => trivial
@[simp] theorem event_aside {P : Nat → Prop} (f : Field) : (event f).aside P ↔ P f.addr := by simp [event]

theorem unitReg_of_inNotify {a : Nat} (h : inNotify a) : unitReg a := unitReg_of_le (Nat.le_trans (by decide) h.1)

@[simp] theorem countBy_aside {f : Field} (h : unitReg f.addr) (k : Nat) : (countBy f k).aside unitReg :=
  Act.aside_mono (fun _ ha => ha.elim (fun e => e ▸ h) unitReg_of_inNotify) (Act.aside_of_tally (countBy_tally f k))
@[simp] theorem count_aside {f : Field} (h : unitReg f.addr) : (count f).aside unitReg := countBy_aside h 1
@[simp] theorem notify_aside (k i : Nat) (b : List Byte) : (notify 0 k i b).aside unitReg :=
  Act.aside_mono (fun _ => unitReg_of_inNotify) (Act.aside_of_tally (notify_tally 0 k i b (by decide)))

/-! ## Unit state -/

section
variable {P : Nat → Prop}
@[simp] theorem onCal_aside (st : Nat) (f : CalStream → CalStream) : (onCal st f).aside P := fun _ => trivial
@[simp] theorem onLane_aside (l : Nat) (f : LaneUnit → LaneUnit) : (onLane l f).aside P := fun _ => trivial
@[simp] theorem onLink_aside (l : Nat) (f : LinkUnit → LinkUnit) : (onLink l f).aside P := fun _ => trivial
@[simp] theorem onProg_aside (p : Nat) (f : ProgUnit → ProgUnit) : (onProg p f).aside P := fun _ => trivial
@[simp] theorem onFb_aside (c : Nat) (f : FbusUnit → FbusUnit) : (onFb c f).aside P := fun _ => trivial
@[simp] theorem onStore_aside (f : Store → Store) : (onStore f).aside P := trivial
@[simp] theorem onTime_aside (f : TimeUnit → TimeUnit) : (onTime f).aside P := trivial
@[simp] theorem onClasp_aside (f : Clasp → Clasp) : (onClasp f).aside P := trivial
@[simp] theorem onSup_aside (f : Supervisor → Supervisor) : (onSup f).aside P := trivial
end

/-! ## What a start does in the units (R57, R191, R253) -/

theorem placeQueues_aside (s : State) : (placeQueues s).aside unitReg := by
  simp only [placeQueues, F.Q_SEGMENT_BASE, Act.aside_seq, Act.aside_each, put_aside]
  exact ⟨fun _ _ => unitReg_add (by decide), unitReg_of (by decide)⟩

theorem applyStream_aside (st : Nat) : (applyStream st).aside unitReg := by
  simp [applyStream, F.STR_STATUS_PENDING, F.STR_CTRL_COMMIT]

theorem acceptCommit_aside (st : Nat) : (acceptCommit st).aside unitReg := by
  simp [acceptCommit, applyStream_aside, startStream, stopStream, F.STR_STATUS_PENDING, F.STR_CTRL_COMMIT, F.STR_STATUS_RESULT,
    F.CAL_STREAM_APPLY_T_APPLY, F.CAL_STREAM_LATE_MAX_TICKS, F.CAL_STREAM_OLDEST_START]

theorem startStreams_aside : startStreams.aside unitReg := by
  simp [startStreams, acceptCommit_aside]

theorem enterState_aside (l st : Nat) : (enterState l st).aside unitReg := by
  simp [enterState, F.TLK_STATUS_STATE, F.TLK_EVENTS_LINK_DOWN, F.TLK_STATUS_TIME_VALID]

theorem moveLane_aside (l new : Nat) : (moveLane l new).aside unitReg := by
  simp [moveLane, enterState_aside, F.TLK_EVENTS_FLAP_FAULT]

theorem startLanes_aside : startLanes.aside unitReg := by
  simp [startLanes, standLanes, enterState_aside, moveLane_aside]

theorem startGeyser_aside : startGeyser.aside unitReg := by
  simp only [startGeyser, F.GEY_PROG_STATUS_TOKENS, Act.aside_look, Act.aside_when, Act.aside_all_cons, Act.aside_all_nil,
    Act.aside_each, put_aside, onProg_aside]
  exact fun s _ => ⟨unitReg_of (by decide), fun _ _ => trivial, fun _ _ => unitReg_add (by decide),
    fun _ => unitReg_of (by decide), fun _ => unitReg_of (by decide), trivial⟩

theorem timeReady_aside : timeReady.aside unitReg := by
  simp [timeReady]
  exact fun _ => ⟨unitReg_of (by decide), unitReg_of (by decide)⟩

theorem startFouts_aside : startFouts.aside unitReg := by
  intro s
  simp only [Act.aside_each, List.mem_filter, List.mem_range]
  intro k hk
  have hreg : unitReg (F.TIM_FOUT_STATUS_ACTIVE k).addr := unitReg_below (by simp only [F.TIM_FOUT_STATUS_ACTIVE]; omega)
  have hresult : unitReg (F.TIM_FOUT_STATUS_RESULT k).addr := unitReg_below (by simp only [F.TIM_FOUT_STATUS_RESULT]; omega)
  split <;> simp [hreg, hresult]

theorem setFbState_aside {c : Nat} (hc : c < 2) (n : Nat) : (setFbState c n).aside unitReg := by
  have hstate : unitReg (F.FBUS_STATUS_STATE c).addr := unitReg_below (by simp only [F.FBUS_STATUS_STATE]; omega)
  have hchange : unitReg (F.FBUS_STATUS_STATE_CHANGE c).addr := unitReg_below (by simp only [F.FBUS_STATUS_STATE_CHANGE]; omega)
  have hoff : unitReg (F.FBUS_BUS_OFF_C c).addr := unitReg_below (by simp only [F.FBUS_BUS_OFF_C]; omega)
  have hpassive : unitReg (F.FBUS_ERROR_PASSIVE_C c).addr := unitReg_below (by simp only [F.FBUS_ERROR_PASSIVE_C]; omega)
  simp [setFbState, hstate, hchange, hoff, hpassive]

/-- The units of a configured device, but for the slots of Ember. -/
def startUnitsOnly : List Act := [
  .look placeQueues,
  startStreams,
  startLanes,
  startGeyser,
  .look (fun s => Act.when (s.has 5) (put F.LKT_STATUS_STATE (if s.fenced then 7 else 1))),
  .look (fun s => Act.when (s.has 5 && !s.fenced) (onStore (fun x => { x with refclk := true }))),
  timeReady,
  startFouts,
  .look (fun s => Act.each ((List.range 2).filter (fun c => s.is (F.FBUS_CFG_ENABLE c))) (fun c =>
    .seq (onFb c (fun u => { u with mode := s.get (F.FBUS_CFG_MODE c) })) (setFbState c 1))),
  .look (fun s => Act.each (0 :: s.tenantList) (fun t => put (F.TEN_STATUS_STATE t) 1))]

theorem startUnits_eq : startUnits = Act.all (startUnitsOnly ++ [Act.each (List.range 4) applySlot]) := rfl

theorem run_all_append (l m : List Act) (s : State) : (Act.all (l ++ m)).run s = (Act.all m).run ((Act.all l).run s) := by
  induction l generalizing s with
  | nil => rfl
  | cons a l ih => exact ih (a.run s)

theorem run_startUnits (s : State) :
    startUnits.run s = (Act.each (List.range 4) applySlot).run ((Act.all startUnitsOnly).run s) := by
  rw [startUnits_eq, run_all_append, run_all_cons, run_all_nil]

theorem startUnitsOnly_aside : (Act.all startUnitsOnly).aside unitReg := by
  have hfb : ∀ s : State, (Act.each ((List.range 2).filter (fun c => s.is (F.FBUS_CFG_ENABLE c))) (fun c =>
      .seq (onFb c (fun u => { u with mode := s.get (F.FBUS_CFG_MODE c) })) (setFbState c 1))).aside unitReg := fun s => by
    simp only [Act.aside_each, List.mem_filter, List.mem_range, Act.aside_seq, onFb_aside, true_and]
    exact fun c hc => setFbState_aside hc.1 1
  have hstore : unitReg F.LKT_STATUS_STATE.addr := unitReg_of (by decide)
  simp [startUnitsOnly, placeQueues_aside, startStreams_aside, startLanes_aside, startGeyser_aside, timeReady_aside, startFouts_aside,
    hfb, hstore, F.TEN_STATUS_STATE]

theorem drawNonces_aside : drawNonces.aside unitReg := by
  have hboot : unitReg F.SUP_BOOT_ID_BOOT_ID.addr := unitReg_of (by decide)
  simp [drawNonces, hboot]

theorem showOwner_aside : showOwner.aside unitReg := by
  have hepoch : unitReg F.SIG_OWNER_EPOCH_EPOCH.addr := unitReg_of (by decide)
  have howner : unitReg F.SIG_STATUS_OWNERSHIP.addr := unitReg_of (by decide)
  simp [showOwner, hepoch, howner, F.SIG_OWNER_HASH_HASH]

theorem raisePins_aside : raisePins.aside unitReg := by
  have hilk : ∀ o < 8, unitReg (F.ILK_FAULT_PIN_HIGH o).addr := fun o ho =>
    unitReg_below (by simp only [F.ILK_FAULT_PIN_HIGH]; omega)
  simp +contextual [raisePins, driveIlk, driveUtl, hilk]

/-! ## Links that train (R348) -/

theorem linkF_addr {l : Nat} {f : Nat → Nat → Field} {g : Nat → Field} (hf : ∀ p j, 0x00204001 ≤ (f p j).addr)
    (hg : ∀ r, 0x00204001 ≤ (g r).addr) : unitReg (linkF l f g).addr := by
  unfold linkF
  split
  · exact unitReg_of_le (hf _ _)
  · exact unitReg_of_le (hg _)

theorem linkState_unitReg (l : Nat) : unitReg (linkState l).addr :=
  linkF_addr (fun _ _ => by simp only [F.LSN_LINK_STATUS_STATE]; omega) fun _ => by simp only [F.RNG_STATUS_STATE]; omega

theorem linkLost_aside (l st : Nat) (e : Bool) : (linkLost l st e).aside unitReg := by
  have hactive : unitReg (preemptActive l).addr :=
    linkF_addr (fun _ _ => by simp only [F.LSN_LINK_STATUS_PREEMPT_ACTIVE]; omega) fun _ => by
      simp only [F.RNG_STATUS_PREEMPT_ACTIVE]; omega
  have hdown : unitReg (linkF l F.LSN_LINK_STATUS_LINK_DOWN_EVENT F.RNG_STATUS_LINK_DOWN_EVENT).addr :=
    linkF_addr (fun _ _ => by simp only [F.LSN_LINK_STATUS_LINK_DOWN_EVENT]; omega) fun _ => by
      simp only [F.RNG_STATUS_LINK_DOWN_EVENT]; omega
  simp [linkLost, showLinkUp, linkState_unitReg, hactive, hdown, F.LSN_PORT_STATUS_LINK_UP]

theorem trainPort_aside (p : Nat) : (trainPort p).aside unitReg := by
  simp [trainPort, linkState_unitReg, linkLost_aside]

theorem startLinks_aside : startLinks.aside unitReg := by
  simp [startLinks, trainPort_aside, linkState_unitReg]

end Sys2Proof.Machine
end

section
/-! What a program brings, in any relation that composes; and what the image loader leaves of the power block and of Ember
(R91, R92). -/

namespace Sys2Proof.Machine

/-! ## Programs and relations between states -/

/-- From every state the program brings one in relation with it. -/
def Act.brings (R : State → State → Prop) (a : Act) : Prop := ∀ s, R s (a.run s)

section
variable {R : State → State → Prop}

theorem brings_look {k : State → Act} (h : ∀ s, (k s).brings R) : (Act.look k).brings R := fun s => h s s

theorem brings_ite {c : Prop} [Decidable c] {a b : Act} (ha : a.brings R) (hb : b.brings R) : (if c then a else b).brings R := by
  split
  · exact ha
  · exact hb

theorem brings_when (hr : ∀ s, R s s) {c : Bool} {a : Act} (h : c = true → a.brings R) : (Act.when c a).brings R := fun s => by
  cases c
  · exact hr s
  · exact h rfl s

variable (ht : ∀ s t u, R s t → R t u → R s u)
include ht

theorem brings_seq {a b : Act} (ha : a.brings R) (hb : b.brings R) : (Act.seq a b).brings R := fun s =>
  ht _ _ _ (ha s) (hb (a.run s))

variable (hr : ∀ s, R s s)
include hr

theorem brings_all {l : List Act} (h : ∀ a ∈ l, a.brings R) : (Act.all l).brings R := by
  induction l with
  | nil => exact hr
  | cons a l ih => exact brings_seq ht (h a List.mem_cons_self) (ih fun b hb => h b (List.mem_cons_of_mem a hb))

theorem brings_each {α : Type} {l : List α} {f : α → Act} (h : ∀ x ∈ l, (f x).brings R) : (Act.each l f).brings R := by
  induction l with
  | nil => exact hr
  | cons x l ih => exact brings_seq ht (h x List.mem_cons_self) (ih fun y hy => h y (List.mem_cons_of_mem x hy))

end

theorem aside_brings {P : Nat → Prop} {a : Act} (h : a.aside P) : a.brings (Aside P) := run_aside h

/-! ## Registers that an image does not set (R92) -/

/-- The words of the rails, the wake causes and Ember's counters. -/
def causeWord (a : Nat) : Prop := a = F.PWR_STATUS_RAIL_OK.addr ∨ a = F.EMB_WAKE_CAUSE_COLD.addr ∨ a = F.EMB_WAKE_FRAMES_COUNT.addr ∨
  a = F.EMB_WAKE_ERRORS_COUNT.addr ∨ a = F.EMB_BROWNOUT_CNT_COUNT.addr

/-- The registers of those words: no field of them is software's. -/
def Reg.ofCause (g : Reg) : Prop := g = .PWR_STATUS ∨ g = .EMB_WAKE_CAUSE ∨ g = .EMB_WAKE_FRAMES ∨ g = .EMB_WAKE_ERRORS ∨
  g = .EMB_BROWNOUT_CNT

theorem not_causeWord {a : Nat} (h : 0x00010121 ≤ a) : ¬ causeWord a := by
  simp only [causeWord, F.PWR_STATUS_RAIL_OK, F.EMB_WAKE_CAUSE_COLD, F.EMB_WAKE_FRAMES_COUNT, F.EMB_WAKE_ERRORS_COUNT,
    F.EMB_BROWNOUT_CNT_COUNT]
  omega

theorem locate_causeWord {a : Nat} (h : causeWord a) : ∃ g, locate a = some (g, [], 0) ∧ g.ofCause := by
  rcases h with rfl | rfl | rfl | rfl | rfl
  · exact ⟨.PWR_STATUS, by decide +kernel, .inl rfl⟩
  · exact ⟨.EMB_WAKE_CAUSE, by decide +kernel, .inr (.inl rfl)⟩
  · exact ⟨.EMB_WAKE_FRAMES, by decide +kernel, .inr (.inr (.inl rfl))⟩
  · exact ⟨.EMB_WAKE_ERRORS, by decide +kernel, .inr (.inr (.inr (.inl rfl)))⟩
  · exact ⟨.EMB_BROWNOUT_CNT, by decide +kernel, .inr (.inr (.inr (.inr rfl)))⟩

/-- An image leaves the word of such a register. -/
theorem imageWord_ofCause {g : Reg} (h : g.ofCause) (s : State) (w v : Word) :
    settleWord g (imageWord (s.fieldsOf g []) w v) = w := by
  rcases h with rfl | rfl | rfl | rfl | rfl <;> rfl

theorem imageSets_ofCause {g : Reg} (h : g.ofCause) (i a : Nat) (w : Word) (s : State) :
    (imageSets g i a w).run s = (Act.reg a w).run s := by
  rcases h with rfl | rfl | rfl | rfl | rfl <;> rfl

/-- A register rewritten with its own word. -/
theorem aside_reg_rd (P : Nat → Prop) (a : Nat) (s : State) : Aside P s ((Act.reg a (s.rd a)).run s) := by
  refine ⟨rfl, rfl, fun x _ => ?_⟩
  rw [rd_reg]
  split
  case isTrue h => rw [h]
  case isFalse => rfl

/-- A program that changes registers other than those of the causes. -/
abbrev spares : Act → Prop := Act.aside (fun a => ¬ causeWord a)

theorem imageSets_spares {a : Nat} (ha : ¬ causeWord a) (g : Reg) (i : Nat) (w : Word) : spares (imageSets g i a w) := by
  intro s
  have hreg : ∀ v, spares (.reg a v) := fun v => ha
  have hevent : ∀ f : Field, 0x00010121 ≤ f.addr → spares (event f) := fun f hf => (event_aside f).mpr (not_causeWord hf)
  dsimp only
  split
  · exact (Act.aside_ite _ _ _).mpr ⟨fun _ => hreg _, fun _ => hevent _ (by simp only [F.EDG_STATUS_CFG_REFUSED]; omega)⟩
  · exact (Act.aside_ite _ _ _).mpr ⟨fun _ => hreg _, fun _ => hevent _ (by simp only [F.ENV_CFG_CFG_REFUSED]; omega)⟩
  · exact (Act.aside_ite _ _ _).mpr ⟨fun _ => hreg _, fun _ => ⟨hreg _, hevent _ (by simp only [F.UTL_STATUS_FUNC_REFUSED]; omega)⟩⟩
  · exact hreg _

/-! ## Loading an image (R91 to R95) -/

theorem aside_trans {P : Nat → Prop} (s t u : State) (h : Aside P s t) (g : Aside P t u) : Aside P s u := h.trans g

theorem spares_nil : (Act.all []).brings (Aside fun a => ¬ causeWord a) := .refl _
theorem spares_cons {a : Act} {l : List Act} (ha : a.brings (Aside fun a => ¬ causeWord a))
    (hl : (Act.all l).brings (Aside fun a => ¬ causeWord a)) : (Act.all (a :: l)).brings (Aside fun a => ¬ causeWord a) :=
  brings_seq aside_trans ha hl

/-- Counting in a register other than those of the causes. -/
theorem count_spares {f : Field} (h : 0x00010121 ≤ f.addr) : spares (count f) :=
  Act.aside_mono (fun a ha => ha.elim (fun e => e ▸ not_causeWord h) fun hn => not_causeWord (Nat.le_trans (by decide) hn.1))
    (Act.aside_of_tally (count_tally f))

theorem put_spares {f : Field} (h : 0x00010121 ≤ f.addr) (v : Nat) : spares (put f v) := (put_aside f v).mpr (not_causeWord h)

/-- A record of an image leaves the words of the causes. -/
theorem loadRecord_brings (r : RegRecord) : (loadRecord r).brings (Aside fun a => ¬ causeWord a) := by
  refine brings_each aside_trans (.refl _) fun a _ => ?_
  intro s
  rw [run_look]
  by_cases ha : causeWord a
  · obtain ⟨g, hloc, hg⟩ := locate_causeWord ha
    simp only [hloc, imageWord_ofCause hg]
    split
    · rw [imageSets_ofCause hg]
      exact aside_reg_rd _ a s
    · exact run_aside (count_spares (by decide)) s
  · split
    · split
      · exact run_aside (imageSets_spares ha _ _ _) s
      · exact run_aside (count_spares (by decide)) s
    · exact .refl _ s

theorem loadWords_spares {base size : Nat} (h : 0x00010121 ≤ base) (b : List Byte) : spares (loadWords base size b) := by
  simp only [spares, loadWords, Act.aside_each, Act.aside_reg]
  exact fun _ _ => not_causeWord (by omega)

theorem loadStream_spares (st : Nat) (e : List Byte) : spares (loadStream st e) := by
  simp only [spares, loadStream, Act.aside_seq, Act.aside_each, Act.aside_reg, F.STR_CFG_ENABLED, F.STR_DEST_KIND]
  exact ⟨not_causeWord (by omega), fun _ _ => not_causeWord (by omega)⟩

theorem loadTables_brings (s0 : State) (slot : Nat) : (loadTables s0 slot).brings (Aside fun a => ¬ causeWord a) := by
  refine brings_all aside_trans (.refl _) fun a ha => ?_
  simp only [List.mem_cons, List.not_mem_nil, or_false] at ha
  rcases ha with rfl | rfl | rfl | rfl | rfl | rfl | rfl | rfl
  · refine aside_brings ((Act.aside_each _ _).mpr fun e he => not_causeWord ?_)
    simp only [List.mem_filter, Bool.and_eq_true, decide_eq_true_eq] at he
    omega
  · exact brings_each aside_trans (.refl _) fun r _ => loadRecord_brings r
  · exact aside_brings ((Act.aside_each _ _).mpr fun _ _ => trivial)
  · refine aside_brings ((Act.aside_each _ _).mpr fun e _ => (Act.aside_when _ _).mpr fun _ => ⟨put_spares ?_ _, put_spares ?_ _⟩)
    · simp only [F.CAL_TENANT_CFG_WEIGHT]; omega
    · simp only [F.CAL_TENANT_QUOTA_CELLS]; omega
  · exact aside_brings trivial
  · exact aside_brings ((Act.aside_when _ _).mpr fun _ => ⟨loadWords_spares (by decide) _,
      (Act.aside_each _ _).mpr fun _ _ => loadStream_spares _ _, trivial⟩)
  · exact aside_brings ((Act.aside_when _ _).mpr fun _ => loadWords_spares (by decide) _)
  · exact aside_brings fun s => (Act.aside_each _ _).mpr fun _ _ => trivial

theorem loadKeys_spares (s0 : State) (slot : Nat) : spares (loadKeys s0 slot) := by
  unfold loadKeys spares
  split
  · trivial
  · simp only [Act.aside_each, Act.aside_all_cons, Act.aside_all_nil, put_aside, Act.aside_units, and_true, F.SIG_KEY_INFO_VALID,
      F.SIG_KEY_INFO_KEY_INDEX, F.SIG_KEY_INFO_USAGE, F.SIG_KEY_INFO_TENANT, and_self]
    exact fun _ _ => not_causeWord (by omega)

theorem showSlots_spares : spares showSlots := by
  simp only [spares, showSlots, Act.aside_look, Act.aside_each, Act.aside_all_cons, Act.aside_all_nil, put_aside, and_true,
    F.IMG_SLOT_STATE_WRITTEN, F.IMG_SLOT_STATE_TRIED, F.IMG_SLOT_STATE_CONFIRMED, F.IMG_SLOT_STATE_RETIRED, and_self]
  exact fun _ _ _ => not_causeWord (by omega)

theorem showGeneration_spares (slot : Nat) : spares (showGeneration slot) := fun _ =>
  put_spares (by simp only [F.IMG_SLOT_GENERATION_GENERATION]; omega) _

/-! ## Flags of a slot, and the loader as a whole (R97 to R101) -/

/-- What is loaded of a slot that verifies, `first` being the result of the slot looked at first. -/
def loadSlot (s : State) (first slot : Nat) : Act := Act.all [
  loadTables s slot,
  loadKeys s slot,
  put F.IMG_STATUS_STATE 2,
  put F.IMG_STATUS_RUNNING_SLOT slot,
  put F.IMG_STATUS_FALLBACK (b2n (first ≠ 0)),
  put F.IMG_GENERATION_GENERATION (s.imgNum slot 8 8),
  put F.IMG_SECURITY_VERSION (s.imgNum slot 28 2),
  .units (fun u => { u with
    imgRaise := if (s.imgNum slot 22 2).testBit 1 then some (s.imgNum slot 28 2) else none
    imgDeadline := if s.imgNum slot 22 2 % 2 = 1 && !s.marked slot 2 then some (s.keep.elapsed + s.imgNum slot 24 4 * tickS)
      else none })]

/-- What a start shows of the two verifications and loads of the slot that verified. -/
def loadVerified (s : State) (first second : Nat) (run : Option Nat) : Act := Act.all [
  put F.IMG_STATUS_REASON_FIRST first,
  put F.IMG_STATUS_REASON_SECOND second,
  put F.IMG_SECURITY_FLOOR s.keep.floor,
  put F.IMG_SECURITY_RAISES_USED s.keep.raises,
  match run with
  | none => put F.IMG_STATUS_STATE 3
  | some slot => loadSlot s first slot,
  showSlots,
  Act.each [0, 1] showGeneration]

/-- The result for the slot looked at second. -/
def State.secondResult (s : State) (slot : Nat) : Nat := if s.verify true slot = 0 then 0 else s.verify true (1 - slot)

/-- The slot that runs. -/
def State.runsSlot (s : State) (slot : Nat) : Option Nat :=
  if s.verify true slot = 0 then some slot else if s.secondResult slot = 0 then some (1 - slot) else none

/-- The state in which the slots are verified: TRIED is marked. -/
def State.tried (s : State) : State := (Act.when s.slotOrder.2 (mark s.slotOrder.1 1)).run s

theorem run_loadImage (s : State) : loadImage.run s =
    (loadVerified s.tried (s.tried.verify true s.slotOrder.1) (s.tried.secondResult s.slotOrder.1)
      (s.tried.runsSlot s.slotOrder.1)).run s.tried := by
  unfold loadImage loadVerified State.runsSlot State.secondResult
  rw [run_look, run_seq, run_look]
  rw [← State.tried]
  generalize s.tried.verify true s.slotOrder.1 = first
  generalize s.tried.verify true (1 - s.slotOrder.1) = other
  rcases eq_or_ne first 0 with rfl | hfirst
  · rfl
  · rcases eq_or_ne other 0 with rfl | hother
    · simp only [if_neg hfirst, if_true, loadSlot]
    · simp only [if_neg hfirst, if_neg hother]

theorem loadSlot_brings (s : State) (first slot : Nat) : (loadSlot s first slot).brings (Aside fun a => ¬ causeWord a) := by
  have hput : ∀ f : Field, 0x00010121 ≤ f.addr → ∀ v, (put f v).brings (Aside fun a => ¬ causeWord a) := fun f hf v =>
    aside_brings (put_spares hf v)
  exact spares_cons (loadTables_brings _ _) (spares_cons (aside_brings (loadKeys_spares _ _)) (spares_cons (hput _ (by decide) _)
    (spares_cons (hput _ (by decide) _) (spares_cons (hput _ (by decide) _) (spares_cons (hput _ (by decide) _)
      (spares_cons (hput _ (by decide) _) (spares_cons (aside_brings trivial) spares_nil)))))))

theorem loadVerified_brings (s : State) (first second : Nat) (run : Option Nat) :
    (loadVerified s first second run).brings (Aside fun a => ¬ causeWord a) := by
  have hput : ∀ f : Field, 0x00010121 ≤ f.addr → ∀ v, (put f v).brings (Aside fun a => ¬ causeWord a) := fun f hf v =>
    aside_brings (put_spares hf v)
  refine spares_cons (hput _ (by decide) _) (spares_cons (hput _ (by decide) _) (spares_cons (hput _ (by decide) _)
    (spares_cons (hput _ (by decide) _) (spares_cons ?_ (spares_cons (aside_brings showSlots_spares) (spares_cons
      (aside_brings ((Act.aside_each _ _).mpr fun slot _ => showGeneration_spares slot)) spares_nil))))))
  cases run with
  | none => exact hput _ (by decide) _
  | some slot => exact loadSlot_brings _ _ _

/-- Storing bytes changes the flash alone. -/
theorem run_flashStore (a : Nat) (b : List Byte) (s : State) : ∃ f, (flashStore a b).run s = { s with flash := f } := by
  unfold flashStore
  generalize (List.range b.length).zip b = l
  induction l generalizing s with
  | nil => exact ⟨s.flash, rfl⟩
  | cons x l ih => exact ih _

theorem tried_flash (s : State) : ∃ f, s.tried = { s with flash := f } := by
  unfold State.tried
  cases s.slotOrder.2
  · exact ⟨s.flash, rfl⟩
  · exact run_flashStore _ _ s

/-- Loading leaves what outlives a reset but the drives, and the words of the causes. -/
theorem loadImage_leaves (s : State) : (loadImage.run s).keep.ember = s.keep.ember ∧ (loadImage.run s).keep.elapsed = s.keep.elapsed ∧
    (loadImage.run s).keep.chronSeq = s.keep.chronSeq ∧ ∀ a, causeWord a → (loadImage.run s).rd a = s.rd a := by
  have hload := loadVerified_brings s.tried (s.tried.verify true s.slotOrder.1) (s.tried.secondResult s.slotOrder.1)
    (s.tried.runsSlot s.slotOrder.1) s.tried
  rw [← run_loadImage] at hload
  obtain ⟨f, hf⟩ := tried_flash s
  rw [hf] at hload
  exact ⟨hload.ember, hload.elapsed, hload.chronSeq, fun a ha => hload.rd a fun h => h ha⟩

end Sys2Proof.Machine
end

section
/-! Local ready (R57): what the steps of a start leave of Ember, and what the device shows at its end. -/

namespace Sys2Proof.Machine

/-! ## Programs beside the power block and Ember -/

/-- From `s` to `t` Ember and the clock stand, and of the power block and Ember's registers only the flags of the slots
in EMB_STATUS change. -/
structure Beside (s t : State) : Prop where
  emberKept : t.keep.ember = s.keep.ember
  elapsed : t.keep.elapsed = s.keep.elapsed
  ember : t.ember = s.ember
  rd : ∀ a, a < 0x00020000 → a ≠ F.EMB_STATUS_STATE.addr → t.rd a = s.rd a

namespace Beside

variable {s t u : State}

theorem refl (s : State) : Beside s s := ⟨rfl, rfl, rfl, fun _ _ _ => rfl⟩
theorem trans (h : Beside s t) (g : Beside t u) : Beside s u :=
  ⟨g.emberKept.trans h.emberKept, g.elapsed.trans h.elapsed, g.ember.trans h.ember, fun a ha hne => (g.rd a ha hne).trans (h.rd a ha hne)⟩
theorem get (h : Beside s t) {f : Field} (ha : f.addr < 0x00020000) (hne : f.addr ≠ F.EMB_STATUS_STATE.addr) : t.get f = s.get f := by
  rw [State.get, h.rd _ ha hne]; rfl

/-- Only registers from 0x0002_0000 on change. -/
theorem of_rd (hk : t.keep.ember = s.keep.ember) (he : t.keep.elapsed = s.keep.elapsed)
    (hrd : ∀ a, a < 0x00020000 → t.rd a = s.rd a) : Beside s t :=
  ⟨hk, he, by rw [State.ember, State.get, hrd _ (by decide)]; rfl, fun a ha _ => hrd a ha⟩

end Beside

theorem beside_trans (s t u : State) (h : Beside s t) (g : Beside t u) : Beside s u := h.trans g

theorem beside_nil : (Act.all []).brings Beside := .refl
theorem beside_cons {a : Act} {l : List Act} (ha : a.brings Beside) (hl : (Act.all l).brings Beside) :
    (Act.all (a :: l)).brings Beside := brings_seq beside_trans ha hl

theorem beside_of_aside {a : Act} (h : a.aside unitReg) : a.brings Beside := fun s =>
  .of_rd (run_aside h s).ember (run_aside h s).elapsed fun x hx => (run_aside h s).rd x fun hu =>
    absurd hu.1 (Nat.not_le.mpr (Nat.lt_trans hx (by decide)))

theorem beside_put {f : Field} (h : 0x00020000 ≤ f.addr) (v : Nat) : (put f v).brings Beside := fun s =>
  .of_rd rfl rfl fun _ hx => rd_put_other s f v (Nat.ne_of_lt (Nat.lt_of_lt_of_le hx h))

theorem beside_units (f : Units → Units) : (Act.units f).brings Beside := fun _ => .of_rd rfl rfl fun _ _ => rfl

theorem beside_when {c : Bool} {a : Act} (h : c = true → a.brings Beside) : (Act.when c a).brings Beside := brings_when .refl h

theorem flashStore_beside (a : Nat) (b : List Byte) : (flashStore a b).brings Beside := fun s => by
  obtain ⟨f, hf⟩ := run_flashStore a b s
  rw [hf]
  exact .of_rd rfl rfl fun _ _ => rfl

/-! ## The chronicle, the role and the image at local ready -/

theorem chronicle_beside (k : Nat) (t : Option Nat) (c : Nat) (info : List Byte) : (chronicle k t c info).brings Beside := by
  refine brings_look fun s => ?_
  dsimp only
  split
  · split
    · exact beside_units _
    · exact beside_units _
  · exact brings_look fun s => brings_seq beside_trans (fun _ => .of_rd rfl rfl fun _ _ => rfl) (beside_put (by decide) _)

theorem holdRole_beside (kind device role incarnation : Nat) : (holdRole kind device role incarnation).brings Beside :=
  beside_cons (beside_put (by decide) _) (beside_cons (beside_put (by decide) _) (beside_cons (beside_put (by decide) _)
    (beside_cons (beside_put (by decide) _) beside_nil)))

theorem writeRole_beside (kind device role incarnation : Nat) : (writeRole kind device role incarnation).brings Beside :=
  brings_look fun _ => flashStore_beside _ _

theorem fence_beside : (put F.SUP_STATUS_FENCED 1).brings Beside := beside_put (by decide) 1

theorem settleRole_beside : settleRole.brings Beside := by
  refine brings_look fun s => ?_
  dsimp only
  split
  · exact brings_ite (holdRole_beside _ _ _ _) (brings_ite (brings_seq beside_trans (holdRole_beside _ _ _ _) fence_beside)
      (brings_ite (holdRole_beside _ _ _ _) (brings_ite (brings_seq beside_trans (writeRole_beside _ _ _ _) (holdRole_beside _ _ _ _))
        (holdRole_beside _ _ _ _))))
  · exact brings_ite (holdRole_beside _ _ _ _)
      (brings_ite (brings_seq beside_trans (writeRole_beside _ _ _ _) (holdRole_beside _ _ _ _)) (holdRole_beside _ _ _ _))

theorem showSlots_beside : showSlots.brings Beside := by
  refine brings_look fun s => brings_each beside_trans .refl fun slot _ => ?_
  have hput : ∀ f : Field, f.addr = (F.IMG_SLOT_STATE_WRITTEN slot).addr → ∀ v, (put f v).brings Beside := fun f hf v =>
    beside_put (by rw [hf]; simp only [F.IMG_SLOT_STATE_WRITTEN]; omega) v
  exact beside_cons (hput (F.IMG_SLOT_STATE_WRITTEN slot) rfl _) (beside_cons (hput (F.IMG_SLOT_STATE_TRIED slot) rfl _)
    (beside_cons (hput (F.IMG_SLOT_STATE_CONFIRMED slot) rfl _) (beside_cons (hput (F.IMG_SLOT_STATE_RETIRED slot) rfl _) beside_nil)))

theorem confirmImage_beside : confirmImage.brings Beside := by
  refine brings_look fun s => beside_cons (flashStore_beside _ _) (beside_cons (beside_put (by decide) _)
    (beside_cons (beside_units _) (beside_cons ?_ (beside_cons showSlots_beside beside_nil))))
  split
  · exact beside_cons (fun _ => .of_rd rfl rfl fun _ _ => rfl) (beside_cons (beside_put (by decide) _)
      (beside_cons (beside_put (by decide) _) beside_nil))
  · exact .refl

/-! ## Slots in force (R72) -/

/-- A flag of a slot in EMB_STATUS. -/
theorem beside_slotFlag {f : Field} (ha : f.addr = F.EMB_STATUS_STATE.addr) (hl : 2 < f.lsb) (hm : f.lsb ≤ f.msb) (v : Nat) :
    (put f v).brings Beside := fun s =>
  ⟨rfl, rfl, get_put_other _ _ _ _ hm (by decide) (.inr (.inl hl)), fun a _ hne => rd_put_other _ _ _ (ha ▸ hne)⟩

theorem commitWord_beside (a : Nat) : (commitWord a).brings Beside := fun _ => .of_rd rfl rfl fun _ _ => rfl

/-- The flag of one slot in a field of EMB_STATUS. -/
def slotFlag (f : Field) (sl : Nat) : Field := ⟨f.addr, f.lsb + sl, f.lsb + sl⟩

/-- A slot's staged words are put in force. -/
def commitSlot (sl : Nat) : Act := Act.all [Act.each (List.range 4) (fun w => commitWord (F.EMB_SLOT_WINDOW_BYTES sl w).addr),
  commitWord (F.EMB_SLOT_CHECK_CHECK sl).addr, commitWord (F.EMB_SLOT_CTRL_PIN_EN sl).addr]

theorem run_applySlot (sl : Nat) (s : State) : ∃ active, (applySlot sl).run s =
    (put (slotFlag F.EMB_STATUS_SLOT_ACTIVE sl) active).run ((put (slotFlag F.EMB_STATUS_SLOT_CHECK_FAULT sl)
      (b2n (!decide (s.stagedSlotCrc sl = s.get (F.EMB_SLOT_CHECK_CHECK sl))))).run ((commitSlot sl).run s)) := ⟨_, rfl⟩

theorem commitSlot_beside (sl : Nat) : (commitSlot sl).brings Beside :=
  beside_cons (brings_each beside_trans .refl fun _ _ => commitWord_beside _)
    (beside_cons (commitWord_beside _) (beside_cons (commitWord_beside _) beside_nil))

theorem applySlot_beside (sl : Nat) : (applySlot sl).brings Beside := by
  intro s
  obtain ⟨active, hrun⟩ := run_applySlot sl s
  have hfault : (put (slotFlag F.EMB_STATUS_SLOT_CHECK_FAULT sl)
      (b2n (!decide (s.stagedSlotCrc sl = s.get (F.EMB_SLOT_CHECK_CHECK sl))))).brings Beside :=
    beside_slotFlag (f := slotFlag F.EMB_STATUS_SLOT_CHECK_FAULT sl) rfl (show 2 < 28 + sl by omega) (Nat.le_refl _) _
  have hactive : (put (slotFlag F.EMB_STATUS_SLOT_ACTIVE sl) active).brings Beside :=
    beside_slotFlag (f := slotFlag F.EMB_STATUS_SLOT_ACTIVE sl) rfl (show 2 < 24 + sl by omega) (Nat.le_refl _) _
  rw [hrun]
  exact (commitSlot_beside sl s).trans ((hfault _).trans (hactive _))

theorem startUnits_beside : startUnits.brings Beside := by
  intro s
  rw [run_startUnits]
  exact (beside_of_aside startUnitsOnly_aside s).trans (brings_each beside_trans .refl (fun sl _ => applySlot_beside sl) _)

/-! ## The end of a start -/

/-- The registers and the state of Ember that local ready sets first. -/
def readySets (micros elapsed : Nat) : List Act := [
  put F.PWR_STATUS_LOCAL_READY 1,
  put F.PWR_STATUS_STATE 1,
  put F.PWR_START_TIME_MICROSECONDS micros,
  put F.EMB_STATUS_STATE embActive,
  onEmber (fun e => { e with fails := 0, starting := false, watchdog := some elapsed, stuck := false })]

/-- What follows at local ready, in the state `s` that the loader left. -/
def readyTail (s : State) : List Act := [
  drawNonces,
  onSup (fun x => { x with readyAt := s.keep.elapsed, wakeCause := (s.rd F.EMB_WAKE_CAUSE_COLD.addr).toNat }),
  put F.SUP_CHRONICLE_NEWEST_SEQ s.keep.chronSeq,
  showOwner,
  settleRole,
  Act.when (s.unconfigured) (put (F.TEN_STATUS_STATE 0) 1),
  Act.when (!s.unconfigured) startUnits,
  raisePins,
  startLinks,
  chronicle 0x03 none 0 (be 1 (resetCode s.keep.ember.resetKind) ++ be 2 s.keep.ember.resetSender),
  chronicle 0x01 none 0 (be 4 (s.rd F.EMB_WAKE_CAUSE_COLD.addr).toNat ++ be 1 (s.get F.IMG_STATUS_RUNNING_SLOT)
    ++ be 8 (s.get F.IMG_GENERATION_GENERATION) ++ be 1 (s.get F.IMG_STATUS_REASON_FIRST) ++ be 1 (s.get F.IMG_STATUS_REASON_SECOND)),
  Act.when (!s.unconfigured && s.units.imgDeadline.isNone) confirmImage,
  .look (fun t => Act.when (t.get F.SUP_ROLE_STATUS_KIND = 2 && bits (s.rd F.EMB_WAKE_CAUSE_COLD.addr).toNat 15 8 ≠ 0)
    (put F.SUP_ROLE_STATUS_ASSIGN_WAIT 1)),
  .look (fun t => .units fun u => { u with ready := t.regs })]

theorem run_localReady (micros : Nat) (s : State) : (localReady micros).run s =
    (Act.all (readyTail (loadImage.run s))).run ((Act.all (readySets micros (loadImage.run s).keep.elapsed)).run (loadImage.run s)) := by
  rw [localReady, run_seq, run_look]
  generalize loadImage.run s = t
  exact run_all_append (readySets micros t.keep.elapsed) (readyTail t) t

theorem readyTail_beside (s : State) : (Act.all (readyTail s)).brings Beside :=
  beside_cons (beside_of_aside drawNonces_aside) <| beside_cons (beside_units _) <| beside_cons (beside_put (by decide) _) <|
  beside_cons (beside_of_aside showOwner_aside) <| beside_cons settleRole_beside <|
  beside_cons (beside_when fun _ => beside_put (by decide) _) <| beside_cons (beside_when fun _ => startUnits_beside) <|
  beside_cons (beside_of_aside raisePins_aside) <| beside_cons (beside_of_aside startLinks_aside) <|
  beside_cons (chronicle_beside _ _ _ _) <| beside_cons (chronicle_beside _ _ _ _) <|
  beside_cons (beside_when fun _ => confirmImage_beside) <|
  beside_cons (brings_look fun _ => beside_when fun _ => beside_put (by decide) _) <|
  beside_cons (brings_look fun _ => beside_units _) beside_nil

end Sys2Proof.Machine
end

section
/-! The start of the core (R55 to R62): what local ready shows, and what every start leaves of Ember. -/

namespace Sys2Proof.Machine

/-! ## Local ready (R57) -/

/-- Ember as local ready leaves it. -/
def Ember.atReady (e : Ember) (elapsed : Nat) : Ember :=
  { e with fails := 0, starting := false, watchdog := some elapsed, stuck := false }

theorem readySets_get {micros : Nat} (h : micros < 2 ^ 32) (elapsed : Nat) (s : State) :
    ((Act.all (readySets micros elapsed)).run s).get F.PWR_STATUS_LOCAL_READY = 1 ∧
    ((Act.all (readySets micros elapsed)).run s).get F.PWR_START_TIME_MICROSECONDS = micros ∧
    ((Act.all (readySets micros elapsed)).run s).ember = embActive := by
  simp only [readySets, run_all_cons, run_all_nil, State.ember, run_onEmber_get]
  refine ⟨?_, ?_, ?_⟩
  · simp (disch := decide) [get_put_other, get_put_same]
  · rw [get_put_other _ _ _ _ (by decide) (by decide) (by decide), get_put_same _ _ _ (by decide) (by decide)]
    exact Nat.mod_eq_of_lt h
  · simp (disch := decide) [get_put_same, embActive]

theorem readySets_railOk (micros elapsed : Nat) (s : State) :
    ((Act.all (readySets micros elapsed)).run s).get F.PWR_STATUS_RAIL_OK = s.get F.PWR_STATUS_RAIL_OK := by
  simp only [readySets, run_all_cons, run_all_nil, run_onEmber_get]
  simp (disch := decide) [get_put_other]

theorem readySets_keep (micros elapsed : Nat) (s : State) :
    ((Act.all (readySets micros elapsed)).run s).keep = { s.keep with ember := s.keep.ember.atReady elapsed } := rfl

theorem readySets_rd (micros elapsed : Nat) (s : State) {a : Nat} (ha : causeWord a) (hne : a ≠ F.PWR_STATUS_RAIL_OK.addr) :
    ((Act.all (readySets micros elapsed)).run s).rd a = s.rd a := by
  have hstart : a ≠ F.PWR_START_TIME_MICROSECONDS.addr := by rcases ha with rfl | rfl | rfl | rfl | rfl <;> decide
  have hstate : a ≠ F.EMB_STATUS_STATE.addr := by rcases ha with rfl | rfl | rfl | rfl | rfl <;> decide
  simp only [readySets, run_all_cons, run_all_nil, run_onEmber_rd]
  rw [rd_put_other _ _ _ hstate, rd_put_other _ _ _ hstart, rd_put_other _ F.PWR_STATUS_STATE _ hne,
    rd_put_other _ F.PWR_STATUS_LOCAL_READY _ hne]

/-- The words of the wake causes and of Ember's counters. -/
theorem causeWord_lt {a : Nat} (ha : causeWord a) : a < 0x00020000 ∧ a ≠ F.EMB_STATUS_STATE.addr := by
  rcases ha with rfl | rfl | rfl | rfl | rfl <;> decide

/-- What a start leaves: Ember by `f`, the rails, the wake causes and Ember's counters. -/
structure StartKept (f : Ember → Ember) (s t : State) : Prop where
  ember : t.keep.ember = f s.keep.ember
  railOk : t.get F.PWR_STATUS_RAIL_OK = s.get F.PWR_STATUS_RAIL_OK
  rd : ∀ a, causeWord a → a ≠ F.PWR_STATUS_RAIL_OK.addr → t.rd a = s.rd a

theorem localReady_kept (micros : Nat) (s : State) :
    StartKept (·.atReady s.keep.elapsed) s ((localReady micros).run s) := by
  obtain ⟨hember, helapsed, -, hword⟩ := loadImage_leaves s
  have htail := readyTail_beside (loadImage.run s) ((Act.all (readySets micros (loadImage.run s).keep.elapsed)).run (loadImage.run s))
  rw [← run_localReady] at htail
  refine ⟨?_, ?_, fun a ha hne => ?_⟩
  · rw [htail.emberKept, readySets_keep, hember, helapsed]
  · rw [htail.get (by decide) (by decide), readySets_railOk, State.get, hword _ (.inl rfl)]
    rfl
  · rw [htail.rd a (causeWord_lt ha).1 (causeWord_lt ha).2, readySets_rd _ _ _ ha hne, hword a ha]

theorem localReady_shows {micros : Nat} (h : micros < 2 ^ 32) (s : State) :
    ((localReady micros).run s).up = true ∧ ((localReady micros).run s).get F.PWR_START_TIME_MICROSECONDS = micros ∧
    ((localReady micros).run s).ember = embActive := by
  obtain ⟨hready, hmicros, hactive⟩ := readySets_get h (loadImage.run s).keep.elapsed (loadImage.run s)
  have htail := readyTail_beside (loadImage.run s) ((Act.all (readySets micros (loadImage.run s).keep.elapsed)).run (loadImage.run s))
  rw [← run_localReady] at htail
  refine ⟨is_eq_true.mpr ?_, ?_, htail.ember.trans hactive⟩
  · rw [htail.get (by decide) (by decide), hready]; decide
  · rw [htail.get (by decide) (by decide), hmicros]

/-! ## A start (R55, R57, R59) -/

/-- Ember as a start leaves it. -/
def Ember.afterStart (run : StartRun) (elapsed : Nat) (e : Ember) : Ember :=
  if run.micros ≤ 1000000 then e.atReady elapsed else { e with starting := true }

theorem beginStart_kept (run : StartRun) (s : State) :
    StartKept (·.afterStart run s.keep.elapsed) s ((beginStart run).run s) := by
  by_cases h : run.micros ≤ 1000000
  · simpa only [beginStart, Ember.afterStart, h, if_true] using localReady_kept run.micros s
  · simp only [beginStart, Ember.afterStart, h, if_false]
    exact ⟨rfl, rfl, fun _ _ _ => rfl⟩

/-- A start of a core that is down ends at local ready or stands under way. -/
theorem beginStart_startedBy (run : StartRun) {s : State} (hdown : s.up = false) (hwatch : s.keep.ember.watchdog = none) :
    ((beginStart run).run s).startedBy run s.keep.elapsed = true := by
  have hkept := (beginStart_kept run s).ember
  by_cases h : run.micros ≤ 1000000
  · obtain ⟨hup, hmicros, hactive⟩ := localReady_shows (Nat.lt_of_le_of_lt h (by decide)) s
    have hrun : (beginStart run).run s = (localReady run.micros).run s := by rw [beginStart, if_pos h]
    rw [Ember.afterStart, if_pos h] at hkept
    rw [State.startedBy, if_pos h, hkept, hrun, hup, hmicros, hactive]
    simp [Ember.atReady]
  · have hrun : (beginStart run).run s = (onEmber (fun e => { e with starting := true })).run s := by rw [beginStart, if_neg h]
    rw [Ember.afterStart, if_neg h] at hkept
    have hdown' : ((beginStart run).run s).up = false := by rw [hrun]; exact hdown
    rw [State.startedBy, if_neg h, hkept, hdown']
    simp [hwatch]

end Sys2Proof.Machine
end

section
/-! Closing the store (R304): it writes no flash, and of what outlives a core reset only the drives. -/

namespace Sys2Proof.Machine

/-- A program that writes no flash, and of what outlives a core reset only the drives. -/
abbrev sheltered : Act → Prop := Act.aside (fun _ => True)

@[simp] theorem countBy_sheltered (f : Field) (k : Nat) : sheltered (countBy f k) :=
  Act.aside_mono (fun _ _ => trivial) (Act.aside_of_tally (countBy_tally f k))
@[simp] theorem count_sheltered (f : Field) : sheltered (count f) := countBy_sheltered f 1

/-! ## The drives and the journal -/

@[simp] theorem onBay_sheltered (q : Nat) (f : Bay → Bay) : sheltered (onBay q f) := fun _ _ => rfl
@[simp] theorem onDrive_sheltered (q : Nat) (f : StoreDrive → StoreDrive) : sheltered (onDrive q f) := onBay_sheltered q _
@[simp] theorem driveFlush_sheltered (q : Nat) : sheltered (driveFlush q) := count_sheltered _
@[simp] theorem driveWrite_sheltered (q lba : Nat) (b : List Byte) (n : Nat) : sheltered (driveWrite q lba b n) := by
  simp [driveWrite]
@[simp] theorem journal_sheltered (r : JournalRec) : sheltered (journal r) := fun _ => trivial
@[simp] theorem refreshState_sheltered : sheltered refreshState := by simp [refreshState]
@[simp] theorem refreshJournal_sheltered : sheltered refreshJournal := by simp [refreshJournal]

@[simp] theorem writeBlock_sheltered : sheltered writeBlock := by
  intro s
  dsimp only
  split
  · trivial
  · simp

@[simp] theorem writeBlocks_sheltered : sheltered writeBlocks := by simp [writeBlocks]

/-! ## Members, rebuilds and stripes -/

@[simp] theorem memberState_sheltered (q n : Nat) : sheltered (memberState q n) := by simp [memberState]
@[simp] theorem refreshRebuild_sheltered (q : Nat) : sheltered (refreshRebuild q) := by simp [refreshRebuild]
@[simp] theorem finishRebuild_sheltered (q : Nat) : sheltered (finishRebuild q) := by simp [finishRebuild]
@[simp] theorem refreshRebuilds_sheltered : sheltered refreshRebuilds := by simp [refreshRebuilds]
@[simp] theorem dropLive_sheltered (l : LiveStripe) : sheltered (dropLive l) := by simp [dropLive]
@[simp] theorem freeSpill_sheltered : sheltered freeSpill := by simp [freeSpill]
@[simp] theorem showRing_sheltered (st : Nat) : sheltered (showRing st) := by simp [showRing]
@[simp] theorem leaveOut_sheltered (gone : List Nat) (o : OpenStripe) : sheltered (leaveOut gone o) := trivial
@[simp] theorem writeChunks_sheltered (o : OpenStripe) (ranges : List JournalRec) : sheltered (writeChunks o ranges) := by
  simp [writeChunks]
@[simp] theorem writeStripe_sheltered (o : OpenStripe) : sheltered (writeStripe o) := by simp [writeStripe]

@[simp] theorem writeClosing_sheltered (n : Nat) : sheltered (writeClosing n) := by
  induction n with
  | zero => trivial
  | succ n ih =>
    intro s
    dsimp only
    split
    · simp [ih]
    · trivial

@[simp] theorem closeStripe_sheltered (o : OpenStripe) : sheltered (closeStripe o) := by simp [closeStripe]

@[simp] theorem blockDurable_sheltered : sheltered blockDurable := by
  intro s
  dsimp only
  split
  · trivial
  · simp

@[simp] theorem drainJournal_sheltered : sheltered drainJournal := by simp [drainJournal]
@[simp] theorem endEngine_sheltered (e n : Nat) : sheltered (endEngine e n) := by simp [endEngine]

theorem closeStore_sheltered : sheltered closeStore := by simp [closeStore]

end Sys2Proof.Machine
end

section
/-! The resets of the core (R60, R62, R63, R101): the row that restarts it, and what each of them leaves of Ember. -/

namespace Sys2Proof.Machine

/-! ## Whether the core may start -/

section
variable {s t : State}

theorem coreMayStart_congr (hember : t.keep.ember = s.keep.ember) (hrail : t.get F.PWR_STATUS_RAIL_OK = s.get F.PWR_STATUS_RAIL_OK)
    (hstate : t.ember = s.ember) : t.coreMayStart = s.coreMayStart := by
  simp only [State.coreMayStart, State.mainsValid, hember, hrail, hstate]

theorem Tallied.coreMayStart {P : Nat → Prop} (h : Tallied P s t) (hrail : ¬ P F.PWR_STATUS_RAIL_OK.addr)
    (hstate : ¬ P F.EMB_STATUS_STATE.addr) : t.coreMayStart = s.coreMayStart :=
  coreMayStart_congr (congrArg Keep.ember h.keep) (h.get hrail) (h.get hstate)

theorem Tallied.up {P : Nat → Prop} (h : Tallied P s t) (hready : ¬ P F.PWR_STATUS_LOCAL_READY.addr) : t.up = s.up := h.is hready

end

/-! ## A restart (R60) -/

/-- From `s` to `t` the core was reset for a reason of R60, and started again where it may; the wake causes and Ember's
counters stay. -/
structure Restarts (kind : Nat) (run : StartRun) (s t : State) : Prop where
  started : if s.coreMayStart then t.startedBy run s.keep.elapsed = true else t.up = false
  kind : t.keep.ember.resetKind = kind
  rd : ∀ a, causeWord a → a ≠ F.PWR_STATUS_RAIL_OK.addr → t.rd a = s.rd a

theorem causeWord_emberAddr {a : Nat} (ha : causeWord a) (hne : a ≠ F.PWR_STATUS_RAIL_OK.addr) : emberAddr a = true := by
  rcases ha with rfl | rfl | rfl | rfl | rfl
  · exact absurd rfl hne
  all_goals decide

theorem afterStart_resetKind (run : StartRun) (at_ : Nat) (e : Ember) : (e.afterStart run at_).resetKind = e.resetKind := by
  unfold Ember.afterStart
  split <;> rfl

theorem resetInto_restarts (kind sender : Nat) (run : StartRun) (s : State) :
    Restarts kind run s ((resetInto kind sender run).run s) := by
  have hmay : ((onEmber fun e => { e with resetKind := kind, resetSender := sender }).run (coreReset.run s)).coreMayStart =
      s.coreMayStart := by
    rw [← coreReset_coreMayStart s]
    rfl
  have hword : ∀ a, causeWord a → a ≠ F.PWR_STATUS_RAIL_OK.addr → (coreReset.run s).rd a = s.rd a := fun a ha hne =>
    coreReset_rd_ember s (causeWord_emberAddr ha hne)
  simp only [resetInto, run_all_cons, run_all_nil, run_look, hmay]
  cases hs : s.coreMayStart
  · exact ⟨by rw [hs]; exact coreReset_up s, rfl, hword⟩
  · have hkept := beginStart_kept run ((onEmber fun e => { e with resetKind := kind, resetSender := sender }).run (coreReset.run s))
    refine ⟨?_, ?_, fun a ha hne => (hkept.rd a ha hne).trans (hword a ha hne)⟩
    · rw [hs, if_pos rfl, run_when_true]
      have hstart := beginStart_startedBy run
        (s := (onEmber fun e => { e with resetKind := kind, resetSender := sender }).run (coreReset.run s)) (coreReset_up s)
        (by rw [run_onEmber_keep, coreReset_keep]; rfl)
      rwa [run_onEmber_keep, coreReset_keep] at hstart
    · rw [run_when_true, hkept.ember, afterStart_resetKind, run_onEmber_keep]

/-- What tallies in other registers than the power block's comes before a restart unseen. -/
theorem Restarts.of_tallied {P : Nat → Prop} {kind : Nat} {run : StartRun} {s u t : State} (h : Tallied P s u)
    (hP : ∀ a, P a → ¬ causeWord a ∧ a ≠ F.EMB_STATUS_STATE.addr) (r : Restarts kind run u t) : Restarts kind run s t := by
  obtain ⟨hstarted, hkind, hrd⟩ := r
  rw [h.coreMayStart (fun hp => (hP _ hp).1 (.inl rfl)) (fun hp => (hP _ hp).2 rfl), h.keep] at hstarted
  exact ⟨hstarted, hkind, fun a ha hne => (hrd a ha hne).trans (h.rd a fun hp => (hP a hp).1 ha)⟩

theorem ofWriteCount_le {a : Nat} (h : ofWriteCount a) : 0x00020000 ≤ a := by
  simp only [ofWriteCount, inNotify, F.IMG_VOLATILE_WRITES_COUNT] at h
  omega

theorem not_ofWriteCount {a : Nat} (h : a < 0x00020000) : ¬ ofWriteCount a := fun hc => absurd (ofWriteCount_le hc) (Nat.not_le.mpr h)

theorem ofWriteCount_spares {a : Nat} (h : ofWriteCount a) : ¬ causeWord a ∧ a ≠ F.EMB_STATUS_STATE.addr := by
  have hle := ofWriteCount_le h
  exact ⟨not_causeWord (by omega), by simp only [F.EMB_STATUS_STATE]; omega⟩

/-! ## PWR_RESET (R60) -/

theorem resetWrite_key {kind : Nat} {v : Word} (hkey : getBits v 31 16 = 0xA5C3) (hkind : getBits v 1 0 = kind) :
    resetWrite 0 kind v = true := by
  simp [resetWrite, hkey, hkind]

/-- A write that does not reset: the device is not up, its writer is not T0, or its key or kind is another. -/
theorem resetWrite_refused {w kind : Nat} {v : Word} {up : Bool}
    (h : up = false ∨ w ≠ 0 ∨ getBits v 31 16 ≠ 0xA5C3 ∨ getBits v 1 0 ≠ kind) : (up && resetWrite w kind v) = false := by
  rcases h with h | h | h | h <;> simp [resetWrite, h]

theorem run_deviceReset {u : State} {v : Word} (run : StartRun) (hup : u.up = true) (hkey : getBits v 31 16 = 0xA5C3)
    (hkind : getBits v 1 0 = 1) : (deviceResetAct 0 v run).run u = (resetInto 3 0 run).run u := by
  rw [deviceResetAct, run_look, hup, resetWrite_key hkey hkind]
  rfl

theorem run_deviceReset_refused {u : State} {w : Nat} {v : Word} (run : StartRun)
    (h : u.up = false ∨ w ≠ 0 ∨ getBits v 31 16 ≠ 0xA5C3 ∨ getBits v 1 0 ≠ 1) : (deviceResetAct w v run).run u = u := by
  rw [deviceResetAct, run_look, resetWrite_refused h]
  rfl

theorem run_fullReset_refused {u : State} {w : Nat} {v : Word} (run : StartRun)
    (h : u.up = false ∨ w ≠ 0 ∨ getBits v 31 16 ≠ 0xA5C3 ∨ getBits v 1 0 ≠ 2) : (fullResetAct w v run).run u = u := by
  rw [fullResetAct, run_look, resetWrite_refused h]
  rfl

/-- Everything at its reset values but RAIL_OK, and Ember at its cold values: what a full reset starts from. -/
def State.fullyReset (s : State) (l : List Emission) : State :=
  (put F.PWR_STATUS_RAIL_OK (s.get F.PWR_STATUS_RAIL_OK)).run { s with
    regs := [], force := [], units := {}, out := s.out ++ l
    keep := { s.keep with ember :=
      ({ vaon := s.keep.ember.vaon, rstLow := s.keep.ember.rstLow, resetKind := 4 } : Ember).drives .high } }

theorem run_fullReset {u : State} {v : Word} (run : StartRun) (hup : u.up = true) (hkey : getBits v 31 16 = 0xA5C3)
    (hkind : getBits v 1 0 = 2) : ∃ l, (fullResetAct 0 v run).run u =
      (Act.when (u.fullyReset l).coreMayStart (beginStart run)).run (u.fullyReset l) := by
  obtain ⟨l, hl⟩ := run_releasePins u
  refine ⟨l, ?_⟩
  rw [fullResetAct, run_look, hup, resetWrite_key hkey hkind, Bool.and_self, run_when_true]
  simp only [run_all_cons, run_all_nil, hl]
  rfl

section
variable (s : State) (l : List Emission)

theorem fullyReset_keep : (s.fullyReset l).keep = { s.keep with ember :=
    ({ vaon := s.keep.ember.vaon, rstLow := s.keep.ember.rstLow, resetKind := 4 } : Ember).drives .high } := rfl

theorem fullyReset_rd {a : Nat} (h : a ≠ F.PWR_STATUS_RAIL_OK.addr) : (s.fullyReset l).rd a = resetWord a := rd_put_other _ _ _ h

theorem fullyReset_get {f : Field} (h : f.addr ≠ F.PWR_STATUS_RAIL_OK.addr) :
    (s.fullyReset l).get f = getBits (resetWord f.addr) f.msb f.lsb := by
  rw [State.get, fullyReset_rd s l h]

theorem fullyReset_railOk : (s.fullyReset l).get F.PWR_STATUS_RAIL_OK = s.get F.PWR_STATUS_RAIL_OK := by
  rw [State.fullyReset, railOk_put (railOk_lt s)]

theorem fullyReset_coreMayStart : (s.fullyReset l).coreMayStart =
    (s.keep.ember.vaon && !s.keep.ember.rstLow && s.mainsValid) := by
  have hstate : (s.fullyReset l).ember = embActive := by
    rw [State.ember, fullyReset_get s l (by decide)]
    decide +kernel
  simp [State.coreMayStart, State.mainsValid, hstate, fullyReset_railOk, fullyReset_keep, Ember.drives]

theorem fullyReset_up : (s.fullyReset l).up = false := by
  refine is_eq_false.mpr ?_
  rw [State.fullyReset, get_put_other _ _ _ _ (by decide) (by decide) (by decide), State.get, State.rd, Sparse.get]
  decide +kernel

end

end Sys2Proof.Machine
end

section
/-! The entry into dormancy (R66, R563): the store closes, the entry is written, and Ember lets PWR_ON fall. -/

namespace Sys2Proof.Machine

/-! ## An entry of the chronicle (R541, R542) -/

/-- What outlives a core reset, with an entry written. -/
def Keep.entered (k : Keep) (e : ChronEntry) : Keep :=
  { k with
    chronSeq := k.chronSeq + 1, chron := ({ e with seq := k.chronSeq + 1 } :: k.chron).take 4096
    chronCredit := min (1024 * chronCost) (k.chronCredit + (k.elapsed - k.chronAt)) - chronCost
    chronAt := k.elapsed }

theorem run_chronicle_unclassed (kind : Nat) (tenant : Option Nat) (info : List Byte) (s : State) :
    (chronicle kind tenant 0 info).run s = (put F.SUP_CHRONICLE_NEWEST_SEQ (s.keep.chronSeq + 1)).run
      { s with keep := s.keep.entered (s.chronEntry kind tenant 0 info) } := rfl

/-! ## Into dormancy (R66) -/

theorem applySlots_sheltered : sheltered applySlots := by simp [applySlots, applySlot]

/-- What the entry into dormancy leaves: Ember enters, PWR_ON falls, and of the core only the flash and the chronicle
stand, with an entry of KIND 0x02. -/
structure Sleeps (mode : Nat) (s t : State) : Prop where
  ember : t.ember = embEntering
  up : t.up = false
  pwrOn : t.keep.ember.pwrOn = if s.keep.ember.vaon then Drive.low else Drive.hiZ
  listening : t.keep.ember.listening = decide (mode = 1)
  lowAt : t.keep.ember.lowAt = s.keep.elapsed
  units : t.units = {}
  chronSeq : t.keep.chronSeq = s.keep.chronSeq + 1
  entry : t.keep.chron.head?.map (fun e => (e.kind, e.seq)) = some (0x02, s.keep.chronSeq + 1)
  flash : t.flash = s.flash

/-- The first steps: no transmission, STATE, and the store closes. -/
def fallsSilent : Act := Act.all [.units (fun u => { u with silent := true }), put F.PWR_STATUS_STATE 2, closeStore]

theorem fallsSilent_sheltered : sheltered fallsSilent := ⟨trivial, (put_aside _ _).mpr trivial, closeStore_sheltered, trivial⟩

/-- The last steps: the core is reset and Ember lets PWR_ON fall. -/
def powersOff (mode at_ : Nat) : Act := Act.all [coreReset, put F.EMB_STATUS_STATE embEntering,
  onEmber (fun e => { e.drives .low with listening := mode = 1, lowAt := at_, stuck := false, wakeWait := false })]

theorem run_enterDormancy (mode : Nat) (s : State) : (enterDormancy mode).run s = (powersOff mode s.keep.elapsed).run
    (applySlots.run ((chronicle 0x02 none 0 []).run (fallsSilent.run s))) := by
  simp only [enterDormancy, fallsSilent, powersOff, run_look, run_all_cons, run_all_nil]

theorem enterDormancy_sleeps (mode : Nat) (s : State) : Sleeps mode s ((enterDormancy mode).run s) := by
  have hsilent := run_aside fallsSilent_sheltered s
  have hslots := run_aside applySlots_sheltered ((chronicle 0x02 none 0 []).run (fallsSilent.run s))
  rw [run_enterDormancy]
  generalize fallsSilent.run s = u at *
  rw [run_chronicle_unclassed] at *
  generalize applySlots.run _ = v at *
  have hkeep : v.keep.ember = s.keep.ember ∧ v.keep.chronSeq = s.keep.chronSeq + 1 ∧
      v.keep.chron.head?.map (fun e => (e.kind, e.seq)) = some (0x02, s.keep.chronSeq + 1) := by
    refine ⟨hslots.ember.trans hsilent.ember, ?_, ?_⟩
    · rw [hslots.chronSeq, ← hsilent.chronSeq]; rfl
    · rw [hslots.chron, ← hsilent.chronSeq]; rfl
  obtain ⟨hember, hseq, hhead⟩ := hkeep
  simp only [powersOff, run_all_cons, run_all_nil]
  constructor
  case ember =>
    rw [State.ember, run_onEmber_get, get_put_same _ _ _ (by decide) (by decide)]
    decide
  case up =>
    refine is_eq_false.mpr ?_
    rw [run_onEmber_get, get_put_other _ _ _ _ (by decide) (by decide) (by decide), coreReset_localReady]
  case pwrOn => rw [← hember]; simp [Ember.drives, Ember.coreHeld]
  case listening => simp
  case lowAt => simp
  case units => simp
  case chronSeq => simpa using hseq
  case entry => simpa using hhead
  case flash => simpa using hslots.flash.trans hsilent.flash

end Sys2Proof.Machine
end

section
/-! Device, full and watchdog resets, the trial that runs out, and dormancy (R60 to R63, R66, R101, R563): the statement. -/

namespace Sys2Proof.Machine

/-! ## The watchdog and the trial image (R63, R101) -/

theorem run_watchdogReset {s : State} {at_ : Nat} (run : StartRun) (hwatch : s.keep.ember.watchdog = some at_)
    (htime : at_ + 1900 * tickMs ≤ s.keep.elapsed) :
    (watchdogResetAct run).run s = (resetInto 5 0 run).run ((event F.EMB_WAKE_CAUSE_WATCHDOG).run s) := by
  rw [watchdogResetAct, run_look, hwatch]
  simp only [ge_iff_le, htime, decide_true, run_when_true, run_seq]

theorem run_watchdogReset_early {s : State} (run : StartRun)
    (h : ∀ at_ ∈ s.keep.ember.watchdog, s.keep.elapsed < at_ + 1900 * tickMs) : (watchdogResetAct run).run s = s := by
  rw [watchdogResetAct, run_look]
  cases hwatch : s.keep.ember.watchdog with
  | none => rfl
  | some at_ => simp only [ge_iff_le, Nat.not_le.mpr (h at_ hwatch), decide_false, run_when_false]

/-- The event that precedes a watchdog's restart is all that changes in the wake causes. -/
theorem Restarts.of_event {kind : Nat} {run : StartRun} {s t : State} {f : Field}
    (hf : f.addr ≠ F.PWR_STATUS_RAIL_OK.addr ∧ f.addr ≠ F.EMB_STATUS_STATE.addr) (r : Restarts kind run ((event f).run s) t) :
    if s.coreMayStart then t.startedBy run s.keep.elapsed = true else t.up = false := by
  have h := event_tallied f s
  rw [← h.coreMayStart (Ne.symm hf.1) (Ne.symm hf.2), ← h.keep]
  exact r.started

theorem not_confirmPending {s : State} (h : s.pending = []) : s.confirmPending = false := by
  simp [State.confirmPending, h]

theorem confirmPending_of_mem {s : State} (h : .imgConfirm 0 0xA5C30001 ∈ s.pending) (hstate : s.get F.IMG_STATUS_STATE = 2) :
    s.confirmPending = true := by
  rw [State.confirmPending, Bool.or_eq_true]
  refine .inl (List.any_eq_true.mpr ⟨_, h, ?_⟩)
  simp only [State.confirms, hstate]
  decide

theorem run_confirmWindowExpiry {s : State} {d : Nat} (run : StartRun) (hdeadline : s.units.imgDeadline = some d)
    (hstate : s.get F.IMG_STATUS_STATE = 2) (htime : d ≤ s.keep.elapsed) (hpending : s.pending = []) :
    (confirmWindowExpiryAct run).run s = (resetInto 3 0 run).run
      ((chronicle 0x06 none 0 (be 1 0x10 ++ be 8 (s.get F.IMG_GENERATION_GENERATION))).run s) := by
  rw [confirmWindowExpiryAct, run_look, hdeadline]
  simp only [hstate, ge_iff_le, htime, not_confirmPending hpending, decide_true, Bool.not_false, Bool.and_self, run_when_true,
    run_seq, deviceReset]

theorem run_confirmWindowExpiry_not {s : State} (run : StartRun) (h : (∀ d ∈ s.units.imgDeadline, s.keep.elapsed < d) ∨
    s.get F.IMG_STATUS_STATE ≠ 2 ∨ ∃ c ∈ s.pending, c = .imgConfirm 0 0xA5C30001) : (confirmWindowExpiryAct run).run s = s := by
  rw [confirmWindowExpiryAct, run_look]
  cases hdeadline : s.units.imgDeadline with
  | none => rfl
  | some d =>
    have hcond : (decide (s.get F.IMG_STATUS_STATE = 2) && decide (d ≤ s.keep.elapsed) && !s.confirmPending) = false := by
      rcases h with h | h | ⟨c, hmem, rfl⟩
      · simp [Nat.not_le.mpr (h d hdeadline)]
      · simp [h]
      · by_cases hstate : s.get F.IMG_STATUS_STATE = 2
        · simp [confirmPending_of_mem hmem hstate]
        · simp [hstate]
    simp only [ge_iff_le, hcond, run_when_false]

/-- An entry of the chronicle comes before a restart unseen. -/
theorem Beside.started {kind : Nat} {run : StartRun} {s u t : State} (h : Beside s u) (r : Restarts kind run u t) :
    if s.coreMayStart then t.startedBy run s.keep.elapsed = true else t.up = false := by
  rw [← coreMayStart_congr h.emberKept (h.get (by decide) (by decide)) h.ember, ← h.elapsed]
  exact r.started

/-! ## A write of PWR_CTRL (R66) -/

section
variable {s u : State} {w : Nat} {v : Word}

theorem run_dormancyRequest_refused (h : u.up = false ∨ u.hasRight w F.PWR_CTRL_START.addr = false) :
    (dormancyRequestAct w v).run u = u := by
  have hcond : (u.up && u.hasRight w F.PWR_CTRL_START.addr) = false := by rcases h with h | h <;> simp [h]
  rw [dormancyRequestAct, run_look, hcond, run_when_false]

variable (hup : u.up = true) (hright : u.hasRight w F.PWR_CTRL_START.addr = true)
include hup hright

theorem run_dormancyRequest_mode (hstart : getBits v 0 0 = 0) :
    (dormancyRequestAct w v).run u = (put F.PWR_CTRL_MODE (getBits v 4 4)).run u := by
  rw [dormancyRequestAct, run_look, hup, hright, Bool.and_self, run_when_true, hstart]
  rfl

theorem run_dormancyRequest_other (hw : w ≠ 0) (hstart : getBits v 0 0 = 1) :
    (dormancyRequestAct w v).run u = (put F.PWR_CMD_STATUS_RESULT 3).run ((put F.PWR_CTRL_MODE (getBits v 4 4)).run u) := by
  rw [dormancyRequestAct, run_look, hup, hright, Bool.and_self, run_when_true, hstart]
  simp only [hw, ne_eq, not_false_eq_true, if_true, decide_true, run_all_cons, run_all_nil, run_when_true]

end

theorem hasRight_zero (s : State) (a : Nat) : s.hasRight 0 a = true := by simp [State.hasRight]

section
variable {s u : State} {v : Word} (hup : u.up = true) (hstart : getBits v 0 0 = 1)
include hup hstart

theorem run_dormancyRequest_wrongKey (hkey : getBits v 31 16 ≠ 0xA5C3) : (dormancyRequestAct 0 v).run u =
    (put F.PWR_CMD_STATUS_RESULT 2).run ((put F.PWR_CTRL_MODE (getBits v 4 4)).run u) := by
  rw [dormancyRequestAct, run_look, hup, hasRight_zero, Bool.and_self, run_when_true, hstart]
  simp only [ne_eq, not_true_eq_false, if_false, hkey, not_false_eq_true, if_true, decide_true, run_all_cons, run_all_nil, run_when_true]

theorem run_dormancyRequest_accepted (hkey : getBits v 31 16 = 0xA5C3) : (dormancyRequestAct 0 v).run u =
    (enterDormancy (getBits v 4 4)).run ((put F.PWR_CTRL_MODE (getBits v 4 4)).run u) := by
  rw [dormancyRequestAct, run_look, hup, hasRight_zero, Bool.and_self, run_when_true, hstart]
  simp only [ne_eq, not_true_eq_false, if_false, hkey, decide_true, run_all_cons, run_all_nil, run_when_true]

end

/-- RESULT and MODE of a request that only answers. -/
theorem dormancyRequest_answer {s u : State} (h : Tallied ofWriteCount s u) {mode result : Nat} (hmode : mode < 2) (hresult : result < 4) :
    ∃ t, (put F.PWR_CMD_STATUS_RESULT result).run ((put F.PWR_CTRL_MODE mode).run u) = t ∧
      t.get F.PWR_CMD_STATUS_RESULT = result ∧ t.get F.PWR_CTRL_MODE = mode ∧ t.keep = s.keep ∧
      (∀ a, ¬ (a = F.PWR_CTRL_MODE.addr ∨ a = F.PWR_CMD_STATUS_RESULT.addr ∨ a = F.IMG_VOLATILE_WRITES_COUNT.addr ∨ 0x08000000 ≤ a) →
        t.rd a = s.rd a) ∧ t.flash = s.flash := by
  refine ⟨_, rfl, ?_, ?_, h.keep, fun a ha => ?_, h.flash⟩
  · rw [get_put_same _ _ _ (by decide) (by decide)]
    exact Nat.mod_eq_of_lt (Nat.lt_of_lt_of_le hresult (by decide))
  · rw [get_put_other _ _ _ _ (by decide) (by decide) (by decide), get_put_same _ _ _ (by decide) (by decide)]
    exact Nat.mod_eq_of_lt (Nat.lt_of_lt_of_le hmode (by decide))
  · obtain ⟨hm, hr, hc, hq⟩ : _ ∧ _ ∧ _ ∧ _ := by simpa only [not_or] using ha
    rw [rd_put_other _ _ _ hr, rd_put_other _ _ _ hm]
    exact h.rd a (by rintro (e | e); exacts [hc e, hq (Nat.le_trans (by decide) e.1)])

/-! ## A spare (R563) -/

section
variable {s : State} (hup : s.up = true) (hkind : s.get F.SUP_ROLE_STATUS_KIND = 2)
include hup hkind

theorem run_spareDormancy (hwait : s.get F.SUP_ROLE_STATUS_ASSIGN_WAIT = 0) (htime : s.units.sup.readyAt + tickS ≤ s.keep.elapsed) :
    spareDormancyTimerAct.run s = (enterDormancy (s.get F.PWR_CTRL_MODE)).run s := by
  have hw : s.is F.SUP_ROLE_STATUS_ASSIGN_WAIT = false := is_eq_false.mpr hwait
  rw [spareDormancyTimerAct, run_look]
  simp only [hup, hkind, hw, ge_iff_le, htime, ne_eq, not_true_eq_false, decide_false, Bool.not_true, Bool.or_self, Bool.false_eq_true, if_false,
    decide_true, Bool.or_true, run_when_true]

theorem run_spareDormancy_waiting (hwait : s.get F.SUP_ROLE_STATUS_ASSIGN_WAIT = 1)
    (htime : s.units.sup.readyAt + 10 * tickS ≤ s.keep.elapsed) (hpending : s.pending = []) :
    spareDormancyTimerAct.run s = (enterDormancy (s.get F.PWR_CTRL_MODE)).run s := by
  have hw : s.is F.SUP_ROLE_STATUS_ASSIGN_WAIT = true := is_eq_true.mpr (by omega)
  rw [spareDormancyTimerAct, run_look]
  simp only [hup, hkind, hw, ge_iff_le, htime, coming_nil s hpending, List.any_nil, ne_eq, not_true_eq_false, decide_false, Bool.not_true,
    Bool.not_false, Bool.or_self, Bool.and_self, Bool.false_eq_true, if_false, if_true, decide_true, run_when_true]

end

theorem run_spareDormancy_not {s : State} (h : s.up = false ∨ s.get F.SUP_ROLE_STATUS_KIND ≠ 2 ∨
    (s.get F.SUP_ROLE_STATUS_ASSIGN_WAIT = 1 ∧ s.keep.elapsed < s.units.sup.readyAt + 10 * tickS)) :
    spareDormancyTimerAct.run s = s := by
  rw [spareDormancyTimerAct, run_look]
  rcases h with h | h | ⟨hwait, htime⟩
  · simp only [h, Bool.not_false, Bool.or_true, if_true, run_skip]
  · simp only [h, ne_eq, not_false_eq_true, decide_true, Bool.true_or, if_true, run_skip]
  · have hw : s.is F.SUP_ROLE_STATUS_ASSIGN_WAIT = true := is_eq_true.mpr (by omega)
    simp only [hw, if_true, ge_iff_le, Nat.not_le.mpr htime, decide_false, Bool.false_and]
    split <;> rfl

/-! ## The statement -/

/-- A write that is refused changes its count alone. -/
theorem refused_frame {s u : State} (h : Tallied (fun a => a = F.IMG_VOLATILE_WRITES_COUNT.addr) s u) (hunits : u.units = s.units) :
    u.units = s.units ∧ u.keep = s.keep ∧ u.force = s.force ∧ u.out = s.out ∧
      (∀ a, ¬ (a = F.IMG_VOLATILE_WRITES_COUNT.addr) → u.rd a = s.rd a) ∧ u.flash = s.flash :=
  ⟨hunits, h.keep, h.force, h.out, h.rd, h.flash⟩

/-- A full reset starts the core where the supplies are valid, and shows COLD with the counters at 0. -/
theorem fullReset_shows {u : State} {v : Word} (run : StartRun) (hup : u.up = true) (hkey : getBits v 31 16 = 0xA5C3)
    (hkind : getBits v 1 0 = 2) : ∃ t, (fullResetAct 0 v run).run u = t ∧
      (if u.keep.ember.vaon && !u.keep.ember.rstLow && u.mainsValid then t.startedBy run u.keep.elapsed = true else t.up = false) ∧
      t.keep.ember.resetKind = 4 ∧ t.get F.EMB_WAKE_CAUSE_COLD = 1 ∧ t.get F.EMB_WAKE_FRAMES_COUNT = 0 ∧
      t.get F.EMB_BROWNOUT_CNT_COUNT = 0 := by
  obtain ⟨l, hrun⟩ := run_fullReset run hup hkey hkind
  refine ⟨_, hrun, ?_⟩
  rw [← fullyReset_coreMayStart u l]
  have hcold : (u.fullyReset l).get F.EMB_WAKE_CAUSE_COLD = 1 := by
    rw [fullyReset_get u l (by decide)]; decide +kernel
  have hframes : (u.fullyReset l).get F.EMB_WAKE_FRAMES_COUNT = 0 := by
    rw [fullyReset_get u l (by decide)]; decide +kernel
  have hbrown : (u.fullyReset l).get F.EMB_BROWNOUT_CNT_COUNT = 0 := by
    rw [fullyReset_get u l (by decide)]; decide +kernel
  cases hmay : (u.fullyReset l).coreMayStart
  · exact ⟨fullyReset_up u l, rfl, hcold, hframes, hbrown⟩
  · have hkept := beginStart_kept run (u.fullyReset l)
    have hget : ∀ f : Field, causeWord f.addr → f.addr ≠ F.PWR_STATUS_RAIL_OK.addr →
        ((beginStart run).run (u.fullyReset l)).get f = (u.fullyReset l).get f := fun f hf hne => by
      rw [State.get, hkept.rd _ hf hne]; rfl
    rw [run_when_true]
    refine ⟨beginStart_startedBy run (fullyReset_up u l) rfl, ?_, ?_, ?_, ?_⟩
    · rw [hkept.ember, afterStart_resetKind, fullyReset_keep]; rfl
    · rw [hget _ (.inr (.inl rfl)) (by decide), hcold]
    · rw [hget _ (.inr (.inr (.inl rfl))) (by decide), hframes]
    · rw [hget _ (.inr (.inr (.inr (.inr rfl)))) (by decide), hbrown]

/-- Settles O4: each reset by the restart it runs into, and dormancy by what its entry leaves. -/
theorem deviceFullAndWatchdogResets : Obligations.DeviceFullAndWatchdogResets := by
  unfold Obligations.DeviceFullAndWatchdogResets
  refine ⟨fun s v run hup hkey hkind => ?device, fun s w v run h hcount => ?deviceNot, fun s v run hup hkey hkind => ?full,
    fun s w v run h hcount => ?fullNot, fun s run at_ hwatch htime => ?watchdog,
    fun s run h => congrArg Host.Outcome.next (run_watchdogReset_early run h), fun s run d hdeadline hstate htime hpending => ?expiry,
    fun s run h => congrArg Host.Outcome.next (run_confirmWindowExpiry_not run h), fun s v hup hstart hkey hcount => ?dormancy,
    fun s v hup hstart hkey => ?wrongKey, fun s w v hup hw hright hstart => ?otherWriter, fun s w v hup hright hstart => ?modeOnly,
    fun s w v h hcount => ?requestNot, fun s hup hkind hwait htime => ?spare, fun s hup hkind hwait htime hpending => ?spareWaits,
    fun s h => congrArg Host.Outcome.next (run_spareDormancy_not h)⟩
  case device =>
    obtain ⟨u, hu, hrun⟩ := run_adjusts 0 F.PWR_RESET_KIND (deviceResetAct 0 v run) s
    have hr : Restarts 3 run s ((resetInto 3 0 run).run u) :=
      .of_tallied hu (fun _ => ofWriteCount_spares) (resetInto_restarts 3 0 run u)
    rw [run_deviceReset run ((hu.up (not_ofWriteCount (by decide))).trans hup) hkey hkind] at hrun
    exact ⟨_, congrArg Host.Outcome.next hrun, hr.started, hr.kind, hr.rd _ (.inr (.inl rfl)) (by decide),
      hr.rd _ (.inr (.inr (.inl rfl))) (by decide), hr.rd _ (.inr (.inr (.inr (.inl rfl)))) (by decide),
      hr.rd _ (.inr (.inr (.inr (.inr rfl)))) (by decide)⟩
  case deviceNot =>
    obtain ⟨u, hu, hunits, hrun⟩ := run_adjusts_below_half w F.PWR_RESET_KIND (deviceResetAct w v run) hcount
    rw [run_deviceReset_refused run (by rwa [hu.up (by decide)])] at hrun
    exact ⟨u, congrArg Host.Outcome.next hrun, refused_frame hu hunits⟩
  case full =>
    obtain ⟨u, hu, hrun⟩ := run_adjusts 0 F.PWR_RESET_KIND (fullResetAct 0 v run) s
    obtain ⟨t, ht, hshows⟩ := fullReset_shows run ((hu.up (not_ofWriteCount (by decide))).trans hup) hkey hkind
    have hmains : u.mainsValid = s.mainsValid := by rw [State.mainsValid, hu.get (not_ofWriteCount (by decide))]; rfl
    rw [hu.keep, hmains] at hshows
    exact ⟨t, congrArg Host.Outcome.next (hrun.trans ht), hshows⟩
  case fullNot =>
    obtain ⟨u, hu, hunits, hrun⟩ := run_adjusts_below_half w F.PWR_RESET_KIND (fullResetAct w v run) hcount
    rw [run_fullReset_refused run (by rwa [hu.up (by decide)])] at hrun
    exact ⟨u, congrArg Host.Outcome.next hrun, refused_frame hu hunits⟩
  case watchdog =>
    have hr := resetInto_restarts 5 0 run ((event F.EMB_WAKE_CAUSE_WATCHDOG).run s)
    refine ⟨_, congrArg Host.Outcome.next (run_watchdogReset run hwatch htime), hr.of_event (by decide), hr.kind, ?_, ?_⟩
    · rw [State.get, hr.rd F.EMB_WAKE_CAUSE_WATCHDOG.addr (.inr (.inl rfl)) (by decide)]
      exact get_event_bit rfl (by decide)
    · rw [hr.rd _ (.inr (.inr (.inr (.inr rfl)))) (by decide)]
      exact rd_event_other (by decide)
  case expiry =>
    have hr := resetInto_restarts 3 0 run ((chronicle 0x06 none 0 (be 1 0x10 ++ be 8 (s.get F.IMG_GENERATION_GENERATION))).run s)
    exact ⟨_, congrArg Host.Outcome.next (run_confirmWindowExpiry run hdeadline hstate htime hpending),
      (chronicle_beside _ _ _ _ s).started hr, hr.kind⟩
  case dormancy =>
    obtain ⟨u, hu, hrun⟩ := run_adjusts 0 F.PWR_CTRL_MODE (dormancyRequestAct 0 v) s
    rw [run_dormancyRequest_accepted ((hu.up (not_ofWriteCount (by decide))).trans hup) hstart hkey] at hrun
    have hsleeps := enterDormancy_sleeps (getBits v 4 4) ((put F.PWR_CTRL_MODE (getBits v 4 4)).run u)
    have hkeep : ((put F.PWR_CTRL_MODE (getBits v 4 4)).run u).keep = s.keep := hu.keep
    obtain ⟨hember, hdown, hpwr, hlistening, hlow, hunits, hseq, hentry, hflash⟩ := hsleeps
    rw [hkeep] at hpwr hlow hseq hentry
    exact ⟨_, congrArg Host.Outcome.next hrun, hember, hdown, hpwr, hlistening, hlow, hunits, hseq, hentry, hflash.trans hu.flash⟩
  case wrongKey =>
    obtain ⟨u, hu, hrun⟩ := run_adjusts 0 F.PWR_CTRL_MODE (dormancyRequestAct 0 v) s
    rw [run_dormancyRequest_wrongKey ((hu.up (not_ofWriteCount (by decide))).trans hup) hstart hkey] at hrun
    obtain ⟨t, ht, hanswer⟩ := dormancyRequest_answer hu (getBits_lt v 4 4) (result := 2) (by decide)
    exact ⟨t, congrArg Host.Outcome.next (hrun.trans ht), hanswer⟩
  case otherWriter =>
    obtain ⟨u, hu, hrun⟩ := run_adjusts w F.PWR_CTRL_MODE (dormancyRequestAct w v) s
    rw [run_dormancyRequest_other ((hu.up (not_ofWriteCount (by decide))).trans hup) ((hu.hasRight w _).trans hright) hw hstart] at hrun
    obtain ⟨t, ht, hanswer⟩ := dormancyRequest_answer hu (getBits_lt v 4 4) (result := 3) (by decide)
    exact ⟨t, congrArg Host.Outcome.next (hrun.trans ht), hanswer⟩
  case modeOnly =>
    obtain ⟨u, hu, hrun⟩ := run_adjusts w F.PWR_CTRL_MODE (dormancyRequestAct w v) s
    rw [run_dormancyRequest_mode ((hu.up (not_ofWriteCount (by decide))).trans hup) ((hu.hasRight w _).trans hright) hstart] at hrun
    refine ⟨_, congrArg Host.Outcome.next hrun, ?_, hu.keep, fun a ha => ?_, hu.flash⟩
    · rw [get_put_same _ _ _ (by decide) (by decide)]
      exact Nat.mod_eq_of_lt (getBits_lt v 4 4)
    · obtain ⟨hm, hc, hq⟩ : _ ∧ _ ∧ _ := by simpa only [not_or] using ha
      rw [rd_put_other _ _ _ hm]
      exact hu.rd a (by rintro (e | e); exacts [hc e, hq (Nat.le_trans (by decide) e.1)])
  case requestNot =>
    obtain ⟨u, hu, hunits, hrun⟩ := run_adjusts_below_half w F.PWR_CTRL_MODE (dormancyRequestAct w v) hcount
    rw [run_dormancyRequest_refused (by rwa [hu.up (by decide), hu.hasRight])] at hrun
    exact ⟨u, congrArg Host.Outcome.next hrun, refused_frame hu hunits⟩
  case spare =>
    have hs := enterDormancy_sleeps (s.get F.PWR_CTRL_MODE) s
    exact ⟨_, congrArg Host.Outcome.next (run_spareDormancy hup hkind hwait htime), hs.ember, hs.up, hs.pwrOn, hs.units, hs.flash⟩
  case spareWaits =>
    have hs := enterDormancy_sleeps (s.get F.PWR_CTRL_MODE) s
    exact ⟨_, congrArg Host.Outcome.next (run_spareDormancy_waiting hup hkind hwait htime hpending), hs.ember, hs.up, hs.pwrOn,
      hs.units, hs.flash⟩

end Sys2Proof.Machine
end

section
/-! The flash at a start (R57, R83, R99, R552): TRIED stays marked, and a device without an image leaves the flash and ends
Unconfigured. -/

namespace Sys2Proof.Machine

/-! ## Marks (R83) -/

/-- The order of the slots is read off the flash. -/
theorem slotOrder_congr {s t : State} (h : t.flash = s.flash) : t.slotOrder = s.slotOrder := by
  have hread : ∀ u : State, u.slotOrder = State.slotOrder { State.reset with flash := u.flash } := fun _ => rfl
  rw [hread t, hread s, h]

theorem marked_congr {s t : State} (h : t.flash = s.flash) (slot w : Nat) : t.marked slot w = s.marked slot w := by
  have hread : ∀ u : State, u.marked slot w = State.marked { State.reset with flash := u.flash } slot w := fun _ => rfl
  rw [hread t, hread s, h]

/-- A fresh slot is one of the two. -/
theorem slotOrder_fresh_lt {s : State} (h : s.slotOrder.2 = true) : s.slotOrder.1 < 2 := by
  have hcand : ∀ {p q : Nat → Bool}, ∀ x ∈ ([0, 1].filter p).filter q, x < 2 := fun x hx => by
    have hmem := List.mem_of_mem_filter (List.mem_of_mem_filter hx)
    simp only [List.mem_cons, List.not_mem_nil, or_false] at hmem
    omega
  simp only [State.slotOrder] at h ⊢
  split at h
  case isTrue hfresh =>
    rw [if_pos hfresh]
    refine List.foldlRecOn (motive := fun a : Nat => a < 2) _ _ ?_ fun a ha x hx => ?_
    · rw [List.headD_eq_head?_getD]
      cases hhead : (([0, 1].filter fun t => s.marked t 0 && !s.marked t 3).filter fun t => !s.marked t 1).head? with
      | none => decide
      | some x => exact hcand x (List.mem_of_head? hhead)
    · split
      · exact hcand x hx
      · exact ha
  case isFalse => split at h <;> cases h

theorem marked_of_zero {s : State} {slot w : Nat} (h : ∀ i < 4, s.flashByte (stateWord slot w + i) = 0) : s.marked slot w = true := by
  have hbytes : s.flashBytes (stateWord slot w) 4 = [0, 0, 0, 0] := by
    simp only [State.flashBytes, List.range_succ, List.range_zero, List.nil_append, List.cons_append, List.map_cons, List.map_nil,
      h 0 (by decide), h 1 (by decide), h 2 (by decide), h 3 (by decide)]
  rw [State.marked, hbytes]
  decide

theorem flashByte_mark (slot w : Nat) (s : State) {i : Nat} (hi : i < 4) :
    ((mark slot w).run s).flashByte (stateWord slot w + i) = 0 := by
  have hmark : mark slot w = Act.each [(0, (0 : Byte)), (1, 0), (2, 0), (3, 0)] (fun x => .flash (stateWord slot w + x.1) x.2) := rfl
  simp only [hmark, run_each_cons, run_each_nil, flashByte_flash, Nat.add_right_inj]
  interval_cases i <;> rfl

/-! ## Zero bytes stay zero below the role records -/

/-- A byte below the role records that is 0 stays 0. -/
def KeepsZeros (s t : State) : Prop := ∀ a < 0x08010000, s.flashByte a = 0 → t.flashByte a = 0

namespace KeepsZeros

variable {s t u : State}

theorem refl (s : State) : KeepsZeros s s := fun _ _ h => h
theorem trans (s t u : State) (h : KeepsZeros s t) (g : KeepsZeros t u) : KeepsZeros s u := fun a ha hz => g a ha (h a ha hz)
theorem of_flash (h : t.flash = s.flash) : KeepsZeros s t := fun a _ hz => by rwa [State.flashByte, h]

end KeepsZeros

theorem keepsZeros_nil : (Act.all []).brings KeepsZeros := .refl
theorem keepsZeros_cons {a : Act} {l : List Act} (ha : a.brings KeepsZeros) (hl : (Act.all l).brings KeepsZeros) :
    (Act.all (a :: l)).brings KeepsZeros := brings_seq KeepsZeros.trans ha hl
theorem keepsZeros_when {c : Bool} {a : Act} (h : c = true → a.brings KeepsZeros) : (Act.when c a).brings KeepsZeros :=
  brings_when .refl h
theorem keepsZeros_of_aside {P : Nat → Prop} {a : Act} (h : a.aside P) : a.brings KeepsZeros := fun s => .of_flash (run_aside h s).flash

theorem flash_keepsZeros {a : Nat} {b : Byte} (h : b = 0 ∨ 0x08010000 ≤ a) : (Act.flash a b).brings KeepsZeros := by
  intro s x hx hz
  rw [flashByte_flash]
  split
  case isTrue he =>
    rcases h with h | h
    · exact h
    · omega
  case isFalse => exact hz

theorem mark_keepsZeros (slot w : Nat) : (mark slot w).brings KeepsZeros :=
  brings_each KeepsZeros.trans .refl fun x hx => flash_keepsZeros (.inl (by
    obtain ⟨-, hz⟩ := List.of_mem_zip hx
    exact List.eq_of_mem_replicate hz))

theorem writeRole_keepsZeros (kind device role incarnation : Nat) : (writeRole kind device role incarnation).brings KeepsZeros :=
  brings_look fun _ => brings_each KeepsZeros.trans .refl fun x _ => flash_keepsZeros (.inr (by simp only [roleAddr]; omega))

theorem chronicle_flash (kind : Nat) (tenant : Option Nat) (info : List Byte) (s : State) :
    ((chronicle kind tenant 0 info).run s).flash = s.flash := rfl

theorem holdRole_sheltered (kind device role incarnation : Nat) : sheltered (holdRole kind device role incarnation) := by simp [holdRole]

theorem settleRole_keepsZeros : settleRole.brings KeepsZeros := by
  have hhold : ∀ k d r i, (holdRole k d r i).brings KeepsZeros := fun k d r i => keepsZeros_of_aside (holdRole_sheltered k d r i)
  have htake : ∀ k d r i k', (Act.seq (writeRole k d r i) (holdRole k' d r i)).brings KeepsZeros := fun k d r i k' =>
    brings_seq KeepsZeros.trans (writeRole_keepsZeros _ _ _ _) (hhold _ _ _ _)
  refine brings_look fun s => ?_
  dsimp only
  split
  · exact brings_ite (hhold _ _ _ _) (brings_ite (brings_seq KeepsZeros.trans (hhold _ _ _ _)
      (keepsZeros_of_aside (P := fun _ => True) (by simp)))
      (brings_ite (hhold _ _ _ _) (brings_ite (htake _ _ _ _ _) (hhold _ _ _ _))))
  · exact brings_ite (hhold _ _ _ _) (brings_ite (htake _ _ _ _ _) (hhold _ _ _ _))

theorem showSlots_sheltered : sheltered showSlots := by simp [showSlots]

theorem confirmImage_keepsZeros : confirmImage.brings KeepsZeros := by
  refine brings_look fun s => keepsZeros_cons (mark_keepsZeros _ _) (keepsZeros_cons (keepsZeros_of_aside (P := fun _ => True) (by simp))
    (keepsZeros_cons (fun _ => .of_flash rfl) (keepsZeros_cons ?_ (keepsZeros_cons (keepsZeros_of_aside showSlots_sheltered) keepsZeros_nil))))
  split
  · exact fun _ => .of_flash rfl
  · exact .refl

theorem startUnits_keepsZeros : startUnits.brings KeepsZeros := by
  have hslots : sheltered (Act.each (List.range 4) applySlot) := by simp [applySlot]
  intro s
  rw [run_startUnits]
  exact KeepsZeros.trans _ _ _ (keepsZeros_of_aside startUnitsOnly_aside s) (keepsZeros_of_aside hslots _)

theorem readyTail_keepsZeros (s : State) : (Act.all (readyTail s)).brings KeepsZeros := by
  have hput : ∀ f v, (put f v).brings KeepsZeros := fun f v _ => .of_flash rfl
  exact keepsZeros_cons (keepsZeros_of_aside drawNonces_aside) <| keepsZeros_cons (fun _ => .of_flash rfl) <|
    keepsZeros_cons (hput _ _) <| keepsZeros_cons (keepsZeros_of_aside showOwner_aside) <| keepsZeros_cons settleRole_keepsZeros <|
    keepsZeros_cons (keepsZeros_when fun _ => hput _ _) <| keepsZeros_cons (keepsZeros_when fun _ => startUnits_keepsZeros) <|
    keepsZeros_cons (keepsZeros_of_aside raisePins_aside) <| keepsZeros_cons (keepsZeros_of_aside startLinks_aside) <|
    keepsZeros_cons (fun t => .of_flash (chronicle_flash _ _ _ t)) <| keepsZeros_cons (fun t => .of_flash (chronicle_flash _ _ _ t)) <|
    keepsZeros_cons (keepsZeros_when fun _ => confirmImage_keepsZeros) <|
    keepsZeros_cons (brings_look fun _ => keepsZeros_when fun _ => hput _ _) <|
    keepsZeros_cons (brings_look fun _ _ => .of_flash rfl) keepsZeros_nil

theorem readySets_flash (micros elapsed : Nat) (s : State) : ((Act.all (readySets micros elapsed)).run s).flash = s.flash := rfl

theorem loadImage_flash (s : State) : (loadImage.run s).flash = s.tried.flash := by
  rw [run_loadImage]
  exact (loadVerified_brings _ _ _ _ _).flash

/-- TRIED of a fresh slot is marked at local ready (R99). -/
theorem localReady_tried (micros : Nat) {s : State} (h : s.slotOrder.2 = true) :
    ((localReady micros).run s).marked s.slotOrder.1 1 = true := by
  have hlt := slotOrder_fresh_lt h
  refine marked_of_zero fun i hi => ?_
  rw [run_localReady]
  refine readyTail_keepsZeros _ _ _ (by simp only [stateWord]; omega) ?_
  rw [State.flashByte, readySets_flash, loadImage_flash, State.tried, h, run_when_true]
  exact flashByte_mark _ _ _ hi

end Sys2Proof.Machine
end

section
/-! A start without an image (R100): the device ends Unconfigured, with role kind 4. -/

namespace Sys2Proof.Machine

/-! ## What leaves the image's state and the role -/

/-- The flash, IMG_STATUS and SUP_ROLE_STATUS stand. -/
structure RoleKept (s t : State) : Prop where
  flash : t.flash = s.flash
  image : t.rd F.IMG_STATUS_STATE.addr = s.rd F.IMG_STATUS_STATE.addr
  role : t.rd F.SUP_ROLE_STATUS_KIND.addr = s.rd F.SUP_ROLE_STATUS_KIND.addr

namespace RoleKept

variable {s t : State}

theorem refl (s : State) : RoleKept s s := ⟨rfl, rfl, rfl⟩
theorem trans (s t u : State) (h : RoleKept s t) (g : RoleKept t u) : RoleKept s u :=
  ⟨g.flash.trans h.flash, g.image.trans h.image, g.role.trans h.role⟩
theorem state (h : RoleKept s t) : t.get F.IMG_STATUS_STATE = s.get F.IMG_STATUS_STATE := by rw [State.get, h.image]; rfl
theorem kind (h : RoleKept s t) : t.get F.SUP_ROLE_STATUS_KIND = s.get F.SUP_ROLE_STATUS_KIND := by rw [State.get, h.role]; rfl

end RoleKept

theorem roleKept_nil : (Act.all []).brings RoleKept := .refl
theorem roleKept_cons {a : Act} {l : List Act} (ha : a.brings RoleKept) (hl : (Act.all l).brings RoleKept) :
    (Act.all (a :: l)).brings RoleKept := brings_seq RoleKept.trans ha hl

theorem roleKept_of_aside {a : Act} (h : a.aside unitReg) : a.brings RoleKept := fun s =>
  ⟨(run_aside h s).flash, (run_aside h s).rd _ fun hu => absurd hu.1 (by decide), (run_aside h s).rd _ fun hu => hu.2 rfl⟩

theorem roleKept_put {f : Field} (h : F.IMG_STATUS_STATE.addr ≠ f.addr ∧ F.SUP_ROLE_STATUS_KIND.addr ≠ f.addr) (v : Nat) :
    (put f v).brings RoleKept := fun s => ⟨rfl, rd_put_other s f v h.1, rd_put_other s f v h.2⟩

theorem roleKept_units (f : Units → Units) : (Act.units f).brings RoleKept := fun _ => ⟨rfl, rfl, rfl⟩

theorem roleKept_chronicle (kind : Nat) (tenant : Option Nat) (info : List Byte) :
    (chronicle kind tenant 0 info).brings RoleKept := fun s => by
  rw [run_chronicle_unclassed]
  exact ⟨rfl, rd_put_other _ _ _ (by decide), rd_put_other _ _ _ (by decide)⟩

theorem roleKept_onEmber (f : Ember → Ember) : (onEmber f).brings RoleKept := fun _ => ⟨rfl, rfl, rfl⟩

theorem readySets_roleKept (micros elapsed : Nat) : (Act.all (readySets micros elapsed)).brings RoleKept :=
  roleKept_cons (roleKept_put (by decide) _) <| roleKept_cons (roleKept_put (by decide) _) <|
  roleKept_cons (roleKept_put (by decide) _) <| roleKept_cons (roleKept_put (by decide) _) <|
  roleKept_cons (roleKept_onEmber _) roleKept_nil

/-! ## No slot is WRITTEN (R97, R100) -/

theorem slotOrder_unwritten {s : State} (h0 : s.marked 0 0 = false) (h1 : s.marked 1 0 = false) : s.slotOrder = (0, false) := by
  simp [State.slotOrder, h0, h1]

theorem verify_unwritten {s : State} {slot : Nat} (h : s.marked slot 0 = false) : s.verify true slot ≠ 0 := by
  unfold State.verify
  simp only [h, Bool.not_false, Bool.and_true, Bool.or_true, if_true]
  split <;> decide

theorem loadImage_unwritten {s : State} (h0 : s.marked 0 0 = false) (h1 : s.marked 1 0 = false) :
    (loadImage.run s).flash = s.flash ∧ (loadImage.run s).get F.IMG_STATUS_STATE = 3 := by
  have horder := slotOrder_unwritten h0 h1
  have htried : s.tried = s := by rw [State.tried, horder]; rfl
  refine ⟨by rw [loadImage_flash, htried], ?_⟩
  have hfirst := verify_unwritten h0
  have hsecond : s.secondResult 0 ≠ 0 := by rw [State.secondResult, if_neg hfirst]; exact verify_unwritten h1
  have hnone : s.runsSlot 0 = none := by rw [State.runsSlot, if_neg hfirst, if_neg hsecond]
  rw [run_loadImage, htried, horder, hnone]
  have hshow : (Act.all [showSlots, Act.each [0, 1] showGeneration]).aside (fun a => 0x00020020 ≤ a) := by
    simp [showSlots, showGeneration, F.IMG_SLOT_STATE_WRITTEN, F.IMG_SLOT_STATE_TRIED, F.IMG_SLOT_STATE_CONFIRMED,
      F.IMG_SLOT_STATE_RETIRED, F.IMG_SLOT_GENERATION_GENERATION]
  rw [loadVerified, run_all_cons, run_all_cons, run_all_cons, run_all_cons, run_all_cons,
    (run_aside hshow _).get (by decide), get_put_same _ _ _ (by decide) (by decide)]
  decide

/-! ## Local ready of an unconfigured device -/

theorem settleRole_unconfigured {s : State} (h : s.unconfigured = true) : ∃ device, settleRole.run s = (holdRole 4 device noRole 0).run s := by
  rw [settleRole, run_look, h]
  cases s.roleRec with
  | none => exact ⟨0, by simp only [if_true]⟩
  | some r => exact ⟨r.device, by simp only [if_true]⟩

theorem settleRole_kind {s : State} (h : s.unconfigured = true) : (settleRole.run s).flash = s.flash ∧
    (settleRole.run s).get F.IMG_STATUS_STATE = s.get F.IMG_STATUS_STATE ∧ (settleRole.run s).get F.SUP_ROLE_STATUS_KIND = 4 := by
  obtain ⟨device, hrun⟩ := settleRole_unconfigured h
  rw [hrun, holdRole]
  refine ⟨rfl, ?_, ?_⟩
  · simp only [run_all_cons, run_all_nil]
    simp (disch := decide) [get_put_other]
  · simp only [run_all_cons, run_all_nil]
    rw [get_put_other _ _ _ _ (by decide) (by decide) (by decide), get_put_other _ _ _ _ (by decide) (by decide) (by decide),
      get_put_other _ _ _ _ (by decide) (by decide) (by decide), get_put_same _ _ _ (by decide) (by decide)]
    decide

/-- What precedes the role at local ready. -/
def beforeRole (s : State) : List Act := (readyTail s).take 4
/-- What follows the role at local ready, up to the look at its kind. -/
def afterRole (s : State) : List Act := (readyTail s).extract 5 12
/-- The end of local ready: ASSIGN_WAIT of a spare, and the registers that a tenant reset restores. -/
def endsReady (s : State) : List Act := (readyTail s).drop 12

theorem readyTail_split (s : State) : readyTail s = beforeRole s ++ settleRole :: (afterRole s ++ endsReady s) := rfl

theorem beforeRole_roleKept (s : State) : (Act.all (beforeRole s)).brings RoleKept :=
  roleKept_cons (roleKept_of_aside drawNonces_aside) <| roleKept_cons (roleKept_units _) <|
  roleKept_cons (roleKept_put (by decide) _) <| roleKept_cons (roleKept_of_aside showOwner_aside) roleKept_nil

theorem afterRole_roleKept {s : State} (h : s.unconfigured = true) : (Act.all (afterRole s)).brings RoleKept := by
  have hskip : ∀ {c : Bool} {a : Act}, c = false → (Act.when c a).brings RoleKept := fun hc => by rw [hc]; exact .refl
  exact roleKept_cons (brings_when .refl fun _ => roleKept_put (by decide) _) <|
    roleKept_cons (hskip (by rw [h]; rfl)) <| roleKept_cons (roleKept_of_aside raisePins_aside) <|
    roleKept_cons (roleKept_of_aside startLinks_aside) <| roleKept_cons (roleKept_chronicle _ _ _) <|
    roleKept_cons (roleKept_chronicle _ _ _) <| roleKept_cons (hskip (by rw [h]; rfl)) roleKept_nil

/-- A device that holds no role of a spare waits for no assignment. -/
theorem endsReady_roleKept (s : State) {t : State} (h : t.get F.SUP_ROLE_STATUS_KIND = 4) :
    RoleKept t ((Act.all (endsReady s)).run t) := by
  have hrun : (Act.all (endsReady s)).run t = (Act.all [.look (fun t => Act.when (t.get F.SUP_ROLE_STATUS_KIND = 2 &&
      bits (s.rd F.EMB_WAKE_CAUSE_COLD.addr).toNat 15 8 ≠ 0) (put F.SUP_ROLE_STATUS_ASSIGN_WAIT 1)),
      .look (fun t => .units fun u => { u with ready := t.regs })]).run t := rfl
  rw [hrun, run_all_cons, run_look, h]
  exact ⟨rfl, rfl, rfl⟩

theorem localReady_unwritten (micros : Nat) {s : State} (h0 : s.marked 0 0 = false) (h1 : s.marked 1 0 = false) :
    ((localReady micros).run s).get F.IMG_STATUS_STATE = 3 ∧ ((localReady micros).run s).get F.SUP_ROLE_STATUS_KIND = 4 ∧
    ((localReady micros).run s).flash = s.flash := by
  obtain ⟨hflash, himage⟩ := loadImage_unwritten h0 h1
  rw [run_localReady, readyTail_split, run_all_append, run_all_cons, run_all_append]
  generalize loadImage.run s = l at *
  have hsets := readySets_roleKept micros l.keep.elapsed l
  generalize (Act.all (readySets micros l.keep.elapsed)).run l = t at *
  have hbefore := beforeRole_roleKept l t
  generalize (Act.all (beforeRole l)).run t = u at *
  have hu : u.get F.IMG_STATUS_STATE = 3 := by rw [hbefore.state, hsets.state, himage]
  obtain ⟨hrflash, hrimage, hrkind⟩ := settleRole_kind (s := u) (by simp [State.unconfigured, hu])
  generalize settleRole.run u = v at *
  have hafter := afterRole_roleKept (s := l) (by simp [State.unconfigured, himage]) v
  generalize (Act.all (afterRole l)).run v = w at *
  have hend := endsReady_roleKept l (t := w) (by rw [hafter.kind, hrkind])
  refine ⟨?_, ?_, ?_⟩
  · rw [hend.state, hafter.state, hrimage, hu]
  · rw [hend.kind, hafter.kind, hrkind]
  · rw [hend.flash, hafter.flash, hrflash, hbefore.flash, hsets.flash, hflash]

end Sys2Proof.Machine
end

section
/-! Start, its timeouts, and RST_N (R55 to R63, R99, R100): the statement. -/

namespace Sys2Proof.Machine

/-! ## START (R55, R57) -/

/-- The rails as the last main supply leaves them. -/
def railsRise : Act := .look fun s => put F.PWR_STATUS_RAIL_OK (s.get F.PWR_STATUS_RAIL_OK / 64 * 64 + 63)

theorem railsRise_railOk (s : State) : (railsRise.run s).get F.PWR_STATUS_RAIL_OK = s.get F.PWR_STATUS_RAIL_OK / 64 * 64 + 63 := by
  have hlt := railOk_lt s
  exact railOk_put (by omega)

theorem railsRise_tally : railsRise.tally (fun a => a = F.PWR_STATUS_RAIL_OK.addr) := fun _ => (put_tally _ _).mpr rfl

theorem railsRise_tallied (s : State) : Tallied (fun a => a = F.PWR_STATUS_RAIL_OK.addr) s (railsRise.run s) :=
  run_tally railsRise_tally s

theorem railsRise_coreMayStart {s : State} : (railsRise.run s).coreMayStart = (s.keep.ember.vaon && !s.keep.ember.rstLow &&
    !s.keep.ember.held && (decide (s.ember = embActive) || decide (s.ember = embWaking))) := by
  have h := railsRise_tallied s
  have hmains : (railsRise.run s).mainsValid = true := by
    rw [State.mainsValid, railsRise_railOk, decide_eq_true_eq]
    omega
  have hember : (railsRise.run s).ember = s.ember := h.get (f := F.EMB_STATUS_STATE) (by decide)
  rw [State.coreMayStart, hmains, h.keep, hember, Bool.and_true]

theorem run_start {s : State} (run : StartRun) (hvaon : s.keep.ember.vaon = true) (hup : s.up = false)
    (hstarting : s.keep.ember.starting = false) : (startAct run).run s =
      (Act.when (railsRise.run s).coreMayStart (.seq coreReset (beginStart run))).run (railsRise.run s) := by
  rw [startAct, run_look, hvaon, hup, hstarting]
  rfl

theorem run_start_not {s : State} (run : StartRun) (h : s.keep.ember.vaon = false ∨ s.up = true ∨ s.keep.ember.starting = true) :
    (startAct run).run s = s := by
  have hcond : (s.keep.ember.vaon && !s.up && !s.keep.ember.starting) = false := by rcases h with h | h | h <;> simp [h]
  rw [startAct, run_look, hcond, run_when_false]

/-- A start that can begin. -/
theorem run_start_begins {s : State} (run : StartRun) (hvaon : s.keep.ember.vaon = true) (hrst : s.keep.ember.rstLow = false)
    (hheld : s.keep.ember.held = false) (hstarting : s.keep.ember.starting = false) (hup : s.up = false)
    (hember : s.ember = embActive ∨ s.ember = embWaking) :
    (startAct run).run s = (beginStart run).run (coreReset.run (railsRise.run s)) := by
  have hmay : (railsRise.run s).coreMayStart = true := by
    rw [railsRise_coreMayStart, hvaon, hrst, hheld]
    simpa using hember
  rw [run_start run hvaon hup hstarting, hmay, run_when_true, run_seq]

/-! ## A start behind a core reset -/

/-- What precedes a start: the core is down and its watchdog off. -/
theorem afterReset_down (s : State) : (coreReset.run s).up = false ∧ (coreReset.run s).keep.ember.watchdog = none := by
  simp [Ember.coreHeld]

/-- The words of the causes behind a core reset and a start. -/
theorem beginStart_coreReset_rd (run : StartRun) (s : State) {a : Nat} (ha : causeWord a) (hne : a ≠ F.PWR_STATUS_RAIL_OK.addr) :
    ((beginStart run).run (coreReset.run s)).rd a = s.rd a := by
  rw [(beginStart_kept run (coreReset.run s)).rd a ha hne, coreReset_rd_ember s (causeWord_emberAddr ha hne)]

theorem afterStart_held (run : StartRun) (at_ : Nat) (e : Ember) : (e.afterStart run at_).held = e.held := by
  unfold Ember.afterStart
  split <;> rfl

theorem afterStart_rstLow (run : StartRun) (at_ : Nat) (e : Ember) : (e.afterStart run at_).rstLow = e.rstLow := by
  unfold Ember.afterStart
  split <;> rfl

/-- What a start shows that begins with the last main supply. -/
theorem start_shows {s t : State} (run : StartRun) (hrun : (beginStart run).run (coreReset.run (railsRise.run s)) = t) :
    t.startedBy run s.keep.elapsed = true ∧ t.get F.PWR_STATUS_RAIL_OK = s.get F.PWR_STATUS_RAIL_OK / 64 * 64 + 63 ∧
    (∀ a, causeWord a → a ≠ F.PWR_STATUS_RAIL_OK.addr → t.rd a = s.rd a) ∧
    (run.micros ≤ 1000000 → s.slotOrder.2 = true → t.marked s.slotOrder.1 1 = true) := by
  have hrise := railsRise_tallied s
  obtain ⟨hdown, hwatch⟩ := afterReset_down (railsRise.run s)
  have hstarted := beginStart_startedBy run hdown hwatch
  have hkept := beginStart_kept run (coreReset.run (railsRise.run s))
  have helapsed : (coreReset.run (railsRise.run s)).keep.elapsed = s.keep.elapsed := by rw [coreReset_keep, hrise.keep]
  rw [hrun] at hstarted hkept
  refine ⟨by rwa [helapsed] at hstarted, ?_, fun a ha hne => ?_, fun hmicros hfresh => ?_⟩
  · rw [hkept.railOk, coreReset_railOk, railsRise_railOk]
  · rw [← hrun, beginStart_coreReset_rd run _ ha hne, hrise.rd a hne]
  · have horder : (coreReset.run (railsRise.run s)).slotOrder = s.slotOrder :=
      slotOrder_congr (by rw [coreReset_flash, hrise.flash])
    rw [← hrun, beginStart, if_pos hmicros, ← horder]
    exact localReady_tried _ (by rw [horder]; exact hfresh)

/-! ## START_TIMEOUT (R59) -/

/-- A start that failed: the core is reset and the failure counted. -/
def failsStart (fails : Nat) : Act := Act.all [coreReset, onEmber (fun e => { e with fails := fails })]

theorem run_failsStart (fails : Nat) (s : State) :
    (failsStart fails).run s = (onEmber (fun e => { e with fails := fails })).run (coreReset.run s) := by
  rw [failsStart, run_all_cons, run_all_cons, run_all_nil]

theorem run_startTimeout_third {s : State} (run : StartRun) (hstarting : s.keep.ember.starting = true) (hfails : 2 ≤ s.keep.ember.fails) :
    (startTimeoutAct run).run s = (onEmber (fun e => { e.drives .high with held := true })).run
      ((event F.EMB_WAKE_CAUSE_START_FAIL).run ((failsStart (s.keep.ember.fails + 1)).run s)) := by
  have hthird : s.keep.ember.fails + 1 ≥ 3 := by omega
  simp only [startTimeoutAct, run_look, hstarting, run_when_true, run_all_cons, run_all_nil, if_pos hthird, run_seq, failsStart]

theorem failsStart_coreMayStart (fails : Nat) (s : State) : ((failsStart fails).run s).coreMayStart = s.coreMayStart := by
  rw [run_failsStart, ← coreReset_coreMayStart s]
  generalize coreReset.run s = u
  rfl

theorem run_startTimeout_repeats {s : State} (run : StartRun) (hstarting : s.keep.ember.starting = true) (hfails : s.keep.ember.fails < 2)
    (hmay : s.coreMayStart = true) :
    (startTimeoutAct run).run s = (beginStart run).run ((failsStart (s.keep.ember.fails + 1)).run s) := by
  have hthird : ¬ s.keep.ember.fails + 1 ≥ 3 := by omega
  have hmay' := (failsStart_coreMayStart (s.keep.ember.fails + 1) s).trans hmay
  simp only [failsStart, run_all_cons, run_all_nil] at hmay'
  simp only [startTimeoutAct, run_look, hstarting, run_when_true, run_all_cons, run_all_nil, if_neg hthird, failsStart, hmay']

theorem failsStart_keep (fails : Nat) (s : State) : ((failsStart fails).run s).keep =
    { s.keep with ember := { s.keep.ember with watchdog := none, starting := false, fails := fails } } := by
  rw [run_failsStart, run_onEmber_keep, coreReset_keep]
  rfl

theorem failsStart_up (fails : Nat) (s : State) : ((failsStart fails).run s).up = false := by
  rw [run_failsStart, State.up, State.is, run_onEmber_get, coreReset_localReady]
  rfl

theorem failsStart_rd (fails : Nat) (s : State) {a : Nat} (ha : causeWord a) (hne : a ≠ F.PWR_STATUS_RAIL_OK.addr) :
    ((failsStart fails).run s).rd a = s.rd a := by
  rw [run_failsStart, run_onEmber_rd, coreReset_rd_ember s (causeWord_emberAddr ha hne)]

/-! ## PIN_RESET and RST_N_RELEASE (R61) -/

/-- What a pin reset leaves: the core is down, a hold has ended, and of Ember's registers PIN_RESET alone changed. -/
structure PinReset (s t : State) : Prop where
  rstLow : t.keep.ember.rstLow = true
  held : t.keep.ember.held = false
  watchdog : t.keep.ember.watchdog = none
  up : t.up = false
  cause : t.get F.EMB_WAKE_CAUSE_PIN_RESET = 1
  units : t.units = {}
  ember : t.ember = s.ember
  chron : t.keep.chron = s.keep.chron
  rd : ∀ a, ¬ (emberAddr a = false ∨ a = F.EMB_WAKE_CAUSE_PIN_RESET.addr) → t.rd a = s.rd a
  flash : t.flash = s.flash

theorem pinResetNow_resets (s : State) : PinReset s (pinResetNow.run s) := by
  simp only [pinResetNow, run_all_cons, run_all_nil]
  constructor
  case rstLow => rfl
  case held => rfl
  case watchdog => simp [(event_tallied _ _).keep, Ember.coreHeld]
  case up =>
    refine is_eq_false.mpr ?_
    rw [run_onEmber_get, get_event_other _ _ _ (by decide) (by decide) (by decide), coreReset_localReady]
  case cause => rw [run_onEmber_get, get_event_bit rfl (by decide)]
  case units => exact coreReset_units s
  case ember =>
    rw [State.ember, run_onEmber_get, get_event_other _ _ _ (by decide) (by decide) (by decide)]
    exact coreReset_ember s
  case chron => simp [(event_tallied _ _).keep]
  case rd =>
    intro a ha
    obtain ⟨hember, hcause⟩ := not_or.mp ha
    rw [run_onEmber_rd, rd_event_other hcause, coreReset_rd_ember s (Bool.not_eq_false _ ▸ hember)]
  case flash =>
    rw [run_onEmber_flash, (event_tallied _ _).flash]
    exact coreReset_flash s

theorem run_pinReset_long {s : State} {n : Nat} (hvaon : s.keep.ember.vaon = true) (hn : 1000 ≤ n) :
    (pinResetAct n).run s = pinResetNow.run s := by
  rw [pinResetAct, run_look, hvaon, run_when_true, if_neg (by omega), if_pos hn]

theorem run_pinReset_short {s : State} {n : Nat} (h : s.keep.ember.vaon = false ∨ n < 200) : (pinResetAct n).run s = s := by
  rw [pinResetAct, run_look]
  rcases h with h | h
  · rw [h, run_when_false]
  · rw [if_pos h]
    cases s.keep.ember.vaon <;> rfl

theorem run_pinReset_between {s : State} {n : Nat} (hvaon : s.keep.ember.vaon = true) (hlow : 200 ≤ n) (hhigh : n < 1000) :
    (pinResetAct n).run s = { s with free := s.free + 1 } ∨ (pinResetAct n).run s = pinResetNow.run { s with free := s.free + 1 } := by
  rw [pinResetAct, run_look, hvaon, run_when_true, if_neg (by omega), if_neg (by omega), run_draw]
  cases decide ((Config.freeValue s.free).toNat % 2 = 1)
  · exact .inl rfl
  · exact .inr rfl

/-- RST_N rises. -/
def rstRises : Act := onEmber fun e => { e with rstLow := false }

theorem rstRises_coreMayStart (s : State) : (rstRises.run s).coreMayStart = (s.keep.ember.vaon && !s.keep.ember.held && s.mainsValid &&
    (decide (s.ember = embActive) || decide (s.ember = embWaking))) := by
  have h : (rstRises.run s).coreMayStart = (s.keep.ember.vaon && !false && !s.keep.ember.held && s.mainsValid &&
    (decide (s.ember = embActive) || decide (s.ember = embWaking))) := rfl
  rw [h, Bool.not_false, Bool.and_true]

theorem run_rstRelease {s : State} (run : StartRun) (hrst : s.keep.ember.rstLow = true) : (rstReleaseAct run).run s =
    (Act.when ((rstRises.run s).coreMayStart && !s.up) (beginStart run)).run (rstRises.run s) := by
  rw [rstReleaseAct, run_look, hrst]
  rfl

theorem run_rstRelease_not {s : State} (run : StartRun) (hrst : s.keep.ember.rstLow = false) : (rstReleaseAct run).run s = s := by
  rw [rstReleaseAct, run_look, hrst, run_when_false]

/-! ## The statement -/

/-- Settles O3: each start by what beginStart leaves behind the reset before it. -/
theorem startSequences : Obligations.StartSequences := by
  unfold Obligations.StartSequences
  refine ⟨fun s run hvaon hrst hheld hstarting hup hember => ?starts,
    fun s run hvaon hrst hheld hstarting hup hember hmicros h0 h1 => ?noImage,
    fun s run h => congrArg Host.Outcome.next (run_start_not run h), fun s run hvaon hup hstarting h => ?railsOnly,
    fun s run hstarting hfails => ?third, fun s run hstarting hfails hmay => ?repeats, fun s run hstarting => ?noTimeout,
    fun s n hvaon hn => ?pinReset, fun s n hvaon hlow hhigh => ?pinMaybe,
    fun s n h => congrArg Host.Outcome.next (run_pinReset_short h), fun s run hrst hup hvaon hheld hmains hember hwatch => ?release,
    fun s run hrst h => ?releaseOnly, fun s run hrst => congrArg Host.Outcome.next (run_rstRelease_not run hrst)⟩
  case starts =>
    obtain ⟨hstarted, hrails, hrd, htried⟩ := start_shows (s := s) run rfl
    exact ⟨_, congrArg Host.Outcome.next (run_start_begins run hvaon hrst hheld hstarting hup hember), hstarted, hrails,
      hrd _ (.inr (.inl rfl)) (by decide), hrd _ (.inr (.inr (.inl rfl))) (by decide), hrd _ (.inr (.inr (.inr (.inl rfl)))) (by decide),
      hrd _ (.inr (.inr (.inr (.inr rfl)))) (by decide), htried⟩
  case noImage =>
    have hflash : (coreReset.run (railsRise.run s)).flash = s.flash := by rw [coreReset_flash, (railsRise_tallied s).flash]
    have hready := localReady_unwritten run.micros ((marked_congr hflash 0 0).trans h0) ((marked_congr hflash 1 0).trans h1)
    have hrun := run_start_begins run hvaon hrst hheld hstarting hup hember
    rw [beginStart, if_pos hmicros] at hrun
    exact ⟨_, congrArg Host.Outcome.next hrun, hready.1, hready.2.1, hready.2.2.trans hflash⟩
  case railsOnly =>
    have hrise := railsRise_tallied s
    have hmay : (railsRise.run s).coreMayStart = false := by
      rw [railsRise_coreMayStart]
      rcases h with h | h | ⟨ha, hw⟩
      · simp [h]
      · simp [h]
      · simp [ha, hw]
    have hrun := run_start run hvaon hup hstarting
    rw [hmay, run_when_false] at hrun
    exact ⟨_, congrArg Host.Outcome.next hrun, railsRise_railOk s, hrise.keep, rfl, hrise.rd, hrise.flash⟩
  case third =>
    refine ⟨_, congrArg Host.Outcome.next (run_startTimeout_third run hstarting hfails), by rw [run_onEmber_keep], ?_, ?_, ?_, ?_, ?_⟩
    · rw [run_onEmber_keep, (event_tallied _ _).keep, failsStart_keep]; rfl
    · rw [run_onEmber_keep, (event_tallied _ _).keep, failsStart_keep]; rfl
    · refine is_eq_false.mpr ?_
      rw [run_onEmber_get, get_event_other _ _ _ (by decide) (by decide) (by decide)]
      exact is_eq_false.mp (failsStart_up _ s)
    · rw [run_onEmber_get, get_event_bit rfl (by decide)]
    · rw [run_onEmber_flash, (event_tallied _ _).flash, run_failsStart, run_onEmber_flash, coreReset_flash]
  case repeats =>
    have hkept := beginStart_kept run ((failsStart (s.keep.ember.fails + 1)).run s)
    have hstarted := beginStart_startedBy run (failsStart_up (s.keep.ember.fails + 1) s) (by rw [failsStart_keep])
    have hrd : ∀ a, causeWord a → a ≠ F.PWR_STATUS_RAIL_OK.addr →
        ((beginStart run).run ((failsStart (s.keep.ember.fails + 1)).run s)).rd a = s.rd a := fun a ha hne => by
      rw [hkept.rd a ha hne, failsStart_rd _ _ ha hne]
    rw [failsStart_keep] at hstarted
    have hember := hkept.ember
    rw [failsStart_keep] at hember
    refine ⟨_, congrArg Host.Outcome.next (run_startTimeout_repeats run hstarting hfails hmay), hstarted, ?_, fun hmicros => ?_,
      hrd _ (.inr (.inl rfl)) (by decide), hrd _ (.inr (.inr (.inl rfl))) (by decide), hrd _ (.inr (.inr (.inr (.inl rfl)))) (by decide),
      hrd _ (.inr (.inr (.inr (.inr rfl)))) (by decide)⟩
    · rw [hember, afterStart_held]
    · rw [hember, Ember.afterStart, if_neg (by omega)]
  case noTimeout =>
    refine congrArg Host.Outcome.next ?_
    rw [startTimeoutAct, run_look, hstarting, run_when_false]
  case pinReset =>
    obtain ⟨hrst, hheld, hwatch, hdown, hcause, hunits, hember, hchron, hrd, hflash⟩ := pinResetNow_resets s
    exact ⟨_, congrArg Host.Outcome.next (run_pinReset_long hvaon hn), hrst, hheld, hwatch, hdown, hcause, hunits, hember, hchron, hrd,
      hflash⟩
  case pinMaybe =>
    rcases run_pinReset_between hvaon hlow hhigh with hrun | hrun
    · exact ⟨_, congrArg Host.Outcome.next hrun, .inl rfl, rfl⟩
    · have hreset := pinResetNow_resets { s with free := s.free + 1 }
      exact ⟨_, congrArg Host.Outcome.next hrun, .inr ⟨hreset.rstLow, hreset.up, hreset.cause, hreset.units⟩, hreset.flash⟩
  case release =>
    have hkept := beginStart_kept run (rstRises.run s)
    have hmay : (rstRises.run s).coreMayStart = true := by
      rw [rstRises_coreMayStart, hvaon, hheld, hmains]
      simpa using hember
    have hrun := run_rstRelease run hrst
    rw [hmay, hup, Bool.not_false, Bool.and_self, run_when_true] at hrun
    refine ⟨_, congrArg Host.Outcome.next hrun, ?_, beginStart_startedBy run hup hwatch, hkept.rd _ (.inr (.inl rfl)) (by decide),
      hkept.rd _ (.inr (.inr (.inl rfl))) (by decide), hkept.rd _ (.inr (.inr (.inr (.inl rfl)))) (by decide),
      hkept.rd _ (.inr (.inr (.inr (.inr rfl)))) (by decide)⟩
    rw [hkept.ember, afterStart_rstLow]
    rfl
  case releaseOnly =>
    have hcond : ((rstRises.run s).coreMayStart && !s.up) = false := by
      rw [rstRises_coreMayStart]
      rcases h with h | h | h | h | ⟨ha, hw⟩
      · simp [h]
      · simp [h]
      · simp [h]
      · simp [h]
      · simp [ha, hw]
    have hrun := run_rstRelease run hrst
    rw [hcond, run_when_false] at hrun
    exact ⟨_, congrArg Host.Outcome.next hrun, rfl, rfl, rfl, rfl⟩

end Sys2Proof.Machine
end

section
/-! Slots of Ember (R71 to R73): what a commit puts in force, and what it shows in EMB_STATUS. -/

namespace Sys2Proof.Machine

/-! ## One bit of a field -/

theorem testBit_get {s : State} {f : Field} {i : Nat} (h : f.lsb + i ≤ f.msb) : (s.get f).testBit i = s.is (slotFlag f i) := by
  have hbit : (s.get (slotFlag f i)).testBit 0 = (s.get f).testBit i := by
    simp only [State.get, slotFlag, testBit_getBits]
    simp [show i < f.msb + 1 - f.lsb by omega]
  have hlt : s.get (slotFlag f i) < 2 := by
    have := getBits_lt (s.rd f.addr) (f.lsb + i) (f.lsb + i)
    rwa [Nat.add_sub_cancel_left] at this
  rw [← hbit, State.is, Nat.testBit_zero]
  simp only [decide_eq_decide]
  omega

/-! ## Words put in force -/

/-- The words of a slot: its window, its mask with its check, and its enables. -/
def slotWords (sl : Nat) : List Nat :=
  (List.range 4).map (fun w => (F.EMB_SLOT_WINDOW_BYTES sl w).addr) ++ [(F.EMB_SLOT_CHECK_CHECK sl).addr, (F.EMB_SLOT_CTRL_PIN_EN sl).addr]

theorem run_commitSlot (sl : Nat) (s : State) : (commitSlot sl).run s = (Act.each (slotWords sl) commitWord).run s := rfl

theorem run_commitWords (l : List Nat) (s : State) : ∃ q, (Act.each l commitWord).run s = { s with force := q } ∧
    ∀ a, ((Act.each l commitWord).run s).rdForce a = if a ∈ l then s.rd a else s.rdForce a := by
  induction l generalizing s with
  | nil => exact ⟨s.force, rfl, fun a => rfl⟩
  | cons x l ih =>
    obtain ⟨q, hrun, hforce⟩ := ih ((commitWord x).run s)
    refine ⟨q, hrun, fun a => ?_⟩
    rw [run_each_cons, hforce a, commitWord, run_look, rdForce_inForce, rd_inForce]
    by_cases hl : a ∈ l
    · simp [hl]
    · by_cases hx : a = x
      · simp [hx]
      · simp [hl, hx]

/-! ## One slot and several (R72) -/

/-- Of the registers only EMB_STATUS changes, and a staged word that is in force stays so. -/
structure SlotsKept (s t : State) : Prop where
  rd : ∀ a, a ≠ F.EMB_STATUS_STATE.addr → t.rd a = s.rd a
  inForce : ∀ a, a ≠ F.EMB_STATUS_STATE.addr → s.rdForce a = s.rd a → t.rdForce a = s.rd a
  keep : t.keep = s.keep
  units : t.units = s.units
  flash : t.flash = s.flash

theorem SlotsKept.refl (s : State) : SlotsKept s s := ⟨fun _ _ => rfl, fun _ _ h => h, rfl, rfl, rfl⟩

theorem slotWord_ne {sl a : Nat} (h : a ∈ slotWords sl) : a ≠ F.EMB_STATUS_STATE.addr := by
  simp only [slotWords, List.mem_append, List.mem_map, List.mem_range, List.mem_cons, List.not_mem_nil, or_false,
    F.EMB_SLOT_WINDOW_BYTES, F.EMB_SLOT_CHECK_CHECK, F.EMB_SLOT_CTRL_PIN_EN, F.EMB_STATUS_STATE] at h ⊢
  rcases h with ⟨w, -, h⟩ | h | h <;> omega

/-- The staged words of a slot fail its check. -/
def State.slotFaulty (s : State) (sl : Nat) : Bool := !decide (s.stagedSlotCrc sl = s.get (F.EMB_SLOT_CHECK_CHECK sl))

theorem SlotsKept.slotFaulty {s t : State} (h : SlotsKept s t) (sl : Nat) : t.slotFaulty sl = s.slotFaulty sl := by
  have hget : ∀ f : Field, f.addr ≠ F.EMB_STATUS_STATE.addr → t.get f = s.get f := fun f hf => by rw [State.get, h.rd _ hf]; rfl
  have hcheck := hget (F.EMB_SLOT_CHECK_CHECK sl) (by simp only [F.EMB_SLOT_CHECK_CHECK, F.EMB_STATUS_STATE]; omega)
  have hmask := hget (F.EMB_SLOT_CHECK_MASK sl) (by simp only [F.EMB_SLOT_CHECK_MASK, F.EMB_STATUS_STATE]; omega)
  have hwindow : ∀ w, t.get (F.EMB_SLOT_WINDOW_BYTES sl w) = s.get (F.EMB_SLOT_WINDOW_BYTES sl w) := fun w =>
    hget _ (by simp only [F.EMB_SLOT_WINDOW_BYTES, F.EMB_STATUS_STATE]; omega)
  have hcrc : t.stagedSlotCrc sl = s.stagedSlotCrc sl := by simp only [State.stagedSlotCrc, hmask, hwindow]
  rw [State.slotFaulty, hcrc, hcheck, State.slotFaulty]

theorem put_rdForce (f : Field) (v : Nat) (s : State) (a : Nat) : ((put f v).run s).rdForce a = s.rdForce a := rfl

section
variable (sl : Nat) (s : State)

theorem applySlot_rdForce (a : Nat) :
    ((applySlot sl).run s).rdForce a = if a ∈ slotWords sl then s.rd a else s.rdForce a := by
  obtain ⟨active, hrun⟩ := run_applySlot sl s
  obtain ⟨-, -, hforce⟩ := run_commitWords (slotWords sl) s
  rw [hrun, put_rdForce, put_rdForce, run_commitSlot, hforce a]

theorem applySlot_kept : SlotsKept s ((applySlot sl).run s) := by
  obtain ⟨active, hrun⟩ := run_applySlot sl s
  obtain ⟨q, hcommit, -⟩ := run_commitWords (slotWords sl) s
  refine ⟨fun a ha => ?_, fun a _ ha => ?_, ?_, ?_, ?_⟩
  · rw [hrun, rd_put_other _ (slotFlag F.EMB_STATUS_SLOT_ACTIVE sl) _ ha,
      rd_put_other _ (slotFlag F.EMB_STATUS_SLOT_CHECK_FAULT sl) _ ha, run_commitSlot, hcommit]
    rfl
  · rw [applySlot_rdForce, ha, ite_self]
  · rw [hrun, run_put_keep, run_put_keep, run_commitSlot, hcommit]
  · rw [hrun, run_put_units, run_put_units, run_commitSlot, hcommit]
  · rw [hrun, run_put_flash, run_put_flash, run_commitSlot, hcommit]

/-- Applying a slot shows in its flag whether its staged words fail their check. -/
theorem applySlot_fault (h : sl < 4) : ((applySlot sl).run s).is (slotFlag F.EMB_STATUS_SLOT_CHECK_FAULT sl) = s.slotFaulty sl := by
  obtain ⟨active, hrun⟩ := run_applySlot sl s
  rw [hrun, State.is, get_put_other _ (slotFlag F.EMB_STATUS_SLOT_ACTIVE sl) _ _ (Nat.le_refl _)
    (by simp only [slotFlag, F.EMB_STATUS_SLOT_CHECK_FAULT]; omega)
    (.inr (.inr (by simp only [slotFlag, F.EMB_STATUS_SLOT_CHECK_FAULT, F.EMB_STATUS_SLOT_ACTIVE]; omega)))]
  exact is_put_bit rfl (by simp only [slotFlag, F.EMB_STATUS_SLOT_CHECK_FAULT]; omega) _

/-- The flag of another slot stays. -/
theorem applySlot_fault_other {k : Nat} (hsl : sl < 4) (hk : k < 4) (hne : k ≠ sl) :
    ((applySlot k).run s).is (slotFlag F.EMB_STATUS_SLOT_CHECK_FAULT sl) = s.is (slotFlag F.EMB_STATUS_SLOT_CHECK_FAULT sl) := by
  obtain ⟨active, hrun⟩ := run_applySlot k s
  obtain ⟨q, hcommit, -⟩ := run_commitWords (slotWords k) s
  have hbit : (slotFlag F.EMB_STATUS_SLOT_CHECK_FAULT sl).msb < 64 := by simp only [slotFlag, F.EMB_STATUS_SLOT_CHECK_FAULT]; omega
  rw [hrun, State.is, get_put_other _ (slotFlag F.EMB_STATUS_SLOT_ACTIVE k) _ _ (Nat.le_refl _) hbit
      (.inr (.inr (by simp only [slotFlag, F.EMB_STATUS_SLOT_CHECK_FAULT, F.EMB_STATUS_SLOT_ACTIVE]; omega))),
    get_put_other _ (slotFlag F.EMB_STATUS_SLOT_CHECK_FAULT k) _ _ (Nat.le_refl _) hbit
      (.inr (by simp only [slotFlag, F.EMB_STATUS_SLOT_CHECK_FAULT]; omega)), run_commitSlot, hcommit]
  rfl

end

theorem SlotsKept.trans (s t u : State) (h : SlotsKept s t) (g : SlotsKept t u) : SlotsKept s u :=
  ⟨fun a ha => (g.rd a ha).trans (h.rd a ha),
    fun a ha hf => (g.inForce a ha ((h.inForce a ha hf).trans (h.rd a ha).symm)).trans (h.rd a ha),
    g.keep.trans h.keep, g.units.trans h.units, g.flash.trans h.flash⟩

/-! ## Slots applied in turn -/

theorem applySlots_kept (l : List Nat) : (Act.each l applySlot).brings SlotsKept :=
  brings_each SlotsKept.trans .refl fun sl _ s => applySlot_kept sl s

section
variable {l : List Nat} {sl : Nat}

theorem each_applySlot_inForce (hsl : sl ∈ l) {a : Nat} (ha : a ∈ slotWords sl) (s : State) :
    ((Act.each l applySlot).run s).rdForce a = s.rd a := by
  induction l generalizing s with
  | nil => cases hsl
  | cons k l ih =>
    have hne := slotWord_ne ha
    have hkept := applySlot_kept k s
    rw [run_each_cons]
    rcases List.mem_cons.mp hsl with rfl | hmem
    · have hforce : ((applySlot sl).run s).rdForce a = ((applySlot sl).run s).rd a := by
        rw [applySlot_rdForce, if_pos ha, hkept.rd a hne]
      rw [(applySlots_kept l _).inForce a hne hforce, hkept.rd a hne]
    · rw [ih hmem, hkept.rd a hne]

theorem each_applySlot_fault_other (hl : ∀ k ∈ l, k < 4) (hsl : sl ∉ l) (h : sl < 4) (s : State) :
    ((Act.each l applySlot).run s).is (slotFlag F.EMB_STATUS_SLOT_CHECK_FAULT sl) = s.is (slotFlag F.EMB_STATUS_SLOT_CHECK_FAULT sl) := by
  induction l generalizing s with
  | nil => rfl
  | cons k l ih =>
    obtain ⟨hk, hl⟩ := List.forall_mem_cons.mp hl
    obtain ⟨hne, hsl⟩ := not_or.mp (List.mem_cons.not.mp hsl)
    rw [run_each_cons, ih hl hsl, applySlot_fault_other sl s h hk (Ne.symm hne)]

theorem each_applySlot_fault (hl : ∀ k ∈ l, k < 4) (hsl : sl ∈ l) (s : State) :
    ((Act.each l applySlot).run s).is (slotFlag F.EMB_STATUS_SLOT_CHECK_FAULT sl) = s.slotFaulty sl := by
  induction l generalizing s with
  | nil => cases hsl
  | cons k l ih =>
    have h := hl sl hsl
    obtain ⟨-, htail⟩ := List.forall_mem_cons.mp hl
    rw [run_each_cons]
    by_cases hmem : sl ∈ l
    · rw [ih htail hmem, (applySlot_kept k s).slotFaulty]
    · obtain rfl : sl = k := (List.mem_cons.mp hsl).resolve_right hmem
      rw [each_applySlot_fault_other htail hmem h, applySlot_fault sl s h]

end

/-! ## A pending commit takes effect (R72, R73) -/

/-- What the application of a commit leaves. -/
structure SlotsApplied (s t : State) : Prop where
  pending : t.get F.EMB_STATUS_COMMIT_PENDING = 0
  commit : t.get F.EMB_CTRL_SLOT_COMMIT = 0
  inForce : ∀ sl < 4, ∀ a ∈ slotWords sl, t.rdForce a = s.rd a
  fault : ∀ sl < 4, (t.get F.EMB_STATUS_SLOT_CHECK_FAULT).testBit sl = s.slotFaulty sl
  keep : t.keep = s.keep
  units : t.units = s.units
  rd : ∀ a, ¬ (a = F.EMB_CTRL_SLOT_COMMIT.addr ∨ a = F.EMB_STATUS_COMMIT_PENDING.addr) → t.rd a = s.rd a
  flash : t.flash = s.flash

/-- The window's note that the boundary has passed. -/
def State.slotsMarked (s : State) : State := { s with win := { s.win with marks := (10, 0) :: s.win.marks } }

theorem slotsMarked_kept (s : State) : SlotsKept s s.slotsMarked := ⟨fun _ _ => rfl, fun _ _ h => h, rfl, rfl, rfl⟩

theorem run_slotsMarked (s : State) : (Act.win fun w => { w with marks := (10, 0) :: w.marks }).run s = s.slotsMarked := rfl

theorem run_applySlots {s : State} (h : s.get F.EMB_STATUS_COMMIT_PENDING ≠ 0) : applySlots.run s =
    (put F.EMB_CTRL_SLOT_COMMIT 0).run ((put F.EMB_STATUS_COMMIT_PENDING 0).run
      ((Act.each (List.range 4) applySlot).run s.slotsMarked)) := by
  rw [applySlots, run_look, is_eq_true.mpr h, run_when_true, run_all_cons, run_all_cons, run_all_cons, run_all_cons, run_all_nil,
    run_slotsMarked]

theorem applySlots_applied {s : State} (h : s.get F.EMB_STATUS_COMMIT_PENDING ≠ 0) : SlotsApplied s (applySlots.run s) := by
  have hkept := SlotsKept.trans _ _ _ (slotsMarked_kept s) (applySlots_kept (List.range 4) s.slotsMarked)
  have hforce : ∀ sl < 4, ∀ a ∈ slotWords sl, ((Act.each (List.range 4) applySlot).run s.slotsMarked).rdForce a = s.rd a :=
    fun sl hsl a ha => each_applySlot_inForce (List.mem_range.mpr hsl) ha s.slotsMarked
  have hfault : ∀ sl < 4, ((Act.each (List.range 4) applySlot).run s.slotsMarked).is (slotFlag F.EMB_STATUS_SLOT_CHECK_FAULT sl) =
      s.slotFaulty sl := fun sl hsl => by
    rw [each_applySlot_fault (fun _ => List.mem_range.mp) (List.mem_range.mpr hsl), (slotsMarked_kept s).slotFaulty]
  rw [run_applySlots h]
  generalize (Act.each (List.range 4) applySlot).run s.slotsMarked = u at *
  refine ⟨?_, ?_, fun sl hsl a ha => ?_, fun sl hsl => ?_, ?_, ?_, fun a ha => ?_, ?_⟩
  · rw [get_put_other _ _ _ _ (by decide) (by decide) (by decide), get_put_same _ _ _ (by decide) (by decide)]
    rfl
  · rw [get_put_same _ _ _ (by decide) (by decide)]
    rfl
  · rw [put_rdForce, put_rdForce, hforce sl hsl a ha]
  · rw [get_put_other _ _ _ _ (by decide) (by decide) (by decide), get_put_other _ _ _ _ (by decide) (by decide) (by decide),
      testBit_get (by simp only [F.EMB_STATUS_SLOT_CHECK_FAULT]; omega), hfault sl hsl]
  · rw [run_put_keep, run_put_keep, hkept.keep]
  · rw [run_put_units, run_put_units, hkept.units]
  · obtain ⟨hctrl, hstatus⟩ := not_or.mp ha
    rw [rd_put_other _ _ _ hctrl, rd_put_other _ _ _ hstatus]
    exact hkept.rd a hstatus
  · rw [run_put_flash, run_put_flash, hkept.flash]

/-- A field of a word that is in force as staged. -/
theorem live_of_inForce {s t : State} {f : Field} (h : t.rdForce f.addr = s.rd f.addr) : t.live f = s.get f := by
  rw [State.live, h]
  rfl

section
variable {s t : State} {sl : Nat} (h : SlotsApplied s t) (hsl : sl < 4)
include h hsl

theorem SlotsApplied.live_check : t.live (F.EMB_SLOT_CHECK_CHECK sl) = s.get (F.EMB_SLOT_CHECK_CHECK sl) :=
  live_of_inForce (h.inForce sl hsl _ (by simp [slotWords]))

theorem SlotsApplied.live_mask : t.live (F.EMB_SLOT_CHECK_MASK sl) = s.get (F.EMB_SLOT_CHECK_MASK sl) :=
  live_of_inForce (f := F.EMB_SLOT_CHECK_MASK sl) (h.inForce sl hsl _ (by simp [slotWords, F.EMB_SLOT_CHECK_MASK, F.EMB_SLOT_CHECK_CHECK]))

theorem SlotsApplied.live_pinEn : t.live (F.EMB_SLOT_CTRL_PIN_EN sl) = s.get (F.EMB_SLOT_CTRL_PIN_EN sl) :=
  live_of_inForce (h.inForce sl hsl _ (by simp [slotWords]))

theorem SlotsApplied.live_svcEn : t.live (F.EMB_SLOT_CTRL_SVC_EN sl) = s.get (F.EMB_SLOT_CTRL_SVC_EN sl) :=
  live_of_inForce (f := F.EMB_SLOT_CTRL_SVC_EN sl)
    (h.inForce sl hsl _ (by simp [slotWords, F.EMB_SLOT_CTRL_SVC_EN, F.EMB_SLOT_CTRL_PIN_EN]))

theorem SlotsApplied.live_window {w : Nat} (hw : w < 4) : t.live (F.EMB_SLOT_WINDOW_BYTES sl w) = s.get (F.EMB_SLOT_WINDOW_BYTES sl w) :=
  live_of_inForce (h.inForce sl hsl _ (List.mem_append_left _ (List.mem_map.mpr ⟨w, List.mem_range.mpr hw, rfl⟩)))

end

end Sys2Proof.Machine
end

section
/-! Wake frames (R67, R68, R70, R74 to R76): the causes of a match, and the wake that follows it. -/

namespace Sys2Proof.Machine

/-! ## The causes of a match (R67, R75) -/

/-- The cause bits of the slots, by source. -/
def causeSlots (svc : Bool) : Field := if svc then F.EMB_WAKE_CAUSE_SVC_SLOT else F.EMB_WAKE_CAUSE_PIN_SLOT

/-- The bits of the matching slots are set. -/
def latchSlots (svc : Bool) (slots : List Nat) : Act := Act.each slots (eventBit (causeSlots svc))

theorem causeSlots_addr (svc : Bool) : (causeSlots svc).addr = F.EMB_WAKE_CAUSE_COLD.addr := by cases svc <;> rfl
theorem causeSlots_bit (svc : Bool) {sl : Nat} (h : sl < 4) : (causeSlots svc).lsb + sl ≤ (causeSlots svc).msb := by
  cases svc
  · simp only [causeSlots, F.EMB_WAKE_CAUSE_PIN_SLOT, Bool.false_eq_true, if_false]; omega
  · simp only [causeSlots, F.EMB_WAKE_CAUSE_SVC_SLOT, if_true]; omega
theorem causeSlots_msb (svc : Bool) : (causeSlots svc).msb < 64 := by cases svc <;> decide

theorem latchSlots_tallied (svc : Bool) (slots : List Nat) (s : State) :
    Tallied (fun a => a = F.EMB_WAKE_CAUSE_COLD.addr) s ((latchSlots svc slots).run s) :=
  brings_each (R := Tallied fun a => a = F.EMB_WAKE_CAUSE_COLD.addr) (fun _ _ _ => Tallied.trans) (Tallied.refl _)
    (fun i _ => run_tally (a := eventBit (causeSlots svc) i) ((event_tally _).mpr (causeSlots_addr svc))) s

/-- A cause bit that is set stays set. -/
theorem eventBit_is {f : Field} (hm : f.msb < 64) {i j : Nat} (hj : f.lsb + j ≤ f.msb) {s : State}
    (h : i = j ∨ s.is (slotFlag f j) = true) : ((eventBit f i).run s).is (slotFlag f j) = true := by
  rcases eq_or_ne i j with rfl | hne
  · have hone : ((eventBit f i).run s).get (slotFlag f i) = 1 := get_event_bit rfl (Nat.lt_of_le_of_lt hj hm)
    rw [is_eq_true, hone]
    decide
  · have hother : ((eventBit f i).run s).get (slotFlag f j) = s.get (slotFlag f j) :=
      get_event_other _ _ _ (Nat.le_refl _) (Nat.lt_of_le_of_lt hj hm) (.inr (by simp only [slotFlag]; omega))
    rw [is_eq_true, hother]
    exact is_eq_true.mp (h.resolve_left hne)

/-- The bit of a matching slot is set. -/
theorem latchSlots_bit (svc : Bool) {slots : List Nat} {sl : Nat} (hsl : sl < 4) (h : sl ∈ slots) (s : State) :
    (((latchSlots svc slots).run s).get (causeSlots svc)).testBit sl = true := by
  rw [testBit_get (causeSlots_bit svc hsl)]
  have hkeeps : ∀ (l : List Nat) (s : State), (sl ∈ l ∨ s.is (slotFlag (causeSlots svc) sl) = true) →
      ((latchSlots svc l).run s).is (slotFlag (causeSlots svc) sl) = true := by
    intro l
    induction l with
    | nil => exact fun s h => h.resolve_left List.not_mem_nil
    | cons k l ih =>
      intro s h
      refine ih ((eventBit (causeSlots svc) k).run s) ?_
      by_cases hmem : sl ∈ l
      · exact .inl hmem
      · refine .inr (eventBit_is (causeSlots_msb svc) (causeSlots_bit svc hsl) (h.imp_left fun h => ?_))
        exact ((List.mem_cons.mp h).resolve_right hmem).symm
  exact hkeeps slots s (.inl h)

/-! ## Waking (R67) -/

/-- Ember as a wake leaves it. -/
def Ember.wakes (e : Ember) : Ember := { e.drives .high with wakeWait := false, stuck := false }

/-- Ember is Waking and asks for the main rails. -/
def asksPower : Act := Act.all [put F.EMB_STATUS_STATE embWaking, onEmber Ember.wakes, .win (fun w => { w with woke := true })]

section
variable (s : State)

theorem run_wake : wake.run s =
    (Act.look fun t => Act.when t.coreMayStart (.draw fun w => beginStart { micros := w.toNat % 2 ^ 32 })).run (asksPower.run s) := rfl

theorem asksPower_keep : (asksPower.run s).keep = { s.keep with ember := s.keep.ember.wakes } := rfl
theorem asksPower_flash : (asksPower.run s).flash = s.flash := rfl
theorem asksPower_rd {a : Nat} (h : a ≠ F.EMB_STATUS_STATE.addr) : (asksPower.run s).rd a = s.rd a := rd_put_other s F.EMB_STATUS_STATE _ h
theorem asksPower_get {f : Field} (h : f.addr ≠ F.EMB_STATUS_STATE.addr) : (asksPower.run s).get f = s.get f := by
  rw [State.get, asksPower_rd s h]; rfl
theorem asksPower_ember : (asksPower.run s).ember = embWaking := get_put_same s F.EMB_STATUS_STATE embWaking (by decide) (by decide)
theorem asksPower_mainsValid : (asksPower.run s).mainsValid = s.mainsValid := by
  rw [State.mainsValid, asksPower_get s (by decide)]; rfl

theorem asksPower_coreMayStart : (asksPower.run s).coreMayStart =
    (s.keep.ember.vaon && !s.keep.ember.rstLow && !s.keep.ember.held && s.mainsValid) := by
  rw [State.coreMayStart, asksPower_mainsValid, asksPower_ember, asksPower_keep]
  simp [Ember.wakes, Ember.drives]

end

/-- Without the main rails a wake waits for them. -/
theorem run_wake_waits {s : State} (h : s.mainsValid = false) : wake.run s = asksPower.run s := by
  rw [run_wake, run_look, asksPower_coreMayStart, h, Bool.and_false, run_when_false]

/-- Where the main rails stand a wake starts the core (R67). -/
theorem run_wake_starts {s : State} (hvaon : s.keep.ember.vaon = true) (hrst : s.keep.ember.rstLow = false)
    (hheld : s.keep.ember.held = false) (hmains : s.mainsValid = true) :
    ∃ micros < 2 ^ 32, wake.run s = (beginStart { micros := micros }).run { asksPower.run s with free := (asksPower.run s).free + 1 } := by
  refine ⟨(Config.freeValue (asksPower.run s).free).toNat % 2 ^ 32, Nat.mod_lt _ (by decide), ?_⟩
  rw [run_wake, run_look, asksPower_coreMayStart, hvaon, hrst, hheld, hmains]
  rfl

/-! ## A match (R67, R68, R75, R76) -/

section
variable {svc : Bool} {slots : List Nat} {s : State}

theorem run_wakeMatch_none : (wakeMatch svc []).run s = s := rfl

variable (hslots : slots ≠ []) (hwoke : s.win.woke = false)
include hslots hwoke

theorem run_wakeMatch_dormant (hember : s.ember = embDormant ∨ s.ember = embListening) (hwait : s.keep.ember.wakeWait = false) :
    (wakeMatch svc slots).run s = wake.run ((latchSlots svc slots).run s) := by
  have hempty : slots.isEmpty = false := List.isEmpty_eq_false_iff.mpr hslots
  rw [wakeMatch, run_look]
  rcases hember with hember | hember <;>
    simp [hempty, hwoke, hember, hwait, latchSlots, causeSlots, embActive, embDormant, embListening, embEntering]

theorem run_wakeMatch_entering (hember : s.ember = embEntering) (hstuck : s.keep.ember.stuck = false) :
    (wakeMatch svc slots).run s = (onEmber fun e => { e with wakeWait := true }).run ((latchSlots svc slots).run s) := by
  have hempty : slots.isEmpty = false := List.isEmpty_eq_false_iff.mpr hslots
  rw [wakeMatch, run_look]
  simp [hempty, hwoke, hember, hstuck, latchSlots, causeSlots, embActive, embEntering]

theorem run_wakeMatch_stuck (hember : s.ember = embEntering) (hstuck : s.keep.ember.stuck = true) :
    (wakeMatch svc slots).run s = wake.run ((latchSlots svc slots).run s) := by
  have hempty : slots.isEmpty = false := List.isEmpty_eq_false_iff.mpr hslots
  rw [wakeMatch, run_look]
  simp [hempty, hwoke, hember, hstuck, latchSlots, causeSlots, embActive, embEntering]

end

/-! ## Frames -/

theorem mem_matching {s : State} {svc : Bool} {b : List Byte} {sl : Nat} (hsl : sl < 4) (h : s.slotMatches svc sl b = true) :
    sl ∈ s.matching svc b := List.mem_filter.mpr ⟨List.mem_range.mpr hsl, h⟩

theorem Tallied.matching {P : Nat → Prop} {s t : State} (h : Tallied P s t) (hP : ¬ P F.EMB_STATUS_STATE.addr) (svc : Bool) (b : List Byte) :
    t.matching svc b = s.matching svc b := by
  have hfault : t.get F.EMB_STATUS_SLOT_CHECK_FAULT = s.get F.EMB_STATUS_SLOT_CHECK_FAULT := h.get (f := F.EMB_STATUS_SLOT_CHECK_FAULT) hP
  have hlive : t.live = s.live := funext h.live
  have hliveIs : t.liveIs = s.liveIs := by funext f; rw [State.liveIs, hlive]; rfl
  have hbyte : t.slotByte = s.slotByte := by funext sl i; rw [State.slotByte, hlive]; rfl
  have hslot : ∀ sl, t.slotMatches svc sl b = s.slotMatches svc sl b := fun sl => by
    rw [State.slotMatches, hlive, hliveIs, hbyte, hfault, State.slotMatches]
  simp only [State.matching, hslot]

section
variable {s : State} {train : List (Nat × Nat)} (hvaon : s.keep.ember.vaon = true)
include hvaon

theorem run_wakeFrame_abandoned (htrain : decodeTrain train = [none]) :
    (wakeFrameAct train).run s = (count F.EMB_WAKE_ERRORS_COUNT).run s := by
  rw [wakeFrameAct, run_look, hvaon, run_when_true, htrain]
  rfl

theorem run_wakeFrame_complete {b : List Byte} (htrain : decodeTrain train = [some b]) : (wakeFrameAct train).run s =
    (wakeMatch false (s.matching false b)).run ((count F.EMB_WAKE_FRAMES_COUNT).run s) := by
  have hmatching := (count_tallied F.EMB_WAKE_FRAMES_COUNT s).matching (by decide) false b
  rw [wakeFrameAct, run_look, hvaon, run_when_true, htrain, run_each_cons, run_each_nil]
  simp only [run_seq, run_look, hmatching]

end

end Sys2Proof.Machine
end

section
/-! Wake frames, slot commits and Ember's heartbeat (R63, R67 to R76, R524): the statement. -/

namespace Sys2Proof.Machine

/-! ## What a counted frame leaves -/

/-- What a counter of Ember's leaves. -/
theorem emberCount_frame {f : Field} (h : f.msb = 47 ∧ f.lsb = 0) (ha : f.addr < 0x08000000) (s : State) :
    ((count f).run s).get f = (s.get f + 1) % 2 ^ 48 ∧ ((count f).run s).keep = s.keep ∧ ((count f).run s).out = s.out ∧
      (∀ a, ¬ (a = f.addr ∨ 0x08000000 ≤ a) → ((count f).run s).rd a = s.rd a) ∧ ((count f).run s).flash = s.flash := by
  have ht := count_tallied f s
  refine ⟨get_count_48 h ha, ht.keep, ht.out, fun a hne => ht.rd a ?_, ht.flash⟩
  obtain ⟨hf, hq⟩ := not_or.mp hne
  rintro (e | e)
  exacts [hf e, hq (Nat.le_trans (by decide) e.1)]

/-- A frame that matches is counted, and the bits of its slots are set. -/
def framed (svc : Bool) (b : List Byte) (s : State) : State :=
  (latchSlots svc (s.matching svc b)).run ((count F.EMB_WAKE_FRAMES_COUNT).run s)

/-- What the count of a frame and its causes may change. -/
def ofFrame (a : Nat) : Prop := a = F.EMB_WAKE_FRAMES_COUNT.addr ∨ a = F.EMB_WAKE_CAUSE_COLD.addr ∨ inNotify a

section
variable (svc : Bool) (b : List Byte) (s : State)

theorem framed_tallied : Tallied ofFrame s (framed svc b s) :=
  ((count_tallied _ s).mono fun _ h => h.elim .inl fun hn => .inr (.inr hn)).trans
    ((latchSlots_tallied svc _ _).mono fun _ h => .inr (.inl h))

theorem framed_frames : (framed svc b s).get F.EMB_WAKE_FRAMES_COUNT = (s.get F.EMB_WAKE_FRAMES_COUNT + 1) % 2 ^ 48 := by
  rw [framed, (latchSlots_tallied svc _ _).get (by decide), get_count_48 (by decide) (by decide)]

theorem framed_bit {sl : Nat} (hsl : sl < 4) (h : s.slotMatches svc sl b = true) :
    ((framed svc b s).get (causeSlots svc)).testBit sl = true := latchSlots_bit svc hsl (mem_matching hsl h) _

theorem framed_mainsValid : (framed svc b s).mainsValid = s.mainsValid := by
  rw [State.mainsValid, (framed_tallied svc b s).get (by simp [ofFrame, F.PWR_STATUS_RAIL_OK, F.EMB_WAKE_FRAMES_COUNT, F.EMB_WAKE_CAUSE_COLD, inNotify])]
  rfl

end

/-- Behind the count the machine stands for a match as before. -/
theorem count_frames_stands (s : State) : ((count F.EMB_WAKE_FRAMES_COUNT).run s).ember = s.ember ∧
    ((count F.EMB_WAKE_FRAMES_COUNT).run s).keep = s.keep ∧ ((count F.EMB_WAKE_FRAMES_COUNT).run s).win.woke = s.win.woke :=
  ⟨(count_tallied _ s).get (f := F.EMB_STATUS_STATE) (by decide), (count_tallied _ s).keep, (count_tallied _ s).woke⟩

theorem matching_ne_nil {svc : Bool} {b : List Byte} {s : State} {sl : Nat} (hsl : sl < 4) (hmatch : s.slotMatches svc sl b = true) :
    s.matching svc b ≠ [] := List.ne_nil_of_mem (mem_matching hsl hmatch)

section
variable {svc : Bool} {b : List Byte} {s : State} {sl : Nat} (hwoke : s.win.woke = false) (hsl : sl < 4)
  (hmatch : s.slotMatches svc sl b = true)
include hwoke hsl hmatch

/-- A match in Dormant or Listening dormant, while the main rails are off. -/
theorem wakeMatch_dormant (hember : s.ember = embDormant ∨ s.ember = embListening) (hmains : s.mainsValid = false)
    (hwait : s.keep.ember.wakeWait = false) :
    (wakeMatch svc (s.matching svc b)).run ((count F.EMB_WAKE_FRAMES_COUNT).run s) = asksPower.run (framed svc b s) := by
  obtain ⟨hstate, hkeep, hwin⟩ := count_frames_stands s
  rw [run_wakeMatch_dormant (matching_ne_nil hsl hmatch) (hwin.trans hwoke) (by rwa [hstate]) (by rwa [hkeep])]
  exact run_wake_waits ((framed_mainsValid svc b s).trans hmains)

/-- A match on the way into dormancy. -/
theorem wakeMatch_entering (hember : s.ember = embEntering) (hstuck : s.keep.ember.stuck = false) :
    (wakeMatch svc (s.matching svc b)).run ((count F.EMB_WAKE_FRAMES_COUNT).run s) =
      (onEmber fun e => { e with wakeWait := true }).run (framed svc b s) := by
  obtain ⟨hstate, hkeep, hwin⟩ := count_frames_stands s
  exact run_wakeMatch_entering (matching_ne_nil hsl hmatch) (hwin.trans hwoke) (hstate.trans hember) (by rwa [hkeep])

/-- A match where the main rails never fell. -/
theorem wakeMatch_stuck (hember : s.ember = embEntering) (hstuck : s.keep.ember.stuck = true) :
    (wakeMatch svc (s.matching svc b)).run ((count F.EMB_WAKE_FRAMES_COUNT).run s) = wake.run (framed svc b s) := by
  obtain ⟨hstate, hkeep, hwin⟩ := count_frames_stands s
  exact run_wakeMatch_stuck (matching_ne_nil hsl hmatch) (hwin.trans hwoke) (hstate.trans hember) (by rwa [hkeep])

end

/-- What a match leaves that asks for the main rails. -/
theorem asksPower_framed (svc : Bool) (b : List Byte) {s : State} {sl : Nat} (hvaon : s.keep.ember.vaon = true) (hsl : sl < 4)
    (hmatch : s.slotMatches svc sl b = true) :
    (asksPower.run (framed svc b s)).get F.EMB_WAKE_FRAMES_COUNT = (s.get F.EMB_WAKE_FRAMES_COUNT + 1) % 2 ^ 48 ∧
      ((asksPower.run (framed svc b s)).get (causeSlots svc)).testBit sl = true ∧ (asksPower.run (framed svc b s)).ember = embWaking ∧
      (asksPower.run (framed svc b s)).keep.ember.pwrOn = Drive.high ∧
      (∀ a, ¬ (a = F.EMB_WAKE_FRAMES_COUNT.addr ∨ a = F.EMB_WAKE_CAUSE_PIN_SLOT.addr ∨ a = F.EMB_STATUS_STATE.addr ∨ 0x08000000 ≤ a) →
        (asksPower.run (framed svc b s)).rd a = s.rd a) ∧
      (asksPower.run (framed svc b s)).flash = s.flash := by
  have ht := framed_tallied svc b s
  refine ⟨?_, ?_, asksPower_ember _, ?_, fun a ha => ?_, ?_⟩
  · rw [asksPower_get _ (by decide), framed_frames]
  · rw [asksPower_get _ (by rw [causeSlots_addr]; decide)]
    exact framed_bit svc b s hsl hmatch
  · rw [asksPower_keep, ht.keep]
    simp [Ember.wakes, Ember.drives, hvaon]
  · obtain ⟨hframes, hcause, hstate, hqueues⟩ : _ ∧ _ ∧ _ ∧ _ := by simpa only [not_or] using ha
    rw [asksPower_rd _ hstate]
    exact ht.rd a (by rintro (e | e | e); exacts [hframes e, hcause e, hqueues (Nat.le_trans (by decide) e.1)])
  · rw [asksPower_flash, ht.flash]

/-- A wake where the main rails stand ends with the core up, or its start under way. -/
theorem wake_starts {s : State} (hvaon : s.keep.ember.vaon = true) (hrst : s.keep.ember.rstLow = false)
    (hheld : s.keep.ember.held = false) (hmains : s.mainsValid = true) :
    ((wake.run s).up = true ∨ (wake.run s).keep.ember.starting = true) ∧ (wake.run s).keep.ember.pwrOn = Drive.high ∧
      (wake.run s).rd F.EMB_WAKE_CAUSE_COLD.addr = s.rd F.EMB_WAKE_CAUSE_COLD.addr := by
  obtain ⟨micros, hmicros, hrun⟩ := run_wake_starts hvaon hrst hheld hmains
  have hkeep := asksPower_keep s
  have hcause := asksPower_rd s (a := F.EMB_WAKE_CAUSE_COLD.addr) (by decide)
  generalize asksPower.run s = u at *
  have hkept := beginStart_kept { micros := micros } { u with free := u.free + 1 }
  rw [← hrun] at hkept
  have hword := hkept.rd F.EMB_WAKE_CAUSE_COLD.addr (.inr (.inl rfl)) (by decide)
  refine ⟨?_, ?_, hword.trans hcause⟩
  · by_cases h : micros ≤ 1000000
    · rw [hrun, beginStart, if_pos h]
      exact .inl (localReady_shows hmicros _).1
    · rw [hkept.ember, Ember.afterStart, if_neg h]
      exact .inr rfl
  · rw [hkept.ember, show ({ u with free := u.free + 1 } : State).keep = u.keep from rfl, hkeep]
    unfold Ember.afterStart
    split <;> simp [Ember.atReady, Ember.wakes, Ember.drives, hvaon]

/-! ## The service port (R74) -/

theorem run_svcWakeFrame_listening {s : State} {frame : List Byte} (hvaon : s.keep.ember.vaon = true) (hember : s.ember = embListening)
    (hlen : 46 ≤ frame.length) : (svcWakeFrameAct frame true).run s =
      (wakeMatch true (s.matching true ((frame.drop 14).take 32))).run ((count F.EMB_WAKE_FRAMES_COUNT).run s) := by
  have hlong : ¬ (frame.drop 14).length < 32 := by rw [List.length_drop]; omega
  rw [svcWakeFrameAct, run_look]
  simp only [hvaon, hember, hlong, embListening, embDormant]
  rfl

theorem run_svcWakeFrame_bad {s : State} (frame : List Byte) (hvaon : s.keep.ember.vaon = true) (hember : s.ember = embListening) :
    (svcWakeFrameAct frame false).run s = (count F.EMB_WAKE_ERRORS_COUNT).run s := by
  rw [svcWakeFrameAct, run_look]
  simp only [hvaon, hember, embListening, embDormant]
  rfl

theorem run_svcWakeFrame_not {s : State} {frame : List Byte} {ok : Bool} (h : s.keep.ember.vaon = false ∨ s.ember = embDormant ∨
    (ok = false ∧ s.ember ≠ embListening) ∨ (ok = true ∧ frame.length < 46)) : (svcWakeFrameAct frame ok).run s = s := by
  rw [svcWakeFrameAct, run_look]
  by_cases hdeaf : (!s.keep.ember.vaon || decide (s.ember = embDormant)) = true
  · rw [if_pos hdeaf, run_skip]
  · rw [if_neg hdeaf]
    simp only [Bool.or_eq_true, Bool.not_eq_true', decide_eq_true_eq, not_or, Bool.not_eq_false] at hdeaf
    obtain ⟨hvaon, hdormant⟩ := hdeaf
    rcases h with h | h | ⟨rfl, h⟩ | ⟨rfl, h⟩
    · rw [hvaon] at h; cases h
    · exact absurd h hdormant
    · simp [h]
    · have hshort : (frame.drop 14).length < 32 := by rw [List.length_drop]; omega
      simp only [Bool.not_true, Bool.false_eq_true, if_false, if_pos hshort, run_skip]

/-! ## The wait for the rails, and the heartbeat (R63, R68, R524) -/

theorem run_wakeRailWaitExpiry {s : State} (hwait : s.keep.ember.wakeWait = true) (hember : s.ember = embDormant ∨ s.ember = embListening)
    (htime : s.keep.ember.offAt + 10 * tickMs ≤ s.keep.elapsed) : wakeRailWaitExpiryAct.run s =
      (onEmber fun e => { e.drives .high with wakeWait := false }).run ((put F.EMB_STATUS_STATE embWaking).run s) := by
  have hstate : (decide (s.ember = embDormant) || decide (s.ember = embListening)) = true := by simpa using hember
  rw [wakeRailWaitExpiryAct, run_look, hwait, hstate]
  simp only [ge_iff_le, htime, decide_true, Bool.and_self, run_when_true, run_seq]

theorem run_wakeRailWaitExpiry_not {s : State}
    (h : s.keep.ember.wakeWait = false ∨ s.keep.elapsed < s.keep.ember.offAt + 10 * tickMs) : wakeRailWaitExpiryAct.run s = s := by
  rw [wakeRailWaitExpiryAct, run_look]
  rcases h with h | h
  · simp only [h, Bool.false_and, run_when_false]
  · simp only [ge_iff_le, Nat.not_le.mpr h, decide_false, Bool.and_false, run_when_false]

/-! ## A write of EMB_CTRL (R73) -/

/-- A commit is made pending. -/
def pendSlots : Act := .seq (put F.EMB_CTRL_SLOT_COMMIT 1) (put F.EMB_STATUS_COMMIT_PENDING 1)

/-- A commit while another is pending is discarded. -/
def pendsSlots : Act := .look fun s => Act.when (!s.is F.EMB_STATUS_COMMIT_PENDING) pendSlots

theorem run_pendsSlots {s : State} (h : s.get F.EMB_STATUS_COMMIT_PENDING = 0) : pendsSlots.run s = pendSlots.run s := by
  rw [pendsSlots, run_look, is_eq_false.mpr h]
  rfl

theorem pendSlots_get (s : State) : (pendSlots.run s).get F.EMB_CTRL_SLOT_COMMIT = 1 ∧
    (pendSlots.run s).get F.EMB_STATUS_COMMIT_PENDING = 1 := by
  rw [pendSlots, run_seq]
  constructor
  · rw [get_put_other _ _ _ _ (by decide) (by decide) (by decide), get_put_same _ _ _ (by decide) (by decide)]
    rfl
  · rw [get_put_same _ _ _ (by decide) (by decide)]
    rfl

section
variable {u : State} {w : Nat} {v : Word}

theorem run_slotCommit_alone (hright : u.hasRight w F.EMB_CTRL_SLOT_COMMIT.addr = true) (hstart : getBits v 0 0 = 1)
    (hpending : u.pending = []) : (slotCommitAct w v).run u = pendsSlots.run u := by
  rw [slotCommitAct, run_look, show u.hasRight w 0x00010104 = true from hright, hstart, hpending]
  rfl

/-- In the window of its boundary the pending commit takes effect first (R577). -/
theorem run_slotCommit_boundary (hright : u.hasRight w F.EMB_CTRL_SLOT_COMMIT.addr = true) (hstart : getBits v 0 0 = 1)
    (hpending : u.pending = [.slotCommitApply]) : (slotCommitAct w v).run u = pendsSlots.run (slotCommitApplyAct.run u) := by
  rw [slotCommitAct, run_look, show u.hasRight w 0x00010104 = true from hright, hstart, hpending]
  rfl

theorem run_slotCommit_refused (h : u.hasRight w F.EMB_CTRL_SLOT_COMMIT.addr = false ∨ getBits v 0 0 = 0 ∨
    (u.get F.EMB_STATUS_COMMIT_PENDING ≠ 0 ∧ u.pending = [])) : (slotCommitAct w v).run u = u := by
  by_cases hwrite : u.hasRight w F.EMB_CTRL_SLOT_COMMIT.addr = true ∧ getBits v 0 0 = 1
  · obtain ⟨hright, hstart⟩ := hwrite
    obtain ⟨hset, hnone⟩ : u.get F.EMB_STATUS_COMMIT_PENDING ≠ 0 ∧ u.pending = [] := by simpa [hright, hstart] using h
    rw [run_slotCommit_alone hright hstart hnone, pendsSlots, run_look, is_eq_true.mpr hset]
    rfl
  · have hcond : (u.hasRight w 0x00010104 && decide (getBits v 0 0 = 1)) = false := by
      simpa [F.EMB_CTRL_SLOT_COMMIT] using hwrite
    rw [slotCommitAct, run_look, hcond, run_when_false]

end

theorem run_slotCommitApply {s : State} (h : s.win.marks = []) : slotCommitApplyAct.run s = applySlots.run s := by
  rw [slotCommitApplyAct, run_look, h]
  rfl

theorem run_slotCommitApply_not {s : State} (h : s.get F.EMB_STATUS_COMMIT_PENDING = 0 ∨ s.win.marks.contains (10, 0) = true) :
    slotCommitApplyAct.run s = s := by
  rw [slotCommitApplyAct, run_look]
  rcases h with h | h
  · cases !s.win.marks.contains (10, 0)
    · rfl
    · rw [run_when_true, applySlots, run_look, is_eq_false.mpr h, run_when_false]
  · rw [h]
    rfl

/-! ## The statement -/

/-- Settles O2: each match by what its latch and its wake leave, each commit by the words it puts in force. -/
theorem wakeFramesAndSlots : Obligations.WakeFramesAndSlots := by
  unfold Obligations.WakeFramesAndSlots
  refine ⟨fun s train hvaon htrain => ?abandoned, fun s train b sl hvaon htrain hember hmains hwait hwoke hsl hmatch => ?dormant,
    fun s train b sl hvaon htrain hember hstuck hwoke hsl hmatch => ?entering,
    fun s train b sl hvaon htrain hember hstuck hmains hheld hrst hwoke hsl hmatch => ?stuck,
    fun s train b hvaon htrain hnone => ?noMatch, fun s train hvaon => ?deaf, fun s hvaon => ?abandonment,
    fun s hvaon => ?abandonmentDeaf, fun s frame sl hvaon hember hmains hwait hwoke hlen hsl hmatch => ?service,
    fun s frame hvaon hember => ?serviceBad, fun s frame ok h => congrArg Host.Outcome.next (run_svcWakeFrame_not h),
    fun s hwait hember htime => ?railWait, fun s h => congrArg Host.Outcome.next (run_wakeRailWaitExpiry_not h),
    fun s w v hright hstart hfree hpending hcount => ?commit, fun s w v h hcount => ?commitNot,
    fun s w v sl hright hstart hset hpending hmarks hsl => ?commitAgain, fun s sl hset hmarks hsl => ?apply,
    fun s h => congrArg Host.Outcome.next (run_slotCommitApply_not h), fun s hup hvote => ?heartbeat, fun s h => ?heartbeatNot⟩
  case abandoned =>
    exact ⟨_, congrArg Host.Outcome.next (run_wakeFrame_abandoned hvaon htrain), emberCount_frame (by decide) (by decide) s⟩
  case dormant =>
    have hrun := (run_wakeFrame_complete hvaon htrain).trans (wakeMatch_dormant hwoke hsl hmatch hember hmains hwait)
    exact ⟨_, congrArg Host.Outcome.next hrun, asksPower_framed false b hvaon hsl hmatch⟩
  case entering =>
    have ht := framed_tallied false b s
    have hrun := (run_wakeFrame_complete hvaon htrain).trans (wakeMatch_entering hwoke hsl hmatch hember hstuck)
    refine ⟨_, congrArg Host.Outcome.next hrun, framed_frames false b s, framed_bit false b s hsl hmatch, ?_, ?_, rfl, ht.flash⟩
    · exact (ht.get (f := F.EMB_STATUS_STATE) (by simp [ofFrame, F.EMB_STATUS_STATE, F.EMB_WAKE_FRAMES_COUNT, F.EMB_WAKE_CAUSE_COLD, inNotify])).trans hember
    · rw [run_onEmber_keep, ht.keep]
  case stuck =>
    have hkeep := (framed_tallied false b s).keep
    have hrun := (run_wakeFrame_complete hvaon htrain).trans (wakeMatch_stuck hwoke hsl hmatch hember hstuck)
    obtain ⟨hstarts, hpwr, hcause⟩ := wake_starts (s := framed false b s) (by rwa [hkeep]) (by rwa [hkeep]) (by rwa [hkeep])
      ((framed_mainsValid false b s).trans hmains)
    refine ⟨_, congrArg Host.Outcome.next hrun, ?_, hpwr, hstarts⟩
    rw [State.get, show F.EMB_WAKE_CAUSE_PIN_SLOT.addr = F.EMB_WAKE_CAUSE_COLD.addr from rfl, hcause]
    exact framed_bit false b s hsl hmatch
  case noMatch =>
    have hrun := run_wakeFrame_complete hvaon htrain
    rw [hnone, run_wakeMatch_none] at hrun
    obtain ⟨hcount, hkeep, -, hrd, hflash⟩ := emberCount_frame (f := F.EMB_WAKE_FRAMES_COUNT) (by decide) (by decide) s
    exact ⟨_, congrArg Host.Outcome.next hrun, hcount, hkeep, hrd, hflash⟩
  case deaf =>
    refine congrArg Host.Outcome.next ?_
    rw [wakeFrameAct, run_look, hvaon, run_when_false]
  case abandonment =>
    refine ⟨_, congrArg Host.Outcome.next (?_ : wakeFrameAbandonmentAct.run s = (count F.EMB_WAKE_ERRORS_COUNT).run s),
      emberCount_frame (by decide) (by decide) s⟩
    rw [wakeFrameAbandonmentAct, run_look, hvaon, run_when_true]
  case abandonmentDeaf =>
    refine congrArg Host.Outcome.next ?_
    rw [wakeFrameAbandonmentAct, run_look, hvaon, run_when_false]
  case service =>
    have hrun := (run_svcWakeFrame_listening hvaon hember hlen).trans (wakeMatch_dormant hwoke hsl hmatch (.inr hember) hmains hwait)
    obtain ⟨hframes, hbit, hwaking, hpwr, -, hflash⟩ := asksPower_framed true ((frame.drop 14).take 32) hvaon hsl hmatch
    exact ⟨_, congrArg Host.Outcome.next hrun, hframes, hbit, hwaking, hpwr, hflash⟩
  case serviceBad =>
    obtain ⟨hcount, hkeep, -, hrd, hflash⟩ := emberCount_frame (f := F.EMB_WAKE_ERRORS_COUNT) (by decide) (by decide) s
    exact ⟨_, congrArg Host.Outcome.next (run_svcWakeFrame_bad frame hvaon hember), hcount, hkeep, hrd, hflash⟩
  case railWait =>
    refine ⟨_, congrArg Host.Outcome.next (run_wakeRailWaitExpiry hwait hember htime), ?_, rfl, rfl, rfl, fun a ha => ?_, rfl⟩
    · rw [State.ember, run_onEmber_get, get_put_same _ _ _ (by decide) (by decide)]
      rfl
    · rw [run_onEmber_rd, rd_put_other _ _ _ ha]
  case commit =>
    obtain ⟨u, hu, hunits, hrun⟩ := run_adjusts_below_half w F.EMB_CTRL_SLOT_COMMIT (slotCommitAct w v) hcount
    have hfree' : u.get F.EMB_STATUS_COMMIT_PENDING = 0 := (hu.get (by decide)).trans hfree
    rw [run_slotCommit_alone ((hu.hasRight w _).trans hright) hstart (hu.pending.trans hpending), run_pendsSlots hfree'] at hrun
    refine ⟨_, congrArg Host.Outcome.next hrun, (pendSlots_get u).1, (pendSlots_get u).2, hu.keep, hunits, fun a ha => ?_, hu.flash⟩
    obtain ⟨hctrl, hstatus, hwrites⟩ : _ ∧ _ ∧ _ := by simpa only [not_or] using ha
    rw [pendSlots, run_seq, rd_put_other _ _ _ hstatus, rd_put_other _ _ _ hctrl, hu.rd a hwrites]
  case commitNot =>
    obtain ⟨u, hu, hunits, hrun⟩ := run_adjusts_below_half w F.EMB_CTRL_SLOT_COMMIT (slotCommitAct w v) hcount
    rw [run_slotCommit_refused (by rwa [hu.hasRight, hu.get (by decide), hu.pending])] at hrun
    exact ⟨u, congrArg Host.Outcome.next hrun, refused_frame hu hunits⟩
  case commitAgain =>
    obtain ⟨u, hu, hrun⟩ := run_adjusts w F.EMB_CTRL_SLOT_COMMIT (slotCommitAct w v) s
    have hset' : u.get F.EMB_STATUS_COMMIT_PENDING ≠ 0 := by rwa [hu.get (not_ofWriteCount (by decide))]
    have happlied := applySlots_applied hset'
    rw [run_slotCommit_boundary ((hu.hasRight w _).trans hright) hstart (hu.pending.trans hpending),
      run_slotCommitApply (hu.marks.trans hmarks), run_pendsSlots happlied.pending] at hrun
    have hcheck : u.get (F.EMB_SLOT_CHECK_CHECK sl) = s.get (F.EMB_SLOT_CHECK_CHECK sl) :=
      hu.get (not_ofWriteCount (by simp only [F.EMB_SLOT_CHECK_CHECK]; omega))
    refine ⟨_, congrArg Host.Outcome.next hrun, (pendSlots_get _).2, ?_, ?_⟩
    · exact (happlied.live_check hsl).trans hcheck
    · exact happlied.flash.trans hu.flash
  case apply =>
    have h := applySlots_applied hset
    refine ⟨_, congrArg Host.Outcome.next (run_slotCommitApply hmarks), h.pending, h.commit, h.live_check hsl, h.live_mask hsl,
      h.live_pinEn hsl, h.live_svcEn hsl, ?_, h.keep, h.units, fun w hw => h.live_window hsl hw, h.rd, h.flash⟩
    rw [h.fault sl hsl, State.slotFaulty, decide_not]
  case heartbeat =>
    have hrun : emberHeartbeatAct.run s = (onEmber fun e => { e with watchdog := e.watchdog.map (fun _ => s.keep.elapsed) }).run s := by
      rw [emberHeartbeatAct, run_look, hup, hvote]
      rfl
    exact ⟨_, congrArg Host.Outcome.next hrun, rfl, rfl, rfl, rfl, rfl⟩
  case heartbeatNot =>
    refine congrArg Host.Outcome.next ?_
    have hcond : (s.up && !s.units.sup.voteFailed) = false := by rcases h with h | h <;> simp [h]
    rw [emberHeartbeatAct, run_look, hcond, run_when_false]

end Sys2Proof.Machine
end

section
/-! What the operations of Image.lean leave (R82, R83, R101, R108): bytes written to the flash, marks, and the flags and
results shown. -/

namespace Sys2Proof.Machine

/-! ## Bytes written in turn -/

section
variable {α : Type} (l : List α) (f : α → Nat) (g : α → Byte)

/-- Writing bytes changes the flash alone. -/
theorem run_each_flash (s : State) : ∃ q, (Act.each l fun x => .flash (f x) (g x)).run s = { s with flash := q } := by
  induction l generalizing s with
  | nil => exact ⟨s.flash, rfl⟩
  | cons x l ih => exact ih _

variable {l f} in
theorem flashByte_each_other {a : Nat} (h : ∀ x ∈ l, f x ≠ a) (s : State) :
    ((Act.each l fun x => .flash (f x) (g x)).run s).flashByte a = s.flashByte a := by
  induction l generalizing s with
  | nil => rfl
  | cons x l ih =>
    rw [run_each_cons, ih (fun y hy => h y (List.mem_cons_of_mem x hy)), flashByte_flash, if_neg (h x List.mem_cons_self).symm]

variable {l f g} in
/-- An address that is written reads the byte that all its writes agree on. -/
theorem flashByte_each_same {a : Nat} {b : Byte} (hex : ∃ x ∈ l, f x = a) (hall : ∀ x ∈ l, f x = a → g x = b) (s : State) :
    ((Act.each l fun x => .flash (f x) (g x)).run s).flashByte a = b := by
  induction l generalizing s with
  | nil => simp at hex
  | cons x l ih =>
    rw [run_each_cons]
    by_cases hlater : ∃ y ∈ l, f y = a
    · exact ih hlater (fun y hy => hall y (List.mem_cons_of_mem x hy)) _
    · have hx : f x = a := by
        obtain ⟨y, hy, hya⟩ := hex
        rcases List.mem_cons.mp hy with rfl | hy
        · exact hya
        · exact absurd ⟨y, hy, hya⟩ hlater
      rw [flashByte_each_other g fun y hy e => hlater ⟨y, hy, e⟩, flashByte_flash, if_pos hx.symm]
      exact hall x List.mem_cons_self hx

end

theorem flashByte_congr {s t : State} (h : t.flash = s.flash) (a : Nat) : t.flashByte a = s.flashByte a := by
  rw [State.flashByte, h]; rfl

/-! ## Marks (R83) -/

theorem run_mark (slot w : Nat) (s : State) : ∃ q, (mark slot w).run s = { s with flash := q } := run_flashStore _ _ s

theorem marked_mark (slot w : Nat) (s : State) : ((mark slot w).run s).marked slot w = true :=
  marked_of_zero fun _ => flashByte_mark slot w s

theorem flashByte_mark_other {slot w a : Nat} (h : a < stateWord slot w ∨ stateWord slot w + 4 ≤ a) (s : State) :
    ((mark slot w).run s).flashByte a = s.flashByte a := by
  refine flashByte_each_other (fun x : Nat × Byte => x.2) (fun x hx => ?_) s
  have hlt : x.1 < 4 := by simpa using (List.of_mem_zip hx).1
  omega

/-! ## Flags and generations shown (R81) -/

/-- The words that show the slots. -/
def ofSlots (a : Nat) : Prop := 0x00020020 ≤ a ∧ a < 0x00020040

theorem showSlots_within : showSlots.within ofSlots := fun s => Act.within_each fun slot hslot => by
  have hlt : slot < 2 := by simpa [Nat.lt_succ_iff, Nat.le_one_iff_eq_zero_or_eq_one] using hslot
  have hput : ∀ m l v, (put ⟨0x00020020 + 0x10 * slot, m, l⟩ v).within ofSlots := fun m l v =>
    put_in v ⟨Nat.le_add_right _ _, show 0x00020020 + 0x10 * slot < 0x00020040 by omega⟩
  exact ⟨hput _ _ _, hput _ _ _, hput _ _ _, hput _ _ _, trivial⟩

theorem showSlots_rd {a : Nat} (h : ¬ ofSlots a) (s : State) : (showSlots.run s).rd a = s.rd a := rd_within showSlots_within h s
theorem showSlots_get {f : Field} (h : ¬ ofSlots f.addr) (s : State) : (showSlots.run s).get f = s.get f :=
  get_within showSlots_within h s

/-- Nothing but registers differs. -/
def RegsOnly (s t : State) : Prop := ∃ r, t = { s with regs := r }

theorem RegsOnly.refl (s : State) : RegsOnly s s := ⟨s.regs, rfl⟩
theorem RegsOnly.trans (s t u : State) : RegsOnly s t → RegsOnly t u → RegsOnly s u := by
  rintro ⟨r, rfl⟩ ⟨q, rfl⟩
  exact ⟨q, rfl⟩

theorem put_regsOnly (f : Field) (v : Nat) : (put f v).brings RegsOnly := fun _ => ⟨_, rfl⟩

theorem run_showSlots (s : State) : RegsOnly s (showSlots.run s) := by
  refine brings_look (fun s => brings_each RegsOnly.trans .refl fun slot _ => brings_all RegsOnly.trans .refl fun a ha => ?_) s
  simp only [List.mem_cons, List.not_mem_nil, or_false] at ha
  rcases ha with rfl | rfl | rfl | rfl <;> exact put_regsOnly _ _

@[simp] theorem showSlots_units (s : State) : (showSlots.run s).units = s.units := by obtain ⟨r, hr⟩ := run_showSlots s; rw [hr]
@[simp] theorem showSlots_keep (s : State) : (showSlots.run s).keep = s.keep := by obtain ⟨r, hr⟩ := run_showSlots s; rw [hr]
@[simp] theorem showSlots_out (s : State) : (showSlots.run s).out = s.out := by obtain ⟨r, hr⟩ := run_showSlots s; rw [hr]
@[simp] theorem showSlots_flash (s : State) : (showSlots.run s).flash = s.flash := by obtain ⟨r, hr⟩ := run_showSlots s; rw [hr]

theorem not_ofSlots {a : Nat} (h : a < 0x00020020 ∨ 0x00020040 ≤ a) : ¬ ofSlots a := by
  simp only [ofSlots]
  omega

/-! ## Results (R109) -/

section
variable {result : Nat} (hresult : result < 256) (s : State)

theorem imgDone_tally (result : Nat) : (imgDone result).tally (· = F.IMG_WRITE_STATUS_DONE.addr) := by
  simp only [imgDone, Act.tally_seq, put_tally, event_tally]
  exact ⟨rfl, trivial⟩

theorem imgDone_done (result : Nat) : ((imgDone result).run s).get F.IMG_WRITE_STATUS_DONE = 1 := get_event_bit rfl (by decide)

include hresult in
theorem imgDone_result : ((imgDone result).run s).get F.IMG_WRITE_STATUS_RESULT = result := by
  rw [imgDone, run_seq, get_event_other _ _ _ (by decide) (by decide) (by decide), get_put_same _ _ _ (by decide) (by decide)]
  exact Nat.mod_eq_of_lt hresult

theorem imgDone_busy (result : Nat) : ((imgDone result).run s).get F.IMG_WRITE_STATUS_BUSY = s.get F.IMG_WRITE_STATUS_BUSY := by
  rw [imgDone, run_seq, get_event_other _ _ _ (by decide) (by decide) (by decide),
    get_put_other _ _ _ _ (by decide) (by decide) (by decide)]

theorem imgDone_units (result : Nat) : ((imgDone result).run s).units = s.units := rfl

end

/-! ## Image registers and the count of writes (R107) -/

theorem not_ofWriteCount_image {a : Nat} (h : a < 0x00020058) : ¬ ofWriteCount a := by
  simp only [ofWriteCount, inNotify, F.IMG_VOLATILE_WRITES_COUNT]
  omega

/-- The frame of a statement on counted writes leaves out all that the count may change. -/
theorem not_ofWriteCount_frame {a : Nat} (hcount : a ≠ F.IMG_VOLATILE_WRITES_COUNT.addr) (hqueues : ¬ 0x08000000 ≤ a) : ¬ ofWriteCount a := by
  rintro (e | e)
  exacts [hcount e, hqueues (Nat.le_trans (by decide) e.1)]

section
variable {P : Nat → Prop} {s t : State} (h : Tallied P s t)
include h

theorem Tallied.imgOp : t.units.imgOp = s.units.imgOp := congrArg (·.units.imgOp) h.rest
theorem Tallied.imgRaise : t.units.imgRaise = s.units.imgRaise := congrArg (·.units.imgRaise) h.rest
theorem Tallied.marked (slot w : Nat) : t.marked slot w = s.marked slot w := marked_congr h.flash slot w

theorem Tallied.runningSlot (hstatus : ¬ P F.IMG_STATUS_STATE.addr) : t.runningSlot = s.runningSlot := by
  have hslot : t.get F.IMG_STATUS_RUNNING_SLOT = s.get F.IMG_STATUS_RUNNING_SLOT := h.get hstatus
  simp only [State.runningSlot, h.get hstatus, hslot]

theorem Tallied.confirms (hstatus : ¬ P F.IMG_STATUS_STATE.addr) (w : Nat) (v : Word) : t.confirms w v = s.confirms w v := by
  simp only [State.confirms, h.get hstatus]

end

end Sys2Proof.Machine
end

section
/-! Confirming the running trial (R101 to R103). -/

namespace Sys2Proof.Machine

/-- The floor that a confirmation raises to, if it raises it. -/
def State.raisedFloor (s : State) : Option Nat :=
  match s.units.imgRaise with
  | some v => if v > s.keep.floor ∧ s.keep.raises < 64 then some v else none
  | none => none

/-- Raises the floor and spends a raise (R103). -/
def raiseFloor (floor : Option Nat) (raises : Nat) : Act :=
  match floor with
  | some v => Act.all [
      .keep (fun k => { k with floor := v, raises := k.raises + 1 }),
      put F.IMG_SECURITY_FLOOR v,
      put F.IMG_SECURITY_RAISES_USED (raises + 1)]
  | none => .skip

/-- The marked and shown state of a confirmation, before the floor. -/
def State.confirmed (s : State) : State :=
  (Act.units fun u => { u with imgDeadline := none }).run
    ((put F.IMG_STATUS_STATE 1).run ((mark (s.get F.IMG_STATUS_RUNNING_SLOT) 2).run s))

theorem run_confirmImage (s : State) :
    confirmImage.run s = showSlots.run ((raiseFloor s.raisedFloor s.keep.raises).run s.confirmed) := by
  simp only [confirmImage, run_look, run_all_cons, run_all_nil]
  exact congrArg showSlots.run rfl

theorem raiseFloor_within (floor : Option Nat) (raises : Nat) : (raiseFloor floor raises).within (· = F.IMG_SECURITY_FLOOR.addr) := by
  cases floor with
  | none => trivial
  | some v => exact ⟨trivial, put_within _ _, put_within _ _, trivial⟩

theorem raiseFloor_units (floor : Option Nat) (raises : Nat) (s : State) : ((raiseFloor floor raises).run s).units = s.units := by
  cases floor <;> rfl
theorem raiseFloor_flash (floor : Option Nat) (raises : Nat) (s : State) : ((raiseFloor floor raises).run s).flash = s.flash := by
  cases floor <;> rfl
theorem raiseFloor_floor (floor : Option Nat) (raises : Nat) (s : State) :
    ((raiseFloor floor raises).run s).keep.floor = floor.getD s.keep.floor := by
  cases floor <;> rfl

section
variable (s : State)

theorem confirmImage_rd {a : Nat} (h : ¬ (0x00020000 ≤ a ∧ a < 0x00020040)) : (confirmImage.run s).rd a = s.rd a := by
  obtain ⟨q, hq⟩ := run_mark (s.get F.IMG_STATUS_RUNNING_SLOT) 2 s
  have hstate : a ≠ F.IMG_STATUS_STATE.addr := by rintro rfl; exact h (by decide)
  have hfloor : a ≠ F.IMG_SECURITY_FLOOR.addr := by rintro rfl; exact h (by decide)
  rw [run_confirmImage, showSlots_rd (fun ho => h ⟨Nat.le_trans (by decide) ho.1, ho.2⟩), rd_within (raiseFloor_within _ _) hfloor,
    State.confirmed, rd_units, rd_put_other _ _ _ hstate, hq]
  rfl

theorem confirmImage_state : (confirmImage.run s).get F.IMG_STATUS_STATE = 1 := by
  rw [run_confirmImage, showSlots_get (not_ofSlots (by decide)), get_within (raiseFloor_within _ _) (by decide)]
  exact get_put_same _ F.IMG_STATUS_STATE 1 (by decide) (by decide)

theorem confirmImage_deadline : (confirmImage.run s).units.imgDeadline = none := by
  rw [run_confirmImage, showSlots_units, raiseFloor_units]
  rfl

theorem confirmImage_flash : (confirmImage.run s).flash = ((mark (s.get F.IMG_STATUS_RUNNING_SLOT) 2).run s).flash := by
  rw [run_confirmImage, showSlots_flash, raiseFloor_flash]
  rfl

theorem confirmImage_floor : (confirmImage.run s).keep.floor = s.raisedFloor.getD s.keep.floor := by
  obtain ⟨q, hq⟩ := run_mark (s.get F.IMG_STATUS_RUNNING_SLOT) 2 s
  rw [run_confirmImage, showSlots_keep, raiseFloor_floor, State.confirmed, hq]
  rfl

end

/-! ## IMG_CONFIRM (R101) -/

section
variable {s : State} {w : Nat} {v : Word}

theorem confirms_iff : s.confirms w v = true ↔ w = 0 ∧ getBits v 0 0 = 1 ∧ getBits v 31 16 = 0xA5C3 ∧ s.get F.IMG_STATUS_STATE = 2 := by
  simp only [State.confirms, Bool.and_eq_true, decide_eq_true_eq, and_assoc]

theorem run_imgConfirm_taken (hup : s.up = true) (h : s.confirms w v = true) : (imgConfirmAct w v).run s = confirmImage.run s := by
  rw [imgConfirmAct, run_look, hup, h, Bool.and_self, run_when_true]

theorem run_imgConfirm_ignored (h : s.up = false ∨ s.confirms w v = false) : (imgConfirmAct w v).run s = s := by
  have hcond : (s.up && s.confirms w v) = false := by rcases h with h | h <;> simp [h]
  rw [imgConfirmAct, run_look, hcond, run_when_false]

/-- A confirmation that takes effect confirms the state that the count of its write leaves. -/
theorem exec_imgConfirm (hup : s.up = true) (h : s.confirms w v = true) :
    ∃ u, Tallied ofWriteCount s u ∧ exec (.imgConfirm w v) s = .next (confirmImage.run u) := by
  obtain ⟨u, hu, hrun⟩ := run_adjusts w F.IMG_CTRL_CONFIRM (imgConfirmAct w v) s
  rw [run_imgConfirm_taken ((hu.up (not_ofWriteCount (by decide))).trans hup)
    ((hu.confirms (not_ofWriteCount_image (by decide)) w v).trans h)] at hrun
  exact ⟨u, hu, congrArg Host.Outcome.next hrun⟩

end

/-! ## The deadline of a confirmation (R102) -/

/-- A confirmation that waits in the window puts off the expiry. -/
theorem run_confirmWindowExpiry_pending {s : State} (run : StartRun) (h : s.confirmPending = true) : (confirmWindowExpiryAct run).run s = s := by
  rw [confirmWindowExpiryAct, run_look]
  cases s.units.imgDeadline with
  | none => rfl
  | some d => simp only [h, Bool.not_true, Bool.and_false, run_when_false]

/-- Settles O59: the waiting confirmation puts off the expiry, and taken next it confirms a device that is up. -/
theorem confirmationAtTheDeadline : Obligations.ConfirmationAtTheDeadline := by
  unfold Obligations.ConfirmationAtTheDeadline
  intro s v run rest hup hconfirms hpending
  have hwaits : s.confirmPending = true := by
    rw [State.confirmPending, Bool.or_eq_true]
    exact .inl (List.any_eq_true.mpr ⟨.imgConfirm 0 v, hpending ▸ List.mem_cons_self, hconfirms⟩)
  refine ⟨congrArg Host.Outcome.next (run_confirmWindowExpiry_pending run hwaits), ?_⟩
  obtain ⟨u, hu, hexec⟩ := exec_imgConfirm (s := { s with pending := rest }) hup hconfirms
  have hready : (confirmImage.run u).up = u.up := by
    rw [State.up, State.is, State.get, confirmImage_rd u (by decide)]
    rfl
  exact ⟨_, hexec, hready.trans ((hu.up (not_ofWriteCount (by decide))).trans hup), confirmImage_state u, confirmImage_deadline u⟩

end Sys2Proof.Machine
end

section
/-! IMG_ERASE, IMG_MARK and IMG_RETIRE (R108, R109): the write of IMG_WRITE_CMD. -/

namespace Sys2Proof.Machine

/-! ## What refuses a command (R109) -/

/-- The RESULT with which a write of IMG_WRITE_CMD that starts a command is refused; 0 for none. -/
def State.imgRefusal (s : State) (w : Nat) (v : Word) : Nat :=
  if w ≠ 0 || getBits v 31 16 ≠ 0xA5C3 then 0x15
  else if s.is F.IMG_WRITE_STATUS_BUSY then 0x13
  else if getBits v 3 1 = 0 || decide (getBits v 3 1 > 3) || s.runningSlot = some (getBits v 8 8) ||
    (getBits v 3 1 = 2 && s.marked (getBits v 8 8) 0 && !s.marked (getBits v 8 8) 3) then 0x12
  else 0

section
variable {s : State} {w : Nat} {v : Word}

theorem imgRefusal_rights (h : w ≠ 0 ∨ getBits v 31 16 ≠ 0xA5C3) : s.imgRefusal w v = 0x15 := by
  have hcond : (decide (w ≠ 0) || decide (getBits v 31 16 ≠ 0xA5C3)) = true := by simpa using h
  rw [State.imgRefusal, if_pos hcond]

variable (hkey : getBits v 31 16 = 0xA5C3)
include hkey

theorem imgRefusal_busy (hbusy : s.get F.IMG_WRITE_STATUS_BUSY = 1) : s.imgRefusal 0 v = 0x13 := by
  have hb : s.is F.IMG_WRITE_STATUS_BUSY = true := is_eq_true.mpr (by omega)
  simp [State.imgRefusal, hkey, hb]

variable (hidle : s.get F.IMG_WRITE_STATUS_BUSY = 0)
include hidle

theorem imgRefusal_slot (h : s.runningSlot = some (getBits v 8 8) ∨
    (getBits v 3 1 = 2 ∧ s.marked (getBits v 8 8) 0 = true ∧ s.marked (getBits v 8 8) 3 = false)) : s.imgRefusal 0 v = 0x12 := by
  have hb : s.is F.IMG_WRITE_STATUS_BUSY = false := is_eq_false.mpr hidle
  rcases h with hrun | ⟨hcmd, hwritten, hretired⟩
  · simp [State.imgRefusal, hkey, hb, hrun]
  · simp [State.imgRefusal, hkey, hb, hcmd, hwritten, hretired]

theorem imgRefusal_none {k : Nat} (hcmd : getBits v 3 1 = k) (hk : 1 ≤ k ∧ k ≤ 3) (hrun : s.runningSlot ≠ some (getBits v 8 8))
    (hmark : k = 2 → s.marked (getBits v 8 8) 0 = false ∨ s.marked (getBits v 8 8) 3 = true) : s.imgRefusal 0 v = 0 := by
  have hb : s.is F.IMG_WRITE_STATUS_BUSY = false := is_eq_false.mpr hidle
  have hslot : (decide (k = 2) && s.marked (getBits v 8 8) 0 && !s.marked (getBits v 8 8) 3) = false := by
    by_cases h2 : k = 2
    · rcases hmark h2 with h | h <;> simp [h]
    · simp [h2]
  simp [State.imgRefusal, hkey, hb, hcmd, hrun, hslot, show k ≠ 0 by omega, show ¬ 3 < k by omega]

end

theorem Tallied.imgRefusal {s u : State} (h : Tallied ofWriteCount s u) (w : Nat) (v : Word) : u.imgRefusal w v = s.imgRefusal w v := by
  simp only [State.imgRefusal, h.is (not_ofWriteCount_image (a := F.IMG_WRITE_STATUS_BUSY.addr) (by decide)),
    h.runningSlot (not_ofWriteCount_image (by decide)), h.marked]

/-! ## The run of a command -/

/-- The operation that a write of IMG_WRITE_CMD names. -/
def imgNamed (v : Word) : ImgOp :=
  if getBits v 3 1 = 1 then .erase (getBits v 8 8) else if getBits v 3 1 = 2 then .mark (getBits v 8 8) else .retire (getBits v 8 8)

/-- SLOT and CMD of a write by T0. -/
def imgShown (w : Nat) (v : Word) : Act := Act.when (w = 0)
  (.seq (put F.IMG_WRITE_CMD_SLOT (getBits v 8 8)) (put F.IMG_WRITE_CMD_CMD (getBits v 3 1)))

/-- The row of command `k`: a write of IMG_WRITE_CMD with that CMD. -/
def imgWrite (k w : Nat) (v : Word) : Act := adjusts w F.IMG_WRITE_CMD_CMD (Act.when (getBits v 3 1 = k) (imgCommand w v))

theorem exec_imgErase (w : Nat) (v : Word) (s : State) : exec (.imgErase w v) s = .next ((imgWrite 1 w v).run s) := rfl
theorem exec_imgMark (w : Nat) (v : Word) (s : State) : exec (.imgMark w v) s = .next ((imgWrite 2 w v).run s) := rfl
theorem exec_imgRetire (w : Nat) (v : Word) (s : State) : exec (.imgRetire w v) s = .next ((imgWrite 3 w v).run s) := rfl

theorem imgShown_tally (w : Nat) (v : Word) : (imgShown w v).tally (· = F.IMG_WRITE_CMD_CMD.addr) := by
  simp only [imgShown, Act.tally_when, Act.tally_seq, put_tally]
  exact fun _ => ⟨rfl, trivial⟩

section
variable {s : State} {k w : Nat} {v : Word}

theorem run_imgCommand (hup : s.up = true) (hstart : getBits v 0 0 = 1) : (imgCommand w v).run s =
    (Act.when (s.imgRefusal w v = 0 && (getBits v 3 1 = 1 || getBits v 3 1 = 3)) (.seq (mark (getBits v 8 8) 3) showSlots)).run
      ((imgStart (s.imgRefusal w v) (imgNamed v)).run ((imgShown w v).run s)) := by
  rw [imgCommand, run_look]
  simp only [hup, hstart, decide_true, run_when_true, run_all_cons, run_all_nil]
  rfl

/-- A command of a device that is up runs on the state that the count of its write leaves. -/
theorem run_imgWrite (hup : s.up = true) (hcmd : getBits v 3 1 = k) :
    ∃ u, Tallied ofWriteCount s u ∧ u.up = true ∧ (imgWrite k w v).run s = (imgCommand w v).run u := by
  obtain ⟨u, hu, hrun⟩ := run_adjusts w F.IMG_WRITE_CMD_CMD (Act.when (getBits v 3 1 = k) (imgCommand w v)) s
  rw [hcmd, decide_eq_true rfl, run_when_true] at hrun
  exact ⟨u, hu, (hu.up (not_ofWriteCount (by decide))).trans hup, by rw [imgWrite, hcmd, decide_eq_true rfl]; exact hrun⟩

/-! ## Commands that change nothing but the answer -/

/-- What a refused command or page leaves: its RESULT with DONE, and the rest but the registers of `P`. -/
def ImgRefused (P : Nat → Prop) (result : Nat) (s t : State) : Prop :=
  t.get F.IMG_WRITE_STATUS_RESULT = result ∧ t.get F.IMG_WRITE_STATUS_DONE = 1 ∧ t.units.imgOp = s.units.imgOp ∧ t.keep = s.keep ∧
    (∀ a, ¬ P a → t.rd a = s.rd a) ∧ t.flash = s.flash

theorem imgDone_refused {P : Nat → Prop} {u : State} {result : Nat} (hresult : result < 256) (hu : Tallied P s u)
    (hP : P F.IMG_WRITE_STATUS_DONE.addr) : ImgRefused P result s ((imgDone result).run u) := by
  have h := hu.trans (run_tally (Act.tally_mono (fun _ ha => ha ▸ hP) (imgDone_tally result)) u)
  exact ⟨imgDone_result hresult u, imgDone_done u result, h.imgOp, h.keep, h.rd, h.flash⟩

/-- The registers that a write of IMG_WRITE_CMD may change beside those of the slots. -/
def ofImgWrite (a : Nat) : Prop := a = F.IMG_WRITE_CMD_CMD.addr ∨ a = F.IMG_WRITE_STATUS_DONE.addr ∨
  a = F.IMG_VOLATILE_WRITES_COUNT.addr ∨ 0x08000000 ≤ a

theorem ofImgWrite_of_count {a : Nat} (h : ofWriteCount a) : ofImgWrite a :=
  h.elim (fun e => .inr (.inr (.inl e))) fun hq => .inr (.inr (.inr (Nat.le_trans (by decide) hq.1)))

/-- The count of a write and SLOT and CMD are tallies. -/
theorem imgShown_tallied {u : State} (hu : Tallied ofWriteCount s u) (w : Nat) (v : Word) : Tallied ofImgWrite s ((imgShown w v).run u) :=
  (hu.mono fun _ => ofImgWrite_of_count).trans (run_tally (Act.tally_mono (fun _ ha => .inl ha) (imgShown_tally w v)) u)

theorem imgWrite_refused {result : Nat} (hup : s.up = true) (hcmd : getBits v 3 1 = k) (hstart : getBits v 0 0 = 1)
    (hrefusal : s.imgRefusal w v = result) (hresult : result ≠ 0 ∧ result < 256) :
    ImgRefused ofImgWrite result s ((imgWrite k w v).run s) := by
  obtain ⟨u, hu, huup, hrun⟩ := run_imgWrite (w := w) hup hcmd
  rw [hrun, run_imgCommand huup hstart, hu.imgRefusal, hrefusal, decide_eq_false hresult.1, Bool.false_and, run_when_false, imgStart,
    if_pos hresult.1]
  exact imgDone_refused hresult.2 (imgShown_tallied hu w v) (.inr (.inl rfl))

/-- A device that is not up takes no command. -/
theorem imgWrite_down (hdown : s.up = false) (hcount : s.get F.IMG_VOLATILE_WRITES_COUNT + 1 < 2 ^ 47) :
    ((imgWrite k w v).run s).units = s.units ∧ ((imgWrite k w v).run s).keep = s.keep ∧ ((imgWrite k w v).run s).force = s.force ∧
      ((imgWrite k w v).run s).out = s.out ∧ (∀ a, ¬ (a = F.IMG_VOLATILE_WRITES_COUNT.addr) → ((imgWrite k w v).run s).rd a = s.rd a) ∧
      ((imgWrite k w v).run s).flash = s.flash := by
  obtain ⟨u, hu, hunits, hrun⟩ := run_adjusts_below_half w F.IMG_WRITE_CMD_CMD (Act.when (getBits v 3 1 = k) (imgCommand w v)) hcount
  have hdown' : u.up = false := (hu.up (by decide)).trans hdown
  have hnone : (Act.when (getBits v 3 1 = k) (imgCommand w v)).run u = u := by
    cases decide (getBits v 3 1 = k)
    · rfl
    · rw [run_when_true, imgCommand, run_look, hdown', run_when_false]
  rw [imgWrite, hrun, hnone]
  exact refused_frame hu hunits

/-! ## Commands that start -/

theorem imgStart_busy (op : ImgOp) (s : State) : ((imgStart 0 op).run s).get F.IMG_WRITE_STATUS_BUSY = 1 :=
  get_put_same _ F.IMG_WRITE_STATUS_BUSY 1 (by decide) (by decide)

theorem imgStart_rd {a : Nat} (h : a ≠ F.IMG_WRITE_STATUS_BUSY.addr) (op : ImgOp) (s : State) : ((imgStart 0 op).run s).rd a = s.rd a :=
  rd_put_other _ F.IMG_WRITE_STATUS_BUSY 1 h

theorem imgStart_get {f : Field} (h : f.addr ≠ F.IMG_WRITE_STATUS_BUSY.addr) (op : ImgOp) (s : State) :
    ((imgStart 0 op).run s).get f = s.get f := by
  rw [State.get, imgStart_rd h]
  rfl

theorem imgShown_slot (v : Word) (s : State) : ((imgShown 0 v).run s).get F.IMG_WRITE_CMD_SLOT = getBits v 8 8 := by
  refine (get_put_other _ F.IMG_WRITE_CMD_CMD F.IMG_WRITE_CMD_SLOT _ (by decide) (by decide) (by decide)).trans ?_
  rw [get_put_same _ _ _ (by decide) (by decide)]
  exact Nat.mod_eq_of_lt (getBits_lt v 8 8)

theorem imgShown_cmd (v : Word) (s : State) : ((imgShown 0 v).run s).get F.IMG_WRITE_CMD_CMD = getBits v 3 1 :=
  (get_put_same _ F.IMG_WRITE_CMD_CMD _ (by decide) (by decide)).trans (Nat.mod_eq_of_lt (getBits_lt v 3 1))

theorem imgNamed_erase (h : getBits v 3 1 = 1) : imgNamed v = .erase (getBits v 8 8) := by rw [imgNamed, h]; rfl
theorem imgNamed_mark (h : getBits v 3 1 = 2) : imgNamed v = .mark (getBits v 8 8) := by rw [imgNamed, h]; rfl
theorem imgNamed_retire (h : getBits v 3 1 = 3) : imgNamed v = .retire (getBits v 8 8) := by rw [imgNamed, h]; rfl

theorem run_imgWrite_started (hup : s.up = true) (hcmd : getBits v 3 1 = k) (hstart : getBits v 0 0 = 1) (hrefusal : s.imgRefusal 0 v = 0) :
    ∃ u, Tallied ofImgWrite s ((imgShown 0 v).run u) ∧ (imgWrite k 0 v).run s =
      (Act.when (k = 1 || k = 3) (.seq (mark (getBits v 8 8) 3) showSlots)).run ((imgStart 0 (imgNamed v)).run ((imgShown 0 v).run u)) := by
  obtain ⟨u, hu, huup, hrun⟩ := run_imgWrite (w := 0) hup hcmd
  refine ⟨u, imgShown_tallied hu 0 v, hrun.trans ?_⟩
  rw [run_imgCommand huup hstart, hu.imgRefusal, hrefusal, hcmd, decide_eq_true rfl, Bool.true_and]

/-- What the start of an operation shows and leaves. -/
def ImgStarted (op : ImgOp) (v : Word) (s t : State) : Prop :=
  t.get F.IMG_WRITE_STATUS_BUSY = 1 ∧ t.units.imgOp = some op ∧ t.get F.IMG_WRITE_CMD_SLOT = getBits v 8 8 ∧
    t.get F.IMG_WRITE_CMD_CMD = getBits v 3 1 ∧ t.keep = s.keep ∧ t.out = s.out ∧ (∀ a, ¬ ofImgWrite a → t.rd a = s.rd a) ∧
    t.flash = s.flash

theorem imgStart_started {u : State} (op : ImgOp) (h : Tallied ofImgWrite s ((imgShown 0 v).run u)) :
    ImgStarted op v s ((imgStart 0 op).run ((imgShown 0 v).run u)) :=
  ⟨imgStart_busy _ _, rfl, (imgStart_get (by decide) _ _).trans (imgShown_slot v u), (imgStart_get (by decide) _ _).trans (imgShown_cmd v u),
    h.keep, h.out, fun a ha => (imgStart_rd (fun e => ha (.inr (.inl e))) _ _).trans (h.rd a ha), h.flash⟩

/-- The registers that an erase or a retirement may change as it starts. -/
def ofImgRetire (a : Nat) : Prop := a = F.IMG_WRITE_CMD_CMD.addr ∨ a = F.IMG_WRITE_STATUS_DONE.addr ∨
  a = F.IMG_VOLATILE_WRITES_COUNT.addr ∨ 0x08000000 ≤ a ∨ ofSlots a

/-- RETIRED is marked and shown behind the start of an operation. -/
theorem ImgStarted.retires {op : ImgOp} {t : State} (h : ImgStarted op v s t) :
    ∃ t', showSlots.run ((mark (getBits v 8 8) 3).run t) = t' ∧ t'.get F.IMG_WRITE_STATUS_BUSY = 1 ∧ t'.units.imgOp = some op ∧
      t'.get F.IMG_WRITE_CMD_SLOT = getBits v 8 8 ∧ t'.get F.IMG_WRITE_CMD_CMD = getBits v 3 1 ∧ t'.keep = s.keep ∧ t'.out = s.out ∧
      t'.marked (getBits v 8 8) 3 = true ∧
      (∀ a, a < stateWord (getBits v 8 8) 3 ∨ stateWord (getBits v 8 8) 3 + 4 ≤ a → t'.flashByte a = s.flashByte a) ∧
      (∀ a, ¬ ofImgRetire a → t'.rd a = s.rd a) := by
  obtain ⟨hbusy, hop, hslot, hcmd, hkeep, hout, hrd, hflash⟩ := h
  obtain ⟨q, hq⟩ := run_mark (getBits v 8 8) 3 t
  have hget : ∀ f : Field, ¬ ofSlots f.addr → (showSlots.run ((mark (getBits v 8 8) 3).run t)).get f = t.get f := fun f hf => by
    rw [showSlots_get hf, hq]
    rfl
  refine ⟨_, rfl, (hget _ (not_ofSlots (by decide))).trans hbusy, ?_, (hget _ (not_ofSlots (by decide))).trans hslot,
    (hget _ (not_ofSlots (by decide))).trans hcmd, ?_, ?_, ?_, fun a ha => ?_, fun a ha => ?_⟩
  · rw [showSlots_units, hq]
    exact hop
  · rw [showSlots_keep, hq]
    exact hkeep
  · rw [showSlots_out, hq]
    exact hout
  · rw [marked_congr (showSlots_flash _)]
    exact marked_mark _ 3 t
  · rw [flashByte_congr (showSlots_flash _), flashByte_mark_other ha, flashByte_congr hflash]
  · obtain ⟨hwrite, hdone, hcount, hqueues, hslots⟩ : _ ∧ _ ∧ _ ∧ _ ∧ _ := by simpa only [ofImgRetire, not_or] using ha
    rw [showSlots_rd hslots, hq]
    exact hrd a (by simp only [ofImgWrite, not_or]; exact ⟨hwrite, hdone, hcount, hqueues⟩)

end

/-! ## The statement -/

/-- Settles O5: each row by what refuses its command, or by what its start shows and marks. -/
theorem imageEraseMarkAndRetire : Obligations.ImageEraseMarkAndRetire := by
  unfold Obligations.ImageEraseMarkAndRetire
  refine ⟨fun s v hup hcmd hstart hkey hidle hslot _ => ?erase,
    fun s w v hup hcmd hstart h => ⟨_, exec_imgErase w v s, imgWrite_refused hup hcmd hstart (imgRefusal_rights h) (by decide)⟩,
    fun s v hup hcmd hstart hkey hbusy => ⟨_, exec_imgErase 0 v s, imgWrite_refused hup hcmd hstart (imgRefusal_busy hkey hbusy) (by decide)⟩,
    fun s v hup hcmd hstart hkey hidle hslot =>
      ⟨_, exec_imgErase 0 v s, imgWrite_refused hup hcmd hstart (imgRefusal_slot hkey hidle (.inl hslot)) (by decide)⟩,
    fun s w v hdown hcount => ⟨_, exec_imgErase w v s, imgWrite_down hdown hcount⟩,
    fun s v hup hcmd hstart hkey hidle hslot hmark _ => ?mark,
    fun s w v hup hcmd hstart h => ⟨_, exec_imgMark w v s, imgWrite_refused hup hcmd hstart (imgRefusal_rights h) (by decide)⟩,
    fun s v hup hcmd hstart hkey hbusy => ⟨_, exec_imgMark 0 v s, imgWrite_refused hup hcmd hstart (imgRefusal_busy hkey hbusy) (by decide)⟩,
    fun s v hup hcmd hstart hkey hidle hslot =>
      ⟨_, exec_imgMark 0 v s, imgWrite_refused hup hcmd hstart (imgRefusal_slot hkey hidle (.inl hslot)) (by decide)⟩,
    fun s v hup hcmd hstart hkey hidle hwritten hretired =>
      ⟨_, exec_imgMark 0 v s, imgWrite_refused hup hcmd hstart (imgRefusal_slot hkey hidle (.inr ⟨hcmd, hwritten, hretired⟩)) (by decide)⟩,
    fun s w v hdown hcount => ⟨_, exec_imgMark w v s, imgWrite_down hdown hcount⟩,
    fun s v hup hcmd hstart hkey hidle hslot _ => ?retire,
    fun s w v hup hcmd hstart h => ⟨_, exec_imgRetire w v s, imgWrite_refused hup hcmd hstart (imgRefusal_rights h) (by decide)⟩,
    fun s v hup hcmd hstart hkey hbusy => ⟨_, exec_imgRetire 0 v s, imgWrite_refused hup hcmd hstart (imgRefusal_busy hkey hbusy) (by decide)⟩,
    fun s v hup hcmd hstart hkey hidle hslot =>
      ⟨_, exec_imgRetire 0 v s, imgWrite_refused hup hcmd hstart (imgRefusal_slot hkey hidle (.inl hslot)) (by decide)⟩,
    fun s w v hdown hcount => ⟨_, exec_imgRetire w v s, imgWrite_down hdown hcount⟩⟩
  case erase =>
    obtain ⟨u, hu, hrun⟩ := run_imgWrite_started hup hcmd hstart (imgRefusal_none hkey hidle hcmd (by decide) hslot (fun h => absurd h (by decide)))
    rw [imgNamed_erase hcmd] at hrun
    obtain ⟨t, ht, hshows⟩ := (imgStart_started (.erase (getBits v 8 8)) hu).retires
    exact ⟨t, congrArg Host.Outcome.next (hrun.trans ht), hshows⟩
  case mark =>
    obtain ⟨u, hu, hrun⟩ := run_imgWrite_started hup hcmd hstart (imgRefusal_none hkey hidle hcmd (by decide) hslot fun _ => hmark)
    rw [imgNamed_mark hcmd] at hrun
    exact ⟨_, congrArg Host.Outcome.next hrun, imgStart_started _ hu⟩
  case retire =>
    obtain ⟨u, hu, hrun⟩ := run_imgWrite_started hup hcmd hstart (imgRefusal_none hkey hidle hcmd (by decide) hslot (fun h => absurd h (by decide)))
    rw [imgNamed_retire hcmd] at hrun
    obtain ⟨t, ht, hshows⟩ := (imgStart_started (.retire (getBits v 8 8)) hu).retires
    exact ⟨t, congrArg Host.Outcome.next (hrun.trans ht), hshows⟩

end Sys2Proof.Machine
end

section
/-! IMG_PAGE_WRITE and IMG_OPERATION_DONE (R108 to R110): pages that start, and operations that end. -/

namespace Sys2Proof.Machine

/-! ## A page (R108, R109) -/

/-- The RESULT with which a burst is refused; 0 for none. -/
def State.pageRefusal (s : State) (w o : Nat) (data : List Byte) : Nat :=
  if w ≠ 0 then 0x15
  else if s.is F.IMG_WRITE_STATUS_BUSY then 0x13
  else if o ≠ 0 || data.length ≠ 256 then 0x14
  else if s.runningSlot = some (s.get F.IMG_WRITE_CMD_SLOT) || !s.slotErased (s.get F.IMG_WRITE_CMD_SLOT) then 0x12
  else 0

/-- The operation that a burst starts. -/
def State.pageOp (s : State) (data : List Byte) : ImgOp :=
  .page (s.get F.IMG_WRITE_CMD_SLOT) (256 * s.get F.IMG_WRITE_OFFSET_PAGE) data

section
variable {s : State} {w o : Nat} {data : List Byte}

theorem busy_lt (s : State) : s.get F.IMG_WRITE_STATUS_BUSY < 2 := getBits_lt _ _ _

theorem pageRefusal_none (hidle : s.get F.IMG_WRITE_STATUS_BUSY = 0) (hlen : data.length = 256)
    (hrun : s.runningSlot ≠ some (s.get F.IMG_WRITE_CMD_SLOT)) (herased : s.slotErased (s.get F.IMG_WRITE_CMD_SLOT) = true) :
    s.pageRefusal 0 0 data = 0 := by
  have hb : s.is F.IMG_WRITE_STATUS_BUSY = false := is_eq_false.mpr hidle
  simp [State.pageRefusal, hb, hlen, hrun, herased]

theorem pageRefusal_some (h : w ≠ 0 ∨ s.get F.IMG_WRITE_STATUS_BUSY = 1 ∨ o ≠ 0 ∨ data.length ≠ 256 ∨
    s.runningSlot = some (s.get F.IMG_WRITE_CMD_SLOT) ∨ s.slotErased (s.get F.IMG_WRITE_CMD_SLOT) = false) :
    s.pageRefusal w o data =
      if w ≠ 0 then 0x15 else if s.get F.IMG_WRITE_STATUS_BUSY = 1 then 0x13 else if o ≠ 0 ∨ data.length ≠ 256 then 0x14 else 0x12 := by
  have hbusy : s.is F.IMG_WRITE_STATUS_BUSY = true ↔ s.get F.IMG_WRITE_STATUS_BUSY = 1 := by
    have hlt := busy_lt s
    rw [is_eq_true]
    omega
  have hform : (decide (o ≠ 0) || decide (data.length ≠ 256)) = true ↔ o ≠ 0 ∨ data.length ≠ 256 := by simp
  simp only [State.pageRefusal, hbusy, hform]
  split
  case isTrue => rfl
  case isFalse hw =>
    split
    case isTrue => rfl
    case isFalse hb =>
      split
      case isTrue => rfl
      case isFalse hf =>
        refine if_pos ?_
        obtain hrun | herased : _ ∨ _ := by simpa only [hw, hb, not_or.mp hf, false_or] using h
        · simp [hrun]
        · simp [herased]

theorem Tallied.pageRefusal {u : State} (h : Tallied ofWriteCount s u) (w o : Nat) (data : List Byte) :
    u.pageRefusal w o data = s.pageRefusal w o data := by
  have herased : ∀ slot, u.slotErased slot = s.slotErased slot := fun slot => by simp only [State.slotErased, h.marked]
  rw [State.pageRefusal, h.is (not_ofWriteCount_image (a := F.IMG_WRITE_STATUS_BUSY.addr) (by decide)),
    h.get (not_ofWriteCount_image (a := F.IMG_WRITE_CMD_SLOT.addr) (by decide)), h.runningSlot (not_ofWriteCount_image (by decide)), herased]
  rfl

theorem Tallied.pageOp {u : State} (h : Tallied ofWriteCount s u) (data : List Byte) : u.pageOp data = s.pageOp data := by
  simp only [State.pageOp, h.get (not_ofWriteCount_image (a := F.IMG_WRITE_CMD_SLOT.addr) (by decide)),
    h.get (not_ofWriteCount_image (a := F.IMG_WRITE_OFFSET_PAGE.addr) (by decide))]

/-- A burst starts a page, or is refused, behind its count. -/
theorem exec_imgPageWrite (hup : s.up = true) : ∃ u, Tallied ofWriteCount s u ∧
    exec (.imgPageWrite w o data) s = .next ((imgStart (s.pageRefusal w o data) (s.pageOp data)).run u) := by
  obtain ⟨u, hu, hrun⟩ : ∃ u, Tallied ofWriteCount s u ∧
      exec (.imgPageWrite w o data) s = .next ((imgPageWriteAct w o data).run u) := by
    refine ⟨_, ?_, rfl⟩
    cases s.up && decide (w = 0)
    · exact .refl _ s
    · exact count_tallied _ s
  refine ⟨u, hu, hrun.trans (congrArg Host.Outcome.next ?_)⟩
  rw [← hu.pageRefusal, ← hu.pageOp, imgPageWriteAct, run_look, (hu.up (not_ofWriteCount (by decide))).trans hup]
  rfl

theorem exec_imgPageWrite_down (hdown : s.up = false) : exec (.imgPageWrite w o data) s = .next s := by
  refine congrArg Host.Outcome.next ?_
  rw [hdown, Bool.false_and, run_seq, run_when_false, imgPageWriteAct, run_look, hdown, run_when_false]

/-- The registers that a burst may change. -/
def ofPage (a : Nat) : Prop := a = F.IMG_WRITE_STATUS_BUSY.addr ∨ a = F.IMG_VOLATILE_WRITES_COUNT.addr ∨ 0x08000000 ≤ a

theorem ofPage_of_count {a : Nat} (h : ofWriteCount a) : ofPage a :=
  h.elim (fun e => .inr (.inl e)) fun hq => .inr (.inr (Nat.le_trans (by decide) hq.1))

theorem imgPageWrite_refused {result : Nat} (hup : s.up = true) (hrefusal : s.pageRefusal w o data = result)
    (hresult : result ≠ 0 ∧ result < 256) : ∃ t, exec (.imgPageWrite w o data) s = .next t ∧ ImgRefused ofPage result s t := by
  obtain ⟨u, hu, hexec⟩ := exec_imgPageWrite (w := w) (o := o) (data := data) hup
  rw [hrefusal, imgStart, if_pos hresult.1] at hexec
  exact ⟨_, hexec, imgDone_refused hresult.2 (hu.mono fun _ => ofPage_of_count) (.inl rfl)⟩

end

/-! ## Verification answers a code (R97) -/

theorem ite_lt {c : Prop} [Decidable c] {a b n : Nat} (ha : a < n) (hb : b < n) : (if c then a else b) < n := by
  split
  · exact ha
  · exact hb

theorem verify_lt (s : State) (start : Bool) (slot : Nat) : s.verify start slot < 256 := by
  unfold State.verify
  extract_lets h k head sig signer target l keys
  iterate 12 refine ite_lt (by decide) ?_
  generalize hfound : List.findSome? _ l = found
  cases found with
  | some r =>
    obtain ⟨x, -, hx⟩ := List.exists_of_findSome?_eq_some hfound
    show r < 256
    split_ifs at hx <;> (cases hx; decide)
  | none => exact ite_lt (by decide) (ite_lt (by decide) (ite_lt (by decide) (by decide)))

/-! ## What an operation writes -/

theorem run_eraseFlash (a n : Nat) (s : State) : ∃ q, (eraseFlash a n).run s = { s with flash := q } := run_each_flash _ _ _ s

/-- An erased range reads 0xFF throughout. -/
theorem flashByte_eraseFlash (a n x : Nat) (s : State) :
    ((eraseFlash a n).run s).flashByte x = if a ≤ x ∧ x < a + n then 0xFF else s.flashByte x := by
  have hmem : ∀ e : Nat × Byte, e ∈ s.flash.filter (fun e => decide (a ≤ e.1) && decide (e.1 < a + n)) ↔
      e ∈ s.flash ∧ a ≤ e.1 ∧ e.1 < a + n := by simp [List.mem_filter]
  rw [eraseFlash, run_look]
  by_cases hx : a ≤ x ∧ x < a + n
  · rw [if_pos hx]
    by_cases hlisted : ∃ e ∈ s.flash, e.1 = x
    · obtain ⟨e, he, hex⟩ := hlisted
      exact flashByte_each_same ⟨e, (hmem e).mpr ⟨he, by rwa [hex]⟩, hex⟩ (fun _ _ _ => rfl) s
    · rw [flashByte_each_other _ (fun e he hex => hlisted ⟨e, ((hmem e).mp he).1, hex⟩)]
      exact Sparse.get_unlisted _ (fun hin => hlisted (List.mem_map.mp hin))
  · rw [if_neg hx]
    exact flashByte_each_other _ (fun e he hex => hx (by rw [← hex]; exact ((hmem e).mp he).2)) s

/-- Clears the bits of a page. -/
def clearPage (s : State) (base : Nat) (data : List Byte) : Act :=
  Act.each ((List.range data.length).zip data) (fun x => .flash (base + x.1) (x.2 &&& s.flashByte (base + x.1)))

section
variable {s : State} {base : Nat} {data : List Byte}

theorem mem_range_zip {x : Nat × Byte} (h : x ∈ (List.range data.length).zip data) : x.1 < data.length ∧ x.2 = data.getD x.1 0 := by
  obtain ⟨i, hi, rfl⟩ := List.mem_iff_getElem.mp h
  have hlt : i < data.length := by simpa using hi
  simp [hlt]

theorem flashByte_clearPage {i : Nat} (hi : i < data.length) :
    ((clearPage s base data).run s).flashByte (base + i) = data.getD i 0 &&& s.flashByte (base + i) := by
  have hlen : i < ((List.range data.length).zip data).length := by simpa using hi
  refine flashByte_each_same ⟨(i, data[i]), List.mem_iff_getElem.mpr ⟨i, hlen, by simp⟩, rfl⟩ (fun x hx hxi => ?_) s
  have hi : x.1 = i := Nat.add_left_cancel hxi
  rw [(mem_range_zip hx).2, hi]

theorem flashByte_clearPage_other {a : Nat} (h : a < base ∨ base + data.length ≤ a) :
    ((clearPage s base data).run s).flashByte a = s.flashByte a :=
  flashByte_each_other _ (fun x hx e => by have hlt := (mem_range_zip hx).1; omega) s

end

/-! ## The end of an operation (R108) -/

/-- No operation runs, and BUSY is cleared. -/
def State.imgIdle (s : State) : State := (put F.IMG_WRITE_STATUS_BUSY 0).run ((Act.units fun u => { u with imgOp := none }).run s)

theorem exec_imgOperationDone {s : State} {op : ImgOp} (h : s.units.imgOp = some op) (ok : Bool) : exec (.imgOperationDone ok) s =
    .next (showSlots.run ((if ok then finishImgOp op else imgDone 0x11).run s.imgIdle)) := by
  refine congrArg Host.Outcome.next ?_
  rw [imgOperationDoneAct, run_look, h]
  rfl

/-- What the end of an operation shows, whatever it has written. -/
def ImgEnded (result : Nat) (t : State) : Prop :=
  t.units.imgOp = none ∧ t.get F.IMG_WRITE_STATUS_BUSY = 0 ∧ t.get F.IMG_WRITE_STATUS_DONE = 1 ∧ t.get F.IMG_WRITE_STATUS_RESULT = result

/-- What an operation may change before its RESULT: neither IMG_WRITE_STATUS nor that it has ended. -/
structure ImgIdle (u : State) : Prop where
  op : u.units.imgOp = none
  busy : u.get F.IMG_WRITE_STATUS_BUSY = 0

theorem imgIdle_idle (s : State) : ImgIdle s.imgIdle := ⟨rfl, get_put_same _ F.IMG_WRITE_STATUS_BUSY 0 (by decide) (by decide)⟩

theorem ImgIdle.flash {u : State} (h : ImgIdle u) (q : Sparse Byte) : ImgIdle { u with flash := q } := ⟨h.op, h.busy⟩
theorem ImgIdle.keep {u : State} (h : ImgIdle u) (f : Keep → Keep) : ImgIdle ((Act.keep f).run u) := ⟨h.op, h.busy⟩

/-- An operation ends with its RESULT and the flags of the slots shown. -/
def imgEnds (result : Nat) (u : State) : State := showSlots.run ((imgDone result).run u)

section
variable {u : State} (h : ImgIdle u) {result : Nat}

include h in
theorem imgEnds_ended (hresult : result < 256) : ImgEnded result (imgEnds result u) := by
  have hget : ∀ f : Field, f.addr = F.IMG_WRITE_STATUS_DONE.addr → (imgEnds result u).get f = ((imgDone result).run u).get f :=
    fun f hf => showSlots_get (not_ofSlots (hf ▸ by decide)) _
  refine ⟨?_, ?_, ?_, ?_⟩
  · rw [imgEnds, showSlots_units, imgDone_units, h.op]
  · exact (hget F.IMG_WRITE_STATUS_BUSY rfl).trans ((imgDone_busy u result).trans h.busy)
  · exact (hget F.IMG_WRITE_STATUS_DONE rfl).trans (imgDone_done u result)
  · exact (hget F.IMG_WRITE_STATUS_RESULT rfl).trans (imgDone_result hresult u)

theorem imgEnds_flash (u : State) (result : Nat) : (imgEnds result u).flash = u.flash := showSlots_flash _

end

section
variable {s : State} {slot : Nat}

theorem imgOperationDone_failed {op : ImgOp} (h : s.units.imgOp = some op) :
    ∃ t, exec (.imgOperationDone false) s = .next t ∧ ImgEnded 0x11 t ∧ t.flash = s.flash :=
  ⟨imgEnds 0x11 s.imgIdle, exec_imgOperationDone h false, imgEnds_ended (imgIdle_idle s) (by decide), imgEnds_flash _ _⟩

theorem imgOperationDone_page {off : Nat} {data : List Byte} (h : s.units.imgOp = some (.page slot off data)) :
    ∃ t, exec (.imgOperationDone true) s = .next t ∧ ImgEnded 0 t ∧
      t.flash = ((clearPage s.imgIdle (slotBase slot + off) data).run s.imgIdle).flash := by
  obtain ⟨q, hq⟩ := run_each_flash ((List.range data.length).zip data) (fun x => slotBase slot + off + x.1)
    (fun x => x.2 &&& s.imgIdle.flashByte (slotBase slot + off + x.1)) s.imgIdle
  have hpage : (clearPage s.imgIdle (slotBase slot + off) data).run s.imgIdle = { s.imgIdle with flash := q } := hq
  refine ⟨imgEnds 0 ((clearPage s.imgIdle (slotBase slot + off) data).run s.imgIdle), exec_imgOperationDone h true, ?_, imgEnds_flash _ _⟩
  rw [hpage]
  exact imgEnds_ended ((imgIdle_idle s).flash q) (by decide)

theorem run_finishErase (slot : Nat) (u : State) : ∃ f, (finishImgOp (.erase slot)).run u = (imgDone 0).run ((Act.keep f).run
    ((eraseFlash (stateWord slot 0) 0x1000).run ((eraseFlash (slotBase slot) 0x04000000).run u))) := by
  rw [finishImgOp, run_look]
  simp only [run_all_cons, run_all_nil]
  exact ⟨_, rfl⟩

theorem imgOperationDone_erase (h : s.units.imgOp = some (.erase slot)) :
    ∃ t, exec (.imgOperationDone true) s = .next t ∧ ImgEnded 0 t ∧
      t.flash = ((eraseFlash (stateWord slot 0) 0x1000).run ((eraseFlash (slotBase slot) 0x04000000).run s.imgIdle)).flash := by
  obtain ⟨p, hp⟩ := run_eraseFlash (slotBase slot) 0x04000000 s.imgIdle
  obtain ⟨q, hq⟩ := run_eraseFlash (stateWord slot 0) 0x1000 { s.imgIdle with flash := p }
  obtain ⟨f, hf⟩ := run_finishErase slot s.imgIdle
  have hexec := exec_imgOperationDone h true
  rw [if_pos rfl, hf] at hexec
  rw [hp, hq] at hexec ⊢
  exact ⟨_, hexec, imgEnds_ended (((imgIdle_idle s).flash q).keep f) (by decide), imgEnds_flash ((Act.keep f).run _) 0⟩

theorem imgOperationDone_retire (h : s.units.imgOp = some (.retire slot)) :
    ∃ t, exec (.imgOperationDone true) s = .next t ∧ ImgEnded 0 t ∧ t.flash = ((mark slot 3).run s.imgIdle).flash := by
  obtain ⟨q, hq⟩ := run_mark slot 3 s.imgIdle
  refine ⟨imgEnds 0 ((mark slot 3).run s.imgIdle), exec_imgOperationDone h true, ?_, imgEnds_flash _ _⟩
  rw [hq]
  exact imgEnds_ended ((imgIdle_idle s).flash q) (by decide)

theorem showGeneration_idle (h : ImgIdle s) : ImgIdle ((showGeneration slot).run s) := by
  refine ⟨h.op, (get_put_other _ _ _ _ (Nat.zero_le 63) (by decide) (.inl ?_)).trans h.busy⟩
  simp only [F.IMG_SLOT_GENERATION_GENERATION, F.IMG_WRITE_STATUS_BUSY]
  omega

/-- The end of a mark whose verification answers `r`. -/
def imgMarkEnds (slot r : Nat) : Act := .seq (showGeneration slot) (if r = 0 then .seq (mark slot 0) (imgDone 0) else imgDone r)

theorem run_finishMark (slot : Nat) (u : State) : (finishImgOp (.mark slot)).run u = (imgMarkEnds slot (u.verify false slot)).run u := rfl

theorem imgMarkEnds_ended {u : State} (hidle : ImgIdle u) {r : Nat} (hr : r < 256) : ∃ t, showSlots.run ((imgMarkEnds slot r).run u) = t ∧
    ImgEnded r t ∧ if r = 0 then t.marked slot 0 = true else t.flash = u.flash := by
  have hgen : ImgIdle ((showGeneration slot).run u) := showGeneration_idle hidle
  rcases eq_or_ne r 0 with rfl | hne
  · obtain ⟨q, hq⟩ := run_mark slot 0 ((showGeneration slot).run u)
    refine ⟨imgEnds 0 ((mark slot 0).run ((showGeneration slot).run u)), ?_, ?_, ?_⟩
    · rw [imgMarkEnds, run_seq, if_pos rfl, run_seq, imgEnds]
    · rw [hq]
      exact imgEnds_ended (hgen.flash q) hr
    · exact (marked_congr (imgEnds_flash _ 0) slot 0).trans (marked_mark slot 0 _)
  · refine ⟨imgEnds r ((showGeneration slot).run u), ?_, imgEnds_ended hgen hr, ?_⟩
    · rw [imgMarkEnds, run_seq, if_neg hne, imgEnds]
    · rw [if_neg hne]
      exact imgEnds_flash _ _

theorem imgOperationDone_mark (h : s.units.imgOp = some (.mark slot)) :
    ∃ t r, exec (.imgOperationDone true) s = .next t ∧ ImgEnded r t ∧ if r = 0 then t.marked slot 0 = true else t.flash = s.flash := by
  obtain ⟨t, ht, hended⟩ := imgMarkEnds_ended (slot := slot) (imgIdle_idle s) (verify_lt s.imgIdle false slot)
  have hexec := exec_imgOperationDone h true
  rw [if_pos rfl, run_finishMark, ht] at hexec
  exact ⟨t, _, hexec, hended⟩

end

/-! ## The statement -/

/-- Settles O6: a page by its refusal, an end by what its operation has written, a confirmation by what confirming leaves. -/
theorem imagePagesAndCompletion : Obligations.ImagePagesAndCompletion := by
  unfold Obligations.ImagePagesAndCompletion
  refine ⟨fun s data hup hidle hlen hrun herased => ?page, fun s w o data hup h => ?pageNot,
    fun s w o data hdown => exec_imgPageWrite_down hdown, fun s slot off data h => ?pageDone, fun s slot h => ?eraseDone,
    fun s slot h => ?markDone, fun s slot h => ?retireDone, fun s op h => ?failed, fun s ok h => ?none,
    fun s v hup hstart hkey hstate => ?confirm, fun s w v h hcount => ?confirmNot⟩
  case page =>
    obtain ⟨u, hu, hexec⟩ := exec_imgPageWrite (w := 0) (o := 0) (data := data) hup
    rw [pageRefusal_none hidle hlen hrun herased] at hexec
    exact ⟨_, hexec, imgStart_busy _ u, rfl, hu.keep,
      fun a ha => (imgStart_rd (fun e => ha (.inl e)) _ u).trans (hu.rd a fun hc => ha (ofPage_of_count hc)), hu.flash⟩
  case pageNot =>
    obtain ⟨t, hexec, hresult, hdone, hrest⟩ := imgPageWrite_refused hup (pageRefusal_some h) (by split_ifs <;> decide)
    exact ⟨t, hexec, hdone, hresult, hrest⟩
  case pageDone =>
    obtain ⟨t, hexec, ⟨hop, hbusy, hdone, hresult⟩, hflash⟩ := imgOperationDone_page h
    exact ⟨t, hexec, hop, hbusy, hdone, hresult, fun i hi => (flashByte_congr hflash _).trans (flashByte_clearPage hi),
      fun a ha => (flashByte_congr hflash a).trans (flashByte_clearPage_other ha)⟩
  case eraseDone =>
    obtain ⟨t, hexec, ⟨hop, hbusy, hdone, hresult⟩, hflash⟩ := imgOperationDone_erase h
    refine ⟨t, hexec, hop, hbusy, hdone, hresult, fun a => ?_⟩
    rw [flashByte_congr hflash, flashByte_eraseFlash, flashByte_eraseFlash, ← ite_or]
    exact if_congr or_comm rfl rfl
  case markDone =>
    obtain ⟨t, r, hexec, ⟨hop, hbusy, hdone, hresult⟩, hwritten⟩ := imgOperationDone_mark h
    exact ⟨t, hexec, hop, hbusy, hdone, hresult ▸ hwritten⟩
  case retireDone =>
    obtain ⟨t, hexec, ⟨hop, hbusy, hdone, hresult⟩, hflash⟩ := imgOperationDone_retire h
    exact ⟨t, hexec, hop, hbusy, hdone, hresult, (marked_congr hflash slot 3).trans (marked_mark slot 3 _),
      fun a ha => (flashByte_congr hflash a).trans (flashByte_mark_other ha _)⟩
  case failed =>
    obtain ⟨t, hexec, ⟨hop, hbusy, hdone, hresult⟩, hflash⟩ := imgOperationDone_failed h
    exact ⟨t, hexec, hop, hbusy, hdone, hresult, hflash⟩
  case none =>
    refine congrArg Host.Outcome.next ?_
    rw [imgOperationDoneAct, run_look, h]
    rfl
  case confirm =>
    obtain ⟨u, hu, hexec⟩ := exec_imgConfirm hup (confirms_iff.mpr ⟨rfl, hstart, hkey, hstate⟩)
    have hslot : u.get F.IMG_STATUS_RUNNING_SLOT = s.get F.IMG_STATUS_RUNNING_SLOT := hu.get (not_ofWriteCount_image (by decide))
    have hflash := confirmImage_flash u
    rw [hslot] at hflash
    refine ⟨_, hexec, confirmImage_state u, (marked_congr hflash _ 2).trans (marked_mark _ 2 u), confirmImage_deadline u, ?floor,
      fun a ha => ?flash, fun a ha => ?rd⟩
    case floor =>
      rw [confirmImage_floor, State.raisedFloor, hu.imgRaise, hu.keep]
      cases s.units.imgRaise with
      | none => rfl
      | some v =>
        dsimp only
        split <;> rfl
    case flash => exact (flashByte_congr hflash a).trans ((flashByte_mark_other ha u).trans (flashByte_congr hu.flash a))
    case rd =>
      obtain ⟨himage, hwrites, hqueues⟩ : _ ∧ _ ∧ _ := by simpa only [not_or] using ha
      exact (confirmImage_rd u himage).trans (hu.rd a (not_ofWriteCount_frame hwrites hqueues))
  case confirmNot =>
    obtain ⟨u, hu, hunits, hrun⟩ := run_adjusts_below_half w F.IMG_CTRL_CONFIRM (imgConfirmAct w v) hcount
    have hignored : s.up = false ∨ s.confirms w v = false := by
      refine h.imp_right fun h => Bool.eq_false_iff.mpr fun hconfirms => ?_
      obtain ⟨hw, hstart, hkey, hstate⟩ := confirms_iff.mp hconfirms
      omega
    rw [run_imgConfirm_ignored (by rwa [hu.up (by decide), hu.confirms (by decide)])] at hrun
    exact ⟨u, congrArg Host.Outcome.next hrun, refused_frame hu hunits⟩

end Sys2Proof.Machine
end

section
/-! Work on lanes (R116 to R157): programs that change registers, the units of lanes and talkers and what counting changes,
and nothing else of the state; and what the operations on a lane's unit leave. -/

namespace Sys2Proof.Machine

/-! ## Programs that work on lanes -/

/-- The state without what work on lanes may change. -/
def State.offLanes (s : State) : State :=
  { s with regs := [], units := { s.units with lanes := [], talkers := [], queues := [], store := {} }, win := {} }

/-- From `s` to `t` nothing but work on lanes: of the registers only those where `P` holds. -/
structure LaneWork (P : Nat → Prop) (s t : State) : Prop where
  rest : t.offLanes = s.offLanes
  rd : ∀ a, ¬ P a → t.rd a = s.rd a

/-- The program does nothing but work on lanes, in registers where `P` holds. -/
def Act.laneWork (P : Nat → Prop) : Act → Prop
  | .skip | .win _ => True
  | .seq a b => a.laneWork P ∧ b.laneWork P
  | .look k => ∀ s, (k s).laneWork P
  | .reg a _ => P a
  | .units f => ∀ u, { f u with lanes := [], talkers := [], queues := [], store := {} } =
      { u with lanes := [], talkers := [], queues := [], store := {} }
  | _ => False

namespace LaneWork

variable {P Q : Nat → Prop} {s t u : State}

theorem refl (P : Nat → Prop) (s : State) : LaneWork P s s := ⟨rfl, fun _ _ => rfl⟩
theorem trans (h : LaneWork P s t) (g : LaneWork P t u) : LaneWork P s u :=
  ⟨g.rest.trans h.rest, fun a ha => (g.rd a ha).trans (h.rd a ha)⟩
theorem mono (hPQ : ∀ a, P a → Q a) (h : LaneWork P s t) : LaneWork Q s t :=
  ⟨h.rest, fun a ha => h.rd a fun hp => ha (hPQ a hp)⟩

theorem pending (h : LaneWork P s t) : t.pending = s.pending := congrArg (·.pending) h.rest
theorem part (h : LaneWork P s t) : t.part = s.part := congrArg (·.part) h.rest
theorem force (h : LaneWork P s t) : t.force = s.force := congrArg (·.force) h.rest
theorem flash (h : LaneWork P s t) : t.flash = s.flash := congrArg (·.flash) h.rest
theorem out (h : LaneWork P s t) : t.out = s.out := congrArg (·.out) h.rest
theorem keep (h : LaneWork P s t) : t.keep = s.keep := congrArg (·.keep) h.rest
theorem cal (h : LaneWork P s t) : t.units.cal = s.units.cal := congrArg (·.units.cal) h.rest
theorem d0 (h : LaneWork P s t) : t.units.d0 = s.units.d0 := congrArg (·.units.d0) h.rest
theorem tenants (h : LaneWork P s t) : t.units.tenants = s.units.tenants := congrArg (·.units.tenants) h.rest

theorem now (h : LaneWork P s t) : t.now = s.now := by rw [State.now, h.d0]; rfl
theorem has (h : LaneWork P s t) (b : Nat) : t.has b = s.has b := by rw [State.has, h.part]; rfl
theorem hasLane (h : LaneWork P s t) (l : Nat) : t.hasLane l = s.hasLane l := by rw [State.hasLane, h.part]; rfl
theorem get (h : LaneWork P s t) {f : Field} (hf : ¬ P f.addr) : t.get f = s.get f := by rw [State.get, h.rd _ hf]; rfl
theorem is (h : LaneWork P s t) {f : Field} (hf : ¬ P f.addr) : t.is f = s.is f := by rw [State.is, h.get hf]; rfl
theorem hasRight (h : LaneWork P s t) (n a : Nat) : t.hasRight n a = s.hasRight n a := by
  simp only [State.hasRight, State.tenant, h.tenants]

/-- What counting and notifying leaves, work on lanes leaves. -/
theorem of_tallied (h : Tallied P s t) : LaneWork P s t :=
  ⟨show t.untallied.offLanes = s.untallied.offLanes from congrArg State.offLanes h.rest, h.rd⟩

end LaneWork

theorem run_laneWork {P : Nat → Prop} {a : Act} (h : a.laneWork P) (s : State) : LaneWork P s (a.run s) := by
  induction a generalizing s with
  | skip => exact .refl P s
  | win f => exact ⟨rfl, fun _ _ => rfl⟩
  | seq a b iha ihb => exact (iha h.1 s).trans (ihb h.2 _)
  | look k ih => exact ih s (h s) s
  | reg x v =>
    refine ⟨rfl, fun a ha => ?_⟩
    have hax : a ≠ x := fun e => ha (e ▸ h)
    simp [hax]
  | units f => exact ⟨congrArg (fun u => { s.offLanes with units := u }) (h s.units), fun _ _ => rfl⟩
  | _ => exact h.elim

namespace Act

variable {P Q : Nat → Prop}

@[simp] theorem laneWork_skip : Act.skip.laneWork P := trivial
@[simp] theorem laneWork_win (f : Win → Win) : (Act.win f).laneWork P := trivial
@[simp] theorem laneWork_seq (a b : Act) : (Act.seq a b).laneWork P ↔ a.laneWork P ∧ b.laneWork P := Iff.rfl
@[simp] theorem laneWork_look (k : State → Act) : (Act.look k).laneWork P ↔ ∀ s, (k s).laneWork P := Iff.rfl
@[simp] theorem laneWork_all_nil : (Act.all []).laneWork P := trivial
@[simp] theorem laneWork_all_cons (a : Act) (l : List Act) :
    (Act.all (a :: l)).laneWork P ↔ a.laneWork P ∧ (Act.all l).laneWork P := Iff.rfl

@[simp] theorem laneWork_ite (c : Prop) [Decidable c] (a b : Act) :
    (if c then a else b).laneWork P ↔ (c → a.laneWork P) ∧ (¬ c → b.laneWork P) := by
  split <;> simp [*]

@[simp] theorem laneWork_when (c : Bool) (a : Act) : (Act.when c a).laneWork P ↔ (c = true → a.laneWork P) := by
  cases c <;> simp [Act.when]

@[simp] theorem laneWork_each {α : Type} (l : List α) (f : α → Act) :
    (Act.each l f).laneWork P ↔ ∀ x ∈ l, (f x).laneWork P := by
  induction l with
  | nil => simp [Act.each]
  | cons x l ih => simpa [Act.each] using fun _ => ih

theorem laneWork_mono (hPQ : ∀ a, P a → Q a) {a : Act} (h : a.laneWork P) : a.laneWork Q := by
  induction a with
  | seq a b iha ihb => exact ⟨iha h.1, ihb h.2⟩
  | look k ih => exact fun s => ih s (h s)
  | reg x v => exact hPQ _ h
  | skip => trivial
  | win f => trivial
  | units f => exact h
  | _ => exact h.elim

theorem laneWork_of_tally {a : Act} (h : a.tally P) : a.laneWork P := by
  induction a with
  | seq a b iha ihb => exact ⟨iha h.1, ihb h.2⟩
  | look k ih => exact fun s => ih s (h s)
  | reg x v => exact h
  | skip => trivial
  | units f => exact fun u => congrArg (fun x => { x with lanes := [], talkers := [] }) (h u)
  | win f => trivial
  | _ => exact h.elim

end Act

@[simp] theorem put_laneWork {P : Nat → Prop} (f : Field) (v : Nat) : (put f v).laneWork P ↔ P f.addr :=
  ⟨fun h => h State.reset, fun h _ => h⟩
@[simp] theorem event_laneWork {P : Nat → Prop} (f : Field) : (event f).laneWork P ↔ P f.addr := by simp [event]
theorem countBy_laneWork {P : Nat → Prop} {f : Field} (hf : P f.addr) (hP : ∀ a, inNotify a → P a) (k : Nat) :
    (countBy f k).laneWork P :=
  Act.laneWork_of_tally (Act.tally_mono (fun a ha => ha.elim (fun e => e ▸ hf) (hP a)) (countBy_tally f k))
@[simp] theorem onLane_laneWork {P : Nat → Prop} (l : Nat) (f : LaneUnit → LaneUnit) : (onLane l f).laneWork P := fun _ _ => rfl
@[simp] theorem onTalker_laneWork {P : Nat → Prop} (l t : Nat) (f : TalkerUnit → TalkerUnit) : (onTalker l t f).laneWork P :=
  fun _ _ => rfl
@[simp] theorem downlink_laneWork {P : Nat → Prop} (l r : Nat) (ws : List Nat) : (downlink l r ws).laneWork P := by
  simp [downlink]

/-! ## A lane's unit -/

section
variable {s : State} {f : Field} {l t : Nat}

theorem lane_congr {s t : State} (h : t.units.lanes = s.units.lanes) (l : Nat) : t.lane l = s.lane l := by rw [State.lane, h]; rfl
theorem talker_congr {s t : State} (h : t.units.talkers = s.units.talkers) (l k : Nat) : t.talker l k = s.talker l k := by
  rw [State.talker, h]; rfl

theorem countBy_tallied (f : Field) (k : Nat) (s : State) : Tallied (fun a => a = f.addr ∨ inNotify a) s ((countBy f k).run s) :=
  run_tally (countBy_tally f k) s

@[simp] theorem run_countBy_lanes (k : Nat) : ((countBy f k).run s).units.lanes = s.units.lanes :=
  congrArg (·.units.lanes) (countBy_tallied f k s).rest
@[simp] theorem run_countBy_talkers (k : Nat) : ((countBy f k).run s).units.talkers = s.units.talkers :=
  congrArg (·.units.talkers) (countBy_tallied f k s).rest
@[simp] theorem run_countBy_down (k : Nat) : ((countBy f k).run s).win.down = s.win.down :=
  congrArg (·.win.down) (countBy_tallied f k s).rest
@[simp] theorem run_countBy_lane (k : Nat) : ((countBy f k).run s).lane l = s.lane l := lane_congr (run_countBy_lanes k) l
@[simp] theorem run_count_lane : ((count f).run s).lane l = s.lane l := run_countBy_lane 1
@[simp] theorem run_count_lanes : ((count f).run s).units.lanes = s.units.lanes := run_countBy_lanes 1
@[simp] theorem run_count_talkers : ((count f).run s).units.talkers = s.units.talkers := run_countBy_talkers 1
@[simp] theorem run_put_lane (v : Nat) : ((put f v).run s).lane l = s.lane l := (rfl)
@[simp] theorem run_event_lane : ((event f).run s).lane l = s.lane l := (rfl)
@[simp] theorem run_put_down (v : Nat) : ((put f v).run s).win.down = s.win.down := (rfl)
@[simp] theorem run_event_down : ((event f).run s).win.down = s.win.down := (rfl)
@[simp] theorem run_put_talker (v k : Nat) : ((put f v).run s).talker l k = s.talker l k := (rfl)

variable {g : LaneUnit → LaneUnit} {h : TalkerUnit → TalkerUnit}

@[simp] theorem run_onLane_lane : ((onLane l g).run s).lane l = g (s.lane l) := Sparse.get_set_same ..
@[simp] theorem run_onLane_talkers : ((onLane l g).run s).units.talkers = s.units.talkers := (rfl)
@[simp] theorem run_onLane_talker (k : Nat) : ((onLane l g).run s).talker l k = s.talker l k := (rfl)
@[simp] theorem run_onLane_get : ((onLane l g).run s).get f = s.get f := (rfl)
@[simp] theorem run_onLane_regs : ((onLane l g).run s).regs = s.regs := (rfl)
@[simp] theorem run_onLane_win : ((onLane l g).run s).win = s.win := (rfl)
@[simp] theorem run_onLane_flash : ((onLane l g).run s).flash = s.flash := (rfl)
@[simp] theorem run_onLane_laneState : ((onLane l g).run s).laneState l = s.laneState l := (rfl)

@[simp] theorem run_onTalker_get : ((onTalker l t h).run s).get f = s.get f := (rfl)
@[simp] theorem run_onTalker_same : ((onTalker l t h).run s).talker l t = h (s.talker l t) := Sparse.get_set_same ..
theorem run_onTalker_other {k : Nat} (hk : k ≠ t) : ((onTalker l t h).run s).talker l k = s.talker l k :=
  Sparse.get_set_other _ _ _ (by omega)

end

/-! ## Downlink messages (R133) -/

section
variable {s : State} {l r : Nat} {ws : List Nat}

theorem run_downlink (l r : Nat) (ws : List Nat) (s : State) :
    (downlink l r ws).run s = (Act.when s.up (.win fun w => { w with down := w.down ++ [(l, r, ws.flatMap (be 8))] })).run s := rfl

theorem run_downlink_down (hup : s.up = true) : ((downlink l r ws).run s).win.down = s.win.down ++ [(l, r, ws.flatMap (be 8))] := by
  rw [run_downlink, hup]; rfl

theorem run_downlink_win (s : State) : ∃ w, (downlink l r ws).run s = { s with win := w } := by
  rw [run_downlink]
  cases s.up
  · exact ⟨s.win, rfl⟩
  · exact ⟨_, rfl⟩

@[simp] theorem run_downlink_regs : ((downlink l r ws).run s).regs = s.regs := by obtain ⟨w, hw⟩ := run_downlink_win s; rw [hw]
@[simp] theorem run_downlink_units : ((downlink l r ws).run s).units = s.units := by obtain ⟨w, hw⟩ := run_downlink_win s; rw [hw]
@[simp] theorem run_downlink_rd (a : Nat) : ((downlink l r ws).run s).rd a = s.rd a := by rw [State.rd, run_downlink_regs]; rfl
@[simp] theorem run_downlink_get (f : Field) : ((downlink l r ws).run s).get f = s.get f := by rw [State.get, run_downlink_rd]; rfl
@[simp] theorem run_downlink_lane (k : Nat) : ((downlink l r ws).run s).lane k = s.lane k := by rw [State.lane, run_downlink_units]; rfl

end

/-! ## Fields of a lane's registers (R157)

The registers of a lane stand at the same offset above those of lane 0, so that two fields of a lane are told apart by their
places in lane 0. -/

section
variable {a b m n m' n' l k : Nat} {s : State}

theorem get_event_row (hn : n ≤ m) (hm : m' < 64) (h : a ≠ b ∨ m' < n ∨ m < n') :
    ((event ⟨a + k, m, n⟩).run s).get ⟨b + k, m', n'⟩ = s.get ⟨b + k, m', n'⟩ :=
  get_event_other _ _ _ hn hm (h.imp_left fun h e => h (Nat.add_right_cancel e))

theorem get_event_row_same (hm : m < 64) : ((event ⟨a + k, m, m⟩).run s).get ⟨a + k, m, m⟩ = 1 := get_event_bit rfl hm

/-- A lane that a part has (R583). -/
theorem lane_lt {s : State} (h : s.hasLane l = true) : l < 1024 := by
  have hlt : l < s.part.lanes := of_decide_eq_true h
  refine Nat.lt_of_lt_of_le hlt ?_
  cases s.part <;> decide

variable (hlane : l < 1024)
include hlane

theorem get_countBy_lane (k : Nat) (hab : b ≠ a) (hb : b < 0x01001000) :
    ((countBy ⟨a + 0x1000 * l, m, n⟩ k).run s).get ⟨b + 0x1000 * l, m', n'⟩ = s.get ⟨b + 0x1000 * l, m', n'⟩ :=
  (countBy_tallied _ k s).get (by rintro (e | e) <;> simp only [inNotify] at * <;> omega)

theorem get_count_lane (hab : b ≠ a) (hb : b < 0x01001000) :
    ((count ⟨a + 0x1000 * l, m, n⟩).run s).get ⟨b + 0x1000 * l, m', n'⟩ = s.get ⟨b + 0x1000 * l, m', n'⟩ :=
  (count_tallied _ s).get (by rintro (e | e) <;> simp only [inNotify] at * <;> omega)

theorem get_count_lane_same (ha : a < 0x01001000) :
    ((count ⟨a + 0x1000 * l, 47, 0⟩).run s).get ⟨a + 0x1000 * l, 47, 0⟩ = (s.get ⟨a + 0x1000 * l, 47, 0⟩ + 1) % 2 ^ 48 :=
  get_count_48 ⟨rfl, rfl⟩ (by dsimp only; omega)

end

end Sys2Proof.Machine
end

section
/-! The states of a lane (R146 to R148): what entering a state and moving to one leave, and the device's own commands. -/

namespace Sys2Proof.Machine

/-! ## The device's own commands (R134, R135) -/

/-- Word 0 of a command of the device, for the whole talker end. -/
def ownWord (opcode tag arg : Nat) : Nat := 3 * 2 ^ 60 + 0xFF * 2 ^ 48 + opcode * 2 ^ 40 + tag * 2 ^ 32 + arg

/-- A lane's unit once the device has sent a command of its own. -/
def LaneUnit.commanded (u : LaneUnit) (opcode arg now : Nat) : LaneUnit :=
  { u with tag := nextTag u.tag u.host, retryAt := none
           own := some { words := [ownWord opcode (nextTag u.tag u.host) arg], tag := nextTag u.tag u.host, sentAt := now } }

theorem nextTag_lt (t : Nat) (other : Option LaneCmd) : nextTag t other < 256 := by
  have hsmall : t % 255 + 1 < 256 := Nat.succ_lt_succ (Nat.mod_lt t (by decide))
  unfold nextTag
  dsimp only
  split
  · split
    · exact Nat.succ_lt_succ (Nat.mod_lt _ (by decide))
    · exact hsmall
  · exact hsmall

/-- A command's OPCODE stands in its word 0. -/
theorem bits_ownWord {opcode tag arg : Nat} (ho : opcode < 256) (ht : tag < 256) (ha : arg < 2 ^ 32) :
    bits (ownWord opcode tag arg) 47 40 = opcode := by
  simp only [bits, ownWord, Nat.shiftRight_eq_div_pow]
  omega

section
variable {s : State} {l opcode arg : Nat}

theorem run_ownCommand (l opcode arg : Nat) (s : State) : (ownCommand l opcode arg).run s =
    (Act.when (!s.fenced) (downlink l 4 [ownWord opcode (nextTag (s.lane l).tag (s.lane l).host) arg])).run
      ((onLane l fun u => { u with
        tag := nextTag (s.lane l).tag (s.lane l).host, retryAt := none
        own := some { words := [ownWord opcode (nextTag (s.lane l).tag (s.lane l).host) arg],
                      tag := nextTag (s.lane l).tag (s.lane l).host, sentAt := s.keep.elapsed } }).run s) := rfl

@[simp] theorem run_ownCommand_lane : ((ownCommand l opcode arg).run s).lane l = (s.lane l).commanded opcode arg s.keep.elapsed := by
  rw [run_ownCommand]
  cases s.fenced <;> simp [LaneUnit.commanded]

theorem ownCommand_laneWork {P : Nat → Prop} : (ownCommand l opcode arg).laneWork P := by simp [ownCommand]

@[simp] theorem run_ownCommand_regs : ((ownCommand l opcode arg).run s).regs = s.regs := by
  rw [run_ownCommand]
  cases s.fenced <;> simp

@[simp] theorem run_ownCommand_get (f : Field) : ((ownCommand l opcode arg).run s).get f = s.get f := by
  rw [State.get, State.rd, run_ownCommand_regs]; rfl

/-- The OPCODE and the TAG of the device's command outstanding. -/
theorem commanded_own (u : LaneUnit) (now : Nat) (ho : opcode < 256) (ha : arg < 2 ^ 32) :
    (u.commanded opcode arg now).own.map (fun c => (bits (c.words.headD 0) 47 40, c.tag)) = some (opcode, nextTag u.tag u.host) := by
  simp only [LaneUnit.commanded, Option.map_some, List.headD_cons, bits_ownWord ho (nextTag_lt _ _) ha]

theorem enableArg_lt (s : State) (l : Nat) : s.enableArg l < 2 ^ 32 := by
  have hrto : s.get (F.TLK_TIMERS_RTO_US l) < 2 ^ 7 := getBits_lt _ _ _
  have hdata : s.get (F.TLK_CFG_DATA_EN l) < 2 := getBits_lt _ _ _
  unfold State.enableArg
  split <;> omega

end

/-! ## Entering a state (R146) -/

/-- A lane's unit that enters state `st` from `old`. -/
def LaneUnit.entered (u : LaneUnit) (old st now : Nat) : LaneUnit :=
  { u with
    locked := u.locked && decide (2 < st) && st ≠ 8
    own := if st = 5 || st = 6 then u.own
      else if st = 7 then u.own.filter (fun c => bits (c.words.headD 0) 47 40 = 1) else none
    retryAt := none
    resume := if (old = 6 || old = 7) && !(st = 6 || st = 7) then some (old, now) else u.resume
    renewed := u.renewed && !(st = 6 || st = 7)
    leftActive := if st = 0 || st = 6 || st = 7 || st = 8 then none else if old = 6 then some now else u.leftActive }

/-- The registers of a lane that show its state and its events. -/
def ofMove (l a : Nat) : Prop := a = (F.TLK_STATUS_STATE l).addr ∨ a = (F.TLK_EVENTS_LINK_DOWN l).addr

theorem inLane_of_ofMove {l a : Nat} (h : ofMove l a) : inLane l a := by
  rcases h with rfl | rfl <;> simp only [F.TLK_STATUS_STATE, F.TLK_EVENTS_LINK_DOWN, inLane] <;> omega

/-- From `s` to `t` lane `l` has entered state `st`. -/
structure Entered (l st : Nat) (s t : State) : Prop where
  work : LaneWork (ofMove l) s t
  state : t.laneState l = st
  lane : ∃ flaps, t.lane l = { (s.lane l).entered (s.laneState l) st s.keep.elapsed with flaps := flaps }
  down : s.laneState l = 6 ∨ s.laneState l = 7 → st < 6 → t.get (F.TLK_EVENTS_LINK_DOWN l) = 1
  time : st < 3 → t.get (F.TLK_STATUS_TIME_VALID l) = 0
  talkers : t.units.talkers = s.units.talkers

section
variable {s : State} {l st : Nat}

theorem run_enterState (l st : Nat) (s : State) : (enterState l st).run s =
    (onLane l (fun u => u.entered (s.laneState l) st s.keep.elapsed)).run
      ((Act.when (decide (st < 3) || st = 8) (put (F.TLK_STATUS_TIME_VALID l) 0)).run
        ((Act.when ((s.laneState l = 6 || s.laneState l = 7) && decide (st < 6)) (event (F.TLK_EVENTS_LINK_DOWN l))).run
          ((put (F.TLK_STATUS_STATE l) st).run s))) := rfl

theorem enterState_laneWork : (enterState l st).laneWork (ofMove l) := by
  simp only [enterState, Act.laneWork_look, Act.laneWork_all_cons, Act.laneWork_all_nil, Act.laneWork_when, put_laneWork,
    event_laneWork, onLane_laneWork, and_true]
  exact fun _ => ⟨.inl rfl, fun _ => .inr rfl, fun _ => .inl rfl⟩

theorem enterState_lane : ((enterState l st).run s).lane l = (s.lane l).entered (s.laneState l) st s.keep.elapsed := by
  rw [run_enterState, run_onLane_lane]
  generalize (decide (st < 3) || decide (st = 8)) = c
  generalize ((decide (s.laneState l = 6) || decide (s.laneState l = 7)) && decide (st < 6)) = d
  cases c <;> cases d <;> rfl

theorem enterState_talkers : ((enterState l st).run s).units.talkers = s.units.talkers := by
  rw [run_enterState]
  generalize (decide (st < 3) || decide (st = 8)) = c
  generalize ((decide (s.laneState l = 6) || decide (s.laneState l = 7)) && decide (st < 6)) = d
  cases c <;> cases d <;> rfl

theorem enterState_state (h : st < 16) : ((enterState l st).run s).laneState l = st := by
  rw [State.laneState, run_enterState]
  simp (disch := decide) only [run_onLane_get, get_when, F.TLK_STATUS_STATE, F.TLK_STATUS_TIME_VALID, F.TLK_EVENTS_LINK_DOWN,
    get_put_row, get_event_row, get_put_row_same, ite_self]
  exact Nat.mod_eq_of_lt h

theorem enterState_down (h : s.laneState l = 6 ∨ s.laneState l = 7) (hst : st < 6) :
    ((enterState l st).run s).get (F.TLK_EVENTS_LINK_DOWN l) = 1 := by
  have hleft : ((decide (s.laneState l = 6) || decide (s.laneState l = 7)) && decide (st < 6)) = true := by simpa [hst] using h
  rw [run_enterState, hleft, run_onLane_get, get_when, run_when_true, F.TLK_STATUS_TIME_VALID, F.TLK_EVENTS_LINK_DOWN,
    get_put_row _ (by decide) (by decide) (by decide), get_event_row_same (by decide), ite_self]

theorem enterState_time (h : st < 3 ∨ st = 8) : ((enterState l st).run s).get (F.TLK_STATUS_TIME_VALID l) = 0 := by
  have hlow : (decide (st < 3) || decide (st = 8)) = true := by simpa using h
  rw [run_enterState, hlow]
  simp (disch := decide) only [run_onLane_get, get_when, F.TLK_STATUS_TIME_VALID, get_put_row_same, if_true]
  rfl

/-! ## Moving (R148, R156) -/

/-- With no command waiting none leads the lane lower. -/
theorem lowerPending_nil (h : s.pending = []) (l st : Nat) : s.lowerPending l st = false := by
  simp [State.lowerPending, State.laneAsked, h]

/-- The entries into ALIGNING and DARK of the last second (R148). -/
def State.recentFlaps (s : State) (l : Nat) : List Nat :=
  (s.lane l).flaps.filter (fun t => decide (s.keep.elapsed < t + tickS))

/-- The entries that a move to `new` leaves noted. -/
def State.flapsAfter (s : State) (l new : Nat) : List Nat :=
  if new = 1 || new = 2 then s.keep.elapsed :: s.recentFlaps l else (s.lane l).flaps

/-- A move to `new` is an entry too many. -/
def State.flapping (s : State) (l new : Nat) : Bool := (new = 1 || new = 2) && decide ((s.flapsAfter l new).length ≥ 8)

/-- A move to `new`, or to FAULT. -/
def moved (l new : Nat) (flap : Bool) (entries : List Nat) : Act := Act.all [
  enterState l (if flap then 8 else new),
  Act.when flap (event (F.TLK_EVENTS_FLAP_FAULT l)),
  onLane l (fun u => { u with flaps := entries })]

theorem moveLane_eq (l new : Nat) (s : State) : (moveLane l new).run s =
    (if s.fenced || s.lowerPending l new then Act.skip else moved l new (s.flapping l new) (s.flapsAfter l new)).run s := rfl

theorem run_moveLane_fenced (h : s.fenced = true) (l new : Nat) : (moveLane l new).run s = s := by simp [moveLane_eq, h]

variable {new : Nat}

theorem flapping_false (h : new = 1 ∨ new = 2 → (s.recentFlaps l).length < 7) : s.flapping l new = false := by
  by_cases hnew : new = 1 ∨ new = 2
  · have hlt := h hnew
    have hshort : ¬ 7 ≤ (s.recentFlaps l).length := by omega
    simp [State.flapping, State.flapsAfter, hnew, hshort]
  · simp [State.flapping, hnew]

theorem flapping_true (hnew : new = 1 ∨ new = 2) (h : 7 ≤ (s.recentFlaps l).length) : s.flapping l new = true := by
  simp [State.flapping, State.flapsAfter, hnew, h]

theorem moveLane_laneWork : (moveLane l new).laneWork (ofMove l) := by
  have hflap : ofMove l (F.TLK_EVENTS_FLAP_FAULT l).addr := .inr rfl
  simp [moveLane, enterState_laneWork, hflap]

variable (hfenced : s.fenced = false) (hpending : s.pending = [])
include hfenced hpending

theorem run_moveLane (l new : Nat) : (moveLane l new).run s = (moved l new (s.flapping l new) (s.flapsAfter l new)).run s := by
  rw [moveLane_eq, hfenced, lowerPending_nil hpending]
  rfl

/-- A lane that nothing holds moves. -/
theorem moveLane_entered (hnew : new < 16) (hflaps : new = 1 ∨ new = 2 → (s.recentFlaps l).length < 7) :
    Entered l new s ((moveLane l new).run s) := by
  have hrun : (moveLane l new).run s =
      (onLane l (fun u => { u with flaps := s.flapsAfter l new })).run ((enterState l new).run s) := by
    simp only [run_moveLane hfenced hpending, flapping_false hflaps, moved, run_all_cons, run_all_nil, run_when_false,
      Bool.false_eq_true, if_false]
  refine ⟨run_laneWork moveLane_laneWork s, ?_, ?_, ?_, ?_, ?_⟩ <;> rw [hrun]
  · rw [run_onLane_laneState, enterState_state hnew]
  · exact ⟨_, by rw [run_onLane_lane, enterState_lane]⟩
  · rw [run_onLane_get]
    exact enterState_down
  · rw [run_onLane_get]
    exact fun h => enterState_time (.inl h)
  · rw [run_onLane_talkers, enterState_talkers]

/-- An eighth entry into DARK or ALIGNING within a second leads to FAULT. -/
theorem moveLane_flap (hnew : new = 1 ∨ new = 2) (hflaps : 7 ≤ (s.recentFlaps l).length) :
    LaneWork (ofMove l) s ((moveLane l new).run s) ∧ ((moveLane l new).run s).laneState l = 8 ∧
    ((moveLane l new).run s).get (F.TLK_EVENTS_FLAP_FAULT l) = 1 := by
  have hrun : (moveLane l new).run s = (onLane l (fun u => { u with flaps := s.flapsAfter l new })).run
      ((event (F.TLK_EVENTS_FLAP_FAULT l)).run ((enterState l 8).run s)) := by
    simp only [run_moveLane hfenced hpending, flapping_true hnew hflaps, moved, run_all_cons, run_all_nil, run_when_true, if_true]
  have hstate : ((event (F.TLK_EVENTS_FLAP_FAULT l)).run ((enterState l 8).run s)).laneState l = 8 := by
    have hentered : ((enterState l 8).run s).laneState l = 8 := enterState_state (by decide)
    rw [State.laneState, F.TLK_STATUS_STATE] at hentered ⊢
    rw [F.TLK_EVENTS_FLAP_FAULT, get_event_row (by decide) (by decide) (by decide), hentered]
  refine ⟨run_laneWork moveLane_laneWork s, ?_, ?_⟩ <;> rw [hrun]
  · rw [run_onLane_laneState, hstate]
  · rw [run_onLane_get, F.TLK_EVENTS_FLAP_FAULT, get_event_row_same (by decide)]

end

end Sys2Proof.Machine
end

section
/-! Writes of a lane's registers (R124, R146 to R148) and the physical events of a lane: their programs and what each leaves. -/

namespace Sys2Proof.Machine

/-! ## A lane behind the count of a write (R107) -/

/-- A register at a place of lane 0's block stands in lane `l`'s block at the lane's offset. -/
theorem inLane_row {c l : Nat} (h : 0x01000000 ≤ c ∧ c < 0x01001000) : inLane l (c + 0x1000 * l) := by
  simp only [inLane]
  omega

theorem not_ofMove {c l : Nat} (h : c ≠ 0x01000010 ∧ c ≠ 0x01000014) : ¬ ofMove l (c + 0x1000 * l) := by
  simp only [ofMove, F.TLK_STATUS_STATE, F.TLK_EVENTS_LINK_DOWN]
  omega

/-- A lane and what a command of its registers asks stand in `u` as in `s`. -/
structure LaneAs (l : Nat) (s u : State) : Prop where
  unit : u.lane l = s.lane l
  rd : ∀ a, inLane l a → u.rd a = s.rd a
  fenced : u.fenced = s.fenced
  up : u.up = s.up
  pending : u.pending = s.pending
  hasLane : u.hasLane l = s.hasLane l
  keep : u.keep = s.keep
  hasRight : ∀ n a, u.hasRight n a = s.hasRight n a

section
variable {l : Nat} {s u : State}

/-- A tally that stays off the lane's registers and off those that show the device's state. -/
theorem LaneAs.of_tallied {P : Nat → Prop} (h : Tallied P s u) (hlane : ∀ a, inLane l a → ¬ P a)
    (hfenced : ¬ P F.SUP_STATUS_FENCED.addr) (hup : ¬ P F.PWR_STATUS_LOCAL_READY.addr) : LaneAs l s u where
  unit := lane_congr (congrArg (·.units.lanes) h.rest) l
  rd := fun a ha => h.rd a (hlane a ha)
  fenced := h.is hfenced
  up := h.is hup
  pending := h.pending
  hasLane := by rw [State.hasLane, h.part]; rfl
  keep := h.keep
  hasRight := h.hasRight

/-- The count of a write leaves the lane as it was. -/
theorem LaneAs.of_count (h : Tallied ofWriteCount s u) (hl : s.hasLane l = true) : LaneAs l s u := by
  have hlt := lane_lt hl
  refine .of_tallied h (fun a ha hc => ?_) ?_ ?_ <;>
    simp only [ofWriteCount, inNotify, inLane, F.IMG_VOLATILE_WRITES_COUNT, F.SUP_STATUS_FENCED, F.PWR_STATUS_LOCAL_READY] at * <;> omega

/-- So does a count below half its range, whatever the lane. -/
theorem LaneAs.of_small_count (h : Tallied (fun a => a = F.IMG_VOLATILE_WRITES_COUNT.addr) s u) : LaneAs l s u := by
  refine .of_tallied h (fun a ha hc => ?_) (by decide) (by decide)
  simp only [inLane, F.IMG_VOLATILE_WRITES_COUNT] at *
  omega

variable (h : LaneAs l s u)
include h

theorem LaneAs.get {f : Field} (hf : inLane l f.addr) : u.get f = s.get f := by rw [State.get, h.rd _ hf]; rfl
theorem LaneAs.is {f : Field} (hf : inLane l f.addr) : u.is f = s.is f := by rw [State.is, h.get hf]; rfl
theorem LaneAs.laneState : u.laneState l = s.laneState l := h.get (f := F.TLK_STATUS_STATE l) (inLane_row (by decide))
theorem LaneAs.laneIsolated : u.laneIsolated l = s.laneIsolated l := h.is (f := F.TLK_EVENTS_ISOLATED l) (inLane_row (by decide))
theorem LaneAs.recentFlaps : u.recentFlaps l = s.recentFlaps l := by rw [State.recentFlaps, h.unit, h.keep]; rfl

end

/-- The registers that a write to a lane may change. -/
def ofLaneWrite (l a : Nat) : Prop := inLane l a ∨ inQueueBlocks a ∨ a = F.IMG_VOLATILE_WRITES_COUNT.addr

theorem ofLaneWrite_of_count {l a : Nat} (h : ofWriteCount a) : ofLaneWrite l a :=
  .inr (h.symm.imp_left fun hn => Nat.le_trans (by decide) hn.1)

section
variable {l : Nat} {s t u : State}

/-- What a write leaves: its count first, then work in the lane. -/
theorem laneWrite_work {P : Nat → Prop} (hu : Tallied ofWriteCount s u) (ht : LaneWork P u t) (hP : ∀ a, P a → inLane l a) :
    LaneWork (ofLaneWrite l) s t :=
  ((LaneWork.of_tallied hu).mono fun _ => ofLaneWrite_of_count).trans (ht.mono fun a ha => .inl (hP a ha))

end

/-! ## Entering a state: what else is known of the lane -/

namespace Entered

variable {l st : Nat} {s t : State} (h : Entered l st s t)
include h

theorem unlocked (hst : st < 3) : (t.lane l).locked = false := by
  obtain ⟨flaps, hlane⟩ := h.lane
  have hlow : ¬ 2 < st := by omega
  rw [hlane]
  simp [LaneUnit.entered, hlow]

theorem resumes (hfrom : s.laneState l = 6 ∨ s.laneState l = 7) (hst : st < 6) : (t.lane l).resume.map (·.1) = some (s.laneState l) := by
  obtain ⟨flaps, hlane⟩ := h.lane
  have h6 : st ≠ 6 := by omega
  have h7 : st ≠ 7 := by omega
  rw [hlane]
  simp [LaneUnit.entered, hfrom, h6, h7]

theorem get {c m n : Nat} (hc : c ≠ 0x01000010 ∧ c ≠ 0x01000014) :
    t.get ⟨c + 0x1000 * l, m, n⟩ = s.get ⟨c + 0x1000 * l, m, n⟩ :=
  h.work.get (f := ⟨c + 0x1000 * l, m, n⟩) (not_ofMove hc)

end Entered

/-! ## TLK_CFG (R147, R148) -/

section
variable {s : State} {l w mode : Nat} {v : Word}

/-- What a write of TLK_CFG puts. -/
def cfgShown (l : Nat) (v : Word) : Act :=
  .seq (put (F.TLK_CFG_DATA_EN l) (getBits v 2 2)) (put (F.TLK_CFG_MODE l) (getBits v 1 0))

theorem cfgShown_laneWork : (cfgShown l v).laneWork (· = (F.TLK_CFG_MODE l).addr) := by
  simp only [cfgShown, Act.laneWork_seq, put_laneWork, and_true]
  rfl

theorem cfgShown_mode : ((cfgShown l v).run s).get (F.TLK_CFG_MODE l) = getBits v 1 0 := by
  rw [cfgShown, run_seq, F.TLK_CFG_MODE, get_put_row_same _ (by decide) (by decide)]
  exact Nat.mod_eq_of_lt (getBits_lt v 1 0)

theorem cfgShown_dataEn : ((cfgShown l v).run s).get (F.TLK_CFG_DATA_EN l) = getBits v 2 2 := by
  rw [cfgShown, run_seq, F.TLK_CFG_MODE, F.TLK_CFG_DATA_EN, get_put_row _ (by decide) (by decide) (by decide),
    get_put_row_same _ (by decide) (by decide)]
  exact Nat.mod_eq_of_lt (getBits_lt v 2 2)

/-- A lane whose entries count afresh where it leaves FAULT (R148). -/
def freshFlaps (l : Nat) (c : Bool) : Act := Act.when c (onLane l (fun u => { u with flaps := [] }))

theorem freshFlaps_laneWork {P : Nat → Prop} (c : Bool) : (freshFlaps l c).laneWork P := by simp [freshFlaps]
theorem freshFlaps_pending (c : Bool) : ((freshFlaps l c).run s).pending = s.pending := run_pending _ s
theorem freshFlaps_fenced (c : Bool) : ((freshFlaps l c).run s).fenced = s.fenced := by cases c <;> rfl

theorem freshFlaps_few (c : Bool) (h : (s.recentFlaps l).length < 7) : (((freshFlaps l c).run s).recentFlaps l).length < 7 := by
  cases c
  · exact h
  · rw [freshFlaps, run_when_true, State.recentFlaps, run_onLane_lane]
    exact Nat.zero_lt_succ 6

theorem run_applyMode_on (old : Nat) (hmode : mode = 1 ∨ mode = 2) (hstate : s.laneState l = 0) :
    (applyMode l mode old).run s = (moveLane l 1).run s := by
  simp [applyMode, hmode, hstate]

theorem run_applyMode_off (old : Nat) (hmode : mode = 0 ∨ mode = 3) :
    (applyMode l mode old).run s = (moveLane l 0).run ((freshFlaps l (s.laneState l = 8)).run s) := by
  have hoff : ¬ (mode = 1 ∨ mode = 2) := by omega
  simp [applyMode, freshFlaps, hoff]

variable (hright : s.hasRight w (F.TLK_CFG_MODE l).addr = true) (hlane : s.hasLane l = true)
include hright hlane

theorem run_tlkCfgWrite (hiso : s.laneIsolated l = false) : (tlkCfgWriteAct l w v).run s =
    (applyMode l (getBits v 1 0) (s.get (F.TLK_CFG_MODE l))).run ((cfgShown l v).run s) := by
  simp [tlkCfgWriteAct, cfgShown, hright, hlane, hiso]

theorem run_tlkCfgWrite_isolated (hiso : s.laneIsolated l = true) : (tlkCfgWriteAct l w v).run s =
    (event (F.TLK_EVENTS_WRITE_LOST l)).run ((put (F.TLK_CFG_DATA_EN l) (getBits v 2 2)).run s) := by
  simp [tlkCfgWriteAct, writeLost, hright, hlane, hiso]

end

/-! ## TLK_TIMERS (R124) -/

/-- What a write of TLK_TIMERS puts. -/
def timersShown (l : Nat) (v : Word) : Act := Act.all [
  put (F.TLK_TIMERS_RTO_US l) (clamp 2 64 (getBits v 31 25)),
  put (F.TLK_TIMERS_LINK_TIMEOUT_US l) (clamp 5 1000 (getBits v 24 15)),
  put (F.TLK_TIMERS_WM_TIMEOUT_US l) (clamp 2 1000 (getBits v 14 5)),
  put (F.TLK_TIMERS_MARKER_EXP l) (clamp 7 20 (getBits v 4 0))]

section
variable {s : State} {l w : Nat} {v : Word}

theorem timersShown_laneWork : (timersShown l v).laneWork (· = (F.TLK_TIMERS_RTO_US l).addr) := by
  simp only [timersShown, Act.laneWork_all_cons, Act.laneWork_all_nil, put_laneWork, and_true, true_and]
  exact ⟨rfl, rfl, rfl⟩

theorem clamp_lt {lo hi x n : Nat} (hlo : lo < n) (hhi : hi < n) : clamp lo hi x < n :=
  Nat.max_lt.mpr ⟨hlo, Nat.lt_of_le_of_lt (Nat.min_le_left hi x) hhi⟩

theorem timersShown_get (s : State) (l : Nat) (v : Word) :
    ((timersShown l v).run s).get (F.TLK_TIMERS_RTO_US l) = clamp 2 64 (getBits v 31 25) ∧
    ((timersShown l v).run s).get (F.TLK_TIMERS_LINK_TIMEOUT_US l) = clamp 5 1000 (getBits v 24 15) ∧
    ((timersShown l v).run s).get (F.TLK_TIMERS_WM_TIMEOUT_US l) = clamp 2 1000 (getBits v 14 5) ∧
    ((timersShown l v).run s).get (F.TLK_TIMERS_MARKER_EXP l) = clamp 7 20 (getBits v 4 0) := by
  simp (disch := decide) only [timersShown, run_all_cons, run_all_nil, F.TLK_TIMERS_RTO_US, F.TLK_TIMERS_LINK_TIMEOUT_US,
    F.TLK_TIMERS_WM_TIMEOUT_US, F.TLK_TIMERS_MARKER_EXP, get_put_row, get_put_row_same]
  exact ⟨Nat.mod_eq_of_lt (clamp_lt (by decide) (by decide)), Nat.mod_eq_of_lt (clamp_lt (by decide) (by decide)),
    Nat.mod_eq_of_lt (clamp_lt (by decide) (by decide)), Nat.mod_eq_of_lt (clamp_lt (by decide) (by decide))⟩

/-- A new RTO is sent at once on an ACTIVE lane. -/
def rtoSent (l : Nat) (c : Bool) : Act := Act.when c (sendEnable l)

theorem rtoSent_laneWork {P : Nat → Prop} (c : Bool) : (rtoSent l c).laneWork P := by
  simp [rtoSent, sendEnable, ownCommand_laneWork]

theorem rtoSent_get (c : Bool) (f : Field) : ((rtoSent l c).run s).get f = s.get f := by
  cases c <;> simp [rtoSent, sendEnable]

theorem sendEnable_own : (((sendEnable l).run s).lane l).own.map (fun c => bits (c.words.headD 0) 47 40) = some 2 := by
  rw [sendEnable, run_look, run_ownCommand_lane]
  have h := commanded_own (s.lane l) s.keep.elapsed (opcode := 2) (by decide) (enableArg_lt s l)
  simpa using congrArg (Option.map Prod.fst) h

theorem run_tlkTimersWrite (hright : s.hasRight w (F.TLK_TIMERS_RTO_US l).addr = true) (hlane : s.hasLane l = true) :
    (tlkTimersWriteAct l w v).run s = (rtoSent l (s.laneState l = 6 && clamp 2 64 (getBits v 31 25) ≠ s.get (F.TLK_TIMERS_RTO_US l))).run
      ((timersShown l v).run s) := by
  simp [tlkTimersWriteAct, timersShown, rtoSent, hright, hlane]

end

/-! ## TLK_CTRL (R148) -/

/-- A row of TLK_CTRL: the write of one of its bits. -/
def ctrlRow (f : Field) (c : Bool) (l w : Nat) (act : Act) : Act := adjusts w f (Act.when c (laneCommand l w act))

section
variable {s : State} {l w : Nat} {act : Act}

theorem run_laneCommand {u : State} (hright : u.hasRight w (F.TLK_CTRL_RESTART l).addr = true) (hlane : u.hasLane l = true) :
    (laneCommand l w act).run u = if u.laneIsolated l then (event (F.TLK_EVENTS_WRITE_LOST l)).run u else act.run u := by
  cases hiso : u.laneIsolated l <;> simp [laneCommand, writeLost, hright, hlane, hiso]

theorem run_laneCommand_none {u : State} (h : u.hasRight w (F.TLK_CTRL_RESTART l).addr = false ∨ u.hasLane l = false) :
    (laneCommand l w act).run u = u := by
  rcases h with h | h <;> simp [laneCommand, h]

/-- A row that does nothing but count the write. -/
theorem ctrlRow_none {n : Nat} (f : Field) (act : Act)
    (h : n = 0 ∨ s.hasRight w (F.TLK_CTRL_RESTART l).addr = false ∨ s.hasLane l = false)
    (hcount : s.get F.IMG_VOLATILE_WRITES_COUNT + 1 < 2 ^ 47) :
    ∃ t, (Host.Outcome.next ((ctrlRow f (n = 1) l w act).run s) : Host.Outcome State Fault Refusal) = .next t ∧
      t.units = s.units ∧ t.keep = s.keep ∧ t.force = s.force ∧ t.out = s.out ∧
      (∀ a, ¬ (a = F.IMG_VOLATILE_WRITES_COUNT.addr) → t.rd a = s.rd a) ∧ t.flash = s.flash := by
  obtain ⟨u, hu, hunits, hrun⟩ := run_adjusts_below_half w f (Act.when (n = 1) (laneCommand l w act)) hcount
  have has : LaneAs l s u := .of_small_count hu
  refine ⟨u, congrArg Host.Outcome.next (hrun.trans ?_), refused_frame hu hunits⟩
  rcases h with rfl | h
  · rfl
  · have hnone : (laneCommand l w act).run u = u := run_laneCommand_none (by rwa [has.hasRight, has.hasLane])
    cases decide (n = 1)
    · rfl
    · exact hnone

variable (hright : s.hasRight w (F.TLK_CTRL_RESTART l).addr = true) (hlane : s.hasLane l = true)
include hright hlane

/-- On an isolated lane a row only sets WRITE_LOST. -/
theorem ctrlRow_isolated {n : Nat} (f : Field) (act : Act) (hn : n = 1) (hiso : s.laneIsolated l = true)
    (hcount : s.get F.IMG_VOLATILE_WRITES_COUNT + 1 < 2 ^ 47) :
    ∃ t, (Host.Outcome.next ((ctrlRow f (n = 1) l w act).run s) : Host.Outcome State Fault Refusal) = .next t ∧
      t.get (F.TLK_EVENTS_WRITE_LOST l) = 1 ∧ t.units = s.units ∧
      t.laneState l = s.laneState l ∧
      (∀ a, ¬ (a = (F.TLK_EVENTS_WRITE_LOST l).addr ∨ a = F.IMG_VOLATILE_WRITES_COUNT.addr) → t.rd a = s.rd a) ∧
      t.flash = s.flash := by
  obtain ⟨u, hu, hunits, hrun⟩ := run_adjusts_below_half w f (Act.when (n = 1) (laneCommand l w act)) hcount
  have has : LaneAs l s u := .of_small_count hu
  rw [decide_eq_true hn, run_when_true, run_laneCommand (by rwa [has.hasRight]) (by rwa [has.hasLane]),
    if_pos (by rwa [has.laneIsolated])] at hrun
  rw [ctrlRow, decide_eq_true hn]
  refine ⟨_, congrArg Host.Outcome.next hrun, ?lost, hunits, ?state, fun a ha => ?rd, hu.flash⟩
  case lost => exact get_event_bit rfl (by simp [F.TLK_EVENTS_WRITE_LOST])
  case state =>
    rw [← has.laneState, State.laneState, State.laneState, F.TLK_STATUS_STATE, F.TLK_EVENTS_WRITE_LOST,
      get_event_row (by decide) (by decide) (by decide)]
  case rd =>
    obtain ⟨hlost, hcount⟩ := not_or.mp ha
    rw [rd_event_other hlost, hu.rd a hcount]

/-- Otherwise its command runs, behind the count of the write. -/
theorem ctrlRow_taken {n : Nat} (f : Field) (act : Act) (hn : n = 1) (hiso : s.laneIsolated l = false) :
    ∃ u, Tallied ofWriteCount s u ∧ LaneAs l s u ∧ (ctrlRow f (n = 1) l w act).run s = act.run u := by
  obtain ⟨u, hu, hrun⟩ := run_adjusts w f (Act.when (n = 1) (laneCommand l w act)) s
  have has : LaneAs l s u := .of_count hu hlane
  rw [decide_eq_true hn, run_when_true, run_laneCommand (by rwa [has.hasRight]) (by rwa [has.hasLane]),
    if_neg (by rw [has.laneIsolated, hiso]; decide)] at hrun
  rw [ctrlRow, decide_eq_true hn]
  exact ⟨u, hu, has, hrun⟩

end

/-! ## Restarts, measuring and discovering anew (R138, R147, R148) -/

section
variable {s : State} {l : Nat}

theorem run_restartLane (s : State) (l : Nat) :
    (restartLane l).run s = (moveLane l 1).run ((freshFlaps l (s.laneState l = 8)).run s) := rfl

/-- A pass of echoes begins (R138). -/
def forgetDelays (u : LaneUnit) : LaneUnit := { u with delays := [], valid := 0, measuredAt := none, echoes := [] }

/-- REMEASURE and REDISCOVER on a lane that is not isolated. -/
def remeasured (l : Nat) : Act := .look fun s => Act.when (s.laneState l = 6 || s.laneState l = 7) (startMeasuring l)
def rediscovered (l : Nat) : Act := .look fun s => Act.when (s.laneState l = 6 || s.laneState l = 7) (startDiscovering l)

theorem run_remeasured (h : s.laneState l = 6 ∨ s.laneState l = 7) :
    (remeasured l).run s = (onLane l forgetDelays).run ((moveLane l 4).run s) := by
  have hstands : (decide (s.laneState l = 6) || decide (s.laneState l = 7)) = true := by simpa using h
  rw [remeasured, run_look, hstands, run_when_true, startMeasuring, run_seq]
  rfl

/-- DISCOVER is sent to a talker end that has yet to answer with its roster. -/
def discoverAfresh (l : Nat) : Act := .seq (onLane l (fun u => { u with roster := false, own := none })) (sendDiscover l)

theorem discoverAfresh_laneWork {P : Nat → Prop} : (discoverAfresh l).laneWork P := by
  simp [discoverAfresh, sendDiscover, ownCommand_laneWork]

theorem discoverAfresh_laneState : ((discoverAfresh l).run s).laneState l = s.laneState l := by
  rw [State.laneState, discoverAfresh, run_seq, sendDiscover, run_ownCommand_get, run_onLane_get]
  rfl

theorem discoverAfresh_roster (s : State) : (((discoverAfresh l).run s).lane l).roster = false := by
  rw [discoverAfresh, run_seq, sendDiscover, run_ownCommand_lane, run_onLane_lane]
  rfl

theorem run_startDiscovering (hfenced : s.fenced = false) (hpending : s.pending = []) :
    (startDiscovering l).run s = (discoverAfresh l).run ((moveLane l 5).run s) := by
  simp [startDiscovering, discoverAfresh, hfenced, lowerPending_nil hpending]

theorem run_rediscovered (h : s.laneState l = 6 ∨ s.laneState l = 7) (hfenced : s.fenced = false) (hpending : s.pending = []) :
    (rediscovered l).run s = (discoverAfresh l).run ((moveLane l 5).run s) := by
  have hstands : (decide (s.laneState l = 6) || decide (s.laneState l = 7)) = true := by simpa using h
  rw [rediscovered, run_look, hstands, run_when_true, run_startDiscovering hfenced hpending]

theorem sendDiscover_own : (((sendDiscover l).run s).lane l).own.map (fun c => bits (c.words.headD 0) 47 40) = some 1 := by
  rw [sendDiscover, run_ownCommand_lane]
  have h := commanded_own (s.lane l) s.keep.elapsed (opcode := 1) (arg := 0) (by decide) (by decide)
  simpa using congrArg (Option.map Prod.fst) h

end

end Sys2Proof.Machine
end

section
/-! The states of a lane (R124, R146 to R148, R157): the statement. -/

namespace Sys2Proof.Machine

section
variable {s : State} {l w : Nat} {v : Word}

/-- A lane that loses signal or lock, or restarts, goes to DARK or ALIGNING. -/
theorem moveLane_down {new : Nat} (hfenced : s.fenced = false) (hpending : s.pending = []) (hnew : new = 1 ∨ new = 2)
    (hflaps : (s.recentFlaps l).length < 7) : Entered l new s ((moveLane l new).run s) :=
  moveLane_entered hfenced hpending (by omega) fun _ => hflaps

theorem LaneWork.laneFrame {t : State} (h : LaneWork (ofMove l) s t) (a : Nat)
    (ha : ¬ (inLane l a ∨ inQueueBlocks a)) : t.rd a = s.rd a :=
  h.rd a fun hm => ha (.inl (inLane_of_ofMove hm))

/-- A register outside what a write to a lane may change. -/
theorem not_ofLaneWrite {a : Nat} (h : ¬ (inLane l a ∨ inQueueBlocks a ∨ a = F.IMG_VOLATILE_WRITES_COUNT.addr ∨ 0x08000000 ≤ a)) :
    ¬ ofLaneWrite l a := fun ha => h (ha.imp_right fun hb => hb.imp_right .inl)

/-- What a restart leaves. -/
theorem restartLane_entered (hfenced : s.fenced = false) (hpending : s.pending = []) (hflaps : (s.recentFlaps l).length < 7) :
    Entered l 1 ((freshFlaps l (s.laneState l = 8)).run s) ((restartLane l).run s) := by
  rw [run_restartLane]
  exact moveLane_down (by rwa [freshFlaps_fenced]) (by rwa [freshFlaps_pending]) (.inl rfl) (freshFlaps_few _ hflaps)

/-! ## Writes of TLK_CFG -/

/-- What a new MODE does to a lane that nothing holds: it leads to `st`. -/
def modeLeads (l mode st : Nat) (s : State) : Prop :=
  ∀ old, LaneWork (ofMove l) s ((applyMode l mode old).run s) ∧ ((applyMode l mode old).run s).laneState l = st

theorem modeLeads_dark {mode : Nat} (hmode : mode = 1 ∨ mode = 2) (hstate : s.laneState l = 0) (hfenced : s.fenced = false)
    (hpending : s.pending = []) (hflaps : (s.recentFlaps l).length < 7) : modeLeads l mode 1 s := fun old => by
  rw [run_applyMode_on old hmode hstate]
  have h := moveLane_down hfenced hpending (.inl rfl) hflaps
  exact ⟨h.work, h.state⟩

theorem modeLeads_disabled {mode : Nat} (hmode : mode = 0 ∨ mode = 3) (hfenced : s.fenced = false)
    (hpending : s.pending = []) : modeLeads l mode 0 s := fun old => by
  rw [run_applyMode_off old hmode]
  have h := moveLane_entered (l := l) (new := 0) (s := (freshFlaps l (s.laneState l = 8)).run s) (by rwa [freshFlaps_fenced])
    (by rwa [freshFlaps_pending]) (by decide) (by omega)
  exact ⟨(run_laneWork (freshFlaps_laneWork _) s).trans h.work, h.state⟩

/-- The lane behind a write of TLK_CFG and before its move. -/
theorem cfgShown_kept {u : State} (has : LaneAs l s u) :
    ((cfgShown l v).run u).laneState l = s.laneState l ∧ ((cfgShown l v).run u).fenced = s.fenced ∧
    ((cfgShown l v).run u).pending = s.pending ∧ ((cfgShown l v).run u).recentFlaps l = s.recentFlaps l := by
  have hwork := run_laneWork (cfgShown_laneWork (l := l) (v := v)) u
  refine ⟨?_, ?_, hwork.pending.trans has.pending, has.recentFlaps⟩
  · rw [← has.laneState]
    exact hwork.get (f := F.TLK_STATUS_STATE l) (by simp [F.TLK_STATUS_STATE, F.TLK_CFG_MODE])
  · rw [← has.fenced]
    exact hwork.is (by simp only [F.SUP_STATUS_FENCED, F.TLK_CFG_MODE]; omega)

section
variable (hright : s.hasRight w (F.TLK_CFG_MODE l).addr = true) (hlane : s.hasLane l = true)
include hright hlane

theorem tlkCfgWrite_leads {st : Nat} (hiso : s.laneIsolated l = false)
    (hleads : ∀ x : State, x.laneState l = s.laneState l → x.fenced = s.fenced → x.pending = s.pending →
      x.recentFlaps l = s.recentFlaps l → modeLeads l (getBits v 1 0) st x) :
    ∃ t, exec (.tlkCfgWrite l w v) s = .next t ∧ t.laneState l = st ∧ t.get (F.TLK_CFG_MODE l) = getBits v 1 0 ∧
      t.get (F.TLK_CFG_DATA_EN l) = getBits v 2 2 ∧ LaneWork (ofLaneWrite l) s t := by
  obtain ⟨u, hu, hrun⟩ := run_adjusts w (F.TLK_CFG_MODE l) (tlkCfgWriteAct l w v) s
  have has : LaneAs l s u := .of_count hu hlane
  rw [run_tlkCfgWrite (by rwa [has.hasRight]) (by rwa [has.hasLane]) (by rwa [has.laneIsolated])] at hrun
  obtain ⟨hstate, hfenced, hpending, hflaps⟩ := cfgShown_kept (v := v) has
  obtain ⟨hwork, hst⟩ := hleads _ hstate hfenced hpending hflaps (u.get (F.TLK_CFG_MODE l))
  have hshown : LaneWork (inLane l) u ((cfgShown l v).run u) :=
    (run_laneWork cfgShown_laneWork u).mono fun a (ha : a = _) => ha ▸ inLane_row (by decide)
  refine ⟨_, congrArg Host.Outcome.next hrun, hst, ?_, ?_,
    laneWrite_work hu (hshown.trans (hwork.mono fun a => inLane_of_ofMove)) fun _ => id⟩
  · exact (hwork.get (f := F.TLK_CFG_MODE l) (not_ofMove (by decide))).trans cfgShown_mode
  · exact (hwork.get (f := F.TLK_CFG_DATA_EN l) (not_ofMove (by decide))).trans cfgShown_dataEn

theorem tlkCfgWrite_isolated (hiso : s.laneIsolated l = true) :
    ∃ t, exec (.tlkCfgWrite l w v) s = .next t ∧ t.get (F.TLK_EVENTS_WRITE_LOST l) = 1 ∧
      t.get (F.TLK_CFG_MODE l) = s.get (F.TLK_CFG_MODE l) ∧ t.laneState l = s.laneState l ∧
      t.get (F.TLK_CFG_DATA_EN l) = getBits v 2 2 ∧ LaneWork (ofLaneWrite l) s t := by
  obtain ⟨u, hu, hrun⟩ := run_adjusts w (F.TLK_CFG_MODE l) (tlkCfgWriteAct l w v) s
  have has : LaneAs l s u := .of_count hu hlane
  rw [run_tlkCfgWrite_isolated (by rwa [has.hasRight]) (by rwa [has.hasLane]) (by rwa [has.laneIsolated])] at hrun
  have hwork : (Act.seq (put (F.TLK_CFG_DATA_EN l) (getBits v 2 2)) (event (F.TLK_EVENTS_WRITE_LOST l))).laneWork (inLane l) := by
    simp only [Act.laneWork_seq, put_laneWork, event_laneWork]
    exact ⟨inLane_row (by decide), inLane_row (by decide)⟩
  refine ⟨_, congrArg Host.Outcome.next hrun, ?lost, ?mode, ?state, ?dataEn, laneWrite_work hu (run_laneWork hwork u) fun _ => id⟩
  case lost => rw [F.TLK_EVENTS_WRITE_LOST, get_event_row_same (by decide)]
  case mode =>
    rw [← has.get (f := F.TLK_CFG_MODE l) (inLane_row (by decide))]
    simp (disch := decide) only [F.TLK_EVENTS_WRITE_LOST, F.TLK_CFG_MODE, F.TLK_CFG_DATA_EN, get_event_row, get_put_row]
  case state =>
    rw [← has.laneState, State.laneState, State.laneState]
    simp (disch := decide) only [F.TLK_EVENTS_WRITE_LOST, F.TLK_STATUS_STATE, F.TLK_CFG_DATA_EN, get_event_row, get_put_row]
  case dataEn =>
    simp (disch := decide) only [F.TLK_EVENTS_WRITE_LOST, F.TLK_CFG_DATA_EN, get_event_row, get_put_row_same]
    exact Nat.mod_eq_of_lt (getBits_lt v 2 2)

end

/-! ## Writes of TLK_TIMERS -/

theorem tlkTimersWrite_taken (hright : s.hasRight w (F.TLK_TIMERS_RTO_US l).addr = true) (hlane : s.hasLane l = true) :
    ∃ t, exec (.tlkTimersWrite l w v) s = .next t ∧
      t.get (F.TLK_TIMERS_RTO_US l) = clamp 2 64 (getBits v 31 25) ∧
      t.get (F.TLK_TIMERS_LINK_TIMEOUT_US l) = clamp 5 1000 (getBits v 24 15) ∧
      t.get (F.TLK_TIMERS_WM_TIMEOUT_US l) = clamp 2 1000 (getBits v 14 5) ∧
      t.get (F.TLK_TIMERS_MARKER_EXP l) = clamp 7 20 (getBits v 4 0) ∧
      t.laneState l = s.laneState l ∧
      (s.laneState l = 6 → clamp 2 64 (getBits v 31 25) ≠ s.get (F.TLK_TIMERS_RTO_US l) →
        (t.lane l).own.map (fun c => bits (c.words.headD 0) 47 40) = some 2) ∧
      LaneWork (ofLaneWrite l) s t := by
  obtain ⟨u, hu, hrun⟩ := run_adjusts w (F.TLK_TIMERS_RTO_US l) (tlkTimersWriteAct l w v) s
  have has : LaneAs l s u := .of_count hu hlane
  rw [run_tlkTimersWrite (by rwa [has.hasRight]) (by rwa [has.hasLane]), has.laneState,
    has.get (f := F.TLK_TIMERS_RTO_US l) (inLane_row (by decide))] at hrun
  have hshown := run_laneWork (timersShown_laneWork (l := l) (v := v)) u
  have hwork := hshown.trans (run_laneWork (rtoSent_laneWork (l := l)
    (s.laneState l = 6 && clamp 2 64 (getBits v 31 25) ≠ s.get (F.TLK_TIMERS_RTO_US l))) _)
  obtain ⟨hrto, hlink, hwm, hexp⟩ := timersShown_get u l v
  refine ⟨_, congrArg Host.Outcome.next hrun, ?_, ?_, ?_, ?_, ?_, fun hactive hnew => ?_,
    laneWrite_work hu hwork fun a ha => ha ▸ inLane_row (by decide)⟩
  · rw [rtoSent_get, hrto]
  · rw [rtoSent_get, hlink]
  · rw [rtoSent_get, hwm]
  · rw [rtoSent_get, hexp]
  · refine Eq.trans ?_ has.laneState
    exact hwork.get (f := F.TLK_STATUS_STATE l) (by simp [F.TLK_STATUS_STATE, F.TLK_TIMERS_RTO_US])
  · have hsent : (decide (s.laneState l = 6) && decide (clamp 2 64 (getBits v 31 25) ≠ s.get (F.TLK_TIMERS_RTO_US l))) = true := by
      simp [hactive, hnew]
    rw [hsent]
    exact sendEnable_own

end

/-- Settles O11: each row by the move it makes, behind the count of the write where it is one. -/
theorem laneStates : Obligations.LaneStates := by
  unfold Obligations.LaneStates
  refine ⟨fun s l w v hright hlane hiso hfenced hpending hmode hstate hflaps => ?cfgOn,
    fun s l w v hright hlane hiso hfenced hpending hmode => ?cfgOff, fun s l w v hright hlane hiso => ?cfgIsolated,
    fun s l w v hright hlane => ?timers, fun s l hstate hfenced hpending hflaps => ?detect,
    fun s l hstate hfenced hpending hflaps => ?detectFlap, fun s l hstate => ?detectNot, fun s l hstate => ?lock,
    fun s l hstate => ?lockNot, fun s l hstate hfault hfenced hpending hflaps => ?signal, fun s l h => ?signalNot,
    fun s l hstate hfault hfenced hpending hflaps => ?lossOfLock, fun s l h => ?lossOfLockNot,
    fun s l hstate hfault hfenced hpending hflaps htime => ?timeout, fun s l h => ?timeoutNot,
    fun s l w v hv hright hlane hiso hfenced hpending hflaps => ?restart,
    fun s l w v hv hright hlane hiso hcount => ?restartIsolated, fun s l w v h hcount => ?restartNot,
    fun s l w v hv hright hlane hiso hfenced hpending hstate => ?remeasure,
    fun s l w v hv hright hlane hiso hcount => ?remeasureIsolated, fun s l w v h hcount => ?remeasureNot,
    fun s l w v hv hright hlane hiso hfenced hpending hstate => ?rediscover,
    fun s l w v hv hright hlane hiso hcount => ?rediscoverIsolated, fun s l w v h hcount => ?rediscoverNot⟩
  case cfgOn =>
    obtain ⟨t, hexec, hst, hmodeSet, hdata, hwork⟩ := tlkCfgWrite_leads hright hlane hiso fun x hx hf hp hfl =>
      modeLeads_dark hmode (hx.trans hstate) (hf.trans hfenced) (hp.trans hpending) (hfl ▸ hflaps)
    exact ⟨t, hexec, hst, hmodeSet, hdata, hwork.rd, hwork.flash⟩
  case cfgOff =>
    obtain ⟨t, hexec, hst, hmodeSet, hdata, hwork⟩ := tlkCfgWrite_leads hright hlane hiso fun x _ hf hp _ =>
      modeLeads_disabled hmode (hf.trans hfenced) (hp.trans hpending)
    exact ⟨t, hexec, hst, hmodeSet, hdata, hwork.rd, hwork.flash⟩
  case cfgIsolated =>
    obtain ⟨t, hexec, hlost, hmodeKept, hst, hdata, hwork⟩ := tlkCfgWrite_isolated (v := v) hright hlane hiso
    exact ⟨t, hexec, hlost, hmodeKept, hst, hdata, hwork.rd, hwork.flash⟩
  case timers =>
    obtain ⟨t, hexec, hrto, hlink, hwm, hexp, hst, hown, hwork⟩ := tlkTimersWrite_taken (v := v) hright hlane
    exact ⟨t, hexec, hrto, hlink, hwm, hexp, hst, hown, hwork.rd, hwork.flash⟩
  case detect =>
    have h := moveLane_down hfenced hpending (.inr rfl) hflaps
    have hrun : (uplinkSignalDetectAct l).run s = (moveLane l 2).run s := by simp [uplinkSignalDetectAct, hstate]
    exact ⟨_, congrArg Host.Outcome.next hrun, h.state, h.work.keep, h.work.laneFrame, h.work.flash⟩
  case detectFlap =>
    obtain ⟨hwork, hst, hflap⟩ := moveLane_flap hfenced hpending (.inr rfl) hflaps
    have hrun : (uplinkSignalDetectAct l).run s = (moveLane l 2).run s := by simp [uplinkSignalDetectAct, hstate]
    exact ⟨_, congrArg Host.Outcome.next hrun, hst, hflap, hwork.laneFrame, hwork.flash⟩
  case detectNot => exact congrArg Host.Outcome.next (by simp [uplinkSignalDetectAct, hstate])
  case lock =>
    have hrun : (laneLockHeldAct l).run s = (onLane l (fun u => { u with locked := true })).run s := by simp [laneLockHeldAct, hstate]
    exact ⟨_, congrArg Host.Outcome.next hrun, by rw [run_onLane_lane], rfl, rfl, rfl⟩
  case lockNot => exact congrArg Host.Outcome.next (by simp [laneLockHeldAct, hstate])
  case signal =>
    have h := moveLane_down hfenced hpending (.inl rfl) hflaps
    have hrun : (lossOfSignalAct l).run s = (moveLane l 1).run s := by simp [lossOfSignalAct, hstate, hfault]
    exact ⟨_, congrArg Host.Outcome.next hrun, h.state, h.unlocked (by decide), h.time (by decide), fun hup => h.down hup (by decide),
      h.work.laneFrame, h.work.flash⟩
  case signalNot =>
    refine congrArg Host.Outcome.next ?_
    rcases h with h | h | h
    · have hlow : ¬ 1 < s.laneState l := by omega
      simp [lossOfSignalAct, hlow]
    · simp [lossOfSignalAct, h]
    · rw [lossOfSignalAct, run_look]
      cases (decide (1 < s.laneState l) && decide (s.laneState l ≠ 8))
      · rfl
      · exact run_moveLane_fenced h l 1
  case lossOfLock =>
    have h := moveLane_down hfenced hpending (.inr rfl) hflaps
    have hrun : (lossOfLockAct l).run s = (moveLane l 2).run s := by simp [lossOfLockAct, hstate, hfault]
    exact ⟨_, congrArg Host.Outcome.next hrun, h.state, h.unlocked (by decide),
      fun hup => h.down hup (by decide),
      h.work.laneFrame, h.work.flash⟩
  case lossOfLockNot =>
    have hlow : ¬ (2 < s.laneState l ∧ ¬ s.laneState l = 8) := by omega
    have haligning : s.laneState l ≠ 2 := by omega
    exact congrArg Host.Outcome.next (by simp [lossOfLockAct, hlow, haligning])
  case timeout =>
    have h := moveLane_down hfenced hpending (.inr rfl) hflaps
    have hrun : (linkTimeoutAct l).run s = (moveLane l 2).run s := by simp [linkTimeoutAct, hstate, hfault, htime]
    exact ⟨_, congrArg Host.Outcome.next hrun, h.state, h.unlocked (by decide), h.work.laneFrame, h.work.flash⟩
  case timeoutNot =>
    refine congrArg Host.Outcome.next ?_
    rcases h with h | h | h
    · have hlow : ¬ 2 < s.laneState l := by omega
      simp [linkTimeoutAct, hlow]
    · simp [linkTimeoutAct, h]
    · have hsoon : ¬ (s.lane l).frameAt + s.get (F.TLK_TIMERS_LINK_TIMEOUT_US l) * tickUs ≤ s.keep.elapsed := by omega
      simp [linkTimeoutAct, hsoon]
  case restart =>
    obtain ⟨u, hu, has, hrun⟩ := ctrlRow_taken hright hlane (F.TLK_CTRL_RESTART l) (restartLane l) hv hiso
    have h := restartLane_entered (l := l) (has.fenced.trans hfenced) (has.pending.trans hpending) (has.recentFlaps ▸ hflaps)
    have hwork := laneWrite_work hu ((run_laneWork (freshFlaps_laneWork _) u).trans h.work) fun _ => inLane_of_ofMove
    exact ⟨_, congrArg Host.Outcome.next hrun, h.state, h.unlocked (by decide),
      fun a ha => hwork.rd a (not_ofLaneWrite ha), hwork.flash⟩
  case restartIsolated => exact ctrlRow_isolated hright hlane (F.TLK_CTRL_RESTART l) (restartLane l) hv hiso hcount
  case restartNot => exact ctrlRow_none (F.TLK_CTRL_RESTART l) (restartLane l) h hcount
  case remeasure =>
    obtain ⟨u, hu, has, hrun⟩ := ctrlRow_taken hright hlane (F.TLK_CTRL_REMEASURE l) (remeasured l) hv hiso
    have hstate' : u.laneState l = 6 ∨ u.laneState l = 7 := by rwa [has.laneState]
    have h := moveLane_entered (l := l) (has.fenced.trans hfenced) (has.pending.trans hpending) (new := 4) (by decide) (by omega)
    have hwork := laneWrite_work hu (h.work.trans (run_laneWork (onLane_laneWork l forgetDelays) _)) fun _ => inLane_of_ofMove
    rw [run_remeasured hstate'] at hrun
    refine ⟨_, congrArg Host.Outcome.next hrun, ?_, ?_, ?_, ?_, ?_, fun a ha => hwork.rd a (not_ofLaneWrite ha), hwork.flash⟩
    · rw [run_onLane_laneState, h.state]
    · rw [run_onLane_lane]; rfl
    · rw [run_onLane_lane]; rfl
    · rw [run_onLane_lane, ← has.laneState]
      exact h.resumes hstate' (by decide)
    · rw [run_onLane_get, ← has.get (f := F.TLK_SEQ_CUM l) (inLane_row (by decide))]
      exact h.get (by decide)
  case remeasureIsolated => exact ctrlRow_isolated hright hlane (F.TLK_CTRL_REMEASURE l) (remeasured l) hv hiso hcount
  case remeasureNot => exact ctrlRow_none (F.TLK_CTRL_REMEASURE l) (remeasured l) h hcount
  case rediscover =>
    obtain ⟨u, hu, has, hrun⟩ := ctrlRow_taken hright hlane (F.TLK_CTRL_REDISCOVER l) (rediscovered l) hv hiso
    have hfenced' := has.fenced.trans hfenced
    have hpending' := has.pending.trans hpending
    have h := moveLane_entered (l := l) hfenced' hpending' (new := 5) (by decide) (by omega)
    have hwork := laneWrite_work hu (h.work.trans (run_laneWork (discoverAfresh_laneWork (l := l)) _)) fun _ => inLane_of_ofMove
    rw [run_rediscovered (by rwa [has.laneState]) hfenced' hpending'] at hrun
    refine ⟨_, congrArg Host.Outcome.next hrun, ?_, ?_, ?_, fun a ha => hwork.rd a (not_ofLaneWrite ha), hwork.flash⟩
    · rw [discoverAfresh_laneState, h.state]
    · exact discoverAfresh_roster _
    · exact sendDiscover_own
  case rediscoverIsolated => exact ctrlRow_isolated hright hlane (F.TLK_CTRL_REDISCOVER l) (rediscovered l) hv hiso hcount
  case rediscoverNot => exact ctrlRow_none (F.TLK_CTRL_REDISCOVER l) (rediscovered l) h hcount

end Sys2Proof.Machine
end

section
/-! Frames on a lane (R113, R116 to R120): the checks common to all types, and what they leave for the type of the frame. -/

namespace Sys2Proof.Machine

/-! ## What a frame does by its type -/

/-- What the type of a frame says. -/
def typeAct (l : Nat) (load : Load) (f : List Byte) : Nat → Act
  | 1 => dataFrame l load f
  | 2 => heartbeat l f
  | 3 => roster l f
  | 4 => reply l f
  | 5 => report l f
  | _ => handover l f

/-- The FEC counts of a frame. -/
def fecCounted (l : Nat) (rx : LaneRx) : Act :=
  .seq (countBy (F.TLK_FEC_CORRECTED_C l) rx.corrected) (countBy (F.TLK_FEC_UNCORRECTABLE_C l) rx.uncorrectable)

/-- A valid frame is noted, with the path that it came by (R146, R150). -/
def frameNoted (l now : Nat) (rx : LaneRx) : Act :=
  .seq (onLane l (fun u => { u with frameAt := now })) (put (F.TLK_STATUS_PATH l) (b2n (bit (num rx.bytes 1 1) 7)))

section
variable {s : State} {l : Nat} {rx : LaneRx} {load : Load}

theorem run_laneFrame_silent (h : s.laneListens l = false) : (laneFrame l rx load).run s = s := by
  have hsilent : (s.hasLane l && decide (2 ≤ s.laneState l) && decide (s.laneState l ≠ 8) && (s.lane l).locked) = false := h
  rw [laneFrame, run_look]
  simp only [hsilent]
  rfl

theorem not_frameSound (rx : LaneRx) : (decide (rx.uncorrectable ≠ 0) || !(decide (rx.bytes.length ≥ 12) &&
    decide (num rx.bytes (rx.bytes.length - 4) 4 = crc32c (rx.bytes.take (rx.bytes.length - 4))))) = !frameSound rx := by
  simp [frameSound, Bool.not_and, Bool.or_assoc]

/-- What a lane that listens does with a frame behind its FEC counts. -/
def judged (l : Nat) (rx : LaneRx) (load : Load) (s : State) : Act :=
  if !frameSound rx then count (F.TLK_CRC_ERRORS_C l)
  else if !frameOk rx.bytes then count (F.TLK_FORMAT_ERRORS_C l)
  else Act.all [
    onLane l (fun u => { u with frameAt := s.keep.elapsed }),
    put (F.TLK_STATUS_PATH l) (b2n (bit (num rx.bytes 1 1) 7)),
    Act.when (s.laneState l = 2) (linkLane l (num rx.bytes 6 2)),
    if decide (3 ≤ s.laneState l) && num rx.bytes 6 2 ≠ s.get (F.TLK_STATUS_SESSION l) then
      Act.all [newSession l (num rx.bytes 6 2), event (F.TLK_EVENTS_SESSION_CHANGE l), startDiscovering l]
    else typeAct l load rx.bytes (num rx.bytes 0 1 / 16)]

theorem run_laneFrame (h : s.laneListens l = true) :
    (laneFrame l rx load).run s = (judged l rx load s).run ((fecCounted l rx).run s) := by
  have hlistens : (s.hasLane l && decide (2 ≤ s.laneState l) && decide (s.laneState l ≠ 8) && (s.lane l).locked) = true := h
  rw [laneFrame, run_look]
  simp only [hlistens, not_frameSound]
  rfl

variable (hlistens : s.laneListens l = true)
include hlistens

theorem run_laneFrame_unsound (h : frameSound rx = false) :
    (laneFrame l rx load).run s = (count (F.TLK_CRC_ERRORS_C l)).run ((fecCounted l rx).run s) := by
  simp [run_laneFrame hlistens, judged, h]

theorem run_laneFrame_malformed (hsound : frameSound rx = true) (h : frameOk rx.bytes = false) :
    (laneFrame l rx load).run s = (count (F.TLK_FORMAT_ERRORS_C l)).run ((fecCounted l rx).run s) := by
  simp [run_laneFrame hlistens, judged, hsound, h]

end

/-! ## Work in a lane and the queues -/

/-- The registers of lane `l` and of the queues: what a frame may touch that delivers nothing. -/
def ofLane (l a : Nat) : Prop := inLane l a ∨ inQueueBlocks a

@[simp] theorem ofLane_row {c l : Nat} (h : 0x01000000 ≤ c ∧ c < 0x01001000) : ofLane l (c + 0x1000 * l) := .inl (inLane_row h)

theorem ofLane_of_inNotify {l a : Nat} (h : inNotify a) : ofLane l a := .inr (Nat.le_trans (by decide) h.1)
theorem ofLane_of_ofMove {l a : Nat} (h : ofMove l a) : ofLane l a := .inl (inLane_of_ofMove h)

/-- The registers of a talker of a lane (R144). -/
@[simp] theorem ofLane_talker {c l k : Nat} (hk : k < 128) (h : c = 0x01000800 ∨ c = 0x01000808) :
    ofLane l (c + 0x1000 * l + 0x10 * k) := by
  simp only [ofLane, inLane]
  omega

@[simp] theorem countBy_ofLane {l : Nat} {f : Field} (h : ofLane l f.addr) (k : Nat) : (countBy f k).laneWork (ofLane l) :=
  countBy_laneWork h (fun _ => ofLane_of_inNotify) k
@[simp] theorem count_ofLane {l : Nat} {f : Field} (h : ofLane l f.addr) : (count f).laneWork (ofLane l) := countBy_ofLane h 1

@[simp] theorem moveLane_ofLane {l : Nat} (st : Nat) : (moveLane l st).laneWork (ofLane l) :=
  Act.laneWork_mono (fun _ => ofLane_of_ofMove) moveLane_laneWork

/-! ## A frame that has passed the checks -/

/-- The registers that the checks of a valid frame may change. -/
def ofReception (l a : Nat) : Prop :=
  a = (F.TLK_FEC_CORRECTED_C l).addr ∨ a = (F.TLK_FEC_UNCORRECTABLE_C l).addr ∨ a = (F.TLK_STATUS_PATH l).addr ∨ inNotify a

theorem ofLane_of_ofReception {l a : Nat} (h : ofReception l a) : ofLane l a := by
  rcases h with rfl | rfl | rfl | h
  · exact ofLane_row (by decide)
  · exact ofLane_row (by decide)
  · exact ofLane_row (by decide)
  · exact ofLane_of_inNotify h

/-- The state in which a valid frame on lane `l`, received in `s`, is looked at by its type. -/
structure Received (l : Nat) (s u : State) : Prop where
  work : LaneWork (ofReception l) s u
  unit : u.lane l = { s.lane l with frameAt := s.keep.elapsed }
  talkers : u.units.talkers = s.units.talkers
  down : u.win.down = s.win.down
  laneState : u.laneState l = s.laneState l
  talking : l < 1024

section
variable {s : State} {l : Nat} {rx : LaneRx} {load : Load}

theorem fecCounted_tallied (l : Nat) (rx : LaneRx) (s : State) : Tallied (fun a => a = (F.TLK_FEC_CORRECTED_C l).addr ∨
    a = (F.TLK_FEC_UNCORRECTABLE_C l).addr ∨ inNotify a) s ((fecCounted l rx).run s) :=
  ((countBy_tallied (F.TLK_FEC_CORRECTED_C l) rx.corrected s).mono fun _ ha => ha.imp_right .inr).trans
    ((countBy_tallied (F.TLK_FEC_UNCORRECTABLE_C l) rx.uncorrectable _).mono fun _ ha => .inr ha)

theorem frameNoted_laneWork (now : Nat) : (frameNoted l now rx).laneWork (· = (F.TLK_STATUS_PATH l).addr) := by simp [frameNoted]

theorem received (hl : l < 1024) : Received l s ((frameNoted l s.keep.elapsed rx).run ((fecCounted l rx).run s)) where
  work := ((LaneWork.of_tallied (fecCounted_tallied l rx s)).mono fun a ha => ha.imp_right fun h => h.imp_right .inr).trans
    ((run_laneWork (frameNoted_laneWork _) _).mono fun a ha => .inr (.inr (.inl ha)))
  unit := by rw [frameNoted, fecCounted, run_seq, run_seq, run_put_lane, run_onLane_lane, run_countBy_lane, run_countBy_lane]
  talkers := by rw [frameNoted, fecCounted, run_seq, run_seq, run_put_units, run_onLane_talkers, run_countBy_talkers, run_countBy_talkers]
  down := by rw [frameNoted, fecCounted, run_seq, run_seq, run_put_down, run_onLane_win, run_countBy_down, run_countBy_down]
  laneState := by
    rw [State.laneState, State.laneState, frameNoted, run_seq, F.TLK_STATUS_STATE, F.TLK_STATUS_PATH,
      get_put_row _ (by decide) (by decide) (by decide), run_onLane_get]
    exact (fecCounted_tallied l rx s).get (f := ⟨0x01000010 + 0x1000 * l, 31, 28⟩) (by
      simp only [F.TLK_FEC_CORRECTED_C, F.TLK_FEC_UNCORRECTABLE_C, inNotify]
      omega)
  talking := hl

/-- What a frame that passes the checks is known to be (R117 to R119). -/
structure TakenFrame (s : State) (l : Nat) (rx : LaneRx) (ftype : Nat) : Prop where
  listens : s.laneListens l = true
  linked : 3 ≤ s.laneState l
  sound : frameSound rx = true
  ok : frameOk rx.bytes = true
  type : num rx.bytes 0 1 / 16 = ftype
  session : num rx.bytes 6 2 = s.get (F.TLK_STATUS_SESSION l)

theorem frameTaken_iff {k : Nat} : s.frameTaken l rx k = true ↔ TakenFrame s l rx k := by
  simp only [State.frameTaken, Bool.and_eq_true, decide_eq_true_eq]
  exact ⟨fun ⟨⟨⟨⟨⟨h1, h2⟩, h3⟩, h4⟩, h5⟩, h6⟩ => ⟨h1, h2, h3, h4, h5, h6⟩,
    fun ⟨h1, h2, h3, h4, h5, h6⟩ => ⟨⟨⟨⟨⟨h1, h2⟩, h3⟩, h4⟩, h5⟩, h6⟩⟩

theorem laneListens_lt (h : s.laneListens l = true) : l < 1024 := by
  simp only [State.laneListens, Bool.and_eq_true] at h
  exact lane_lt h.1.1.1

/-- A frame that passes the checks is left to its type. -/
theorem run_laneFrame_taken {k : Nat} (h : s.frameTaken l rx k = true) :
    ∃ u, Received l s u ∧ (laneFrame l rx load).run s = (typeAct l load rx.bytes k).run u := by
  obtain ⟨hlistens, hlinked, hsound, hok, htype, hsession⟩ := frameTaken_iff.mp h
  refine ⟨_, received (rx := rx) (laneListens_lt hlistens), ?_⟩
  have hstate : s.laneState l ≠ 2 := by omega
  simp [run_laneFrame hlistens, judged, frameNoted, hsound, hok, htype, hsession, hstate]

end

namespace Received

variable {l : Nat} {s u : State} (h : Received l s u)
include h

/-- A register of the lane but for the three that reception changes. -/
theorem get {c m n : Nat} (hc : c < 0x01001000 ∧ c ≠ 0x01000150 ∧ c ≠ 0x01000158 ∧ c ≠ 0x01000010) :
    u.get ⟨c + 0x1000 * l, m, n⟩ = s.get ⟨c + 0x1000 * l, m, n⟩ := by
  have hl := h.talking
  refine h.work.get (f := ⟨c + 0x1000 * l, m, n⟩) ?_
  simp only [ofReception, F.TLK_FEC_CORRECTED_C, F.TLK_FEC_UNCORRECTABLE_C, F.TLK_STATUS_PATH, inNotify]
  omega

theorem rd {a : Nat} (ha : a < 0x01000000 ∨ (0x01000800 + 0x1000 * l ≤ a ∧ a < 0x01001000 + 0x1000 * l)) : u.rd a = s.rd a := by
  have hl := h.talking
  refine h.work.rd a ?_
  simp only [ofReception, F.TLK_FEC_CORRECTED_C, F.TLK_FEC_UNCORRECTABLE_C, F.TLK_STATUS_PATH, inNotify]
  omega

theorem fenced : u.fenced = s.fenced := by
  rw [State.fenced, State.is, State.get, h.rd (.inl (by decide))]
  rfl

theorem pending : u.pending = s.pending := h.work.pending
theorem cum : u.get (F.TLK_SEQ_CUM l) = s.get (F.TLK_SEQ_CUM l) := h.get (by decide)

/-- Behind the reception only work in the lane and the queues. -/
theorem laneFrame {P : Nat → Prop} {t : State} (ht : LaneWork P u t) (hP : ∀ a, P a → ofLane l a) : LaneWork (ofLane l) s t :=
  (h.work.mono fun _ => ofLane_of_ofReception).trans (ht.mono hP)

end Received

end Sys2Proof.Machine
end

section
/-! Frames that deliver nothing (R129 to R144, R153): their programs work in the lane and the queues alone. -/

namespace Sys2Proof.Machine

section
variable {l : Nat}

@[simp] theorem showPending_ofLane : (showPending l).laneWork (ofLane l) := by simp [showPending, F.TLK_SEQ_PENDING_HB]

theorem holdHeartbeat_ofLane (h : PendingHb) : (holdHeartbeat l h).laneWork (ofLane l) := by
  simp [holdHeartbeat, F.TLK_HB_DISCARDED_C, F.TLK_EVENTS_HB_OVERFLOW]

theorem applyEntry_ofLane (follows : Bool) (e : List Byte) : (applyEntry l follows e).laneWork (ofLane l) := by
  have hk : num e 0 1 % 128 < 128 := Nat.mod_lt _ (by decide)
  simp [applyEntry, hk, F.TLK_UNKNOWN_TALKER_C, F.TLK_WM_REGRESS_C, F.TLK_TALKER_STATE_STALLED]

theorem applyPending_ofLane (n : Nat) : (applyPending l n).laneWork (ofLane l) := by
  induction n with
  | zero => exact trivial
  | succ n ih =>
    intro s
    dsimp only
    split
    · trivial
    · simp [applyEntry_ofLane, ih]

theorem takeTalker_ofLane {k : Nat} (hk : k < 128) (e : Option (List Byte)) : (takeTalker l k e).laneWork (ofLane l) := by
  intro s
  cases e <;> simp [hk, F.TLK_TALKER_STATE_PRESENT, F.TLK_TALKER_STATE_STALLED, F.TLK_TALKER_STATE_REPORTED_LATENCY,
    F.TLK_TALKER_ID_TALKER_ID]

theorem sendEnable_ofLane : (sendEnable l).laneWork (ofLane l) := by simp [sendEnable, ownCommand_laneWork]
theorem enterActive_ofLane : (enterActive l).laneWork (ofLane l) := by simp [enterActive, F.TLK_STATUS_RTO_SHORT]

theorem roster_ofLane (f : List Byte) : (roster l f).laneWork (ofLane l) := by
  intro s
  simp only [Act.laneWork_all_cons, Act.laneWork_all_nil, Act.laneWork_each, Act.laneWork_when, Act.laneWork_seq, Act.laneWork_ite,
    List.mem_range, put_laneWork, event_laneWork, onLane_laneWork, moveLane_ofLane, sendEnable_ofLane, Act.laneWork_skip]
  refine ⟨fun k hk => takeTalker_ofLane hk _, ?_, fun _ => ?_, ?_⟩ <;> simp [F.TLK_STATUS_TALKERS, F.TLK_EVENTS_ROSTER_MISMATCH]

theorem retryLater_laneWork {P : Nat → Prop} : (retryLater l).laneWork P := by simp [retryLater]

theorem hostDone_laneWork (result : Nat) : (hostDone l result).laneWork (· = (F.TLK_CMD_STATUS_BUSY l).addr) := by
  simp [hostDone, F.TLK_CMD_STATUS_RESULT, F.TLK_CMD_STATUS_BUSY, F.TLK_CMD_STATUS_DONE]

theorem hostDone_ofLane (result : Nat) : (hostDone l result).laneWork (ofLane l) :=
  Act.laneWork_mono (fun _ ha => ha ▸ ofLane_row (by decide)) (hostDone_laneWork result)

theorem replyData_ofLane {w : Nat} (hw : w < 4) : ofLane l (F.TLK_CMD_REPLY_DATA l w).addr := by
  simp only [F.TLK_CMD_REPLY_DATA, ofLane, inLane]
  omega

theorem reply_ofLane (f : List Byte) : (reply l f).laneWork (ofLane l) := by
  intro s
  simp +contextual [retryLater_laneWork, enterActive_ofLane, applyPending_ofLane, hostDone_ofLane, replyData_ofLane,
    F.TLK_EVENTS_ENABLE_REFUSED, F.TLK_CMD_STATUS_TALKER_STATUS]

theorem steer_ofLane (mean : Int) : (steer l mean).laneWork (ofLane l) := by
  simp [steer, F.TLK_DELAY_CABLE_DELAY, F.TLK_EVENTS_DELAY_JUMP]

theorem stampSample_ofLane (e : LaneEcho) (follows : Bool) (arrival : Nat) : (stampSample l e follows arrival).laneWork (ofLane l) := by
  simp [stampSample, F.TLK_STAMP_OFFSET_SAMPLES, F.TLK_STAMP_OFFSET_VALID, F.TLK_STAMP_OFFSET_OFFSET]

theorem startDiscovering_ofLane : (startDiscovering l).laneWork (ofLane l) := by
  simp [startDiscovering, sendDiscover, ownCommand_laneWork]

theorem measured_ofLane (mean : Int) : (measured l mean).laneWork (ofLane l) := by
  intro s
  simp only [Act.laneWork_all_cons, Act.laneWork_all_nil, put_laneWork, onLane_laneWork]
  refine ⟨by simp [F.TLK_DELAY_CABLE_DELAY], by simp [F.TLK_STATUS_TIME_VALID], trivial, ?_, trivial⟩
  split
  · exact ⟨enterActive_ofLane, applyPending_ofLane 4⟩
  · exact moveLane_ofLane _
  · exact startDiscovering_ofLane

theorem report_ofLane (f : List Byte) : (report l f).laneWork (ofLane l) := by
  intro s
  dsimp only
  split
  · trivial
  · simp [measured_ofLane, steer_ofLane, stampSample_ofLane, F.TLK_DELAY_ECHOES, F.TLK_ECHO_LAST_TURNAROUND,
      F.TLK_ECHO_LAST_ROUND_TRIP]

theorem handover_ofLane (f : List Byte) : (handover l f).laneWork (ofLane l) := by
  simp [handover, enterActive_ofLane, sendEnable_ofLane, applyPending_ofLane, F.TLK_SEQ_CUM, F.TLK_EVENTS_PROMOTED,
    F.TLK_HANDOVERS_C]

theorem heartbeat_ofLane (f : List Byte) : (heartbeat l f).laneWork (ofLane l) := by
  simp [heartbeat, holdHeartbeat_ofLane, applyPending_ofLane, F.TLK_EVENTS_DEMOTED]

end

/-! ## Frames that are not sound -/

section
variable {s : State} {l : Nat} {rx : LaneRx} {load : Load}

/-- A frame that is only counted, in counter `f` beside the FEC counts. -/
theorem frame_counted {c : Nat} (hl : l < 1024) (hc : 0x01000018 < c ∧ c < 0x01000150) {t : State}
    (ht : t = (count ⟨c + 0x1000 * l, 47, 0⟩).run ((fecCounted l rx).run s)) :
    ∃ t', (Host.Outcome.next t : Host.Outcome State Fault Refusal) = .next t' ∧
      t'.get ⟨c + 0x1000 * l, 47, 0⟩ = (s.get ⟨c + 0x1000 * l, 47, 0⟩ + 1) % 2 ^ 48 ∧ t'.units.lanes = s.units.lanes ∧
      t'.laneState l = s.laneState l ∧ t'.get (F.TLK_SEQ_CUM l) = s.get (F.TLK_SEQ_CUM l) ∧
      (∀ a, ¬ (inLane l a ∨ inQueueBlocks a) → t'.rd a = s.rd a) ∧ t'.flash = s.flash := by
  have hfec := fecCounted_tallied l rx s
  have hkept : ∀ {b m n : Nat}, 0x01000000 ≤ b ∧ b < 0x01000150 →
      ((fecCounted l rx).run s).get ⟨b + 0x1000 * l, m, n⟩ = s.get ⟨b + 0x1000 * l, m, n⟩ := fun {b m n} hb => hfec.get (by
    simp only [F.TLK_FEC_CORRECTED_C, F.TLK_FEC_UNCORRECTABLE_C, inNotify]
    omega)
  have hwork : LaneWork (ofLane l) s t := by
    rw [ht]
    refine ((LaneWork.of_tallied hfec).mono fun a ha => ?_).trans (run_laneWork (count_ofLane (ofLane_row (by omega))) _)
    exact ofLane_of_ofReception (ha.imp_right fun h => h.imp_right .inr)
  refine ⟨t, rfl, ?_, ?_, ?_, ?_, hwork.rd, hwork.flash⟩
  · rw [ht, get_count_lane_same hl (by omega), hkept (by omega)]
  · rw [ht, run_count_lanes]
    exact congrArg (·.units.lanes) hfec.rest
  · rw [ht, State.laneState, State.laneState, F.TLK_STATUS_STATE, get_count_lane hl (by omega) (by decide), hkept (by decide)]
  · rw [ht, F.TLK_SEQ_CUM, get_count_lane hl (by omega) (by decide), hkept (by decide)]

/-- A frame of any type whose CRC fails or that overlaps an uncorrectable codeword (R113, R116). -/
theorem laneFrame_unsound (load : Load) (hlistens : s.laneListens l = true) (h : frameSound rx = false) :
    ∃ t, (Host.Outcome.next ((laneFrame l rx load).run s) : Host.Outcome State Fault Refusal) = .next t ∧
      t.get (F.TLK_CRC_ERRORS_C l) = (s.get (F.TLK_CRC_ERRORS_C l) + 1) % 2 ^ 48 ∧ t.units.lanes = s.units.lanes ∧
      t.laneState l = s.laneState l ∧ t.get (F.TLK_SEQ_CUM l) = s.get (F.TLK_SEQ_CUM l) ∧
      (∀ a, ¬ (inLane l a ∨ inQueueBlocks a) → t.rd a = s.rd a) ∧ t.flash = s.flash :=
  frame_counted (laneListens_lt hlistens) (by decide) (run_laneFrame_unsound hlistens h)

/-- A frame of any type that breaks the format (R118, R119). -/
theorem laneFrame_malformed (load : Load) (hlistens : s.laneListens l = true) (hsound : frameSound rx = true)
    (h : frameOk rx.bytes = false) :
    ∃ t, (Host.Outcome.next ((laneFrame l rx load).run s) : Host.Outcome State Fault Refusal) = .next t ∧
      t.get (F.TLK_FORMAT_ERRORS_C l) = (s.get (F.TLK_FORMAT_ERRORS_C l) + 1) % 2 ^ 48 ∧ t.units.lanes = s.units.lanes ∧
      t.laneState l = s.laneState l ∧ t.get (F.TLK_SEQ_CUM l) = s.get (F.TLK_SEQ_CUM l) ∧
      (∀ a, ¬ (inLane l a ∨ inQueueBlocks a) → t.rd a = s.rd a) ∧ t.flash = s.flash :=
  frame_counted (laneListens_lt hlistens) (by decide) (run_laneFrame_malformed hlistens hsound h)

/-- A lane that does not listen. -/
theorem laneFrame_silent (load : Load) (h : s.laneListens l = false) :
    (Host.Outcome.next ((laneFrame l rx load).run s) : Host.Outcome State Fault Refusal) = .next s :=
  congrArg Host.Outcome.next (run_laneFrame_silent h)

end

end Sys2Proof.Machine
end

section
/-! Commands to talkers, their repeats and retries, and watermark timeouts (R131 to R136, R619). -/

namespace Sys2Proof.Machine

/-! ## A host's message (R132, R134, R136) -/

section
variable {s u : State} {l w : Nat} {v : Word}

/-- The next TAG of a host's message on lane `l`. -/
def State.hostTag (s : State) (l : Nat) : Nat := nextTag (s.lane l).tag (s.lane l).own

/-- The words of a host's command, under its TAG. -/
def State.hostWords (s : State) (l : Nat) : List Nat :=
  withTag (s.get (F.TLK_CMD_WORD_WORD l 0)) (s.hostTag l) ::
    (List.range (bits (s.get (F.TLK_CMD_WORD_WORD l 0)) 59 58)).map (fun i => s.get (F.TLK_CMD_WORD_WORD l (i + 1)))

/-- A host's command as it goes out. -/
def State.hostCmd (s : State) (l : Nat) : LaneCmd := { words := s.hostWords l, tag := s.hostTag l, sentAt := s.keep.elapsed }

/-- The words of a host's pulse: its launch time is brought forward by the cable delay and the asymmetry. -/
def State.pulseWords (s : State) (l : Nat) : List Nat :=
  [withTag (s.get (F.TLK_CMD_WORD_WORD l 0)) (s.hostTag l),
   enc 48 ((s.get (F.TLK_CMD_WORD_WORD l 1) : Int) - ((s.get (F.TLK_DELAY_CABLE_DELAY l) : Int) + s.laneAsym l))]

/-- A message ends with a result. -/
def messageDone (l r : Nat) : Act := .seq (put (F.TLK_CMD_STATUS_RESULT l) r) (event (F.TLK_CMD_STATUS_DONE l))

/-- A command goes out and waits for its answer. -/
def commandSent (l : Nat) (c : LaneCmd) : Act := Act.all [
  onLane l (fun u => { u with tag := c.tag, host := some c }), put (F.TLK_CMD_STATUS_BUSY l) 1, downlink l 5 c.words]

/-- A pulse goes out, which has no answer. -/
def pulseSent (l tag : Nat) (words : List Nat) : Act := Act.all [
  onLane l (fun u => { u with tag := tag }), downlink l 3 words, messageDone l 0]

/-- What a write of TLK_CMD_CTRL does in `s`. -/
def State.message (s : State) (l w : Nat) (v : Word) : Act :=
  if getBits v 0 0 = 0 || !s.hasRight w (F.TLK_CMD_CTRL_START l).addr || !s.hasLane l then .skip
  else if (s.lane l).host.isSome then messageDone l 5
  else if bits (s.get (F.TLK_CMD_WORD_WORD l 0)) 63 60 = 3 && bits (s.get (F.TLK_CMD_WORD_WORD l 0)) 47 40 ≥ 0x80 then
    if s.laneState l ≠ 6 || s.fenced then messageDone l 4
    else commandSent l (s.hostCmd l)
  else if bits (s.get (F.TLK_CMD_WORD_WORD l 0)) 63 60 = 4 && bits (s.get (F.TLK_CMD_WORD_WORD l 0)) 59 58 + 1 = 2 then
    if s.laneState l ≠ 6 || s.fenced then messageDone l 4
    else if dif (s.get (F.TLK_CMD_WORD_WORD l 1)) s.now < (s.get (F.TLK_DELAY_CABLE_DELAY l) + 10 * tickUs : Nat) then messageDone l 3
    else pulseSent l (s.hostTag l) (s.pulseWords l)
  else messageDone l 6

theorem run_hostMessage (s : State) : (hostMessage l w v).run s = (s.message l w v).run s := rfl

/-- A lane and what a host's message asks of the rest stand in `u` as in `s`. -/
structure MessageAs (l : Nat) (s u : State) : Prop extends LaneAs l s u where
  now : u.now = s.now
  asym : u.laneAsym l = s.laneAsym l
  down : u.win.down = s.win.down

theorem MessageAs.of_tallied {P : Nat → Prop} (h : Tallied P s u) (has : LaneAs l s u)
    (hasym : ¬ P (F.TIM_LANE_APPLIED_ASYM l).addr) : MessageAs l s u :=
  { has with
    now := (LaneWork.of_tallied h).now
    asym := by rw [State.laneAsym, h.get hasym]; rfl
    down := congrArg (·.win.down) h.rest }

theorem MessageAs.of_count (h : Tallied ofWriteCount s u) (hl : s.hasLane l = true) : MessageAs l s u := by
  have hlt := lane_lt hl
  refine .of_tallied h (.of_count h hl) ?_
  simp only [ofWriteCount, inNotify, F.IMG_VOLATILE_WRITES_COUNT, F.TIM_LANE_APPLIED_ASYM]
  omega

theorem MessageAs.of_small_count (h : Tallied (fun a => a = F.IMG_VOLATILE_WRITES_COUNT.addr) s u) : MessageAs l s u := by
  refine .of_tallied h (.of_small_count h) ?_
  simp only [F.IMG_VOLATILE_WRITES_COUNT, F.TIM_LANE_APPLIED_ASYM]
  omega

theorem MessageAs.word (h : MessageAs l s u) {i : Nat} (hi : i < 4) :
    u.get (F.TLK_CMD_WORD_WORD l i) = s.get (F.TLK_CMD_WORD_WORD l i) := by
  refine h.get ?_
  simp only [F.TLK_CMD_WORD_WORD, inLane]
  omega

theorem bits_lt (x hi lo : Nat) : bits x hi lo < 2 ^ (hi + 1 - lo) := Nat.mod_lt _ (Nat.two_pow_pos _)

theorem MessageAs.hostWords (h : MessageAs l s u) : u.hostWords l = s.hostWords l := by
  have hmore : ∀ i ∈ List.range (bits (s.get (F.TLK_CMD_WORD_WORD l 0)) 59 58),
      u.get (F.TLK_CMD_WORD_WORD l (i + 1)) = s.get (F.TLK_CMD_WORD_WORD l (i + 1)) := fun i hi => h.word (by
    have hfew := bits_lt (s.get (F.TLK_CMD_WORD_WORD l 0)) 59 58
    have hlt := List.mem_range.mp hi
    omega)
  rw [State.hostWords, State.hostWords, State.hostTag, State.hostTag, h.unit, h.word (by decide), List.map_congr_left hmore]

/-- A message finds what stood before the count of its write. -/
theorem MessageAs.message (h : MessageAs l s u) : u.message l w v = s.message l w v := by
  have hdelay := h.get (f := F.TLK_DELAY_CABLE_DELAY l) (inLane_row (by decide))
  simp only [State.message, State.hostCmd, State.pulseWords, State.hostTag, h.hostWords, h.unit, h.laneState, h.fenced, h.keep, h.hasLane, h.hasRight,
    h.word (show 0 < 4 by decide), h.word (show 1 < 4 by decide), h.now, h.asym, hdelay]

/-! ### What it does, case by case -/

theorem message_none (h : getBits v 0 0 = 0 ∨ s.hasRight w (F.TLK_CMD_CTRL_START l).addr = false ∨ s.hasLane l = false) :
    s.message l w v = .skip := by
  have hnone : (getBits v 0 0 = 0 || !s.hasRight w (F.TLK_CMD_CTRL_START l).addr || !s.hasLane l) = true := by
    simpa [or_assoc] using h
  rw [State.message, if_pos hnone]

theorem pulse_word {x : Nat} (h : bits x 63 58 = 0x11) : bits x 63 60 = 4 ∧ bits x 59 58 + 1 = 2 := by
  simp only [bits, Nat.shiftRight_eq_div_pow] at *
  omega

variable (hstart : getBits v 0 0 = 1) (hright : s.hasRight w (F.TLK_CMD_CTRL_START l).addr = true) (hlane : s.hasLane l = true)
include hstart hright hlane

theorem message_command (hhost : (s.lane l).host = none) (hstate : s.laneState l = 6) (hfenced : s.fenced = false)
    (htype : bits (s.get (F.TLK_CMD_WORD_WORD l 0)) 63 60 = 3) (hop : 0x80 ≤ bits (s.get (F.TLK_CMD_WORD_WORD l 0)) 47 40) :
    s.message l w v = commandSent l (s.hostCmd l) := by
  simp [State.message, hstart, hright, hlane, hhost, hstate, hfenced, htype, hop]

theorem message_command_refused (htype : bits (s.get (F.TLK_CMD_WORD_WORD l 0)) 63 60 = 3)
    (h : (s.lane l).host.isSome = true ∨ bits (s.get (F.TLK_CMD_WORD_WORD l 0)) 47 40 < 0x80 ∨ s.laneState l ≠ 6 ∨
      s.fenced = true) :
    s.message l w v = messageDone l
      (if (s.lane l).host.isSome then 5 else if bits (s.get (F.TLK_CMD_WORD_WORD l 0)) 47 40 < 0x80 then 6 else 4) := by
  by_cases hhost : (s.lane l).host.isSome = true
  · simp [State.message, hstart, hright, hlane, hhost]
  · by_cases hop : bits (s.get (F.TLK_CMD_WORD_WORD l 0)) 47 40 < 0x80
    · simp [State.message, hstart, hright, hlane, hhost, htype, hop]
    · have hheld : s.laneState l ≠ 6 ∨ s.fenced = true := by simpa [hhost, hop] using h
      simp [State.message, hstart, hright, hlane, hhost, htype, hop, Nat.le_of_not_lt hop, hheld]

theorem message_pulse (hhost : (s.lane l).host = none) (hstate : s.laneState l = 6) (hfenced : s.fenced = false)
    (hword : bits (s.get (F.TLK_CMD_WORD_WORD l 0)) 63 58 = 0x11)
    (hahead : ((s.get (F.TLK_DELAY_CABLE_DELAY l) + 10 * tickUs : Nat) : Int) ≤ dif (s.get (F.TLK_CMD_WORD_WORD l 1)) s.now) :
    s.message l w v = pulseSent l (s.hostTag l) (s.pulseWords l) := by
  obtain ⟨htype, hwords⟩ := pulse_word hword
  have hfar : ¬ dif (s.get (F.TLK_CMD_WORD_WORD l 1)) s.now < (s.get (F.TLK_DELAY_CABLE_DELAY l) + 10 * tickUs : Nat) := by omega
  simp only [State.message, hstart, hright, hlane, hhost, hstate, hfenced, htype, hwords, hfar]
  simp

theorem message_pulse_refused (hword : bits (s.get (F.TLK_CMD_WORD_WORD l 0)) 63 58 = 0x11)
    (h : (s.lane l).host.isSome = true ∨ s.laneState l ≠ 6 ∨ s.fenced = true ∨
      dif (s.get (F.TLK_CMD_WORD_WORD l 1)) s.now < ((s.get (F.TLK_DELAY_CABLE_DELAY l) + 10 * tickUs : Nat) : Int)) :
    s.message l w v = messageDone l
      (if (s.lane l).host.isSome then 5 else if s.laneState l ≠ 6 ∨ s.fenced = true then 4 else 3) := by
  obtain ⟨htype, hwords⟩ := pulse_word hword
  by_cases hhost : (s.lane l).host.isSome = true
  · simp [State.message, hstart, hright, hlane, hhost]
  · by_cases hheld : s.laneState l ≠ 6 ∨ s.fenced = true
    · have hheld' : (decide (s.laneState l ≠ 6) || s.fenced) = true := by simpa using hheld
      simp only [State.message, hstart, hright, hlane, hhost, htype, hwords, hheld, hheld']
      simp
    · have hnear : dif (s.get (F.TLK_CMD_WORD_WORD l 1)) s.now < ((s.get (F.TLK_DELAY_CABLE_DELAY l) + 10 * tickUs : Nat) : Int) := by
        simpa [hhost, or_assoc.symm, hheld] using h
      have hheld' : (decide (s.laneState l ≠ 6) || s.fenced) = false := by simpa using hheld
      simp only [State.message, hstart, hright, hlane, hhost, htype, hwords, hheld, hheld', hnear]
      simp

end

/-! ### What a message leaves -/

section
variable {s : State} {l : Nat}

theorem messageDone_tally (r : Nat) : (messageDone l r).tally (· = (F.TLK_CMD_STATUS_BUSY l).addr) := by
  simp [messageDone, F.TLK_CMD_STATUS_RESULT, F.TLK_CMD_STATUS_BUSY, F.TLK_CMD_STATUS_DONE]

theorem messageDone_shows {r : Nat} (hr : r < 256) : ((messageDone l r).run s).get (F.TLK_CMD_STATUS_RESULT l) = r ∧
    ((messageDone l r).run s).get (F.TLK_CMD_STATUS_DONE l) = 1 := by
  rw [messageDone, run_seq, F.TLK_CMD_STATUS_RESULT, F.TLK_CMD_STATUS_DONE]
  constructor
  · rw [get_event_row (by decide) (by decide) (by decide), get_put_row_same _ (by decide) (by decide)]
    exact Nat.mod_eq_of_lt hr
  · exact get_event_row_same (by decide)

theorem commandSent_laneWork (c : LaneCmd) : (commandSent l c).laneWork (· = (F.TLK_CMD_STATUS_BUSY l).addr) := by simp [commandSent]

theorem pulseSent_laneWork (tag : Nat) (words : List Nat) : (pulseSent l tag words).laneWork (· = (F.TLK_CMD_STATUS_BUSY l).addr) := by
  simp [pulseSent, Act.laneWork_of_tally (messageDone_tally 0)]

theorem commandSent_leaves (c : LaneCmd) (hup : s.up = true) :
    ((commandSent l c).run s).lane l = { s.lane l with tag := c.tag, host := some c } ∧
    ((commandSent l c).run s).get (F.TLK_CMD_STATUS_BUSY l) = 1 ∧
    ((commandSent l c).run s).win.down = s.win.down ++ [(l, 5, c.words.flatMap (be 8))] := by
  simp only [commandSent, run_all_cons, run_all_nil]
  refine ⟨?_, ?_, ?_⟩
  · rw [run_downlink_lane, run_put_lane, run_onLane_lane]
  · rw [run_downlink_get, F.TLK_CMD_STATUS_BUSY, get_put_row_same _ (by decide) (by decide)]
    rfl
  · have hbusy : (F.TLK_CMD_STATUS_BUSY l).addr ≠ F.PWR_STATUS_LOCAL_READY.addr := by
      simp only [F.TLK_CMD_STATUS_BUSY, F.PWR_STATUS_LOCAL_READY]
      omega
    rw [run_downlink_down ?still, run_put_down, run_onLane_win]
    rw [State.up, State.is, get_put_other _ _ _ _ (Nat.le_refl 30) (by decide) (.inl hbusy)]
    exact hup

theorem pulseSent_leaves (tag : Nat) (words : List Nat) (hup : s.up = true) :
    ((pulseSent l tag words).run s).lane l = { s.lane l with tag := tag } ∧
    ((pulseSent l tag words).run s).win.down = s.win.down ++ [(l, 3, words.flatMap (be 8))] := by
  have hstill : ((onLane l fun u => { u with tag := tag }).run s).up = true := hup
  simp only [pulseSent, run_all_cons, run_all_nil, messageDone, run_seq, run_event_lane, run_put_lane, run_downlink_lane,
    run_onLane_lane, run_event_down, run_put_down, run_downlink_down hstill, run_onLane_win, and_self]

end

/-! ### The commands of a host's message -/

section
variable {s : State} {l w : Nat} {v : Word}

/-- A message runs behind the count of its write. -/
theorem run_adjusts_message (hlane : s.hasLane l = true) : ∃ u, Tallied ofWriteCount s u ∧ MessageAs l s u ∧
    (adjusts w (F.TLK_CMD_CTRL_START l) (hostMessage l w v)).run s = (s.message l w v).run u := by
  obtain ⟨u, hu, hrun⟩ := run_adjusts w (F.TLK_CMD_CTRL_START l) (hostMessage l w v) s
  have has : MessageAs l s u := .of_count hu hlane
  exact ⟨u, hu, has, by rw [hrun, run_hostMessage, has.message]⟩

theorem run_adjusts_small_message (hcount : s.get F.IMG_VOLATILE_WRITES_COUNT + 1 < 2 ^ 47) :
    ∃ u, Tallied (fun a => a = F.IMG_VOLATILE_WRITES_COUNT.addr) s u ∧ u.units = s.units ∧ u.win.down = s.win.down ∧
      (adjusts w (F.TLK_CMD_CTRL_START l) (hostMessage l w v)).run s = (s.message l w v).run u := by
  obtain ⟨u, hu, hunits, hrun⟩ := run_adjusts_below_half w (F.TLK_CMD_CTRL_START l) (hostMessage l w v) hcount
  have has : MessageAs l s u := .of_small_count hu
  exact ⟨u, hu, hunits, has.down, by rw [hrun, run_hostMessage, has.message]⟩

/-- A register beside those of a message and of the count of its write. -/
theorem of_messageRegs {a : Nat}
    (h : ¬ (a = (F.TLK_CMD_STATUS_BUSY l).addr ∨ a = F.IMG_VOLATILE_WRITES_COUNT.addr ∨ 0x08000000 ≤ a)) :
    a ≠ (F.TLK_CMD_STATUS_BUSY l).addr ∧ ¬ ofWriteCount a := by
  obtain ⟨hbusy, hcount, hlow⟩ : _ ∧ _ ∧ _ := by simpa only [not_or] using h
  exact ⟨hbusy, fun ha => ha.elim hcount fun hn => hlow (Nat.le_trans (by decide) hn.1)⟩

/-- A message that ends at once, below half the range of the count of writes. -/
theorem message_ends {r : Nat} (hr : r < 256) (hcount : s.get F.IMG_VOLATILE_WRITES_COUNT + 1 < 2 ^ 47)
    (hmessage : s.message l w v = messageDone l r) :
    ∃ t, (adjusts w (F.TLK_CMD_CTRL_START l) (hostMessage l w v)).run s = t ∧ t.get (F.TLK_CMD_STATUS_RESULT l) = r ∧
      t.get (F.TLK_CMD_STATUS_DONE l) = 1 ∧ t.units = s.units ∧ t.win.down = s.win.down ∧
      (∀ a, ¬ (a = (F.TLK_CMD_STATUS_BUSY l).addr ∨ a = F.IMG_VOLATILE_WRITES_COUNT.addr) → t.rd a = s.rd a) ∧
      t.flash = s.flash := by
  obtain ⟨u, hu, hunits, hdown, hrun⟩ := run_adjusts_small_message (l := l) (w := w) (v := v) hcount
  rw [hmessage] at hrun
  have hdone := run_tally (messageDone_tally (l := l) r) u
  obtain ⟨hresult, hended⟩ := messageDone_shows (s := u) (l := l) hr
  refine ⟨_, hrun, hresult, hended, hunits, ?_, fun a ha => ?_, hdone.flash.trans hu.flash⟩
  · exact (congrArg (·.win.down) hdone.rest).trans hdown
  · obtain ⟨hbusy, hvol⟩ := not_or.mp ha
    rw [hdone.rd a hbusy, hu.rd a hvol]

/-- A message that does nothing but count its write. -/
theorem message_nothing (h : getBits v 0 0 = 0 ∨ s.hasRight w (F.TLK_CMD_CTRL_START l).addr = false ∨ s.hasLane l = false)
    (hcount : s.get F.IMG_VOLATILE_WRITES_COUNT + 1 < 2 ^ 47) :
    ∃ t, (adjusts w (F.TLK_CMD_CTRL_START l) (hostMessage l w v)).run s = t ∧
      t.units = s.units ∧ t.keep = s.keep ∧ t.force = s.force ∧ t.out = s.out ∧
      (∀ a, ¬ (a = F.IMG_VOLATILE_WRITES_COUNT.addr) → t.rd a = s.rd a) ∧ t.flash = s.flash := by
  obtain ⟨u, hu, hunits, _, hrun⟩ := run_adjusts_small_message (l := l) (w := w) (v := v) hcount
  rw [message_none h] at hrun
  exact ⟨u, hrun, refused_frame hu hunits⟩

end

/-! ## Timeouts and retries (R131, R135, R619) -/

section
variable {s : State} {l : Nat} {c : LaneCmd}

/-- A command that has waited long enough. -/
def State.unanswered (s : State) (l : Nat) (c : LaneCmd) : Prop := c.sentAt + 100 * tickUs + (s.lane l).trip ≤ s.keep.elapsed

/-- A command sent once more. -/
def LaneCmd.again (c : LaneCmd) (now : Nat) : LaneCmd := { c with repeats := c.repeats + 1, sentAt := now }

/-- A timeout of the host's command changes TLK_CMD_STATUS alone of the registers. -/
theorem commandTimeout_host_laneWork : (commandTimeoutAct l true).laneWork (· = (F.TLK_CMD_STATUS_BUSY l).addr) := by
  intro s
  dsimp only
  split
  · trivial
  · simp [hostDone_laneWork]

/-- One of the device's command changes TLK_EVENTS. -/
theorem commandTimeout_own_laneWork : (commandTimeoutAct l false).laneWork (· = (F.TLK_EVENTS_NO_ANSWER l).addr) := by
  intro s
  dsimp only
  split
  · trivial
  · simp [retryLater_laneWork]

theorem run_commandTimeout_none {h : Bool}
    (hnone : ∀ c ∈ (if h then (s.lane l).host else (s.lane l).own), s.keep.elapsed < c.sentAt + 100 * tickUs + (s.lane l).trip) :
    (commandTimeoutAct l h).run s = s := by
  rw [commandTimeoutAct, run_look]
  cases hc : (if h then (s.lane l).host else (s.lane l).own) with
  | none => simp [hc]
  | some c =>
    have hearly : ¬ s.keep.elapsed ≥ c.sentAt + 100 * tickUs + (s.lane l).trip := Nat.not_le.mpr (hnone c hc)
    simp [hc, hearly]

/-- A command goes out again, noted by `f`, where the lane may send it. -/
def commandRepeated (l route : Nat) (words : List Nat) (f : LaneUnit → LaneUnit) (may : Bool) : Act :=
  .seq (onLane l f) (Act.when may (downlink l route words))

theorem commandRepeated_lane {route : Nat} {words : List Nat} {f : LaneUnit → LaneUnit} {may : Bool} :
    ((commandRepeated l route words f may).run s).lane l = f (s.lane l) := by
  cases may <;> simp [commandRepeated]

/-- The device gives a command of its own up. -/
def ownGivenUp (l : Nat) : Act :=
  Act.all [onLane l (fun u => { u with own := none }), event (F.TLK_EVENTS_NO_ANSWER l), retryLater l]

/-- A host's command is repeated. -/
theorem run_commandTimeout_host (hc : (s.lane l).host = some c) (hwaited : s.unanswered l c) (hfew : c.repeats < 3) :
    (commandTimeoutAct l true).run s = 
      (commandRepeated l 5 c.words (fun u => { u with host := some (c.again s.keep.elapsed) }) (!s.fenced && s.laneState l = 6)).run s := by
  rw [State.unanswered] at hwaited
  simp [commandTimeoutAct, commandRepeated, hc, hwaited, hfew, LaneCmd.again]

theorem run_commandTimeout_host_last (hc : (s.lane l).host = some c) (hwaited : s.unanswered l c) (hlast : ¬ c.repeats < 3) :
    (commandTimeoutAct l true).run s = (hostDone l 1).run s := by
  rw [State.unanswered] at hwaited
  simp [commandTimeoutAct, hc, hwaited, hlast]

/-- A command of the device is repeated. -/
theorem run_commandTimeout_own (hc : (s.lane l).own = some c) (hwaited : s.unanswered l c) (hfew : c.repeats < 3) :
    (commandTimeoutAct l false).run s =
      (commandRepeated l 4 c.words (fun u => { u with own := some (c.again s.keep.elapsed) })
        (!s.fenced && (s.laneState l = 6 || (s.laneState l = 5 || s.laneState l = 7)))).run s := by
  rw [State.unanswered] at hwaited
  simp [commandTimeoutAct, commandRepeated, hc, hwaited, hfew, LaneCmd.again]

theorem run_commandTimeout_own_last (hc : (s.lane l).own = some c) (hwaited : s.unanswered l c) (hlast : ¬ c.repeats < 3) :
    (commandTimeoutAct l false).run s = (ownGivenUp l).run s := by
  rw [State.unanswered] at hwaited
  simp [commandTimeoutAct, ownGivenUp, hc, hwaited, hlast]

theorem hostDone_shows {r : Nat} (hr : r < 256) : (((hostDone l r).run s).lane l) = { s.lane l with host := none } ∧
    ((hostDone l r).run s).get (F.TLK_CMD_STATUS_RESULT l) = r ∧ ((hostDone l r).run s).get (F.TLK_CMD_STATUS_DONE l) = 1 ∧
    ((hostDone l r).run s).get (F.TLK_CMD_STATUS_BUSY l) = 0 := by
  simp only [hostDone, run_all_cons, run_all_nil]
  refine ⟨?_, ?_, ?_, ?_⟩
  · rw [run_event_lane, run_put_lane, run_put_lane, run_onLane_lane]
  · simp (disch := decide) only [F.TLK_CMD_STATUS_RESULT, F.TLK_CMD_STATUS_DONE, F.TLK_CMD_STATUS_BUSY, get_event_row, get_put_row,
      get_put_row_same]
    exact Nat.mod_eq_of_lt hr
  · rw [F.TLK_CMD_STATUS_DONE, get_event_row_same (by decide)]
  · simp (disch := decide) only [F.TLK_CMD_STATUS_DONE, F.TLK_CMD_STATUS_BUSY, get_event_row, get_put_row_same]
    rfl

theorem retryLater_lane : ((retryLater l).run s).lane l =
    if s.laneState l = 5 then { s.lane l with retryAt := some (s.keep.elapsed + tickMs) } else s.lane l := by
  rw [retryLater, run_look]
  by_cases h : s.laneState l = 5 <;> simp [h]

theorem retryLater_get (f : Field) : ((retryLater l).run s).get f = s.get f := by
  rw [retryLater, run_look, get_when, run_onLane_get, ite_self]

/-- A command given up in DISCOVERING is tried again after 1 ms. -/
theorem ownGivenUp_leaves : (((ownGivenUp l).run s).lane l).own = none ∧
    ((ownGivenUp l).run s).get (F.TLK_EVENTS_NO_ANSWER l) = 1 ∧
    (s.laneState l = 5 → (((ownGivenUp l).run s).lane l).retryAt = some (s.keep.elapsed + tickMs)) := by
  have hstate : ((event (F.TLK_EVENTS_NO_ANSWER l)).run ((onLane l fun u => { u with own := none }).run s)).laneState l =
      s.laneState l := by
    rw [State.laneState, F.TLK_EVENTS_NO_ANSWER, F.TLK_STATUS_STATE, get_event_row (by decide) (by decide) (by decide)]
    rfl
  simp only [ownGivenUp, run_all_cons, run_all_nil]
  rw [retryLater_get, retryLater_lane, hstate, run_event_lane, run_onLane_lane]
  refine ⟨by split <;> rfl, ?_, fun h5 => ?_⟩
  · rw [F.TLK_EVENTS_NO_ANSWER, get_event_row_same (by decide)]
  · rw [if_pos h5]
    rfl

/-- A retry that is due sends the device's command again. -/
theorem run_discoveryRetry {r : Nat} (hr : (s.lane l).retryAt = some r) (hdue : r ≤ s.keep.elapsed) (hstate : s.laneState l = 5) :
    (discoveryRetryAct l).run s =
      (ownCommand l (if (s.lane l).roster then 2 else 1) (if (s.lane l).roster then s.enableArg l else 0)).run s := by
  cases hroster : (s.lane l).roster <;> simp [discoveryRetryAct, hr, hdue, hstate, hroster, sendEnable, sendDiscover]

theorem run_discoveryRetry_none (h : (∀ r ∈ (s.lane l).retryAt, s.keep.elapsed < r) ∨ s.laneState l ≠ 5) :
    (discoveryRetryAct l).run s = s := by
  rw [discoveryRetryAct, run_look]
  cases hr : (s.lane l).retryAt with
  | none => simp
  | some r =>
    have hnone : s.laneState l = 5 → ¬ s.keep.elapsed ≥ r := fun hstate =>
      Nat.not_le.mpr (h.elim (fun hall => hall r hr) fun hne => absurd hstate hne)
    by_cases hstate : s.laneState l = 5
    · simp [hnone hstate]
    · simp [hstate]

theorem ownCommand_down_flash (opcode arg : Nat) : ((ownCommand l opcode arg).run s).flash = s.flash :=
  (run_laneWork (ownCommand_laneWork (P := fun _ => False)) s).flash

end

/-! ## The statement -/

/-- Settles O10: a message runs as it would before the count of its write, and each timeout's program is equal to that of the
case that its conditions name. -/
theorem laneCommandsAndTimeouts : Obligations.LaneCommandsAndTimeouts := by
  unfold Obligations.LaneCommandsAndTimeouts
  refine ⟨fun s l w v hstart hright hlane hup hhost hstate hfenced htype hop => ?command,
    fun s l w v hstart hright hlane htype h hcount => ?commandRefused,
    fun s l w v hstart hright hlane hup hhost hstate hfenced hword hahead => ?pulse,
    fun s l w v hstart hright hlane hword h hcount => ?pulseRefused,
    fun s l w v h hcount => ?commandNone, fun s l w v h hcount => ?pulseNone,
    fun s l c hc hwaited => ?hostTimeout, fun s l c hc hwaited => ?ownTimeout, fun s l h hnone => ?noTimeout,
    fun s l r hr hdue hstate => ?retry, fun s l h => ?noRetry,
    fun s l k hlane hk hpresent hsilent => ?stalled, fun s l k h => ?notStalled⟩
  case command =>
    obtain ⟨u, hu, has, hrun⟩ := run_adjusts_message (w := w) (v := v) hlane
    rw [message_command hstart hright hlane hhost hstate hfenced htype hop] at hrun
    obtain ⟨hunit, hbusy, hdown⟩ := commandSent_leaves (l := l) (s.hostCmd l) (has.up.trans hup)
    have hwork := run_laneWork (commandSent_laneWork (l := l) (s.hostCmd l)) u
    refine ⟨_, congrArg Host.Outcome.next hrun, ?_, ?_, hbusy, ?_, fun a ha => ?_, hwork.flash.trans hu.flash⟩
    · rw [hunit]
      rfl
    · rw [hunit]
      rfl
    · rw [hdown, has.down]
      rfl
    · obtain ⟨hne, hcount⟩ := of_messageRegs ha
      rw [hwork.rd a hne, hu.rd a hcount]
  case commandRefused =>
    obtain ⟨t, ht, h⟩ := message_ends (by split <;> [decide; split <;> decide]) hcount
      (message_command_refused hstart hright hlane htype h)
    exact ⟨t, congrArg Host.Outcome.next ht, h⟩
  case pulse =>
    obtain ⟨u, hu, has, hrun⟩ := run_adjusts_message (w := w) (v := v) hlane
    rw [message_pulse hstart hright hlane hhost hstate hfenced hword hahead] at hrun
    obtain ⟨hunit, hdown⟩ := pulseSent_leaves (l := l) (s.hostTag l) (s.pulseWords l) (has.up.trans hup)
    have hwork := run_laneWork (pulseSent_laneWork (l := l) (s.hostTag l) (s.pulseWords l)) u
    obtain ⟨hresult, hdone⟩ := messageDone_shows (l := l) (r := 0) (by decide)
      (s := (downlink l 3 (s.pulseWords l)).run ((onLane l fun u => { u with tag := s.hostTag l }).run u))
    refine ⟨_, congrArg Host.Outcome.next hrun, hresult, hdone, ?_, ?_, fun a ha => ?_, hwork.flash.trans hu.flash⟩
    · rw [hunit]
      rfl
    · rw [hdown, has.down]
      simp [State.pulseWords, State.hostTag]
    · obtain ⟨hne, hcount⟩ := of_messageRegs ha
      rw [hwork.rd a hne, hu.rd a hcount]
  case pulseRefused =>
    obtain ⟨t, ht, h⟩ := message_ends (by split <;> [decide; split <;> decide]) hcount
      (message_pulse_refused hstart hright hlane hword h)
    exact ⟨t, congrArg Host.Outcome.next ht, h⟩
  case commandNone | pulseNone =>
    obtain ⟨t, ht, h⟩ := message_nothing h hcount
    exact ⟨t, congrArg Host.Outcome.next ht, h⟩
  case hostTimeout =>
    have hwork := run_laneWork (commandTimeout_host_laneWork (l := l)) s
    refine ⟨_, rfl, ?_, hwork.rd, hwork.flash⟩
    by_cases hfew : c.repeats < 3
    · rw [if_pos hfew, run_commandTimeout_host hc hwaited hfew, commandRepeated_lane]
      refine ⟨rfl, fun hstate hfenced hup => ?_⟩
      rw [hfenced, decide_eq_true hstate]
      exact run_downlink_down hup
    · rw [if_neg hfew, run_commandTimeout_host_last hc hwaited hfew]
      obtain ⟨hunit, hshown⟩ := hostDone_shows (s := s) (l := l) (r := 1) (by decide)
      exact ⟨congrArg LaneUnit.host hunit, hshown⟩
  case ownTimeout =>
    have hwork := run_laneWork (commandTimeout_own_laneWork (l := l)) s
    refine ⟨_, rfl, ?_, hwork.rd, hwork.flash⟩
    by_cases hfew : c.repeats < 3
    · rw [if_pos hfew, run_commandTimeout_own hc hwaited hfew, commandRepeated_lane]
      rfl
    · rw [if_neg hfew, run_commandTimeout_own_last hc hwaited hfew]
      exact ownGivenUp_leaves
  case noTimeout => exact congrArg Host.Outcome.next (run_commandTimeout_none hnone)
  case retry =>
    have hrun := run_discoveryRetry hr hdue hstate
    refine ⟨_, congrArg Host.Outcome.next hrun, ?_, ?_, ?_, run_ownCommand_regs, ownCommand_down_flash _ _⟩
    · rw [run_ownCommand_lane]
      rfl
    · rw [run_ownCommand_lane]
      rfl
    · rw [run_ownCommand_lane]
      refine commanded_own (s.lane l) s.keep.elapsed (by split <;> decide) ?_
      split
      · exact enableArg_lt s l
      · decide
  case noRetry => exact congrArg Host.Outcome.next (run_discoveryRetry_none h)
  case stalled =>
    have hshown : s.is (F.TLK_TALKER_STATE_PRESENT l k) = true := by simp [State.is, hpresent]
    have hrun : (wmTimeoutAct l k).run s = (put (F.TLK_TALKER_STATE_STALLED l k) 1).run s := by
      simp [wmTimeoutAct, hlane, hk, hshown, hsilent]
    refine ⟨_, congrArg Host.Outcome.next hrun, ?_, rfl, rfl, rfl, fun a ha => rd_put_other _ _ _ ha, rfl⟩
    rw [F.TLK_TALKER_STATE_STALLED]
    exact get_put_row_same 1 (by decide) (by decide)
  case notStalled =>
    refine congrArg Host.Outcome.next ?_
    have hnot : (s.hasLane l && decide (k < 128) && s.is (F.TLK_TALKER_STATE_PRESENT l k)
        && decide (s.keep.elapsed ≥ (s.talker l k).heardAt + s.get (F.TLK_TIMERS_WM_TIMEOUT_US l) * tickUs)) = false := by
      rcases h with h | h | h | h
      · simp [h]
      · simp [Nat.not_lt.mpr h]
      · simp [State.is, h]
      · simp [Nat.not_le.mpr h]
    rw [wmTimeoutAct, run_look, hnot, run_when_false]

end Sys2Proof.Machine
end

section
/-! Echoes and reports, handovers, acknowledgements and markers of a lane (R122, R132, R137 to R142, R153). -/

namespace Sys2Proof.Machine

theorem lane_when (c : Bool) (a : Act) (s : State) (l : Nat) :
    ((Act.when c a).run s).lane l = if c = true then (a.run s).lane l else s.lane l := by
  cases c <;> simp

/-! ## Entering ACTIVE (R126) -/

section
variable {s : State} {l : Nat}

theorem enterActive_laneWork : (enterActive l).laneWork (ofMove l) := by
  have hstatus : ofMove l (F.TLK_STATUS_RTO_SHORT l).addr := .inl rfl
  simp [enterActive, moveLane_laneWork, hstatus]

/-- The lane's unit once it has entered ACTIVE, its entries noted. -/
theorem enterActive_active (hfenced : s.fenced = false) (hpending : s.pending = []) :
    ((enterActive l).run s).laneState l = 6 ∧
    ∃ flaps, ((enterActive l).run s).lane l = { (s.lane l).entered (s.laneState l) 6 s.keep.elapsed with flaps := flaps } := by
  have h : Entered l 6 s ((moveLane l 6).run s) := moveLane_entered hfenced hpending (by decide) (by omega)
  obtain ⟨flaps, hlane⟩ := h.lane
  simp only [enterActive, run_look, run_all_cons, run_all_nil]
  refine ⟨?_, flaps, by rw [run_put_lane, hlane]⟩
  rw [State.laneState, F.TLK_STATUS_RTO_SHORT, F.TLK_STATUS_STATE, get_put_row _ (by decide) (by decide) (by decide)]
  exact h.state

/-- No heartbeat waits. -/
theorem run_applyPending_none {n : Nat} (h : (s.lane l).pending = []) : (applyPending l n).run s = s := by
  cases n with
  | zero => rfl
  | succ n =>
    rw [applyPending, run_look]
    simp [h]

/-! ## Echoes (R139, R140) -/

theorem run_echoReceived {mark stamp : Nat} {m : Nat × Nat} (hm : (s.lane l).markers.find? (fun m => m.1 = mark) = some m)
    (hlane : s.hasLane l = true) (hlow : 4 ≤ s.laneState l) (hhigh : s.laneState l ≤ 7) :
    (echoReceivedAct l mark stamp).run s = (onLane l (fun u => { u with
      markers := u.markers.filter (fun x => x.1 ≠ mark)
      echoes := u.echoes ++ [{ mark := mark, departure := m.2, trip := dif stamp m.2, at_ := s.keep.elapsed }] })).run s := by
  simp [echoReceivedAct, hm, hlane, hlow, hhigh]

theorem run_echoReceived_none {mark stamp : Nat} (h : (s.lane l).markers.find? (fun m => m.1 = mark) = none ∨
    s.hasLane l = false ∨ s.laneState l < 4 ∨ 7 < s.laneState l) : (echoReceivedAct l mark stamp).run s = s := by
  rw [echoReceivedAct, run_look]
  cases hm : (s.lane l).markers.find? (fun m => m.1 = mark) with
  | none => simp
  | some m =>
    have hnot : (s.hasLane l && decide (4 ≤ s.laneState l) && decide (s.laneState l ≤ 7)) = false := by
      rcases h with h | h | h | h
      · rw [hm] at h
        contradiction
      · simp [h]
      · simp [Nat.not_le.mpr h]
      · simp [Nat.not_le.mpr h]
    dsimp only
    rw [hnot, run_when_false]

/-! ## Reports of echoes (R139 to R142) -/

/-- The echo that a report speaks of. -/
def State.reported (s : State) (l mark : Nat) : Option LaneEcho :=
  (s.lane l).echoes.find? (fun e => e.mark = mark && decide (s.keep.elapsed ≤ e.at_ + 100 * tickUs))

/-- The last delays, once an echo with turnaround `ta` is counted. -/
def delaysAfter (u : LaneUnit) (e : LaneEcho) (ta : Nat) : List Int := ((e.trip - ta) :: u.delays).take 16

/-- A lane's unit once an echo is counted. -/
def LaneUnit.echoed (u old : LaneUnit) (e : LaneEcho) (ta : Nat) : LaneUnit :=
  { u with echoes := u.echoes.filter (fun x => x ≠ e), delays := delaysAfter old e ta, valid := old.valid + 1
           trip := (e.trip - ta).toNat }

/-- The report of a kept echo is counted and shown. -/
def echoCounted (l : Nat) (old : LaneUnit) (e : LaneEcho) (ta count : Nat) : Act := Act.all [
  onLane l (fun u => u.echoed old e ta),
  put (F.TLK_DELAY_ECHOES l) (min 65535 (count + 1)),
  put (F.TLK_ECHO_LAST_TURNAROUND l) ta,
  put (F.TLK_ECHO_LAST_ROUND_TRIP l) (enc 32 e.trip)]

theorem num_slice (f : List Byte) (off n k : Nat) (h : k ≤ n) : num (slice f off n) 0 k = num f off k := by
  simp [num, slice, List.take_take, Nat.min_eq_left h]

/-- What a report does on a lane that is ACTIVE or STANDBY. -/
theorem run_report {f : List Byte} {e : LaneEcho} (he : s.reported l (num f 2 2) = some e)
    (hstate : s.laneState l = 6 ∨ s.laneState l = 7) :
    (report l f).run s = (stampSample l e (bit (num (slice f 8 16) 4 1) 0) (num (slice f 8 16) 8 6)).run
      ((steer l (meanOf (delaysAfter (s.lane l) e (num f 8 4)) (2 * (delaysAfter (s.lane l) e (num f 8 4)).length))).run
        ((echoCounted l (s.lane l) e (num f 8 4) (s.get (F.TLK_DELAY_ECHOES l))).run s)) := by
  rw [State.reported] at he
  rw [report, run_look]
  simp only [he, num_slice f 8 16 4 (by decide)]
  rcases hstate with h | h <;> rw [h] <;> rfl

/-- A mean near the applied delay moves it by one tick. -/
theorem steer_leaves {mean : Int} :
    if mean - (s.get (F.TLK_DELAY_CABLE_DELAY l) : Int) > 1024 ∨ (s.get (F.TLK_DELAY_CABLE_DELAY l) : Int) - mean > 1024 then
      ((steer l mean).run s).get (F.TLK_EVENTS_DELAY_JUMP l) = 1 ∧
      ((steer l mean).run s).get (F.TLK_DELAY_CABLE_DELAY l) = mean.toNat % 2 ^ 40
    else (s.get (F.TLK_DELAY_CABLE_DELAY l) : Int) < 2 ^ 40 - 1 → ((steer l mean).run s).get (F.TLK_DELAY_CABLE_DELAY l) =
      (if mean > (s.get (F.TLK_DELAY_CABLE_DELAY l) : Int) then (s.get (F.TLK_DELAY_CABLE_DELAY l) : Int) + 1
        else if mean < (s.get (F.TLK_DELAY_CABLE_DELAY l) : Int) then (s.get (F.TLK_DELAY_CABLE_DELAY l) : Int) - 1
        else (s.get (F.TLK_DELAY_CABLE_DELAY l) : Int)).toNat := by
  rw [steer, run_look]
  generalize hcur : (s.get (F.TLK_DELAY_CABLE_DELAY l) : Int) = cur
  have hset : ∀ v : Int, ((put (F.TLK_DELAY_CABLE_DELAY l) v.toNat).run s).get (F.TLK_DELAY_CABLE_DELAY l) = v.toNat % 2 ^ 40 :=
    fun v => by
      rw [F.TLK_DELAY_CABLE_DELAY]
      exact get_put_row_same (k := 0x1000 * l) v.toNat (by decide) (by decide)
  have hcur0 : 0 ≤ cur := by omega
  split
  · next hjump =>
    have hfar : (decide (mean - cur > 1024) || decide (cur - mean > 1024)) = true := by simpa using hjump
    rw [if_pos hfar, run_seq]
    refine ⟨by rw [F.TLK_EVENTS_DELAY_JUMP, get_event_row_same (by decide)], ?_⟩
    rw [← hset mean, F.TLK_EVENTS_DELAY_JUMP, F.TLK_DELAY_CABLE_DELAY, get_event_row (by decide) (by decide) (by decide)]
  · next hjump =>
    have hnear : ¬ (decide (mean - cur > 1024) || decide (cur - mean > 1024)) = true := by simpa using hjump
    intro hlt
    rw [if_neg hnear]
    split
    · rw [hset]
      exact Nat.mod_eq_of_lt (by omega)
    · split
      · rw [hset]
        exact Nat.mod_eq_of_lt (by omega)
      · rw [run_skip]
        omega

/-- Steering puts a new delay or none, and notes a jump or none. -/
theorem run_steer (mean : Int) (s : State) : ∃ (moves jumps : Bool) (v : Nat), (steer l mean).run s =
    (Act.when jumps (event (F.TLK_EVENTS_DELAY_JUMP l))).run ((Act.when moves (put (F.TLK_DELAY_CABLE_DELAY l) v)).run s) := by
  rw [steer, run_look]
  dsimp only
  split
  · exact ⟨true, true, _, rfl⟩
  · split
    · exact ⟨true, false, _, rfl⟩
    · split
      · exact ⟨true, false, _, rfl⟩
      · exact ⟨false, false, 0, rfl⟩

theorem steer_lane (mean : Int) : ((steer l mean).run s).lane l = s.lane l := by
  obtain ⟨moves, jumps, v, hrun⟩ := run_steer (l := l) mean s
  rw [hrun]
  cases moves <;> cases jumps <;> rfl

/-- Steering changes TLK_DELAY and TLK_EVENTS alone. -/
theorem steer_laneWork (mean : Int) :
    (steer l mean).laneWork (fun a => a = (F.TLK_DELAY_CABLE_DELAY l).addr ∨ a = (F.TLK_EVENTS_DELAY_JUMP l).addr) := by
  simp [steer]

/-- Of TLK_DELAY it changes the applied delay alone. -/
theorem steer_echoes (mean : Int) : ((steer l mean).run s).get (F.TLK_DELAY_ECHOES l) = s.get (F.TLK_DELAY_ECHOES l) := by
  obtain ⟨moves, jumps, v, hrun⟩ := run_steer (l := l) mean s
  rw [hrun]
  simp (disch := decide) only [get_when, F.TLK_DELAY_CABLE_DELAY, F.TLK_DELAY_ECHOES, F.TLK_EVENTS_DELAY_JUMP, get_put_row,
    get_event_row, ite_self]

/-- A stamp-offset sample is kept and shown. -/
def stampShown (l : Nat) (samples : List Int) (n : Nat) (full : Bool) (offset : Nat) : Act := Act.all [
  onLane l (fun u => { u with samples := samples }),
  put (F.TLK_STAMP_OFFSET_SAMPLES l) n,
  Act.when full (.seq (put (F.TLK_STAMP_OFFSET_VALID l) 1) (put (F.TLK_STAMP_OFFSET_OFFSET l) offset))]

theorem run_stampSample (e : LaneEcho) (follows : Bool) (arrival : Nat) (s : State) : ∃ c samples n full offset,
    (stampSample l e follows arrival).run s = (Act.when c (stampShown l samples n full offset)).run s := by
  rw [stampSample, run_look]
  exact ⟨_, _, _, _, _, rfl⟩

theorem stampSample_laneWork (e : LaneEcho) (follows : Bool) (arrival : Nat) :
    (stampSample l e follows arrival).laneWork (· = (F.TLK_STAMP_OFFSET_VALID l).addr) := by
  simp [stampSample, F.TLK_STAMP_OFFSET_SAMPLES, F.TLK_STAMP_OFFSET_VALID, F.TLK_STAMP_OFFSET_OFFSET]

theorem stampSample_delays (e : LaneEcho) (follows : Bool) (arrival : Nat) :
    (((stampSample l e follows arrival).run s).lane l).delays = (s.lane l).delays := by
  obtain ⟨c, samples, n, full, offset, hrun⟩ := run_stampSample (l := l) e follows arrival s
  simp -implicitDefEqProofs only [hrun, stampShown, lane_when, run_all_cons, run_all_nil, run_seq, run_put_lane, run_onLane_lane, ite_self]
  rw [apply_ite LaneUnit.delays, ite_self]

theorem echoCounted_leaves {old : LaneUnit} {e : LaneEcho} {ta n : Nat} (hta : ta < 2 ^ 32) :
    ((echoCounted l old e ta n).run s).lane l = (s.lane l).echoed old e ta ∧
    ((echoCounted l old e ta n).run s).get (F.TLK_DELAY_ECHOES l) = min 65535 (n + 1) ∧
    ((echoCounted l old e ta n).run s).get (F.TLK_ECHO_LAST_TURNAROUND l) = ta ∧
    ((echoCounted l old e ta n).run s).get (F.TLK_ECHO_LAST_ROUND_TRIP l) = enc 32 e.trip ∧
    ((echoCounted l old e ta n).run s).get (F.TLK_DELAY_CABLE_DELAY l) = s.get (F.TLK_DELAY_CABLE_DELAY l) := by
  simp only [echoCounted, run_all_cons, run_all_nil]
  refine ⟨?_, ?_, ?_, ?_, ?_⟩
  · rw [run_put_lane, run_put_lane, run_put_lane, run_onLane_lane]
  · simp (disch := decide) only [F.TLK_DELAY_ECHOES, F.TLK_ECHO_LAST_TURNAROUND, F.TLK_ECHO_LAST_ROUND_TRIP, get_put_row, get_put_row_same]
    omega
  · simp (disch := decide) only [F.TLK_DELAY_ECHOES, F.TLK_ECHO_LAST_TURNAROUND, F.TLK_ECHO_LAST_ROUND_TRIP, get_put_row, get_put_row_same]
    exact Nat.mod_eq_of_lt hta
  · simp (disch := decide) only [F.TLK_DELAY_ECHOES, F.TLK_ECHO_LAST_TURNAROUND, F.TLK_ECHO_LAST_ROUND_TRIP, get_put_row_same]
    simp only [enc]
    omega
  · simp (disch := decide) only [F.TLK_DELAY_ECHOES, F.TLK_ECHO_LAST_TURNAROUND, F.TLK_ECHO_LAST_ROUND_TRIP, F.TLK_DELAY_CABLE_DELAY,
      get_put_row, run_onLane_get]

theorem echoCounted_laneWork (old : LaneUnit) (e : LaneEcho) (ta n : Nat) : (echoCounted l old e ta n).laneWork
    (fun a => a = (F.TLK_DELAY_ECHOES l).addr ∨ a = (F.TLK_ECHO_LAST_TURNAROUND l).addr) := by
  simp [echoCounted, F.TLK_ECHO_LAST_ROUND_TRIP, F.TLK_ECHO_LAST_TURNAROUND]

/-! ## Handovers (R153) -/

/-- A STANDBY lane takes the place of the primary, at BASE_SEQ. -/
def baseTaken (l base : Nat) : Act := Act.all [
  put (F.TLK_SEQ_CUM l) base,
  onLane l (fun u => { u with bitmap := 0, promoted := true }),
  Act.each (List.range 128) (fun t => .look fun s =>
    Act.when (s.talker l t).wm.isSome (onTalker l t (fun _ => { heardAt := s.keep.elapsed })))]

theorem baseTaken_laneWork (base : Nat) : (baseTaken l base).laneWork (· = (F.TLK_SEQ_CUM l).addr) := by simp [baseTaken]

/-- Work on the talkers of a lane leaves the units of the lanes and the registers. -/
theorem run_each_talkers (ts : List Nat) (c : State → Nat → Bool) (f : State → TalkerUnit → TalkerUnit) (s : State) :
    ∃ units, (Act.each ts (fun t => .look fun s => Act.when (c s t) (onTalker l t (f s)))).run s = { s with units := units } ∧
      units.lanes = s.units.lanes := by
  induction ts generalizing s with
  | nil => exact ⟨s.units, rfl, rfl⟩
  | cons t ts ih =>
    rw [run_each_cons, run_look]
    cases hc : c s t
    · rw [run_when_false]
      exact ih s
    · obtain ⟨units, hrun, hlanes⟩ := ih ((onTalker l t (f s)).run s)
      exact ⟨units, hrun, hlanes⟩

theorem baseTaken_leaves {base : Nat} (hbase : base < 65536) :
    ((baseTaken l base).run s).lane l = { s.lane l with bitmap := 0, promoted := true } ∧
    ((baseTaken l base).run s).get (F.TLK_SEQ_CUM l) = base ∧
    ((baseTaken l base).run s).get (F.TLK_SEQ_PENDING_HB l) = s.get (F.TLK_SEQ_PENDING_HB l) := by
  obtain ⟨units, hrun, hlanes⟩ := run_each_talkers (l := l) (List.range 128) (fun s t => (s.talker l t).wm.isSome)
    (fun s _ => { heardAt := s.keep.elapsed })
    ((onLane l fun u => { u with bitmap := 0, promoted := true }).run ((put (F.TLK_SEQ_CUM l) base).run s))
  simp only [baseTaken, run_all_cons, run_all_nil, hrun]
  refine ⟨?_, ?_, ?_⟩
  · rw [State.lane, hlanes, ← State.lane, run_onLane_lane, run_put_lane]
  · show ((put (F.TLK_SEQ_CUM l) base).run s).get (F.TLK_SEQ_CUM l) = base
    rw [F.TLK_SEQ_CUM, get_put_row_same _ (by decide) (by decide)]
    exact Nat.mod_eq_of_lt hbase
  · show ((put (F.TLK_SEQ_CUM l) base).run s).get (F.TLK_SEQ_PENDING_HB l) = _
    rw [F.TLK_SEQ_CUM, F.TLK_SEQ_PENDING_HB, get_put_row _ (by decide) (by decide) (by decide)]

/-- What a handover does on a STANDBY lane whose device is not fenced. -/
theorem run_handover {f : List Byte} (hstate : s.laneState l = 7) (hpath : bit (num f 1 1) 7 = true) (hfenced : s.fenced = false) :
    (handover l f).run s = (applyPending l 4).run ((count (F.TLK_HANDOVERS_C l)).run ((event (F.TLK_EVENTS_PROMOTED l)).run
      ((sendEnable l).run ((enterActive l).run ((baseTaken l (num f 2 2)).run s))))) := by
  simp [handover, baseTaken, hstate, hpath, hfenced]

theorem run_handover_none {f : List Byte} (h : s.laneState l ≠ 7 ∨ bit (num f 1 1) 7 = false ∨ s.fenced = true) :
    (handover l f).run s = s := by
  have hnot : (decide (s.laneState l = 7) && bit (num f 1 1) 7 && !s.fenced) = false := by
    rcases h with h | h | h <;> simp [h]
  rw [handover, run_look, hnot, run_when_false]

/-! ## Acknowledgements (R122, R151) -/

theorem run_ackSend (hlane : s.hasLane l = true) (hstate : s.laneState l = 6) (hfenced : s.fenced = false) :
    (ackSendAct l).run s = (count (F.TLK_ACKS_SENT_C l)).run
      ((downlink l 2 [2 * 2 ^ 60 + 2 ^ 58 + (s.ackState l).1, (s.ackState l).2]).run s) := by
  simp [ackSendAct, hlane, hstate, hfenced]

theorem run_ackSend_none (h : s.hasLane l = false ∨ s.laneState l ≠ 6 ∨ s.fenced = true) : (ackSendAct l).run s = s := by
  have hnot : (s.hasLane l && decide (s.laneState l = 6) && !s.fenced) = false := by
    rcases h with h | h | h <;> simp [h]
  rw [ackSendAct, run_look, hnot, run_when_false]

/-- An ACK that is sent, whatever it carries. -/
theorem ackSend_leaves (hlane : s.hasLane l = true) (hup : s.up = true) (hstate : s.laneState l = 6) (hfenced : s.fenced = false) :
    ∃ t, exec (.ackSend l) s = .next t ∧
      t.win.down = s.win.down ++ [(l, 2, be 8 (2 * 2 ^ 60 + 2 ^ 58 + (s.ackState l).1) ++ be 8 (s.ackState l).2)] ∧
      t.get (F.TLK_ACKS_SENT_C l) = (s.get (F.TLK_ACKS_SENT_C l) + 1) % 2 ^ 48 ∧ t.units.lanes = s.units.lanes ∧
      (∀ a, ¬ (a = (F.TLK_ACKS_SENT_C l).addr ∨ inQueueBlocks a) → t.rd a = s.rd a) ∧ t.flash = s.flash := by
  have hwork : LaneWork (fun a => a = (F.TLK_ACKS_SENT_C l).addr ∨ inQueueBlocks a) s ((ackSendAct l).run s) := by
    rw [run_ackSend hlane hstate hfenced]
    refine (run_laneWork (downlink_laneWork ..) s).trans (run_laneWork (countBy_laneWork (.inl rfl) ?_ 1) _)
    exact fun a ha => .inr (Nat.le_trans (by decide) ha.1)
  refine ⟨_, rfl, ?_, ?_, ?_, hwork.rd, hwork.flash⟩ <;>
    rw [show (ackSendAct l).run s = _ from run_ackSend hlane hstate hfenced]
  · rw [show (count (F.TLK_ACKS_SENT_C l)) = countBy (F.TLK_ACKS_SENT_C l) 1 from rfl, run_countBy_down, run_downlink_down hup]
    simp
  · rw [F.TLK_ACKS_SENT_C, get_count_lane_same (lane_lt hlane) (by decide), run_downlink_get]
  · rw [run_count_lanes, run_downlink_units]

/-! ## Markers (R46, R137, R138) -/

theorem run_markerSend (h : (s.hasLane l && s.up && decide (1 ≤ s.laneState l) && decide (s.laneState l ≤ 7) && !s.fenced &&
    s.markerDue l) = true) : (markerSendAct l).run s =
    (onLane l (fun u => { u with mark := ((s.lane l).mark + 1) % 65536, markedAt := some s.keep.elapsed
                                 markers := (((s.lane l).mark, s.now) :: u.markers).take 64 })).run
      ((downlink l 1 [2 ^ 60 + 2 ^ 58 + s.get F.TIM_STATUS_TQ_D0 * 2 ^ 16 + (s.lane l).mark, s.now]).run
        ((downlink l 0 [0x4B6D * 2 ^ 48 + (s.lane l).mark * 2 ^ 32]).run s)) := by
  rw [markerSendAct, run_look]
  dsimp only
  rw [h]
  rfl

theorem run_markerSend_none (h : (s.hasLane l && s.up && decide (1 ≤ s.laneState l) && decide (s.laneState l ≤ 7) && !s.fenced &&
    s.markerDue l) = false) : (markerSendAct l).run s = s := by
  rw [markerSendAct, run_look]
  dsimp only
  rw [h]
  rfl

/-- A marker is due `n` ticks after the last one. -/
theorem marker_since {n : Nat} (h : ∀ k ∈ (s.lane l).markedAt, k + n ≤ s.keep.elapsed) :
    (match (s.lane l).markedAt with | some t => decide (s.keep.elapsed ≥ t + n) | none => true) = true := by
  cases hm : (s.lane l).markedAt with
  | none => rfl
  | some k => exact decide_eq_true (h k hm)

theorem markerDue_of (hwhen : s.laneState l = 4 ∨ s.units.d0 % (2 ^ s.get (F.TLK_TIMERS_MARKER_EXP l) * tickUs) = 0)
    (hlast : ∀ k ∈ (s.lane l).markedAt, k + (if s.laneState l = 4 then 10 * tickUs else 1) ≤ s.keep.elapsed) :
    s.markerDue l = true := by
  rw [State.markerDue]
  by_cases h4 : s.laneState l = 4
  · rw [if_pos h4] at hlast
    rw [if_pos h4]
    exact marker_since hlast
  · rw [if_neg h4] at hlast
    rw [if_neg h4, decide_eq_true (hwhen.resolve_left h4), Bool.true_and]
    exact marker_since hlast

theorem not_markerDue (h : (s.laneState l = 4 ∧ ∃ k ∈ (s.lane l).markedAt, s.keep.elapsed < k + 10 * tickUs) ∨
    (s.laneState l ≠ 4 ∧ s.units.d0 % (2 ^ s.get (F.TLK_TIMERS_MARKER_EXP l) * tickUs) ≠ 0)) : s.markerDue l = false := by
  rw [State.markerDue]
  rcases h with ⟨h4, k, hk, hearly⟩ | ⟨h4, hoff⟩
  · have hmarked : (s.lane l).markedAt = some k := hk
    simp [h4, hmarked, Nat.not_le.mpr hearly]
  · simp [h4, hoff]

end

/-! ## Numbers in frames -/

theorem foldl_be_lt (b : List Byte) (a : Nat) : b.foldl (fun a x => a * 256 + x.toNat) a < (a + 1) * 256 ^ b.length := by
  induction b generalizing a with
  | nil => simp
  | cons x b ih =>
    have hx : x.toNat < 256 := x.isLt
    calc b.foldl (fun a x => a * 256 + x.toNat) (a * 256 + x.toNat)
        < (a * 256 + x.toNat + 1) * 256 ^ b.length := ih _
      _ ≤ ((a + 1) * 256) * 256 ^ b.length := Nat.mul_le_mul_right _ (by omega)
      _ = (a + 1) * 256 ^ (x :: b).length := by rw [List.length_cons, Nat.pow_succ']; ring

/-- `n` bytes hold a number below 2^(8n). -/
theorem num_lt (f : List Byte) (off n : Nat) : num f off n < 256 ^ n := by
  have hlen : (slice f off n).length ≤ n := List.length_take_le ..
  calc num f off n < (0 + 1) * 256 ^ (slice f off n).length := foldl_be_lt _ 0
    _ ≤ 256 ^ n := by rw [Nat.zero_add, Nat.one_mul]; exact Nat.pow_le_pow_right (by decide) hlen

/-! ## The clauses -/

section
variable {s : State} {l : Nat} {rx : LaneRx}

/-- What the steering toward a mean leaves of a lane, where the applied delay was `c`. -/
def steered (l : Nat) (mean : Int) (c : Int) (t : State) : Prop :=
  if mean - c > 1024 ∨ c - mean > 1024 then
    t.get (F.TLK_EVENTS_DELAY_JUMP l) = 1 ∧ t.get (F.TLK_DELAY_CABLE_DELAY l) = mean.toNat % 2 ^ 40
  else c < 2 ^ 40 - 1 → t.get (F.TLK_DELAY_CABLE_DELAY l) = (if mean > c then c + 1 else if mean < c then c - 1 else c).toNat

/-- What the report of a kept echo leaves on a lane that is ACTIVE or STANDBY. -/
theorem report_leaves {f : List Byte} {e : LaneEcho} (he : s.reported l (num f 2 2) = some e)
    (hstate : s.laneState l = 6 ∨ s.laneState l = 7) :
    ∃ t, (report l f).run s = t ∧ t.get (F.TLK_DELAY_ECHOES l) = min 65535 (s.get (F.TLK_DELAY_ECHOES l) + 1) ∧
      t.get (F.TLK_ECHO_LAST_TURNAROUND l) = num f 8 4 ∧ t.get (F.TLK_ECHO_LAST_ROUND_TRIP l) = enc 32 e.trip ∧
      (t.lane l).delays = delaysAfter (s.lane l) e (num f 8 4) ∧ t.laneState l = s.laneState l ∧
      steered l (meanOf (delaysAfter (s.lane l) e (num f 8 4)) (2 * (delaysAfter (s.lane l) e (num f 8 4)).length))
        (s.get (F.TLK_DELAY_CABLE_DELAY l)) t := by
  generalize hmean : meanOf (delaysAfter (s.lane l) e (num f 8 4)) (2 * (delaysAfter (s.lane l) e (num f 8 4)).length) = mean
  obtain ⟨hlane, hechoes, hturn, htrip, hcable⟩ := echoCounted_leaves (s := s) (l := l) (old := s.lane l) (e := e)
    (n := s.get (F.TLK_DELAY_ECHOES l)) (num_lt f 8 4)
  have hcounted := run_laneWork (echoCounted_laneWork (l := l) (s.lane l) e (num f 8 4) (s.get (F.TLK_DELAY_ECHOES l))) s
  have hrun := run_report he hstate
  rw [hmean] at hrun
  generalize (echoCounted l (s.lane l) e (num f 8 4) (s.get (F.TLK_DELAY_ECHOES l))).run s = x at *
  have hsteer := run_laneWork (steer_laneWork (l := l) mean) x
  have hsteered : steered l mean (s.get (F.TLK_DELAY_CABLE_DELAY l)) ((steer l mean).run x) := hcable ▸ steer_leaves
  have hsteeredLane := steer_lane (s := x) (l := l) mean
  have hsteeredEchoes := steer_echoes (s := x) (l := l) mean
  generalize (steer l mean).run x = y at *
  have hsample := run_laneWork (stampSample_laneWork (l := l) e (bit (num (slice f 8 16) 4 1) 0) (num (slice f 8 16) 8 6)) y
  have hdelays := stampSample_delays (s := y) (l := l) e (bit (num (slice f 8 16) 4 1) 0) (num (slice f 8 16) 8 6)
  generalize (stampSample l e (bit (num (slice f 8 16) 4 1) 0) (num (slice f 8 16) 8 6)).run y = z at *
  have hlast : ∀ {c m n : Nat}, c ≠ 0x01000090 → z.get ⟨c + 0x1000 * l, m, n⟩ = y.get ⟨c + 0x1000 * l, m, n⟩ := fun hc =>
    hsample.get (by simpa [F.TLK_STAMP_OFFSET_VALID] using hc)
  have hmiddle : ∀ {c m n : Nat}, c ≠ 0x01000020 ∧ c ≠ 0x01000014 →
      y.get ⟨c + 0x1000 * l, m, n⟩ = x.get ⟨c + 0x1000 * l, m, n⟩ := fun hc =>
    hsteer.get (by simpa [F.TLK_DELAY_CABLE_DELAY, F.TLK_EVENTS_DELAY_JUMP] using hc)
  have hfirst : x.laneState l = s.laneState l := hcounted.get (f := F.TLK_STATUS_STATE l) (by
    simp [F.TLK_STATUS_STATE, F.TLK_DELAY_ECHOES, F.TLK_ECHO_LAST_TURNAROUND])
  refine ⟨z, hrun, ?_, ?_, ?_, ?_, ?_, ?_⟩
  · exact (hlast (by decide)).trans (hsteeredEchoes.trans hechoes)
  · exact (hlast (by decide)).trans ((hmiddle (by decide)).trans hturn)
  · exact (hlast (by decide)).trans ((hmiddle (by decide)).trans htrip)
  · rw [hdelays, hsteeredLane, hlane]
    rfl
  · exact (hlast (by decide)).trans ((hmiddle (by decide)).trans hfirst)
  · have hjump : z.get (F.TLK_EVENTS_DELAY_JUMP l) = y.get (F.TLK_EVENTS_DELAY_JUMP l) := hlast (by decide)
    have hkept : z.get (F.TLK_DELAY_CABLE_DELAY l) = y.get (F.TLK_DELAY_CABLE_DELAY l) := hlast (by decide)
    rw [steered, hjump, hkept]
    exact hsteered

/-- The report of a kept echo on a lane that is ACTIVE or STANDBY. -/
theorem echoReport_counted {e : LaneEcho} (htaken : s.frameTaken l rx 5 = true) (hstate : s.laneState l = 6 ∨ s.laneState l = 7)
    (he : s.reported l (num rx.bytes 2 2) = some e) :
    ∃ t, exec (.echoReport l rx) s = .next t ∧ t.get (F.TLK_DELAY_ECHOES l) = min 65535 (s.get (F.TLK_DELAY_ECHOES l) + 1) ∧
      t.get (F.TLK_ECHO_LAST_TURNAROUND l) = num rx.bytes 8 4 ∧ t.get (F.TLK_ECHO_LAST_ROUND_TRIP l) = enc 32 e.trip ∧
      (t.lane l).delays = delaysAfter (s.lane l) e (num rx.bytes 8 4) ∧ t.laneState l = s.laneState l ∧
      steered l (meanOf (delaysAfter (s.lane l) e (num rx.bytes 8 4)) (2 * (delaysAfter (s.lane l) e (num rx.bytes 8 4)).length))
        (s.get (F.TLK_DELAY_CABLE_DELAY l)) t ∧
      (∀ a, ¬ (inLane l a ∨ inQueueBlocks a) → t.rd a = s.rd a) ∧ t.flash = s.flash := by
  obtain ⟨u, hu, hrun⟩ := run_laneFrame_taken (load := {}) htaken
  have hreported : u.reported l (num rx.bytes 2 2) = some e := by
    rw [← he, State.reported, hu.unit, hu.work.keep]
    rfl
  have hwork := hu.laneFrame (run_laneWork (report_ofLane rx.bytes) u) fun _ => id
  have hdelays : delaysAfter (u.lane l) e (num rx.bytes 8 4) = delaysAfter (s.lane l) e (num rx.bytes 8 4) := by rw [hu.unit]; rfl
  have hcount : u.get (F.TLK_DELAY_ECHOES l) = s.get (F.TLK_DELAY_ECHOES l) := hu.get (by decide)
  have hcable : u.get (F.TLK_DELAY_CABLE_DELAY l) = s.get (F.TLK_DELAY_CABLE_DELAY l) := hu.get (by decide)
  obtain ⟨t, ht, hechoes, hturn, htrip, hlane, hkept, hsteered⟩ := report_leaves hreported (by rwa [hu.laneState])
  rw [hdelays] at hlane hsteered
  rw [ht] at hwork
  exact ⟨t, congrArg Host.Outcome.next (hrun.trans ht), hcount ▸ hechoes, hturn, htrip, hlane, hkept.trans hu.laneState,
    hcable ▸ hsteered, hwork.rd, hwork.flash⟩

/-- What a handover leaves on a STANDBY lane that nothing holds. -/
theorem handover_leaves {f : List Byte} (hl : l < 1024) (hstate : s.laneState l = 7) (hpath : bit (num f 1 1) 7 = true)
    (hfenced : s.fenced = false) (hpending : s.pending = []) (hnone : (s.lane l).pending = []) :
    ∃ t, (handover l f).run s = t ∧ t.get (F.TLK_SEQ_CUM l) = num f 2 2 ∧ (t.lane l).bitmap = 0 ∧ (t.lane l).promoted = true ∧
      t.laneState l = 6 ∧ t.get (F.TLK_EVENTS_PROMOTED l) = 1 ∧
      t.get (F.TLK_HANDOVERS_C l) = (s.get (F.TLK_HANDOVERS_C l) + 1) % 2 ^ 48 ∧
      t.get (F.TLK_SEQ_PENDING_HB l) = s.get (F.TLK_SEQ_PENDING_HB l) := by
  have hrun := run_handover hstate hpath hfenced
  obtain ⟨hlane, hcum, hwaiting⟩ := baseTaken_leaves (s := s) (l := l) (num_lt f 2 2)
  have hbase := run_laneWork (baseTaken_laneWork (l := l) (num f 2 2)) s
  generalize (baseTaken l (num f 2 2)).run s = x at *
  have hfencedX : x.fenced = false := by
    rw [← hfenced]
    exact hbase.is (by simp only [F.SUP_STATUS_FENCED, F.TLK_SEQ_CUM]; omega)
  obtain ⟨hactive, flaps, hentered⟩ := enterActive_active (l := l) hfencedX (hbase.pending.trans hpending)
  have hmoved := run_laneWork (enterActive_laneWork (l := l)) x
  generalize (enterActive l).run x = y at *
  have hsent : ∀ g : Field, ((sendEnable l).run y).get g = y.get g := fun g => by rw [sendEnable, run_look, run_ownCommand_get]
  have hsentLane : ∃ c, ((sendEnable l).run y).lane l = (y.lane l).commanded 2 c y.keep.elapsed :=
    ⟨_, by rw [sendEnable, run_look, run_ownCommand_lane]⟩
  generalize (sendEnable l).run y = z at *
  obtain ⟨c, hsentLane⟩ := hsentLane
  have hunit : ((count (F.TLK_HANDOVERS_C l)).run ((event (F.TLK_EVENTS_PROMOTED l)).run z)).lane l = z.lane l := by
    rw [run_count_lane, run_event_lane]
  rw [run_applyPending_none (by rw [hunit, hsentLane, hentered, hlane]; exact hnone)] at hrun
  have hkept : ∀ {c m n : Nat}, c ≠ 0x01000010 ∧ c ≠ 0x01000014 ∧ c ≠ 0x01000018 →
      z.get ⟨c + 0x1000 * l, m, n⟩ = s.get ⟨c + 0x1000 * l, m, n⟩ :=
    fun {c m n} hc => by
      rw [hsent, hmoved.get (f := ⟨c + 0x1000 * l, m, n⟩) (not_ofMove ⟨hc.1, hc.2.1⟩), hbase.get]
      simpa [F.TLK_SEQ_CUM] using hc.2.2
  have hseq : ∀ {m n : Nat}, z.get ⟨0x01000018 + 0x1000 * l, m, n⟩ = x.get ⟨0x01000018 + 0x1000 * l, m, n⟩ := fun {m n} => by
    rw [hsent, hmoved.get (f := ⟨0x01000018 + 0x1000 * l, m, n⟩) (not_ofMove (by decide))]
  refine ⟨_, hrun, ?_, ?_, ?_, ?_, ?_, ?_, ?_⟩
  · rw [F.TLK_SEQ_CUM, F.TLK_HANDOVERS_C, F.TLK_EVENTS_PROMOTED, get_count_lane hl (by decide) (by decide),
      get_event_row (by decide) (by decide) (by decide), hseq]
    exact hcum
  · rw [hunit, hsentLane, hentered, hlane]
    rfl
  · rw [hunit, hsentLane, hentered, hlane]
    rfl
  · rw [State.laneState, F.TLK_STATUS_STATE, F.TLK_HANDOVERS_C, F.TLK_EVENTS_PROMOTED, get_count_lane hl (by decide) (by decide),
      get_event_row (by decide) (by decide) (by decide), hsent]
    exact hactive
  · rw [F.TLK_HANDOVERS_C, F.TLK_EVENTS_PROMOTED, get_count_lane hl (by decide) (by decide), get_event_row_same (by decide)]
  · rw [F.TLK_HANDOVERS_C, F.TLK_EVENTS_PROMOTED, get_count_lane_same hl (by decide), get_event_row (by decide) (by decide) (by decide),
      hkept (by decide)]
  · rw [F.TLK_SEQ_PENDING_HB, F.TLK_HANDOVERS_C, F.TLK_EVENTS_PROMOTED, get_count_lane hl (by decide) (by decide),
      get_event_row (by decide) (by decide) (by decide), hseq]
    exact hwaiting

end

/-- Settles O9: the programs of echoes, reports, handovers, acknowledgements and markers are each taken apart into their steps,
and what a step leaves is read off. -/
theorem echoesMarkersAndHandovers : Obligations.EchoesMarkersAndHandovers := by
  unfold Obligations.EchoesMarkersAndHandovers
  refine ⟨fun s l mark stamp m hm hlane hlow hhigh => ?echo, fun s l mark stamp h => ?noEcho,
    fun s l rx e htaken hstate he => ?report, fun s l => ?reportLate,
    fun s l rx htaken hstate hpath hfenced hpending hnone => ?handover, fun s l rx htaken h => ?noHandover,
    fun s l hlane hup hstate hfenced hacked => ?ack, fun s l cum bm rest hlane hup hstate hfenced hacked => ?ackBefore,
    fun s l h => ?noAck, fun s l hlane hup hlow hhigh hfenced hwhen hlast => ?marker, fun s l h => ?noMarker,
    fun s l rx => laneFrame_unsound {}, fun s l rx => laneFrame_malformed {}, fun s l rx => laneFrame_silent {},
    fun s l rx => laneFrame_unsound {}, fun s l rx => laneFrame_malformed {}, fun s l rx => laneFrame_silent {}⟩
  case echo =>
    refine ⟨_, congrArg Host.Outcome.next (run_echoReceived hm hlane hlow hhigh), ?_, ?_, rfl, rfl, rfl⟩ <;> rw [run_onLane_lane]
  case noEcho => exact congrArg Host.Outcome.next (run_echoReceived_none h)
  case report =>
    obtain ⟨t, ht, hechoes, hturn, htrip, hdelays, hkept, hsteered, hframe⟩ := echoReport_counted htaken hstate he
    exact ⟨t, ht, hechoes, hturn, htrip, hdelays, hkept, hsteered, hframe⟩
  case reportLate =>
    refine ⟨_, rfl, ?_, rfl, rfl, rfl, rfl⟩
    rw [echoReportTimeoutAct, run_look, run_onLane_lane]
  case handover =>
    obtain ⟨u, hu, hrun⟩ := run_laneFrame_taken (load := {}) htaken
    have hwork := hu.laneFrame (run_laneWork (handover_ofLane rx.bytes) u) fun _ => id
    obtain ⟨t, ht, hcum, hbitmap, hpromoted, hactive, hevent, hcount, hwaiting⟩ := handover_leaves hu.talking
      (hu.laneState.trans hstate) hpath (hu.fenced.trans hfenced) (hu.pending.trans hpending) (by rw [hu.unit]; exact hnone)
    have hold : u.get (F.TLK_HANDOVERS_C l) = s.get (F.TLK_HANDOVERS_C l) := hu.get (by decide)
    have hheld : u.get (F.TLK_SEQ_PENDING_HB l) = s.get (F.TLK_SEQ_PENDING_HB l) := hu.get (by decide)
    rw [ht] at hwork
    exact ⟨t, congrArg Host.Outcome.next (hrun.trans ht), hcum, hbitmap, hpromoted, hactive, hevent, hold ▸ hcount,
      hwaiting.trans hheld, hwork.rd, hwork.flash⟩
  case noHandover =>
    obtain ⟨u, hu, hrun⟩ := run_laneFrame_taken (load := {}) htaken
    have hwork := hu.laneFrame (LaneWork.refl (ofLane l) u) fun _ => id
    have hnone : (handover l rx.bytes).run u = u := run_handover_none (by rwa [hu.laneState, hu.fenced])
    exact ⟨u, congrArg Host.Outcome.next (hrun.trans hnone), hu.cum, hu.laneState, by rw [hu.unit], hwork.rd, hwork.flash⟩
  case ack =>
    have hack : s.ackState l = (s.get (F.TLK_SEQ_CUM l), (s.lane l).bitmap) := by simp [State.ackState, hacked]
    have h := ackSend_leaves hlane hup hstate hfenced
    rwa [hack] at h
  case ackBefore =>
    have hack : s.ackState l = (cum, bm) := by simp [State.ackState, hacked]
    have h := ackSend_leaves hlane hup hstate hfenced
    rwa [hack] at h
  case noAck => exact congrArg Host.Outcome.next (run_ackSend_none h)
  case marker =>
    have hdue : (s.hasLane l && s.up && decide (1 ≤ s.laneState l) && decide (s.laneState l ≤ 7) && !s.fenced &&
        s.markerDue l) = true := by simp [hlane, hup, hlow, hhigh, hfenced, markerDue_of hwhen hlast]
    have hsecond : ((downlink l 0 [0x4B6D * 2 ^ 48 + (s.lane l).mark * 2 ^ 32]).run s).up = true := by
      rw [State.up, State.is, run_downlink_get]
      exact hup
    refine ⟨_, congrArg Host.Outcome.next (run_markerSend hdue), ?_, ?_, ?_, ?_, ?_, ?_⟩
    · rw [run_onLane_win, run_downlink_down hsecond, run_downlink_down hup]
      simp
    · rw [run_onLane_lane]
    · rw [run_onLane_lane, run_downlink_lane, run_downlink_lane]
    · rw [run_onLane_lane]
    · rw [run_onLane_regs, run_downlink_regs, run_downlink_regs]
    · rw [run_onLane_flash]
      exact ((run_laneWork (downlink_laneWork (P := fun _ => False) ..) s).trans (run_laneWork (downlink_laneWork ..) _)).flash
  case noMarker =>
    refine congrArg Host.Outcome.next (run_markerSend_none ?_)
    rcases h with h | h | h | h | h | h
    · simp [h]
    · simp [h]
    · simp [h]
    · simp [Nat.not_le.mpr h]
    · simp [h]
    · simp [not_markerDue h]

end Sys2Proof.Machine
end

section
/-! Heartbeats, rosters and replies (R119, R127 to R135, R144, R147, R619). -/

namespace Sys2Proof.Machine

/-! ## Pending heartbeats (R129) -/

section
variable {s : State} {l : Nat}

/-- The heartbeats that wait become `p`, and their number shows. -/
def pendingShown (l : Nat) (p : List PendingHb) : Act :=
  .seq (onLane l (fun u => { u with pending := p })) (put (F.TLK_SEQ_PENDING_HB l) p.length)

theorem pendingShown_laneWork (p : List PendingHb) : (pendingShown l p).laneWork (· = (F.TLK_SEQ_CUM l).addr) := by
  simp [pendingShown, F.TLK_SEQ_PENDING_HB, F.TLK_SEQ_CUM]

theorem pendingShown_lane (p : List PendingHb) : ((pendingShown l p).run s).lane l = { s.lane l with pending := p } := by
  rw [pendingShown, run_seq, run_put_lane, run_onLane_lane]

theorem pendingShown_talkers (p : List PendingHb) : ((pendingShown l p).run s).units.talkers = s.units.talkers := (rfl)

theorem pendingShown_count {p : List PendingHb} (hp : p.length < 8) :
    ((pendingShown l p).run s).get (F.TLK_SEQ_PENDING_HB l) = p.length := by
  rw [pendingShown, run_seq, F.TLK_SEQ_PENDING_HB, get_put_row_same _ (by decide) (by decide)]
  exact Nat.mod_eq_of_lt hp

theorem pendingShown_cum (p : List PendingHb) : ((pendingShown l p).run s).get (F.TLK_SEQ_CUM l) = s.get (F.TLK_SEQ_CUM l) := by
  rw [pendingShown, run_seq, F.TLK_SEQ_PENDING_HB, F.TLK_SEQ_CUM, get_put_row _ (by decide) (by decide) (by decide), run_onLane_get]

theorem pendingShown_laneState (p : List PendingHb) : ((pendingShown l p).run s).laneState l = s.laneState l := by
  rw [State.laneState, pendingShown, run_seq, F.TLK_SEQ_PENDING_HB, F.TLK_STATUS_STATE, get_put_row _ (by decide) (by decide) (by decide),
    run_onLane_get]
  rfl

theorem run_onLane_showPending (p : List PendingHb) :
    (showPending l).run ((onLane l (fun u => { u with pending := p })).run s) = (pendingShown l p).run s := by
  rw [showPending, run_look, run_onLane_lane]
  rfl

/-- A heartbeat waits behind fewer than four others. -/
theorem run_holdHeartbeat {h : PendingHb} (hroom : (s.lane l).pending.length < 4) :
    (holdHeartbeat l h).run s = (pendingShown l ((s.lane l).pending ++ [h])).run s := by
  have hfew : ¬ 4 ≤ (s.lane l).pending.length := Nat.not_le.mpr hroom
  simp [holdHeartbeat, hfew, run_onLane_showPending]

/-- A heartbeat is covered once CUM has reached its COVER_SEQ. -/
def State.covered (s : State) (l cover : Nat) : Bool := decide ((s.get (F.TLK_SEQ_CUM l) + 65536 - cover) % 65536 < 32768)

/-- A covered heartbeat is applied. -/
theorem run_applyPending_covered {n : Nat} {h : PendingHb} {rest : List PendingHb} (hp : (s.lane l).pending = h :: rest)
    (hstate : s.laneState l = 6) (hcover : s.covered l h.cover = true) : (applyPending l (n + 1)).run s =
    (applyPending l n).run ((Act.each (entriesOf 8 h.body) (applyEntry l h.follows)).run ((pendingShown l rest).run s)) := by
  rw [applyPending, run_look]
  simp only [hp]
  rw [hstate, show decide (_ < 32768) = true from hcover]
  simp only [decide_true, Bool.and_self, run_when_true, run_all_cons, run_all_nil, run_onLane_showPending]

/-- One that CUM does not cover waits on. -/
theorem run_applyPending_waiting {n : Nat} {h : PendingHb} {rest : List PendingHb} (hp : (s.lane l).pending = h :: rest)
    (hcover : s.covered l h.cover = false) : (applyPending l n).run s = s := by
  cases n with
  | zero => rfl
  | succ n =>
    rw [applyPending, run_look]
    simp only [hp]
    rw [show decide (_ < 32768) = false from hcover, Bool.and_false, run_when_false]

/-! ## Entries of a heartbeat (R130) -/

/-- What an entry of a heartbeat says of a talker stands in `u` as in `s`. -/
structure TalkerAs (l t : Nat) (s u : State) : Prop where
  unit : u.talker l t = s.talker l t
  state : u.rd (F.TLK_TALKER_STATE_PRESENT l t).addr = s.rd (F.TLK_TALKER_STATE_PRESENT l t).addr
  stamp : u.rd (F.TLK_STAMP_OFFSET_VALID l).addr = s.rd (F.TLK_STAMP_OFFSET_VALID l).addr
  delay : u.rd (F.TLK_DELAY_CABLE_DELAY l).addr = s.rd (F.TLK_DELAY_CABLE_DELAY l).addr
  asym : u.rd (F.TIM_LANE_APPLIED_ASYM l).addr = s.rd (F.TIM_LANE_APPLIED_ASYM l).addr
  now : u.now = s.now

namespace TalkerAs

variable {t : Nat} {u v : State}

theorem trans (h : TalkerAs l t s u) (g : TalkerAs l t u v) : TalkerAs l t s v :=
  ⟨g.unit.trans h.unit, g.state.trans h.state, g.stamp.trans h.stamp, g.delay.trans h.delay, g.asym.trans h.asym, g.now.trans h.now⟩

/-- Work on a lane that stays off those registers. -/
theorem of_laneWork {P : Nat → Prop} (h : LaneWork P s u) (hunit : u.talker l t = s.talker l t)
    (hP : ∀ a, a = (F.TLK_TALKER_STATE_PRESENT l t).addr ∨ a = (F.TLK_STAMP_OFFSET_VALID l).addr ∨
      a = (F.TLK_DELAY_CABLE_DELAY l).addr ∨ a = (F.TIM_LANE_APPLIED_ASYM l).addr → ¬ P a) : TalkerAs l t s u where
  unit := hunit
  state := h.rd _ (hP _ (.inl rfl))
  stamp := h.rd _ (hP _ (.inr (.inl rfl)))
  delay := h.rd _ (hP _ (.inr (.inr (.inl rfl))))
  asym := h.rd _ (hP _ (.inr (.inr (.inr rfl))))
  now := h.now

variable (h : TalkerAs l t s u)
include h

/-- A field of the talker's state. -/
theorem get {m n : Nat} : u.get ⟨(F.TLK_TALKER_STATE_PRESENT l t).addr, m, n⟩ =
    s.get ⟨(F.TLK_TALKER_STATE_PRESENT l t).addr, m, n⟩ :=
  congrArg (getBits · m n) h.state

theorem present : u.get (F.TLK_TALKER_STATE_PRESENT l t) = s.get (F.TLK_TALKER_STATE_PRESENT l t) := h.get
theorem stalled : u.get (F.TLK_TALKER_STATE_STALLED l t) = s.get (F.TLK_TALKER_STATE_STALLED l t) := h.get

theorem correct (follows : Bool) (w : Nat) : u.correct l t follows w = s.correct l t follows w := by
  have hoverride : u.is (F.TLK_TALKER_STATE_USE_OVERRIDE l t) = s.is (F.TLK_TALKER_STATE_USE_OVERRIDE l t) :=
    congrArg (fun x => decide (x ≠ 0)) h.get
  have hgiven : u.get (F.TLK_TALKER_STATE_OVERRIDE_LATENCY l t) = s.get (F.TLK_TALKER_STATE_OVERRIDE_LATENCY l t) := h.get
  have hreported : u.get (F.TLK_TALKER_STATE_REPORTED_LATENCY l t) = s.get (F.TLK_TALKER_STATE_REPORTED_LATENCY l t) := h.get
  have hvalid : u.is (F.TLK_STAMP_OFFSET_VALID l) = s.is (F.TLK_STAMP_OFFSET_VALID l) :=
    congrArg (fun x => decide (getBits x 63 63 ≠ 0)) h.stamp
  have hstamp : u.get (F.TLK_STAMP_OFFSET_OFFSET l) = s.get (F.TLK_STAMP_OFFSET_OFFSET l) := congrArg (getBits · 39 0) h.stamp
  have hdelay : u.get (F.TLK_DELAY_CABLE_DELAY l) = s.get (F.TLK_DELAY_CABLE_DELAY l) := congrArg (getBits · 39 0) h.delay
  have hasym : u.get (F.TIM_LANE_APPLIED_ASYM l) = s.get (F.TIM_LANE_APPLIED_ASYM l) := congrArg (getBits · 31 0) h.asym
  simp only [State.correct, State.offset, State.latency, State.laneAsym, h.now, hoverride, hgiven, hreported, hvalid, hstamp,
    hdelay, hasym]

end TalkerAs

/-- The registers that an entry for talker `t` may change. -/
def ofEntry (l t a : Nat) : Prop :=
  a = (F.TLK_UNKNOWN_TALKER_C l).addr ∨ a = (F.TLK_WM_REGRESS_C l).addr ∨ a = (F.TLK_TALKER_STATE_STALLED l t).addr ∨ inNotify a

/-- The talker that an entry names. -/
def entryTalker (e : List Byte) : Nat := num e 0 1 % 128

theorem applyEntry_laneWork (follows : Bool) (e : List Byte) : (applyEntry l follows e).laneWork (ofEntry l (entryTalker e)) := by
  have hunknown : (count (F.TLK_UNKNOWN_TALKER_C l)).laneWork (ofEntry l (entryTalker e)) :=
    countBy_laneWork (.inl rfl) (fun a ha => .inr (.inr (.inr ha))) 1
  have hregress : (count (F.TLK_WM_REGRESS_C l)).laneWork (ofEntry l (entryTalker e)) :=
    countBy_laneWork (.inr (.inl rfl)) (fun a ha => .inr (.inr (.inr ha))) 1
  have hstate : ofEntry l (entryTalker e) (F.TLK_TALKER_STATE_STALLED l (num e 0 1 % 128)).addr := .inr (.inr (.inl rfl))
  simp [applyEntry, hunknown, hregress, hstate]

/-- An entry changes a talker's unit, if any, of its own talker. -/
theorem run_applyEntry (follows : Bool) (e : List Byte) (s : State) :
    (applyEntry l follows e).run s = (count (F.TLK_UNKNOWN_TALKER_C l)).run s ∨
    (applyEntry l follows e).run s = (count (F.TLK_WM_REGRESS_C l)).run s ∨
    ∃ f, (applyEntry l follows e).run s =
      (put (F.TLK_TALKER_STATE_STALLED l (entryTalker e)) 0).run ((onTalker l (entryTalker e) f).run s) := by
  rw [applyEntry, run_look]
  dsimp only
  split_ifs
  · exact .inl rfl
  · exact .inr (.inl rfl)
  · exact .inr (.inr ⟨_, rfl⟩)

theorem applyEntry_lane (follows : Bool) (e : List Byte) (k : Nat) : ((applyEntry l follows e).run s).lane k = s.lane k := by
  rcases run_applyEntry (l := l) follows e s with h | h | ⟨f, h⟩ <;> rw [h]
  · exact run_count_lane
  · exact run_count_lane
  · rw [run_put_lane]
    rfl

theorem applyEntry_talkerAs (hl : l < 1024) {t : Nat} (ht : t < 128) (follows : Bool) {e : List Byte} (hother : t ≠ entryTalker e) :
    TalkerAs l t s ((applyEntry l follows e).run s) := by
  refine .of_laneWork (run_laneWork (applyEntry_laneWork follows e) s) ?_ fun a ha => ?_
  · rcases run_applyEntry (l := l) follows e s with h | h | ⟨f, h⟩ <;> rw [h]
    · exact talker_congr run_count_talkers l t
    · exact talker_congr run_count_talkers l t
    · rw [run_put_talker, run_onTalker_other hother]
  · have he : entryTalker e < 128 := Nat.mod_lt _ (by decide)
    simp only [ofEntry, inNotify, F.TLK_TALKER_STATE_PRESENT, F.TLK_STAMP_OFFSET_VALID, F.TLK_DELAY_CABLE_DELAY, F.TIM_LANE_APPLIED_ASYM,
      F.TLK_UNKNOWN_TALKER_C, F.TLK_WM_REGRESS_C, F.TLK_TALKER_STATE_STALLED] at *
    omega

/-- The watermark of an entry is not below the one applied. -/
def State.notBelow (s : State) (l t : Nat) (follows : Bool) (w : Nat) : Prop :=
  ∀ v ∈ (s.talker l t).wm, (s.talker l t).heard = true → 0 ≤ dif (s.correct l t follows w) v

theorem run_applyEntry_applied {follows : Bool} {e : List Byte} (hpresent : s.get (F.TLK_TALKER_STATE_PRESENT l (entryTalker e)) = 1)
    (hbelow : s.notBelow l (entryTalker e) follows (num e 2 6)) : (applyEntry l follows e).run s =
    (put (F.TLK_TALKER_STATE_STALLED l (entryTalker e)) 0).run ((onTalker l (entryTalker e) (fun x => { x with
      wm := some (s.correct l (entryTalker e) follows (num e 2 6)), heardAt := s.keep.elapsed, heard := true
      leaving := x.leaving || bit (num e 1 1) 0 })).run s) := by
  have hshown : s.is (F.TLK_TALKER_STATE_PRESENT l (num e 0 1 % 128)) = true := is_eq_true.mpr fun h0 => by
    rw [entryTalker, h0] at hpresent
    contradiction
  rw [applyEntry, run_look]
  dsimp only
  split_ifs with habsent hregress
  · rw [hshown] at habsent
    contradiction
  · cases hwm : (s.talker l (num e 0 1 % 128)).wm with
    | none =>
      rw [hwm] at hregress
      contradiction
    | some v =>
      rw [hwm] at hregress
      obtain ⟨hheard, hless⟩ := Bool.and_eq_true_iff.mp hregress
      exact absurd (of_decide_eq_true hless) (Int.not_lt.mpr (hbelow v hwm hheard))
  · rfl

theorem applyEntry_applied {follows : Bool} {e : List Byte} (hpresent : s.get (F.TLK_TALKER_STATE_PRESENT l (entryTalker e)) = 1)
    (hbelow : s.notBelow l (entryTalker e) follows (num e 2 6)) :
    (((applyEntry l follows e).run s).talker l (entryTalker e)).wm = some (s.correct l (entryTalker e) follows (num e 2 6)) ∧
    ((applyEntry l follows e).run s).get (F.TLK_TALKER_STATE_STALLED l (entryTalker e)) = 0 := by
  rw [run_applyEntry_applied hpresent hbelow, run_put_talker, run_onTalker_same]
  refine ⟨rfl, ?_⟩
  rw [F.TLK_TALKER_STATE_STALLED, get_put_row_same _ (by decide) (by decide)]
  rfl

/-! ## The entries of a heartbeat, one after the other -/

theorem each_applyEntry_lane (follows : Bool) (es : List (List Byte)) (k : Nat) :
    ((Act.each es (applyEntry l follows)).run s).lane k = s.lane k := by
  induction es generalizing s with
  | nil => rfl
  | cons e es ih => rw [run_each_cons, ih, applyEntry_lane]

/-- Entries for other talkers. -/
theorem each_applyEntry_talkerAs (hl : l < 1024) {t : Nat} (ht : t < 128) (follows : Bool) {es : List (List Byte)}
    (hother : ∀ e ∈ es, t ≠ entryTalker e) : TalkerAs l t s ((Act.each es (applyEntry l follows)).run s) := by
  induction es generalizing s with
  | nil => exact ⟨rfl, rfl, rfl, rfl, rfl, rfl⟩
  | cons e es ih =>
    rw [run_each_cons]
    exact (applyEntry_talkerAs hl ht follows (hother e List.mem_cons_self)).trans (ih fun x hx => hother x (List.mem_cons_of_mem e hx))

/-- Where no two entries name the same talker each is applied as if it stood alone. -/
theorem each_applyEntry_applied (hl : l < 1024) (follows : Bool) {es : List (List Byte)} (hdistinct : (es.map entryTalker).Nodup)
    {e : List Byte} (he : e ∈ es) (hpresent : s.get (F.TLK_TALKER_STATE_PRESENT l (entryTalker e)) = 1)
    (hbelow : s.notBelow l (entryTalker e) follows (num e 2 6)) :
    (((Act.each es (applyEntry l follows)).run s).talker l (entryTalker e)).wm = some (s.correct l (entryTalker e) follows (num e 2 6)) ∧
    ((Act.each es (applyEntry l follows)).run s).get (F.TLK_TALKER_STATE_STALLED l (entryTalker e)) = 0 := by
  have ht : entryTalker e < 128 := Nat.mod_lt _ (by decide)
  induction es generalizing s with
  | nil => exact absurd he List.not_mem_nil
  | cons x es ih =>
    rw [List.map_cons, List.nodup_cons] at hdistinct
    obtain ⟨hx, hes⟩ := hdistinct
    rw [run_each_cons]
    rcases List.mem_cons.mp he with rfl | he
    · have hothers := each_applyEntry_talkerAs (s := (applyEntry l follows e).run s) hl ht follows
        fun y hy heq => hx (heq ▸ List.mem_map_of_mem hy)
      obtain ⟨hwm, hstalled⟩ := applyEntry_applied hpresent hbelow
      exact ⟨(congrArg TalkerUnit.wm hothers.unit).trans hwm, hothers.stalled.trans hstalled⟩
    · have hother : entryTalker e ≠ entryTalker x := fun heq => hx (heq ▸ List.mem_map_of_mem he)
      have has := applyEntry_talkerAs (s := s) hl ht follows hother
      have hbelow' : ((applyEntry l follows x).run s).notBelow l (entryTalker e) follows (num e 2 6) := by
        rw [State.notBelow, has.unit, has.correct]
        exact hbelow
      obtain ⟨hwm, hstalled⟩ := ih hes he (has.present.trans hpresent) hbelow'
      exact ⟨hwm.trans (by rw [has.correct]), hstalled⟩

end

/-! ## Heartbeat frames -/

section
variable {s : State} {l : Nat} {f : List Byte}

/-- What a heartbeat frame says. -/
def heartbeatOf (f : List Byte) : PendingHb := { cover := num f 2 2, follows := bit (num f 1 1) 5, body := frameBody f }

theorem run_heartbeat_active (hstate : s.laneState l = 6) (hpath : bit (num f 1 1) 7 = true) :
    (heartbeat l f).run s = (applyPending l 4).run ((holdHeartbeat l (heartbeatOf f)).run s) := by
  rw [heartbeat, run_look, hstate]
  dsimp only
  rw [hpath]
  rfl

theorem run_heartbeat_early (hlinked : 3 ≤ s.laneState l) (hstate : s.laneState l < 6) :
    (heartbeat l f).run s = (holdHeartbeat l (heartbeatOf f)).run s := by
  have hstates : s.laneState l = 3 ∨ s.laneState l = 4 ∨ s.laneState l = 5 := by omega
  rcases hstates with h | h | h <;> rw [heartbeat, run_look, h] <;> rfl

theorem run_heartbeat_standby (hstate : s.laneState l = 7) : (heartbeat l f).run s = s := by
  rw [heartbeat, run_look, hstate]
  rfl

/-- What a well-formed heartbeat frame says names each talker once. -/
theorem frameOk_heartbeat (hok : frameOk f = true) (htype : num f 0 1 / 16 = 2) :
    (∀ e ∈ entriesOf 8 (frameBody f), num e 0 1 < 128) ∧ ((entriesOf 8 (frameBody f)).map fun e => num e 0 1).Nodup := by
  simp only [frameOk, htype, Bool.and_eq_true, decide_eq_true_eq, List.all_eq_true] at hok
  exact ⟨fun e he => (hok.2.1.2 e he).1, hok.2.2⟩

theorem entryTalker_eq {e : List Byte} (he : num e 0 1 < 128) : entryTalker e = num e 0 1 := Nat.mod_eq_of_lt he

theorem run_heartbeat_applied (hstate : s.laneState l = 6) (hpath : bit (num f 1 1) 7 = true) (hnone : (s.lane l).pending = [])
    (hcover : s.covered l (num f 2 2) = true) : (heartbeat l f).run s =
    (Act.each (entriesOf 8 (frameBody f)) (applyEntry l (bit (num f 1 1) 5))).run
      ((pendingShown l []).run ((pendingShown l [heartbeatOf f]).run s)) := by
  have hheld : (holdHeartbeat l (heartbeatOf f)).run s = (pendingShown l [heartbeatOf f]).run s := by
    rw [run_holdHeartbeat (by rw [hnone]; decide), hnone]
    rfl
  rw [run_heartbeat_active hstate hpath, hheld, run_applyPending_covered (h := heartbeatOf f) (rest := [])]
  · refine run_applyPending_none ?_
    rw [each_applyEntry_lane, pendingShown_lane]
  · rw [pendingShown_lane]
  · rw [pendingShown_laneState, hstate]
  · rw [State.covered, pendingShown_cum]
    exact hcover

theorem run_heartbeat_waits (hstate : s.laneState l = 6) (hpath : bit (num f 1 1) 7 = true) (hnone : (s.lane l).pending = [])
    (hcover : s.covered l (num f 2 2) = false) : (heartbeat l f).run s = (pendingShown l [heartbeatOf f]).run s := by
  have hheld : (holdHeartbeat l (heartbeatOf f)).run s = (pendingShown l [heartbeatOf f]).run s := by
    rw [run_holdHeartbeat (by rw [hnone]; decide), hnone]
    rfl
  rw [run_heartbeat_active hstate hpath, hheld]
  refine run_applyPending_waiting (h := heartbeatOf f) (rest := []) (by rw [pendingShown_lane]) ?_
  rw [State.covered, pendingShown_cum]
  exact hcover

/-- The two steps before a covered heartbeat's entries leave what the entries ask. -/
theorem pendingShown_talkerAs {t : Nat} (p : List PendingHb) : TalkerAs l t s ((pendingShown l p).run s) := by
  refine .of_laneWork (run_laneWork (pendingShown_laneWork p) s) (talker_congr (pendingShown_talkers p) l t) fun a ha => ?_
  simp only [F.TLK_TALKER_STATE_PRESENT, F.TLK_STAMP_OFFSET_VALID, F.TLK_DELAY_CABLE_DELAY, F.TIM_LANE_APPLIED_ASYM, F.TLK_SEQ_CUM] at *
  omega

theorem entries_laneWork (follows : Bool) (es : List (List Byte)) :
    (Act.each es (applyEntry l follows)).laneWork (fun a => ∃ t < 128, ofEntry l t a) := by
  rw [Act.laneWork_each]
  exact fun e _ => Act.laneWork_mono (fun a ha => ⟨_, Nat.mod_lt _ (by decide), ha⟩) (applyEntry_laneWork follows e)

/-- Reception leaves what an entry asks. -/
theorem Received.talkerAs {u : State} (h : Received l s u) {t : Nat} (ht : t < 128) : TalkerAs l t s u := by
  have hl := h.talking
  refine .of_laneWork h.work (talker_congr h.talkers l t) fun a ha => ?_
  simp only [ofReception, F.TLK_FEC_CORRECTED_C, F.TLK_FEC_UNCORRECTABLE_C, F.TLK_STATUS_PATH, inNotify, F.TLK_TALKER_STATE_PRESENT,
    F.TLK_STAMP_OFFSET_VALID, F.TLK_DELAY_CABLE_DELAY, F.TIM_LANE_APPLIED_ASYM] at *
  omega

/-- And the talkers expected. -/
theorem Received.expected {u : State} (h : Received l s u) {k : Nat} (hk : k < 128) :
    u.get (F.TLK_ROSTER_EXPECT_EXPECT l (k / 64)) = s.get (F.TLK_ROSTER_EXPECT_EXPECT l (k / 64)) := by
  have hl := h.talking
  refine h.work.get ?_
  simp only [ofReception, F.TLK_FEC_CORRECTED_C, F.TLK_FEC_UNCORRECTABLE_C, F.TLK_STATUS_PATH, inNotify, F.TLK_ROSTER_EXPECT_EXPECT]
  omega

/-- A covered heartbeat on an ACTIVE lane. -/
theorem heartbeat_applied (hl : l < 1024) (hok : frameOk f = true) (htype : num f 0 1 / 16 = 2) (hstate : s.laneState l = 6)
    (hpath : bit (num f 1 1) 7 = true) (hnone : (s.lane l).pending = []) (hcover : s.covered l (num f 2 2) = true) :
    ∃ t, (heartbeat l f).run s = t ∧ t.get (F.TLK_SEQ_PENDING_HB l) = 0 ∧ (t.lane l).pending = [] ∧
      ∀ e ∈ entriesOf 8 (frameBody f), s.get (F.TLK_TALKER_STATE_PRESENT l (num e 0 1)) = 1 →
        s.notBelow l (num e 0 1) (bit (num f 1 1) 5) (num e 2 6) →
        (t.talker l (num e 0 1)).wm = some (s.correct l (num e 0 1) (bit (num f 1 1) 5) (num e 2 6)) ∧
        t.get (F.TLK_TALKER_STATE_STALLED l (num e 0 1)) = 0 := by
  obtain ⟨hsmall, hdistinct⟩ := frameOk_heartbeat hok htype
  have hrun := run_heartbeat_applied hstate hpath hnone hcover
  have hcount : ((pendingShown l []).run ((pendingShown l [heartbeatOf f]).run s)).get (F.TLK_SEQ_PENDING_HB l) = 0 :=
    pendingShown_count (by decide)
  have hlane : (((pendingShown l []).run ((pendingShown l [heartbeatOf f]).run s)).lane l).pending = [] := by rw [pendingShown_lane]
  have has : ∀ t, TalkerAs l t s ((pendingShown l []).run ((pendingShown l [heartbeatOf f]).run s)) := fun t =>
    (pendingShown_talkerAs _).trans (pendingShown_talkerAs _)
  generalize (pendingShown l []).run ((pendingShown l [heartbeatOf f]).run s) = x at *
  have hwork := run_laneWork (entries_laneWork (l := l) (bit (num f 1 1) 5) (entriesOf 8 (frameBody f))) x
  refine ⟨_, hrun, ?_, by rw [each_applyEntry_lane, hlane], fun e he hpresent hbelow => ?_⟩
  · rw [← hcount]
    refine hwork.get fun ⟨t, ht, ha⟩ => ?_
    simp only [ofEntry, inNotify, F.TLK_SEQ_PENDING_HB, F.TLK_UNKNOWN_TALKER_C, F.TLK_WM_REGRESS_C, F.TLK_TALKER_STATE_STALLED] at ha
    omega
  · have hkeys : (entriesOf 8 (frameBody f)).map entryTalker = (entriesOf 8 (frameBody f)).map fun e => num e 0 1 :=
      List.map_congr_left fun e he => entryTalker_eq (hsmall e he)
    have heq := entryTalker_eq (hsmall e he)
    have hbelow' : x.notBelow l (entryTalker e) (bit (num f 1 1) 5) (num e 2 6) := by
      rw [State.notBelow, heq, (has _).unit, (has _).correct]
      exact hbelow
    have happlied := each_applyEntry_applied (s := x) hl (bit (num f 1 1) 5) (hkeys ▸ hdistinct) he
      (by rw [heq, (has _).present]; exact hpresent) hbelow'
    rwa [heq, (has _).correct] at happlied

end

/-! ## Rosters (R144) -/

section
variable {s : State} {l : Nat}

/-- The registers of talker `t`. -/
def ofTalker (l t a : Nat) : Prop := a = (F.TLK_TALKER_STATE_PRESENT l t).addr ∨ a = (F.TLK_TALKER_ID_TALKER_ID l t).addr

theorem takeTalker_laneWork (t : Nat) (e : Option (List Byte)) : (takeTalker l t e).laneWork (ofTalker l t) := by
  have hpresent : ofTalker l t (F.TLK_TALKER_STATE_PRESENT l t).addr := .inl rfl
  have hstalled : ofTalker l t (F.TLK_TALKER_STATE_STALLED l t).addr := .inl rfl
  have hlatency : ofTalker l t (F.TLK_TALKER_STATE_REPORTED_LATENCY l t).addr := .inl rfl
  have hid : ofTalker l t (F.TLK_TALKER_ID_TALKER_ID l t).addr := .inr rfl
  intro s
  cases e <;> simp [hpresent, hstalled, hlatency, hid]

theorem takeTalker_present (t : Nat) (e : Option (List Byte)) :
    ((takeTalker l t e).run s).get (F.TLK_TALKER_STATE_PRESENT l t) = b2n e.isSome := by
  rw [takeTalker, run_look]
  have hid : (F.TLK_TALKER_ID_TALKER_ID l t).addr ≠ (F.TLK_TALKER_STATE_PRESENT l t).addr := by
    simp only [F.TLK_TALKER_ID_TALKER_ID, F.TLK_TALKER_STATE_PRESENT]
    omega
  cases e with
  | some x =>
    simp only [run_all_cons, run_all_nil, get_when, run_onTalker_get, ite_self]
    rw [get_put_other _ _ _ _ (Nat.zero_le _) (show (63 : Nat) < 64 by decide) (.inl hid), F.TLK_TALKER_STATE_REPORTED_LATENCY,
      F.TLK_TALKER_STATE_PRESENT, get_put_row _ (by decide) (by decide) (.inr (.inr (by decide))),
      get_put_row_same _ (by decide) (by decide)]
    rfl
  | none =>
    cases hwas : s.is (F.TLK_TALKER_STATE_PRESENT l t) with
    | false => exact is_eq_false.mp hwas
    | true =>
      simp only [run_when_true, run_all_cons, run_all_nil, run_onTalker_get]
      rw [get_put_other _ _ _ _ (Nat.zero_le _) (show (63 : Nat) < 64 by decide) (.inl hid), F.TLK_TALKER_STATE_REPORTED_LATENCY,
        F.TLK_TALKER_STATE_STALLED, F.TLK_TALKER_STATE_PRESENT, get_put_row _ (by decide) (by decide) (.inr (.inr (by decide))),
        get_put_row _ (by decide) (by decide) (.inr (.inr (by decide))), get_put_row_same _ (by decide) (by decide)]
      rfl

/-- Each talker of the roster is taken for itself. -/
theorem each_takeTalker_present (entry : Nat → Option (List Byte)) {ts : List Nat} (hts : ts.Nodup) {k : Nat} (hk : k ∈ ts) :
    ((Act.each ts (fun t => takeTalker l t (entry t))).run s).get (F.TLK_TALKER_STATE_PRESENT l k) = b2n (entry k).isSome := by
  induction ts generalizing s with
  | nil => exact absurd hk List.not_mem_nil
  | cons t ts ih =>
    obtain ⟨ht, hts⟩ := List.nodup_cons.mp hts
    rw [run_each_cons]
    rcases List.mem_cons.mp hk with rfl | hk
    · have hwork : (Act.each ts (fun t => takeTalker l t (entry t))).laneWork (fun a => ∃ t ∈ ts, ofTalker l t a) := by
        rw [Act.laneWork_each]
        exact fun t ht => Act.laneWork_mono (fun a ha => ⟨t, ht, ha⟩) (takeTalker_laneWork t _)
      rw [(run_laneWork hwork _).get, takeTalker_present]
      rintro ⟨t, hmem, ha⟩
      have hne : k ≠ t := fun h => ht (h ▸ hmem)
      simp only [ofTalker, F.TLK_TALKER_STATE_PRESENT, F.TLK_TALKER_ID_TALKER_ID] at ha
      omega
    · exact ih hts hk

/-- The last entry of a roster for talker `t`. -/
def rosterEntry (f : List Byte) (t : Nat) : Option (List Byte) := (entriesOf 16 (frameBody f)).reverse.find? (fun e => num e 0 1 = t)

theorem rosterEntry_isSome (f : List Byte) (t : Nat) :
    (rosterEntry f t).isSome = (entriesOf 16 (frameBody f)).any (fun e => num e 0 1 = t) := by
  rw [Bool.eq_iff_iff, rosterEntry, List.find?_isSome, List.any_eq_true]
  simp only [List.mem_reverse]

/-- The talkers that a roster lists, and those expected. -/
def rosterListed (f : List Byte) : List Nat := (List.range 128).filter (fun t => (rosterEntry f t).isSome)
def State.rosterExpected (s : State) (l : Nat) : List Nat :=
  (List.range 128).filter (fun t => (s.get (F.TLK_ROSTER_EXPECT_EXPECT l (t / 64))).testBit (t % 64))

/-- A roster that does not belong to DISCOVERING. -/
theorem run_roster {f : List Byte} (hstate : s.laneState l ≠ 5) : ∃ answers : Bool, (roster l f).run s =
    (Act.when answers (onLane l (fun u => { u with own := none }))).run
      ((Act.when (rosterListed f ≠ s.rosterExpected l) (event (F.TLK_EVENTS_ROSTER_MISMATCH l))).run
        ((put (F.TLK_STATUS_TALKERS l) (rosterListed f).length).run
          ((Act.each (List.range 128) (fun t => takeTalker l t (rosterEntry f t))).run s))) := by
  have hfirst : (decide (s.laneState l = 5) && !(s.lane l).roster) = false := by simp [hstate]
  rw [roster, run_look]
  simp only [hfirst, run_all_cons, run_all_nil, run_when_false]
  exact ⟨_, rfl⟩

/-- What a roster leaves that does not belong to DISCOVERING. -/
theorem roster_leaves {f : List Byte} (hstate : s.laneState l ≠ 5) :
    ∃ t, (roster l f).run s = t ∧ t.get (F.TLK_STATUS_TALKERS l) = (rosterListed f).length ∧ t.laneState l = s.laneState l ∧
      (∀ k < 128, t.get (F.TLK_TALKER_STATE_PRESENT l k) = b2n (rosterEntry f k).isSome) ∧
      (rosterListed f ≠ s.rosterExpected l → t.get (F.TLK_EVENTS_ROSTER_MISMATCH l) = 1) := by
  obtain ⟨answers, hrun⟩ := run_roster (f := f) hstate
  have hpresent := fun k (hk : k ∈ List.range 128) => each_takeTalker_present (s := s) (l := l) (rosterEntry f) List.nodup_range hk
  have hwork : (Act.each (List.range 128) (fun t => takeTalker l t (rosterEntry f t))).laneWork (fun a => ∃ t, ofTalker l t a) := by
    rw [Act.laneWork_each]
    exact fun t _ => Act.laneWork_mono (fun a ha => ⟨t, ha⟩) (takeTalker_laneWork t _)
  have hkept : ((Act.each (List.range 128) (fun t => takeTalker l t (rosterEntry f t))).run s).laneState l = s.laneState l := by
    refine (run_laneWork hwork s).get fun ⟨t, ha⟩ => ?_
    simp only [ofTalker, F.TLK_STATUS_STATE, F.TLK_TALKER_STATE_PRESENT, F.TLK_TALKER_ID_TALKER_ID] at ha
    omega
  generalize (Act.each (List.range 128) (fun t => takeTalker l t (rosterEntry f t))).run s = x at *
  have hlen : (rosterListed f).length < 2 ^ 8 := by
    have hle := List.length_filter_le (fun t => (rosterEntry f t).isSome) (List.range 128)
    rw [List.length_range] at hle
    exact Nat.lt_of_le_of_lt hle (by decide)
  have hlast : ∀ g : Field, ((roster l f).run s).get g =
      ((Act.when (rosterListed f ≠ s.rosterExpected l) (event (F.TLK_EVENTS_ROSTER_MISMATCH l))).run
        ((put (F.TLK_STATUS_TALKERS l) (rosterListed f).length).run x)).get g := fun g => by
    rw [hrun, get_when, run_onLane_get, ite_self]
  refine ⟨_, rfl, ?_, ?_, fun k hk => ?_, fun hne => ?_⟩
  · rw [hlast]
    simp (disch := decide) only [get_when, F.TLK_EVENTS_ROSTER_MISMATCH, F.TLK_STATUS_TALKERS, get_event_row, get_put_row_same, ite_self]
    exact Nat.mod_eq_of_lt hlen
  · rw [State.laneState, hlast]
    simp (disch := decide) only [get_when, F.TLK_EVENTS_ROSTER_MISMATCH, F.TLK_STATUS_TALKERS, F.TLK_STATUS_STATE, get_event_row,
      get_put_row, ite_self]
    exact hkept
  · have hevents : (F.TLK_EVENTS_ROSTER_MISMATCH l).addr ≠ (F.TLK_TALKER_STATE_PRESENT l k).addr := by
      simp only [F.TLK_EVENTS_ROSTER_MISMATCH, F.TLK_TALKER_STATE_PRESENT]
      omega
    have hstatus : (F.TLK_STATUS_TALKERS l).addr ≠ (F.TLK_TALKER_STATE_PRESENT l k).addr := by
      simp only [F.TLK_STATUS_TALKERS, F.TLK_TALKER_STATE_PRESENT]
      omega
    rw [hlast, get_when, get_event_other _ _ _ (Nat.le_refl 3) (show (63 : Nat) < 64 by decide) (.inl hevents), ite_self,
      get_put_other _ _ _ _ (show (16 : Nat) ≤ 23 by decide) (show (63 : Nat) < 64 by decide) (.inl hstatus),
      hpresent k (List.mem_range.mpr hk)]
  · rw [hlast, decide_eq_true hne, run_when_true, F.TLK_EVENTS_ROSTER_MISMATCH, get_event_row_same (by decide)]

/-- A roster differs from the expected set where one talker does. -/
theorem rosterListed_ne {f : List Byte} {k : Nat} (hk : k < 128) (h : (entriesOf 16 (frameBody f)).any (fun e => num e 0 1 = k) ≠
    (s.get (F.TLK_ROSTER_EXPECT_EXPECT l (k / 64))).testBit (k % 64)) : rosterListed f ≠ s.rosterExpected l := by
  intro heq
  refine h (Bool.eq_iff_iff.mpr ?_)
  have hmem : k ∈ rosterListed f ↔ k ∈ s.rosterExpected l := by rw [heq]
  simpa only [rosterListed, State.rosterExpected, List.mem_filter, List.mem_range, hk, true_and, rosterEntry_isSome] using hmem

theorem rosterListed_eq (f : List Byte) :
    rosterListed f = (List.range 128).filter (fun k => (entriesOf 16 (frameBody f)).any (fun e => num e 0 1 = k)) := by
  simp only [rosterListed, rosterEntry_isSome]

end

/-! ## Replies (R135, R147 step 7) -/

section
variable {s : State} {l : Nat} {f : List Byte} {c : LaneCmd}

/-- STATUS of a well-formed reply stands in its first byte. -/
theorem reply_status (hok : frameOk f = true) (htype : num f 0 1 / 16 = 4) : num (frameBody f) 0 1 = num f 8 1 := by
  simp only [frameOk, htype, Bool.and_eq_true, decide_eq_true_eq] at hok
  exact num_slice f 8 (f.length - 12) 1 (Nat.le_trans (by decide) hok.2.1.1.1)

/-- The answer to a host's command shows. -/
def answerShown (l status : Nat) (data : List Byte) : Act := .seq (put (F.TLK_CMD_STATUS_TALKER_STATUS l) status)
  (Act.each (List.range 4) (fun w => put (F.TLK_CMD_REPLY_DATA l w) (num (fit 32 data) (8 * w) 8)))

theorem answerShown_status {status : Nat} (hstatus : status < 256) (data : List Byte) :
    ((answerShown l status data).run s).get (F.TLK_CMD_STATUS_TALKER_STATUS l) = status := by
  have hwork : (Act.each (List.range 4) (fun w => put (F.TLK_CMD_REPLY_DATA l w) (num (fit 32 data) (8 * w) 8))).laneWork
      (fun a => 0x01000068 + 0x1000 * l ≤ a) := by
    simp [F.TLK_CMD_REPLY_DATA]
  rw [answerShown, run_seq, (run_laneWork hwork _).get (by simp [F.TLK_CMD_STATUS_TALKER_STATUS]), F.TLK_CMD_STATUS_TALKER_STATUS,
    get_put_row_same _ (by decide) (by decide)]
  exact Nat.mod_eq_of_lt hstatus

theorem answerShown_laneWork (status : Nat) (data : List Byte) :
    (answerShown l status data).laneWork (fun a => 0x01000064 + 0x1000 * l ≤ a) := by
  simp [answerShown, F.TLK_CMD_STATUS_TALKER_STATUS, F.TLK_CMD_REPLY_DATA]
  omega

theorem run_reply_host (hown : (s.lane l).own = none) (hhost : (s.lane l).host = some c) (htag : c.tag = num f 3 1) :
    (reply l f).run s = (hostDone l (if num (frameBody f) 0 1 = 0 then 0 else 2)).run
      ((answerShown l (num (frameBody f) 0 1) ((frameBody f).drop 8)).run s) := by
  rw [reply, run_look]
  simp only [hown, hhost, htag, Option.any_none, Option.any_some, decide_true, if_true, Bool.false_eq_true, if_false, answerShown,
    frameBody, run_all_cons, run_all_nil, run_seq]
  congr

theorem run_reply_none (hown : (s.lane l).own = none) (hhost : (s.lane l).host = none) : (reply l f).run s = s := by
  rw [reply, run_look]
  simp only [hown, hhost, Option.any_none, Bool.false_eq_true, if_false]
  rfl

/-- The answer to ENABLE in DISCOVERING. -/
theorem run_reply_enable (hstate : s.laneState l = 5) (hown : (s.lane l).own = some c) (htag : c.tag = num f 3 1)
    (henable : bits (c.words.headD 0) 47 40 = 2) : (reply l f).run s =
    (if num (frameBody f) 0 1 ≠ 0 then .seq (event (F.TLK_EVENTS_ENABLE_REFUSED l)) (retryLater l)
      else .seq (enterActive l) (applyPending l 4) : Act).run ((onLane l (fun u => { u with own := none })).run s) := by
  rw [reply, run_look]
  simp only [hown, htag, henable, hstate, Option.any_some, decide_true, if_true, Bool.not_true, Bool.false_eq_true, if_false,
    run_all_cons, run_all_nil, Act.when]
  rfl

/-- The answer to a host's command ends it. -/
theorem reply_ends (hown : (s.lane l).own = none) (hhost : (s.lane l).host = some c) (htag : c.tag = num f 3 1) :
    ∃ t, (reply l f).run s = t ∧ (t.lane l).host = none ∧ t.get (F.TLK_CMD_STATUS_DONE l) = 1 ∧
      t.get (F.TLK_CMD_STATUS_BUSY l) = 0 ∧ t.get (F.TLK_CMD_STATUS_TALKER_STATUS l) = num (frameBody f) 0 1 ∧
      t.get (F.TLK_CMD_STATUS_RESULT l) = (if num (frameBody f) 0 1 = 0 then 0 else 2) ∧ t.laneState l = s.laneState l := by
  have hrun := run_reply_host hown hhost htag
  have hstatus := answerShown_status (s := s) (l := l) (num_lt (frameBody f) 0 1) ((frameBody f).drop 8)
  have hkept : ((answerShown l (num (frameBody f) 0 1) ((frameBody f).drop 8)).run s).laneState l = s.laneState l :=
    (run_laneWork (answerShown_laneWork (l := l) (num (frameBody f) 0 1) ((frameBody f).drop 8)) s).get (f := F.TLK_STATUS_STATE l)
      (by simp [F.TLK_STATUS_STATE])
  generalize (answerShown l (num (frameBody f) 0 1) ((frameBody f).drop 8)).run s = x at *
  generalize hr : (if num (frameBody f) 0 1 = 0 then 0 else 2) = r at *
  have hsmall : r < 256 := by
    rw [← hr]
    split <;> decide
  obtain ⟨hunit, hresult, hdone, hbusy⟩ := hostDone_shows (s := x) (l := l) hsmall
  refine ⟨_, hrun, congrArg LaneUnit.host hunit, hdone, hbusy, ?_, hresult, ?_⟩
  · rw [← hstatus]
    simp -implicitDefEqProofs (disch := decide) only [hostDone, run_all_cons, run_all_nil, F.TLK_CMD_STATUS_DONE, F.TLK_CMD_STATUS_BUSY,
      F.TLK_CMD_STATUS_RESULT, F.TLK_CMD_STATUS_TALKER_STATUS, get_event_row, get_put_row, run_onLane_get]
  · rw [← hkept]
    exact (run_laneWork (hostDone_laneWork (l := l) r) x).get (f := F.TLK_STATUS_STATE l)
      (by simp [F.TLK_STATUS_STATE, F.TLK_CMD_STATUS_BUSY])

/-- ENABLE answered in DISCOVERING leads to ACTIVE, or shows that it is refused. -/
theorem reply_enables (hstate : s.laneState l = 5) (hown : (s.lane l).own = some c) (htag : c.tag = num f 3 1)
    (henable : bits (c.words.headD 0) 47 40 = 2) (hfenced : s.fenced = false) (hpending : s.pending = [])
    (hnone : (s.lane l).pending = []) :
    ∃ t, (reply l f).run s = t ∧ (if num (frameBody f) 0 1 = 0 then t.laneState l = 6
      else t.laneState l = 5 ∧ t.get (F.TLK_EVENTS_ENABLE_REFUSED l) = 1) ∧ (t.lane l).own = none := by
  have hrun := run_reply_enable hstate hown htag henable
  have hunit : ((onLane l (fun u => { u with own := none })).run s).lane l = { s.lane l with own := none } := run_onLane_lane
  have hstateX : ((onLane l (fun u => { u with own := none })).run s).laneState l = 5 := hstate
  have hfencedX : ((onLane l (fun u => { u with own := none })).run s).fenced = false := hfenced
  have hpendingX : ((onLane l (fun u => { u with own := none })).run s).pending = [] := hpending
  generalize (onLane l (fun u => { u with own := none })).run s = x at *
  refine ⟨_, hrun, ?_⟩
  by_cases hstatus : num (frameBody f) 0 1 = 0
  · obtain ⟨hactive, flaps, hentered⟩ := enterActive_active (l := l) hfencedX hpendingX
    rw [if_neg (not_not.mpr hstatus), if_pos hstatus, run_seq,
      run_applyPending_none (by rw [hentered, hunit]; exact hnone), hentered, hunit]
    exact ⟨hactive, rfl⟩
  · rw [if_pos hstatus, if_neg hstatus, run_seq, retryLater_get, retryLater_lane, run_event_lane, hunit]
    refine ⟨⟨?_, by rw [F.TLK_EVENTS_ENABLE_REFUSED, get_event_row_same (by decide)]⟩, by split <;> rfl⟩
    rw [State.laneState, retryLater_get, F.TLK_STATUS_STATE, F.TLK_EVENTS_ENABLE_REFUSED,
      get_event_row (by decide) (by decide) (by decide)]
    exact hstateX

end

/-! ## The statement -/

/-- Settles O8: behind the checks of a frame each type's program is taken apart, and an entry, a talker or a command is followed
through its steps. -/
theorem heartbeatRosterAndReplyFrames : Obligations.HeartbeatRosterAndReplyFrames := by
  unfold Obligations.HeartbeatRosterAndReplyFrames
  refine ⟨fun s l rx htaken hstate hpath hnone hcover => ?applied, fun s l rx htaken hstate hpath hnone hcover => ?waits,
    fun s l rx htaken hstate hroom => ?early, fun s l rx htaken hstate => ?standby, fun s l rx htaken hstate => ?roster,
    fun s l rx c htaken hown hhost htag => ?answered,
    fun s l rx c htaken hstate hown htag henable hfenced hpending hnone => ?enabled, fun s l rx htaken hown hhost => ?unasked,
    fun s l rx => laneFrame_unsound {}, fun s l rx => laneFrame_malformed {}, fun s l rx => laneFrame_silent {},
    fun s l rx => laneFrame_unsound {}, fun s l rx => laneFrame_malformed {}, fun s l rx => laneFrame_silent {},
    fun s l rx => laneFrame_unsound {}, fun s l rx => laneFrame_malformed {}, fun s l rx => laneFrame_silent {}⟩
  all_goals
    obtain ⟨u, hu, hrun⟩ := run_laneFrame_taken (load := {}) htaken
    have hframe := frameTaken_iff.mp htaken
  case applied =>
    have hwork := hu.laneFrame (run_laneWork (heartbeat_ofLane rx.bytes) u) fun _ => id
    have hcovered : u.covered l (num rx.bytes 2 2) = true := by
      rw [State.covered, hu.cum]
      exact decide_eq_true hcover
    obtain ⟨t, ht, hcount, hlane, happlied⟩ := heartbeat_applied hu.talking hframe.ok hframe.type (hu.laneState.trans hstate) hpath
      (by rw [hu.unit]; exact hnone) hcovered
    rw [ht] at hwork
    refine ⟨t, congrArg Host.Outcome.next (hrun.trans ht), hcount, hlane, fun e he hpresent hbelow => ?_, hwork.rd, hwork.flash⟩
    have hsmall := (frameOk_heartbeat hframe.ok hframe.type).1 e he
    have has := hu.talkerAs hsmall
    have hentry := happlied e he (has.present.trans hpresent) (by rw [State.notBelow, has.unit, has.correct]; exact hbelow)
    rwa [has.correct] at hentry
  case waits =>
    have hwork := hu.laneFrame (run_laneWork (heartbeat_ofLane rx.bytes) u) fun _ => id
    have hwaits : u.covered l (num rx.bytes 2 2) = false := by
      rw [State.covered, hu.cum]
      exact decide_eq_false (Nat.not_lt.mpr hcover)
    have ht := run_heartbeat_waits (hu.laneState.trans hstate) hpath (by rw [hu.unit]; exact hnone) hwaits
    rw [ht] at hwork
    refine ⟨_, congrArg Host.Outcome.next (hrun.trans ht), pendingShown_count (show 1 < 8 by decide), by rw [pendingShown_lane]; rfl,
      hu.talkers, hwork.rd, hwork.flash⟩
  case early =>
    have hwork := hu.laneFrame (run_laneWork (heartbeat_ofLane rx.bytes) u) fun _ => id
    have hpendingU : (u.lane l).pending = (s.lane l).pending := by rw [hu.unit]
    have ht : (heartbeat l rx.bytes).run u = (pendingShown l ((s.lane l).pending ++ [heartbeatOf rx.bytes])).run u := by
      rw [run_heartbeat_early (by rw [hu.laneState]; exact hframe.linked) (by rwa [hu.laneState]),
        run_holdHeartbeat (by rwa [hpendingU]), hpendingU]
    have hlen : ((s.lane l).pending ++ [heartbeatOf rx.bytes]).length = (s.lane l).pending.length + 1 := by simp
    rw [ht] at hwork
    refine ⟨_, congrArg Host.Outcome.next (hrun.trans ht), by rw [pendingShown_lane]; rfl, ?_, hu.talkers, ?_, hwork.rd, hwork.flash⟩
    · rw [pendingShown_count (by omega), hlen]
    · rw [pendingShown_laneState, hu.laneState]
  case standby =>
    have hwork := hu.laneFrame (LaneWork.refl (ofLane l) u) fun _ => id
    have ht : (heartbeat l rx.bytes).run u = u := run_heartbeat_standby (hu.laneState.trans hstate)
    exact ⟨u, congrArg Host.Outcome.next (hrun.trans ht), hu.talkers, by rw [hu.unit], hu.laneState.trans hstate, hwork.rd, hwork.flash⟩
  case roster =>
    have hwork := hu.laneFrame (run_laneWork (roster_ofLane rx.bytes) u) fun _ => id
    obtain ⟨t, ht, htalkers, hkept, hpresent, hmismatch⟩ := roster_leaves (f := rx.bytes) (by rwa [hu.laneState])
    rw [ht] at hwork
    refine ⟨t, congrArg Host.Outcome.next (hrun.trans ht), ?_, hkept.trans hu.laneState, fun k hk => ?_, ?_, hwork.rd, hwork.flash⟩
    · rw [htalkers, rosterListed_eq]
    · rw [hpresent k hk, rosterEntry_isSome]
    · rintro ⟨k, hk, hne⟩
      refine hmismatch (rosterListed_ne hk ?_)
      rwa [show u.get (F.TLK_ROSTER_EXPECT_EXPECT l (k / 64)) = s.get (F.TLK_ROSTER_EXPECT_EXPECT l (k / 64)) from hu.expected hk]
  case answered =>
    have hwork := hu.laneFrame (run_laneWork (reply_ofLane rx.bytes) u) fun _ => id
    obtain ⟨t, ht, hended, hdone, hbusy, hstatus, hresult, hkept⟩ := reply_ends (f := rx.bytes) (by rw [hu.unit]; exact hown)
      (by rw [hu.unit]; exact hhost) htag
    rw [ht] at hwork
    rw [reply_status hframe.ok hframe.type] at hstatus hresult
    exact ⟨t, congrArg Host.Outcome.next (hrun.trans ht), hended, hdone, hbusy, hstatus, hresult, hkept.trans hu.laneState,
      hwork.rd, hwork.flash⟩
  case enabled =>
    have hwork := hu.laneFrame (run_laneWork (reply_ofLane rx.bytes) u) fun _ => id
    obtain ⟨t, ht, hstands, hown'⟩ := reply_enables (hu.laneState.trans hstate) (by rw [hu.unit]; exact hown) htag henable
      (hu.fenced.trans hfenced) (hu.pending.trans hpending) (by rw [hu.unit]; exact hnone)
    rw [ht] at hwork
    rw [reply_status hframe.ok hframe.type] at hstands
    exact ⟨t, congrArg Host.Outcome.next (hrun.trans ht), hstands, hown', hwork.rd, hwork.flash⟩
  case unasked =>
    have hwork := hu.laneFrame (LaneWork.refl (ofLane l) u) fun _ => id
    have ht : (reply l rx.bytes).run u = u := run_reply_none (by rw [hu.unit]; exact hown) (by rw [hu.unit]; exact hhost)
    refine ⟨u, congrArg Host.Outcome.next (hrun.trans ht), by rw [hu.unit]; exact hhost, hu.laneState, ?_, hwork.rd, hwork.flash⟩
    refine hu.work.rd _ ?_
    have hl := hu.talking
    simp only [ofReception, F.TLK_FEC_CORRECTED_C, F.TLK_FEC_UNCORRECTABLE_C, F.TLK_STATUS_PATH, F.TLK_CMD_STATUS_DONE, inNotify]
    omega

end Sys2Proof.Machine
end

section
/-! Delivery of a sentence beside the lanes (R12, R178 to R182, R219, R248): through the near buffer, the filter, Geyser's counting
and Caldera's admission it changes no lane's unit and no register of the lanes. -/

namespace Sys2Proof.Machine

/-! ## Programs beside the lanes -/

/-- From `s` to `t` the lanes' units stand, and of the registers only those change where `P` holds. -/
structure BesideLanes (P : Nat → Prop) (s t : State) : Prop where
  lanes : t.units.lanes = s.units.lanes
  rd : ∀ a, ¬ P a → t.rd a = s.rd a

/-- The program changes no lane's unit, and registers only where `P` holds. -/
def Act.besideLanes (P : Nat → Prop) : Act → Prop
  | .seq a b => a.besideLanes P ∧ b.besideLanes P
  | .look k => ∀ s, (k s).besideLanes P
  | .draw k => ∀ w, (k w).besideLanes P
  | .reg a _ => P a
  | .units f => ∀ u, (f u).lanes = u.lanes
  | .resetRegs | .resetAll => False
  | _ => True

section
variable {P Q : Nat → Prop}

theorem BesideLanes.trans {s t u : State} (h : BesideLanes P s t) (g : BesideLanes P t u) : BesideLanes P s u :=
  ⟨g.lanes.trans h.lanes, fun a ha => (g.rd a ha).trans (h.rd a ha)⟩

theorem run_besideLanes {a : Act} (h : a.besideLanes P) (s : State) : BesideLanes P s (a.run s) := by
  induction a generalizing s with
  | seq a b iha ihb => exact (iha h.1 s).trans (ihb h.2 _)
  | look k ih => exact ih s (h s) s
  | draw k ih => exact BesideLanes.trans (t := { s with free := s.free + 1 }) ⟨rfl, fun _ _ => rfl⟩ (ih _ (h _) _)
  | reg x v =>
    refine ⟨rfl, fun a ha => ?_⟩
    have hax : a ≠ x := fun e => ha (e ▸ h)
    simp [hax]
  | units f => exact ⟨h s.units, fun _ _ => rfl⟩
  | resetRegs => exact h.elim
  | resetAll => exact h.elim
  | _ => exact ⟨rfl, fun _ _ => rfl⟩

namespace Act

@[simp] theorem besideLanes_skip : Act.skip.besideLanes P := trivial
@[simp] theorem besideLanes_win (f : Win → Win) : (Act.win f).besideLanes P := trivial
@[simp] theorem besideLanes_seq (a b : Act) : (Act.seq a b).besideLanes P ↔ a.besideLanes P ∧ b.besideLanes P := Iff.rfl
@[simp] theorem besideLanes_look (k : State → Act) : (Act.look k).besideLanes P ↔ ∀ s, (k s).besideLanes P := Iff.rfl
@[simp] theorem besideLanes_units (f : Units → Units) : (Act.units f).besideLanes P ↔ ∀ u, (f u).lanes = u.lanes := Iff.rfl
@[simp] theorem besideLanes_all_nil : (Act.all []).besideLanes P := trivial
@[simp] theorem besideLanes_all_cons (a : Act) (l : List Act) :
    (Act.all (a :: l)).besideLanes P ↔ a.besideLanes P ∧ (Act.all l).besideLanes P := Iff.rfl

@[simp] theorem besideLanes_ite (c : Prop) [Decidable c] (a b : Act) :
    (if c then a else b).besideLanes P ↔ (c → a.besideLanes P) ∧ (¬ c → b.besideLanes P) := by
  split <;> simp [*]

@[simp] theorem besideLanes_when (c : Bool) (a : Act) : (Act.when c a).besideLanes P ↔ (c = true → a.besideLanes P) := by
  cases c <;> simp [Act.when]

@[simp] theorem besideLanes_each {α : Type} (l : List α) (f : α → Act) :
    (Act.each l f).besideLanes P ↔ ∀ x ∈ l, (f x).besideLanes P := by
  induction l with
  | nil => simp [Act.each]
  | cons x l ih => simpa [Act.each] using fun _ => ih

theorem besideLanes_mono (hPQ : ∀ a, P a → Q a) {a : Act} (h : a.besideLanes P) : a.besideLanes Q := by
  induction a with
  | seq a b iha ihb => exact ⟨iha h.1, ihb h.2⟩
  | look k ih => exact fun s => ih s (h s)
  | draw k ih => exact fun w => ih w (h w)
  | reg x v => exact hPQ _ h
  | units f => exact h
  | resetRegs => exact h.elim
  | resetAll => exact h.elim
  | _ => trivial

theorem besideLanes_of_tally {a : Act} (h : a.tally P) : a.besideLanes P := by
  induction a with
  | seq a b iha ihb => exact ⟨iha h.1, ihb h.2⟩
  | look k ih => exact fun s => ih s (h s)
  | reg x v => exact h
  | skip => trivial
  | units f => exact fun u => congrArg (·.lanes) (h u)
  | win f => trivial
  | _ => exact h.elim

end Act

@[simp] theorem put_besideLanes (f : Field) (v : Nat) : (put f v).besideLanes P ↔ P f.addr :=
  ⟨fun h => h State.reset, fun h _ => h⟩
@[simp] theorem event_besideLanes (f : Field) : (event f).besideLanes P ↔ P f.addr := by
  simp only [event, Act.besideLanes_seq, put_besideLanes, Act.besideLanes_win, and_true]

end

/-! ## The registers of the data path -/

/-- A register of the data path or above: the field definitions of those blocks come down to this. -/
@[simp] theorem inDataBlocks_add {b k : Nat} (h : 0x02000000 ≤ b) : inDataBlocks (b + k) := Nat.le_add_right_of_le h

@[simp] theorem inDataBlocks_add_add {b j k : Nat} (h : 0x02000000 ≤ b) : inDataBlocks (b + j + k) :=
  inDataBlocks_add (inDataBlocks_add h)
@[simp] theorem inDataBlocks_add_add_add {b i j k : Nat} (h : 0x02000000 ≤ b) : inDataBlocks (b + i + j + k) :=
  inDataBlocks_add (inDataBlocks_add_add h)

theorem inDataBlocks_of_inNotify {a : Nat} (h : inNotify a) : inDataBlocks a := Nat.le_trans (by decide) h.1

@[simp] theorem countBy_data {f : Field} (h : inDataBlocks f.addr) (k : Nat) : (countBy f k).besideLanes inDataBlocks :=
  Act.besideLanes_of_tally (Act.tally_mono (fun _ ha => ha.elim (fun e => e ▸ h) inDataBlocks_of_inNotify) (countBy_tally f k))
@[simp] theorem count_data {f : Field} (h : inDataBlocks f.addr) : (count f).besideLanes inDataBlocks := countBy_data h 1

/-! ## Queues (R229 to R244) -/

@[simp] theorem onQueue_beside {P : Nat → Prop} (q : Nat) (f : QueueUnit → QueueUnit) : (onQueue q f).besideLanes P := fun _ _ => rfl
@[simp] theorem touch_beside {P : Nat → Prop} (q : Nat) : (touch q).besideLanes P := trivial

@[simp] theorem refreshQueue_data (q : Nat) : (refreshQueue q).besideLanes inDataBlocks := by
  simp [refreshQueue, F.Q_DEPTH_ITEMS, F.Q_DEPTH_CELLS, F.Q_STATUS_HEAD_FILL, F.Q_STATUS_EMPTY, F.Q_STATUS_FULL,
    F.Q_STATUS_PARTIAL, F.Q_STATUS_DISCARDING]

@[simp] theorem advance_tail_data (q k : Nat) : (advance q k (F.Q_POINTERS_TAIL q)).besideLanes inDataBlocks := by
  simp [advance, F.Q_POINTERS_TAIL]

@[simp] theorem committed_beside {P : Nat → Prop} (i : Item) : (committed i).besideLanes P := by
  unfold committed
  split
  · exact fun _ => rfl
  · trivial

/-- The hooks of one level stay beside the lanes. -/
structure Hooks.Beside (h : Hooks) : Prop where
  cnt : ∀ {f}, inDataBlocks f.addr → ∀ k, (h.cnt f k).besideLanes inDataBlocks
  note : ∀ t k i b, (h.note t k i b).besideLanes inDataBlocks

section
variable {h : Hooks} (H : h.Beside)
include H

theorem countWith_beside {f : Field} (hf : inDataBlocks f.addr) (k : Nat) : (countWith h f k).besideLanes inDataBlocks := by
  simp [countWith, bump, hf, H.note]

theorem commitWith_beside (q : Nat) (i : Item) (b : Nat) : (commitWith h q i b).besideLanes inDataBlocks := by
  simp [commitWith, H.cnt, F.Q_ITEMS_PUSHED_C, F.Q_OCTETS_PUSHED_C]

theorem overrunWith_beside (q c : Nat) : (overrunWith h q c).besideLanes inDataBlocks := by
  simp [overrunWith, H.cnt, F.Q_STATUS_OVERRUN, F.Q_OVERRUNS_C, F.Q_DISCARDED_CELLS_C]

theorem pushWith_beside (q : Nat) (p : Producer) (i : Item) : (pushWith h q p i).besideLanes inDataBlocks := by
  intro s
  dsimp only
  split <;> simp [commitWith_beside H, overrunWith_beside H, H.cnt, F.Q_BAD_ITEMS_C, F.Q_DISCARDED_CELLS_C]

theorem noteWith_beside (t k i : Nat) (b : List Byte) : (noteWith h t k i b).besideLanes inDataBlocks := by
  intro s
  refine ⟨onQueue_beside _ _, ?_⟩
  split
  · simp [H.cnt, F.Q_STATUS_OVERRUN, F.Q_OVERRUNS_C]
  · exact pushWith_beside H _ _ _

end

theorem hooks_beside (n : Nat) : (hooks n).Beside := by
  induction n with
  | zero => exact ⟨fun hf k => by simp [hooks, bump, hf], fun _ _ _ _ => trivial⟩
  | succ n ih => exact ⟨countWith_beside ih, noteWith_beside ih⟩

@[simp] theorem notify_data (t k i : Nat) (b : List Byte) : (notify t k i b).besideLanes inDataBlocks := (hooks_beside 4).note t k i b
@[simp] theorem push_data (q : Nat) (p : Producer) (i : Item) : (push q p i).besideLanes inDataBlocks :=
  pushWith_beside (hooks_beside 4) q p i

/-! ## Checkpoints, diversion and frames pushed (R330, R348, R373) -/

section
variable {P : Nat → Prop}
@[simp] theorem onCal_beside (st : Nat) (f : CalStream → CalStream) : (onCal st f).besideLanes P := fun _ _ => rfl
@[simp] theorem setChain_beside (st : Nat) (c : Chain) : (setChain st c).besideLanes P := fun _ => rfl
@[simp] theorem onChain_beside (st : Nat) (f : Chain → Chain) : (onChain st f).besideLanes P := fun _ => setChain_beside _ _
@[simp] theorem onSeg_beside (st : Nat) (f : SegUnit → SegUnit) : (onSeg st f).besideLanes P := fun _ _ => rfl
@[simp] theorem onEndpoint_beside (p e : Nat) (f : EndpointUnit → EndpointUnit) : (onEndpoint p e f).besideLanes P := fun _ _ => rfl
@[simp] theorem settleLater_beside (st : Nat) : (settleLater st).besideLanes P := trivial
end

@[simp] theorem checkpointDue_data (st : Nat) : (checkpointDue st).besideLanes inDataBlocks := by
  simp [checkpointDue, checkpointDueAs, F.SIG_DEVICE_COALESCED_C, F.SIG_STATUS_PENDING]

@[simp] theorem gapCheckpoint_data (st : Nat) : (gapCheckpoint st).besideLanes inDataBlocks := by
  simp [gapCheckpoint, F.SIG_STREAM_GAP_CHECKPOINTS_C]

theorem linkF_data {l : Nat} {f : Nat → Nat → Field} {g : Nat → Field} (hf : ∀ p j, inDataBlocks (f p j).addr)
    (hg : ∀ r, inDataBlocks (g r).addr) : inDataBlocks (linkF l f g).addr := by
  unfold linkF
  split
  · exact hf _ _
  · exact hg _

@[simp] theorem counter_data (why : Diverted) (l : Nat) : inDataBlocks (why.counter l).addr := by
  cases why <;> refine linkF_data (fun p j => inDataBlocks_add_add ?_) (fun r => inDataBlocks_add ?_) <;> decide

@[simp] theorem prioDiverted_data (l prio : Nat) : inDataBlocks
    (if l < 256 then F.LSN_LINK_PRIO_DIVERTED_C (l / 8) (l % 8) prio else F.RNG_PRIO_DIVERTED_C (l - 256) prio).addr := by
  split
  · exact inDataBlocks_add_add_add (by decide)
  · exact inDataBlocks_add_add (by decide)

@[simp] theorem divert_data (why : Diverted) (l p : Nat) (i : Item) : (divert why l p i).besideLanes inDataBlocks := by
  have hspilled : inDataBlocks (linkF l F.LSN_LINK_SPILLED_C F.RNG_SPILLED_C).addr :=
    linkF_data (fun _ _ => inDataBlocks_add_add (by decide)) fun _ => inDataBlocks_add (by decide)
  have hdropped : inDataBlocks (linkF l F.LSN_LINK_DROPPED_C F.RNG_DROPPED_C).addr :=
    linkF_data (fun _ _ => inDataBlocks_add_add (by decide)) fun _ => inDataBlocks_add (by decide)
  simp [divert, hspilled, hdropped]

@[simp] theorem divertRefused_data (q : Nat) (i : Item) : (divertRefused q i).besideLanes inDataBlocks := by simp [divertRefused]

@[simp] theorem pushFrame_data (q : Nat) (p : Producer) (i : Item) : (pushFrame q p i).besideLanes inDataBlocks := by
  intro s
  refine ⟨push_data _ _ _, ?_⟩
  split <;> simp

/-! ## Sealing (R324, R369 to R371) -/

@[simp] theorem distribute_data (st ref prio : Nat) (i : Item) : (distribute st ref prio i).besideLanes inDataBlocks := by
  simp [distribute]

@[simp] theorem sealFrame_data (st : Nat) (r : FrameReq) : (sealFrame st r).besideLanes inDataBlocks := by
  intro s
  have hunsealed : (count (F.SIG_STREAM_UNSEALED_DROPPED_C st)).besideLanes inDataBlocks := by simp [F.SIG_STREAM_UNSEALED_DROPPED_C]
  have hresult : inDataBlocks (F.SIG_STREAM_STATUS_RESULT st).addr := by simp [F.SIG_STREAM_STATUS_RESULT]
  simp only [Act.besideLanes_ite]
  refine ⟨fun _ => by simp [hunsealed], fun _ => ⟨fun _ => by simp [hunsealed, hresult], fun _ => ?_⟩⟩
  simp only [Act.besideLanes_all_cons, Act.besideLanes_look]
  refine ⟨setChain_beside _ _, onSeg_beside _ _, by simp [F.LSN_STREAM_FRAME_SEQ_NEXT], by simp [F.SIG_STREAM_FRAMES_SEALED_C],
    distribute_data _ _ _ _, fun t => ?_, by simp, trivial⟩
  split <;> simp

@[simp] theorem segClose_data (st : Nat) : (segClose st).besideLanes inDataBlocks := by
  intro s
  dsimp only
  split <;> simp

@[simp] theorem segAppend_data (st : Nat) (close : Bool) (c : Copy) : (segAppend st close c).besideLanes inDataBlocks := by
  simp [segAppend]

/-! ## Caldera's admission (R192, R208 to R220) -/

@[simp] theorem emitted_data (st : Nat) (l : List Copy) : (emitted st l).besideLanes inDataBlocks := by
  simp [emitted, F.CAL_STREAM_SENTENCES_EMITTED_C, F.CAL_STREAM_OCTETS_EMITTED_C]

@[simp] theorem lateCopy_data (st t : Nat) (c : Copy) : (lateCopy st t c).besideLanes inDataBlocks := by
  simp [lateCopy, F.CAL_STREAM_LATE_MAX_TICKS, F.CAL_STREAM_LATE_VENTED_C, F.CAL_STREAM_LATE_INLINE_C]

@[simp] theorem admitCopy_data (src st : Nat) (c : Copy) : (admitCopy src st c).besideLanes inDataBlocks := by
  simp [admitCopy, F.STR_OVERLOAD_DROPPED_C, F.FLT_SOURCE_COPIES_DROPPED_C, F.STR_COPIES_ADMITTED_C, F.STR_OCTETS_ADMITTED_C,
    F.CAL_TENANT_REFUSED_QUOTA_C, F.CAL_TENANT_REFUSED_SHARE_C, F.CAL_DEVICE_NB_SPILL_DROPPED_C, F.CAL_STATUS_NB_REGION_FULL,
    F.STR_SPILLED_C, F.FLT_SOURCE_COPIES_SPILLED_C]

/-! ## The near buffer and Geyser (R248 to R255) -/

@[simp] theorem refreshRing_data : refreshRing.besideLanes inDataBlocks := by
  simp [refreshRing, F.NBF_OLDEST_ARRIVAL, F.NBF_STATUS_HELD_GIB]
@[simp] theorem openSegment_beside {P : Nat → Prop} (l : List Segment) : (openSegment l).besideLanes P := fun _ _ => rfl

@[simp] theorem record_data (r : Record) : (record r).besideLanes inDataBlocks := by
  intro s
  simp only [Act.besideLanes_ite, Act.besideLanes_seq]
  refine ⟨fun _ => trivial, fun _ => ⟨⟨fun _ => trivial, fun _ => ?_⟩, ?_⟩⟩
  · split <;> simp
  · simp [F.NBF_RECORD_DROPPED_C, F.NBF_STATUS_PIN_FULL, F.NBF_RECORDS_C, F.NBF_OCTETS_RECORDED_C, F.NBF_WINDOW_MISSED_C]

@[simp] theorem countGroups_data (t : Nat) (l : List Nat) : (countGroups t l).besideLanes inDataBlocks := by
  simp [countGroups, F.GEY_DEVICE_LATE_COUNTED_C, F.GEY_DEVICE_FAR_AHEAD_C]

@[simp] theorem markRule_data (x : Sentence) (t : Nat) (v : Verdict) (r n : Nat) : (markRule x t v r n).besideLanes inDataBlocks := by
  simp [markRule, F.FLT_DEVICE_MARK_SUPPRESSED_C]

/-! ## Delivery -/

@[simp] theorem deliver_data (x : Sentence) : (deliver x).besideLanes inDataBlocks := by
  intro s
  simp only [Act.besideLanes_when, Act.besideLanes_all_cons, Act.besideLanes_each]
  refine fun _ => ⟨by simp, by simp [F.FLT_DEVICE_STALE_BANK_C], by simp [F.FLT_RULE_HITS_COUNT], by simp, by simp,
    by simp [F.FLT_DEVICE_GROUP_OVERFLOW_C], fun f _ => ?_, ?_, trivial,
    by simp [F.FLT_SOURCE_TRUNCATED_C, F.FLT_DEVICE_OLD_SEGMENT_C], trivial⟩
  · split <;> simp [F.CAL_STREAM_MISROUTED_C, F.STR_DISABLED_DROPPED_C, F.FLT_DEVICE_COPY_OVERFLOW_C]
  · refine count_data ?_
    split_ifs <;> exact inDataBlocks_add (by decide)

end Sys2Proof.Machine
end

section
/-! Data frames (R113, R119, R120, R145 to R154): acceptance, duplicates, frames out of the window and frames that are not taken. -/

namespace Sys2Proof.Machine

/-! ## Delivery of a frame's sentences (R145, R164, R192) -/

section
variable {s : State} {l : Nat}

/-- The registers that the delivery of a frame's sentences may change. -/
def ofDelivery (l a : Nat) : Prop := inDataBlocks a ∨ a = (F.TLK_UNKNOWN_TALKER_C l).addr ∨ a = (F.TLK_SENTENCES_C l).addr ∨
  a = (F.TLK_NO_STAMP_OFFSET_C l).addr

theorem count_ofDelivery {f : Field} (h : ofDelivery l f.addr) (k : Nat) : (countBy f k).besideLanes (ofDelivery l) :=
  Act.besideLanes_of_tally (Act.tally_mono
    (fun _ ha => ha.elim (fun e => e ▸ h) fun hn => .inl (inDataBlocks_of_inNotify hn)) (countBy_tally f k))

theorem deliverSentence_beside (follows : Bool) (x : List Byte) : (deliverSentence l follows x).besideLanes (ofDelivery l) := by
  have hunknown : (count (F.TLK_UNKNOWN_TALKER_C l)).besideLanes (ofDelivery l) := count_ofDelivery (.inr (.inl rfl)) 1
  have hsentences : (count (F.TLK_SENTENCES_C l)).besideLanes (ofDelivery l) := count_ofDelivery (.inr (.inr (.inl rfl))) 1
  have hoffset : (count (F.TLK_NO_STAMP_OFFSET_C l)).besideLanes (ofDelivery l) := count_ofDelivery (.inr (.inr (.inr rfl))) 1
  have hfuture : (count (F.FLT_SOURCE_FUTURE_TIME_C l)).besideLanes (ofDelivery l) :=
    count_ofDelivery (.inl (inDataBlocks_add (by decide))) 1
  have hdeliver : ∀ x, (deliver x).besideLanes (ofDelivery l) := fun x => Act.besideLanes_mono (fun _ => .inl) (deliver_data x)
  simp [deliverSentence, hunknown, hsentences, hoffset, hfuture, hdeliver]

theorem deliverAll_beside (follows : Bool) (room : Nat) (xs : List (List Byte)) :
    (deliverAll l follows room xs).besideLanes (ofDelivery l) := by
  induction xs generalizing room with
  | nil => trivial
  | cons x xs ih =>
    rw [deliverAll, Act.besideLanes_ite]
    exact ⟨fun _ => count_ofDelivery (.inl (inDataBlocks_add (by decide))) _, fun _ => ⟨deliverSentence_beside follows x, ih _⟩⟩

theorem deliverSentence_timeless (follows : Bool) (x : List Byte) : (deliverSentence l follows x).timeless := by
  simp [deliverSentence]

theorem deliverAll_timeless (follows : Bool) (room : Nat) (xs : List (List Byte)) : (deliverAll l follows room xs).timeless := by
  induction xs generalizing room with
  | nil => trivial
  | cons x xs ih =>
    rw [deliverAll, timeless_ite]
    exact ⟨fun _ => countBy_timeless _ _, fun _ => ⟨deliverSentence_timeless follows x, ih _⟩⟩

/-- The sentences of a frame are delivered where the part has a data path. -/
def delivered (l : Nat) (load : Load) (f : List Byte) (c : Bool) : Act := Act.when c (.seq (.win fun w => { w with load := load })
  (deliverAll l (bit (num f 1 1) 5) load.room ((sentencesOf 256 (frameBody f)).getD [])))

theorem delivered_beside (load : Load) (f : List Byte) (c : Bool) : (delivered l load f c).besideLanes (ofDelivery l) := by
  simp [delivered, deliverAll_beside]

theorem delivered_flash (load : Load) (f : List Byte) (c : Bool) : ((delivered l load f c).run s).flash = s.flash := by
  have h : (delivered l load f c).timeless := by
    simp only [delivered, timeless_when, timeless_seq]
    exact fun _ => ⟨fun _ => rfl, deliverAll_timeless _ _ _⟩
  exact congrArg Instant.flash (run_timeless h s)

/-- A register of the lane that delivery leaves. -/
theorem delivered_get (hl : l < 1024) (load : Load) (f : List Byte) (c : Bool) {b m n : Nat}
    (hb : b < 0x01001000 ∧ b ≠ 0x01000138 ∧ b ≠ 0x01000110 ∧ b ≠ 0x01000180) :
    ((delivered l load f c).run s).get ⟨b + 0x1000 * l, m, n⟩ = s.get ⟨b + 0x1000 * l, m, n⟩ := by
  have hrd := (run_besideLanes (delivered_beside (l := l) load f c) s).rd (b + 0x1000 * l) (by
    simp only [ofDelivery, F.TLK_UNKNOWN_TALKER_C, F.TLK_SENTENCES_C, F.TLK_NO_STAMP_OFFSET_C]
    omega)
  rw [State.get, hrd]
  rfl

theorem delivered_lane (load : Load) (f : List Byte) (c : Bool) : ((delivered l load f c).run s).lane l = s.lane l :=
  lane_congr (run_besideLanes (delivered_beside load f c) s).lanes l

/-! ## Heartbeats that wait on a frame (R129) -/

theorem run_applyPending_succ (n : Nat) (s : State) : (applyPending l (n + 1)).run s = s ∨
    ∃ (h : PendingHb) (rest : List PendingHb), (applyPending l (n + 1)).run s =
      (applyPending l n).run ((Act.each (entriesOf 8 h.body) (applyEntry l h.follows)).run ((pendingShown l rest).run s)) := by
  cases hp : (s.lane l).pending with
  | nil => exact .inl (run_applyPending_none hp)
  | cons h rest =>
    rw [applyPending, run_look]
    simp only [hp]
    generalize (decide (s.laneState l = 6) && _) = c
    cases c
    · exact .inl rfl
    · refine .inr ⟨h, rest, ?_⟩
      simp only [run_when_true, run_all_cons, run_all_nil, run_onLane_showPending]

/-- The registers that heartbeats taken up may change. -/
def ofHeartbeats (l a : Nat) : Prop := a = (F.TLK_SEQ_CUM l).addr ∨ ∃ t < 128, ofEntry l t a

theorem applyPending_leaves (hl : l < 1024) (n : Nat) : LaneWork (ofHeartbeats l) s ((applyPending l n).run s) ∧
    (((applyPending l n).run s).lane l).bitmap = (s.lane l).bitmap ∧
    ((applyPending l n).run s).get (F.TLK_SEQ_CUM l) = s.get (F.TLK_SEQ_CUM l) := by
  induction n generalizing s with
  | zero => exact ⟨.refl _ s, rfl, rfl⟩
  | succ n ih =>
    rcases run_applyPending_succ (l := l) n s with hrun | ⟨h, rest, hrun⟩ <;> rw [hrun]
    · exact ⟨.refl _ s, rfl, rfl⟩
    · have hshown := run_laneWork (pendingShown_laneWork (l := l) rest) s
      have hshownLane := pendingShown_lane (s := s) (l := l) rest
      have hshownCum := pendingShown_cum (s := s) (l := l) rest
      generalize (pendingShown l rest).run s = x at *
      have hentries := run_laneWork (entries_laneWork (l := l) h.follows (entriesOf 8 h.body)) x
      have hentriesLane := each_applyEntry_lane (s := x) (l := l) h.follows (entriesOf 8 h.body) l
      generalize (Act.each (entriesOf 8 h.body) (applyEntry l h.follows)).run x = y at *
      obtain ⟨hwork, hbitmap, hcum⟩ := ih (s := y)
      have hstill : y.get (F.TLK_SEQ_CUM l) = x.get (F.TLK_SEQ_CUM l) := hentries.get fun ⟨t, ht, ha⟩ => by
        simp only [ofEntry, inNotify, F.TLK_SEQ_CUM, F.TLK_UNKNOWN_TALKER_C, F.TLK_WM_REGRESS_C, F.TLK_TALKER_STATE_STALLED] at ha
        omega
      refine ⟨((hshown.mono fun _ => .inl).trans (hentries.mono fun _ => .inr)).trans hwork, ?_, ?_⟩
      · rw [hbitmap, hentriesLane, hshownLane]
      · rw [hcum, hstill, hshownCum]

theorem applyPending_get (hl : l < 1024) (n : Nat) {b m k : Nat}
    (hb : b < 0x01000800 ∧ b ≠ 0x01000018 ∧ b ≠ 0x01000138 ∧ b ≠ 0x01000140) :
    ((applyPending l n).run s).get ⟨b + 0x1000 * l, m, k⟩ = s.get ⟨b + 0x1000 * l, m, k⟩ := by
  refine (applyPending_leaves hl n).1.get ?_
  rintro (ha | ⟨t, ht, ha⟩)
  · simp only [F.TLK_SEQ_CUM] at ha
    omega
  · simp only [ofEntry, inNotify, F.TLK_UNKNOWN_TALKER_C, F.TLK_WM_REGRESS_C, F.TLK_TALKER_STATE_STALLED] at *
    omega

end

/-! ## What becomes of a data frame -/

section
variable {s : State} {l : Nat} {f : List Byte} {load : Load}

/-- A frame counted leaves CUM and the lane's state. -/
theorem counted_leaves (hl : l < 1024) {c : Nat} (hc : 0x01000018 < c ∧ c < 0x01001000) :
    ((count ⟨c + 0x1000 * l, 47, 0⟩).run s).get ⟨c + 0x1000 * l, 47, 0⟩ = (s.get ⟨c + 0x1000 * l, 47, 0⟩ + 1) % 2 ^ 48 ∧
    ((count ⟨c + 0x1000 * l, 47, 0⟩).run s).get (F.TLK_SEQ_CUM l) = s.get (F.TLK_SEQ_CUM l) ∧
    ((count ⟨c + 0x1000 * l, 47, 0⟩).run s).laneState l = s.laneState l := by
  refine ⟨get_count_lane_same hl hc.2, ?_, ?_⟩
  · rw [F.TLK_SEQ_CUM, get_count_lane hl (Nat.ne_of_lt hc.1) (by decide)]
  · rw [State.laneState, State.laneState, F.TLK_STATUS_STATE, get_count_lane hl (by omega) (by decide)]

theorem run_dataFrame_early (hlinked : 3 ≤ s.laneState l) (hstate : s.laneState l < 6) :
    (dataFrame l load f).run s = (count (F.TLK_DATA_DISCARDED_C l)).run s := by
  have hstates : s.laneState l = 3 ∨ s.laneState l = 4 ∨ s.laneState l = 5 := by omega
  rcases hstates with h | h | h <;> rw [dataFrame, run_look, h] <;> rfl

theorem run_dataFrame_standby (hstate : s.laneState l = 7) :
    (dataFrame l load f).run s = (count (F.TLK_STANDBY_FRAMES_C l)).run s := by
  rw [dataFrame, run_look, hstate]
  rfl

/-- Without a data path a frame of an ACTIVE lane counts as discarded. -/
def pathless (l : Nat) (c : Bool) : Act := Act.when (!c) (count (F.TLK_DATA_DISCARDED_C l))

theorem pathless_laneWork (c : Bool) : (pathless l c).laneWork (ofLane l) := by simp [pathless, F.TLK_DATA_DISCARDED_C]

theorem pathless_lane (c : Bool) : ((pathless l c).run s).lane l = s.lane l := by
  cases c
  · exact run_count_lane
  · rfl

theorem pathless_get (hl : l < 1024) (c : Bool) {b m n : Nat} (hb : b < 0x01001000 ∧ b ≠ 0x01000170) :
    ((pathless l c).run s).get ⟨b + 0x1000 * l, m, n⟩ = s.get ⟨b + 0x1000 * l, m, n⟩ := by
  cases c
  · exact get_count_lane hl hb.2 hb.1
  · rfl

/-- The counting of a frame accepted, whose sequence number leads CUM and B to `next`. -/
def frameAccepted (l : Nat) (old next : Nat × Nat) (octets : Nat) : Act := Act.all [
  .win (fun w => { w with acked := if w.acked.any (fun e => e.1 = l) then w.acked else (l, old) :: w.acked }),
  put (F.TLK_SEQ_CUM l) next.1,
  onLane l (fun u => { u with bitmap := next.2 }),
  count (F.TLK_FRAMES_ACCEPTED_C l),
  countBy (F.TLK_OCTETS_ACCEPTED_C l) octets]

/-- What the counting of a frame accepted leaves. -/
theorem frameAccepted_leaves (hl : l < 1024) (old next : Nat × Nat) (octets : Nat) :
    LaneWork (ofLane l) s ((frameAccepted l old next octets).run s) ∧
    ((frameAccepted l old next octets).run s).get (F.TLK_SEQ_CUM l) = next.1 % 65536 ∧
    ((frameAccepted l old next octets).run s).lane l = { s.lane l with bitmap := next.2 } ∧
    ((frameAccepted l old next octets).run s).get (F.TLK_FRAMES_ACCEPTED_C l) = (s.get (F.TLK_FRAMES_ACCEPTED_C l) + 1) % 2 ^ 48 ∧
    ((frameAccepted l old next octets).run s).get (F.TLK_DATA_DISCARDED_C l) = s.get (F.TLK_DATA_DISCARDED_C l) ∧
    ((frameAccepted l old next octets).run s).laneState l = s.laneState l := by
  have hwork : (frameAccepted l old next octets).laneWork (ofLane l) := by
    simp [frameAccepted, F.TLK_SEQ_CUM, F.TLK_FRAMES_ACCEPTED_C, F.TLK_OCTETS_ACCEPTED_C]
  refine ⟨run_laneWork hwork s, ?_, ?_, ?_, ?_, ?_⟩
  all_goals simp only [frameAccepted, run_all_cons, run_all_nil]
  · rw [F.TLK_OCTETS_ACCEPTED_C, F.TLK_FRAMES_ACCEPTED_C, F.TLK_SEQ_CUM, get_countBy_lane hl _ (by decide) (by decide),
      get_count_lane hl (by decide) (by decide), run_onLane_get, get_put_row_same _ (by decide) (by decide)]
    rfl
  · rw [run_countBy_lane, run_count_lane, run_onLane_lane, run_put_lane]
    rfl
  · rw [F.TLK_OCTETS_ACCEPTED_C, F.TLK_FRAMES_ACCEPTED_C, F.TLK_SEQ_CUM, get_countBy_lane hl _ (by decide) (by decide),
      get_count_lane_same hl (by decide), run_onLane_get, get_put_row _ (by decide) (by decide) (by decide)]
    rfl
  · rw [F.TLK_OCTETS_ACCEPTED_C, F.TLK_FRAMES_ACCEPTED_C, F.TLK_DATA_DISCARDED_C, F.TLK_SEQ_CUM,
      get_countBy_lane hl _ (by decide) (by decide), get_count_lane hl (by decide) (by decide), run_onLane_get,
      get_put_row _ (by decide) (by decide) (by decide)]
    rfl
  · rw [State.laneState, State.laneState, F.TLK_STATUS_STATE, F.TLK_OCTETS_ACCEPTED_C, F.TLK_FRAMES_ACCEPTED_C, F.TLK_SEQ_CUM,
      get_countBy_lane hl _ (by decide) (by decide), get_count_lane hl (by decide) (by decide), run_onLane_get,
      get_put_row _ (by decide) (by decide) (by decide)]
    rfl

/-- What an ACTIVE lane does with a frame of class `c` that carries ACTIVE_PATH. -/
def classAct (s : State) (l : Nat) (load : Load) (f : List Byte) : SeqClass → Act
  | .duplicate => count (F.TLK_DUPLICATES_C l)
  | .outside => count (F.TLK_OUT_OF_WINDOW_C l)
  | .accept =>
    let next := accept (s.get (F.TLK_SEQ_CUM l)) (s.lane l).bitmap (num f 2 2)
    Act.all [
      .win (fun w => { w with acked := if w.acked.any (fun e => e.1 = l) then w.acked
        else (l, s.get (F.TLK_SEQ_CUM l), (s.lane l).bitmap) :: w.acked }),
      put (F.TLK_SEQ_CUM l) next.1,
      onLane l (fun u => { u with bitmap := next.2 }),
      count (F.TLK_FRAMES_ACCEPTED_C l),
      countBy (F.TLK_OCTETS_ACCEPTED_C l) (frameBody f).length,
      delivered l load f (s.has 0),
      applyPending l 4]

theorem run_classAct_accept (x : State) : (classAct s l load f .accept).run x =
    (applyPending l 4).run ((delivered l load f (s.has 0)).run ((frameAccepted l (s.get (F.TLK_SEQ_CUM l), (s.lane l).bitmap)
      (accept (s.get (F.TLK_SEQ_CUM l)) (s.lane l).bitmap (num f 2 2)) (frameBody f).length).run x)) := by
  simp only [classAct, frameAccepted, run_all_cons, run_all_nil]

variable (hstate : s.laneState l = 6)
include hstate

theorem run_dataFrame_demoted (hpath : bit (num f 1 1) 7 = false) :
    (dataFrame l load f).run s = (event (F.TLK_EVENTS_DEMOTED l)).run ((moveLane l 7).run s) := by
  rw [dataFrame, run_look, hstate, hpath]
  rfl

theorem run_dataFrame_active {c : SeqClass} (hpath : bit (num f 1 1) 7 = true)
    (hclass : classify (s.get (F.TLK_SEQ_CUM l)) (s.lane l).bitmap (num f 2 2) = c) :
    (dataFrame l load f).run s = (classAct s l load f c).run ((pathless l (s.has 0)).run s) := by
  rw [dataFrame, run_look, hstate, hpath]
  -- opaque in what follows: to compare two matches the kernel would compute the class
  obtain ⟨classOf, hclassOf⟩ : ∃ g, g = classify := ⟨_, rfl⟩
  rw [← hclassOf] at hclass ⊢
  dsimp only
  rw [hclass]
  cases c <;> rfl

end

/-! ## The clauses -/

section
variable {s u : State} {l : Nat} {rx : LaneRx} {load : Load} {f : List Byte}

/-- What an accepted frame leaves of a lane, apart from what it delivers. -/
theorem dataFrame_accepted (hl : l < 1024) (hstate : s.laneState l = 6) (hpath : bit (num f 1 1) 7 = true)
    (hclass : classify (s.get (F.TLK_SEQ_CUM l)) (s.lane l).bitmap (num f 2 2) = .accept) :
    ∃ t, (dataFrame l load f).run s = t ∧
      t.get (F.TLK_SEQ_CUM l) = (accept (s.get (F.TLK_SEQ_CUM l)) (s.lane l).bitmap (num f 2 2)).1 % 65536 ∧
      (t.lane l).bitmap = (accept (s.get (F.TLK_SEQ_CUM l)) (s.lane l).bitmap (num f 2 2)).2 ∧
      t.get (F.TLK_FRAMES_ACCEPTED_C l) = (s.get (F.TLK_FRAMES_ACCEPTED_C l) + 1) % 2 ^ 48 ∧ t.laneState l = 6 ∧
      t.flash = s.flash := by
  have hrun := run_dataFrame_active (load := load) hstate hpath hclass
  rw [run_classAct_accept] at hrun
  generalize hnext : accept (s.get (F.TLK_SEQ_CUM l)) (s.lane l).bitmap (num f 2 2) = next at *
  have hfirst := run_laneWork (pathless_laneWork (l := l) (s.has 0)) s
  have hframes : ((pathless l (s.has 0)).run s).get (F.TLK_FRAMES_ACCEPTED_C l) = s.get (F.TLK_FRAMES_ACCEPTED_C l) :=
    pathless_get hl _ (by decide)
  have hstands : ((pathless l (s.has 0)).run s).laneState l = s.laneState l := pathless_get hl _ (by decide)
  generalize (pathless l (s.has 0)).run s = x at *
  obtain ⟨hsecond, hcum, hlane, hcount, -, hkept⟩ := frameAccepted_leaves (s := x) hl (s.get (F.TLK_SEQ_CUM l), (s.lane l).bitmap) next
    (frameBody f).length
  generalize (frameAccepted l (s.get (F.TLK_SEQ_CUM l), (s.lane l).bitmap) next (frameBody f).length).run x = y at *
  have hthird := delivered_lane (s := y) (l := l) load f (s.has 0)
  have hflash := delivered_flash (s := y) (l := l) load f (s.has 0)
  have hget := fun b m n hb => delivered_get (s := y) hl load f (s.has 0) (b := b) (m := m) (n := n) hb
  generalize (delivered l load f (s.has 0)).run y = z at *
  obtain ⟨hlast, hbitmap, hseq⟩ := applyPending_leaves (s := z) hl 4
  have hgetLast := fun b m n hb => applyPending_get (s := z) hl 4 (b := b) (m := m) (k := n) hb
  refine ⟨_, hrun, ?_, ?_, ?_, ?_, ?_⟩
  · rw [hseq]
    exact (hget _ _ _ (by decide)).trans hcum
  · rw [hbitmap, hthird, hlane]
  · rw [← hframes, ← hcount]
    exact (hgetLast _ _ _ (by decide)).trans (hget _ _ _ (by decide))
  · rw [← hstate, ← hstands, ← hkept]
    exact (hgetLast _ _ _ (by decide)).trans (hget _ _ _ (by decide))
  · rw [hlast.flash, hflash, hsecond.flash, hfirst.flash]

/-- On a part without a data path an accepted frame is discarded and counted. -/
theorem dataFrame_accepted_pathless (hl : l < 1024) (hstate : s.laneState l = 6) (hpath : bit (num f 1 1) 7 = true)
    (hhas : s.has 0 = false) (hnone : (s.lane l).pending = [])
    (hclass : classify (s.get (F.TLK_SEQ_CUM l)) (s.lane l).bitmap (num f 2 2) = .accept) :
    ∃ t, (dataFrame l load f).run s = t ∧
      t.get (F.TLK_DATA_DISCARDED_C l) = (s.get (F.TLK_DATA_DISCARDED_C l) + 1) % 2 ^ 48 ∧
      t.get (F.TLK_FRAMES_ACCEPTED_C l) = (s.get (F.TLK_FRAMES_ACCEPTED_C l) + 1) % 2 ^ 48 ∧ LaneWork (ofLane l) s t := by
  have hrun := run_dataFrame_active (load := load) hstate hpath hclass
  rw [run_classAct_accept, hhas, delivered, run_when_false] at hrun
  generalize hnext : accept (s.get (F.TLK_SEQ_CUM l)) (s.lane l).bitmap (num f 2 2) = next at *
  have hfirst := run_laneWork (pathless_laneWork (l := l) false) s
  have hframes : ((pathless l false).run s).get (F.TLK_FRAMES_ACCEPTED_C l) = s.get (F.TLK_FRAMES_ACCEPTED_C l) :=
    pathless_get hl _ (by decide)
  have hdiscarded : ((pathless l false).run s).get (F.TLK_DATA_DISCARDED_C l) = (s.get (F.TLK_DATA_DISCARDED_C l) + 1) % 2 ^ 48 :=
    get_count_lane_same hl (by decide)
  have hunit := pathless_lane (s := s) (l := l) false
  generalize (pathless l false).run s = x at *
  obtain ⟨hsecond, -, hlane, hcount, hkept, -⟩ := frameAccepted_leaves (s := x) hl (s.get (F.TLK_SEQ_CUM l), (s.lane l).bitmap) next
    (frameBody f).length
  generalize (frameAccepted l (s.get (F.TLK_SEQ_CUM l), (s.lane l).bitmap) next (frameBody f).length).run x = y at *
  rw [run_applyPending_none (by rw [hlane, hunit]; exact hnone)] at hrun
  exact ⟨y, hrun, hkept.trans hdiscarded, by rw [hcount, hframes], hfirst.trans hsecond⟩

/-- A duplicate or a frame out of the window is only counted. -/
theorem dataFrame_refused (hl : l < 1024) (hstate : s.laneState l = 6) (hpath : bit (num f 1 1) 7 = true)
    {c : SeqClass} (hclass : classify (s.get (F.TLK_SEQ_CUM l)) (s.lane l).bitmap (num f 2 2) = c) (hne : c ≠ .accept) :
    ∃ t, (dataFrame l load f).run s = t ∧
      (if c = .duplicate then t.get (F.TLK_DUPLICATES_C l) = (s.get (F.TLK_DUPLICATES_C l) + 1) % 2 ^ 48
        else t.get (F.TLK_OUT_OF_WINDOW_C l) = (s.get (F.TLK_OUT_OF_WINDOW_C l) + 1) % 2 ^ 48) ∧
      t.get (F.TLK_SEQ_CUM l) = s.get (F.TLK_SEQ_CUM l) ∧ t.lane l = s.lane l ∧ t.laneState l = 6 ∧ LaneWork (ofLane l) s t := by
  have hrun := run_dataFrame_active (load := load) hstate hpath hclass
  have hfirst := run_laneWork (pathless_laneWork (l := l) (s.has 0)) s
  have hget := fun b m n hb => pathless_get (s := s) hl (s.has 0) (b := b) (m := m) (n := n) hb
  have hunit := pathless_lane (s := s) (l := l) (s.has 0)
  generalize (pathless l (s.has 0)).run s = x at *
  have hcum : x.get (F.TLK_SEQ_CUM l) = s.get (F.TLK_SEQ_CUM l) := hget _ _ _ (by decide)
  have hstands : x.laneState l = 6 := (hget _ _ _ (by decide)).trans hstate
  cases c with
  | accept => exact absurd rfl hne
  | duplicate =>
    have hold : x.get (F.TLK_DUPLICATES_C l) = s.get (F.TLK_DUPLICATES_C l) := hget _ _ _ (by decide)
    obtain ⟨hcount, hseq, hstill⟩ := counted_leaves (s := x) hl (c := 0x01000118) (by decide)
    refine ⟨_, hrun, ?_, hseq.trans hcum, run_count_lane.trans hunit, hstill.trans hstands,
      hfirst.trans (run_laneWork (count_ofLane (ofLane_row (by decide))) _)⟩
    rw [if_pos rfl, ← hold]
    exact hcount
  | outside =>
    have hold : x.get (F.TLK_OUT_OF_WINDOW_C l) = s.get (F.TLK_OUT_OF_WINDOW_C l) := hget _ _ _ (by decide)
    obtain ⟨hcount, hseq, hstill⟩ := counted_leaves (s := x) hl (c := 0x01000130) (by decide)
    refine ⟨_, hrun, ?_, hseq.trans hcum, run_count_lane.trans hunit, hstill.trans hstands,
      hfirst.trans (run_laneWork (count_ofLane (ofLane_row (by decide))) _)⟩
    rw [if_neg (by decide), ← hold]
    exact hcount

/-- A frame without ACTIVE_PATH leads an ACTIVE lane to STANDBY. -/
theorem dataFrame_demoted (hstate : s.laneState l = 6) (hpath : bit (num f 1 1) 7 = false) (hfenced : s.fenced = false)
    (hpending : s.pending = []) :
    ∃ t, (dataFrame l load f).run s = t ∧ t.laneState l = 7 ∧ t.get (F.TLK_EVENTS_DEMOTED l) = 1 ∧
      t.get (F.TLK_SEQ_CUM l) = s.get (F.TLK_SEQ_CUM l) ∧ LaneWork (ofLane l) s t := by
  have hrun := run_dataFrame_demoted (load := load) hstate hpath
  have hmoved : Entered l 7 s ((moveLane l 7).run s) := moveLane_entered hfenced hpending (by decide) (by omega)
  generalize (moveLane l 7).run s = x at *
  have hevent : (event (F.TLK_EVENTS_DEMOTED l)).laneWork (ofLane l) := by simp [F.TLK_EVENTS_DEMOTED]
  refine ⟨_, hrun, ?_, ?_, ?_, (hmoved.work.mono fun _ => ofLane_of_ofMove).trans (run_laneWork hevent x)⟩
  · rw [← hmoved.state, State.laneState, State.laneState, F.TLK_STATUS_STATE, F.TLK_EVENTS_DEMOTED,
      get_event_row (by decide) (by decide) (by decide)]
  · rw [F.TLK_EVENTS_DEMOTED, get_event_row_same (by decide)]
  · rw [F.TLK_SEQ_CUM, F.TLK_EVENTS_DEMOTED, get_event_row (by decide) (by decide) (by decide)]
    exact hmoved.get (by decide)

/-- A frame that the lane's state only counts, in counter `c`. -/
theorem dataFrame_counted {c : Nat} (hc : 0x01000158 < c ∧ c < 0x01001000) (hu : Received l s u)
    {t : State} (ht : t = (count ⟨c + 0x1000 * l, 47, 0⟩).run u) :
    t.get ⟨c + 0x1000 * l, 47, 0⟩ = (s.get ⟨c + 0x1000 * l, 47, 0⟩ + 1) % 2 ^ 48 ∧
      t.get (F.TLK_SEQ_CUM l) = s.get (F.TLK_SEQ_CUM l) ∧ t.laneState l = s.laneState l ∧ t.units.cal = s.units.cal ∧
      (∀ a, ¬ (inLane l a ∨ inQueueBlocks a) → t.rd a = s.rd a) ∧ t.flash = s.flash := by
  have hold : u.get ⟨c + 0x1000 * l, 47, 0⟩ = s.get ⟨c + 0x1000 * l, 47, 0⟩ := hu.get (by omega)
  obtain ⟨hcount, hseq, hstill⟩ := counted_leaves (s := u) hu.talking (c := c) (by omega)
  have hwork := hu.laneFrame (run_laneWork (count_ofLane (f := ⟨c + 0x1000 * l, 47, 0⟩) (ofLane_row (by omega))) u) fun _ => id
  rw [ht]
  exact ⟨hold ▸ hcount, hseq.trans hu.cum, hstill.trans hu.laneState, hwork.cal, hwork.rd, hwork.flash⟩

end

/-! ## The statement -/

/-- Settles O7: behind the checks of a frame its class decides, and what each class leaves is read off the steps of its program. -/
theorem uplinkDataFrames : Obligations.UplinkDataFrames := by
  unfold Obligations.UplinkDataFrames
  refine ⟨fun s l rx load htaken hstate hpath hclass => ?accepted,
    fun s l rx load htaken hstate hpath hhas hnone hclass => ?pathless,
    fun s l rx load htaken hstate hpath hclass => ?refused,
    fun s l rx load htaken hstate hpath hfenced hpending => ?demoted, fun s l rx load htaken hstate => ?early,
    fun s l rx load htaken hstate => ?standby, fun s l rx load => laneFrame_unsound load,
    fun s l rx load => laneFrame_malformed load, fun s l rx load => laneFrame_silent load⟩
  all_goals
    obtain ⟨u, hu, hrun⟩ := run_laneFrame_taken (load := load) htaken
    have hlinked := (frameTaken_iff.mp htaken).linked
    have hbitmap : (u.lane l).bitmap = (s.lane l).bitmap := by rw [hu.unit]
  case accepted =>
    have hframes : u.get (F.TLK_FRAMES_ACCEPTED_C l) = s.get (F.TLK_FRAMES_ACCEPTED_C l) := hu.get (by decide)
    obtain ⟨t, ht, hseq, hmap, hcount, hactive, hflash⟩ := dataFrame_accepted (load := load) (f := rx.bytes) hu.talking
      (hu.laneState.trans hstate) hpath (by rw [hu.cum, hbitmap]; exact hclass)
    rw [hu.cum, hbitmap] at hseq hmap
    exact ⟨t, congrArg Host.Outcome.next (hrun.trans ht), hseq, hmap, hframes ▸ hcount, hactive, hflash.trans hu.work.flash⟩
  case pathless =>
    have hframes : u.get (F.TLK_FRAMES_ACCEPTED_C l) = s.get (F.TLK_FRAMES_ACCEPTED_C l) := hu.get (by decide)
    have hdiscarded : u.get (F.TLK_DATA_DISCARDED_C l) = s.get (F.TLK_DATA_DISCARDED_C l) := hu.get (by decide)
    obtain ⟨t, ht, hlost, hcount, hwork⟩ := dataFrame_accepted_pathless (load := load) (f := rx.bytes) hu.talking
      (hu.laneState.trans hstate) hpath ((hu.work.has 0).trans hhas) (by rw [hu.unit]; exact hnone)
      (by rw [hu.cum, hbitmap]; exact hclass)
    have hall := hu.laneFrame hwork fun _ => id
    exact ⟨t, congrArg Host.Outcome.next (hrun.trans ht), hdiscarded ▸ hlost, hframes ▸ hcount, hall.rd, hall.flash⟩
  case refused =>
    have hduplicates : u.get (F.TLK_DUPLICATES_C l) = s.get (F.TLK_DUPLICATES_C l) := hu.get (by decide)
    have houtside : u.get (F.TLK_OUT_OF_WINDOW_C l) = s.get (F.TLK_OUT_OF_WINDOW_C l) := hu.get (by decide)
    obtain ⟨t, ht, hcount, hseq, hlane, hactive, hwork⟩ := dataFrame_refused (load := load) (f := rx.bytes) hu.talking
      (hu.laneState.trans hstate) hpath rfl (by rw [hu.cum, hbitmap]; exact hclass)
    have hall := hu.laneFrame hwork fun _ => id
    rw [hu.cum, hbitmap, hduplicates, houtside] at hcount
    exact ⟨t, congrArg Host.Outcome.next (hrun.trans ht), hcount, hseq.trans hu.cum, by rw [hlane, hbitmap], hactive, hall.cal,
      hall.rd, hall.flash⟩
  case demoted =>
    obtain ⟨t, ht, hstandby, hevent, hseq, hwork⟩ := dataFrame_demoted (load := load) (f := rx.bytes) (hu.laneState.trans hstate) hpath
      (hu.fenced.trans hfenced) (hu.pending.trans hpending)
    have hall := hu.laneFrame hwork fun _ => id
    exact ⟨t, congrArg Host.Outcome.next (hrun.trans ht), hstandby, hevent, hseq.trans hu.cum, hall.cal, hall.rd, hall.flash⟩
  case early =>
    have ht := run_dataFrame_early (load := load) (f := rx.bytes) (hu.laneState.symm ▸ hlinked) (hu.laneState.symm ▸ hstate)
    exact ⟨_, rfl, dataFrame_counted (by decide) hu (hrun.trans ht)⟩
  case standby =>
    have ht := run_dataFrame_standby (load := load) (f := rx.bytes) (hu.laneState.trans hstate)
    obtain ⟨hcount, hseq, hkept, hframe⟩ := dataFrame_counted (by decide) hu (hrun.trans ht)
    exact ⟨_, rfl, hcount, hseq, hkept.trans hstate, hframe⟩

end Sys2Proof.Machine
end

section
/-! Commands of FLT_COMMIT (R107, R183, R185, R187, R620): what a command that starts, or is answered at once, leaves. -/

namespace Sys2Proof.Machine

/-! ## The end of a command -/

section
variable {r : Nat} {s : State}

/-- Ending a command changes RESULT and DONE alone. -/
theorem get_bankDone_other {g : Field} (hm : g.msb < 64)
    (h : g.addr ≠ F.FLT_BANK_STATUS_STATE.addr ∨ (g.msb < 31 ∧ 7 < g.lsb)) : ((bankDone r).run s).get g = s.get g := by
  rw [bankDone, run_seq, get_event_other _ _ _ (by decide) hm, get_put_other _ _ _ _ (by decide) hm]
  · exact h.imp Ne.symm fun hbits => .inr hbits.2
  · exact h.imp Ne.symm fun hbits => .inl hbits.1

theorem get_bankDone_result (hr : r < 256) : ((bankDone r).run s).get F.FLT_BANK_STATUS_RESULT = r := by
  rw [bankDone, run_seq, get_event_other _ _ _ (by decide) (by decide) (by decide), get_put_same _ _ _ (by decide) (by decide)]
  exact Nat.mod_eq_of_lt hr

theorem get_bankDone_done : ((bankDone r).run s).get F.FLT_BANK_STATUS_DONE = 1 := get_event_bit rfl (by decide)

theorem bankDone_within : (bankDone r).within (· = F.FLT_BANK_STATUS_STATE.addr) := ⟨put_in _ rfl, event_in rfl⟩

theorem rd_bankDone {a : Nat} (h : a ≠ F.FLT_BANK_STATUS_STATE.addr) : ((bankDone r).run s).rd a = s.rd a :=
  rd_within bankDone_within h s

end

/-! ## What becomes of a command -/

section
variable {w : Nat} {v : Word} {go : Act} {s : State}

theorem run_bankCommand_busy (h : s.bankBusy = true) :
    (bankCommand w v go).run s = (bankDone 5).run ((event F.FLT_BANK_STATUS_REFUSED).run s) := by
  rw [bankCommand, run_look, if_pos h, run_seq]

theorem run_bankCommand_denied (hidle : s.bankBusy = false) (h : w ≠ 0 ∨ getBits v 31 16 ≠ 0xA5C3) :
    (bankCommand w v go).run s = (bankDone 4).run s := by
  have hdenied : (decide (w ≠ 0) || decide (getBits v 31 16 ≠ 0xA5C3)) = true := by simpa using h
  rw [bankCommand, run_look, if_neg (by simp [hidle]), if_pos hdenied]

theorem run_bankCommand_granted (hidle : s.bankBusy = false) (hkey : getBits v 31 16 = 0xA5C3) :
    (bankCommand 0 v go).run s = go.run s := by
  rw [bankCommand, run_look, if_neg (by simp [hidle]), if_neg (by simp [hkey])]

/-- The bank logic that is not busy swaps and copies nothing (R185). -/
theorem bankBusy_eq_false : s.bankBusy = false ↔ s.get F.FLT_BANK_STATUS_STATE = 0 ∧ s.get F.FLT_BANK_STATUS_COPYING = 0 := by
  simp [State.bankBusy, State.is]

end

/-! ## Behind the count of the write (R107) -/

/-- From `s` to `u` the write has been counted, and nothing else. -/
structure Counted (s u : State) : Prop extends Tallied (fun a => a = F.IMG_VOLATILE_WRITES_COUNT.addr) s u where
  units : u.units = s.units

/-- A row of the filter or of a stream, below half the range of the count of writes. -/
theorem run_filterRow (w : Nat) (f : Field) (a : Act) {s : State} (hhas : s.has 0 = true)
    (hcount : s.get F.IMG_VOLATILE_WRITES_COUNT + 1 < 2 ^ 47) :
    ∃ u, Counted s u ∧ (adjusts w f (Act.when (s.has 0) a)).run s = a.run u := by
  obtain ⟨u, hu, hunits, hrun⟩ := run_adjusts_below_half w f (Act.when (s.has 0) a) hcount
  exact ⟨u, ⟨hu, hunits⟩, by rw [hrun, hhas, run_when_true]⟩

/-- The row of a command `go` of FLT_COMMIT whose bit is written. -/
theorem run_bankRow (w : Nat) (v : Word) (f : Field) (go : Act) {b : Bool} {s : State} (hhas : s.has 0 = true) (hbit : b = true)
    (hcount : s.get F.IMG_VOLATILE_WRITES_COUNT + 1 < 2 ^ 47) :
    ∃ u, Counted s u ∧
      (adjusts w f (Act.when (s.has 0) (Act.when b (bankCommand w v go)))).run s = (bankCommand w v go).run u := by
  rw [hbit]
  exact run_filterRow w f _ hhas hcount

/-- Such a row whose program does nothing, or of a part without a filter, only counts the write. -/
theorem run_filterRow_none (w : Nat) (f : Field) {a : Act} {s : State} (h : (∀ u, a.run u = u) ∨ s.has 0 = false)
    (hcount : s.get F.IMG_VOLATILE_WRITES_COUNT + 1 < 2 ^ 47) :
    ∃ u, Counted s u ∧ (adjusts w f (Act.when (s.has 0) a)).run s = u := by
  obtain ⟨u, hu, hunits, hrun⟩ := run_adjusts_below_half w f (Act.when (s.has 0) a) hcount
  refine ⟨u, ⟨hu, hunits⟩, hrun.trans ?_⟩
  rcases h with h | h
  · cases s.has 0
    · rfl
    · exact h u
  · rw [h, run_when_false]

theorem Counted.bankBusy {s u : State} (h : Counted s u) : u.bankBusy = s.bankBusy := by
  rw [State.bankBusy, State.is, h.get (by decide), h.get (by decide)]; rfl

/-! ## What an answer leaves (R185, R620) -/

/-- A command has ended with a RESULT: DONE is set, the swap or copy in progress goes on, and no other register changes but
the count of the write. -/
structure BankAnswered (result : Nat) (s t : State) : Prop where
  result : t.get F.FLT_BANK_STATUS_RESULT = result
  done : t.get F.FLT_BANK_STATUS_DONE = 1
  state : t.get F.FLT_BANK_STATUS_STATE = s.get F.FLT_BANK_STATUS_STATE
  copying : t.get F.FLT_BANK_STATUS_COPYING = s.get F.FLT_BANK_STATUS_COPYING
  units : t.units = s.units
  keep : t.keep = s.keep
  out : t.out = s.out
  active : t.get F.FLT_BANK_STATUS_ACTIVE_BANK = s.get F.FLT_BANK_STATUS_ACTIVE_BANK
  lost : t.get F.FLT_BANK_STATUS_WRITE_LOST = s.get F.FLT_BANK_STATUS_WRITE_LOST
  rd : ∀ a, ¬ (a = F.FLT_BANK_STATUS_STATE.addr ∨ a = F.IMG_VOLATILE_WRITES_COUNT.addr) → t.rd a = s.rd a
  force : t.force = s.force
  flash : t.flash = s.flash

section
variable {s u : State} (h : Counted s u)
include h

theorem Counted.denied : BankAnswered 4 s ((bankDone 4).run u) where
  result := get_bankDone_result (by decide)
  done := get_bankDone_done
  state := (get_bankDone_other (by decide) (by decide)).trans (h.get (by decide))
  copying := (get_bankDone_other (by decide) (by decide)).trans (h.get (by decide))
  units := h.units
  keep := h.keep
  out := h.out
  active := (get_bankDone_other (by decide) (by decide)).trans (h.get (by decide))
  lost := (get_bankDone_other (by decide) (by decide)).trans (h.get (by decide))
  rd a ha := (rd_bankDone (not_or.mp ha).1).trans (h.rd a (not_or.mp ha).2)
  force := h.force
  flash := h.flash

/-- A field of FLT_BANK_STATUS behind a refusal, neither REFUSED nor of the answer. -/
theorem Counted.get_refused {g : Field} (hg : g.addr = F.FLT_BANK_STATUS_STATE.addr) (hm : g.msb < 30) (hl : 7 < g.lsb) :
    ((bankDone 5).run ((event F.FLT_BANK_STATUS_REFUSED).run u)).get g = s.get g := by
  rw [get_bankDone_other (by omega) (.inr ⟨by omega, hl⟩), get_event_other _ _ _ (by decide) (by omega) (.inr (.inl hm)),
    h.get (by rw [hg]; decide)]

theorem Counted.refused : BankAnswered 5 s ((bankDone 5).run ((event F.FLT_BANK_STATUS_REFUSED).run u)) where
  result := get_bankDone_result (by decide)
  done := get_bankDone_done
  state := h.get_refused rfl (by decide) (by decide)
  copying := h.get_refused rfl (by decide) (by decide)
  units := h.units
  keep := h.keep
  out := h.out
  active := h.get_refused rfl (by decide) (by decide)
  lost := h.get_refused rfl (by decide) (by decide)
  rd a ha := (rd_bankDone (not_or.mp ha).1).trans
    ((rd_event_other (f := F.FLT_BANK_STATUS_REFUSED) (not_or.mp ha).1).trans (h.rd a (not_or.mp ha).2))
  force := h.force
  flash := h.flash

end

theorem get_refused_refused (u : State) :
    ((bankDone 5).run ((event F.FLT_BANK_STATUS_REFUSED).run u)).get F.FLT_BANK_STATUS_REFUSED = 1 :=
  (get_bankDone_other (by decide) (by decide)).trans (get_event_bit rfl (by decide))

/-! ## The rows of SWAP and COPY -/

section
variable {w : Nat} {v : Word} (f : Field) (go : Act) {b : Bool} {s : State} (hhas : s.has 0 = true) (hbit : b = true)
  (hcount : s.get F.IMG_VOLATILE_WRITES_COUNT + 1 < 2 ^ 47)
include hhas hbit hcount

theorem bankRow_busy (hbusy : s.bankBusy = true) :
    ∃ t, (adjusts w f (Act.when (s.has 0) (Act.when b (bankCommand w v go)))).run s = t ∧
      t.get F.FLT_BANK_STATUS_REFUSED = 1 ∧ BankAnswered 5 s t := by
  obtain ⟨u, hu, hrun⟩ := run_bankRow w v f go hhas hbit hcount
  exact ⟨_, hrun.trans (run_bankCommand_busy (hu.bankBusy.trans hbusy)), get_refused_refused u, hu.refused⟩

theorem bankRow_denied (hidle : s.bankBusy = false) (hdenied : w ≠ 0 ∨ getBits v 31 16 ≠ 0xA5C3) :
    ∃ t, (adjusts w f (Act.when (s.has 0) (Act.when b (bankCommand w v go)))).run s = t ∧
      t.get F.FLT_BANK_STATUS_REFUSED = s.get F.FLT_BANK_STATUS_REFUSED ∧ BankAnswered 4 s t := by
  obtain ⟨u, hu, hrun⟩ := run_bankRow w v f go hhas hbit hcount
  exact ⟨_, hrun.trans (run_bankCommand_denied (hu.bankBusy.trans hidle) hdenied),
    (get_bankDone_other (by decide) (by decide)).trans (hu.get (by decide)), hu.denied⟩

end

/-! ## What a start leaves (R183 step 1, R187) -/

/-- A swap or a copy has started: of FLT_BANK_STATUS only what shows it, then its bit of FLT_COMMIT, and no other register
but the count of the write. -/
structure BankStarted (commit : Field) (s t : State) : Prop where
  units : t.units = s.units
  keep : t.keep = s.keep
  out : t.out = s.out
  active : t.get F.FLT_BANK_STATUS_ACTIVE_BANK = s.get F.FLT_BANK_STATUS_ACTIVE_BANK
  lost : t.get F.FLT_BANK_STATUS_WRITE_LOST = s.get F.FLT_BANK_STATUS_WRITE_LOST
  result : t.get F.FLT_BANK_STATUS_RESULT = s.get F.FLT_BANK_STATUS_RESULT
  rd : ∀ a, ¬ (a = F.FLT_BANK_STATUS_STATE.addr ∨ a = commit.addr ∨ a = F.IMG_VOLATILE_WRITES_COUNT.addr) → t.rd a = s.rd a
  force : t.force = s.force
  flash : t.flash = s.flash

/-- `shown` is STATE or COPYING, `commit` SWAP or COPY. -/
theorem Counted.started {s u : State} (h : Counted s u) {shown commit : Field} (v : Nat)
    (hshown : shown.addr = F.FLT_BANK_STATUS_STATE.addr ∧ 8 ≤ shown.lsb ∧ shown.lsb ≤ shown.msb ∧ shown.msb < 28)
    (hcommit : commit.addr = F.FLT_COMMIT_SWAP.addr ∧ commit.lsb ≤ commit.msb) :
    BankStarted commit s ((Act.seq (put shown v) (put commit 1)).run u) := by
  obtain ⟨hstatus, hlow, hbits, hhigh⟩ := hshown
  have hother : ∀ g : Field, g.addr = F.FLT_BANK_STATUS_STATE.addr → g.msb < 64 → g.msb < 8 ∨ 28 ≤ g.lsb →
      ((Act.seq (put shown v) (put commit 1)).run u).get g = s.get g := fun g hg hm hapart => by
    have hne : commit.addr ≠ g.addr := by rw [hcommit.1, hg]; decide
    rw [run_seq, get_put_other _ _ _ _ hcommit.2 hm (.inl hne), get_put_other _ _ _ _ hbits hm (.inr (by omega)),
      h.get (by rw [hg]; decide)]
  refine ⟨h.units, h.keep, h.out, hother _ rfl (by decide) (by decide), hother _ rfl (by decide) (by decide),
    hother _ rfl (by decide) (by decide), fun a ha => ?_, h.force, h.flash⟩
  obtain ⟨hstate, hne, hcount⟩ := by simpa only [not_or] using ha
  rw [run_seq, rd_put_other _ _ _ hne, rd_put_other _ _ _ (by rw [hstatus]; exact hstate), h.rd a hcount]

end Sys2Proof.Machine
end

section
/-! The two views of the rule banks and the staged values of the filter (R183, R187): words that change places, words that are
copied, and words put in force. -/

namespace Sys2Proof.Machine

/-! ## Where a located register lies -/

/-- The end of the addresses that a register's heading takes. -/
def RegRow.bound (row : RegRow) : Nat :=
  match row.axes with
  | [] => row.base + row.bytes
  | x :: _ => row.base + x.count * x.stride

theorem lt_of_indices {x : Axis} {xs : List Axis} {off : Nat} {r : List Nat × Nat} (hx : 0 < x.stride)
    (h : indices (x :: xs) off = some r) : off < x.count * x.stride := by
  have hdiv : off / x.stride < x.count := by
    by_contra hge
    simp [indices, hge] at h
  exact (Nat.div_lt_iff_lt_mul hx).mp hdiv

theorem find_range {row : RegRow} {a : Nat} {r : List Nat × Nat} (hstride : ∀ x ∈ row.axes, 0 < x.stride)
    (h : row.find a = some r) : row.base ≤ a ∧ a < row.bound := by
  unfold RegRow.find at h
  split at h
  case isTrue => cases h
  case isFalse hbase =>
    refine ⟨Nat.le_of_not_lt hbase, ?_⟩
    unfold RegRow.bound
    split at h
    case h_2 => cases h
    case h_1 is o hi =>
      split
      case h_1 hnil =>
        rw [hnil] at hi
        cases hi
        split at h
        · omega
        · cases h
      case h_2 x xs hcons =>
        rw [hcons] at hi
        have hoff := lt_of_indices (hstride x (by simp [hcons])) hi
        omega

theorem mem_of_findIn {rs : List Reg} {a : Nat} {x : Reg × List Nat × Nat} (h : findIn rs a = some x) : x.1 ∈ rs := by
  induction rs with
  | nil => cases h
  | cons q rs ih =>
    simp only [findIn] at h
    split at h
    · cases h
      exact List.mem_cons_self
    · exact List.mem_cons_of_mem _ (ih h)

/-! ## The reset value of the banks -/

/-- Of the filter's and the streams' registers only the two views of the banks lie there. -/
theorem bankRegs : ∀ r ∈ Reg.ofRegion 9, (∀ x ∈ r.row.axes, 0 < x.stride) ∧
    (r.row.base < 0x02300000 → 0x02100000 < r.row.bound → r = .FLT_RULE ∨ r = .FLT_RULE_ACTIVE) := by decide

theorem resetWord_bank {a : Nat} (h : 0x02100000 ≤ a ∧ a < 0x02300000) : resetWord a = 0 := by
  have hregion : regionOf a = 9 := by
    have : a / 0x01000000 = 2 := by omega
    rw [regionOf, if_neg (by omega), if_pos (by omega), this]
  unfold resetWord
  split
  case h_1 => rfl
  case h_2 r is o hloc =>
    have hfind : findIn (Reg.ofRegion 9) a = some (r, is, o) := by rw [← hregion]; exact hloc
    obtain ⟨hstride, hbank⟩ := bankRegs r (mem_of_findIn hfind)
    obtain ⟨hbase, hbound⟩ := find_range hstride (find_of_findIn hfind)
    split
    · rfl
    · rcases hbank (by omega) (by omega) with rfl | rfl <;> rfl

/-! ## Lists of indices -/

theorem mem_once {l : List Nat} {x : Nat} : x ∈ once l ↔ x ∈ l := by
  have hfold : ∀ (l acc : List Nat),
      x ∈ l.foldl (fun acc y => if acc.contains y then acc else acc ++ [y]) acc ↔ x ∈ acc ∨ x ∈ l := by
    intro l
    induction l with
    | nil => simp
    | cons y l ih =>
      intro acc
      rw [List.foldl_cons, ih]
      by_cases hy : y ∈ acc
      · have hc : acc.contains y = true := List.contains_iff_mem.mpr hy
        rw [if_pos hc, List.mem_cons]
        constructor
        · exact fun h => h.imp_right .inr
        · rintro (h | rfl | h)
          · exact .inl h
          · exact .inl hy
          · exact .inr h
      · have hc : ¬ acc.contains y = true := fun h => hy (List.contains_iff_mem.mp h)
        rw [if_neg hc, List.mem_append, List.mem_singleton, List.mem_cons, or_assoc]
  exact (hfold l []).trans (or_iff_right List.not_mem_nil)

/-- Registers written to the words that `g` names. -/
theorem run_each_reg (l : List Nat) (g : Nat → Word) (s : State) :
    ∃ r, (Act.each l (fun a => .reg a (g a))).run s = { s with regs := r } ∧
      ∀ a, Sparse.get resetWord r a = if a ∈ l then g a else s.rd a := by
  induction l generalizing s with
  | nil => exact ⟨s.regs, rfl, fun _ => rfl⟩
  | cons x l ih =>
    obtain ⟨r, hrun, hget⟩ := ih ((Act.reg x (g x)).run s)
    refine ⟨r, hrun, fun a => ?_⟩
    rw [hget a, rd_reg]
    by_cases hl : a ∈ l
    · simp [hl]
    · by_cases hx : a = x
      · simp [hx]
      · simp [hl, hx]

/-! ## Offsets of the banks that hold a word -/

theorem mem_bankWords {s : State} {o : Nat} : o ∈ s.bankWords ↔
    o < 0x100000 ∧ (0x02100000 + o ∈ s.regs.map (·.1) ∨ 0x02200000 + o ∈ s.regs.map (·.1)) := by
  simp only [State.bankWords, mem_once, List.mem_filterMap, List.mem_map]
  constructor
  · rintro ⟨e, he, hoff⟩
    split_ifs at hoff with hshadow hactive
    · simp only [Bool.and_eq_true, decide_eq_true_eq, Option.some.injEq] at hshadow hoff
      exact ⟨by omega, .inl ⟨e, he, by omega⟩⟩
    · simp only [Bool.and_eq_true, decide_eq_true_eq, Option.some.injEq] at hactive hoff
      exact ⟨by omega, .inr ⟨e, he, by omega⟩⟩
  · rintro ⟨ho, ⟨e, he, heq⟩ | ⟨e, he, heq⟩⟩
    · exact ⟨e, he, by simp [heq]; omega⟩
    · exact ⟨e, he, by simp [heq]; omega⟩

/-- A word that no offset holds reads zero in both views. -/
theorem rd_of_not_mem_bankWords {s : State} {o : Nat} (ho : o < 0x100000) (h : o ∉ s.bankWords) :
    s.rd (0x02100000 + o) = 0 ∧ s.rd (0x02200000 + o) = 0 := by
  obtain ⟨hshadow, hactive⟩ := not_or.mp fun hlisted => h (mem_bankWords.mpr ⟨ho, hlisted⟩)
  exact ⟨(Sparse.get_unlisted resetWord hshadow).trans (resetWord_bank (by omega)),
    (Sparse.get_unlisted resetWord hactive).trans (resetWord_bank (by omega))⟩

/-! ## The views change places (R183 step 3) -/

/-- The word that the other view of the banks holds for an address. -/
def State.otherView (s : State) (a : Nat) : Word := if a < 0x02200000 then s.rd (a + 0x100000) else s.rd (a - 0x100000)

theorem otherView_shadow {s : State} {o : Nat} (ho : o < 0x100000) : s.otherView (0x02100000 + o) = s.rd (0x02200000 + o) := by
  rw [State.otherView, if_pos (by omega), show 0x02100000 + o + 0x100000 = 0x02200000 + o by omega]

theorem otherView_active {s : State} {o : Nat} : s.otherView (0x02200000 + o) = s.rd (0x02100000 + o) := by
  rw [State.otherView, if_neg (by omega), show 0x02200000 + o - 0x100000 = 0x02100000 + o by omega]

theorem run_swapViews (s : State) {l : List Nat} (hl : ∀ o ∈ l, o < 0x100000) (x : State) :
    (Act.each l (fun o => .seq (.reg (0x02100000 + o) (s.rd (0x02200000 + o)))
      (.reg (0x02200000 + o) (s.rd (0x02100000 + o))))).run x =
    (Act.each (l.flatMap fun o => [0x02100000 + o, 0x02200000 + o]) (fun a => .reg a (s.otherView a))).run x := by
  induction l generalizing x with
  | nil => rfl
  | cons o l ih =>
    rw [run_each_cons, ih fun k hk => hl k (List.mem_cons_of_mem o hk), ← otherView_shadow (hl o List.mem_cons_self),
      ← otherView_active (s := s) (o := o)]
    rfl

/-- The program by which the views of the banks change places. -/
def swapViews (s : State) : Act := Act.each s.bankWords (fun o =>
  .seq (.reg (0x02100000 + o) (s.rd (0x02200000 + o))) (.reg (0x02200000 + o) (s.rd (0x02100000 + o))))

theorem run_swapBanks (s : State) : ∃ r, (swapViews s).run s = { s with regs := r } ∧
    (∀ o, o < 0x100000 → Sparse.get resetWord r (0x02100000 + o) = s.rd (0x02200000 + o) ∧
      Sparse.get resetWord r (0x02200000 + o) = s.rd (0x02100000 + o)) ∧
    ∀ a, ¬ (0x02100000 ≤ a ∧ a < 0x02300000) → Sparse.get resetWord r a = s.rd a := by
  obtain ⟨r, hrun, hget⟩ := run_each_reg (s.bankWords.flatMap fun o => [0x02100000 + o, 0x02200000 + o]) s.otherView s
  have hmem : ∀ a, (a ∈ s.bankWords.flatMap fun o => [0x02100000 + o, 0x02200000 + o]) ↔
      ∃ o ∈ s.bankWords, a = 0x02100000 + o ∨ a = 0x02200000 + o := by simp
  refine ⟨r, (run_swapViews s (fun o ho => (mem_bankWords.mp ho).1) s).trans hrun, fun o ho => ?_, fun a ha => ?_⟩
  · rw [hget, hget, otherView_shadow ho, otherView_active]
    by_cases hin : o ∈ s.bankWords
    · rw [if_pos ((hmem _).mpr ⟨o, hin, .inl rfl⟩), if_pos ((hmem _).mpr ⟨o, hin, .inr rfl⟩)]
      exact ⟨rfl, rfl⟩
    · obtain ⟨hshadow, hactive⟩ := rd_of_not_mem_bankWords ho hin
      rw [hshadow, hactive, ite_self, ite_self]
      exact ⟨rfl, rfl⟩
  · rw [hget, if_neg]
    intro hin
    obtain ⟨o, ho, heq⟩ := (hmem a).mp hin
    have := (mem_bankWords.mp ho).1
    omega

/-! ## The shadow view takes the active one (R187) -/

/-- The program by which the shadow view takes the words of the active one. -/
def copyView (s : State) : Act := Act.each s.bankWords (fun o => .reg (0x02100000 + o) (s.rd (0x02200000 + o)))

theorem run_copyView (s : State) : ∃ r, (copyView s).run s = { s with regs := r } ∧
    (∀ o, o < 0x100000 → Sparse.get resetWord r (0x02100000 + o) = s.rd (0x02200000 + o)) ∧
    ∀ a, ¬ (0x02100000 ≤ a ∧ a < 0x02200000) → Sparse.get resetWord r a = s.rd a := by
  have hlist : ∀ l : List Nat, (∀ o ∈ l, o < 0x100000) →
      Act.each l (fun o => .reg (0x02100000 + o) (s.rd (0x02200000 + o))) =
        Act.each (l.map (0x02100000 + ·)) (fun a => .reg a (s.otherView a)) := fun l hl => by
    rw [Act.each, Act.each, List.map_map]
    refine congrArg Act.all (List.map_congr_left fun o ho => ?_)
    rw [Function.comp, otherView_shadow (hl o ho)]
  obtain ⟨r, hrun, hget⟩ := run_each_reg (s.bankWords.map (0x02100000 + ·)) s.otherView s
  refine ⟨r, ?_, fun o ho => ?_, fun a ha => ?_⟩
  · rw [copyView, hlist _ fun o ho => (mem_bankWords.mp ho).1, hrun]
  · rw [hget, otherView_shadow ho]
    by_cases hin : o ∈ s.bankWords
    · rw [if_pos (List.mem_map_of_mem hin)]
    · obtain ⟨hshadow, hactive⟩ := rd_of_not_mem_bankWords ho hin
      rw [hshadow, hactive, ite_self]
  · rw [hget, if_neg]
    intro hin
    obtain ⟨o, ho, rfl⟩ := List.mem_map.mp hin
    have := (mem_bankWords.mp ho).1
    omega

/-! ## The staged values (R183 step 4) -/

theorem run_fltStaged (s : State) : ∃ q, (Act.each s.fltStaged commitWord).run s = { s with force := q } ∧
    ∀ a, Sparse.get resetWord q a =
      if (0x02001000 ≤ a ∧ a < 0x02001400) ∨ (0x02010000 ≤ a ∧ a < 0x02012030) then s.rd a else s.rdForce a := by
  obtain ⟨q, hrun, hget⟩ := run_commitWords s.fltStaged s
  refine ⟨q, hrun, fun a => ?_⟩
  have hmem : a ∈ s.fltStaged ↔ (a ∈ s.regs.map (·.1) ∨ a ∈ s.force.map (·.1)) ∧
      ((0x02001000 ≤ a ∧ a < 0x02001400) ∨ (0x02010000 ≤ a ∧ a < 0x02012030)) := by
    simp [State.fltStaged, mem_once, or_and_right]
  have hq : Sparse.get resetWord q a = if a ∈ s.fltStaged then s.rd a else s.rdForce a := by
    rw [← hget a, hrun]; rfl
  rw [hq]
  by_cases hin : (0x02001000 ≤ a ∧ a < 0x02001400) ∨ (0x02010000 ≤ a ∧ a < 0x02012030)
  · rw [if_pos hin]
    by_cases hlisted : a ∈ s.regs.map (·.1) ∨ a ∈ s.force.map (·.1)
    · rw [if_pos (hmem.mpr ⟨hlisted, hin⟩)]
    · obtain ⟨hregs, hforce⟩ := not_or.mp hlisted
      have heq : s.rdForce a = s.rd a :=
        (Sparse.get_unlisted resetWord hforce).trans (Sparse.get_unlisted resetWord hregs).symm
      rw [heq, ite_self]
  · rw [if_neg hin, if_neg fun h => hin (hmem.mp h).2]

end Sys2Proof.Machine
end

section
/-! The steps of a bank swap and the end of a copy (R183, R184, R187, R188), and the statement on the filter's commands. -/

namespace Sys2Proof.Machine

/-! ## The end of a validation (R174, R175, R183 step 2) -/

theorem bankResult_le (s : State) : s.bankResult.1 ≤ 3 := by
  unfold State.bankResult
  split
  · exact (by decide : 2 ≤ 3)
  · exact (by decide : 1 ≤ 3)
  · split <;> decide

/-- FLT_COMMIT.SWAP and BAD_RULE at the end of a validation with a RESULT and a rule. -/
def validated (rule : Nat) : Act := .seq (put F.FLT_COMMIT_SWAP 0) (put F.FLT_BANK_STATUS_BAD_RULE rule)

section
variable {s : State}

/-- A field of FLT_BANK_STATUS that the end of a validation leaves for the steps behind it. -/
theorem get_validated_other {r : Nat} {g : Field} (hm : g.msb < 64)
    (h : g.addr ≠ F.FLT_COMMIT_SWAP.addr ∧ (g.addr ≠ F.FLT_BANK_STATUS_STATE.addr ∨ g.msb < 8 ∨ 19 < g.lsb)) :
    ((validated r).run s).get g = s.get g := by
  rw [validated, run_seq, get_put_other _ _ _ _ (by decide) hm (h.2.imp_left Ne.symm),
    get_put_other _ _ _ _ (by decide) hm (.inl h.1.symm)]

theorem get_validated_swap (r : Nat) : ((validated r).run s).get F.FLT_COMMIT_SWAP = 0 := by
  rw [validated, run_seq, get_put_other _ _ _ _ (by decide) (by decide) (by decide), get_put_same _ _ _ (by decide) (by decide)]
  rfl

theorem get_validated_rule (r : Nat) : ((validated r).run s).get F.FLT_BANK_STATUS_BAD_RULE = r % 4096 :=
  get_put_same _ _ _ (by decide) (by decide)

theorem rd_validated (r : Nat) {a : Nat} (h : ¬ (a = F.FLT_BANK_STATUS_STATE.addr ∨ a = F.FLT_COMMIT_SWAP.addr)) :
    ((validated r).run s).rd a = s.rd a := by
  obtain ⟨hstatus, hcommit⟩ := not_or.mp h
  rw [validated, run_seq, rd_put_other _ F.FLT_BANK_STATUS_BAD_RULE _ hstatus, rd_put_other _ _ _ hcommit]

/-- What follows a validation that passes: T_SWAP, the other ACTIVE_BANK, and STATE 1. -/
def swapSet (s : State) : Act := Act.all [
  put F.FLT_SWAP_TIME_T_SWAP (nextMultiple s.now (s.get F.FLT_CTRL_SWAP_K)),
  put F.FLT_BANK_STATUS_ACTIVE_BANK (1 - s.get F.FLT_BANK_STATUS_ACTIVE_BANK),
  .units (fun u => { u with badRules := u.badRules.filter (fun e => e.1) }),
  put F.FLT_BANK_STATUS_STATE 1]

theorem run_swapValidationDone (h : s.get F.FLT_BANK_STATUS_STATE = 3) : swapValidationDoneAct.run s =
    (if s.bankResult.1 ≠ 0 then .seq (put F.FLT_BANK_STATUS_STATE 0) (bankDone s.bankResult.1) else swapSet s : Act).run
      ((validated s.bankResult.2).run s) := by
  rw [swapValidationDoneAct, run_look, h, decide_eq_true rfl, run_when_true]
  rfl

theorem swapSet_run (x : State) : (swapSet s).run x = (put F.FLT_BANK_STATUS_STATE 1).run
    ((put F.FLT_BANK_STATUS_ACTIVE_BANK (1 - s.get F.FLT_BANK_STATUS_ACTIVE_BANK)).run
      ((put F.FLT_SWAP_TIME_T_SWAP (nextMultiple s.now (s.get F.FLT_CTRL_SWAP_K))).run
        ((Act.units fun u => { u with badRules := u.badRules.filter (fun e => e.1) }).run x))) := rfl

/-- A bank without a fault names no rule. -/
theorem bankResult_sound (h : s.bankResult.1 = 0) : s.bankResult.2 = 0 := by
  unfold State.bankResult at h ⊢
  split at h
  · cases h
  · cases h
  · split at h
    · cases h
    · simp [*]

theorem nextMultiple_lt (t k : Nat) : nextMultiple t k < 2 ^ 64 := Nat.mod_lt _ (by decide)

/-- A validation that finds a fault (R184). -/
theorem swapValidationDone_faulty (hstate : s.get F.FLT_BANK_STATUS_STATE = 3) (hfault : s.bankResult.1 ≠ 0) :
    ∃ t, exec .swapValidationDone s = .next t ∧
      t.get F.FLT_BANK_STATUS_STATE = 0 ∧
      t.get F.FLT_BANK_STATUS_RESULT = s.bankResult.1 ∧
      t.get F.FLT_BANK_STATUS_DONE = 1 ∧
      t.get F.FLT_BANK_STATUS_BAD_RULE = s.bankResult.2 % 4096 ∧
      t.get F.FLT_COMMIT_SWAP = 0 ∧
      t.get F.FLT_BANK_STATUS_ACTIVE_BANK = s.get F.FLT_BANK_STATUS_ACTIVE_BANK ∧
      t.units = s.units ∧
      (∀ a, ¬ (a = F.FLT_BANK_STATUS_STATE.addr ∨ a = F.FLT_COMMIT_SWAP.addr) → t.rd a = s.rd a) ∧
      t.force = s.force ∧ t.flash = s.flash := by
  have hrun := run_swapValidationDone hstate
  rw [if_pos hfault, run_seq] at hrun
  have hresult : s.bankResult.1 < 256 := Nat.lt_of_le_of_lt (bankResult_le s) (by decide)
  refine ⟨_, congrArg Host.Outcome.next hrun, ?_, get_bankDone_result hresult, get_bankDone_done, ?_, ?_, ?_, rfl,
    fun a ha => ?_, rfl, rfl⟩
  · rw [get_bankDone_other (by decide) (by decide), get_put_same _ _ _ (by decide) (by decide)]
    rfl
  · rw [get_bankDone_other (by decide) (by decide), get_put_other _ _ _ _ (by decide) (by decide) (by decide), get_validated_rule]
  · rw [get_bankDone_other (by decide) (by decide), get_put_other _ _ _ _ (by decide) (by decide) (by decide), get_validated_swap]
  · rw [get_bankDone_other (by decide) (by decide), get_put_other _ _ _ _ (by decide) (by decide) (by decide),
      get_validated_other (by decide) (by decide)]
  · rw [rd_bankDone (not_or.mp ha).1, rd_put_other _ _ _ (not_or.mp ha).1, rd_validated _ ha]

/-- A validation that passes (R183 step 2, R188). -/
theorem swapValidationDone_passed (hstate : s.get F.FLT_BANK_STATUS_STATE = 3) (hsound : s.bankResult.1 = 0) :
    ∃ t, exec .swapValidationDone s = .next t ∧
      t.get F.FLT_BANK_STATUS_STATE = 1 ∧
      t.get F.FLT_SWAP_TIME_T_SWAP = nextMultiple s.now (s.get F.FLT_CTRL_SWAP_K) ∧
      t.get F.FLT_BANK_STATUS_ACTIVE_BANK = 1 - s.get F.FLT_BANK_STATUS_ACTIVE_BANK ∧
      t.get F.FLT_BANK_STATUS_BAD_RULE = 0 ∧
      t.get F.FLT_COMMIT_SWAP = 0 ∧
      t.get F.FLT_BANK_STATUS_DONE = s.get F.FLT_BANK_STATUS_DONE ∧
      t.units.tenants = s.units.tenants ∧
      (∀ a, ¬ (a = F.FLT_BANK_STATUS_STATE.addr ∨ a = F.FLT_COMMIT_SWAP.addr ∨ a = F.FLT_SWAP_TIME_T_SWAP.addr) →
        t.rd a = s.rd a) ∧
      t.force = s.force ∧ t.flash = s.flash := by
  have hrun := run_swapValidationDone hstate
  rw [if_neg (by simp [hsound]), swapSet_run] at hrun
  have hrule : s.bankResult.2 % 4096 = 0 := by rw [bankResult_sound hsound]
  refine ⟨_, congrArg Host.Outcome.next hrun, ?_, ?_, ?_, ?_, ?_, ?_, rfl, fun a ha => ?_, rfl, rfl⟩
  · rw [get_put_same _ _ _ (by decide) (by decide)]
    rfl
  · rw [get_put_other _ _ _ _ (by decide) (by decide) (by decide), get_put_other _ _ _ _ (by decide) (by decide) (by decide),
      get_put_same _ _ _ (by decide) (by decide)]
    exact Nat.mod_eq_of_lt (nextMultiple_lt _ _)
  · rw [get_put_other _ _ _ _ (by decide) (by decide) (by decide), get_put_same _ _ _ (by decide) (by decide)]
    exact Nat.mod_eq_of_lt (Nat.lt_of_le_of_lt (Nat.sub_le _ _) (by decide))
  · rw [get_put_other _ _ _ _ (by decide) (by decide) (by decide), get_put_other _ _ _ _ (by decide) (by decide) (by decide),
      get_put_other _ _ _ _ (by decide) (by decide) (by decide)]
    exact (get_validated_rule _).trans hrule
  · rw [get_put_other _ _ _ _ (by decide) (by decide) (by decide), get_put_other _ _ _ _ (by decide) (by decide) (by decide),
      get_put_other _ _ _ _ (by decide) (by decide) (by decide)]
    exact get_validated_swap _
  · rw [get_put_other _ _ _ _ (by decide) (by decide) (by decide), get_put_other _ _ _ _ (by decide) (by decide) (by decide),
      get_put_other _ _ _ _ (by decide) (by decide) (by decide)]
    exact get_validated_other (by decide) (by decide)
  · obtain ⟨hstatus, hcommit, hswap⟩ := by simpa only [not_or] using ha
    rw [rd_put_other _ _ _ hstatus, rd_put_other _ F.FLT_BANK_STATUS_ACTIVE_BANK _ hstatus, rd_put_other _ _ _ hswap]
    exact rd_validated _ (not_or.mpr ⟨hstatus, hcommit⟩)

/-- T_SWAP is reached: the views change places (R183 step 3). -/
theorem tSwapReached_swaps (hstate : s.get F.FLT_BANK_STATUS_STATE = 1) (htime : 0 ≤ dif s.now (s.get F.FLT_SWAP_TIME_T_SWAP)) :
    ∃ t, exec .tSwapReached s = .next t ∧
      t.get F.FLT_BANK_STATUS_STATE = 2 ∧
      t.get F.FLT_BANK_STATUS_ACTIVE_BANK = s.get F.FLT_BANK_STATUS_ACTIVE_BANK ∧
      (∀ o, o < 0x100000 → t.rd (0x02100000 + o) = s.rd (0x02200000 + o) ∧ t.rd (0x02200000 + o) = s.rd (0x02100000 + o)) ∧
      (∀ a, ¬ (a = F.FLT_BANK_STATUS_STATE.addr ∨ (0x02100000 ≤ a ∧ a < 0x02300000)) → t.rd a = s.rd a) ∧
      t.force = s.force ∧ t.flash = s.flash := by
  obtain ⟨r, hswap, hviews, hother⟩ := run_swapBanks s
  let u : State := { s with regs := r, units := { s.units with badRules := s.units.badRules.map (fun e => (!e.1, e.2)) } }
  have hrun : tSwapReachedAct.run s = (put F.FLT_BANK_STATUS_STATE 2).run u := by
    rw [tSwapReachedAct, run_look, hstate, decide_eq_true rfl, decide_eq_true htime, Bool.and_self, run_when_true, run_all_cons]
    exact congrArg (fun x : State => (Act.all [.units fun u => { u with badRules := u.badRules.map (fun e => (!e.1, e.2)) },
      put F.FLT_BANK_STATUS_STATE 2]).run x) hswap
  have hget : ∀ g : Field, ¬ (0x02100000 ≤ g.addr ∧ g.addr < 0x02300000) → u.get g = s.get g := fun g hg => by
    rw [State.get, show u.rd g.addr = s.rd g.addr from hother _ hg]; rfl
  refine ⟨_, congrArg Host.Outcome.next hrun, ?_, ?_, fun o ho => ?_, fun a ha => ?_, rfl, rfl⟩
  · rw [get_put_same _ _ _ (by decide) (by decide)]
    rfl
  · rw [get_put_other _ _ _ _ (by decide) (by decide) (by decide), hget _ (by decide)]
  · rw [rd_put_other _ _ _ (by simp only [F.FLT_BANK_STATUS_STATE]; omega),
      rd_put_other _ _ _ (by simp only [F.FLT_BANK_STATUS_STATE]; omega)]
    exact hviews o ho
  · rw [rd_put_other _ _ _ (not_or.mp ha).1]
    exact hother a (not_or.mp ha).2

/-- The bank of before retires: the staged values are in force (R183 step 4). -/
theorem bankRetire_commits (hstate : s.get F.FLT_BANK_STATUS_STATE = 2)
    (htime : 2 ^ 34 ≤ dif s.now (s.get F.FLT_SWAP_TIME_T_SWAP)) :
    ∃ t, exec .bankRetire s = .next t ∧
      t.get F.FLT_BANK_STATUS_STATE = 0 ∧
      t.get F.FLT_BANK_STATUS_DONE = 1 ∧
      t.get F.FLT_BANK_STATUS_RESULT = 0 ∧
      t.units = s.units ∧
      (∀ a, t.rdForce a =
        if (0x02001000 ≤ a ∧ a < 0x02001400) ∨ (0x02010000 ≤ a ∧ a < 0x02012030) then s.rd a else s.rdForce a) ∧
      (∀ a, ¬ (a = F.FLT_BANK_STATUS_STATE.addr) → t.rd a = s.rd a) ∧
      t.flash = s.flash := by
  obtain ⟨q, hstaged, hforce⟩ := run_fltStaged s
  have hrun : bankRetireAct.run s = (bankDone 0).run ((put F.FLT_BANK_STATUS_STATE 0).run { s with force := q }) := by
    rw [bankRetireAct, run_look, hstate, decide_eq_true rfl, decide_eq_true (by exact_mod_cast htime), Bool.and_self,
      run_when_true, run_all_cons, hstaged]
    rfl
  refine ⟨_, congrArg Host.Outcome.next hrun, ?_, get_bankDone_done, get_bankDone_result (by decide), rfl, hforce, fun a ha => ?_, rfl⟩
  · rw [get_bankDone_other (by decide) (by decide), get_put_same _ _ _ (by decide) (by decide)]
    rfl
  · rw [rd_bankDone ha, rd_put_other _ _ _ ha]
    rfl

/-- A copy ends: the shadow view reads as the active one (R187). -/
theorem copyDone_copies (hcopying : s.get F.FLT_BANK_STATUS_COPYING = 1) :
    ∃ t, exec .copyDone s = .next t ∧
      t.get F.FLT_BANK_STATUS_COPYING = 0 ∧
      t.get F.FLT_COMMIT_COPY = 0 ∧
      t.get F.FLT_BANK_STATUS_DONE = 1 ∧
      t.get F.FLT_BANK_STATUS_RESULT = 0 ∧
      t.get F.FLT_BANK_STATUS_STATE = s.get F.FLT_BANK_STATUS_STATE ∧
      (∀ o, o < 0x100000 → t.rd (0x02100000 + o) = s.rd (0x02200000 + o)) ∧
      (∀ a, ¬ (a = F.FLT_BANK_STATUS_STATE.addr ∨ a = F.FLT_COMMIT_COPY.addr ∨ (0x02100000 ≤ a ∧ a < 0x02200000)) →
        t.rd a = s.rd a) ∧
      t.force = s.force ∧ t.flash = s.flash := by
  obtain ⟨r, hcopy, hview, hother⟩ := run_copyView s
  let u : State := { s with regs := r, units := { s.units with badRules := s.units.badRules.filter (fun e => e.1) } }
  have hrun : copyDoneAct.run s =
      (bankDone 0).run ((put F.FLT_COMMIT_COPY 0).run ((put F.FLT_BANK_STATUS_COPYING 0).run u)) := by
    rw [copyDoneAct, run_look, is_eq_true.mpr (by omega), run_when_true, run_all_cons]
    exact (congrArg _ hcopy).trans rfl
  have hget : ∀ g : Field, ¬ (0x02100000 ≤ g.addr ∧ g.addr < 0x02200000) → u.get g = s.get g := fun g hg => by
    rw [State.get, show u.rd g.addr = s.rd g.addr from hother _ hg]; rfl
  refine ⟨_, congrArg Host.Outcome.next hrun, ?_, ?_, get_bankDone_done, get_bankDone_result (by decide), ?_, fun o ho => ?_,
    fun a ha => ?_, rfl, rfl⟩
  · rw [get_bankDone_other (by decide) (by decide), get_put_other _ _ _ _ (by decide) (by decide) (by decide),
      get_put_same _ _ _ (by decide) (by decide)]
    rfl
  · rw [get_bankDone_other (by decide) (by decide), get_put_same _ _ _ (by decide) (by decide)]
    rfl
  · rw [get_bankDone_other (by decide) (by decide), get_put_other _ _ _ _ (by decide) (by decide) (by decide),
      get_put_other _ _ _ _ (by decide) (by decide) (by decide), hget _ (by decide)]
  · rw [rd_bankDone (by simp only [F.FLT_BANK_STATUS_STATE]; omega), rd_put_other _ _ _ (by simp only [F.FLT_COMMIT_COPY]; omega),
      rd_put_other _ _ _ (by simp only [F.FLT_BANK_STATUS_COPYING]; omega)]
    exact hview o ho
  · obtain ⟨hstatus, hcommit, hshadow⟩ := by simpa only [not_or] using ha
    rw [rd_bankDone hstatus, rd_put_other _ _ _ hcommit, rd_put_other _ F.FLT_BANK_STATUS_COPYING _ hstatus]
    exact hother a hshadow

end

/-! ## The statement -/

/-- Settles O12: a command by what becomes of it behind the count of its write, and each step of a swap or a copy by the words
it moves. -/
theorem filterSwapsAndCopies : Obligations.FilterSwapsAndCopies := by
  unfold Obligations.FilterSwapsAndCopies
  refine ⟨fun s v hhas hbit hkey hidle hcount => ?swap, fun s w v hhas hbit hbusy hcount => ?swapBusy,
    fun s w v hhas hbit hidle hdenied hcount => ?swapDenied, fun s w v h hcount => ?swapNone,
    fun s v hhas hbit hkey hidle hcount => ?copy, fun s w v hhas hbit hbusy hcount => ?copyBusy,
    fun s w v hhas hbit hidle hdenied hcount => ?copyDenied, fun s w v h hcount => ?copyNone,
    fun s hstate hfault => ?faulty, fun s hstate hsound => ?passed, fun s hstate => ?validationNot,
    fun s hstate htime => ?reached, fun s h => ?reachedNot, fun s hstate htime => ?retire, fun s h => ?retireNot,
    fun s hcopying => ?copied, fun s hcopying => ?copiedNot⟩
  case swap =>
    obtain ⟨u, hu, hrun⟩ := run_bankRow 0 v F.FLT_COMMIT_SWAP (.seq (put F.FLT_BANK_STATUS_STATE 3) (put F.FLT_COMMIT_SWAP 1)) hhas
      (decide_eq_true hbit) hcount
    rw [run_bankCommand_granted (hu.bankBusy.trans hidle) hkey] at hrun
    obtain ⟨hunits, hkeep, hout, hactive, hlost, hresult, hrd, hforce, hflash⟩ :=
      hu.started (shown := F.FLT_BANK_STATUS_STATE) (commit := F.FLT_COMMIT_SWAP) 3 (by decide) (by decide)
    refine ⟨_, congrArg Host.Outcome.next hrun, ?_, get_put_same _ _ _ (by decide) (by decide), ?_, hunits, hkeep, hout, hactive,
      hlost, hresult, hrd, hforce, hflash⟩
    · rw [run_seq, get_put_other _ _ _ _ (by decide) (by decide) (by decide), get_put_same _ _ _ (by decide) (by decide)]
      rfl
    · rw [run_seq, get_put_other _ _ _ _ (by decide) (by decide) (by decide), get_put_other _ _ _ _ (by decide) (by decide) (by decide),
        hu.get (by decide), (bankBusy_eq_false.mp hidle).2]
  case swapBusy =>
    obtain ⟨t, hrun, hrefused, hresult, hdone, hstate, hcopying, hunits, hkeep, hout, hactive, hlost, hrd, hforce, hflash⟩ :=
      bankRow_busy F.FLT_COMMIT_SWAP _ hhas (decide_eq_true hbit) hcount hbusy
    exact ⟨t, congrArg Host.Outcome.next hrun, hrefused, hresult, hdone, hstate, hcopying, hunits, hkeep, hout, hactive, hlost, hrd,
      hforce, hflash⟩
  case swapDenied =>
    obtain ⟨t, hrun, hrefused, hresult, hdone, hstate, hcopying, hunits, hkeep, hout, hactive, hlost, hrd, hforce, hflash⟩ :=
      bankRow_denied F.FLT_COMMIT_SWAP _ hhas (decide_eq_true hbit) hcount hidle hdenied
    exact ⟨t, congrArg Host.Outcome.next hrun, hresult, hdone, hrefused, hstate, hcopying, hunits, hkeep, hout, hactive, hlost, hrd,
      hforce, hflash⟩
  case swapNone =>
    have hskip : getBits v 0 0 = 0 → ∀ u, (swapAct w v).run u = u := fun hbit u => by
      rw [swapAct, hbit, decide_eq_false (by decide), run_when_false]
    obtain ⟨u, hu, hrun⟩ := run_filterRow_none w F.FLT_COMMIT_SWAP (h.imp_left hskip) hcount
    exact ⟨u, congrArg Host.Outcome.next hrun, hu.units, hu.keep, hu.force, hu.out, hu.rd, hu.flash⟩
  case copy =>
    obtain ⟨u, hu, hrun⟩ := run_bankRow 0 v F.FLT_COMMIT_COPY (.seq (put F.FLT_BANK_STATUS_COPYING 1) (put F.FLT_COMMIT_COPY 1)) hhas
      (decide_eq_true hbit) hcount
    rw [run_bankCommand_granted (hu.bankBusy.trans hidle) hkey] at hrun
    obtain ⟨hunits, hkeep, hout, hactive, hlost, hresult, hrd, hforce, hflash⟩ :=
      hu.started (shown := F.FLT_BANK_STATUS_COPYING) (commit := F.FLT_COMMIT_COPY) 1 (by decide) (by decide)
    refine ⟨_, congrArg Host.Outcome.next hrun, ?_, get_put_same _ _ _ (by decide) (by decide), ?_, hunits, hkeep, hout, hactive,
      hlost, hresult, hrd, hforce, hflash⟩
    · rw [run_seq, get_put_other _ _ _ _ (by decide) (by decide) (by decide), get_put_same _ _ _ (by decide) (by decide)]
      rfl
    · rw [run_seq, get_put_other _ _ _ _ (by decide) (by decide) (by decide), get_put_other _ _ _ _ (by decide) (by decide) (by decide),
        hu.get (by decide), (bankBusy_eq_false.mp hidle).1]
  case copyBusy =>
    obtain ⟨t, hrun, hrefused, hresult, hdone, hstate, hcopying, hunits, hkeep, hout, hactive, hlost, hrd, hforce, hflash⟩ :=
      bankRow_busy F.FLT_COMMIT_COPY _ hhas (decide_eq_true hbit) hcount hbusy
    exact ⟨t, congrArg Host.Outcome.next hrun, hrefused, hresult, hdone, hstate, hcopying, hunits, hkeep, hout, hactive, hlost, hrd,
      hforce, hflash⟩
  case copyDenied =>
    obtain ⟨t, hrun, hrefused, hresult, hdone, hstate, hcopying, hunits, hkeep, hout, hactive, hlost, hrd, hforce, hflash⟩ :=
      bankRow_denied F.FLT_COMMIT_COPY _ hhas (decide_eq_true hbit) hcount hidle hdenied
    exact ⟨t, congrArg Host.Outcome.next hrun, hresult, hdone, hrefused, hstate, hcopying, hunits, hkeep, hout, hactive, hlost, hrd,
      hforce, hflash⟩
  case copyNone =>
    have hskip : getBits v 1 1 = 0 → ∀ u, (copyAct w v).run u = u := fun hbit u => by
      rw [copyAct, hbit, decide_eq_false (by decide), run_when_false]
    obtain ⟨u, hu, hrun⟩ := run_filterRow_none w F.FLT_COMMIT_COPY (h.imp_left hskip) hcount
    exact ⟨u, congrArg Host.Outcome.next hrun, hu.units, hu.keep, hu.force, hu.out, hu.rd, hu.flash⟩
  case faulty => exact swapValidationDone_faulty hstate hfault
  case passed => exact swapValidationDone_passed hstate hsound
  case validationNot => simp only [exec, execSwapValidationDone, swapValidationDoneAct, run_look, decide_eq_false hstate, run_when_false]
  case reached => exact tSwapReached_swaps hstate htime
  case reachedNot =>
    have hcond : (decide (s.get F.FLT_BANK_STATUS_STATE = 1) && decide (dif s.now (s.get F.FLT_SWAP_TIME_T_SWAP) ≥ 0)) = false := by
      rw [Bool.and_eq_false_iff, decide_eq_false_iff_not, decide_eq_false_iff_not, not_le]
      exact h
    simp only [exec, execTSwapReached, tSwapReachedAct, run_look, hcond, run_when_false]
  case retire => exact bankRetire_commits hstate htime
  case retireNot =>
    have hcond : (decide (s.get F.FLT_BANK_STATUS_STATE = 2) &&
        decide (dif s.now (s.get F.FLT_SWAP_TIME_T_SWAP) ≥ (2 ^ 34 : Nat))) = false := by
      rw [Bool.and_eq_false_iff, decide_eq_false_iff_not, decide_eq_false_iff_not, not_le]
      exact_mod_cast h
    simp only [exec, execBankRetire, bankRetireAct, run_look, hcond, run_when_false]
  case copied => exact copyDone_copies hcopying
  case copiedNot => simp only [exec, execCopyDone, copyDoneAct, run_look, is_eq_false.mpr hcopying, run_when_false]

end Sys2Proof.Machine
end

section
/-! Sealing and sending (R324 to R330, R348 to R350, R368 to R378): what the programs of Signet and of segmentation leave of the
merge state of the streams, of the registers below the ports, and of the values in force. -/

namespace Sys2Proof.Machine

/-! ## Programs that send -/

/-- From `s` to `t` the merge state of the streams stands, of the registers only those change where `P` holds, and of the values
in force only those of the ports and above. -/
structure Sent (P : Nat → Prop) (s t : State) : Prop where
  cal : t.units.cal = s.units.cal
  rd : ∀ a, ¬ P a → t.rd a = s.rd a
  rdForce : ∀ a, ¬ inOutputBlocks a → t.rdForce a = s.rdForce a

/-- The program changes no merge state, registers only where `P` holds, and values in force only of the ports and above. -/
def Act.sends (P : Nat → Prop) : Act → Prop
  | .seq a b => a.sends P ∧ b.sends P
  | .look k => ∀ s, (k s).sends P
  | .draw k => ∀ w, (k w).sends P
  | .reg a _ => P a
  | .inForce a _ => inOutputBlocks a
  | .units f => ∀ u, (f u).cal = u.cal
  | .resetRegs | .resetAll => False
  | _ => True

section
variable {P Q : Nat → Prop}

theorem Sent.trans {s t u : State} (h : Sent P s t) (g : Sent P t u) : Sent P s u :=
  ⟨g.cal.trans h.cal, fun a ha => (g.rd a ha).trans (h.rd a ha), fun a ha => (g.rdForce a ha).trans (h.rdForce a ha)⟩

theorem run_sends {a : Act} (h : a.sends P) (s : State) : Sent P s (a.run s) := by
  induction a generalizing s with
  | seq a b iha ihb => exact (iha h.1 s).trans (ihb h.2 _)
  | look k ih => exact ih s (h s) s
  | draw k ih => exact Sent.trans (t := { s with free := s.free + 1 }) ⟨rfl, fun _ _ => rfl, fun _ _ => rfl⟩ (ih _ (h _) _)
  | reg x v =>
    refine ⟨rfl, fun a ha => ?_, fun _ _ => rfl⟩
    have hax : a ≠ x := fun e => ha (e ▸ h)
    simp [hax]
  | inForce x v =>
    refine ⟨rfl, fun _ _ => rfl, fun a ha => ?_⟩
    have hax : a ≠ x := fun e => ha (e ▸ h)
    simp [hax]
  | units f => exact ⟨h s.units, fun _ _ => rfl, fun _ _ => rfl⟩
  | resetRegs => exact h.elim
  | resetAll => exact h.elim
  | _ => exact ⟨rfl, fun _ _ => rfl, fun _ _ => rfl⟩

namespace Act

@[simp] theorem sends_skip : Act.skip.sends P := trivial
@[simp] theorem sends_win (f : Win → Win) : (Act.win f).sends P := trivial
@[simp] theorem sends_seq (a b : Act) : (Act.seq a b).sends P ↔ a.sends P ∧ b.sends P := Iff.rfl
@[simp] theorem sends_look (k : State → Act) : (Act.look k).sends P ↔ ∀ s, (k s).sends P := Iff.rfl
@[simp] theorem sends_draw (k : Word → Act) : (Act.draw k).sends P ↔ ∀ w, (k w).sends P := Iff.rfl
@[simp] theorem sends_units (f : Units → Units) : (Act.units f).sends P ↔ ∀ u, (f u).cal = u.cal := Iff.rfl
@[simp] theorem sends_all_nil : (Act.all []).sends P := trivial
@[simp] theorem sends_all_cons (a : Act) (l : List Act) : (Act.all (a :: l)).sends P ↔ a.sends P ∧ (Act.all l).sends P := Iff.rfl

@[simp] theorem sends_ite (c : Prop) [Decidable c] (a b : Act) :
    (if c then a else b).sends P ↔ (c → a.sends P) ∧ (¬ c → b.sends P) := by
  split <;> simp [*]

@[simp] theorem sends_when (c : Bool) (a : Act) : (Act.when c a).sends P ↔ (c = true → a.sends P) := by
  cases c <;> simp [Act.when]

@[simp] theorem sends_each {α : Type} (l : List α) (f : α → Act) : (Act.each l f).sends P ↔ ∀ x ∈ l, (f x).sends P := by
  induction l with
  | nil => simp [Act.each]
  | cons x l ih => simpa [Act.each] using fun _ => ih

theorem sends_mono (hPQ : ∀ a, P a → Q a) {a : Act} (h : a.sends P) : a.sends Q := by
  induction a with
  | seq a b iha ihb => exact ⟨iha h.1, ihb h.2⟩
  | look k ih => exact fun s => ih s (h s)
  | draw k ih => exact fun w => ih w (h w)
  | reg x v => exact hPQ _ h
  | inForce x v => exact h
  | units f => exact h
  | resetRegs => exact h.elim
  | resetAll => exact h.elim
  | _ => trivial

theorem sends_of_tally {a : Act} (h : a.tally P) : a.sends P := by
  induction a with
  | seq a b iha ihb => exact ⟨iha h.1, ihb h.2⟩
  | look k ih => exact fun s => ih s (h s)
  | reg x v => exact h
  | skip => trivial
  | units f => exact fun u => congrArg (·.cal) (h u)
  | win f => trivial
  | _ => exact h.elim

end Act

@[simp] theorem put_sends (f : Field) (v : Nat) : (put f v).sends P ↔ P f.addr :=
  ⟨fun h => h State.reset, fun h _ => h⟩
@[simp] theorem commitWord_sends (a : Nat) : (commitWord a).sends P ↔ inOutputBlocks a :=
  ⟨fun h => h State.reset, fun h _ => h⟩
@[simp] theorem setChain_sends (st : Nat) (c : Chain) : (setChain st c).sends P := fun _ => rfl
@[simp] theorem onChain_sends (st : Nat) (f : Chain → Chain) : (onChain st f).sends P := fun _ => setChain_sends _ _
@[simp] theorem onSeg_sends (st : Nat) (f : SegUnit → SegUnit) : (onSeg st f).sends P := fun _ _ => rfl
@[simp] theorem onEndpoint_sends (p e : Nat) (f : EndpointUnit → EndpointUnit) : (onEndpoint p e f).sends P := fun _ _ => rfl
@[simp] theorem settleLater_sends (st : Nat) : (settleLater st).sends P := trivial

end

/-! ## The registers of the ports and above -/

@[simp] theorem inOutputBlocks_add {b k : Nat} (h : 0x06000000 ≤ b) : inOutputBlocks (b + k) := Nat.le_add_right_of_le h
@[simp] theorem inOutputBlocks_add_add {b j k : Nat} (h : 0x06000000 ≤ b) : inOutputBlocks (b + j + k) :=
  inOutputBlocks_add (inOutputBlocks_add h)
@[simp] theorem inOutputBlocks_add_add_add {b i j k : Nat} (h : 0x06000000 ≤ b) : inOutputBlocks (b + i + j + k) :=
  inOutputBlocks_add (inOutputBlocks_add_add h)

theorem inOutputBlocks_of_inNotify {a : Nat} (h : inNotify a) : inOutputBlocks a := Nat.le_trans (by decide) h.1

/-- Counting in a register of the ports or above. -/
@[simp] theorem count_sends {f : Field} (h : inOutputBlocks f.addr) : (count f).sends inOutputBlocks :=
  Act.sends_of_tally (Act.tally_mono (fun _ ha => ha.elim (fun e => e ▸ h) inOutputBlocks_of_inNotify) (count_tally f))

/-! ## Queues (R229 to R237) -/

section
variable {h : Hooks} (H : h.Tallies)
include H

theorem Hooks.Tallies.cnt_sends {f : Field} (hf : inOutputBlocks f.addr) (k : Nat) : (h.cnt f k).sends inOutputBlocks :=
  Act.sends_of_tally (Act.tally_mono (fun _ ha => ha.elim (fun e => e ▸ hf) inOutputBlocks_of_inNotify) (H.cnt f k))

theorem overrunWith_sends (q c : Nat) : (overrunWith h q c).sends inOutputBlocks := by
  simp [overrunWith, event, H.cnt_sends, F.Q_STATUS_OVERRUN, F.Q_OVERRUNS_C, F.Q_DISCARDED_CELLS_C]

end

@[simp] theorem refreshQueue_sends (q : Nat) : (refreshQueue q).sends inOutputBlocks := by
  simp [refreshQueue, F.Q_DEPTH_ITEMS, F.Q_DEPTH_CELLS, F.Q_STATUS_HEAD_FILL, F.Q_STATUS_EMPTY, F.Q_STATUS_FULL,
    F.Q_STATUS_PARTIAL, F.Q_STATUS_DISCARDING]

@[simp] theorem onQueue_sends {P : Nat → Prop} (q : Nat) (f : QueueUnit → QueueUnit) : (onQueue q f).sends P := fun _ _ => rfl
@[simp] theorem touch_sends {P : Nat → Prop} (q : Nat) : (touch q).sends P := trivial
@[simp] theorem advance_tail_sends (q k : Nat) : (advance q k (F.Q_POINTERS_TAIL q)).sends inOutputBlocks := by
  simp [advance, F.Q_POINTERS_TAIL]

@[simp] theorem push_sends (q : Nat) (p : Producer) (i : Item) : (push q p i).sends inOutputBlocks := by
  have H : std.Tallies := hooks_tally 4
  have hcommit : ∀ b, (commitWith std q i b).sends inOutputBlocks := fun b => by
    simp [commitWith, H.cnt_sends, F.Q_ITEMS_PUSHED_C, F.Q_OCTETS_PUSHED_C, Act.sends_of_tally (committed_tally _ i)]
  intro s
  dsimp only
  split <;> simp [hcommit, overrunWith_sends H, H.cnt_sends, F.Q_BAD_ITEMS_C, F.Q_DISCARDED_CELLS_C]

/-! ## Checkpoints, diversion and frames pushed (R330, R348, R373) -/

@[simp] theorem checkpointDueAs_sends (k st : Nat) : (checkpointDueAs k st).sends inOutputBlocks := by
  simp [checkpointDueAs, F.SIG_DEVICE_COALESCED_C, F.SIG_STATUS_PENDING]
@[simp] theorem checkpointDue_sends (st : Nat) : (checkpointDue st).sends inOutputBlocks := checkpointDueAs_sends 2 st

@[simp] theorem gapCheckpoint_sends (st : Nat) : (gapCheckpoint st).sends inOutputBlocks := by
  simp [gapCheckpoint, F.SIG_STREAM_GAP_CHECKPOINTS_C]

theorem linkF_output {l : Nat} {f : Nat → Nat → Field} {g : Nat → Field} (hf : ∀ p j, inOutputBlocks (f p j).addr)
    (hg : ∀ r, inOutputBlocks (g r).addr) : inOutputBlocks (linkF l f g).addr := by
  unfold linkF
  split
  · exact hf _ _
  · exact hg _

@[simp] theorem counter_output (why : Diverted) (l : Nat) : inOutputBlocks (why.counter l).addr := by
  cases why <;> refine linkF_output (fun p j => inOutputBlocks_add_add ?_) (fun r => inOutputBlocks_add ?_) <;> decide

@[simp] theorem prioDiverted_output (l prio : Nat) : inOutputBlocks
    (if l < 256 then F.LSN_LINK_PRIO_DIVERTED_C (l / 8) (l % 8) prio else F.RNG_PRIO_DIVERTED_C (l - 256) prio).addr := by
  split
  · exact inOutputBlocks_add_add_add (by decide)
  · exact inOutputBlocks_add_add (by decide)

@[simp] theorem divert_sends (why : Diverted) (l p : Nat) (i : Item) : (divert why l p i).sends inOutputBlocks := by
  have hspilled : inOutputBlocks (linkF l F.LSN_LINK_SPILLED_C F.RNG_SPILLED_C).addr :=
    linkF_output (fun _ _ => inOutputBlocks_add_add (by decide)) fun _ => inOutputBlocks_add (by decide)
  have hdropped : inOutputBlocks (linkF l F.LSN_LINK_DROPPED_C F.RNG_DROPPED_C).addr :=
    linkF_output (fun _ _ => inOutputBlocks_add_add (by decide)) fun _ => inOutputBlocks_add (by decide)
  simp [divert, hspilled, hdropped]

@[simp] theorem divertRefused_sends (q : Nat) (i : Item) : (divertRefused q i).sends inOutputBlocks := by simp [divertRefused]

@[simp] theorem pushFrame_sends (q : Nat) (p : Producer) (i : Item) : (pushFrame q p i).sends inOutputBlocks := by
  intro s
  refine ⟨push_sends _ _ _, ?_⟩
  split <;> simp

theorem portBase_output (p : Nat) : inOutputBlocks (portBase p) := by
  unfold portBase
  split
  · exact inOutputBlocks_add (by decide)
  · exact inOutputBlocks_add (by decide)

theorem epF_output (p e : Nat) (f : Nat → Nat → Field) : inOutputBlocks (epF p e f).addr :=
  Nat.le_trans (portBase_output p) (Nat.le_add_left _ _)

@[simp] theorem refreshRetained_sends (p e : Nat) : (refreshRetained p e).sends inOutputBlocks := by
  simp [refreshRetained, epF_output, F.LSN_PORT_RETAIN_FRAMES, F.LSN_PORT_RETAIN_BYTES]

@[simp] theorem divertRetained_sends (why : Diverted) (p e : Nat) (rs : List Retained) :
    (divertRetained why p e rs).sends inOutputBlocks := by simp [divertRetained]
@[simp] theorem holdChain_sends (p e : Nat) (c : HeldChain) : (holdChain p e c).sends inOutputBlocks := by simp [holdChain]
@[simp] theorem chainOpens_sends (c : HeldChain) : (chainOpens c).sends inOutputBlocks := by simp [chainOpens]

/-! ## Sealing and chains (R324, R368 to R371) -/

@[simp] theorem distribute_sends (st ref prio : Nat) (i : Item) : (distribute st ref prio i).sends inOutputBlocks := by
  simp [distribute]

@[simp] theorem sealFrame_sends (st : Nat) (r : FrameReq) : (sealFrame st r).sends inOutputBlocks := by
  intro s
  have hunsealed : (count (F.SIG_STREAM_UNSEALED_DROPPED_C st)).sends inOutputBlocks := by simp [F.SIG_STREAM_UNSEALED_DROPPED_C]
  have hresult : inOutputBlocks (F.SIG_STREAM_STATUS_RESULT st).addr := by simp [F.SIG_STREAM_STATUS_RESULT]
  simp only [Act.sends_ite]
  refine ⟨fun _ => by simp [hunsealed], fun _ => ⟨fun _ => by simp [hunsealed, hresult], fun _ => ?_⟩⟩
  simp only [Act.sends_all_cons, Act.sends_look]
  refine ⟨setChain_sends _ _, onSeg_sends _ _, by simp [F.LSN_STREAM_FRAME_SEQ_NEXT], by simp [F.SIG_STREAM_FRAMES_SEALED_C],
    distribute_sends _ _ _ _, fun t => ?_, by simp, trivial⟩
  split <;> simp

@[simp] theorem openChain_sends (st : Nat) : (openChain st).sends inOutputBlocks := by
  intro s
  simp only [Act.sends_when, Act.sends_all_cons, Act.sends_all_nil, and_true]
  refine fun _ => ⟨by simp [F.SIG_STREAM_CFG_SEAL_KEY], by simp [F.SIG_STREAM_STATUS_RESULT], ?_⟩
  split <;> simp [F.SIG_STREAM_STATUS_CHAIN_OPEN, F.LSN_STREAM_FRAME_SEQ_NEXT]

@[simp] theorem beginChain_sends (st : Nat) : (beginChain st).sends inOutputBlocks := by
  intro s
  dsimp only
  split <;> simp

@[simp] theorem segClose_sends (st : Nat) : (segClose st).sends inOutputBlocks := by
  intro s
  dsimp only
  split <;> simp

@[simp] theorem segAppend_sends (st : Nat) (close : Bool) (c : Copy) : (segAppend st close c).sends inOutputBlocks := by
  simp [segAppend]

end Sys2Proof.Machine
end

section
/-! The end of a stream's life (R190, R327, R368, R378), and STREAM_CONFIG_APPLY (R197): what they leave where no commit of the
stream is deferred. -/

namespace Sys2Proof.Machine

/-! ## Relations between states around the end of a life -/

/-- The counters of a stream in Caldera, and the registers of the ports and above. -/
def ofEmission (st a : Nat) : Prop := (0x03200000 + 0x40 * st ≤ a ∧ a < 0x03200000 + 0x40 * (st + 1)) ∨ inOutputBlocks a

/-- From `s` to `t` the stream has sent what was left of its life: no commit of it is deferred, a tenant reset's disable stands as it
did, and neither registers nor values in force change but those of `ofEmission`, of the values only the ports' and above. -/
structure Emptied (st : Nat) (s t : State) : Prop where
  deferred : (t.cal st).deferred = false
  byReset : (t.cal st).byReset = (s.cal st).byReset
  rd : ∀ a, ¬ ofEmission st a → t.rd a = s.rd a
  rdForce : ∀ a, ¬ inOutputBlocks a → t.rdForce a = s.rdForce a

/-- Where no commit of the stream is deferred, what a program brings is `Emptied`. -/
def Empties (st : Nat) (s t : State) : Prop := (s.cal st).deferred = false → Emptied st s t

section
variable {st : Nat}

theorem Emptied.trans {s t u : State} (h : Emptied st s t) (g : Emptied st t u) : Emptied st s u :=
  ⟨g.deferred, g.byReset.trans h.byReset, fun a ha => (g.rd a ha).trans (h.rd a ha),
    fun a ha => (g.rdForce a ha).trans (h.rdForce a ha)⟩

theorem empties_refl (s : State) : Empties st s s := fun h => ⟨h, rfl, fun _ _ => rfl, fun _ _ => rfl⟩
theorem empties_trans (s t u : State) (h : Empties st s t) (g : Empties st t u) : Empties st s u := fun hs =>
  (h hs).trans (g (h hs).deferred)

theorem empties_of_sends {P : Nat → Prop} (hP : ∀ a, P a → ofEmission st a) {a : Act} (h : a.sends P) : a.brings (Empties st) :=
  fun s hs => by
    obtain ⟨hcal, hrd, hforce⟩ := run_sends h s
    have hunit : (a.run s).cal st = s.cal st := by rw [State.cal, hcal]; rfl
    exact ⟨by rw [hunit, hs], by rw [hunit], fun x hx => hrd x fun hp => hx (hP x hp), hforce⟩

/-- A program that sends. -/
theorem sends_empties {a : Act} (h : a.sends inOutputBlocks) : a.brings (Empties st) := empties_of_sends (fun _ => .inr) h

theorem cal_onCal (f : CalStream → CalStream) (s : State) : ((onCal st f).run s).cal st = f (s.cal st) := by
  simp only [onCal, setCal, run_look, State.cal, run_units_units, Sparse.get_set_same]

/-- A change of the merge state that defers no commit and leaves a tenant reset's disable. -/
theorem onCal_empties {f : CalStream → CalStream}
    (hf : ∀ c, c.deferred = false → (f c).deferred = false ∧ (f c).byReset = c.byReset) :
    (onCal st f).brings (Empties st) := fun s hs => by
  obtain ⟨hdeferred, hreset⟩ := hf _ hs
  exact ⟨by rw [cal_onCal, hdeferred], by rw [cal_onCal, hreset], fun _ _ => rfl, fun _ _ => rfl⟩

theorem emitted_empties (l : List Copy) : (emitted st l).brings (Empties st) := by
  have hcount : ∀ f : Field, ofEmission st f.addr → ∀ k, (countBy f k).brings (Empties st) := fun f hf k =>
    empties_of_sends (fun _ ha => ha.elim (fun e => e ▸ hf) fun h => .inr (inOutputBlocks_of_inNotify h))
      (Act.sends_of_tally (countBy_tally f k))
  refine brings_seq empties_trans (hcount _ (.inl ?_) _) (hcount _ (.inl ?_) _)
  · simp only [F.CAL_STREAM_SENTENCES_EMITTED_C]; omega
  · simp only [F.CAL_STREAM_OCTETS_EMITTED_C]; omega

/-! ## The end of a chain and of a life -/

theorem finishChain_empties : (finishChain st).brings (Empties st) := by
  intro s hs
  have hput : ∀ (f : Field) (v : Nat), inOutputBlocks f.addr → (put f v).brings (Empties st) := fun f v hf =>
    sends_empties ((put_sends f v).mpr hf)
  rw [finishChain, run_look]
  refine brings_all empties_trans empties_refl ?_ s hs
  simp only [List.forall_mem_cons, List.not_mem_nil, false_imp_iff, implies_true, and_true]
  exact ⟨hput _ _ (by decide), sends_empties (onChain_sends _ _), hput _ _ (inOutputBlocks_add (by decide)),
    hput _ _ (inOutputBlocks_add (by decide)), hput _ _ (inOutputBlocks_add (by decide)),
    brings_when empties_refl fun hdeferred => absurd hdeferred (by simp [hs]),
    onCal_empties fun _ _ => ⟨rfl, rfl⟩, sends_empties (beginChain_sends st), sends_empties (settleLater_sends st)⟩

theorem endOfStream_empties : (endOfStream st).brings (Empties st) :=
  brings_look fun _ => brings_seq empties_trans (sends_empties (sealFrame_sends _ _)) finishChain_empties

theorem endStream_empties : (endStream st).brings (Empties st) :=
  brings_look fun _ => brings_ite
    (brings_seq empties_trans (sends_empties (onChain_sends _ _)) (sends_empties (checkpointDueAs_sends 3 st))) endOfStream_empties

theorem checkDrained_empties : (checkDrained st).brings (Empties st) := by
  refine brings_look fun s => ?_
  dsimp only
  split
  · exact empties_refl
  · refine brings_when empties_refl fun _ => brings_all empties_trans empties_refl ?_
    simp only [List.forall_mem_cons, List.not_mem_nil, false_imp_iff, implies_true, and_true]
    exact ⟨onCal_empties fun _ h => ⟨h, rfl⟩,
      brings_each empties_trans empties_refl fun _ _ => sends_empties (segAppend_sends _ _ _), emitted_empties _,
      sends_empties (segClose_sends st), endStream_empties⟩

end

/-! ## The staged entry of a stream in force (R197, R577) -/

theorem streamRegs_below {st a : Nat} (hst : st < 8192) (h : a ∈ streamRegs st) : ¬ inOutputBlocks a := by
  simp only [streamRegs, List.mem_append, List.mem_cons, List.not_mem_nil, or_false, List.mem_map, List.mem_range,
    F.STR_CFG_ENABLED, F.CAL_STREAM_CFG_IS_VENT, F.CAL_STREAM_VENT_VENT_STREAM, F.STR_DEST_KIND, F.CAL_STREAM_LANES_LANES] at h
  rcases h with ((rfl | rfl | rfl) | ⟨d, hd, rfl⟩) | ⟨w, hw, rfl⟩ <;> simp only [inOutputBlocks] <;> omega

/-- What applying a staged entry leaves. -/
structure StreamApplied (st : Nat) (s t : State) : Prop where
  pending : t.get (F.STR_STATUS_PENDING st) = 0
  commit : t.get (F.STR_CTRL_COMMIT st) = 0
  inForce : ∀ a ∈ streamRegs st, t.rdForce a = s.rd a
  forceKept : ∀ a, a ∉ streamRegs st → t.rdForce a = s.rdForce a
  rd : ∀ a, ¬ (a = (F.STR_STATUS_PENDING st).addr ∨ a = (F.STR_CTRL_COMMIT st).addr) → t.rd a = s.rd a
  units : t.units = s.units
  flash : t.flash = s.flash

theorem applyStream_applied (st : Nat) (s : State) : StreamApplied st s ((applyStream st).run s) := by
  obtain ⟨q, hrun, hforce⟩ := run_commitWords (streamRegs st) s
  have hstep : (applyStream st).run s =
      (put (F.STR_CTRL_COMMIT st) 0).run ((put (F.STR_STATUS_PENDING st) 0).run { s with force := q }) := by
    rw [applyStream, run_seq, run_seq, hrun]
  have hq : ∀ a, Sparse.get resetWord q a = if a ∈ streamRegs st then s.rd a else s.rdForce a := fun a => by
    rw [← hforce a, hrun]; rfl
  rw [hstep]
  refine ⟨?_, ?_, fun a ha => ?_, fun a ha => ?_, fun a ha => ?_, rfl, rfl⟩
  · rw [get_put_other _ _ _ _ (Nat.le_refl _) (by simp [F.STR_STATUS_PENDING]) (.inl (by simp [F.STR_CTRL_COMMIT, F.STR_STATUS_PENDING])),
      get_put_same _ _ _ (Nat.le_refl _) (by simp [F.STR_STATUS_PENDING]), Nat.zero_mod]
  · rw [get_put_same _ _ _ (Nat.le_refl _) (by simp [F.STR_CTRL_COMMIT]), Nat.zero_mod]
  · exact (hq a).trans (if_pos ha)
  · exact (hq a).trans (if_neg ha)
  · rw [rd_put_other _ _ _ (not_or.mp ha).2, rd_put_other _ _ _ (not_or.mp ha).1]
    rfl

/-! ## STREAM_CONFIG_APPLY (R197) -/

theorem streamConfigApply_timeless (st : Nat) : (streamConfigApplyAct st).timeless := by
  simp only [streamConfigApplyAct, timeless_look, timeless_when, timeless_all_cons, timeless_all_nil]
  refine fun s _ => ⟨?_, by simp, by simp, by simp, by simp, trivial⟩
  split <;> simp [putForce]

/-- The boundary noted: the configuration of before, and no tenant reset's disable any more. -/
def pastBoundary (t : Nat) (old : List (Nat × Word)) (c : CalStream) : CalStream :=
  { c with epochs := (t, old) :: c.epochs, byReset := false }

/-- What the boundary puts in force: for a tenant reset's disable ENABLED alone (R513), else the staged entry. -/
def boundaryAct (st : Nat) (byReset : Bool) : Act :=
  if byReset then .seq (putForce (F.STR_CFG_ENABLED st) 0) (put (F.STR_STATUS_PENDING st) 0) else applyStream st

/-- Behind the boundary: the life that begins opens its chain, a vent that ends is over, and a life with nothing left to emit
ends. -/
def behindBoundary (st : Nat) (s : State) : Act :=
  let was := s.liveIs (F.STR_CFG_ENABLED st)
  let now := s.is (F.STR_CFG_ENABLED st) && !(s.cal st).byReset
  Act.all [
    Act.when (!was && now) (.seq
      (onCal st (fun c => { c with lives := c.lives.map (fun l =>
        if l.start = s.get (F.CAL_STREAM_APPLY_T_APPLY st) && l.stop.isNone then { l with began := true } else l) }))
      (beginChain st)),
    Act.when (was && !now && s.liveIs (F.CAL_STREAM_CFG_IS_VENT st))
      (onCal st (fun c => { c with lives := changeClosing (fun l => { l with isOver := true }) c.lives })),
    checkDrained st]

section
variable {st : Nat} {s : State}

theorem behindBoundary_empties : (behindBoundary st s).brings (Empties st) := by
  refine brings_all empties_trans empties_refl ?_
  simp only [List.forall_mem_cons, List.not_mem_nil, false_imp_iff, implies_true, and_true]
  exact ⟨brings_when empties_refl fun _ => brings_seq empties_trans (onCal_empties fun _ h => ⟨h, rfl⟩)
      (sends_empties (beginChain_sends st)),
    brings_when empties_refl fun _ => onCal_empties fun _ h => ⟨h, rfl⟩, checkDrained_empties⟩

theorem boundaryAct_units (b : Bool) : ((boundaryAct st b).run s).units = s.units := by
  cases b
  · exact (applyStream_applied st s).units
  · rfl

/-- The stream's time has reached T_APPLY, in the domain of the entry that comes into force. -/
def State.applyDue (s : State) (st : Nat) : Prop :=
  0 ≤ dif (s.nowIn (if (s.cal st).byReset then s.live (F.STR_CFG_DOMAIN st) else s.get (F.STR_CFG_DOMAIN st)))
    (s.get (F.CAL_STREAM_APPLY_T_APPLY st))

theorem run_streamConfigApply (hpending : s.get (F.STR_STATUS_PENDING st) = 1) (hdeferred : (s.cal st).deferred = false)
    (hdue : s.applyDue st) : (streamConfigApplyAct st).run s = (behindBoundary st s).run
      ((onCal st (pastBoundary (s.get (F.CAL_STREAM_APPLY_T_APPLY st)) ((streamRegs st).map (fun a => (a, s.rdForce a))))).run
        ((boundaryAct st (s.cal st).byReset).run s)) := by
  rw [State.applyDue] at hdue
  rw [streamConfigApplyAct, run_look]
  dsimp only
  rw [is_eq_true.mpr (by omega), hdeferred, Bool.not_false, Bool.and_self, Bool.true_and, decide_eq_true hdue, run_when_true]
  rfl

/-- From `s` the stream has passed the boundary of its pending commit: of what the boundary brings, only the counters and sent
frames of a life that ends or begins change anything. -/
structure BoundaryPassed (st : Nat) (s t : State) : Prop where
  byReset : (t.cal st).byReset = false
  rd : ∀ a, ¬ ofEmission st a → t.rd a = ((boundaryAct st (s.cal st).byReset).run s).rd a
  rdForce : ∀ a, ¬ inOutputBlocks a → t.rdForce a = ((boundaryAct st (s.cal st).byReset).run s).rdForce a
  flash : t.flash = s.flash

theorem streamConfigApply_passed (hpending : s.get (F.STR_STATUS_PENDING st) = 1) (hdeferred : (s.cal st).deferred = false)
    (hdue : s.applyDue st) : BoundaryPassed st s ((streamConfigApplyAct st).run s) := by
  have hcal : ((boundaryAct st (s.cal st).byReset).run s).cal st = s.cal st := by rw [State.cal, boundaryAct_units]; rfl
  have hnoted := cal_onCal (st := st) (pastBoundary (s.get (F.CAL_STREAM_APPLY_T_APPLY st))
    ((streamRegs st).map (fun a => (a, s.rdForce a)))) ((boundaryAct st (s.cal st).byReset).run s)
  have hrest := behindBoundary_empties (s := s) _ (by rw [hnoted, pastBoundary, hcal, hdeferred])
  have hflash := congrArg Instant.flash (run_timeless (streamConfigApply_timeless st) s)
  rw [run_streamConfigApply hpending hdeferred hdue] at hflash ⊢
  exact ⟨hrest.byReset.trans (by rw [hnoted]; rfl), hrest.rd, hrest.rdForce, hflash⟩

/-! ## What the boundary leaves -/

variable (hst : st < 8192)
include hst

theorem not_ofEmission_entry {o : Nat} (ho : o < 0x80) : ¬ ofEmission st (0x02800000 + o + 0x80 * st) := by
  simp only [ofEmission, inOutputBlocks]
  omega

/-- The staged entry comes into force. -/
theorem streamConfigApply_staged (hpending : s.get (F.STR_STATUS_PENDING st) = 1) (hdeferred : (s.cal st).deferred = false)
    (hreset : (s.cal st).byReset = false)
    (htime : 0 ≤ dif (s.nowIn (s.get (F.STR_CFG_DOMAIN st))) (s.get (F.CAL_STREAM_APPLY_T_APPLY st))) :
    ∃ t, exec (.streamConfigApply st) s = .next t ∧
      t.get (F.STR_STATUS_PENDING st) = 0 ∧
      t.get (F.STR_CTRL_COMMIT st) = 0 ∧
      (∀ a ∈ streamRegs st, t.rdForce a = s.rd a) ∧
      t.get (F.STR_CFG_ENABLED st) = s.get (F.STR_CFG_ENABLED st) ∧
      (∀ a, ¬ (inStreamBlocks st a ∨ inOutputBlocks a) → t.rd a = s.rd a) ∧
      t.flash = s.flash := by
  have hdue : s.applyDue st := by rw [State.applyDue, hreset]; exact htime
  obtain ⟨-, hrd, hforce, hflash⟩ := streamConfigApply_passed hpending hdeferred hdue
  rw [hreset] at hrd hforce
  obtain ⟨hnone, hcommit, hinForce, -, hkept, -, -⟩ := applyStream_applied st s
  have hget : ∀ f : Field, ¬ ofEmission st f.addr →
      ((streamConfigApplyAct st).run s).get f = ((applyStream st).run s).get f := fun f hf => by
    rw [State.get, hrd _ hf]; rfl
  refine ⟨_, rfl, (hget _ (not_ofEmission_entry hst (o := 8) (by decide))).trans hnone,
    (hget _ (not_ofEmission_entry hst (o := 4) (by decide))).trans hcommit,
    fun a ha => (hforce a (streamRegs_below hst ha)).trans (hinForce a ha),
    (hget _ (not_ofEmission_entry hst (o := 0) (by decide))).trans ?_, fun a ha => ?_, hflash⟩
  · rw [State.get, hkept _ (by simp [F.STR_CFG_ENABLED, F.STR_STATUS_PENDING, F.STR_CTRL_COMMIT])]
    rfl
  · refine (hrd a fun h => ha (h.imp_left fun h => .inr (.inr (.inr h)))).trans (hkept a fun h => ha (.inl (.inl ?_)))
    simp only [F.STR_STATUS_PENDING, F.STR_CTRL_COMMIT] at h
    omega

/-- A tenant reset's disable comes into force: ENABLED clears, and no other value in force changes (R513). -/
theorem streamConfigApply_reset (hpending : s.get (F.STR_STATUS_PENDING st) = 1) (hdeferred : (s.cal st).deferred = false)
    (hreset : (s.cal st).byReset = true)
    (htime : 0 ≤ dif (s.nowIn (s.live (F.STR_CFG_DOMAIN st))) (s.get (F.CAL_STREAM_APPLY_T_APPLY st))) :
    ∃ t, exec (.streamConfigApply st) s = .next t ∧
      t.get (F.STR_STATUS_PENDING st) = 0 ∧
      t.live (F.STR_CFG_ENABLED st) = 0 ∧
      (t.cal st).byReset = false ∧
      (∀ d ∈ List.range 16, t.live (F.STR_DEST_KIND st d) = s.live (F.STR_DEST_KIND st d)) ∧
      (∀ a, ¬ (inStreamBlocks st a ∨ inOutputBlocks a) → t.rd a = s.rd a) ∧
      t.flash = s.flash := by
  have hdue : s.applyDue st := by rw [State.applyDue, hreset]; exact htime
  obtain ⟨hover, hrd, hforce, hflash⟩ := streamConfigApply_passed hpending hdeferred hdue
  rw [hreset] at hrd hforce
  have hlive : ∀ f : Field, ¬ inOutputBlocks f.addr →
      ((streamConfigApplyAct st).run s).live f = ((putForce (F.STR_CFG_ENABLED st) 0).run s).live f := fun f hf => by
    rw [State.live, hforce _ hf]; rfl
  refine ⟨_, rfl, ?_, (hlive _ ?_).trans ?_, hover, fun d hd => (hlive _ ?_).trans ?_, fun a ha => ?_, hflash⟩
  · rw [State.get, hrd (F.STR_STATUS_PENDING st).addr (not_ofEmission_entry hst (o := 8) (by decide))]
    exact (get_put_same _ _ _ (Nat.le_refl _) (by simp [F.STR_STATUS_PENDING])).trans (Nat.zero_mod _)
  · simp only [inOutputBlocks, F.STR_CFG_ENABLED]; omega
  · rw [putForce, run_look, State.live, rdForce_inForce, if_pos rfl]
    exact (getBits_putBits_same _ _ _ _ (Nat.le_refl 31) (by decide)).trans (Nat.zero_mod _)
  · have := List.mem_range.mp hd
    simp only [inOutputBlocks, F.STR_DEST_KIND]; omega
  · rw [putForce, run_look, State.live, rdForce_inForce, if_neg (by simp only [F.STR_DEST_KIND, F.STR_CFG_ENABLED]; omega)]
    rfl
  · refine (hrd a fun h => ha (h.imp_left fun h => .inr (.inr (.inr h)))).trans
      (rd_put_other _ _ _ fun h => ha (.inl (.inl ?_)))
    simp only [F.STR_STATUS_PENDING] at h
    omega

end

/-- No commit that waits for T_APPLY, or its time not reached: the apply does nothing. -/
theorem streamConfigApply_none {st : Nat} {s : State} (h : s.get (F.STR_STATUS_PENDING st) = 0 ∨ (s.cal st).deferred = true ∨
    ((s.cal st).byReset = false ∧ dif (s.nowIn (s.get (F.STR_CFG_DOMAIN st))) (s.get (F.CAL_STREAM_APPLY_T_APPLY st)) < 0)) :
    exec (.streamConfigApply st) s = .next s := by
  have hcond : (s.is (F.STR_STATUS_PENDING st) && !(s.cal st).deferred && decide (dif (s.nowIn
      (if (s.cal st).byReset then s.live (F.STR_CFG_DOMAIN st) else s.get (F.STR_CFG_DOMAIN st)))
      (s.get (F.CAL_STREAM_APPLY_T_APPLY st)) ≥ 0)) = false := by
    rcases h with hpending | hdeferred | ⟨hreset, htime⟩
    · rw [is_eq_false.mpr hpending]; rfl
    · rw [hdeferred, Bool.not_true, Bool.and_false, Bool.false_and]
    · rw [hreset, if_neg Bool.false_ne_true, decide_eq_false (not_le.mpr htime), Bool.and_false]
  show Host.Outcome.next ((streamConfigApplyAct st).run s) = _
  rw [streamConfigApplyAct, run_look]
  dsimp only
  rw [hcond, run_when_false]

end Sys2Proof.Machine
end

section
/-! Looking ahead behind the count of a write (R20, R107, R492): the commands of the window, and the writes they carry, are the same. -/

namespace Sys2Proof.Machine

/-! ## Registers that a look ahead reads -/

/-- The registers between the image's and the queues', and those above the notification queues. -/
theorem not_ofWriteCount_between {a : Nat} (h : 0x00020059 ≤ a ∧ a < 0x08084000 ∨ 0x08086000 ≤ a) : ¬ ofWriteCount a := by
  simp only [ofWriteCount, inNotify, F.IMG_VOLATILE_WRITES_COUNT]
  omega

section
variable {s t : State} (h : Tallied ofWriteCount s t)
include h

theorem Tallied.device : t.device = s.device :=
  h.get (not_ofWriteCount_between (a := F.SUP_ROLE_STATUS_DEVICE_NUMBER.addr) (by decide))
theorem Tallied.ready : t.up = s.up := h.up (not_ofWriteCount (by decide))
theorem Tallied.clasp : t.units.clasp = s.units.clasp := congrArg (·.units.clasp) h.rest
theorem Tallied.keys : t.units.keys = s.units.keys := congrArg (·.units.keys) h.rest

/-! ## What frames carry (R322, R353, R354) -/

/-- A register of a listener link of the device. -/
theorem Tallied.getLink {l o : Nat} (hl : l < 256) (ho : o < 0x400) {f : Field}
    (hf : f.addr = 0x06001000 + o + 0x10000 * (l / 8) + 0x800 * (l % 8)) : t.get f = s.get f :=
  h.get (not_ofWriteCount_between (by rw [hf]; omega))

theorem Tallied.linkMac (l : Nat) : t.linkMac l = s.linkMac l := by
  unfold State.linkMac
  split
  case isTrue hl => exact h.getLink hl (o := 0x10) (by decide) rfl
  case isFalse => rw [h.device]

theorem Tallied.linkIp6 (l : Nat) : t.linkIp6 l = s.linkIp6 l := by
  unfold State.linkIp6
  split
  case isTrue hl =>
    rw [h.getLink hl (o := 0x20) (f := F.LSN_LINK_IP6_ADDRESS (l / 8) (l % 8) 0) (by decide) rfl,
      h.getLink hl (o := 0x28) (f := F.LSN_LINK_IP6_ADDRESS (l / 8) (l % 8) 1) (by decide)
        (by simp only [F.LSN_LINK_IP6_ADDRESS]; omega)]
  case isFalse => rw [h.device]

theorem Tallied.linkIsUp (l : Nat) : t.linkIsUp l = s.linkIsUp l := by
  unfold State.linkIsUp linkState linkF
  by_cases hl : l < 256
  · rw [if_pos hl, h.getLink hl (o := 0x4) (by decide) rfl]
  · by_cases hr : l < 264
    · rw [if_neg hl, h.get (not_ofWriteCount_between (by simp only [F.RNG_STATUS_STATE]; omega))]
    · rw [decide_eq_false hr, Bool.false_and, Bool.false_and]

theorem Tallied.istPort (l : Nat) : t.istPort l = s.istPort l := by
  unfold State.istPort
  split
  case isTrue hl => exact h.getLink hl (o := 0x1C) (by decide) rfl
  case isFalse => rfl

theorem Tallied.mgmtPort (l : Nat) : t.mgmtPort l = s.mgmtPort l := by
  unfold State.mgmtPort
  split
  case isTrue hl => exact h.getLink hl (o := 0x1C) (by decide) rfl
  case isFalse => rfl

theorem Tallied.ownIp (l : Nat) (p : IpPacket) : t.ownIp l p = s.ownIp l p := by
  unfold State.ownIp
  split
  case isTrue hl => rw [h.getLink hl (o := 0x18) (by decide) rfl, h.linkIp6]
  case isFalse => rw [h.linkIp6]

theorem Tallied.dropped (l : Nat) (f : List Byte) (x : RxStatus) : t.dropped l f x = s.dropped l f x := by
  unfold State.dropped State.addressed
  rw [h.linkMac]

theorem Tallied.inside (c : Instr) : t.inside c = s.inside c := by
  have henable : t.is F.SVC_CFG_ENABLE = s.is F.SVC_CFG_ENABLE := h.is (not_ofWriteCount_between (by decide))
  have hmac : t.get F.SVC_MAC_MAC = s.get F.SVC_MAC_MAC := h.get (not_ofWriteCount_between (by decide))
  have hport : t.get F.SVC_UDP_MGMT_PORT = s.get F.SVC_UDP_MGMT_PORT := h.get (not_ofWriteCount_between (by decide))
  cases c with
  | frameReceived l f x => simp only [State.inside, h.linkIsUp, h.dropped, h.ownIp, h.mgmtPort, h.istPort]
  | svcFrameReceived frame ok run => simp only [State.inside, h.ready, henable, hmac, hport]
  | _ => rfl

theorem Tallied.coming : t.coming = s.coming := by
  rw [State.coming, h.pending, funext h.inside]
  rfl

/-! ## Keys and messages (R365, R366, R485, R496) -/

/-- A field of a key-store entry. -/
theorem Tallied.getKey {e : Nat} {f : Field} (hf : f.addr = 0x09001000 + 0x8 * e) : t.get f = s.get f :=
  h.get (not_ofWriteCount_between (by rw [hf]; omega))

theorem Tallied.keyEntry (idx usage : Nat) : t.keyEntry idx usage = s.keyEntry idx usage := by
  simp only [State.keyEntry, State.is, h.getKey (e := _) (f := F.SIG_KEY_INFO_VALID _) rfl,
    h.getKey (e := _) (f := F.SIG_KEY_INFO_KEY_INDEX _) rfl, h.getKey (e := _) (f := F.SIG_KEY_INFO_USAGE _) rfl]

theorem Tallied.keyGood (e : Nat) : t.keyGood e = s.keyGood e := by
  simp only [State.keyGood, State.faultPending, State.is, h.getKey (e := _) (f := F.SIG_KEY_INFO_FAULT _) rfl, h.pending]

theorem Tallied.secret (e : Nat) : t.secret e = s.secret e := by simp only [State.secret, h.keys]

theorem Tallied.usable (idx usage tenant : Nat) : t.usable idx usage tenant = s.usable idx usage tenant := by
  simp only [State.usable, h.keyEntry, h.getKey (e := _) (f := F.SIG_KEY_INFO_TENANT _) rfl, h.keyGood, h.secret]

theorem Tallied.ringKey : t.ringKey = s.ringKey := by
  simp only [State.ringKey, State.is, h.getKey (e := _) (f := F.SIG_KEY_INFO_VALID _) rfl,
    h.getKey (e := _) (f := F.SIG_KEY_INFO_USAGE _) rfl, h.getKey (e := _) (f := F.SIG_KEY_INFO_TENANT _) rfl]

theorem Tallied.owner : t.owner = s.owner := by
  unfold State.owner
  rw [h.keep]

theorem Tallied.owned : t.owned = s.owned := by
  unfold State.owned State.ownerHash
  rw [h.owner]

theorem Tallied.mgmtKey (n : Nat) : t.mgmtKey n = s.mgmtKey n := by
  unfold State.mgmtKey
  rw [h.owned, h.owner, h.tenant, h.usable]

theorem Tallied.hostOpen (o : Origin) (m : List Byte) : t.hostOpen o m = s.hostOpen o m := by
  unfold State.hostOpen State.hostKey
  dsimp only
  rw [h.tenant, h.owned, h.mgmtKey, h.clasp]

theorem Tallied.bridgeKey (label target entry : List Byte) : t.bridgeKey label target entry = s.bridgeKey label target entry := by
  unfold State.bridgeKey
  rw [h.ringKey]
  cases s.ringKey with
  | none => rfl
  | some e => dsimp only; rw [h.keyGood, h.secret]

theorem Tallied.bridgeOpen (m : List Byte) : t.bridgeOpen m = s.bridgeOpen m := by
  unfold State.bridgeOpen State.entryNonce
  rw [h.tenant, h.bridgeKey, h.clasp]

theorem Tallied.roleRec : t.roleRec = s.roleRec := by
  have hcopy : ∀ c, t.roleCopy c = s.roleCopy c := fun c => by
    unfold State.roleCopy State.flashBytes State.flashByte
    rw [h.flash]
  unfold State.roleRec State.roleInForce
  rw [hcopy, hcopy]

theorem Tallied.endToEndHere (o : Origin) (m : List Byte) : t.endToEndHere o m = s.endToEndHere o m := by
  have hconf : t.unconfigured = s.unconfigured := by
    rw [State.unconfigured, h.get (not_ofWriteCount_image (a := F.IMG_STATUS_STATE.addr) (by decide))]; rfl
  unfold State.endToEndHere
  rw [hconf, h.device, h.roleRec]
  by_cases ho : onRing o = true
  · have hlink : o.link - 256 < 8 := by
      simp only [onRing, Bool.and_eq_true, decide_eq_true_eq] at ho
      omega
    have hpeer : ∀ {f : Field}, f.addr = 0x00204100 + 0x20 * (o.link - 256) → t.get f = s.get f := fun hf =>
      h.get (not_ofWriteCount_between (by rw [hf]; omega))
    simp only [State.is, hpeer (f := F.SUP_PEER_W0_EXCHANGED (o.link - 256)) rfl, hpeer (f := F.SUP_PEER_W0_DEVICE (o.link - 256)) rfl]
  · rw [Bool.eq_false_iff.mpr ho, Bool.false_and, Bool.false_and, Bool.false_and, Bool.false_and, Bool.false_and,
      Bool.false_and, Bool.false_and]

theorem Tallied.writeIn (i : Instr) : t.writeIn i = s.writeIn i := by
  cases i <;> simp only [State.writeIn, h.device, h.hostOpen, h.bridgeOpen, h.endToEndHere]

/-! ## Writes to a tenant's TEN_CTRL (R513) -/

end

theorem locate_tenCtrl : ∀ n < 32, locate (F.TEN_CTRL_RESET n).addr = some (.TEN_CTRL, [n], 0) := by decide +kernel

section
variable {s t : State} (h : Tallied ofWriteCount s t)
include h

/-- TEN_CTRL is its tenant's, in every state. -/
theorem Tallied.mayWrite_tenCtrl {n : Nat} (hn : n < 32) (w : Nat) :
    t.mayWrite w (F.TEN_CTRL_RESET n).addr = s.mayWrite w (F.TEN_CTRL_RESET n).addr := by
  have hnamed : ∀ x : State, x.namedOwner (F.TEN_CTRL_RESET n).addr = some n := fun x => by
    unfold State.namedOwner
    rw [locate_tenCtrl n hn]
    rfl
  unfold State.mayWrite
  rw [hnamed t, hnamed s, h.tenant, h.hasRight]

theorem Tallied.asked_tenCtrl {n : Nat} (hn : n < 32) (m l : Nat) :
    t.asked ⟨(F.TEN_CTRL_RESET n).addr, m, l⟩ = s.asked ⟨(F.TEN_CTRL_RESET n).addr, m, l⟩ := by
  unfold State.asked
  rw [h.coming, funext h.writeIn]
  simp only [h.mayWrite_tenCtrl hn]

theorem Tallied.getTenant {n : Nat} : t.get (F.TEN_STATUS_STATE n) = s.get (F.TEN_STATUS_STATE n) :=
  h.get (not_ofWriteCount_between (.inr (by simp only [F.TEN_STATUS_STATE]; omega)))

theorem Tallied.resetting {n : Nat} (hn : n < 32) : t.resetting n = s.resetting n := by
  have haccepted : ∀ w v, t.resetAccepted n w v = s.resetAccepted n w v := fun w v => by
    unfold State.resetAccepted
    rw [h.getTenant]
  unfold State.resetting
  rw [h.getTenant, h.asked_tenCtrl hn, h.pending]
  simp only [haccepted]

end

end Sys2Proof.Machine
end

section
/-! STR_COMMIT behind the count of its write (R107, R190, R197): the entry is judged as it was, and what becomes of it. -/

namespace Sys2Proof.Machine

/-! ## What admission reads of a stream -/

section
variable {P : Nat → Prop} {s t : State} (h : Tallied P s t)
include h

theorem Tallied.cal (st : Nat) : t.cal st = s.cal st := congrArg (fun x => x.cal st) h.rest
theorem Tallied.chain (st : Nat) : t.chain st = s.chain st := congrArg (fun x => x.chain st) h.rest
theorem Tallied.streamIdle (st : Nat) : t.streamIdle st = s.streamIdle st := by
  rw [State.streamIdle, h.cal, h.chain]
  rfl
theorem Tallied.liveIs (f : Field) : t.liveIs f = s.liveIs f := by rw [State.liveIs, h.live]; rfl

theorem Tallied.streamOwner (st : Nat) : t.streamOwner st = s.streamOwner st := by
  simp only [State.streamOwner, State.tenantList, h.tenant]

theorem Tallied.nowIn (dom : Nat) : t.nowIn dom = s.nowIn dom := by
  have hnow : t.now = s.now := congrArg (·.units.d0 % 2 ^ 64) h.rest
  have hsegments : t.segments dom = s.segments dom := congrArg (fun x => x.segments dom) h.rest
  simp only [State.nowIn, State.convert, hnow, hsegments]

theorem Tallied.applyTime {st : Nat} (hentry : ¬ P (F.STR_CFG_DOMAIN st).addr) (hcal : ¬ P (F.CAL_STREAM_CFG_STRATUM_K st).addr) :
    t.applyTime st = s.applyTime st := by
  simp only [State.applyTime, State.applyFrom, h.get hentry, h.get hcal, h.live, h.nowIn, h.cal]

end

/-! ## The judgement of a staged entry (R190) -/

theorem all_range_congr {n : Nat} {p q : Nat → Bool} (h : ∀ d < n, p d = q d) : (List.range n).all p = (List.range n).all q := by
  rw [Bool.eq_iff_iff, List.all_eq_true, List.all_eq_true]
  exact forall₂_congr fun d hd => by rw [h d (List.mem_range.mp hd)]

section
variable {s t : State} (h : Tallied ofWriteCount s t) {st : Nat} (hst : st < 8192)
include h

/-- A register of the filter or of Caldera. -/
theorem Tallied.getStaged {f : Field} (hf : 0x02800000 ≤ f.addr ∧ f.addr < 0x06000000) : t.get f = s.get f :=
  h.get (not_ofWriteCount_between (.inl ⟨by omega, by omega⟩))

include hst

/-- A field of the staged entry in the filter. -/
theorem Tallied.getEntry {f : Field} {o : Nat} (ho : o < 0x80) (hf : f.addr = 0x02800000 + o + 0x80 * st) : t.get f = s.get f :=
  h.getStaged (by omega)

/-- A field of the staged entry in Caldera. -/
theorem Tallied.getCaldera {f : Field} {o : Nat} (ho : o < 0x40) (hf : f.addr = 0x03010000 + o + 0x40 * st) : t.get f = s.get f :=
  h.getStaged (by omega)

theorem Tallied.calResult : t.calResult st = s.calResult st := by
  have hcal : ∀ {f : Field}, f.addr = 0x03010000 + 0 + 0x40 * st → t.get f = s.get f := h.getCaldera hst (by decide)
  have hvent : t.get (F.CAL_STREAM_VENT_VENT_STREAM st) = s.get (F.CAL_STREAM_VENT_VENT_STREAM st) :=
    h.getCaldera hst (o := 4) (by decide) rfl
  have hdomain : t.get (F.STR_CFG_DOMAIN st) = s.get (F.STR_CFG_DOMAIN st) := h.getEntry hst (o := 0) (by decide) rfl
  simp only [State.calResult, State.is, hcal (f := F.CAL_STREAM_CFG_STRATUM_K st) rfl,
    hcal (f := F.CAL_STREAM_CFG_HORIZON_STRATA st) rfl, hcal (f := F.CAL_STREAM_CFG_IS_VENT st) rfl,
    hcal (f := F.CAL_STREAM_CFG_LATE_MODE st) rfl, hvent, hdomain, h.liveIs, h.live, h.streamOwner]
  rfl

/-- A field of a staged destination. -/
theorem Tallied.getDest {d : Nat} (hd : d < 16) {f : Field} (hf : f.addr = 0x02800040 + 0x80 * st + 0x4 * d) : t.get f = s.get f :=
  h.getStaged (by omega)

theorem Tallied.destInRange {d : Nat} (hd : d < 16) : t.destInRange st d = s.destInRange st d := by
  simp only [State.destInRange, h.getDest hst hd (f := F.STR_DEST_KIND st d) rfl, h.getDest hst hd (f := F.STR_DEST_PORT st d) rfl,
    h.getDest hst hd (f := F.STR_DEST_ENDPOINT st d) rfl, h.part]

theorem Tallied.destAllowed {d : Nat} (hd : d < 16) : t.destAllowed st d = s.destAllowed st d := by
  simp only [State.destAllowed, h.getDest hst hd (f := F.STR_DEST_KIND st d) rfl, h.getDest hst hd (f := F.STR_DEST_PORT st d) rfl,
    h.getDest hst hd (f := F.STR_DEST_ENDPOINT st d) rfl, h.live, h.streamOwner, h.tenant]

theorem Tallied.streamResult : t.streamResult st = s.streamResult st := by
  have hentry : ∀ {f : Field}, f.addr = 0x02800000 + 0 + 0x80 * st → t.get f = s.get f := h.getEntry hst (by decide)
  have hrange : (List.range 16).all (t.destInRange st) = (List.range 16).all (s.destInRange st) :=
    all_range_congr fun d hd => h.destInRange hst hd
  simp only [State.streamResult, State.is, h.calResult hst, hentry (f := F.STR_CFG_DEST_COUNT st) rfl,
    hentry (f := F.STR_CFG_DOMAIN st) rfl, hentry (f := F.STR_CFG_ENABLED st) rfl, hentry (f := F.STR_CFG_OVERLOAD st) rfl,
    hrange, h.live, h.liveIs]
  by_cases hn : 16 < s.get (F.STR_CFG_DEST_COUNT st)
  · simp only [hn, decide_true, Bool.true_or, if_true]
  · have hallowed : (List.range (s.get (F.STR_CFG_DEST_COUNT st))).all (t.destAllowed st) =
        (List.range (s.get (F.STR_CFG_DEST_COUNT st))).all (s.destAllowed st) :=
      all_range_congr fun d hd => h.destAllowed hst (by omega)
    rw [hallowed]
    rfl

end

end Sys2Proof.Machine
end

section
/-! STR_COMMIT (R190, R197, R211, R513, R577, R621): the judgement of a commit, and what an accepted one leaves. -/

namespace Sys2Proof.Machine

/-! ## The judgement (R190, R513, R579) -/

/-- A commit judged behind the boundary of this window, if it has one. -/
def judgeCommit (st writer : Nat) : Act := .look fun s =>
  if s.is (F.STR_STATUS_PENDING st) then writeLost (F.STR_STATUS_WRITE_LOST st)
  else if writer ≠ 0 && writer ≠ s.streamOwner st then put (F.STR_STATUS_RESULT st) 5
  else if s.resetting (s.streamOwner st) then Act.when (writer = 0) (writeLost (F.STR_STATUS_WRITE_LOST st))
  else Act.all [
    put (F.CAL_STREAM_STATUS_RESULT st) (s.calResult st),
    if s.streamResult st ≠ 0 then put (F.STR_STATUS_RESULT st) (s.streamResult st) else acceptCommit st]

/-- The command applies the pending commit of the stream. -/
def isBoundary (st : Nat) : Instr → Bool
  | .streamConfigApply x => x = st
  | _ => false

theorem isBoundary_iff {st : Nat} {c : Instr} : isBoundary st c = true ↔ c = .streamConfigApply st := by
  cases c <;> simp [isBoundary]

/-- An entry without a fault has none of Caldera's. -/
theorem calResult_eq_zero {s : State} {st : Nat} (h : s.streamResult st = 0) : s.calResult st = 0 := by
  by_contra hne
  rw [State.streamResult, if_pos hne] at h
  exact absurd h (by decide)

section
variable {st w : Nat} {v : Word} {u : State}

/-- A boundary of the stream is behind in the window, and its commit is judged afterwards. -/
theorem run_strCommit_judged (hbit : getBits v 0 0 = 1) : (strCommitAct st w v).run u =
    (judgeCommit st w).run ((Act.when (u.is (F.STR_STATUS_PENDING st) && u.pending.any (isBoundary st))
      (streamConfigApplyAct st)).run u) := by
  rw [strCommitAct, run_look]
  dsimp only
  rw [if_neg (by omega)]
  rfl

/-- A COMMIT with no boundary of the stream in its window is judged at once. -/
theorem run_strCommit (hbit : getBits v 0 0 = 1)
    (h : u.get (F.STR_STATUS_PENDING st) = 0 ∨ ∀ c ∈ u.pending, c ≠ .streamConfigApply st) :
    (strCommitAct st w v).run u = (judgeCommit st w).run u := by
  have hnone : (u.is (F.STR_STATUS_PENDING st) && u.pending.any (isBoundary st)) = false := by
    rcases h with h | h
    · rw [is_eq_false.mpr h, Bool.false_and]
    · rw [List.any_eq_false.mpr fun c hc hb => h c hc (isBoundary_iff.mp hb), Bool.and_false]
  rw [run_strCommit_judged hbit, hnone, run_when_false]

theorem run_judge_pending (h : u.get (F.STR_STATUS_PENDING st) = 1) :
    (judgeCommit st w).run u = (writeLost (F.STR_STATUS_WRITE_LOST st)).run u := by
  rw [judgeCommit, run_look, if_pos (is_eq_true.mpr (by omega))]

variable (hpending : u.get (F.STR_STATUS_PENDING st) = 0)
include hpending

theorem run_judge_denied (hw : w ≠ 0) (howner : w ≠ u.streamOwner st) :
    (judgeCommit st w).run u = (put (F.STR_STATUS_RESULT st) 5).run u := by
  rw [judgeCommit, run_look, if_neg (by simp [is_eq_false.mpr hpending]), if_pos (by simp [hw, howner])]

variable (hw : w = 0 ∨ w = u.streamOwner st)
include hw

theorem run_judge_allowed : (judgeCommit st w).run u =
    (if u.resetting (u.streamOwner st) then Act.when (w = 0) (writeLost (F.STR_STATUS_WRITE_LOST st))
      else Act.all [
        put (F.CAL_STREAM_STATUS_RESULT st) (u.calResult st),
        if u.streamResult st ≠ 0 then put (F.STR_STATUS_RESULT st) (u.streamResult st) else acceptCommit st]).run u := by
  rw [judgeCommit, run_look, if_neg (by simp [is_eq_false.mpr hpending]), if_neg (by simpa [imp_iff_not_or] using hw)]

theorem run_judge_resetting (hreset : u.resetting (u.streamOwner st) = true) :
    (judgeCommit st w).run u = (Act.when (w = 0) (writeLost (F.STR_STATUS_WRITE_LOST st))).run u := by
  rw [run_judge_allowed hpending hw, if_pos hreset]

variable (hreset : u.resetting (u.streamOwner st) = false)
include hreset

theorem run_judge_faulty (hfault : u.streamResult st ≠ 0) :
    (judgeCommit st w).run u =
      (put (F.STR_STATUS_RESULT st) (u.streamResult st)).run ((put (F.CAL_STREAM_STATUS_RESULT st) (u.calResult st)).run u) := by
  rw [run_judge_allowed hpending hw, if_neg (by simp [hreset]), if_pos hfault]
  rfl

theorem run_judge_accepted (hgood : u.streamResult st = 0) :
    (judgeCommit st w).run u = (acceptCommit st).run ((put (F.CAL_STREAM_STATUS_RESULT st) 0).run u) := by
  rw [run_judge_allowed hpending hw, if_neg (by simp [hreset]), if_neg (by simp [hgood]), calResult_eq_zero hgood]
  rfl

end

/-! ## An accepted commit that waits for T_APPLY (R197, R211, R621) -/

/-- The registers of a commit that waits for its T_APPLY. -/
def scheduleCommit (st t : Nat) : Act := Act.all [
  put (F.CAL_STREAM_APPLY_T_APPLY st) t, put (F.STR_STATUS_PENDING st) 1, put (F.STR_CTRL_COMMIT st) 1, put (F.STR_STATUS_RESULT st) 0]

/-- The change of the stream's lives: one ends, one begins, or neither. -/
def changeLives (st t : Nat) (was now : Bool) : Act :=
  .seq (Act.when (was && !now) (stopStream st t)) (Act.when (!was && now) (startStream st t))

section
variable {st : Nat} {x : State}

theorem run_acceptCommit_timed (h : x.liveIs (F.STR_CFG_ENABLED st) = true ∨ x.is (F.STR_CFG_ENABLED st) = true) :
    (acceptCommit st).run x = (changeLives st (x.applyTime st) (x.liveIs (F.STR_CFG_ENABLED st)) (x.is (F.STR_CFG_ENABLED st))).run
      ((scheduleCommit st (x.applyTime st)).run x) := by
  rw [acceptCommit, run_look]
  dsimp only
  rw [if_neg (by rcases h with h | h <;> simp [h])]
  rfl

theorem run_acceptCommit_disabled (hwas : x.liveIs (F.STR_CFG_ENABLED st) = false) (hnow : x.is (F.STR_CFG_ENABLED st) = false) :
    (acceptCommit st).run x = (if x.streamIdle st then .seq (applyStream st) (put (F.STR_STATUS_RESULT st) 0)
      else Act.all [put (F.STR_STATUS_PENDING st) 1, put (F.STR_CTRL_COMMIT st) 1,
        onCal st (fun c => { c with deferred := true })]).run x := by
  rw [acceptCommit, run_look]
  dsimp only
  rw [if_pos (by simp [hwas, hnow])]

/-- What the schedule shows. -/
structure Scheduled (st t : Nat) (x y : State) : Prop where
  apply : y.get (F.CAL_STREAM_APPLY_T_APPLY st) = t
  pending : y.get (F.STR_STATUS_PENDING st) = 1
  result : y.get (F.STR_STATUS_RESULT st) = 0
  commit : y.get (F.STR_CTRL_COMMIT st) = 1
  calResult : y.get (F.CAL_STREAM_STATUS_RESULT st) = x.get (F.CAL_STREAM_STATUS_RESULT st)
  domain : y.get (F.STR_CFG_DOMAIN st) = x.get (F.STR_CFG_DOMAIN st)
  rd : ∀ a, ¬ inStreamBlocks st a → y.rd a = x.rd a
  force : y.force = x.force
  flash : y.flash = x.flash

variable {t : Nat}

theorem scheduleCommit_scheduled (hst : st < 8192) (ht : t < 2 ^ 64) : Scheduled st t x ((scheduleCommit st t).run x) := by
  have hrun : (scheduleCommit st t).run x = (put (F.STR_STATUS_RESULT st) 0).run ((put (F.STR_CTRL_COMMIT st) 1).run
    ((put (F.STR_STATUS_PENDING st) 1).run ((put (F.CAL_STREAM_APPLY_T_APPLY st) t).run x))) := rfl
  rw [hrun]
  refine ⟨?apply, ?pending, ?result, ?commit, ?calResult, ?domain, fun a ha => ?rd, rfl, rfl⟩
  case apply => rw [get_put_other, get_put_other, get_put_other, get_put_same] <;>
      simp only [F.CAL_STREAM_APPLY_T_APPLY, F.STR_STATUS_PENDING, F.STR_CTRL_COMMIT, F.STR_STATUS_RESULT] <;> omega
  case pending => rw [get_put_other, get_put_other, get_put_same] <;> simp [F.STR_STATUS_PENDING, F.STR_CTRL_COMMIT, F.STR_STATUS_RESULT]
  case result => rw [get_put_same] <;> simp [F.STR_STATUS_RESULT]
  case commit => rw [get_put_other, get_put_same] <;> simp [F.STR_CTRL_COMMIT, F.STR_STATUS_RESULT]
  case calResult =>
    rw [get_put_other, get_put_other, get_put_other, get_put_other] <;>
      simp only [F.CAL_STREAM_APPLY_T_APPLY, F.STR_STATUS_PENDING, F.STR_CTRL_COMMIT, F.STR_STATUS_RESULT,
        F.CAL_STREAM_STATUS_RESULT] <;> omega
  case domain =>
    rw [get_put_other, get_put_other, get_put_other, get_put_other] <;>
      simp only [F.CAL_STREAM_APPLY_T_APPLY, F.STR_STATUS_PENDING, F.STR_CTRL_COMMIT, F.STR_STATUS_RESULT, F.STR_CFG_DOMAIN] <;> omega
  case rd =>
    simp only [inStreamBlocks] at ha
    rw [rd_put_other, rd_put_other, rd_put_other, rd_put_other] <;>
      simp only [F.CAL_STREAM_APPLY_T_APPLY, F.STR_STATUS_PENDING, F.STR_CTRL_COMMIT, F.STR_STATUS_RESULT] <;> omega

/-- The lives change no register but LATE_MAX and OLDEST_START. -/
theorem changeLives_within (was now : Bool) : (changeLives st t was now).within
    (fun a => a = (F.CAL_STREAM_LATE_MAX_TICKS st).addr ∨ a = (F.CAL_STREAM_OLDEST_START st).addr) := by
  refine ⟨Act.within_when fun _ _ => trivial, Act.within_when fun _ s => ?_⟩
  exact ⟨fun _ => .inl rfl, Act.within_when fun _ _ => .inr rfl, fun _ => trivial, trivial⟩

/-- Nor a value in force, nor the flash. -/
theorem changeLives_kept (was now : Bool) (y : State) :
    ((changeLives st t was now).run y).force = y.force ∧ ((changeLives st t was now).run y).flash = y.flash := by
  have hstart : ((startStream st t).run y).force = y.force ∧ ((startStream st t).run y).flash = y.flash := by
    rw [startStream, run_look]
    cases (y.cal st).closing.isNone <;> exact ⟨rfl, rfl⟩
  cases was <;> cases now
  · exact ⟨rfl, rfl⟩
  · exact hstart
  · exact ⟨rfl, rfl⟩
  · exact ⟨rfl, rfl⟩

theorem changeLives_scheduled (hst : st < 8192) {y : State} (h : Scheduled st t x y) (was now : Bool) :
    Scheduled st t x ((changeLives st t was now).run y) := by
  have hget : ∀ f : Field, ¬ (f.addr = (F.CAL_STREAM_LATE_MAX_TICKS st).addr ∨ f.addr = (F.CAL_STREAM_OLDEST_START st).addr) →
      ((changeLives st t was now).run y).get f = y.get f := fun f hf => get_within (changeLives_within was now) hf y
  obtain ⟨happly, hpending, hresult, hcommit, hcal, hdomain, hrd, hforce, hflash⟩ := h
  refine ⟨(hget _ ?_).trans happly, (hget _ ?_).trans hpending, (hget _ ?_).trans hresult, (hget _ ?_).trans hcommit,
    (hget _ ?_).trans hcal, (hget _ ?_).trans hdomain,
    fun a ha => (rd_within (changeLives_within was now) ?outside y).trans (hrd a ha), ?force, ?flash⟩
  case outside =>
    simp only [inStreamBlocks] at ha
    simp only [F.CAL_STREAM_LATE_MAX_TICKS, F.CAL_STREAM_OLDEST_START]
    omega
  case force => exact (changeLives_kept was now y).1.trans hforce
  case flash => exact (changeLives_kept was now y).2.trans hflash
  all_goals
    simp only [F.CAL_STREAM_LATE_MAX_TICKS, F.CAL_STREAM_OLDEST_START, F.CAL_STREAM_APPLY_T_APPLY, F.STR_STATUS_PENDING,
      F.STR_CTRL_COMMIT, F.STR_STATUS_RESULT, F.CAL_STREAM_STATUS_RESULT, F.STR_CFG_DOMAIN]
    omega

theorem scheduleCommit_cal : ((scheduleCommit st t).run x).cal st = x.cal st := rfl
theorem run_changeLives_start : (changeLives st t false true).run x = (startStream st t).run x := rfl

/-! ## A change of the merge state -/

theorem rd_onCal (f : CalStream → CalStream) (y : State) (a : Nat) : ((onCal st f).run y).rd a = y.rd a := rfl
theorem run_onCal_force (f : CalStream → CalStream) (y : State) : ((onCal st f).run y).force = y.force := rfl
theorem run_onCal_flash (f : CalStream → CalStream) (y : State) : ((onCal st f).run y).flash = y.flash := rfl
theorem get_onCal (f : CalStream → CalStream) (y : State) (g : Field) : ((onCal st f).run y).get g = y.get g := rfl

/-! ## The life that ends or begins at T_APPLY -/

theorem stopStream_stop {y : State} (h : (y.cal st).lives ≠ []) :
    (((stopStream st t).run y).cal st).lives.getLast?.bind (·.stop) = some t := by
  rw [stopStream, cal_onCal, List.getLast?_eq_some_getLast h, List.getLast?_concat]
  rfl

theorem run_startStream (y : State) : (startStream st t).run y =
    (onCal st (fun c => { c with lives := c.lives ++ [{ start := t, domain := y.get (F.STR_CFG_DOMAIN st), edge := (t, false) }] })).run
      ((Act.when (y.cal st).closing.isNone (put (F.CAL_STREAM_OLDEST_START st) t)).run
        ((put (F.CAL_STREAM_LATE_MAX_TICKS st) 0).run y)) := rfl

theorem startStream_life (y : State) :
    (((startStream st t).run y).cal st).lives.getLast?.map (fun l => (l.start, l.domain, l.stop)) =
      some (t, y.get (F.STR_CFG_DOMAIN st), none) := by
  rw [run_startStream, cal_onCal, List.getLast?_concat]
  rfl

theorem startStream_oldest {y : State} (ht : t < 2 ^ 64) (h : (y.cal st).closing = none) :
    ((startStream st t).run y).get (F.CAL_STREAM_OLDEST_START st) = t := by
  rw [run_startStream, h, Option.isNone_none, run_when_true]
  exact (get_onCal _ _ _).trans <| (get_put_same _ _ _ (Nat.zero_le 63) (show 63 < 64 by decide)).trans (Nat.mod_eq_of_lt ht)

/-! ## What an accepted commit leaves -/

theorem applyTime_lt (x : State) (st : Nat) : x.applyTime st < 2 ^ 64 := nextMultiple_lt _ _

theorem acceptCommit_scheduled (hst : st < 8192)
    (h : x.liveIs (F.STR_CFG_ENABLED st) = true ∨ x.is (F.STR_CFG_ENABLED st) = true) :
    Scheduled st (x.applyTime st) x ((acceptCommit st).run x) := by
  rw [run_acceptCommit_timed h]
  exact changeLives_scheduled hst (scheduleCommit_scheduled hst (applyTime_lt x st)) _ _

/-- A disable ends the stream's life at T_APPLY. -/
theorem acceptCommit_stop (hwas : x.liveIs (F.STR_CFG_ENABLED st) = true) (hnow : x.is (F.STR_CFG_ENABLED st) = false)
    (hlives : (x.cal st).lives ≠ []) :
    (((acceptCommit st).run x).cal st).lives.getLast?.bind (·.stop) = some (x.applyTime st) := by
  rw [run_acceptCommit_timed (.inl hwas), hwas, hnow]
  exact stopStream_stop hlives

/-- A life begins at T_APPLY, in the staged domain. -/
theorem acceptCommit_start (hst : st < 8192) (hwas : x.liveIs (F.STR_CFG_ENABLED st) = false)
    (hnow : x.is (F.STR_CFG_ENABLED st) = true) :
    (((acceptCommit st).run x).cal st).lives.getLast?.map (fun l => (l.start, l.domain, l.stop)) =
        some (x.applyTime st, x.get (F.STR_CFG_DOMAIN st), none) ∧
      ((x.cal st).closing = none → ((acceptCommit st).run x).get (F.CAL_STREAM_OLDEST_START st) = x.applyTime st) := by
  have hdomain : ((scheduleCommit st (x.applyTime st)).run x).get (F.STR_CFG_DOMAIN st) = x.get (F.STR_CFG_DOMAIN st) :=
    (scheduleCommit_scheduled hst (applyTime_lt x st)).domain
  rw [run_acceptCommit_timed (.inr hnow), hwas, hnow, ← hdomain, run_changeLives_start]
  exact ⟨startStream_life _, fun h => startStream_oldest (applyTime_lt x st) ((congrArg _ scheduleCommit_cal).trans h)⟩

/-- An enabled stream that stays enabled goes on as it is. -/
theorem acceptCommit_kept (hwas : x.liveIs (F.STR_CFG_ENABLED st) = true) (hnow : x.is (F.STR_CFG_ENABLED st) = true) :
    ((acceptCommit st).run x).units = x.units := by
  rw [run_acceptCommit_timed (.inl hwas), hwas, hnow]
  generalize x.applyTime st = t
  rfl

end

end Sys2Proof.Machine
end

section
/-! Stream commits (R190, R196, R197, R513, R577): each way a COMMIT can go, from the state before it. -/

namespace Sys2Proof.Machine

/-! ## STR_STATUS -/

section
variable {st r : Nat} {x : State}

theorem get_put_result (hr : r < 2 ^ 8) : ((put (F.STR_STATUS_RESULT st) r).run x).get (F.STR_STATUS_RESULT st) = r :=
  (get_put_same _ _ _ (Nat.zero_le 7) (show 7 < 64 by decide)).trans (Nat.mod_eq_of_lt hr)

theorem get_put_calResult (hr : r < 2 ^ 8) :
    ((put (F.CAL_STREAM_STATUS_RESULT st) r).run x).get (F.CAL_STREAM_STATUS_RESULT st) = r :=
  (get_put_same _ _ _ (Nat.zero_le 7) (show 7 < 64 by decide)).trans (Nat.mod_eq_of_lt hr)

theorem get_put_result_pending :
    ((put (F.STR_STATUS_RESULT st) r).run x).get (F.STR_STATUS_PENDING st) = x.get (F.STR_STATUS_PENDING st) :=
  get_put_other _ _ _ _ (Nat.zero_le 7) (show 31 < 64 by decide) (.inr (.inr (show 7 < 31 by decide)))

theorem status_apart (hst : st < 8192) : (F.STR_STATUS_RESULT st).addr ≠ (F.CAL_STREAM_STATUS_RESULT st).addr := by
  simp only [F.STR_STATUS_RESULT, F.CAL_STREAM_STATUS_RESULT]
  omega

theorem get_put_result_calResult (hst : st < 8192) :
    ((put (F.STR_STATUS_RESULT st) r).run x).get (F.CAL_STREAM_STATUS_RESULT st) = x.get (F.CAL_STREAM_STATUS_RESULT st) :=
  get_put_other _ _ _ _ (Nat.zero_le 7) (show 7 < 64 by decide) (.inl (status_apart hst))

theorem get_put_calResult_pending (hst : st < 8192) :
    ((put (F.CAL_STREAM_STATUS_RESULT st) r).run x).get (F.STR_STATUS_PENDING st) = x.get (F.STR_STATUS_PENDING st) :=
  get_put_other _ _ _ _ (Nat.zero_le 7) (show 31 < 64 by decide) (.inl (status_apart hst).symm)

theorem get_lost : ((event (F.STR_STATUS_WRITE_LOST st)).run x).get (F.STR_STATUS_WRITE_LOST st) = 1 :=
  get_event_bit rfl (show 30 < 64 by decide)

theorem get_lost_pending :
    ((event (F.STR_STATUS_WRITE_LOST st)).run x).get (F.STR_STATUS_PENDING st) = x.get (F.STR_STATUS_PENDING st) :=
  get_event_other _ _ _ (Nat.le_refl 30) (show 31 < 64 by decide) (.inr (.inr (show 30 < 31 by decide)))

theorem get_lost_result :
    ((event (F.STR_STATUS_WRITE_LOST st)).run x).get (F.STR_STATUS_RESULT st) = x.get (F.STR_STATUS_RESULT st) :=
  get_event_other _ _ _ (Nat.le_refl 30) (show 7 < 64 by decide) (.inr (.inl (show 7 < 30 by decide)))

theorem rd_lost {a : Nat} (h : a ≠ (F.STR_STATUS_RESULT st).addr) : ((event (F.STR_STATUS_WRITE_LOST st)).run x).rd a = x.rd a :=
  rd_event_other (f := F.STR_STATUS_WRITE_LOST st) h

end

/-! ## Where a good entry is accepted -/

section
variable {s u : State}

theorem Counted.behindCount (h : Counted s u) : Tallied ofWriteCount s u := h.toTallied.mono fun _ => .inl

/-- The state in which a good entry is accepted: Caldera's RESULT is 0. -/
def noted (st : Nat) (u : State) : State := (put (F.CAL_STREAM_STATUS_RESULT st) 0).run u

/-- The registers that the count of the write, and Caldera's RESULT, may change. -/
def ofNoted (st a : Nat) : Prop := ofWriteCount a ∨ a = (F.CAL_STREAM_STATUS_RESULT st).addr

theorem Tallied.noted (h : Tallied ofWriteCount s u) (st : Nat) : Tallied (ofNoted st) s (noted st u) :=
  (h.mono fun _ => .inl).trans (run_tally ((put_tally _ _).mpr (.inr rfl)) u)

theorem get_noted_result (st : Nat) : (noted st u).get (F.CAL_STREAM_STATUS_RESULT st) = 0 :=
  get_put_calResult (by decide)

theorem rd_noted {st a : Nat} (h : a ≠ (F.CAL_STREAM_STATUS_RESULT st).addr) : (noted st u).rd a = u.rd a := rd_put_other _ _ _ h

variable {st : Nat} (hst : st < 8192)
include hst

/-- The staged entry, and what the stream shows of it. -/
theorem not_ofNoted_entry {o : Nat} (ho : o < 0x80) : ¬ ofNoted st (0x02800000 + o + 0x80 * st) := by
  simp only [ofNoted, ofWriteCount, inNotify, F.IMG_VOLATILE_WRITES_COUNT, F.CAL_STREAM_STATUS_RESULT]
  omega

theorem not_ofNoted_caldera : ¬ ofNoted st (F.CAL_STREAM_CFG_STRATUM_K st).addr := by
  simp only [ofNoted, ofWriteCount, inNotify, F.IMG_VOLATILE_WRITES_COUNT, F.CAL_STREAM_STATUS_RESULT, F.CAL_STREAM_CFG_STRATUM_K]
  omega

theorem not_ofNoted_streamRegs {a : Nat} (h : a ∈ streamRegs st) : ¬ ofNoted st a := by
  simp only [streamRegs, List.mem_append, List.mem_cons, List.not_mem_nil, or_false, List.mem_map, List.mem_range,
    F.STR_CFG_ENABLED, F.CAL_STREAM_CFG_IS_VENT, F.CAL_STREAM_VENT_VENT_STREAM, F.STR_DEST_KIND, F.CAL_STREAM_LANES_LANES] at h
  simp only [ofNoted, ofWriteCount, inNotify, F.IMG_VOLATILE_WRITES_COUNT, F.CAL_STREAM_STATUS_RESULT]
  rcases h with ((rfl | rfl | rfl) | ⟨d, hd, rfl⟩) | ⟨w, hw, rfl⟩ <;> omega

end

/-- Whether the staged entry is enabled, as its acceptance finds it. -/
theorem enabled_noted {s u : State} {st : Nat} (hst : st < 8192) (h : Tallied ofWriteCount s u) :
    (noted st u).is (F.STR_CFG_ENABLED st) = s.is (F.STR_CFG_ENABLED st) :=
  (h.noted st).is (not_ofNoted_entry hst (o := 0) (by decide))

/-! ## The RESULTs -/

theorem calResult_lt (s : State) (st : Nat) : s.calResult st < 2 ^ 8 := by
  unfold State.calResult
  dsimp only
  split_ifs <;> decide

theorem streamResult_lt (s : State) (st : Nat) : s.streamResult st < 2 ^ 8 := by
  unfold State.streamResult
  dsimp only
  split_ifs <;> decide

/-! ## A COMMIT judged behind its count -/

/-- A good entry that may be committed is accepted. -/
theorem run_judge_good {s u : State} {st w : Nat} (hst : st < 8192) (h : Tallied ofWriteCount s u)
    (hpending : u.get (F.STR_STATUS_PENDING st) = 0) (hw : w = 0 ∨ w = s.streamOwner st)
    (hreset : s.resetting (s.streamOwner st) = false) (hgood : s.streamResult st = 0) :
    (judgeCommit st w).run u = (acceptCommit st).run (noted st u) :=
  run_judge_accepted hpending (by rwa [h.streamOwner]) (by rwa [h.streamOwner, h.resetting (streamOwner_lt s st)])
    (by rwa [h.streamResult hst])

section
variable {s : State} {st w : Nat} {v : Word} (hst : st < 8192) (hhas : s.has 0 = true) (hbit : getBits v 0 0 = 1)
include hst hhas hbit

theorem exec_strCommit_tallied (h : s.get (F.STR_STATUS_PENDING st) = 0) :
    ∃ u, Tallied ofWriteCount s u ∧ u.get (F.STR_STATUS_PENDING st) = 0 ∧
      exec (.strCommit st w v) s = .next ((judgeCommit st w).run u) := by
  obtain ⟨u, hu, hrun⟩ := run_adjusts w (F.STR_CTRL_COMMIT st) (Act.when (s.has 0) (strCommitAct st w v)) s
  have hpending := (hu.getEntry hst (f := F.STR_STATUS_PENDING st) (o := 8) (by decide) rfl).trans h
  rw [hhas, run_when_true, run_strCommit hbit (.inl hpending), ← hhas] at hrun
  exact ⟨u, hu, hpending, congrArg Host.Outcome.next hrun⟩

/-! ## A COMMIT below half the range of the count of writes -/

variable (hcount : s.get F.IMG_VOLATILE_WRITES_COUNT + 1 < 2 ^ 47)
include hcount

theorem exec_strCommit (h : s.get (F.STR_STATUS_PENDING st) = 0 ∨ ∀ c ∈ s.pending, c ≠ .streamConfigApply st) :
    ∃ u, Counted s u ∧ u.get (F.STR_STATUS_PENDING st) = s.get (F.STR_STATUS_PENDING st) ∧
      exec (.strCommit st w v) s = .next ((judgeCommit st w).run u) := by
  obtain ⟨u, hu, hrun⟩ := run_filterRow w (F.STR_CTRL_COMMIT st) (strCommitAct st w v) hhas hcount
  have hpending : u.get (F.STR_STATUS_PENDING st) = s.get (F.STR_STATUS_PENDING st) :=
    hu.behindCount.getEntry hst (o := 8) (by decide) rfl
  refine ⟨u, hu, hpending, congrArg Host.Outcome.next (hrun.trans (run_strCommit hbit ?_))⟩
  rwa [hpending, hu.pending]

/-! ## Commits that are not checked -/

/-- With a commit pending the write is lost. -/
theorem strCommit_pending (hpending : s.get (F.STR_STATUS_PENDING st) = 1) (h : ∀ c ∈ s.pending, c ≠ .streamConfigApply st) :
    ∃ t, exec (.strCommit st w v) s = .next t ∧
      t.get (F.STR_STATUS_WRITE_LOST st) = 1 ∧
      t.get (F.STR_STATUS_PENDING st) = 1 ∧
      t.get (F.STR_STATUS_RESULT st) = s.get (F.STR_STATUS_RESULT st) ∧
      t.units = s.units ∧
      (∀ a, ¬ (a = (F.STR_STATUS_RESULT st).addr ∨ a = F.IMG_VOLATILE_WRITES_COUNT.addr) → t.rd a = s.rd a) ∧
      t.force = s.force ∧
      t.flash = s.flash := by
  obtain ⟨u, hu, hkept, hexec⟩ := exec_strCommit (w := w) hst hhas hbit hcount (.inr h)
  have hresult : u.get (F.STR_STATUS_RESULT st) = s.get (F.STR_STATUS_RESULT st) :=
    hu.behindCount.getEntry hst (o := 8) (by decide) rfl
  rw [run_judge_pending (hkept.trans hpending), writeLost] at hexec
  refine ⟨_, hexec, get_lost, ?_, ?_, hu.units, fun a ha => ?_, hu.force, hu.flash⟩
  · rw [get_lost_pending, hkept, hpending]
  · rw [get_lost_result, hresult]
  · rw [rd_lost (not_or.mp ha).1, hu.rd a (not_or.mp ha).2]

variable (hpending : s.get (F.STR_STATUS_PENDING st) = 0)
include hpending

/-- Another tenant's commit gets RESULT 5. -/
theorem strCommit_denied (hw : w ≠ 0) (howner : w ≠ s.streamOwner st) :
    ∃ t, exec (.strCommit st w v) s = .next t ∧
      t.get (F.STR_STATUS_RESULT st) = 5 ∧
      t.get (F.STR_STATUS_PENDING st) = 0 ∧
      t.units = s.units ∧
      (∀ a, ¬ (a = (F.STR_STATUS_RESULT st).addr ∨ a = F.IMG_VOLATILE_WRITES_COUNT.addr) → t.rd a = s.rd a) ∧
      t.force = s.force ∧
      t.flash = s.flash := by
  obtain ⟨u, hu, hkept, hexec⟩ := exec_strCommit (w := w) hst hhas hbit hcount (.inl hpending)
  rw [run_judge_denied (hkept.trans hpending) hw (by rwa [hu.streamOwner])] at hexec
  refine ⟨_, hexec, get_put_result (by decide), ?_, hu.units, fun a ha => ?_, hu.force, hu.flash⟩
  · rw [get_put_result_pending, hkept, hpending]
  · rw [rd_put_other _ _ _ (not_or.mp ha).1, hu.rd a (not_or.mp ha).2]

variable (hw : w = 0 ∨ w = s.streamOwner st)
include hw

/-- During a reset of the stream's tenant T0's write is lost, and the tenant's does nothing (R513). -/
theorem strCommit_resetting (hreset : s.resetting (s.streamOwner st) = true) :
    ∃ t, exec (.strCommit st w v) s = .next t ∧
      (t.get (F.STR_STATUS_WRITE_LOST st) = if w = 0 then 1 else s.get (F.STR_STATUS_WRITE_LOST st)) ∧
      t.get (F.STR_STATUS_RESULT st) = s.get (F.STR_STATUS_RESULT st) ∧
      t.units = s.units ∧
      (∀ a, ¬ (a = (F.STR_STATUS_RESULT st).addr ∨ a = F.IMG_VOLATILE_WRITES_COUNT.addr) → t.rd a = s.rd a) ∧
      t.force = s.force ∧
      t.flash = s.flash := by
  obtain ⟨u, hu, hkept, hexec⟩ := exec_strCommit (w := w) hst hhas hbit hcount (.inl hpending)
  have hstatus : ∀ {f : Field}, f.addr = 0x02800000 + 8 + 0x80 * st → u.get f = s.get f :=
    hu.behindCount.getEntry hst (by decide)
  rw [run_judge_resetting (hkept.trans hpending) (by rwa [hu.streamOwner])
    (by rwa [hu.streamOwner, hu.behindCount.resetting (streamOwner_lt s st)])] at hexec
  by_cases h0 : w = 0
  · rw [decide_eq_true h0, run_when_true, writeLost] at hexec
    refine ⟨_, hexec, ?_, ?_, hu.units, fun a ha => ?_, hu.force, hu.flash⟩
    · rw [if_pos h0, get_lost]
    · rw [get_lost_result, hstatus rfl]
    · rw [rd_lost (not_or.mp ha).1, hu.rd a (not_or.mp ha).2]
  · rw [decide_eq_false h0, run_when_false] at hexec
    exact ⟨u, hexec, by rw [if_neg h0, hstatus rfl], hstatus rfl, hu.units, fun a ha => hu.rd a (not_or.mp ha).2, hu.force, hu.flash⟩

/-! ## Commits that are checked -/

variable (hreset : s.resetting (s.streamOwner st) = false)
include hreset

/-- A faulty entry gets its RESULT, and Caldera's. -/
theorem strCommit_faulty (hfault : s.streamResult st ≠ 0) :
    ∃ t, exec (.strCommit st w v) s = .next t ∧
      t.get (F.STR_STATUS_RESULT st) = s.streamResult st ∧
      t.get (F.CAL_STREAM_STATUS_RESULT st) = s.calResult st ∧
      t.get (F.STR_STATUS_PENDING st) = 0 ∧
      t.units = s.units ∧
      (∀ a, ¬ (a = (F.STR_STATUS_RESULT st).addr ∨ a = (F.CAL_STREAM_STATUS_RESULT st).addr ∨
        a = F.IMG_VOLATILE_WRITES_COUNT.addr) → t.rd a = s.rd a) ∧
      t.force = s.force ∧
      t.flash = s.flash := by
  obtain ⟨u, hu, hkept, hexec⟩ := exec_strCommit (w := w) hst hhas hbit hcount (.inl hpending)
  have hh := hu.behindCount
  rw [run_judge_faulty (hkept.trans hpending) (by rwa [hu.streamOwner])
    (by rwa [hu.streamOwner, hh.resetting (streamOwner_lt s st)]) (by rwa [hh.streamResult hst]), hh.streamResult hst,
    hh.calResult hst] at hexec
  refine ⟨_, hexec, get_put_result (streamResult_lt s st), ?_, ?_, hu.units, fun a ha => ?_, hu.force, hu.flash⟩
  · rw [get_put_result_calResult hst, get_put_calResult (calResult_lt s st)]
  · rw [get_put_result_pending, get_put_calResult_pending hst, hkept, hpending]
  · obtain ⟨hstatus, hcal, hcounter⟩ := by simpa only [not_or] using ha
    rw [rd_put_other _ _ _ hstatus, rd_put_other _ _ _ hcal, hu.rd a hcounter]

variable (hgood : s.streamResult st = 0)
include hgood

theorem exec_strCommit_accepted :
    ∃ u, Counted s u ∧ exec (.strCommit st w v) s = .next ((acceptCommit st).run (noted st u)) := by
  obtain ⟨u, hu, hkept, hexec⟩ := exec_strCommit (w := w) hst hhas hbit hcount (.inl hpending)
  exact ⟨u, hu, by rw [hexec, run_judge_good hst hu.behindCount (hkept.trans hpending) hw hreset hgood]⟩

/-- An entry that enables, disables or keeps an enabled stream waits for its T_APPLY. -/
theorem strCommit_scheduled (henabled : s.liveIs (F.STR_CFG_ENABLED st) = true ∨ s.is (F.STR_CFG_ENABLED st) = true) :
    ∃ t, exec (.strCommit st w v) s = .next t ∧
      t.get (F.CAL_STREAM_APPLY_T_APPLY st) = s.applyTime st ∧
      t.get (F.STR_STATUS_PENDING st) = 1 ∧
      t.get (F.STR_STATUS_RESULT st) = 0 ∧
      t.get (F.STR_CTRL_COMMIT st) = 1 ∧
      t.get (F.CAL_STREAM_STATUS_RESULT st) = 0 ∧
      (s.is (F.STR_CFG_ENABLED st) = false → (s.cal st).lives ≠ [] →
        (t.cal st).lives.getLast?.bind (·.stop) = some (s.applyTime st)) ∧
      (s.liveIs (F.STR_CFG_ENABLED st) = false →
        (t.cal st).lives.getLast?.map (fun l => (l.start, l.domain, l.stop)) =
            some (s.applyTime st, s.get (F.STR_CFG_DOMAIN st), none) ∧
          ((s.cal st).closing = none → t.get (F.CAL_STREAM_OLDEST_START st) = s.applyTime st)) ∧
      (s.liveIs (F.STR_CFG_ENABLED st) = true → s.is (F.STR_CFG_ENABLED st) = true → t.units = s.units) ∧
      (∀ a, ¬ (inStreamBlocks st a ∨ a = F.IMG_VOLATILE_WRITES_COUNT.addr) → t.rd a = s.rd a) ∧
      t.force = s.force ∧
      t.flash = s.flash := by
  obtain ⟨u, hu, hexec⟩ := exec_strCommit_accepted hst hhas hbit hcount hpending hw hreset hgood
  have hx := hu.behindCount.noted st
  have hlive := hx.liveIs (F.STR_CFG_ENABLED st)
  have hstaged := enabled_noted hst hu.behindCount
  have hdomain : (noted st u).get (F.STR_CFG_DOMAIN st) = s.get (F.STR_CFG_DOMAIN st) :=
    hx.get (not_ofNoted_entry hst (o := 0) (by decide))
  have htime : (noted st u).applyTime st = s.applyTime st :=
    hx.applyTime (not_ofNoted_entry hst (o := 0) (by decide)) (not_ofNoted_caldera hst)
  have hcal := hx.cal st
  obtain ⟨happly, hwaits, hresult, hcommit, hcalResult, -, hrd, hforce, hflash⟩ :=
    acceptCommit_scheduled (x := noted st u) hst (by rwa [hlive, hstaged])
  rw [htime] at happly
  refine ⟨_, hexec, happly, hwaits, hresult, hcommit, hcalResult.trans (get_noted_result st), fun hnow hlives => ?_,
    fun hwas => ?_, fun hwas hnow => ?_, fun a ha => ?_, hforce.trans hx.force, hflash.trans hx.flash⟩
  · rw [← htime]
    exact acceptCommit_stop (hlive.trans (henabled.resolve_right (by simp [hnow]))) (hstaged.trans hnow) (by rwa [hcal])
  · rw [← htime, ← hdomain, ← hcal]
    exact acceptCommit_start hst (hlive.trans hwas) (hstaged.trans (henabled.resolve_left (by simp [hwas])))
  · exact (acceptCommit_kept (hlive.trans hwas) (hstaged.trans hnow)).trans hu.units
  · have hresultApart : a ≠ (F.CAL_STREAM_STATUS_RESULT st).addr := fun e => ha (.inl (.inr (.inr (.inl (by
      simp only [e, F.CAL_STREAM_STATUS_RESULT]; omega)))))
    rw [hrd a fun h => ha (.inl h), rd_noted hresultApart, hu.rd a fun h => ha (.inr h)]

/-- A disabled entry of an idle stream is in force at once (R190, R577). -/
theorem strCommit_idle (hwas : s.liveIs (F.STR_CFG_ENABLED st) = false) (hnow : s.is (F.STR_CFG_ENABLED st) = false)
    (hidle : s.streamIdle st = true) :
    ∃ t, exec (.strCommit st w v) s = .next t ∧
      t.get (F.STR_STATUS_PENDING st) = 0 ∧
      t.get (F.STR_STATUS_RESULT st) = 0 ∧
      t.units = s.units ∧
      (∀ a ∈ streamRegs st, t.rdForce a = s.rd a) ∧
      (∀ a, a ∉ streamRegs st → t.rdForce a = s.rdForce a) ∧
      (∀ a, ¬ (a = (F.STR_STATUS_RESULT st).addr ∨ a = (F.CAL_STREAM_STATUS_RESULT st).addr ∨ a = (F.STR_CTRL_COMMIT st).addr ∨
        a = F.IMG_VOLATILE_WRITES_COUNT.addr) → t.rd a = s.rd a) ∧
      t.flash = s.flash := by
  obtain ⟨u, hu, hexec⟩ := exec_strCommit_accepted hst hhas hbit hcount hpending hw hreset hgood
  have hx := hu.behindCount.noted st
  have hstaged := enabled_noted hst hu.behindCount
  rw [run_acceptCommit_disabled ((hx.liveIs _).trans hwas) (hstaged.trans hnow), if_pos ((hx.streamIdle st).trans hidle),
    run_seq] at hexec
  have happlied := applyStream_applied st (noted st u)
  generalize (applyStream st).run (noted st u) = y at hexec happlied
  obtain ⟨hnone, -, hinForce, hforceKept, hrd, hunits, hflash⟩ := happlied
  have hforce : ∀ a, ((put (F.STR_STATUS_RESULT st) 0).run y).rdForce a = y.rdForce a := fun a => by
    rw [State.rdForce, run_put_force]; rfl
  refine ⟨_, hexec, ?_, get_put_result (by decide), ?_,
    fun a ha => (hforce a).trans ((hinForce a ha).trans (hx.rd a (not_ofNoted_streamRegs hst ha))),
    fun a ha => (hforce a).trans ((hforceKept a ha).trans ?_), fun a ha => ?_, ?_⟩
  · rw [get_put_result_pending, hnone]
  · rw [run_put_units, hunits, noted, run_put_units, hu.units]
  · rw [State.rdForce, hx.force]; rfl
  · obtain ⟨hstatus, hcal, hcommit, hcounter⟩ := by simpa only [not_or] using ha
    rw [rd_put_other _ _ _ hstatus, hrd a (not_or.mpr ⟨hstatus, hcommit⟩), rd_noted hcal, hu.rd a hcounter]
  · rw [run_put_flash, hflash, hx.flash]

end

/-- While the stream still emits, a disabled entry waits for the end of its chain (R190). -/
theorem strCommit_deferred {s : State} {st w : Nat} {v : Word} (hst : st < 8192) (hhas : s.has 0 = true) (hbit : getBits v 0 0 = 1)
    (hpending : s.get (F.STR_STATUS_PENDING st) = 0) (hw : w = 0 ∨ w = s.streamOwner st)
    (hreset : s.resetting (s.streamOwner st) = false) (hgood : s.streamResult st = 0)
    (hwas : s.liveIs (F.STR_CFG_ENABLED st) = false) (hnow : s.is (F.STR_CFG_ENABLED st) = false)
    (hbusy : s.streamIdle st = false) :
    ∃ t, exec (.strCommit st w v) s = .next t ∧
      t.get (F.STR_STATUS_PENDING st) = 1 ∧
      (t.cal st).deferred = true ∧
      (∀ a, ¬ (inStreamBlocks st a ∨ a = F.IMG_VOLATILE_WRITES_COUNT.addr ∨ 0x08000000 ≤ a) → t.rd a = s.rd a) ∧
      t.force = s.force ∧
      t.flash = s.flash := by
  obtain ⟨u, hu, hkept, hexec⟩ := exec_strCommit_tallied (w := w) hst hhas hbit hpending
  have hx := hu.noted st
  have hstaged := enabled_noted hst hu
  rw [run_judge_good hst hu hkept hw hreset hgood, run_acceptCommit_disabled ((hx.liveIs _).trans hwas) (hstaged.trans hnow),
    if_neg (by simp [hx.streamIdle, hbusy]), run_all_cons, run_all_cons, run_all_cons, run_all_nil] at hexec
  refine ⟨_, hexec, ?_, by rw [cal_onCal], fun a ha => ?_, ?_, ?_⟩
  · rw [get_onCal, get_put_other _ _ _ _ (Nat.zero_le 0) (show 31 < 64 by decide) (.inl (by
      simp [F.STR_CTRL_COMMIT, F.STR_STATUS_PENDING]))]
    exact get_put_same _ _ _ (Nat.le_refl 31) (show 31 < 64 by decide)
  · obtain ⟨hstream, hrest⟩ := not_or.mp ha
    have hpendingApart : a ≠ (F.STR_STATUS_PENDING st).addr := fun e => hstream (.inl (by simp only [e, F.STR_STATUS_PENDING]; omega))
    have hcommitApart : a ≠ (F.STR_CTRL_COMMIT st).addr := fun e => hstream (.inl (by simp only [e, F.STR_CTRL_COMMIT]; omega))
    have hkept : ¬ ofNoted st a := by
      simp only [ofNoted, ofWriteCount, inNotify, inStreamBlocks, F.IMG_VOLATILE_WRITES_COUNT, F.CAL_STREAM_STATUS_RESULT] at *
      omega
    rw [rd_onCal, rd_put_other _ _ _ hcommitApart, rd_put_other _ _ _ hpendingApart, hx.rd a hkept]
  · rw [run_onCal_force, run_put_force, run_put_force, hx.force]
  · rw [run_onCal_flash, run_put_flash, run_put_flash, hx.flash]

/-! ## The statement -/

/-- A write without the bit, or of a part without a filter, is only counted. -/
theorem strCommit_none {s : State} {st w : Nat} {v : Word} (h : getBits v 0 0 = 0 ∨ s.has 0 = false)
    (hcount : s.get F.IMG_VOLATILE_WRITES_COUNT + 1 < 2 ^ 47) :
    ∃ t, exec (.strCommit st w v) s = .next t ∧
      t.units = s.units ∧ t.keep = s.keep ∧ t.force = s.force ∧ t.out = s.out ∧
      (∀ a, ¬ (a = F.IMG_VOLATILE_WRITES_COUNT.addr) → t.rd a = s.rd a) ∧ t.flash = s.flash := by
  obtain ⟨t, ht, hrun⟩ := run_filterRow_none w (F.STR_CTRL_COMMIT st) (a := strCommitAct st w v) (s := s)
    (h.imp_left fun hbit u => by rw [strCommitAct, run_look]; dsimp only; rw [if_pos hbit, run_skip]) hcount
  exact ⟨t, congrArg Host.Outcome.next hrun, ht.units, ht.keep, ht.force, ht.out, ht.rd, ht.flash⟩

/-- Settles O15: a COMMIT by each way its judgement can go, then STREAM_CONFIG_APPLY for a staged entry, for a tenant reset's
disable, and without a boundary. -/
theorem streamCommits : Obligations.StreamCommits := by
  unfold Obligations.StreamCommits
  refine ⟨fun s st w v hst hhas hbit hpending hnone hcount => strCommit_pending hst hhas hbit hcount hpending hnone,
    fun s st w v hst hhas hbit hpending hw howner hcount => strCommit_denied hst hhas hbit hcount hpending hw howner,
    fun s st w v hst hhas hbit hpending hw hreset hcount => strCommit_resetting hst hhas hbit hcount hpending hw hreset,
    fun s st w v hst hhas hbit hpending hw hreset hfault hcount =>
      strCommit_faulty hst hhas hbit hcount hpending hw hreset hfault,
    fun s st w v hst hhas hbit hpending hw hreset hgood henabled hcount =>
      strCommit_scheduled hst hhas hbit hcount hpending hw hreset hgood henabled,
    fun s st w v hst hhas hbit hpending hw hreset hgood hwas hnow hidle hcount =>
      strCommit_idle hst hhas hbit hcount hpending hw hreset hgood hwas hnow hidle,
    fun s st w v hst hhas hbit hpending hw hreset hgood hwas hnow hbusy =>
      strCommit_deferred hst hhas hbit hpending hw hreset hgood hwas hnow hbusy,
    fun s st w v h hcount => strCommit_none h hcount,
    fun s st hst hpending hdeferred hreset htime => streamConfigApply_staged hst hpending hdeferred hreset htime,
    fun s st hst hpending hdeferred hreset htime => streamConfigApply_reset hst hpending hdeferred hreset htime,
    fun s st h => streamConfigApply_none h⟩

end Sys2Proof.Machine
end
